-- ==== Sys2Proof/Word.lean ====
section
/-! DEFINITION. The word types of the AK20 and their plainest arithmetic: 64-bit registers (R2), bytes, flits of
64 bytes, and reading a range of bits [hi:lo] of a number as the manual writes bit ranges. -/

namespace Sys2Proof

/-- R2: every register is 64 bits wide. -/
abbrev Word := BitVec 64

/-- One byte of a memory. -/
abbrev Byte := BitVec 8

/-- Bits [hi:lo] of a number; bit 0 is the least significant. -/
def bitsOf (n hi lo : Nat) : Nat := (n / 2 ^ lo) % 2 ^ (hi + 1 - lo)

/-- Bit `b` of a number. -/
def bitOf (n b : Nat) : Bool := n.testBit b

/-- A number with bits [hi:lo] replaced by `v` modulo the field's width. -/
def putBits (n hi lo v : Nat) : Nat :=
  n % 2 ^ lo + (v % 2 ^ (hi + 1 - lo)) * 2 ^ lo + (n / 2 ^ (hi + 1)) * 2 ^ (hi + 1)

/-- A number of at most `max`. -/
def satAt (max n : Nat) : Nat := if max < n then max else n

/-- The value of the low `w` bits of a number as two's complement. -/
def sext (w n : Nat) : Int :=
  if n % 2 ^ w < 2 ^ (w - 1) then (n % 2 ^ w : Nat) else ((n % 2 ^ w : Nat) : Int) - (2 ^ w : Nat)

/-- An integer modulo 2^w, as a number. -/
def wrapInt (w : Nat) (z : Int) : Nat := (z % (2 ^ w : Nat)).toNat

/-- The first `n` numbers that satisfy `p`, searched upwards from 0: the lowest one below `n`. -/
def lowestBelow (p : Nat → Bool) (n : Nat) : Option Nat := (List.range n).find? p

/-- The number of bits set among the low `w` bits. -/
def popCount (w n : Nat) : Nat := ((List.range w).filter (fun b => n.testBit b)).length

end Sys2Proof
end

