-- ==== Sys2Proof/Syntax.lean ====
section
/-! DEFINITION. The commands that the model takes: one constructor of `Instr` for each row of the opcode table, with
the row's operands. A row that is an instruction of a core carries the dispatching core and thread: the instruction
word itself is fetched from the core's instruction memory, which is State. A row that is an event carries what the
event brings with it (a packet, a reading, an outcome). -/

namespace Sys2Proof

/-- What a memory's check bits find in a read: nothing, a corrected error, or an uncorrectable one. -/
inductive Ecc where
  | ok | corrected | uncorrectable
  deriving DecidableEq, Repr, Inhabited

/-- The dispatch of a thread's next instruction (R96): the logical core 16n + 4l + c, the thread, what the check bits of the
fetch and of the store words it reads find (R103), and the threads whose next instruction has not been fetched or whose
earliest next dispatch has not been reached. -/
structure Issue where
  core : Fin 128
  thread : Fin 16
  fetch : Ecc := .ok
  data : Ecc := .ok
  late : List (Fin 16) := []
  deriving DecidableEq, Repr

/-- Where a WAIT waits: in its thread, or at the head of a queue (R109). -/
inductive WaitPlace where
  | thread (t : Fin 16)
  | queue (q : Fin 8)
  deriving DecidableEq, Repr

/-- A packet (R294): the fields of its header flit, and its payload bytes. -/
structure Packet where
  dst : Nat
  src : Nat
  partition : Nat := 0
  vc : Nat := 0
  type : Nat
  last : Bool := false
  ce : Bool := false
  route : Nat := 0
  transit : Nat := 0
  length : Nat := 0
  hops : Nat := 0
  esc : Bool := false
  dateline : Bool := false
  origVc : Nat := 0
  ece : Bool := false
  wrap : Nat := 7
  talign : Bool := false
  attempt : Nat := 0
  timeoutUs : Nat := 0
  addr : Nat := 0
  key : Nat := 0
  offset : Nat := 0
  msg : Nat := 0
  total : Nat := 0
  dseq : Nat := 0
  issueTime : Nat := 0
  core : Nat := 0
  epoch : Nat := 0
  aop : Nat := 0
  signed : Bool := false
  w64 : Bool := false
  ret : Bool := false
  code : Nat := 0
  /-- A COLL packet's redefined words 2 and 7 (R420); zero for the other types. -/
  word2 : Nat := 0
  word7 : Nat := 0
  /-- The cache hint of R217 and its use count: R294's layout names no field for them, and they go with the packet. -/
  hint : Nat := 0
  useCount : Nat := 0
  /-- The device whose multicast tree a replicated COLL packet travels (R397, R411): no field is laid out for it. -/
  origin : Nat := 0
  payload : List Byte := []
  deriving DecidableEq, Repr

/-- A Perdun message (R480): the fields of its header flit, and its payload bytes. -/
structure HlkMsg where
  cls : Nat
  op : Nat
  length : Nat := 0
  tag : Nat := 0
  code : Nat := 0
  addr : Nat := 0
  key : Nat := 0
  value : Nat := 0
  lseq : Nat := 0
  lack : Nat := 0
  /-- The reserved bits of the header, which must be zero (R481). -/
  reserved : Nat := 0
  payload : List Byte := []
  deriving DecidableEq, Repr

/-- A mod-7 residue check of a collective addition that fails in a step (R406): the stage of the algorithm and the element
that is added. With `again` the repeat fails as well (R407). Additions that no entry names pass their check. -/
structure CollCheck where
  stage : Nat
  elem : Nat
  again : Bool := false
  deriving DecidableEq, Repr

/-- What the check bits of a 64-byte unit find in a step, when the unit is read from HBM (R223) or its line is read in
the memory-side cache (R226). Units that no entry names read without error. -/
structure MemErr where
  unit : Nat
  dram : Ecc := .ok
  msc : Ecc := .ok
  deriving DecidableEq, Repr

/-- R296: the packet types. -/
def PT.read : Nat := 0x01
def PT.readData : Nat := 0x02
def PT.write : Nat := 0x03
def PT.writeAck : Nat := 0x04
def PT.atomic : Nat := 0x05
def PT.atomicReply : Nat := 0x06
def PT.release : Nat := 0x07
def PT.releaseAck : Nat := 0x08
def PT.busy : Nat := 0x09
def PT.refusal : Nat := 0x0A
def PT.dmaRead : Nat := 0x0B
def PT.dmaData : Nat := 0x0C
def PT.dmaWrite : Nat := 0x0D
def PT.dmaAck : Nat := 0x0E
def PT.counter : Nat := 0x0F
def PT.coll : Nat := 0x10
def PT.discover : Nat := 0x18
def PT.notice : Nat := 0x19
def PT.query : Nat := 0x1A
def PT.queryAnswer : Nat := 0x1B
def PT.transitSetup : Nat := 0x1C
def PT.transitReply : Nat := 0x1D
def PT.transitTear : Nat := 0x1E
def PT.transitBroken : Nat := 0x1F

/-! ### Optical ports (chapter 09) -/

/-- What the Collimator records for a channel (R355 to R357): the laser's bias in 0.01 mA and its tap power in µW, the tap
target in 0.01 dBm, and the losses of stages 1, 2 and 6 in 0.01 dB. -/
structure ChanCal where
  bias : Nat
  power : Nat
  target : Int
  loss1 : Int := 0
  loss2 : Int := 0
  loss6 : Int := 0
  deriving DecidableEq, Repr

/-- What a calibration of a port finds: its channels 0-17, the losses of stages 3 and 4 and of the receive coupler, and
the spare lasers and receive channels that failed (R359). -/
structure PortCal where
  chans : List ChanCal
  loss3 : Int := 0
  loss4 : Int := 0
  coupler : Int := 0
  badLasers : List Nat := []
  badReceivers : List Nat := []
  deriving DecidableEq, Repr

/-- The monitor readings of a port (R354), in 0.01 dBm: multiplexer output, edge coupler, demultiplexer input, and for each
channel the laser tap, the modulator output and the photodiode. -/
structure PortMon where
  port : Nat
  muxOut : Int
  edgeOut : Int
  demuxIn : Int
  chans : List (Int × Int × Int)
  deriving DecidableEq, Repr

/-- Swap commands of the group control word (R346). -/
inductive SwapCmd where
  | mirror | switch | abort
  deriving DecidableEq, Repr

/-- What a port sends beside flits (R346): replay requests, resends, swap commands with the map epoch they go with, and port
messages: confirmations of a switch and of a qualified mirror (R364), power reports and Seeing summaries. -/
inductive OptMsg where
  | replay (ack : Nat)
  | resend (gseq : Nat)
  | cmd (c : SwapCmd) (lane ch epoch : Nat)
  | confirm (lane ch : Nat)
  | qualified (lane ch : Nat)
  | power (dbm : Nat)
  | degraded (lane : Nat)
  deriving DecidableEq, Repr

/-- A group as its codewords arrive (R344, R345): the 272 symbols of each of the sixteen, in the order of the lanes, and after
them the copy on the channel of a mirror command (R364), where one goes on. -/
structure OptRx where
  words : List (List Nat)
  deriving DecidableEq, Repr

/-- What an occultation names (R470, R594, R614, R621): a logical core, a cluster island, a die numbered as DLK_DIE_k_INV,
or the device. -/
inductive OccUnit where
  | core (c : Fin 128)
  | island (n : Fin 32)
  | die (k : Fin 20)
  | device
  deriving DecidableEq, Repr

/-! ### Start-up and the flash (chapters 14 and 15) -/

/-- A key pair as its two public keys (chapter 15): the RSA modulus and exponent and the SLH-DSA key, each as the number that
its bytes spell, the first byte highest. -/
structure KeyPair where
  rsaN : Nat
  rsaE : Nat := 65537
  slhPk : Nat
  deriving DecidableEq, Repr

/-- R553: what the M-die derives from the seed S: the SLH-DSA SK.seed and SK.prf, PK.seed, and the seed of the HMAC_DRBG from
which the RSA primes are made. -/
structure IdSecret where
  skSeed : List Byte
  skPrf : List Byte
  pkSeed : List Byte
  rsaSeed : List Byte
  deriving DecidableEq, Repr

/-- A signature block (R549), with what the M-die's evaluation of its two signatures finds against the pair of KEY_ID: the
manual names the two schemes and does not restate them. Bytes of SLH_SIG that the list does not reach are zero; `tail` is the
number in bytes 16,664-16,703. -/
structure SigBlock where
  magic : Nat := 0x53474953
  format : Nat := 1
  kind : Nat
  keyId : Nat
  rsaSig : Nat := 0
  slhSig : List Byte := []
  tail : Nat := 0
  rsaOk : Bool := true
  slhOk : Bool := true
  deriving DecidableEq, Repr

/-- A certificate (R548): its body's fields and the issuer's signature block; `rest` is the number in bytes 5-7. -/
structure Cert where
  magic : Nat := 0x54524543
  role : Nat
  rest : Nat := 0
  pair : KeyPair
  issuer : Nat
  serial : Nat := 0
  seq : Nat := 0
  sig : SigBlock
  deriving DecidableEq, Repr

/-- A floor record (R558): its body's fields and its signature block; `rest` and `tail` are the numbers in bytes 5-7 and
32-63. -/
structure FloorRec where
  magic : Nat := 0x524F4C46
  kind : Nat
  rest : Nat := 0
  serial : Nat := 0
  floor : Nat
  tail : Nat := 0
  sig : SigBlock
  deriving DecidableEq, Repr

/-- The security records in the first MiB of the module flash (R556): the certificates of roles 0-5, the identity certificate,
the PUF helper data, the three owner slots, the two halves of the floor log, oldest record first, and which half is active. -/
structure SecRecords where
  certs : List Cert := []
  identity : Option Cert := none
  helper : List Byte := []
  owners : List (Option Cert) := [none, none, none]
  log0 : List FloorRec := []
  log1 : List FloorRec := []
  active1 : Bool := false
  deriving DecidableEq, Repr

/-- What the M-die finds in a firmware slot (R551): the header's fields, the LENGTH bytes of code, the signature block, and the
floor record at FLOOR_OFFSET (R560); `rest` is the number in bytes 28-127. -/
structure FwImage where
  magic : Nat := 0x4D525746
  format : Nat := 1
  version : Nat
  svn : Nat
  hoFormat : Nat
  hoMin : Nat
  hoMax : Nat
  floorOffset : Nat := 0
  rest : Nat := 0
  code : List Byte := []
  floor : Option FloorRec := none
  sig : SigBlock
  deriving DecidableEq, Repr

/-- What the M-die finds in an Almanac slot (R521, R522): MAGIC, FORMAT, FLAGS, SEQUENCE and SIG_OFFSET, the number in bytes
24-63, the entries as OFFSET and VALUE, and the signature block. -/
structure Almanac where
  magic : Nat := 0x4E4D4C41
  format : Nat := 1
  flags : Nat := 0
  sequence : Nat
  sigOffset : Nat
  rest : Nat := 0
  entries : List (Nat × Word)
  sig : SigBlock
  deriving DecidableEq, Repr

/-- What the M-die reads in the flash in the Firmware step (R523, R538, R557, R559): the images of slots A and B and the
Almanacs of slots A and B (none: nothing that parses), and the security records (none: as this device last knew them). -/
structure FlashRead where
  imageA : Option FwImage := none
  imageB : Option FwImage := none
  almanacA : Option Almanac := none
  almanacB : Option Almanac := none
  records : Option SecRecords := none
  deriving DecidableEq, Repr

/-- An access of the Eyepiece (R564): to a register by its register-space offset, or to memory by global address, in
8 bytes, with the key of a region. -/
inductive EyeAccess where
  | readReg (offset : Nat)
  | writeReg (offset : Nat) (value : Word)
  | readMem (addr key : Nat)
  | writeMem (addr key : Nat) (value : Word)
  deriving DecidableEq, Repr

/-- The commands, in the opcode table's order. -/
inductive Instr where
  /-- PRSNT_N mates and the AK20 starts timing 50 ms of continuous contact before it closes the input switch (R23). -/
  | prsntNMate
  /-- After 50 ms of continuous mating, the input switch closes and charges the internal capacitance at no more than 20 A (R23). -/
  | inputSwitchClose
  /-- The input switch is fully on and the auxiliary path comes into service (R658). -/
  | auxPathInService (strap : Fin 8) (vin : Fin 65536)
  /-- PRSNT_N breaks, the input switch opens within 5 µs and the input-loss path runs from the stored charge (R24). -/
  | prsntNBreak
  /-- The voltage behind the switch falls below 36 V and the auxiliary path leaves service (R658). -/
  | auxPathOff
  /-- PGOOD_IN rises and a cold start begins (R509). -/
  | pgoodInRise (strap : Fin 8) (vin : Fin 65536)
  /-- The strap delay ends, the Guide Star is treated as stable and the Rails step begins (R31). -/
  | startDelayExpiry (khz : Fin 131072)
  /-- PGOOD_IN falls while stage one is on; the journal is flushed and stage one is turned off within 10 ms (R35). -/
  | pgoodInFall
  /-- The 100 ms hold after a shutdown ends and the AK20 acts on a PGOOD_IN that rose during the shutdown (R36). -/
  | pgoodHoldExpiry
  /-- A stage-two or stage-three rail enters or leaves regulation, and PGOOD_OUT is released or pulled low (R37). -/
  | railRegulationChange (rail : Nat) (ok : Bool)
  /-- A stage-one converter fails; the cap is limited, or the input-loss path runs when fewer than two converters remain (R25). -/
  | converterFail
  /-- An I3C private write with command 0x01 requests a register read (R38). -/
  | i3cReadRequest (bytes : List Byte)
  /-- An I3C private write with command 0x02 writes a register and prepares a write status (R4). -/
  | i3cWrite (bytes : List Byte)
  /-- An I3C private read returns the read response or the write status (R38). -/
  | i3cPrivateRead (n : Nat)
  /-- The BYPASS instruction is selected on the test access port (R40). -/
  | jtagBypass
  /-- The SAMPLE/PRELOAD instruction captures or preloads the boundary-scan register (R40). -/
  | jtagSamplePreload (pins preload : List Bool)
  /-- EXTEST drives package pins, and is refused and logged outside P3, Off and RECOVERY (R42). -/
  | jtagExtest (pins : List Bool := []) (scan : Option (List Bool) := none)
  /-- The IDCODE instruction returns the device identification code (R40). -/
  | jtagIdcode
  /-- An Eyepiece register or memory access is performed as the debug state permits (R564). -/
  | eyepiece (a : EyeAccess) (errs : List MemErr)
  /-- INTSCAN reaches the M-die scan chains, in VENDOR only (R564). -/
  | intscan (n : Nat)
  /-- A write to a register that has no row of its own; after start it is dropped unless the register is marked runtime (R4). -/
  | registerWrite (source : Fin 5) (offset : Nat) (value : Word)
  /-- A LOADS loads a stationary tile and stalls row issue for 128 or 256 cycles (R62). -/
  | loads (i : Issue)
  /-- The stall of a LOADS ends and a waiting STREAM may issue (R65). -/
  | loadsStallEnd (core : Fin 128) (eng : Fin 2) (extra : Nat := 0)
  /-- A STREAM starts on its engine, with checks of tile, format and row count (R54). -/
  | stream (i : Issue)
  /-- The next row of a STREAM issues into the array once it is in its source and no wait holds it (R58). -/
  | streamRowIssue (core : Fin 128) (eng : Fin 2) (parity : Option (Fin 2)) (ecc : Ecc)
  /-- The output column of a streamed row is written into its accumulator slot (R58). -/
  | streamRowComplete (core : Fin 128) (eng : Fin 2) (ecc : Ecc)
  /-- An EMIT starts reading slots and writing output rows to a store (R57). -/
  | emit (i : Issue)
  /-- An EMIT reads a slot once every earlier row that targets it has been written (R69). -/
  | emitSlotRead (core : Fin 128) (eng : Fin 2) (ecc : Ecc)
  /-- Firmware requests a spare-core swap through CLU_SWAP_CTRL REQ (R82). -/
  | cluSwapReq (cluster : Fin 32) (mode : Fin 4) (lcore : Fin 4)
  /-- CANCEL abandons a COPY swap that has not started its copy (R90). -/
  | cluSwapCancel (cluster : Fin 32)
  /-- The spare core finishes its 20 µs power-up and start-up check, or fails it (R87). -/
  | sparePowerUpDone (cluster : Fin 32) (pass : Bool)
  /-- The copy of instruction memory, store, state and counters ends and remap begins (R84). -/
  | swapCopyDone (cluster : Fin 32)
  /-- Remap completes, held accesses are applied and the old core is retired (R85). -/
  | swapRemapDone (cluster : Fin 32) (durationUs : Nat)
  /-- A NOP is dispatched and has no effect (R96). -/
  | nop (i : Issue)
  /-- A HALT instruction makes its thread HALTED at the next PC (R144). -/
  | halt (i : Issue)
  /-- A PAUSE parks its thread while a pre-emption request or a COPY swap is pending, and otherwise acts as a NOP (R130). -/
  | pause (i : Issue)
  /-- A SPAWN starts a HALTED thread at a given PC, or faults with CORE_THREAD_BUSY (R127). -/
  | spawn (i : Issue)
  /-- An unconditional branch (R96). -/
  | br (i : Issue)
  /-- A branch when T[TA] is zero (R96). -/
  | brz (i : Issue)
  /-- A branch when T[TA] is nonzero (R96). -/
  | brnz (i : Issue)
  /-- A branch when T[TA] < T[TB] as two's complement (R96). -/
  | brlt (i : Issue)
  /-- Loads an immediate into a T register (R127). -/
  | tli (i : Issue)
  /-- Adds two T registers and an immediate (R127). -/
  | tadd (i : Issue)
  /-- Multiplies a T register by an immediate (R127). -/
  | tmul (i : Issue)
  /-- ANDs a T register with an immediate (R127). -/
  | tand (i : Issue)
  /-- ORs a T register with an immediate (R127). -/
  | tor (i : Issue)
  /-- Shifts a T register left (R127). -/
  | tshl (i : Issue)
  /-- Shifts a T register right logically (R127). -/
  | tshr (i : Issue)
  /-- Loads 8 bytes from a store address into a T register (R650). -/
  | tld (i : Issue)
  /-- Stores a T register to a store address (R650). -/
  | tst (i : Issue)
  /-- Reads the Chronograph into a T register (R113). -/
  | rdtime (i : Issue)
  /-- Reads an own-core counter into a T register (R113). -/
  | rdcnt (i : Issue)
  /-- The vector add (R192). -/
  | vadd (i : Issue)
  /-- The vector subtract (R192). -/
  | vsub (i : Issue)
  /-- The vector multiply (R192). -/
  | vmul (i : Issue)
  /-- The fused vector multiply-add into D (R192). -/
  | vfma (i : Issue)
  /-- The lane-wise maximum (R195). -/
  | vmax (i : Issue)
  /-- The lane-wise minimum (R195). -/
  | vmin (i : Issue)
  /-- Multiplies A by the scalar from T[TS] (R192). -/
  | vscale (i : Issue)
  /-- Converts A from TA to TD (R189). -/
  | vcvt (i : Issue)
  /-- The exponential, correctly rounded (R194). -/
  | vexp (i : Issue)
  /-- The reciprocal, correctly rounded (R194). -/
  | vrecip (i : Issue)
  /-- The reciprocal square root, correctly rounded (R194). -/
  | vrsqrt (i : Issue)
  /-- SiLU computed in four rounded steps (R194). -/
  | vsilu (i : Issue)
  /-- SiLU of A multiplied by B (R194). -/
  | vgate (i : Issue)
  /-- Sums LEN vectors lane by lane in vector order (R193). -/
  | vrsum (i : Issue)
  /-- The lane-wise maximum over LEN vectors (R193). -/
  | vrmax (i : Issue)
  /-- Sums the lanes of each vector by a fixed pairwise tree (R193). -/
  | vlsum (i : Issue)
  /-- The maximum of the lanes of each vector by the same tree (R193). -/
  | vlmax (i : Issue)
  /-- Starts the attention stream unit on a descriptor chain and holds both engines (R146). -/
  | attn (i : Issue)
  /-- A DMA instruction enters its queue and runs its descriptor chain (R124). -/
  | dma (i : Issue)
  /-- The DMA engine reads and checks the next descriptor of its chain (R653). -/
  | dmaDescriptorStart (core : Fin 128) (cluster : Bool) (seq : Nat) (ecc : Ecc) (src : Ecc := .ok)
  /-- A descriptor has delivered every byte and the chain moves on (R124). -/
  | dmaDescriptorDone (core : Fin 128) (cluster : Bool) (seq : Nat)
  /-- DMA bytes are appended to a stream FIFO once it has space (R115). -/
  | streamFifoAppend (core : Fin 128) (cluster : Bool) (seq : Nat) (bytes : Nat) (ecc : Ecc := .ok)
  /-- A queue entry retires in dispatch order once its completion is reached (R108). -/
  | queueEntryRetire (core : Fin 128) (queue : Fin 8)
  /-- A SIGNAL adds to a counter of this core, another core, a remote core or the companion (R424). -/
  | signal (i : Issue)
  /-- A WAIT holds its thread or a queue head until the counter reaches its target (R428). -/
  | wait (i : Issue)
  /-- A WAIT's condition is seen to hold and the floor advances (R429). -/
  | waitConditionMet (core : Fin 128) (place : WaitPlace)
  /-- A WAIT's timeout expires and T[TRES] receives 0 (R430). -/
  | waitTimeout (core : Fin 128) (thread : Fin 16)
  /-- A FENCE holds its thread until the covered writes have retired (R431). -/
  | fence (i : Issue)
  /-- Every covered write and signal has retired or been acknowledged, and the FENCE completes (R431). -/
  | fenceComplete (core : Fin 128) (thread : Fin 16)
  /-- A global load switches its thread and sends a line read (R126). -/
  | gld (i : Issue)
  /-- A global store sends a line write (R258). -/
  | gst (i : Issue)
  /-- A remote atomic is sent with its tag (R270). -/
  | gatom (i : Issue)
  /-- A COLL is handed to its group slot's communication queue (R383). -/
  | coll (i : Issue)
  /-- START starts a HALTED thread at its PC (R94). -/
  | threadStart (core : Fin 128) (thread : Fin 16)
  /-- HALT halts a thread at its next instruction boundary (R144). -/
  | threadHalt (core : Fin 128) (thread : Fin 16)
  /-- A write of a thread's PC, dropped unless the thread is HALTED (R143). -/
  | threadPcWrite (core : Fin 128) (thread : Fin 16) (value : Word)
  /-- A write of a thread register, dropped unless the thread is HALTED (R143). -/
  | threadTWrite (core : Fin 128) (thread : Fin 16) (reg : Fin 16) (value : Word)
  /-- CLEAR_FAULT is written and is held until the fault has settled (R142). -/
  | coreClearFault (core : Fin 128)
  /-- A held CLEAR_FAULT acts and returns the core to all threads HALTED (R142). -/
  | clearFaultAct (core : Fin 128)
  /-- RESUME leaves a forced stop or a pause (R135). -/
  | coreResume (core : Fin 128)
  /-- FORCE_STOP stops every thread within 1 cycle (R134). -/
  | coreForceStop (core : Fin 128)
  /-- A pre-emption request makes PAUSE effective (R130). -/
  | preemptReq (core : Fin 128)
  /-- CANCEL clears REQ and returns PARKED threads to RUNNING (R132). -/
  | preemptCancel (core : Fin 128)
  /-- Every thread is parked or halted with queues empty; the core is paused and its tiles are invalidated (R130). -/
  | corePaused (core : Fin 128) (waitUs : Nat)
  /-- BOUND_US passes without a pause; LATE is set and logged (R133). -/
  | corePreemptLate (core : Fin 128)
  /-- Every packet already sent settles and the partial-completion map is written (R141). -/
  | pcmapWritten (core : Fin 128)
  /-- A write of numeric actions; a change of SR_EN is accepted only while the core is halted or paused (R187). -/
  | coreNumCtrlWrite (core : Fin 128) (value : Word)
  /-- A write of the seed, accepted only while the core is halted or paused (R187). -/
  | coreSrSeedWrite (core : Fin 128) (value : Word)
  /-- CLEAR clears a Spectrograph channel (R208). -/
  | specClear (core : Fin 128) (channel : Fin 4)
  /-- A write of channel control; SOURCE is ignored while ARM is 1 (R210). -/
  | specCtrlWrite (core : Fin 128) (channel : Fin 4) (value : Word)
  /-- A write of LO or HI, ignored while ARM is 1 (R210). -/
  | specWindowWrite (core : Fin 128) (channel : Fin 4) (hi : Bool) (value : Word)
  /-- The attention unit reads and checks the next descriptor (R153). -/
  | attnDescriptorStart (core : Fin 128) (ecc : Ecc)
  /-- A page-map entry arrives and is checked (R163). -/
  | attnMapEntryRead (core : Fin 128) (entry : Nat) (ecc : Ecc := .ok)
  /-- Every appended byte has been written and acknowledged, and the attend phase may begin (R156). -/
  | attnAppendDone (core : Fin 128)
  /-- A block of keys and values is in the work area and is processed by the online softmax (R159). -/
  | attnBlock (core : Fin 128) (ecc : Ecc := .ok)
  /-- A descriptor's outputs and statistics have been written (R170). -/
  | attnOutputDone (core : Fin 128)
  /-- A read at the home X-die is served from the cache or HBM under its hint (R218). -/
  | hbmRead (offset bytes hint useCount : Nat) (errs : List MemErr)
  /-- A write at the home X-die updates or allocates a line under its hint (R220). -/
  | hbmWrite (offset : Nat) (data : List Byte) (hint useCount : Nat) (errs : List MemErr)
  /-- FLUSH starts writing back every dirty line (R222). -/
  | mscFlush (x : Fin 4)
  /-- UNKEEP starts demoting kept lines to counted lines with count 1 (R222). -/
  | mscUnkeep (x : Fin 4)
  /-- FLUSH or UNKEEP ends and self-clears (R222). -/
  | mscOpDone (x : Fin 4) (unkeep : Bool) (errs : List MemErr)
  /-- The patrol scrub reaches its next unit and reads it below the cache (R227). -/
  | patrolScrub (x : Fin 4) (unit : Nat) (ecc : Ecc) (last : Bool) (odecc : List Nat)
  /-- A per-bank refresh interval expires (R229). -/
  | hbmRefresh
  /-- The 1 ms stack temperature read (R229). -/
  | stackTempRead (x : Fin 4) (temps : List Nat)
  /-- A map-out request is checked and, when accepted, fences its band (R236). -/
  | hbmMapoutReq (x : Fin 4) (pc : Fin 1024)
  /-- Accesses to the band have completed and the copy begins (R238). -/
  | mapoutFenceDone
  /-- A frame has been copied, the substitution table is updated and held accesses are released (R240). -/
  | mapoutFrameDone (bad : List Nat) (errs : List MemErr) (fixed : List Nat := [])
  /-- A stack's training ends in success or failure (R234). -/
  | hbmTrainingDone (stack : Fin 24) (ok : Bool) (temp : Fin 256)
  /-- Every unit has been zeroed and HBM_STAT READY is set (R232). -/
  | hbmZeroFillDone
  /-- A READ request arrives at its target and is checked and served (R250). -/
  | read (p : Packet) (errs : List MemErr)
  /-- A line reply arrives and is written to the store (R257). -/
  | readData (p : Packet)
  /-- A WRITE arrives, is applied and is acknowledged (R255). -/
  | write (p : Packet) (errs : List MemErr)
  /-- An acknowledgement retires the write named by its destination and sequence number (R260). -/
  | writeAck (p : Packet)
  /-- An ATOMIC arrives; it is applied once or answered from the reply cache (R274). -/
  | atomic (p : Packet) (errs : List MemErr)
  /-- An atomic reply is written and a release is sent (R275). -/
  | atomicReply (p : Packet)
  /-- A release arrives and is acknowledged; the entry ends once its lifetime has passed (R273). -/
  | release (p : Packet)
  /-- A release acknowledgement stops its resends (R275). -/
  | releaseAck (p : Packet)
  /-- A busy refusal schedules a resend after 2 µs (R276). -/
  | busy (p : Packet)
  /-- A refusal ends an access with its code (R248). -/
  | refusal (p : Packet)
  /-- A remote DMA read request arrives and data packets are returned (R261). -/
  | dmaRead (p : Packet) (errs : List MemErr)
  /-- A DMA data packet arrives and counts towards the byte total (R262). -/
  | dmaData (p : Packet)
  /-- A DMA write packet arrives, is applied and is acknowledged (R255). -/
  | dmaWrite (p : Packet) (errs : List MemErr)
  /-- A DMA acknowledgement counts acknowledged bytes (R262). -/
  | dmaAck (p : Packet)
  /-- A remote counter packet is applied exactly once, or refused and remembered (R437). -/
  | counter (p : Packet)
  /-- A reply-cache query arrives and is answered APPLIED, NOT_APPLIED or LOST (R280). -/
  | query (p : Packet)
  /-- A query answer sets the state of the unsettled entry (R280). -/
  | queryAnswer (p : Packet)
  /-- A GLD, GST or GATOM has no reply after TIMEOUT_US and is resent, or ends (R267). -/
  | gasRequestTimeout (msg : Nat)
  /-- A DMA packet has no reply after TIMEOUT_US and is resent, or the DMA faults (R264). -/
  | dmaPacketTimeout (msg offset : Nat)
  /-- The 2 µs busy wait ends and the GATOM is resent (R276). -/
  | gatomBusyResend (msg : Nat)
  /-- An unacknowledged release is resent after TIMEOUT_US (R275). -/
  | releaseResend (msg : Nat)
  /-- An unanswered query is resent after TIMEOUT_US (R280). -/
  | queryResend (n : Fin 32)
  /-- A reply-cache entry's minimum lifetime passes and it ends when released (R273). -/
  | replyEntryExpiry
  /-- A packet held by the rate pacing is released into the fabric (R332). -/
  | pacedInjection (p : Packet)
  /-- T_DEC_US without a decrease decays α (R331). -/
  | rateAlphaDecay (dst : Nat)
  /-- T_INC_US without a decrease raises the rate (R331). -/
  | rateIncrease (dst : Nat)
  /-- A BASE write held until the next ATTR write (R253). -/
  | regionBaseWrite (n : Fin 4096) (value : Word)
  /-- A LIMIT write held until the next ATTR write (R253). -/
  | regionLimitWrite (n : Fin 4096) (value : Word)
  /-- An ATTR write applies BASE, LIMIT and ATTR together (R253). -/
  | regionAttrWrite (n : Fin 4096) (value : Word)
  /-- The target waits for checked accesses and recalls companion lines in invalid regions (R254). -/
  | regionFenceReq
  /-- The last checked access is applied and REQ clears (R254). -/
  | regionFenceDone
  /-- Ends reply-cache entries of a requester, or waits for the occultation to lift (R281). -/
  | replyPurge (all : Bool) (device : Fin 262144)
  /-- Starts a query for an unsettled entry (R280). -/
  | queryReq (n : Fin 32)
  /-- Returns an entry from query pending to unsettled (R280). -/
  | queryCancel (n : Fin 32)
  /-- A write of an entry's state and tag; only STATE 0 is accepted, which frees the entry (R278). -/
  | unsettledTagWrite (n : Fin 32) (value : Word)
  /-- An epoch write, accepted only while STATE is 0 (R278). -/
  | unsettledEpochWrite (n : Fin 32) (value : Word)
  /-- A sequence-number write, accepted only while STATE is 0 (R278). -/
  | unsettledSeqWrite (n : Fin 32) (value : Word)
  /-- An issue-time write, accepted only while STATE is 0 (R278). -/
  | unsettledTimeWrite (n : Fin 32) (value : Word)
  /-- A router receives a header flit and forwards or delivers the packet (R305). -/
  | packetRoute (face : Option (Fin 6)) (p : Packet) (free : List Nat) (draw : Bool)
  /-- An adaptive packet finds no credit for 100 ns and moves to the escape pools (R307). -/
  | adaptiveEscape (p : Packet)
  /-- A face comes up and sends DISCOVER (R288). -/
  | faceUp (face : Fin 6)
  /-- A face goes down and its packets are held (R308). -/
  | faceDown (face : Fin 6)
  /-- A held packet passes HOLD_US and is discarded (R308). -/
  | faceHoldExpiry (p : Packet)
  /-- A VC_0 packet waits VC0_STUCK_US and is discarded (R310). -/
  | vc0Stuck (p : Packet)
  /-- A DISCOVER arrives and the device derives or checks its coordinates (R289). -/
  | discover (face : Fin 6) (p : Packet)
  /-- REQ applies override coordinates and rebuilds both banks, or is refused (R292). -/
  | coordOverride (dims index : Fin 262144)
  /-- RELEASE drops the override and rediscovers (R292). -/
  | coordOverrideRelease
  /-- SETUP on a free slot sends TRANSIT_SETUP along the path (R318). -/
  | transitSetupReq (slot : Fin 256) (nextOwn : Bool := true)
  /-- TEARDOWN moves a slot to tearing down, or frees a broken or refused slot (R323). -/
  | teardown (slot : Fin 256)
  /-- Every packet sent on the Transit has been acknowledged and TRANSIT_TEAR is sent (R323). -/
  | transitTearReady (slot : Fin 256)
  /-- A router admits or refuses a Transit setup (R318). -/
  | transitSetup (face : Fin 6) (p : Packet) (nextOwn : Bool)
  /-- The owner receives the setup outcome (R318). -/
  | transitReply (p : Packet)
  /-- A router frees the Transit's circuit entry (R318). -/
  | transitTear (face : Fin 6) (p : Packet)
  /-- The owner learns of a break and moves the Transit's traffic to VC_2 (R322). -/
  | transitBroken (p : Packet)
  /-- No reply within 4 × TIMEOUT_US; the path is torn down and the setup refused (R319). -/
  | transitSetupTimeout (slot : Fin 256)
  /-- A path write, dropped unless the slot is free (R340). -/
  | transitPathWrite (slot : Fin 256) (value : Word)
  /-- Holds injection on the held VCs (R333). -/
  | drain
  /-- No held-VC packet or credit remains outstanding and DRAINED is reported (R334). -/
  | drained
  /-- SWAP makes the inactive bank active, or is refused (R335). -/
  | tableSwap
  /-- RESUME releases held injection (R336). -/
  | tableResume
  /-- A write of new VC weights, refused if it breaks a Transit reservation (R326). -/
  | vcWeightWrite (value : Word)
  /-- A write to a route bank register, dropped for the active bank (R339). -/
  | routeBankWrite (offset : Nat) (value : Word)
  /-- The Collimator finishes a port's calibration, or it fails (R350). -/
  | portCalibrateDone (die : Fin 6) (port : Fin 10) (found : Option PortCal)
  /-- The working lasers are lit (R350). -/
  | portLightDone (die : Fin 6) (port : Fin 10)
  /-- Clock recovery and PAM4 levels lock (R350). -/
  | portLockDone (die : Fin 6) (port : Fin 10)
  /-- The lanes are aligned into groups (R350). -/
  | portAlignDone (die : Fin 6) (port : Fin 10)
  /-- Face, port and lane map are exchanged and checked (R351). -/
  | portExchange (die : Fin 6) (port : Fin 10) (farFace farPort : Fin 16) (farMap farDead : List Nat)
  /-- Qualification passes and the port enters service (R350). -/
  | portQualifyDone (die : Fin 6) (port : Fin 10)
  /-- A group is received, checked and passed on, or requests a replay (R347). -/
  | groupReceive (die : Fin 6) (port : Fin 10) (group : OptRx)
  /-- A REPLAY_REQ makes the transmitter resend from the named group (R348). -/
  | replayRequest (die : Fin 6) (port : Fin 10) (ack : Fin 16777216) (good : Bool)
  /-- No light for 100 µs puts the port in automatic power reduction (R353). -/
  | aprEntry (die : Fin 6) (port : Fin 10)
  /-- Light returns and the port is restored from Light (R353). -/
  | aprLightReturn (die : Fin 6) (port : Fin 10)
  /-- The 100 µs monitor refresh (R354). -/
  | monitorRefresh (die : Fin 6) (readings : List PortMon)
  /-- The 10 ms port message with the edge coupler reading (R354). -/
  | edgePowerReport (die : Fin 6) (port : Fin 10) (farEdge : Int)
  /-- The 10 ms stage-loss comparison (R355). -/
  | lossCheck (die : Fin 6)
  /-- The 100 µs bias adjustment and P_fix computation (R356). -/
  | heliostatAdjust (die : Fin 6) (port : Fin 10) (channel : Fin 18) (bias power eta : Nat)
  /-- A 1 ms window ends and each channel is classed (R362). -/
  | seeingWindow (die : Fin 6) (port : Fin 10)
  /-- A queued swap begins by choosing a spare (R364). -/
  | spareSwapStart (die : Fin 6) (port : Fin 10)
  /-- The spare laser is locked, or fails (R364). -/
  | spareLightDone (die : Fin 6) (port : Fin 10) (ok : Bool)
  /-- The far receiver confirms training on the spare (R364). -/
  | spareTrainDone (die : Fin 6) (port : Fin 10) (ok : Bool)
  /-- The spare qualifies with equal copies for 1 ms (R364). -/
  | mirrorQualified (die : Fin 6) (port : Fin 10)
  /-- At the next group with GSEQ mod 4096 = 0, CMD switch moves the lane (R364). -/
  | swapSwitch (die : Fin 6) (port : Fin 10)
  /-- The far end receives a mirror, switch or abort command (R364). -/
  | swapCmdReceive (die : Fin 6) (port : Fin 10) (cmd : SwapCmd) (lane : Fin 16) (channel : Fin 18)
  /-- After 4,096 groups the old laser turns off and its channel is retired (R365). -/
  | swapRetireDone (die : Fin 6) (port : Fin 10) (cal : Option ChanCal := none)
  /-- SWAP moves a lane to a spare, or is refused or queued (R376). -/
  | portSwap (die : Fin 6) (port : Fin 10) (lane : Fin 16)
  /-- RECAL recalibrates a channel by way of a spare (R365). -/
  | recal (die : Fin 6) (port : Fin 10) (lane : Fin 16)
  /-- DOWN holds the port out of service with lasers dark, or releases it (R350). -/
  | portDownWrite (die : Fin 6) (port : Fin 10) (value : Word)
  /-- Writing VALID checks the group configuration (R380). -/
  | colGroupValidWrite (slot : Fin 256) (value : Word) (errs : List MemErr := [])
  /-- A slot configuration write, dropped while the slot is busy (R382). -/
  | colConfigWrite (slot : Fin 256) (reg : Fin 4) (value : Word)
  /-- A slot starts its next instance and checks the descriptor (R386). -/
  | collInstanceStart (slot : Fin 256) (ecc : Ecc) (errs : List MemErr) (src : Ecc := .ok) (checks : List CollCheck := [])
  /-- An agreement packet is combined and its signatures compared (R388). -/
  | collAgreement (p : Packet) (checks : List CollCheck) (errs : List MemErr)
  /-- A collective data packet is combined, forwarded or delivered (R400). -/
  | collData (p : Packet) (checks : List CollCheck) (errs : List MemErr)
  /-- An abort marker stops the instance (R411). -/
  | collAbortMarker (p : Packet)
  /-- A WAITING marker names the slow member (R418). -/
  | collWaitingMarker (p : Packet)
  /-- Counts of members reached and not reached are combined (R416). -/
  | collMulticastAck (p : Packet)
  /-- An input has been missing for STRAGGLER_MS and a WAITING marker is sent (R418). -/
  | stragglerTimeout (slot : Fin 256)
  /-- ABORT aborts the running instance and closes the slot (R419). -/
  | collAbort (slot : Fin 256)
  /-- Output and acknowledgements are done and the status block is written (R408). -/
  | collStatusWrite (slot : Fin 256)
  /-- An arrival is counted towards the keeper (R439). -/
  | barrierArrival (p : Packet)
  /-- The release reaches a member and its BARRIER retires (R439). -/
  | barrierRelease (p : Packet)
  /-- A write sets C and F of a counter (R424). -/
  | synCntWrite (core : Fin 128) (n : Fin 4096) (value : Word)
  /-- A doorbell write adds a signed addend under the window (R423). -/
  | synCntAdd (core : Fin 128) (n : Fin 4096) (value : Word)
  /-- The 100 µs time exchange with the parent (R445). -/
  | timeExchange (t1 : Nat)
  /-- A parent receives a time request and replies (R445). -/
  | timeRequest (p : Packet) (t2 t3 : Nat)
  /-- A child computes θ, sets or trims its Chronograph and may become ALIGNED (R445). -/
  | timeReply (p : Packet) (t4 : Nat)
  /-- 10 ms without a good exchange clears ALIGNED (R446). -/
  | alignLossTimeout
  /-- The root's 10 ms start exchange ends and it reports ALIGNED (R444). -/
  | rootExchangeEnd
  /-- ARM arms the release, or releases at once when late (R448). -/
  | meridianArm
  /-- CANCEL clears ARM (R449). -/
  | meridianCancel
  /-- A TICK write, dropped while ARM is set (R448). -/
  | meridianTickWrite (value : Word)
  /-- The Chronograph reaches TICK and every core's counter is raised (R448). -/
  | meridianRelease
  /-- A die-link frame is checked, passed on, or answered with NAK (R453). -/
  | frameReceive (link : Fin 31) (initiator : Bool) (payload control : List Byte)
  /-- A clock group or lane loses lock and the link retrains (R457). -/
  | linkLockLoss (link : Fin 31)
  /-- The pattern test of every quarter ends and the initiator proposes (R458). -/
  | linkTestDone (link : Fin 31) (initMask respMask : Fin 16)
  /-- The responder computes the width and sends ACCEPT (R458). -/
  | propose (link : Fin 31) (xnum : Fin 256) (mask level : Fin 16)
  /-- The initiator compares widths and sends CONFIRM, or fails the exchange (R458). -/
  | accept (link : Fin 31) (xnum : Fin 256) (mask width level : Fin 16)
  /-- Both ends change to the agreed quarters (R458). -/
  | confirm (link : Fin 31) (xnum : Fin 256) (width level : Fin 16)
  /-- A message misses its 100 µs and the exchange fails (R459). -/
  | exchangeTimeout (link : Fin 31)
  /-- RETRAIN retrains the link from full width (R457). -/
  | linkRetrainWrite (link : Fin 31)
  /-- DOWN on a C–X primary with a trained alternate, or refused (R471). -/
  | linkDownWrite (link : Fin 31) (down : Bool)
  /-- A management sideband message is received and checked (R472). -/
  | sidebandMessage (die : Fin 20) (bytes : List Byte) (identity : Option (Nat × Nat))
  /-- An unanswered sideband message is resent after 10 µs (R472). -/
  | sidebandResend (die : Fin 20)
  /-- A die gives no identity within 1 ms and is treated as lost (R473). -/
  | dieIdentityTimeout (die : Fin 20)
  /-- A companion HELLO is checked and brings the link up (R478). -/
  | hello (m : HlkMsg)
  /-- The AK20 resends its HELLO every 100 ms (R478). -/
  | helloResend
  /-- Returned credits are added (R482). -/
  | credit (m : HlkMsg)
  /-- A companion EOI ends a handler (R503). -/
  | eoi (m : HlkMsg)
  /-- A companion counter is acknowledged for FENCE scope 3 (R494). -/
  | counterAck (m : HlkMsg)
  /-- Sets interrupt source 1008 + n pending (R495). -/
  | doorbell (m : HlkMsg)
  /-- The companion reads an HBM line shared through the directory (R491). -/
  | rdShared (m : HlkMsg) (errs : List MemErr)
  /-- The companion reads an HBM line owned (R491). -/
  | rdOwn (m : HlkMsg) (errs : List MemErr)
  /-- An uncached companion read (R490). -/
  | rdUncached (m : HlkMsg) (errs : List MemErr)
  /-- An uncached companion write (R490). -/
  | wrUncached (m : HlkMsg) (errs : List MemErr)
  /-- The companion writes back an owned line (R490). -/
  | wrback (m : HlkMsg) (errs : List MemErr)
  /-- The companion drops a clean line (R490). -/
  | evictClean (m : HlkMsg) (errs : List MemErr)
  /-- The AK20 answers a snoop to share (R489). -/
  | snpShare (m : HlkMsg)
  /-- The AK20 answers a snoop to invalidate (R489). -/
  | snpInv (m : HlkMsg)
  /-- Shared or uncached data arrives from the companion (R488). -/
  | dataS (m : HlkMsg) (errs : List MemErr := [])
  /-- Exclusive data arrives from the companion (R488). -/
  | dataE (m : HlkMsg) (errs : List MemErr := [])
  /-- A companion write acknowledgement arrives (R485). -/
  | wrAck (m : HlkMsg) (errs : List MemErr := [])
  /-- A snoop answer from the companion completes a recall (R491). -/
  | snpAck (m : HlkMsg) (errs : List MemErr)
  /-- A refusal from the companion ends a request (R481). -/
  | refused (m : HlkMsg) (errs : List MemErr := [])
  /-- A recall unanswered within SNOOP_US poisons the unit (R492). -/
  | snoopTimeout (unit : Nat) (errs : List MemErr)
  /-- A host port leaves service; its unacknowledged messages are resent on the other port (R483). -/
  | hostPortLoss (second : Bool) (errs : List MemErr := [])
  /-- The link leaves service and outstanding traffic is ended (R496). -/
  | hlkLinkDown (errs : List MemErr := [])
  /-- DOWN holds the link out of service (R496). -/
  | hlkDownWrite (down : Bool)
  /-- Sets sources pending, as the configuration permits (R505). -/
  | intPendSet (k : Fin 16) (value : Word)
  /-- Clears pending sources (R500). -/
  | intPendClr (k : Fin 16) (value : Word)
  /-- Masks sources (R505). -/
  | intMaskSet (k : Fin 16) (value : Word)
  /-- Unmasks sources (R505). -/
  | intMaskClr (k : Fin 16) (value : Word)
  /-- A claim read returns and claims the offered source (R502). -/
  | intClaim (target : Fin 12)
  /-- An EOI write ends the handler at the top running level (R503). -/
  | intEoiWrite (target : Fin 12) (source : Fin 1024)
  /-- A write of a source's LEVEL or TARGET, refused for an unavailable vector (R506). -/
  | intSrcCfgWrite (source : Fin 1024) (value : Word)
  /-- The M-die claims a source offered to a companion vector and sends CTL INTERRUPT (R504). -/
  | companionInterrupt (vector : Fin 8)
  /-- COLD begins a cold start, at the next step boundary during a start (R511). -/
  | bootCold
  /-- WARM begins a warm start, or a cold start without a valid warm record (R510). -/
  | bootWarm
  /-- The 100 ms hold ends and the start continues from Rails (R512). -/
  | stageOneHoldExpiry
  /-- The warm-start Quiesce step ends (R517). -/
  | quiesceDone (errs : List MemErr)
  /-- The rails are in regulation and the boot ROM runs (R514). -/
  | railsUp
  /-- The boot ROM step ends and Identity and Firmware begin (R514). -/
  | bootRomDone (delayUs : Fin 4294967296)
  /-- The identity pair is derived and checked against its certificate (R554). -/
  | identityDone (found : Bool) (records : SecRecords)
  /-- Firmware and Almanac slots are chosen and verified (R538). -/
  | firmwareStepDone (read : FlashRead)
  /-- The journal is replayed into the Ephemeris SRAM (R531). -/
  | ephemerisStepDone (bad0 bad1 : Option Nat)
  /-- Dies are inventoried, the common level is set and registers are loaded (R475). -/
  | inventoryDone (stepping level : Fin 16)
  /-- Every link is trained and HBM and Collimator start (R514). -/
  | linksTrained (temps : List Nat)
  /-- A First Light ends in pass or failure (R639). -/
  | firstLightDone (durationMs : Nat) (fails : List (Nat × Nat)) (refset : Bool) (elapsedMs : Nat)
  /-- A die is occulted and reset (R537). -/
  | dieResetReq (die : Fin 32)
  /-- The die's First Light passes and its occultation is lifted (R537). -/
  | dieResetDone (durationMs : Nat) (fails : List (Nat × Nat)) (temps : List Nat) (errs : List MemErr)
  /-- KICK restarts the watchdog period (R545). -/
  | watchdogKick
  /-- A change of PERIOD_MS restarts the period (R545). -/
  | watchdogPeriodWrite (periodMs : Fin 65536)
  /-- A period passes without KICK and a warm start begins (R545). -/
  | bootWatchdog
  /-- The installed slot is verified and marked TRIAL (R539). -/
  | fwTrial (image : Option FwImage)
  /-- The running TRIAL slot is marked GOOD and its floor record is appended (R539). -/
  | fwCommit
  /-- HANDOVER starts a live handover (R540). -/
  | fwHandover (image : Option FwImage)
  /-- The staged image is verified, or refused for its record format (R543). -/
  | handoverVerifyDone
  /-- Management cores are parked and the handover record is written (R540). -/
  | handoverParkDone
  /-- The staged image has started on core 0 (R540). -/
  | handoverLoadDone
  /-- The new firmware sets RESUMED and the handover ends (R540). -/
  | fwResumed
  /-- RESUMED not set within 5 s; the other slot is restarted (R542). -/
  | bootHandoverReverted
  /-- A pending record is written to the flash journal (R530). -/
  | journalWrite
  /-- COMPACT compacts the journal now (R532). -/
  | ephCompact
  /-- FLUSH writes pending records now (R530). -/
  | ephFlush
  /-- An uncorrectable Ephemeris SRAM error clears the warm record (R510). -/
  | ephSramUncorrectable
  /-- REQ starts an attestation report, or is refused (R561). -/
  | attestReq (source : Fin 5)
  /-- The report is complete (R562). -/
  | attestDone
  /-- A nonce write, taking effect at the next report while BUSY (R562). -/
  | secNonceWrite (k : Fin 4) (value : Word)
  /-- SUBMIT starts token verification (R566). -/
  | dbgSubmit
  /-- The tokens are accepted or refused, the state changes and a new challenge is drawn (R568). -/
  | submitVerifyDone (rsa0 rsa1 : Bool) (slh0 slh1 : Bool := true)
  /-- The lockout ends (R567). -/
  | dbgLockoutExpiry
  /-- EXIT returns to SEALED and resumes halted management cores (R569). -/
  | dbgExit
  /-- Draws a new challenge (R566). -/
  | dbgRefresh
  /-- Halts a management core (R570). -/
  | mcoreHalt (m : Fin 4)
  /-- Resumes a halted management core (R570). -/
  | mcoreResume (m : Fin 4)
  /-- Executes one instruction while halted (R570). -/
  | mcoreStep (m : Fin 4) (branch : Option Nat)
  /-- Returns and removes the oldest branch trace record (R564). -/
  | mcoreTraceRead (m : Fin 4) (branches : List Nat)
  /-- The 10 µs input sample, judged against the voltage and power limits (R573). -/
  | inputSample (vin iin pin : Fin 65536)
  /-- A low input persists for 100 ms and the input-loss path runs (R573). -/
  | inputLowTimeout
  /-- The input stays at or above 48.5 V for 10 ms and the low cap is lifted (R573). -/
  | inputLowLift
  /-- The clocks have stopped and the rails are turned off (R574). -/
  | clocksStopped
  /-- The rails are off and PGOOD_OUT has fallen (R574). -/
  | railsOff
  /-- The journal is done, stage one turns off and the device is Off (R574). -/
  | stageOneOff
  /-- A power window ends and cluster operating points are lowered or raised (R577). -/
  | capWindow (watts : Nat) (long : Bool := true)
  /-- Sets the firmware power cap, clamped to 2,000–4,000 W (R576). -/
  | capWWrite (watts : Fin 65536)
  /-- TARGET 0 leaves P2, or begins a wake from P3 (R582). -/
  | pwrTargetP0
  /-- TARGET 2 begins entry to P2, or is refused (R581). -/
  | pwrTargetP2
  /-- TARGET 3 begins entry to P3, or is refused (R581). -/
  | pwrTargetP3
  /-- A power-state entry or exit ends (R582). -/
  | pwrStateChanged (errs : List MemErr)
  /-- An idle cluster island gates its clock after 1,024 idle cycles (R580). -/
  | islandIdleGate (island : Fin 32)
  /-- An access, a START or a counter update ungates the island (R580). -/
  | islandUngate (island : Fin 32)
  /-- The Clock Drive takes one divider step every 640 ns (R587). -/
  | rampStep (island : Fin 44)
  /-- A raised rail settles and the frequency ramp begins (R586). -/
  | railSettled (island : Fin 44)
  /-- A droop detector trips and clock cycles are stretched (R588). -/
  | droopTrip (island : Fin 44)
  /-- 32 cycles after the last trip clears, the stretch ends (R588). -/
  | droopClear (island : Fin 44)
  /-- A trip longer than 2 µs lowers the droop limit (R589). -/
  | droopHandover (island : Fin 44)
  /-- Each 1 ms without a trip lifts the droop limit (R589). -/
  | droopRecovery (island : Fin 44)
  /-- EN gates or ungates an island, or is refused (R590). -/
  | islandEnWrite (island : Fin 44) (en : Bool)
  /-- Sets firmware's operating-point request (R586). -/
  | islandOpWrite (island : Fin 44) (op : Fin 8)
  /-- The Guide Star is lost and the PLLs hold (R593). -/
  | clkRefLost
  /-- The Guide Star is not back within 1 ms and the device is occulted (R593). -/
  | refHoldoverExpiry
  /-- An island PLL loses lock; the clock stops and its units are occulted (R594). -/
  | clkPllUnlock (island : Fin 44)
  /-- A die's sensors are sampled and its maximum is judged against the thresholds (R599). -/
  | thermalSample (die : Fin 20) (temps : List (Option Int)) (flash : Option Int) (inlet outlet : Int)
  /-- Each further 1 ms at 105 °C lowers the limit one point (R600). -/
  | throttleStep (die : Fin 20)
  /-- Each 10 ms below 100 °C raises the limit one point (R600). -/
  | throttleRecoveryStep (die : Fin 20)
  /-- Two sensors on one die cross 115 °C and the 50 µs timing begins (R601). -/
  | comparatorCrossing (die : Fin 20) (above : Bool)
  /-- After 50 µs above 115 °C the input-loss path runs (R601). -/
  | thmShutdown (die : Fin 20)
  /-- The 50 ms comparator and droop detector test (R602). -/
  | comparatorTest (failed : List (Fin 20 × Fin 24)) (detectors : List (Fin 44))
  /-- A unit's report enters coalescing and the intake queue, or is dropped (R609). -/
  | logReport (code source d0 d1 : Nat)
  /-- The next record is written in its 20 ns slot (R609). -/
  | logRecordWrite
  /-- A coalescing entry's time ends and a KIND 2 record is written (R610). -/
  | coalesceClose (source code : Nat)
  /-- A record is copied to the HBM ring (R608). -/
  | hbmRingCopy (errs : List MemErr)
  /-- HBM_EN enables copying, or is refused with an invalid base (R608). -/
  | logHbmEnWrite (value : Word)
  /-- A unit of this device is occulted or restored, recorded and announced (R614). -/
  | occultation (unit : OccUnit) (cause : Nat) (lifted : Bool)
  /-- The next of three notice copies is sent 1 ms later (R616). -/
  | noticeCopyTimer (count : Nat)
  /-- An occultation notice is handed to the GAS units and slots, and logged (R617). -/
  | occultationNotice (p : Packet)
  /-- A restoration notice removes the device from the GAS lists (R617). -/
  | restorationNotice (p : Packet)
  /-- A device-lost notice is treated as an occultation notice (R619). -/
  | deviceLostNotice (p : Packet)
  /-- A summary is merged, or written and scored at a root or suspect (R624). -/
  | accusationSummary (p : Packet)
  /-- A partner's mark arrives and is compared (R635). -/
  | lockstepMarkNotice (p : Packet)
  /-- A firmware message NOTICE is received (R298). -/
  | firmwareMessage (p : Packet)
  /-- OP 0 occults a unit (R621). -/
  | safeOccultUnit (unit : Fin 65536)
  /-- OP 1 lifts an occultation that OP 0 made (R621). -/
  | safeLiftUnit (unit : Fin 65536)
  /-- OP 2 broadcasts SAFE_DEVICE_LOST for another device (R619). -/
  | safeDeclareLost (device : Fin 262144)
  /-- Firmware sends an accusation (R622). -/
  | safeAccuse (suspect : Fin 262144) (unit : Fin 65536)
  /-- A 1 ms window ends and summaries are sent to the parent (R623). -/
  | accusationWindowEnd
  /-- Every HALF_LIFE_H hours all scores are halved (R629). -/
  | healthHalfLife
  /-- CLEAR resets a unit's score and level (R629). -/
  | healthClear (unit : Fin 2048)
  /-- A partner's mark misses TIMEOUT_MS and the mark is lost (R635). -/
  | lockstepMarkTimeout (core : Fin 128) (number : Nat)
  /-- Starts an on-demand First Light, or refuses it (R640). -/
  | firstLightReq (form : Fin 4) (scope : Fin 256)
  /-- Opens a Plate window (R641). -/
  | plateStart
  /-- Starts hashing a range for a Plate record, or refuses it (R641). -/
  | plateReq
  /-- The Plate record and digest are complete (R641). -/
  | plateDone (errs : List MemErr := [])
  /-- The 50 ms residue checker test (R644). -/
  | residueInjection (caught : Bool)
  /-- The 5 ms heartbeat between monitors (R645). -/
  | monitorHeartbeat (b : Bool)
  /-- No heartbeat for 10 ms; the other monitor takes over (R645). -/
  | heartbeatTimeout (b : Bool)
  /-- The Guide Star returns within range after CLK_REF_LOST, the PLLs leave holdover and REF_OK is set again (R593). -/
  | guideStarReturn (khz : Fin 131072)
  /-- One receive channel sees no light for 10 µs, its lane reaches FAIL and the port leaves service at once under R367 (R362). -/
  | noLightOnChannel (die : Fin 6) (port : Fin 10) (channel : Fin 18)
  /-- A remote SIGNAL's COUNTER packet has no acknowledgement after TIMEOUT_US and is resent with the same tag, or ends with GAS_OUTCOME_UNKNOWN and is entered in the unsettled table (R437). -/
  | remoteSignalTimeout (msg : Nat)
  /-- A collective data packet has no acknowledgement after TIMEOUT_US and is resent, or, with its retries exhausted, the sender aborts the instance with COLL_TRANSFER_FAILED or counts a MULTICAST member as not reached (R413). -/
  | collPacketTimeout (msg offset : Nat)
  /-- A read of a register with RC fields returns their values and clears them to their reset values, keeping any event raised in the same cycle (R8). -/
  | rcRegisterRead (offset : Nat)
  deriving DecidableEq, Repr

end Sys2Proof
end

