-- ==== Sys2Proof/Config.lean ====
section
/-! DEFINITION. The values that the manual leaves open: opaque constants without a body, so that nothing can be proved
of which value they hold. Each is applied to the model's own counter `freeIx` (a fresh value at each use) or to the
operands it depends on. -/

namespace Sys2Proof.Config

/-- R131, R146: entry j of accumulator slot s after the pause or ATTN numbered k. -/
opaque freeEntry (k s j : Nat) : BitVec 32

/-- R131, R146: the term count of accumulator slot s after the pause or ATTN numbered k. -/
opaque freeTerms (k s : Nat) : BitVec 24

/-- A byte that the manual calls unspecified (a work area after an ATTN, a store after a First Light). -/
opaque freeByte (k a : Nat) : Byte

/-- A fresh 64-bit value that the manual leaves open (a random draw, a value of a unit outside the manual). -/
opaque freeWord (k i : Nat) : Word

/-- A fresh choice between two behaviours that the manual leaves open. -/
opaque freeBit (k : Nat) : Bool

/-- The set of a memory-side cache that a 64-byte unit maps to: the manual gives 131,072 sets and no mapping. -/
opaque cacheSet (unit : Nat) : Nat

/-- The module serial number: 16 bytes that each module has of its own. -/
opaque moduleSerial : BitVec 128

/-- SHA-384 of a list of bytes, as a number of 384 bits: the manual names the function and does not restate it. -/
opaque sha384 (bytes : List Byte) : BitVec 384

/-- R641: the digest of a range that holds units whose bytes are not known. -/
opaque freeDigest (k : Nat) : BitVec 384

/-- R355: the share of a channel in a demultiplexer input of some power in 0.01 dBm. -/
opaque channelShare (power : Int) (channel : Nat) : Int

/-- R357: OPT_PORT_n_CH_c_LASER P_FIX_DELTA when P_fix is not positive and its logarithm does not exist. -/
opaque noLogarithm (k : Nat) : BitVec 16

/-- R644, R645: the number by which SAFE_MONITOR_FAIL names a mechanism, which the manual does not state: 0 the residue
checkers, 1 the droop detectors, 2 the heartbeat. -/
opaque mechanism (k : Nat) : Word

/-- R648: the number by which FIRST_LIGHT_PASS names a form that SAFE_FL_CTRL FORM does not number: 0 full, 1 die. -/
opaque formCode (k : Nat) : Word

/-- R86: bits [11:0] of the code of the record that is written when a swap retires a core; the manual names no code
for it. -/
opaque swapRecord : BitVec 12

/-- The device identification code of the test access port (R40), which the manual does not state. -/
opaque idcode : BitVec 32

/-- R553: the 256-bit seed that this module's SRAM array yields with some helper data: a property of the silicon. -/
opaque pufSeed (helper : List Byte) : BitVec 256

/-- R553: PK.root of SLH-DSA-SHA2-192s for SK.seed, SK.prf and PK.seed: the manual names the scheme and does not
restate it. -/
opaque slhRoot (skSeed skPrf pkSeed : List Byte) : BitVec 192

/-- R553: the RSA-3072 modulus whose primes are generated from an HMAC_DRBG with a seed (FIPS 186-5). -/
opaque rsaModulus (drbgSeed : List Byte) : Nat

/-- The KEY_ID of the Ideok root pair, fixed in the boot ROM (R547); the manual does not state it. -/
opaque rootKeyId : BitVec 384

/-- The boot ROM's contents digest (SHA-384, R561) of this M-die. -/
opaque romDigest : BitVec 384

end Sys2Proof.Config
end

