-- ==== Sys2Proof/Machine/Codes.lean ====
section
/-! DEFINITION. The error and notice codes of the AK20 (R16 to R18), as the chapters' code tables list them. -/

namespace Sys2Proof
namespace Code

/-- STREAM with no valid tile (R66). -/
def ENG_NO_TILE : Nat := 0x1001
/-- weight format not accepted by the tile, or by both tiles of a pair (R49, R75). -/
def ENG_FORMAT_MISMATCH : Nat := 0x1002
/-- STREAM with a row count of 0 (R60). -/
def ENG_BAD_COUNT : Nat := 0x1003
/-- stationary parity error (R77). -/
def ENG_TILE_PARITY : Nat := 0x1010
/-- uncorrectable accumulator entry (R78). -/
def ENG_ACC_UNCORRECTABLE : Nat := 0x1011
/-- EMIT reached a poisoned slot (R79). -/
def ENG_ACC_POISON : Nat := 0x1012
/-- swap requested with no spare left (R87). -/
def CLU_SPARE_EXHAUSTED : Nat := 0x1020
/-- swap cancelled, or refused for a bad MODE or a swap already running (R90, R91). -/
def CLU_SWAP_CANCELLED : Nat := 0x1021
/-- spare failed its start-up check (R87). -/
def CLU_SPARE_FAILED : Nat := 0x1022
/-- refused encoding (R111, R196). -/
def CORE_ILLEGAL_INSTR : Nat := 0x1030
/-- store address outside R99 or misaligned (R99, R112). -/
def CORE_BAD_ADDR : Nat := 0x1031
/-- NDET missing where required (R113). -/
def CORE_NDET_REQUIRED : Nat := 0x1032
/-- uncorrectable instruction fetch (R103). -/
def CORE_IMEM_UNCORRECTABLE : Nat := 0x1033
/-- uncorrectable store read (R103). -/
def CORE_STORE_UNCORRECTABLE : Nat := 0x1034
/-- fall-through past PC 65,535 (R98). -/
def CORE_PC_OVERFLOW : Nat := 0x1035
/-- SPAWN of a thread not halted, or a dropped register write (R127, R143). -/
def CORE_THREAD_BUSY : Nat := 0x1036
/-- a counter update of this core was refused; DETAIL holds SYN_UNDERFLOW or SYN_OVERFLOW (R427). -/
def CORE_COUNTER_FAULT : Nat := 0x1037
/-- an operation produced NaN from operands that held none, as Number Formats and Arithmetic defines. -/
def NUM_INVALID : Nat := 0x1040
/-- a conversion saturated, as Number Formats and Arithmetic defines. -/
def NUM_OVERFLOW : Nat := 0x1041
/-- an MX block carried the scale 0xFF, as Number Formats and Arithmetic defines. -/
def NUM_MX_NAN_SCALE : Nat := 0x1042
/-- a descriptor field out of range or refused (R115, R122, R123). -/
def DMA_BAD_DESC : Nat := 0x1050
/-- chain longer than 4096 descriptors (R124). -/
def DMA_CHAIN_LIMIT : Nat := 0x1051
/-- a remote part of a DMA failed; DETAIL holds the global memory or fabric code. -/
def DMA_REMOTE_ERROR : Nat := 0x1052
/-- pre-emption bound passed (R133); logbook notice only, no fault. -/
def CORE_PREEMPT_LATE : Nat := 0x1060
/-- a read found a unit uncorrectable (R224). -/
def HBM_UNCORRECTABLE : Nat := 0x2001
/-- a read, or a partial write, reached a poisoned unit (R225). -/
def HBM_POISON : Nat := 0x2002
/-- a dirty cache line was uncorrectable (R226). -/
def MSC_UNCORRECTABLE : Nat := 0x2003
/-- patrol scrub found a unit uncorrectable (R227); logbook only. -/
def HBM_SCRUB_UNCORRECTABLE : Nat := 0x2004
/-- a stack failed a training attempt at start; its 32 pseudo-channels are reported, and the start proceeds under
R234. -/
def HBM_TRAIN_FAIL : Nat := 0x2010
/-- a stack was retrained at a warm start (R233); notice. -/
def HBM_RETRAIN : Nat := 0x2011
/-- a map-out committed (R238); notice. -/
def HBM_MAPOUT_DONE : Nat := 0x2020
/-- 24 map-outs already done (R236). -/
def HBM_MAPOUT_LIMIT : Nat := 0x2021
/-- a map-out already running (R236). -/
def HBM_MAPOUT_BUSY : Nat := 0x2022
/-- pseudo-channel already mapped out or outside the X-die (R236). -/
def HBM_MAPOUT_BAD_PC : Nat := 0x2023
/-- offset invalid, or access not allowed by R246 (R247, R250). -/
def GAS_ADDR_ERROR : Nat := 0x3001
/-- key check or LOCAL_ONLY failed, or no region; requester's view (R250, R251). -/
def GAS_KEY_MISMATCH : Nat := 0x3002
/-- region does not allow the access (R250). -/
def GAS_PERM : Nat := 0x3003
/-- device index outside the torus or without a route (R245). -/
def GAS_UNREACHABLE : Nat := 0x3004
/-- target in another partition (R268). -/
def GAS_PARTITION : Nat := 0x3005
/-- access ended by an occultation notice (R269). -/
def GAS_TARGET_OCCULTED : Nat := 0x3006
/-- retries exhausted for a GLD, GST or DMA (R264, R267). -/
def GAS_TIMEOUT : Nat := 0x3007
/-- GATOM outcome not known (R277). -/
def GAS_OUTCOME_UNKNOWN : Nat := 0x3008
/-- every attempt refused busy; not applied (R276). -/
def GAS_REPLY_FULL : Nat := 0x3009
/-- target logbook only: no region contains the offset (R251). -/
def GAS_NO_REGION : Nat := 0x300A
/-- target logbook only: a request discarded for age (R265). -/
def GAS_STALE_DROP : Nat := 0x300B
/-- notice: a purge ended entries (R281). -/
def GAS_REPLY_PURGED : Nat := 0x300C
/-- a remote request arrived with TALIGN 0, or while the target was not ALIGNED (R266). -/
def GAS_TIME_UNALIGNED : Nat := 0x300D
/-- a DISCOVER failed the check of R290. -/
def XFB_WIRING_ERROR : Nat := 0x4001
/-- neighbours implied different coordinates (R291). -/
def XFB_COORD_CONFLICT : Nat := 0x4002
/-- notice: coordinates overridden (R292). -/
def XFB_COORD_OVERRIDE : Nat := 0x4003
/-- override written while coordinates valid and not drained (R292). -/
def XFB_OVERRIDE_REFUSED : Nat := 0x4004
/-- a face went down (R308). -/
def XFB_FACE_DOWN : Nat := 0x4010
/-- notice: a face came up. -/
def XFB_FACE_UP : Nat := 0x4011
/-- a face lost ports with Transits admitted (R324). -/
def XFB_FACE_DEGRADED : Nat := 0x4012
/-- packets discarded after HOLD_US (R308). -/
def XFB_HOLD_DROP : Nat := 0x4013
/-- packets discarded for hop count (R309). -/
def XFB_HOP_LIMIT : Nat := 0x4014
/-- packets discarded as unroutable (R303, R315). -/
def XFB_UNROUTABLE : Nat := 0x4015
/-- VC_0 packets discarded (R310). -/
def XFB_VC0_STUCK : Nat := 0x4016
/-- packets with a refused TYPE or VC (R296). -/
def XFB_BAD_TYPE : Nat := 0x4017
/-- non-request packets of another partition discarded (R313). -/
def XFB_PART_DROP : Nat := 0x4018
/-- a setup was refused (R318, R319). -/
def XFB_TRANSIT_REFUSED : Nat := 0x4020
/-- a DMA named an ID without an established matching slot (R321). -/
def XFB_TRANSIT_UNKNOWN : Nat := 0x4021
/-- a face on a Transit's path went down (R322). -/
def XFB_TRANSIT_BROKEN : Nat := 0x4022
/-- SWAP while not drained, or a write to the active bank (R335, R339). -/
def XFB_SWAP_REFUSED : Nat := 0x4030
/-- notice: banks swapped (R335). -/
def XFB_TABLE_SWAP : Nat := 0x4031
/-- notice: retained tables rejected at a warm start (R338). -/
def XFB_TABLES_REBUILT : Nat := 0x4032
/-- weights would break a Transit reservation (R326). -/
def XFB_WEIGHT_REFUSED : Nat := 0x4033
/-- a port left service. -/
def OPT_PORT_DOWN : Nat := 0x5001
/-- notice: a port entered service (R350). -/
def OPT_PORT_UP : Nat := 0x5002
/-- the Exchange check failed (R351). -/
def OPT_PORT_MISWIRED : Nat := 0x5003
/-- a port entered automatic power reduction (R353). -/
def OPT_APR : Nat := 0x5004
/-- a stage's loss passed its limit (R355). -/
def OPT_LOSS_HIGH : Nat := 0x5005
/-- notice: a lane changed channel (R364). -/
def OPT_SPARE_SWAP : Nat := 0x5010
/-- a spare failed calibration, Light or Train (R359, R366). -/
def OPT_SPARE_FAILED : Nat := 0x5011
/-- no usable spare remained (R367, R376). -/
def OPT_SPARE_EXHAUSTED : Nat := 0x5012
/-- a laser reached end of life (R358). -/
def OPT_LASER_EOL : Nat := 0x5013
/-- a lane reached DEGRADED (R362). -/
def OPT_SEEING_DEGRADED : Nat := 0x5020
/-- a lane reached FAIL (R362, R367). -/
def OPT_LANE_FAIL : Nat := 0x5021
/-- a replay found its group gone (R349). -/
def OPT_REPLAY_MISS : Nat := 0x5022
/-- bad groups, counted and coalesced (R347). -/
def OPT_GROUP_BAD : Nat := 0x5023
/-- a port failed calibration. -/
def OPT_COLLIMATOR_FAIL : Nat := 0x5030
/-- notice: a warm start ran the Collimator in full (R360). -/
def OPT_COLLIMATOR_FULL : Nat := 0x5031
/-- the agreement found differing signatures (R390). -/
def COLL_SIGNATURE_MISMATCH : Nat := 0x6001
/-- a member or home core was occulted (R414). -/
def GROUP_MEMBER_LOST : Nat := 0x6002
/-- a residue check failed twice (R407). -/
def COLL_RESIDUE_ERROR : Nat := 0x6003
/-- notice: a residue check failed once and the retry passed (R407). -/
def COLL_RESIDUE_RETRY : Nat := 0x6004
/-- the runtime aborted the instance (R419). -/
def COLL_ABORTED : Nat := 0x6005
/-- a packet exhausted its resends (R413). -/
def COLL_TRANSFER_FAILED : Nat := 0x6006
/-- VALID refused, or a COLL named an invalid slot or came from a core other than HOME_CORE. -/
def COLL_GROUP_INVALID : Nat := 0x6007
/-- a configuration write was dropped (R382). -/
def COLL_GROUP_BUSY : Nat := 0x6008
/-- notice: a MULTICAST did not reach every member (R402, R416). -/
def COLL_PARTIAL : Nat := 0x6009
/-- notice and accusation: a member has held the group up for STRAGGLER_MS (R418). -/
def STRAGGLER : Nat := 0x600A
/-- a synchronisation counter moved below its window, as Counters, Fences and Barriers defines. -/
def SYN_UNDERFLOW : Nat := 0x6101
/-- a synchronisation counter moved beyond its window, as Counters, Fences and Barriers defines. -/
def SYN_OVERFLOW : Nat := 0x6102
/-- a Meridian start arrived after its chosen tick, as Counters, Fences and Barriers defines. -/
def SYN_MERIDIAN_LATE : Nat := 0x6103
/-- bad frames, counted and coalesced (R453). -/
def DLK_CRC_ERROR : Nat := 0x7001
/-- notice: a link retrained (R457). -/
def DLK_RETRAIN : Nat := 0x7002
/-- a link agreed a width below full (R461). -/
def DLK_WIDTH_REDUCED : Nat := 0x7003
/-- an exchange failed (R459). -/
def WIDTH_MISMATCH : Nat := 0x7004
/-- a link stays down (R460). -/
def DLK_LINK_FAILED : Nat := 0x7005
/-- a C-die moved to its alternate link (R466). -/
def DLK_FAILOVER : Nat := 0x7006
/-- frames discarded after a reset of one end (R464). -/
def DLK_FRAMES_LOST : Nat := 0x7007
/-- a DOWN write was dropped (R471). -/
def DLK_DOWN_REFUSED : Nat := 0x7008
/-- a die was below its minimum stepping (R474). -/
def DLK_STEPPING_BELOW_MIN : Nat := 0x7010
/-- a die gave no identity at start (R473). -/
def DLK_DIE_ABSENT : Nat := 0x7011
/-- the link left service (R496). -/
def HLK_LINK_DOWN : Nat := 0x8001
/-- notice: the link entered service. -/
def HLK_LINK_UP : Nat := 0x8002
/-- a companion HELLO failed R478. -/
def HLK_HELLO_REFUSED : Nat := 0x8003
/-- a recall went unanswered (R492). -/
def HLK_SNOOP_TIMEOUT : Nat := 0x8004
/-- lines discarded or units poisoned at link loss (R496). -/
def HLK_LINES_LOST : Nat := 0x8005
/-- a companion request was refused in P2 or P3 (R497). -/
def HLK_PARKED : Nat := 0x8006
/-- an unknown or malformed message (R481). -/
def HLK_BAD_MESSAGE : Nat := 0x8007
/-- a message exceeded its credits (R482). -/
def HLK_CREDIT_ERROR : Nat := 0x8008
/-- a TARGET write was refused (R506). -/
def INT_TARGET_REFUSED : Nat := 0x8010
/-- software set a shared source in the narrow configuration (R505). -/
def INT_SWSET_REFUSED : Nat := 0x8011
/-- an EOI did not name the highest running handler (R503). -/
def INT_EOI_UNMATCHED : Nat := 0x8012
/-- a register write was dropped (R4, R511, R537). -/
def BOOT_WRITE_REFUSED : Nat := 0x9001
/-- an access was refused before Ready, or in FAILED (R515, R519). -/
def BOOT_NOT_READY : Nat := 0x9002
/-- a warm start or wake became a cold start (R510, R519). -/
def BOOT_WARM_FAILED : Nat := 0x9003
/-- neither firmware slot verified (R519). -/
def BOOT_NO_FIRMWARE : Nat := 0x9004
/-- the other firmware slot was started (R538). -/
def BOOT_FW_FALLBACK : Nat := 0x9005
/-- an installed image failed verification (R539). -/
def BOOT_FW_VERIFY_FAIL : Nat := 0x9006
/-- the other Almanac slot was used (R523). -/
def BOOT_ALMANAC_FALLBACK : Nat := 0x9007
/-- neither Almanac slot was valid (R519). -/
def BOOT_ALMANAC_INVALID : Nat := 0x9008
/-- a stack failed both training attempts of one cold start (R519, R234). -/
def BOOT_HBM_STACK_FAIL : Nat := 0x9009
/-- the device cannot serve (R519). -/
def BOOT_FAILED : Nat := 0x900A
/-- the management watchdog expired (R545). -/
def BOOT_WATCHDOG : Nat := 0x900B
/-- notice: a handover completed (R540). -/
def BOOT_HANDOVER_DONE : Nat := 0x900C
/-- the previous firmware was restarted (R542). -/
def BOOT_HANDOVER_REVERTED : Nat := 0x900D
/-- a handover was refused (R543). -/
def BOOT_HANDOVER_REFUSED : Nat := 0x900E
/-- an I3C request arrived during a handover (R541). -/
def BOOT_HANDOVER_BUSY : Nat := 0x900F
/-- journal writes held by the flash window (R533). -/
def EPH_JOURNAL_BEHIND : Nat := 0x9010
/-- replay stopped at a bad record (R531). -/
def EPH_JOURNAL_CORRUPT : Nat := 0x9011
/-- notice: the journal was compacted (R532). -/
def EPH_COMPACTED : Nat := 0x9012
/-- a setting could not be retained (R534). -/
def EPH_FULL : Nat := 0x9013
/-- notice: settings were discarded (R525). -/
def EPH_DISCARDED : Nat := 0x9014
/-- an I3C private write of a wrong length or command was discarded (R39). -/
def I3C_FORMAT_ERROR : Nat := 0x9015
/-- one or both signatures failed (R550). -/
def SEC_SIG_FAIL : Nat := 0x9101
/-- chain, role or KIND refused (R550). -/
def SEC_CHAIN_INVALID : Nat := 0x9102
/-- an image was below the firmware floor (R552). -/
def SEC_ROLLBACK : Nat := 0x9103
/-- the derived identity did not match its certificate (R554). -/
def SEC_IDENTITY_FAIL : Nat := 0x9104
/-- a report was refused without an identity (R563). -/
def SEC_NO_IDENTITY : Nat := 0x9105
/-- REQ while a report was being made (R562). -/
def SEC_ATTEST_BUSY : Nat := 0x9106
/-- notice: a floor record was appended (R560). -/
def SEC_FLOOR_RAISED : Nat := 0x9107
/-- a floor record was ignored (R559). -/
def SEC_FLOOR_RECORD_INVALID : Nat := 0x9108
/-- notice: the owner in force changed (R557). -/
def SEC_OWNER_CHANGED : Nat := 0x9109
/-- a SUBMIT failed (R567). -/
def DBG_TOKEN_REFUSED : Nat := 0x9110
/-- SUBMITs are dropped for a time (R567). -/
def DBG_LOCKOUT : Nat := 0x9111
/-- notice: the debug state changed (R568, R569). -/
def DBG_STATE_CHANGED : Nat := 0x9112
/-- VENDOR entered and identity keys erased (R568). -/
def DBG_VENDOR_ENTERED : Nat := 0x9113
/-- an access not permitted in the debug state (R564). -/
def DBG_ACCESS_REFUSED : Nat := 0x9114
/-- input below 48.0 V (R573). -/
def PWR_INPUT_LOW : Nat := 0xA001
/-- input above 64.0 V (R573). -/
def PWR_INPUT_HIGH : Nat := 0xA002
/-- the input-loss path ran (R574). -/
def PWR_INPUT_LOSS : Nat := 0xA003
/-- a stage-one converter failed (R25). -/
def PWR_CONVERTER_FAIL : Nat := 0xA004
/-- a TARGET or EN write was dropped (R581, R590). -/
def PWR_STATE_REFUSED : Nat := 0xA005
/-- notice: a state entry or exit ended (R582). -/
def PWR_STATE_CHANGED : Nat := 0xA006
/-- droop trips, counted and coalesced (R589). -/
def CLK_DROOP : Nat := 0xA010
/-- an island PLL lost lock (R594). -/
def CLK_PLL_UNLOCK : Nat := 0xA011
/-- the Guide Star was lost (R593). -/
def CLK_REF_LOST : Nat := 0xA012
/-- the Chronograph left ALIGNED (R446). -/
def CLK_CHRONO_UNALIGNED : Nat := 0xA013
/-- a die entered Warning (R599). -/
def THM_WARNING : Nat := 0xA020
/-- a die entered Throttle (R599, R600). -/
def THM_THROTTLE : Nat := 0xA021
/-- the shutdown path ran (R601). -/
def THM_SHUTDOWN : Nat := 0xA022
/-- a sensor was discarded (R597). -/
def THM_SENSOR_DISCARDED : Nat := 0xA023
/-- a die went blind (R598). -/
def THM_DIE_BLIND : Nat := 0xA024
/-- a comparator failed its test (R602). -/
def THM_COMPARATOR_FAIL : Nat := 0xA025
/-- the window closed, or a flash write was refused (R604). -/
def THM_FLASH_WINDOW_CLOSED : Nat := 0xA026
/-- HBM_EN set with an invalid base (R608). -/
def LOG_HBM_REFUSED : Nat := 0xB002
/-- a unit was occulted, here or by notice (R614, R617). -/
def SAFE_OCCULTED : Nat := 0xB010
/-- an occultation was lifted (R614, R617, R655). -/
def SAFE_RESTORED : Nat := 0xB011
/-- a device was declared lost (R619). -/
def SAFE_DEVICE_LOST : Nat := 0xB012
/-- SAFE_OCCULT_CTRL refused (R619, R621). -/
def SAFE_OCCULT_REFUSED : Nat := 0xB013
/-- summary at a root or a suspect (R624). -/
def SAFE_ACCUSATION : Nat := 0xB020
/-- a unit reached WATCH (R629). -/
def HEALTH_WATCH : Nat := 0xB030
/-- a unit reached RETIRE (R629). -/
def HEALTH_RETIRE : Nat := 0xB031
/-- marks unequal (R636). -/
def LOCKSTEP_MISMATCH : Nat := 0xB040
/-- partner's mark missing (R635). -/
def LOCKSTEP_PARTNER_LOST : Nat := 0xB041
/-- a unit failed First Light (R639). -/
def FIRST_LIGHT_FAIL : Nat := 0xB050
/-- notice: First Light passed. -/
def FIRST_LIGHT_PASS : Nat := 0xB051
/-- reference set digest wrong (R638). -/
def FIRST_LIGHT_REFSET_INVALID : Nat := 0xB052
/-- on-demand request refused (R640). -/
def FIRST_LIGHT_REFUSED : Nat := 0xB053
/-- a self-test or heartbeat failed (R644, R645). -/
def SAFE_MONITOR_FAIL : Nat := 0xB060
/-- Plate range or request refused (R641). -/
def PLATE_REFUSED : Nat := 0xB070

end Code

/-- R16: the class of a code. -/
def codeClass (c : Nat) : Nat := c / 0x1000

end Sys2Proof
end

