-- ==== Sys2Proof/Machine/Flags.lean ====
section
/-! DEFINITION. Numbers and arithmetic (chapter 05): the element formats, exact values, every rounding of the array,
the accumulator and the vector unit, the conversions, and the numeric exceptions each of them raises. Finite values
are exact dyadic numbers; a rounding happens only where a rule names one. -/

namespace Sys2Proof

/-- A value of an element format: NaN, an infinity, or the finite (−1)^neg × m × 2^e (a zero keeps its sign). -/
inductive FV where
  | nan
  | inf (neg : Bool)
  | num (neg : Bool) (m : Nat) (e : Int)
  deriving DecidableEq, Repr

/-- R173: how a format spends its highest exponent: on infinities and NaNs, on one NaN mantissa, or on finite values. -/
inductive Specials where
  | ieee | lastNan | none
  deriving DecidableEq, Repr

/-- R172: a floating-point element format. -/
structure Fmt where
  ebits : Nat
  mbits : Nat
  bias : Nat
  specials : Specials
  deriving DecidableEq, Repr

namespace Fmt

def e4m3 : Fmt := ⟨4, 3, 7, .lastNan⟩
def e5m2 : Fmt := ⟨5, 2, 15, .ieee⟩
def e3m2 : Fmt := ⟨3, 2, 3, .none⟩
def e2m3 : Fmt := ⟨2, 3, 1, .none⟩
def e2m1 : Fmt := ⟨2, 1, 1, .none⟩
def bf16 : Fmt := ⟨8, 7, 127, .ieee⟩
def b32 : Fmt := ⟨8, 23, 127, .ieee⟩

/-- Bits of an encoding. -/
def width (f : Fmt) : Nat := 1 + f.ebits + f.mbits

/-- Bytes of an element in a store (FP8, BF16 and binary32). -/
def bytes (f : Fmt) : Nat := f.width / 8

/-- R173, R175: the NaN that the AK20 writes. -/
def nanBits (f : Fmt) : Nat :=
  match f.specials with
  | .ieee => if f = e5m2 then 0x7F else (2 ^ f.ebits - 1) * 2 ^ f.mbits + 2 ^ (f.mbits - 1)
  | _ => 0x7F

/-- The exponent of the last place of a subnormal. -/
def minUlp (f : Fmt) : Int := 1 - (f.bias : Int) - f.mbits

/-- R172: the largest finite value, as a significand and the exponent of its last place. -/
def maxFinite (f : Fmt) : Nat × Int :=
  match f.specials with
  | .ieee => (2 ^ (f.mbits + 1) - 1, (2 ^ f.ebits : Nat) - 2 - f.bias - f.mbits)
  | .lastNan => (2 ^ (f.mbits + 1) - 2, (2 ^ f.ebits : Nat) - 1 - f.bias - f.mbits)
  | .none => (2 ^ (f.mbits + 1) - 1, (2 ^ f.ebits : Nat) - 1 - f.bias - f.mbits)

/-- R172 to R174: the value of an encoding. -/
def decode (f : Fmt) (b : Nat) : FV :=
  let s := bitOf b (f.ebits + f.mbits)
  let ex := bitsOf b (f.ebits + f.mbits - 1) f.mbits
  let ma := b % 2 ^ f.mbits
  let top := 2 ^ f.ebits - 1
  if ex = top ∧ f.specials = .ieee then (if ma = 0 then .inf s else .nan)
  else if ex = top ∧ f.specials = .lastNan ∧ ma = 2 ^ f.mbits - 1 then .nan
  else if ex = 0 then .num s ma f.minUlp
  else .num s (2 ^ f.mbits + ma) ((ex : Int) - f.bias - f.mbits)

end Fmt

/-- Two to a power, for a non-negative exponent; zero below. -/
def pow2 (e : Int) : Nat := if 0 ≤ e then 2 ^ e.toNat else 0

/-- A significand moved down by `sh` places, rounded to nearest, ties to even. -/
def shiftRne (m sh : Nat) : Nat :=
  let q := m / 2 ^ sh
  let r := m % 2 ^ sh
  if sh = 0 then q
  else if r < 2 ^ (sh - 1) then q
  else if 2 ^ (sh - 1) < r then q + 1
  else q + q % 2

/-- The exponent of the last place of a format at the magnitude m × 2^e (m positive), its exponent unbounded above. -/
def Fmt.ulpAt (f : Fmt) (m : Nat) (e : Int) : Int :=
  max ((Nat.log2 m : Int) + e - f.mbits) f.minUlp

/-- R189: m × 2^e rounded once to nearest, ties to even, with the exponent range unbounded above: a significand and the
exponent of its last place. -/
def Fmt.roundMag (f : Fmt) (m : Nat) (e : Int) : Nat × Int :=
  if m = 0 then (0, f.minUlp)
  else
    let u := f.ulpAt m e
    if u ≤ e then (m * pow2 (e - u), u) else (shiftRne m (u - e).toNat, u)

/-- Whether q × 2^u exceeds the largest finite value of a format. -/
def Fmt.exceeds (f : Fmt) (q : Nat) (u : Int) : Bool :=
  let (mq, mu) := f.maxFinite
  if u ≤ mu then decide (mq * pow2 (mu - u) < q) else decide (mq < q * pow2 (u - mu))

/-- The encoding of a rounded finite magnitude that the format holds. -/
def Fmt.encodeMag (f : Fmt) (neg : Bool) (q : Nat) (u : Int) : Nat :=
  let s := if neg then 2 ^ (f.ebits + f.mbits) else 0
  if q < 2 ^ f.mbits then s + q
  else if q = 2 ^ (f.mbits + 1) then s + (u + 1 + f.mbits + f.bias).toNat * 2 ^ f.mbits
  else s + (u + f.mbits + f.bias).toNat * 2 ^ f.mbits + (q - 2 ^ f.mbits)

/-- The infinity of a format that has one. -/
def Fmt.infBits (f : Fmt) (neg : Bool) : Nat :=
  (if neg then 2 ^ (f.ebits + f.mbits) else 0) + (2 ^ f.ebits - 1) * 2 ^ f.mbits

/-- The largest finite encoding of a format. -/
def Fmt.maxBits (f : Fmt) (neg : Bool) : Nat := f.encodeMag neg f.maxFinite.1 f.maxFinite.2

/-- R189, R190: a conversion that narrows: the encoding, and whether NUM_OVERFLOW arises. -/
def Fmt.convert (f : Fmt) : FV → Nat × Bool
  | .nan => (f.nanBits, false)
  | .inf neg => if f.specials = .ieee then (f.infBits neg, false) else (f.maxBits neg, true)
  | .num neg m e =>
    let (q, u) := f.roundMag m e
    if f.exceeds q u then (f.maxBits neg, true) else (f.encodeMag neg q u, false)

/-- A result of array or vector arithmetic in binary32: rounded to nearest, ties to even; a finite result beyond the
largest binary32 is an infinity (R182, R195). -/
def round32 : FV → Nat
  | .nan => Fmt.b32.nanBits
  | .inf neg => Fmt.b32.infBits neg
  | .num neg m e =>
    let (q, u) := Fmt.b32.roundMag m e
    if Fmt.b32.exceeds q u then Fmt.b32.infBits neg else Fmt.b32.encodeMag neg q u

/-- The value of a binary32 word. -/
def val32 (b : Nat) : FV := Fmt.b32.decode b

def FV.isNan : FV → Bool
  | .nan => true
  | _ => false

def FV.neg : FV → FV
  | .nan => .nan
  | .inf s => .inf (!s)
  | .num s m e => .num (!s) m e

def FV.isZero : FV → Bool
  | .num _ 0 _ => true
  | _ => false

/-- A result and whether NUM_INVALID arises with it (R199). -/
abbrev Exc := FV × Bool

/-- R45, R182, R195: an exact product. -/
def FV.mul : FV → FV → Exc
  | .nan, _ => (.nan, false)
  | _, .nan => (.nan, false)
  | .inf s, .inf t => (.inf (s != t), false)
  | .inf s, .num t m _ => if m = 0 then (.nan, true) else (.inf (s != t), false)
  | .num s m _, .inf t => if m = 0 then (.nan, true) else (.inf (s != t), false)
  | .num s m e, .num t n f => (.num (s != t) (m * n) (e + f), false)

/-- The signed significand of a finite value at the exponent `lo` (no larger than its own). -/
def FV.at (lo : Int) : FV → Int
  | .num s m e => if s then -((m * pow2 (e - lo) : Nat) : Int) else ((m * pow2 (e - lo) : Nat) : Int)
  | _ => 0

def FV.exp : FV → Int
  | .num _ _ e => e
  | _ => 0

def FV.sign : FV → Bool
  | .num s _ _ => s
  | .inf s => s
  | .nan => false

def FV.isInf : FV → Bool
  | .inf _ => true
  | _ => false

/-- R178, R182: the exact sum of some values. A zero sum is −0 only when every term is a negative zero. -/
def FV.sum (ts : List FV) : Exc :=
  if ts.any FV.isNan then (.nan, false)
  else
    let infs := ts.filter FV.isInf
    if infs.any FV.sign && infs.any (fun x => !x.sign) then (.nan, true)
    else match infs with
      | x :: _ => (x, false)
      | [] =>
        let lo : Int := ts.foldl (fun a x => min a x.exp) 0
        let z : Int := ts.foldl (fun a x => a + x.at lo) 0
        if z = 0 then (.num (ts.all fun x => x.isZero && x.sign) 0 0, false)
        else (.num (decide (z < 0)) z.natAbs lo, false)

/-- R178: one cell: the incoming binary32 partial sum, one exact product or two, and one rounding. An exception arises
only when no operand is a NaN (R199). -/
def cellStep (psum : Nat) (pairs : List (FV × FV)) : Nat × Bool :=
  let ops := val32 psum :: (pairs.map Prod.fst ++ pairs.map Prod.snd)
  if ops.any FV.isNan then (Fmt.b32.nanBits, false)
  else
    let prods := pairs.map fun p => p.1.mul p.2
    if prods.any Prod.snd then (Fmt.b32.nanBits, true)
    else
      let (r, inv) := FV.sum (val32 psum :: prods.map Prod.fst)
      (round32 r, inv)

/-- R46, R179: a column: the 128 cells in row order, from a partial sum of +0. Answers the column sum and whether any
cell raised NUM_INVALID. -/
def columnSum (cells : List (List (FV × FV))) : Nat × Bool :=
  cells.foldl (fun a c => let (r, i) := cellStep a.1 c; (r, a.2 || i)) (0, false)

/-- One binary32 addition, rounded to nearest, ties to even. -/
def add32 (a b : Nat) : Nat × Bool :=
  let (r, inv) := FV.sum [val32 a, val32 b]
  (round32 r, inv)

/-- R186: the mixing procedure; R631 uses its full 64-bit result. -/
def mix64 (seed n1 : Nat) : Nat :=
  let M := 2 ^ 64
  let x := (seed + 0x9E3779B97F4A7C15 * n1) % M
  let x := ((Nat.xor x (x / 2 ^ 30)) * 0xBF58476D1CE4E5B9) % M
  let x := ((Nat.xor x (x / 2 ^ 27)) * 0x94D049BB133111EB) % M
  Nat.xor x (x / 2 ^ 31)

/-- R186: the 16-bit number for entry j of slot s at term count c. -/
def srRandom (seed j s c : Nat) : Nat := bitsOf (mix64 seed (j + 128 * s + 524288 * c + 1)) 63 48

/-- R185: stochastic rounding of an exact sum to binary32. -/
def roundSr (r : Nat) : FV → Nat
  | .nan => Fmt.b32.nanBits
  | .inf neg => Fmt.b32.infBits neg
  | .num neg m e =>
    if m = 0 then 0
    else
      let f := Fmt.b32
      let u0 := f.ulpAt m e
      let (mq, mu) := f.maxFinite
      -- a: the finite value nearest towards zero, and the last place u at which the rest is measured
      let (q, u) := if mu < u0 then (mq, mu) else ((if u0 ≤ e then m * pow2 (e - u0) else m / 2 ^ (u0 - e).toNat), u0)
      -- floor(((|v| − |a|) / 2^u) × 2^16)
      let k := min e (u - 16)
      let rest := m * pow2 (e - k) - q * pow2 (u - k)
      let fl := rest / 2 ^ ((u - 16 - k).toNat)
      if r < fl then (if q = mq ∧ u = mu then f.infBits neg else f.encodeMag neg (q + 1) u)
      else f.encodeMag neg q u

/-! ### The vector unit -/

/-- R195: which of two values is larger; −0 lies below +0. -/
def FV.lt (a b : FV) : Bool :=
  match a, b with
  | .nan, _ => false
  | _, .nan => false
  | .inf s, .inf t => s && !t
  | .inf s, .num .. => s
  | .num .., .inf t => !t
  | .num s m e, .num t n f =>
    let lo := min e f
    let x := (FV.num s m e).at lo
    let y := (FV.num t n f).at lo
    decide (x < y) || (decide (x = y) && s && !t)

/-- R195: the maximum and the minimum of two binary32 words. -/
def max32 (a b : Nat) : Nat :=
  if (val32 a).isNan || (val32 b).isNan then Fmt.b32.nanBits else if (val32 a).lt (val32 b) then b else a

def min32 (a b : Nat) : Nat :=
  if (val32 a).isNan || (val32 b).isNan then Fmt.b32.nanBits else if (val32 b).lt (val32 a) then b else a

def neg32 (a : Nat) : Nat := if (val32 a).isNan then Fmt.b32.nanBits else round32 (val32 a).neg

def mul32 (a b : Nat) : Nat × Bool :=
  let (r, inv) := (val32 a).mul (val32 b)
  (round32 r, inv)

/-- R192: the fused A × B + D. -/
def fma32 (a b d : Nat) : Nat × Bool := cellStep d [(val32 a, val32 b)]

/-- A positive real known as m × 2^e or a little above it (`more`), rounded to binary32; m must hold more than 25 bits
unless the value is exact. -/
def roundSticky (neg : Bool) (m : Nat) (e : Int) (more : Bool) : Nat :=
  round32 (.num neg (2 * m + more.toNat) (e - 1))

/-- R194, R195: the reciprocal, correctly rounded. -/
def recip32 (a : Nat) : Nat × Bool :=
  match val32 a with
  | .nan => (Fmt.b32.nanBits, false)
  | .inf s => (round32 (.num s 0 0), false)
  | .num s m e =>
    if m = 0 then (Fmt.b32.infBits s, false)
    else (roundSticky s (2 ^ 64 / m) (-e - 64) (decide (2 ^ 64 % m ≠ 0)), false)

/-- The integer square root, one bit at a time from the highest. -/
def isqrtBits : Nat → Nat → Nat → Nat
  | 0, _, r => r
  | k + 1, n, r => if (r + 2 ^ k) * (r + 2 ^ k) ≤ n then isqrtBits k n (r + 2 ^ k) else isqrtBits k n r

/-- R194, R195: the reciprocal square root, correctly rounded. -/
def rsqrt32 (a : Nat) : Nat × Bool :=
  match val32 a with
  | .nan => (Fmt.b32.nanBits, false)
  | .inf s => if s then (Fmt.b32.nanBits, true) else (0, false)
  | .num s m e =>
    if m = 0 then (Fmt.b32.infBits s, false)
    else if s then (Fmt.b32.nanBits, true)
    else
      let (m, e) := if e % 2 = 0 then (m, e) else (2 * m, e - 1)
      let q := isqrtBits 81 (2 ^ 160 / m) 0
      (roundSticky false q (-(e / 2) - 80) (decide (q * q * m ≠ 2 ^ 160)), false)

/-- The fraction bits of the exponential's series. -/
def expBits : Nat := 320

/-- The sum of the Taylor terms x^n / n! from term n on, in units of 2^−320; `x` in the same units. -/
def expSeries (x : Nat) : Nat → Nat → Nat → Nat
  | 0, _, _ => 0
  | k + 1, n, term => term + expSeries x k (n + 1) (term * x / ((n + 1) * 2 ^ expBits))

/-- e^x of a non-negative x given in units of 2^−320, in units of 2^−320 rounded down. -/
def expFix (x : Nat) : Nat := expSeries x 600 0 (2 ^ expBits)

/-- R194, R195: the exponential of a binary32 word, as the binary32 value nearest the exact result. DEDUCED (log entry
64): the exact result is approached to within 2^−160 of itself, which decides every rounding unless the exact result
lies closer than that to a midpoint of two binary32 values. -/
def exp32 (a : Nat) : Nat × Bool :=
  match val32 a with
  | .nan => (Fmt.b32.nanBits, false)
  | .inf s => if s then (0, false) else (Fmt.b32.infBits false, false)
  | .num s m e =>
    if m = 0 then (0x3F800000, false)
    else if !s && (val32 0x42B17218).lt (.num s m e) then (Fmt.b32.infBits false, false)
    else if s && (FV.num false 105 0).lt (.num false m e) then (0, false)
    else
      -- the argument in units of 2^−320
      let x := if -320 ≤ e then m * pow2 (e + 320) else m / 2 ^ ((-320 - e).toNat)
      if x = 0 then (0x3F800000, false)
      else if s then (roundSticky false (2 ^ (2 * expBits) / expFix x) (-(expBits : Int)) true, false)
      else (roundSticky false (expFix x) (-(expBits : Int)) true, false)

/-- R194: SiLU in four rounded steps; −∞ gives −0 and raises nothing. -/
def silu32 (a : Nat) : Nat × Bool :=
  match val32 a with
  | .inf true => (0x80000000, false)
  | _ =>
    let e := (exp32 (neg32 a)).1
    let d := add32 0x3F800000 e
    let q := recip32 d.1
    let r := mul32 a q.1
    (r.1, d.2 || r.2)

/-- R204: the Spectrograph bin of a value. -/
def specBin : FV → Nat
  | .nan => 63
  | .inf _ => 62
  | .num _ m e =>
    if m = 0 then 0
    else
      let x := (Nat.log2 m : Int) + e
      if x ≤ -31 then 1 else if 30 ≤ x then 62 else (x + 32).toNat

/-- One bit of the CRC-32 of IEEE 802.3, least significant bit first (polynomial 0x04C1_1DB7 reflected). -/
def crcBit (c : Nat) : Nat := (c / 2) ^^^ (c % 2 * 0xEDB88320)

/-- CRC-32 of IEEE 802.3 over bytes (R346, R606). -/
def crc32 (bs : List Byte) : Nat :=
  (bs.foldl (fun c b => crcBit (crcBit (crcBit (crcBit (crcBit (crcBit (crcBit (crcBit (c ^^^ b.toNat)))))))))
    0xFFFFFFFF) ^^^ 0xFFFFFFFF

/-- A CRC of `w` bits, most significant bit first, starting from zero: ECMA-182 of R452 with w = 64, the sideband's of
R472 with w = 16. -/
def crcMsb (w poly : Nat) (bs : List Byte) : Nat :=
  bs.foldl (fun c b =>
    (List.range 8).foldl (fun c _ =>
      if c.testBit (w - 1) then ((c * 2) % 2 ^ w) ^^^ poly else (c * 2) % 2 ^ w) (c ^^^ (b.toNat * 2 ^ (w - 8)))) 0

/-- R452: CRC-64 with the ECMA-182 polynomial. -/
def crc64 (bs : List Byte) : Nat := crcMsb 64 0x42F0E1EBA9EA3693 bs

/-- R472: CRC-16 with the polynomial 0x1021. -/
def crc16 (bs : List Byte) : Nat := crcMsb 16 0x1021 bs

/-- R199: the numeric exceptions of one row, slot, vector or block. -/
structure NumExc where
  mxNan : Nat := 0
  invalid : Bool := false
  overflow : Bool := false
  deriving DecidableEq, Repr

end Sys2Proof
end

