-- ==== Sys2Proof/Machine/Operands.lean ====
section
/-! DEFINITION. The 128-bit instructions of a core (chapter 03): header and class fields, the encodings that the
sequencer refuses (R111, R196), the store addresses an instruction names (R99, R112, R650), and the tile, row and
element layouts of engines and vectors (R50, R52, R53). -/

namespace Sys2Proof

/-- The operations of the instruction tables of chapter 03. -/
inductive Op where
  | stream | emit | loads
  | vadd | vsub | vmul | vfma | vmax | vmin | vscale | vcvt | vexp | vrecip | vrsqrt | vsilu | vgate
  | vrsum | vrmax | vlsum | vlmax | attn
  | dma | signal | wait | fence | gld | gst | gatom | coll
  | nop | halt | pause | spawn | br | brz | brnz | brlt | tli | tadd | tmul | tand | tor | tshl | tshr
  | tld | tst | rdtime | rdcnt
  deriving DecidableEq, Repr

/-- R110: the operation that CLASS and OP name, if any. -/
def opOf (cls op : Nat) : Option Op :=
  match cls, op with
  | 0x1, 0x00 => some .stream
  | 0x1, 0x01 => some .emit
  | 0x2, 0x00 => some .loads
  | 0x3, 0x00 => some .vadd
  | 0x3, 0x01 => some .vsub
  | 0x3, 0x02 => some .vmul
  | 0x3, 0x03 => some .vfma
  | 0x3, 0x04 => some .vmax
  | 0x3, 0x05 => some .vmin
  | 0x3, 0x06 => some .vscale
  | 0x3, 0x07 => some .vcvt
  | 0x3, 0x08 => some .vexp
  | 0x3, 0x09 => some .vrecip
  | 0x3, 0x0A => some .vrsqrt
  | 0x3, 0x0B => some .vsilu
  | 0x3, 0x0C => some .vgate
  | 0x3, 0x10 => some .vrsum
  | 0x3, 0x11 => some .vrmax
  | 0x3, 0x12 => some .vlsum
  | 0x3, 0x13 => some .vlmax
  | 0x3, 0x20 => some .attn
  | 0x4, 0x00 => some .dma
  | 0x5, 0x00 => some .signal
  | 0x5, 0x01 => some .wait
  | 0x5, 0x02 => some .fence
  | 0x6, 0x00 => some .gld
  | 0x6, 0x01 => some .gst
  | 0x6, 0x02 => some .gatom
  | 0x7, 0x00 => some .coll
  | 0x8, 0x00 => some .nop
  | 0x8, 0x01 => some .halt
  | 0x8, 0x02 => some .pause
  | 0x8, 0x03 => some .spawn
  | 0x8, 0x04 => some .br
  | 0x8, 0x05 => some .brz
  | 0x8, 0x06 => some .brnz
  | 0x8, 0x07 => some .brlt
  | 0x8, 0x08 => some .tli
  | 0x8, 0x09 => some .tadd
  | 0x8, 0x0A => some .tmul
  | 0x8, 0x0B => some .tand
  | 0x8, 0x0C => some .tor
  | 0x8, 0x0D => some .tshl
  | 0x8, 0x0E => some .tshr
  | 0x8, 0x10 => some .tld
  | 0x8, 0x11 => some .tst
  | 0x8, 0x12 => some .rdtime
  | 0x8, 0x13 => some .rdcnt
  | _, _ => none

/-- An instruction word and the operation its header names. -/
structure Ins where
  op : Op
  w : Nat
  deriving DecidableEq, Repr

namespace Ins

/-- Bits [hi:lo] of the instruction. -/
def f (i : Ins) (hi lo : Nat) : Nat := bitsOf i.w hi lo

def ndet (i : Ins) : Bool := bitOf i.w 117
def sig (i : Ins) : Bool := bitOf i.w 116
def cnt (i : Ins) : Nat := i.f 115 104
def idx (i : Ins) : Nat := i.f 103 100

/-- The engine an engine instruction names. -/
def eng (i : Ins) : Nat := i.f 99 99

-- STREAM
def pair (i : Ins) : Bool := bitOf i.w 98
def acc (i : Ins) : Bool := bitOf i.w 97
def src (i : Ins) : Bool := bitOf i.w 96
def fmt (i : Ins) : Nat := i.f 95 92
def rows (i : Ins) : Nat := i.f 91 76
def accBase (i : Ins) : Nat := i.f 75 64
/-- ADDR of STREAM, EMIT, LOADS, DMA and COLL. -/
def addr (i : Ins) : Nat := i.f 63 32
-- EMIT
def intlv (i : Ins) : Bool := bitOf i.w 98
def ofmt (i : Ins) : Nat := i.f 97 96
def scale (i : Ins) : Int := sext 8 (i.f 95 88)
def slot (i : Ins) : Nat := i.f 87 76
def count (i : Ins) : Nat := i.f 75 64 + 1
def stride (i : Ins) : Nat := i.f 31 16
-- LOADS
def mode (i : Ins) : Nat := i.f 98 97
def etype (i : Ins) : Nat := i.f 96 96
-- VEC
def ta (i : Ins) : Nat := i.f 99 98
def tb (i : Ins) : Nat := i.f 97 96
def td (i : Ins) : Nat := i.f 95 94
def ts (i : Ins) : Nat := i.f 93 90
def len (i : Ins) : Nat := i.f 72 57
def va (i : Ins) : Nat := 64 * i.f 56 38
def vb (i : Ins) : Nat := 64 * i.f 37 19
def vd (i : Ins) : Nat := 64 * i.f 18 0
-- SYNC
def cntr (i : Ins) : Nat := i.f 99 88
def value (i : Ins) : Nat := i.f 87 40
def dest (i : Ins) : Nat := i.f 39 38
def tdev (i : Ins) : Nat := i.f 37 34
def core (i : Ins) : Nat := i.f 33 27
def sigFence (i : Ins) : Bool := bitOf i.w 26
def tval (i : Ins) : Nat := i.f 39 36
def timeoutUs (i : Ins) : Nat := i.f 35 20
def queueSel (i : Ins) : Nat := i.f 19 16
def tres (i : Ins) : Nat := i.f 15 12
def scope (i : Ins) : Nat := i.f 99 96
-- GAS
def taddr (i : Ins) : Nat := i.f 99 96
def key (i : Ins) : Nat := i.f 95 80
def aop (i : Ins) : Nat := i.f 79 77
def signed (i : Ins) : Bool := bitOf i.w 76
def w64 (i : Ins) : Bool := bitOf i.w 75
def ret (i : Ins) : Bool := bitOf i.w 74
def topa (i : Ins) : Nat := i.f 73 70
def topb (i : Ins) : Nat := i.f 69 66
def tdst (i : Ins) : Nat := i.f 65 62
def saddr (i : Ins) : Nat := i.f 56 32
-- DMA, COLL
def engine (i : Ins) : Nat := i.f 99 99
def group (i : Ins) : Nat := i.f 99 92
-- CTRL
def ctd (i : Ins) : Nat := i.f 99 96
def cta (i : Ins) : Nat := i.f 95 92
def ctb (i : Ins) : Nat := i.f 91 88
def imm (i : Ins) : Nat := i.f 63 0

end Ins

def Op.isVec : Op → Bool
  | .vadd | .vsub | .vmul | .vfma | .vmax | .vmin | .vscale | .vcvt | .vexp | .vrecip | .vrsqrt | .vsilu | .vgate
  | .vrsum | .vrmax | .vlsum | .vlmax => true
  | _ => false

def Op.isCtrl : Op → Bool
  | .nop | .halt | .pause | .spawn | .br | .brz | .brnz | .brlt | .tli | .tadd | .tmul | .tand | .tor | .tshl | .tshr
  | .tld | .tst | .rdtime | .rdcnt => true
  | _ => false

/-- The output row bytes of an EMIT. -/
def Ins.emitRow (i : Ins) : Nat :=
  match i.ofmt with
  | 0 => 512
  | 1 => 256
  | _ => if i.intlv then 256 else 128

/-- R196: operations whose TD must be binary32. -/
def Op.needs32 : Op → Bool
  | .vrsum | .vlsum | .vexp | .vrecip | .vrsqrt => true
  | _ => false

/-- R650: whether an operation has an address field, so that IDX may be nonzero. -/
def Ins.hasAddr (i : Ins) : Bool :=
  match i.op with
  | .stream => i.src
  | .signal | .wait | .fence => false
  | .tld | .tst => true
  | o => !o.isCtrl

/-- R111, R196: whether the encoding of an instruction whose CLASS and OP are defined is refused. -/
def Ins.refusedEncoding (i : Ins) : Bool :=
  (decide (i.idx ≠ 0) && !i.hasAddr)
  || (i.sig && (i.op.isCtrl || decide (i.op = .signal) || decide (i.op = .fence)
        || (decide (i.op = .wait) && decide (i.queueSel = 0))))
  || (match i.op with
    | .stream => decide (9 ≤ i.fmt) || (i.pair && decide (i.eng = 1)) || decide (i.f 31 0 ≠ 0)
        || (!i.src && decide (i.addr ≠ 0))
    | .emit => (i.intlv && (decide (i.ofmt < 2) || decide (i.count % 2 = 1))) || decide (i.f 15 0 ≠ 0)
        || decide (i.stride % 64 ≠ 0) || decide (i.stride < i.emitRow)
    | .loads => decide (i.mode = 0) || (decide (i.mode = 3) && decide (i.etype ≠ 0)) || decide (i.f 95 64 ≠ 0)
        || decide (i.f 15 0 ≠ 0) || decide (i.stride % 64 ≠ 0) || decide (i.stride = 0)
    | .attn => decide (i.f 89 73 ≠ 0) || decide (i.len ≠ 0) || decide (i.vb ≠ 0) || decide (i.vd ≠ 0)
    | .dma => decide (i.f 98 64 ≠ 0) || decide (i.f 31 0 ≠ 0)
    | .signal => decide (i.f 25 0 ≠ 0) || (decide (i.tdev ≠ 0) && decide (i.dest ≠ 2))
    | .wait => decide (i.f 11 0 ≠ 0) || decide (9 ≤ i.queueSel)
        || (decide (i.timeoutUs ≠ 0) && decide (i.queueSel ≠ 0))
    | .fence => decide (i.f 95 0 ≠ 0) || decide (i.scope = 0)
    | .gld => decide (i.taddr = 0) || decide (i.aop ≠ 0) || decide (i.f 61 57 ≠ 0) || decide (i.f 31 0 ≠ 0)
    | .gst => decide (i.taddr = 0) || decide (i.aop ≠ 0) || decide (i.f 61 57 ≠ 0) || decide (i.f 31 0 ≠ 0)
    | .gatom => decide (i.taddr = 0) || decide (5 ≤ i.aop) || decide (i.f 61 57 ≠ 0) || decide (i.f 31 0 ≠ 0)
    | .coll => decide (i.f 91 64 ≠ 0) || decide (i.f 31 0 ≠ 0)
    | o => if o.isCtrl then decide (i.f 87 64 ≠ 0)
        else decide (i.f 89 73 ≠ 0) || decide (i.len = 0) || (o.needs32 && decide (i.td ≠ 0)))

/-- R110, R111: an instruction word decoded; none where the sequencer refuses it with CORE_ILLEGAL_INSTR. -/
def decodeIns (w : Nat) : Option Ins :=
  match opOf (bitsOf w 127 124) (bitsOf w 123 118) with
  | none => none
  | some op => if (Ins.mk op w).refusedEncoding then none else some ⟨op, w⟩

/-- R113: instructions that must carry NDET = 1. -/
def Ins.needsNdet (i : Ins) : Bool :=
  match i.op with
  | .gatom => i.ret
  | .wait => decide (i.timeoutUs ≠ 0)
  | .rdtime | .rdcnt => true
  | _ => false

/-- The queue that an instruction is placed into, if it is placed into one (chapter 03, Queues). -/
def Ins.queue (i : Ins) : Option Nat :=
  match i.op with
  | .stream | .emit | .loads => some i.eng
  | .attn => some 3
  | .dma => some (4 + i.engine)
  | .gld | .gst | .gatom => some 6
  | .coll => some 7
  | .wait => if i.queueSel = 0 then none else some (i.queueSel - 1)
  | .signal | .fence => none
  | o => if o.isCtrl then none else some 2

/-- The depth of a queue of the core. -/
def queueDepth : Nat → Nat
  | 0 => 8 | 1 => 8 | 2 => 16 | 3 => 4 | 4 => 16 | 5 => 8 | 6 => 32 | _ => 8

/-! ### Store addresses (R99) -/

/-- The memories that a store address selects. -/
inductive StoreArea where
  | core | fifo (e : Nat) | imem | cluster
  deriving DecidableEq, Repr

/-- R99: the memory that a byte range lies in, whole: none when it lies outside the table or crosses a boundary. An
empty range is judged by its first address. -/
def storeArea (a n : Nat) : Option StoreArea :=
  let e := a + (if n = 0 then 1 else n)
  if e ≤ 0x0800000 then some .core
  else if 0x0800000 ≤ a ∧ e ≤ 0x0810000 then some (.fifo 0)
  else if 0x0810000 ≤ a ∧ e ≤ 0x0820000 then some (.fifo 1)
  else if 0x0900000 ≤ a ∧ e ≤ 0x0A00000 then some .imem
  else if 0x1000000 ≤ a ∧ e ≤ 0x2000000 then some .cluster
  else none

/-- R99: the memories that every class reaches. -/
def storeOk (a n : Nat) : Bool := storeArea a n = some .core || storeArea a n = some .cluster

/-- R99: memories a DMA destination reaches. -/
def dmaDstOk (a n : Nat) : Bool := (storeArea a n).isSome

/-- The span of `k` rows of `b` bytes at a stride. -/
def rowSpan (k b stride : Nat) : Nat := if k = 0 then 0 else (k - 1) * stride + b

/-! ### Formats and layouts -/

/-- The element types of VEC, EMIT and ATTN outputs. -/
def elemFmt : Nat → Fmt
  | 0 => .b32 | 1 => .bf16 | 2 => .e4m3 | _ => .e5m2

/-- Little-endian bytes as a number. -/
def leNat : List Byte → Nat
  | [] => 0
  | b :: bs => b.toNat + 256 * leNat bs

/-- A number as little-endian bytes. -/
def leBytes : Nat → Nat → List Byte
  | 0, _ => []
  | k + 1, n => BitVec.ofNat 8 n :: leBytes k (n / 256)

/-- R48: the mode whose tiles accept a weight format: 1 F8, 2 MXN, 3 B16. -/
def fmtMode (fmt : Nat) : Nat := if fmt ≤ 4 then 1 else if fmt ≤ 7 then 2 else 3

/-- R52: the bytes of a streamed row. -/
def rowBytes : Nat → Nat
  | 0 => 128 | 1 => 128 | 2 => 132 | 3 => 132 | 4 => 132 | 5 => 200 | 6 => 200 | 7 => 136 | _ => 256

/-- R50: the bytes of a stationary row in a mode. -/
def tileRowBytes (mode : Nat) : Nat := if mode = 1 then 128 else 256

/-- The k-values of a tile, which a row adds to its slot's term count (R183). -/
def modeK (mode : Nat) : Nat := if mode = 2 then 256 else 128

/-- R176: an MX element by its scale. -/
def scaleMx (s : Nat) : FV → FV
  | .num n m e => .num n m (e + s - 127)
  | v => v

/-- The value of MXINT8 element i: i × 2^−6. -/
def int8Val (b : Nat) : FV := .num (bitOf b 7) (sext 8 b).natAbs (-6)

/-- R53, R172, R176, R177: the k-values of a streamed row in k order. -/
def rowElems (fmt : Nat) (r : List Byte) : List FV :=
  let byte (k : Nat) : Nat := (r.getD k 0).toNat
  match fmt with
  | 0 => (List.range 128).map fun k => Fmt.e4m3.decode (byte k)
  | 1 => (List.range 128).map fun k => Fmt.e5m2.decode (byte k)
  | 8 => (List.range 128).map fun k => Fmt.bf16.decode (byte (2 * k) + 256 * byte (2 * k + 1))
  | _ =>
    let n := if fmt ≤ 4 then 128 else 256
    let sc := n / 32
    (List.range n).map fun k =>
      let s := byte (k / 32)
      if s = 255 then .nan
      else
        let raw : FV :=
          match fmt with
          | 2 => Fmt.e4m3.decode (byte (sc + k))
          | 3 => Fmt.e5m2.decode (byte (sc + k))
          | 4 => int8Val (byte (sc + k))
          | 7 => Fmt.e2m1.decode (byte (sc + k / 2) / 16 ^ (k % 2) % 16)
          | _ =>
            let q := k / 4
            let g := byte (sc + 3 * q) + 256 * byte (sc + 3 * q + 1) + 65536 * byte (sc + 3 * q + 2)
            (if fmt = 5 then Fmt.e3m2 else Fmt.e2m3).decode (g / 64 ^ (k % 4) % 64)
        scaleMx s raw

/-- R177: the MX blocks of a row whose scale byte is 0xFF. -/
def nanScales (fmt : Nat) (r : List Byte) : Nat :=
  if 2 ≤ fmt ∧ fmt ≤ 7 then
    ((r.take (if fmt ≤ 4 then 4 else 8)).filter fun b => decide (b.toNat = 255)).length
  else 0

/-- R50: the stationary activation of token t at array row i; in MXN mode the pair at 2i and 2i+1. -/
def tileCell (mode etype : Nat) (row : List Byte) (t : Nat) : List FV :=
  let byte (k : Nat) : Nat := (row.getD k 0).toNat
  let f8 : Fmt := if etype = 0 then .e4m3 else .e5m2
  match mode with
  | 1 => [f8.decode (byte t)]
  | 2 => [f8.decode (byte (2 * t)), f8.decode (byte (2 * t + 1))]
  | _ => [Fmt.bf16.decode (byte (2 * t) + 256 * byte (2 * t + 1))]

/-- R45, R46, R178: the sums of the 128 columns that one streamed row makes through a tile, and whether a cell raised
NUM_INVALID. -/
def outputColumn (mode etype : Nat) (tile : List (List Byte)) (elems : List FV) : List Nat × Bool :=
  let cols := (List.range 128).map fun t =>
    columnSum ((List.range 128).map fun i =>
      let acts := tileCell mode etype (tile.getD i []) t
      let ws := if mode = 2 then [elems.getD (2 * i) .nan, elems.getD (2 * i + 1) .nan] else [elems.getD i .nan]
      ws.zip acts)
  (cols.map Prod.fst, cols.any Prod.snd)

/-! ### Vector operations -/

/-- R192, R194, R195: one lane of a two- or one-operand VEC operation in binary32: the result and NUM_INVALID. -/
def vecLane (op : Op) (scalar a b d : Nat) : Nat × Bool :=
  match op with
  | .vadd => add32 a b
  | .vsub => add32 a (neg32 b)
  | .vmul => mul32 a b
  | .vfma => fma32 a b d
  | .vmax => (max32 a b, false)
  | .vmin => (min32 a b, false)
  | .vscale => mul32 a scalar
  | .vexp => exp32 a
  | .vrecip => recip32 a
  | .vrsqrt => rsqrt32 a
  | .vsilu => silu32 a
  | .vgate =>
    let s := silu32 a
    let r := mul32 s.1 b
    (r.1, s.2 || r.2)
  | _ => (if (val32 a).isNan then Fmt.b32.nanBits else a, false)

/-- Whether an operation reads B. -/
def Op.readsB : Op → Bool
  | .vadd | .vsub | .vmul | .vfma | .vmax | .vmin | .vgate => true
  | _ => false

/-- Whether an operation reduces its LEN vectors to one (R193). -/
def Op.reduces : Op → Bool
  | .vrsum | .vrmax => true
  | _ => false

/-- Whether an operation reduces the lanes of each vector (R193). -/
def Op.reducesLanes : Op → Bool
  | .vlsum | .vlmax => true
  | _ => false

/-- R193: the sum of a list of lanes by the pairwise tree; 8 levels make one of 256. -/
def treeFold (f : Nat → Nat → Nat × Bool) : Nat → List Nat → Nat × Bool
  | 0, l => (l.headD 0, false)
  | k + 1, l =>
    let pairs := (List.range (l.length / 2)).map fun i => f (l.getD (2 * i) 0) (l.getD (2 * i + 1) 0)
    let r := treeFold f k (pairs.map Prod.fst)
    (r.1, r.2 || pairs.any Prod.snd)

/-- An element widened to binary32, exactly (R189). -/
def widen (t : Nat) (bits : Nat) : Nat := round32 ((elemFmt t).decode bits)

/-- The elements of a vector of a type in a list of bytes. -/
def vecElems (t : Nat) (bs : List Byte) : List Nat :=
  let w := (elemFmt t).bytes
  (List.range 256).map fun k => leNat ((bs.drop (w * k)).take w)

/-! ### COLL packets (R420) -/

/-- Fields of a COLL packet. -/
def Packet.cOp (p : Packet) : Nat := bitsOf p.word2 63 61
def Packet.cDtype (p : Packet) : Nat := bitsOf p.word2 60 58
def Packet.cRedop (p : Packet) : Nat := bitsOf p.word2 57 56
def Packet.cEpoch (p : Packet) : Nat := bitsOf p.word2 55 40
def Packet.cCount (p : Packet) : Nat := bitsOf p.word2 39 0
def Packet.cGid (p : Packet) : Nat := bitsOf p.word7 63 32
def Packet.cInst (p : Packet) : Nat := bitsOf p.word7 31 8
def Packet.cKind (p : Packet) : Nat := bitsOf p.word7 7 4
def Packet.cStage (p : Packet) : Nat := bitsOf p.word7 3 0

/-- Flits of a packet (R294). -/
def Packet.flits (p : Packet) : Nat := 1 + (if p.type = PT.dmaRead then 0 else (p.length + 63) / 64)

end Sys2Proof
end

