-- ==== Sys2Proof/Machine/Wire.lean ====
section
/-! DEFINITION. A packet on the wire (R294, R420): the eight words of its header flit, and its bytes in flits of 64. -/

namespace Sys2Proof

/-- A word with values put at bit ranges [hi:lo]. -/
def packBits (l : List (Nat × Nat × Nat)) : Nat := l.foldl (fun n f => putBits n f.1 f.2.1 f.2.2) 0

/-- R294: the types whose word 4 holds a tag's dispatch sequence number whole; R299: a QUERY_ANSWER echoes its
QUERY's. -/
def wholeSeq (type : Nat) : Bool := [PT.atomic, PT.release, PT.query, PT.queryAnswer].contains type

namespace Packet

/-- R294: word 0 of the header. -/
def word0 (p : Packet) : Nat :=
  packBits [(63, 46, p.dst), (45, 28, p.src), (27, 16, p.partition), (15, 13, p.vc), (12, 8, p.type), (7, 7, p.last.toNat),
    (6, 6, p.ce.toNat), (5, 4, p.route)]

/-- R294: word 1. -/
def word1 (p : Packet) : Nat :=
  packBits [(63, 48, p.transit), (47, 35, p.length), (34, 26, p.hops), (25, 25, p.esc.toNat), (24, 24, p.dateline.toNat),
    (23, 21, p.origVc), (20, 20, p.ece.toNat), (19, 17, p.wrap), (16, 16, p.talign.toNat), (15, 14, p.attempt),
    (13, 0, p.timeoutUs)]

/-- R294: word 7. -/
def word7Of (p : Packet) : Nat :=
  packBits [(63, 57, p.core), (56, 25, p.epoch), (24, 22, p.aop), (21, 21, p.signed.toNat), (20, 20, p.w64.toNat),
    (19, 19, p.ret.toNat), (15, 0, p.code)]

/-- R294: the words of the header; R420: a COLL packet has words 2 and 7 of its own. -/
def header (p : Packet) : List Word :=
  [p.word0, p.word1, if p.type = PT.coll then p.word2 else p.addr, packBits [(63, 48, p.key), (47, 0, p.offset)],
    if wholeSeq p.type then p.total else packBits [(63, 48, p.msg), (47, 0, p.total)], p.dseq, p.issueTime,
    if p.type = PT.coll then p.word7 else p.word7Of].map (BitVec.ofNat 64)

/-- R294: the packet that a header and its payload spell. -/
def ofHeader (h : List Word) (payload : List Byte) : Packet :=
  let w (k : Nat) : Nat := (h.getD k 0).toNat
  let f (k hi lo : Nat) : Nat := bitsOf (w k) hi lo
  let type := f 0 12 8
  let coll := decide (type = PT.coll)
  let g (hi lo : Nat) : Nat := if coll then 0 else f 7 hi lo
  { dst := f 0 63 46, src := f 0 45 28, partition := f 0 27 16, vc := f 0 15 13, type := type
    last := bitOf (w 0) 7, ce := bitOf (w 0) 6, route := f 0 5 4
    transit := f 1 63 48, length := f 1 47 35, hops := f 1 34 26, esc := bitOf (w 1) 25, dateline := bitOf (w 1) 24
    origVc := f 1 23 21, ece := bitOf (w 1) 20, wrap := f 1 19 17, talign := bitOf (w 1) 16, attempt := f 1 15 14
    timeoutUs := f 1 13 0
    addr := if coll then 0 else w 2, word2 := if coll then w 2 else 0
    key := f 3 63 48, offset := f 3 47 0
    msg := if wholeSeq type then 0 else f 4 63 48, total := if wholeSeq type then w 4 else f 4 47 0
    dseq := w 5, issueTime := w 6
    core := g 63 57, epoch := g 56 25, aop := g 24 22, signed := bitOf (g 21 21) 0, w64 := bitOf (g 20 20) 0
    ret := bitOf (g 19 19) 0, code := g 15 0, word7 := if coll then w 7 else 0
    payload := payload }

/-- R294: the bytes of a packet on the wire: each word least significant byte first, then the payload, its last flit
padded with zeros. -/
def wire (p : Packet) : List Byte :=
  (p.header.map fun w => leBytes 8 w.toNat).flatten ++ p.payload
    ++ List.replicate ((64 - p.payload.length % 64) % 64) 0

/-- A packet that the header can carry: every field within its width, and what the header has no field for at its rest
value. -/
def fits (p : Packet) : Bool :=
  let coll := decide (p.type = PT.coll)
  decide (p.dst < 2 ^ 18) && decide (p.src < 2 ^ 18) && decide (p.partition < 2 ^ 12) && decide (p.vc < 8)
    && decide (p.type < 32) && decide (p.route < 4) && decide (p.transit < 2 ^ 16) && decide (p.length < 2 ^ 13)
    && decide (p.hops < 2 ^ 9) && decide (p.origVc < 8) && decide (p.wrap < 8) && decide (p.attempt < 4)
    && decide (p.timeoutUs < 2 ^ 14) && decide (p.key < 2 ^ 16) && decide (p.offset < 2 ^ 48)
    && decide (p.dseq < 2 ^ 64) && decide (p.issueTime < 2 ^ 64)
    && (if wholeSeq p.type then decide (p.msg = 0) && decide (p.total < 2 ^ 64)
        else decide (p.msg < 2 ^ 16) && decide (p.total < 2 ^ 48))
    && (if coll then
          decide (p.addr = 0) && decide (p.word2 < 2 ^ 64) && decide (p.word7 < 2 ^ 64) && decide (p.core = 0)
            && decide (p.epoch = 0) && decide (p.aop = 0) && !p.signed && !p.w64 && !p.ret && decide (p.code = 0)
        else
          decide (p.addr < 2 ^ 64) && decide (p.word2 = 0) && decide (p.word7 = 0) && decide (p.core < 2 ^ 7)
            && decide (p.epoch < 2 ^ 32) && decide (p.aop < 8) && decide (p.code < 2 ^ 16))
    && decide (p.hint = 0) && decide (p.useCount = 0) && decide (p.origin = 0)

end Packet

/-- R480: the words of a Perdun message's header. `reserved` holds the reserved bits of word 0 and, above them, words
4 to 7. -/
def HlkMsg.header (m : HlkMsg) : List Word :=
  [packBits [(63, 60, m.cls), (59, 54, m.op), (53, 41, m.length), (40, 29, m.tag), (28, 16, m.reserved % 2 ^ 13), (15, 0, m.code)],
    m.addr, packBits [(63, 48, m.key), (47, 0, m.value)], packBits [(63, 32, m.lseq), (31, 0, m.lack)],
    m.reserved / 2 ^ 13, m.reserved / 2 ^ 77, m.reserved / 2 ^ 141, m.reserved / 2 ^ 205].map (BitVec.ofNat 64)

/-- R480: the message that a header and its payload spell. -/
def HlkMsg.ofHeader (h : List Word) (payload : List Byte) : HlkMsg :=
  let w (k : Nat) : Nat := (h.getD k 0).toNat
  let f (k hi lo : Nat) : Nat := bitsOf (w k) hi lo
  { cls := f 0 63 60, op := f 0 59 54, length := f 0 53 41, tag := f 0 40 29, code := f 0 15 0, addr := w 1
    key := f 2 63 48, value := f 2 47 0, lseq := f 3 63 32, lack := f 3 31 0
    reserved := f 0 28 16 + w 4 * 2 ^ 13 + w 5 * 2 ^ 77 + w 6 * 2 ^ 141 + w 7 * 2 ^ 205
    payload := payload }

/-- R480: the bytes of a message on the wire: each word least significant byte first, then the payload, its last flit
padded with zeros. -/
def HlkMsg.wire (m : HlkMsg) : List Byte :=
  (m.header.map fun w => leBytes 8 w.toNat).flatten ++ m.payload
    ++ List.replicate ((64 - m.payload.length % 64) % 64) 0

/-- A message that the header can carry: every field within its width. -/
def HlkMsg.fits (m : HlkMsg) : Bool :=
  decide (m.cls < 16) && decide (m.op < 64) && decide (m.length < 2 ^ 13) && decide (m.tag < 2 ^ 12) && decide (m.code < 2 ^ 16)
    && decide (m.addr < 2 ^ 64) && decide (m.key < 2 ^ 16) && decide (m.value < 2 ^ 48) && decide (m.lseq < 2 ^ 32)
    && decide (m.lack < 2 ^ 32) && decide (m.reserved < 2 ^ 269)

end Sys2Proof
end

