-- ==== Sys2Proof/Machine/Fec.lean ====
section
/-! DEFINITION. The coding of an optical port (R344 to R347): the code RS(272,257) over GF(2^10), the layout of a group on its
lanes, and the fields of its control word. The field's polynomial x^10 + x^3 + 1, the generator's roots α^0 to α^14 and the
order of bits and symbols are those of the IEEE 802.3 family (PRESUMED, log entry 32). -/

namespace Sys2Proof

/-! ### GF(2^10) -/

/-- A symbol times α. -/
def gfDouble (a : Nat) : Nat := (2 * a) ^^^ (a / 512 * 0x409)

/-- The product of two symbols. -/
def gfMul : Nat → Nat → Nat
  | 0, _ => 0
  | a, b => [512, 256, 128, 64, 32, 16, 8, 4, 2, 1].foldl (fun r k => gfDouble r ^^^ (a * (b / k % 2))) 0

/-- α to a power. -/
def gfAlpha : Nat → Nat
  | 0 => 1
  | k + 1 => gfDouble (gfAlpha k)

/-- The inverse of a symbol: its power 1022. -/
def gfInv (a : Nat) : Nat :=
  ((List.range 9).foldl (fun (r : Nat × Nat) _ => let s := gfMul r.2 r.2; (gfMul r.1 s, s)) (1, a)).1

/-! ### The code -/

/-- The generator polynomial, highest power first: the product of x + α^j for j = 0 to 14. -/
def rsGenerator : List Nat :=
  (List.range 15).foldl (fun g j =>
    let r := gfAlpha j
    List.zipWith (fun a b => a ^^^ gfMul r b) (g ++ [0]) (0 :: g)) [1]

/-- The fifteen check symbols of a list of data symbols: the remainder of the division by the generator. -/
def rsParity (data : List Nat) : List Nat :=
  let g := rsGenerator.drop 1
  data.foldl (fun r s =>
    let f := s ^^^ r.headD 0
    let r := r.drop 1 ++ [0]
    if f = 0 then r else List.zipWith (fun a b => a ^^^ gfMul f b) r g) (List.replicate 15 0)

/-- R344: the codeword of 257 data symbols. -/
def rsEncode (data : List Nat) : List Nat := data ++ rsParity data

/-- A polynomial, lowest power first, at a point. -/
def gfEval (p : List Nat) (x : Nat) : Nat := p.reverse.foldl (fun r c => gfMul r x ^^^ c) 0

/-- The fifteen syndromes of a received word, whose first symbol has the highest power; leading zeros add nothing to
them. -/
def rsSyndromes (w : List Nat) : List Nat :=
  let w := w.dropWhile fun c => c == 0
  (List.range 15).map fun j => let x := gfAlpha j; w.foldl (fun r c => gfMul r x ^^^ c) 0

/-- A step of the search for the error locator (Berlekamp and Massey). -/
structure Locator where
  now : List Nat := [1]
  old : List Nat := [1]
  len : Nat := 0
  gap : Nat := 1
  last : Nat := 1
  deriving DecidableEq, Repr

/-- The sum of two polynomials, lowest power first. -/
def gfAdd : List Nat → List Nat → List Nat
  | [], q => q
  | p, [] => p
  | a :: p, b :: q => (a ^^^ b) :: gfAdd p q

def Locator.step (s : List Nat) (x : Locator) (n : Nat) : Locator :=
  let d := (List.range (x.len + 1)).foldl (fun r i => r ^^^ gfMul (x.now.getD i 0) (s.getD (n - i) 0)) 0
  if d = 0 then { x with gap := x.gap + 1 }
  else
    let k := gfMul d (gfInv x.last)
    let next := gfAdd x.now (List.replicate x.gap 0 ++ x.old.map fun c => gfMul k c)
    if 2 * x.len ≤ n then { now := next, old := x.now, len := n + 1 - x.len, gap := 1, last := d }
    else { x with now := next, gap := x.gap + 1 }

/-- The symbol in error at the power k of a received word, as its correction: none where the locator has no root there
(Forney). -/
def rsError (loc omega : List Nat) (k : Nat) : Option Nat :=
  let x := gfAlpha k
  let y := gfInv x
  if gfEval loc y ≠ 0 then none
  else
    let odd := (List.range loc.length).map fun i => if i % 2 = 1 then loc.getD i 0 else 0
    some (gfMul (gfMul x (gfEval omega y)) (gfInv (gfEval (odd.drop 1) y)))

/-- R344: a received word corrected, with the symbols that were in error: none where more than 7 were. -/
def rsDecode (w : List Nat) : Option (List Nat × Nat) :=
  let s := rsSyndromes w
  if s.all fun x => decide (x = 0) then some (w, 0)
  else
    let x := (List.range 15).foldl (Locator.step s) {}
    let omega := (List.range 15).map fun n =>
      (List.range (n + 1)).foldl (fun r i => r ^^^ gfMul (x.now.getD i 0) (s.getD (n - i) 0)) 0
    let fix := (List.range 272).map fun i => rsError x.now omega (271 - i)
    let n := (fix.filter Option.isSome).length
    let v := List.zipWith (fun a e => a ^^^ (e.getD 0)) w fix
    if 0 < n && decide (n ≤ 7) && (rsSyndromes v).all fun x => decide (x = 0) then some (v, n) else none

/-! ### Groups (R345, R346) -/

/-- The fields of the group control word (R346). -/
structure OptCtrl where
  gseq : Nat := 0
  ack : Nat := 0
  replayReq : Bool := false
  mapEpoch : Nat := 0
  cmd : Nat := 0
  cmdLane : Nat := 0
  cmdCh : Nat := 0
  msgType : Nat := 0
  msgData : Nat := 0
  firstHdr : Nat := 127
  crc : Nat := 0
  deriving DecidableEq, Repr

/-- R346: the control word. -/
def OptCtrl.word (c : OptCtrl) : Nat :=
  packBits [(159, 136, c.gseq), (135, 112, c.ack), (111, 111, c.replayReq.toNat), (110, 107, c.mapEpoch), (106, 105, c.cmd),
    (104, 101, c.cmdLane), (100, 96, c.cmdCh), (95, 88, c.msgType), (87, 56, c.msgData), (38, 32, c.firstHdr), (31, 0, c.crc)]

/-- R346: the fields of a control word. -/
def OptCtrl.ofWord (n : Nat) : OptCtrl :=
  { gseq := bitsOf n 159 136, ack := bitsOf n 135 112, replayReq := bitOf n 111, mapEpoch := bitsOf n 110 107
    cmd := bitsOf n 106 105, cmdLane := bitsOf n 104 101, cmdCh := bitsOf n 100 96, msgType := bitsOf n 95 88
    msgData := bitsOf n 87 56, firstHdr := bitsOf n 38 32, crc := bitsOf n 31 0 }

/-- A group: its control word and its flits. -/
structure OptGroup where
  ctrl : OptCtrl := {}
  flits : List (List Byte) := []
  deriving DecidableEq, Repr

/-- R345: the 80 flits of a group on the wire; places without a flit hold zeros (DESIGN CHOICE, log entry 33). -/
def OptGroup.padded (g : OptGroup) : List (List Byte) := (List.range 80).map fun k => g.flits.getD k (List.replicate 64 0)

/-- R344: the 257 data symbols of a lane: five flits, then ten control bits. -/
def laneSymbols (flits : List (List Byte)) (ctrl : Nat) : List Nat :=
  let n := leNat flits.flatten + ctrl % 1024 * 2 ^ 2560
  (List.range 257).map fun k => bitsOf n (10 * k + 9) (10 * k)

/-- R345: the codewords of a group, by lane. -/
def OptGroup.encode (g : OptGroup) : List (List Nat) :=
  let fs := g.padded
  (List.range 16).map fun i =>
    rsEncode (laneSymbols ((List.range 5).map fun j => fs.getD (16 * j + i) []) (bitsOf g.ctrl.word (10 * i + 9) (10 * i)))

/-- A received codeword: its data symbols, and the symbols in error; 8 stands for more than 7 (R344). -/
def laneDecode (w : List Nat) : List Nat × Nat :=
  match rsDecode w with
  | some (v, n) => (v.take 257, n)
  | none => (w.take 257, 8)

/-- The 2,570 bits of a lane's data symbols. -/
def laneBits (data : List Nat) : Nat := data.foldr (fun s r => s + 1024 * r) 0

/-- R345, R346: the group that its lanes' data symbols spell. -/
def OptGroup.ofLanes (lanes : List (List Nat)) : OptGroup :=
  let bits := lanes.map laneBits
  let word := (List.range 16).foldl (fun r i => r + bitsOf (bits.getD i 0) 2569 2560 * 2 ^ (10 * i)) 0
  { ctrl := OptCtrl.ofWord word
    flits := (List.range 80).map fun k => leBytes 64 (bits.getD (k % 16) 0 / 2 ^ (512 * (k / 16))) }

/-- R347: the CRC of a group's 80 flits. -/
def OptGroup.crcOf (g : OptGroup) : Nat := crc32 g.padded.flatten

/-! ### Flits and packets -/

/-- A flit of a face's stream, and whether it is a packet's header. -/
structure Flit where
  header : Bool
  bytes : List Byte
  deriving DecidableEq, Repr

/-- The flits of a list of bytes, of 64 each. -/
def flitsFrom : Nat → List Byte → List Flit
  | 0, _ => []
  | n + 1, bs => { header := false, bytes := bs.take 64 } :: flitsFrom n (bs.drop 64)

/-- R294: the flits of a packet. -/
def Packet.stream (p : Packet) : List Flit :=
  { header := true, bytes := p.wire.take 64 } :: flitsFrom (p.flits - 1) (p.wire.drop 64)

/-- R480: the flits of a Perdun message. -/
def HlkMsg.stream (m : HlkMsg) : List Flit :=
  { header := true, bytes := m.wire.take 64 } :: flitsFrom ((m.payload.length + 63) / 64) (m.wire.drop 64)

/-- R294: the packet whose header is a flit, with no payload yet. -/
def headerOf (bs : List Byte) : Packet :=
  Packet.ofHeader ((List.range 8).map fun k => BitVec.ofNat 64 (leNat ((bs.drop (8 * k)).take 8))) []

/-- R294: the packet that a header flit and its payload flits spell. -/
def Packet.ofFlits (l : List (List Byte)) : Packet :=
  let p := headerOf (l.headD [])
  { p with payload := (l.drop 1).flatten.take p.length }

end Sys2Proof
end

