-- ==== Sys2Proof/Machine/FMap.lean ====
section
/-! DEFINITION. Finite maps as plain data: a list of key and value pairs in one canonical form (keys strictly rising
under a given order, and no entry equal to what an unlisted key reads as), so that equal maps are equal lists. Every
memory, register file and table of units of the model is one of these. -/

namespace Sys2Proof

/-- A finite map: the listed pairs. What an unlisted key reads as is given at each read. -/
abbrev FMap (κ α : Type) := List (κ × α)

namespace FMap

variable {κ α : Type}

/-- The value at a key; an unlisted key reads as `dflt`. -/
def get [DecidableEq κ] (dflt : α) : FMap κ α → κ → α
  | [], _ => dflt
  | (k', v) :: m, k => if k' = k then v else get dflt m k

/-- The map without a key. -/
def erase [DecidableEq κ] : FMap κ α → κ → FMap κ α
  | [], _ => []
  | (k', v) :: m, k => if k' = k then erase m k else (k', v) :: erase m k

/-- The map with a pair put before the first larger key. -/
def insert (lt : κ → κ → Bool) : FMap κ α → κ → α → FMap κ α
  | [], k, v => [(k, v)]
  | (k', v') :: m, k, v => if lt k k' then (k, v) :: (k', v') :: m else (k', v') :: insert lt m k v

/-- The map with `k` reading as `v`: a value equal to the default is not listed. -/
def set [DecidableEq κ] [DecidableEq α] (lt : κ → κ → Bool) (dflt : α) (m : FMap κ α) (k : κ) (v : α) : FMap κ α :=
  if v = dflt then erase m k else insert lt (erase m k) k v

/-- The canonical form: keys strictly rising and no entry equal to its default. -/
def wf [DecidableEq α] (lt : κ → κ → Bool) (dflt : κ → α) : FMap κ α → Bool
  | [] => true
  | (k, v) :: m => (m.all fun e => lt k e.1) && decide (v ≠ dflt k) && wf lt dflt m

end FMap

/-- The order of maps keyed by numbers. -/
def natLt (a b : Nat) : Bool := decide (a < b)

/-- A map keyed by numbers (an address, a unit's number). -/
abbrev NMap (α : Type) := FMap Nat α

namespace NMap

variable {α : Type}

/-- The value at a number. -/
def get (dflt : α) (m : NMap α) (k : Nat) : α := FMap.get dflt m k

/-- The map with `k` reading as `v`. -/
def set [DecidableEq α] (dflt : α) (m : NMap α) (k : Nat) (v : α) : NMap α := FMap.set natLt dflt m k v

/-- The canonical form of a map keyed by numbers. -/
def wf [DecidableEq α] (dflt : α) (m : NMap α) : Bool := FMap.wf natLt (fun _ => dflt) m

/-- The map with every listed value changed; one that becomes the default is no longer listed. -/
def mapVals [DecidableEq α] (dflt : α) (m : NMap α) (f : α → α) : NMap α :=
  m.filterMap fun e => if f e.2 = dflt then none else some (e.1, f e.2)

end NMap

end Sys2Proof
end

