-- ==== Sys2Proof/Machine/Registers.lean ====
section
/-! DEFINITION. The register map of the AK20, transcribed from the register tables of the manual: every register's
name, its place in the register space (R15, R88 and the chapters' register sections), whether it is marked runtime
(R4), and its fields with access code (R6), reset value and Keep class (R11). Field bits and values are the tables'. -/

namespace Sys2Proof

/-- The registers of the manual, by the names it prints (an instance letter stands where the manual has one). -/
inductive RegName where
  | ENG_STAT
  | ENG_ROWS_CNT
  | ENG_LOAD_STALL_CNT
  | ENG_STARVE_CNT
  | ENG_HAZARD_CNT
  | ENG_ERR_CNT
  | ENG_LAST_FAULT
  | CLU_CORE_MAP
  | CLU_CORE_RETIRED
  | CLU_SWAP_CTRL
  | CLU_SWAP_STAT
  | CORE_STAT
  | CORE_CTRL
  | CORE_PREEMPT_CTRL
  | CORE_PREEMPT_STAT
  | CORE_DISPATCH_SEQ
  | CORE_FAULT_STAT
  | CORE_FAULT_SEQ
  | CORE_NDET_CNT
  | CORE_ERR_CNT
  | CORE_THREAD_n_PC
  | CORE_THREAD_n_CTRL
  | CORE_THREAD_n_T_m
  | CORE_QUEUE_q_DONE
  | CORE_QUEUE_q_STAT
  | CORE_QUEUE_q_CNT
  | CORE_QUEUE_q_STOP
  | CORE_PCMAP_m
  | CORE_PCMAP_INFO
  | CORE_PCMAP_DONE
  | CORE_ATTN_REC
  | CORE_ATTN_BLOCKS_CNT
  | CORE_ATTN_STARVE_CNT
  | CORE_NUM_CTRL
  | CORE_SR_SEED
  | CORE_NUM_CNT
  | CORE_NUM_LAST
  | CORE_SPEC_k_CTRL
  | CORE_SPEC_k_LO
  | CORE_SPEC_k_HI
  | CORE_SPEC_k_STAT
  | CORE_SPEC_k_BIN_n
  | HBM_STAT
  | HBM_CAPACITY
  | HBM_MAPOUT_CTRL
  | HBM_MAPOUT_STAT
  | HBM_MAPOUT_LIST_n
  | HBM_SCRUB_CTRL
  | HBM_STACK_s_STAT
  | HBM_PC_n_ERR
  | MSC_CTRL
  | MSC_STAT
  | MSC_HIT_CNT
  | MSC_MISS_CNT
  | MSC_DROP_CNT
  | MSC_ERR_CNT
  | GAS_CTRL
  | GAS_EPOCH
  | GAS_REGION_FENCE
  | GAS_REPLY_STAT
  | GAS_REPLY_PURGE
  | GAS_ISSUED_CNT
  | GAS_SERVED_CNT
  | GAS_ERR_CNT
  | GAS_QUERY_CTRL
  | GAS_UNSETTLED_STAT
  | GAS_UNSETTLED_n_TAG
  | GAS_UNSETTLED_n_EPOCH
  | GAS_UNSETTLED_n_SEQ
  | GAS_UNSETTLED_n_ADDR
  | GAS_UNSETTLED_n_VALUE
  | GAS_UNSETTLED_n_TIME
  | GAS_REGION_n_BASE
  | GAS_REGION_n_LIMIT
  | GAS_REGION_n_ATTR
  | XFB_COORD
  | XFB_DIMS
  | XFB_ANCHOR
  | XFB_COORD_OVERRIDE
  | XFB_PART_b
  | XFB_TABLE_CTRL
  | XFB_TABLE_STAT
  | XFB_VC_WEIGHT
  | XFB_ECN_CTRL
  | XFB_RATE_CTRL
  | XFB_HOLD
  | XFB_CIRCUIT_STAT
  | XFB_RATE_STAT
  | XFB_DROP_CNT
  | XFB_ROUTE_b_d_h
  | XFB_FACE_f_STAT
  | XFB_FACE_f_TX_CNT
  | XFB_FACE_f_RX_CNT
  | XFB_FACE_f_CE_CNT
  | XFB_EXC_b_n
  | XFB_TRANSIT_n_PATH
  | XFB_TRANSIT_n_CTRL
  | XFB_TRANSIT_n_STAT
  | XFB_TRANSIT_n_CNT
  | OPT_FACE_STAT
  | OPT_SPARE_POLICY
  | OPT_PORT_n_STAT
  | OPT_PORT_n_CTRL
  | OPT_PORT_n_POWER
  | OPT_PORT_n_GRP_CNT
  | OPT_PORT_n_CORR_CNT
  | OPT_PORT_n_FEC_CNT
  | OPT_PORT_n_MAP_k
  | OPT_PORT_n_CH_c_LASER
  | OPT_PORT_n_CH_c_MON
  | COL_CTRL
  | COL_ERR_CNT
  | COL_GROUP_n_CFG
  | COL_GROUP_n_BOX
  | COL_GROUP_n_LIST
  | COL_GROUP_n_ROLE
  | COL_GROUP_n_RXBUF
  | COL_GROUP_n_DONE
  | COL_GROUP_n_STAT
  | COL_GROUP_n_CTRL
  | CORE_COLL_REC
  | SYN_CORE_FAULT
  | SYN_CORE_STAT
  | SYN_UPDATE_CNT
  | SYN_CNT_n
  | SYN_CNT_n_ADD
  | SYN_FLOOR_n
  | SYN_CHRONO
  | SYN_TIME_CTRL
  | SYN_TIME_STAT
  | SYN_MERIDIAN_TICK
  | SYN_MERIDIAN_CTRL
  | SYN_MERIDIAN_DONE
  | SYN_BARRIER_n
  | DLK_PKG_LEVEL
  | DLK_DIE_k_INV
  | DLK_LINK_n_STAT
  | DLK_LINK_n_CTRL
  | DLK_LINK_n_ERR
  | DLK_LINK_n_FRAMES
  | HLK_STAT
  | HLK_CTRL
  | HLK_WINDOW_BASE
  | HLK_WINDOW_SIZE
  | HLK_COMP_ID
  | HLK_DIR_STAT
  | HLK_TX_CNT
  | HLK_RX_CNT
  | HLK_ERR_CNT
  | INT_CFG
  | INT_PEND_SET_k
  | INT_PEND_CLR_k
  | INT_MASK_SET_k
  | INT_MASK_CLR_k
  | INT_TGT_t_THRESH
  | INT_TGT_t_CLAIM
  | INT_TGT_t_EOI
  | INT_TGT_t_STAT
  | INT_SRC_n_CFG
  | BOOT_STAT
  | BOOT_CTRL
  | BOOT_DIE_RESET
  | BOOT_STRAP
  | BOOT_START_CNT
  | BOOT_LAST_START
  | BOOT_FW_STAT
  | BOOT_FW_CTRL
  | BOOT_FW_VER_s
  | BOOT_ALMANAC_SEQ
  | BOOT_WATCHDOG
  | BOOT_REFUSED
  | EPH_STAT
  | EPH_JOURNAL_SEQ
  | EPH_AREA
  | EPH_ERR_CNT
  | EPH_CTRL
  | SEC_STAT
  | SEC_FLOOR
  | SEC_ALM_FLOOR
  | SEC_ATTEST_CTRL
  | SEC_ATTEST_STAT
  | SEC_NONCE_k
  | SEC_ID_KEYID_k
  | SEC_REPORT_n
  | DBG_STAT
  | DBG_CTRL
  | DBG_CHALLENGE_k
  | DBG_MCORE_m_CTRL
  | DBG_MCORE_m_TRACE
  | DBG_TOKEN_n
  | PWR_STAT
  | PWR_CTRL
  | PWR_INPUT
  | PWR_ENERGY_CNT
  | PWR_EVENT_CNT
  | CLK_STAT
  | CLK_DROOP_CTRL
  | CLK_ISLAND_n_CTRL
  | CLK_ISLAND_n_STAT
  | THM_STAT
  | THM_CTRL
  | THM_EVENT_CNT
  | THM_DIE_k_STAT
  | THM_DIE_k_DISCARD
  | LOG_CTRL
  | LOG_HBM_BASE
  | LOG_STAT
  | LOG_HEAD
  | LOG_HBM_COPIED
  | LOG_DROPPED
  | LOG_RING_n
  | SAFE_CTRL
  | SAFE_AGG_STAT
  | SAFE_ACCUSE
  | SAFE_OCCULT_CTRL
  | SAFE_HEALTH_CTRL
  | SAFE_MON_STAT
  | SAFE_AVAIL
  | SAFE_LS_CTRL
  | SAFE_LS_STAT
  | SAFE_FL_CTRL
  | SAFE_FL_STAT
  | SAFE_PLATE_CTRL
  | SAFE_PLATE_ADDR
  | SAFE_PLATE_LEN
  | SAFE_PLATE_STAT
  | SAFE_PLATE_REC_n
  | SAFE_PLATE_DIGEST_k
  | SAFE_HEALTH_u
  | SAFE_CORE_DIGEST
  | SAFE_CORE_MARK
  deriving DecidableEq, Repr, Inhabited

/-- R6: the access codes. -/
inductive Access where
  | ro | rw | wo | w1s | w1c | rc
  deriving DecidableEq, Repr

/-- R11: the heaviest event through which a field keeps its value. -/
inductive Keep where
  | none | p | w | e
  deriving DecidableEq, Repr

/-- One row of a register's table. -/
structure Field where
  hi : Nat
  lo : Nat
  access : Access
  reset : Nat
  keep : Keep
  deriving DecidableEq, Repr

/-- The register blocks of R15, R88 and the register sections (one per kind of unit). -/
inductive Block where
  | engine | cluster | core | xdie | sdie | pdie | gas | hlk | intc | boot | sec | pwr | log
  deriving DecidableEq, Repr

/-- Where a register stands: its block, its offset from the block's or window's base, and the stride, count and
first number of each instance letter. -/
structure Place where
  block : Block
  base : Nat
  dims : List (Nat × Nat × Nat)
  deriving DecidableEq, Repr

/-- A register's table and place. -/
structure RegInfo where
  runtime : Bool
  place : Place
  fields : List Field
  deriving DecidableEq, Repr

/-- A field by name: the register it stands in and its bits. -/
structure Fld where
  reg : RegName
  hi : Nat
  lo : Nat
  deriving DecidableEq, Repr

/-- The register tables of the manual. -/
def RegName.info : RegName → RegInfo
  | .ENG_STAT => ⟨false, ⟨.engine, 0x0, []⟩, [⟨47, 32, .ro, 0, .none⟩, ⟨19, 16, .ro, 0, .none⟩, ⟨11, 10, .ro, 0, .none⟩, ⟨9, 9, .ro, 0, .none⟩, ⟨8, 8, .ro, 0, .none⟩, ⟨3, 0, .ro, 0, .none⟩]⟩
  | .ENG_ROWS_CNT => ⟨false, ⟨.engine, 0x8, []⟩, [⟨63, 0, .ro, 0, .none⟩]⟩
  | .ENG_LOAD_STALL_CNT => ⟨false, ⟨.engine, 0x10, []⟩, [⟨63, 0, .ro, 0, .none⟩]⟩
  | .ENG_STARVE_CNT => ⟨false, ⟨.engine, 0x18, []⟩, [⟨63, 0, .ro, 0, .none⟩]⟩
  | .ENG_HAZARD_CNT => ⟨false, ⟨.engine, 0x20, []⟩, [⟨63, 0, .ro, 0, .none⟩]⟩
  | .ENG_ERR_CNT => ⟨false, ⟨.engine, 0x28, []⟩, [⟨63, 63, .rc, 0, .none⟩, ⟨62, 62, .rc, 0, .none⟩, ⟨61, 61, .rc, 0, .none⟩, ⟨47, 32, .rc, 0, .none⟩, ⟨31, 16, .rc, 0, .none⟩, ⟨15, 0, .rc, 0, .none⟩]⟩
  | .ENG_LAST_FAULT => ⟨false, ⟨.engine, 0x30, []⟩, [⟨59, 44, .rc, 0, .none⟩, ⟨43, 32, .rc, 0, .none⟩, ⟨19, 16, .rc, 0, .none⟩, ⟨15, 0, .rc, 0, .none⟩]⟩
  | .CLU_CORE_MAP => ⟨false, ⟨.cluster, 0x0, []⟩, [⟨18, 16, .ro, 4, .e⟩, ⟨14, 12, .ro, 3, .e⟩, ⟨10, 8, .ro, 2, .e⟩, ⟨6, 4, .ro, 1, .e⟩, ⟨2, 0, .ro, 0, .e⟩]⟩
  | .CLU_CORE_RETIRED => ⟨false, ⟨.cluster, 0x8, []⟩, [⟨4, 0, .ro, 0, .e⟩]⟩
  | .CLU_SWAP_CTRL => ⟨true, ⟨.cluster, 0x10, []⟩, [⟨7, 6, .rw, 0, .none⟩, ⟨5, 4, .rw, 0, .none⟩, ⟨1, 1, .w1s, 0, .none⟩, ⟨0, 0, .w1s, 0, .none⟩]⟩
  | .CLU_SWAP_STAT => ⟨false, ⟨.cluster, 0x18, []⟩, [⟨47, 32, .ro, 0, .w⟩, ⟨31, 16, .ro, 0, .w⟩, ⟨2, 0, .ro, 0, .none⟩]⟩
  | .CORE_STAT => ⟨false, ⟨.core, 0x0, []⟩, [⟨55, 52, .ro, 0, .none⟩, ⟨47, 32, .ro, 0, .none⟩, ⟨31, 16, .ro, 0, .none⟩, ⟨15, 0, .ro, 65535, .none⟩]⟩
  | .CORE_CTRL => ⟨true, ⟨.core, 0x8, []⟩, [⟨2, 2, .w1s, 0, .none⟩, ⟨1, 1, .w1s, 0, .none⟩, ⟨0, 0, .w1s, 0, .none⟩]⟩
  | .CORE_PREEMPT_CTRL => ⟨true, ⟨.core, 0x10, []⟩, [⟨63, 32, .rw, 10000, .w⟩, ⟨1, 1, .w1s, 0, .none⟩, ⟨0, 0, .w1s, 0, .none⟩]⟩
  | .CORE_PREEMPT_STAT => ⟨false, ⟨.core, 0x18, []⟩, [⟨63, 32, .ro, 0, .none⟩, ⟨2, 2, .ro, 0, .none⟩, ⟨1, 0, .ro, 0, .none⟩]⟩
  | .CORE_DISPATCH_SEQ => ⟨false, ⟨.core, 0x20, []⟩, [⟨63, 0, .ro, 0, .none⟩]⟩
  | .CORE_FAULT_STAT => ⟨false, ⟨.core, 0x28, []⟩, [⟨63, 63, .ro, 0, .none⟩, ⟨62, 59, .ro, 0, .none⟩, ⟨58, 55, .ro, 0, .none⟩, ⟨47, 32, .ro, 0, .none⟩, ⟨31, 16, .ro, 0, .none⟩, ⟨15, 0, .ro, 0, .none⟩]⟩
  | .CORE_FAULT_SEQ => ⟨false, ⟨.core, 0x30, []⟩, [⟨63, 0, .ro, 0, .none⟩]⟩
  | .CORE_NDET_CNT => ⟨false, ⟨.core, 0x38, []⟩, [⟨63, 0, .ro, 0, .none⟩]⟩
  | .CORE_ERR_CNT => ⟨false, ⟨.core, 0x40, []⟩, [⟨63, 63, .rc, 0, .none⟩, ⟨62, 62, .rc, 0, .none⟩, ⟨31, 16, .rc, 0, .none⟩, ⟨15, 0, .rc, 0, .none⟩]⟩
  | .CORE_THREAD_n_PC => ⟨true, ⟨.core, 0x100, [(16, 16, 0)]⟩, [⟨15, 0, .rw, 0, .none⟩]⟩
  | .CORE_THREAD_n_CTRL => ⟨true, ⟨.core, 0x108, [(16, 16, 0)]⟩, [⟨6, 4, .ro, 0, .none⟩, ⟨1, 1, .w1s, 0, .none⟩, ⟨0, 0, .w1s, 0, .none⟩]⟩
  | .CORE_THREAD_n_T_m => ⟨true, ⟨.core, 0x200, [(128, 16, 0), (8, 15, 1)]⟩, [⟨63, 0, .rw, 0, .none⟩]⟩
  | .CORE_QUEUE_q_DONE => ⟨false, ⟨.core, 0x1000, [(32, 8, 0)]⟩, [⟨63, 0, .ro, 18446744073709551615, .none⟩]⟩
  | .CORE_QUEUE_q_STAT => ⟨false, ⟨.core, 0x1008, [(32, 8, 0)]⟩, [⟨63, 48, .rc, 0, .none⟩, ⟨39, 32, .ro, 0, .none⟩, ⟨31, 16, .ro, 0, .none⟩, ⟨2, 0, .ro, 0, .none⟩]⟩
  | .CORE_QUEUE_q_CNT => ⟨false, ⟨.core, 0x1010, [(32, 8, 0)]⟩, [⟨63, 0, .ro, 0, .none⟩]⟩
  | .CORE_QUEUE_q_STOP => ⟨false, ⟨.core, 0x1018, [(32, 8, 0)]⟩, [⟨63, 0, .ro, 18446744073709551615, .none⟩]⟩
  | .CORE_PCMAP_m => ⟨false, ⟨.core, 0x1100, [(8, 8, 0)]⟩, [⟨63, 0, .ro, 0, .none⟩]⟩
  | .CORE_PCMAP_INFO => ⟨false, ⟨.core, 0x1140, []⟩, [⟨63, 24, .ro, 0, .none⟩, ⟨23, 12, .ro, 0, .none⟩, ⟨3, 0, .ro, 0, .none⟩]⟩
  | .CORE_PCMAP_DONE => ⟨false, ⟨.core, 0x1148, []⟩, [⟨63, 0, .ro, 0, .none⟩]⟩
  | .CORE_ATTN_REC => ⟨false, ⟨.core, 0x1200, []⟩, [⟨63, 52, .ro, 0, .none⟩, ⟨51, 28, .ro, 0, .none⟩, ⟨27, 20, .ro, 0, .none⟩, ⟨11, 8, .ro, 0, .none⟩, ⟨3, 0, .ro, 0, .none⟩]⟩
  | .CORE_ATTN_BLOCKS_CNT => ⟨false, ⟨.core, 0x1208, []⟩, [⟨63, 0, .ro, 0, .none⟩]⟩
  | .CORE_ATTN_STARVE_CNT => ⟨false, ⟨.core, 0x1210, []⟩, [⟨63, 0, .ro, 0, .none⟩]⟩
  | .CORE_NUM_CTRL => ⟨true, ⟨.core, 0x1300, []⟩, [⟨3, 3, .rw, 0, .w⟩, ⟨2, 2, .rw, 1, .w⟩, ⟨1, 1, .rw, 0, .w⟩, ⟨0, 0, .rw, 1, .w⟩]⟩
  | .CORE_SR_SEED => ⟨true, ⟨.core, 0x1308, []⟩, [⟨63, 0, .rw, 0, .w⟩]⟩
  | .CORE_NUM_CNT => ⟨false, ⟨.core, 0x1310, []⟩, [⟨63, 63, .rc, 0, .none⟩, ⟨62, 62, .rc, 0, .none⟩, ⟨61, 61, .rc, 0, .none⟩, ⟨47, 32, .rc, 0, .none⟩, ⟨31, 16, .rc, 0, .none⟩, ⟨15, 0, .rc, 0, .none⟩]⟩
  | .CORE_NUM_LAST => ⟨false, ⟨.core, 0x1318, []⟩, [⟨63, 60, .rc, 0, .none⟩, ⟨59, 56, .rc, 0, .none⟩, ⟨47, 32, .rc, 0, .none⟩, ⟨31, 16, .rc, 0, .none⟩, ⟨15, 0, .rc, 0, .none⟩]⟩
  | .CORE_SPEC_k_CTRL => ⟨true, ⟨.core, 0x1400, [(512, 4, 0)]⟩, [⟨63, 32, .rw, 0, .none⟩, ⟨5, 4, .rw, 0, .none⟩, ⟨3, 3, .rw, 0, .none⟩, ⟨2, 2, .rw, 0, .none⟩, ⟨1, 1, .w1s, 0, .none⟩, ⟨0, 0, .rw, 0, .none⟩]⟩
  | .CORE_SPEC_k_LO => ⟨true, ⟨.core, 0x1408, [(512, 4, 0)]⟩, [⟨24, 0, .rw, 0, .none⟩]⟩
  | .CORE_SPEC_k_HI => ⟨true, ⟨.core, 0x1410, [(512, 4, 0)]⟩, [⟨24, 0, .rw, 0, .none⟩]⟩
  | .CORE_SPEC_k_STAT => ⟨false, ⟨.core, 0x1418, [(512, 4, 0)]⟩, [⟨63, 63, .ro, 0, .none⟩, ⟨62, 62, .ro, 0, .none⟩, ⟨61, 61, .ro, 0, .none⟩, ⟨47, 0, .ro, 0, .none⟩]⟩
  | .CORE_SPEC_k_BIN_n => ⟨false, ⟨.core, 0x1500, [(512, 4, 0), (8, 32, 0)]⟩, [⟨63, 32, .ro, 0, .none⟩, ⟨31, 0, .ro, 0, .none⟩]⟩
  | .HBM_STAT => ⟨false, ⟨.xdie, 0x0, []⟩, [⟨37, 32, .ro, 0, .none⟩, ⟨15, 8, .ro, 0, .none⟩, ⟨1, 1, .ro, 0, .none⟩, ⟨0, 0, .ro, 0, .none⟩]⟩
  | .HBM_CAPACITY => ⟨false, ⟨.xdie, 0x8, []⟩, [⟨55, 48, .ro, 0, .e⟩, ⟨47, 0, .ro, 618475290624, .e⟩]⟩
  | .HBM_MAPOUT_CTRL => ⟨true, ⟨.xdie, 0x10, []⟩, [⟨25, 16, .rw, 0, .none⟩, ⟨0, 0, .w1s, 0, .none⟩]⟩
  | .HBM_MAPOUT_STAT => ⟨false, ⟨.xdie, 0x18, []⟩, [⟨63, 48, .ro, 0, .w⟩, ⟨31, 22, .ro, 0, .w⟩, ⟨21, 12, .ro, 0, .none⟩, ⟨2, 0, .ro, 0, .none⟩]⟩
  | .HBM_MAPOUT_LIST_n => ⟨false, ⟨.xdie, 0x20, [(8, 6, 0)]⟩, [⟨63, 63, .ro, 0, .e⟩, ⟨57, 48, .ro, 0, .e⟩, ⟨47, 47, .ro, 0, .e⟩, ⟨41, 32, .ro, 0, .e⟩, ⟨31, 31, .ro, 0, .e⟩, ⟨25, 16, .ro, 0, .e⟩, ⟨15, 15, .ro, 0, .e⟩, ⟨9, 0, .ro, 0, .e⟩]⟩
  | .HBM_SCRUB_CTRL => ⟨true, ⟨.xdie, 0x50, []⟩, [⟨39, 8, .ro, 0, .none⟩, ⟨7, 0, .rw, 24, .w⟩]⟩
  | .HBM_STACK_s_STAT => ⟨false, ⟨.xdie, 0x100, [(8, 6, 0)]⟩, [⟨63, 63, .rc, 0, .none⟩, ⟨31, 16, .rc, 0, .none⟩, ⟨15, 8, .ro, 0, .none⟩, ⟨1, 1, .ro, 0, .none⟩, ⟨0, 0, .ro, 0, .none⟩]⟩
  | .HBM_PC_n_ERR => ⟨false, ⟨.xdie, 0x1000, [(8, 192, 0)]⟩, [⟨63, 63, .rc, 0, .none⟩, ⟨62, 62, .rc, 0, .none⟩, ⟨61, 61, .ro, 0, .e⟩, ⟨31, 16, .rc, 0, .none⟩, ⟨15, 0, .rc, 0, .none⟩]⟩
  | .MSC_CTRL => ⟨true, ⟨.xdie, 0x1000000, []⟩, [⟨16, 12, .rw, 12, .w⟩, ⟨10, 8, .rw, 2, .w⟩, ⟨7, 7, .rw, 1, .w⟩, ⟨6, 6, .rw, 0, .w⟩, ⟨1, 1, .w1s, 0, .none⟩, ⟨0, 0, .w1s, 0, .none⟩]⟩
  | .MSC_STAT => ⟨false, ⟨.xdie, 0x1000008, []⟩, [⟨53, 32, .ro, 0, .none⟩, ⟨31, 31, .ro, 0, .none⟩, ⟨21, 0, .ro, 0, .none⟩]⟩
  | .MSC_HIT_CNT => ⟨false, ⟨.xdie, 0x1000010, []⟩, [⟨63, 0, .ro, 0, .none⟩]⟩
  | .MSC_MISS_CNT => ⟨false, ⟨.xdie, 0x1000018, []⟩, [⟨63, 0, .ro, 0, .none⟩]⟩
  | .MSC_DROP_CNT => ⟨false, ⟨.xdie, 0x1000020, []⟩, [⟨63, 0, .ro, 0, .none⟩]⟩
  | .MSC_ERR_CNT => ⟨false, ⟨.xdie, 0x1000028, []⟩, [⟨63, 63, .rc, 0, .none⟩, ⟨62, 62, .rc, 0, .none⟩, ⟨61, 61, .rc, 0, .none⟩, ⟨47, 32, .rc, 0, .none⟩, ⟨31, 16, .rc, 0, .none⟩, ⟨15, 0, .rc, 0, .none⟩]⟩
  | .GAS_CTRL => ⟨true, ⟨.gas, 0x0, []⟩, [⟨33, 32, .rw, 3, .w⟩, ⟨13, 0, .rw, 1000, .w⟩]⟩
  | .GAS_EPOCH => ⟨false, ⟨.gas, 0x8, []⟩, [⟨31, 0, .ro, 0, .e⟩]⟩
  | .GAS_REGION_FENCE => ⟨true, ⟨.gas, 0x10, []⟩, [⟨0, 0, .w1s, 0, .none⟩]⟩
  | .GAS_REPLY_STAT => ⟨false, ⟨.gas, 0x18, []⟩, [⟨63, 63, .ro, 0, .none⟩, ⟨44, 32, .ro, 0, .w⟩, ⟨12, 0, .ro, 0, .w⟩]⟩
  | .GAS_REPLY_PURGE => ⟨true, ⟨.gas, 0x20, []⟩, [⟨31, 31, .w1s, 0, .none⟩, ⟨24, 24, .rw, 0, .none⟩, ⟨17, 0, .rw, 0, .none⟩]⟩
  | .GAS_ISSUED_CNT => ⟨false, ⟨.gas, 0x28, []⟩, [⟨63, 0, .ro, 0, .none⟩]⟩
  | .GAS_SERVED_CNT => ⟨false, ⟨.gas, 0x30, []⟩, [⟨63, 0, .ro, 0, .none⟩]⟩
  | .GAS_ERR_CNT => ⟨false, ⟨.gas, 0x38, []⟩, [⟨63, 63, .rc, 0, .none⟩, ⟨62, 62, .rc, 0, .none⟩, ⟨61, 61, .rc, 0, .none⟩, ⟨60, 60, .rc, 0, .none⟩, ⟨55, 42, .rc, 0, .none⟩, ⟨41, 28, .rc, 0, .none⟩, ⟨27, 14, .rc, 0, .none⟩, ⟨13, 0, .rc, 0, .none⟩]⟩
  | .GAS_QUERY_CTRL => ⟨true, ⟨.gas, 0x100, []⟩, [⟨12, 8, .rw, 0, .none⟩, ⟨1, 1, .w1s, 0, .none⟩, ⟨0, 0, .w1s, 0, .none⟩]⟩
  | .GAS_UNSETTLED_STAT => ⟨false, ⟨.gas, 0x108, []⟩, [⟨63, 63, .rc, 0, .none⟩, ⟨15, 0, .rc, 0, .w⟩]⟩
  | .GAS_UNSETTLED_n_TAG => ⟨true, ⟨.gas, 0x1000, [(64, 32, 0)]⟩, [⟨63, 60, .rw, 0, .w⟩, ⟨59, 57, .ro, 0, .w⟩, ⟨56, 56, .ro, 0, .w⟩, ⟨24, 18, .rw, 0, .w⟩, ⟨17, 0, .rw, 0, .w⟩]⟩
  | .GAS_UNSETTLED_n_EPOCH => ⟨true, ⟨.gas, 0x1008, [(64, 32, 0)]⟩, [⟨31, 0, .rw, 0, .w⟩]⟩
  | .GAS_UNSETTLED_n_SEQ => ⟨true, ⟨.gas, 0x1010, [(64, 32, 0)]⟩, [⟨63, 0, .rw, 0, .w⟩]⟩
  | .GAS_UNSETTLED_n_ADDR => ⟨false, ⟨.gas, 0x1018, [(64, 32, 0)]⟩, [⟨63, 0, .ro, 0, .w⟩]⟩
  | .GAS_UNSETTLED_n_VALUE => ⟨false, ⟨.gas, 0x1020, [(64, 32, 0)]⟩, [⟨63, 0, .ro, 0, .w⟩]⟩
  | .GAS_UNSETTLED_n_TIME => ⟨true, ⟨.gas, 0x1028, [(64, 32, 0)]⟩, [⟨63, 0, .rw, 0, .w⟩]⟩
  | .GAS_REGION_n_BASE => ⟨true, ⟨.gas, 0x10000, [(32, 4096, 0)]⟩, [⟨45, 16, .rw, 0, .w⟩]⟩
  | .GAS_REGION_n_LIMIT => ⟨true, ⟨.gas, 0x10008, [(32, 4096, 0)]⟩, [⟨45, 16, .rw, 0, .w⟩]⟩
  | .GAS_REGION_n_ATTR => ⟨true, ⟨.gas, 0x10010, [(32, 4096, 0)]⟩, [⟨31, 16, .rw, 0, .w⟩, ⟨4, 4, .rw, 0, .w⟩, ⟨3, 3, .rw, 0, .w⟩, ⟨2, 2, .rw, 0, .w⟩, ⟨1, 1, .rw, 0, .w⟩, ⟨0, 0, .rw, 0, .w⟩]⟩
  | .XFB_COORD => ⟨false, ⟨.sdie, 0x0, []⟩, [⟨63, 63, .ro, 0, .none⟩, ⟨62, 61, .ro, 0, .none⟩, ⟨17, 0, .ro, 0, .none⟩]⟩
  | .XFB_DIMS => ⟨false, ⟨.sdie, 0x8, []⟩, [⟨63, 63, .ro, 0, .none⟩, ⟨17, 12, .ro, 0, .none⟩, ⟨11, 6, .ro, 0, .none⟩, ⟨5, 0, .ro, 0, .none⟩]⟩
  | .XFB_ANCHOR => ⟨false, ⟨.sdie, 0x10, []⟩, [⟨63, 63, .rw, 0, .none⟩, ⟨35, 18, .rw, 0, .none⟩, ⟨17, 0, .rw, 0, .none⟩]⟩
  | .XFB_COORD_OVERRIDE => ⟨true, ⟨.sdie, 0x18, []⟩, [⟨63, 63, .w1s, 0, .none⟩, ⟨62, 62, .w1s, 0, .none⟩, ⟨35, 18, .rw, 0, .none⟩, ⟨17, 0, .rw, 0, .none⟩]⟩
  | .XFB_PART_b => ⟨true, ⟨.sdie, 0x20, [(8, 2, 0)]⟩, [⟨14, 14, .rw, 1, .w⟩, ⟨13, 13, .rw, 1, .w⟩, ⟨12, 12, .rw, 1, .w⟩, ⟨11, 0, .rw, 1, .w⟩]⟩
  | .XFB_TABLE_CTRL => ⟨true, ⟨.sdie, 0x30, []⟩, [⟨8, 8, .ro, 0, .w⟩, ⟨2, 2, .w1s, 0, .none⟩, ⟨1, 1, .w1s, 0, .none⟩, ⟨0, 0, .w1s, 0, .none⟩]⟩
  | .XFB_TABLE_STAT => ⟨false, ⟨.sdie, 0x38, []⟩, [⟨63, 32, .ro, 0, .none⟩, ⟨2, 2, .rc, 0, .none⟩, ⟨1, 1, .ro, 0, .none⟩, ⟨0, 0, .ro, 0, .none⟩]⟩
  | .XFB_VC_WEIGHT => ⟨true, ⟨.sdie, 0x40, []⟩, [⟨63, 56, .rw, 0, .w⟩, ⟨55, 48, .rw, 24, .w⟩, ⟨47, 40, .rw, 16, .w⟩, ⟨39, 32, .rw, 96, .w⟩, ⟨31, 24, .rw, 48, .w⟩, ⟨23, 16, .rw, 48, .w⟩, ⟨15, 8, .rw, 16, .w⟩, ⟨7, 0, .rw, 8, .w⟩]⟩
  | .XFB_ECN_CTRL => ⟨true, ⟨.sdie, 0x48, []⟩, [⟨47, 32, .rw, 768, .w⟩, ⟨31, 16, .rw, 128, .w⟩, ⟨15, 8, .rw, 64, .w⟩, ⟨0, 0, .rw, 1, .w⟩]⟩
  | .XFB_RATE_CTRL => ⟨true, ⟨.sdie, 0x50, []⟩, [⟨63, 63, .rw, 1, .w⟩, ⟨55, 48, .rw, 55, .w⟩, ⟨47, 40, .rw, 50, .w⟩, ⟨39, 36, .rw, 4, .w⟩, ⟨35, 32, .rw, 5, .w⟩, ⟨19, 10, .rw, 8, .w⟩, ⟨9, 0, .rw, 1, .w⟩]⟩
  | .XFB_HOLD => ⟨true, ⟨.sdie, 0x58, []⟩, [⟨31, 16, .rw, 1000, .w⟩, ⟨15, 0, .rw, 200, .w⟩]⟩
  | .XFB_CIRCUIT_STAT => ⟨false, ⟨.sdie, 0x60, []⟩, [⟨63, 63, .rc, 0, .none⟩, ⟨31, 16, .rc, 0, .none⟩, ⟨12, 0, .ro, 0, .none⟩]⟩
  | .XFB_RATE_STAT => ⟨false, ⟨.sdie, 0x68, []⟩, [⟨63, 63, .rc, 0, .none⟩, ⟨47, 32, .rc, 0, .none⟩, ⟨8, 0, .ro, 0, .none⟩]⟩
  | .XFB_DROP_CNT => ⟨false, ⟨.sdie, 0x70, []⟩, [⟨63, 63, .rc, 0, .none⟩, ⟨59, 50, .rc, 0, .none⟩, ⟨49, 40, .rc, 0, .none⟩, ⟨39, 30, .rc, 0, .none⟩, ⟨29, 20, .rc, 0, .none⟩, ⟨19, 10, .rc, 0, .none⟩, ⟨9, 0, .rc, 0, .none⟩]⟩
  | .XFB_ROUTE_b_d_h => ⟨true, ⟨.sdie, 0x100, [(64, 2, 0), (8, 6, 0)]⟩, [⟨63, 62, .rw, 3, .w⟩, ⟨61, 60, .rw, 3, .w⟩, ⟨59, 58, .rw, 3, .w⟩, ⟨57, 56, .rw, 3, .w⟩, ⟨55, 54, .rw, 3, .w⟩, ⟨53, 52, .rw, 3, .w⟩, ⟨51, 50, .rw, 3, .w⟩, ⟨49, 48, .rw, 3, .w⟩, ⟨47, 46, .rw, 3, .w⟩, ⟨45, 44, .rw, 3, .w⟩, ⟨43, 42, .rw, 3, .w⟩, ⟨41, 40, .rw, 3, .w⟩, ⟨39, 38, .rw, 3, .w⟩, ⟨37, 36, .rw, 3, .w⟩, ⟨35, 34, .rw, 3, .w⟩, ⟨33, 32, .rw, 3, .w⟩, ⟨31, 30, .rw, 3, .w⟩, ⟨29, 28, .rw, 3, .w⟩, ⟨27, 26, .rw, 3, .w⟩, ⟨25, 24, .rw, 3, .w⟩, ⟨23, 22, .rw, 3, .w⟩, ⟨21, 20, .rw, 3, .w⟩, ⟨19, 18, .rw, 3, .w⟩, ⟨17, 16, .rw, 3, .w⟩, ⟨15, 14, .rw, 3, .w⟩, ⟨13, 12, .rw, 3, .w⟩, ⟨11, 10, .rw, 3, .w⟩, ⟨9, 8, .rw, 3, .w⟩, ⟨7, 6, .rw, 3, .w⟩, ⟨5, 4, .rw, 3, .w⟩, ⟨3, 2, .rw, 3, .w⟩, ⟨1, 0, .rw, 3, .w⟩]⟩
  | .XFB_FACE_f_STAT => ⟨false, ⟨.sdie, 0x200, [(32, 6, 0)]⟩, [⟨63, 63, .ro, 0, .none⟩, ⟨62, 62, .ro, 0, .none⟩, ⟨61, 61, .ro, 0, .none⟩, ⟨59, 56, .ro, 0, .none⟩, ⟨17, 0, .ro, 0, .none⟩]⟩
  | .XFB_FACE_f_TX_CNT => ⟨false, ⟨.sdie, 0x208, [(32, 6, 0)]⟩, [⟨63, 0, .ro, 0, .none⟩]⟩
  | .XFB_FACE_f_RX_CNT => ⟨false, ⟨.sdie, 0x210, [(32, 6, 0)]⟩, [⟨63, 0, .ro, 0, .none⟩]⟩
  | .XFB_FACE_f_CE_CNT => ⟨false, ⟨.sdie, 0x218, [(32, 6, 0)]⟩, [⟨63, 0, .ro, 0, .none⟩]⟩
  | .XFB_EXC_b_n => ⟨true, ⟨.sdie, 0x1000, [(2048, 2, 0), (8, 256, 0)]⟩, [⟨63, 63, .rw, 0, .w⟩, ⟨62, 60, .rw, 0, .w⟩, ⟨53, 36, .rw, 0, .w⟩, ⟨17, 0, .rw, 0, .w⟩]⟩
  | .XFB_TRANSIT_n_PATH => ⟨true, ⟨.sdie, 0x4000, [(32, 256, 0)]⟩, [⟨63, 48, .rw, 0, .none⟩, ⟨47, 40, .rw, 0, .none⟩, ⟨35, 35, .rw, 0, .none⟩, ⟨34, 34, .rw, 0, .none⟩, ⟨33, 33, .rw, 0, .none⟩, ⟨17, 0, .rw, 0, .none⟩]⟩
  | .XFB_TRANSIT_n_CTRL => ⟨true, ⟨.sdie, 0x4008, [(32, 256, 0)]⟩, [⟨1, 1, .w1s, 0, .none⟩, ⟨0, 0, .w1s, 0, .none⟩]⟩
  | .XFB_TRANSIT_n_STAT => ⟨false, ⟨.sdie, 0x4010, [(32, 256, 0)]⟩, [⟨63, 48, .ro, 0, .none⟩, ⟨47, 40, .ro, 0, .none⟩, ⟨39, 31, .ro, 0, .none⟩, ⟨2, 0, .ro, 0, .none⟩]⟩
  | .XFB_TRANSIT_n_CNT => ⟨false, ⟨.sdie, 0x4018, [(32, 256, 0)]⟩, [⟨63, 0, .ro, 0, .none⟩]⟩
  | .OPT_FACE_STAT => ⟨false, ⟨.pdie, 0x0, []⟩, [⟨41, 32, .ro, 0, .none⟩, ⟨23, 16, .ro, 0, .w⟩, ⟨11, 8, .ro, 0, .none⟩, ⟨3, 3, .ro, 0, .none⟩, ⟨2, 0, .ro, 0, .none⟩]⟩
  | .OPT_SPARE_POLICY => ⟨true, ⟨.pdie, 0x8, []⟩, [⟨47, 32, .rw, 1190, .w⟩, ⟨23, 16, .rw, 130, .w⟩, ⟨7, 0, .rw, 150, .w⟩]⟩
  | .OPT_PORT_n_STAT => ⟨false, ⟨.pdie, 0x1000, [(4096, 10, 0)]⟩, [⟨63, 60, .ro, 0, .none⟩, ⟨59, 55, .ro, 0, .none⟩, ⟨54, 53, .ro, 2, .e⟩, ⟨52, 51, .ro, 2, .e⟩, ⟨50, 48, .ro, 0, .none⟩, ⟨47, 44, .ro, 0, .none⟩, ⟨43, 40, .ro, 0, .e⟩, ⟨39, 36, .ro, 0, .none⟩, ⟨35, 32, .ro, 15, .none⟩, ⟨15, 0, .ro, 0, .none⟩]⟩
  | .OPT_PORT_n_CTRL => ⟨true, ⟨.pdie, 0x1008, [(4096, 10, 0)]⟩, [⟨11, 8, .rw, 0, .none⟩, ⟨2, 2, .w1s, 0, .none⟩, ⟨1, 1, .w1s, 0, .none⟩, ⟨0, 0, .rw, 0, .w⟩]⟩
  | .OPT_PORT_n_POWER => ⟨false, ⟨.pdie, 0x1010, [(4096, 10, 0)]⟩, [⟨63, 48, .ro, 0, .none⟩, ⟨47, 32, .ro, 0, .none⟩, ⟨31, 16, .ro, 0, .none⟩, ⟨15, 0, .ro, 0, .none⟩]⟩
  | .OPT_PORT_n_GRP_CNT => ⟨false, ⟨.pdie, 0x1018, [(4096, 10, 0)]⟩, [⟨63, 0, .ro, 0, .none⟩]⟩
  | .OPT_PORT_n_CORR_CNT => ⟨false, ⟨.pdie, 0x1020, [(4096, 10, 0)]⟩, [⟨63, 0, .ro, 0, .none⟩]⟩
  | .OPT_PORT_n_FEC_CNT => ⟨false, ⟨.pdie, 0x1028, [(4096, 10, 0)]⟩, [⟨63, 63, .rc, 0, .none⟩, ⟨62, 62, .rc, 0, .none⟩, ⟨61, 61, .rc, 0, .none⟩, ⟨60, 60, .rc, 0, .none⟩, ⟨47, 36, .rc, 0, .none⟩, ⟨35, 24, .rc, 0, .none⟩, ⟨23, 12, .rc, 0, .none⟩, ⟨11, 0, .rc, 0, .none⟩]⟩
  | .OPT_PORT_n_MAP_k => ⟨false, ⟨.pdie, 0x1040, [(4096, 10, 0), (8, 4, 0)]⟩, [⟨59, 55, .ro, 0, .e⟩, ⟨54, 50, .ro, 0, .e⟩, ⟨49, 45, .ro, 0, .e⟩, ⟨44, 40, .ro, 0, .e⟩, ⟨39, 35, .ro, 0, .e⟩, ⟨34, 30, .ro, 0, .e⟩, ⟨29, 25, .ro, 0, .e⟩, ⟨24, 20, .ro, 0, .e⟩, ⟨19, 15, .ro, 0, .e⟩, ⟨14, 10, .ro, 0, .e⟩, ⟨9, 5, .ro, 0, .e⟩, ⟨4, 0, .ro, 0, .e⟩]⟩
  | .OPT_PORT_n_CH_c_LASER => ⟨false, ⟨.pdie, 0x1100, [(4096, 10, 0), (16, 18, 0)]⟩, [⟨63, 48, .ro, 0, .e⟩, ⟨47, 32, .ro, 0, .none⟩, ⟨31, 16, .ro, 0, .none⟩, ⟨3, 0, .ro, 0, .e⟩]⟩
  | .OPT_PORT_n_CH_c_MON => ⟨false, ⟨.pdie, 0x1108, [(4096, 10, 0), (16, 18, 0)]⟩, [⟨63, 48, .ro, 0, .none⟩, ⟨47, 32, .ro, 0, .none⟩, ⟨31, 16, .ro, 0, .none⟩, ⟨15, 0, .ro, 0, .none⟩]⟩
  | .COL_CTRL => ⟨true, ⟨.sdie, 0x1000000, []⟩, [⟨47, 32, .rw, 50, .w⟩, ⟨7, 0, .rw, 20, .w⟩]⟩
  | .COL_ERR_CNT => ⟨false, ⟨.sdie, 0x1000008, []⟩, [⟨63, 63, .rc, 0, .none⟩, ⟨62, 62, .rc, 0, .none⟩, ⟨61, 61, .rc, 0, .none⟩, ⟨60, 60, .rc, 0, .none⟩, ⟨55, 42, .rc, 0, .none⟩, ⟨41, 28, .rc, 0, .none⟩, ⟨27, 14, .rc, 0, .none⟩, ⟨13, 0, .rc, 0, .none⟩]⟩
  | .COL_GROUP_n_CFG => ⟨true, ⟨.sdie, 0x1001000, [(64, 256, 0)]⟩, [⟨63, 63, .rw, 0, .w⟩, ⟨62, 62, .rw, 0, .w⟩, ⟨57, 51, .rw, 0, .w⟩, ⟨47, 32, .rw, 0, .w⟩, ⟨31, 0, .rw, 0, .w⟩]⟩
  | .COL_GROUP_n_BOX => ⟨true, ⟨.sdie, 0x1001008, [(64, 256, 0)]⟩, [⟨35, 18, .rw, 0, .w⟩, ⟨17, 0, .rw, 0, .w⟩]⟩
  | .COL_GROUP_n_LIST => ⟨true, ⟨.sdie, 0x1001010, [(64, 256, 0)]⟩, [⟨58, 46, .rw, 0, .w⟩, ⟨45, 0, .rw, 0, .w⟩]⟩
  | .COL_GROUP_n_ROLE => ⟨true, ⟨.sdie, 0x1001018, [(64, 256, 0)]⟩, [⟨63, 48, .rw, 0, .w⟩, ⟨47, 36, .rw, 0, .w⟩, ⟨35, 18, .rw, 0, .w⟩]⟩
  | .COL_GROUP_n_RXBUF => ⟨true, ⟨.sdie, 0x1001020, [(64, 256, 0)]⟩, [⟨63, 46, .rw, 0, .w⟩, ⟨45, 0, .rw, 0, .w⟩]⟩
  | .COL_GROUP_n_DONE => ⟨false, ⟨.sdie, 0x1001028, [(64, 256, 0)]⟩, [⟨63, 0, .ro, 0, .none⟩]⟩
  | .COL_GROUP_n_STAT => ⟨false, ⟨.sdie, 0x1001030, [(64, 256, 0)]⟩, [⟨63, 61, .ro, 0, .none⟩, ⟨60, 60, .ro, 0, .none⟩, ⟨59, 36, .ro, 0, .none⟩, ⟨35, 18, .ro, 0, .none⟩, ⟨17, 0, .ro, 0, .none⟩]⟩
  | .COL_GROUP_n_CTRL => ⟨true, ⟨.sdie, 0x1001038, [(64, 256, 0)]⟩, [⟨63, 48, .ro, 0, .none⟩, ⟨0, 0, .w1s, 0, .none⟩]⟩
  | .CORE_COLL_REC => ⟨false, ⟨.core, 0x1220, []⟩, [⟨63, 56, .ro, 0, .none⟩, ⟨55, 32, .ro, 0, .none⟩, ⟨31, 16, .ro, 0, .none⟩, ⟨4, 4, .ro, 0, .none⟩, ⟨3, 0, .ro, 0, .none⟩]⟩
  | .SYN_CORE_FAULT => ⟨false, ⟨.core, 0x1C00, []⟩, [⟨63, 48, .rc, 0, .none⟩, ⟨41, 24, .rc, 0, .none⟩, ⟨23, 21, .rc, 0, .none⟩, ⟨11, 0, .rc, 0, .none⟩]⟩
  | .SYN_CORE_STAT => ⟨false, ⟨.core, 0x1C10, []⟩, [⟨63, 63, .rc, 0, .none⟩, ⟨15, 0, .rc, 0, .none⟩]⟩
  | .SYN_UPDATE_CNT => ⟨false, ⟨.core, 0x1C08, []⟩, [⟨63, 0, .ro, 0, .none⟩]⟩
  | .SYN_CNT_n => ⟨true, ⟨.core, 0x8000, [(16, 4096, 0)]⟩, [⟨47, 0, .rw, 0, .none⟩]⟩
  | .SYN_CNT_n_ADD => ⟨true, ⟨.core, 0x8008, [(16, 4096, 0)]⟩, [⟨47, 0, .wo, 0, .none⟩]⟩
  | .SYN_FLOOR_n => ⟨false, ⟨.core, 0x18000, [(8, 4096, 0)]⟩, [⟨47, 0, .ro, 0, .none⟩]⟩
  | .SYN_CHRONO => ⟨false, ⟨.sdie, 0x2000000, []⟩, [⟨63, 0, .ro, 0, .none⟩]⟩
  | .SYN_TIME_CTRL => ⟨false, ⟨.sdie, 0x2000008, []⟩, [⟨63, 63, .rw, 0, .w⟩, ⟨17, 0, .rw, 0, .w⟩]⟩
  | .SYN_TIME_STAT => ⟨false, ⟨.sdie, 0x2000010, []⟩, [⟨63, 63, .ro, 0, .none⟩, ⟨62, 60, .ro, 7, .none⟩, ⟨58, 52, .ro, 0, .none⟩, ⟨51, 32, .ro, 0, .none⟩, ⟨31, 0, .ro, 0, .none⟩]⟩
  | .SYN_MERIDIAN_TICK => ⟨true, ⟨.sdie, 0x2000018, []⟩, [⟨63, 0, .rw, 0, .none⟩]⟩
  | .SYN_MERIDIAN_CTRL => ⟨true, ⟨.sdie, 0x2000020, []⟩, [⟨63, 63, .rc, 0, .none⟩, ⟨62, 62, .rc, 0, .none⟩, ⟨13, 2, .rw, 0, .none⟩, ⟨1, 1, .w1s, 0, .none⟩, ⟨0, 0, .w1s, 0, .none⟩]⟩
  | .SYN_MERIDIAN_DONE => ⟨false, ⟨.sdie, 0x2000028, []⟩, [⟨63, 0, .ro, 0, .none⟩]⟩
  | .SYN_BARRIER_n => ⟨false, ⟨.sdie, 0x2001000, [(8, 256, 0)]⟩, [⟨63, 40, .ro, 0, .none⟩, ⟨18, 0, .ro, 0, .none⟩]⟩
  | .DLK_PKG_LEVEL => ⟨false, ⟨.xdie, 0x2000000, []⟩, [⟨35, 32, .ro, 0, .none⟩, ⟨19, 16, .rw, 0, .none⟩, ⟨15, 12, .rw, 0, .none⟩, ⟨11, 8, .rw, 0, .none⟩, ⟨7, 4, .rw, 0, .none⟩, ⟨3, 0, .rw, 0, .none⟩]⟩
  | .DLK_DIE_k_INV => ⟨false, ⟨.xdie, 0x2000008, [(8, 20, 0)]⟩, [⟨63, 63, .ro, 0, .none⟩, ⟨62, 62, .ro, 0, .none⟩, ⟨61, 61, .ro, 0, .none⟩, ⟨11, 8, .ro, 0, .none⟩, ⟨7, 4, .ro, 0, .none⟩, ⟨3, 0, .ro, 0, .none⟩]⟩
  | .DLK_LINK_n_STAT => ⟨false, ⟨.xdie, 0x2001000, [(64, 31, 0)]⟩, [⟨63, 60, .ro, 0, .none⟩, ⟨59, 56, .ro, 0, .none⟩, ⟨55, 52, .ro, 0, .none⟩, ⟨51, 48, .ro, 0, .none⟩, ⟨47, 40, .ro, 0, .none⟩, ⟨33, 32, .ro, 0, .none⟩, ⟨15, 0, .ro, 0, .none⟩]⟩
  | .DLK_LINK_n_CTRL => ⟨true, ⟨.xdie, 0x2001008, [(64, 31, 0)]⟩, [⟨1, 1, .rw, 0, .none⟩, ⟨0, 0, .w1s, 0, .none⟩]⟩
  | .DLK_LINK_n_ERR => ⟨false, ⟨.xdie, 0x2001010, [(64, 31, 0)]⟩, [⟨63, 63, .rc, 0, .none⟩, ⟨62, 62, .rc, 0, .none⟩, ⟨61, 61, .rc, 0, .none⟩, ⟨60, 60, .rc, 0, .none⟩, ⟨55, 42, .rc, 0, .none⟩, ⟨41, 28, .rc, 0, .none⟩, ⟨27, 14, .rc, 0, .none⟩, ⟨13, 0, .rc, 0, .none⟩]⟩
  | .DLK_LINK_n_FRAMES => ⟨false, ⟨.xdie, 0x2001018, [(64, 31, 0)]⟩, [⟨63, 0, .ro, 0, .none⟩]⟩
  | .HLK_STAT => ⟨false, ⟨.hlk, 0x0, []⟩, [⟨63, 60, .ro, 0, .none⟩, ⟨59, 58, .ro, 0, .none⟩, ⟨51, 48, .ro, 0, .none⟩, ⟨39, 36, .ro, 0, .none⟩, ⟨15, 0, .ro, 0, .none⟩]⟩
  | .HLK_CTRL => ⟨true, ⟨.hlk, 0x8, []⟩, [⟨63, 32, .rw, 100, .w⟩, ⟨2, 2, .rw, 1, .w⟩, ⟨1, 1, .rw, 1, .w⟩, ⟨0, 0, .rw, 0, .none⟩]⟩
  | .HLK_WINDOW_BASE => ⟨false, ⟨.hlk, 0x10, []⟩, [⟨63, 0, .ro, 0, .none⟩]⟩
  | .HLK_WINDOW_SIZE => ⟨false, ⟨.hlk, 0x18, []⟩, [⟨14, 0, .ro, 0, .none⟩]⟩
  | .HLK_COMP_ID => ⟨false, ⟨.hlk, 0x20, []⟩, [⟨63, 0, .ro, 0, .none⟩]⟩
  | .HLK_DIR_STAT => ⟨false, ⟨.hlk, 0x28, []⟩, [⟨44, 24, .ro, 0, .none⟩, ⟨20, 0, .ro, 0, .none⟩]⟩
  | .HLK_TX_CNT => ⟨false, ⟨.hlk, 0x30, []⟩, [⟨63, 0, .ro, 0, .none⟩]⟩
  | .HLK_RX_CNT => ⟨false, ⟨.hlk, 0x38, []⟩, [⟨63, 0, .ro, 0, .none⟩]⟩
  | .HLK_ERR_CNT => ⟨false, ⟨.hlk, 0x40, []⟩, [⟨63, 63, .rc, 0, .none⟩, ⟨62, 62, .rc, 0, .none⟩, ⟨61, 61, .rc, 0, .none⟩, ⟨60, 60, .rc, 0, .none⟩, ⟨55, 42, .rc, 0, .none⟩, ⟨41, 28, .rc, 0, .none⟩, ⟨27, 14, .rc, 0, .none⟩, ⟨13, 0, .rc, 0, .none⟩]⟩
  | .INT_CFG => ⟨false, ⟨.intc, 0x0, []⟩, [⟨11, 8, .rw, 0, .none⟩, ⟨0, 0, .rw, 0, .none⟩]⟩
  | .INT_PEND_SET_k => ⟨true, ⟨.intc, 0x100, [(32, 16, 0)]⟩, [⟨63, 0, .w1s, 0, .none⟩]⟩
  | .INT_PEND_CLR_k => ⟨true, ⟨.intc, 0x108, [(32, 16, 0)]⟩, [⟨63, 0, .w1c, 0, .none⟩]⟩
  | .INT_MASK_SET_k => ⟨true, ⟨.intc, 0x110, [(32, 16, 0)]⟩, [⟨63, 0, .w1s, 18446744073709551615, .w⟩]⟩
  | .INT_MASK_CLR_k => ⟨true, ⟨.intc, 0x118, [(32, 16, 0)]⟩, [⟨63, 0, .w1c, 18446744073709551615, .w⟩]⟩
  | .INT_TGT_t_THRESH => ⟨true, ⟨.intc, 0x400, [(32, 12, 0)]⟩, [⟨3, 0, .rw, 0, .w⟩]⟩
  | .INT_TGT_t_CLAIM => ⟨false, ⟨.intc, 0x408, [(32, 12, 0)]⟩, [⟨31, 31, .rc, 0, .none⟩, ⟨19, 16, .rc, 0, .none⟩, ⟨9, 0, .rc, 0, .none⟩]⟩
  | .INT_TGT_t_EOI => ⟨true, ⟨.intc, 0x410, [(32, 12, 0)]⟩, [⟨9, 0, .wo, 0, .none⟩]⟩
  | .INT_TGT_t_STAT => ⟨false, ⟨.intc, 0x418, [(32, 12, 0)]⟩, [⟨16, 16, .ro, 0, .none⟩, ⟨15, 0, .ro, 0, .none⟩]⟩
  | .INT_SRC_n_CFG => ⟨true, ⟨.intc, 0x1000, [(8, 1024, 0)]⟩, [⟨11, 8, .rw, 0, .w⟩, ⟨3, 0, .rw, 0, .w⟩]⟩
  | .BOOT_STAT => ⟨false, ⟨.boot, 0x0, []⟩, [⟨63, 60, .ro, 0, .none⟩, ⟨59, 58, .ro, 0, .none⟩, ⟨57, 57, .ro, 0, .none⟩, ⟨56, 56, .ro, 0, .none⟩, ⟨55, 55, .ro, 0, .none⟩, ⟨15, 0, .ro, 0, .none⟩]⟩
  | .BOOT_CTRL => ⟨true, ⟨.boot, 0x8, []⟩, [⟨2, 2, .rw, 0, .e⟩, ⟨1, 1, .w1s, 0, .none⟩, ⟨0, 0, .w1s, 0, .none⟩]⟩
  | .BOOT_DIE_RESET => ⟨true, ⟨.boot, 0x10, []⟩, [⟨63, 60, .ro, 0, .none⟩, ⟨8, 8, .w1s, 0, .none⟩, ⟨4, 0, .rw, 0, .none⟩]⟩
  | .BOOT_STRAP => ⟨false, ⟨.boot, 0x18, []⟩, [⟨34, 32, .ro, 0, .w⟩, ⟨31, 0, .ro, 0, .w⟩]⟩
  | .BOOT_START_CNT => ⟨false, ⟨.boot, 0x20, []⟩, [⟨63, 32, .ro, 0, .e⟩, ⟨31, 0, .ro, 0, .e⟩]⟩
  | .BOOT_LAST_START => ⟨false, ⟨.boot, 0x28, []⟩, [⟨63, 32, .ro, 0, .none⟩, ⟨17, 0, .ro, 0, .none⟩]⟩
  | .BOOT_FW_STAT => ⟨false, ⟨.boot, 0x30, []⟩, [⟨63, 63, .ro, 0, .none⟩, ⟨59, 59, .ro, 0, .none⟩, ⟨58, 58, .ro, 0, .e⟩, ⟨55, 52, .ro, 0, .e⟩, ⟨51, 48, .ro, 0, .e⟩, ⟨47, 44, .ro, 0, .e⟩, ⟨43, 40, .ro, 0, .e⟩, ⟨32, 32, .ro, 0, .none⟩, ⟨15, 0, .ro, 0, .none⟩]⟩
  | .BOOT_FW_CTRL => ⟨true, ⟨.boot, 0x38, []⟩, [⟨3, 3, .w1s, 0, .none⟩, ⟨2, 2, .w1s, 0, .none⟩, ⟨1, 1, .w1s, 0, .none⟩, ⟨0, 0, .w1s, 0, .none⟩]⟩
  | .BOOT_FW_VER_s => ⟨false, ⟨.boot, 0x40, [(8, 2, 0)]⟩, [⟨31, 0, .ro, 0, .e⟩]⟩
  | .BOOT_ALMANAC_SEQ => ⟨false, ⟨.boot, 0x50, []⟩, [⟨63, 0, .ro, 0, .w⟩]⟩
  | .BOOT_WATCHDOG => ⟨true, ⟨.boot, 0x58, []⟩, [⟨31, 16, .rw, 1000, .w⟩, ⟨0, 0, .w1s, 0, .none⟩]⟩
  | .BOOT_REFUSED => ⟨false, ⟨.boot, 0x60, []⟩, [⟨63, 60, .rc, 0, .none⟩, ⟨39, 0, .rc, 0, .none⟩]⟩
  | .EPH_STAT => ⟨false, ⟨.boot, 0x1000000, []⟩, [⟨63, 63, .ro, 0, .none⟩, ⟨62, 62, .ro, 0, .none⟩, ⟨61, 61, .ro, 0, .none⟩, ⟨47, 32, .ro, 0, .none⟩, ⟨16, 0, .ro, 0, .none⟩]⟩
  | .EPH_JOURNAL_SEQ => ⟨false, ⟨.boot, 0x1000008, []⟩, [⟨63, 0, .ro, 0, .e⟩]⟩
  | .EPH_AREA => ⟨false, ⟨.boot, 0x1000010, []⟩, [⟨63, 32, .ro, 0, .e⟩, ⟨31, 0, .ro, 0, .none⟩]⟩
  | .EPH_ERR_CNT => ⟨false, ⟨.boot, 0x1000018, []⟩, [⟨63, 63, .rc, 0, .none⟩, ⟨62, 62, .rc, 0, .none⟩, ⟨61, 61, .rc, 0, .none⟩, ⟨60, 60, .rc, 0, .none⟩, ⟨55, 42, .rc, 0, .none⟩, ⟨41, 28, .rc, 0, .none⟩, ⟨27, 14, .rc, 0, .none⟩, ⟨13, 0, .rc, 0, .none⟩]⟩
  | .EPH_CTRL => ⟨true, ⟨.boot, 0x1000020, []⟩, [⟨1, 1, .w1s, 0, .none⟩, ⟨0, 0, .w1s, 0, .none⟩]⟩
  | .SEC_STAT => ⟨false, ⟨.sec, 0x0, []⟩, [⟨63, 62, .ro, 0, .w⟩, ⟨61, 61, .ro, 0, .none⟩, ⟨15, 0, .ro, 0, .none⟩]⟩
  | .SEC_FLOOR => ⟨false, ⟨.sec, 0x8, []⟩, [⟨63, 32, .ro, 0, .none⟩]⟩
  | .SEC_ALM_FLOOR => ⟨false, ⟨.sec, 0x10, []⟩, [⟨63, 0, .ro, 0, .none⟩]⟩
  | .SEC_ATTEST_CTRL => ⟨true, ⟨.sec, 0x18, []⟩, [⟨0, 0, .w1s, 0, .none⟩]⟩
  | .SEC_ATTEST_STAT => ⟨false, ⟨.sec, 0x20, []⟩, [⟨63, 63, .ro, 0, .none⟩, ⟨62, 62, .ro, 0, .none⟩, ⟨47, 16, .ro, 0, .none⟩, ⟨15, 0, .ro, 0, .none⟩]⟩
  | .SEC_NONCE_k => ⟨true, ⟨.sec, 0x28, [(8, 4, 0)]⟩, [⟨63, 0, .rw, 0, .none⟩]⟩
  | .SEC_ID_KEYID_k => ⟨false, ⟨.sec, 0x48, [(8, 6, 0)]⟩, [⟨63, 0, .ro, 0, .w⟩]⟩
  | .SEC_REPORT_n => ⟨false, ⟨.sec, 0x10000, [(8, 2216, 0)]⟩, [⟨63, 0, .ro, 0, .none⟩]⟩
  | .DBG_STAT => ⟨false, ⟨.sec, 0x1000000, []⟩, [⟨63, 62, .ro, 0, .p⟩, ⟨61, 61, .ro, 0, .w⟩, ⟨47, 40, .ro, 0, .none⟩, ⟨39, 32, .ro, 0, .none⟩, ⟨15, 0, .ro, 0, .none⟩]⟩
  | .DBG_CTRL => ⟨true, ⟨.sec, 0x1000008, []⟩, [⟨2, 2, .w1s, 0, .none⟩, ⟨1, 1, .w1s, 0, .none⟩, ⟨0, 0, .w1s, 0, .none⟩]⟩
  | .DBG_CHALLENGE_k => ⟨false, ⟨.sec, 0x1000010, [(8, 4, 0)]⟩, [⟨63, 0, .ro, 0, .none⟩]⟩
  | .DBG_MCORE_m_CTRL => ⟨true, ⟨.sec, 0x1000100, [(16, 4, 0)]⟩, [⟨63, 63, .ro, 0, .none⟩, ⟨2, 2, .w1s, 0, .none⟩, ⟨1, 1, .w1s, 0, .none⟩, ⟨0, 0, .w1s, 0, .none⟩]⟩
  | .DBG_MCORE_m_TRACE => ⟨false, ⟨.sec, 0x1000108, [(16, 4, 0)]⟩, [⟨63, 63, .rc, 0, .none⟩, ⟨62, 62, .rc, 0, .none⟩, ⟨31, 0, .rc, 0, .none⟩]⟩
  | .DBG_TOKEN_n => ⟨true, ⟨.sec, 0x1010000, [(8, 4208, 0)]⟩, [⟨63, 0, .wo, 0, .none⟩]⟩
  | .PWR_STAT => ⟨false, ⟨.pwr, 0x0, []⟩, [⟨63, 60, .ro, 0, .none⟩, ⟨59, 57, .ro, 0, .none⟩, ⟨56, 56, .ro, 0, .none⟩, ⟨55, 55, .ro, 0, .none⟩, ⟨54, 52, .ro, 0, .e⟩, ⟨47, 32, .ro, 4000, .none⟩, ⟨15, 0, .ro, 0, .none⟩]⟩
  | .PWR_CTRL => ⟨true, ⟨.pwr, 0x8, []⟩, [⟨47, 32, .rw, 4000, .w⟩, ⟨2, 0, .rw, 0, .none⟩]⟩
  | .PWR_INPUT => ⟨false, ⟨.pwr, 0x10, []⟩, [⟨63, 48, .ro, 0, .none⟩, ⟨47, 32, .ro, 0, .none⟩, ⟨31, 16, .ro, 0, .none⟩]⟩
  | .PWR_ENERGY_CNT => ⟨false, ⟨.pwr, 0x18, []⟩, [⟨63, 0, .ro, 0, .none⟩]⟩
  | .PWR_EVENT_CNT => ⟨false, ⟨.pwr, 0x20, []⟩, [⟨63, 63, .rc, 0, .none⟩, ⟨62, 62, .rc, 0, .none⟩, ⟨61, 61, .rc, 0, .none⟩, ⟨47, 32, .rc, 0, .none⟩, ⟨31, 16, .rc, 0, .none⟩, ⟨15, 0, .rc, 0, .none⟩]⟩
  | .CLK_STAT => ⟨false, ⟨.pwr, 0x1000000, []⟩, [⟨63, 63, .ro, 0, .none⟩, ⟨62, 62, .ro, 0, .none⟩, ⟨48, 32, .ro, 0, .none⟩]⟩
  | .CLK_DROOP_CTRL => ⟨true, ⟨.pwr, 0x1000008, []⟩, [⟨7, 0, .rw, 45, .w⟩]⟩
  | .CLK_ISLAND_n_CTRL => ⟨true, ⟨.pwr, 0x1000100, [(16, 44, 0)]⟩, [⟨7, 7, .rw, 1, .w⟩, ⟨2, 0, .rw, 7, .w⟩]⟩
  | .CLK_ISLAND_n_STAT => ⟨false, ⟨.pwr, 0x1000108, [(16, 44, 0)]⟩, [⟨63, 61, .ro, 0, .none⟩, ⟨60, 58, .ro, 0, .none⟩, ⟨57, 57, .ro, 0, .none⟩, ⟨56, 56, .ro, 0, .none⟩, ⟨55, 55, .ro, 0, .none⟩, ⟨54, 54, .ro, 0, .none⟩, ⟨53, 53, .ro, 0, .none⟩, ⟨47, 32, .ro, 0, .none⟩, ⟨31, 31, .rc, 0, .none⟩, ⟨15, 0, .rc, 0, .none⟩]⟩
  | .THM_STAT => ⟨false, ⟨.pwr, 0x2000000, []⟩, [⟨63, 56, .ro, 0, .none⟩, ⟨55, 51, .ro, 0, .none⟩, ⟨50, 50, .ro, 0, .none⟩, ⟨49, 49, .ro, 0, .none⟩, ⟨48, 48, .ro, 0, .none⟩, ⟨47, 40, .ro, 0, .none⟩, ⟨39, 32, .ro, 0, .none⟩, ⟨31, 24, .ro, 0, .none⟩]⟩
  | .THM_CTRL => ⟨true, ⟨.pwr, 0x2000008, []⟩, [⟨2, 0, .rw, 3, .w⟩]⟩
  | .THM_EVENT_CNT => ⟨false, ⟨.pwr, 0x2000010, []⟩, [⟨63, 63, .rc, 0, .none⟩, ⟨62, 62, .rc, 0, .none⟩, ⟨47, 32, .ro, 0, .e⟩, ⟨31, 16, .rc, 0, .none⟩, ⟨15, 0, .rc, 0, .none⟩]⟩
  | .THM_DIE_k_STAT => ⟨false, ⟨.pwr, 0x2000100, [(16, 20, 0)]⟩, [⟨63, 48, .ro, 0, .none⟩, ⟨47, 43, .ro, 0, .none⟩, ⟨42, 40, .ro, 0, .none⟩, ⟨39, 39, .ro, 0, .none⟩, ⟨38, 38, .ro, 0, .none⟩, ⟨37, 32, .ro, 0, .none⟩]⟩
  | .THM_DIE_k_DISCARD => ⟨false, ⟨.pwr, 0x2000108, [(16, 20, 0)]⟩, [⟨55, 32, .ro, 0, .w⟩, ⟨23, 0, .ro, 0, .w⟩]⟩
  | .LOG_CTRL => ⟨true, ⟨.log, 0x0, []⟩, [⟨47, 32, .rw, 1000, .w⟩, ⟨0, 0, .rw, 0, .w⟩]⟩
  | .LOG_HBM_BASE => ⟨true, ⟨.log, 0x8, []⟩, [⟨45, 0, .rw, 0, .w⟩]⟩
  | .LOG_STAT => ⟨false, ⟨.log, 0x10, []⟩, [⟨63, 63, .ro, 0, .none⟩, ⟨62, 62, .ro, 0, .none⟩, ⟨41, 32, .ro, 0, .none⟩, ⟨6, 0, .ro, 0, .none⟩]⟩
  | .LOG_HEAD => ⟨false, ⟨.log, 0x18, []⟩, [⟨63, 0, .ro, 0, .w⟩]⟩
  | .LOG_HBM_COPIED => ⟨false, ⟨.log, 0x20, []⟩, [⟨63, 0, .ro, 0, .w⟩]⟩
  | .LOG_DROPPED => ⟨false, ⟨.log, 0x28, []⟩, [⟨63, 63, .rc, 0, .none⟩, ⟨31, 0, .rc, 0, .none⟩]⟩
  | .LOG_RING_n => ⟨false, ⟨.log, 0x100000, [(8, 32768, 0)]⟩, [⟨63, 0, .ro, 0, .w⟩]⟩
  | .SAFE_CTRL => ⟨true, ⟨.log, 0x1000000, []⟩, [⟨63, 63, .rw, 1, .w⟩, ⟨17, 0, .rw, 0, .w⟩]⟩
  | .SAFE_AGG_STAT => ⟨false, ⟨.log, 0x1000008, []⟩, [⟨63, 63, .rc, 0, .none⟩, ⟨62, 62, .rc, 0, .none⟩, ⟨47, 32, .rc, 0, .none⟩, ⟨31, 16, .rc, 0, .none⟩, ⟨8, 0, .ro, 0, .none⟩]⟩
  | .SAFE_ACCUSE => ⟨true, ⟨.log, 0x1000010, []⟩, [⟨63, 63, .w1s, 0, .none⟩, ⟨33, 18, .rw, 65535, .none⟩, ⟨17, 0, .rw, 0, .none⟩]⟩
  | .SAFE_OCCULT_CTRL => ⟨true, ⟨.log, 0x1000018, []⟩, [⟨63, 63, .w1s, 0, .none⟩, ⟨61, 60, .rw, 0, .none⟩, ⟨33, 18, .rw, 0, .none⟩, ⟨17, 0, .rw, 0, .none⟩]⟩
  | .SAFE_HEALTH_CTRL => ⟨true, ⟨.log, 0x1000020, []⟩, [⟨63, 56, .rw, 24, .w⟩, ⟨47, 24, .rw, 1024, .w⟩, ⟨23, 0, .rw, 256, .w⟩]⟩
  | .SAFE_MON_STAT => ⟨false, ⟨.log, 0x1000028, []⟩, [⟨63, 63, .ro, 0, .none⟩, ⟨62, 62, .ro, 0, .none⟩, ⟨61, 61, .ro, 0, .none⟩, ⟨15, 0, .ro, 0, .none⟩]⟩
  | .SAFE_AVAIL => ⟨false, ⟨.log, 0x1000030, []⟩, [⟨63, 32, .ro, 0, .e⟩, ⟨31, 0, .ro, 0, .e⟩]⟩
  | .SAFE_LS_CTRL => ⟨true, ⟨.log, 0x1000038, []⟩, [⟨63, 63, .rw, 0, .w⟩, ⟨59, 48, .rw, 0, .w⟩, ⟨39, 24, .rw, 10, .w⟩, ⟨17, 0, .rw, 0, .w⟩]⟩
  | .SAFE_LS_STAT => ⟨false, ⟨.log, 0x1000040, []⟩, [⟨63, 63, .rc, 0, .none⟩, ⟨62, 62, .rc, 0, .none⟩, ⟨61, 55, .rc, 0, .none⟩, ⟨54, 54, .ro, 0, .none⟩, ⟨31, 0, .ro, 0, .none⟩]⟩
  | .SAFE_FL_CTRL => ⟨true, ⟨.log, 0x1000048, []⟩, [⟨63, 63, .w1s, 0, .none⟩, ⟨9, 8, .rw, 0, .none⟩, ⟨7, 0, .rw, 0, .none⟩]⟩
  | .SAFE_FL_STAT => ⟨false, ⟨.log, 0x1000050, []⟩, [⟨63, 60, .ro, 0, .none⟩, ⟨47, 32, .ro, 0, .none⟩, ⟨31, 16, .ro, 0, .none⟩, ⟨15, 0, .ro, 0, .none⟩]⟩
  | .SAFE_PLATE_CTRL => ⟨true, ⟨.log, 0x1000058, []⟩, [⟨63, 63, .w1s, 0, .none⟩, ⟨62, 62, .w1s, 0, .none⟩]⟩
  | .SAFE_PLATE_ADDR => ⟨true, ⟨.log, 0x1000060, []⟩, [⟨45, 0, .rw, 0, .none⟩]⟩
  | .SAFE_PLATE_LEN => ⟨true, ⟨.log, 0x1000068, []⟩, [⟨39, 0, .rw, 0, .none⟩]⟩
  | .SAFE_PLATE_STAT => ⟨false, ⟨.log, 0x1000070, []⟩, [⟨63, 63, .ro, 0, .none⟩, ⟨62, 62, .ro, 0, .none⟩, ⟨15, 0, .ro, 0, .none⟩]⟩
  | .SAFE_PLATE_REC_n => ⟨false, ⟨.log, 0x1000100, [(8, 32, 0)]⟩, [⟨63, 0, .ro, 0, .none⟩]⟩
  | .SAFE_PLATE_DIGEST_k => ⟨false, ⟨.log, 0x1000200, [(8, 6, 0)]⟩, [⟨63, 0, .ro, 0, .none⟩]⟩
  | .SAFE_HEALTH_u => ⟨true, ⟨.log, 0x1010000, [(8, 2048, 0)]⟩, [⟨63, 62, .ro, 0, .e⟩, ⟨61, 61, .w1s, 0, .none⟩, ⟨39, 16, .ro, 0, .w⟩, ⟨15, 0, .ro, 0, .w⟩]⟩
  | .SAFE_CORE_DIGEST => ⟨false, ⟨.core, 0x1D00, []⟩, [⟨63, 0, .ro, 0, .none⟩]⟩
  | .SAFE_CORE_MARK => ⟨false, ⟨.core, 0x1D08, []⟩, [⟨63, 56, .ro, 0, .none⟩, ⟨31, 0, .ro, 0, .none⟩]⟩

/-- Every register, in the order of the manual. -/
def RegName.all : List RegName :=
  [.ENG_STAT, .ENG_ROWS_CNT, .ENG_LOAD_STALL_CNT, .ENG_STARVE_CNT, .ENG_HAZARD_CNT, .ENG_ERR_CNT,
   .ENG_LAST_FAULT, .CLU_CORE_MAP, .CLU_CORE_RETIRED, .CLU_SWAP_CTRL, .CLU_SWAP_STAT, .CORE_STAT,
   .CORE_CTRL, .CORE_PREEMPT_CTRL, .CORE_PREEMPT_STAT, .CORE_DISPATCH_SEQ, .CORE_FAULT_STAT, .CORE_FAULT_SEQ,
   .CORE_NDET_CNT, .CORE_ERR_CNT, .CORE_THREAD_n_PC, .CORE_THREAD_n_CTRL, .CORE_THREAD_n_T_m, .CORE_QUEUE_q_DONE,
   .CORE_QUEUE_q_STAT, .CORE_QUEUE_q_CNT, .CORE_QUEUE_q_STOP, .CORE_PCMAP_m, .CORE_PCMAP_INFO, .CORE_PCMAP_DONE,
   .CORE_ATTN_REC, .CORE_ATTN_BLOCKS_CNT, .CORE_ATTN_STARVE_CNT, .CORE_NUM_CTRL, .CORE_SR_SEED, .CORE_NUM_CNT,
   .CORE_NUM_LAST, .CORE_SPEC_k_CTRL, .CORE_SPEC_k_LO, .CORE_SPEC_k_HI, .CORE_SPEC_k_STAT, .CORE_SPEC_k_BIN_n,
   .HBM_STAT, .HBM_CAPACITY, .HBM_MAPOUT_CTRL, .HBM_MAPOUT_STAT, .HBM_MAPOUT_LIST_n, .HBM_SCRUB_CTRL,
   .HBM_STACK_s_STAT, .HBM_PC_n_ERR, .MSC_CTRL, .MSC_STAT, .MSC_HIT_CNT, .MSC_MISS_CNT,
   .MSC_DROP_CNT, .MSC_ERR_CNT, .GAS_CTRL, .GAS_EPOCH, .GAS_REGION_FENCE, .GAS_REPLY_STAT,
   .GAS_REPLY_PURGE, .GAS_ISSUED_CNT, .GAS_SERVED_CNT, .GAS_ERR_CNT, .GAS_QUERY_CTRL, .GAS_UNSETTLED_STAT,
   .GAS_UNSETTLED_n_TAG, .GAS_UNSETTLED_n_EPOCH, .GAS_UNSETTLED_n_SEQ, .GAS_UNSETTLED_n_ADDR, .GAS_UNSETTLED_n_VALUE, .GAS_UNSETTLED_n_TIME,
   .GAS_REGION_n_BASE, .GAS_REGION_n_LIMIT, .GAS_REGION_n_ATTR, .XFB_COORD, .XFB_DIMS, .XFB_ANCHOR,
   .XFB_COORD_OVERRIDE, .XFB_PART_b, .XFB_TABLE_CTRL, .XFB_TABLE_STAT, .XFB_VC_WEIGHT, .XFB_ECN_CTRL,
   .XFB_RATE_CTRL, .XFB_HOLD, .XFB_CIRCUIT_STAT, .XFB_RATE_STAT, .XFB_DROP_CNT, .XFB_ROUTE_b_d_h,
   .XFB_FACE_f_STAT, .XFB_FACE_f_TX_CNT, .XFB_FACE_f_RX_CNT, .XFB_FACE_f_CE_CNT, .XFB_EXC_b_n, .XFB_TRANSIT_n_PATH,
   .XFB_TRANSIT_n_CTRL, .XFB_TRANSIT_n_STAT, .XFB_TRANSIT_n_CNT, .OPT_FACE_STAT, .OPT_SPARE_POLICY, .OPT_PORT_n_STAT,
   .OPT_PORT_n_CTRL, .OPT_PORT_n_POWER, .OPT_PORT_n_GRP_CNT, .OPT_PORT_n_CORR_CNT, .OPT_PORT_n_FEC_CNT, .OPT_PORT_n_MAP_k,
   .OPT_PORT_n_CH_c_LASER, .OPT_PORT_n_CH_c_MON, .COL_CTRL, .COL_ERR_CNT, .COL_GROUP_n_CFG, .COL_GROUP_n_BOX,
   .COL_GROUP_n_LIST, .COL_GROUP_n_ROLE, .COL_GROUP_n_RXBUF, .COL_GROUP_n_DONE, .COL_GROUP_n_STAT, .COL_GROUP_n_CTRL,
   .CORE_COLL_REC, .SYN_CORE_FAULT, .SYN_CORE_STAT, .SYN_UPDATE_CNT, .SYN_CNT_n, .SYN_CNT_n_ADD,
   .SYN_FLOOR_n, .SYN_CHRONO, .SYN_TIME_CTRL, .SYN_TIME_STAT, .SYN_MERIDIAN_TICK, .SYN_MERIDIAN_CTRL,
   .SYN_MERIDIAN_DONE, .SYN_BARRIER_n, .DLK_PKG_LEVEL, .DLK_DIE_k_INV, .DLK_LINK_n_STAT, .DLK_LINK_n_CTRL,
   .DLK_LINK_n_ERR, .DLK_LINK_n_FRAMES, .HLK_STAT, .HLK_CTRL, .HLK_WINDOW_BASE, .HLK_WINDOW_SIZE,
   .HLK_COMP_ID, .HLK_DIR_STAT, .HLK_TX_CNT, .HLK_RX_CNT, .HLK_ERR_CNT, .INT_CFG,
   .INT_PEND_SET_k, .INT_PEND_CLR_k, .INT_MASK_SET_k, .INT_MASK_CLR_k, .INT_TGT_t_THRESH, .INT_TGT_t_CLAIM,
   .INT_TGT_t_EOI, .INT_TGT_t_STAT, .INT_SRC_n_CFG, .BOOT_STAT, .BOOT_CTRL, .BOOT_DIE_RESET,
   .BOOT_STRAP, .BOOT_START_CNT, .BOOT_LAST_START, .BOOT_FW_STAT, .BOOT_FW_CTRL, .BOOT_FW_VER_s,
   .BOOT_ALMANAC_SEQ, .BOOT_WATCHDOG, .BOOT_REFUSED, .EPH_STAT, .EPH_JOURNAL_SEQ, .EPH_AREA,
   .EPH_ERR_CNT, .EPH_CTRL, .SEC_STAT, .SEC_FLOOR, .SEC_ALM_FLOOR, .SEC_ATTEST_CTRL,
   .SEC_ATTEST_STAT, .SEC_NONCE_k, .SEC_ID_KEYID_k, .SEC_REPORT_n, .DBG_STAT, .DBG_CTRL,
   .DBG_CHALLENGE_k, .DBG_MCORE_m_CTRL, .DBG_MCORE_m_TRACE, .DBG_TOKEN_n, .PWR_STAT, .PWR_CTRL,
   .PWR_INPUT, .PWR_ENERGY_CNT, .PWR_EVENT_CNT, .CLK_STAT, .CLK_DROOP_CTRL, .CLK_ISLAND_n_CTRL,
   .CLK_ISLAND_n_STAT, .THM_STAT, .THM_CTRL, .THM_EVENT_CNT, .THM_DIE_k_STAT, .THM_DIE_k_DISCARD,
   .LOG_CTRL, .LOG_HBM_BASE, .LOG_STAT, .LOG_HEAD, .LOG_HBM_COPIED, .LOG_DROPPED,
   .LOG_RING_n, .SAFE_CTRL, .SAFE_AGG_STAT, .SAFE_ACCUSE, .SAFE_OCCULT_CTRL, .SAFE_HEALTH_CTRL,
   .SAFE_MON_STAT, .SAFE_AVAIL, .SAFE_LS_CTRL, .SAFE_LS_STAT, .SAFE_FL_CTRL, .SAFE_FL_STAT,
   .SAFE_PLATE_CTRL, .SAFE_PLATE_ADDR, .SAFE_PLATE_LEN, .SAFE_PLATE_STAT, .SAFE_PLATE_REC_n, .SAFE_PLATE_DIGEST_k,
   .SAFE_HEALTH_u, .SAFE_CORE_DIGEST, .SAFE_CORE_MARK]

namespace F

-- ENG_STAT (chapter 02)
def ENG_STAT.ROWS_PENDING : Fld := ⟨.ENG_STAT, 47, 32⟩
def ENG_STAT.QUEUE_DEPTH : Fld := ⟨.ENG_STAT, 19, 16⟩
def ENG_STAT.TILE_MODE : Fld := ⟨.ENG_STAT, 11, 10⟩
def ENG_STAT.TILE_VALID : Fld := ⟨.ENG_STAT, 9, 9⟩
def ENG_STAT.PAIRED : Fld := ⟨.ENG_STAT, 8, 8⟩
def ENG_STAT.STATE : Fld := ⟨.ENG_STAT, 3, 0⟩
-- ENG_ROWS_CNT (chapter 02)
def ENG_ROWS_CNT.ROWS : Fld := ⟨.ENG_ROWS_CNT, 63, 0⟩
-- ENG_LOAD_STALL_CNT (chapter 02)
def ENG_LOAD_STALL_CNT.CYCLES : Fld := ⟨.ENG_LOAD_STALL_CNT, 63, 0⟩
-- ENG_STARVE_CNT (chapter 02)
def ENG_STARVE_CNT.CYCLES : Fld := ⟨.ENG_STARVE_CNT, 63, 0⟩
-- ENG_HAZARD_CNT (chapter 02)
def ENG_HAZARD_CNT.CYCLES : Fld := ⟨.ENG_HAZARD_CNT, 63, 0⟩
-- ENG_ERR_CNT (chapter 02)
def ENG_ERR_CNT.ACC_CORR_SAT : Fld := ⟨.ENG_ERR_CNT, 63, 63⟩
def ENG_ERR_CNT.ACC_UNCORR_SAT : Fld := ⟨.ENG_ERR_CNT, 62, 62⟩
def ENG_ERR_CNT.TILE_PAR_SAT : Fld := ⟨.ENG_ERR_CNT, 61, 61⟩
def ENG_ERR_CNT.TILE_PAR_CNT : Fld := ⟨.ENG_ERR_CNT, 47, 32⟩
def ENG_ERR_CNT.ACC_UNCORR_CNT : Fld := ⟨.ENG_ERR_CNT, 31, 16⟩
def ENG_ERR_CNT.ACC_CORR_CNT : Fld := ⟨.ENG_ERR_CNT, 15, 0⟩
-- ENG_LAST_FAULT (chapter 02)
def ENG_LAST_FAULT.ROW : Fld := ⟨.ENG_LAST_FAULT, 59, 44⟩
def ENG_LAST_FAULT.SLOT : Fld := ⟨.ENG_LAST_FAULT, 43, 32⟩
def ENG_LAST_FAULT.THREAD : Fld := ⟨.ENG_LAST_FAULT, 19, 16⟩
def ENG_LAST_FAULT.CODE : Fld := ⟨.ENG_LAST_FAULT, 15, 0⟩
-- CLU_CORE_MAP (chapter 02)
def CLU_CORE_MAP.SPARE_PHYS : Fld := ⟨.CLU_CORE_MAP, 18, 16⟩
def CLU_CORE_MAP.LCORE_3_PHYS : Fld := ⟨.CLU_CORE_MAP, 14, 12⟩
def CLU_CORE_MAP.LCORE_2_PHYS : Fld := ⟨.CLU_CORE_MAP, 10, 8⟩
def CLU_CORE_MAP.LCORE_1_PHYS : Fld := ⟨.CLU_CORE_MAP, 6, 4⟩
def CLU_CORE_MAP.LCORE_0_PHYS : Fld := ⟨.CLU_CORE_MAP, 2, 0⟩
-- CLU_CORE_RETIRED (chapter 02)
def CLU_CORE_RETIRED.PHYS_RETIRED : Fld := ⟨.CLU_CORE_RETIRED, 4, 0⟩
-- CLU_SWAP_CTRL (chapter 02)
def CLU_SWAP_CTRL.MODE : Fld := ⟨.CLU_SWAP_CTRL, 7, 6⟩
def CLU_SWAP_CTRL.LCORE : Fld := ⟨.CLU_SWAP_CTRL, 5, 4⟩
def CLU_SWAP_CTRL.CANCEL : Fld := ⟨.CLU_SWAP_CTRL, 1, 1⟩
def CLU_SWAP_CTRL.REQ : Fld := ⟨.CLU_SWAP_CTRL, 0, 0⟩
-- CLU_SWAP_STAT (chapter 02)
def CLU_SWAP_STAT.CODE : Fld := ⟨.CLU_SWAP_STAT, 47, 32⟩
def CLU_SWAP_STAT.DURATION_US : Fld := ⟨.CLU_SWAP_STAT, 31, 16⟩
def CLU_SWAP_STAT.STATE : Fld := ⟨.CLU_SWAP_STAT, 2, 0⟩
-- CORE_STAT (chapter 03)
def CORE_STAT.CORE_STATE : Fld := ⟨.CORE_STAT, 55, 52⟩
def CORE_STAT.RUNNING : Fld := ⟨.CORE_STAT, 47, 32⟩
def CORE_STAT.BLOCKED : Fld := ⟨.CORE_STAT, 31, 16⟩
def CORE_STAT.HALTED : Fld := ⟨.CORE_STAT, 15, 0⟩
-- CORE_CTRL (chapter 03)
def CORE_CTRL.CLEAR_FAULT : Fld := ⟨.CORE_CTRL, 2, 2⟩
def CORE_CTRL.RESUME : Fld := ⟨.CORE_CTRL, 1, 1⟩
def CORE_CTRL.FORCE_STOP : Fld := ⟨.CORE_CTRL, 0, 0⟩
-- CORE_PREEMPT_CTRL (chapter 03)
def CORE_PREEMPT_CTRL.BOUND_US : Fld := ⟨.CORE_PREEMPT_CTRL, 63, 32⟩
def CORE_PREEMPT_CTRL.CANCEL : Fld := ⟨.CORE_PREEMPT_CTRL, 1, 1⟩
def CORE_PREEMPT_CTRL.REQ : Fld := ⟨.CORE_PREEMPT_CTRL, 0, 0⟩
-- CORE_PREEMPT_STAT (chapter 03)
def CORE_PREEMPT_STAT.WAIT_US : Fld := ⟨.CORE_PREEMPT_STAT, 63, 32⟩
def CORE_PREEMPT_STAT.LATE : Fld := ⟨.CORE_PREEMPT_STAT, 2, 2⟩
def CORE_PREEMPT_STAT.STATE : Fld := ⟨.CORE_PREEMPT_STAT, 1, 0⟩
-- CORE_DISPATCH_SEQ (chapter 03)
def CORE_DISPATCH_SEQ.SEQ : Fld := ⟨.CORE_DISPATCH_SEQ, 63, 0⟩
-- CORE_FAULT_STAT (chapter 03)
def CORE_FAULT_STAT.MULTI : Fld := ⟨.CORE_FAULT_STAT, 63, 63⟩
def CORE_FAULT_STAT.QUEUE : Fld := ⟨.CORE_FAULT_STAT, 62, 59⟩
def CORE_FAULT_STAT.THREAD : Fld := ⟨.CORE_FAULT_STAT, 58, 55⟩
def CORE_FAULT_STAT.DETAIL : Fld := ⟨.CORE_FAULT_STAT, 47, 32⟩
def CORE_FAULT_STAT.PC : Fld := ⟨.CORE_FAULT_STAT, 31, 16⟩
def CORE_FAULT_STAT.CODE : Fld := ⟨.CORE_FAULT_STAT, 15, 0⟩
-- CORE_FAULT_SEQ (chapter 03)
def CORE_FAULT_SEQ.SEQ : Fld := ⟨.CORE_FAULT_SEQ, 63, 0⟩
-- CORE_NDET_CNT (chapter 03)
def CORE_NDET_CNT.COUNT : Fld := ⟨.CORE_NDET_CNT, 63, 0⟩
-- CORE_ERR_CNT (chapter 03)
def CORE_ERR_CNT.IMEM_SAT : Fld := ⟨.CORE_ERR_CNT, 63, 63⟩
def CORE_ERR_CNT.STORE_SAT : Fld := ⟨.CORE_ERR_CNT, 62, 62⟩
def CORE_ERR_CNT.STORE_CORR_CNT : Fld := ⟨.CORE_ERR_CNT, 31, 16⟩
def CORE_ERR_CNT.IMEM_CORR_CNT : Fld := ⟨.CORE_ERR_CNT, 15, 0⟩
-- CORE_THREAD_n_PC (chapter 03)
def CORE_THREAD_n_PC.PC : Fld := ⟨.CORE_THREAD_n_PC, 15, 0⟩
-- CORE_THREAD_n_CTRL (chapter 03)
def CORE_THREAD_n_CTRL.STATE : Fld := ⟨.CORE_THREAD_n_CTRL, 6, 4⟩
def CORE_THREAD_n_CTRL.HALT : Fld := ⟨.CORE_THREAD_n_CTRL, 1, 1⟩
def CORE_THREAD_n_CTRL.START : Fld := ⟨.CORE_THREAD_n_CTRL, 0, 0⟩
-- CORE_THREAD_n_T_m (chapter 03)
def CORE_THREAD_n_T_m.VALUE : Fld := ⟨.CORE_THREAD_n_T_m, 63, 0⟩
-- CORE_QUEUE_q_DONE (chapter 03)
def CORE_QUEUE_q_DONE.LAST_SEQ : Fld := ⟨.CORE_QUEUE_q_DONE, 63, 0⟩
-- CORE_QUEUE_q_STAT (chapter 03)
def CORE_QUEUE_q_STAT.DISCARDED : Fld := ⟨.CORE_QUEUE_q_STAT, 63, 48⟩
def CORE_QUEUE_q_STAT.DEPTH : Fld := ⟨.CORE_QUEUE_q_STAT, 39, 32⟩
def CORE_QUEUE_q_STAT.STOP_ROWS : Fld := ⟨.CORE_QUEUE_q_STAT, 31, 16⟩
def CORE_QUEUE_q_STAT.HEAD : Fld := ⟨.CORE_QUEUE_q_STAT, 2, 0⟩
-- CORE_QUEUE_q_CNT (chapter 03)
def CORE_QUEUE_q_CNT.RETIRED : Fld := ⟨.CORE_QUEUE_q_CNT, 63, 0⟩
-- CORE_QUEUE_q_STOP (chapter 03)
def CORE_QUEUE_q_STOP.SEQ : Fld := ⟨.CORE_QUEUE_q_STOP, 63, 0⟩
-- CORE_PCMAP_m (chapter 03)
def CORE_PCMAP_m.CHUNKS : Fld := ⟨.CORE_PCMAP_m, 63, 0⟩
-- CORE_PCMAP_INFO (chapter 03)
def CORE_PCMAP_INFO.UNIT_BYTES : Fld := ⟨.CORE_PCMAP_INFO, 63, 24⟩
def CORE_PCMAP_INFO.DESC : Fld := ⟨.CORE_PCMAP_INFO, 23, 12⟩
def CORE_PCMAP_INFO.KIND : Fld := ⟨.CORE_PCMAP_INFO, 3, 0⟩
-- CORE_PCMAP_DONE (chapter 03)
def CORE_PCMAP_DONE.DONE : Fld := ⟨.CORE_PCMAP_DONE, 63, 0⟩
-- CORE_ATTN_REC (chapter 04)
def CORE_ATTN_REC.DESC : Fld := ⟨.CORE_ATTN_REC, 63, 52⟩
def CORE_ATTN_REC.BLOCKS_DONE : Fld := ⟨.CORE_ATTN_REC, 51, 28⟩
def CORE_ATTN_REC.APPEND_DONE : Fld := ⟨.CORE_ATTN_REC, 27, 20⟩
def CORE_ATTN_REC.CAUSE : Fld := ⟨.CORE_ATTN_REC, 11, 8⟩
def CORE_ATTN_REC.PHASE : Fld := ⟨.CORE_ATTN_REC, 3, 0⟩
-- CORE_ATTN_BLOCKS_CNT (chapter 04)
def CORE_ATTN_BLOCKS_CNT.BLOCKS : Fld := ⟨.CORE_ATTN_BLOCKS_CNT, 63, 0⟩
-- CORE_ATTN_STARVE_CNT (chapter 04)
def CORE_ATTN_STARVE_CNT.CYCLES : Fld := ⟨.CORE_ATTN_STARVE_CNT, 63, 0⟩
-- CORE_NUM_CTRL (chapter 05)
def CORE_NUM_CTRL.SR_EN : Fld := ⟨.CORE_NUM_CTRL, 3, 3⟩
def CORE_NUM_CTRL.MXNAN_STOP : Fld := ⟨.CORE_NUM_CTRL, 2, 2⟩
def CORE_NUM_CTRL.OVERFLOW_STOP : Fld := ⟨.CORE_NUM_CTRL, 1, 1⟩
def CORE_NUM_CTRL.INVALID_STOP : Fld := ⟨.CORE_NUM_CTRL, 0, 0⟩
-- CORE_SR_SEED (chapter 05)
def CORE_SR_SEED.SEED : Fld := ⟨.CORE_SR_SEED, 63, 0⟩
-- CORE_NUM_CNT (chapter 05)
def CORE_NUM_CNT.INVALID_SAT : Fld := ⟨.CORE_NUM_CNT, 63, 63⟩
def CORE_NUM_CNT.OVERFLOW_SAT : Fld := ⟨.CORE_NUM_CNT, 62, 62⟩
def CORE_NUM_CNT.MXNAN_SAT : Fld := ⟨.CORE_NUM_CNT, 61, 61⟩
def CORE_NUM_CNT.MXNAN_CNT : Fld := ⟨.CORE_NUM_CNT, 47, 32⟩
def CORE_NUM_CNT.OVERFLOW_CNT : Fld := ⟨.CORE_NUM_CNT, 31, 16⟩
def CORE_NUM_CNT.INVALID_CNT : Fld := ⟨.CORE_NUM_CNT, 15, 0⟩
-- CORE_NUM_LAST (chapter 05)
def CORE_NUM_LAST.QUEUE : Fld := ⟨.CORE_NUM_LAST, 63, 60⟩
def CORE_NUM_LAST.THREAD : Fld := ⟨.CORE_NUM_LAST, 59, 56⟩
def CORE_NUM_LAST.PC : Fld := ⟨.CORE_NUM_LAST, 47, 32⟩
def CORE_NUM_LAST.INDEX : Fld := ⟨.CORE_NUM_LAST, 31, 16⟩
def CORE_NUM_LAST.CODE : Fld := ⟨.CORE_NUM_LAST, 15, 0⟩
-- CORE_SPEC_k_CTRL (chapter 05)
def CORE_SPEC_k_CTRL.LIMIT : Fld := ⟨.CORE_SPEC_k_CTRL, 63, 32⟩
def CORE_SPEC_k_CTRL.SOURCE : Fld := ⟨.CORE_SPEC_k_CTRL, 5, 4⟩
def CORE_SPEC_k_CTRL.ALERT_EN : Fld := ⟨.CORE_SPEC_k_CTRL, 3, 3⟩
def CORE_SPEC_k_CTRL.FREEZE : Fld := ⟨.CORE_SPEC_k_CTRL, 2, 2⟩
def CORE_SPEC_k_CTRL.CLEAR : Fld := ⟨.CORE_SPEC_k_CTRL, 1, 1⟩
def CORE_SPEC_k_CTRL.ARM : Fld := ⟨.CORE_SPEC_k_CTRL, 0, 0⟩
-- CORE_SPEC_k_LO (chapter 05)
def CORE_SPEC_k_LO.ADDR : Fld := ⟨.CORE_SPEC_k_LO, 24, 0⟩
-- CORE_SPEC_k_HI (chapter 05)
def CORE_SPEC_k_HI.ADDR : Fld := ⟨.CORE_SPEC_k_HI, 24, 0⟩
-- CORE_SPEC_k_STAT (chapter 05)
def CORE_SPEC_k_STAT.SATURATED : Fld := ⟨.CORE_SPEC_k_STAT, 63, 63⟩
def CORE_SPEC_k_STAT.ALERT : Fld := ⟨.CORE_SPEC_k_STAT, 62, 62⟩
def CORE_SPEC_k_STAT.DONE : Fld := ⟨.CORE_SPEC_k_STAT, 61, 61⟩
def CORE_SPEC_k_STAT.TOTAL : Fld := ⟨.CORE_SPEC_k_STAT, 47, 0⟩
-- CORE_SPEC_k_BIN_n (chapter 05)
def CORE_SPEC_k_BIN_n.ODD : Fld := ⟨.CORE_SPEC_k_BIN_n, 63, 32⟩
def CORE_SPEC_k_BIN_n.EVEN : Fld := ⟨.CORE_SPEC_k_BIN_n, 31, 0⟩
-- HBM_STAT (chapter 06)
def HBM_STAT.STACK_IN_SERVICE : Fld := ⟨.HBM_STAT, 37, 32⟩
def HBM_STAT.MAX_STACK_TEMP : Fld := ⟨.HBM_STAT, 15, 8⟩
def HBM_STAT.SELF_REFRESH : Fld := ⟨.HBM_STAT, 1, 1⟩
def HBM_STAT.READY : Fld := ⟨.HBM_STAT, 0, 0⟩
-- HBM_CAPACITY (chapter 06)
def HBM_CAPACITY.MAPPED_OUT : Fld := ⟨.HBM_CAPACITY, 55, 48⟩
def HBM_CAPACITY.BYTES : Fld := ⟨.HBM_CAPACITY, 47, 0⟩
-- HBM_MAPOUT_CTRL (chapter 06)
def HBM_MAPOUT_CTRL.PC : Fld := ⟨.HBM_MAPOUT_CTRL, 25, 16⟩
def HBM_MAPOUT_CTRL.REQ : Fld := ⟨.HBM_MAPOUT_CTRL, 0, 0⟩
-- HBM_MAPOUT_STAT (chapter 06)
def HBM_MAPOUT_STAT.CODE : Fld := ⟨.HBM_MAPOUT_STAT, 63, 48⟩
def HBM_MAPOUT_STAT.PC : Fld := ⟨.HBM_MAPOUT_STAT, 31, 22⟩
def HBM_MAPOUT_STAT.FRAMES_DONE : Fld := ⟨.HBM_MAPOUT_STAT, 21, 12⟩
def HBM_MAPOUT_STAT.STATE : Fld := ⟨.HBM_MAPOUT_STAT, 2, 0⟩
-- HBM_MAPOUT_LIST_n (chapter 06)
def HBM_MAPOUT_LIST_n.ENTRY_3_VALID : Fld := ⟨.HBM_MAPOUT_LIST_n, 63, 63⟩
def HBM_MAPOUT_LIST_n.ENTRY_3_PC : Fld := ⟨.HBM_MAPOUT_LIST_n, 57, 48⟩
def HBM_MAPOUT_LIST_n.ENTRY_2_VALID : Fld := ⟨.HBM_MAPOUT_LIST_n, 47, 47⟩
def HBM_MAPOUT_LIST_n.ENTRY_2_PC : Fld := ⟨.HBM_MAPOUT_LIST_n, 41, 32⟩
def HBM_MAPOUT_LIST_n.ENTRY_1_VALID : Fld := ⟨.HBM_MAPOUT_LIST_n, 31, 31⟩
def HBM_MAPOUT_LIST_n.ENTRY_1_PC : Fld := ⟨.HBM_MAPOUT_LIST_n, 25, 16⟩
def HBM_MAPOUT_LIST_n.ENTRY_0_VALID : Fld := ⟨.HBM_MAPOUT_LIST_n, 15, 15⟩
def HBM_MAPOUT_LIST_n.ENTRY_0_PC : Fld := ⟨.HBM_MAPOUT_LIST_n, 9, 0⟩
-- HBM_SCRUB_CTRL (chapter 06)
def HBM_SCRUB_CTRL.PASSES : Fld := ⟨.HBM_SCRUB_CTRL, 39, 8⟩
def HBM_SCRUB_CTRL.PERIOD_H : Fld := ⟨.HBM_SCRUB_CTRL, 7, 0⟩
-- HBM_STACK_s_STAT (chapter 06)
def HBM_STACK_s_STAT.ODECC_SAT : Fld := ⟨.HBM_STACK_s_STAT, 63, 63⟩
def HBM_STACK_s_STAT.ODECC_CNT : Fld := ⟨.HBM_STACK_s_STAT, 31, 16⟩
def HBM_STACK_s_STAT.TEMP : Fld := ⟨.HBM_STACK_s_STAT, 15, 8⟩
def HBM_STACK_s_STAT.RETRAINED : Fld := ⟨.HBM_STACK_s_STAT, 1, 1⟩
def HBM_STACK_s_STAT.TRAINED : Fld := ⟨.HBM_STACK_s_STAT, 0, 0⟩
-- HBM_PC_n_ERR (chapter 06)
def HBM_PC_n_ERR.CORR_SAT : Fld := ⟨.HBM_PC_n_ERR, 63, 63⟩
def HBM_PC_n_ERR.UNCORR_SAT : Fld := ⟨.HBM_PC_n_ERR, 62, 62⟩
def HBM_PC_n_ERR.MAPPED_OUT : Fld := ⟨.HBM_PC_n_ERR, 61, 61⟩
def HBM_PC_n_ERR.UNCORR_CNT : Fld := ⟨.HBM_PC_n_ERR, 31, 16⟩
def HBM_PC_n_ERR.CORR_CNT : Fld := ⟨.HBM_PC_n_ERR, 15, 0⟩
-- MSC_CTRL (chapter 06)
def MSC_CTRL.KEEP_LIMIT : Fld := ⟨.MSC_CTRL, 16, 12⟩
def MSC_CTRL.HOST_WAYS : Fld := ⟨.MSC_CTRL, 10, 8⟩
def MSC_CTRL.GAS_HINT : Fld := ⟨.MSC_CTRL, 7, 7⟩
def MSC_CTRL.HOST_HINT : Fld := ⟨.MSC_CTRL, 6, 6⟩
def MSC_CTRL.UNKEEP : Fld := ⟨.MSC_CTRL, 1, 1⟩
def MSC_CTRL.FLUSH : Fld := ⟨.MSC_CTRL, 0, 0⟩
-- MSC_STAT (chapter 06)
def MSC_STAT.KEPT : Fld := ⟨.MSC_STAT, 53, 32⟩
def MSC_STAT.BUSY : Fld := ⟨.MSC_STAT, 31, 31⟩
def MSC_STAT.COUNTED : Fld := ⟨.MSC_STAT, 21, 0⟩
-- MSC_HIT_CNT (chapter 06)
def MSC_HIT_CNT.LINES : Fld := ⟨.MSC_HIT_CNT, 63, 0⟩
-- MSC_MISS_CNT (chapter 06)
def MSC_MISS_CNT.LINES : Fld := ⟨.MSC_MISS_CNT, 63, 0⟩
-- MSC_DROP_CNT (chapter 06)
def MSC_DROP_CNT.LINES : Fld := ⟨.MSC_DROP_CNT, 63, 0⟩
-- MSC_ERR_CNT (chapter 06)
def MSC_ERR_CNT.CORR_SAT : Fld := ⟨.MSC_ERR_CNT, 63, 63⟩
def MSC_ERR_CNT.REFETCH_SAT : Fld := ⟨.MSC_ERR_CNT, 62, 62⟩
def MSC_ERR_CNT.DIRTY_SAT : Fld := ⟨.MSC_ERR_CNT, 61, 61⟩
def MSC_ERR_CNT.DIRTY_CNT : Fld := ⟨.MSC_ERR_CNT, 47, 32⟩
def MSC_ERR_CNT.REFETCH_CNT : Fld := ⟨.MSC_ERR_CNT, 31, 16⟩
def MSC_ERR_CNT.CORR_CNT : Fld := ⟨.MSC_ERR_CNT, 15, 0⟩
-- GAS_CTRL (chapter 07)
def GAS_CTRL.RETRIES : Fld := ⟨.GAS_CTRL, 33, 32⟩
def GAS_CTRL.TIMEOUT_US : Fld := ⟨.GAS_CTRL, 13, 0⟩
-- GAS_EPOCH (chapter 07)
def GAS_EPOCH.EPOCH : Fld := ⟨.GAS_EPOCH, 31, 0⟩
-- GAS_REGION_FENCE (chapter 07)
def GAS_REGION_FENCE.REQ : Fld := ⟨.GAS_REGION_FENCE, 0, 0⟩
-- GAS_REPLY_STAT (chapter 07)
def GAS_REPLY_STAT.FROZEN : Fld := ⟨.GAS_REPLY_STAT, 63, 63⟩
def GAS_REPLY_STAT.UNRELEASED : Fld := ⟨.GAS_REPLY_STAT, 44, 32⟩
def GAS_REPLY_STAT.IN_USE : Fld := ⟨.GAS_REPLY_STAT, 12, 0⟩
-- GAS_REPLY_PURGE (chapter 07)
def GAS_REPLY_PURGE.REQ : Fld := ⟨.GAS_REPLY_PURGE, 31, 31⟩
def GAS_REPLY_PURGE.ALL : Fld := ⟨.GAS_REPLY_PURGE, 24, 24⟩
def GAS_REPLY_PURGE.DEVICE : Fld := ⟨.GAS_REPLY_PURGE, 17, 0⟩
-- GAS_ISSUED_CNT (chapter 07)
def GAS_ISSUED_CNT.COUNT : Fld := ⟨.GAS_ISSUED_CNT, 63, 0⟩
-- GAS_SERVED_CNT (chapter 07)
def GAS_SERVED_CNT.COUNT : Fld := ⟨.GAS_SERVED_CNT, 63, 0⟩
-- GAS_ERR_CNT (chapter 07)
def GAS_ERR_CNT.RETRY_SAT : Fld := ⟨.GAS_ERR_CNT, 63, 63⟩
def GAS_ERR_CNT.REFUSED_SAT : Fld := ⟨.GAS_ERR_CNT, 62, 62⟩
def GAS_ERR_CNT.STALE_SAT : Fld := ⟨.GAS_ERR_CNT, 61, 61⟩
def GAS_ERR_CNT.BUSY_SAT : Fld := ⟨.GAS_ERR_CNT, 60, 60⟩
def GAS_ERR_CNT.BUSY_CNT : Fld := ⟨.GAS_ERR_CNT, 55, 42⟩
def GAS_ERR_CNT.STALE_CNT : Fld := ⟨.GAS_ERR_CNT, 41, 28⟩
def GAS_ERR_CNT.REFUSED_CNT : Fld := ⟨.GAS_ERR_CNT, 27, 14⟩
def GAS_ERR_CNT.RETRY_CNT : Fld := ⟨.GAS_ERR_CNT, 13, 0⟩
-- GAS_QUERY_CTRL (chapter 07)
def GAS_QUERY_CTRL.INDEX : Fld := ⟨.GAS_QUERY_CTRL, 12, 8⟩
def GAS_QUERY_CTRL.CANCEL : Fld := ⟨.GAS_QUERY_CTRL, 1, 1⟩
def GAS_QUERY_CTRL.REQ : Fld := ⟨.GAS_QUERY_CTRL, 0, 0⟩
-- GAS_UNSETTLED_STAT (chapter 07)
def GAS_UNSETTLED_STAT.OVERFLOW_SAT : Fld := ⟨.GAS_UNSETTLED_STAT, 63, 63⟩
def GAS_UNSETTLED_STAT.OVERFLOW : Fld := ⟨.GAS_UNSETTLED_STAT, 15, 0⟩
-- GAS_UNSETTLED_n_TAG (chapter 07)
def GAS_UNSETTLED_n_TAG.STATE : Fld := ⟨.GAS_UNSETTLED_n_TAG, 63, 60⟩
def GAS_UNSETTLED_n_TAG.AOP : Fld := ⟨.GAS_UNSETTLED_n_TAG, 59, 57⟩
def GAS_UNSETTLED_n_TAG.W64 : Fld := ⟨.GAS_UNSETTLED_n_TAG, 56, 56⟩
def GAS_UNSETTLED_n_TAG.CORE : Fld := ⟨.GAS_UNSETTLED_n_TAG, 24, 18⟩
def GAS_UNSETTLED_n_TAG.TARGET : Fld := ⟨.GAS_UNSETTLED_n_TAG, 17, 0⟩
-- GAS_UNSETTLED_n_EPOCH (chapter 07)
def GAS_UNSETTLED_n_EPOCH.EPOCH : Fld := ⟨.GAS_UNSETTLED_n_EPOCH, 31, 0⟩
-- GAS_UNSETTLED_n_SEQ (chapter 07)
def GAS_UNSETTLED_n_SEQ.SEQ : Fld := ⟨.GAS_UNSETTLED_n_SEQ, 63, 0⟩
-- GAS_UNSETTLED_n_ADDR (chapter 07)
def GAS_UNSETTLED_n_ADDR.ADDR : Fld := ⟨.GAS_UNSETTLED_n_ADDR, 63, 0⟩
-- GAS_UNSETTLED_n_VALUE (chapter 07)
def GAS_UNSETTLED_n_VALUE.VALUE : Fld := ⟨.GAS_UNSETTLED_n_VALUE, 63, 0⟩
-- GAS_UNSETTLED_n_TIME (chapter 07)
def GAS_UNSETTLED_n_TIME.TIME : Fld := ⟨.GAS_UNSETTLED_n_TIME, 63, 0⟩
-- GAS_REGION_n_BASE (chapter 07)
def GAS_REGION_n_BASE.BASE : Fld := ⟨.GAS_REGION_n_BASE, 45, 16⟩
-- GAS_REGION_n_LIMIT (chapter 07)
def GAS_REGION_n_LIMIT.LIMIT : Fld := ⟨.GAS_REGION_n_LIMIT, 45, 16⟩
-- GAS_REGION_n_ATTR (chapter 07)
def GAS_REGION_n_ATTR.KEY : Fld := ⟨.GAS_REGION_n_ATTR, 31, 16⟩
def GAS_REGION_n_ATTR.LOCAL_ONLY : Fld := ⟨.GAS_REGION_n_ATTR, 4, 4⟩
def GAS_REGION_n_ATTR.ATOMIC : Fld := ⟨.GAS_REGION_n_ATTR, 3, 3⟩
def GAS_REGION_n_ATTR.WRITE : Fld := ⟨.GAS_REGION_n_ATTR, 2, 2⟩
def GAS_REGION_n_ATTR.READ : Fld := ⟨.GAS_REGION_n_ATTR, 1, 1⟩
def GAS_REGION_n_ATTR.VALID : Fld := ⟨.GAS_REGION_n_ATTR, 0, 0⟩
-- XFB_COORD (chapter 08)
def XFB_COORD.VALID : Fld := ⟨.XFB_COORD, 63, 63⟩
def XFB_COORD.SOURCE : Fld := ⟨.XFB_COORD, 62, 61⟩
def XFB_COORD.INDEX : Fld := ⟨.XFB_COORD, 17, 0⟩
-- XFB_DIMS (chapter 08)
def XFB_DIMS.VALID : Fld := ⟨.XFB_DIMS, 63, 63⟩
def XFB_DIMS.DIM_Z_M1 : Fld := ⟨.XFB_DIMS, 17, 12⟩
def XFB_DIMS.DIM_Y_M1 : Fld := ⟨.XFB_DIMS, 11, 6⟩
def XFB_DIMS.DIM_X_M1 : Fld := ⟨.XFB_DIMS, 5, 0⟩
-- XFB_ANCHOR (chapter 08)
def XFB_ANCHOR.ANCHOR : Fld := ⟨.XFB_ANCHOR, 63, 63⟩
def XFB_ANCHOR.DIMS_M1 : Fld := ⟨.XFB_ANCHOR, 35, 18⟩
def XFB_ANCHOR.INDEX : Fld := ⟨.XFB_ANCHOR, 17, 0⟩
-- XFB_COORD_OVERRIDE (chapter 08)
def XFB_COORD_OVERRIDE.REQ : Fld := ⟨.XFB_COORD_OVERRIDE, 63, 63⟩
def XFB_COORD_OVERRIDE.RELEASE : Fld := ⟨.XFB_COORD_OVERRIDE, 62, 62⟩
def XFB_COORD_OVERRIDE.DIMS_M1 : Fld := ⟨.XFB_COORD_OVERRIDE, 35, 18⟩
def XFB_COORD_OVERRIDE.INDEX : Fld := ⟨.XFB_COORD_OVERRIDE, 17, 0⟩
-- XFB_PART_b (chapter 08)
def XFB_PART_b.WRAP_Z : Fld := ⟨.XFB_PART_b, 14, 14⟩
def XFB_PART_b.WRAP_Y : Fld := ⟨.XFB_PART_b, 13, 13⟩
def XFB_PART_b.WRAP_X : Fld := ⟨.XFB_PART_b, 12, 12⟩
def XFB_PART_b.PARTITION : Fld := ⟨.XFB_PART_b, 11, 0⟩
-- XFB_TABLE_CTRL (chapter 08)
def XFB_TABLE_CTRL.ACTIVE : Fld := ⟨.XFB_TABLE_CTRL, 8, 8⟩
def XFB_TABLE_CTRL.RESUME : Fld := ⟨.XFB_TABLE_CTRL, 2, 2⟩
def XFB_TABLE_CTRL.SWAP : Fld := ⟨.XFB_TABLE_CTRL, 1, 1⟩
def XFB_TABLE_CTRL.DRAIN : Fld := ⟨.XFB_TABLE_CTRL, 0, 0⟩
-- XFB_TABLE_STAT (chapter 08)
def XFB_TABLE_STAT.DRAIN_US : Fld := ⟨.XFB_TABLE_STAT, 63, 32⟩
def XFB_TABLE_STAT.REENTERED : Fld := ⟨.XFB_TABLE_STAT, 2, 2⟩
def XFB_TABLE_STAT.DRAINED : Fld := ⟨.XFB_TABLE_STAT, 1, 1⟩
def XFB_TABLE_STAT.DRAINING : Fld := ⟨.XFB_TABLE_STAT, 0, 0⟩
-- XFB_VC_WEIGHT (chapter 08)
def XFB_VC_WEIGHT.W_7 : Fld := ⟨.XFB_VC_WEIGHT, 63, 56⟩
def XFB_VC_WEIGHT.W_6 : Fld := ⟨.XFB_VC_WEIGHT, 55, 48⟩
def XFB_VC_WEIGHT.W_5 : Fld := ⟨.XFB_VC_WEIGHT, 47, 40⟩
def XFB_VC_WEIGHT.W_4 : Fld := ⟨.XFB_VC_WEIGHT, 39, 32⟩
def XFB_VC_WEIGHT.W_3 : Fld := ⟨.XFB_VC_WEIGHT, 31, 24⟩
def XFB_VC_WEIGHT.W_2 : Fld := ⟨.XFB_VC_WEIGHT, 23, 16⟩
def XFB_VC_WEIGHT.W_1 : Fld := ⟨.XFB_VC_WEIGHT, 15, 8⟩
def XFB_VC_WEIGHT.W_0 : Fld := ⟨.XFB_VC_WEIGHT, 7, 0⟩
-- XFB_ECN_CTRL (chapter 08)
def XFB_ECN_CTRL.K_MAX : Fld := ⟨.XFB_ECN_CTRL, 47, 32⟩
def XFB_ECN_CTRL.K_MIN : Fld := ⟨.XFB_ECN_CTRL, 31, 16⟩
def XFB_ECN_CTRL.P_MAX : Fld := ⟨.XFB_ECN_CTRL, 15, 8⟩
def XFB_ECN_CTRL.EN : Fld := ⟨.XFB_ECN_CTRL, 0, 0⟩
-- XFB_RATE_CTRL (chapter 08)
def XFB_RATE_CTRL.EN : Fld := ⟨.XFB_RATE_CTRL, 63, 63⟩
def XFB_RATE_CTRL.T_INC_US : Fld := ⟨.XFB_RATE_CTRL, 55, 48⟩
def XFB_RATE_CTRL.T_DEC_US : Fld := ⟨.XFB_RATE_CTRL, 47, 40⟩
def XFB_RATE_CTRL.G_SHIFT : Fld := ⟨.XFB_RATE_CTRL, 39, 36⟩
def XFB_RATE_CTRL.FAST_STEPS : Fld := ⟨.XFB_RATE_CTRL, 35, 32⟩
def XFB_RATE_CTRL.R_AI : Fld := ⟨.XFB_RATE_CTRL, 19, 10⟩
def XFB_RATE_CTRL.R_MIN : Fld := ⟨.XFB_RATE_CTRL, 9, 0⟩
-- XFB_HOLD (chapter 08)
def XFB_HOLD.VC0_STUCK_US : Fld := ⟨.XFB_HOLD, 31, 16⟩
def XFB_HOLD.HOLD_US : Fld := ⟨.XFB_HOLD, 15, 0⟩
-- XFB_CIRCUIT_STAT (chapter 08)
def XFB_CIRCUIT_STAT.REFUSED_SAT : Fld := ⟨.XFB_CIRCUIT_STAT, 63, 63⟩
def XFB_CIRCUIT_STAT.REFUSED : Fld := ⟨.XFB_CIRCUIT_STAT, 31, 16⟩
def XFB_CIRCUIT_STAT.IN_USE : Fld := ⟨.XFB_CIRCUIT_STAT, 12, 0⟩
-- XFB_RATE_STAT (chapter 08)
def XFB_RATE_STAT.EVICTED_SAT : Fld := ⟨.XFB_RATE_STAT, 63, 63⟩
def XFB_RATE_STAT.EVICTED : Fld := ⟨.XFB_RATE_STAT, 47, 32⟩
def XFB_RATE_STAT.IN_USE : Fld := ⟨.XFB_RATE_STAT, 8, 0⟩
-- XFB_DROP_CNT (chapter 08)
def XFB_DROP_CNT.SAT : Fld := ⟨.XFB_DROP_CNT, 63, 63⟩
def XFB_DROP_CNT.BAD : Fld := ⟨.XFB_DROP_CNT, 59, 50⟩
def XFB_DROP_CNT.VC0 : Fld := ⟨.XFB_DROP_CNT, 49, 40⟩
def XFB_DROP_CNT.PART : Fld := ⟨.XFB_DROP_CNT, 39, 30⟩
def XFB_DROP_CNT.HOP : Fld := ⟨.XFB_DROP_CNT, 29, 20⟩
def XFB_DROP_CNT.UNROUTABLE : Fld := ⟨.XFB_DROP_CNT, 19, 10⟩
def XFB_DROP_CNT.HOLD : Fld := ⟨.XFB_DROP_CNT, 9, 0⟩
-- XFB_ROUTE_b_d_h (chapter 08)
def XFB_ROUTE_b_d_h.ENTRY_31 : Fld := ⟨.XFB_ROUTE_b_d_h, 63, 62⟩
def XFB_ROUTE_b_d_h.ENTRY_30 : Fld := ⟨.XFB_ROUTE_b_d_h, 61, 60⟩
def XFB_ROUTE_b_d_h.ENTRY_29 : Fld := ⟨.XFB_ROUTE_b_d_h, 59, 58⟩
def XFB_ROUTE_b_d_h.ENTRY_28 : Fld := ⟨.XFB_ROUTE_b_d_h, 57, 56⟩
def XFB_ROUTE_b_d_h.ENTRY_27 : Fld := ⟨.XFB_ROUTE_b_d_h, 55, 54⟩
def XFB_ROUTE_b_d_h.ENTRY_26 : Fld := ⟨.XFB_ROUTE_b_d_h, 53, 52⟩
def XFB_ROUTE_b_d_h.ENTRY_25 : Fld := ⟨.XFB_ROUTE_b_d_h, 51, 50⟩
def XFB_ROUTE_b_d_h.ENTRY_24 : Fld := ⟨.XFB_ROUTE_b_d_h, 49, 48⟩
def XFB_ROUTE_b_d_h.ENTRY_23 : Fld := ⟨.XFB_ROUTE_b_d_h, 47, 46⟩
def XFB_ROUTE_b_d_h.ENTRY_22 : Fld := ⟨.XFB_ROUTE_b_d_h, 45, 44⟩
def XFB_ROUTE_b_d_h.ENTRY_21 : Fld := ⟨.XFB_ROUTE_b_d_h, 43, 42⟩
def XFB_ROUTE_b_d_h.ENTRY_20 : Fld := ⟨.XFB_ROUTE_b_d_h, 41, 40⟩
def XFB_ROUTE_b_d_h.ENTRY_19 : Fld := ⟨.XFB_ROUTE_b_d_h, 39, 38⟩
def XFB_ROUTE_b_d_h.ENTRY_18 : Fld := ⟨.XFB_ROUTE_b_d_h, 37, 36⟩
def XFB_ROUTE_b_d_h.ENTRY_17 : Fld := ⟨.XFB_ROUTE_b_d_h, 35, 34⟩
def XFB_ROUTE_b_d_h.ENTRY_16 : Fld := ⟨.XFB_ROUTE_b_d_h, 33, 32⟩
def XFB_ROUTE_b_d_h.ENTRY_15 : Fld := ⟨.XFB_ROUTE_b_d_h, 31, 30⟩
def XFB_ROUTE_b_d_h.ENTRY_14 : Fld := ⟨.XFB_ROUTE_b_d_h, 29, 28⟩
def XFB_ROUTE_b_d_h.ENTRY_13 : Fld := ⟨.XFB_ROUTE_b_d_h, 27, 26⟩
def XFB_ROUTE_b_d_h.ENTRY_12 : Fld := ⟨.XFB_ROUTE_b_d_h, 25, 24⟩
def XFB_ROUTE_b_d_h.ENTRY_11 : Fld := ⟨.XFB_ROUTE_b_d_h, 23, 22⟩
def XFB_ROUTE_b_d_h.ENTRY_10 : Fld := ⟨.XFB_ROUTE_b_d_h, 21, 20⟩
def XFB_ROUTE_b_d_h.ENTRY_9 : Fld := ⟨.XFB_ROUTE_b_d_h, 19, 18⟩
def XFB_ROUTE_b_d_h.ENTRY_8 : Fld := ⟨.XFB_ROUTE_b_d_h, 17, 16⟩
def XFB_ROUTE_b_d_h.ENTRY_7 : Fld := ⟨.XFB_ROUTE_b_d_h, 15, 14⟩
def XFB_ROUTE_b_d_h.ENTRY_6 : Fld := ⟨.XFB_ROUTE_b_d_h, 13, 12⟩
def XFB_ROUTE_b_d_h.ENTRY_5 : Fld := ⟨.XFB_ROUTE_b_d_h, 11, 10⟩
def XFB_ROUTE_b_d_h.ENTRY_4 : Fld := ⟨.XFB_ROUTE_b_d_h, 9, 8⟩
def XFB_ROUTE_b_d_h.ENTRY_3 : Fld := ⟨.XFB_ROUTE_b_d_h, 7, 6⟩
def XFB_ROUTE_b_d_h.ENTRY_2 : Fld := ⟨.XFB_ROUTE_b_d_h, 5, 4⟩
def XFB_ROUTE_b_d_h.ENTRY_1 : Fld := ⟨.XFB_ROUTE_b_d_h, 3, 2⟩
def XFB_ROUTE_b_d_h.ENTRY_0 : Fld := ⟨.XFB_ROUTE_b_d_h, 1, 0⟩
-- XFB_FACE_f_STAT (chapter 08)
def XFB_FACE_f_STAT.UP : Fld := ⟨.XFB_FACE_f_STAT, 63, 63⟩
def XFB_FACE_f_STAT.WIRING_ERR : Fld := ⟨.XFB_FACE_f_STAT, 62, 62⟩
def XFB_FACE_f_STAT.OCCULTED : Fld := ⟨.XFB_FACE_f_STAT, 61, 61⟩
def XFB_FACE_f_STAT.PORTS_UP : Fld := ⟨.XFB_FACE_f_STAT, 59, 56⟩
def XFB_FACE_f_STAT.NEIGHBOUR : Fld := ⟨.XFB_FACE_f_STAT, 17, 0⟩
-- XFB_FACE_f_TX_CNT (chapter 08)
def XFB_FACE_f_TX_CNT.FLITS : Fld := ⟨.XFB_FACE_f_TX_CNT, 63, 0⟩
-- XFB_FACE_f_RX_CNT (chapter 08)
def XFB_FACE_f_RX_CNT.FLITS : Fld := ⟨.XFB_FACE_f_RX_CNT, 63, 0⟩
-- XFB_FACE_f_CE_CNT (chapter 08)
def XFB_FACE_f_CE_CNT.MARKED : Fld := ⟨.XFB_FACE_f_CE_CNT, 63, 0⟩
-- XFB_EXC_b_n (chapter 08)
def XFB_EXC_b_n.VALID : Fld := ⟨.XFB_EXC_b_n, 63, 63⟩
def XFB_EXC_b_n.FACE : Fld := ⟨.XFB_EXC_b_n, 62, 60⟩
def XFB_EXC_b_n.MASK : Fld := ⟨.XFB_EXC_b_n, 53, 36⟩
def XFB_EXC_b_n.MATCH : Fld := ⟨.XFB_EXC_b_n, 17, 0⟩
-- XFB_TRANSIT_n_PATH (chapter 08)
def XFB_TRANSIT_n_PATH.ID : Fld := ⟨.XFB_TRANSIT_n_PATH, 63, 48⟩
def XFB_TRANSIT_n_PATH.RATE : Fld := ⟨.XFB_TRANSIT_n_PATH, 47, 40⟩
def XFB_TRANSIT_n_PATH.DIR_Z : Fld := ⟨.XFB_TRANSIT_n_PATH, 35, 35⟩
def XFB_TRANSIT_n_PATH.DIR_Y : Fld := ⟨.XFB_TRANSIT_n_PATH, 34, 34⟩
def XFB_TRANSIT_n_PATH.DIR_X : Fld := ⟨.XFB_TRANSIT_n_PATH, 33, 33⟩
def XFB_TRANSIT_n_PATH.DEST : Fld := ⟨.XFB_TRANSIT_n_PATH, 17, 0⟩
-- XFB_TRANSIT_n_CTRL (chapter 08)
def XFB_TRANSIT_n_CTRL.TEARDOWN : Fld := ⟨.XFB_TRANSIT_n_CTRL, 1, 1⟩
def XFB_TRANSIT_n_CTRL.SETUP : Fld := ⟨.XFB_TRANSIT_n_CTRL, 0, 0⟩
-- XFB_TRANSIT_n_STAT (chapter 08)
def XFB_TRANSIT_n_STAT.CODE : Fld := ⟨.XFB_TRANSIT_n_STAT, 63, 48⟩
def XFB_TRANSIT_n_STAT.CAUSE : Fld := ⟨.XFB_TRANSIT_n_STAT, 47, 40⟩
def XFB_TRANSIT_n_STAT.HOPS : Fld := ⟨.XFB_TRANSIT_n_STAT, 39, 31⟩
def XFB_TRANSIT_n_STAT.STATE : Fld := ⟨.XFB_TRANSIT_n_STAT, 2, 0⟩
-- XFB_TRANSIT_n_CNT (chapter 08)
def XFB_TRANSIT_n_CNT.FLITS : Fld := ⟨.XFB_TRANSIT_n_CNT, 63, 0⟩
-- OPT_FACE_STAT (chapter 09)
def OPT_FACE_STAT.PORTS_UP : Fld := ⟨.OPT_FACE_STAT, 41, 32⟩
def OPT_FACE_STAT.CAL_TEMP : Fld := ⟨.OPT_FACE_STAT, 23, 16⟩
def OPT_FACE_STAT.COLL_STATE : Fld := ⟨.OPT_FACE_STAT, 11, 8⟩
def OPT_FACE_STAT.APR : Fld := ⟨.OPT_FACE_STAT, 3, 3⟩
def OPT_FACE_STAT.FACE : Fld := ⟨.OPT_FACE_STAT, 2, 0⟩
-- OPT_SPARE_POLICY (chapter 09)
def OPT_SPARE_POLICY.DEGRADED_ERR : Fld := ⟨.OPT_SPARE_POLICY, 47, 32⟩
def OPT_SPARE_POLICY.BIAS_PCT : Fld := ⟨.OPT_SPARE_POLICY, 23, 16⟩
def OPT_SPARE_POLICY.DROP_CDB : Fld := ⟨.OPT_SPARE_POLICY, 7, 0⟩
-- OPT_PORT_n_STAT (chapter 09)
def OPT_PORT_n_STAT.STATE : Fld := ⟨.OPT_PORT_n_STAT, 63, 60⟩
def OPT_PORT_n_STAT.LANES_UP : Fld := ⟨.OPT_PORT_n_STAT, 59, 55⟩
def OPT_PORT_n_STAT.TX_SPARES : Fld := ⟨.OPT_PORT_n_STAT, 54, 53⟩
def OPT_PORT_n_STAT.RX_SPARES : Fld := ⟨.OPT_PORT_n_STAT, 52, 51⟩
def OPT_PORT_n_STAT.SWAP : Fld := ⟨.OPT_PORT_n_STAT, 50, 48⟩
def OPT_PORT_n_STAT.SWAP_LANE : Fld := ⟨.OPT_PORT_n_STAT, 47, 44⟩
def OPT_PORT_n_STAT.MAP_EPOCH : Fld := ⟨.OPT_PORT_n_STAT, 43, 40⟩
def OPT_PORT_n_STAT.FAR_PORT : Fld := ⟨.OPT_PORT_n_STAT, 39, 36⟩
def OPT_PORT_n_STAT.FAR_FACE : Fld := ⟨.OPT_PORT_n_STAT, 35, 32⟩
def OPT_PORT_n_STAT.LAST_CODE : Fld := ⟨.OPT_PORT_n_STAT, 15, 0⟩
-- OPT_PORT_n_CTRL (chapter 09)
def OPT_PORT_n_CTRL.LANE : Fld := ⟨.OPT_PORT_n_CTRL, 11, 8⟩
def OPT_PORT_n_CTRL.RECAL : Fld := ⟨.OPT_PORT_n_CTRL, 2, 2⟩
def OPT_PORT_n_CTRL.SWAP : Fld := ⟨.OPT_PORT_n_CTRL, 1, 1⟩
def OPT_PORT_n_CTRL.DOWN : Fld := ⟨.OPT_PORT_n_CTRL, 0, 0⟩
-- OPT_PORT_n_POWER (chapter 09)
def OPT_PORT_n_POWER.MUX_OUT : Fld := ⟨.OPT_PORT_n_POWER, 63, 48⟩
def OPT_PORT_n_POWER.EDGE_OUT : Fld := ⟨.OPT_PORT_n_POWER, 47, 32⟩
def OPT_PORT_n_POWER.DEMUX_IN : Fld := ⟨.OPT_PORT_n_POWER, 31, 16⟩
def OPT_PORT_n_POWER.FAR_EDGE_OUT : Fld := ⟨.OPT_PORT_n_POWER, 15, 0⟩
-- OPT_PORT_n_GRP_CNT (chapter 09)
def OPT_PORT_n_GRP_CNT.GROUPS : Fld := ⟨.OPT_PORT_n_GRP_CNT, 63, 0⟩
-- OPT_PORT_n_CORR_CNT (chapter 09)
def OPT_PORT_n_CORR_CNT.SYMBOLS : Fld := ⟨.OPT_PORT_n_CORR_CNT, 63, 0⟩
-- OPT_PORT_n_FEC_CNT (chapter 09)
def OPT_PORT_n_FEC_CNT.CRC_SAT : Fld := ⟨.OPT_PORT_n_FEC_CNT, 63, 63⟩
def OPT_PORT_n_FEC_CNT.UNCORR_SAT : Fld := ⟨.OPT_PORT_n_FEC_CNT, 62, 62⟩
def OPT_PORT_n_FEC_CNT.REPLAY_SAT : Fld := ⟨.OPT_PORT_n_FEC_CNT, 61, 61⟩
def OPT_PORT_n_FEC_CNT.MISS_SAT : Fld := ⟨.OPT_PORT_n_FEC_CNT, 60, 60⟩
def OPT_PORT_n_FEC_CNT.CRC_CNT : Fld := ⟨.OPT_PORT_n_FEC_CNT, 47, 36⟩
def OPT_PORT_n_FEC_CNT.UNCORR_CNT : Fld := ⟨.OPT_PORT_n_FEC_CNT, 35, 24⟩
def OPT_PORT_n_FEC_CNT.REPLAY_CNT : Fld := ⟨.OPT_PORT_n_FEC_CNT, 23, 12⟩
def OPT_PORT_n_FEC_CNT.MISS_CNT : Fld := ⟨.OPT_PORT_n_FEC_CNT, 11, 0⟩
-- OPT_PORT_n_MAP_k (chapter 09)
def OPT_PORT_n_MAP_k.LANE_11_CH : Fld := ⟨.OPT_PORT_n_MAP_k, 59, 55⟩
def OPT_PORT_n_MAP_k.LANE_10_CH : Fld := ⟨.OPT_PORT_n_MAP_k, 54, 50⟩
def OPT_PORT_n_MAP_k.LANE_9_CH : Fld := ⟨.OPT_PORT_n_MAP_k, 49, 45⟩
def OPT_PORT_n_MAP_k.LANE_8_CH : Fld := ⟨.OPT_PORT_n_MAP_k, 44, 40⟩
def OPT_PORT_n_MAP_k.LANE_7_CH : Fld := ⟨.OPT_PORT_n_MAP_k, 39, 35⟩
def OPT_PORT_n_MAP_k.LANE_6_CH : Fld := ⟨.OPT_PORT_n_MAP_k, 34, 30⟩
def OPT_PORT_n_MAP_k.LANE_5_CH : Fld := ⟨.OPT_PORT_n_MAP_k, 29, 25⟩
def OPT_PORT_n_MAP_k.LANE_4_CH : Fld := ⟨.OPT_PORT_n_MAP_k, 24, 20⟩
def OPT_PORT_n_MAP_k.LANE_3_CH : Fld := ⟨.OPT_PORT_n_MAP_k, 19, 15⟩
def OPT_PORT_n_MAP_k.LANE_2_CH : Fld := ⟨.OPT_PORT_n_MAP_k, 14, 10⟩
def OPT_PORT_n_MAP_k.LANE_1_CH : Fld := ⟨.OPT_PORT_n_MAP_k, 9, 5⟩
def OPT_PORT_n_MAP_k.LANE_0_CH : Fld := ⟨.OPT_PORT_n_MAP_k, 4, 0⟩
-- OPT_PORT_n_CH_c_LASER (chapter 09)
def OPT_PORT_n_CH_c_LASER.INIT_BIAS : Fld := ⟨.OPT_PORT_n_CH_c_LASER, 63, 48⟩
def OPT_PORT_n_CH_c_LASER.BIAS : Fld := ⟨.OPT_PORT_n_CH_c_LASER, 47, 32⟩
def OPT_PORT_n_CH_c_LASER.P_FIX_DELTA : Fld := ⟨.OPT_PORT_n_CH_c_LASER, 31, 16⟩
def OPT_PORT_n_CH_c_LASER.STATE : Fld := ⟨.OPT_PORT_n_CH_c_LASER, 3, 0⟩
-- OPT_PORT_n_CH_c_MON (chapter 09)
def OPT_PORT_n_CH_c_MON.LASER_TAP : Fld := ⟨.OPT_PORT_n_CH_c_MON, 63, 48⟩
def OPT_PORT_n_CH_c_MON.MOD_OUT : Fld := ⟨.OPT_PORT_n_CH_c_MON, 47, 32⟩
def OPT_PORT_n_CH_c_MON.PD : Fld := ⟨.OPT_PORT_n_CH_c_MON, 31, 16⟩
def OPT_PORT_n_CH_c_MON.ERR_1MS : Fld := ⟨.OPT_PORT_n_CH_c_MON, 15, 0⟩
-- COL_CTRL (chapter 10)
def COL_CTRL.STRAGGLER_MS : Fld := ⟨.COL_CTRL, 47, 32⟩
def COL_CTRL.TREE_MAX_LOG2 : Fld := ⟨.COL_CTRL, 7, 0⟩
-- COL_ERR_CNT (chapter 10)
def COL_ERR_CNT.RETRY_SAT : Fld := ⟨.COL_ERR_CNT, 63, 63⟩
def COL_ERR_CNT.RESERR_SAT : Fld := ⟨.COL_ERR_CNT, 62, 62⟩
def COL_ERR_CNT.SATURATE_SAT : Fld := ⟨.COL_ERR_CNT, 61, 61⟩
def COL_ERR_CNT.INVALID_SAT : Fld := ⟨.COL_ERR_CNT, 60, 60⟩
def COL_ERR_CNT.INVALID_CNT : Fld := ⟨.COL_ERR_CNT, 55, 42⟩
def COL_ERR_CNT.SATURATE_CNT : Fld := ⟨.COL_ERR_CNT, 41, 28⟩
def COL_ERR_CNT.RESIDUE_ERR_CNT : Fld := ⟨.COL_ERR_CNT, 27, 14⟩
def COL_ERR_CNT.RESIDUE_RETRY_CNT : Fld := ⟨.COL_ERR_CNT, 13, 0⟩
-- COL_GROUP_n_CFG (chapter 10)
def COL_GROUP_n_CFG.VALID : Fld := ⟨.COL_GROUP_n_CFG, 63, 63⟩
def COL_GROUP_n_CFG.SHAPE : Fld := ⟨.COL_GROUP_n_CFG, 62, 62⟩
def COL_GROUP_n_CFG.HOME_CORE : Fld := ⟨.COL_GROUP_n_CFG, 57, 51⟩
def COL_GROUP_n_CFG.EPOCH : Fld := ⟨.COL_GROUP_n_CFG, 47, 32⟩
def COL_GROUP_n_CFG.GROUP_ID : Fld := ⟨.COL_GROUP_n_CFG, 31, 0⟩
-- COL_GROUP_n_BOX (chapter 10)
def COL_GROUP_n_BOX.EXT_M1 : Fld := ⟨.COL_GROUP_n_BOX, 35, 18⟩
def COL_GROUP_n_BOX.ORIGIN : Fld := ⟨.COL_GROUP_n_BOX, 17, 0⟩
-- COL_GROUP_n_LIST (chapter 10)
def COL_GROUP_n_LIST.MEMBERS : Fld := ⟨.COL_GROUP_n_LIST, 58, 46⟩
def COL_GROUP_n_LIST.TABLE : Fld := ⟨.COL_GROUP_n_LIST, 45, 0⟩
-- COL_GROUP_n_ROLE (chapter 10)
def COL_GROUP_n_ROLE.TRANSIT_BASE : Fld := ⟨.COL_GROUP_n_ROLE, 63, 48⟩
def COL_GROUP_n_ROLE.RX_COUNTER : Fld := ⟨.COL_GROUP_n_ROLE, 47, 36⟩
def COL_GROUP_n_ROLE.KEEPER : Fld := ⟨.COL_GROUP_n_ROLE, 35, 18⟩
-- COL_GROUP_n_RXBUF (chapter 10)
def COL_GROUP_n_RXBUF.RX_PAGES : Fld := ⟨.COL_GROUP_n_RXBUF, 63, 46⟩
def COL_GROUP_n_RXBUF.ADDR : Fld := ⟨.COL_GROUP_n_RXBUF, 45, 0⟩
-- COL_GROUP_n_DONE (chapter 10)
def COL_GROUP_n_DONE.COUNT : Fld := ⟨.COL_GROUP_n_DONE, 63, 0⟩
-- COL_GROUP_n_STAT (chapter 10)
def COL_GROUP_n_STAT.STATE : Fld := ⟨.COL_GROUP_n_STAT, 63, 61⟩
def COL_GROUP_n_STAT.WAITING_VALID : Fld := ⟨.COL_GROUP_n_STAT, 60, 60⟩
def COL_GROUP_n_STAT.INSTANCE : Fld := ⟨.COL_GROUP_n_STAT, 59, 36⟩
def COL_GROUP_n_STAT.WAITING_ON : Fld := ⟨.COL_GROUP_n_STAT, 35, 18⟩
def COL_GROUP_n_STAT.RANK : Fld := ⟨.COL_GROUP_n_STAT, 17, 0⟩
-- COL_GROUP_n_CTRL (chapter 10)
def COL_GROUP_n_CTRL.CLOSE_CODE : Fld := ⟨.COL_GROUP_n_CTRL, 63, 48⟩
def COL_GROUP_n_CTRL.ABORT : Fld := ⟨.COL_GROUP_n_CTRL, 0, 0⟩
-- CORE_COLL_REC (chapter 10)
def CORE_COLL_REC.SLOT : Fld := ⟨.CORE_COLL_REC, 63, 56⟩
def CORE_COLL_REC.INSTANCE : Fld := ⟨.CORE_COLL_REC, 55, 32⟩
def CORE_COLL_REC.CAUSE : Fld := ⟨.CORE_COLL_REC, 31, 16⟩
def CORE_COLL_REC.OUTPUT_TOUCHED : Fld := ⟨.CORE_COLL_REC, 4, 4⟩
def CORE_COLL_REC.PHASE : Fld := ⟨.CORE_COLL_REC, 3, 0⟩
-- SYN_CORE_FAULT (chapter 11)
def SYN_CORE_FAULT.CODE : Fld := ⟨.SYN_CORE_FAULT, 63, 48⟩
def SYN_CORE_FAULT.SOURCE : Fld := ⟨.SYN_CORE_FAULT, 41, 24⟩
def SYN_CORE_FAULT.KIND : Fld := ⟨.SYN_CORE_FAULT, 23, 21⟩
def SYN_CORE_FAULT.CNTR : Fld := ⟨.SYN_CORE_FAULT, 11, 0⟩
-- SYN_CORE_STAT (chapter 11)
def SYN_CORE_STAT.LOST_SAT : Fld := ⟨.SYN_CORE_STAT, 63, 63⟩
def SYN_CORE_STAT.LOST_CNT : Fld := ⟨.SYN_CORE_STAT, 15, 0⟩
-- SYN_UPDATE_CNT (chapter 11)
def SYN_UPDATE_CNT.COUNT : Fld := ⟨.SYN_UPDATE_CNT, 63, 0⟩
-- SYN_CNT_n (chapter 11)
def SYN_CNT_n.VALUE : Fld := ⟨.SYN_CNT_n, 47, 0⟩
-- SYN_CNT_n_ADD (chapter 11)
def SYN_CNT_n_ADD.ADDEND : Fld := ⟨.SYN_CNT_n_ADD, 47, 0⟩
-- SYN_FLOOR_n (chapter 11)
def SYN_FLOOR_n.FLOOR : Fld := ⟨.SYN_FLOOR_n, 47, 0⟩
-- SYN_CHRONO (chapter 11)
def SYN_CHRONO.TIME : Fld := ⟨.SYN_CHRONO, 63, 0⟩
-- SYN_TIME_CTRL (chapter 11)
def SYN_TIME_CTRL.ROOT : Fld := ⟨.SYN_TIME_CTRL, 63, 63⟩
def SYN_TIME_CTRL.ROOT_INDEX : Fld := ⟨.SYN_TIME_CTRL, 17, 0⟩
-- SYN_TIME_STAT (chapter 11)
def SYN_TIME_STAT.ALIGNED : Fld := ⟨.SYN_TIME_STAT, 63, 63⟩
def SYN_TIME_STAT.PARENT_FACE : Fld := ⟨.SYN_TIME_STAT, 62, 60⟩
def SYN_TIME_STAT.DEPTH : Fld := ⟨.SYN_TIME_STAT, 58, 52⟩
def SYN_TIME_STAT.TRIM_PPB : Fld := ⟨.SYN_TIME_STAT, 51, 32⟩
def SYN_TIME_STAT.OFFSET : Fld := ⟨.SYN_TIME_STAT, 31, 0⟩
-- SYN_MERIDIAN_TICK (chapter 11)
def SYN_MERIDIAN_TICK.TICK : Fld := ⟨.SYN_MERIDIAN_TICK, 63, 0⟩
-- SYN_MERIDIAN_CTRL (chapter 11)
def SYN_MERIDIAN_CTRL.LATE : Fld := ⟨.SYN_MERIDIAN_CTRL, 63, 63⟩
def SYN_MERIDIAN_CTRL.UNALIGNED : Fld := ⟨.SYN_MERIDIAN_CTRL, 62, 62⟩
def SYN_MERIDIAN_CTRL.CNTR : Fld := ⟨.SYN_MERIDIAN_CTRL, 13, 2⟩
def SYN_MERIDIAN_CTRL.CANCEL : Fld := ⟨.SYN_MERIDIAN_CTRL, 1, 1⟩
def SYN_MERIDIAN_CTRL.ARM : Fld := ⟨.SYN_MERIDIAN_CTRL, 0, 0⟩
-- SYN_MERIDIAN_DONE (chapter 11)
def SYN_MERIDIAN_DONE.TIME : Fld := ⟨.SYN_MERIDIAN_DONE, 63, 0⟩
-- SYN_BARRIER_n (chapter 11)
def SYN_BARRIER_n.INSTANCE : Fld := ⟨.SYN_BARRIER_n, 63, 40⟩
def SYN_BARRIER_n.ARRIVED : Fld := ⟨.SYN_BARRIER_n, 18, 0⟩
-- DLK_PKG_LEVEL (chapter 12)
def DLK_PKG_LEVEL.COMMON_LEVEL : Fld := ⟨.DLK_PKG_LEVEL, 35, 32⟩
def DLK_PKG_LEVEL.MIN_M : Fld := ⟨.DLK_PKG_LEVEL, 19, 16⟩
def DLK_PKG_LEVEL.MIN_P : Fld := ⟨.DLK_PKG_LEVEL, 15, 12⟩
def DLK_PKG_LEVEL.MIN_S : Fld := ⟨.DLK_PKG_LEVEL, 11, 8⟩
def DLK_PKG_LEVEL.MIN_X : Fld := ⟨.DLK_PKG_LEVEL, 7, 4⟩
def DLK_PKG_LEVEL.MIN_C : Fld := ⟨.DLK_PKG_LEVEL, 3, 0⟩
-- DLK_DIE_k_INV (chapter 12)
def DLK_DIE_k_INV.PRESENT : Fld := ⟨.DLK_DIE_k_INV, 63, 63⟩
def DLK_DIE_k_INV.OCCULTED : Fld := ⟨.DLK_DIE_k_INV, 62, 62⟩
def DLK_DIE_k_INV.BELOW_MIN : Fld := ⟨.DLK_DIE_k_INV, 61, 61⟩
def DLK_DIE_k_INV.TYPE : Fld := ⟨.DLK_DIE_k_INV, 11, 8⟩
def DLK_DIE_k_INV.STEPPING : Fld := ⟨.DLK_DIE_k_INV, 7, 4⟩
def DLK_DIE_k_INV.LEVEL : Fld := ⟨.DLK_DIE_k_INV, 3, 0⟩
-- DLK_LINK_n_STAT (chapter 12)
def DLK_LINK_n_STAT.STATE : Fld := ⟨.DLK_LINK_n_STAT, 63, 60⟩
def DLK_LINK_n_STAT.QUARTERS : Fld := ⟨.DLK_LINK_n_STAT, 59, 56⟩
def DLK_LINK_n_STAT.LOCAL_MASK : Fld := ⟨.DLK_LINK_n_STAT, 55, 52⟩
def DLK_LINK_n_STAT.FAR_MASK : Fld := ⟨.DLK_LINK_n_STAT, 51, 48⟩
def DLK_LINK_n_STAT.XNUM : Fld := ⟨.DLK_LINK_n_STAT, 47, 40⟩
def DLK_LINK_n_STAT.FAILED_TRIES : Fld := ⟨.DLK_LINK_n_STAT, 33, 32⟩
def DLK_LINK_n_STAT.LAST_CODE : Fld := ⟨.DLK_LINK_n_STAT, 15, 0⟩
-- DLK_LINK_n_CTRL (chapter 12)
def DLK_LINK_n_CTRL.DOWN : Fld := ⟨.DLK_LINK_n_CTRL, 1, 1⟩
def DLK_LINK_n_CTRL.RETRAIN : Fld := ⟨.DLK_LINK_n_CTRL, 0, 0⟩
-- DLK_LINK_n_ERR (chapter 12)
def DLK_LINK_n_ERR.CRC_SAT : Fld := ⟨.DLK_LINK_n_ERR, 63, 63⟩
def DLK_LINK_n_ERR.REPLAY_SAT : Fld := ⟨.DLK_LINK_n_ERR, 62, 62⟩
def DLK_LINK_n_ERR.RETRAIN_SAT : Fld := ⟨.DLK_LINK_n_ERR, 61, 61⟩
def DLK_LINK_n_ERR.MISMATCH_SAT : Fld := ⟨.DLK_LINK_n_ERR, 60, 60⟩
def DLK_LINK_n_ERR.MISMATCH_CNT : Fld := ⟨.DLK_LINK_n_ERR, 55, 42⟩
def DLK_LINK_n_ERR.RETRAIN_CNT : Fld := ⟨.DLK_LINK_n_ERR, 41, 28⟩
def DLK_LINK_n_ERR.REPLAY_CNT : Fld := ⟨.DLK_LINK_n_ERR, 27, 14⟩
def DLK_LINK_n_ERR.CRC_CNT : Fld := ⟨.DLK_LINK_n_ERR, 13, 0⟩
-- DLK_LINK_n_FRAMES (chapter 12)
def DLK_LINK_n_FRAMES.FRAMES : Fld := ⟨.DLK_LINK_n_FRAMES, 63, 0⟩
-- HLK_STAT (chapter 13)
def HLK_STAT.STATE : Fld := ⟨.HLK_STAT, 63, 60⟩
def HLK_STAT.PORTS_UP : Fld := ⟨.HLK_STAT, 59, 58⟩
def HLK_STAT.REVISION : Fld := ⟨.HLK_STAT, 51, 48⟩
def HLK_STAT.VECTORS : Fld := ⟨.HLK_STAT, 39, 36⟩
def HLK_STAT.LAST_CODE : Fld := ⟨.HLK_STAT, 15, 0⟩
-- HLK_CTRL (chapter 13)
def HLK_CTRL.SNOOP_US : Fld := ⟨.HLK_CTRL, 63, 32⟩
def HLK_CTRL.DIR_EN : Fld := ⟨.HLK_CTRL, 2, 2⟩
def HLK_CTRL.CACHE_EN : Fld := ⟨.HLK_CTRL, 1, 1⟩
def HLK_CTRL.DOWN : Fld := ⟨.HLK_CTRL, 0, 0⟩
-- HLK_WINDOW_BASE (chapter 13)
def HLK_WINDOW_BASE.BASE : Fld := ⟨.HLK_WINDOW_BASE, 63, 0⟩
-- HLK_WINDOW_SIZE (chapter 13)
def HLK_WINDOW_SIZE.GIB : Fld := ⟨.HLK_WINDOW_SIZE, 14, 0⟩
-- HLK_COMP_ID (chapter 13)
def HLK_COMP_ID.ID : Fld := ⟨.HLK_COMP_ID, 63, 0⟩
-- HLK_DIR_STAT (chapter 13)
def HLK_DIR_STAT.OWNED : Fld := ⟨.HLK_DIR_STAT, 44, 24⟩
def HLK_DIR_STAT.IN_USE : Fld := ⟨.HLK_DIR_STAT, 20, 0⟩
-- HLK_TX_CNT (chapter 13)
def HLK_TX_CNT.FLITS : Fld := ⟨.HLK_TX_CNT, 63, 0⟩
-- HLK_RX_CNT (chapter 13)
def HLK_RX_CNT.FLITS : Fld := ⟨.HLK_RX_CNT, 63, 0⟩
-- HLK_ERR_CNT (chapter 13)
def HLK_ERR_CNT.SNOOP_SAT : Fld := ⟨.HLK_ERR_CNT, 63, 63⟩
def HLK_ERR_CNT.LOST_SAT : Fld := ⟨.HLK_ERR_CNT, 62, 62⟩
def HLK_ERR_CNT.REFUSED_SAT : Fld := ⟨.HLK_ERR_CNT, 61, 61⟩
def HLK_ERR_CNT.RESEND_SAT : Fld := ⟨.HLK_ERR_CNT, 60, 60⟩
def HLK_ERR_CNT.RESEND_CNT : Fld := ⟨.HLK_ERR_CNT, 55, 42⟩
def HLK_ERR_CNT.REFUSED_CNT : Fld := ⟨.HLK_ERR_CNT, 41, 28⟩
def HLK_ERR_CNT.LOST_CNT : Fld := ⟨.HLK_ERR_CNT, 27, 14⟩
def HLK_ERR_CNT.SNOOP_CNT : Fld := ⟨.HLK_ERR_CNT, 13, 0⟩
-- INT_CFG (chapter 13)
def INT_CFG.VECTORS : Fld := ⟨.INT_CFG, 11, 8⟩
def INT_CFG.WIDE : Fld := ⟨.INT_CFG, 0, 0⟩
-- INT_PEND_SET_k (chapter 13)
def INT_PEND_SET_k.PEND : Fld := ⟨.INT_PEND_SET_k, 63, 0⟩
-- INT_PEND_CLR_k (chapter 13)
def INT_PEND_CLR_k.PEND : Fld := ⟨.INT_PEND_CLR_k, 63, 0⟩
-- INT_MASK_SET_k (chapter 13)
def INT_MASK_SET_k.MASK : Fld := ⟨.INT_MASK_SET_k, 63, 0⟩
-- INT_MASK_CLR_k (chapter 13)
def INT_MASK_CLR_k.MASK : Fld := ⟨.INT_MASK_CLR_k, 63, 0⟩
-- INT_TGT_t_THRESH (chapter 13)
def INT_TGT_t_THRESH.THRESHOLD : Fld := ⟨.INT_TGT_t_THRESH, 3, 0⟩
-- INT_TGT_t_CLAIM (chapter 13)
def INT_TGT_t_CLAIM.VALID : Fld := ⟨.INT_TGT_t_CLAIM, 31, 31⟩
def INT_TGT_t_CLAIM.LEVEL : Fld := ⟨.INT_TGT_t_CLAIM, 19, 16⟩
def INT_TGT_t_CLAIM.SOURCE : Fld := ⟨.INT_TGT_t_CLAIM, 9, 0⟩
-- INT_TGT_t_EOI (chapter 13)
def INT_TGT_t_EOI.SOURCE : Fld := ⟨.INT_TGT_t_EOI, 9, 0⟩
-- INT_TGT_t_STAT (chapter 13)
def INT_TGT_t_STAT.ASSERTED : Fld := ⟨.INT_TGT_t_STAT, 16, 16⟩
def INT_TGT_t_STAT.RUNNING : Fld := ⟨.INT_TGT_t_STAT, 15, 0⟩
-- INT_SRC_n_CFG (chapter 13)
def INT_SRC_n_CFG.TARGET : Fld := ⟨.INT_SRC_n_CFG, 11, 8⟩
def INT_SRC_n_CFG.LEVEL : Fld := ⟨.INT_SRC_n_CFG, 3, 0⟩
-- BOOT_STAT (chapter 14)
def BOOT_STAT.STATE : Fld := ⟨.BOOT_STAT, 63, 60⟩
def BOOT_STAT.KIND : Fld := ⟨.BOOT_STAT, 59, 58⟩
def BOOT_STAT.READY : Fld := ⟨.BOOT_STAT, 57, 57⟩
def BOOT_STAT.NO_ALMANAC : Fld := ⟨.BOOT_STAT, 56, 56⟩
def BOOT_STAT.WARM_RECORD : Fld := ⟨.BOOT_STAT, 55, 55⟩
def BOOT_STAT.FAIL_CODE : Fld := ⟨.BOOT_STAT, 15, 0⟩
-- BOOT_CTRL (chapter 14)
def BOOT_CTRL.EPH_DISCARD : Fld := ⟨.BOOT_CTRL, 2, 2⟩
def BOOT_CTRL.WARM : Fld := ⟨.BOOT_CTRL, 1, 1⟩
def BOOT_CTRL.COLD : Fld := ⟨.BOOT_CTRL, 0, 0⟩
-- BOOT_DIE_RESET (chapter 14)
def BOOT_DIE_RESET.STATE : Fld := ⟨.BOOT_DIE_RESET, 63, 60⟩
def BOOT_DIE_RESET.REQ : Fld := ⟨.BOOT_DIE_RESET, 8, 8⟩
def BOOT_DIE_RESET.DIE : Fld := ⟨.BOOT_DIE_RESET, 4, 0⟩
-- BOOT_STRAP (chapter 14)
def BOOT_STRAP.OSC_DLY : Fld := ⟨.BOOT_STRAP, 34, 32⟩
def BOOT_STRAP.DELAY_US : Fld := ⟨.BOOT_STRAP, 31, 0⟩
-- BOOT_START_CNT (chapter 14)
def BOOT_START_CNT.WARM_CNT : Fld := ⟨.BOOT_START_CNT, 63, 32⟩
def BOOT_START_CNT.COLD_CNT : Fld := ⟨.BOOT_START_CNT, 31, 0⟩
-- BOOT_LAST_START (chapter 14)
def BOOT_LAST_START.DURATION_MS : Fld := ⟨.BOOT_LAST_START, 63, 32⟩
def BOOT_LAST_START.ALMANAC_ENTRIES : Fld := ⟨.BOOT_LAST_START, 17, 0⟩
-- BOOT_FW_STAT (chapter 14)
def BOOT_FW_STAT.HANDOVER_BUSY : Fld := ⟨.BOOT_FW_STAT, 63, 63⟩
def BOOT_FW_STAT.RUNNING : Fld := ⟨.BOOT_FW_STAT, 59, 59⟩
def BOOT_FW_STAT.ACTIVE : Fld := ⟨.BOOT_FW_STAT, 58, 58⟩
def BOOT_FW_STAT.STATE_B : Fld := ⟨.BOOT_FW_STAT, 55, 52⟩
def BOOT_FW_STAT.TRIES_B : Fld := ⟨.BOOT_FW_STAT, 51, 48⟩
def BOOT_FW_STAT.STATE_A : Fld := ⟨.BOOT_FW_STAT, 47, 44⟩
def BOOT_FW_STAT.TRIES_A : Fld := ⟨.BOOT_FW_STAT, 43, 40⟩
def BOOT_FW_STAT.ALMANAC_SLOT : Fld := ⟨.BOOT_FW_STAT, 32, 32⟩
def BOOT_FW_STAT.LAST_CODE : Fld := ⟨.BOOT_FW_STAT, 15, 0⟩
-- BOOT_FW_CTRL (chapter 14)
def BOOT_FW_CTRL.RESUMED : Fld := ⟨.BOOT_FW_CTRL, 3, 3⟩
def BOOT_FW_CTRL.HANDOVER : Fld := ⟨.BOOT_FW_CTRL, 2, 2⟩
def BOOT_FW_CTRL.COMMIT : Fld := ⟨.BOOT_FW_CTRL, 1, 1⟩
def BOOT_FW_CTRL.TRIAL : Fld := ⟨.BOOT_FW_CTRL, 0, 0⟩
-- BOOT_FW_VER_s (chapter 14)
def BOOT_FW_VER_s.VERSION : Fld := ⟨.BOOT_FW_VER_s, 31, 0⟩
-- BOOT_ALMANAC_SEQ (chapter 14)
def BOOT_ALMANAC_SEQ.SEQUENCE : Fld := ⟨.BOOT_ALMANAC_SEQ, 63, 0⟩
-- BOOT_WATCHDOG (chapter 14)
def BOOT_WATCHDOG.PERIOD_MS : Fld := ⟨.BOOT_WATCHDOG, 31, 16⟩
def BOOT_WATCHDOG.KICK : Fld := ⟨.BOOT_WATCHDOG, 0, 0⟩
-- BOOT_REFUSED (chapter 14)
def BOOT_REFUSED.SOURCE : Fld := ⟨.BOOT_REFUSED, 63, 60⟩
def BOOT_REFUSED.OFFSET : Fld := ⟨.BOOT_REFUSED, 39, 0⟩
-- EPH_STAT (chapter 14)
def EPH_STAT.SRAM_VALID : Fld := ⟨.EPH_STAT, 63, 63⟩
def EPH_STAT.BEHIND : Fld := ⟨.EPH_STAT, 62, 62⟩
def EPH_STAT.ACTIVE_AREA : Fld := ⟨.EPH_STAT, 61, 61⟩
def EPH_STAT.PENDING : Fld := ⟨.EPH_STAT, 47, 32⟩
def EPH_STAT.SETTINGS : Fld := ⟨.EPH_STAT, 16, 0⟩
-- EPH_JOURNAL_SEQ (chapter 14)
def EPH_JOURNAL_SEQ.SEQ : Fld := ⟨.EPH_JOURNAL_SEQ, 63, 0⟩
-- EPH_AREA (chapter 14)
def EPH_AREA.COMPACTIONS : Fld := ⟨.EPH_AREA, 63, 32⟩
def EPH_AREA.RECORDS : Fld := ⟨.EPH_AREA, 31, 0⟩
-- EPH_ERR_CNT (chapter 14)
def EPH_ERR_CNT.CORRUPT_SAT : Fld := ⟨.EPH_ERR_CNT, 63, 63⟩
def EPH_ERR_CNT.BEHIND_SAT : Fld := ⟨.EPH_ERR_CNT, 62, 62⟩
def EPH_ERR_CNT.FULL_SAT : Fld := ⟨.EPH_ERR_CNT, 61, 61⟩
def EPH_ERR_CNT.SRAM_SAT : Fld := ⟨.EPH_ERR_CNT, 60, 60⟩
def EPH_ERR_CNT.SRAM_CORR_CNT : Fld := ⟨.EPH_ERR_CNT, 55, 42⟩
def EPH_ERR_CNT.FULL_CNT : Fld := ⟨.EPH_ERR_CNT, 41, 28⟩
def EPH_ERR_CNT.BEHIND_CNT : Fld := ⟨.EPH_ERR_CNT, 27, 14⟩
def EPH_ERR_CNT.CORRUPT_CNT : Fld := ⟨.EPH_ERR_CNT, 13, 0⟩
-- EPH_CTRL (chapter 14)
def EPH_CTRL.COMPACT : Fld := ⟨.EPH_CTRL, 1, 1⟩
def EPH_CTRL.FLUSH : Fld := ⟨.EPH_CTRL, 0, 0⟩
-- SEC_STAT (chapter 15)
def SEC_STAT.IDENTITY : Fld := ⟨.SEC_STAT, 63, 62⟩
def SEC_STAT.OWNED : Fld := ⟨.SEC_STAT, 61, 61⟩
def SEC_STAT.LAST_CODE : Fld := ⟨.SEC_STAT, 15, 0⟩
-- SEC_FLOOR (chapter 15)
def SEC_FLOOR.FW_FLOOR : Fld := ⟨.SEC_FLOOR, 63, 32⟩
-- SEC_ALM_FLOOR (chapter 15)
def SEC_ALM_FLOOR.FLOOR : Fld := ⟨.SEC_ALM_FLOOR, 63, 0⟩
-- SEC_ATTEST_CTRL (chapter 15)
def SEC_ATTEST_CTRL.REQ : Fld := ⟨.SEC_ATTEST_CTRL, 0, 0⟩
-- SEC_ATTEST_STAT (chapter 15)
def SEC_ATTEST_STAT.BUSY : Fld := ⟨.SEC_ATTEST_STAT, 63, 63⟩
def SEC_ATTEST_STAT.DONE : Fld := ⟨.SEC_ATTEST_STAT, 62, 62⟩
def SEC_ATTEST_STAT.REPORTS : Fld := ⟨.SEC_ATTEST_STAT, 47, 16⟩
def SEC_ATTEST_STAT.CODE : Fld := ⟨.SEC_ATTEST_STAT, 15, 0⟩
-- SEC_NONCE_k (chapter 15)
def SEC_NONCE_k.NONCE : Fld := ⟨.SEC_NONCE_k, 63, 0⟩
-- SEC_ID_KEYID_k (chapter 15)
def SEC_ID_KEYID_k.KEYID : Fld := ⟨.SEC_ID_KEYID_k, 63, 0⟩
-- SEC_REPORT_n (chapter 15)
def SEC_REPORT_n.DATA : Fld := ⟨.SEC_REPORT_n, 63, 0⟩
-- DBG_STAT (chapter 15)
def DBG_STAT.STATE : Fld := ⟨.DBG_STAT, 63, 62⟩
def DBG_STAT.VENDOR_MARK : Fld := ⟨.DBG_STAT, 61, 61⟩
def DBG_STAT.LOCKOUT_S : Fld := ⟨.DBG_STAT, 47, 40⟩
def DBG_STAT.FAILS : Fld := ⟨.DBG_STAT, 39, 32⟩
def DBG_STAT.LAST_CODE : Fld := ⟨.DBG_STAT, 15, 0⟩
-- DBG_CTRL (chapter 15)
def DBG_CTRL.REFRESH : Fld := ⟨.DBG_CTRL, 2, 2⟩
def DBG_CTRL.EXIT : Fld := ⟨.DBG_CTRL, 1, 1⟩
def DBG_CTRL.SUBMIT : Fld := ⟨.DBG_CTRL, 0, 0⟩
-- DBG_CHALLENGE_k (chapter 15)
def DBG_CHALLENGE_k.CHALLENGE : Fld := ⟨.DBG_CHALLENGE_k, 63, 0⟩
-- DBG_MCORE_m_CTRL (chapter 15)
def DBG_MCORE_m_CTRL.HALTED : Fld := ⟨.DBG_MCORE_m_CTRL, 63, 63⟩
def DBG_MCORE_m_CTRL.STEP : Fld := ⟨.DBG_MCORE_m_CTRL, 2, 2⟩
def DBG_MCORE_m_CTRL.RESUME : Fld := ⟨.DBG_MCORE_m_CTRL, 1, 1⟩
def DBG_MCORE_m_CTRL.HALT : Fld := ⟨.DBG_MCORE_m_CTRL, 0, 0⟩
-- DBG_MCORE_m_TRACE (chapter 15)
def DBG_MCORE_m_TRACE.VALID : Fld := ⟨.DBG_MCORE_m_TRACE, 63, 63⟩
def DBG_MCORE_m_TRACE.OVERRUN : Fld := ⟨.DBG_MCORE_m_TRACE, 62, 62⟩
def DBG_MCORE_m_TRACE.TARGET : Fld := ⟨.DBG_MCORE_m_TRACE, 31, 0⟩
-- DBG_TOKEN_n (chapter 15)
def DBG_TOKEN_n.DATA : Fld := ⟨.DBG_TOKEN_n, 63, 0⟩
-- PWR_STAT (chapter 16)
def PWR_STAT.STATE : Fld := ⟨.PWR_STAT, 63, 60⟩
def PWR_STAT.CONVERTERS : Fld := ⟨.PWR_STAT, 59, 57⟩
def PWR_STAT.INPUT_LOW : Fld := ⟨.PWR_STAT, 56, 56⟩
def PWR_STAT.INPUT_HIGH : Fld := ⟨.PWR_STAT, 55, 55⟩
def PWR_STAT.LAST_OFF_CAUSE : Fld := ⟨.PWR_STAT, 54, 52⟩
def PWR_STAT.CAP_IN_FORCE_W : Fld := ⟨.PWR_STAT, 47, 32⟩
def PWR_STAT.LAST_CODE : Fld := ⟨.PWR_STAT, 15, 0⟩
-- PWR_CTRL (chapter 16)
def PWR_CTRL.CAP_W : Fld := ⟨.PWR_CTRL, 47, 32⟩
def PWR_CTRL.TARGET : Fld := ⟨.PWR_CTRL, 2, 0⟩
-- PWR_INPUT (chapter 16)
def PWR_INPUT.VIN : Fld := ⟨.PWR_INPUT, 63, 48⟩
def PWR_INPUT.IIN : Fld := ⟨.PWR_INPUT, 47, 32⟩
def PWR_INPUT.PIN_W : Fld := ⟨.PWR_INPUT, 31, 16⟩
-- PWR_ENERGY_CNT (chapter 16)
def PWR_ENERGY_CNT.UJ : Fld := ⟨.PWR_ENERGY_CNT, 63, 0⟩
-- PWR_EVENT_CNT (chapter 16)
def PWR_EVENT_CNT.LOW_SAT : Fld := ⟨.PWR_EVENT_CNT, 63, 63⟩
def PWR_EVENT_CNT.HIGH_SAT : Fld := ⟨.PWR_EVENT_CNT, 62, 62⟩
def PWR_EVENT_CNT.FASTLIM_SAT : Fld := ⟨.PWR_EVENT_CNT, 61, 61⟩
def PWR_EVENT_CNT.FASTLIM_CNT : Fld := ⟨.PWR_EVENT_CNT, 47, 32⟩
def PWR_EVENT_CNT.HIGH_CNT : Fld := ⟨.PWR_EVENT_CNT, 31, 16⟩
def PWR_EVENT_CNT.LOW_CNT : Fld := ⟨.PWR_EVENT_CNT, 15, 0⟩
-- CLK_STAT (chapter 16)
def CLK_STAT.REF_OK : Fld := ⟨.CLK_STAT, 63, 63⟩
def CLK_STAT.HOLDOVER : Fld := ⟨.CLK_STAT, 62, 62⟩
def CLK_STAT.REF_KHZ : Fld := ⟨.CLK_STAT, 48, 32⟩
-- CLK_DROOP_CTRL (chapter 16)
def CLK_DROOP_CTRL.DROOP_MV : Fld := ⟨.CLK_DROOP_CTRL, 7, 0⟩
-- CLK_ISLAND_n_CTRL (chapter 16)
def CLK_ISLAND_n_CTRL.EN : Fld := ⟨.CLK_ISLAND_n_CTRL, 7, 7⟩
def CLK_ISLAND_n_CTRL.OP : Fld := ⟨.CLK_ISLAND_n_CTRL, 2, 0⟩
-- CLK_ISLAND_n_STAT (chapter 16)
def CLK_ISLAND_n_STAT.OP_IN_FORCE : Fld := ⟨.CLK_ISLAND_n_STAT, 63, 61⟩
def CLK_ISLAND_n_STAT.LIMITER : Fld := ⟨.CLK_ISLAND_n_STAT, 60, 58⟩
def CLK_ISLAND_n_STAT.GATED : Fld := ⟨.CLK_ISLAND_n_STAT, 57, 57⟩
def CLK_ISLAND_n_STAT.POWERED : Fld := ⟨.CLK_ISLAND_n_STAT, 56, 56⟩
def CLK_ISLAND_n_STAT.RAMPING : Fld := ⟨.CLK_ISLAND_n_STAT, 55, 55⟩
def CLK_ISLAND_n_STAT.STRETCHED : Fld := ⟨.CLK_ISLAND_n_STAT, 54, 54⟩
def CLK_ISLAND_n_STAT.PLL_LOCK : Fld := ⟨.CLK_ISLAND_n_STAT, 53, 53⟩
def CLK_ISLAND_n_STAT.FREQ_MHZ : Fld := ⟨.CLK_ISLAND_n_STAT, 47, 32⟩
def CLK_ISLAND_n_STAT.DROOP_SAT : Fld := ⟨.CLK_ISLAND_n_STAT, 31, 31⟩
def CLK_ISLAND_n_STAT.DROOP_CNT : Fld := ⟨.CLK_ISLAND_n_STAT, 15, 0⟩
-- THM_STAT (chapter 16)
def THM_STAT.MAX_C : Fld := ⟨.THM_STAT, 63, 56⟩
def THM_STAT.MAX_DIE : Fld := ⟨.THM_STAT, 55, 51⟩
def THM_STAT.WARNING : Fld := ⟨.THM_STAT, 50, 50⟩
def THM_STAT.THROTTLE : Fld := ⟨.THM_STAT, 49, 49⟩
def THM_STAT.FLASH_OPEN : Fld := ⟨.THM_STAT, 48, 48⟩
def THM_STAT.FLASH_C : Fld := ⟨.THM_STAT, 47, 40⟩
def THM_STAT.INLET_C : Fld := ⟨.THM_STAT, 39, 32⟩
def THM_STAT.OUTLET_C : Fld := ⟨.THM_STAT, 31, 24⟩
-- THM_CTRL (chapter 16)
def THM_CTRL.THROTTLE_OP : Fld := ⟨.THM_CTRL, 2, 0⟩
-- THM_EVENT_CNT (chapter 16)
def THM_EVENT_CNT.WARN_SAT : Fld := ⟨.THM_EVENT_CNT, 63, 63⟩
def THM_EVENT_CNT.THROT_SAT : Fld := ⟨.THM_EVENT_CNT, 62, 62⟩
def THM_EVENT_CNT.SHUTDOWN_CNT : Fld := ⟨.THM_EVENT_CNT, 47, 32⟩
def THM_EVENT_CNT.THROT_CNT : Fld := ⟨.THM_EVENT_CNT, 31, 16⟩
def THM_EVENT_CNT.WARN_CNT : Fld := ⟨.THM_EVENT_CNT, 15, 0⟩
-- THM_DIE_k_STAT (chapter 16)
def THM_DIE_k_STAT.MAX : Fld := ⟨.THM_DIE_k_STAT, 63, 48⟩
def THM_DIE_k_STAT.MAX_SENSOR : Fld := ⟨.THM_DIE_k_STAT, 47, 43⟩
def THM_DIE_k_STAT.LEVEL : Fld := ⟨.THM_DIE_k_STAT, 42, 40⟩
def THM_DIE_k_STAT.FAST : Fld := ⟨.THM_DIE_k_STAT, 39, 39⟩
def THM_DIE_k_STAT.BLIND : Fld := ⟨.THM_DIE_k_STAT, 38, 38⟩
def THM_DIE_k_STAT.IN_SERVICE : Fld := ⟨.THM_DIE_k_STAT, 37, 32⟩
-- THM_DIE_k_DISCARD (chapter 16)
def THM_DIE_k_DISCARD.COMP_FAIL : Fld := ⟨.THM_DIE_k_DISCARD, 55, 32⟩
def THM_DIE_k_DISCARD.DISCARDED : Fld := ⟨.THM_DIE_k_DISCARD, 23, 0⟩
-- LOG_CTRL (chapter 17)
def LOG_CTRL.COALESCE_MS : Fld := ⟨.LOG_CTRL, 47, 32⟩
def LOG_CTRL.HBM_EN : Fld := ⟨.LOG_CTRL, 0, 0⟩
-- LOG_HBM_BASE (chapter 17)
def LOG_HBM_BASE.BASE : Fld := ⟨.LOG_HBM_BASE, 45, 0⟩
-- LOG_STAT (chapter 17)
def LOG_STAT.HBM_ACTIVE : Fld := ⟨.LOG_STAT, 63, 63⟩
def LOG_STAT.FULL : Fld := ⟨.LOG_STAT, 62, 62⟩
def LOG_STAT.OPEN : Fld := ⟨.LOG_STAT, 41, 32⟩
def LOG_STAT.INTAKE : Fld := ⟨.LOG_STAT, 6, 0⟩
-- LOG_HEAD (chapter 17)
def LOG_HEAD.SEQ : Fld := ⟨.LOG_HEAD, 63, 0⟩
-- LOG_HBM_COPIED (chapter 17)
def LOG_HBM_COPIED.SEQ : Fld := ⟨.LOG_HBM_COPIED, 63, 0⟩
-- LOG_DROPPED (chapter 17)
def LOG_DROPPED.SAT : Fld := ⟨.LOG_DROPPED, 63, 63⟩
def LOG_DROPPED.DROPPED : Fld := ⟨.LOG_DROPPED, 31, 0⟩
-- LOG_RING_n (chapter 17)
def LOG_RING_n.DATA : Fld := ⟨.LOG_RING_n, 63, 0⟩
-- SAFE_CTRL (chapter 17)
def SAFE_CTRL.AGG_EN : Fld := ⟨.SAFE_CTRL, 63, 63⟩
def SAFE_CTRL.ANCHOR_INDEX : Fld := ⟨.SAFE_CTRL, 17, 0⟩
-- SAFE_AGG_STAT (chapter 17)
def SAFE_AGG_STAT.BYPASS_SAT : Fld := ⟨.SAFE_AGG_STAT, 63, 63⟩
def SAFE_AGG_STAT.OVERFLOW_SAT : Fld := ⟨.SAFE_AGG_STAT, 62, 62⟩
def SAFE_AGG_STAT.BYPASS : Fld := ⟨.SAFE_AGG_STAT, 47, 32⟩
def SAFE_AGG_STAT.OVERFLOW : Fld := ⟨.SAFE_AGG_STAT, 31, 16⟩
def SAFE_AGG_STAT.SUSPECTS : Fld := ⟨.SAFE_AGG_STAT, 8, 0⟩
-- SAFE_ACCUSE (chapter 17)
def SAFE_ACCUSE.REQ : Fld := ⟨.SAFE_ACCUSE, 63, 63⟩
def SAFE_ACCUSE.UNIT : Fld := ⟨.SAFE_ACCUSE, 33, 18⟩
def SAFE_ACCUSE.SUSPECT : Fld := ⟨.SAFE_ACCUSE, 17, 0⟩
-- SAFE_OCCULT_CTRL (chapter 17)
def SAFE_OCCULT_CTRL.REQ : Fld := ⟨.SAFE_OCCULT_CTRL, 63, 63⟩
def SAFE_OCCULT_CTRL.OP : Fld := ⟨.SAFE_OCCULT_CTRL, 61, 60⟩
def SAFE_OCCULT_CTRL.UNIT : Fld := ⟨.SAFE_OCCULT_CTRL, 33, 18⟩
def SAFE_OCCULT_CTRL.DEVICE : Fld := ⟨.SAFE_OCCULT_CTRL, 17, 0⟩
-- SAFE_HEALTH_CTRL (chapter 17)
def SAFE_HEALTH_CTRL.HALF_LIFE_H : Fld := ⟨.SAFE_HEALTH_CTRL, 63, 56⟩
def SAFE_HEALTH_CTRL.RETIRE : Fld := ⟨.SAFE_HEALTH_CTRL, 47, 24⟩
def SAFE_HEALTH_CTRL.WATCH : Fld := ⟨.SAFE_HEALTH_CTRL, 23, 0⟩
-- SAFE_MON_STAT (chapter 17)
def SAFE_MON_STAT.MON_A_OK : Fld := ⟨.SAFE_MON_STAT, 63, 63⟩
def SAFE_MON_STAT.MON_B_OK : Fld := ⟨.SAFE_MON_STAT, 62, 62⟩
def SAFE_MON_STAT.RESIDUE_DEAD : Fld := ⟨.SAFE_MON_STAT, 61, 61⟩
def SAFE_MON_STAT.LAST_CODE : Fld := ⟨.SAFE_MON_STAT, 15, 0⟩
-- SAFE_AVAIL (chapter 17)
def SAFE_AVAIL.SERVICE_H : Fld := ⟨.SAFE_AVAIL, 63, 32⟩
def SAFE_AVAIL.UNPLANNED_S : Fld := ⟨.SAFE_AVAIL, 31, 0⟩
-- SAFE_LS_CTRL (chapter 17)
def SAFE_LS_CTRL.EN : Fld := ⟨.SAFE_LS_CTRL, 63, 63⟩
def SAFE_LS_CTRL.MARK_CNTR : Fld := ⟨.SAFE_LS_CTRL, 59, 48⟩
def SAFE_LS_CTRL.TIMEOUT_MS : Fld := ⟨.SAFE_LS_CTRL, 39, 24⟩
def SAFE_LS_CTRL.PARTNER : Fld := ⟨.SAFE_LS_CTRL, 17, 0⟩
-- SAFE_LS_STAT (chapter 17)
def SAFE_LS_STAT.MISMATCH : Fld := ⟨.SAFE_LS_STAT, 63, 63⟩
def SAFE_LS_STAT.LOST : Fld := ⟨.SAFE_LS_STAT, 62, 62⟩
def SAFE_LS_STAT.CORE : Fld := ⟨.SAFE_LS_STAT, 61, 55⟩
def SAFE_LS_STAT.UNCHECKED : Fld := ⟨.SAFE_LS_STAT, 54, 54⟩
def SAFE_LS_STAT.AGREED : Fld := ⟨.SAFE_LS_STAT, 31, 0⟩
-- SAFE_FL_CTRL (chapter 17)
def SAFE_FL_CTRL.REQ : Fld := ⟨.SAFE_FL_CTRL, 63, 63⟩
def SAFE_FL_CTRL.FORM : Fld := ⟨.SAFE_FL_CTRL, 9, 8⟩
def SAFE_FL_CTRL.SCOPE : Fld := ⟨.SAFE_FL_CTRL, 7, 0⟩
-- SAFE_FL_STAT (chapter 17)
def SAFE_FL_STAT.STATE : Fld := ⟨.SAFE_FL_STAT, 63, 60⟩
def SAFE_FL_STAT.DURATION_MS : Fld := ⟨.SAFE_FL_STAT, 47, 32⟩
def SAFE_FL_STAT.FAIL_UNIT : Fld := ⟨.SAFE_FL_STAT, 31, 16⟩
def SAFE_FL_STAT.CODE : Fld := ⟨.SAFE_FL_STAT, 15, 0⟩
-- SAFE_PLATE_CTRL (chapter 17)
def SAFE_PLATE_CTRL.REQ : Fld := ⟨.SAFE_PLATE_CTRL, 63, 63⟩
def SAFE_PLATE_CTRL.START : Fld := ⟨.SAFE_PLATE_CTRL, 62, 62⟩
-- SAFE_PLATE_ADDR (chapter 17)
def SAFE_PLATE_ADDR.ADDR : Fld := ⟨.SAFE_PLATE_ADDR, 45, 0⟩
-- SAFE_PLATE_LEN (chapter 17)
def SAFE_PLATE_LEN.LEN : Fld := ⟨.SAFE_PLATE_LEN, 39, 0⟩
-- SAFE_PLATE_STAT (chapter 17)
def SAFE_PLATE_STAT.BUSY : Fld := ⟨.SAFE_PLATE_STAT, 63, 63⟩
def SAFE_PLATE_STAT.DONE : Fld := ⟨.SAFE_PLATE_STAT, 62, 62⟩
def SAFE_PLATE_STAT.CODE : Fld := ⟨.SAFE_PLATE_STAT, 15, 0⟩
-- SAFE_PLATE_REC_n (chapter 17)
def SAFE_PLATE_REC_n.DATA : Fld := ⟨.SAFE_PLATE_REC_n, 63, 0⟩
-- SAFE_PLATE_DIGEST_k (chapter 17)
def SAFE_PLATE_DIGEST_k.DIGEST : Fld := ⟨.SAFE_PLATE_DIGEST_k, 63, 0⟩
-- SAFE_HEALTH_u (chapter 17)
def SAFE_HEALTH_u.LEVEL : Fld := ⟨.SAFE_HEALTH_u, 63, 62⟩
def SAFE_HEALTH_u.CLEAR : Fld := ⟨.SAFE_HEALTH_u, 61, 61⟩
def SAFE_HEALTH_u.SCORE : Fld := ⟨.SAFE_HEALTH_u, 39, 16⟩
def SAFE_HEALTH_u.LAST_CODE : Fld := ⟨.SAFE_HEALTH_u, 15, 0⟩
-- SAFE_CORE_DIGEST (chapter 17)
def SAFE_CORE_DIGEST.DIGEST : Fld := ⟨.SAFE_CORE_DIGEST, 63, 0⟩
-- SAFE_CORE_MARK (chapter 17)
def SAFE_CORE_MARK.PENDING : Fld := ⟨.SAFE_CORE_MARK, 63, 56⟩
def SAFE_CORE_MARK.MARKS : Fld := ⟨.SAFE_CORE_MARK, 31, 0⟩

end F

end Sys2Proof
end

