-- ==== Sys2Proof/Machine/Regs.lean ====
section
/-! DEFINITION. A register of the device by name and instance, its place in the register space (R13, R15, R88, R649)
and back, its reset value, and the reading and writing of its fields as the access codes of R6 say. -/

namespace Sys2Proof

/-- A register: its name, the unit whose block or window it stands in (core 0-127, engine 0-255, cluster 0-31,
X-die, P-die) and up to two instance numbers. A register that reads the same in every X-die stands once, under X0;
`DLK_LINK_n_*` stands once, with the link's number as `i`. -/
structure RegKey where
  name : RegName
  u : Nat := 0
  i : Nat := 0
  j : Nat := 0
  deriving DecidableEq, Repr

namespace RegKey

/-- The order in which the register file lists its entries: by name, then by unit, then by instance. -/
def lt (a b : RegKey) : Bool :=
  if a.name ≠ b.name then decide (a.name.ctorIdx < b.name.ctorIdx)
  else if a.u ≠ b.u then decide (a.u < b.u)
  else if a.i ≠ b.i then decide (a.i < b.i)
  else decide (a.j < b.j)

end RegKey

/-- Registers that are two addresses of one storage (the set and clear addresses of the interrupt controller). -/
def RegName.home : RegName → RegName
  | .INT_PEND_CLR_k => .INT_PEND_SET_k
  | .INT_MASK_CLR_k => .INT_MASK_SET_k
  | n => n

/-- The register that holds what an address shows. -/
def RegKey.home (k : RegKey) : RegKey := { k with name := k.name.home }

/-- Registers that read the same in every X-die (R242, R475). -/
def RegName.sharedX : RegName → Bool
  | .HBM_CAPACITY | .HBM_MAPOUT_LIST_n | .DLK_PKG_LEVEL | .DLK_DIE_k_INV => true
  | _ => false

/-- Registers of a die link, whose window stands only in the block of its quadrant's X-die (R475's section). -/
def RegName.isLink : RegName → Bool
  | .DLK_LINK_n_STAT | .DLK_LINK_n_CTRL | .DLK_LINK_n_ERR | .DLK_LINK_n_FRAMES => true
  | _ => false

/-- The quadrant at whose edge P-die p sits (chapter 01): P0 and P2 at Q0, P1 and P4 at Q1, P3 at Q2, P5 at Q3. -/
def pdieQuadrant : Nat → Nat
  | 0 => 0 | 1 => 1 | 2 => 0 | 3 => 2 | 4 => 1 | _ => 3

/-- The failover neighbour of a quadrant: Q0 and Q1, Q2 and Q3 (chapter 01). -/
def failoverQuadrant : Nat → Nat
  | 0 => 1 | 1 => 0 | 2 => 3 | _ => 2

/-- The quadrant in whose X-die block the window of die link n lies. -/
def linkQuadrant (n : Nat) : Nat :=
  if n < 8 then n / 2
  else if n < 16 then failoverQuadrant ((n - 8) / 2)
  else if n < 20 then n - 16
  else if n < 26 then pdieQuadrant (n - 20)
  else if n = 26 then 0
  else n - 27

/-- R15: the base of register block `b` of unit `u` in the register space, as an offset [39:0] above 0x3F00_0000_0000;
R88: cluster, core and engine windows within the C-die blocks. -/
def Block.base : Block → Nat → Nat
  | .boot, _ => 0x0100000000
  | .sec, _ => 0x0200000000
  | .pwr, _ => 0x0300000000
  | .intc, _ => 0x0400000000
  | .log, _ => 0x0500000000
  | .cluster, u => (0x10 + u / 4) * 0x100000000 + (u % 4) * 0x10000000
  | .core, u => (0x10 + u / 16) * 0x100000000 + (u / 4 % 4) * 0x10000000 + 0x01000000 * (u % 4 + 1)
  | .engine, u => (0x10 + u / 32) * 0x100000000 + (u / 8 % 4) * 0x10000000 + 0x01000000 * (u / 2 % 4 + 1)
      + 0x00800000 + (u % 2) * 0x00010000
  | .xdie, u => (0x20 + u) * 0x100000000
  | .sdie, _ => 0x3000000000
  | .pdie, u => (0x40 + u) * 0x100000000
  | .gas, _ => 0x5000000000
  | .hlk, _ => 0x6000000000

/-- The bits of a register that its table defines as fields; R5: every other bit reads as zero. -/
def RegName.fields (n : RegName) : List Field := n.info.fields

/-- The value of a list of fields, each at a given value. -/
def assemble : List Field → (Field → Nat) → Nat
  | [], _ => 0
  | f :: fs, v => putBits (assemble fs v) f.hi f.lo (v f)

/-- The reset value of a field in one register: the Reset column, where that column names the unit itself filled in
(`OPT_FACE_STAT FACE` is the P-die's number; `OPT_PORT_n_MAP_k LANE_i_CH` the lane's own number). -/
def fieldReset (k : RegKey) (f : Field) : Nat :=
  match k.name with
  | .OPT_FACE_STAT => if f.lo = 0 then k.u else f.reset
  | .OPT_PORT_n_MAP_k => if 15 < 12 * (k.j % 2) + f.lo / 5 then 0 else 12 * (k.j % 2) + f.lo / 5
  | _ => f.reset

/-- The value of a register that no event and no write has changed since reset. -/
def RegKey.reset (k : RegKey) : Word := BitVec.ofNat 64 (assemble k.name.fields (fieldReset k))

/-- The value of a field in a register's word. -/
def getBits (v : Word) (hi lo : Nat) : Nat := bitsOf v.toNat hi lo

/-- A register's word with a field set to a value modulo the field's width. -/
def setBits (v : Word) (hi lo x : Nat) : Word := BitVec.ofNat 64 (putBits v.toNat hi lo x)

/-- A written word as the register stores it: fields whose table stores values outside their range as the nearest value
in it, or a value as another one. -/
def RegName.stored (n : RegName) (v : Word) : Word :=
  let fit (v : Word) (hi lo least most : Nat) : Word := setBits v hi lo (max least (min most (getBits v hi lo)))
  let pos (v : Word) (hi lo : Nat) : Word := if getBits v hi lo = 0 then setBits v hi lo 1 else v
  match n with
  | .CORE_PREEMPT_CTRL => pos v 63 32
  | .HBM_SCRUB_CTRL => fit v 7 0 1 168
  | .MSC_CTRL => fit (fit v 16 12 4 16) 10 8 0 4
  | .GAS_CTRL => fit v 13 0 100 10000
  | .XFB_VC_WEIGHT => fit v 7 0 4 255
  | .XFB_ECN_CTRL => setBits v 47 32 (min 0xFFFF (max (getBits v 31 16 + 1) (min 1024 (getBits v 47 32))))
  | .XFB_RATE_CTRL => fit (pos (pos (pos v 55 48) 47 40) 9 0) 39 36 1 10
  | .XFB_HOLD => pos (pos v 31 16) 15 0
  | .XFB_PART_b => pos v 11 0
  | .XFB_EXC_b_n => if getBits v 62 60 = 6 then setBits v 62 60 7 else v
  | .OPT_SPARE_POLICY => fit (fit (fit v 47 32 119 11900) 23 16 110 140) 7 0 50 250
  | .COL_CTRL => fit (pos v 47 32) 7 0 8 30
  | .HLK_CTRL => fit v 63 32 10 10000
  | .INT_CFG => fit v 11 8 0 8
  | .BOOT_WATCHDOG => fit v 31 16 100 60000
  | .PWR_CTRL => fit v 47 32 2000 4000
  | .CLK_DROOP_CTRL => fit v 7 0 20 100
  | .LOG_CTRL => pos v 47 32
  | .SAFE_HEALTH_CTRL =>
    let v := pos (pos v 63 56) 23 0
    setBits v 47 24 (min (2 ^ 24 - 1) (max (getBits v 23 0 + 1) (getBits v 47 24)))
  | .SAFE_LS_CTRL => fit v 39 24 1 19
  | _ => v

/-- R6: what a read returns of the fields of one register; reserved bits (R5) and WO fields read as zero. -/
def readView (n : RegName) (v : Word) : Word :=
  BitVec.ofNat 64 (assemble n.fields fun f => if f.access = .wo then 0 else getBits v f.hi f.lo)

/-- R6, R8: the word of a register after a read: RC fields return to their reset value. -/
def afterRead (k : RegKey) (v : Word) : Word :=
  k.name.fields.foldl (fun a f => if f.access = .rc then setBits a f.hi f.lo (fieldReset k f) else a) v

/-- R6: the word of a register after a write that acts on no action bit: RW and WO fields take the written value,
W1S bits written 1 are set and W1C bits written 1 are cleared, RO and RC fields ignore the write, and reserved bits
(R5) stay zero. `isAction` says which fields are action bits (R652), on which the caller acts itself. -/
def writeFields (n : RegName) (isAction : Field → Bool) (old new : Word) : Word :=
  n.fields.foldl (fun a f =>
    let o := getBits old f.hi f.lo
    let w := getBits new f.hi f.lo
    match f.access with
    | .rw => setBits a f.hi f.lo w
    | .wo => if isAction f then a else setBits a f.hi f.lo w
    | .w1s => if isAction f then a else setBits a f.hi f.lo (o ||| w)
    | .w1c => setBits a f.hi f.lo (o - (o &&& w))
    | .ro => a
    | .rc => a) old

/-- The fields of Keep class E of a register's word (R11). -/
def RegName.classE (n : RegName) (v : Word) : Nat :=
  assemble (n.fields.filter fun f => decide (f.keep = .e)) fun f => getBits v f.hi f.lo

/-- The registers with fields of class E, whose changes the journal mirrors (R526); the journal's own registers apart.
-/
def RegName.journalled : RegName → Bool
  | .CLU_CORE_MAP | .CLU_CORE_RETIRED | .HBM_CAPACITY | .HBM_MAPOUT_LIST_n | .HBM_PC_n_ERR | .GAS_EPOCH | .OPT_PORT_n_STAT
  | .OPT_PORT_n_MAP_k | .OPT_PORT_n_CH_c_LASER | .BOOT_CTRL | .BOOT_START_CNT | .BOOT_FW_STAT | .BOOT_FW_VER_s | .PWR_STAT
  | .THM_EVENT_CNT | .SAFE_AVAIL | .SAFE_HEALTH_u => true
  | _ => false

/-- Whether a register has RC fields. -/
def RegName.hasRc (n : RegName) : Bool := n.fields.any fun f => decide (f.access = .rc)

/-- The instance numbers that put an offset within a register's place: `rel` counts from the register's own base. -/
def splitDims : List (Nat × Nat × Nat) → Nat → Option (List Nat)
  | [], rel => if rel = 0 then some [] else none
  | [(s, c, first)], rel =>
      if rel % s = 0 ∧ rel / s < c + first ∧ first ≤ rel / s then some [rel / s] else none
  | (s, c, first) :: ds, rel =>
      if rel / s < c + first ∧ first ≤ rel / s then (splitDims ds (rel % s)).map (fun l => rel / s :: l) else none

/-- The offset of a register within its block or window. -/
def Place.offset (p : Place) (i j : Nat) : Nat :=
  match p.dims with
  | [] => p.base
  | [(s, _, _)] => p.base + s * i
  | (s, _, _) :: (s', _, _) :: _ => p.base + s * i + s' * j

/-- R15, R88: the register-space offset [39:0] of a register. -/
def RegKey.offset (k : RegKey) : Nat :=
  let p := k.name.info.place
  let u := if k.name.isLink then linkQuadrant k.i else k.u
  p.block.base u + p.offset k.i k.j

/-- The register of a name at an offset of its block's unit, if it stands there. -/
def RegName.at (n : RegName) (u rel : Nat) : Option RegKey :=
  let p := n.info.place
  if rel < p.base then none
  else match splitDims p.dims (rel - p.base) with
    | none => none
    | some ix =>
      let i := ix.getD 0 0
      let j := ix.getD 1 0
      if n.isLink then (if linkQuadrant i = u then some ⟨n, 0, i, 0⟩ else none)
      else if p.block = .pdie ∧ p.base ≥ 0x1000 ∧ i ≥ 8 ∧ u ≠ 0 then none
      else some ⟨n, if n.sharedX then 0 else u, i, j⟩

/-- The block, the unit and the offset inside it of a register-space offset [39:0] (R15, R88), if there is one. -/
def blockAt (o : Nat) : Option (Block × Nat × Nat) :=
  let b := o / 0x100000000
  let rel := o % 0x100000000
  if b = 0x01 then some (.boot, 0, rel)
  else if b = 0x02 then some (.sec, 0, rel)
  else if b = 0x03 then some (.pwr, 0, rel)
  else if b = 0x04 then some (.intc, 0, rel)
  else if b = 0x05 then some (.log, 0, rel)
  else if 0x10 ≤ b ∧ b < 0x18 then
    let n := b - 0x10
    let l := rel / 0x10000000
    let w := rel % 0x10000000
    if 4 ≤ l then none
    else if w < 0x01000000 then some (.cluster, 4 * n + l, w)
    else if w < 0x05000000 then
      let c := w / 0x01000000 - 1
      let r := w % 0x01000000
      if r < 0x00800000 then some (.core, 16 * n + 4 * l + c, r)
      else if r < 0x00820000 then
        some (.engine, 2 * (16 * n + 4 * l + c) + (r - 0x00800000) / 0x00010000, r % 0x00010000)
      else none
    else none
  else if 0x20 ≤ b ∧ b < 0x24 then some (.xdie, b - 0x20, rel)
  else if b = 0x30 then some (.sdie, 0, rel)
  else if 0x40 ≤ b ∧ b < 0x46 then some (.pdie, b - 0x40, rel)
  else if b = 0x50 then some (.gas, 0, rel)
  else if b = 0x60 then some (.hlk, 0, rel)
  else none

/-- R649: the register defined at a register-space offset [39:0]; none where the manual defines no register. -/
def RegKey.ofOffset (o : Nat) : Option RegKey :=
  match blockAt o with
  | none => none
  | some (b, u, rel) =>
    (RegName.all.filter fun n => decide (n.info.place.block = b)).findSome? fun n => n.at u rel

/-- R88, R591: an offset in the window of a cluster's physical core that holds no logical number, at which a core window
has a register: it reads as power-gated. -/
def isSpareOffset (o : Nat) : Bool :=
  decide (0x1000000000 ≤ o) && decide (o < 0x1800000000) && decide (0x05000000 ≤ o % 0x10000000)
    && decide (o % 0x10000000 < 0x06000000) && decide (o % 0x100000000 / 0x10000000 < 4)
    && (RegKey.ofOffset (o - 0x04000000)).isSome

end Sys2Proof
end

