-- ==== Sys2Proof/Machine/State.lean ====
section
/-! DEFINITION. The state of the module as plain data: the register file (every register of the manual, R2), the
memories, and beside them what the manual gives each unit that no register holds (queues, rows in flight, packets
outstanding, table entries), and the queue of waiting commands. -/

namespace Sys2Proof.Machine

open Sys2Proof

/-! ### The logbook (chapter 17) -/

/-- A report of a unit to the M-die (R606, R613). -/
structure Report where
  code : Nat
  source : Nat
  d0 : Nat := 0
  d1 : Nat := 0
  device : Nat := 0
  remote : Bool := false
  /-- COUNT of a KIND 3 record: the accusers (R606). -/
  count : Nat := 1
  /-- FIRST of a GAS_OUTCOME_UNKNOWN record: the issue time of the first attempt (R277). -/
  first : Option Nat := none
  deriving DecidableEq, Repr

/-- A report in the intake queue (R609). -/
structure Intake where
  rep : Report
  time : Nat
  overflowFirst : Bool
  drops : Nat
  deriving DecidableEq, Repr

/-- An open coalescing entry (R610). -/
structure Coalesce where
  source : Nat
  code : Nat
  count : Nat := 0
  sat : Bool := false
  first : Nat := 0
  last : Nat := 0
  lastRep : Report
  deriving DecidableEq, Repr

structure LogSt where
  /-- Reports accepted, oldest first (R609). -/
  intake : List Intake := []
  /-- The queue has been full since it was last not full: the reserved entry is spent (R609). -/
  full : Bool := false
  /-- Reports dropped since the last accepted one (R609). -/
  drops : Nat := 0
  open_ : List Coalesce := []
  /-- KIND 2 records that take the next write slots (R610). -/
  closed : List Coalesce := []
  /-- R651: no report is accepted during the rest of a Quiesce or of an entry to P3. -/
  shut : Bool := false
  deriving DecidableEq, Repr

/-! ### Cores, engines and clusters (chapters 02 to 05, 11) -/

/-- R93: the states of a thread. -/
inductive ThreadSt where
  | halted | running | waiting | switched | parked | faulted | stopped
  deriving DecidableEq, Repr

/-- R93: the state code. -/
def ThreadSt.code : ThreadSt → Nat
  | .halted => 0 | .running => 1 | .waiting => 2 | .switched => 3 | .parked => 4 | .faulted => 5 | .stopped => 6

/-- A WAIT that waits (R428, R430). -/
structure WaitInfo where
  cntr : Nat
  target : Nat
  timeoutUs : Nat := 0
  tres : Nat := 0
  /-- The Chronograph value at its dispatch. -/
  since : Nat := 0
  deriving DecidableEq, Repr

/-- A SIGNAL's update (R424). -/
structure SignalInfo where
  dest : Nat
  cntr : Nat
  value : Nat
  core : Nat
  device : Nat
  seq : Nat
  pc : Nat
  thread : Nat
  deriving DecidableEq, Repr

/-- A FENCE that holds its thread, or the FENCE that a SIGNAL with FENCE = 1 completes first (R431, R434). -/
structure FenceInfo where
  scope : Nat
  seq : Nat
  signal : Option SignalInfo := none
  deriving DecidableEq, Repr

structure Thread where
  st : ThreadSt := .halted
  /-- The state that RESUME returns a STOPPED thread to (R135). -/
  prev : ThreadSt := .halted
  /-- R98: the instruction at PC 65,535 has completed and the thread would next dispatch past it. -/
  pastEnd : Bool := false
  /-- R144: a HALT held until the reply, the FENCE or the SIGNAL's update. -/
  haltReq : Bool := false
  /-- R652: a START of the write whose HALT is held; it acts when the HALT acts. -/
  startReq : Bool := false
  wait : Option WaitInfo := none
  fence : Option FenceInfo := none
  deriving DecidableEq, Repr

/-- R122: a DMA descriptor. -/
structure DmaDesc where
  src : Nat
  dst : Nat
  rowBytes : Nat
  rows : Nat
  srcStride : Nat
  dstStride : Nat
  srcKey : Nat
  dstKey : Nat
  hint : Nat
  useCount : Nat
  srcSp : Bool
  dstSp : Bool
  mcast : Bool
  coreMask : Nat
  transit : Nat
  next : Nat
  deriving DecidableEq, Repr

/-- The running chain of a DMA entry (R124). -/
structure DmaRun where
  /-- The store address of the descriptor to read next. -/
  nextAddr : Nat
  /-- The index in the chain of the active descriptor, or of the next one. -/
  index : Nat := 0
  desc : Option DmaDesc := none
  /-- The message number of the descriptor's packets (R261). -/
  msg : Nat := 0
  /-- The parts of the descriptor that have been delivered, and acknowledged where remote: offset and length. -/
  got : List (Nat × Nat) := []
  /-- Bytes that have arrived for a stream FIFO and are not appended yet, by offset. -/
  buf : NMap (Option Byte) := []
  /-- Bytes appended to a stream FIFO so far. -/
  appended : Nat := 0
  /-- R141: a packet failed; no further one is sent. -/
  failed : Option Nat := none
  deriving DecidableEq, Repr

/-- What a queue entry does, its store addresses resolved at dispatch (R650). -/
inductive QOp where
  | loads (eng mode etype addr stride : Nat)
  | stream (pair acc src : Bool) (fmt rows base addr : Nat)
  | emit (intlv : Bool) (ofmt : Nat) (scale : Int) (slot count addr stride : Nat)
  | vec (op : Op) (ta tb td scalar len a b d : Nat)
  | attn (addr : Nat)
  | dma (run : DmaRun)
  | wait (w : WaitInfo)
  | gas (op : Op) (pkt : Packet) (saddr tdst : Nat)
  | coll (group addr : Nat) (ndet : Bool)
  deriving DecidableEq, Repr

/-- An entry of a queue of a core: dispatched and not retired. -/
structure Entry where
  seq : Nat
  thread : Nat
  pc : Nat
  op : QOp
  sig : Option Nat := none
  started : Bool := false
  /-- The completion that retirement requires has been reached (R108). -/
  done : Bool := false
  /-- R105: the faulting entry, or a STREAM stopped under R81: it never retires. -/
  stuck : Bool := false
  /-- What the check bits of the store words it reads find (R103). -/
  ecc : Ecc := .ok
  /-- Rows issued, slots read, or the LOADS stall ended. -/
  n : Nat := 0
  /-- Rows whose output columns are complete. -/
  m : Nat := 0
  deriving DecidableEq, Repr

/-- An attention descriptor (R151). -/
structure AttnDesc where
  map : Nat
  mapKey : Nat
  kvfmt : Nat
  qtype : Nat
  mask : Nat
  appendOnly : Bool
  stats : Bool
  unnorm : Bool
  hint : Nat
  useCount : Nat
  hq : Nat
  npos : Nat
  kvLen : Nat
  qPos0 : Nat
  kStart : Nat
  append : Nat
  window : Nat
  smscale : Nat
  oscale : Nat
  qAddr : Nat
  qStride : Nat
  qCol : Nat
  newCol : Nat
  kNew : Nat
  vNew : Nat
  newStride : Nat
  oStride : Nat
  oAddr : Nat
  oCol : Nat
  ofmt : Nat
  statsAddr : Nat
  work : Nat
  next : Nat
  deriving DecidableEq, Repr

/-- The online softmax of one column (R159), in binary32 words. -/
structure AttnCol where
  m : Nat
  l : Nat
  o : List Nat
  deriving DecidableEq, Repr

/-- The attention stream unit while an ATTN runs. -/
structure AttnRun where
  seq : Nat
  thread : Nat
  pc : Nat
  nextAddr : Nat
  index : Nat := 0
  desc : Option AttnDesc := none
  /-- Map entries that have been read and checked for the descriptor (R163, R164): number, page address, key. -/
  entries : List (Nat × Nat × Nat) := []
  /-- Map entries and block positions asked for (R166). -/
  askedMap : List Nat := []
  askedKeys : List Nat := []
  /-- Bytes that reads have brought into the work area, by global address. -/
  work : NMap (Option Byte) := []
  /-- The new key and value rows that the append phase writes, read when it begins, and the tokens whose writes it has
  sent. -/
  newRows : List (List Byte × List Byte) := []
  appendAt : Nat := 0
  /-- The append phase has begun to write. -/
  appendSent : Bool := false
  /-- Offsets of appended tokens whose writes are acknowledged in full are counted when the phase ends (R156). -/
  appended : Bool := false
  /-- The next block's first key position. -/
  nextKey : Nat := 0
  /-- Blocks processed, of the descriptor and of the whole chain. -/
  blocks : Nat := 0
  total : Nat := 0
  /-- The stationary query tile, assembled with the descriptor's first block (R155). -/
  query : Option (List (List Byte)) := none
  /-- The unit has loaded tiles of its own into the engines. -/
  loaded : Bool := false
  cols : List AttnCol := []
  faulted : Bool := false
  deriving DecidableEq, Repr

/-- A lock-step mark (R632). -/
structure Mark where
  number : Nat
  value : Nat
  deriving DecidableEq, Repr

/-- An outstanding remote or companion SIGNAL of a core (R431, R437, R494). -/
structure OutSignal where
  seq : Nat
  dest : Nat
  /-- Tag of a companion COUNTER (R494). -/
  tag : Nat := 0
  deriving DecidableEq, Repr

/-- A core by its logical number, beside its registers. -/
structure Core where
  threads : NMap Thread := []
  /-- Queues 0-7, oldest entry first. -/
  queues : NMap (List Entry) := []
  /-- Stopped by a fault (R137). -/
  faulted : Bool := false
  /-- In a forced stop (R134). -/
  forced : Bool := false
  /-- Paused (R130). -/
  paused : Bool := false
  /-- A CLEAR_FAULT that waits (R142), with the actions of the same write that wait behind it (R652). -/
  clearHeld : Bool := false
  clearThenResume : Bool := false
  clearThenStop : Bool := false
  /-- The partial-completion map of the fault has not been written yet (R141). -/
  mapPending : Bool := false
  /-- The stream FIFOs of engines 0 and 1, oldest byte first (R115). -/
  fifo0 : List Byte := []
  fifo1 : List Byte := []
  /-- Pad bytes that a STREAM has passed (R117) and that have not arrived yet: they are discarded as they arrive. -/
  skip0 : Nat := 0
  skip1 : Nat := 0
  /-- The thread that dispatched last (R96). -/
  lastThread : Nat := 15
  /-- The sequence number of the COLL that CORE_COLL_REC tells of. -/
  lastColl : Option Nat := none
  signals : List OutSignal := []
  /-- Values that each channel of the Spectrograph has counted since it was armed or cleared (R206). -/
  specRun : NMap Nat := []
  attn : Option AttnRun := none
  /-- Own marks that wait for their partner's, oldest first (R632). -/
  marks : List Mark := []
  /-- The partner's marks that arrived first (R635). -/
  partnerMarks : List Mark := []
  /-- Chronograph value of the last mark or Plate window (R634). -/
  markTime : Option Nat := none
  deriving DecidableEq, Repr

/-- A stationary tile (R48, R50): mode, element type and its 128 rows. -/
structure Tile where
  mode : Nat
  etype : Nat
  rows : List (List Byte)
  /-- Loaded and not invalidated (R66). -/
  valid : Bool := true
  deriving DecidableEq, Repr

/-- An accumulator slot (R54, R183). With `free` = 0 an unlisted entry is +0 (R657); with `free` = k it holds an
unspecified value of the k-th pause or ATTN (R131, R146). -/
structure Slot where
  vals : NMap Nat := []
  free : Nat := 0
  terms : Nat := 0
  poison : Bool := false
  deriving DecidableEq, Repr

/-- A streamed row inside the array: its output column is not complete yet. -/
structure RowInFlight where
  seq : Nat
  row : Nat
  slot : Nat
  add : Bool
  k : Nat
  sums : List Nat
  poison : Bool
  invalid : Bool := false
  deriving DecidableEq, Repr

/-- An engine (number 2 × core + e), beside its registers. -/
structure Engine where
  tile : Option Tile := none
  /-- The stall of a LOADS is running (R62): the LOADS' sequence number. -/
  loading : Option Nat := none
  slots : NMap Slot := []
  /-- The free value's number that unlisted slots hold after a pause (R131); 0: they hold +0 (R657). -/
  loose : Nat := 0
  flight : List RowInFlight := []
  /-- R77: the STREAM whose slots a parity error poisons. -/
  poisonSeq : Option Nat := none
  /-- The elements of an INTLV EMIT's first slot of a row, which is written with the second one's (R57, R107). -/
  even : List (List Byte) := []
  deriving DecidableEq, Repr

/-- The phases of a spare-core swap (CLU_SWAP_STAT). -/
inductive SwapPhase where
  | waiting | copying | copied
  deriving DecidableEq, Repr

/-- What is held for a core whose copy is under way (R85): a counter update, a packet, a companion request, an access
of the Eyepiece, a register write or read by a path (0 the fabric's, 2 I3C, 3 the Eyepiece, 4 a command), or bytes
that another core of the cluster writes by a descriptor. -/
inductive Held where
  | update (n : Nat) (addend : Int) (kind source : Nat)
  | setCounter (n value : Nat)
  | request (p : Packet)
  | message (m : HlkMsg)
  | eye (a : EyeAccess)
  | write (k : RegKey) (src dev : Nat) (v : Word)
  | load (k : RegKey) (path : Nat)
  | store (x : DmaDesc) (off : Nat) (bs : List Byte)
  deriving DecidableEq, Repr

structure Swap where
  lcore : Nat
  empty : Bool
  powered : Bool := false
  phase : SwapPhase := .waiting
  held : List Held := []
  deriving DecidableEq, Repr

/-! ### Packets on their way (chapters 07 and 08) -/

/-- What a request of this device waits for (R260, R267, R275, R280, R437). -/
inductive ReqKind where
  | gld | gst | gatom | dmaRead | dmaWrite | signal | release | attnMap | attnPage | attnAppend | coll
  deriving DecidableEq, Repr

/-- An outstanding request of this device's GAS units. -/
structure Req where
  kind : ReqKind
  core : Nat
  thread : Nat := 0
  /-- Dispatch sequence number of the instruction (R104), which is the tag's (R272). -/
  seq : Nat
  /-- The packet as last sent; `attempt` counts the resends. -/
  pkt : Packet
  /-- Issue time of the first attempt, once it has left its injection queue (R277, R295). -/
  firstIssue : Option Nat := none
  /-- GAS_CTRL RETRIES when the request was issued. -/
  retries : Nat := 3
  /-- The attempts that have received a busy refusal (R276). -/
  busy : List Nat := []
  /-- The present attempt has received a busy refusal and waits 2 µs (R276). -/
  busyWait : Bool := false
  saddr : Nat := 0
  tdst : Nat := 0
  /-- The queue of a DMA request (4 or 5). -/
  queue : Nat := 6
  deriving DecidableEq, Repr

/-- The pacing of one destination (R329): rates in 1/1024 of a face, and α as `alphaN` / 2^`alphaE`. -/
structure Rate where
  dst : Nat
  rc : Nat := 1024
  rt : Nat := 1024
  alphaN : Nat := 1
  alphaE : Nat := 0
  k : Nat := 0
  /-- Chronograph value of the last decrease (R330). -/
  lastDec : Option Nat := none
  /-- Flits let go to the destination lately, with their times (R332). -/
  recent : List (Nat × Nat) := []
  deriving DecidableEq, Repr

/-- An entry of the accusation table of the current window (R623). -/
structure Suspect where
  dev : Nat
  /-- Accusers counted, this device's own accusation apart. -/
  accusers : Nat
  mask : Nat
  unit : Nat
  /-- This device is among the accusers. -/
  own : Bool := false
  deriving DecidableEq, Repr

/-! ### Collectives (chapter 10) -/

/-- A COLL in the communication queue of its slot (R383). -/
structure CollInst where
  core : Nat
  seq : Nat
  thread : Nat
  pc : Nat
  /-- Store address of the descriptor, and the instruction's NDET bit (R386). -/
  addr : Nat
  ndet : Bool
  deriving DecidableEq, Repr

/-- The algorithms of R391, the one in force for an instance. -/
inductive CollAlgo where
  | ll | tree | ring | direct | barrier | mcast
  deriving DecidableEq, Repr

/-- A collective descriptor (R384). -/
structure CollDesc where
  src : Nat
  dst : Nat
  count : Nat
  op : Nat
  dtype : Nat
  redop : Nat
  algo : Nat
  order : Bool
  root : Nat
  status : Nat
  deriving DecidableEq, Repr

/-- A signature (R387). -/
structure CollSig where
  op : Nat
  dtype : Nat
  redop : Nat
  count : Nat
  root : Nat
  gid : Nat
  epoch : Nat
  inst : Nat
  deriving DecidableEq, Repr

/-- A member's contribution to a phase of the low-latency path: its signature (none for a mismatch mark, R388), the members
it stands for, and its values. -/
structure CollVal where
  stage : Nat
  rank : Nat
  sig : Option CollSig
  count : Nat := 1
  vals : List Nat := []
  deriving DecidableEq, Repr

/-- A child's partial sums of one packet of TREE (R397), in order of arrival. -/
structure CollPart where
  rank : Nat
  /-- Element number of the first value. -/
  first : Nat
  vals : List Nat
  deriving DecidableEq, Repr

inductive CollPhase where
  | agree | move | abort (code : Nat)
  deriving DecidableEq, Repr

/-- The running instance of a slot. -/
structure CollRun where
  inst : CollInst
  /-- Its number (R383). -/
  num : Nat
  desc : CollDesc
  algo : CollAlgo
  phase : CollPhase := .agree
  /-- Values of the low-latency path that have arrived, this member's own among them, and the stage that it has reached. -/
  vals : List CollVal := []
  stage : Nat := 0
  /-- This member's elements, as they are carried (R403). -/
  src : List Nat := []
  /-- RING: values of this member that wait for their chain, and arrivals that wait for a value: by stage and element. -/
  own : NMap (Option Nat) := []
  arr : NMap (Option Nat) := []
  parts : List CollPart := []
  /-- The value of an LL BROADCAST that waits for the agreement (R395). -/
  cast : Option (List Nat) := none
  /-- Data packets taken: stage, rank of the sender and first element. -/
  seen : List (Nat × Nat × Nat) := []
  /-- DIRECT: packets not sent yet (R401). -/
  sends : List Packet := []
  /-- What is still to come: elements to write, RING arrivals, MULTICAST members, the release of a BARRIER. -/
  need : Nat := 0
  /-- MULTICAST: children that have not reported, and the counts of members (R416). -/
  kids : List Nat := []
  reached : Nat := 0
  missed : Nat := 0
  /-- Members named by WAITING markers: sender's rank and the device named (R418). -/
  waiting : List (Nat × Nat) := []
  suspect : Option Nat := none
  /-- Runs of elements of DST written so far: first element and length. -/
  wrote : List (Nat × Nat) := []
  deriving DecidableEq, Repr

/-- A MULTICAST that this member receives and replicates (R402, R415, R416). -/
structure CollCast where
  /-- Rank of the sender of the MULTICAST, and its instance number. -/
  root : Nat
  inst : Nat
  /-- The device that the packets come from. -/
  parent : Nat
  got : List (Nat × Nat) := []
  /-- This member takes the data. -/
  takes : Bool
  here : Bool := false
  kids : List Nat := []
  reached : Nat := 0
  missed : Nat := 0
  reported : Bool := false
  deriving DecidableEq, Repr

/-- The message number of a stage's block on its way to a member (R294, R420). -/
structure CollMsg where
  word7 : Nat
  origin : Nat
  dst : Nat
  msg : Nat
  deriving DecidableEq, Repr

/-- A group slot beside its registers. -/
structure CollSlot where
  run : Option CollRun := none
  /-- Packets of an instance or a phase that this member has not reached yet (chapter 10, agreement). -/
  early : List Packet := []
  casts : List CollCast := []
  msgs : List CollMsg := []
  /-- The devices of a LIST in rank order, as checked when VALID was written (R378, R380). -/
  members : List Nat := []
  deriving DecidableEq, Repr

/-! ### The power path, clocks and temperature (chapters 01 and 16) -/

/-- The steps of the input-loss path (R574), and of the shutdown at the head of a cold start under R512. -/
inductive LossStep where
  | clocks | rails | journal
  deriving DecidableEq, Repr

/-- A running ramp of the Clock Drive (R587): the dividers it goes from and to, as fractions, and the steps taken. -/
structure Ramp where
  a : Nat × Nat
  b : Nat × Nat
  k : Nat
  deriving DecidableEq, Repr

/-- A clock island beside its registers: the limits of R586 (7 limits nothing), R589's ¾ limit of an island that is no
cluster's, the present divider as a fraction, its ramp, a rail that rises before the ramp (R586), and a detector that is
tripped (R588). -/
structure IslandSt where
  capLimit : Nat := 7
  droopLimit : Nat := 7
  slow : Bool := false
  div : Nat × Nat := (1, 1)
  ramp : Option Ramp := none
  rising : Bool := false
  tripped : Bool := false
  /-- The Clock Drive has taken a trip over, and its ramp still runs (R589). -/
  taken : Bool := false
  deriving DecidableEq, Repr

/-- A die's temperature beside its registers: consecutive disagreeing samples by sensor (R597), consecutive samples below
93 °C (R596), and its thermal limit (R600; 7 limits nothing). -/
structure ThermSt where
  differ : NMap Nat := []
  cool : Nat := 0
  limit : Nat := 7
  deriving DecidableEq, Repr

/-- The PGOOD_OUT pin (R27, R37): high impedance while the auxiliary path is off, pulled low, or released. -/
inductive PgoodPin where
  | highZ | low | released
  deriving DecidableEq, Repr

/-- The power path beside its registers. -/
structure PowerSt where
  /-- PRSNT_N is mated, and the input switch is closed (R23, R24). -/
  mated : Bool := false
  closed : Bool := false
  /-- The auxiliary path is in service (R658). -/
  aux : Bool := false
  /-- Stage one is on. -/
  stageOne : Bool := false
  pgoodIn : Bool := false
  pgoodOut : PgoodPin := .highZ
  /-- A rise of PGOOD_IN waits for a shutdown, its 100 ms hold, or the temperature (R36, R601). -/
  rise : Bool := false
  /-- Stage one is held off for 100 ms (R36, R512). -/
  hold : Bool := false
  /-- R601: the shutdown path has run, and the M-die has not read below 110 °C since. -/
  hot : Bool := false
  /-- A shutdown of the rails and stage one, and whether it ends in Off (R575) or goes on to a cold start (R512). -/
  path : Option LossStep := none
  toOff : Bool := false
  /-- Stage two and three have been brought up, and the rails that are out of regulation (R37). -/
  railsUp : Bool := false
  badRails : List Nat := []
  /-- Stage-one converters that have failed (R25). -/
  failed : Nat := 0
  /-- R573: the input is low, or high, and consecutive 10 µs samples below 48 V, below 44 V, above 64 V and above 66 V; R578:
  samples above 1.25 × the cap in force. -/
  low : Bool := false
  high : Bool := false
  lowRun : Nat := 0
  underRun : Nat := 0
  highRun : Nat := 0
  overRun : Nat := 0
  fastRun : Nat := 0
  /-- The flash write window is open (R603). -/
  flashOpen : Bool := false
  islands : NMap IslandSt := []
  therms : NMap ThermSt := []
  /-- Dies with two comparators above 115 °C (R601). -/
  crossing : List Nat := []
  deriving DecidableEq, Repr

/-! ### Start-up and retained state (chapter 14) -/

/-- The step that a start is in, and what stands outside a start. -/
inductive BootStep where
  | off | delay | down | hold | rails | rom | firmware | ephemeris | inventory | links | hbm | firstLight | ready | failed
  | recovery | quiesce
  deriving DecidableEq, Repr

inductive StartKind where
  | cold | warm | wake
  deriving DecidableEq, Repr

/-- The steps of a handover (R540). -/
inductive HandoverStep where
  | verify | park | load | resume
  deriving DecidableEq, Repr

/-- A start beside its registers. -/
structure BootSt where
  step : BootStep := .off
  kind : StartKind := .cold
  /-- The Identity step has ended or is skipped. -/
  identity : Bool := false
  /-- A COLD waits for the next step boundary (R511). -/
  coldNext : Bool := false
  /-- The device as a whole was occulted when a warm start or wake began (R655). -/
  wasOcculted : Bool := false
  /-- The warm record (R510). -/
  warmRecord : Bool := false
  /-- Stacks whose training has not ended, with the attempts made in this start (R234). -/
  training : List (Nat × Nat) := []
  /-- The image that runs, and the Almanac in use. -/
  image : Option FwImage := none
  almanac : Option Almanac := none
  /-- HO_FORMAT of the handover record in the retained area, and the handover under way. -/
  handover : Option HandoverStep := none
  staged : Option FwImage := none
  /-- The dies whose reset is under way (R537). -/
  resetting : Option Nat := none
  /-- A Delay step has run in this start (R513), and the owner in force has changed since the last one (R557). -/
  delayRan : Bool := false
  ownerChanged : Bool := false
  /-- Chronograph value at which the watchdog's period began (R545). -/
  kickAt : Nat := 0
  deriving DecidableEq, Repr

/-- A journal record (R529): its OFFSET, KIND, VALUE and SEQ; the CRC follows from them. -/
structure JRec where
  offset : Nat
  kind : Nat
  value : Word
  seq : Nat
  deriving DecidableEq, Repr

/-- A register's entry in the Ephemeris SRAM (R527): its value, and whether its RW fields are recorded (R525). -/
structure EphEntry where
  value : Word
  rw : Bool
  deriving DecidableEq, Repr

/-- A change that waits for its journal record: the register, the KIND and the value. -/
structure PendRec where
  key : RegKey
  kind : Nat
  value : Word
  deriving DecidableEq, Repr

/-- The Ephemeris and the module flash (R520, R526). -/
structure EphSt where
  sram : FMap RegKey (Option EphEntry) := []
  /-- The SRAM's content is valid. -/
  valid : Bool := false
  pending : List PendRec := []
  /-- The journal areas, oldest record first; a module leaves the factory with an empty snapshot in area 0. -/
  area0 : List JRec := [{ offset := 0, kind := 3, value := 0, seq := 0 }]
  area1 : List JRec := []
  active1 : Bool := false
  /-- The SEQ of the last record written, and the compactions done (R532). -/
  seq : Nat := 0
  compactions : Nat := 0
  /-- Journal writes are held by the flash window (R533). -/
  behind : Bool := false
  /-- SEQUENCE of the last Almanac used (R525) and KEY_ID of the owner last in force (R557). -/
  lastAlmanac : Nat := 0
  lastOwner : Option Nat := none
  /-- The boot control record (R538): the ACTIVE slot, and of slots A and B the state and the tries left. -/
  activeB : Bool := false
  stateA : Nat := 2
  stateB : Nat := 0
  triesA : Nat := 0
  triesB : Nat := 0
  /-- The security records (R556), as last read or written. -/
  records : SecRecords := {}
  /-- Floor records that wait for the flash window (R604). -/
  heldFloors : List FloorRec := []
  /-- What the firmware slots hold, as last read or written. -/
  slotA : Option FwImage := none
  slotB : Option FwImage := none
  deriving DecidableEq, Repr

/-! ### HBM and the memory-side caches (chapter 06) -/

/-- The coherence state of a cached companion line (R488); I is no line. -/
inductive CompSt where
  | s | e | m
  deriving DecidableEq, Repr

/-- A line of a memory-side cache. The bytes of an HBM line are those of `hbm`, which holds what the next access sees. -/
structure Line where
  /-- Local offset div 64. -/
  unit : Nat
  kept : Bool
  /-- Remaining uses of a counted line. -/
  count : Nat := 0
  dirty : Bool := false
  /-- A line of the companion window, with its bytes. -/
  comp : Option CompSt := none
  data : List Byte := []
  deriving DecidableEq, Repr

inductive MapoutPhase where
  | fence | copy
  deriving DecidableEq, Repr

/-- A running map-out (R238): the frames still to move, each from its place (pc × 1024 + frame) to its host frame. -/
structure Mapout where
  q : Nat
  pc : Nat
  phase : MapoutPhase := .fence
  moves : List (Nat × Nat) := []
  deriving DecidableEq, Repr

/-- An access to the companion window that waits for the companion (R488): its packet, the tags it waits for, the first
error code and the bytes gathered by local offset. -/
structure WinJob where
  pkt : Packet
  waits : List Nat := []
  code : Nat := 0
  got : NMap (Option Byte) := []
  deriving DecidableEq, Repr

/-- An access that waits for a frame copy (R240), a companion line or a recall (R488, R491), or behind an earlier access to
one of its units (R216): a packet, a companion request, an access of the Eyepiece, one of the rows HBM_READ and HBM_WRITE,
or the read of a LIST slot's member table by the value that is written to its COL_GROUP_n_CFG (R380). -/
inductive Waiting where
  | packet (p : Packet)
  | message (m : HlkMsg)
  | eye (a : EyeAccess)
  | load (offset bytes hint useCount : Nat)
  | store (offset : Nat) (data : List Byte) (hint useCount : Nat)
  | table (slot : Nat) (value : Word)
  deriving DecidableEq, Repr

/-- HBM and the caches beside their registers. -/
structure MemSt where
  /-- Units that hold the poison pattern (R224, R225), by local offset div 64. -/
  poison : NMap Bool := []
  /-- Lines, least recently used first. -/
  lines : List Line := []
  mapout : Option Mapout := none
  /-- The substitution table (R239): frame pc × 1024 + b to the frame that hosts it. -/
  subst : NMap (Option Nat) := []
  /-- Lines that a running FLUSH writes back and a running UNKEEP demotes, by X-die (R222). -/
  flushing : NMap (Option (List Nat)) := []
  unkeeping : NMap (Option (List Nat)) := []
  /-- On-die ECC corrections reported by each stack, modulo 16 (R628). -/
  odecc : NMap Nat := []
  /-- The stack temperatures retained with the training, in °C (R233). -/
  trainTemp : NMap (Option Nat) := []
  /-- Accesses that wait, in the order in which they arrived. -/
  held : List Waiting := []
  /-- Owned lines that the companion gives back while their frame is copied: the answers to recalls, and WRBACKs. -/
  returns : List HlkMsg := []
  jobs : List WinJob := []
  deriving DecidableEq, Repr

/-! ### The hall-wide memory space (chapter 07) -/

/-- An entry of the reply cache (R273): its tag, the stored value or refusal, and its minimum lifetime in ns. -/
structure Reply where
  dev : Nat
  core : Nat
  epoch : Nat
  seq : Nat
  value : Nat := 0
  refusal : Nat := 0
  made : Nat
  life : Nat
  released : Bool := false
  deriving DecidableEq, Repr

/-- The GAS units beside their registers. -/
structure GasSt where
  /-- The reply cache, oldest entry first. -/
  replies : List Reply := []
  /-- BASE and LIMIT writes held until the ATTR write (R253). -/
  heldBase : NMap (Option Nat) := []
  heldLimit : NMap (Option Nat) := []
  /-- A fence that runs: the accesses checked before it that had not been applied (R254). -/
  fence : Option (List Waiting) := none
  /-- The fabric time at which HBM was last zeroed (R279), and a zeroing whose ALIGNED time is still to come. -/
  zeroed : Nat := 0
  zeroPending : Bool := false
  deriving DecidableEq, Repr

/-! ### The router (chapter 08) -/

/-- A packet in the router's buffers, and the face it came in by (none: from this device). -/
structure Buffered where
  pkt : Packet
  face : Option Nat
  deriving DecidableEq, Repr

/-- An entry of the circuit table (R320): the outgoing face, 6 where it delivers, and the face it comes in by. -/
structure Circuit where
  owner : Nat
  id : Nat
  rate : Nat
  face : Nat
  from_ : Option Nat
  /-- The end of the path, and its directions as DIR_X, DIR_Y and DIR_Z name them (R299, R322). -/
  dst : Nat := 0
  dirs : Nat := 0
  deriving DecidableEq, Repr

/-- A packet in the output queue of a face: as it leaves, and as it lay in the router before (none: the router's own). -/
structure Queued where
  face : Nat
  pkt : Packet
  was : Option Buffered := none
  deriving DecidableEq, Repr

/-- A weighted deficit round-robin (R325, R320): whose turn it is, whether this turn's share has been given, what each has
left, and the shares in force, which a round takes at its start (R326). -/
structure Turn where
  key : Nat := 0
  given : Bool := false
  credit : NMap Nat := []
  quota : NMap Nat := []
  deriving DecidableEq, Repr

/-- The output of a face: the turns of its VCs, and those of the Transits on VC_4. -/
structure FaceOut where
  vcs : Turn := {}
  transits : Turn := {}
  deriving DecidableEq, Repr

/-- The router beside its registers. -/
structure FabSt where
  router : List Buffered := []
  /-- The output queues of the faces (R325, R327): packets that wait to cross a face, oldest first. -/
  out : List Queued := []
  /-- The turns of each face's output. -/
  outs : NMap FaceOut := []
  /-- Packets that have left by a face, oldest first. -/
  sent : List (Nat × Packet) := []
  /-- The stream of flits that each face's ports are to carry (R285). -/
  stream : NMap (List Flit) := []
  /-- The flits of the packet that is arriving at each face, and the packets that have arrived whole (R349). -/
  parts : NMap (List (List Byte)) := []
  arrived : List (Nat × Packet) := []
  /-- The free adaptive credits of the six faces that a VC last saw (R306). -/
  free : NMap (List Nat) := []
  circuits : List Circuit := []
  /-- The coordinates last derived: time, index and dimensions (R291). -/
  derived : Option (Nat × Nat × Nat) := none
  /-- R291: neighbours have implied different coordinates; the device waits for the management plane. -/
  conflict : Bool := false
  /-- The coordinate and table registers as they were before the coordinates were derived (R291). -/
  undo : List (RegKey × Word) := []
  /-- Chronograph value at DRAIN (R336). -/
  drainStart : Nat := 0
  /-- Index and dimensions retained with the route banks through a warm start or a wake, until they are rediscovered (R338). -/
  kept : Option (Nat × Nat) := none
  deriving DecidableEq, Repr

/-! ### Optical ports (chapter 09) -/

/-- The steps of R350, and the states outside them. -/
inductive OptStep where
  | dark | calibrate | light | lock | align | exchange | qualify | up | keepAlive | heldDown | failed | apr
  deriving DecidableEq, Repr

/-- A swap of a lane (R364, R365). `phase` is the code of OPT_PORT_n_STAT SWAP, 0 while it waits. -/
structure OptSwap where
  lane : Nat
  recal : Bool := false
  /-- The second swap of a RECAL: the lane returns to channel `spare`. -/
  back : Bool := false
  phase : Nat := 0
  /-- Lanes 1 to 15 come back in one pass after P2 (R369). -/
  pass : Bool := false
  old : Nat := 0
  spare : Nat := 0
  deriving DecidableEq, Repr

/-- What the P-die hands to the S-die: a flit, or the place where flits were lost (R349). -/
inductive OptItem where
  | flit (bytes : List Byte)
  | gap
  deriving DecidableEq, Repr

/-- An optical port beside its registers. -/
structure OptPort where
  step : OptStep := .dark
  /-- A calibration of the port has succeeded since the last start. -/
  calOk : Bool := false
  /-- Channels whose lasers are on. -/
  lit : List Nat := []
  cal : Option PortCal := none
  /-- P_ref of each channel in µW, recorded once with INIT_BIAS (R357). -/
  pref : NMap Nat := []
  /-- Transmit swaps in the order in which they were started (R366). -/
  swaps : List OptSwap := []
  /-- Channels that the far receiver holds failed (R352). -/
  farDead : List Nat := []
  /-- Receive channels held failed, and those retired with their far lasers (R365). -/
  rxDead : List Nat := []
  rxRetired : List Nat := []
  /-- The lane and channel of a mirror command received (R364). -/
  rxMirror : Option (Nat × Nat) := none
  /-- Whether the mirror has begun within this window, or its copy has differed in it (R364). -/
  mirrorBad : Bool := false
  /-- Automatic power reduction: lane 0's laser is at −6 dBm at the fibre (R353). -/
  reduced : Bool := false
  /-- GSEQ of the group expected next; none before the first group. -/
  expect : Option Nat := none
  /-- The last group position received, and whether a replay is awaited (R348). -/
  lastSeen : Nat := 0
  waiting : Bool := false
  /-- Flits have been lost and no packet header has come since (R349). -/
  resync : Bool := false
  /-- GSEQ of the next group sent, the replay buffer of the last 204 groups sent, oldest first, and the groups that are to be
  sent again (R348). -/
  gseq : Nat := 0
  buffer : List OptGroup := []
  again : List OptGroup := []
  /-- Commands and messages that wait for a group to carry them (R346). -/
  mail : List OptMsg := []
  /-- Corrected symbols of the running window, by receive channel, and windows in a row at DEGRADED_ERR (R362). -/
  errs : NMap Nat := []
  deg : NMap Nat := []
  /-- Uncorrectable codewords of the last millisecond: lane and time (R362). -/
  unc : List (Nat × Nat) := []
  /-- The minute whose WATCH windows have been scored (R628). -/
  minute : Option Nat := none
  /-- What has been handed to the S-die, and what the port has sent beside flits, oldest first. -/
  rx : List OptItem := []
  msgs : List OptMsg := []
  deriving DecidableEq, Repr

/-! ### The Chronograph's alignment (chapter 11) -/

/-- Time exchange beside SYN_TIME_STAT. -/
structure TimeSt where
  /-- The device has been ALIGNED since the last start: its Chronograph has been set (R445). -/
  once : Bool := false
  /-- |θ| has exceeded 1 ms: the next good exchange steps the Chronograph (R446). -/
  stepNext : Bool := false
  /-- The root's start exchange has ended (R444). -/
  rootDone : Bool := false
  /-- R443: the rate trim, in steps of 2^−40 of the nominal rate, and the fraction of a nanosecond accumulated, in 2^−40 ns. -/
  trim : Int := 0
  frac : Nat := 0
  /-- The Chronograph at the last good exchange (R446). -/
  lastGood : Nat := 0
  /-- R446: faces passed over in the search for an ALIGNED parent. -/
  skip : List Nat := []
  deriving DecidableEq, Repr

/-! ### The package links (chapter 12) -/

/-- A frame that an end of a link has sent: its FSEQ, whether it was an idle frame, and its 16 payload flits. -/
structure SentFrame where
  fseq : Nat
  idle : Bool
  payload : List Byte
  deriving DecidableEq, Repr

/-- One end of a link: the FSEQ of the next frame it sends, the last 64 frames it has sent (R453), the last ACK received, how
often the frame after it has been resent (R454), the FSEQ expected, whether a resend is awaited (R453), the quarters that its
last test found sound, and whether it has been reset since its last exchange (R464). -/
structure LinkEnd where
  fseq : Nat := 0
  replay : List SentFrame := []
  acked : Nat := 0xFFFF
  resent : Nat := 0
  expect : Nat := 0
  waiting : Bool := false
  mask : Nat := 0
  fresh : Bool := false
  deriving DecidableEq, Repr

/-- A link beside its registers. -/
structure Link where
  init : LinkEnd := {}
  resp : LinkEnd := {}
  /-- The width that the responder has accepted in the running exchange. -/
  accepted : Option Nat := none
  /-- A RETRAIN written during an exchange (R465). -/
  again : Bool := false
  /-- Frames put on the wires by the initiator's end (true) and by the responder's, oldest first. -/
  sent : List (Bool × List Byte) := []
  /-- Payload flits passed on by the initiator's end and by the responder's, oldest first. -/
  passed : List (Bool × List Byte) := []
  deriving DecidableEq, Repr

/-- The links, the sideband messages that wait for an answer (tries by die, R472), and the C-dies that have moved to their
alternate link since the start (R466, R469). -/
structure DlkSt where
  links : NMap Link := []
  side : NMap Nat := []
  moved : List Nat := []
  deriving DecidableEq, Repr

/-! ### The Perdun link (chapter 13) -/

/-- What a request of the AK20 to the companion waits for. -/
inductive HlkWant where
  | fill (excl : Bool) | read | write | wrback
  deriving DecidableEq, Repr

/-- A request of the AK20 to the companion, by its tag: the range of local offsets that it names. -/
structure HlkReq where
  tag : Nat
  want : HlkWant
  off : Nat
  len : Nat := 64
  /-- The hint of the access that fills the line: kept, and the remaining uses of a counted one. -/
  kept : Bool := false
  count : Nat := 0
  deriving DecidableEq, Repr

/-- A line of HBM that the companion holds (R491). -/
structure DirLine where
  /-- Local offset div 64. -/
  unit : Nat
  owned : Bool
  /-- The recall under way: SNP_INV or SNP_SHARE, and its tag. -/
  snoop : Option (Bool × Nat) := none
  deriving DecidableEq, Repr

/-- The Perdun link beside its registers. -/
structure HlkSt where
  /-- Messages that wait for credit, oldest first (R482). -/
  waiting : List HlkMsg := []
  /-- Messages sent that LACK does not cover yet, oldest first (R483). -/
  unacked : List HlkMsg := []
  /-- LSEQ of the next message sent, and of the next one expected. -/
  txNext : Nat := 0
  rxNext : Nat := 0
  /-- Credits held for REQ, SNP, RSP and CTL, in flits (R482). -/
  credits : List Nat := [0, 0, 0, 0]
  nextTag : Nat := 0
  /-- Requests to the companion that wait for a response. -/
  reqs : List HlkReq := []
  /-- The directory, least recently granted first (R491). -/
  dir : List DirLine := []
  /-- Messages that arrived before an earlier LSEQ (R483). -/
  early : List HlkMsg := []
  /-- Credits that the companion holds for REQ, SNP, RSP and CTL, and those freed and not returned yet, in flits. -/
  granted : List Nat := [2048, 512, 4096, 64]
  owed : List Nat := [0, 0, 0, 0]
  /-- Flits that wait at host ports 8 and 9, those put there so far, and which port each unacknowledged message crosses, by its
  LSEQ (R477, R483). -/
  out : NMap (List Flit) := []
  striped : Nat := 0
  crossed : List (Nat × Nat) := []
  deriving DecidableEq, Repr

/-! ### The interrupt controller (chapter 13) -/

/-- The controller beside its registers: the handlers that run at each target, as level and source, highest level first. -/
structure IntSt where
  running : NMap (List (Nat × Nat)) := []
  deriving DecidableEq, Repr

/-! ### Security and debug (chapter 15) -/

/-- A management core as the debug port sees it (R569, R570): halted, and its branch trace, oldest record first, with the
mark of overwritten records. -/
structure MCore where
  halted : Bool := false
  trace : List Nat := []
  overrun : Bool := false
  deriving DecidableEq, Repr

/-- Identity, attestation and debug beside their registers. -/
structure SecSt where
  /-- KEY_ID of the identity pair while its private keys exist (R553, R568). -/
  identity : Option Nat := none
  /-- The private keys of the identity pair, which no path reads (R555). -/
  secret : Option IdSecret := none
  /-- KEY_ID of the owner in force (R557). -/
  owner : Option Nat := none
  /-- The nonce and the requester path of the report being made (R561, R562). -/
  report : Option (List Byte × Nat) := none
  /-- Tokens are being verified (R566). -/
  verifying : Bool := false
  mcores : NMap MCore := []
  /-- Chronograph value at which a lockout ends (R567). -/
  lockEnd : Nat := 0
  deriving DecidableEq, Repr

/-! ### The management connector (chapter 01) -/

/-- The I3C target: the response that the next private read returns (R38, R39). -/
inductive I3cResp where
  | none | read (code : Nat) (value : Word) | status (code : Nat) | format
  deriving DecidableEq, Repr

/-- The test access port (R40): the instruction selected, the boundary-scan register, and the capture of the EYEPIECE data
register. -/
inductive JtagIr where
  | bypass | sample | extest | idcode | eyepiece | intscan
  deriving DecidableEq, Repr

structure MgmtSt where
  i3c : I3cResp := .none
  /-- Bytes returned by the last private read, the least significant first. -/
  sda : List Byte := []
  ir : JtagIr := .idcode
  /-- The boundary-scan register's update stage, and whether EXTEST drives the pins from it. -/
  boundary : List Bool := []
  driving : Bool := false
  /-- The bits that the last data-register scan shifted out, the first one first. -/
  tdo : List Bool := []
  eyeCode : Nat := 0
  eyeData : Word := 0
  deriving DecidableEq, Repr

/-! ### Occultation and notices (chapter 17) -/

/-- A unit that is occulted: what it is, and whether SAFE_OCCULT_CTRL OP 0 made it (R621). -/
structure Occ where
  unit : OccUnit
  ctrl : Bool := false
  deriving DecidableEq, Repr

/-- A notice that this device broadcasts (R616): its kind, the device named and its count; copies still to be sent. -/
structure NoticeOut where
  kind : Nat
  dev : Nat
  count : Nat
  left : Nat
  deriving DecidableEq, Repr

/-- Occultations and notices beside the registers. -/
structure SafeSt where
  occs : List Occ := []
  /-- The physical cores that out-of-service logical cores held. -/
  phys : NMap Nat := []
  notices : List NoticeOut := []
  noticeCount : Nat := 0
  /-- Notices acted on: sender, epoch and count (R616). -/
  seen : List (Nat × Nat × Nat) := []
  /-- The running First Light on demand: corner form, and its C-dies (R640). -/
  firstLight : Option (Bool × Nat) := none
  /-- A Plate window is open: the sums of CORE_NDET_CNT, of marks agreed and of marks taken at its START (R641), and
  whether a mark has been mismatched or lost since (R636). -/
  plate : Option (Nat × Nat × Nat) := none
  plateBad : Bool := false
  /-- The range of the record being made, and what CHECKED is at its REQ (R642). -/
  making : Option (Nat × Nat × Bool) := none
  /-- A residue checker has stayed silent since the last cold start (R644). -/
  residueDead : Bool := false
  /-- R647: nanoseconds of service time and of unplanned loss not yet counted, and a loss that was not requested. -/
  serviceNs : Nat := 0
  lossNs : Nat := 0
  unplanned : Bool := false
  /-- Messages of the S-die's NOTICE kind 8 handed to firmware, oldest first (R298). -/
  messages : List (Nat × List Byte) := []
  deriving DecidableEq, Repr

/-! ### The device -/

/-- The answer to the last access to a register by a requester that waits for one: its code (0x0000 for success) and
the value of a read (R38, R656). -/
structure Answer where
  code : Nat := 0
  value : Word := 0
  /-- The bytes of a memory read. -/
  data : List Byte := []
  deriving DecidableEq, Repr

/-- The module's state. -/
structure Dev where
  /-- Every register of the manual that an event or a write has changed from its reset value. -/
  regs : FMap RegKey Word := []
  /-- The Chronograph in nanoseconds (R443); SYN_CHRONO reads it. -/
  chrono : Nat := 0
  /-- The model's own counter of free values drawn so far. -/
  freeIx : Nat := 1
  answer : Answer := {}
  log : LogSt := {}
  cores : NMap Core := []
  engines : NMap Engine := []
  swaps : NMap (Option Swap) := []
  /-- Ranges whose unlisted bytes hold unspecified values (R154, R535, R640), or zero again (R86): first byte, length
  and the free value's number (0 for zero), of the core stores, the cluster stores and the instruction memories; the
  newest first. -/
  unspecCore : List (Nat × Nat × Nat) := []
  unspecCluster : List (Nat × Nat × Nat) := []
  unspecImem : List (Nat × Nat × Nat) := []
  /-- Core stores, logical core c at c × 2^23 (R99). -/
  coreStore : NMap Byte := []
  /-- Cluster stores, cluster k at k × 2^24 (R99). -/
  clusterStore : NMap Byte := []
  /-- Instruction memories, core c at c × 2^20. -/
  imem : NMap Byte := []
  /-- Packets released into the router by this device's units (R295), oldest first. -/
  injected : List Packet := []
  /-- Requests and answers between units of this device, which do not enter the fabric (R244). -/
  inside : List Packet := []
  /-- Packets held at injection by pacing (R332) or by a drain (R333), in the order in which they were held. -/
  held : List Packet := []
  /-- Rate entries, oldest first (R329). -/
  rates : List Rate := []
  /-- The devices that the GAS units list as occulted, oldest first (R618). -/
  listed : List Nat := []
  /-- The accusations of the current window (R623). -/
  suspects : List Suspect := []
  /-- Requests waiting for a reply. -/
  reqs : List Req := []
  /-- The next destination sequence number of each core and destination (R260), keyed core × 2^18 + device. -/
  dseqs : NMap Nat := []
  /-- The next message number (R294). -/
  nextMsg : Nat := 0
  /-- The communication queues of the group slots, oldest instance first (R383). -/
  collq : NMap (List CollInst) := []
  colls : NMap CollSlot := []
  power : PowerSt := {}
  boot : BootSt := {}
  eph : EphSt := {}
  /-- The device as a whole is occulted (R614). -/
  occulted : Bool := false
  /-- HBM as its next access sees it, by local offset; R232: zero after the zero fill. -/
  hbm : NMap Byte := []
  mem : MemSt := {}
  gas : GasSt := {}
  fab : FabSt := {}
  /-- Ports, port n of P-die p at 16 p + n. -/
  ports : NMap OptPort := []
  time : TimeSt := {}
  dlk : DlkSt := {}
  hlk : HlkSt := {}
  int : IntSt := {}
  sec : SecSt := {}
  /-- The KEY_ID of the root pair in the mask of the boot ROM (R547). -/
  rootKeyId : Nat := Config.rootKeyId.toNat
  mgmt : MgmtSt := {}
  safe : SafeSt := {}
  deriving DecidableEq, Repr

/-- The faults a step can stop with. The manual gives every event of the module an effect, so none stands here but the
one that the interface needs; no meaning raises it. -/
inductive Fault where
  /-- Raised by no meaning. Safe. -/
  | none
  deriving DecidableEq, Repr

/-- The refusals a step can end in. -/
inductive Refusal where
  /-- Raised by `exec` for a row that has no meaning. Safe: the machine stops where the hardware goes on. -/
  | notModelled (mnemonic : String)
  deriving DecidableEq, Repr

/-- The machine: the module and the commands that wait, first in, first out. -/
structure State where
  dev : Dev
  pending : List Instr
  deriving DecidableEq, Repr

/-- The machine with no 60 V input ever applied: every register at its reset value, every memory with nothing listed,
nothing mated, nothing pending. -/
def State.reset : State := { dev := {}, pending := [] }

end Sys2Proof.Machine
end

