-- ==== Sys2Proof/Machine/Ops.lean ====
section
/-! DEFINITION. The named operations that every meaning is built from: reading and writing a register's fields, the
memories on the C-dies, the logbook and health scores (R606 to R629), interrupt sources (R499, R500), free values,
packets sent, counter updates (R423 to R427), lock-step marks (R632), and a core's stop by a fault (R137 to R139). -/

namespace Sys2Proof.Machine

open Sys2Proof

namespace Dev

/-! ### Registers -/

/-- The stored word of a register. -/
def reg (d : Dev) (k : RegKey) : Word := FMap.get k.reset d.regs k

/-- A register's value as the Ephemeris records it: R655, CLU_CORE_MAP without what an occultation has taken out. -/
def recordOf (d : Dev) (k : RegKey) (v : Word) : Word :=
  if k.name = .CLU_CORE_MAP then
    (List.range 4).foldl (fun v l =>
      if getBits v (4 * l + 2) (4 * l) = 7 then setBits v (4 * l + 2) (4 * l) (NMap.get 7 d.safe.phys (4 * k.u + l)) else v) v
  else v

/-- R527, R530: a change of a field of class E is stored in the Ephemeris SRAM and waits for its journal record: with
the flash window closed, only the latest value of a register waits (R533). BOOT_CTRL EPH_DISCARD is a setting, which
only a write after start completes stores. -/
def noted (d : Dev) (k : RegKey) (v : Word) : EphSt :=
  if !k.name.journalled then d.eph
  else
    let new := d.recordOf k v
    let setting := decide (k.name = .BOOT_CTRL)
    if k.name.classE (d.recordOf k (FMap.get k.reset d.regs k)) = k.name.classE new
        || (setting && decide (getBits (FMap.get (RegKey.reset ⟨.BOOT_STAT, 0, 0, 0⟩) d.regs ⟨.BOOT_STAT, 0, 0, 0⟩) 57 57 = 0)) then
      d.eph
    else
      let old := if d.power.flashOpen then d.eph.pending else d.eph.pending.filter fun r => decide (r.key ≠ k)
      { d.eph with
        sram := FMap.set RegKey.lt none d.eph.sram k (some { value := new, rw := true })
        pending := old ++ [{ key := k, kind := if setting then 1 else 2, value := new }] }

/-- The device with a register's word stored. -/
def setReg (d : Dev) (k : RegKey) (v : Word) : Dev :=
  { d with regs := FMap.set RegKey.lt k.reset d.regs k v, eph := d.noted k v }

/-- The value of a field. -/
def gf (d : Dev) (f : Fld) (u : Nat := 0) (i : Nat := 0) (j : Nat := 0) : Nat :=
  getBits (d.reg ⟨f.reg, u, i, j⟩) f.hi f.lo

/-- The device with a field set, modulo its width. -/
def sf (d : Dev) (f : Fld) (v : Nat) (u : Nat := 0) (i : Nat := 0) (j : Nat := 0) : Dev :=
  d.setReg ⟨f.reg, u, i, j⟩ (setBits (d.reg ⟨f.reg, u, i, j⟩) f.hi f.lo v)

/-- Whether a one-bit field is set. -/
def on (d : Dev) (f : Fld) (u : Nat := 0) (i : Nat := 0) (j : Nat := 0) : Bool := decide (d.gf f u i j = 1)

/-- R450: a 64-bit count raised. -/
def incr (d : Dev) (f : Fld) (n : Nat) (u : Nat := 0) (i : Nat := 0) (j : Nat := 0) : Dev :=
  d.sf f (d.gf f u i j + n) u i j

/-- R450: an error count raised by n: it saturates at its largest value and then sets its SAT bit. -/
def bump (d : Dev) (f sat : Fld) (n : Nat) (u : Nat := 0) (i : Nat := 0) (j : Nat := 0) : Dev :=
  let m := 2 ^ (f.hi + 1 - f.lo) - 1
  let x := d.gf f u i j + n
  if m ≤ x then (d.sf f m u i j).sf sat 1 u i j else d.sf f x u i j

/-! ### Free values -/

/-- The device with one free value drawn; the value's number is the old `freeIx`. -/
def draw (d : Dev) : Dev := { d with freeIx := d.freeIx + 1 }

/-! ### Who and where -/

/-- This device's index (R12, XFB_COORD). -/
def self (d : Dev) : Nat := d.gf F.XFB_COORD.INDEX

/-- The physical core that holds a logical core; 7 when it is out of service (CLU_CORE_MAP). -/
def physOf (d : Dev) (c : Nat) : Nat := bitsOf (d.reg ⟨.CLU_CORE_MAP, c / 4, 0, 0⟩).toNat (4 * (c % 4) + 2) (4 * (c % 4))

/-- Whether a logical core is in service. -/
def inService (d : Dev) (c : Nat) : Bool := decide (d.physOf c ≠ 7)

end Dev

/-- R627: the health index of physical core p of the cluster of logical core c. -/
def healthCore (c p : Nat) : Nat := 320 + 20 * (c / 16) + 5 * (c / 4 % 4) + p

/-- R627: the health index of engine e of physical core p of the cluster of logical core c. -/
def healthEngine (c p e : Nat) : Nat := 40 * (c / 16) + 10 * (c / 4 % 4) + 2 * p + e

/-- R606: SOURCE: a die and the reporting unit's health index (0xFFFF for the whole die). -/
def srcOf (die unit : Nat) : Nat := die * 2 ^ 27 + unit

/-- Dies numbered as DLK_DIE_k_INV: 0-7 C-dies, 8-11 X-dies, 12 S, 13-18 P-dies, 19 M. -/
def dieX (q : Nat) : Nat := 8 + q
def dieS : Nat := 12
def dieP (p : Nat) : Nat := 13 + p
def dieM : Nat := 19

/-- R613, class 0x1: DETAIL0 of a compute record. -/
def coreDetail (pc thread queue core engine : Nat) : Nat :=
  pc % 65536 + thread % 16 * 2 ^ 16 + queue % 16 * 2 ^ 20 + core % 128 * 2 ^ 24 + engine % 2 * 2 ^ 31

/-- The bits of a register's RW fields with a Keep class (R527). -/
def settingsOf (n : RegName) (v : Word) : Nat :=
  assemble (n.fields.filter fun f => decide (f.access = .rw) && decide (f.keep ≠ .none)) fun f => getBits v f.hi f.lo

/-- R296: the management types. -/
def isManagement (type : Nat) : Bool := decide (0x18 ≤ type) && decide (type ≤ 0x1F)

namespace Dev

/-! ### The logbook and the interrupt controller -/

/-- R500: a hardware event sets its source pending. -/
def raise (d : Dev) (n : Nat) : Dev :=
  let k : RegKey := ⟨.INT_PEND_SET_k, 0, n / 64, 0⟩
  d.setReg k (setBits (d.reg k) (n % 64) (n % 64) 1)

/-- R611: codes whose reports never coalesce. -/
def neverCoalesces (c : Nat) : Bool :=
  [Code.SAFE_OCCULTED, Code.SAFE_RESTORED, Code.SAFE_DEVICE_LOST, Code.SAFE_ACCUSATION, Code.HEALTH_RETIRE,
    Code.LOCKSTEP_MISMATCH, Code.FIRST_LIGHT_FAIL, Code.GAS_OUTCOME_UNKNOWN].contains c

/-- R609: a report taken into the intake queue, or dropped and counted. -/
def logIntake (d : Dev) (r : Report) : Dev :=
  let l := d.log
  if l.shut || (decide (64 ≤ l.intake.length) && l.full) then
    ({ d with log := { l with drops := l.drops + 1 } }).bump F.LOG_DROPPED.DROPPED F.LOG_DROPPED.SAT 1
  else
    let first := decide (64 ≤ l.intake.length)
    let e : Intake := { rep := r, time := d.chrono, overflowFirst := first, drops := l.drops }
    { d with log := { l with intake := l.intake ++ [e], drops := 0, full := l.full || first } }

/-- R609 to R612: a unit's report enters coalescing and the intake queue, or is dropped; the safety class is noted in
SAFE_MON_STAT LAST_CODE. -/
def report (d : Dev) (r : Report) : Dev :=
  let d := if codeClass r.code = 0xB then d.sf F.SAFE_MON_STAT.LAST_CODE r.code else d
  let l := d.log
  match l.open_.find? (fun e => decide (e.source = r.source ∧ e.code = r.code)) with
  | some e =>
    if l.shut then d.logIntake r
    else
      let e' : Coalesce := { e with
        count := satAt (2 ^ 32 - 1) (e.count + 1)
        sat := e.sat || decide (e.count = 2 ^ 32 - 1)
        first := if e.count = 0 then d.chrono else e.first
        last := d.chrono
        lastRep := r }
      { d with log := { l with open_ := l.open_.map fun x => if x = e then e' else x } }
  | none =>
    let d' := d.logIntake r
    let l' := d'.log
    if neverCoalesces r.code || l.shut || decide (512 ≤ l'.open_.length) then d'
    else { d' with log := { l' with open_ := l'.open_ ++ [{ source := r.source, code := r.code, lastRep := r }] } }

/-- A report about this device. -/
def logAt (d : Dev) (code die unit d0 d1 : Nat) : Dev :=
  d.report { code := code, source := srcOf die unit, d0 := d0, d1 := d1, device := d.self }

/-- R341, R613: a record of the fabric class. -/
def logXfb (d : Dev) (code face slot dev cnt : Nat) : Dev :=
  d.logAt code dieS 0xFFFF (face % 8 + slot % 256 * 2 ^ 8 + dev % 2 ^ 18 * 2 ^ 32) cnt

/-- R546, R613: a start-up code, noted in BOOT_FW_STAT LAST_CODE. -/
def logBoot (d : Dev) (code d0 d1 : Nat) : Dev := (d.sf F.BOOT_FW_STAT.LAST_CODE code).logAt code dieM 0xFFFF d0 d1

/-- A report of core c (R145, R613). -/
def logCore (d : Dev) (code c pc thread queue seq : Nat) : Dev :=
  d.logAt code (c / 16) (healthCore c (d.physOf c)) (coreDetail pc thread queue c 0) seq

/-- A report of engine e of core c about an entry of queue q (R92). -/
def logEngine (d : Dev) (code c e q pc thread seq : Nat) : Dev :=
  d.logAt code (c / 16) (healthEngine c (d.physOf c) e) (coreDetail pc thread q c e) seq

/-- R628, R629: an event's weight added to its unit's score, and the change of level that it makes. -/
def score (d : Dev) (unit weight code : Nat) : Dev :=
  let s := satAt (2 ^ 24 - 1) (d.gf F.SAFE_HEALTH_u.SCORE 0 unit + weight)
  let d := d.sf F.SAFE_HEALTH_u.SCORE s 0 unit
  let d := if code = 0 then d else d.sf F.SAFE_HEALTH_u.LAST_CODE code 0 unit
  let lv := d.gf F.SAFE_HEALTH_u.LEVEL 0 unit
  if decide (d.gf F.SAFE_HEALTH_CTRL.RETIRE ≤ s) && decide (lv ≠ 2) then
    ((d.sf F.SAFE_HEALTH_u.LEVEL 2 0 unit).logAt Code.HEALTH_RETIRE dieM unit unit s).raise 133
  else if decide (d.gf F.SAFE_HEALTH_CTRL.WATCH ≤ s) && decide (lv = 0) then
    ((d.sf F.SAFE_HEALTH_u.LEVEL 1 0 unit).logAt Code.HEALTH_WATCH dieM unit unit s).raise 132
  else d

/-! ### Settings kept in the Ephemeris -/

/-- The start is complete (R515). -/
def started (d : Dev) : Bool := d.on F.BOOT_STAT.READY

/-- R527, R534: a write after start completes has changed a field of class E, W or P: the register's value is stored. A
class-E field's record is made where the field is stored. -/
def storeSetting (d : Dev) (k : RegKey) : Dev :=
  if (FMap.get none d.eph.sram k).isNone && decide (65536 ≤ d.eph.sram.length) then
    (d.bump F.EPH_ERR_CNT.FULL_CNT F.EPH_ERR_CNT.FULL_SAT 1).logBoot Code.EPH_FULL k.offset 0
  else { d with eph := { d.eph with sram := FMap.set RegKey.lt none d.eph.sram k (some { value := d.reg k, rw := true }) } }

/-- R527, R534: a write after start completes that has changed a setting stores it. -/
def keepSetting (before d : Dev) (k : RegKey) : Dev :=
  if before.started && d.started && decide (settingsOf k.name (before.reg k) ≠ settingsOf k.name (d.reg k)) then d.storeSetting k
  else d

/-! ### Packets -/

/-- The active bank of the route tables (R301). -/
def bank (d : Dev) : Nat := d.gf F.XFB_TABLE_CTRL.ACTIVE

/-- The partition of the active bank (R312). -/
def partition (d : Dev) : Nat := d.gf F.XFB_PART_b.PARTITION 0 d.bank

/-- The wrap permission bits of the active bank, Z, Y, X from high to low (R312). -/
def wrapBits (d : Dev) : Nat := bitsOf (d.reg ⟨.XFB_PART_b, 0, d.bank, 0⟩).toNat 14 12

/-- R295, R312: the stamp of a packet that leaves its injection queue, or of an access served inside the device, with
the partition and the wrap permission of the active bank. -/
def stamp (d : Dev) (p : Packet) : Packet :=
  let q := { p with issueTime := d.chrono, talign := d.on F.SYN_TIME_STAT.ALIGNED }
  if isManagement p.type then q else { q with partition := d.partition, wrap := d.wrapBits }

/-- R332, R333: a packet waits at injection: DRAIN holds VC_1, VC_2, VC_3, VC_5 and VC_6, and a rate entry of its
destination paces VC_2 and VC_6, a Transit packet apart. -/
def waitsAtInjection (d : Dev) (p : Packet) : Bool :=
  (d.on F.XFB_TABLE_CTRL.DRAIN && [1, 2, 3, 5, 6].contains p.vc)
    || ([2, 6].contains p.vc && decide (p.route ≠ 2) && d.rates.any fun r => decide (r.dst = p.dst))

/-- R244, R295: a packet sent: an access of this device to itself is stamped and stays inside; any other one enters the
router, stamped, or waits at injection unstamped. A QUERY keeps the time it carries. -/
def send (d : Dev) (p : Packet) : Dev :=
  let q := if p.type = PT.query then p else d.stamp p
  if p.dst = d.self then { d with inside := d.inside ++ [q] }
  else if d.waitsAtInjection p then { d with held := d.held ++ [p] }
  else { d with injected := d.injected ++ [q] }

/-! ### Memories of the C-dies (R99) -/

/-- What an unlisted byte of a store or an instruction memory reads as: an unspecified value in a range that was left
unspecified, else 0. -/
def storeDflt (u : List (Nat × Nat × Nat)) (a : Nat) : Byte :=
  match u.find? fun r => decide (r.1 ≤ a) && decide (a < r.1 + r.2.1) with
  | some r => if r.2.2 = 0 then 0 else Config.freeByte r.2.2 a
  | none => 0

/-- A range whose unlisted bytes hold zero from now on. -/
def clearRange (u : List (Nat × Nat × Nat)) (lo n : Nat) : List (Nat × Nat × Nat) :=
  if u.isEmpty then [] else (lo, n, 0) :: u

/-- A byte of the core stores, logical core c at c × 2^23. -/
def coreByte (d : Dev) (a : Nat) : Byte := NMap.get (storeDflt d.unspecCore a) d.coreStore a

def setCoreByte (d : Dev) (a : Nat) (b : Byte) : Dev :=
  { d with coreStore := NMap.set (storeDflt d.unspecCore a) d.coreStore a b }

/-- A byte of the cluster stores, cluster k at k × 2^24. -/
def clusterByte (d : Dev) (a : Nat) : Byte := NMap.get (storeDflt d.unspecCluster a) d.clusterStore a

def setClusterByte (d : Dev) (a : Nat) (b : Byte) : Dev :=
  { d with clusterStore := NMap.set (storeDflt d.unspecCluster a) d.clusterStore a b }

/-- A byte of the instruction memories, core c at c × 2^20. -/
def imemByte (d : Dev) (a : Nat) : Byte := NMap.get (storeDflt d.unspecImem a) d.imem a

/-- A range of the core stores left with unspecified contents. -/
def looseCore (d : Dev) (a n : Nat) : Dev :=
  { d with
    coreStore := d.coreStore.filter fun e => decide (e.1 < a) || decide (a + n ≤ e.1)
    unspecCore := (a, n, d.freeIx) :: d.unspecCore
    freeIx := d.freeIx + 1 }

/-- A range of the cluster stores left with unspecified contents. -/
def looseCluster (d : Dev) (a n : Nat) : Dev :=
  { d with
    clusterStore := d.clusterStore.filter fun e => decide (e.1 < a) || decide (a + n ≤ e.1)
    unspecCluster := (a, n, d.freeIx) :: d.unspecCluster
    freeIx := d.freeIx + 1 }

/-- A byte of a store by a store address of core c; FIFOs and instruction memory are not read this way. -/
def rdByte (d : Dev) (c a : Nat) : Byte :=
  if a < 0x0800000 then d.coreByte (c * 2 ^ 23 + a) else d.clusterByte (c / 4 * 2 ^ 24 + (a - 0x1000000))

/-- Bytes read by store address. -/
def rdStore (d : Dev) (c a n : Nat) : List Byte := (List.range n).map fun k => d.rdByte c (a + k)

/-- A byte of the core store, the instruction memory or the cluster store written by store address. -/
def wrByte (d : Dev) (c a : Nat) (b : Byte) : Dev :=
  if a < 0x0800000 then d.setCoreByte (c * 2 ^ 23 + a) b
  else if a < 0x1000000 then let a := c * 2 ^ 20 + (a - 0x0900000)
    { d with imem := NMap.set (storeDflt d.unspecImem a) d.imem a b }
  else d.setClusterByte (c / 4 * 2 ^ 24 + (a - 0x1000000)) b

/-- Bytes written by store address. -/
def wrStore (d : Dev) (c a : Nat) : List Byte → Dev
  | [] => d
  | b :: bs => (d.wrByte c a b).wrStore c (a + 1) bs

/-! ### Cores -/

def core (d : Dev) (c : Nat) : Core := NMap.get {} d.cores c

def setCore (d : Dev) (c : Nat) (x : Core) : Dev := { d with cores := NMap.set {} d.cores c x }

def modCore (d : Dev) (c : Nat) (f : Core → Core) : Dev := d.setCore c (f (d.core c))

def engine (d : Dev) (c e : Nat) : Engine := NMap.get {} d.engines (2 * c + e)

def setEngine (d : Dev) (c e : Nat) (x : Engine) : Dev := { d with engines := NMap.set {} d.engines (2 * c + e) x }

def modEngine (d : Dev) (c e : Nat) (f : Engine → Engine) : Dev := d.setEngine c e (f (d.engine c e))

def thread (d : Dev) (c t : Nat) : Thread := NMap.get {} (d.core c).threads t

def setThread (d : Dev) (c t : Nat) (x : Thread) : Dev :=
  d.modCore c fun k => { k with threads := NMap.set {} k.threads t x }

def modThread (d : Dev) (c t : Nat) (f : Thread → Thread) : Dev := d.setThread c t (f (d.thread c t))

def queue (d : Dev) (c q : Nat) : List Entry := NMap.get [] (d.core c).queues q

def setQueue (d : Dev) (c q : Nat) (l : List Entry) : Dev :=
  d.modCore c fun k => { k with queues := NMap.set [] k.queues q l }

/-- A core is all halted or paused (CORE_STAT CORE_STATE 0x0 or 0x3); one out of service runs nothing. -/
def coreIdle (d : Dev) (c : Nat) : Bool :=
  let x := d.core c
  !d.inService c || (!x.faulted && !x.forced
    && (x.paused || (List.range 16).all fun t => decide ((NMap.get {} x.threads t).st = .halted)))

/-- An entry of a queue found by its sequence number and changed. -/
def modEntry (d : Dev) (c q seq : Nat) (f : Entry → Entry) : Dev :=
  d.setQueue c q ((d.queue c q).map fun e => if e.seq = seq then f e else e)

def pc (d : Dev) (c t : Nat) : Nat := d.gf F.CORE_THREAD_n_PC.PC c t

def setPc (d : Dev) (c t v : Nat) : Dev := d.sf F.CORE_THREAD_n_PC.PC v c t

/-- R127: a thread register; T0 reads zero. -/
def treg (d : Dev) (c t m : Nat) : Nat := if m = 0 then 0 else d.gf F.CORE_THREAD_n_T_m.VALUE c t m

/-- R127: a thread register written; a write to T0 is discarded. -/
def setTreg (d : Dev) (c t m v : Nat) : Dev := if m = 0 then d else d.sf F.CORE_THREAD_n_T_m.VALUE v c t m

/-- Whether the copy of a swap of core c is under way (R85). -/
def copying (d : Dev) (c : Nat) : Bool :=
  match NMap.get none d.swaps (c / 4) with
  | some s => decide (s.lcore = c % 4) && decide (s.phase ≠ .waiting)
  | none => false

/-- R85: something held for a core whose copy is under way. -/
def hold (d : Dev) (c : Nat) (h : Held) : Dev :=
  match NMap.get none d.swaps (c / 4) with
  | some s => { d with swaps := NMap.set none d.swaps (c / 4) (some { s with held := s.held ++ [h] }) }
  | none => d

/-- R137, R134: every thread of a core that is not HALTED becomes STOPPED. -/
def stopThreads (x : Core) : Core :=
  { x with threads := (List.range 16).foldl (fun ts t =>
      let th := NMap.get {} ts t
      if th.st = .halted ∨ th.st = .stopped ∨ th.st = .faulted then ts
      else NMap.set {} ts t { th with st := .stopped, prev := th.st }) x.threads }

/-- R138: the entries of a queue that had not started are discarded; the others stay. -/
def discardOf (l : List Entry) : List Entry := l.filter fun e => e.started

/-- R81, R138: a started STREAM with rows still to issue stops: it is stuck unless every row has been issued. -/
def stopStream (e : Entry) : Entry :=
  match e.op with
  | .stream _ _ _ _ rows _ _ => if e.n < rows then { e with stuck := true } else e
  | _ => e

/-- R81, R138: what a queue of a core does when the core stops by a fault. -/
def faultQueue (d : Dev) (c q : Nat) (faulting : Option Nat) : Dev :=
  let l := d.queue c q
  let kept := (discardOf l).map fun e => if faulting = some e.seq then { e with stuck := true } else stopStream e
  let n := l.length - kept.length
  let d := d.setQueue c q kept
  let d := if n = 0 then d
    else d.sf F.CORE_QUEUE_q_STAT.DISCARDED (satAt 0xFFFF (d.gf F.CORE_QUEUE_q_STAT.DISCARDED c q + n)) c q
  if q < 2 then
    match kept.find? (fun e => e.stuck && decide (faulting ≠ some e.seq)) with
    | some e => (d.sf F.CORE_QUEUE_q_STOP.SEQ e.seq c q).sf F.CORE_QUEUE_q_STAT.STOP_ROWS e.m c q
    | none => (d.sf F.CORE_QUEUE_q_STOP.SEQ (2 ^ 64 - 1) c q).sf F.CORE_QUEUE_q_STAT.STOP_ROWS 0 c q
  else d

/-- What a fault records (R139, R140). -/
structure FaultInfo where
  code : Nat
  detail : Nat := 0
  /-- Queue of the faulting entry; 0xF for the sequencer. -/
  queue : Nat := 0xF
  /-- The faulting thread; none when no thread becomes FAULTED (R427). -/
  thread : Option Nat
  pc : Nat := 0
  seq : Nat
  kind : Nat := 0
  done : Nat := 0
  unitBytes : Nat := 0
  descIx : Nat := 0
  /-- The map is written later, once the packets already sent have settled (R141). -/
  mapLater : Bool := false
  deriving DecidableEq, Repr

/-- R137 to R139, R145, R427: a core stops by a fault. The first fault since CLEAR_FAULT is recorded and every queue
discards what had not started; a later one sets MULTI and is written only to the logbook. Interrupt source 256 + the
core's place is set (R499). -/
def coreFault (d : Dev) (c : Nat) (f : FaultInfo) : Dev :=
  let d := d.logCore f.code c f.pc (f.thread.getD 0) f.queue f.seq
  if (d.core c).faulted then
    let d := d.sf F.CORE_FAULT_STAT.MULTI 1 c
    if f.queue < 8 then d.modEntry c f.queue f.seq fun y => { y with stuck := true } else d
  else
    let d := d.modCore c stopThreads
    let d := d.modCore c fun x => { x with faulted := true, mapPending := f.mapLater }
    let d := match f.thread with
      | some t => d.modThread c t fun th => { th with st := .faulted, wait := none, fence := none, haltReq := false, startReq := false }
      | none => d
    let d := (List.range 8).foldl (fun d q => d.faultQueue c q (if f.queue = q then some f.seq else none)) d
    let d := d.setReg ⟨.CORE_FAULT_STAT, c, 0, 0⟩ 0
    let d := d.sf F.CORE_FAULT_STAT.CODE f.code c
    let d := d.sf F.CORE_FAULT_STAT.DETAIL f.detail c
    let d := d.sf F.CORE_FAULT_STAT.PC f.pc c
    let d := d.sf F.CORE_FAULT_STAT.THREAD (f.thread.getD 0) c
    let d := d.sf F.CORE_FAULT_STAT.QUEUE f.queue c
    let d := d.sf F.CORE_FAULT_SEQ.SEQ f.seq c
    let d := d.sf F.CORE_PCMAP_INFO.KIND f.kind c
    let d := d.sf F.CORE_PCMAP_INFO.DESC f.descIx c
    let d := d.sf F.CORE_PCMAP_INFO.UNIT_BYTES f.unitBytes c
    let d := d.sf F.CORE_PCMAP_DONE.DONE f.done c
    let d := (List.range 8).foldl (fun d m => d.sf F.CORE_PCMAP_m.CHUNKS 0 c m) d
    d.raise (256 + 32 * (c / 16) + c % 16)

/-! ### Lock-step marks and counter updates -/

/-- R635, R636: a mark of a core ends as lost. -/
def markLost (d : Dev) (c n : Nat) : Dev :=
  let d := d.logAt Code.LOCKSTEP_PARTNER_LOST (c / 16) (healthCore c (d.physOf c)) n c
  let d := (d.sf F.SAFE_LS_STAT.LOST 1).sf F.SAFE_LS_STAT.CORE c
  { d with safe := { d.safe with plateBad := true } }.raise 134

/-- R635, R636: both marks with one number are present at a core: equal ones are agreed, unequal ones are a mismatch. -/
def compareMarks (d : Dev) (c n own other : Nat) : Dev :=
  if own = other then d.sf F.SAFE_LS_STAT.AGREED (satAt (2 ^ 32 - 1) (d.gf F.SAFE_LS_STAT.AGREED + 1))
  else
    let u := healthCore c (d.physOf c)
    let d := (d.logAt Code.LOCKSTEP_MISMATCH (c / 16) u n c).score u 512 Code.LOCKSTEP_MISMATCH
    let d := (d.sf F.SAFE_LS_STAT.MISMATCH 1).sf F.SAFE_LS_STAT.CORE c
    { d with safe := { d.safe with plateBad := true } }.raise 134

/-- R632: an update applied to MARK_CNTR takes a mark: it is numbered, takes the digest as its value, clears the
digest, and is sent to the same core of PARTNER by NOTICE. It is compared with a partner's mark that came first, or
waits for it (the 17th pushes out the oldest, R635). -/
def takeMark (d : Dev) (c : Nat) : Dev :=
  let n := d.gf F.SAFE_CORE_MARK.MARKS c
  let v := d.gf F.SAFE_CORE_DIGEST.DIGEST c
  let d := (d.sf F.SAFE_CORE_DIGEST.DIGEST 0 c).sf F.SAFE_CORE_MARK.MARKS (n + 1) c
  let d := d.modCore c fun x => { x with markTime := some d.chrono }
  let d := d.send
    { dst := d.gf F.SAFE_LS_CTRL.PARTNER, src := d.self, type := PT.notice, length := 64
      payload := leBytes 8 7 ++ leBytes 8 n ++ leBytes 8 v ++ leBytes 1 c ++ leBytes 39 0 }
  match (d.core c).partnerMarks.find? fun m => decide (m.number = n) with
  | some m => (d.modCore c fun x => { x with partnerMarks := x.partnerMarks.erase m }).compareMarks c n v m.value
  | none =>
    let ms := (d.core c).marks ++ [{ number := n, value := v }]
    let d := d.modCore c fun x => { x with marks := ms.drop (ms.length - 16) }
    if 16 < ms.length then d.markLost c (ms.headD ⟨0, 0⟩).number else d

/-- The value C of a counter and its floor F (R422). -/
def cntC (d : Dev) (c n : Nat) : Nat := d.gf F.SYN_CNT_n.VALUE c n
def cntF (d : Dev) (c n : Nat) : Nat := d.gf F.SYN_FLOOR_n.FLOOR c n

/-- The distance d = (C − F) mod 2^48 (R422). -/
def cntD (d : Dev) (c n : Nat) : Nat := (d.cntC c n + 2 ^ 48 - d.cntF c n) % 2 ^ 48

/-- R423: what an update of a counter does. -/
inductive Update where
  | applied | underflow | overflow
  deriving DecidableEq, Repr

/-- R423: the judgement of an addend. -/
def judge (d : Dev) (c n : Nat) (a : Int) : Update :=
  let x := (d.cntD c n : Int) + a
  if x < 0 then .underflow else if (2 ^ 47 : Int) ≤ x then .overflow else .applied

/-- R423, R632: an accepted update applied: C rises by the addend modulo 2^48, the update is counted, and an update of
MARK_CNTR takes a mark. -/
def applyUpdate (d : Dev) (c n : Nat) (a : Int) : Dev :=
  let d := d.sf F.SYN_CNT_n.VALUE (wrapInt 48 ((d.cntC c n : Int) + a)) c n
  let d := d.incr F.SYN_UPDATE_CNT.COUNT 1 c
  if d.on F.SAFE_LS_CTRL.EN && decide (d.gf F.SAFE_LS_CTRL.MARK_CNTR = n) then d.takeMark c else d

/-- R427: a refused update: the owning core stops, SYN_CORE_FAULT records the update, and so does the logbook with its
code (R421) and counter (R613). `sig` is the own-core SIGNAL it came from: its thread, PC and sequence number. -/
def refuseUpdate (d : Dev) (c n kind source code : Nat) (sig : Option (Nat × Nat × Nat)) : Dev :=
  let d := d.logAt code (c / 16) (healthCore c (d.physOf c)) 0 n
  let d := d.setReg ⟨.SYN_CORE_FAULT, c, 0, 0⟩ 0
  let d := d.sf F.SYN_CORE_FAULT.CODE code c
  let d := d.sf F.SYN_CORE_FAULT.SOURCE source c
  let d := d.sf F.SYN_CORE_FAULT.KIND kind c
  let d := d.sf F.SYN_CORE_FAULT.CNTR n c
  match sig with
  | some (t, pc, seq) =>
    d.coreFault c { code := Code.CORE_COUNTER_FAULT, detail := code, thread := some t, pc := pc, seq := seq }
  | none =>
    d.coreFault c
      { code := Code.CORE_COUNTER_FAULT, detail := code, thread := none, seq := d.gf F.CORE_DISPATCH_SEQ.SEQ c }

/-- R423 to R427, R85: an update of counter n of core c by a signed addend, from a source of R424's table. -/
def update (d : Dev) (c n : Nat) (a : Int) (kind source : Nat) (sig : Option (Nat × Nat × Nat)) : Dev :=
  if d.copying c then d.hold c (.update n a kind source)
  else match d.judge c n a with
    | .applied => d.applyUpdate c n a
    | .underflow => d.refuseUpdate c n kind source Code.SYN_UNDERFLOW sig
    | .overflow => d.refuseUpdate c n kind source Code.SYN_OVERFLOW sig

/-- R424: a write to SYN_CNT_n sets C and F; it is never refused. -/
def setCounter (d : Dev) (c n v : Nat) : Dev :=
  if d.copying c then d.hold c (.setCounter n v)
  else (d.sf F.SYN_CNT_n.VALUE v c n).sf F.SYN_FLOOR_n.FLOOR v c n

end Dev

/-- The outcome of a command: the device changed, the queue as it stands. -/
def State.upd (s : State) (f : Dev → Dev) : Host.Outcome State Fault Refusal :=
  .next { s with dev := f s.dev }

end Sys2Proof.Machine
end

