-- ==== Sys2Proof/Machine/Numeric.lean ====
section
/-! DEFINITION. What a core records of the numbers that pass through it: numeric exceptions (R199 to R203), the
Spectrograph (R204 to R211) and the write digest (R631). -/

namespace Sys2Proof.Machine

open Sys2Proof

namespace Dev

/-- The instruction to which an exception belongs. -/
structure NumAt where
  core : Nat
  queue : Nat
  thread : Nat
  pc : Nat
  deriving DecidableEq, Repr

/-- R201: one numeric exception counted (n times) and recorded. -/
def numRecord (d : Dev) (w : NumAt) (cnt sat : Fld) (code n index : Nat) : Dev :=
  let d := d.bump cnt sat n w.core
  let k : RegKey := ⟨.CORE_NUM_LAST, w.core, 0, 0⟩
  let d := d.setReg k 0
  let d := d.sf F.CORE_NUM_LAST.QUEUE w.queue w.core
  let d := d.sf F.CORE_NUM_LAST.THREAD w.thread w.core
  let d := d.sf F.CORE_NUM_LAST.PC w.pc w.core
  let d := d.sf F.CORE_NUM_LAST.INDEX index w.core
  d.sf F.CORE_NUM_LAST.CODE code w.core

/-- R199 to R203: the exceptions of one row, slot, vector or block, in the order NUM_MX_NAN_SCALE, NUM_INVALID,
NUM_OVERFLOW: each is counted and recorded, and the first whose action is STOP gives the fault code. -/
def numExc (d : Dev) (w : NumAt) (e : NumExc) (index : Nat) : Dev × Option Nat :=
  let stop (f : Fld) : Bool := d.on f w.core
  let d1 := if e.mxNan = 0 then d
    else d.numRecord w F.CORE_NUM_CNT.MXNAN_CNT F.CORE_NUM_CNT.MXNAN_SAT Code.NUM_MX_NAN_SCALE e.mxNan index
  let d2 := if e.invalid then
      d1.numRecord w F.CORE_NUM_CNT.INVALID_CNT F.CORE_NUM_CNT.INVALID_SAT Code.NUM_INVALID 1 index else d1
  let d3 := if e.overflow then
      d2.numRecord w F.CORE_NUM_CNT.OVERFLOW_CNT F.CORE_NUM_CNT.OVERFLOW_SAT Code.NUM_OVERFLOW 1 index else d2
  (d3,
    if decide (e.mxNan ≠ 0) && stop F.CORE_NUM_CTRL.MXNAN_STOP then some Code.NUM_MX_NAN_SCALE
    else if e.invalid && stop F.CORE_NUM_CTRL.INVALID_STOP then some Code.NUM_INVALID
    else if e.overflow && stop F.CORE_NUM_CTRL.OVERFLOW_STOP then some Code.NUM_OVERFLOW
    else none)

/-- R206: a channel has reached its LIMIT. -/
def specStop (d : Dev) (c k : Nat) : Dev := (d.sf F.CORE_SPEC_k_CTRL.ARM 0 c k).sf F.CORE_SPEC_k_STAT.DONE 1 c k

/-- R204, R206, R207, R209: channel k of core c counts a value of bin b. LIMIT bounds the values since the channel was
armed or cleared (DESIGN CHOICE, log entry 22). -/
def specHit (d : Dev) (c k b : Nat) : Dev :=
  let lim := d.gf F.CORE_SPEC_k_CTRL.LIMIT c k
  let run := NMap.get 0 (d.core c).specRun k
  if lim ≠ 0 ∧ lim ≤ run then d.specStop c k
  else
    let d := d.modCore c fun x => { x with specRun := NMap.set 0 x.specRun k (run + 1) }
    let f := if b % 2 = 1 then F.CORE_SPEC_k_BIN_n.ODD else F.CORE_SPEC_k_BIN_n.EVEN
    let x := d.gf f c k (b / 2) + 1
    let d := d.sf f (satAt 0xFFFFFFFF x) c k (b / 2)
    let d := if 0xFFFFFFFF ≤ x then d.sf F.CORE_SPEC_k_STAT.SATURATED 1 c k else d
    let d := d.sf F.CORE_SPEC_k_STAT.TOTAL (satAt (2 ^ 48 - 1) (d.gf F.CORE_SPEC_k_STAT.TOTAL c k + 1)) c k
    let d := if d.on F.CORE_SPEC_k_CTRL.ALERT_EN c k && decide (62 ≤ b) then d.sf F.CORE_SPEC_k_STAT.ALERT 1 c k else d
    if lim = run + 1 then d.specStop c k else d

/-- R205, R206: a value that SOURCE writes or reads at store address a, offered to the four channels of core c. -/
def specCount (d : Dev) (c source a : Nat) (v : FV) : Dev :=
  (List.range 4).foldl (fun d k =>
    if d.on F.CORE_SPEC_k_CTRL.ARM c k && !d.on F.CORE_SPEC_k_CTRL.FREEZE c k
        && decide (d.gf F.CORE_SPEC_k_CTRL.SOURCE c k = source)
        && decide (d.gf F.CORE_SPEC_k_LO.ADDR c k ≤ a) && decide (a < d.gf F.CORE_SPEC_k_HI.ADDR c k)
    then d.specHit c k (specBin v) else d) d

/-- R205: a list of values at addresses, in order. -/
def specAll (d : Dev) (c source : Nat) (l : List (Nat × FV)) : Dev :=
  l.foldl (fun d x => d.specCount c source x.1 x.2) d

/-- R631: the digest rises by mix(a, w) for the aligned 8-byte word w just written at store address a. -/
def digestWord (d : Dev) (c a : Nat) : Dev :=
  let w := leNat (d.rdStore c a 8)
  d.sf F.SAFE_CORE_DIGEST.DIGEST (d.gf F.SAFE_CORE_DIGEST.DIGEST c + mix64 w (a + 1)) c

/-- R631: every aligned 8-byte word of a range written by an EMIT, a VEC operation or an ATTN. -/
def digestRange (d : Dev) (c a n : Nat) : Dev :=
  (List.range (n / 8)).foldl (fun d k => d.digestWord c (a + 8 * k)) d

/-- R103: what the check bits of a store read do: a corrected error is counted and scored; an uncorrectable one is
scored, and the instruction faults with CORE_STORE_UNCORRECTABLE (the caller's). -/
def storeEcc (d : Dev) (c : Nat) : Ecc → Dev
  | .ok => d
  | .corrected => (d.bump F.CORE_ERR_CNT.STORE_CORR_CNT F.CORE_ERR_CNT.STORE_SAT 1 c).score
      (healthCore c (d.physOf c)) 1 Code.CORE_STORE_UNCORRECTABLE
  | .uncorrectable => d.score (healthCore c (d.physOf c)) 512 Code.CORE_STORE_UNCORRECTABLE

end Dev
end Sys2Proof.Machine
end

