-- ==== Sys2Proof/Machine/Engine.lean ====
section
/-! DEFINITION. The engines of a core (chapter 02): the order of an engine's entries, the start of LOADS, STREAM and
EMIT, the issue and completion of a streamed row, and the slot reads of an EMIT. -/

namespace Sys2Proof.Machine

open Sys2Proof

/-- An entry is a paired STREAM. -/
def Entry.isPaired (e : Entry) : Bool :=
  match e.op with
  | .stream p _ _ _ _ _ _ => p
  | _ => false

/-- An entry is a WAIT. -/
def Entry.isWait (x : Entry) : Bool :=
  match x.op with
  | .wait _ => true
  | _ => false

/-- R109: an entry is a WAIT that has started and holds its queue's head. -/
def Entry.holdsHead (x : Entry) : Bool := x.isWait && x.started && !x.done

/-- An entry is a STREAM with rows still to issue. -/
def Entry.rowsLeft (e : Entry) : Bool :=
  match e.op with
  | .stream _ _ _ _ rows _ _ => decide (e.n < rows) && !e.stuck
  | _ => false

/-- An entry is a LOADS whose stall has not ended (R65). -/
def Entry.stallLeft (e : Entry) : Bool :=
  match e.op with
  | .loads .. => decide (e.n = 0) && !e.stuck
  | _ => false

/-- R54, R69, R70: an entry is a STREAM with an unissued row that targets slot s. -/
def Entry.willWrite (e : Entry) (s : Nat) : Bool :=
  match e.op with
  | .stream _ _ _ _ rows base _ =>
    !e.stuck && decide (e.n < rows) && decide ((s + 4096 - (base + e.n) % 4096) % 4096 < rows - e.n)
  | _ => false

/-- R57, R70: an entry is an EMIT that has not read slot s yet. -/
def Entry.willRead (e : Entry) (s : Nat) : Bool :=
  match e.op with
  | .emit _ _ _ slot count _ _ =>
    !e.stuck && decide (e.n < count) && decide ((s + 4096 - (slot + e.n) % 4096) % 4096 < count - e.n)
  | _ => false

/-- An accumulator entry (R657, R131). -/
def Slot.get (s : Slot) (ix j : Nat) : Nat :=
  NMap.get (if s.free = 0 then 0 else (Config.freeEntry s.free ix j).toNat) s.vals j

/-- R131, R146: a slot whose contents and term count are unspecified. -/
def Slot.unspecified (k ix : Nat) : Slot := { vals := [], free := k, terms := (Config.freeTerms k ix).toNat }

/-- A slot of an engine. -/
def Engine.slot (g : Engine) (ix : Nat) : Slot :=
  NMap.get (if g.loose = 0 then {} else Slot.unspecified g.loose ix) g.slots ix

/-- The engine with a slot written. -/
def Engine.setSlot (g : Engine) (ix : Nat) (s : Slot) : Engine :=
  { g with slots := NMap.set (if g.loose = 0 then {} else Slot.unspecified g.loose ix) g.slots ix s }

namespace Dev

/-- R67, R73: the entries that engine e executes, those of its own queue and, for engine 1, the paired STREAMs of
queue 0, that were dispatched before sequence number s. -/
def engineBefore (d : Dev) (c e s : Nat) : List Entry :=
  ((d.queue c e).filter fun x => decide (x.seq < s))
    ++ (if e = 1 then (d.queue c 0).filter fun x => x.isPaired && decide (x.seq < s) else [])

/-- The engines that an entry of queue e uses. -/
def enginesOf (e : Nat) (x : Entry) : List Nat := if x.isPaired then [0, 1] else [e]

/-- R70: no EMIT of an engine dispatched before sequence number seq has still to read slot s. -/
def slotFree (d : Dev) (c e s seq : Nat) : Bool :=
  (d.queue c e).all fun y => !(decide (y.seq < seq) && y.willRead s)

/-- The EMIT of an engine queue that reads slots now. -/
def activeEmit (d : Dev) (c e : Nat) : Option Entry :=
  (d.queue c e).find? fun x => x.started && !x.done && !x.stuck && (match x.op with
    | .emit .. => true
    | _ => false)

/-- R69: whether every row dispatched before the EMIT that targets slot s has been written. -/
def slotWritten (d : Dev) (c e s seq : Nat) : Bool :=
  (d.engineBefore c e seq).all (fun y => !y.willWrite s)
    && (d.engine c e).flight.all fun r => !(decide (r.slot = s) && decide (r.seq < seq))

/-- R69, R74: an EMIT of an engine, dispatched before sequence number seq, waits for rows to be written. -/
def emitWaits (d : Dev) (c e seq : Nat) : Bool :=
  match d.activeEmit c e with
  | some y =>
    match y.op with
    | .emit _ _ _ slot _ _ _ => decide (y.seq < seq) && !d.slotWritten c e ((slot + y.n) % 4096) y.seq
    | _ => false
  | none => false

/-- R69, R70, R74: the next row of a STREAM waits on an engine: on a slot, or, when it is paired, on an earlier EMIT
that waits there. -/
def rowHeldOn (d : Dev) (c k : Nat) (x : Entry) : Bool :=
  match x.op with
  | .stream pair _ _ _ _ base _ => !d.slotFree c k ((base + x.n) % 4096) x.seq || (pair && d.emitWaits c k x.seq)
  | _ => false

/-- R71, R74: a STREAM of queue q has a row that waits at issue, which holds back what comes after it on its engines. -/
def rowHeld (d : Dev) (c q : Nat) (x : Entry) : Bool :=
  x.started && x.rowsLeft && (enginesOf q x).any fun k => d.rowHeldOn c k x

/-- R71, R74: an engine's entry with sequence number seq is held back by the waiting row of an earlier STREAM. -/
def heldByRow (d : Dev) (c e seq : Nat) : Bool := (d.engineBefore c e seq).any fun y => d.rowHeld c e y

/-- Whether the entry may start (R62, R65, R67, R71): every earlier entry of the engine has started, no earlier row
waits at issue, and for a LOADS or a STREAM every earlier STREAM has issued its last row and every earlier LOADS has
ended its stall. -/
def engineMay (d : Dev) (c e : Nat) (x : Entry) : Bool :=
  let b := d.engineBefore c e x.seq
  b.all (fun y => y.started && !y.holdsHead)
    && (match x.op with
      | .emit .. => !d.heldByRow c e x.seq
      | _ => b.all fun y => !y.rowsLeft && !y.stallLeft)

/-- R92: an engine records a fault of an entry of queue q in ENG_LAST_FAULT and writes a logbook record. -/
def engineFault (d : Dev) (c e q code row slot : Nat) (x : Entry) : Dev :=
  let u := 2 * c + e
  let d := d.setReg ⟨.ENG_LAST_FAULT, u, 0, 0⟩ 0
  let d := d.sf F.ENG_LAST_FAULT.ROW row u
  let d := d.sf F.ENG_LAST_FAULT.SLOT slot u
  let d := d.sf F.ENG_LAST_FAULT.THREAD x.thread u
  let d := d.sf F.ENG_LAST_FAULT.CODE code u
  d.logEngine code c e q x.pc x.thread x.seq

/-- A fault of an entry of queue q that arises in engine e: recorded by the engine, and the core stops (R92, R137,
R140). -/
def engineStop (d : Dev) (c e q code row slot done : Nat) (x : Entry) : Dev :=
  (d.engineFault c e q code row slot x).coreFault c
    { code := code, queue := q, thread := some x.thread, pc := x.pc, seq := x.seq, kind := 1, done := done }

/-- R62, R63: a tile is loaded into an engine; the cycles of the stall are counted. -/
def loadTile (d : Dev) (c e : Nat) (t : Tile) : Dev :=
  let b16 := decide (t.mode = 3) || (match (d.engine c e).tile with
    | some old => decide (old.mode = 3)
    | none => false)
  (d.modEngine c e fun g => { g with tile := some t }).incr F.ENG_LOAD_STALL_CNT.CYCLES (if b16 then 256 else 128) (2 * c + e)

/-- R62, R63, R103, R205: a LOADS starts: the tile is read from the stores and the stall begins. -/
def startLoads (d : Dev) (c e : Nat) (x : Entry) (mode etype addr stride : Nat) : Dev :=
  let d := d.modEntry c e x.seq fun y => { y with started := true }
  let d := d.storeEcc c x.ecc
  if x.ecc = .uncorrectable then
    (d.modEngine c e fun g => { g with tile := g.tile.map fun t => { t with valid := false } }).engineStop c e e
      Code.CORE_STORE_UNCORRECTABLE 0 0 0 x
  else
    let rows := (List.range 128).map fun i => d.rdStore c (addr + i * stride) (tileRowBytes mode)
    let d := (d.loadTile c e { mode := mode, etype := etype, rows := rows }).modEngine c e fun g => { g with loading := some x.seq }
    let w := if mode = 3 then 2 else 1
    let f8 : Fmt := if mode = 3 then .bf16 else if etype = 0 then .e4m3 else .e5m2
    let vals := (List.range 128).flatMap fun i =>
      (List.range (tileRowBytes mode / w)).map fun k =>
        (addr + i * stride + w * k, f8.decode (leNat (((rows.getD i []).drop (w * k)).take w)))
    d.specAll c 2 vals

/-- R48, R49, R60, R66, R75: the checks of a STREAM when it starts: the code it is refused with. DESIGN CHOICE (log
entry 19): where several hold, the order is ENG_BAD_COUNT, ENG_NO_TILE, ENG_FORMAT_MISMATCH, and a paired STREAM is
refused with ENG_NO_TILE when either engine holds no valid tile. -/
def streamCheck (d : Dev) (c e : Nat) (pair : Bool) (fmt rows : Nat) : Option Nat :=
  let tile (k : Nat) : Option Tile := match (d.engine c k).tile with
    | some t => if t.valid then some t else none
    | none => none
  let es := if pair then [0, 1] else [e]
  if rows = 0 then some Code.ENG_BAD_COUNT
  else if es.any fun k => (tile k).isNone then some Code.ENG_NO_TILE
  else if es.all fun k => (tile k).map (·.mode) = some (fmtMode fmt) then none
  else some Code.ENG_FORMAT_MISMATCH

/-- R49, R60, R66: a STREAM starts on its engine, or is refused before any of its rows enters the array. -/
def startStream (d : Dev) (c e : Nat) (x : Entry) (pair : Bool) (fmt rows : Nat) : Dev :=
  let d := d.modEntry c e x.seq fun y => { y with started := true }
  match d.streamCheck c e pair fmt rows with
  | some code => d.engineStop c e e code 0 0 0 x
  | none => (enginesOf e x).foldl (fun d k => d.modEngine c k fun g => { g with poisonSeq := none }) d

/-- An entry of an engine queue starts. -/
def startEngine (d : Dev) (c e : Nat) (x : Entry) : Dev :=
  match x.op with
  | .loads _ mode etype addr stride => d.startLoads c e x mode etype addr stride
  | .stream pair _ _ fmt rows _ _ => d.startStream c e x pair fmt rows
  | _ => d.modEntry c e x.seq fun y => { y with started := true }

/-- The STREAM of an engine queue that issues rows now. -/
def activeStream (d : Dev) (c e : Nat) : Option Entry :=
  (d.queue c e).find? fun x => x.started && x.rowsLeft

/-- The packed bytes of the next row of a STREAM, when it is in its source (R76, R117, R118). -/
def rowSource (d : Dev) (c e : Nat) (src : Bool) (fmt addr n : Nat) : Option (List Byte) :=
  let b := rowBytes fmt
  if src then some (d.rdStore c (addr + n * b) b)
  else
    let f := if e = 0 then (d.core c).fifo0 else (d.core c).fifo1
    if b ≤ f.length then some (f.take b) else none

/-- R117: bytes taken from a stream FIFO; those that it does not hold yet are discarded as they arrive. -/
def takeFifo (d : Dev) (c e n : Nat) : Dev :=
  d.modCore c fun x =>
    if e = 0 then { x with fifo0 := x.fifo0.drop n, skip0 := x.skip0 + (n - x.fifo0.length) }
    else { x with fifo1 := x.fifo1.drop n, skip1 := x.skip1 + (n - x.fifo1.length) }

/-- One engine takes a row into its array (R45 to R47, R77): the column sums that its tile makes of it. A parity error
poisons the slots of this row and of the later rows of the STREAM and invalidates the tile. Answers also whether a
cell raised NUM_INVALID. -/
def issueOn (d : Dev) (c k q : Nat) (x : Entry) (add : Bool) (slot : Nat) (elems : List FV) (parity : Bool) :
    Dev × Bool :=
  let u := 2 * c + k
  let g := d.engine c k
  let t := g.tile.getD { mode := 1, etype := 0, rows := [] }
  let (sums, inv) := outputColumn t.mode t.etype t.rows elems
  let poisoned := parity || decide (g.poisonSeq = some x.seq)
  let row : RowInFlight :=
    { seq := x.seq, row := x.n, slot := slot, add := add, k := modeK t.mode, sums := sums, poison := poisoned, invalid := inv }
  let d := d.setEngine c k
    { g with
      flight := g.flight ++ [row]
      poisonSeq := if parity then some x.seq else g.poisonSeq
      tile := if parity then g.tile.map fun t => { t with valid := false } else g.tile }
  let d := (d.incr F.ENG_ROWS_CNT.ROWS 1 u).sf F.ENG_STAT.STATE 0 u
  let d := if parity then
      ((d.bump F.ENG_ERR_CNT.TILE_PAR_CNT F.ENG_ERR_CNT.TILE_PAR_SAT 1 u).engineFault c k q Code.ENG_TILE_PARITY
        x.n slot x).score (healthEngine c (d.physOf c) k) 512 Code.ENG_TILE_PARITY
    else d
  (d, inv)

/-- R199: NUM_INVALID has been counted for the row that an engine has just taken. -/
def markInvalid (d : Dev) (c k seq row : Nat) : Dev :=
  d.modEngine c k fun g =>
    { g with flight := g.flight.map fun r => if r.seq = seq ∧ r.row = row then { r with invalid := true } else r }

/-- R76, R69, R70, R74: a cycle in which no row issues: the engine's counter counts it, and STATE names the wait. -/
def idleCycle (d : Dev) (c k : Nat) (cnt : Fld) (st : Nat) : Dev :=
  (d.incr cnt 1 (2 * c + k)).sf F.ENG_STAT.STATE st (2 * c + k)

/-- R45 to R47, R117, R177, R178, R199 to R203: a row issues on every engine that its STREAM feeds. A NUM exception
whose action is STOP is the engine's in which it arises: the decoder is that of the STREAM's own engine. -/
def issueNow (d : Dev) (c e : Nat) (parity : Option (Fin 2)) (x : Entry) (acc src : Bool) (fmt rows slot : Nat)
    (bytes : List Byte) : Dev :=
  let es := enginesOf e x
  let b := rowBytes fmt
  let pad := if x.n + 1 = rows then (64 - (rows * b) % 64) % 64 else 0
  let d := if src then d else d.takeFifo c e (b + pad)
  let (d, bad) := es.foldl (fun (a : Dev × List Nat) k =>
    let (d', i) := a.1.issueOn c k e x acc slot (rowElems fmt bytes) (decide (parity.map Fin.val = some k))
    (d', if i then a.2 ++ [k] else a.2)) (d, [])
  let d := if bad.isEmpty then d else es.foldl (fun d k => d.markInvalid c k x.seq x.n) d
  let d := d.modEntry c e x.seq fun y => { y with n := y.n + 1 }
  let w : NumAt := { core := c, queue := e, thread := x.thread, pc := x.pc }
  let (d, stop) := d.numExc w { mxNan := nanScales fmt bytes, invalid := !bad.isEmpty } x.n
  match stop with
  | some code =>
    d.engineStop c (if code = Code.NUM_INVALID then bad.headD e else e) e code x.n slot x.m { x with n := x.n + 1 }
  | none => d

/-- R58, R59, R69, R70, R74, R76: the next row of the STREAM issues, or waits: for its bytes (counted in
ENG_STARVE_CNT; in both engines for a paired STREAM: DESIGN CHOICE, log entry 20), or on a slot or the partner engine
(counted in ENG_HAZARD_CNT). -/
def issueRow (d : Dev) (c e : Nat) (parity : Option (Fin 2)) (ecc : Ecc) : Dev :=
  if (d.core c).faulted then d
  else match d.activeStream c e with
  | none => d
  | some x =>
    match x.op with
    | .stream _ acc src fmt rows base addr =>
      let slot := (base + x.n) % 4096
      let es := enginesOf e x
      match d.rowSource c e src fmt addr x.n with
      | none => es.foldl (fun d k => d.idleCycle c k F.ENG_STARVE_CNT.CYCLES 3) d
      | some bytes =>
        if es.any fun k => d.rowHeldOn c k x then
          es.foldl (fun d' k => d'.idleCycle c k F.ENG_HAZARD_CNT.CYCLES (if d.rowHeldOn c k x then 4 else 7)) d
        else
          let d := if src then d.storeEcc c ecc else d
          if src && decide (ecc = .uncorrectable) then d.engineStop c e e Code.CORE_STORE_UNCORRECTABLE x.n slot x.m x
          else d.issueNow c e parity x acc src fmt rows slot bytes
    | _ => d

/-- R78: what the check bits of accumulator entries find when a slot is read. -/
def accEcc (d : Dev) (c k q slot : Nat) (x : Entry) (row : Nat) : Ecc → Dev
  | .ok => d
  | .corrected => (d.bump F.ENG_ERR_CNT.ACC_CORR_CNT F.ENG_ERR_CNT.ACC_CORR_SAT 1 (2 * c + k)).score
      (healthEngine c (d.physOf c) k) 1 Code.ENG_ACC_UNCORRECTABLE
  | .uncorrectable =>
    let d := d.bump F.ENG_ERR_CNT.ACC_UNCORR_CNT F.ENG_ERR_CNT.ACC_UNCORR_SAT 1 (2 * c + k)
    let d := d.modEngine c k fun g => g.setSlot slot { g.slot slot with poison := true }
    (d.engineFault c k q Code.ENG_ACC_UNCORRECTABLE row slot x).score (healthEngine c (d.physOf c) k) 512
      Code.ENG_ACC_UNCORRECTABLE

/-- R55, R80, R181, R183 to R186: an output column written into its slot. Answers whether an addition raised
NUM_INVALID. -/
def accumulate (d : Dev) (c k : Nat) (r : RowInFlight) : Dev × Bool :=
  let g := d.engine c k
  let s := g.slot r.slot
  if r.add then
    let terms := satAt (2 ^ 24 - 1) (s.terms + r.k)
    let sr := d.on F.CORE_NUM_CTRL.SR_EN c && decide (4096 < terms)
    let seed := d.gf F.CORE_SR_SEED.SEED c
    let outs := (List.range 128).map fun j =>
      let (v, inv) := FV.sum [val32 (s.get r.slot j), val32 (r.sums.getD j 0)]
      (if sr then roundSr (srRandom seed j r.slot terms) v else round32 v, inv)
    let vals := (List.range 128).foldl (fun m j => NMap.set 0 m j ((outs.getD j (0, false)).1)) []
    let slot : Slot := { vals := vals, free := 0, terms := terms, poison := s.poison || r.poison }
    (d.setEngine c k (g.setSlot r.slot slot), outs.any Prod.snd)
  else
    let vals := (List.range 128).foldl (fun m j => NMap.set 0 m j (r.sums.getD j 0)) []
    let slot : Slot := { vals := vals, free := 0, terms := r.k, poison := r.poison }
    (d.setEngine c k (g.setSlot r.slot slot), false)

/-- The queue that holds the STREAM of a row in flight on an engine, and its entry. -/
def entryOfRow (d : Dev) (c k seq : Nat) : Option (Nat × Entry) :=
  match (d.queue c k).find? fun x => decide (x.seq = seq) with
  | some x => some (k, x)
  | none => ((d.queue c 0).find? fun x => decide (x.seq = seq)).map fun x => (0, x)

/-- Rows of a STREAM complete in the slots of every engine it feeds. -/
def rowsDone (d : Dev) (c q : Nat) (x : Entry) : Nat :=
  (enginesOf q x).foldl (fun a k =>
    min a (x.n - ((d.engine c k).flight.filter fun r => decide (r.seq = x.seq)).length)) x.n

/-- R81, R138 to R140, R108: the rows complete of a STREAM noted in its entry, in its completion, and after a fault in
PCMAP DONE or STOP_ROWS. -/
def noteRows (d : Dev) (c q : Nat) (x : Entry) : Dev :=
  let m := d.rowsDone c q x
  let rows := match x.op with
    | .stream _ _ _ _ rows _ _ => rows
    | _ => 0
  let d := d.modEntry c q x.seq fun y => { y with m := m, done := y.done || (decide (m = rows) && !y.stuck) }
  if x.stuck then
    if d.gf F.CORE_FAULT_SEQ.SEQ c = x.seq ∧ d.gf F.CORE_FAULT_STAT.QUEUE c = q then d.sf F.CORE_PCMAP_DONE.DONE m c
    else d.sf F.CORE_QUEUE_q_STAT.STOP_ROWS m c q
  else d

/-- R56, R58, R78, R81, R199: the oldest row inside an engine's array completes: its output column is written. -/
def completeRow (d : Dev) (c k : Nat) (ecc : Ecc) : Dev :=
  let g := d.engine c k
  match g.flight with
  | [] => d
  | r :: rest =>
    match d.entryOfRow c k r.seq with
    | none => d.setEngine c k { g with flight := rest }
    | some (q, x) =>
      let d := d.setEngine c k { g with flight := rest }
      let d := if r.add then d.accEcc c k q r.slot x r.row ecc else d
      let (d, inv) := d.accumulate c k r
      let w : NumAt := { core := c, queue := q, thread := x.thread, pc := x.pc }
      let new := inv && !r.invalid
      let d := if new then (enginesOf q x).foldl (fun d k => d.markInvalid c k r.seq r.row) d else d
      let (d, stop) := if new then d.numExc w { invalid := true } r.row else (d, none)
      let d := d.noteRows c q x
      match stop with
      | some code => d.engineStop c k q code r.row r.slot (d.rowsDone c q x) x
      | none => d

/-- R57, R191: an accumulator entry × 2^SCALE converted to OFMT with one rounding. -/
def emitElem (ofmt : Nat) (scale : Int) (b : Nat) : Nat × Bool :=
  match val32 b with
  | .num s m e => (elemFmt ofmt).convert (.num s m (e + scale))
  | v => (elemFmt ofmt).convert v

/-- R57: where element j of the output row of an EMIT's slot n goes, in bytes from the row's first, and the row. -/
def emitRow (intlv : Bool) (addr stride n : Nat) : Nat := if intlv then addr + n / 2 * stride else addr + n * stride

def emitPlace (intlv : Bool) (w n j : Nat) : Nat := if intlv then 2 * j + n % 2 else w * j

/-- R57, R107, R631: the bytes of an EMIT's slot go to their row. With INTLV a row is written once both its slots have
been read, so that a word of it is the whole of one write; `last` says that no further slot comes. -/
def emitWrite (d : Dev) (c e : Nat) (intlv : Bool) (w row n : Nat) (bs : List (List Byte)) (last : Bool) : Dev :=
  let put (d : Dev) (par : Nat) (l : List (List Byte)) : Dev :=
    (List.range 128).foldl (fun d j => d.wrStore c (row + emitPlace intlv w par j) (l.getD j [])) d
  if !intlv then (put d n bs).digestRange c row (128 * w)
  else if n % 2 = 0 && !last then d.modEngine c e fun g => { g with even := bs }
  else if n % 2 = 0 then put d 0 bs
  else ((put (put d 0 (d.engine c e).even) 1 bs).modEngine c e fun g => { g with even := [] }).digestRange c row 256

/-- R79, R140: an EMIT with INTLV stops at the second slot of a row: the first slot's elements are written. -/
def emitFlush (d : Dev) (c e : Nat) (intlv : Bool) (row n : Nat) : Dev :=
  if intlv && decide (n % 2 = 1) then
    (d.emitWrite c e true 1 row 0 (d.engine c e).even true).modEngine c e fun g => { g with even := [] }
  else d

/-- R57, R69, R71, R74, R79, R191, R199 to R206, R631: an EMIT reads its next slot and writes its output row; a
poisoned slot stops it with ENG_ACC_POISON; a slot whose rows are not all written makes it wait, and so does an
earlier STREAM's row that waits at issue. -/
def emitSlot (d : Dev) (c e : Nat) (ecc : Ecc) : Dev :=
  match d.activeEmit c e with
  | none => d
  | some x =>
    match x.op with
    | .emit intlv ofmt scale slot count addr stride =>
      let s := (slot + x.n) % 4096
      if d.heldByRow c e x.seq then d.idleCycle c e F.ENG_HAZARD_CNT.CYCLES 7
      else if !d.slotWritten c e s x.seq then d.idleCycle c e F.ENG_HAZARD_CNT.CYCLES 4
      else
        let d := (d.sf F.ENG_STAT.STATE 0 (2 * c + e)).accEcc c e e s x 0 ecc
        let sl := (d.engine c e).slot s
        let row := emitRow intlv addr stride x.n
        if sl.poison then (d.emitFlush c e intlv row x.n).engineStop c e e Code.ENG_ACC_POISON 0 s x.n x
        else
          let w := (elemFmt ofmt).bytes
          let ents := (List.range 128).map fun j => sl.get s j
          let outs := ents.map (emitElem ofmt scale)
          let d := d.specAll c 0 ((List.range 128).map fun j => (row + emitPlace intlv w x.n j, val32 (ents.getD j 0)))
          let stops := outs.any Prod.snd && d.on F.CORE_NUM_CTRL.OVERFLOW_STOP c
          let d := d.emitWrite c e intlv w row x.n (outs.map fun o => leBytes w o.1) (stops || decide (x.n + 1 = count))
          let d := d.modEntry c e x.seq fun y => { y with n := y.n + 1, done := decide (y.n + 1 = count) }
          let (d, stop) := d.numExc { core := c, queue := e, thread := x.thread, pc := x.pc }
            { overflow := outs.any Prod.snd } x.n
          match stop with
          | some code => d.engineStop c e e code 0 s (x.n + 1) { x with n := x.n + 1 }
          | none => d
    | _ => d

end Dev
end Sys2Proof.Machine
end

