-- ==== Sys2Proof/Machine/Route.lean ====
section
/-! DEFINITION. Coordinates, the direction rule and the route tables (R300 to R305), NOTICE packets on VC_0 (R298, R616),
and accusations with their aggregation tree (R622 to R626). -/

namespace Sys2Proof.Machine

open Sys2Proof

/-- Coordinate of an index in dimension k: 0 X, 1 Y, 2 Z (R12). -/
def coordOf (i k : Nat) : Nat := i / 64 ^ k % 64

/-- The index with coordinate k replaced. -/
def withCoord (i k c : Nat) : Nat := putBits i (6 * k + 5) (6 * k) c

/-- R300: the direction rule: 0 resolved, 1 for +, 2 for −. -/
def directionRule (n c t : Nat) (w : Bool) : Nat :=
  if t = c then 0
  else if w then (if (t + n - c) % n ≤ n - (t + n - c) % n then 1 else 2)
  else if c < t then 1 else 2

/-- The face of a direction in a dimension: FACE_0 is +X, FACE_1 −X, and so on. -/
def faceOf (k dir : Nat) : Nat := 2 * k + (dir - 1)

/-- The face of a device opposite to face f. -/
def oppositeFace (f : Nat) : Nat := if f % 2 = 0 then f + 1 else f - 1

/-- R296: the requests, which a router of another partition refuses (R268, R313). -/
def isRequest (type : Nat) : Bool :=
  [PT.read, PT.write, PT.atomic, PT.release, PT.dmaRead, PT.dmaWrite, PT.counter].contains type

namespace Dev

/-- Whether the device's coordinates are valid. -/
def coordsValid (d : Dev) : Bool := d.on F.XFB_COORD.VALID

/-- DIM of dimension k (R284). -/
def dim (d : Dev) (k : Nat) : Nat := bitsOf (d.reg ⟨.XFB_DIMS, 0, 0, 0⟩).toNat (6 * k + 5) (6 * k) + 1

/-- An index lies inside the torus dimensions in force. -/
def inTorus (d : Dev) (i : Nat) : Bool := (List.range 3).all fun k => decide (coordOf i k < d.dim k)

/-- The WRAP bit of dimension k in a bank. -/
def wrapBit (d : Dev) (b k : Nat) : Bool := bitOf (d.reg ⟨.XFB_PART_b, 0, b, 0⟩).toNat (12 + k)

/-- R301: the dimension-table entry of a bank for coordinate t: 0 resolved, 1 for +, 2 for −, 3 unreachable. -/
def tableEntry (d : Dev) (b k t : Nat) : Nat :=
  bitsOf (d.reg ⟨.XFB_ROUTE_b_d_h, 0, b, 2 * k + t / 32⟩).toNat (2 * (t % 32) + 1) (2 * (t % 32))

/-- The device with a dimension-table entry set. -/
def setTableEntry (d : Dev) (b k t v : Nat) : Dev :=
  let key : RegKey := ⟨.XFB_ROUTE_b_d_h, 0, b, 2 * k + t / 32⟩
  d.setReg key (setBits (d.reg key) (2 * (t % 32) + 1) (2 * (t % 32)) v)

/-- R304: the face of the valid exception entry with the lowest number that matches a destination. -/
def exceptionFace (d : Dev) (b dst : Nat) : Option Nat :=
  (List.range 256).findSome? fun n =>
    if d.on F.XFB_EXC_b_n.VALID 0 b n
        && decide (dst &&& d.gf F.XFB_EXC_b_n.MASK 0 b n = d.gf F.XFB_EXC_b_n.MATCH 0 b n &&& d.gf F.XFB_EXC_b_n.MASK 0 b n)
    then some (d.gf F.XFB_EXC_b_n.FACE 0 b n) else none

/-- R303, R304: whether the active tables give a destination a route. A matching exception entry routes before the
dimension tables are looked at (DEDUCED, log entry 64). -/
def hasRoute (d : Dev) (dst : Nat) : Bool :=
  match d.exceptionFace d.bank dst with
  | some f => decide (f < 6)
  | none => (List.range 3).all fun k => decide (d.tableEntry d.bank k (coordOf dst k) ≠ 3)

/-- R302: both banks' dimension tables filled by the direction rule with their own WRAP bits, and both exception tables
cleared. -/
def fillTables (d : Dev) : Dev :=
  let d := (List.range 2).foldl (fun d b =>
    (List.range 3).foldl (fun d k =>
      (List.range 64).foldl (fun d t =>
        d.setTableEntry b k t
          (if t < d.dim k then directionRule (d.dim k) (coordOf d.self k) t (d.wrapBit b k) else 3)) d) d) d
  (List.range 2).foldl (fun d b => (List.range 256).foldl (fun d n => d.setReg ⟨.XFB_EXC_b_n, 0, b, n⟩ 0) d) d

/-- R245, R293, R618: why the GAS unit refuses an access to a device, if it does. -/
def gasReach (d : Dev) (dst : Nat) : Option Nat :=
  if !d.coordsValid || !d.inTorus dst || !d.hasRoute dst then some Code.GAS_UNREACHABLE
  else if d.listed.contains dst then some Code.GAS_TARGET_OCCULTED
  else none

/-! ### Packets and notices -/

/-- R294, R312: a packet of this device, with its partition, wrap permission and TIMEOUT_US. -/
def packet (d : Dev) (type vc dst : Nat) : Packet :=
  { dst := dst, src := d.self, type := type, vc := vc
    partition := if isManagement type then 0 else d.partition
    wrap := if isManagement type then 7 else d.wrapBits
    timeoutUs := d.gf F.GAS_CTRL.TIMEOUT_US }

/-- R298: a NOTICE sent on VC_0; `body` stands at byte 8. -/
def notice (d : Dev) (dst kind count epoch : Nat) (body : List Byte) : Dev :=
  d.send
    { d.packet PT.notice 0 dst with
      length := 64
      payload := (leBytes 2 kind ++ leBytes 2 count ++ leBytes 4 epoch ++ body ++ List.replicate 56 0).take 64 }

/-! ### Accusations (R622 to R626) -/

/-- R624: the parent of this device in the aggregation tree: one step towards the root in Z, then Y, then X. -/
def rackParent (d : Dev) (root : Nat) : Nat :=
  let me := d.self
  let k := if coordOf me 2 ≠ coordOf root 2 then 2 else if coordOf me 1 ≠ coordOf root 1 then 1 else 0
  let c := coordOf me k
  let t := coordOf root k
  withCoord me k (if c < t then c + 1 else c - 1)

/-- R298: the body of an accusation summary. -/
def summaryBody (e : Suspect) (w : Nat) : List Byte :=
  leBytes 4 e.dev ++ leBytes 4 (e.accusers + (if e.own then 1 else 0)) ++ leBytes 1 e.mask ++ leBytes 1 0
    ++ leBytes 2 e.unit ++ leBytes 8 w

/-- R624, R648: the logbook record of an accusation summary, at a root or at the suspect. -/
def summaryRecord (d : Dev) (sender : Nat) (e : Suspect) (w : Nat) : Dev :=
  let n := e.accusers + (if e.own then 1 else 0)
  d.report
    { code := Code.SAFE_ACCUSATION
      source := if sender = d.self then srcOf dieM 0xFFFF else srcOf 31 sender
      d0 := n % 65536 + e.mask * 65536 + e.unit * 2 ^ 32
      d1 := w, device := e.dev, remote := decide (e.dev ≠ d.self), count := n }

/-- R624, R628: a summary that reaches the suspect is written to its logbook and scored. -/
def summaryAtSuspect (d : Dev) (sender : Nat) (e : Suspect) (w : Nat) : Dev :=
  let d := d.summaryRecord sender e w
  let n := e.accusers + (if e.own then 1 else 0)
  d.score (if e.unit < 2048 then e.unit else 1481) (if n < 16 then n else 16) Code.SAFE_ACCUSATION

/-- R624, R625: one summary on its way: to the suspect at the root, and directly where the tree cannot carry it; to the
parent otherwise. -/
def forwardSummary (d : Dev) (e : Suspect) (w : Nat) : Dev :=
  let root := d.gf F.SAFE_CTRL.ANCHOR_INDEX
  let direct := !d.on F.SAFE_CTRL.AGG_EN || !d.hasRoute root || d.listed.contains root
  if direct then
    (d.notice e.dev 4 0 0 (summaryBody e w)).bump F.SAFE_AGG_STAT.BYPASS F.SAFE_AGG_STAT.BYPASS_SAT 1
  else if root = d.self then
    if e.dev = d.self then d.summaryAtSuspect d.self e w
    else (d.summaryRecord d.self e w).notice e.dev 4 0 0 (summaryBody e w)
  else d.notice (d.rackParent root) 4 0 0 (summaryBody e w)

/-- R623: the number of the current window. -/
def accuseWindow (d : Dev) : Nat := d.chrono / 10 ^ 6

/-- R623, R626: accusations merged into the entry of their suspect; with all 256 entries in use a new suspect's are
forwarded at once and counted. -/
def mergeAccusers (d : Dev) (s : Suspect) : Dev :=
  match d.suspects.find? fun e => decide (e.dev = s.dev) with
  | some _ =>
    { d with suspects := d.suspects.map fun e =>
        if e.dev = s.dev then
          { e with
            accusers := e.accusers + s.accusers
            mask := e.mask ||| s.mask
            unit := min e.unit s.unit
            own := e.own || s.own }
        else e }
  | none =>
    if d.suspects.length < 256 then
      let d := { d with suspects := d.suspects ++ [s] }
      d.sf F.SAFE_AGG_STAT.SUSPECTS d.suspects.length
    else (d.forwardSummary s d.accuseWindow).bump F.SAFE_AGG_STAT.OVERFLOW F.SAFE_AGG_STAT.OVERFLOW_SAT 1

/-- R622: this device accuses another one, with a bit of the code mask; a report about this device itself is never sent
as an accusation. -/
def accuse (d : Dev) (suspect bit unit : Nat) : Dev :=
  if suspect = d.self then d
  else d.mergeAccusers { dev := suspect, accusers := 0, mask := 2 ^ bit, unit := unit, own := true }

end Dev
end Sys2Proof.Machine
end

