-- ==== Sys2Proof/Machine/GasReq.lean ====
section
/-! DEFINITION. The requester side of the hall-wide memory space (chapter 07): sending and resending a request, the
destination sequence numbers (R260), the start of a GAS queue entry (R258), and how a failed access ends (R248, R277,
R278, R282). -/

namespace Sys2Proof.Machine

open Sys2Proof

namespace Dev

/-- The next message number, and the device that has given it (R294). -/
def takeMsg (d : Dev) : Nat × Dev := (d.nextMsg % 65536, { d with nextMsg := d.nextMsg + 1 })

/-- R260: the next destination sequence number of a core's writes to a device. -/
def takeDseq (d : Dev) (c dst : Nat) : Nat × Dev :=
  let k := c * 2 ^ 18 + dst
  let n := NMap.get 0 d.dseqs k
  (n, { d with dseqs := NMap.set 0 d.dseqs k (n + 1) })

/-- A packet sent whose reply is awaited. -/
def track (d : Dev) (r : Req) : Dev :=
  let p := r.pkt
  let waits := decide (p.dst ≠ d.self) && d.waitsAtInjection p
  let q := if waits then p else d.stamp p
  let d := d.send p
  let r :=
    { r with
      pkt := q, firstIssue := if waits then r.firstIssue else some (r.firstIssue.getD d.chrono)
      retries := if p.attempt = 0 then d.gf F.GAS_CTRL.RETRIES else r.retries }
  { d with reqs := d.reqs ++ [r] }

/-- GAS_ISSUED_CNT: a packet of the GAS units sent; the request waits for its reply. -/
def issue (d : Dev) (r : Req) : Dev := (d.incr F.GAS_ISSUED_CNT.COUNT 1).track r

/-- The device without a request. -/
def dropReq (d : Dev) (r : Req) : Dev := { d with reqs := d.reqs.erase r }

/-- R317: the slot of an established Transit with an ID. -/
def transitSlot (d : Dev) (id : Nat) : Option Nat :=
  lowestBelow (fun n => decide (d.gf F.XFB_TRANSIT_n_STAT.STATE 0 n = 2)
    && decide (d.gf F.XFB_TRANSIT_n_PATH.ID 0 n = id)) 256

/-- R322: a packet of a Transit that is no longer established goes by packet routing on VC_2. -/
def offTransit (d : Dev) (p : Packet) : Packet :=
  if p.route = 2 ∧ (d.transitSlot p.transit).isNone then { p with vc := 2, route := 1, transit := 0 } else p

/-- R264, R267, R276: a request sent again with the same tag, number and offset. -/
def resend (d : Dev) (r : Req) (attempt : Nat) : Dev :=
  let d := (d.dropReq r).bump F.GAS_ERR_CNT.RETRY_CNT F.GAS_ERR_CNT.RETRY_SAT 1
  d.issue { r with pkt := { d.offTransit r.pkt with attempt := attempt }, busyWait := false }

/-- R613, class 0x3: a record of the requester. -/
def logGas (d : Dev) (code c dst addr seq : Nat) : Dev :=
  d.report { code := code, source := srcOf (c / 16) 0xFFFF, d0 := addr, d1 := seq, device := dst }

/-- R277, R278: a GATOM or a remote SIGNAL whose outcome is unknown is entered in the unsettled table, or counted when
no entry is free, and logged with its whole tag; its target is accused (R622). -/
def outcomeUnknown (d : Dev) (r : Req) (aop : Nat) (w64 : Bool) (addr : Nat) : Dev :=
  let free := lowestBelow (fun n => decide (d.gf F.GAS_UNSETTLED_n_TAG.STATE 0 n = 0)) 32
  let epoch := r.pkt.epoch
  let d := match free with
    | some n =>
      let d := d.setReg ⟨.GAS_UNSETTLED_n_TAG, 0, n, 0⟩ 0
      let d := d.sf F.GAS_UNSETTLED_n_TAG.STATE 1 0 n
      let d := d.sf F.GAS_UNSETTLED_n_TAG.AOP aop 0 n
      let d := d.sf F.GAS_UNSETTLED_n_TAG.W64 (if w64 then 1 else 0) 0 n
      let d := d.sf F.GAS_UNSETTLED_n_TAG.CORE r.core 0 n
      let d := d.sf F.GAS_UNSETTLED_n_TAG.TARGET r.pkt.dst 0 n
      let d := d.sf F.GAS_UNSETTLED_n_EPOCH.EPOCH epoch 0 n
      let d := d.sf F.GAS_UNSETTLED_n_SEQ.SEQ r.seq 0 n
      let d := d.sf F.GAS_UNSETTLED_n_ADDR.ADDR addr 0 n
      let d := d.sf F.GAS_UNSETTLED_n_VALUE.VALUE 0 0 n
      d.sf F.GAS_UNSETTLED_n_TIME.TIME (r.firstIssue.getD 0) 0 n
    | none => d.bump F.GAS_UNSETTLED_STAT.OVERFLOW F.GAS_UNSETTLED_STAT.OVERFLOW_SAT 1
  let d := d.report
    { code := Code.GAS_OUTCOME_UNKNOWN, source := srcOf (r.core / 16) 0xFFFF
      d0 := r.core + epoch % 2 ^ 32 * 2 ^ 7 + aop * 2 ^ 39 + (if w64 then 2 ^ 42 else 0)
      d1 := r.seq, device := r.pkt.dst, first := r.firstIssue }
  d.accuse r.pkt.dst 2 0xFFFF

/-- R248: an access of the GAS queue ends with a code: the requester logs it (R282), accuses the target of a timeout
(R622), and the core stops with DMA_REMOTE_ERROR. -/
def gasFault (d : Dev) (c code dst addr : Nat) (x : Entry) : Dev :=
  let d := if code = Code.GAS_OUTCOME_UNKNOWN then d else d.logGas code c dst addr x.seq
  let d := if code = Code.GAS_TIMEOUT then d.accuse dst 1 0xFFFF else d
  d.coreFault c
    { code := Code.DMA_REMOTE_ERROR, detail := code, queue := 6, thread := some x.thread, pc := x.pc, seq := x.seq
      kind := 3 }

/-- The packet of a GLD, GST or GATOM (R246, R270, R272, R296), its T registers read at dispatch (R650). -/
def gasPacket (d : Dev) (c t : Nat) (i : Ins) (seq : Nat) : Packet :=
  let addr := d.treg c t i.taddr
  let dst := addr / 2 ^ 46
  let p := { d.packet PT.read 2 dst with addr := addr, key := i.key }
  match i.op with
  | .gst => { p with type := PT.write, length := 64 }
  | .gatom =>
    { p with
      type := PT.atomic, vc := 6, length := 16, total := seq, core := c, epoch := d.gf F.GAS_EPOCH.EPOCH
      aop := i.aop, signed := i.signed, w64 := i.w64, ret := i.ret
      payload := leBytes 8 (d.treg c t i.topa) ++ leBytes 8 (d.treg c t i.topb) }
  | _ => p

/-- R258: whether an entry of the GAS queue may start beside the entries before it: none of them that is under way
names the same 64-byte line. -/
def gasMay (l : List Entry) (x : Entry) : Bool :=
  match x.op with
  | .gas _ p _ _ => l.all fun y =>
      match y.op with
      | .gas _ q _ _ => decide (x.seq ≤ y.seq) || y.done || y.stuck || decide (q.addr / 64 ≠ p.addr / 64)
      | _ => true
  | _ => true

/-- R103, R244, R245, R260: an entry of the GAS queue starts: its line is read from the store (GST) and its request is
sent, or the access is refused at once. -/
def startGas (d : Dev) (c : Nat) (x : Entry) (op : Op) (p : Packet) (saddr tdst : Nat) : Dev :=
  let d := d.modEntry c 6 x.seq fun y => { y with started := true }
  let d := if op = .gst then d.storeEcc c x.ecc else d
  if op = .gst ∧ x.ecc = .uncorrectable then
    d.coreFault c
      { code := Code.CORE_STORE_UNCORRECTABLE, queue := 6, thread := some x.thread, pc := x.pc, seq := x.seq, kind := 3 }
  else
    match d.gasReach p.dst with
    | some code => d.gasFault c code p.dst p.addr x
    | none =>
      let (m, d) := d.takeMsg
      let p := { p with msg := m, partition := d.partition, wrap := d.wrapBits, src := d.self
                        timeoutUs := d.gf F.GAS_CTRL.TIMEOUT_US }
      let kind : ReqKind := if op = .gst then .gst else if op = .gatom then .gatom else .gld
      let (n, d) := if op = .gld then (0, d) else d.takeDseq c p.dst
      let p := if op = .gst then { p with payload := d.rdStore c saddr 64 } else p
      d.issue
        { kind := kind, core := c, thread := x.thread, seq := x.seq, pkt := { p with dseq := n }, saddr := saddr
          tdst := tdst }

/-- An entry of the GAS queue is complete. -/
def gasDone (d : Dev) (c seq : Nat) : Dev := d.modEntry c 6 seq fun y => { y with done := true }

/-- The entry of a request in its queue. -/
def reqEntry (d : Dev) (r : Req) : Option Entry := (d.queue r.core r.queue).find? fun x => decide (x.seq = r.seq)

end Dev
end Sys2Proof.Machine
end

