-- ==== Sys2Proof/Machine/Dma.lean ====
section
/-! DEFINITION. The DMA engines (chapter 03, R115, R116, R122 to R125, R653, and R261 to R264, R321): descriptors, the
movement of their bytes, the packets of a global side, and the partial-completion map (R140, R141). -/

namespace Sys2Proof.Machine

open Sys2Proof

/-- R122: a descriptor read from its 64 bytes. -/
def dmaDescOf (b : List Byte) : DmaDesc :=
  let f (o n : Nat) : Nat := leNat ((b.drop o).take n)
  { src := f 0 8, dst := f 8 8, rowBytes := f 16 4, rows := f 20 4, srcStride := f 24 4, dstStride := f 28 4
    srcKey := f 32 2, dstKey := f 34 2, hint := f 36 1, useCount := f 37 1, srcSp := bitOf (f 38 1) 0
    dstSp := bitOf (f 38 1) 1, mcast := bitOf (f 38 1) 2, coreMask := f 39 1 % 16, transit := f 40 2, next := f 44 4 }

/-- A store address inside a stream FIFO (R99). -/
def isFifo (a : Nat) : Bool := decide (0x0800000 ≤ a) && decide (a < 0x0820000)

namespace DmaDesc

def total (x : DmaDesc) : Nat := x.rowBytes * x.rows

/-- The destination is a stream FIFO (R115). -/
def toFifo (x : DmaDesc) : Bool := x.dstSp && isFifo x.dst

def srcDev (x : DmaDesc) : Nat := x.src / 2 ^ 46

def dstDev (x : DmaDesc) : Nat := x.dst / 2 ^ 46

/-- The source store address of byte `o` of the descriptor. -/
def srcAt (x : DmaDesc) (o : Nat) : Nat := x.src + o / x.rowBytes * x.srcStride + o % x.rowBytes

/-- The destination store address of byte `o`. -/
def dstAt (x : DmaDesc) (o : Nat) : Nat := x.dst + o / x.rowBytes * x.dstStride + o % x.rowBytes

end DmaDesc

/-- R653, R115, R123, R321: whether a descriptor read by engine e (0 core, 1 cluster) of device `self` is refused with
DMA_BAD_DESC. -/
def dmaBadDesc (self e : Nat) (b : List Byte) : Bool :=
  let x := dmaDescOf b
  let f (o n : Nat) : Nat := leNat ((b.drop o).take n)
  decide (x.rowBytes = 0) || decide (2 ^ 24 < x.rowBytes) || decide (x.rows = 0) || decide (2 ^ 24 < x.rows)
  || decide (3 ≤ x.hint) || (decide (x.hint = 2) && decide (x.useCount = 0)) || (decide (x.hint ≠ 2) && decide (x.useCount ≠ 0))
  || decide (8 ≤ f 38 1) || decide (16 ≤ f 39 1) || decide (f 42 2 ≠ 0) || decide (f 48 16 ≠ 0)
  || (x.srcSp && decide (2 ^ 25 ≤ x.src)) || (x.dstSp && decide (2 ^ 25 ≤ x.dst))
  || decide (x.next % 64 ≠ 0)
  || (x.mcast && (decide (e ≠ 1) || !x.dstSp || decide (x.coreMask = 0)))
  || (x.toFifo && decide (x.rowBytes % 64 ≠ 0))
  || (decide (x.transit ≠ 0) && (x.dstSp || (!x.srcSp && decide (x.srcDev ≠ self))))

/-- R653, R99: whether a store address that a descriptor names is refused with CORE_BAD_ADDR. -/
def dmaBadAddr (x : DmaDesc) : Bool :=
  (decide (x.next ≠ 0) && !storeOk x.next 64)
  || (x.srcSp && !storeOk x.src (rowSpan x.rows x.rowBytes x.srcStride))
  || (x.dstSp && !x.toFifo && !dmaDstOk x.dst (rowSpan x.rows x.rowBytes x.dstStride))

/-- R261: the packets that a range of a descriptor's bytes makes at a global side: offset, address and length of each,
none above 4 KiB and none across a 4 KiB boundary; rows that follow each other without a gap are one run. -/
def dmaPieces (base rb stride : Nat) : Nat → Nat → Nat → List (Nat × Nat × Nat)
  | _, _, 0 => []
  | off, rem, fuel + 1 =>
    if rem = 0 then []
    else
      let a := if stride = rb then base + off else base + off / rb * stride + off % rb
      let row := if stride = rb then rem else rb - off % rb
      let n := min (min rem row) (4096 - a % 4096)
      (off, a, n) :: dmaPieces base rb stride (off + n) (rem - n) fuel

/-- R141: the chunk: the smallest multiple of 64 that is at least 1/512 of the total. -/
def chunkBytes (total : Nat) : Nat := 64 * ((total + 32767) / 32768)

/-- The bytes of [lo, hi) that disjoint parts cover. -/
def covered (got : List (Nat × Nat)) (lo hi : Nat) : Nat :=
  (got.map fun p => min hi (p.1 + p.2) - max lo p.1).sum

/-- The bytes delivered. -/
def DmaRun.doneBytes (r : DmaRun) : Nat := (r.got.map Prod.snd).sum

/-- R124, R262: the active descriptor has delivered every byte. -/
def DmaRun.complete (r : DmaRun) : Bool :=
  match r.desc with
  | some x => decide (r.doneBytes = x.total) && (!x.toFifo || decide (r.appended = x.total))
  | none => false

/-- The run of a DMA entry. -/
def Entry.dmaRun (x : Entry) : Option DmaRun :=
  match x.op with
  | .dma r => some r
  | _ => none

namespace Dev

/-- The DMA entry of a queue by its sequence number, with its run. -/
def dmaEntry (d : Dev) (c q seq : Nat) : Option (Entry × DmaRun) :=
  match (d.queue c q).find? fun x => decide (x.seq = seq) with
  | some x => x.dmaRun.map fun r => (x, r)
  | none => none

def setRun (d : Dev) (c q seq : Nat) (r : DmaRun) : Dev := d.modEntry c q seq fun y => { y with op := .dma r }

/-- The cores that a descriptor of core c writes to (R123). -/
def dmaTargets (c : Nat) (x : DmaDesc) : List Nat :=
  if x.mcast then ((List.range 4).filter fun i => bitOf x.coreMask i).map fun i => 4 * (c / 4) + i else [c]

/-- The source bytes of a range of a descriptor whose source is a store. -/
def dmaSource (d : Dev) (c : Nat) (x : DmaDesc) (off n : Nat) : List Byte :=
  (List.range n).map fun k => d.rdByte c (x.srcAt (off + k))

/-- Bytes of a descriptor written to its destination store as core t has it. -/
def dmaPut (d : Dev) (t : Nat) (x : DmaDesc) (off : Nat) (bs : List Byte) : Dev :=
  (List.range bs.length).foldl (fun d k => d.wrByte t (x.dstAt (off + k)) (bs.getD k 0)) d

/-- Bytes of a descriptor written to its destination store, of every target core (R123); R85: those for a core under
copy are held. -/
def dmaStore (d : Dev) (c : Nat) (x : DmaDesc) (off : Nat) (bs : List Byte) : Dev :=
  (dmaTargets c x).foldl (fun d t => if d.copying t then d.hold t (.store x off bs) else d.dmaPut t x off bs) d

/-- R296, R320, R322, R323: a DMA write packet put on its Transit while that is established, and on VC_2 otherwise. -/
def dmaRoute (d : Dev) (x : DmaDesc) (p : Packet) : Dev × Packet :=
  match (if x.transit = 0 then none else d.transitSlot x.transit) with
  | some n =>
    (d.incr F.XFB_TRANSIT_n_CNT.FLITS (1 + (p.length + 63) / 64) 0 n,
      { p with vc := 4, route := 2, transit := x.transit })
  | none => (d, { p with vc := 2, route := 1, transit := 0 })

/-- R260, R261: the DMA write packets of a range of a descriptor sent. -/
def dmaSendWrites (d : Dev) (c q seq : Nat) (x : DmaDesc) (msg off : Nat) (bs : List Byte) : Dev :=
  (dmaPieces x.dst x.rowBytes x.dstStride off bs.length bs.length).foldl (fun d pc =>
    let (n, d) := d.takeDseq c x.dstDev
    let p := { d.packet PT.dmaWrite 2 x.dstDev with
      addr := pc.2.1, key := x.dstKey, length := pc.2.2, offset := pc.1, total := x.total, msg := msg, dseq := n
      last := decide (pc.1 + pc.2.2 = x.total), hint := x.hint, useCount := x.useCount
      payload := (bs.drop (pc.1 - off)).take pc.2.2 }
    let (d, p) := d.dmaRoute x p
    d.issue { kind := .dmaWrite, core := c, seq := seq, pkt := p, queue := q }) d

/-- R261: the DMA read packets of a descriptor sent. -/
def dmaSendReads (d : Dev) (c q seq : Nat) (x : DmaDesc) (msg : Nat) : Dev :=
  (dmaPieces x.src x.rowBytes x.srcStride 0 x.total x.total).foldl (fun d pc =>
    d.issue
      { kind := .dmaRead, core := c, seq := seq, queue := q
        pkt := { d.packet PT.dmaRead 2 x.srcDev with
          addr := pc.2.1, key := x.srcKey, length := pc.2.2, offset := pc.1, total := x.total, msg := msg
          last := decide (pc.1 + pc.2.2 = x.total), route := 1, hint := x.hint, useCount := x.useCount } }) d

/-- Whether a packet of a DMA entry has not settled (R141). -/
def dmaOutstanding (d : Dev) (c q seq : Nat) : Bool :=
  d.reqs.any fun r => decide (r.core = c) && decide (r.queue = q) && decide (r.seq = seq)
    && (decide (r.kind = .dmaRead) || decide (r.kind = .dmaWrite))

/-- R140, R141: the partial-completion map of the recorded DMA fault written. -/
def writeMap (d : Dev) (c : Nat) : Dev :=
  let q := d.gf F.CORE_FAULT_STAT.QUEUE c
  let d := d.modCore c fun k => { k with mapPending := false }
  match d.dmaEntry c q (d.gf F.CORE_FAULT_SEQ.SEQ c) with
  | some (_, r) =>
    match r.desc with
    | some x =>
      let u := chunkBytes x.total
      let d := d.sf F.CORE_PCMAP_DONE.DONE r.doneBytes c
      (List.range 512).foldl (fun d k =>
        let lo := u * k
        let hi := min (lo + u) x.total
        if lo < x.total ∧ covered r.got lo hi = hi - lo then
          let key : RegKey := ⟨.CORE_PCMAP_m, c, k / 64, 0⟩
          d.setReg key (setBits (d.reg key) (k % 64) (k % 64) 1)
        else d) d
    | none => d
  | none => d

/-- R124, R137 to R141, R653: a DMA entry faults. The map is written at once when none of its packets is under way, and
otherwise when the last one has settled. -/
def dmaFault (d : Dev) (c q code detail : Nat) (x : Entry) : Dev :=
  let run := x.dmaRun.getD { nextAddr := 0 }
  let total := match run.desc with
    | some y => y.total
    | none => 0
  let later := d.dmaOutstanding c q x.seq
  let first := !(d.core c).faulted
  let d := d.setRun c q x.seq { run with failed := some code }
  let d := d.coreFault c
    { code := code, detail := detail, queue := q, thread := some x.thread, pc := x.pc, seq := x.seq, kind := 2
      done := run.doneBytes, unitBytes := chunkBytes total, descIx := run.index, mapLater := later }
  if first && !later then d.writeMap c else d

/-- R264, R282: a remote part of a DMA failed with a code. -/
def dmaRemote (d : Dev) (c q code dst addr : Nat) (x : Entry) : Dev :=
  let d := if code = Code.XFB_TRANSIT_UNKNOWN then
      let slot := match x.op with
        | .dma r => (r.desc.bind fun y => d.transitSlot y.transit).getD 0
        | _ => 0
      d.logXfb code 0 slot dst 0
    else d.logGas code c dst addr x.seq
  let d := if code = Code.GAS_TIMEOUT then d.accuse dst 1 0xFFFF else d
  d.dmaFault c q Code.DMA_REMOTE_ERROR code x

/-- R261, R653: a descriptor that passed its checks starts to move its bytes; R103: `src` is what the check bits of a
source in a store find. With an uncorrectable word in it nothing is delivered (DESIGN CHOICE, log entry 12). -/
def dmaMove (d : Dev) (c q seq : Nat) (x : DmaDesc) (msg : Nat) (r : DmaRun) (src : Ecc) : Dev :=
  if x.srcSp then
    if x.toFifo then d
    else if src = .uncorrectable then
      match d.dmaEntry c q seq with
      | some (e, _) => d.dmaFault c q Code.CORE_STORE_UNCORRECTABLE 0 e
      | none => d
    else
      let d := d.storeEcc c src
      let bs := d.dmaSource c x 0 x.total
      if x.dstSp then (d.dmaStore c x 0 bs).setRun c q seq { r with got := [(0, x.total)] }
      else d.dmaSendWrites c q seq x msg 0 bs
  else d.dmaSendReads c q seq x msg

/-- R245, R321, R618: why the remote sides of a descriptor refuse it, if they do. -/
def dmaReach (d : Dev) (x : DmaDesc) : Option (Nat × Nat × Nat) :=
  let side (sp : Bool) (dev addr : Nat) : Option (Nat × Nat × Nat) :=
    if sp then none else (d.gasReach dev).map fun code => (code, dev, addr)
  match side x.srcSp x.srcDev x.src with
  | some e => some e
  | none =>
    match side x.dstSp x.dstDev x.dst with
    | some e => some e
    | none =>
      if x.transit = 0 then none
      else match d.transitSlot x.transit with
        | some n => if d.gf F.XFB_TRANSIT_n_PATH.DEST 0 n = x.dstDev then none
            else some (Code.XFB_TRANSIT_UNKNOWN, x.dstDev, x.dst)
        | none => some (Code.XFB_TRANSIT_UNKNOWN, x.dstDev, x.dst)

/-- R103, R125, R653: the DMA engine of queue q reads and checks the next descriptor of a chain and starts it, or the
DMA faults. -/
def dmaStart (d : Dev) (c q seq : Nat) (ecc src : Ecc) : Dev :=
  match d.dmaEntry c q seq with
  | none => d
  | some (x, r) =>
    if !x.started || x.done || x.stuck || r.desc.isSome || r.failed.isSome then d
    else
      let d := d.storeEcc c ecc
      if ecc = .uncorrectable then d.dmaFault c q Code.CORE_STORE_UNCORRECTABLE 0 x
      else
        let b := d.rdStore c r.nextAddr 64
        let y := dmaDescOf b
        let (m, d) := d.takeMsg
        let r := { r with desc := some y, msg := m, got := [], buf := [], appended := 0 }
        let x := { x with op := .dma r }
        let d := d.setRun c q seq r
        if dmaBadDesc d.self (q - 4) b then d.dmaFault c q Code.DMA_BAD_DESC 0 x
        else if dmaBadAddr y then d.dmaFault c q Code.CORE_BAD_ADDR 0 x
        else match d.dmaReach y with
          | some (code, dev, addr) => d.dmaRemote c q code dev addr x
          | none => d.dmaMove c q seq y m r src

/-- R124: a descriptor that has delivered every byte: the chain moves on, ends, or faults at its 4097th. -/
def dmaFinish (d : Dev) (c q seq : Nat) : Dev :=
  match d.dmaEntry c q seq with
  | none => d
  | some (x, r) =>
    if x.stuck || r.failed.isSome || !r.complete then d
    else match r.desc with
      | none => d
      | some y =>
        if y.next = 0 then
          d.modEntry c q seq fun z => { z with done := true, op := .dma { r with desc := none } }
        else if r.index = 4095 then d.dmaFault c q Code.DMA_CHAIN_LIMIT 0 x
        else d.setRun c q seq { nextAddr := y.next, index := r.index + 1 }

/-- The free bytes of the stream FIFOs that a descriptor fills (R116, R123). -/
def fifoSpace (d : Dev) (c : Nat) (y : DmaDesc) : Nat :=
  (dmaTargets c y).foldl (fun a t =>
    min a (65536 - (if y.dst < 0x0810000 then (d.core t).fifo0 else (d.core t).fifo1).length)) 65536

/-- Bytes appended to a stream FIFO of a core, but for the pad that its last STREAM passes (R117). -/
def fifoPush (d : Dev) (t : Nat) (second : Bool) (bs : List Byte) : Dev :=
  d.modCore t fun k =>
    if second then { k with fifo1 := k.fifo1 ++ bs.drop k.skip1, skip1 := k.skip1 - bs.length }
    else { k with fifo0 := k.fifo0 ++ bs.drop k.skip0, skip0 := k.skip0 - bs.length }

/-- The bytes that a descriptor has ready for its FIFO at the append position, up to n (R115). -/
def fifoReady (d : Dev) (c : Nat) (y : DmaDesc) (r : DmaRun) (n : Nat) : List Byte :=
  if y.srcSp then d.dmaSource c y r.appended (min n (y.total - r.appended))
  else (((List.range n).map fun k => NMap.get none r.buf (r.appended + k)).takeWhile Option.isSome).filterMap id

/-- R115, R116, R123: up to n further bytes appended, in order, to every target FIFO that has space for them; none
when a FIFO is full, or while a target core is copied (R85). R103: `ecc` is what the check bits of a source in a store
find. -/
def dmaAppend (d : Dev) (c q seq n : Nat) (ecc : Ecc) : Dev :=
  match d.dmaEntry c q seq with
  | none => d
  | some (x, r) =>
    match r.desc with
    | none => d
    | some y =>
      if x.stuck || r.failed.isSome || !y.toFifo || (dmaTargets c y).any d.copying then d
      else if y.srcSp && decide (ecc = .uncorrectable) then d.dmaFault c q Code.CORE_STORE_UNCORRECTABLE 0 x
      else
        let d := if y.srcSp then d.storeEcc c ecc else d
        let bs := d.fifoReady c y r (min n (d.fifoSpace c y))
        let r' := { r with
          appended := r.appended + bs.length
          got := if y.srcSp && !bs.isEmpty then r.got ++ [(r.appended, bs.length)] else r.got
          buf := (List.range bs.length).foldl (fun m k => NMap.set none m (r.appended + k) none) r.buf }
        let d := d.setRun c q seq r'
        (dmaTargets c y).foldl (fun d t => d.fifoPush t (decide (0x0810000 ≤ y.dst)) bs) d

/-- R262: data of a remote source arrives for a descriptor: into its store, towards its FIFO, or on to its global
destination. -/
def dmaArrive (d : Dev) (c q seq off : Nat) (bs : List Byte) : Dev :=
  match d.dmaEntry c q seq with
  | none => d
  | some (_, r) =>
    match r.desc with
    | none => d
    | some y =>
      if y.toFifo then
        d.setRun c q seq { r with
          got := r.got ++ [(off, bs.length)]
          buf := (List.range bs.length).foldl (fun m k => NMap.set none m (off + k) (some (bs.getD k 0))) r.buf }
      else if y.dstSp then (d.dmaStore c y off bs).setRun c q seq { r with got := r.got ++ [(off, bs.length)] }
      else if r.failed.isSome then d
      else match d.gasReach y.dstDev with
        | some code =>
          match d.dmaEntry c q seq with
          | some (x, _) => d.dmaRemote c q code y.dstDev y.dst x
          | none => d
        | none => d.dmaSendWrites c q seq y r.msg off bs

/-- R262: bytes of a descriptor acknowledged. -/
def dmaAcked (d : Dev) (c q seq off n : Nat) : Dev :=
  match d.dmaEntry c q seq with
  | none => d
  | some (_, r) => d.setRun c q seq { r with got := r.got ++ [(off, n)] }

/-- R141, R264, R269: a packet of a DMA ends with a code: the DMA faults at the first such failure. -/
def dmaPacketFailed (d : Dev) (r : Req) (code : Nat) : Dev :=
  let d := d.dropReq r
  match d.dmaEntry r.core r.queue r.seq with
  | none => d
  | some (x, run) =>
    if run.failed.isSome then d else d.dmaRemote r.core r.queue code r.pkt.dst r.pkt.addr x

end Dev
end Sys2Proof.Machine
end

