-- ==== Sys2Proof/Machine/Vector.lean ====
section
/-! DEFINITION. The vector unit (R119, R120, R192 to R196): the run of one vector operation, vector by vector. -/

namespace Sys2Proof.Machine

open Sys2Proof

/-- The operands of a VEC operation, its addresses resolved (R650). -/
structure VecArgs where
  op : Op
  ta : Nat
  tb : Nat
  td : Nat
  scalar : Nat
  len : Nat
  a : Nat
  b : Nat
  d : Nat
  deriving DecidableEq, Repr

/-- The bytes of a 256-lane vector of a type. -/
def vecBytes (t : Nat) : Nat := 256 * (elemFmt t).bytes

/-- A binary32 result converted to TD on exit (R189, R190): its bytes' number and NUM_OVERFLOW. -/
def vecExit (td r : Nat) : Nat × Bool := (elemFmt td).convert (val32 r)

namespace Dev

/-- Vector k of an operand, widened to binary32. -/
def vecIn (d : Dev) (c t addr k : Nat) : List Nat :=
  (vecElems t (d.rdStore c (addr + k * vecBytes t) (vecBytes t))).map (widen t)

/-- Vector k of D written: the results in binary32 are counted by the Spectrograph, converted to TD, stored and entered
into the write digest (R120, R205, R631). Answers whether a conversion saturated. -/
def vecOut (d : Dev) (c td addr k : Nat) (rs : List Nat) : Dev × Bool :=
  let w := (elemFmt td).bytes
  let row := addr + k * vecBytes td
  let outs := rs.map (vecExit td)
  let d := d.specAll c 1 ((List.range 256).map fun j => (row + w * j, val32 (rs.getD j 0)))
  let d := d.wrStore c row (outs.flatMap fun o => leBytes w o.1)
  (d.digestRange c row (vecBytes td), outs.any Prod.snd)

/-- R192 to R195: the results of vector k and whether NUM_INVALID arose. -/
def vecResult (d : Dev) (c : Nat) (v : VecArgs) (k : Nat) : List Nat × Bool :=
  let a := d.vecIn c v.ta v.a k
  if v.op.reducesLanes then
    let r := if v.op = .vlsum then treeFold add32 8 a else treeFold (fun x y => (max32 x y, false)) 8 a
    (r.1 :: List.replicate 255 0, r.2)
  else
    let b := if v.op.readsB then d.vecIn c v.tb v.b k else []
    let dd := if v.op = .vfma then d.vecIn c v.td v.d k else []
    let rs := (List.range 256).map fun j => vecLane v.op v.scalar (a.getD j 0) (b.getD j 0) (dd.getD j 0)
    (rs.map Prod.fst, rs.any Prod.snd)

/-- A fault of a vector entry with `done` vectors written (R140, R202). -/
def vecStop (d : Dev) (c code done : Nat) (x : Entry) : Dev :=
  d.coreFault c { code := code, queue := 2, thread := some x.thread, pc := x.pc, seq := x.seq, kind := 1, done := done }

/-- R120: the vectors from k on, `n` of them, each read, computed and written in turn. -/
def vecRun (d : Dev) (c : Nat) (x : Entry) (v : VecArgs) : Nat → Nat → Dev
  | _, 0 => d.modEntry c 2 x.seq fun y => { y with done := true }
  | k, n + 1 =>
    let r := d.vecResult c v k
    let o := d.vecOut c v.td v.d k r.1
    let e := o.1.numExc { core := c, queue := 2, thread := x.thread, pc := x.pc } { invalid := r.2, overflow := o.2 } k
    match e.2 with
    | some code => e.1.vecStop c code (k + 1) x
    | none => vecRun e.1 c x v (k + 1) n

/-- R193, R202: the combination of vectors 1 to LEN − 1 with vector 0, NUM_INVALID recorded for each input vector that
raised it. -/
def vecReduce (d : Dev) (c : Nat) (x : Entry) (v : VecArgs) : Nat → Nat → List Nat → Dev × List Nat × Option Nat
  | _, 0, acc => (d, acc, none)
  | k, n + 1, acc =>
    let a := d.vecIn c v.ta v.a k
    let rs := (List.range 256).map fun j =>
      if v.op = .vrsum then add32 (acc.getD j 0) (a.getD j 0) else (max32 (acc.getD j 0) (a.getD j 0), false)
    let e := d.numExc { core := c, queue := 2, thread := x.thread, pc := x.pc } { invalid := rs.any Prod.snd } k
    let r := vecReduce e.1 c x v (k + 1) n (rs.map Prod.fst)
    (r.1, r.2.1, match e.2 with
      | some code => some code
      | none => r.2.2)

/-- A VEC operation runs: whole, and then it is complete or has faulted (R103, R119, R120, R193, R199 to R203). -/
def startVec (d : Dev) (c : Nat) (x : Entry) (v : VecArgs) : Dev :=
  let d := d.modEntry c 2 x.seq fun y => { y with started := true }
  let d := d.storeEcc c x.ecc
  if x.ecc = .uncorrectable then d.vecStop c Code.CORE_STORE_UNCORRECTABLE 0 x
  else if v.op.reduces then
    let r := d.vecReduce c x v 1 (v.len - 1) (d.vecIn c v.ta v.a 0)
    let o := r.1.vecOut c v.td v.d 0 r.2.1
    let e := o.1.numExc { core := c, queue := 2, thread := x.thread, pc := x.pc } { overflow := o.2 } 0
    let stop := match r.2.2 with
      | some code => some code
      | none => e.2
    match stop with
    | some code => e.1.vecStop c code 1 x
    | none => e.1.modEntry c 2 x.seq fun y => { y with done := true }
  else d.vecRun c x v 0 v.len

end Dev
end Sys2Proof.Machine
end

