-- ==== Sys2Proof/Machine/Attn.lean ====
section
/-! DEFINITION. The attention stream unit (chapter 04): descriptors and their checks (R151 to R153), pages and map entries
(R148 to R150, R163), the three phases of a descriptor (R156), the online softmax (R159, R160), and the completion record
(R171). -/

namespace Sys2Proof.Machine

open Sys2Proof

/-- R151: an attention descriptor read from its 128 bytes. -/
def attnDescOf (b : List Byte) : AttnDesc :=
  let f (o n : Nat) : Nat := leNat ((b.drop o).take n)
  { map := f 0 8, mapKey := f 8 2, kvfmt := f 10 1 % 4, qtype := f 10 1 / 4 % 2, mask := f 11 1 % 4
    appendOnly := bitOf (f 11 1) 2, stats := bitOf (f 11 1) 3, unnorm := bitOf (f 11 1) 4, hint := f 12 1
    useCount := f 13 1, hq := f 14 1, npos := f 15 1, kvLen := f 16 4, qPos0 := f 20 4, kStart := f 24 4
    append := f 28 2, window := f 30 2, smscale := f 32 4, oscale := f 36 4, qAddr := f 40 4, qStride := f 44 2
    qCol := f 46 1, newCol := f 47 1, kNew := f 48 4, vNew := f 52 4, newStride := f 56 2, oStride := f 58 2
    oAddr := f 60 4, oCol := f 64 1, ofmt := f 65 1, statsAddr := f 68 4, work := f 72 4, next := f 76 4 }

namespace AttnDesc

/-- Bytes of an element of keys, values and queries. -/
def eb (x : AttnDesc) : Nat := if x.kvfmt = 2 then 2 else 1

/-- R148: tokens per page and row bytes. -/
def tokens (x : AttnDesc) : Nat := if x.kvfmt = 2 then 128 else 256
def rowB (x : AttnDesc) : Nat := 128 * x.eb

/-- The position after the last one attended. -/
def kEnd (x : AttnDesc) : Nat := x.kvLen + x.append

/-- The span of the work area (R152). -/
def workB (x : AttnDesc) : Nat := if x.kvfmt = 2 then 786432 else 393216

/-- Query columns in use (R155). -/
def cols (x : AttnDesc) : Nat := x.hq * x.npos

/-- R157: query column j attends key position k. -/
def attends (x : AttnDesc) (j k : Nat) : Bool :=
  let q := x.qPos0 + j % x.npos
  decide (x.kStart ≤ k) && decide (k < x.kEnd)
    && (decide (x.mask = 0) || (decide (k ≤ q) && (decide (x.mask ≠ 2) || decide (q - k < x.window))))

/-- R158: a block that starts at a position is masked for every column. -/
def skips (x : AttnDesc) (k0 : Nat) : Bool :=
  (List.range x.cols).all fun j => (List.range 128).all fun k => !x.attends j (k0 + k)

/-- R158: the first position at or after `k0` of a block that is not skipped. -/
def nextBlock (x : AttnDesc) : Nat → Nat → Option Nat
  | _, 0 => none
  | k0, n + 1 => if x.kEnd ≤ k0 then none else if x.skips k0 then nextBlock x (k0 + 128) n else some k0

/-- R158: the block to process next. -/
def blockAt (x : AttnDesc) (k0 : Nat) : Option Nat := x.nextBlock k0 ((x.kEnd - k0 + 127) / 128)

/-- The positions of a block. -/
def blockLen (x : AttnDesc) (k0 : Nat) : Nat := min 128 (x.kEnd - k0)

end AttnDesc

/-- R151 to R153: whether a descriptor is refused with DMA_BAD_DESC. With APPEND_ONLY the fields that only the other
phases use are not looked at (R156). -/
def attnBadDesc (b : List Byte) : Bool :=
  let x := attnDescOf b
  let f (o n : Nat) : Nat := leNat ((b.drop o).take n)
  let attend := !x.appendOnly
  decide (8 ≤ f 10 1) || decide (32 ≤ f 11 1) || decide (f 66 2 ≠ 0) || decide (f 80 48 ≠ 0)
  || decide (x.map % 16 ≠ 0) || decide (x.kvfmt = 3) || decide (128 < x.append)
  || decide (x.newStride % 64 ≠ 0) || decide (x.newStride < 128 * x.eb)
  || decide (x.kNew % 64 ≠ 0) || decide (x.vNew % 64 ≠ 0) || decide (128 < x.newCol + x.append)
  || decide (16777216 < x.kEnd) || decide (x.next % 64 ≠ 0) || decide (storeArea x.next 128 = some .cluster)
  || (attend && (
      decide (x.work % 64 ≠ 0) || decide (storeArea x.work x.workB = some .cluster)
      || (decide (x.qtype = 1) && decide (x.kvfmt = 2)) || decide (x.mask = 3) || (x.unnorm && !x.stats)
      || decide (3 ≤ x.hint) || (decide (x.hint = 2) && decide (x.useCount = 0))
      || (decide (x.hint ≠ 2) && decide (x.useCount ≠ 0))
      || decide (x.hq = 0) || decide (128 < x.hq) || decide (x.npos = 0) || decide (128 < x.npos)
      || decide (128 < x.cols) || decide (x.kStart % 128 ≠ 0) || decide (x.kEnd < x.kStart)
      || (decide (x.mask = 2) && decide (x.window = 0)) || (decide (x.mask ≠ 2) && decide (x.window ≠ 0))
      || decide (x.qAddr % 64 ≠ 0) || decide (x.qStride % 64 ≠ 0) || decide (x.qStride < 128 * x.eb)
      || decide (128 < x.qCol + x.npos) || decide (128 < x.oCol + x.npos) || decide (4 ≤ x.ofmt)
      || decide (x.oStride % 64 ≠ 0) || decide (x.oStride < 128 * (elemFmt x.ofmt).bytes) || decide (x.oAddr % 64 ≠ 0)
      || decide (x.statsAddr % 64 ≠ 0) || (!x.stats && decide (x.statsAddr ≠ 0))))

/-- R99, R153: whether a store address that a descriptor names is refused with CORE_BAD_ADDR: the address itself, and
the range that the descriptor uses from it. -/
def attnBadAddr (x : AttnDesc) : Bool :=
  let new := if x.append = 0 then 1 else rowSpan 128 x.rowB x.newStride
  (decide (x.next ≠ 0) && !storeOk x.next 128) || !storeOk x.kNew new || !storeOk x.vNew new
  || (!x.appendOnly && (
      !storeOk x.work x.workB
      || !storeOk x.qAddr (rowSpan (128 * x.hq) x.rowB x.qStride)
      || !storeOk x.oAddr (rowSpan (128 * x.hq) (128 * (elemFmt x.ofmt).bytes) x.oStride)
      || (x.stats && !storeOk x.statsAddr 1024)))

/-- R13: whether a local offset lies in HBM, as a map or a page must. -/
def inHbmRange (o : Nat) : Bool := decide (o < 0x9000000000)

/-- R150: a map entry's page address and key; none when it is malformed. -/
def mapEntryOf (b : List Byte) : Option (Nat × Nat) :=
  let f (o n : Nat) : Nat := leNat ((b.drop o).take n)
  if f 10 1 ≠ 1 ∨ f 11 5 ≠ 0 ∨ f 0 2 ≠ 0 ∨ !inHbmRange (f 0 8 % 2 ^ 46) then none else some (f 0 8, f 8 2)

/-- −∞ in binary32. -/
def negInf32 : Nat := Fmt.b32.infBits true

/-- R160: a probability converted: its bits in the engine's format. -/
def convertP (bf : Bool) (p : Nat) : Nat := ((if bf then Fmt.bf16 else Fmt.e4m3).convert (val32 p)).1

/-- R159: one column over the scores of a block: the new m, a, the converted p's, the new l, and NUM_INVALID; none when
the column passes the block over. -/
def attnColumn (bf : Bool) (col : AttnCol) (s : List Nat) (masked : List Bool) :
    Option (Nat × Nat × List Nat × Nat × Bool) :=
  let mb := s.foldl max32 negInf32
  if mb = negInf32 then none
  else
    let mn := max32 col.m mb
    let e (v : Nat) : Nat × Bool :=
      let t := add32 v (neg32 mn)
      let r := exp32 t.1
      (r.1, t.2 || r.2)
    let a := if col.m = negInf32 then (0, false) else e col.m
    let ps := (s.zip masked).map fun v => if v.2 then (0, false) else
      let r := e v.1
      (convertP bf r.1, r.2)
    let wid (p : Nat) : Nat := round32 ((if bf then Fmt.bf16 else Fmt.e4m3).decode p)
    let al := mul32 a.1 col.l
    let sum := match ps with
      | [] => (0, false)
      | p :: rest => rest.foldl (fun (acc : Nat × Bool) (q : Nat × Bool) =>
        let r := add32 acc.1 (wid q.1)
        (r.1, acc.2 || r.2)) (wid p.1, false)
    let l := add32 al.1 sum.1
    some (mn, a.1, ps.map Prod.fst, l.1, a.2 || al.2 || sum.2 || l.2 || ps.any Prod.snd)

/-- R159: o of a column after a block. -/
def attnOut (a : Nat) (o pv : List Nat) : List Nat × Bool :=
  let rs := (List.range 128).map fun k =>
    let t := mul32 a (o.getD k 0)
    let r := add32 t.1 (pv.getD k 0)
    (r.1, t.2 || r.2)
  (rs.map Prod.fst, rs.any Prod.snd)

/-- R159: the normalised outputs of a column. -/
def attnFinal (unnorm : Bool) (oscale : Nat) (col : AttnCol) : List Nat × Bool :=
  let scale : Nat × Bool :=
    if unnorm then (oscale, false)
    else
      let r := recip32 col.l
      let m := mul32 r.1 oscale
      (m.1, r.2 || m.2)
  if !unnorm && (val32 col.l).isZero then (List.replicate 128 0, false)
  else
    let rs := col.o.map fun v => mul32 v scale.1
    (rs.map Prod.fst, scale.2 || rs.any Prod.snd)

namespace Dev

def attnRun (d : Dev) (c : Nat) : Option AttnRun := (d.core c).attn

def setAttn (d : Dev) (c : Nat) (r : AttnRun) : Dev := d.modCore c fun k => { k with attn := some r }

/-- The entry of queue 3 that the attention stream unit runs. -/
def attnEntry (d : Dev) (c : Nat) : Option Entry :=
  (d.queue c 3).find? fun x => x.started && !x.done && !x.stuck

/-- R171: the completion record's phase. -/
def attnPhase (d : Dev) (c p : Nat) : Dev := d.sf F.CORE_ATTN_REC.PHASE p c

/-- R66, R146: the engines of a core hold no valid tile when an ATTN ends. -/
def dropTiles (d : Dev) (c : Nat) : Dev :=
  let drop (g : Engine) : Engine := { g with tile := none }
  (d.modEngine c 0 drop).modEngine c 1 drop

/-- R137, R140, R171: an ATTN faults with a cause, a code and the code of another class. A tile that the unit has
loaded goes; one that the program loaded stays valid until then (DESIGN CHOICE, log entry 21). -/
def attnFault (d : Dev) (c cause code detail : Nat) (x : Entry) : Dev :=
  let d := d.sf F.CORE_ATTN_REC.CAUSE cause c
  let d := match d.attnRun c with
    | some r => if r.loaded then d.dropTiles c else d
    | none => d
  let d := d.modCore c fun k => { k with attn := k.attn.map fun r => { r with faulted := true } }
  d.coreFault c { code := code, detail := detail, queue := 3, thread := some x.thread, pc := x.pc, seq := x.seq, kind := 4 }

/-- R167, R282: a read or an append of an ATTN failed with a code. -/
def attnRemote (d : Dev) (c code dst addr : Nat) (x : Entry) : Dev :=
  let d := d.logGas code c dst addr x.seq
  let d := if code = Code.GAS_TIMEOUT then d.accuse dst 1 0xFFFF else d
  d.attnFault c 4 Code.DMA_REMOTE_ERROR code x

/-- R146: an ATTN starts: its unit holds both engines from here on. -/
def startAttn (d : Dev) (c : Nat) (x : Entry) (addr : Nat) : Dev :=
  let d := (d.modEntry c 3 x.seq fun y => { y with started := true }).setReg ⟨.CORE_ATTN_REC, c, 0, 0⟩ 0
  (d.attnPhase c 1).setAttn c { seq := x.seq, thread := x.thread, pc := x.pc, nextAddr := addr }

/-- R146: slots 3840 to 4095 of both engines are the unit's. -/
def takeSlots (d : Dev) (c : Nat) : Dev :=
  let k := d.freeIx
  let take (g : Engine) : Engine := (List.range 256).foldl (fun g j => g.setSlot (3840 + j) (Slot.unspecified k (3840 + j))) g
  (d.draw.modEngine c 0 take).modEngine c 1 take

/-- Bytes that reads have brought in, if all of a range is there. -/
def attnBytes (r : AttnRun) (a n : Nat) : Option (List Byte) :=
  let l := (List.range n).map fun k => NMap.get none r.work (a + k)
  if l.all Option.isSome then some (l.filterMap id) else none

/-- A unit that has faulted asks for nothing more (R171). -/
def attnDead (d : Dev) (c : Nat) : Bool :=
  match d.attnRun c with
  | some r => r.faulted
  | none => true

/-- R167: a bulk read of an ATTN sent in packets. An unreachable device, and a range outside HBM, fail it. -/
def attnRead (d : Dev) (c : Nat) (x : Entry) (kind : ReqKind) (addr n key hint use : Nat) : Dev :=
  let dst := addr / 2 ^ 46
  if d.attnDead c then d
  else match d.gasReach dst with
    | some code => d.attnRemote c code dst addr x
    | none =>
      if !inHbmRange (addr % 2 ^ 46) then d.attnRemote c Code.GAS_ADDR_ERROR dst addr x
      else
        let (m, d) := d.takeMsg
        (dmaPieces addr n 0 0 n n).foldl (fun d pc =>
          d.issue
            { kind := kind, core := c, thread := x.thread, seq := x.seq, queue := 3
              pkt := { d.packet PT.dmaRead 2 dst with
                addr := pc.2.1, key := key, length := pc.2.2, offset := pc.1, total := n, msg := m, route := 1
                last := decide (pc.1 + pc.2.2 = n), hint := hint, useCount := use } }) d

/-- R150: the 64-byte line of the map that holds entry n. -/
def mapLine (y : AttnDesc) (n : Nat) : Nat := (y.map + 16 * n) / 64

/-- R150, R164, R166: the map line that holds entry n is asked for, once. -/
def attnAskMap (d : Dev) (c : Nat) (x : Entry) (y : AttnDesc) (n : Nat) : Dev :=
  match d.attnRun c with
  | none => d
  | some r =>
    let l := mapLine y n
    if r.faulted || r.askedMap.contains l then d
    else (d.setAttn c { r with askedMap := r.askedMap ++ [l] }).attnRead c x .attnMap (64 * l) 64 y.mapKey 1 0

/-- R158, R163: the attend phase needs map entry n for a block from a position on. -/
def needsEntry (y : AttnDesc) (k0 n : Nat) : Bool :=
  (List.range (y.tokens / 128)).any fun i =>
    let k := n * y.tokens + 128 * i
    decide (k0 ≤ k) && decide (k < y.kEnd) && !y.skips k

/-- The map entries that a range of positions needs. -/
def entriesOf (y : AttnDesc) (lo hi : Nat) : List Nat :=
  if hi ≤ lo then [] else (List.range ((hi - 1) / y.tokens - lo / y.tokens + 1)).map fun i => lo / y.tokens + i

/-- The first blocks, at most n, from a position on. -/
def blocksFrom (y : AttnDesc) : Nat → Nat → List Nat
  | _, 0 => []
  | k0, n + 1 => match y.blockAt k0 with
    | some k => k :: blocksFrom y (k + 128) n
    | none => []

/-- The page address and the key of the entry that holds a position, once it has been read. -/
def pageOf (r : AttnRun) (y : AttnDesc) (k : Nat) : Option (Nat × Nat) :=
  (r.entries.find? fun e => decide (e.1 = k / y.tokens)).map Prod.snd

/-- R166: in the attend phase, the map entries that a block needs are asked for up to 16 ahead of the next block's,
and the key and value rows of up to eight blocks whose entries are known. DESIGN CHOICE (log entry 23): the blocks of
a descriptor are read ahead from its start on. -/
def attnAhead (d : Dev) (c : Nat) (x : Entry) (y : AttnDesc) : Dev :=
  match d.attnRun c with
  | none => d
  | some r =>
    let bs := blocksFrom y r.nextKey 8
    let first := bs.headD r.nextKey / y.tokens
    let d := (((List.range 16).map fun i => first + i).filter (needsEntry y r.nextKey)).foldl (fun d n => d.attnAskMap c x y n) d
    bs.foldl (fun d k =>
      match d.attnRun c with
      | none => d
      | some r =>
        if r.faulted || r.askedKeys.contains k then d
        else match pageOf r y k with
          | none => d
          | some p =>
            let n := y.blockLen k * y.rowB
            let a := p.1 + k % y.tokens * y.rowB
            let d := d.setAttn c { r with askedKeys := r.askedKeys ++ [k] }
            let d := d.attnRead c x .attnPage a n p.2 y.hint y.useCount
            d.attnRead c x .attnPage (a + 0x8000) n p.2 y.hint y.useCount) d

/-- R146, R156, R170: the descriptor is complete: the chain moves on, ends, or faults at its 4097th. The work area,
which APPEND_ONLY leaves alone, is unspecified from here on (R154). -/
def attnNext (d : Dev) (c : Nat) (x : Entry) (r : AttnRun) (y : AttnDesc) : Dev :=
  let d := if y.appendOnly then d else d.looseCore (c * 2 ^ 23 + y.work) y.workB
  if y.next = 0 then d.modEntry c 3 x.seq fun z => { z with done := true }
  else if r.index = 4095 then (d.attnPhase c 5).attnFault c 5 Code.DMA_CHAIN_LIMIT 0 x
  else
    let d := d.setReg ⟨.CORE_ATTN_REC, c, 0, 0⟩ 0
    let d := (d.sf F.CORE_ATTN_REC.DESC (r.index + 1) c).attnPhase c 1
    d.setAttn c
      { seq := r.seq, thread := r.thread, pc := r.pc, nextAddr := y.next, index := r.index + 1, total := r.total, loaded := r.loaded }

/-- R153, R156, R163: the unit reads and checks the next descriptor; the append phase asks for the map entries it
needs. -/
def attnStart (d : Dev) (c : Nat) (ecc : Ecc) : Dev :=
  match d.attnEntry c, d.attnRun c with
  | some x, some r =>
    if r.desc.isSome || r.faulted then d
    else
      let d := d.storeEcc c ecc
      if ecc = .uncorrectable then d.attnFault c 0 Code.CORE_STORE_UNCORRECTABLE 0 x
      else
        let b := d.rdStore c r.nextAddr 128
        let y := attnDescOf b
        if attnBadDesc b then d.attnFault c 1 Code.DMA_BAD_DESC 0 x
        else if attnBadAddr y then d.attnFault c 3 Code.CORE_BAD_ADDR 0 x
        else
          let cols := List.replicate 128 { m := negInf32, l := 0, o := List.replicate 128 0 : AttnCol }
          let d := d.setAttn c { r with desc := some y, nextKey := y.kStart, cols := cols, appended := false }
          (entriesOf y y.kvLen y.kEnd).foldl (fun d n => d.attnAskMap c x y n) (d.attnPhase c 2)
  | _, _ => d

/-- The bytes of one appended token, of its key row or its value row: features of column NEW_COL + i (R154). -/
def newRow (d : Dev) (c : Nat) (y : AttnDesc) (base i : Nat) : List Byte :=
  (List.range 128).flatMap fun k => d.rdStore c (base + k * y.newStride + (y.newCol + i) * y.eb) y.eb

/-- The append writes of an ATTN that are not acknowledged yet. -/
def attnUnacked (d : Dev) (c : Nat) : List Req :=
  d.reqs.filter fun r => decide (r.core = c) && decide (r.kind = .attnAppend)

/-- R156: one row of an appended token is written. -/
def attnPut (d : Dev) (c : Nat) (x : Entry) (y : AttnDesc) (a key : Nat) (bs : List Byte) : Dev :=
  let dst := a / 2 ^ 46
  if d.attnDead c then d
  else match d.gasReach dst with
    | some code => d.attnRemote c code dst a x
    | none =>
      let (m, d) := d.takeMsg
      let (n, d) := d.takeDseq c dst
      d.issue
        { kind := .attnAppend, core := c, thread := x.thread, seq := x.seq, queue := 3
          pkt := { d.packet PT.dmaWrite 2 dst with
            addr := a, key := key, length := y.rowB, offset := 0, total := y.rowB, msg := m
            dseq := n, last := true, route := 1, payload := bs } }

/-- R156, R165: the key row and the value row of the next appended token are written. -/
def attnToken (d : Dev) (c : Nat) (x : Entry) (y : AttnDesc) : Dev :=
  match d.attnRun c with
  | none => d
  | some r =>
    let k := y.kvLen + r.appendAt
    match pageOf r y k, r.newRows[r.appendAt]? with
    | some p, some row =>
      let a := p.1 + k % y.tokens * y.rowB
      let d := d.setAttn c { r with appendAt := r.appendAt + 1 }
      (d.attnPut c x y a p.2 row.1).attnPut c x y (a + 0x8000) p.2 row.2
    | _, _ => d

/-- R103, R156, R163: once every map entry it needs is known, the append phase reads the new rows and begins to write.
-/
def attnAppend (d : Dev) (c : Nat) (x : Entry) (y : AttnDesc) (ecc : Ecc) : Dev :=
  match d.attnRun c with
  | none => d
  | some r =>
    if r.appendSent || r.faulted || !(entriesOf y y.kvLen y.kEnd).all (fun n => r.entries.any fun e => decide (e.1 = n))
    then d
    else
      let d := if y.append = 0 then d else d.storeEcc c ecc
      if y.append ≠ 0 ∧ ecc = .uncorrectable then d.attnFault c 0 Code.CORE_STORE_UNCORRECTABLE 0 x
      else
        let rows := (List.range y.append).map fun i => (d.newRow c y y.kNew i, d.newRow c y y.vNew i)
        (d.setAttn c { r with appendSent := true, newRows := rows }).attnToken c x y

/-- R156, R171: the writes of a token are acknowledged: APPEND_DONE counts it, and the next one is written. -/
def attnTokens (d : Dev) (c : Nat) : Dev :=
  match d.attnEntry c, d.attnRun c with
  | some x, some r =>
    match r.desc with
    | none => d
    | some y =>
      if r.faulted || !(d.attnUnacked c).isEmpty then d
      else (d.sf F.CORE_ATTN_REC.APPEND_DONE r.appendAt c).attnToken c x y
  | _, _ => d

/-- R150, R163, R164: a page-map entry has arrived and is checked; a malformed one faults the ATTN before any write or
read of its page. An entry that only the attend phase needs is checked once the append phase has ended. -/
def attnEntryRead (d : Dev) (c n : Nat) (ecc : Ecc) : Dev :=
  match d.attnEntry c, d.attnRun c with
  | some x, some r =>
    match r.desc with
    | none => d
    | some y =>
      let need := if r.appended then needsEntry y r.nextKey n else (entriesOf y y.kvLen y.kEnd).contains n
      if r.faulted || !need || r.entries.any (fun e => decide (e.1 = n)) then d
      else match attnBytes r (y.map + 16 * n) 16 with
        | none => d
        | some b =>
          match mapEntryOf b with
          | none => d.attnFault c 2 Code.DMA_BAD_DESC 0 x
          | some p =>
            let d := d.setAttn c { r with entries := r.entries ++ [(n, p.1, p.2)] }
            if r.appended then d.attnAhead c x y else d.attnAppend c x y ecc
  | _, _ => d

/-- R156: every appended byte has been written and acknowledged: the attend phase begins, or with APPEND_ONLY the
descriptor is complete. -/
def attnAppended (d : Dev) (c : Nat) : Dev :=
  match d.attnEntry c, d.attnRun c with
  | some x, some r =>
    match r.desc with
    | none => d
    | some y =>
      if r.faulted || r.appended || decide (r.appendAt ≠ y.append) || !(d.attnUnacked c).isEmpty then d
      else
        let d := d.sf F.CORE_ATTN_REC.APPEND_DONE y.append c
        if y.appendOnly then d.attnNext c x r y
        else ((d.attnPhase c 3).setAttn c { r with appendSent := true, appended := true }).attnAhead c x y
  | _, _ => d

/-- R155: the stationary query tile. -/
def queryTile (d : Dev) (c : Nat) (y : AttnDesc) : List (List Byte) :=
  (List.range 128).map fun f => (List.range 128).flatMap fun j =>
    if j < y.cols then d.rdStore c (y.qAddr + (128 * (j / y.npos) + f) * y.qStride + (y.qCol + j % y.npos) * y.eb) y.eb
    else List.replicate y.eb 0

/-- The streamed format of a KV format (R148, R155). -/
def kvStreamFmt (kvfmt : Nat) : Nat := if kvfmt = 2 then 8 else kvfmt

/-- The rows of a block: `n` rows of keys or values from a global address on. -/
def blockRows (y : AttnDesc) (bs : List Byte) : List (List Byte) :=
  (List.range (bs.length / y.rowB)).map fun k => (bs.drop (k * y.rowB)).take y.rowB

/-- What a block gives: the columns, whether NUM_INVALID arose, and the probability tile. -/
structure BlockOut where
  cols : List AttnCol
  bad : Bool
  ptile : List (List Byte)
  deriving DecidableEq, Repr

/-- R159, R160, R199: a block of keys and values through the online softmax of every column. -/
def softmaxBlock (y : AttnDesc) (q : List (List Byte)) (k0 : Nat) (cols : List AttnCol) (keys vals : List (List Byte)) : BlockOut :=
  let bf := decide (y.kvfmt = 2)
  let mode := if bf then 3 else 1
  let fmt := kvStreamFmt y.kvfmt
  let scores := keys.map fun r => outputColumn mode (if bf then 0 else y.qtype) q (rowElems fmt r)
  let steps := (List.range y.cols).map fun j =>
    let raw := scores.map fun s => mul32 (s.1.getD j 0) y.smscale
    let masked := (List.range keys.length).map fun k => !y.attends j (k0 + k)
    let s := (raw.zip masked).map fun v => if v.2 then negInf32 else v.1.1
    let bad := (raw.zip masked).any fun v => v.1.2 && !v.2
    (attnColumn bf (cols.getD j ⟨negInf32, 0, []⟩) s masked, bad)
  let ptile := (List.range 128).map fun k => (List.range 128).flatMap fun j =>
    leBytes y.eb (match (steps.getD j (none, false)).1 with
      | some r => r.2.2.1.getD k 0
      | none => 0)
  let pvs := (List.range 128).map fun f =>
    let row := (List.range 128).flatMap fun k =>
      if k < vals.length then ((vals.getD k []).drop (f * y.eb)).take y.eb else List.replicate y.eb 0
    outputColumn mode 0 ptile (rowElems fmt row)
  let outs := (List.range 128).map fun j =>
    let col := cols.getD j ⟨negInf32, 0, []⟩
    match (steps.getD j (none, false)).1 with
    | some r =>
      let o := attnOut r.2.1 col.o (pvs.map fun p => p.1.getD j 0)
      ({ m := r.1, l := r.2.2.2.1, o := o.1 : AttnCol }, r.2.2.2.2 || o.2)
    | none => (col, false)
  { cols := outs.map Prod.fst, ptile := ptile
    bad := scores.any Prod.snd || steps.any Prod.snd || pvs.any Prod.snd || outs.any Prod.snd }

/-- R105, R121: an engine entry of the unit, which carries the ATTN's sequence number, has retired from its queue
(DESIGN CHOICE, log entry 24: its entries come and go within the command of their block). -/
def unitRetires (d : Dev) (c q seq n : Nat) : Dev :=
  (d.sf F.CORE_QUEUE_q_DONE.LAST_SEQ seq c q).incr F.CORE_QUEUE_q_CNT.RETIRED n c q

/-- R121, R155, R168: the engine entries of a block: LOADS of the query tile with the descriptor's first block and a
STREAM of the key rows on engine 0, LOADS of the probability tile and a STREAM of 128 value rows on engine 1. -/
def unitEntries (d : Dev) (c : Nat) (r : AttnRun) (y : AttnDesc) (q ptile : List (List Byte)) (rows : Nat) : Dev :=
  let mode := if y.kvfmt = 2 then 3 else 1
  let d := if r.loaded then d else d.takeSlots c
  let d := if r.query.isSome then d else d.loadTile c 0 { mode := mode, etype := if mode = 3 then 0 else y.qtype, rows := q }
  let d := d.loadTile c 1 { mode := mode, etype := 0, rows := ptile }
  let d := (d.incr F.ENG_ROWS_CNT.ROWS rows (2 * c)).incr F.ENG_ROWS_CNT.ROWS 128 (2 * c + 1)
  (d.unitRetires c 0 r.seq (if r.query.isSome then 1 else 2)).unitRetires c 1 r.seq 2

/-- R158, R159, R103, R199 to R202: the next block is processed once its rows are in the work area; until then the
unit waits and counts. -/
def attnBlock (d : Dev) (c : Nat) (ecc : Ecc) : Dev :=
  match d.attnEntry c, d.attnRun c with
  | some x, some r =>
    match r.desc with
    | none => d
    | some y =>
      if r.faulted || !r.appended then d
      else match y.blockAt r.nextKey with
        | none => d
        | some k0 =>
          let bytes := match pageOf r y k0 with
            | none => none
            | some p =>
              let a := p.1 + k0 % y.tokens * y.rowB
              let n := y.blockLen k0 * y.rowB
              match attnBytes r a n, attnBytes r (a + 0x8000) n with
              | some kb, some vb => some (kb, vb)
              | _, _ => none
          match bytes with
          | none => d.incr F.CORE_ATTN_STARVE_CNT.CYCLES 1 c
          | some (kb, vb) =>
            let d := d.storeEcc c ecc
            if ecc = .uncorrectable then d.attnFault c 0 Code.CORE_STORE_UNCORRECTABLE 0 x
            else
              let q := r.query.getD (d.queryTile c y)
              let o := softmaxBlock y q k0 r.cols (blockRows y kb) (blockRows y vb)
              let d := d.unitEntries c r y q o.ptile (y.blockLen k0)
              let d := d.setAttn c { r with
                cols := o.cols, blocks := r.blocks + 1, total := r.total + 1, nextKey := k0 + 128, query := some q, loaded := true }
              let d := (d.sf F.CORE_ATTN_REC.BLOCKS_DONE (r.blocks + 1) c).incr F.CORE_ATTN_BLOCKS_CNT.BLOCKS 1 c
              let (d, stop) := d.numExc { core := c, queue := 3, thread := x.thread, pc := x.pc } { invalid := o.bad } r.total
              match stop with
              | some code => d.attnFault c 6 code 0 x
              | none => d.attnAhead c x y
  | _, _ => d

/-- R631: the aligned words that a byte range touches, entered into the write digest. -/
def digestTouched (d : Dev) (c a n : Nat) : Dev :=
  (List.range ((a + n + 7) / 8 - a / 8)).foldl (fun d k => d.digestWord c (8 * (a / 8 + k))) d

/-- R154, R159, R189, R205, R631: the output rows of a descriptor written: element p of feature f of head h. Answers
whether a conversion saturated and whether NUM_INVALID arose. -/
def attnWrite (d : Dev) (c : Nat) (y : AttnDesc) (cols : List AttnCol) : Dev × Bool × Bool :=
  let w := (elemFmt y.ofmt).bytes
  let fin := cols.map (attnFinal y.unnorm y.oscale)
  let r := (List.range y.hq).foldl (fun a h =>
    (List.range 128).foldl (fun a f =>
      let row := y.oAddr + (128 * h + f) * y.oStride + y.oCol * w
      let vs := (List.range y.npos).map fun p => ((fin.getD (h * y.npos + p) ([], false)).1).getD f 0
      let outs := vs.map (vecExit y.ofmt)
      let d := a.1.specAll c 3 ((List.range y.npos).map fun p => (row + w * p, val32 (vs.getD p 0)))
      let d := (d.wrStore c row (outs.flatMap fun o => leBytes w o.1)).digestTouched c row (w * y.npos)
      (d, a.2 || outs.any Prod.snd)) a) (d, false)
  (r.1, r.2, (List.range y.cols).any fun j => (fin.getD j ([], false)).2)

/-- R162: the statistics of all 128 columns written. -/
def attnStats (d : Dev) (c : Nat) (y : AttnDesc) (cols : List AttnCol) : Dev :=
  let at_ (j : Nat) : AttnCol := if j < y.cols then cols.getD j ⟨negInf32, 0, []⟩ else ⟨negInf32, 0, []⟩
  let bs := ((List.range 128).flatMap fun j => leBytes 4 (at_ j).m) ++ (List.range 128).flatMap fun j => leBytes 4 (at_ j).l
  (d.wrStore c y.statsAddr bs).digestRange c y.statsAddr 1024

/-- R156, R159, R162, R170, R199, R202: after the last block, the outputs and statistics are written and the
descriptor is complete. -/
def attnOutput (d : Dev) (c : Nat) : Dev :=
  match d.attnEntry c, d.attnRun c with
  | some x, some r =>
    match r.desc with
    | none => d
    | some y =>
      if r.faulted || !r.appended || (y.blockAt r.nextKey).isSome then d
      else
        let d := d.attnPhase c 4
        let o := d.attnWrite c y r.cols
        let d := if y.stats then o.1.attnStats c y r.cols else o.1
        let (d, stop) := d.numExc { core := c, queue := 3, thread := x.thread, pc := x.pc }
          { overflow := o.2.1, invalid := o.2.2 } r.index
        match stop with
        | some code => d.attnFault c 6 code 0 x
        | none => d.attnNext c x r y
  | _, _ => d

/-- R167: bytes of a read of an ATTN arrive. -/
def attnArrive (d : Dev) (c addr : Nat) (bs : List Byte) : Dev :=
  match d.attnRun c with
  | none => d
  | some r => d.setAttn c { r with
      work := (List.range bs.length).foldl (fun m k => NMap.set none m (addr + k) (some (bs.getD k 0))) r.work }

end Dev
end Sys2Proof.Machine
end

