-- ==== Sys2Proof/Machine/HlkLink.lean ====
section
/-! DEFINITION. Sending on the Perdun link (R480, R482, R483): flits and credits, link sequence numbers, messages that wait,
and the replies the AK20 makes; the rest of chapter 13 stands in Hlk.lean. -/

namespace Sys2Proof.Machine

open Sys2Proof

/-- R480: the classes of a message. -/
def HC.req : Nat := 0
def HC.snp : Nat := 1
def HC.rsp : Nat := 2
def HC.ctl : Nat := 3

/-- R480: the flits of a message. RD_UNCACHED's LENGTH asks for bytes and brings none. -/
def hlkFlits (m : HlkMsg) : Nat := 1 + (m.payload.length + 63) / 64

namespace Dev

/-- R477: the link is in service: up, or in keep-alive (R497). -/
def hlkUp (d : Dev) : Bool := decide (d.gf F.HLK_STAT.STATE = 3) || decide (d.gf F.HLK_STAT.STATE = 4)

/-- R507: a Perdun code: the last one is kept in HLK_STAT and each goes to the logbook. -/
def logHlk (d : Dev) (code d0 d1 : Nat) : Dev :=
  (d.sf F.HLK_STAT.LAST_CODE code).logAt code dieM 0xFFFF d0 d1

/-- The next request tag (R480). -/
def takeTag (d : Dev) : Nat × Dev :=
  (d.hlk.nextTag % 4096, { d with hlk := { d.hlk with nextTag := d.hlk.nextTag + 1 } })

/-- R483: the bytes of the messages that the other side has not acknowledged. -/
def hlkHeld (d : Dev) : Nat := (d.hlk.unacked.map fun m => 64 * hlkFlits m).sum

/-- R482, R483: a message may be sent now. -/
def hlkMay (d : Dev) (m : HlkMsg) : Bool :=
  decide (hlkFlits m ≤ d.hlk.credits.getD m.cls 0) && decide (d.hlkHeld < 8 * 2 ^ 20)

/-- The host ports in service (HLK_STAT PORTS_UP). -/
def hostPorts (d : Dev) : List Nat := [8, 9].filter fun n => bitOf (d.gf F.HLK_STAT.PORTS_UP) (n - 8)

/-- R477: the flits of a message are striped across the host ports in service, one after the other (DESIGN CHOICE, log
entry 45). -/
def stripe (d : Dev) (m : HlkMsg) : Dev :=
  match d.hostPorts with
  | [] => d
  | p :: ps => m.stream.foldl (fun d f =>
      let h := d.hlk
      let n := (p :: ps).getD (h.striped % (ps.length + 1)) p
      { d with hlk := { h with
        out := NMap.set [] h.out n (NMap.get [] h.out n ++ [f]), striped := h.striped + 1
        crossed := if h.crossed.contains (m.lseq, n) then h.crossed else h.crossed ++ [(m.lseq, n)] } }) d

/-- R480, R482, R483: a message sent: it takes its credits, its LSEQ and the LACK of the moment, and is kept until the
other side acknowledges it. -/
def hlkOut (d : Dev) (m : HlkMsg) : Dev :=
  let h := d.hlk
  let m := { m with lseq := h.txNext % 2 ^ 32, lack := (h.rxNext + 2 ^ 32 - 1) % 2 ^ 32 }
  let credits := h.credits.set m.cls (h.credits.getD m.cls 0 - hlkFlits m)
  let h := { h with txNext := h.txNext + 1, unacked := h.unacked ++ [m], credits := credits }
  ({ d with hlk := h }.stripe m).incr F.HLK_TX_CNT.FLITS (hlkFlits m)

/-- R483: host port n has left service: every unacknowledged message of which a flit crossed it is sent again over the
other, with its LSEQ unchanged. -/
def resendCrossed (d : Dev) (n : Nat) : Dev :=
  let lost := d.hlk.unacked.filter fun m => d.hlk.crossed.contains (m.lseq, n)
  let d := { d with hlk := { d.hlk with
    out := NMap.set [] d.hlk.out n [], crossed := d.hlk.crossed.filter fun x => decide (x.2 ≠ n) } }
  if lost.isEmpty then d
  else lost.foldl stripe ((d.bump F.HLK_ERR_CNT.RESEND_CNT F.HLK_ERR_CNT.RESEND_SAT lost.length).incr F.HLK_TX_CNT.FLITS
    ((lost.map hlkFlits).sum))

/-- R478, R479: the AK20's HELLO. It is sent before any credit is held. -/
def sendHello (d : Dev) : Dev :=
  let vectors := if d.on F.INT_CFG.WIDE then d.gf F.INT_CFG.VECTORS else 0
  d.hlkOut
    { cls := HC.ctl, op := 1, length := 64
      payload := leBytes 4 1 ++ leBytes 16 Config.moduleSerial.toNat ++ leBytes 2 2048 ++ leBytes 2 512 ++ leBytes 2 4096
        ++ leBytes 2 64 ++ leBytes 10 0 ++ leBytes 1 vectors ++ leBytes 25 0 }

/-- R482, R484: the waiting messages in order: one is sent when its credits are held and no earlier message of its class
waits. -/
def hlkPumpList (d : Dev) (blocked : List Nat) : List HlkMsg → Dev × List HlkMsg
  | [] => (d, [])
  | m :: ms =>
    if !blocked.contains m.cls && d.hlkMay m then hlkPumpList (d.hlkOut m) blocked ms
    else
      let r := hlkPumpList d (m.cls :: blocked) ms
      (r.1, m :: r.2)

def hlkPump (d : Dev) : Dev :=
  let r := d.hlkPumpList [] d.hlk.waiting
  { r.1 with hlk := { r.1.hlk with waiting := r.2 } }

/-- A message given to the link: it is sent at once, or waits for credit. -/
def hlkSend (d : Dev) (m : HlkMsg) : Dev :=
  { d with hlk := { d.hlk with waiting := d.hlk.waiting ++ [m] } }.hlkPump

/-- An answer to a request of the companion. -/
def respond (d : Dev) (m : HlkMsg) (op code : Nat) (payload : List Byte) : Dev :=
  d.hlkSend { cls := HC.rsp, op := op, tag := m.tag, code := code, length := payload.length, payload := payload }

/-- A companion request refused, counted (HLK_ERR_CNT REFUSED_CNT). -/
def refuseHlk (d : Dev) (m : HlkMsg) (code : Nat) : Dev :=
  (d.bump F.HLK_ERR_CNT.REFUSED_CNT F.HLK_ERR_CNT.REFUSED_SAT 1).respond m 5 code []

/-- R494: a CTL COUNTER for companion counter n: its tag, and the device that sends it. -/
def sendCounter (d : Dev) (n value : Nat) : Nat × Dev :=
  let (t, d) := d.takeTag
  (t, d.hlkSend { cls := HC.ctl, op := 5, tag := t, addr := n, value := value % 2 ^ 48 })

end Dev
end Sys2Proof.Machine
end

