-- ==== Sys2Proof/Machine/Sync.lean ====
section
/-! DEFINITION. Counters, WAIT, FENCE and SIGNAL (chapter 11): the condition of a WAIT (R428, R429), what a FENCE waits for
(R431, R432), and the four destinations of a SIGNAL (R424, R434, R437, R494). -/

namespace Sys2Proof.Machine

open Sys2Proof

/-- The scopes of a write at a local offset of this device (R431): 0 for an activation SRAM window, 1 for HBM, 3 for the
companion window; a register belongs to none. -/
def scopeOfLocal (o : Nat) : List Nat :=
  if o < 0x100000000000 then [1] else if o < 0x200000000000 then [0] else if o < 0x3F0000000000 then [3] else []

/-- R437: the global address of the ADD register of a counter. -/
def counterAddr (dev core n : Nat) : Nat := dev * 2 ^ 46 + 0x3F0000000000 + (⟨.SYN_CNT_n_ADD, core, n, 0⟩ : RegKey).offset

namespace Dev

/-! ### WAIT -/

/-- R428: the value t of a WAIT's target. -/
def waitT (d : Dev) (c : Nat) (w : WaitInfo) : Nat := (w.target + 2 ^ 48 - d.cntF c w.cntr) % 2 ^ 48

/-- R428: the condition of a WAIT. -/
def waitHolds (d : Dev) (c : Nat) (w : WaitInfo) : Bool :=
  decide (2 ^ 47 ≤ d.waitT c w) || decide (d.waitT c w ≤ d.cntD c w.cntr)

/-- R429: a satisfied WAIT moves the floor up to its target. -/
def waitTake (d : Dev) (c : Nat) (w : WaitInfo) : Dev :=
  if d.waitT c w < 2 ^ 47 then d.sf F.SYN_FLOOR_n.FLOOR w.target c w.cntr else d

/-! ### FENCE -/

/-- R431: the scopes that an entry's writes may lie in. COLL outputs may lie in HBM, in a store or at another device. -/
def entryScopes (d : Dev) (x : Entry) : List Nat :=
  match x.op with
  | .emit .. => [0]
  | .vec .. => [0]
  | .attn .. => [0, 1, 2, 3]
  | .dma .. => [0, 1, 2, 3]
  | .gas op p _ _ =>
    if op = .gld then [0]
    else if p.dst = d.self then scopeOfLocal (p.addr % 2 ^ 46)
    else [2]
  | .coll .. => [0, 1, 2]
  | _ => []

/-- The scope of an outstanding SIGNAL by its DEST. -/
def signalScope (dest : Nat) : Nat := if dest = 2 then 2 else 3

/-- R431 to R433: a FENCE with a SCOPE mask, dispatched with sequence number s, is complete. -/
def fenceDone (d : Dev) (c scope s : Nat) : Bool :=
  ((List.range 8).all fun q => (d.queue c q).all fun x =>
      !(decide (x.seq < s) && (d.entryScopes x).any fun b => bitOf scope b))
    && (d.core c).signals.all fun g => !(decide (g.seq < s) && bitOf scope (signalScope g.dest))

/-! ### SIGNAL -/

/-- R431: a SIGNAL of a core has been acknowledged or has ended. -/
def endSignal (d : Dev) (c seq dest : Nat) : Dev :=
  d.modCore c fun k => { k with signals := k.signals.filter fun g => !(decide (g.seq = seq) && decide (g.dest = dest)) }

/-- R437: a remote SIGNAL of core c sent as a COUNTER packet. The GAS unit refuses an unreachable device like any other
access (R245); the refusal is logged and the core does not stop. -/
def signalRemote (d : Dev) (c : Nat) (g : SignalInfo) : Dev :=
  match d.gasReach g.device with
  | some code => d.logGas code c g.device (counterAddr g.device g.core g.cntr) g.seq
  | none =>
    let (m, d) := d.takeMsg
    let (n, d) := d.takeDseq c g.device
    let p := { d.packet PT.counter 2 g.device with
      length := 16, msg := m, dseq := n, total := g.seq, core := c, epoch := d.gf F.GAS_EPOCH.EPOCH
      payload := leBytes 6 g.value ++ leBytes 2 g.cntr ++ leBytes 1 g.core ++ List.replicate 7 0 }
    let d := d.modCore c fun k => { k with signals := k.signals ++ [{ seq := g.seq, dest := 2 }] }
    d.issue { kind := .signal, core := c, thread := g.thread, seq := g.seq, pkt := p }

/-- R494: a SIGNAL of core c to a companion counter. With the link out of service it ends at once (R496). -/
def signalCompanion (d : Dev) (c : Nat) (g : SignalInfo) : Dev :=
  if d.hlkUp then
    let (t, d) := d.sendCounter g.cntr g.value
    d.modCore c fun k => { k with signals := k.signals ++ [{ seq := g.seq, dest := 3, tag := t }] }
  else d.logHlk Code.HLK_LINK_DOWN c g.seq

/-- R424, R434: the update of a SIGNAL of core c applied or sent. A core of this device that is out of service holds no
counters, and nothing is updated. -/
def signalAct (d : Dev) (c : Nat) (g : SignalInfo) : Dev :=
  let sig := some (g.thread, g.pc, g.seq)
  let a := sext 48 g.value
  if g.dest = 0 then d.update c g.cntr a 1 d.self sig
  else if g.dest = 1 then
    if d.inService g.core then d.update g.core g.cntr a 2 d.self (if g.core = c then sig else none) else d
  else if g.dest = 2 then d.signalRemote c g
  else d.signalCompanion c g

end Dev
end Sys2Proof.Machine
end

