-- ==== Sys2Proof/Machine/Sched.lean ====
section
/-! DEFINITION. When the queues of a core start their entries (R105, R109, R134, R146, R258, R383), the pause point of a core
(R130), and the moment when the copy of a COPY swap begins (R83). -/

namespace Sys2Proof.Machine

open Sys2Proof

namespace Dev

/-- R146: the attention stream unit holds the engines of a core. -/
def attnHolds (d : Dev) (c : Nat) : Bool := (d.core c).attn.isSome

/-- The engine entries of a core that have not finished. -/
def engineUndone (d : Dev) (c : Nat) : List Entry :=
  (d.queue c 0 ++ d.queue c 1).filter fun y => !y.done

/-- R105, R109: whether the first entry of a queue that has not started may start now: no WAIT holds the queue's head,
and the queue's unit may take the entry. A WAIT starts when it reaches the head: in the vector and attention queues,
once the entries before it are done (DEDUCED, log entry 63: it has started from then on, for R134 and R138). -/
def mayStart (d : Dev) (c q : Nat) (x : Entry) : Bool :=
  let before := (d.queue c q).filter fun y => decide (y.seq < x.seq)
  if before.any fun y => y.holdsHead then false
  else if x.isWait then (decide (q ≠ 2) && decide (q ≠ 3)) || before.all fun y => y.done
  else match q with
  | 0 => !d.attnHolds c && d.engineMay c 0 x && (!x.isPaired || d.engineMay c 1 x)
  | 1 => !d.attnHolds c && d.engineMay c 1 x
  | 2 => before.all fun y => y.done
  | 3 => before.all (fun y => y.done) && !d.attnHolds c
      && (d.engineUndone c).all fun y => (!y.started || y.isWait) && decide (x.seq < y.seq)
  | 6 => gasMay (d.queue c 6) x
  | 7 => match x.op with
    | .coll g _ _ => decide ((NMap.get [] d.collq g).length < 4)
    | _ => true
  | _ => true

/-- R383: a COLL is handed to the communication queue of its slot. -/
def startColl (d : Dev) (c : Nat) (x : Entry) (g addr : Nat) (ndet : Bool) : Dev :=
  let d := d.modEntry c 7 x.seq fun y => { y with started := true }
  let l := NMap.get [] d.collq g
  let e : CollInst := { core := c, seq := x.seq, thread := x.thread, pc := x.pc, addr := addr, ndet := ndet }
  let d := { d with collq := NMap.set [] d.collq g (l ++ [e]) }
  let d := d.setReg ⟨.CORE_COLL_REC, c, 0, 0⟩ 0
  let d := d.sf F.CORE_COLL_REC.INSTANCE (d.gf F.COL_GROUP_n_STAT.INSTANCE 0 g + l.length) c
  ((d.sf F.CORE_COLL_REC.SLOT g c).sf F.CORE_COLL_REC.PHASE 1 c).modCore c fun y => { y with lastColl := some x.seq }

/-- An entry starts in its unit. -/
def startEntry (d : Dev) (c q : Nat) (x : Entry) : Dev :=
  match x.op with
  | .vec op ta tb td scalar len a b dd =>
    d.startVec c x { op := op, ta := ta, tb := tb, td := td, scalar := scalar, len := len, a := a, b := b, d := dd }
  | .attn addr => d.startAttn c x addr
  | .dma _ => d.modEntry c q x.seq fun y => { y with started := true }
  | .gas op p saddr tdst => d.startGas c x op p saddr tdst
  | .coll g addr ndet => d.startColl c x g addr ndet
  | .wait _ => d.modEntry c q x.seq fun y => { y with started := true }
  | _ => d.startEngine c q x

/-- The first entry of a queue that has not started. -/
def nextEntry (d : Dev) (c q : Nat) : Option Entry := (d.queue c q).find? fun x => !x.started

/-- R134, R137: whether the queues of a core start entries at all. -/
def queuesRun (d : Dev) (c : Nat) : Bool := !(d.core c).faulted && !(d.core c).forced && d.inService c

/-- R105, R109: a queue starts entries in dispatch order as long as it may; a WAIT at the head holds the others. -/
def kickQueue (d : Dev) (c q : Nat) : Nat → Dev
  | 0 => d
  | n + 1 =>
    match d.nextEntry c q with
    | none => d
    | some x =>
      if d.queuesRun c && d.mayStart c q x then kickQueue (d.startEntry c q x) c q n else d

/-! ### Pause points and COPY swaps -/

/-- R130: every thread of a core is PARKED or HALTED, at least one is PARKED, and every queue is empty. -/
def pausePoint (d : Dev) (c : Nat) : Bool :=
  ((List.range 16).all fun t => decide ((d.thread c t).st = .parked) || decide ((d.thread c t).st = .halted))
    && ((List.range 16).any fun t => decide ((d.thread c t).st = .parked))
    && (List.range 8).all fun q => (d.queue c q).isEmpty

/-- A COPY swap of core c waits for its pause point (R83). -/
def swapWaiting (d : Dev) (c : Nat) : Bool :=
  match NMap.get none d.swaps (c / 4) with
  | some s => decide (s.lcore = c % 4) && !s.empty && decide (s.phase = .waiting)
  | none => false

/-- R130: the engines of a paused core invalidate their tiles; R131: their slots hold unspecified values without
poison. -/
def pauseEngines (d : Dev) (c : Nat) : Dev :=
  let one (d : Dev) (e : Nat) : Dev :=
    let k := d.freeIx
    d.draw.modEngine c e fun g => { g with tile := none, slots := [], loose := k, poisonSeq := none }
  one (one d 0) 1

/-- R83: the copy of a COPY swap of core c begins once the spare is powered and the core is at its pause point. -/
def swapTry (d : Dev) (c : Nat) : Dev :=
  match NMap.get none d.swaps (c / 4) with
  | some s =>
    if decide (s.lcore = c % 4) && !s.empty && s.powered && decide (s.phase = .waiting) && d.pausePoint c then
      ({ d with swaps := NMap.set none d.swaps (c / 4) (some { s with phase := .copying }) }).sf
        F.CLU_SWAP_STAT.STATE 3 (c / 4)
    else d
  | none => d

/-- The queues of a core start what they may, twice over: an engine's start can let another queue's entry start. -/
def kick (d : Dev) (c : Nat) : Dev :=
  let once (d : Dev) : Dev := (List.range 8).foldl (fun d q => d.kickQueue c q (queueDepth q)) d
  (once (once d)).swapTry c

end Dev
end Sys2Proof.Machine
end

