-- ==== Sys2Proof/Machine/Thread.lean ====
section
/-! DEFINITION. The sequencer of a core (chapter 03): the dispatch of a thread's next instruction with the checks that
come before any effect (R96, R98, R103, R104, R111 to R114, R650), and the instructions that execute in the sequencer:
CTRL, SIGNAL, WAIT on the thread and FENCE. -/

namespace Sys2Proof.Machine

open Sys2Proof

/-- A dispatched instruction: its core, thread, PC and sequence number, and what the check bits of the store words it
reads find. -/
structure Issued where
  c : Nat
  t : Nat
  pc : Nat
  seq : Nat
  data : Ecc
  deriving DecidableEq, Repr

namespace Dev

/-- R104: the next sequence number. -/
def nextSeq (d : Dev) (c : Nat) : Nat := d.gf F.CORE_DISPATCH_SEQ.SEQ c

/-- R104: a sequence number given out. -/
def takeSeq (d : Dev) (c : Nat) : Dev := d.incr F.CORE_DISPATCH_SEQ.SEQ 1 c

/-- A fault raised by the sequencer itself: QUEUE 0xF (CORE_FAULT_STAT). -/
def seqFault (d : Dev) (c t pc seq code : Nat) : Dev :=
  d.coreFault c { code := code, thread := some t, pc := pc, seq := seq }

/-- The 128-bit instruction at a PC of a core, its least significant byte first. -/
def fetchWord (d : Dev) (c pc : Nat) : Nat :=
  leNat ((List.range 16).map fun k => d.imemByte (c * 2 ^ 20 + 16 * pc + k))

/-- R103: what the check bits of a fetch do. -/
def fetchEcc (d : Dev) (c : Nat) : Ecc → Dev
  | .ok => d
  | .corrected => (d.bump F.CORE_ERR_CNT.IMEM_CORR_CNT F.CORE_ERR_CNT.IMEM_SAT 1 c).score
      (healthCore c (d.physOf c)) 1 Code.CORE_IMEM_UNCORRECTABLE
  | .uncorrectable => d.score (healthCore c (d.physOf c)) 512 Code.CORE_IMEM_UNCORRECTABLE

/-- R650: the amount that IDX adds to every address field. -/
def idxBase (d : Dev) (c t : Nat) (x : Ins) : Nat := d.treg c t x.idx % 2 ^ 32

/-- R99, R112, R650: whether every store address that an instruction names is aligned and lies whole in a memory that
its class reaches. -/
def addrsOk (d : Dev) (c t : Nat) (x : Ins) : Bool :=
  let b := d.idxBase c t x
  let ok (a n align : Nat) : Bool := decide (a % align = 0) && storeOk a n
  match x.op with
  | .stream => !x.src
      || (decide ((x.addr + b) % 64 = 0) && decide (storeArea (x.addr + b) (x.rows * rowBytes x.fmt) = some .core))
  | .emit => ok (x.addr + b) (rowSpan (if x.intlv then x.count / 2 else x.count) x.emitRow x.stride) 64
  | .loads => ok (x.addr + b) (rowSpan 128 (tileRowBytes x.mode) x.stride) 64
  | .attn => decide ((x.va + b) % 64 = 0) && decide (storeArea (x.va + b) 128 = some .core)
  | .dma => ok (x.addr + b) 64 64
  | .coll => decide ((x.addr + b) % 64 = 0) && decide (storeArea (x.addr + b) 64 = some .core)
  | .gld | .gst => ok (x.saddr + b) 64 64
  | .tld | .tst => ok (x.imm % 2 ^ 25 + d.treg c t x.cta + b) 8 8
  | o =>
    if o.isVec then
      ok (x.va + b) (x.len * vecBytes x.ta) 64
        && (!o.readsB || ok (x.vb + b) (x.len * vecBytes x.tb) 64)
        && ok (x.vd + b) ((if o.reduces then 1 else x.len) * vecBytes x.td) 64
    else true

/-- R96, R146: the queue that an instruction names takes no further entry now. -/
def queueFull (d : Dev) (c : Nat) (x : Ins) : Bool :=
  match x.queue with
  | some q => decide (queueDepth q ≤ (d.queue c q).length) || (decide (q < 2) && d.attnHolds c)
  | none => false

/-- R96: whether a thread may dispatch, its instruction and its queue apart. -/
def eligible (d : Dev) (c t : Nat) : Bool :=
  d.inService c && decide ((d.thread c t).st = .running) && (d.thread c t).fence.isNone
    && !(d.core c).faulted && !(d.core c).forced

/-- R96: a thread could dispatch now, for all that State holds: it is RUNNING, and the queue that its next instruction
names has a free entry. -/
def couldGo (d : Dev) (c t : Nat) : Bool :=
  d.eligible c t && ((d.thread c t).pastEnd || match decodeIns (d.fetchWord c (d.pc c t)) with
    | some x => !d.queueFull c x
    | none => true)

/-- R96: in round-robin order after the thread that dispatched last, another thread comes before thread t. -/
def overtakes (d : Dev) (i : Issue) : Bool :=
  let last := (d.core i.core).lastThread
  (List.range ((i.thread + 15 - last) % 16)).any fun k =>
    let t := (last + 1 + k) % 16
    !(i.late.any fun x => decide (x.val = t)) && d.couldGo i.core t

/-- R96, R98, R103, R104, R111 to R114: a thread dispatches its next instruction, when that is a `want` and may be
dispatched now. A refusal comes before any effect and takes the instruction's sequence number. DESIGN CHOICE (log
entry 17): a refused instruction leaves the PC of its thread at it and is not counted in CORE_NDET_CNT. -/
def dispatch (d : Dev) (want : Op) (i : Issue) (effect : Issued → Ins → Dev → Dev) : Dev :=
  let c := i.core.val
  let t := i.thread.val
  let pc := d.pc c t
  let seq := d.nextSeq c
  let refuse (d : Dev) (code : Nat) : Dev := (d.takeSeq c).seqFault c t pc seq code
  if !d.eligible c t || d.overtakes i then d
  else if (d.thread c t).pastEnd then d.seqFault c t 65535 seq Code.CORE_PC_OVERFLOW
  else if i.fetch = .uncorrectable then refuse (d.fetchEcc c i.fetch) Code.CORE_IMEM_UNCORRECTABLE
  else
    let d1 := d.fetchEcc c i.fetch
    match decodeIns (d.fetchWord c pc) with
    | none => refuse d1 Code.CORE_ILLEGAL_INSTR
    | some x =>
      if x.op ≠ want || d.queueFull c x then d
      else if x.needsNdet && !x.ndet then refuse d1 Code.CORE_NDET_REQUIRED
      else if !d.addrsOk c t x then refuse d1 Code.CORE_BAD_ADDR
      else
        let d2 := (d1.takeSeq c).modCore c fun k => { k with lastThread := t }
        let d3 := if x.ndet then d2.incr F.CORE_NDET_CNT.COUNT 1 c else d2
        effect { c := c, t := t, pc := pc, seq := seq, data := i.data } x d3

/-- R98, R144: the thread goes on at the next instruction. -/
def advance (d : Dev) (a : Issued) : Dev :=
  if a.pc = 65535 then d.modThread a.c a.t fun th => { th with pastEnd := true } else d.setPc a.c a.t (a.pc + 1)

/-- A taken branch. -/
def branch (d : Dev) (a : Issued) (x : Ins) : Dev := d.setPc a.c a.t (x.imm % 2 ^ 16)

/-- R143: a dropped write or START. -/
def threadBusy (d : Dev) (c t : Nat) : Dev := d.logCore Code.CORE_THREAD_BUSY c (d.pc c t) t 0xF (d.nextSeq c)

/-- R94, R143: START of a thread. -/
def threadStart (d : Dev) (c t : Nat) : Dev :=
  let x := d.core c
  if x.faulted || x.paused || x.forced then d.threadBusy c t
  else if (d.thread c t).st = .halted then d.modThread c t fun th => { th with st := .running }
  else d

/-- R652: the START behind a HALT that was held acts once the HALT has acted. -/
def heldStart (d : Dev) (c t : Nat) : Dev :=
  let th := d.thread c t
  if th.startReq && !th.haltReq then (d.setThread c t { th with startReq := false }).threadStart c t else d

/-- A T register written by a CTRL instruction, which goes on. -/
def setTd (d : Dev) (a : Issued) (x : Ins) (v : Nat) : Dev := (d.advance a).setTreg a.c a.t x.ctd (v % 2 ^ 64)

/-- The values of T[TA] and T[TB]. -/
def vTa (d : Dev) (a : Issued) (x : Ins) : Nat := d.treg a.c a.t x.cta
def vTb (d : Dev) (a : Issued) (x : Ins) : Nat := d.treg a.c a.t x.ctb

/-- R104, R108: an instruction placed into its queue; its thread goes on, and the queues start what they may. -/
def enqueue (d : Dev) (a : Issued) (x : Ins) (q : Nat) (op : QOp) : Dev :=
  let e : Entry :=
    { seq := a.seq, thread := a.t, pc := a.pc, op := op, sig := if x.sig then some x.cnt else none, ecc := a.data }
  ((d.advance a).setQueue a.c q (d.queue a.c q ++ [e])).kick a.c

/-- A VEC operation placed into the vector queue, its scalar operand read at dispatch (R650). -/
def enqueueVec (d : Dev) (a : Issued) (x : Ins) : Dev :=
  let b := d.idxBase a.c a.t x
  d.enqueue a x 2
    (.vec x.op x.ta x.tb x.td (d.treg a.c a.t x.ts % 2 ^ 32) x.len (x.va + b) (x.vb + b) (x.vd + b))

/-- R126: GLD, GST and GATOM placed into the GAS queue; one that returns a value switches its thread. -/
def enqueueGas (d : Dev) (a : Issued) (x : Ins) : Dev :=
  let b := d.idxBase a.c a.t x
  let pkt := d.gasPacket a.c a.t x a.seq
  let holds := decide (x.op = .gld) || (decide (x.op = .gatom) && (x.ret || decide (x.aop = 4)))
  let d := if holds then d.modThread a.c a.t fun th => { th with st := .switched } else d
  d.enqueue a x 6 (.gas x.op pkt (x.saddr + b) x.tdst)

/-- R428, R430: what a WAIT waits for. -/
def waitOf (d : Dev) (a : Issued) (x : Ins) : WaitInfo :=
  { cntr := x.cntr, target := (x.value + d.treg a.c a.t x.tval) % 2 ^ 48, timeoutUs := x.timeoutUs, tres := x.tres
    since := d.chrono }

/-- R109, R428: a WAIT holds its thread, or enters the queue that QUEUE names. -/
def doWait (d : Dev) (a : Issued) (x : Ins) : Dev :=
  let w := d.waitOf a x
  if x.queueSel = 0 then
    (d.advance a).modThread a.c a.t fun th => { th with st := .waiting, wait := some w }
  else d.enqueue a x (x.queueSel - 1) (.wait w)

/-- R424, R434: a SIGNAL updates or sends at dispatch, or completes a FENCE of every scope first. -/
def doSignal (d : Dev) (a : Issued) (x : Ins) : Dev :=
  let g : SignalInfo :=
    { dest := x.dest, cntr := x.cntr, value := x.value, core := x.core, device := d.treg a.c a.t x.tdev % 2 ^ 18
      seq := a.seq, pc := a.pc, thread := a.t }
  let d := d.advance a
  if x.sigFence then d.modThread a.c a.t fun th => { th with fence := some { scope := 15, seq := a.seq, signal := some g } }
  else (d.signalAct a.c g).kick a.c

/-- R129, R130: whether a PAUSE is effective: a request or a COPY swap waits, and no COLL of the core has not retired.
-/
def pauseTakes (d : Dev) (c : Nat) : Bool :=
  (d.on F.CORE_PREEMPT_CTRL.REQ c || d.swapWaiting c) && (d.queue c 7).all fun x => x.isWait

/-- R83, R129, R130: a PAUSE parks its thread at the instruction after it, or acts as a NOP. -/
def doPause (d : Dev) (a : Issued) : Dev :=
  if d.pauseTakes a.c then ((d.advance a).modThread a.c a.t fun th => { th with st := .parked }).swapTry a.c
  else d.advance a

/-- R127: SPAWN starts a HALTED thread with the T registers it holds; another one faults the spawning thread, whose PC
has gone on (DESIGN CHOICE, log entry 17). -/
def doSpawn (d : Dev) (a : Issued) (x : Ins) : Dev :=
  let n := bitsOf x.imm 19 16
  if (d.thread a.c n).st = .halted then
    ((d.advance a).setPc a.c n (x.imm % 2 ^ 16)).modThread a.c n fun th => { th with st := .running, pastEnd := false }
  else (d.advance a).seqFault a.c a.t a.pc a.seq Code.CORE_THREAD_BUSY

/-- HALT (R144): the thread becomes HALTED with its PC at the next instruction; the PC is 16 bits wide. -/
def doHalt (d : Dev) (a : Issued) : Dev :=
  (d.setPc a.c a.t ((a.pc + 1) % 2 ^ 16)).modThread a.c a.t fun th => { th with st := .halted }

/-- R103, R650: TLD loads 8 bytes of a store; an uncorrectable word faults the thread, whose PC has gone on (DESIGN
CHOICE, log entry 17). -/
def doTld (d : Dev) (a : Issued) (x : Ins) : Dev :=
  let s := x.imm % 2 ^ 25 + d.vTa a x + d.idxBase a.c a.t x
  let d1 := d.storeEcc a.c a.data
  if a.data = .uncorrectable then (d1.advance a).seqFault a.c a.t a.pc a.seq Code.CORE_STORE_UNCORRECTABLE
  else d1.setTd a x (leNat (d.rdStore a.c s 8))

/-- R650: TST stores T[TB]. -/
def doTst (d : Dev) (a : Issued) (x : Ins) : Dev :=
  (d.advance a).wrStore a.c (x.imm % 2 ^ 25 + d.vTa a x + d.idxBase a.c a.t x) (leBytes 8 (d.vTb a x))

end Dev

/-! ### CTRL -/

/-- R96: a NOP has no effect. -/
def execNop (i : Issue) (s : State) : Host.Outcome State Fault Refusal :=
  s.upd fun d => d.dispatch .nop i fun a _ d => d.advance a

def execHalt (i : Issue) (s : State) : Host.Outcome State Fault Refusal :=
  s.upd fun d => d.dispatch .halt i fun a _ d => d.doHalt a

def execPause (i : Issue) (s : State) : Host.Outcome State Fault Refusal :=
  s.upd fun d => d.dispatch .pause i fun a _ d => d.doPause a

def execSpawn (i : Issue) (s : State) : Host.Outcome State Fault Refusal :=
  s.upd fun d => d.dispatch .spawn i fun a x d => d.doSpawn a x

def execBr (i : Issue) (s : State) : Host.Outcome State Fault Refusal :=
  s.upd fun d => d.dispatch .br i fun a x d => d.branch a x

def execBrz (i : Issue) (s : State) : Host.Outcome State Fault Refusal :=
  s.upd fun d => d.dispatch .brz i fun a x d => if d.vTa a x = 0 then d.branch a x else d.advance a

def execBrnz (i : Issue) (s : State) : Host.Outcome State Fault Refusal :=
  s.upd fun d => d.dispatch .brnz i fun a x d => if d.vTa a x ≠ 0 then d.branch a x else d.advance a

def execBrlt (i : Issue) (s : State) : Host.Outcome State Fault Refusal :=
  s.upd fun d => d.dispatch .brlt i fun a x d =>
    if sext 64 (d.vTa a x) < sext 64 (d.vTb a x) then d.branch a x else d.advance a

def execTli (i : Issue) (s : State) : Host.Outcome State Fault Refusal :=
  s.upd fun d => d.dispatch .tli i fun a x d => d.setTd a x x.imm

def execTadd (i : Issue) (s : State) : Host.Outcome State Fault Refusal :=
  s.upd fun d => d.dispatch .tadd i fun a x d => d.setTd a x (d.vTa a x + d.vTb a x + x.imm)

def execTmul (i : Issue) (s : State) : Host.Outcome State Fault Refusal :=
  s.upd fun d => d.dispatch .tmul i fun a x d => d.setTd a x (d.vTa a x * x.imm)

def execTand (i : Issue) (s : State) : Host.Outcome State Fault Refusal :=
  s.upd fun d => d.dispatch .tand i fun a x d => d.setTd a x (d.vTa a x &&& x.imm)

def execTor (i : Issue) (s : State) : Host.Outcome State Fault Refusal :=
  s.upd fun d => d.dispatch .tor i fun a x d => d.setTd a x (d.vTa a x ||| x.imm)

def execTshl (i : Issue) (s : State) : Host.Outcome State Fault Refusal :=
  s.upd fun d => d.dispatch .tshl i fun a x d => d.setTd a x (d.vTa a x * 2 ^ (x.imm % 64))

def execTshr (i : Issue) (s : State) : Host.Outcome State Fault Refusal :=
  s.upd fun d => d.dispatch .tshr i fun a x d => d.setTd a x (d.vTa a x / 2 ^ (x.imm % 64))

def execTld (i : Issue) (s : State) : Host.Outcome State Fault Refusal :=
  s.upd fun d => d.dispatch .tld i fun a x d => d.doTld a x

def execTst (i : Issue) (s : State) : Host.Outcome State Fault Refusal :=
  s.upd fun d => d.dispatch .tst i fun a x d => d.doTst a x

/-- R113: RDTIME reads the Chronograph. -/
def execRdtime (i : Issue) (s : State) : Host.Outcome State Fault Refusal :=
  s.upd fun d => d.dispatch .rdtime i fun a x d => d.setTd a x d.chrono

/-- R113: RDCNT reads a counter of the own core, zero-extended. -/
def execRdcnt (i : Issue) (s : State) : Host.Outcome State Fault Refusal :=
  s.upd fun d => d.dispatch .rdcnt i fun a x d => d.setTd a x (d.cntC a.c (x.imm % 2 ^ 12))

/-! ### Engines -/

def execLoads (i : Issue) (s : State) : Host.Outcome State Fault Refusal :=
  s.upd fun d => d.dispatch .loads i fun a x d =>
    d.enqueue a x x.eng (.loads x.eng x.mode x.etype (x.addr + d.idxBase a.c a.t x) x.stride)

def execStream (i : Issue) (s : State) : Host.Outcome State Fault Refusal :=
  s.upd fun d => d.dispatch .stream i fun a x d =>
    d.enqueue a x x.eng
      (.stream x.pair x.acc x.src x.fmt x.rows x.accBase (if x.src then x.addr + d.idxBase a.c a.t x else 0))

def execEmit (i : Issue) (s : State) : Host.Outcome State Fault Refusal :=
  s.upd fun d => d.dispatch .emit i fun a x d =>
    d.enqueue a x x.eng (.emit x.intlv x.ofmt x.scale x.slot x.count (x.addr + d.idxBase a.c a.t x) x.stride)

/-! ### The vector unit and attention -/

def execVadd (i : Issue) (s : State) : Host.Outcome State Fault Refusal :=
  s.upd fun d => d.dispatch .vadd i fun a x d => d.enqueueVec a x

def execVsub (i : Issue) (s : State) : Host.Outcome State Fault Refusal :=
  s.upd fun d => d.dispatch .vsub i fun a x d => d.enqueueVec a x

def execVmul (i : Issue) (s : State) : Host.Outcome State Fault Refusal :=
  s.upd fun d => d.dispatch .vmul i fun a x d => d.enqueueVec a x

def execVfma (i : Issue) (s : State) : Host.Outcome State Fault Refusal :=
  s.upd fun d => d.dispatch .vfma i fun a x d => d.enqueueVec a x

def execVmax (i : Issue) (s : State) : Host.Outcome State Fault Refusal :=
  s.upd fun d => d.dispatch .vmax i fun a x d => d.enqueueVec a x

def execVmin (i : Issue) (s : State) : Host.Outcome State Fault Refusal :=
  s.upd fun d => d.dispatch .vmin i fun a x d => d.enqueueVec a x

def execVscale (i : Issue) (s : State) : Host.Outcome State Fault Refusal :=
  s.upd fun d => d.dispatch .vscale i fun a x d => d.enqueueVec a x

def execVcvt (i : Issue) (s : State) : Host.Outcome State Fault Refusal :=
  s.upd fun d => d.dispatch .vcvt i fun a x d => d.enqueueVec a x

def execVexp (i : Issue) (s : State) : Host.Outcome State Fault Refusal :=
  s.upd fun d => d.dispatch .vexp i fun a x d => d.enqueueVec a x

def execVrecip (i : Issue) (s : State) : Host.Outcome State Fault Refusal :=
  s.upd fun d => d.dispatch .vrecip i fun a x d => d.enqueueVec a x

def execVrsqrt (i : Issue) (s : State) : Host.Outcome State Fault Refusal :=
  s.upd fun d => d.dispatch .vrsqrt i fun a x d => d.enqueueVec a x

def execVsilu (i : Issue) (s : State) : Host.Outcome State Fault Refusal :=
  s.upd fun d => d.dispatch .vsilu i fun a x d => d.enqueueVec a x

def execVgate (i : Issue) (s : State) : Host.Outcome State Fault Refusal :=
  s.upd fun d => d.dispatch .vgate i fun a x d => d.enqueueVec a x

def execVrsum (i : Issue) (s : State) : Host.Outcome State Fault Refusal :=
  s.upd fun d => d.dispatch .vrsum i fun a x d => d.enqueueVec a x

def execVrmax (i : Issue) (s : State) : Host.Outcome State Fault Refusal :=
  s.upd fun d => d.dispatch .vrmax i fun a x d => d.enqueueVec a x

def execVlsum (i : Issue) (s : State) : Host.Outcome State Fault Refusal :=
  s.upd fun d => d.dispatch .vlsum i fun a x d => d.enqueueVec a x

def execVlmax (i : Issue) (s : State) : Host.Outcome State Fault Refusal :=
  s.upd fun d => d.dispatch .vlmax i fun a x d => d.enqueueVec a x

def execAttn (i : Issue) (s : State) : Host.Outcome State Fault Refusal :=
  s.upd fun d => d.dispatch .attn i fun a x d => d.enqueue a x 3 (.attn (x.va + d.idxBase a.c a.t x))

/-! ### DMA, SYNC, GAS and COLL -/

def execDma (i : Issue) (s : State) : Host.Outcome State Fault Refusal :=
  s.upd fun d => d.dispatch .dma i fun a x d =>
    d.enqueue a x (4 + x.engine) (.dma { nextAddr := x.addr + d.idxBase a.c a.t x })

def execSignal (i : Issue) (s : State) : Host.Outcome State Fault Refusal :=
  s.upd fun d => d.dispatch .signal i fun a x d => d.doSignal a x

def execWait (i : Issue) (s : State) : Host.Outcome State Fault Refusal :=
  s.upd fun d => d.dispatch .wait i fun a x d => d.doWait a x

/-- R431: a FENCE holds its thread until it completes. -/
def execFence (i : Issue) (s : State) : Host.Outcome State Fault Refusal :=
  s.upd fun d => d.dispatch .fence i fun a x d =>
    (d.advance a).modThread a.c a.t fun th => { th with fence := some { scope := x.scope, seq := a.seq } }

def execGld (i : Issue) (s : State) : Host.Outcome State Fault Refusal :=
  s.upd fun d => d.dispatch .gld i fun a x d => d.enqueueGas a x

def execGst (i : Issue) (s : State) : Host.Outcome State Fault Refusal :=
  s.upd fun d => d.dispatch .gst i fun a x d => d.enqueueGas a x

def execGatom (i : Issue) (s : State) : Host.Outcome State Fault Refusal :=
  s.upd fun d => d.dispatch .gatom i fun a x d => d.enqueueGas a x

def execColl (i : Issue) (s : State) : Host.Outcome State Fault Refusal :=
  s.upd fun d => d.dispatch .coll i fun a x d =>
    d.enqueue a x 7 (.coll x.group (x.addr + d.idxBase a.c a.t x) x.ndet)

end Sys2Proof.Machine
end

