-- ==== Sys2Proof/Machine/EngineCmds.lean ====
section
/-! DEFINITION. What happens in a core beside dispatch (chapters 02 to 04 and 11): the steps of its engines, DMA engines and
attention stream unit, retirement (R105, R108), and the ends of WAITs and FENCEs. -/

namespace Sys2Proof.Machine

open Sys2Proof

namespace Dev

/-! ### Engines -/

/-- A LOADS reads its tile from the cluster store (R64). -/
def clusterLoad (x : Entry) : Bool :=
  match x.op with
  | .loads _ _ _ addr _ => decide (0x1000000 ≤ addr)
  | _ => false

/-- R62, R64, R65: the stall of a LOADS ends; a LOADS from the cluster store may have stalled for more cycles, while
other cores of the cluster read it. -/
def stallEnd (d : Dev) (c e extra : Nat) : Dev :=
  match (d.engine c e).loading with
  | none => d
  | some s =>
    let d := if (d.queue c e).any fun x => decide (x.seq = s) && clusterLoad x then
      d.incr F.ENG_LOAD_STALL_CNT.CYCLES extra (2 * c + e) else d
    ((d.modEngine c e fun g => { g with loading := none }).modEntry c e s fun y => { y with n := 1, done := true }).kick c

/-! ### Retirement -/

/-- R105: the entry that retires next: the oldest one that is not stuck, once its completion is reached. -/
def retiring (d : Dev) (c q : Nat) : Option Entry :=
  match (d.queue c q).find? fun x => !x.stuck with
  | some x => if x.done then some x else none
  | none => none

/-- R634: a core outside checked service: lock-step off, or no mark and no Plate window for 80 ms. -/
def unchecked (d : Dev) (c : Nat) : Bool :=
  !(d.on F.SAFE_LS_CTRL.EN && (match (d.core c).markTime with
    | some t => decide (d.chrono ≤ t + 80 * 10 ^ 6)
    | none => false))

/-- R634: an entry that writes results retires outside checked service. -/
def noteUnchecked (d : Dev) (c : Nat) (x : Entry) : Dev :=
  let writes := match x.op with
    | .emit .. => true
    | .vec .. => true
    | .attn .. => true
    | _ => false
  if writes && d.unchecked c then d.sf F.SAFE_LS_STAT.UNCHECKED 1 else d

/-- R105, R108, R146, R171, R424: an entry retires: the queue's record, and its counter with SIG = 1. -/
def retire (d : Dev) (c q : Nat) : Dev :=
  match d.retiring c q with
  | none => d
  | some x =>
    let d := d.setQueue c q ((d.queue c q).erase x)
    let d := (d.sf F.CORE_QUEUE_q_DONE.LAST_SEQ x.seq c q).incr F.CORE_QUEUE_q_CNT.RETIRED 1 c q
    let d := match x.op with
      | .attn _ => ((d.attnPhase c 5).dropTiles c).modCore c fun k => { k with attn := none }
      | _ => d
    let d := d.noteUnchecked c x
    let d := if (d.core c).lastColl = some x.seq then d.sf F.CORE_COLL_REC.PHASE 4 c else d
    let d := match x.sig with
      | some n => d.update c n 1 0 d.self none
      | none => d
    d.kick c

/-! ### WAIT and FENCE -/

/-- R97, R430: a WAIT on the thread ends: T[TRES] takes the result of one with a timeout. -/
def waitEnd (d : Dev) (c t : Nat) (w : WaitInfo) (res : Nat) : Dev :=
  let d := d.modThread c t fun th => { th with st := .running, wait := none }
  if w.timeoutUs ≠ 0 then d.setTreg c t w.tres res else d

/-- The WAIT that holds a thread. -/
def threadWait (d : Dev) (c t : Nat) : Option WaitInfo :=
  let th := d.thread c t
  if th.st = .waiting then th.wait else none

/-- R428, R429: a WAIT on the thread whose condition holds ends. -/
def waitMetThread (d : Dev) (c t : Nat) : Dev :=
  match d.threadWait c t with
  | some w => if d.waitHolds c w then (d.waitTake c w).waitEnd c t w 1 else d
  | none => d

/-- The WAIT that holds its queue's head (R109): it has started and its condition has not held yet. -/
def headWait (d : Dev) (c q : Nat) : Option (Entry × WaitInfo) :=
  match (d.queue c q).find? fun x => x.holdsHead with
  | some x =>
    match x.op with
    | .wait w => some (x, w)
    | _ => none
  | none => none

/-- R109, R428, R429: a WAIT at the head of a queue whose condition holds is complete. -/
def waitMetQueue (d : Dev) (c q : Nat) : Dev :=
  match d.headWait c q with
  | some (x, w) =>
    if d.waitHolds c w then
      ((d.waitTake c w).modEntry c q x.seq fun y => { y with done := true }).kick c
    else d
  | none => d

/-- R430: the time of a WAIT, from its dispatch, has run out on the Chronograph. -/
def waitRunOut (d : Dev) (w : WaitInfo) : Bool :=
  decide (w.timeoutUs ≠ 0) && decide (1000 * w.timeoutUs ≤ (d.chrono + 2 ^ 64 - w.since) % 2 ^ 64)

/-- R430: a WAIT runs out of time; in the same cycle the condition wins. -/
def waitTimeout (d : Dev) (c t : Nat) : Dev :=
  match d.threadWait c t with
  | some w =>
    if !d.waitRunOut w then d
    else if d.waitHolds c w then (d.waitTake c w).waitEnd c t w 1
    else d.waitEnd c t w 0
  | none => d

/-- R431, R434, R144: a FENCE completes; the SIGNAL behind it is applied or sent, and a HALT that waited acts. -/
def fenceComplete (d : Dev) (c t : Nat) : Dev :=
  let th := d.thread c t
  match th.fence with
  | none => d
  | some f =>
    if (d.core c).faulted || !d.fenceDone c f.scope f.seq then d
    else
      let d := d.modThread c t fun th =>
        { th with fence := none, haltReq := false, st := if th.haltReq then .halted else th.st }
      match f.signal with
      | some g => (d.signalAct c g |>.heldStart c t).kick c
      | none => d.heldStart c t

/-! ### The partial-completion map -/

/-- R141: the map of a faulted DMA is written once every packet it has sent has settled. -/
def mapWritten (d : Dev) (c : Nat) : Dev :=
  if (d.core c).mapPending
      && !d.dmaOutstanding c (d.gf F.CORE_FAULT_STAT.QUEUE c) (d.gf F.CORE_FAULT_SEQ.SEQ c) then d.writeMap c
  else d

end Dev

/-! ### The commands -/

def execLoadsStallEnd (core : Fin 128) (eng : Fin 2) (s : State) (extra : Nat := 0) : Host.Outcome State Fault Refusal :=
  s.upd fun d => d.stallEnd core eng extra

def execStreamRowIssue (core : Fin 128) (eng : Fin 2) (parity : Option (Fin 2)) (ecc : Ecc) (s : State) :
    Host.Outcome State Fault Refusal :=
  s.upd fun d => (d.issueRow core eng parity ecc).kick core

def execStreamRowComplete (core : Fin 128) (eng : Fin 2) (ecc : Ecc) (s : State) : Host.Outcome State Fault Refusal :=
  s.upd fun d => (d.completeRow core eng ecc).kick core

def execEmitSlotRead (core : Fin 128) (eng : Fin 2) (ecc : Ecc) (s : State) : Host.Outcome State Fault Refusal :=
  s.upd fun d => (d.emitSlot core eng ecc).kick core

/-- The DMA queue of an engine: 4 core, 5 cluster. -/
def dmaQueue (cluster : Bool) : Nat := if cluster then 5 else 4

def execDmaDescriptorStart (core : Fin 128) (cluster : Bool) (seq : Nat) (ecc : Ecc) (s : State) (src : Ecc := .ok) :
    Host.Outcome State Fault Refusal :=
  s.upd fun d => d.dmaStart core (dmaQueue cluster) seq ecc src

def execDmaDescriptorDone (core : Fin 128) (cluster : Bool) (seq : Nat) (s : State) :
    Host.Outcome State Fault Refusal :=
  s.upd fun d => (d.dmaFinish core (dmaQueue cluster) seq).kick core

def execStreamFifoAppend (core : Fin 128) (cluster : Bool) (seq : Nat) (bytes : Nat) (s : State) (ecc : Ecc := .ok) :
    Host.Outcome State Fault Refusal :=
  s.upd fun d => d.dmaAppend core (dmaQueue cluster) seq bytes ecc

def execQueueEntryRetire (core : Fin 128) (queue : Fin 8) (s : State) : Host.Outcome State Fault Refusal :=
  s.upd fun d => d.retire core queue

def execWaitConditionMet (core : Fin 128) (place : WaitPlace) (s : State) : Host.Outcome State Fault Refusal :=
  s.upd fun d => match place with
    | .thread t => d.waitMetThread core t
    | .queue q => d.waitMetQueue core q

def execWaitTimeout (core : Fin 128) (thread : Fin 16) (s : State) : Host.Outcome State Fault Refusal :=
  s.upd fun d => d.waitTimeout core thread

def execFenceComplete (core : Fin 128) (thread : Fin 16) (s : State) : Host.Outcome State Fault Refusal :=
  s.upd fun d => d.fenceComplete core thread

def execPcmapWritten (core : Fin 128) (s : State) : Host.Outcome State Fault Refusal :=
  s.upd fun d => d.mapWritten core

def execAttnDescriptorStart (core : Fin 128) (ecc : Ecc) (s : State) : Host.Outcome State Fault Refusal :=
  s.upd fun d => d.attnStart core ecc

def execAttnMapEntryRead (core : Fin 128) (entry : Nat) (s : State) (ecc : Ecc := .ok) :
    Host.Outcome State Fault Refusal :=
  s.upd fun d => d.attnEntryRead core entry ecc

def execAttnAppendDone (core : Fin 128) (s : State) : Host.Outcome State Fault Refusal :=
  s.upd fun d => d.attnAppended core

def execAttnBlock (core : Fin 128) (s : State) (ecc : Ecc := .ok) : Host.Outcome State Fault Refusal :=
  s.upd fun d => d.attnBlock core ecc

def execAttnOutputDone (core : Fin 128) (s : State) : Host.Outcome State Fault Refusal :=
  s.upd fun d => (d.attnOutput core).kick core

end Sys2Proof.Machine
end

