-- ==== Sys2Proof/Machine/CoreCtl.lean ====
section
/-! DEFINITION. Control of a core from its registers: thread control (R93, R94, R143, R144), forced stops (R134 to R136),
clearing a fault (R142), pre-emption (R129 to R133), and the Spectrograph's controls (R206, R208, R210). -/

namespace Sys2Proof.Machine

open Sys2Proof

namespace Dev

/-- R499: the interrupt source of a logical core. -/
def coreSource (c : Nat) : Nat := 256 + 32 * (c / 16) + c % 16

/-! ### Threads -/

/-- R144: HALT of a thread. -/
def threadHalt (d : Dev) (c t : Nat) : Dev :=
  let th := d.thread c t
  match th.st with
  | .switched => d.setThread c t { th with haltReq := true }
  | .running => if th.fence.isSome then d.setThread c t { th with haltReq := true } else d.setThread c t { th with st := .halted }
  | .waiting => d.setThread c t { th with st := .halted, wait := none }
  | .parked => (d.setThread c t { th with st := .halted }).swapTry c
  | _ => d

/-- R144: a HALT of a thread would be held: it is SWITCHED, or a FENCE holds it at dispatch. -/
def haltHeld (d : Dev) (c t : Nat) : Bool :=
  let th := d.thread c t
  decide (th.st = .switched) || (decide (th.st = .running) && th.fence.isSome)

/-- CORE_THREAD_n_CTRL written (R652): HALT, then START, which is held with a HALT that is held. -/
def writeThread (d : Dev) (c t : Nat) (v : Word) : Dev :=
  let halt := decide (getBits v 1 1 = 1)
  let start := decide (getBits v 0 0 = 1)
  let d' := if halt then d.threadHalt c t else d
  if !start then d'
  else if halt && d.haltHeld c t then d'.modThread c t fun th => { th with startReq := true }
  else d'.threadStart c t

/-- R143: a write to the PC of a HALTED thread. -/
def writePc (d : Dev) (c t v : Nat) : Dev :=
  if (d.thread c t).st = .halted then (d.setPc c t v).modThread c t fun th => { th with pastEnd := false }
  else d.threadBusy c t

/-- R143: a write to a T register of a HALTED thread. -/
def writeT (d : Dev) (c t m v : Nat) : Dev :=
  if (d.thread c t).st = .halted then d.setTreg c t m v else d.threadBusy c t

/-! ### Forced stops and faults -/

/-- R134, R136: a forced stop; a fault governs over it (DESIGN CHOICE, log entry 18: FORCE_STOP written while the core
is stopped by a fault is dropped). -/
def forceStop (d : Dev) (c : Nat) : Dev :=
  if (d.core c).faulted then d else (d.modCore c stopThreads).modCore c fun x => { x with forced := true }

/-- The threads of a core changed one by one. -/
def mapThreads (x : Core) (f : Thread → Thread) : Core :=
  { x with threads := (List.range 16).foldl (fun ts t => NMap.set {} ts t (f (NMap.get {} ts t))) x.threads }

/-- A thread that RESUME after a forced stop returns to its previous state (R135). -/
def unstop (th : Thread) : Thread := if th.st = .stopped then { th with st := th.prev } else th

/-- R132: a PARKED thread returns to RUNNING at the instruction after its PAUSE. -/
def unpark (th : Thread) : Thread := if th.st = .parked then { th with st := .running } else th

/-- R132, R135: RESUME leaves a forced stop, or a pause. -/
def resume (d : Dev) (c : Nat) : Dev :=
  let x := d.core c
  if x.faulted then d
  else if x.forced then (d.modCore c fun x => mapThreads { x with forced := false } unstop).kick c
  else if x.paused then
    let d := d.modCore c fun x => mapThreads { x with paused := false } unpark
    ((d.sf F.CORE_PREEMPT_CTRL.REQ 0 c).sf F.CORE_PREEMPT_STAT.STATE 0 c).sf F.CORE_PREEMPT_STAT.LATE 0 c
  else d

/-- R142: every entry that started before the fault has finished or stopped, and the map has been written. -/
def faultSettled (d : Dev) (c : Nat) : Bool :=
  !(d.core c).mapPending && ((List.range 8).all fun q => (d.queue c q).all fun x => x.stuck)
    && (d.engine c 0).flight.isEmpty && (d.engine c 1).flight.isEmpty

/-- R142: CLEAR_FAULT acts: every thread HALTED, every queue empty. -/
def clearAct (d : Dev) (c : Nat) : Dev :=
  let d := d.modCore c fun x =>
    mapThreads { x with faulted := false, paused := false, queues := [], attn := none, clearHeld := false } fun th =>
      { th with st := .halted, wait := none, fence := none, haltReq := false, startReq := false }
  d.sf F.CORE_PREEMPT_STAT.STATE (d.gf F.CORE_PREEMPT_CTRL.REQ c) c

/-- R652: the actions of a write behind CLEAR_FAULT. -/
def thenActs (d : Dev) (c : Nat) (res stop : Bool) : Dev :=
  let d := if res then d.resume c else d
  if stop then d.forceStop c else d

/-- R142, R652: CLEAR_FAULT acts, or is held with the actions after it. -/
def clearFault (d : Dev) (c : Nat) (res stop : Bool) : Dev :=
  if !(d.core c).faulted then d.thenActs c res stop
  else if d.faultSettled c then (d.clearAct c).thenActs c res stop
  else d.modCore c fun x =>
    { x with clearHeld := true, clearThenResume := x.clearThenResume || res, clearThenStop := x.clearThenStop || stop }

/-- R142: a held CLEAR_FAULT acts once everything has settled. -/
def clearHeldAct (d : Dev) (c : Nat) : Dev :=
  let x := d.core c
  if x.clearHeld && d.faultSettled c then
    ((d.clearAct c).modCore c fun x => { x with clearThenResume := false, clearThenStop := false }).thenActs c
      x.clearThenResume x.clearThenStop
  else d

/-- CORE_CTRL written: CLEAR_FAULT, RESUME and FORCE_STOP in this order (R652). -/
def writeCoreCtrl (d : Dev) (c : Nat) (v : Word) : Dev :=
  let clear := decide (getBits v 2 2 = 1)
  let res := decide (getBits v 1 1 = 1)
  let stop := decide (getBits v 0 0 = 1)
  if clear then d.clearFault c res stop
  else if (d.core c).clearHeld then d.modCore c fun x =>
    { x with clearThenResume := x.clearThenResume || res, clearThenStop := x.clearThenStop || stop }
  else d.thenActs c res stop

/-! ### Pre-emption -/

/-- R130: a pre-emption request. -/
def preemptReq (d : Dev) (c : Nat) : Dev :=
  if d.on F.CORE_PREEMPT_CTRL.REQ c then d
  else ((d.sf F.CORE_PREEMPT_CTRL.REQ 1 c).sf F.CORE_PREEMPT_STAT.LATE 0 c).sf F.CORE_PREEMPT_STAT.STATE 1 c

/-- R132: a request cancelled: PARKED threads go on, but for those of a core under copy, which go on at remap (R83). -/
def preemptCancel (d : Dev) (c : Nat) : Dev :=
  if !d.on F.CORE_PREEMPT_CTRL.REQ c then d
  else
    let d := ((d.sf F.CORE_PREEMPT_CTRL.REQ 0 c).sf F.CORE_PREEMPT_STAT.LATE 0 c).sf F.CORE_PREEMPT_STAT.STATE 3 c
    if d.copying c then d
    else d.modCore c fun x => mapThreads { x with paused := false } unpark

/-- R130, R131: the core is paused. -/
def corePaused (d : Dev) (c waitUs : Nat) : Dev :=
  let x := d.core c
  let req := d.on F.CORE_PREEMPT_CTRL.REQ c
  if x.paused || x.faulted || x.forced || !(req || d.swapWaiting c || d.copying c) || !d.pausePoint c then d
  else
    let d := (d.modCore c fun x => { x with paused := true }).pauseEngines c
    let d := if req then
        (d.sf F.CORE_PREEMPT_STAT.STATE 2 c).sf F.CORE_PREEMPT_STAT.WAIT_US (satAt 0xFFFFFFFF waitUs) c
      else d
    d.swapTry c

/-- R133: the request has been pending for BOUND_US. -/
def preemptLate (d : Dev) (c : Nat) : Dev :=
  if d.on F.CORE_PREEMPT_CTRL.REQ c && !(d.core c).paused && !d.on F.CORE_PREEMPT_STAT.LATE c then
    ((d.sf F.CORE_PREEMPT_STAT.LATE 1 c).logCore Code.CORE_PREEMPT_LATE c 0 0 0xF (d.nextSeq c)).raise (coreSource c)
  else d

/-- CORE_PREEMPT_CTRL written (R652): BOUND_US is stored as 1 at least, then CANCEL, then REQ. -/
def writePreempt (d : Dev) (c : Nat) (v : Word) : Dev :=
  let d := d.sf F.CORE_PREEMPT_CTRL.BOUND_US (max 1 (getBits v 63 32)) c
  let d := if getBits v 1 1 = 1 then d.preemptCancel c else d
  if getBits v 0 0 = 1 then d.preemptReq c else d

/-! ### The Spectrograph -/

/-- R206: a channel of the Spectrograph starts to count towards its LIMIT. -/
def specFresh (d : Dev) (c k : Nat) : Dev := d.modCore c fun x => { x with specRun := NMap.set 0 x.specRun k 0 }

/-- R208: CLEAR. -/
def specClear (d : Dev) (c k : Nat) : Dev :=
  let d := (d.specFresh c k).setReg ⟨.CORE_SPEC_k_STAT, c, k, 0⟩ 0
  (List.range 32).foldl (fun d n => d.setReg ⟨.CORE_SPEC_k_BIN_n, c, k, n⟩ 0) d

/-- CORE_SPEC_k_CTRL written: the settings take their values, SOURCE only while ARM is 0 (R210), then CLEAR acts
(R208). -/
def writeSpecCtrl (d : Dev) (c k : Nat) (v : Word) : Dev :=
  let armed := d.on F.CORE_SPEC_k_CTRL.ARM c k
  let d := d.sf F.CORE_SPEC_k_CTRL.LIMIT (getBits v 63 32) c k
  let d := if armed then d else d.sf F.CORE_SPEC_k_CTRL.SOURCE (getBits v 5 4) c k
  let d := d.sf F.CORE_SPEC_k_CTRL.ALERT_EN (getBits v 3 3) c k
  let d := d.sf F.CORE_SPEC_k_CTRL.FREEZE (getBits v 2 2) c k
  let d := d.sf F.CORE_SPEC_k_CTRL.ARM (getBits v 0 0) c k
  let d := if !armed && decide (getBits v 0 0 = 1) then d.specFresh c k else d
  if getBits v 1 1 = 1 then d.specClear c k else d

/-- CORE_SPEC_k_LO or _HI written: ignored while ARM is 1 (R210). -/
def writeSpecAddr (d : Dev) (c k : Nat) (hi : Bool) (v : Word) : Dev :=
  if d.on F.CORE_SPEC_k_CTRL.ARM c k then d
  else d.sf (if hi then F.CORE_SPEC_k_HI.ADDR else F.CORE_SPEC_k_LO.ADDR) (getBits v 24 0) c k

end Dev

/-! ### Events -/

def execClearFaultAct (core : Fin 128) (s : State) : Host.Outcome State Fault Refusal :=
  s.upd fun d => d.clearHeldAct core

def execCorePaused (core : Fin 128) (waitUs : Nat) (s : State) : Host.Outcome State Fault Refusal :=
  s.upd fun d => d.corePaused core waitUs

def execCorePreemptLate (core : Fin 128) (s : State) : Host.Outcome State Fault Refusal :=
  s.upd fun d => d.preemptLate core

end Sys2Proof.Machine
end

