-- ==== Sys2Proof/Machine/Swap.lean ====
section
/-! DEFINITION. Spare cores (R82 to R91): requests, cancelling, power-up, the copy and the remap of a swap. -/

namespace Sys2Proof.Machine

open Sys2Proof

namespace Dev

/-- R499: the interrupt source of the swaps of cluster k. -/
def swapSource (k : Nat) : Nat := 256 + 32 * (k / 4) + 16 + k % 4

def swapOf (d : Dev) (k : Nat) : Option Swap := NMap.get none d.swaps k

def setSwap (d : Dev) (k : Nat) (s : Option Swap) : Dev := { d with swaps := NMap.set none d.swaps k s }

/-- The field of CLU_CORE_MAP for logical core l of a cluster. -/
def setPhys (d : Dev) (k l p : Nat) : Dev :=
  let key : RegKey := ⟨.CLU_CORE_MAP, k, 0, 0⟩
  d.setReg key (setBits (d.reg key) (4 * l + 2) (4 * l) p)

/-- R130, R83: PARKED threads of a core that no request of the runtime holds go on. -/
def unparkFree (d : Dev) (c : Nat) : Dev :=
  if d.on F.CORE_PREEMPT_CTRL.REQ c then d else d.modCore c fun x => mapThreads { x with paused := false } unpark

/-- R87, R90, R91: a swap refused, cancelled or failed: its code is recorded and logged, and REQ clears. -/
def swapEnds (d : Dev) (k code : Nat) : Dev :=
  let d := (d.sf F.CLU_SWAP_STAT.CODE code k).sf F.CLU_SWAP_STAT.STATE 5 k
  let d := d.sf F.CLU_SWAP_CTRL.REQ 0 k
  (d.logAt code (k / 4) 0xFFFF k 0).raise (swapSource k)

/-- R82, R86: a swap is complete: the old core is retired and a logbook record is written, whose code the manual does
not state: a code of the compute class (log entry 11). -/
def retired (d : Dev) (k : Nat) : Dev :=
  (d.logAt (0x1000 + Config.swapRecord.toNat) (k / 4) 0xFFFF k 0).raise (swapSource k)

/-- R86, R657: core c as the spare takes it in an EMPTY swap: stores cleared, counters at zero, threads HALTED,
engines fresh. The dispatch sequence number goes on (R272 forms tags with it). The manual names only the stores, the
counters and the threads. The model's choice: every other CORE_ register returns to its reset value as well (log entry
14), and accesses of the old core that are still outstanding stay, so a late reply of a GLD or a GATOM reaches the new
core (log entry 15). -/
def freshCore (d : Dev) (c : Nat) : Dev :=
  let out (lo n a : Nat) : Bool := decide (a < lo) || decide (lo + n ≤ a)
  { d with
    regs := d.regs.filter fun e =>
      !(decide (e.1.name.info.place.block = .core) && decide (e.1.u = c) && decide (e.1.name ≠ .CORE_DISPATCH_SEQ))
        && !(decide (e.1.name.info.place.block = .engine) && decide (e.1.u / 2 = c))
    cores := NMap.set {} d.cores c {}
    engines := NMap.set {} (NMap.set {} d.engines (2 * c) {}) (2 * c + 1) {}
    coreStore := d.coreStore.filter fun e => out (c * 2 ^ 23) (2 ^ 23) e.1
    unspecCore := clearRange d.unspecCore (c * 2 ^ 23) (2 ^ 23)
    unspecImem := clearRange d.unspecImem (c * 2 ^ 20) (2 ^ 20)
    imem := d.imem.filter fun e => out (c * 2 ^ 20) (2 ^ 20) e.1 }

/-- The physical core of a logical one moved to the spare; the old one is retired (R86, remap and retire). SPARE_PHYS
reads 7 after it, since the old core is out of service (DESIGN CHOICE, log entry 13). -/
def remap (d : Dev) (k l : Nat) : Dev :=
  let old := d.physOf (4 * k + l)
  let d := d.setPhys k l (d.gf F.CLU_CORE_MAP.SPARE_PHYS k)
  let d := d.sf F.CLU_CORE_MAP.SPARE_PHYS 7 k
  if old = 7 then d else d.sf F.CLU_CORE_RETIRED.PHYS_RETIRED (d.gf F.CLU_CORE_RETIRED.PHYS_RETIRED k ||| 2 ^ old) k

/-- R87: the cluster has an unretired spare. -/
def hasSpare (d : Dev) (k : Nat) : Bool :=
  let p := d.gf F.CLU_CORE_MAP.SPARE_PHYS k
  decide (p < 5) && !bitOf (d.gf F.CLU_CORE_RETIRED.PHYS_RETIRED k) p

/-- R82, R83, R86, R87, R91: REQ of CLU_SWAP_CTRL. A logical core that an occultation has taken out of service may be
named: EMPTY puts it back on the spare (DESIGN CHOICE, log entry 16). -/
def swapReq (d : Dev) (k : Nat) : Dev :=
  let l := d.gf F.CLU_SWAP_CTRL.LCORE k
  let mode := d.gf F.CLU_SWAP_CTRL.MODE k
  if (d.swapOf k).isSome then
    ((d.sf F.CLU_SWAP_STAT.CODE Code.CLU_SWAP_CANCELLED k).logAt Code.CLU_SWAP_CANCELLED (k / 4) 0xFFFF k 0).raise
      (swapSource k)
  else if 2 ≤ mode then d.swapEnds k Code.CLU_SWAP_CANCELLED
  else if !d.hasSpare k then d.swapEnds k Code.CLU_SPARE_EXHAUSTED
  else if mode = 1 then
    let d := (d.remap k l).freshCore (4 * k + l)
    ((d.sf F.CLU_SWAP_STAT.STATE 4 k).sf F.CLU_SWAP_STAT.DURATION_US 0 k).retired k
  else
    let d := (d.setSwap k (some { lcore := l, empty := false })).sf F.CLU_SWAP_STAT.STATE 2 k
    d.sf F.CLU_SWAP_CTRL.REQ 1 k

/-- R90: CANCEL, before the copy has started. -/
def swapCancel (d : Dev) (k : Nat) : Dev :=
  match d.swapOf k with
  | some s =>
    if s.phase = .waiting then ((d.setSwap k none).swapEnds k Code.CLU_SWAP_CANCELLED).unparkFree (4 * k + s.lcore) else d
  | none => d

/-- CLU_SWAP_CTRL written (R652): MODE and LCORE take their values, then CANCEL, then REQ. A swap in progress keeps the
logical core it was asked for. -/
def writeSwapCtrl (d : Dev) (k : Nat) (v : Word) : Dev :=
  let d := (d.sf F.CLU_SWAP_CTRL.MODE (getBits v 7 6) k).sf F.CLU_SWAP_CTRL.LCORE (getBits v 5 4) k
  let d := if getBits v 1 1 = 1 then d.swapCancel k else d
  if getBits v 0 0 = 1 then d.swapReq k else d

/-- R87: the spare has powered up and passed its start-up check, or failed it. -/
def sparePowered (d : Dev) (k : Nat) (pass : Bool) : Dev :=
  match d.swapOf k with
  | some s =>
    if s.powered || decide (s.phase ≠ .waiting) then d
    else if pass then
      ((d.setSwap k (some { s with powered := true })).sf F.CLU_SWAP_STAT.STATE 1 k).swapTry (4 * k + s.lcore)
    else ((d.setSwap k none).swapEnds k Code.CLU_SPARE_FAILED).unparkFree (4 * k + s.lcore)
  | none => d

/-- The copy has ended. -/
def swapCopied (d : Dev) (k : Nat) : Dev :=
  match d.swapOf k with
  | some s => if s.phase = .copying then d.setSwap k (some { s with phase := .copied }) else d
  | none => d

/-- R84, R657: what a COPY swap does not carry over: tiles, accumulators, and what the engines and their FIFOs hold. -/
def freshEngines (d : Dev) (c : Nat) : Dev :=
  let d := (d.setEngine c 0 {}).setEngine c 1 {}
  let d := d.modCore c fun x => { x with fifo0 := [], fifo1 := [], skip0 := 0, skip1 := 0 }
  { d with regs := d.regs.filter fun e => !(decide (e.1.name.info.place.block = .engine) && decide (e.1.u / 2 = c)) }

end Dev

def execSparePowerUpDone (cluster : Fin 32) (pass : Bool) (s : State) : Host.Outcome State Fault Refusal :=
  s.upd fun d => d.sparePowered cluster pass

def execSwapCopyDone (cluster : Fin 32) (s : State) : Host.Outcome State Fault Refusal :=
  s.upd fun d => d.swapCopied cluster

end Sys2Proof.Machine
end

