-- ==== Sys2Proof/Machine/Gate.lean ====
section
/-! DEFINITION. What answers in which power state: islands and the registers and memories of gated units (R591, R592,
R654), and the memory ranges of the local map (R13, R14, R100, R242, R486, R515). -/

namespace Sys2Proof.Machine

open Sys2Proof

/-- R583: the clock island of a register's block; none for the always-on domain (R654). The GAS and HLK blocks are the
S-die's (DEDUCED, log entry 64). -/
def islandOf (k : RegKey) : Option Nat :=
  match k.name.info.place.block with
  | .boot | .pwr => none
  | .sec | .intc | .log => some 43
  | .cluster => some k.u
  | .core => some (k.u / 4)
  | .engine => some (k.u / 8)
  | .xdie => some (32 + k.u)
  | .sdie | .gas | .hlk => some 36
  | .pdie => some (37 + k.u)

/-- The logical core of a register in a core or engine window. -/
def coreOf (k : RegKey) : Option Nat :=
  match k.name.info.place.block with
  | .core => some k.u
  | .engine => some (k.u / 2)
  | _ => none

/-- The die of an island, numbered as DLK_DIE_k_INV. -/
def islandDie (n : Nat) : Nat :=
  if n < 32 then n / 4 else if n < 36 then dieX (n - 32) else if n = 36 then dieS else if n < 43 then dieP (n - 37) else dieM

/-- R213: the pseudo-channel and the frame of an HBM local offset. -/
def hbmPlace (a : Nat) : Nat × Nat :=
  let b := a / 0x30000000
  let g := a % 0x30000000 / 1024
  let r := g / 768
  let n := (g % 768 + 24 * r) % 768
  let s := 6 * (n % 4) + n / 4 % 6
  let k := n / 24
  (32 * s + 2 * (k % 16) + k / 16, b)

/-- R213: the byte address of an HBM local offset within its pseudo-channel, before any frame is moved. -/
def hbmAddr (a : Nat) : Nat := a / 0x30000000 * 0x100000 + a % 0x30000000 / 1024 / 768 * 1024 + a % 1024

/-- R214: the home X-die of an HBM local offset; R488: of a companion window offset. -/
def homeX (a : Nat) : Nat :=
  if a < 0x100000000000 then
    let g := a % 0x30000000 / 1024
    (g % 768 + 24 * (g / 768)) % 768 % 4
  else a % 0x100000000000 / 1024 % 4

namespace Dev

/-- An island is powered and its clock enabled. -/
def islandOn (d : Dev) (n : Nat) : Bool :=
  d.on F.CLK_ISLAND_n_STAT.POWERED 0 n && d.on F.CLK_ISLAND_n_CTRL.EN 0 n
    && !d.on F.DLK_DIE_k_INV.OCCULTED 0 (islandDie n)

/-- R591, R654: whether a register answers; otherwise it reads zero and drops writes. A logical core that holds no
physical core has no registers that are powered. -/
def regServed (d : Dev) (k : RegKey) : Bool :=
  match islandOf k with
  | none => d.power.aux
  | some n => d.islandOn n && (match coreOf k with
    | some c => d.inService c
    | none => true)

/-! ### The local map (R13, R14) -/

/-- Map-outs done (HBM_CAPACITY). -/
def mapouts (d : Dev) : Nat := d.gf F.HBM_CAPACITY.MAPPED_OUT

/-- R238, R242: the first invalid HBM offset: a running map-out has fenced its band. -/
def hbmLimit (d : Dev) : Nat := (768 - d.mapouts - (if d.mem.mapout.isSome then 1 else 0)) * 0x30000000

/-- R486: the size of the companion window while it is populated. -/
def windowSize (d : Dev) : Nat := if d.hlkUp then d.gf F.HLK_WINDOW_SIZE.GIB * 2 ^ 30 else 0

/-- The kinds of memory of the local map. -/
inductive Area where
  | hbm | sram | window
  deriving DecidableEq, Repr

/-- R13, R14, R100, R592: the populated memory that a byte range of the local map lies in, whole. A range of activation
SRAM may run on through populated windows of one slot; it lies within one die. -/
def areaOf (d : Dev) (o n : Nat) : Option Area :=
  let e := o + n
  if o < 0x100000000000 then
    if e ≤ d.hbmLimit && (List.range 4).all (fun q => d.on F.HBM_STAT.READY q && !d.on F.HBM_STAT.SELF_REFRESH q) then some .hbm
    else none
  else if o < 0x200000000000 then
    let w := o - 0x100000000000
    let die := w / 0x10000000
    let lo := w % 0x10000000
    let hi := lo + (if n = 0 then 1 else n)
    if 8 ≤ die || 0xC000000 < hi then none
    else
      let coreOk (c : Nat) : Bool :=
        let a := c * 0x800000
        decide (hi ≤ a) || decide (a + 0x800000 ≤ lo) || (d.inService (16 * die + c) && d.islandOn (4 * die + c / 4))
      let clusterOk (l : Nat) : Bool :=
        let a := 0x8000000 + l * 0x1000000
        decide (hi ≤ a) || decide (a + 0x1000000 ≤ lo) || d.islandOn (4 * die + l)
      if (List.range 16).all coreOk && (List.range 4).all clusterOk then some .sram else none
  else if o < 0x3F0000000000 then
    if e ≤ 0x200000000000 + d.windowSize then some .window else none
  else none

/-- R13, R14: a byte range lies in a range that the local map populates, whether or not its unit is powered and ready.
-/
def populated (d : Dev) (o n : Nat) : Bool :=
  if o < 0x100000000000 then decide (o + n ≤ d.hbmLimit)
  else if o < 0x200000000000 then
    decide ((o - 0x100000000000) / 0x10000000 < 8) && decide ((o - 0x100000000000) % 0x10000000 + max n 1 ≤ 0xC000000)
  else decide (o + n ≤ 0x200000000000 + d.windowSize)

/-- A byte of the activation SRAM by its offset in the local map (R100, R101). -/
def sramByte (d : Dev) (o : Nat) : Byte :=
  let w := o - 0x100000000000
  let die := w / 0x10000000
  let r := w % 0x10000000
  if r < 0x8000000 then d.coreByte (16 * die * 2 ^ 23 + r) else d.clusterByte (4 * die * 2 ^ 24 + (r - 0x8000000))

def setSramByte (d : Dev) (o : Nat) (b : Byte) : Dev :=
  let w := o - 0x100000000000
  let die := w / 0x10000000
  let r := w % 0x10000000
  if r < 0x8000000 then d.setCoreByte (16 * die * 2 ^ 23 + r) b else d.setClusterByte (4 * die * 2 ^ 24 + (r - 0x8000000)) b

/-- The logical core whose store an SRAM offset lies in, if it is a core store. -/
def sramCore (o : Nat) : Option Nat :=
  let w := o - 0x100000000000
  let r := w % 0x10000000
  if r < 0x8000000 then some (16 * (w / 0x10000000) + r / 0x800000) else none

end Dev
end Sys2Proof.Machine
end

