-- ==== Sys2Proof/Machine/Mem.lean ====
section
/-! DEFINITION. HBM and the memory-side caches (chapter 06): the classes of a cache line (R217 to R222), poison and errors
(R223 to R228), and the directory's recalls before an access (R491). HBM bytes are held once, as the next access sees
them; a cache line says only where they are served from. -/

namespace Sys2Proof.Machine

open Sys2Proof

/-- The hint codes of R217. -/
def hintStream : Nat := 0
def hintKeep : Nat := 1
def hintDrop : Nat := 2

/-- The bytes that a request reads or writes. -/
def spanOf (p : Packet) : Nat :=
  if p.type = PT.read ∨ p.type = PT.write then 64 else if p.type = PT.atomic then (if p.w64 then 8 else 4) else p.length

/-- The local offset and the bytes that a request of the companion names. -/
def reqOffset (m : HlkMsg) : Nat := m.addr % 2 ^ 46
def reqBytes (m : HlkMsg) : Nat := if m.op = 3 then m.length else if m.op = 4 then m.payload.length else 64

/-- The offset or the global address of an access of the Eyepiece. -/
def eyeAddr : EyeAccess → Nat
  | .readReg o => o
  | .writeReg o _ => o
  | .readMem a _ => a
  | .writeMem a _ _ => a

/-- The 64-byte units that a byte range touches. -/
def unitsOf (a n : Nat) : List Nat :=
  if n = 0 then [] else (List.range ((a + n - 1) / 64 + 1 - a / 64)).map fun k => a / 64 + k

/-- What the check bits of a unit find in a step. -/
def errOf (errs : List MemErr) (u : Nat) : MemErr :=
  (errs.find? fun e => decide (e.unit = u)).getD { unit := u }

/-- The home X-die of a unit. -/
def unitHome (u : Nat) : Nat := homeX (64 * u)

namespace Dev

/-- R239: the frame that holds a unit: pc × 1024 + frame, substituted. -/
def frameOf (d : Dev) (u : Nat) : Nat :=
  let p := hbmPlace (64 * u)
  let f := p.1 * 1024 + p.2
  (NMap.get none d.mem.subst f).getD f

/-- The physical pseudo-channel that serves a unit. -/
def pcOf (d : Dev) (u : Nat) : Nat := d.frameOf u / 1024

def isPoison (d : Dev) (u : Nat) : Bool := NMap.get false d.mem.poison u

def setPoison (d : Dev) (u : Nat) (b : Bool) : Dev :=
  { d with mem := { d.mem with poison := NMap.set false d.mem.poison u b } }

def hbmByte (d : Dev) (a : Nat) : Byte := NMap.get 0 d.hbm a

def setHbmByte (d : Dev) (a : Nat) (b : Byte) : Dev := { d with hbm := NMap.set 0 d.hbm a b }

def hbmBytes (d : Dev) (a n : Nat) : List Byte := (List.range n).map fun k => d.hbmByte (a + k)

def putHbm (d : Dev) (a : Nat) : List Byte → Dev
  | [] => d
  | b :: bs => (d.setHbmByte a b).putHbm (a + 1) bs

/-! ### Records, counts and scores -/

/-- R243, R613: a record of the HBM class about a unit. -/
def logHbm (d : Dev) (code u : Nat) : Dev := d.logAt code (dieX (unitHome u)) (512 + d.pcOf u) (64 * u) (d.pcOf u)

/-- R223: a corrected read of a unit. -/
def hbmCorrected (d : Dev) (u : Nat) : Dev :=
  let pc := d.pcOf u
  (d.bump F.HBM_PC_n_ERR.CORR_CNT F.HBM_PC_n_ERR.CORR_SAT 1 (pc / 192) (pc % 192)).score (512 + pc) 1 0

/-- R224, R227: an uncorrectable unit: it is poisoned, counted, scored and logged; source 512 + 16q is set. -/
def hbmLost (d : Dev) (u code : Nat) : Dev :=
  let pc := d.pcOf u
  let d := (d.setPoison u true).bump F.HBM_PC_n_ERR.UNCORR_CNT F.HBM_PC_n_ERR.UNCORR_SAT 1 (pc / 192) (pc % 192)
  ((d.score (512 + pc) 512 code).logHbm code u).raise (512 + 16 * unitHome u)

/-- R226: a corrected cache error. -/
def mscCorrected (d : Dev) (u : Nat) : Dev :=
  let q := unitHome u
  (d.bump F.MSC_ERR_CNT.CORR_CNT F.MSC_ERR_CNT.CORR_SAT 1 q).score (1472 + q) 1 0

/-- R226: an uncorrectable dirty line: the unit is poisoned, counted, scored and logged. A companion line has no unit in
HBM: its record names the cache and the local offset, and no pseudo-channel. -/
def mscLost (d : Dev) (u : Nat) : Dev :=
  let q := unitHome u
  let comp := decide (0x100000000000 ≤ 64 * u)
  let d := (if comp then d else d.setPoison u true).bump F.MSC_ERR_CNT.DIRTY_CNT F.MSC_ERR_CNT.DIRTY_SAT 1 q
  let d := d.score (1472 + q) 512 Code.MSC_UNCORRECTABLE
  let d := if comp then d.logAt Code.MSC_UNCORRECTABLE (dieX q) (1472 + q) (64 * u) 0 else d.logHbm Code.MSC_UNCORRECTABLE u
  d.raise (512 + 16 * q)

/-! ### Lines -/

def lineAt (d : Dev) (u : Nat) : Option Line := d.mem.lines.find? fun l => decide (l.unit = u)

def setLines (d : Dev) (l : List Line) : Dev := { d with mem := { d.mem with lines := l } }

def dropLineOf (d : Dev) (u : Nat) : Dev := d.setLines (d.mem.lines.filter fun l => decide (l.unit ≠ u))

/-- A line stored as the most recently used one. -/
def putLine (d : Dev) (l : Line) : Dev := d.setLines ((d.mem.lines.filter fun x => decide (x.unit ≠ l.unit)) ++ [l])

/-- The companion address of a window unit (R486). -/
def windowAddr (d : Dev) (a : Nat) : Nat := (d.gf F.HLK_WINDOW_BASE.BASE + (a - 0x200000000000)) % 2 ^ 64

/-- A request of the AK20 to the companion, remembered by its tag. -/
def askCompanion (d : Dev) (op : Nat) (r : HlkReq) (payload : List Byte) : Dev :=
  let (t, d) := d.takeTag
  let d := { d with hlk := { d.hlk with reqs := d.hlk.reqs ++ [{ r with tag := t }] } }
  d.hlkSend
    { cls := HC.req, op := op, tag := t, addr := d.windowAddr r.off, payload := payload
      length := if op = 3 then r.len else payload.length }

/-- R220, R488: a dirty line's data stored where it belongs: in HBM, or at the companion by WRBACK. -/
def writeBack (d : Dev) (l : Line) : Dev :=
  if l.comp.isSome then d.askCompanion 5 { tag := 0, want := .wrback, off := 64 * l.unit } l.data else d.setPoison l.unit false

/-- R220, R226, R488: a line leaves the cache: a dirty one is written back, unless it is uncorrectable; a clean
companion line goes with EVICT_CLEAN. -/
def evictLine (d : Dev) (l : Line) (errs : List MemErr) : Dev :=
  let d := d.dropLineOf l.unit
  if l.dirty then
    match (errOf errs l.unit).msc with
    | .uncorrectable => d.mscLost l.unit
    | .corrected => (d.mscCorrected l.unit).writeBack l
    | .ok => d.writeBack l
  else if l.comp.isSome then
    let (t, d) := d.takeTag
    d.hlkSend { cls := HC.req, op := 6, tag := t, addr := d.windowAddr (64 * l.unit) }
  else d

/-- R221: the line that makes room for a new one, if room is needed; `ways` bounds companion lines (R488). With fewer
lines in all than KEEP_LIMIT no set can be full. -/
def victim (d : Dev) (u : Nat) (kept : Bool) (ways : Option Nat) : Option Line :=
  let limit := d.gf F.MSC_CTRL.KEEP_LIMIT (unitHome u)
  let some_ (l : List Line) : Option Line :=
    match l.find? fun x => !x.kept with
    | some x => some x
    | none => l.head?
  if d.mem.lines.length < limit ∧ ways = none then none
  else
    let set := d.mem.lines.filter fun l =>
      decide (unitHome l.unit = unitHome u) && decide (Config.cacheSet l.unit = Config.cacheSet u)
    match ways with
    | some w =>
      let comps := set.filter fun l => l.comp.isSome
      if w ≤ comps.length then some_ comps
      else if kept && decide (limit ≤ (set.filter fun l => l.kept).length) then set.find? fun l => l.kept
      else if 16 ≤ set.length then some_ set else none
    | none =>
      if kept && decide (limit ≤ (set.filter fun l => l.kept).length) then set.find? fun l => l.kept
      else if 16 ≤ set.length then some_ set else none

/-- R221: a line allocated. -/
def allocate (d : Dev) (l : Line) (ways : Option Nat) (errs : List MemErr) : Dev :=
  let d := match d.victim l.unit l.kept ways with
    | some v => d.evictLine v errs
    | none => d
  d.putLine l

/-- R218, R219: what a read's hint does to a present line, which the read has checked; a spent counted line is
invalidated. -/
def useLine (d : Dev) (l : Line) (hint : Nat) : Dev :=
  if l.kept then d.putLine l
  else if hint = hintKeep then d.putLine { l with kept := true, count := 0 }
  else if l.count ≤ 1 then (d.evictLine { l with count := 0 } []).incr F.MSC_DROP_CNT.LINES 1 (unitHome l.unit)
  else d.putLine { l with count := l.count - 1 }

/-- R218, R220: the class under which an access allocates, if it does: kept, and the count. -/
def allocClass (hint use count : Nat) : Option (Bool × Nat) :=
  if hint = hintKeep then some (true, 0)
  else if hint = hintDrop ∧ 2 ≤ use then some (false, count)
  else none

/-! ### One unit -/

/-- R218, R223 to R225: a unit read from HBM: its code, and the device after it. -/
def fetchUnit (d : Dev) (u : Nat) (errs : List MemErr) : Nat × Dev :=
  if d.isPoison u then (Code.HBM_POISON, d.logHbm Code.HBM_POISON u)
  else match (errOf errs u).dram with
    | .uncorrectable => (Code.HBM_UNCORRECTABLE, d.hbmLost u Code.HBM_UNCORRECTABLE)
    | .corrected => (0, d.hbmCorrected u)
    | .ok => (0, d)

/-- R226: the cache's check bits of a present line: the line goes on, or is gone (refetched when clean, lost when
dirty). -/
def checkLine (d : Dev) (l : Line) (errs : List MemErr) : Nat × Option Line × Dev :=
  match (errOf errs l.unit).msc with
  | .ok => (0, some l, d)
  | .corrected => (0, some l, d.mscCorrected l.unit)
  | .uncorrectable =>
    let d := d.dropLineOf l.unit
    if l.dirty then (Code.MSC_UNCORRECTABLE, none, d.mscLost l.unit)
    else (0, none, d.bump F.MSC_ERR_CNT.REFETCH_CNT F.MSC_ERR_CNT.REFETCH_SAT 1 (unitHome l.unit))

/-- R218: an absent unit read under a hint. -/
def readMiss (d : Dev) (u hint use : Nat) (errs : List MemErr) : Nat × Dev :=
  let (code, d) := d.fetchUnit u errs
  if code ≠ 0 then (code, d)
  else
    let d := d.incr F.MSC_MISS_CNT.LINES 1 (unitHome u)
    match allocClass hint use (use - 1) with
    | some (kept, count) => (0, d.allocate { unit := u, kept := kept, count := count } none errs)
    | none => (0, d)

/-- R218, R219, R223 to R226: a read of one unit. -/
def readUnit (d : Dev) (u hint use : Nat) (errs : List MemErr) : Nat × Dev :=
  match d.lineAt u with
  | none => d.readMiss u hint use errs
  | some l =>
    match d.checkLine l errs with
    | (0, some l, d) => (0, (d.incr F.MSC_HIT_CNT.LINES 1 (unitHome u)).useLine l hint)
    | (0, none, d) => d.readMiss u hint use errs
    | (code, _, d) => (code, d)

/-- R220, R225: a write of one unit, whole or in part; the bytes are stored by the caller when the code is 0. -/
def writeUnit (d : Dev) (u : Nat) (whole : Bool) (hint use : Nat) (errs : List MemErr) : Nat × Dev :=
  let miss (d : Dev) : Nat × Dev :=
    let (code, d) := if whole then (0, d) else d.fetchUnit u errs
    if code ≠ 0 then (code, d)
    else match allocClass hint use use with
      | some (kept, count) => (0, d.allocate { unit := u, kept := kept, count := count, dirty := true } none errs)
      | none => (0, d.setPoison u false)
  match d.lineAt u with
  | none => miss d
  | some l =>
    if whole then (0, d.putLine { l with dirty := true })
    else match d.checkLine l errs with
      | (0, some l, d) => (0, d.putLine { l with dirty := true })
      | (0, none, d) => miss d
      | (code, _, d) => (code, d)

/-! ### Byte ranges -/

/-- R215, R216: a read of HBM, unit by unit; the first code that is not 0 is the access's. -/
def readHbm (d : Dev) (a n hint use : Nat) (errs : List MemErr) : Nat × Dev :=
  (unitsOf a n).foldl (fun (c, d) u =>
    let (c', d) := d.readUnit u hint use errs
    (if c = 0 then c' else c, d)) (0, d)

/-- The part of a byte string at offset a that lies in unit u: its offset and bytes. -/
def partIn (a u : Nat) (bytes : List Byte) : Nat × List Byte :=
  let lo := max a (64 * u)
  let hi := min (a + bytes.length) (64 * u + 64)
  (lo, (bytes.drop (lo - a)).take (hi - lo))

/-- R215, R220, R225: a write of HBM, unit by unit; a unit that cannot be written keeps its bytes. -/
def writeHbm (d : Dev) (a : Nat) (bytes : List Byte) (hint use : Nat) (errs : List MemErr) : Nat × Dev :=
  (unitsOf a bytes.length).foldl (fun (c, d) u =>
    let (lo, bs) := partIn a u bytes
    let (c', d) := d.writeUnit u (decide (bs.length = 64)) hint use errs
    let d := if c' = 0 then d.putHbm lo bs else d
    (if c = 0 then c' else c, d)) (0, d)

/-! ### What an access waits for -/

/-- R240: the frame of a unit is being copied. -/
def frameBusy (d : Dev) (u : Nat) : Bool :=
  match d.mem.mapout with
  | some m =>
    let p := hbmPlace (64 * u)
    decide (m.phase = .copy) && (match m.moves.head? with
      | some (f, _) => decide (f = p.1 * 1024 + p.2)
      | none => false)
  | none => false

def dirAt (d : Dev) (u : Nat) : Option DirLine := d.hlk.dir.find? fun l => decide (l.unit = u)

def setDir (d : Dev) (l : List DirLine) : Dev := { d with hlk := { d.hlk with dir := l } }

/-- R491: a recall of a directory line, by SNP_INV or SNP_SHARE, unless one is under way. -/
def recallLine (d : Dev) (u : Nat) (inv : Bool) : Dev :=
  match d.dirAt u with
  | some l =>
    if l.snoop.isSome then d
    else
      let (t, d) := d.takeTag
      let d := d.setDir (d.hlk.dir.map fun x => if x.unit = u then { x with snoop := some (inv, t) } else x)
      d.hlkSend { cls := HC.snp, op := if inv then 2 else 1, tag := t, addr := 64 * u }
  | none => d

/-- R491: an access conflicts with the directory: a read with an owned line, a write with any held line. -/
def dirConflict (d : Dev) (u : Nat) (write : Bool) : Bool :=
  match d.dirAt u with
  | some l => l.owned || write
  | none => false

/-- R240, R491: whether an access to HBM waits for a frame copy or a recall, and the device with the recalls that it
needs sent. -/
def hbmWaits (d : Dev) (a n : Nat) (write : Bool) : Bool × Dev :=
  (unitsOf a n).foldl (fun (w, d) u =>
    if d.dirConflict u write then (true, d.recallLine u write)
    else (w || d.frameBusy u, d)) (false, d)

/-- The unit whose line a message of the companion gives back: a WRBACK names it, and an answer to a recall by its
tag. -/
def returnUnit (d : Dev) (m : HlkMsg) : Nat :=
  if m.cls = HC.req then reqOffset m / 64
  else ((d.hlk.dir.find? fun l => decide ((l.snoop.map Prod.snd) = some m.tag)).map fun l => l.unit).getD 0

/-- The local offset and the length of a waiting access. -/
def waitSpan (d : Dev) : Waiting → Nat × Nat
  | .packet p => (p.addr % 2 ^ 46, spanOf p)
  | .message m => (reqOffset m, reqBytes m)
  | .eye a => (eyeAddr a % 2 ^ 46, 8)
  | .load o n _ _ => (o, n)
  | .store o bs _ _ => (o, bs.length)
  | .table n _ => (d.gf F.COL_GROUP_n_LIST.TABLE 0 n, 4 * d.gf F.COL_GROUP_n_LIST.MEMBERS 0 n)

/-- Two byte ranges touch a common 64-byte unit. -/
def sameUnit (a b : Nat × Nat) : Bool :=
  decide (0 < a.2) && decide (0 < b.2) && decide (a.1 / 64 ≤ (b.1 + b.2 - 1) / 64) && decide (b.1 / 64 ≤ (a.1 + a.2 - 1) / 64)

/-- R216: an access that came earlier and touches one of these bytes' units waits, or a line of theirs is being given
back. -/
def behind (d : Dev) (r : Nat × Nat) : Bool :=
  d.mem.held.any (fun w => sameUnit r (d.waitSpan w)) || d.mem.returns.any fun m => sameUnit r (64 * d.returnUnit m, 64)

def holdAccess (d : Dev) (w : Waiting) : Dev := { d with mem := { d.mem with held := d.mem.held ++ [w] } }

/-- R216, R240, R491: whether an access to HBM waits: behind an earlier one, or for a frame copy or a recall. -/
def hbmHeld (d : Dev) (o n : Nat) (write : Bool) : Bool × Dev :=
  if d.behind (o, n) then (true, d) else d.hbmWaits o n write

/-! ### FLUSH and UNKEEP (R222) -/

/-- R222: the lines that FLUSH writes back: those of the X-die that are dirty now. -/
def flushSet (d : Dev) (q : Nat) : List Nat :=
  (d.mem.lines.filter fun l => l.dirty && decide (unitHome l.unit = q)).map fun l => l.unit

def keepSet (d : Dev) (q : Nat) : List Nat :=
  (d.mem.lines.filter fun l => l.kept && decide (unitHome l.unit = q)).map fun l => l.unit

/-- R222: FLUSH starts; the bit reads as 1 until it is done. -/
def mscFlush (d : Dev) (q : Nat) : Dev :=
  let d := d.sf F.MSC_CTRL.FLUSH 1 q
  { d with mem := { d.mem with flushing := NMap.set none d.mem.flushing q (some (d.flushSet q)) } }

/-- R222: UNKEEP starts. -/
def mscUnkeep (d : Dev) (q : Nat) : Dev :=
  let d := d.sf F.MSC_CTRL.UNKEEP 1 q
  { d with mem := { d.mem with unkeeping := NMap.set none d.mem.unkeeping q (some (d.keepSet q)) } }

/-- R222, R226: one line written back, valid and clean after it; a line that is uncorrectable is lost. A companion
line is written back by WRBACK and stays in S, in which a later write asks for it again (DESIGN CHOICE, log entry 10).
-/
def cleanLine (d : Dev) (u : Nat) (errs : List MemErr) : Dev :=
  match d.lineAt u with
  | some l =>
    if !l.dirty then d
    else match (errOf errs u).msc with
      | .uncorrectable => (d.dropLineOf u).mscLost u
      | e =>
        let d := if e = .corrected then d.mscCorrected u else d
        let clean (x : Line) : Line := { x with dirty := false, comp := x.comp.map fun _ => .s }
        (d.setLines (d.mem.lines.map fun x => if x.unit = u then clean x else x)).writeBack l
  | none => d

/-- R222: FLUSH is done. -/
def flushDone (d : Dev) (q : Nat) (errs : List MemErr) : Dev :=
  match NMap.get none d.mem.flushing q with
  | some us =>
    let d := us.foldl (fun d u => d.cleanLine u errs) d
    { d with mem := { d.mem with flushing := NMap.set none d.mem.flushing q none } }.sf F.MSC_CTRL.FLUSH 0 q
  | none => d

/-- R222: UNKEEP is done. -/
def unkeepDone (d : Dev) (q : Nat) : Dev :=
  match NMap.get none d.mem.unkeeping q with
  | some us =>
    let d := d.setLines (d.mem.lines.map fun l =>
      if us.contains l.unit && l.kept then { l with kept := false, count := 1 } else l)
    { d with mem := { d.mem with unkeeping := NMap.set none d.mem.unkeeping q none } }.sf F.MSC_CTRL.UNKEEP 0 q
  | none => d

/-- R230: a cache before self-refresh: every dirty line is written back, and the whole cache is invalidated. -/
def cacheEmpty (d : Dev) (errs : List MemErr) : Dev :=
  (d.mem.lines.foldl (fun d l => d.evictLine l errs) d).setLines []

/-! ### Patrol scrub and temperatures -/

/-- R227, R223, R224: the patrol scrub reads a unit below the cache; `last` ends a pass, which reads the on-die ECC
reports of the X-die's stacks into HBM_STACK_s_STAT (R628 scores every 16). -/
def scrub (d : Dev) (u : Nat) (ecc : Ecc) : Dev :=
  if d.isPoison u then d
  else match ecc with
    | .ok => d
    | .corrected => d.hbmCorrected u
    | .uncorrectable => d.hbmLost u Code.HBM_SCRUB_UNCORRECTABLE

/-- The on-die ECC corrections of stack i of X-die q since the last pass. -/
def odecc (d : Dev) (q i n : Nat) : Dev :=
  let s := 6 * q + i
  let d := d.bump F.HBM_STACK_s_STAT.ODECC_CNT F.HBM_STACK_s_STAT.ODECC_SAT n q i
  let t := NMap.get 0 d.mem.odecc s + n
  let d := { d with mem := { d.mem with odecc := NMap.set 0 d.mem.odecc s (t % 16) } }
  if 16 ≤ t then d.score (1280 + s) (t / 16) 0 else d

/-- R227: a pass ends. -/
def scrubPass (d : Dev) (q : Nat) (counts : List Nat) : Dev :=
  let d := (List.range 6).foldl (fun d i => if counts.getD i 0 = 0 then d else d.odecc q i (counts.getD i 0)) d
  d.sf F.HBM_SCRUB_CTRL.PASSES (d.gf F.HBM_SCRUB_CTRL.PASSES q + 1) q

/-- R229: the stack temperatures read. -/
def stackTemps (d : Dev) (q : Nat) (temps : List Nat) : Dev :=
  let d := (List.range 6).foldl (fun d i => d.sf F.HBM_STACK_s_STAT.TEMP (temps.getD i 0) q i) d
  d.sf F.HBM_STAT.MAX_STACK_TEMP ((List.range 6).foldl (fun m i => max m (temps.getD i 0 % 256)) 0) q

/-! ### Mapping out a pseudo-channel -/

/-- R236: why a map-out request is refused, if it is. -/
def mapoutRefusal (d : Dev) (q pc : Nat) : Option Nat :=
  if pc / 192 ≠ q || d.on F.HBM_PC_n_ERR.MAPPED_OUT q (pc % 192) then some Code.HBM_MAPOUT_BAD_PC
  else if 24 ≤ d.mapouts then some Code.HBM_MAPOUT_LIMIT
  else if d.mem.mapout.isSome then some Code.HBM_MAPOUT_BUSY
  else none

/-- R237: the contents of an invalid band are discarded, lines and all. -/
def dropBand (d : Dev) (b : Nat) : Dev :=
  let inBand (a : Nat) : Bool := decide (b * 0x30000000 ≤ a) && decide (a < (b + 1) * 0x30000000)
  { d with
    hbm := d.hbm.filter fun e => !inBand e.1
    mem := { d.mem with
      lines := d.mem.lines.filter fun l => !inBand (64 * l.unit)
      poison := d.mem.poison.filter fun e => !inBand (64 * e.1) } }

/-- R235 to R238: REQ of HBM_MAPOUT_CTRL. -/
def mapoutReq (d : Dev) (q : Nat) : Dev :=
  let pc := d.gf F.HBM_MAPOUT_CTRL.PC q
  let d' := d.sf F.HBM_MAPOUT_STAT.PC pc q
  match d.mapoutRefusal q pc with
  | some code =>
    let running := match d.mem.mapout with
      | some m => decide (m.q = q)
      | none => false
    let d := (d'.sf F.HBM_MAPOUT_STAT.CODE code q).sf F.HBM_MAPOUT_STAT.STATE 4 q
    (d.sf F.HBM_MAPOUT_CTRL.REQ (if running then 1 else 0) q).logAt code (dieX q) (512 + pc) 0 pc
  | none =>
    let d := (d'.sf F.HBM_MAPOUT_STAT.FRAMES_DONE 0 q).sf F.HBM_MAPOUT_STAT.STATE 1 q
    let d := (d.dropBand (767 - d.mapouts)).sf F.HBM_MAPOUT_CTRL.REQ 1 q
    { d with mem := { d.mem with mapout := some { q := q, pc := pc } } }

/-- The pseudo-channels mapped out, in order (HBM_MAPOUT_LIST_n). -/
def mappedOut (d : Dev) : List Nat :=
  (List.range d.mapouts).map fun k => getBits (d.reg ⟨.HBM_MAPOUT_LIST_n, 0, k / 4, 0⟩) (16 * (k % 4) + 9) (16 * (k % 4))

end Dev

/-- R239: the frames to move when pseudo-channel pc follows m map-outs: its own, then those it hosts, of the valid
bands. Each is named by its own place. -/
def framesToMove (subst : NMap (Option Nat)) (pc m : Nat) : List Nat :=
  (List.range (767 - m)).map (fun b => pc * 1024 + b)
    ++ (subst.filter fun e => decide (e.2.getD 0 / 1024 = pc) && decide (e.1 % 1024 < 767 - m)).map fun e => e.1

/-- R239: the free frames in order: those of in-service pseudo-channels in the invalid bands that host no frame of a
valid band; `gone` are mapped out already. -/
def freeFrames (subst : NMap (Option Nat)) (gone : List Nat) (pc : Nat) : List Nat :=
  let m := gone.length
  ((List.range 768).filter fun p => decide (p ≠ pc) && !gone.contains p).flatMap fun p =>
    ((List.range (m + 1)).map fun i => p * 1024 + (767 - m + i)).filter fun f =>
      !subst.any fun e => decide (e.2 = some f) && decide (e.1 % 1024 < 767 - m)

/-- R239: the moves of a map-out. -/
def movesOf (subst : NMap (Option Nat)) (gone : List Nat) (pc : Nat) : List (Nat × Nat) :=
  (framesToMove subst pc gone.length).zip (freeFrames subst gone pc)

/-- R239: the substitutions of frames in bands that stay valid when one more pseudo-channel follows m map-outs. -/
def liveSubst (subst : NMap (Option Nat)) (m : Nat) : NMap (Option Nat) := subst.filter fun e => decide (e.1 % 1024 < 767 - m)

/-- R239, R241: the substitution table to which the map-outs of a list lead, from that of those before it. -/
def substFrom (subst : NMap (Option Nat)) (gone : List Nat) : List Nat → NMap (Option Nat)
  | [] => subst
  | pc :: rest =>
    substFrom ((movesOf subst gone pc).foldl (fun t e => NMap.set none t e.1 (some e.2)) (liveSubst subst gone.length))
      (gone ++ [pc]) rest

namespace Dev

/-- R241: the substitution table that the mapped-out list restores. -/
def restoreSubst (d : Dev) : Dev := { d with mem := { d.mem with subst := substFrom [] [] d.mappedOut } }

/-- A waiting access touches a band of HBM. -/
def bandHeld (d : Dev) (b : Nat) : Bool :=
  d.mem.held.any fun w =>
    let (o, n) := d.waitSpan w
    decide (o < (b + 1) * 0x30000000) && decide (b * 0x30000000 < o + n)

/-- R238, R239: the accesses to the band in progress have completed, and the copy begins; substitutions of frames in
invalid bands end. -/
def mapoutFenced (d : Dev) : Dev :=
  match d.mem.mapout with
  | some m =>
    if m.phase = .fence && !d.bandHeld (767 - d.mapouts) then
      let moves := movesOf d.mem.subst d.mappedOut m.pc
      let d := d.dropBand (767 - d.mapouts)
      { d with mem := { d.mem with
          mapout := some { m with phase := .copy, moves := moves }
          subst := liveSubst d.mem.subst d.mapouts } }.sf F.HBM_MAPOUT_STAT.STATE 2 m.q
    else d
  | none => d

/-- R238, R242: the map-out commits. -/
def mapoutCommit (d : Dev) (m : Mapout) : Dev :=
  let k := d.mapouts
  let key : RegKey := ⟨.HBM_MAPOUT_LIST_n, 0, k / 4, 0⟩
  let lo := 16 * (k % 4)
  let d := d.setReg key (setBits (setBits (d.reg key) (lo + 9) lo m.pc) (lo + 15) (lo + 15) 1)
  let d := d.sf F.HBM_PC_n_ERR.MAPPED_OUT 1 m.q (m.pc % 192)
  let d := (d.sf F.HBM_CAPACITY.MAPPED_OUT (k + 1)).sf F.HBM_CAPACITY.BYTES ((768 - (k + 1)) * 0x30000000)
  let d := { d with mem := { d.mem with mapout := none } }
  let d := (d.sf F.HBM_MAPOUT_STAT.CODE 0 m.q).sf F.HBM_MAPOUT_STAT.STATE 3 m.q
  let d := d.sf F.HBM_MAPOUT_CTRL.REQ 0 m.q
  (d.logAt Code.HBM_MAPOUT_DONE (dieX m.q) (512 + m.pc) 0 m.pc).raise (512 + 16 * m.q + 1)

/-- R223, R239, R240: a frame has been copied: units that read uncorrectable are poisoned in their new place, `fixed`
ones were read corrected, and the substitution table sends the frame's accesses there. The last frame commits the
map-out. -/
def frameCopied (d : Dev) (bad fixed : List Nat) : Dev :=
  match d.mem.mapout with
  | some m =>
    match m.moves with
    | (f, host) :: rest =>
      if m.phase ≠ .copy then d
      else
        let inFrame (u : Nat) : Bool := decide ((hbmPlace (64 * u)).1 * 1024 + (hbmPlace (64 * u)).2 = f)
        let d := (fixed.filter fun u => inFrame u && !d.isPoison u).foldl (fun d u => d.hbmCorrected u) d
        let d := (bad.filter fun u => inFrame u && !d.isPoison u).foldl (fun d u => d.hbmLost u Code.HBM_UNCORRECTABLE) d
        let m := { m with moves := rest }
        let d := { d with mem := { d.mem with
          subst := NMap.set none d.mem.subst f (some host), mapout := some m } }
        let d := d.sf F.HBM_MAPOUT_STAT.FRAMES_DONE (d.gf F.HBM_MAPOUT_STAT.FRAMES_DONE m.q + 1) m.q
        if rest = [] then d.mapoutCommit m else d
    | [] => d
  | none => d

end Dev

/-! ### The commands -/

def execMscOpDone (x : Fin 4) (unkeep : Bool) (errs : List MemErr) (s : State) : Host.Outcome State Fault Refusal :=
  s.upd fun d => if unkeep then d.unkeepDone x else d.flushDone x errs

def execPatrolScrub (x : Fin 4) (unit : Nat) (ecc : Ecc) (last : Bool) (odecc : List Nat) (s : State) :
    Host.Outcome State Fault Refusal :=
  s.upd fun d =>
    let d := if decide (64 * unit < d.hbmLimit) && decide (unitHome unit = x) then d.scrub unit ecc else d
    if last then d.scrubPass x odecc else d

/-- R229: a refresh keeps the cells' charge; no state that the manual names changes. -/
def execHbmRefresh (s : State) : Host.Outcome State Fault Refusal :=
  s.upd fun d => d

def execStackTempRead (x : Fin 4) (temps : List Nat) (s : State) : Host.Outcome State Fault Refusal :=
  s.upd fun d => d.stackTemps x temps

def execMapoutFenceDone (s : State) : Host.Outcome State Fault Refusal :=
  s.upd fun d => d.mapoutFenced

end Sys2Proof.Machine
end

