-- ==== Sys2Proof/Machine/Group.lean ====
section
/-! DEFINITION. Groups (R378 to R382): shapes, ranks, trees (R397) and the ring places of elements (R399), the checks when
VALID is written, the COLL packet's redefined words (R420), and records of the class (R421). -/

namespace Sys2Proof.Machine

open Sys2Proof

/-- A group as one member sees it. -/
structure Geo where
  list : Bool
  /-- P. -/
  p : Nat
  /-- BOX: EX, EY, EZ; LIST: P alone. -/
  ext : List Nat
  /-- Whether each line is a closed ring. -/
  closed : List Bool
  keeper : Nat
  rank : Nat
  deriving DecidableEq, Repr

namespace Geo

def extAt (g : Geo) (k : Nat) : Nat := g.ext.getD k 1

/-- The distance in ranks of one step in dimension k. -/
def stride (g : Geo) (k : Nat) : Nat := (g.ext.take k).foldl (· * ·) 1

/-- The position of a rank in dimension k (R379). -/
def pos (g : Geo) (r k : Nat) : Nat := r / g.stride k % g.extAt k

/-- The rank with its position in dimension k replaced. -/
def withPos (g : Geo) (r k x : Nat) : Nat := r + x * g.stride k - g.pos r k * g.stride k

/-- The dimensions with more than one member. -/
def active (g : Geo) : List Nat := (List.range g.ext.length).filter fun k => decide (1 < g.extAt k)

/-- The other members of this member's line in dimension k, from the origin. -/
def line (g : Geo) (k : Nat) : List Nat := (List.range (g.extAt k)).map fun x => g.withPos g.rank k x

/-- R397: the parent of a member in the dimension-order tree of a BOX rooted at `root`: the step before the last on the
path through X, Y and Z; each step moves in the direction of R300 along the line. -/
def boxParent (g : Geo) (root r : Nat) : Option Nat :=
  match [2, 1, 0].find? fun k => decide (g.pos r k ≠ g.pos root k) with
  | none => none
  | some k =>
    let e := g.extAt k
    let t := g.pos r k
    let dir := directionRule e (g.pos root k) t (g.closed.getD k false)
    some (g.withPos r k (if dir = 1 then (t + e - 1) % e else (t + 1) % e))

/-- R397: the parent in the binary tree of a LIST. -/
def listParent (g : Geo) (root r : Nat) : Option Nat :=
  let x := (r + g.p - root) % g.p
  if x = 0 then none else some (((x - 1) / 2 + root) % g.p)

def parent (g : Geo) (root r : Nat) : Option Nat := if g.list then g.listParent root r else g.boxParent root r

/-- The children of a member, in increasing order of rank. -/
def children (g : Geo) (root r : Nat) : List Nat := (List.range g.p).filter fun x => decide (g.parent root x = some r)

/-- The members of the subtree below a child, the child among them; `n` bounds the depth. -/
def subtree (g : Geo) (root : Nat) : Nat → Nat → List Nat
  | 0, _ => []
  | n + 1, r => r :: (g.children root r).flatMap fun x => subtree g root n x

end Geo

/-! ### RING: the place of an element (R399) -/

/-- The part that element x of n falls into when n elements are split into k parts, the first n mod k of them one
element longer: its number, its first element and its length. -/
def splitAt (n k x : Nat) : Nat × Nat × Nat :=
  let q := n / k
  let m := n % k
  if x < m * (q + 1) then (x / (q + 1), x / (q + 1) * (q + 1), q + 1)
  else
    let i := if q = 0 then m else m + (x - m * (q + 1)) / q
    (i, m * (q + 1) + (i - m) * q, q)

/-- A step of an element's way through the dimensions: the dimension, the owner's position in it, and whether its half
of the block travels towards lower positions. -/
structure RingStep where
  dim : Nat
  owner : Nat
  rev : Bool
  deriving DecidableEq, Repr

namespace Geo

/-- R399: whether offset x of a block of n elements lies in the half that travels backwards. -/
def backHalf (g : Geo) (k n x : Nat) : Bool :=
  !g.list && g.closed.getD k false && decide (3 ≤ g.extAt k) && decide (n - n / 2 ≤ x)

/-- R399: the steps of an ALL_REDUCE element at offset x of a part [lo, lo + n) through some dimensions. -/
def stepsReduce (g : Geo) : List Nat → Nat → Nat → List RingStep
  | [], _, _ => []
  | k :: ks, n, x =>
    let b := splitAt n (g.extAt k) x
    { dim := k, owner := b.1, rev := g.backHalf k b.2.2 (x - b.2.1) } :: stepsReduce g ks b.2.2 (x - b.2.1)

/-- The dimensions of part i: cyclic, from the i-th active one. -/
def partDims (g : Geo) (i : Nat) : List Nat := g.active.drop i ++ g.active.take i

/-- R399: the steps of element e of an operation with COUNT elements a block: its block's owner is the place that the
splitting gives (ALL_REDUCE), or the member whose block it is (REDUCE_SCATTER, ALL_GATHER). -/
def ringSteps (g : Geo) (op count e : Nat) : List RingStep :=
  let x := if op = 0 then e else e % count
  let part := splitAt count g.active.length x
  let dims := g.partDims part.1
  if op = 0 then g.stepsReduce dims part.2.2 (x - part.2.1)
  else dims.map fun k => { dim := k, owner := g.pos (e / count) k, rev := g.backHalf k part.2.2 (x - part.2.1) }

/-- How many of an element's steps, from the first on, this member stands at the owner's position of: the reduce-scatter
stage that it reaches the element in, and from the last all-gather stage back the stage that brings it (R400). -/
def ownedSteps (g : Geo) (l : List RingStep) : Nat := (l.takeWhile fun s => decide (g.pos g.rank s.dim = s.owner)).length

/-- The place in the order of dimensions that a stage of RING works at: the reduce-scatter stages first, then the
all-gather in reverse. -/
def ringPlace (g : Geo) (stage : Nat) : Nat :=
  let k := g.active.length
  if stage < k then stage else 2 * k - 1 - stage

/-- R420: the stage's block of a part: its elements, in rising order, whose steps before the stage's this member owns.
-/
def ringBlock (g : Geo) (op count total place part : Nat) : List Nat :=
  (List.range total).filter fun e =>
    let x := if op = 0 then e else e % count
    decide ((splitAt count g.active.length x).1 = part) && decide (place ≤ g.ownedSteps (g.ringSteps op count e))

/-- The part whose data a neighbour in dimension `dim` sends at a place: parts take the dimensions in rotation (R399).
-/
def ringPart (g : Geo) (place dim : Nat) : Nat :=
  ((List.range g.active.length).find? fun i => decide ((g.partDims i)[place]? = some dim)).getD 0

/-- The dimension in which two members of a line differ. -/
def dimTo (g : Geo) (r : Nat) : Nat := (g.active.find? fun k => decide (g.pos r k ≠ g.pos g.rank k)).getD 0

/-- The next member of a line in the direction of a step. -/
def next (g : Geo) (s : RingStep) : Nat :=
  let e := g.extAt s.dim
  let x := g.pos g.rank s.dim
  g.withPos g.rank s.dim (if s.rev then (x + e - 1) % e else (x + 1) % e)

/-- R400: this member's contribution starts the chain of a step: it stands just after the owner. -/
def starts (g : Geo) (s : RingStep) : Bool :=
  let e := g.extAt s.dim
  decide (g.pos g.rank s.dim = (if s.rev then (s.owner + e - 1) % e else (s.owner + 1) % e))

def owns (g : Geo) (s : RingStep) : Bool := decide (g.pos g.rank s.dim = s.owner)

end Geo

namespace Dev

/-! ### Slots -/

def collSlot (d : Dev) (n : Nat) : CollSlot := NMap.get {} d.colls n

def setCollSlot (d : Dev) (n : Nat) (x : CollSlot) : Dev := { d with colls := NMap.set {} d.colls n x }

def setRunOf (d : Dev) (n : Nat) (r : Option CollRun) : Dev := d.setCollSlot n { d.collSlot n with run := r }

/-- EX, EY and EZ of a BOX slot. -/
def boxExt (d : Dev) (n : Nat) : List Nat :=
  let x := d.gf F.COL_GROUP_n_BOX.EXT_M1 0 n
  [x % 64 + 1, x / 64 % 64 + 1, x / 4096 % 64 + 1]

def isList (d : Dev) (n : Nat) : Bool := d.on F.COL_GROUP_n_CFG.SHAPE 0 n

/-- R379: the rank of a device in a slot's group, if it is a member. -/
def rankOf (d : Dev) (n dev : Nat) : Option Nat :=
  if d.isList n then
    match (d.collSlot n).members.findIdx? fun x => decide (x = dev) with
    | some i => some i
    | none => none
  else
    let o := d.gf F.COL_GROUP_n_BOX.ORIGIN 0 n
    let e := d.boxExt n
    let c (k : Nat) : Nat := (coordOf dev k + d.dim k - coordOf o k % d.dim k) % d.dim k
    if (List.range 3).all fun k => decide (c k < e.getD k 1) && decide (coordOf dev k < d.dim k) then
      some (c 0 + e.getD 0 1 * c 1 + e.getD 0 1 * e.getD 1 1 * c 2)
    else none

/-- The group of a slot. -/
def geo (d : Dev) (n : Nat) : Geo :=
  let ext := if d.isList n then [(d.collSlot n).members.length] else d.boxExt n
  { list := d.isList n
    p := ext.foldl (· * ·) 1
    ext := ext
    closed := if d.isList n then [true]
      else (List.range 3).map fun k => decide (ext.getD k 1 = d.dim k) && d.wrapBit d.bank k
    keeper := d.gf F.COL_GROUP_n_ROLE.KEEPER 0 n
    rank := (d.rankOf n d.self).getD 0 }

/-- The device of a rank. -/
def memberDev (d : Dev) (n r : Nat) : Nat :=
  if d.isList n then (d.collSlot n).members.getD r 0
  else
    let o := d.gf F.COL_GROUP_n_BOX.ORIGIN 0 n
    let g := d.geo n
    (List.range 3).foldl (fun i k => withCoord i k ((coordOf o k + g.pos r k) % d.dim k)) o

/-- R421, R613: a record of the collectives class about an instance of a slot; DEVICE and DETAIL1 name the suspect where
there is one. -/
def logColl (d : Dev) (code n inst : Nat) (suspect : Option Nat) : Dev :=
  d.report
    { code := code, source := srcOf dieS 0xFFFF
      d0 := n + inst % 2 ^ 24 * 2 ^ 8 + d.gf F.COL_GROUP_n_CFG.GROUP_ID 0 n * 2 ^ 32
      d1 := suspect.getD 0, device := suspect.getD d.self }

/-! ### Configuration -/

/-- R382: a slot that is agreeing or moving data. -/
def slotBusy (d : Dev) (n : Nat) : Bool :=
  decide (d.gf F.COL_GROUP_n_STAT.STATE 0 n = 1) || decide (d.gf F.COL_GROUP_n_STAT.STATE 0 n = 2)

/-- The member table of a LIST, as HBM holds it (R378). -/
def listTable (d : Dev) (n : Nat) : List Nat :=
  let t := d.gf F.COL_GROUP_n_LIST.TABLE 0 n
  (List.range (d.gf F.COL_GROUP_n_LIST.MEMBERS 0 n)).map fun i => leNat (d.hbmBytes (t + 4 * i) 4)

/-- R378, R380: the configuration of a slot is accepted; its member table has been read. -/
def groupOk (d : Dev) (n : Nat) : Bool :=
  (d.rankOf n d.self).isSome && d.inService (d.gf F.COL_GROUP_n_CFG.HOME_CORE 0 n)
    && (if d.isList n then
        let l := (d.collSlot n).members
        let t := d.gf F.COL_GROUP_n_LIST.TABLE 0 n
        decide (1 ≤ l.length) && decide (l.length ≤ 4096) && decide (t % 64 = 0)
          && decide (d.areaOf t (4 * l.length) = some .hbm)
          && l.all (fun x => decide (x < 2 ^ 18) && d.inTorus x) && decide l.Nodup
      else (List.range 3).all fun k => decide ((d.boxExt n).getD k 1 ≤ d.dim k))

/-- R380: a slot whose CFG has been written with VALID, its member table read: it is in force, or it is left invalid. -/
def groupTaken (d : Dev) (n : Nat) : Dev :=
  if d.groupOk n then
    let d := d.setReg ⟨.COL_GROUP_n_STAT, 0, n, 0⟩ 0
    (d.sf F.COL_GROUP_n_STAT.RANK (d.geo n).rank 0 n).sf F.COL_GROUP_n_CTRL.CLOSE_CODE 0 0 n
  else (d.sf F.COL_GROUP_n_CFG.VALID 0 0 n).logColl Code.COLL_GROUP_INVALID n (d.gf F.COL_GROUP_n_STAT.INSTANCE 0 n) none

/-- The fields of COL_GROUP_n_CFG take a written value. -/
def cfgFields (d : Dev) (n : Nat) (v : Word) : Dev :=
  d.setReg ⟨.COL_GROUP_n_CFG, 0, n, 0⟩ (writeFields .COL_GROUP_n_CFG (fun _ => false) (d.reg ⟨.COL_GROUP_n_CFG, 0, n, 0⟩) v)

/-- R378, R380: a slot whose CFG takes a value with VALID, its member table read as `members`. -/
def configured (d : Dev) (n : Nat) (v : Word) (members : List Nat) : Dev :=
  (d.cfgFields n v).setCollSlot n { run := (d.collSlot n).run, members := members }

/-- R378: the range of a LIST slot's member table, where it is one that the S-die reads. -/
def tableRange (d : Dev) (n : Nat) : Option (Nat × Nat) :=
  let t := d.gf F.COL_GROUP_n_LIST.TABLE 0 n
  let m := d.gf F.COL_GROUP_n_LIST.MEMBERS 0 n
  if 1 ≤ m ∧ m ≤ 4096 ∧ t % 64 = 0 ∧ d.areaOf t (4 * m) = some .hbm then some (t, 4 * m) else none

/-- R380, R225: a LIST slot whose member table cannot be read is not in force. -/
def groupUnread (d : Dev) (n : Nat) (v : Word) : Dev := (d.configured n v []).groupTaken n

/-- R378, R380, R217: COL_GROUP_n_CFG written with VALID and SHAPE LIST: the member table is read, with the STREAM
hint; the write waits with the read (R216, R240, R491). -/
def readTable (d : Dev) (n : Nat) (v : Word) (errs : List MemErr) : Dev :=
  match d.tableRange n with
  | none => d.groupUnread n v
  | some (t, len) =>
    match d.hbmHeld t len false with
    | (true, d) => d.holdAccess (.table n v)
    | (false, d) =>
      let (code, d) := d.readHbm t len hintStream 0 errs
      if code = 0 then (d.configured n v (d.listTable n)).groupTaken n else d.groupUnread n v

/-- R380, R382, R412: COL_GROUP_n_CFG written. -/
def writeGroupCfg (d : Dev) (n : Nat) (v : Word) (errs : List MemErr) : Dev :=
  if d.slotBusy n then d.logColl Code.COLL_GROUP_BUSY n (d.gf F.COL_GROUP_n_STAT.INSTANCE 0 n) none
  else if getBits v 63 63 = 0 then d.cfgFields n v
  else if getBits v 62 62 = 1 then d.readTable n v errs
  else (d.configured n v []).groupTaken n

/-- R382: another configuration register of a slot written. -/
def writeGroup (d : Dev) (name : RegName) (n : Nat) (v : Word) : Dev :=
  if d.slotBusy n then d.logColl Code.COLL_GROUP_BUSY n (d.gf F.COL_GROUP_n_STAT.INSTANCE 0 n) none
  else
    let k : RegKey := ⟨name, 0, n, 0⟩
    d.setReg k (writeFields name (fun _ => false) (d.reg k) v)

/-! ### Buffers -/

/-- A collective buffer lies in HBM or an activation SRAM window (R386). -/
def bufferOk (d : Dev) (a n : Nat) : Bool :=
  match d.areaOf a n with
  | some .hbm => true
  | some .sram => true
  | _ => false

/-- R217: a read of a collective buffer, under the STREAM hint. -/
def readBuf (d : Dev) (a n : Nat) (errs : List MemErr) : Nat × List Byte × Dev :=
  if a < 0x100000000000 then
    let (code, d) := d.readHbm a n hintStream 0 errs
    (code, d.hbmBytes a n, d)
  else (0, (List.range n).map fun k => d.sramByte (a + k), d)

/-- R217: a write of a collective buffer, under the STREAM hint. -/
def writeBuf (d : Dev) (a : Nat) (bs : List Byte) (errs : List MemErr) : Nat × Dev :=
  if a < 0x100000000000 then d.writeHbm a bs hintStream 0 errs
  else (0, (List.range bs.length).foldl (fun d k => d.setSramByte (a + k) (bs.getD k 0)) d)

/-- R216, R240, R491: whether a buffer's access must wait. -/
def bufWaits (d : Dev) (a n : Nat) (write : Bool) : Bool × Dev :=
  if a < 0x100000000000 then d.hbmHeld a n write else (false, d)

end Dev

/-! ### COLL packets (R420) -/

namespace Dev

/-- R420: a COLL packet of an instance, alone in its message. -/
def collPacket (d : Dev) (n num : Nat) (y : CollDesc) (kind stage vc dst : Nat) (payload : List Byte) : Packet :=
  { d.packet PT.coll vc dst with
    length := payload.length, payload := payload, total := payload.length, origin := d.self
    word2 := y.op % 8 * 2 ^ 61 + y.dtype % 8 * 2 ^ 58 + y.redop % 4 * 2 ^ 56
      + d.gf F.COL_GROUP_n_CFG.EPOCH 0 n * 2 ^ 40 + y.count % 2 ^ 40
    word7 := d.gf F.COL_GROUP_n_CFG.GROUP_ID 0 n * 2 ^ 32 + num % 2 ^ 24 * 2 ^ 8 + kind * 16 + stage % 16 }

/-- R420: a COLL packet that is a message of its own. -/
def sendColl (d : Dev) (p : Packet) : Dev :=
  let (m, d) := d.takeMsg
  d.send { p with msg := m }

/-- R294, R420: the number of the message that a data packet belongs to: one for each stage's block, sender of a
MULTICAST and destination. -/
def collMsg (d : Dev) (n : Nat) (p : Packet) : Nat × Dev :=
  let x := d.collSlot n
  match x.msgs.find? fun k => decide (k.word7 = p.word7) && decide (k.origin = p.origin) && decide (k.dst = p.dst) with
  | some k => (k.msg, d)
  | none =>
    let (m, d) := d.takeMsg
    (m, d.setCollSlot n { x with msgs := x.msgs ++ [{ word7 := p.word7, origin := p.origin, dst := p.dst, msg := m }] })

/-- R413: a COLL packet that carries data: it is acknowledged like a DMA write. -/
def sendCollData (d : Dev) (n : Nat) (i : CollInst) (p : Packet) : Dev :=
  let (m, d) := d.collMsg n p
  let (s, d) := d.takeDseq i.core p.dst
  d.track { kind := .coll, core := i.core, thread := i.thread, seq := i.seq, queue := 7, saddr := n
            pkt := { p with msg := m, dseq := s } }

/-- R387: the signature of an instance at this member. -/
def sigOf (d : Dev) (n num : Nat) (y : CollDesc) : CollSig :=
  { op := y.op, dtype := y.dtype, redop := y.redop, count := y.count, root := y.root
    gid := d.gf F.COL_GROUP_n_CFG.GROUP_ID 0 n, epoch := d.gf F.COL_GROUP_n_CFG.EPOCH 0 n, inst := num % 2 ^ 24 }

/-- The valid slot of a COLL packet's group: the one of its GROUP_ID; R381: with a differing GROUP_ID, an agreement
packet is compared by an agreeing slot of which the sender is a member. -/
def slotFor (d : Dev) (p : Packet) : Option Nat :=
  let valid (n : Nat) : Bool := d.on F.COL_GROUP_n_CFG.VALID 0 n
  match lowestBelow (fun n => valid n && decide (d.gf F.COL_GROUP_n_CFG.GROUP_ID 0 n = p.cGid)) 256 with
  | some n => some n
  | none =>
    if p.cKind = 1 then
      lowestBelow (fun n => valid n && decide (d.gf F.COL_GROUP_n_STAT.STATE 0 n = 1) && (d.rankOf n p.src).isSome) 256
    else none

end Dev
end Sys2Proof.Machine
end

