-- ==== Sys2Proof/Machine/Coll.lean ====
section
/-! DEFINITION. Collective operations (chapter 10): the agreement and the low-latency path (R387 to R395), TREE (R397, R398),
RING (R399, R400), DIRECT (R401), aborts (R410 to R414), and the arithmetic of reductions (R403, R404). -/

namespace Sys2Proof.Machine

open Sys2Proof

/-! ### Elements and arithmetic -/

/-- R385: the element size of a DTYPE. -/
def elemBytes (t : Nat) : Nat := if t = 0 ∨ t = 4 then 4 else if t = 1 then 2 else if t = 5 then 8 else 1

namespace CollDesc

/-- ALL_REDUCE and REDUCE_SCATTER reduce. -/
def reduces (y : CollDesc) : Bool := decide (y.op ≤ 1)

/-- R403: bytes of an element as it is carried between members. -/
def carried (y : CollDesc) : Nat := if y.reduces && decide (y.dtype = 1) then 4 else elemBytes y.dtype

/-- R403: an element on entry. -/
def enter (y : CollDesc) (raw : Nat) : Nat :=
  if y.reduces && decide (y.dtype = 1) then round32 (Fmt.bf16.decode raw) else raw

/-- R403: a reduced element converted to DTYPE, and whether the conversion saturates. -/
def leave (y : CollDesc) (v : Nat) : Nat × Bool :=
  if y.reduces && decide (y.dtype = 1) then Fmt.bf16.convert (val32 v) else (v, false)

/-- R403: two elements combined, and whether a NaN arises from operands that hold none. -/
def combine (y : CollDesc) (a b : Nat) : Nat × Bool :=
  if y.dtype ≤ 1 then
    if y.redop = 0 then add32 a b else if y.redop = 1 then (max32 a b, false) else (min32 a b, false)
  else
    let w := 8 * elemBytes y.dtype
    if y.redop = 0 then ((a + b) % 2 ^ w, false)
    else if decide (sext w a < sext w b) = decide (y.redop = 1) then (b, false) else (a, false)

/-- Two lists of elements combined one by one, and the count of NaNs that arise. -/
def combineAll (y : CollDesc) (a b : List Nat) : List Nat × Nat :=
  let r := List.zipWith y.combine a b
  (r.map Prod.fst, (r.filter fun e => e.2).length)

/-- A list of reduced elements converted to DTYPE, and the count of saturating conversions. -/
def leaveAll (y : CollDesc) (l : List Nat) : List Nat × Nat :=
  let r := l.map y.leave
  (r.map Prod.fst, (r.filter fun e => e.2).length)

end CollDesc

/-- Bytes of a list of elements of `w` bytes, and back. -/
def elemsToBytes (w : Nat) (l : List Nat) : List Byte := l.flatMap fun v => leBytes w v

def bytesToElems (w : Nat) (bs : List Byte) : List Nat :=
  (List.range (bs.length / w)).map fun i => leNat ((bs.drop (w * i)).take w)

/-- A list cut into pieces of at most n; `fuel` is the list's length. -/
def chunksOf {α : Type} (n : Nat) : List α → Nat → List (List α)
  | _, 0 => []
  | l, f + 1 => if l.isEmpty then [] else l.take n :: chunksOf n (l.drop n) f

/-- Elements named by number, in rising order, as runs without a gap: the first number and the values. -/
def runsOf : List (Nat × Nat) → List (Nat × List Nat)
  | [] => []
  | (e, v) :: l =>
    match runsOf l with
    | (e', vs) :: rs => if e' = e + 1 then (e, v :: vs) :: rs else (e, [v]) :: (e', vs) :: rs
    | [] => [(e, [v])]

/-- R388, R393: two contributions combined: their values, and their signatures or a mismatch mark. -/
def combineVals (y : CollDesc) (a b : CollVal) : CollVal × Nat :=
  let r := y.combineAll a.vals b.vals
  ({ a with sig := if a.sig = b.sig then a.sig else none, count := a.count + b.count, vals := r.1 }, r.2)

/-- R393: one level of the pairwise tree. -/
def pairLevel (y : CollDesc) : List CollVal → List CollVal × Nat
  | a :: b :: l =>
    let r := combineVals y a b
    let s := pairLevel y l
    (r.1 :: s.1, r.2 + s.2)
  | l => (l, 0)

/-- R393: the pairwise tree, level by level; `fuel` bounds the levels. -/
def pairTree (y : CollDesc) : Nat → List CollVal → List CollVal × Nat
  | 0, l => (l, 0)
  | f + 1, l =>
    if l.length ≤ 1 then (l, 0)
    else
      let r := pairLevel y l
      let s := pairTree y f r.1
      (s.1, r.2 + s.2)

/-! ### RING -/

/-- What the ring steps of one event give: packets' elements (stage, element, value, next member), outputs (element of
DST, value in DTYPE), and counts. -/
structure RingAcc where
  own : NMap (Option Nat)
  arr : NMap (Option Nat)
  need : Nat
  outs : List (Nat × Nat × Nat × Nat) := []
  writes : List (Nat × Nat) := []
  /-- Additions made: stage and element (R406). -/
  adds : List (Nat × Nat) := []
  invalid : Nat := 0
  saturate : Nat := 0
  deriving DecidableEq, Repr

/-- Element e at stage s. -/
def ringKey (s e : Nat) : Nat := s * 2 ^ 60 + e

/-- R400: the element of DST that an element of the whole operation fills at this member. -/
def dstElem (y : CollDesc) (e : Nat) : Nat := if y.op = 1 then e % y.count else e

/-- R399, R400: this member holds element e in DTYPE and sends it on in every all-gather stage from j on. -/
def ringSpread (g : Geo) (y : CollDesc) (j e raw : Nat) (a : RingAcc) : RingAcc :=
  let steps := g.ringSteps y.op y.count e
  let k := steps.length
  if y.op = 1 then a
  else { a with outs := a.outs ++ ((List.range k).filter fun i => decide (j ≤ i)).filterMap fun i =>
      (steps[k - 1 - i]?).map fun st => (k + i, e, raw, g.next st) }

/-- R400: this member has value v of element e at reduce-scatter stage s. -/
def ringHave (g : Geo) (y : CollDesc) : Nat → Nat → Nat → Nat → RingAcc → RingAcc
  | 0, _, _, _, a => a
  | f + 1, s, e, v, a =>
    match (g.ringSteps y.op y.count e)[s]? with
    | none =>
      let r := y.leave v
      ringSpread g y 0 e r.1
        { a with
          writes := a.writes ++ [(dstElem y e, r.1)], need := a.need - 1
          saturate := a.saturate + (if r.2 then 1 else 0) }
    | some st =>
      if g.starts st then { a with outs := a.outs ++ [(s, e, v, g.next st)] }
      else match NMap.get none a.arr (ringKey s e) with
        | none => { a with own := NMap.set none a.own (ringKey s e) (some v) }
        | some w =>
          let r := y.combine w v
          let a := { a with
            arr := NMap.set none a.arr (ringKey s e) none, need := a.need - 1, adds := a.adds ++ [(s, e)]
            invalid := a.invalid + (if r.2 then 1 else 0) }
          if g.owns st then ringHave g y f (s + 1) e r.1 a
          else { a with outs := a.outs ++ [(s, e, r.1, g.next st)] }

/-- R400: value w of element e arrives at reduce-scatter stage s. -/
def ringArrive (g : Geo) (y : CollDesc) (s e w : Nat) (a : RingAcc) : RingAcc :=
  match NMap.get none a.own (ringKey s e) with
  | none => { a with arr := NMap.set none a.arr (ringKey s e) (some w) }
  | some v =>
    ringHave g y (g.active.length + 1) s e v
      { a with
        own := NMap.set none a.own (ringKey s e) none
        arr := NMap.set none a.arr (ringKey s e) (some w) }

/-- R399: element e arrives in all-gather stage i: it is an output, goes on in its line unless the next member is its
source, and spreads in the later stages. -/
def ringGather (g : Geo) (y : CollDesc) (i e raw : Nat) (a : RingAcc) : RingAcc :=
  let steps := g.ringSteps y.op y.count e
  let k := steps.length
  let a := { a with writes := a.writes ++ [(e, raw)], need := a.need - 1 }
  match steps[k - 1 - i]? with
  | none => a
  | some st =>
    let nx := g.next st
    let a := if g.pos nx st.dim = st.owner then a else { a with outs := a.outs ++ [(k + i, e, raw, nx)] }
    ringSpread g y (i + 1) e raw a

/-- R400: the reduce-scatter arrivals that this member will combine: elements that it holds at a stage whose chain
another member starts. -/
def ringArrivals (g : Geo) (y : CollDesc) (total : Nat) : Nat :=
  ((List.range total).map fun e =>
    let steps := g.ringSteps y.op y.count e
    ((List.range steps.length).filter fun s =>
      ((steps.take s).all fun st => g.owns st)
        && (match steps[s]? with
          | some st => !g.starts st
          | none => false)).length).sum

namespace Dev

def runOf (d : Dev) (n : Nat) : Option CollRun := (d.collSlot n).run

def modRun (d : Dev) (n : Nat) (f : CollRun → CollRun) : Dev := d.setRunOf n ((d.runOf n).map f)

/-- CORE_COLL_REC of an instance's core tells of this instance: of the core's last COLL, or of one that has aborted. -/
def recIs (d : Dev) (i : CollInst) : Bool := decide ((d.core i.core).lastColl = some i.seq)

def recPhase (d : Dev) (i : CollInst) (phase : Nat) : Dev :=
  if d.recIs i then d.sf F.CORE_COLL_REC.PHASE phase i.core else d

/-- R404: events of reductions counted. -/
def countColl (d : Dev) (invalid saturate : Nat) : Dev :=
  let d := if invalid = 0 then d else d.bump F.COL_ERR_CNT.INVALID_CNT F.COL_ERR_CNT.INVALID_SAT invalid
  if saturate = 0 then d else d.bump F.COL_ERR_CNT.SATURATE_CNT F.COL_ERR_CNT.SATURATE_SAT saturate

/-! ### Aborts (R410 to R414) -/

/-- R412: the codes that close a slot. -/
def closes (code : Nat) : Bool := [Code.GROUP_MEMBER_LOST, Code.COLL_ABORTED, Code.COLL_TRANSFER_FAILED].contains code

/-- R412: a slot closed. -/
def closeSlot (d : Dev) (n code : Nat) : Dev :=
  (d.sf F.COL_GROUP_n_STAT.STATE 4 0 n).sf F.COL_GROUP_n_CTRL.CLOSE_CODE code 0 n

/-- R411: a marker sent over the multicast tree rooted at `origin`, or by unicast fan-out in a LIST. -/
def sendMarker (d : Dev) (n num : Nat) (y : CollDesc) (kind value origin : Nat) : Dev :=
  let g := d.geo n
  let root := (d.rankOf n origin).getD g.rank
  let dsts := if g.list then (if origin = d.self then (List.range g.p).filter fun r => decide (r ≠ g.rank) else [])
    else g.children root g.rank
  dsts.foldl (fun d r =>
    d.sendColl { d.collPacket n num y kind 0 1 (d.memberDev n r) (leBytes 8 value) with origin := origin }) d

/-- The outstanding packets of an instance are given up. -/
def dropColl (d : Dev) (n : Nat) (i : CollInst) : Dev :=
  { d with reqs := d.reqs.filter fun r => !(decide (r.kind = .coll) && decide (r.saddr = n) && decide (r.core = i.core)
      && decide (r.seq = i.seq)) }

/-- R410, R411: the running instance of a slot stops with a code: it sends and writes nothing more, and its status block
is written next. GROUP_MEMBER_LOST takes precedence over an earlier code. -/
def collStop (d : Dev) (n code : Nat) (suspect : Option Nat) : Dev :=
  match d.runOf n with
  | none => d
  | some r =>
    match r.phase with
    | .abort old =>
      if code ≠ Code.GROUP_MEMBER_LOST then d
      else if old = code then
        if r.suspect.isNone then d.setRunOf n (some { r with suspect := suspect }) else d
      else (d.setRunOf n (some { r with phase := .abort code, suspect := suspect })).logColl code n r.num suspect
    | _ =>
      let d := d.setRunOf n (some { r with phase := .abort code, suspect := suspect, sends := [] })
      let d := (d.dropColl n r.inst).sf F.COL_GROUP_n_STAT.STATE 3 0 n
      (d.logColl code n r.num suspect).raise 578

/-- R411: a cause detected here: a marker goes out and the instance stops. -/
def collAbort (d : Dev) (n code : Nat) (suspect : Option Nat) : Dev :=
  match d.runOf n with
  | none => d
  | some r =>
    match r.phase with
    | .abort _ => d.collStop n code suspect
    | _ => (d.sendMarker n r.num r.desc 2 code d.self).collStop n code suspect

/-- R406, R407, R644: additions of an event, each a stage and an element, pass their residue checks: those that fail
once are repeated and counted. When one fails again, or the checker is dead, both results are discarded (false) and
the instance aborts. -/
def residue (d : Dev) (n num : Nat) (adds : List (Nat × Nat)) (checks : List CollCheck) : Bool × Dev :=
  let hits := checks.filter fun k => adds.contains (k.stage, k.elem)
  if adds.isEmpty || (hits.isEmpty && !d.safe.residueDead) then (true, d)
  else if d.safe.residueDead || hits.any fun k => k.again then
    (false, ((d.bump F.COL_ERR_CNT.RESIDUE_ERR_CNT F.COL_ERR_CNT.RESERR_SAT 1).score 1480 1024
      Code.COLL_RESIDUE_ERROR).collAbort n Code.COLL_RESIDUE_ERROR none)
  else
    (true, hits.foldl (fun d _ =>
      ((d.bump F.COL_ERR_CNT.RESIDUE_RETRY_CNT F.COL_ERR_CNT.RETRY_SAT 1).score 1480 64 Code.COLL_RESIDUE_RETRY).logColl
        Code.COLL_RESIDUE_RETRY n num none) d)

/-! ### Outputs -/

/-- R411: the running instance of a slot, while it may still send and write. -/
def liveRun (d : Dev) (n : Nat) : Option CollRun :=
  match d.runOf n with
  | some r =>
    match r.phase with
    | .abort _ => none
    | _ => some r
  | none => none

/-- R389, R408, R411: elements of DTYPE written to DST from element `first` on. -/
def collWrite (d : Dev) (n first : Nat) (vals : List Nat) (errs : List MemErr) : Dev :=
  match d.liveRun n with
  | none => d
  | some r =>
    let w := elemBytes r.desc.dtype
    let (code, d) := d.writeBuf (r.desc.dst + w * first) (elemsToBytes w vals) errs
    if code ≠ 0 then d.collAbort n Code.COLL_TRANSFER_FAILED none
    else
      let d := d.modRun n fun r => { r with wrote := r.wrote ++ [(first, vals.length)] }
      if d.recIs r.inst then d.sf F.CORE_COLL_REC.OUTPUT_TOUCHED 1 r.inst.core else d

/-- The same, counted as output that was still to come. -/
def collOut (d : Dev) (n first : Nat) (vals : List Nat) (errs : List MemErr) : Dev :=
  (d.modRun n fun r => { r with need := r.need - vals.length }).collWrite n first vals errs

/-- R392, R411, R413, R420: data of a stage sent to a member in packets of up to 4 KiB; `first` is the place of the
first element in the stage's block, and `size` the block's elements. -/
def collSendElems (d : Dev) (n stage vc w dst first size : Nat) (vals : List Nat) (transit : Option Nat) : Dev :=
  match d.liveRun n with
  | none => d
  | some r =>
    let per := 4096 / w
    let cs := chunksOf per vals vals.length
    ((List.range cs.length).zip cs).foldl (fun d c =>
      let p := d.collPacket n r.num r.desc 0 stage vc (d.memberDev n dst) (elemsToBytes w c.2)
      let p := { p with offset := w * (first + per * c.1), total := w * size }
      d.sendCollData n r.inst (match transit with
        | some t => { p with vc := 4, route := 2, transit := t }
        | none => p)) d

/-! ### TREE -/

/-- Elements of one TREE packet (R397). -/
def treePer (y : CollDesc) : Nat := 4096 / y.carried

/-- R397: a final piece goes down the tree and into DST. -/
def treeDown (d : Dev) (n first : Nat) (vals : List Nat) (errs : List MemErr) : Dev :=
  match d.runOf n with
  | none => d
  | some r =>
    let g := d.geo n
    let root := if r.desc.op = 3 then r.desc.root else g.keeper
    let vc := if r.algo = .ll then 1 else 2
    let d := (g.children root g.rank).foldl (fun d k =>
      d.collSendElems n 1 vc (elemBytes r.desc.dtype) k first r.desc.count vals none) d
    d.collOut n first vals errs

/-- R397, R398: once every child's partial sums of a packet are here, they are combined, own contribution first, and go
up; at the root they are final. -/
def treeUp (d : Dev) (n first : Nat) (checks : List CollCheck) (errs : List MemErr) : Dev :=
  match d.liveRun n with
  | none => d
  | some r =>
    let g := d.geo n
    let y := r.desc
    let kids := g.children g.keeper g.rank
    let here := r.parts.filter fun p => decide (p.first = first)
    if here.length < kids.length then d
    else
      let order := if y.order then here else kids.filterMap fun k => here.find? fun p => decide (p.rank = k)
      let mine := (r.src.drop first).take (treePer y)
      let (vals, inv) := order.foldl (fun (a, i) p =>
        let c := y.combineAll a p.vals
        (c.1, i + c.2)) (mine, 0)
      match d.residue n r.num (if kids.isEmpty then [] else (List.range mine.length).map fun i => (0, first + i)) checks with
      | (false, d) => d
      | (true, d) =>
        let d := d.countColl inv 0
        match g.parent g.keeper g.rank with
        | some up => d.collSendElems n 0 2 y.carried up first y.count vals none
        | none =>
          let (raw, sat) := y.leaveAll vals
          (d.countColl 0 sat).treeDown n first raw errs

/-- The first elements of the packets of TREE. -/
def treeFirsts (y : CollDesc) : List Nat :=
  (List.range ((y.count + treePer y - 1) / treePer y)).map fun i => i * treePer y

/-! ### RING -/

/-- R392: the Transit of a ring step, when it is established. -/
def ringTransit (d : Dev) (n : Nat) (g : Geo) (stage e : Nat) (y : CollDesc) (dst : Nat) : Option Nat :=
  let base := d.gf F.COL_GROUP_n_ROLE.TRANSIT_BASE 0 n
  if g.list || base = 0 then none
  else match (g.ringSteps y.op y.count e)[g.ringPlace stage]? with
    | none => none
    | some st =>
      let id := base + 2 * st.dim + (if st.rev then 1 else 0)
      match d.transitSlot id with
      | some s => if d.gf F.XFB_TRANSIT_n_PATH.DEST 0 s = d.memberDev n dst then some id else none
      | none => none

/-- The elements of the whole operation that RING moves. -/
def ringTotal (g : Geo) (y : CollDesc) : Nat := if y.op = 0 then y.count else g.p * y.count

/-- R420: the stage's block that passes between this member and a neighbour. -/
def blockTo (g : Geo) (y : CollDesc) (stage rank : Nat) : List Nat :=
  let place := g.ringPlace stage
  g.ringBlock y.op y.count (ringTotal g y) place (g.ringPart place (g.dimTo rank))

/-- What an event of RING gives, put into effect once its additions have passed their checks. -/
def ringApply (d : Dev) (n : Nat) (a : RingAcc) (checks : List CollCheck) (errs : List MemErr) : Dev :=
  match d.liveRun n with
  | none => d
  | some r =>
    let g := d.geo n
    let y := r.desc
    match d.residue n r.num a.adds checks with
    | (false, d) => d
    | (true, d) =>
      let d := d.modRun n fun r => { r with own := a.own, arr := a.arr, need := a.need }
      let d := d.countColl a.invalid a.saturate
      let keys := (a.outs.map fun o => (o.1, o.2.2.2)).dedup
      let d := keys.foldl (fun d k =>
        let es := (a.outs.filter fun o => decide ((o.1, o.2.2.2) = k)).map fun o => (o.2.1, o.2.2.1)
        let block := blockTo g y k.1 k.2
        (runsOf es).foldl (fun d run =>
          let w := if k.1 < g.active.length ∧ y.reduces then y.carried else elemBytes y.dtype
          d.collSendElems n k.1 2 w k.2 (block.findIdx fun e => decide (e = run.1)) block.length run.2
            (d.ringTransit n g k.1 run.1 y k.2)) d) d
      (runsOf a.writes).foldl (fun d run => d.collWrite n run.1 run.2 errs) d

/-! ### The data phase -/

/-- The elements of DST at this member. -/
def dstCount (y : CollDesc) (p : Nat) : Nat := if y.op = 2 ∨ y.op = 4 then p * y.count else y.count

/-- R401: the packets of one DIRECT block. -/
def directPackets (d : Dev) (n : Nat) (r : CollRun) (to_ : Nat) : List Packet :=
  let w := elemBytes r.desc.dtype
  let vals := (r.src.drop (to_ * r.desc.count)).take r.desc.count
  let cs := chunksOf (4096 / w) vals vals.length
  ((List.range cs.length).zip cs).map fun c =>
    { d.collPacket n r.num r.desc 0 0 2 (d.memberDev n to_) (elemsToBytes w c.2) with
      route := 1, offset := w * (4096 / w * c.1), total := w * r.desc.count }

/-- Packets of an instance that are not acknowledged. -/
def collOpen (d : Dev) (n : Nat) (i : CollInst) : Nat :=
  (d.reqs.filter fun r => decide (r.kind = .coll) && decide (r.saddr = n) && decide (r.core = i.core)
    && decide (r.seq = i.seq)).length

/-- R401: DIRECT packets sent as long as fewer than 16 are outstanding; `fuel` bounds their number. -/
def directPump (d : Dev) (n : Nat) : Nat → Dev
  | 0 => d
  | f + 1 =>
    match d.runOf n with
    | some r =>
      match r.sends with
      | p :: ps =>
        if d.collOpen n r.inst < 16 then
          directPump ((d.setRunOf n (some { r with sends := ps })).sendCollData n r.inst p) n f
        else d
      | [] => d
    | none => d

/-- R389: the agreement has passed: the data phase starts. -/
def collMove (d : Dev) (n : Nat) (result : List Nat) (checks : List CollCheck) (errs : List MemErr) : Dev :=
  match d.runOf n with
  | none => d
  | some r =>
    let g := d.geo n
    let y := r.desc
    let d := (d.sf F.COL_GROUP_n_STAT.STATE 2 0 n).recPhase r.inst 3
    let d := d.sf F.COL_GROUP_n_STAT.WAITING_VALID 0 0 n
    let r := { r with phase := .move, need := dstCount y g.p, waiting := [] }
    let d := d.setRunOf n (some r)
    match r.algo with
    | .ll =>
      if y.op = 0 then
        let (raw, sat) := y.leaveAll result
        (d.countColl 0 sat).collOut n 0 raw errs
      else match (if y.root = g.rank then some r.src else r.cast) with
        | some v => d.collOut n 0 v errs
        | none => d
    | .tree =>
      if y.op = 3 then
        if y.root = g.rank then
          (treeFirsts y).foldl (fun d k => d.treeDown n k ((r.src.drop k).take (treePer y)) errs) d
        else d
      else (treeFirsts y).foldl (fun d k => d.treeUp n k checks errs) d
    | .ring =>
      let a : RingAcc := { own := [], arr := [], need := r.need + (if y.reduces then ringArrivals g y r.src.length else 0) }
      let a := if y.reduces then
          ((List.range r.src.length).zip r.src).foldl (fun a ev => ringHave g y (g.active.length + 1) 0 ev.1 ev.2 a) a
        else
          ((List.range r.src.length).zip r.src).foldl (fun a ev =>
            let e := g.rank * y.count + ev.1
            ringSpread g y 0 e ev.2 { a with writes := a.writes ++ [(e, ev.2)], need := a.need - 1 }) a
      d.ringApply n a checks errs
    | .direct =>
      let sends := (List.range (g.p - 1)).flatMap fun j => d.directPackets n r ((g.rank + j + 1) % g.p)
      let d := d.setRunOf n (some { r with sends := sends })
      let d := d.collOut n (g.rank * y.count) ((r.src.drop (g.rank * y.count)).take y.count) errs
      d.directPump n 16
    | _ => d

/-! ### The agreement and LL -/

/-- The payload of an agreement packet: ROOT, a mismatch mark, the members counted, and the values that travel with
it. -/
def agreePayload (y : CollDesc) (v : CollVal) : List Byte :=
  leBytes 4 y.root ++ leBytes 4 (if v.sig = none then 1 else 0) ++ leBytes 8 v.count ++ elemsToBytes y.carried v.vals

/-- R388: the contribution that an agreement packet brings. -/
def agreeVal (y : CollDesc) (p : Packet) (rank : Nat) : CollVal :=
  let bs := p.payload
  { stage := p.cStage, rank := rank, count := leNat ((bs.drop 8).take 8), vals := bytesToElems y.carried (bs.drop 16)
    sig := if leNat ((bs.drop 4).take 4) ≠ 0 then none
      else some
        { op := p.cOp, dtype := p.cDtype, redop := p.cRedop, count := p.cCount, root := leNat (bs.take 4)
          gid := p.cGid, epoch := p.cEpoch, inst := p.cInst } }

/-- An agreement packet sent on VC_1. -/
def sendAgree (d : Dev) (n stage : Nat) (dsts : List Nat) (v : CollVal) : Dev :=
  match d.runOf n with
  | none => d
  | some r =>
    dsts.foldl (fun d k => d.sendColl (d.collPacket n r.num r.desc 1 stage 1 (d.memberDev n k) (agreePayload r.desc v))) d

/-- The contribution of a rank to a stage. -/
def llFind (r : CollRun) (stage rank : Nat) : Option CollVal :=
  r.vals.find? fun v => decide (v.stage = stage) && decide (v.rank = rank)

/-- R389, R390: the agreement ends. -/
def llDone (d : Dev) (n : Nat) (v : CollVal) (checks : List CollCheck) (errs : List MemErr) : Dev :=
  if v.sig = none then d.collStop n Code.COLL_SIGNATURE_MISMATCH none else d.collMove n v.vals checks errs

/-- R393, R406: contributions of a stage combined in the pairwise tree, their additions checked; a mismatch mark
carries no sum. None when the check fails twice. -/
def llCombine (d : Dev) (n num stage : Nat) (y : CollDesc) (vs : List CollVal) (checks : List CollCheck) :
    Option CollVal × Dev :=
  let t := pairTree y (vs.length + 1) vs
  let v := t.1.headD { stage := 0, rank := 0, sig := none }
  match d.residue n num (if v.sig = none ∨ vs.length ≤ 1 then [] else (List.range v.vals.length).map fun i => (stage, i))
      checks with
  | (false, d) => (none, d)
  | (true, d) => (some v, d.countColl t.2 0)

/-- R393, R394: the phases of the low-latency path whose values are all here are combined, one after another. -/
def llAdvance (d : Dev) (n : Nat) (checks : List CollCheck) (errs : List MemErr) : Nat → Dev
  | 0 => d
  | f + 1 =>
    match d.runOf n with
    | none => d
    | some r =>
      let g := d.geo n
      if r.phase ≠ .agree then d
      else if g.list then
        if g.rank = g.keeper then
          let vs := (List.range g.p).filterMap fun k => llFind r 0 k
          if vs.length < g.p then d
          else
            match d.llCombine n r.num 0 r.desc vs checks with
            | (none, d) => d
            | (some v, d) => (d.sendAgree n 1 ((List.range g.p).filter fun k => decide (k ≠ g.rank)) v).llDone n v checks errs
        else match llFind r 1 g.keeper with
          | some v => d.llDone n v checks errs
          | none => d
      else match g.active[r.stage]? with
        | none =>
          match llFind r r.stage g.rank with
          | some v => d.llDone n v checks errs
          | none => d
        | some dim =>
          let line := g.line dim
          let vs := line.filterMap fun k => llFind r r.stage k
          if vs.length < line.length then d
          else
            match d.llCombine n r.num r.stage r.desc vs checks with
            | (none, d) => d
            | (some v, d) =>
              let v := { v with stage := r.stage + 1, rank := g.rank, count := 1 }
              let d := d.setRunOf n (some { r with stage := r.stage + 1, vals := r.vals ++ [v] })
              let d := match g.active[r.stage + 1]? with
                | some dim' => d.sendAgree n (r.stage + 1) ((g.line dim').filter fun k => decide (k ≠ g.rank)) v
                | none => d
              llAdvance d n checks errs f

/-- R387, R393 to R395: this member enters: its own contribution is made and sent. -/
def llEnter (d : Dev) (n : Nat) (checks : List CollCheck) (errs : List MemErr) : Dev :=
  match d.runOf n with
  | none => d
  | some r =>
    let g := d.geo n
    let y := r.desc
    let own : CollVal :=
      { stage := 0, rank := g.rank, sig := some (d.sigOf n r.num y)
        vals := if r.algo = .ll ∧ y.op = 0 then r.src else [] }
    let d := d.setRunOf n (some { r with vals := r.vals ++ [own] })
    let dsts := if g.list then (if g.rank = g.keeper then [] else [g.keeper])
      else match g.active.head? with
        | some dim => (g.line dim).filter fun k => decide (k ≠ g.rank)
        | none => []
    let d := d.sendAgree n 0 dsts own
    let d := if r.algo = .ll ∧ y.op = 3 ∧ y.root = g.rank then
        (if g.list then (List.range g.p).filter fun k => decide (k ≠ g.rank) else g.children y.root g.rank).foldl (fun d k =>
          d.collSendElems n 1 1 (elemBytes y.dtype) k 0 y.count r.src none) d
      else d
    d.llAdvance n checks errs (g.active.length + 2)

/-! ### Packets that arrive -/

/-- R262, R413: a data packet acknowledged like a DMA write. -/
def ackColl (d : Dev) (p : Packet) : Dev :=
  d.send { d.packet PT.dmaAck 3 p.src with msg := p.msg, offset := p.offset, total := p.total, dseq := p.dseq
                                           addr := p.length, ece := p.ce }

/-- A packet kept for a phase or an instance that this member has not reached. -/
def keepEarly (d : Dev) (n : Nat) (p : Packet) : Dev :=
  let x := d.collSlot n
  if x.early.contains p then d else d.setCollSlot n { x with early := x.early ++ [p] }

/-- R418: an input of a member has arrived: the marker that held its place is gone. -/
def inputFrom (d : Dev) (n rank : Nat) : Dev :=
  match d.runOf n with
  | none => d
  | some r =>
    let rest := r.waiting.filter fun w => decide (w.1 ≠ rank)
    let d := d.setRunOf n (some { r with waiting := rest })
    if rest.length = r.waiting.length ∧ d.gf F.COL_GROUP_n_STAT.WAITING_ON 0 n ≠ d.memberDev n rank then d
    else match (rest.map fun w => w.2).argmin fun k => (d.rankOf n k).getD 0 with
      | some k => d.sf F.COL_GROUP_n_STAT.WAITING_ON k 0 n
      | none => d.sf F.COL_GROUP_n_STAT.WAITING_VALID 0 0 n

/-- R387, R388: an agreement packet of the running instance is combined. -/
def takeAgree (d : Dev) (n : Nat) (p : Packet) (checks : List CollCheck) (errs : List MemErr) : Dev :=
  match d.runOf n with
  | none => d
  | some r =>
    match d.rankOf n p.src with
    | none => d
    | some rank =>
      let v := agreeVal r.desc p rank
      if (llFind r v.stage rank).isSome then d
      else ((d.setRunOf n (some { r with vals := r.vals ++ [v] })).inputFrom n rank).llAdvance n checks errs
        ((d.geo n).active.length + 2)

/-- R397 to R401: a data packet of the running instance, not seen before. -/
def takeData (d : Dev) (n : Nat) (p : Packet) (checks : List CollCheck) (errs : List MemErr) : Dev :=
  match d.liveRun n with
  | none => d
  | some r =>
    match d.rankOf n p.src with
    | none => d
    | some rank =>
      let g := d.geo n
      let y := r.desc
      let w := if p.cStage < (if r.algo = .ring then g.active.length else 1) ∧ y.reduces then y.carried else elemBytes y.dtype
      let first := p.offset / w
      let vals := bytesToElems w p.payload
      if r.seen.contains (p.cStage, rank, first) then d
      else
        let d := (d.setRunOf n (some { r with seen := r.seen ++ [(p.cStage, rank, first)] })).inputFrom n rank
        match r.algo with
        | .ll =>
          let d := (if g.list then [] else g.children y.root g.rank).foldl (fun d k =>
            d.collSendElems n 1 1 (elemBytes y.dtype) k 0 y.count vals none) d
          if r.phase = .move then d.collOut n 0 vals errs else d.modRun n fun r => { r with cast := some vals }
        | .tree =>
          if p.cStage = 0 then
            (d.modRun n fun r => { r with parts := r.parts ++ [{ rank := rank, first := first, vals := vals }] }).treeUp n
              first checks errs
          else d.treeDown n first vals errs
        | .ring =>
          match d.runOf n with
          | none => d
          | some r =>
            let a : RingAcc := { own := r.own, arr := r.arr, need := r.need }
            let a := (((blockTo g y p.cStage rank).drop first).zip vals).foldl (fun a ev =>
              if p.cStage < g.active.length then ringArrive g y p.cStage ev.1 ev.2 a
              else ringGather g y (p.cStage - g.active.length) ev.1 ev.2 a) a
            d.ringApply n a checks errs
        | .direct => d.collOut n (rank * y.count + first) vals errs
        | _ => d

/-- Kept packets of the running instance are taken in the order of their arrival, those that still wait apart. -/
def takeEarly (d : Dev) (n : Nat) (checks : List CollCheck) (errs : List MemErr) : Dev :=
  let ps := (d.collSlot n).early
  let d := d.setCollSlot n { d.collSlot n with early := [] }
  ps.foldl (fun d p =>
    match d.runOf n with
    | none => d.keepEarly n p
    | some r =>
      if p.cKind = 1 ∧ r.phase = .agree ∧ p.cInst ≠ (r.num + 1) % 2 ^ 24 then d.takeAgree n p checks errs
      else if p.cKind = 0 ∧ p.cInst = r.num % 2 ^ 24 ∧ (r.phase = .move ∨ (r.phase = .agree ∧ r.algo = .ll)) then
        d.takeData n p checks errs
      else if p.cInst = (r.num + 1) % 2 ^ 24 ∨ (r.phase = .agree ∧ p.cInst = r.num % 2 ^ 24) then d.keepEarly n p
      else d) d

end Dev
end Sys2Proof.Machine
end

