-- ==== Sys2Proof/Machine/CollCmds.lean ====
section
/-! DEFINITION. The commands of the collectives (chapter 10): the start of an instance and its checks (R384 to R386, R391),
MULTICAST (R402, R415, R416), the barrier and its keeper (R439), status blocks (R408 to R410), lost members (R414),
stragglers (R418) and aborts (R419). -/

namespace Sys2Proof.Machine

open Sys2Proof

/-! ### The descriptor (R384 to R386, R391) -/

def collDescOf (b : List Byte) : CollDesc :=
  let f (lo n : Nat) : Nat := leNat ((b.drop lo).take n)
  { src := f 0 8, dst := f 8 8, count := f 16 8, op := f 24 1, dtype := f 25 1, redop := f 26 1, algo := f 27 1
    order := bitOf (f 28 1) 0, root := f 32 4, status := f 36 4 }

/-- R391: the algorithm in force, if the ALGO field is allowed: an algorithm that the table allows for the OP, the one
that AUTO chooses among them. DEDUCED (log entry 64): BARRIER has no algorithm of the field, and a MULTICAST over a
LIST none either. -/
def collAlgo (y : CollDesc) (maxLog2 : Nat) (list : Bool) : Option CollAlgo :=
  let b := y.count * elemBytes y.dtype
  let auto : CollAlgo := match y.op with
    | 0 => if b ≤ 256 then .ll else if b ≤ 2 ^ maxLog2 then .tree else .ring
    | 1 | 2 => .ring
    | 3 => if b ≤ 256 then .ll else .tree
    | 4 => .direct
    | 5 => .barrier
    | _ => .mcast
  match y.algo with
  | 0 => some auto
  | 1 => if (y.op = 0 ∨ y.op = 3) ∧ b ≤ 256 then some .ll else none
  | 2 => if y.op = 0 ∨ y.op = 3 then some .tree else if y.op = 6 ∧ !list then some .mcast else none
  | 3 => if y.op ≤ 2 then some .ring else none
  | 4 => if y.op = 4 then some .direct else none
  | _ => none

/-- Bytes of SRC that this member reads, and of DST that it writes (R385). -/
def srcBytes (y : CollDesc) (g : Geo) : Nat :=
  let e := elemBytes y.dtype
  match y.op with
  | 1 | 4 => g.p * y.count * e
  | 3 => if y.root = g.rank then y.count * e else 0
  | 5 => 0
  | _ => y.count * e

def dstBytes (y : CollDesc) (g : Geo) : Nat :=
  match y.op with
  | 5 | 6 => 0
  | _ => Dev.dstCount y g.p * elemBytes y.dtype

/-- R384, R386, R391: a descriptor with a field outside the rules; the ranges apart. -/
def collBadDesc (y : CollDesc) (b : List Byte) (g : Geo) (algo : Option CollAlgo) : Bool :=
  let f (lo n : Nat) : Nat := leNat ((b.drop lo).take n)
  decide (2 ^ 46 ≤ y.src) || decide (2 ^ 46 ≤ y.dst)
    || (if y.op = 5 then decide (y.count ≠ 0) else decide (y.count = 0) || decide (2 ^ 40 ≤ y.count))
    || decide (7 ≤ y.op) || decide (7 ≤ y.dtype) || decide (3 ≤ y.redop)
    || (decide (2 ≤ y.op) && decide (y.redop ≠ 0)) || decide (5 ≤ y.algo)
    || decide (2 ≤ f 28 1) || decide (f 29 3 ≠ 0) || decide (f 40 24 ≠ 0)
    || (if y.op = 3 then decide (g.p ≤ y.root) else decide (y.root ≠ 0))
    || decide (y.status % 64 ≠ 0) || !storeOk y.status 64
    || (y.reduces && [2, 3, 6].contains y.dtype)
    || (match algo with
      | some a => y.order && !(decide (a = .tree) || (decide (a = .mcast) && !g.list))
      | none => true)
    || (let s := srcBytes y g
        let t := dstBytes y g
        decide (s ≠ 0 ∧ t ≠ 0 ∧ y.src < y.dst + t ∧ y.dst < y.src + s)
          && !(decide (y.src = y.dst) && (decide (y.op = 0) || decide (y.op = 3))))

namespace Dev

/-! ### MULTICAST -/

/-- R402, R413: pieces of a MULTICAST sent to a member. -/
def castSend (d : Dev) (n : Nat) (i : CollInst) (p : Packet) (dst : Nat) : Dev :=
  d.sendCollData n i { d.stamp p with src := d.self, dst := d.memberDev n dst, attempt := 0 }

/-- A dispatch sequence number that no COLL has: packets that this S-die replicates for another sender. -/
def castSeq : Nat := 2 ^ 64

/-- The pseudo instance of packets replicated for another sender. -/
def castInst (d : Dev) (n : Nat) : CollInst :=
  { core := d.gf F.COL_GROUP_n_CFG.HOME_CORE 0 n, seq := castSeq, thread := 0, pc := 0, addr := 0, ndet := false }

/-- R402, R416: the sender of a MULTICAST sends to its children in the tree, or to every member of a LIST in turn. -/
def castStart (d : Dev) (n : Nat) : Dev :=
  match d.runOf n with
  | none => d
  | some r =>
    let g := d.geo n
    let kids := if g.list then (List.range g.p).filter fun k => decide (k ≠ g.rank) else g.children g.rank g.rank
    let lost := if g.list then kids.filter fun k => d.listed.contains (d.memberDev n k) else []
    let kids := kids.filter fun k => !lost.contains k
    let d := d.sf F.COL_GROUP_n_STAT.STATE 2 0 n
    let d := (d.setRunOf n (some
      { r with phase := .move, kids := kids, missed := lost.length, need := g.p - 1 - lost.length })).recPhase
        r.inst 3
    let bytes := elemsToBytes (elemBytes r.desc.dtype) r.src
    let cs := chunksOf 4096 bytes bytes.length
    kids.foldl (fun d k => ((List.range cs.length).zip cs).foldl (fun d c =>
      d.castSend n r.inst { d.collPacket n r.num r.desc 0 0 2 0 c.2 with offset := 4096 * c.1, total := bytes.length } k) d) d

/-- The receptions of a slot changed. -/
def setCasts (d : Dev) (n : Nat) (l : List CollCast) : Dev := d.setCollSlot n { d.collSlot n with casts := l }

def castOf (d : Dev) (n root inst : Nat) : Option CollCast :=
  (d.collSlot n).casts.find? fun c => decide (c.root = root) && decide (c.inst = inst)

def putCast (d : Dev) (n : Nat) (c : CollCast) : Dev :=
  d.setCasts n (((d.collSlot n).casts.filter fun x => decide (x.root ≠ c.root)) ++ [c])

/-- R416: once this member and its subtree are accounted for, the counts go up the tree. -/
def castReport (d : Dev) (n root inst : Nat) (y : CollDesc) : Dev :=
  match d.castOf n root inst with
  | none => d
  | some c =>
    if c.here && c.kids.isEmpty && !c.reported then
      (d.putCast n { c with reported := true }).sendColl
        { d.collPacket n inst y 4 0 2 c.parent (leBytes 4 c.reached ++ leBytes 4 c.missed) with
          origin := d.memberDev n root }
    else d

/-- The fields of a COLL packet's header that its answer repeats. -/
def descOfPacket (p : Packet) : CollDesc :=
  { src := 0, dst := 0, count := p.cCount, op := p.cOp, dtype := p.cDtype, redop := p.cRedop, algo := 0, order := false
    root := 0, status := 0 }

/-- R402, R415: a MULTICAST packet arrives: it is acknowledged, passed on to the children, and stored in the receive
buffer; the last byte raises RX_COUNTER of the home core. -/
def castData (d : Dev) (n : Nat) (p : Packet) (errs : List MemErr) : Dev :=
  let g := d.geo n
  let root := (d.rankOf n p.origin).getD 0
  let y := descOfPacket p
  let base := d.gf F.COL_GROUP_n_RXBUF.ADDR 0 n
  let fits := decide (p.total ≤ 4096 * d.gf F.COL_GROUP_n_RXBUF.RX_PAGES 0 n)
  let (c, d) := match d.castOf n root p.cInst with
    | some c => (c, d)
    | none =>
      let c : CollCast :=
        { root := root, inst := p.cInst, parent := p.src, takes := fits && !d.occulted && d.bufferOk base p.total
          kids := if g.list then [] else g.children root g.rank }
      (c, if fits then d else d.logColl Code.COLL_PARTIAL n p.cInst none)
  let d := d.ackColl p
  if c.got.contains (p.offset, p.payload.length) then d
  else
    let d := c.kids.foldl (fun d k => d.castSend n (d.castInst n) p k) d
    let (code, d) := if c.takes then d.writeBuf (base + p.offset) p.payload errs else (0, d)
    let c := { c with got := c.got ++ [(p.offset, p.payload.length)], takes := c.takes && decide (code = 0) }
    if (c.got.map Prod.snd).sum < p.total ∨ c.here then d.putCast n c
    else
      let c := { c with
        here := true
        reached := c.reached + (if c.takes then 1 else 0), missed := c.missed + (if c.takes then 0 else 1) }
      let d := d.putCast n c
      let d := if c.takes then
          d.update (d.gf F.COL_GROUP_n_CFG.HOME_CORE 0 n) (d.gf F.COL_GROUP_n_ROLE.RX_COUNTER 0 n) 1 4 p.origin none
        else d
      d.castReport n root p.cInst y

/-- R416: a child's subtree is accounted for: `reached` and `missed` members. -/
def castCounts (d : Dev) (n root inst child reached missed : Nat) (y : CollDesc) : Dev :=
  let own : Bool := match d.runOf n with
    | some r => decide (r.algo = .mcast) && decide (r.num % 2 ^ 24 = inst) && decide (root = (d.geo n).rank)
        && r.kids.contains child
    | none => false
  if own then
    d.modRun n fun r =>
      { r with
        kids := r.kids.erase child, reached := r.reached + reached, missed := r.missed + missed
        need := r.need - (reached + missed) }
  else match d.castOf n root inst with
    | some c =>
      if c.kids.contains child then
        (d.putCast n { c with
          kids := c.kids.erase child, reached := c.reached + reached, missed := c.missed + missed }).castReport n root inst y
      else d
    | none => d

/-- R415, R416: a child that cannot be reached: its subtree is pruned, and every member of it counts as not reached. -/
def castPrune (d : Dev) (n : Nat) (p : Packet) : Dev :=
  let g := d.geo n
  match d.rankOf n p.dst, d.rankOf n p.origin with
  | some child, some root =>
    let d := { d with reqs := d.reqs.filter fun r : Req => !(decide (r.kind = ReqKind.coll) && decide (r.saddr = n)
      && decide (r.pkt.dst = p.dst) && decide (r.pkt.word7 = p.word7) && decide (r.pkt.origin = p.origin)) }
    let lost := if g.list then 1 else (g.subtree root 190 child).length
    d.castCounts n root p.cInst child 0 lost (descOfPacket p)
  | _, _ => d

/-! ### The barrier (R439) -/

/-- The members whose arrivals this member waits for, its own apart. -/
def barrierKids (g : Geo) : List Nat :=
  if g.list then (if g.rank = g.keeper then (List.range g.p).filter fun k => decide (k ≠ g.rank) else [])
  else g.children g.keeper g.rank

/-- R439: the release, or the mismatch, goes down and ends the barrier here. -/
def barrierEnd (d : Dev) (n : Nat) (v : CollVal) : Dev :=
  let g := d.geo n
  let d := d.sendAgree n 1 (barrierKids g) v
  if v.sig = none then d.collStop n Code.COLL_SIGNATURE_MISMATCH none
  else match d.runOf n with
    | some r =>
      let d := d.setRunOf n (some { r with phase := .move, need := 0 })
      (d.sf F.COL_GROUP_n_STAT.STATE 2 0 n).recPhase r.inst 3
    | none => d

/-- R388, R439: arrivals combined: one goes up with the count of the subtree, or the keeper counts to P and releases. -/
def barrierCheck (d : Dev) (n : Nat) : Dev :=
  match d.runOf n with
  | none => d
  | some r =>
    let g := d.geo n
    let vs := (g.rank :: barrierKids g).filterMap fun k => llFind r 0 k
    let sum := (vs.map fun v => v.count).sum
    let d := if g.rank = g.keeper then
        (d.sf F.SYN_BARRIER_n.INSTANCE (r.num % 2 ^ 24) 0 n).sf F.SYN_BARRIER_n.ARRIVED sum 0 n
      else d
    if r.stage ≠ 0 ∨ r.phase ≠ .agree ∨ vs.length ≤ (barrierKids g).length then d
    else
      let v := (vs.drop 1).foldl (fun a b => (combineVals r.desc a b).1) (vs.headD { stage := 0, rank := 0, sig := none })
      let d := d.modRun n fun r => { r with stage := 1 }
      if g.rank = g.keeper then
        if v.count = g.p ∨ v.sig = none then d.barrierEnd n v else d
      else d.sendAgree n 0 [if g.list then g.keeper else (g.parent g.keeper g.rank).getD g.keeper] v

/-- R439: an arrival or the release reaches a member that has entered the barrier. -/
def barrierTake (d : Dev) (n : Nat) (p : Packet) (release : Bool) : Dev :=
  match d.runOf n with
  | none => d
  | some r =>
    match d.rankOf n p.src with
    | none => d
    | some rank =>
      if r.phase ≠ .agree then d
      else
        let v := agreeVal r.desc p rank
        if release then d.barrierEnd n v
        else if (llFind r 0 rank).isSome || !(barrierKids (d.geo n)).contains rank then d
        else
          let v := { v with stage := 0 }
          ((d.setRunOf n (some { r with vals := r.vals ++ [v] })).inputFrom n rank).barrierCheck n

/-- R439: this member's own arrival, and those that came before it. -/
def barrierEnter (d : Dev) (n : Nat) : Dev :=
  match d.runOf n with
  | none => d
  | some r =>
    let g := d.geo n
    let own : CollVal := { stage := 0, rank := g.rank, sig := some (d.sigOf n r.num r.desc) }
    let d := (d.setRunOf n (some { r with vals := [own] })).barrierCheck n
    let ps := (d.collSlot n).early
    let d := d.setCollSlot n { d.collSlot n with early := [] }
    ps.foldl (fun d p =>
      if p.cInst = (r.num + 1) % 2 ^ 24 then d.keepEarly n p
      else if p.cKind = 1 then d.barrierTake n p (decide (p.cStage = 1))
      else d) d

/-! ### The start of an instance -/

/-- The head of a slot's communication queue leaves it; the next instance is numbered. -/
def collPop (d : Dev) (n : Nat) : Dev :=
  let d := { d with collq := NMap.set [] d.collq n ((NMap.get [] d.collq n).drop 1) }
  let d := d.setRunOf n none
  let x := d.collSlot n
  let d := d.setCollSlot n { x with msgs := x.msgs.filter fun k => decide (k.origin ≠ d.self) }
  d.sf F.COL_GROUP_n_STAT.INSTANCE (d.gf F.COL_GROUP_n_STAT.INSTANCE 0 n + 1) 0 n

/-- R386, R410, R412: a COLL faults, its core stops, and CORE_COLL_REC tells of it. -/
def collFault (d : Dev) (n num : Nat) (i : CollInst) (touched : Bool) (code detail : Nat) : Dev :=
  let d := (d.setReg ⟨.CORE_COLL_REC, i.core, 0, 0⟩ 0).modCore i.core fun y => { y with lastColl := some i.seq }
  let d := ((d.sf F.CORE_COLL_REC.SLOT n i.core).sf F.CORE_COLL_REC.INSTANCE num i.core).sf F.CORE_COLL_REC.PHASE 5 i.core
  let d := (d.sf F.CORE_COLL_REC.CAUSE (if codeClass detail = 6 then detail else 0) i.core).sf
    F.CORE_COLL_REC.OUTPUT_TOUCHED (if touched then 1 else 0) i.core
  d.coreFault i.core
    { code := code, detail := detail, queue := 7, thread := some i.thread, pc := i.pc, seq := i.seq, kind := 4 }

/-- R386, R391, R412: why an instance that is about to start faults, if it does: the code and its detail. -/
def collRefusal (d : Dev) (n : Nat) (i : CollInst) (b : List Byte) (src : Ecc) : Option (Nat × Nat) :=
  let y := collDescOf b
  let g := d.geo n
  let closed := d.gf F.COL_GROUP_n_CTRL.CLOSE_CODE 0 n
  let s := srcBytes y g
  let t := dstBytes y g
  if closed ≠ 0 ∧ y.op ≠ 6 then some (Code.DMA_REMOTE_ERROR, closed)
  else if collBadDesc y b g (collAlgo y (d.gf F.COL_CTRL.TREE_MAX_LOG2) g.list) then some (Code.DMA_BAD_DESC, 0)
  else if y.order && !i.ndet then some (Code.CORE_NDET_REQUIRED, 0)
  else if (s ≠ 0 ∧ !d.bufferOk y.src s) ∨ (t ≠ 0 ∧ !d.bufferOk y.dst t) then
    some (Code.DMA_REMOTE_ERROR, Code.GAS_ADDR_ERROR)
  else if s ≠ 0 ∧ d.areaOf y.src s = some .sram ∧ src = .uncorrectable then some (Code.CORE_STORE_UNCORRECTABLE, 0)
  else none

/-- R387, R402, R411, R439: an instance begins; a marker that came before it ends it. -/
def collBegin (d : Dev) (n : Nat) (run : CollRun) (checks : List CollCheck) (errs : List MemErr) : Dev :=
  match (d.collSlot n).early.find? fun p => decide (p.cKind = 2) && decide (p.cInst = run.num % 2 ^ 24) with
  | some p => (d.collStop n (leNat p.payload % 65536) none).takeEarly n [] []
  | none =>
    match run.algo with
    | .mcast => d.castStart n
    | .barrier => d.barrierEnter n
    | _ => (d.llEnter n checks errs).takeEarly n checks errs

/-- R383 to R387, R391, R412: a slot starts its next instance. R103: `ecc` and `src` are what the check bits of the
descriptor's words and of a source in a store find. -/
def collStart (d : Dev) (n : Nat) (ecc src : Ecc) (checks : List CollCheck) (errs : List MemErr) : Dev :=
  match NMap.get [] d.collq n with
  | [] => d
  | i :: _ =>
    let num := d.gf F.COL_GROUP_n_STAT.INSTANCE 0 n
    if (d.runOf n).isSome then d
    else if !d.on F.COL_GROUP_n_CFG.VALID 0 n || decide (d.gf F.COL_GROUP_n_CFG.HOME_CORE 0 n ≠ i.core) then
      let d := { d with collq := NMap.set [] d.collq n ((NMap.get [] d.collq n).drop 1) }
      ((d.logColl Code.COLL_GROUP_INVALID n num none).collFault n num i false Code.DMA_REMOTE_ERROR
        Code.COLL_GROUP_INVALID).kick i.core
    else
      let d0 := d.storeEcc i.core ecc
      if ecc = .uncorrectable then ((d0.collPop n).collFault n num i false Code.CORE_STORE_UNCORRECTABLE 0).kick i.core
      else
        let b := d0.rdStore i.core i.addr 64
        let y := collDescOf b
        let g := d0.geo n
        let s := srcBytes y g
        match d0.collRefusal n i b src with
        | some (code, detail) =>
          let d0 := if code = Code.CORE_STORE_UNCORRECTABLE then d0.storeEcc i.core src else d0
          ((d0.collPop n).collFault n num i false code detail).kick i.core
        | none => match d.bufWaits y.src s false with
          | (true, d) => d
          | (false, _) =>
            let d0 := if s ≠ 0 ∧ d0.areaOf y.src s = some .sram then d0.storeEcc i.core src else d0
            let (code, bytes, d) := d0.readBuf y.src s errs
            let run : CollRun :=
              { inst := i, num := num, desc := y
                algo := (collAlgo y (d0.gf F.COL_CTRL.TREE_MAX_LOG2) g.list).getD .ll
                src := (bytesToElems (elemBytes y.dtype) bytes).map y.enter }
            let d := (d.setRunOf n (some run)).sf F.COL_GROUP_n_STAT.STATE 1 0 n
            let d := if d.recIs i then
                (d.sf F.CORE_COLL_REC.INSTANCE num i.core).sf F.CORE_COLL_REC.PHASE 2 i.core
              else d
            if code ≠ 0 then d.collAbort n Code.COLL_TRANSFER_FAILED none else d.collBegin n run checks errs

/-! ### Packets -/

/-- R411, R419: an abort marker. One of an instance that this member has not entered closes the slot, or with a code
that leaves the slot usable waits for the instance. -/
def takeMarker (d : Dev) (n : Nat) (p : Packet) : Dev :=
  let code := leNat p.payload % 65536
  let d := d.sendMarker n p.cInst (descOfPacket p) 2 code p.origin
  match d.runOf n with
  | some r =>
    if r.num % 2 ^ 24 = p.cInst then d.collStop n code none
    else if p.cInst ≠ (r.num + 1) % 2 ^ 24 then d
    else if closes code then d.sf F.COL_GROUP_n_CTRL.CLOSE_CODE code 0 n
    else d.keepEarly n p
  | none =>
    if p.cInst ≠ d.gf F.COL_GROUP_n_STAT.INSTANCE 0 n then d
    else if closes code then (d.closeSlot n code).logColl code n p.cInst none
    else d.keepEarly n p

/-- R418: the notice and the accusation of a member that holds the group up. -/
def straggler (d : Dev) (n num dev : Nat) : Dev :=
  ((d.logColl Code.STRAGGLER n num (some dev)).accuse dev 0 0xFFFF).raise 579

/-- R418: the status of the running instance names a member; a lower-ranked name stays. -/
def waitingOn (d : Dev) (n dev : Nat) : Dev :=
  let rank (x : Nat) : Nat := (d.rankOf n x).getD 0
  if d.on F.COL_GROUP_n_STAT.WAITING_VALID 0 n && decide (rank (d.gf F.COL_GROUP_n_STAT.WAITING_ON 0 n) < rank dev) then d
  else (d.sf F.COL_GROUP_n_STAT.WAITING_VALID 1 0 n).sf F.COL_GROUP_n_STAT.WAITING_ON dev 0 n

/-- R418: a WAITING marker is noticed; where it takes the place of an input of the running instance, a name already
there stays if it is lower-ranked. -/
def takeWaiting (d : Dev) (n : Nat) (p : Packet) : Dev :=
  let dev := leNat p.payload % 2 ^ 18
  let d := d.straggler n p.cInst dev
  match d.runOf n, d.rankOf n p.src with
  | some r, some rank =>
    if r.num % 2 ^ 24 ≠ p.cInst then d
    else
      let keep := match r.waiting.find? fun w => decide (w.1 = rank) with
        | some w => decide ((d.rankOf n w.2).getD 0 ≤ (d.rankOf n dev).getD 0)
        | none => false
      let d := if keep then d
        else d.setRunOf n (some { r with waiting := (r.waiting.filter fun w => decide (w.1 ≠ rank)) ++ [(rank, dev)] })
      d.waitingOn n dev
  | _, _ => d

/-- R418, R399, R400: what this member lacks in RING and what it holds back for want of it: for an element that waits
at a reduce-scatter stage its chain's next input; then, once none waits, for an element of the output not written the
member that the all-gather brings it from. Each with its stage. -/
def ringMissing (g : Geo) (r : CollRun) : List (Nat × Nat) :=
  let y := r.desc
  let back (e s : Nat) : List Nat := (((g.ringSteps y.op y.count e)[s]?).map fun st => g.next { st with rev := !st.rev }).toList
  let waits := r.own.flatMap fun k => (back (k.1 % 2 ^ 60) (k.1 / 2 ^ 60)).map fun m => (k.1 / 2 ^ 60, m)
  if !waits.isEmpty then waits
  else if y.op = 1 then []
  else
    let k := g.active.length
    ((List.range (ringTotal g y)).filter fun e => !r.wrote.any fun w => decide (w.1 ≤ e) && decide (e < w.1 + w.2)).flatMap fun e =>
      let m := g.ownedSteps (g.ringSteps y.op y.count e)
      (back e m).map fun x => (2 * k - 1 - m, x)

/-- R418: the members that RING's outputs go to which wait for what this member lacks. -/
def ringOwed (g : Geo) (r : CollRun) : List Nat :=
  let y := r.desc
  let fwd (e s : Nat) : List Nat := (((g.ringSteps y.op y.count e)[s]?).map g.next).toList
  let sums := r.own.flatMap fun k =>
    fwd (k.1 % 2 ^ 60) (g.ownedSteps (g.ringSteps y.op y.count (k.1 % 2 ^ 60)))
  let outs := if y.op = 1 then [] else
    ((List.range (ringTotal g y)).filter fun e => !r.wrote.any fun w => decide (w.1 ≤ e) && decide (e < w.1 + w.2)).flatMap fun e =>
      let steps := g.ringSteps y.op y.count e
      let m := g.ownedSteps steps
      (match steps[m]? with
        | some st => if g.pos (g.next st) st.dim = st.owner then [] else [g.next st]
        | none => []) ++ (List.range m).flatMap fun j => fwd e j
  (sums ++ outs).dedup

/-- The members whose inputs the running instance lacks now. -/
def missing (d : Dev) (n : Nat) : List Nat :=
  match d.runOf n with
  | none => []
  | some r =>
    let g := d.geo n
    let y := r.desc
    let others := (List.range g.p).filter fun k => decide (k ≠ g.rank)
    match r.phase, r.algo with
    | .abort _, _ => []
    | .agree, .barrier =>
      if r.stage = 0 then (barrierKids g).filter fun k => (llFind r 0 k).isNone
      else [if g.list then g.keeper else (g.parent g.keeper g.rank).getD g.keeper]
    | .agree, _ =>
      if g.list then (if g.rank = g.keeper then others.filter fun k => (llFind r 0 k).isNone else [g.keeper])
      else match g.active[r.stage]? with
        | some dim => (g.line dim).filter fun k => (llFind r r.stage k).isNone
        | none => []
    | .move, .ll => if r.need = 0 then [] else (g.parent y.root g.rank).toList
    | .move, .tree =>
      if r.need = 0 then []
      else if y.op = 3 then (g.parent y.root g.rank).toList
      else
        let kids := (g.children g.keeper g.rank).filter fun k =>
          (treeFirsts y).any fun f => !r.parts.any fun p => decide (p.rank = k) && decide (p.first = f)
        if kids.isEmpty then (g.parent g.keeper g.rank).toList else kids
    | .move, .ring =>
      let l := ringMissing g r
      let first := ((l.map Prod.fst).min?).getD 0
      ((l.filter fun x => decide (x.1 = first)).map Prod.snd).dedup
    | .move, .direct => others.filter fun k =>
        (List.range ((y.count + 4096 / elemBytes y.dtype - 1) / (4096 / elemBytes y.dtype))).any fun i =>
          !r.seen.contains (0, k, i * (4096 / elemBytes y.dtype))
    | .move, _ => r.kids

/-- The members that wait for the output that this member holds back. -/
def heldBack (d : Dev) (n : Nat) : List Nat :=
  match d.runOf n with
  | none => []
  | some r =>
    let g := d.geo n
    let others := (List.range g.p).filter fun k => decide (k ≠ g.rank)
    match r.phase, r.algo with
    | .agree, .barrier =>
      if r.stage = 0 then (if g.rank = g.keeper then others else if g.list then [g.keeper] else (g.parent g.keeper g.rank).toList)
      else barrierKids g
    | .agree, _ =>
      if g.list then (if g.rank = g.keeper then others else [])
      else match g.active[r.stage + 1]? with
        | some dim => (g.line dim).filter fun k => decide (k ≠ g.rank)
        | none => []
    | .move, .ll => g.children r.desc.root g.rank
    | .move, .tree =>
      if r.desc.op = 3 then g.children r.desc.root g.rank
      else
        let up := (g.parent g.keeper g.rank).toList
        (if d.missing n = up then [] else up) ++ g.children g.keeper g.rank
    | .move, .ring => ringOwed g r
    | _, _ => []

/-- R418: an input has been missing for STRAGGLER_MS: the lowest-ranked member whose input is missing, or the one that
it has named, is named to those that wait for this member. -/
def stragglerTimeout (d : Dev) (n : Nat) : Dev :=
  match d.runOf n, (d.missing n).min? with
  | some r, some m =>
    let dev := match r.waiting.find? fun w => decide (w.1 = m) with
      | some w => w.2
      | none => d.memberDev n m
    let d := (d.heldBack n).foldl (fun d k =>
      d.sendColl (d.collPacket n r.num r.desc 3 0 1 (d.memberDev n k) (leBytes 8 dev))) d
    (d.straggler n r.num dev).waitingOn n dev
  | _, _ => d

/-! ### The end of an instance -/

/-- R408: the status block. -/
def statusBlock (d : Dev) (r : CollRun) (valid : Bool) (code : Nat) : List Byte :=
  let missed := if valid then r.missed else 0
  leBytes 8 (r.num % 2 ^ 24 * 2 ^ 40 + (if valid then 2 ^ 31 else 0) + (if valid ∧ missed ≠ 0 then 2 ^ 30 else 0) + code)
    ++ leBytes 4 missed
    ++ leBytes 4 (match r.suspect with
      | some s => s + 2 ^ 31
      | none => 0)
    ++ leBytes 8 d.chrono ++ List.replicate 40 0

/-- R408 to R410, R412, R416: output and acknowledgements are done, or an abort has ended the instance: the status block
is written. -/
def collStatus (d : Dev) (n : Nat) : Dev :=
  match d.runOf n with
  | none => d
  | some r =>
    let i := r.inst
    let closed := d.gf F.COL_GROUP_n_CTRL.CLOSE_CODE 0 n
    match r.phase with
    | .agree => d
    | .move =>
      if r.need ≠ 0 ∨ !r.sends.isEmpty ∨ d.collOpen n i ≠ 0 then d
      else
        let d := d.wrStore i.core r.desc.status (d.statusBlock r true 0)
        let d := if r.missed ≠ 0 then d.logColl Code.COLL_PARTIAL n r.num none else d
        let d := d.incr F.COL_GROUP_n_DONE.COUNT 1 0 n
        let d := (d.collPop n).modEntry i.core 7 i.seq fun y => { y with done := true }
        let d := d.sf F.COL_GROUP_n_STAT.WAITING_VALID 0 0 n
        (d.sf F.COL_GROUP_n_STAT.STATE (if closed ≠ 0 then 4 else 0) 0 n).kick i.core
    | .abort code =>
      let d := d.wrStore i.core r.desc.status (d.statusBlock r false code)
      let d := (d.collPop n).sf F.COL_GROUP_n_STAT.WAITING_VALID 0 0 n
      let d := if closes code then d.closeSlot n code
        else d.sf F.COL_GROUP_n_STAT.STATE (if closed ≠ 0 then 4 else 0) 0 n
      (d.collFault n r.num i (!r.wrote.isEmpty) Code.DMA_REMOTE_ERROR code).kick i.core

/-- R419: ABORT of a slot: the running instance at every member, by a marker, and the slot is closed. -/
def abortSlot (d : Dev) (n : Nat) : Dev :=
  if !d.on F.COL_GROUP_n_CFG.VALID 0 n then d
  else match d.runOf n with
    | some _ => d.collAbort n Code.COLL_ABORTED none
    | none =>
      let num := d.gf F.COL_GROUP_n_STAT.INSTANCE 0 n
      let y : CollDesc :=
        { src := 0, dst := 0, count := 0, op := 0, dtype := 0, redop := 0, algo := 0, order := false, root := 0, status := 0 }
      ((d.sendMarker n num y 2 Code.COLL_ABORTED d.self).closeSlot n Code.COLL_ABORTED).logColl Code.COLL_ABORTED n num none

/-- R414: the slots that a lost device or a lost home core concerns: the running instance aborts and the slot closes. -/
def loseMember (d : Dev) (dev : Nat) (lost : Nat → Bool) : Dev :=
  (List.range 256).foldl (fun d n =>
    if d.on F.COL_GROUP_n_CFG.VALID 0 n && lost n then
      match d.runOf n with
      | some r =>
        if r.phase = .move then d.collAbort n Code.GROUP_MEMBER_LOST (some dev)
        else d.collStop n Code.GROUP_MEMBER_LOST (some dev)
      | none =>
        (d.closeSlot n Code.GROUP_MEMBER_LOST).logColl Code.GROUP_MEMBER_LOST n (d.gf F.COL_GROUP_n_STAT.INSTANCE 0 n) (some dev)
    else d) d

/-- R414: an occulted device; R414: a logical core of this device that left service. -/
def memberLost (d : Dev) (dev : Nat) : Dev := d.loseMember dev fun n => (d.rankOf n dev).isSome

def homeCoreLost (d : Dev) (c : Nat) : Dev :=
  d.loseMember d.self fun n => decide (d.gf F.COL_GROUP_n_CFG.HOME_CORE 0 n = c)

/-- A packet that has reached this device leaves the lists of packets on their way. -/
def consume (d : Dev) (p : Packet) : Dev := { d with inside := d.inside.erase p, injected := d.injected.erase p }

/-- R413, R262: a COLL data packet acknowledged; DIRECT may send its next one. -/
def collAcked (d : Dev) (r : Req) : Dev := (d.dropReq r).directPump r.saddr 16

/-- R413, R416: a COLL packet has had no acknowledgement for TIMEOUT_US: it is resent, or its member is not reached. -/
def collTimeout (d : Dev) (r : Req) : Dev :=
  let n := r.saddr
  if r.pkt.attempt < r.retries then
    ((d.dropReq r).bump F.GAS_ERR_CNT.RETRY_CNT F.GAS_ERR_CNT.RETRY_SAT 1).track
      { r with pkt := { d.offTransit r.pkt with attempt := r.pkt.attempt + 1 } }
  else if r.pkt.cOp = 6 then d.castPrune n r.pkt
  else ((d.dropReq r).accuse r.pkt.dst 3 0xFFFF).collAbort n Code.COLL_TRANSFER_FAILED (some r.pkt.dst)

/-- The COLL packet that a message number and an offset name, once it has left its injection queue (R295, R413). -/
def collTimed (d : Dev) (msg offset : Nat) : Option Req :=
  (d.reqs.find? fun r => decide (r.kind = .coll) && decide (r.pkt.msg = msg) && decide (r.pkt.offset = offset)).filter
    fun r => !d.held.contains r.pkt

/-- The place of a COLL packet in the lists of this member: the slot of its group, when it is for this device. -/
def collFor (d : Dev) (p : Packet) (kind : Nat) : Option Nat :=
  if p.type = PT.coll ∧ p.cKind = kind ∧ p.dst = d.self then d.slotFor p else none

/-- R411: a data packet that no instance or phase of this member takes: one of an instance that it has not reached is
kept, one of an aborted instance is discarded. -/
def collDataIn (d : Dev) (n : Nat) (p : Packet) (checks : List CollCheck) (errs : List MemErr) : Dev :=
  if p.cOp = 6 then d.castData n p errs
  else
    let d := d.ackColl p
    match d.runOf n with
    | none => d.keepEarly n p
    | some r =>
      if p.cInst = r.num % 2 ^ 24 then
        match r.phase with
        | .abort _ => d
        | .agree => if r.algo = .ll then d.takeData n p checks errs else d.keepEarly n p
        | .move => d.takeData n p checks errs
      else if p.cInst = (r.num + 1) % 2 ^ 24 then d.keepEarly n p
      else d

/-- R387, R388: an agreement packet of a collective that is no barrier. -/
def collAgreeIn (d : Dev) (n : Nat) (p : Packet) (checks : List CollCheck) (errs : List MemErr) : Dev :=
  match d.runOf n with
  | none => d.keepEarly n p
  | some r =>
    if p.cInst = (r.num + 1) % 2 ^ 24 ∧ p.cInst ≠ r.num % 2 ^ 24 then d.keepEarly n p
    else if r.phase = .agree then
      (d.takeAgree n p checks errs).takeEarly n checks errs
    else d

end Dev

/-! ### The commands -/

def execCollInstanceStart (slot : Fin 256) (ecc : Ecc) (errs : List MemErr) (s : State) (src : Ecc := .ok)
    (checks : List CollCheck := []) : Host.Outcome State Fault Refusal :=
  s.upd fun d => d.collStart slot ecc src checks errs

def execCollAgreement (p : Packet) (checks : List CollCheck) (errs : List MemErr) (s : State) :
    Host.Outcome State Fault Refusal :=
  s.upd fun d => match d.collFor p 1 with
    | some n => if p.cOp = 5 then d else (d.consume p).collAgreeIn n p checks errs
    | none => d

/-- The output that a data packet writes lies at DST; with a frame of it being copied or a line recalled, the packet
waits. -/
def execCollData (p : Packet) (checks : List CollCheck) (errs : List MemErr) (s : State) : Host.Outcome State Fault Refusal :=
  s.upd fun d => match d.collFor p 0 with
    | some n =>
      let (a, k) := match d.runOf n with
        | some r => if p.cOp = 6 then (d.gf F.COL_GROUP_n_RXBUF.ADDR 0 n + p.offset, p.payload.length)
            else (r.desc.dst, Dev.dstCount r.desc (d.geo n).p * elemBytes r.desc.dtype)
        | none => (d.gf F.COL_GROUP_n_RXBUF.ADDR 0 n + p.offset, if p.cOp = 6 then p.payload.length else 0)
      match d.bufWaits a k true with
      | (true, d) => d
      | (false, _) => (d.consume p).collDataIn n p checks errs
    | none => d

def execCollAbortMarker (p : Packet) (s : State) : Host.Outcome State Fault Refusal :=
  s.upd fun d => match d.collFor p 2 with
    | some n => (d.consume p).takeMarker n p
    | none => d

def execCollWaitingMarker (p : Packet) (s : State) : Host.Outcome State Fault Refusal :=
  s.upd fun d => match d.collFor p 3 with
    | some n => (d.consume p).takeWaiting n p
    | none => d

def execCollMulticastAck (p : Packet) (s : State) : Host.Outcome State Fault Refusal :=
  s.upd fun d => match d.collFor p 4 with
    | some n =>
      let d := d.consume p
      match d.rankOf n p.src, d.rankOf n p.origin with
      | some child, some root =>
        d.castCounts n root p.cInst child (leNat (p.payload.take 4)) (leNat ((p.payload.drop 4).take 4)) (Dev.descOfPacket p)
      | _, _ => d
    | none => d

def execStragglerTimeout (slot : Fin 256) (s : State) : Host.Outcome State Fault Refusal :=
  s.upd fun d => d.stragglerTimeout slot

def execCollStatusWrite (slot : Fin 256) (s : State) : Host.Outcome State Fault Refusal :=
  s.upd fun d => d.collStatus slot

/-- An arrival that comes before this member's own, or one of the next instance, is held (chapter 11). -/
def execBarrierArrival (p : Packet) (s : State) : Host.Outcome State Fault Refusal :=
  s.upd fun d => match d.collFor p 1 with
    | some n =>
      if p.cOp ≠ 5 ∨ p.cStage ≠ 0 then d
      else
        let d := d.consume p
        match d.runOf n with
        | none => d.keepEarly n p
        | some r =>
          if p.cInst = (r.num + 1) % 2 ^ 24 ∧ p.cInst ≠ r.num % 2 ^ 24 then d.keepEarly n p
          else if r.algo = .barrier then d.barrierTake n p false
          else (d.takeAgree n p [] []).takeEarly n [] []
    | none => d

def execBarrierRelease (p : Packet) (s : State) : Host.Outcome State Fault Refusal :=
  s.upd fun d => match d.collFor p 1 with
    | some n =>
      if p.cOp ≠ 5 ∨ p.cStage ≠ 1 then d
      else
        let d := d.consume p
        match d.runOf n with
        | none => d.keepEarly n p
        | some r => if r.algo = .barrier then d.barrierTake n p true else d
    | none => d

def execCollPacketTimeout (msg offset : Nat) (s : State) : Host.Outcome State Fault Refusal :=
  s.upd fun d =>
    match d.collTimed msg offset with
    | some r => d.collTimeout r
    | none => d

end Sys2Proof.Machine
end

