-- ==== Sys2Proof/Machine/Turn.lean ====
section
/-! DEFINITION. Weighted deficit round-robin (R325, R320): whose packet goes next, when each key may send a share of flits a
round and keeps what it has left while it waits. A share is a key's weight in flits (DESIGN CHOICE, log entry 27). -/

namespace Sys2Proof.Machine

namespace Turn

/-- The key after k in a rising list; the first one when a round ends. -/
def after (keys : List Nat) (k : Nat) : Nat := (keys.find? fun x => decide (k < x)).getD (keys.headD 0)

/-- R326: a round takes its shares at its start. -/
def enter (keys : List Nat) (weight : Nat → Nat) (t : Turn) : Turn :=
  if !t.given && decide (t.key ≤ keys.headD 0) then
    { t with quota := keys.foldl (fun m k => NMap.set 0 m k (weight k)) [] }
  else t

/-- The round goes on until a key's share covers the flits of its first packet, `head`; none wait where that is 0. -/
def pick (keys : List Nat) (weight head : Nat → Nat) : Nat → Turn → Option (Nat × Turn)
  | 0, _ => none
  | n + 1, t =>
    let t := t.enter keys weight
    let f := head t.key
    let left := NMap.get 0 t.credit t.key + (if t.given then 0 else NMap.get 0 t.quota t.key)
    if f = 0 then
      pick keys weight head n
        { t with key := after keys t.key, given := false, credit := NMap.set 0 t.credit t.key 0 }
    else if f ≤ left then some (t.key, { t with given := true, credit := NMap.set 0 t.credit t.key (left - f) })
    else
      pick keys weight head n
        { t with key := after keys t.key, given := false, credit := NMap.set 0 t.credit t.key left }

/-- R325, R326: the key that sends next. One without a share sends only while no key with one waits, the lowest first; a
round ends where no key with a share waits. -/
def next (keys : List Nat) (weight head : Nat → Nat) (t : Turn) : Option (Nat × Turn) :=
  let t := t.enter keys weight
  let waiting := keys.filter fun k => decide (head k ≠ 0)
  let fuel := keys.length * 70 + 2
  if waiting.any fun k => decide (NMap.get 0 t.quota k ≠ 0) then
    pick keys weight (fun k => if NMap.get 0 t.quota k = 0 then 0 else head k) fuel t
  else
    let t : Turn := Turn.enter keys weight { credit := t.credit, key := keys.headD 0 }
    if waiting.any fun k => decide (weight k ≠ 0) then
      pick keys weight (fun k => if weight k = 0 then 0 else head k) fuel t
    else waiting.head?.map fun k => (k, t)

end Turn

end Sys2Proof.Machine
end

