-- ==== Sys2Proof/Machine/Fabric.lean ====
section
/-! DEFINITION. The router (chapter 08): routing and its rules along the way (R300 to R315), faces and discovery (R284 to
R293, R308 to R311), Transits (R317 to R323), congestion and source rates (R327 to R332), and table changes (R333 to
R339). -/

namespace Sys2Proof.Machine

open Sys2Proof

/-- R296: the types of the table. -/
def knownType (t : Nat) : Bool := (decide (1 ≤ t) && decide (t ≤ 0x10)) || isManagement t

/-- R333: the virtual channels that DRAIN holds. -/
def heldVc (v : Nat) : Bool := [1, 2, 3, 5, 6].contains v

/-- Where the router sends a packet. -/
inductive Way where
  | deliver
  | face (f : Nat) (p : Packet)
  /-- Any of these faces (R306). -/
  | adaptive (fs : List Nat)
  | unroutable
  deriving DecidableEq, Repr

namespace Dev

/-- A face carries traffic. -/
def faceUp (d : Dev) (f : Nat) : Bool := d.on F.XFB_FACE_f_STAT.UP 0 f

/-- R311: the S-die itself is occulted. -/
def sdieDown (d : Dev) : Bool := d.on F.DLK_DIE_k_INV.OCCULTED 0 dieS

/-- A packet of the router's own enters the output queue of a face. -/
def putFace (d : Dev) (f : Nat) (p : Packet) : Dev :=
  { d with fab := { d.fab with out := d.fab.out ++ [{ face := f, pkt := p }] } }

/-- The flits of a VC queued for a face (R327). -/
def queued (d : Dev) (f vc : Nat) : Nat :=
  ((d.fab.out.filter fun q => decide (q.face = f) && decide (q.pkt.vc = vc)).map fun q => q.pkt.flits).sum

/-- R308 to R310: a packet discarded and counted in a field of XFB_DROP_CNT. -/
def dropPacket (d : Dev) (f : Fld) (code face : Nat) (p : Packet) : Dev :=
  (d.bump f F.XFB_DROP_CNT.SAT 1).logXfb code face 0 p.dst 1

/-- A packet refused to its requester (R268). -/
def refuse (d : Dev) (p : Packet) (code : Nat) : Dev :=
  d.send
    { d.packet PT.refusal 3 p.src with
      code := code, addr := p.addr, key := p.key, offset := p.offset, msg := p.msg, total := p.total, dseq := p.dseq
      core := p.core, epoch := p.epoch, aop := p.aop, w64 := p.w64, ece := p.ce }

/-! ### Routing -/

/-- A step in dimension k on the escape pools: the face, the packet with ESC and DATELINE as it leaves, and whether it
crosses the wrap link (R305). -/
def stepIn (d : Dev) (k dir : Nat) (p : Packet) (from_ : Option Nat) : Nat × Packet × Bool :=
  let c := coordOf d.self k
  let wraps := (decide (dir = 1) && decide (c + 1 = d.dim k)) || (decide (dir = 2) && decide (c = 0))
  let cont := match from_ with
    | some f => decide (f / 2 = k)
    | none => false
  (faceOf k dir, { p with esc := true, dateline := wraps || (cont && p.dateline) }, wraps)

/-- R305: dimension order by a direction for each dimension (0 resolved, 1 +, 2 −, 3 unreachable); R315 where the packet
may cross no wrap link of a dimension. -/
def dimOrder (d : Dev) (dirs : List Nat) (noWrap : List Bool) (p : Packet) (from_ : Option Nat) : Way :=
  if dirs.contains 3 then .unroutable
  else match (List.range 3).find? fun k => decide (dirs.getD k 0 ≠ 0) with
    | none => .deliver
    | some k =>
      let (f, q, wraps) := d.stepIn k (dirs.getD k 0) p from_
      if wraps && noWrap.getD k false then .unroutable else .face f q

/-- The directions that the direction rule gives with a packet's WRAP bits (R300). -/
def ruleDirs (d : Dev) (p : Packet) : List Nat :=
  (List.range 3).map fun k => directionRule (d.dim k) (coordOf d.self k) (coordOf p.dst k) (bitOf p.wrap k)

/-- The directions of the active tables (R301). -/
def tableDirs (d : Dev) (dst : Nat) : List Nat := (List.range 3).map fun k => d.tableEntry d.bank k (coordOf dst k)

/-- R315: the dimensions whose wrap link a packet of this partition may not cross. -/
def noWrap (d : Dev) : List Bool := (List.range 3).map fun k => !d.wrapBit d.bank k

/-- R304: a packet that an exception entry steers to a face: on escape pool A of its VC; 7 is unreachable. -/
def exceptionWay (d : Dev) (f : Nat) (noWrap : List Bool) (p : Packet) : Way :=
  if 6 ≤ f then .unroutable
  else
    let (g, q, wraps) := d.stepIn (f / 2) (f % 2 + 1) p none
    if wraps && noWrap.getD (f / 2) false then .unroutable else .face g { q with dateline := false }

/-- R305, R306: a packet of this partition by the active tables. -/
def tableWay (d : Dev) (p : Packet) (from_ : Option Nat) : Way :=
  let dirs := d.tableDirs p.dst
  if [2, 3, 6].contains p.vc && decide (p.route = 1) && !p.esc && !dirs.contains 3 then
    let fs := (List.range 3).filterMap fun k =>
      let (f, _, wraps) := d.stepIn k (dirs.getD k 0) p none
      if dirs.getD k 0 = 0 ∨ (wraps && d.noWrap.getD k false) then none else some f
    if dirs.all fun x => decide (x = 0) then .deliver
    else if fs.isEmpty then .unroutable
    else .adaptive fs
  else d.dimOrder dirs d.noWrap p from_

/-- R314: whether a packet belongs to another partition. -/
def foreign (d : Dev) (p : Packet) : Bool := !isManagement p.type && decide (p.partition ≠ d.partition)

/-- R296, R314: a packet on the VC it travels here: VC_0 for the management types, VC_5 for another partition, and
back on its own VC's escape pools in its own partition. -/
def onVc (d : Dev) (p : Packet) : Packet :=
  if isManagement p.type then { p with vc := 0 }
  else if d.foreign p then (if p.vc = 5 then p else { p with vc := 5, origVc := p.vc })
  else if p.vc = 5 then { p with vc := p.origVc, esc := true }
  else p

/-- R304 to R306, R314, R320: where a packet goes, and the packet with the VC it goes on. A packet for this device is
delivered before any table is looked at (DEDUCED, log entry 26). -/
def wayOf (d : Dev) (p : Packet) (from_ : Option Nat) : Way :=
  let p := d.onVc p
  let own := !isManagement p.type && !d.foreign p
  if p.route = 2 ∧ p.vc = 4 then
    match d.fab.circuits.find? fun c => decide (c.owner = p.src) && decide (c.id = p.transit) with
    | some c => if c.face = 6 then .deliver else
        match d.stepIn (c.face / 2) (c.face % 2 + 1) p from_ with
        | (f, q, _) => .face f q
    | none => .unroutable
  else if p.dst = d.self then .deliver
  else match d.exceptionFace d.bank p.dst with
    | some f => d.exceptionWay f (if own then d.noWrap else []) p
    | none => if own then d.tableWay p from_ else d.dimOrder (d.ruleDirs p) [] p from_

/-- R327: whether a packet that enters the queue of face f, in which `q` flits of its VC wait, is marked; `draw` is the
outcome of the draw between the limits, a free choice where the command does not bring it (log entry 49). -/
def marks (d : Dev) (vc q : Nat) (draw : Option Bool) : Bool × Dev :=
  let lo := d.gf F.XFB_ECN_CTRL.K_MIN
  let hi := d.gf F.XFB_ECN_CTRL.K_MAX
  if !d.on F.XFB_ECN_CTRL.EN || !([2, 3, 5, 6].contains vc) || decide (q ≤ lo) then (false, d)
  else if hi ≤ q then (true, d)
  else if d.gf F.XFB_ECN_CTRL.P_MAX = 0 then (false, d)
  else match draw with
    | some b => (b, d)
    | none => (Config.freeBit d.freeIx, d.draw)

/-- R327: a packet enters the output queue of a face; `was` is the packet as it lay in the router. -/
def forward (d : Dev) (f : Nat) (p : Packet) (was : Buffered) (draw : Option Bool) : Dev :=
  let (m, d) := if p.route = 2 then (false, d) else d.marks p.vc (d.queued f p.vc) draw
  let d := if m then d.incr F.XFB_FACE_f_CE_CNT.MARKED 1 0 f else d
  { d with fab := { d.fab with
    out := d.fab.out ++ [{ face := f, pkt := { p with hops := p.hops + 1, ce := p.ce || m }, was := some was }] } }

/-- XFB_ECN_CTRL: each VC of a face queues at most 1,024 flits. -/
def hasRoom (d : Dev) (f : Nat) (p : Packet) : Bool := d.faceUp f && decide (d.queued f p.vc + p.flits ≤ 1024)

/-- R306: the free adaptive credits that a VC last saw, by face. -/
def credits (d : Dev) (vc : Nat) : List Nat := NMap.get [] d.fab.free vc

def setCredits (d : Dev) (vc : Nat) (l : List Nat) : Dev :=
  { d with fab := { d.fab with free := NMap.set [] d.fab.free vc l } }

/-- A packet kept in the router's buffers. -/
def buffer (d : Dev) (p : Packet) (from_ : Option Nat) : Dev :=
  { d with fab := { d.fab with router := d.fab.router ++ [{ pkt := p, face := from_ }] } }

/-- R298: a NOTICE whose KIND the table refuses. -/
def badNotice (p : Packet) : Bool :=
  decide (p.type = PT.notice) && (decide (p.payload.headD 0 = 0) || decide (8 < (p.payload.headD 0).toNat))

/-- R298, R311, R313: a packet for this device delivered, refused or discarded. -/
def deliver (d : Dev) (p : Packet) : Dev :=
  if badNotice p then d.logXfb Code.XFB_BAD_TYPE 0 0 p.src 1
  else if isManagement p.type then { d with inside := d.inside ++ [p] }
  else if d.occulted then d
  else if p.partition = d.partition then { d with inside := d.inside ++ [{ p with vc := if p.vc = 5 then p.origVc else p.vc }] }
  else if isRequest p.type then (d.logAt Code.GAS_PARTITION dieS 0xFFFF p.addr 0).refuse p Code.GAS_PARTITION
  else d.dropPacket F.XFB_DROP_CNT.PART Code.XFB_PART_DROP 0 p

/-- R293: a device without valid coordinates sends and delivers management packets only. -/
def mute (d : Dev) (p : Packet) : Bool := !d.coordsValid && !isManagement p.type

/-- R306: of the productive faces that are up and show free adaptive credits, the one with the most, the lowest first.
-/
def bestFace (d : Dev) (p : Packet) (fs : List Nat) : Option Nat :=
  let free (f : Nat) : Nat := (d.credits p.vc).getD f 0
  let open_ := fs.filter fun f => d.hasRoom f p && decide (0 < free f)
  open_.find? fun f => decide (free f = (open_.map free).foldl max 0)

/-- R303 to R309, R322: a packet routed: it enters the output queue of a face, is delivered or discarded, or waits in
the router's buffers. -/
def routePacket (d : Dev) (p : Packet) (from_ : Option Nat) (draw : Option Bool := none) : Dev :=
  let was : Buffered := { pkt := p, face := from_ }
  if !knownType p.type || decide (p.vc = 7) || decide (p.route = 3) then
    d.dropPacket F.XFB_DROP_CNT.BAD Code.XFB_BAD_TYPE (from_.getD 0) p
  else if p.type = PT.discover then { d with inside := d.inside ++ [p] }
  else if 2 * (d.dim 0 + d.dim 1 + d.dim 2) < p.hops then
    d.dropPacket F.XFB_DROP_CNT.HOP Code.XFB_HOP_LIMIT (from_.getD 0) p
  else if d.mute p then d.dropPacket F.XFB_DROP_CNT.UNROUTABLE Code.XFB_UNROUTABLE (from_.getD 0) p
  else match d.wayOf p from_ with
    | .deliver => d.deliver p
    | .unroutable => d.dropPacket F.XFB_DROP_CNT.UNROUTABLE Code.XFB_UNROUTABLE (from_.getD 0) p
    | .face f q =>
      if d.hasRoom f q then d.forward f q was draw
      else if !d.faceUp f && decide (q.route = 2) && decide (q.vc = 4) then d
      else d.buffer p from_
    | .adaptive fs =>
      match d.bestFace p fs with
      | some f =>
        let d := d.setCredits p.vc ((d.credits p.vc).set f ((d.credits p.vc).getD f 0 - p.flits))
        d.forward f { p with dateline := false } was draw
      | none => d.buffer p from_

/-- R305: a header flit arrives at a face, or a packet of this device comes from its injection queue; `free` are the
free adaptive credits that its VC sees, by face, and `draw` the outcome of R327's draw. -/
def packetRoute (d : Dev) (from_ : Option Nat) (p : Packet) (free : List Nat) (draw : Bool) : Dev :=
  if d.sdieDown then d
  else match from_ with
    | some f =>
      if !d.faceUp f then d
      else
        let d := { d with fab := { d.fab with arrived := d.fab.arrived.erase (f, p) } }
        let d := d.incr F.XFB_FACE_f_RX_CNT.FLITS p.flits 0 f
        let d := if heldVc p.vc && d.on F.XFB_TABLE_STAT.DRAINED then d.sf F.XFB_TABLE_STAT.REENTERED 1 else d
        (d.setCredits p.vc free).routePacket p from_ (some draw)
    | none =>
      if d.injected.contains p then (({ d with injected := d.injected.erase p }).setCredits p.vc free).routePacket p none (some draw)
      else d

/-- A packet leaves the router's buffers. -/
def unbuffer (d : Dev) (b : Buffered) : Dev := { d with fab := { d.fab with router := d.fab.router.erase b } }

def buffered (d : Dev) (p : Packet) : Option Buffered := d.fab.router.find? fun b => decide (b.pkt = p)

/-- R308: waiting packets go on where a face has come up or the tables have changed. -/
def reroute (d : Dev) : Dev :=
  let l := d.fab.router
  l.foldl (fun d b => (d.unbuffer b).routePacket b.pkt b.face) d

/-! ### The outputs of the faces (R320, R325, R326) -/

/-- The flits of the first packet of each key in a queue. -/
def heads (key : Queued → Nat) (l : List Queued) : NMap Nat :=
  l.reverse.foldl (fun m q => NMap.set 0 m (key q) q.pkt.flits) []

/-- R320: a Transit by its owner and ID. -/
def transitKey (q : Queued) : Nat := q.pkt.src * 2 ^ 16 + q.pkt.transit

/-- R320: the share of a Transit on VC_4: its RATE; 1 for a packet without a circuit. -/
def transitShare (d : Dev) (k : Nat) : Nat :=
  match d.fab.circuits.find? fun c => decide (c.owner * 2 ^ 16 + c.id = k) with
  | some c => c.rate
  | none => 1

/-- R325, R326: the share of a VC. -/
def vcShare (d : Dev) (v : Nat) : Nat := getBits (d.reg ⟨.XFB_VC_WEIGHT, 0, 0, 0⟩) (8 * v + 7) (8 * v)

/-- R320, R325: the next packet of a face's output queues, and the turns after it. -/
def nextOut (d : Dev) (f : Nat) : Option (Queued × FaceOut) :=
  let l := d.fab.out.filter fun q => decide (q.face = f)
  let o := NMap.get {} d.fab.outs f
  let four := heads transitKey (l.filter fun q => decide (q.pkt.vc = 4))
  let keys := four.map Prod.fst
  let kept : Turn := { o.transits with credit := o.transits.credit.filter fun e => keys.contains e.1 }
  let pick := Turn.next keys d.transitShare (NMap.get 0 four) kept
  let first (v : Nat) : Option Queued :=
    if v = 4 then pick.bind fun x => l.find? fun q => decide (q.pkt.vc = 4) && decide (transitKey q = x.1)
    else l.find? fun q => decide (q.pkt.vc = v)
  match Turn.next (List.range 8) d.vcShare (fun v => ((first v).map fun q => q.pkt.flits).getD 0) o.vcs with
  | none => none
  | some (v, t) => (first v).map fun q =>
      (q, { vcs := t, transits := if v = 4 then (pick.map Prod.snd).getD o.transits else o.transits })

/-- R325: the next packet of a face that is up crosses it. -/
def sendNext (d : Dev) (f : Nat) : Dev :=
  if !d.faceUp f then d
  else match d.nextOut f with
    | none => d
    | some (q, o) =>
      { d with fab := { d.fab with
        out := d.fab.out.erase q, outs := NMap.set {} d.fab.outs f o, sent := d.fab.sent ++ [(f, q.pkt)]
        stream := NMap.set [] d.fab.stream f (NMap.get [] d.fab.stream f ++ q.pkt.stream) } }.incr
        F.XFB_FACE_f_TX_CNT.FLITS q.pkt.flits 0 f

/-- What the router does in a step with no command waiting: each face sends the next packet of its output queues, and
packets in the router's buffers go on where a queue has room for them. -/
def routerTick (d : Dev) : Dev :=
  let d := if d.fab.out.isEmpty then d else (List.range 6).foldl sendNext d
  if d.fab.router.isEmpty then d else d.reroute

/-- R294, R349: a face's stream as its ports hand it over: flits make packets again, and every packet of which a flit
was lost is discarded whole. A flit of zeros where a header is due is filler (log entry 33). -/
def faceTake (d : Dev) (f : Nat) (it : OptItem) : Dev :=
  let l := NMap.get [] d.fab.parts f
  match it with
  | .gap => { d with fab := { d.fab with parts := NMap.set [] d.fab.parts f [] } }
  | .flit bs =>
    if l.isEmpty && bs.all fun b => decide (b = 0) then d
    else
      let l := l ++ [bs]
      if l.length < (headerOf (l.headD [])).flits then { d with fab := { d.fab with parts := NMap.set [] d.fab.parts f l } }
      else { d with fab := { d.fab with
        parts := NMap.set [] d.fab.parts f [], arrived := d.fab.arrived ++ [(f, Packet.ofFlits l)] } }

/-- R307: an adaptive packet that has found no credit moves to the escape pools. -/
def escape (d : Dev) (p : Packet) : Dev :=
  match d.buffered p with
  | some b =>
    if [2, 3, 6].contains p.vc && decide (p.route = 1) && !p.esc then
      (d.unbuffer b).routePacket { p with esc := true } b.face
    else d
  | none => d

/-- R308, R415: a held packet is discarded; a MULTICAST piece of this S-die prunes the branch. -/
def holdExpiry (d : Dev) (p : Packet) : Dev :=
  match d.buffered p with
  | some b =>
    let d := (d.unbuffer b).dropPacket F.XFB_DROP_CNT.HOLD Code.XFB_HOLD_DROP (b.face.getD 0) p
    if p.type = PT.coll ∧ p.cOp = 6 ∧ p.cKind = 0 ∧ p.src = d.self then
      match d.slotFor p with
      | some n => d.castPrune n p
      | none => d
    else d
  | none => d

/-- R310: a VC_0 packet that is stuck is discarded. -/
def vc0Stuck (d : Dev) (p : Packet) : Dev :=
  match d.buffered p with
  | some b =>
    if p.vc = 0 then (d.unbuffer b).dropPacket F.XFB_DROP_CNT.VC0 Code.XFB_VC0_STUCK (b.face.getD 0) p else d
  | none => d

/-! ### Transits (R317 to R323) -/

/-- The slot of a Transit of this device by its ID, if it is not free. -/
def ownTransit (d : Dev) (id : Nat) : Option Nat :=
  lowestBelow (fun n => decide (d.gf F.XFB_TRANSIT_n_STAT.STATE 0 n ≠ 0)
    && decide (d.gf F.XFB_TRANSIT_n_PATH.ID 0 n = id)) 256

def setCircuits (d : Dev) (l : List Circuit) : Dev :=
  { d with fab := { d.fab with circuits := l } }.sf F.XFB_CIRCUIT_STAT.IN_USE l.length

/-- A Transit's management packet (R299); its word 2 stands in `addr`. -/
def transitPacket (d : Dev) (type dst src id word2 : Nat) : Packet :=
  { d.packet type 0 dst with src := src, transit := id, addr := word2 }

/-- R317: the next step of a Transit's path at this router: none at the end. -/
def transitStep (d : Dev) (dst dirs : Nat) : Option (Nat × Nat) :=
  ((List.range 3).find? fun k => decide (coordOf d.self k ≠ coordOf dst k)).map fun k =>
    (k, if bitOf dirs k then 2 else 1)

/-- The reservation of a face (R318). -/
def admitted (d : Dev) (f : Nat) : Nat := ((d.fab.circuits.filter fun c => decide (c.face = f)).map fun c => c.rate).sum

/-- The sum of the VC weights. -/
def weightSum (w : Word) : Nat := ((List.range 8).map fun v => getBits w (8 * v + 7) (8 * v)).sum

/-- R318: whether a rate fits on a face under a set of weights. -/
def rateFits (w : Word) (rate : Nat) : Bool := decide (rate * weightSum w ≤ 256 * getBits w 39 32)

/-- R317, R318: why this router refuses a setup, if it does: the CAUSE. -/
def setupRefusal (d : Dev) (p : Packet) (nextOwn : Bool) : Option Nat :=
  if d.fab.circuits.any fun c => decide (c.owner = p.src) && decide (c.id = p.transit) then some 5
  else if 4096 ≤ d.fab.circuits.length then some 1
  else match d.transitStep p.dst (p.addr / 2 ^ 8 % 8) with
    | none => none
    | some (k, dir) =>
      let (f, _, wraps) := d.stepIn k dir p none
      if wraps && !d.wrapBit d.bank k then some 4
      else if !d.faceUp f then some 7
      else if !rateFits (d.reg ⟨.XFB_VC_WEIGHT, 0, 0, 0⟩) (d.admitted f + p.addr % 256) then some 2
      else if !nextOwn then some 3
      else none

/-- R318, R319, R323: the owner's entry is freed and a TRANSIT_TEAR goes out along the path. -/
def transitTearOut (d : Dev) (n : Nat) : Dev :=
  let id := d.gf F.XFB_TRANSIT_n_PATH.ID 0 n
  let dst := d.gf F.XFB_TRANSIT_n_PATH.DEST 0 n
  let w := d.gf F.XFB_TRANSIT_n_PATH.RATE 0 n + d.gf F.XFB_TRANSIT_n_PATH.DIR_X 0 n * 2 ^ 8
    + d.gf F.XFB_TRANSIT_n_PATH.DIR_Y 0 n * 2 ^ 9 + d.gf F.XFB_TRANSIT_n_PATH.DIR_Z 0 n * 2 ^ 10
  match d.fab.circuits.find? fun c => decide (c.owner = d.self) && decide (c.id = id) with
  | some c =>
    let d := d.setCircuits (d.fab.circuits.erase c)
    if c.face = 6 || !d.faceUp c.face then d else d.putFace c.face (d.stamp (d.transitPacket PT.transitTear dst d.self id w))
  | none => d

/-- R317, R318: a slot is refused where nothing of its path has been installed. -/
def slotRefused (d : Dev) (n cause code : Nat) : Dev :=
  let d := (d.sf F.XFB_TRANSIT_n_STAT.STATE 5 0 n).sf F.XFB_TRANSIT_n_STAT.CAUSE cause 0 n
  (d.sf F.XFB_TRANSIT_n_STAT.CODE code 0 n).logXfb code 0 n (d.gf F.XFB_TRANSIT_n_PATH.DEST 0 n) 0

/-- R318, R319: the owner's slot is refused; the path is torn down. -/
def transitRefused (d : Dev) (n cause code : Nat) : Dev := (d.slotRefused n cause code).transitTearOut n

/-- R318: the outcome of a setup reaches the owner; R323: the answer to a TRANSIT_TEAR frees the slot. -/
def transitReply (d : Dev) (p : Packet) : Dev :=
  match d.ownTransit p.transit with
  | none => d
  | some n =>
    let st := d.gf F.XFB_TRANSIT_n_STAT.STATE 0 n
    if st = 1 then
      if p.code = 0 then (d.sf F.XFB_TRANSIT_n_STAT.STATE 2 0 n).sf F.XFB_TRANSIT_n_STAT.CODE 0 0 n
      else d.transitRefused n (p.addr % 256) p.code
    else if st = 4 then d.sf F.XFB_TRANSIT_n_STAT.STATE 0 0 n
    else d

/-- R318: a router takes a TRANSIT_SETUP: it admits the Transit and passes it on, or refuses it; the end answers.
Where the owner's own router refuses, nothing has been installed. -/
def transitSetup (d : Dev) (from_ : Option Nat) (p : Packet) (nextOwn : Bool) : Dev :=
  let reply (d : Dev) (code cause : Nat) : Packet :=
    { d.transitPacket PT.transitReply p.src d.self p.transit (cause + d.self * 2 ^ 8) with code := code }
  let dirs := p.addr / 2 ^ 8 % 8
  let entry (f : Nat) : Circuit :=
    { owner := p.src, id := p.transit, rate := p.addr % 256, face := f, from_ := from_, dst := p.dst, dirs := dirs }
  match d.setupRefusal p nextOwn with
  | some cause =>
    let d := d.bump F.XFB_CIRCUIT_STAT.REFUSED F.XFB_CIRCUIT_STAT.REFUSED_SAT 1
    if p.src = d.self then
      match d.ownTransit p.transit with
      | some n => d.slotRefused n cause Code.XFB_TRANSIT_REFUSED
      | none => d
    else
      let d := d.logXfb Code.XFB_TRANSIT_REFUSED (from_.getD 0) 0 p.src 0
      d.send (reply d Code.XFB_TRANSIT_REFUSED cause)
  | none =>
    match d.transitStep p.dst dirs with
    | none =>
      let d := d.setCircuits (d.fab.circuits ++ [entry 6])
      if p.src = d.self then d.transitReply (reply d 0 0) else d.send (reply d 0 0)
    | some (k, dir) =>
      let (f, q, _) := d.stepIn k dir p from_
      (d.setCircuits (d.fab.circuits ++ [entry f])).putFace f { q with hops := p.hops + 1 }

/-- The hops of a path in the directions of the DIR bits (XFB_TRANSIT_n_STAT HOPS). -/
def transitHops (d : Dev) (dst dirs : Nat) : Nat :=
  ((List.range 3).map fun k =>
    let n := d.dim k
    let c := coordOf d.self k
    let t := coordOf dst k
    if bitOf dirs k then (c + n - t) % n else (t + n - c) % n).sum

/-- R317, R318: SETUP of a slot, on a free one. An ID of 0, one in use by another slot, or a device outside the torus
is refused by the owner's own router. `nextOwn` says whether the next device lies in this device's partition, which no
state of this module tells. -/
def transitSetupReq (d : Dev) (n : Nat) (nextOwn : Bool) : Dev :=
  if d.gf F.XFB_TRANSIT_n_STAT.STATE 0 n ≠ 0 then d
  else
    let id := d.gf F.XFB_TRANSIT_n_PATH.ID 0 n
    let dst := d.gf F.XFB_TRANSIT_n_PATH.DEST 0 n
    let dirs := d.gf F.XFB_TRANSIT_n_PATH.DIR_X 0 n + 2 * d.gf F.XFB_TRANSIT_n_PATH.DIR_Y 0 n
      + 4 * d.gf F.XFB_TRANSIT_n_PATH.DIR_Z 0 n
    let used := (d.ownTransit id).isSome
    let d := (d.setReg ⟨.XFB_TRANSIT_n_STAT, 0, n, 0⟩ 0).setReg ⟨.XFB_TRANSIT_n_CNT, 0, n, 0⟩ 0
    let d := (d.sf F.XFB_TRANSIT_n_STAT.STATE 1 0 n).sf F.XFB_TRANSIT_n_STAT.HOPS (d.transitHops dst dirs) 0 n
    if used || decide (id = 0) then d.slotRefused n 5 Code.XFB_TRANSIT_REFUSED
    else if !d.coordsValid || !d.inTorus dst then d.slotRefused n 7 Code.XFB_TRANSIT_REFUSED
    else d.transitSetup none
      (d.stamp (d.transitPacket PT.transitSetup dst d.self id (d.gf F.XFB_TRANSIT_n_PATH.RATE 0 n + dirs * 2 ^ 8))) nextOwn

/-- R323: TEARDOWN of a slot. -/
def transitTeardown (d : Dev) (n : Nat) : Dev :=
  let st := d.gf F.XFB_TRANSIT_n_STAT.STATE 0 n
  if st = 2 then d.sf F.XFB_TRANSIT_n_STAT.STATE 4 0 n
  else if st = 3 ∨ st = 5 then d.sf F.XFB_TRANSIT_n_STAT.STATE 0 0 n
  else d

/-- R323: every packet sent on the Transit has been acknowledged. A path that ends at this device frees at once. -/
def transitTearReady (d : Dev) (n : Nat) : Dev :=
  let id := d.gf F.XFB_TRANSIT_n_PATH.ID 0 n
  if d.gf F.XFB_TRANSIT_n_STAT.STATE 0 n ≠ 4
      || d.reqs.any (fun r => decide (r.pkt.route = 2) && decide (r.pkt.transit = id)) then d
  else
    let d := d.transitTearOut n
    if d.gf F.XFB_TRANSIT_n_PATH.DEST 0 n = d.self then d.sf F.XFB_TRANSIT_n_STAT.STATE 0 0 n else d

/-- R318, R322: a TRANSIT_TEAR frees the entry and goes on along the path; the end answers the owner. After a break the
sender is the router behind it, and the entry is the one that comes in by the same face. -/
def transitTear (d : Dev) (from_ : Option Nat) (p : Packet) : Dev :=
  match d.fab.circuits.find? fun c =>
      decide (c.id = p.transit) && (decide (c.owner = p.src) || (from_.isSome && decide (c.from_ = from_))) with
  | some c =>
    let d := d.setCircuits (d.fab.circuits.erase c)
    if c.face = 6 then
      if c.owner = p.src then d.send (d.transitPacket PT.transitReply p.src d.self p.transit (d.self * 2 ^ 8)) else d
    else if d.faceUp c.face then d.putFace c.face { p with esc := true, hops := p.hops + 1 }
    else d
  | none => d

/-- R322: the owner learns of a break: the slot is broken and the path is torn down to it. -/
def transitBroken (d : Dev) (id : Nat) : Dev :=
  match d.ownTransit id with
  | some n =>
    if d.gf F.XFB_TRANSIT_n_STAT.STATE 0 n = 2 ∨ d.gf F.XFB_TRANSIT_n_STAT.STATE 0 n = 4 then
      let d := (d.sf F.XFB_TRANSIT_n_STAT.STATE 3 0 n).sf F.XFB_TRANSIT_n_STAT.CODE Code.XFB_TRANSIT_BROKEN 0 n
      ((d.logXfb Code.XFB_TRANSIT_BROKEN 0 n (d.gf F.XFB_TRANSIT_n_PATH.DEST 0 n) 0).raise 577).transitTearOut n
    else d
  | none => d

/-- R322: a face on Transits' paths is down: the router before the break tells the owners, and the router behind it
tears the rest down. -/
def breakTransits (d : Dev) (f : Nat) : Dev :=
  let l := d.fab.circuits
  let d := (l.filter fun c => decide (c.face = f)).foldl (fun d c =>
    if c.owner = d.self then d.transitBroken c.id
    else d.send (d.transitPacket PT.transitBroken c.owner d.self c.id (d.self + f * 2 ^ 18))) d
  (l.filter fun c => decide (c.from_ = some f)).foldl (fun d c =>
    let d := d.setCircuits (d.fab.circuits.erase c)
    if c.face = 6 || !d.faceUp c.face then d
    else d.putFace c.face (d.stamp (d.transitPacket PT.transitTear c.dst d.self c.id (c.rate + c.dirs * 2 ^ 8)))) d

/-- R308, R322: what waits to cross a face that has gone down: a Transit's packets are discarded, the others wait in the
router's buffers again, and packets of the router's own are lost. -/
def pullBack (d : Dev) (f : Nat) : Dev :=
  let back := (d.fab.out.filter fun q => decide (q.face = f) && !(decide (q.pkt.route = 2) && decide (q.pkt.vc = 4))).filterMap
    fun q => q.was.map fun b => { b with pkt := { b.pkt with ce := q.pkt.ce } }
  { d with fab := { d.fab with
    out := d.fab.out.filter fun q => decide (q.face ≠ f)
    stream := NMap.set [] d.fab.stream f []
    parts := NMap.set [] d.fab.parts f []
    router := d.fab.router ++ back } }

/-- R308: a face goes down. -/
def faceFall (d : Dev) (f : Nat) : Dev :=
  if d.faceUp f then
    ((((d.sf F.XFB_FACE_f_STAT.UP 0 0 f).logXfb Code.XFB_FACE_DOWN f 0 0 0).raise 576).pullBack f).breakTransits f
  else d

/-- R285, R308, R324: ports of a face in service; with none it goes down. -/
def portsChanged (d : Dev) (f n : Nat) : Dev :=
  let old := d.gf F.XFB_FACE_f_STAT.PORTS_UP 0 f
  let d := d.sf F.XFB_FACE_f_STAT.PORTS_UP n 0 f
  if n = 0 then d.faceFall f
  else if n < old ∧ d.fab.circuits.any fun c => decide (c.face = f) then d.logXfb Code.XFB_FACE_DEGRADED f 0 0 n
  else d

/-! ### Faces and discovery -/

/-- R288, R297: a DISCOVER sent from a face. -/
def discover (d : Dev) (f : Nat) : Dev :=
  let v := d.coordsValid
  let flags := (if v then 1 else 0) + (if d.on F.XFB_ANCHOR.ANCHOR then 2 else 0)
    + (if d.gf F.XFB_COORD.SOURCE = 3 then 4 else 0)
  d.putFace f
    (d.stamp { d.packet PT.discover 0 0 with
      length := 64
      payload := leBytes 16 Config.moduleSerial.toNat ++ leBytes 1 f ++ leBytes 1 flags ++ leBytes 2 0 ++ leBytes 4 (if v then d.self else 0)
        ++ leBytes 4 (if v then bitsOf (d.reg ⟨.XFB_DIMS, 0, 0, 0⟩).toNat 17 0 else 0) ++ List.replicate 36 0 })

/-- R288: a DISCOVER from every face in service. -/
def discoverAll (d : Dev) : Dev := (List.range 6).foldl (fun d f => if d.faceUp f then d.discover f else d) d

/-- R338: XFB_PART of both banks at its Reset column. -/
def resetParts (d : Dev) : Dev :=
  (List.range 2).foldl (fun d b => let k : RegKey := ⟨.XFB_PART_b, 0, b, 0⟩; d.setReg k k.reset) d

/-- R284: the faces of a dimension of size 1 go down. -/
def dropFlat (d : Dev) : Dev :=
  (List.range 6).foldl (fun d f => if d.on F.XFB_DIMS.VALID && decide (d.dim (f / 2) = 1) then d.faceFall f else d) d

/-- The coordinates and dimensions set (R287, R289, R292); R302: both banks are filled. R338: banks and XFB_PART
retained through a warm start or a wake stay when the index and the dimensions are those retained with them; else
XFB_PART returns to its Reset column (DESIGN CHOICE, log entry 28). -/
def setCoords (d : Dev) (index dims source : Nat) : Dev :=
  let d := (d.sf F.XFB_COORD.INDEX index).sf F.XFB_COORD.SOURCE source
  let d := (d.sf F.XFB_COORD.VALID 1).sf F.XFB_DIMS.VALID 1
  let key : RegKey := ⟨.XFB_DIMS, 0, 0, 0⟩
  let d := d.setReg key (setBits (d.reg key) 17 0 dims)
  let same := decide (d.fab.kept = some (index, dims)) && decide (source ≠ 3)
  let lost := d.fab.kept.isSome && !same
  let d := { d with fab := { d.fab with kept := none } }
  let d := if same then d else (if lost then d.resetParts else d).fillTables
  (if lost then d.logXfb Code.XFB_TABLES_REBUILT 0 0 index 0 else d).dropFlat.discoverAll

/-- R284: the faces of a dimension of size 1 are held down. -/
def faceHeld (d : Dev) (f : Nat) : Bool :=
  d.on F.XFB_FACE_f_STAT.WIRING_ERR 0 f || d.on F.XFB_FACE_f_STAT.OCCULTED 0 f || d.sdieDown
    || (d.on F.XFB_DIMS.VALID && decide (d.dim (f / 2) = 1))

/-- R288: a face comes up. -/
def faceRise (d : Dev) (f : Nat) : Dev :=
  if d.faceUp f || d.faceHeld f || decide (d.gf F.XFB_FACE_f_STAT.PORTS_UP 0 f = 0) then d
  else (((d.sf F.XFB_FACE_f_STAT.UP 1 0 f).logXfb Code.XFB_FACE_UP f 0 0 0).raise 576).discover f |>.reroute

/-- R289: the coordinates that a DISCOVER on face f implies: the sender's, moved one step opposite to the direction of
the face. -/
def implied (f index dims : Nat) : Nat :=
  let k := f / 2
  let n := bitsOf dims (6 * k + 5) (6 * k) + 1
  let c := coordOf index k
  withCoord index k (if f % 2 = 0 then (c + n - 1) % n else (c + 1) % n)

/-- R290: a failed check: the face is held down. -/
def wiringError (d : Dev) (f : Nat) : Dev :=
  ((d.sf F.XFB_FACE_f_STAT.WIRING_ERR 1 0 f).logXfb Code.XFB_WIRING_ERROR f 0 0 0).faceFall f

/-- R291, R302: the registers that coordinates taken from a neighbour set. -/
def tablesOf (n : RegName) : Bool := [.XFB_COORD, .XFB_DIMS, .XFB_ROUTE_b_d_h, .XFB_EXC_b_n].contains n

/-- R291: two different sets of coordinates within one interval: neither is taken. The coordinates and the tables are
as they were before the first, and neighbours hear of the change (R288). -/
def conflictAt (d : Dev) (f index : Nat) : Dev :=
  let regs := d.fab.undo.foldl (fun m e => FMap.set RegKey.lt e.1.reset m e.1 e.2)
    (d.regs.filter fun e => !tablesOf e.1.name)
  { d with regs := regs, fab := { d.fab with conflict := true, derived := none, undo := [] } }.logXfb
    Code.XFB_COORD_CONFLICT f 0 index 0 |>.discoverAll

/-- R288 to R291, R297: a DISCOVER arrives on a face. -/
def discoverIn (d : Dev) (f : Nat) (p : Packet) : Dev :=
  let b := p.payload
  let get (lo n : Nat) : Nat := leNat ((b.drop lo).take n)
  let flags := get 17 1
  let index := get 20 4
  let dims := get 24 4
  if decide (p.type ≠ PT.discover) || !d.faceUp f then d
  else if decide (8 ≤ flags) || decide (get 18 2 ≠ 0) || decide (2 ^ 18 ≤ index) || decide (2 ^ 18 ≤ dims)
      || decide (get 28 36 ≠ 0) then d.dropPacket F.XFB_DROP_CNT.BAD Code.XFB_BAD_TYPE f p
  else if !bitOf flags 0 then d
  else
    let d := d.sf F.XFB_FACE_f_STAT.NEIGHBOUR index 0 f
    let me := implied f index dims
    let mine := bitsOf (d.reg ⟨.XFB_DIMS, 0, 0, 0⟩).toNat 17 0
    if d.fab.conflict then d
    else if !d.coordsValid then
      ({ d with fab := { d.fab with
        derived := some (d.chrono, me, dims), undo := d.regs.filter fun e => tablesOf e.1.name } }).setCoords me dims 2
    else
      let other := match d.fab.derived with
        | some (t, i, n) => decide (d.gf F.XFB_COORD.SOURCE = 2) && decide (d.chrono < t + 100000)
            && decide ((i, n) ≠ (me, dims))
        | none => false
      if other then d.conflictAt f index
      else if get 16 1 = oppositeFace f ∧ dims = mine ∧ me = d.self then d
      else d.wiringError f

/-- R287: an anchor takes its coordinates at a start. -/
def anchorStart (d : Dev) : Dev :=
  if d.on F.XFB_ANCHOR.ANCHOR then d.setCoords (d.gf F.XFB_ANCHOR.INDEX) (d.gf F.XFB_ANCHOR.DIMS_M1) 1 else d

/-- R292: the S-die accepts an override, and its release, now. -/
def mayOverride (d : Dev) : Bool := !d.coordsValid || d.on F.XFB_TABLE_STAT.DRAINED

/-- R292: REQ: the coordinates and dimensions written are taken with SOURCE override. -/
def overrideReq (d : Dev) (v : Word) : Dev :=
  if !d.mayOverride then d.logXfb Code.XFB_OVERRIDE_REFUSED 0 0 d.self 0
  else
    ({ d with fab := { d.fab with conflict := false, derived := none } }.setCoords (getBits v 17 0) (getBits v 35 18) 3).logXfb
      Code.XFB_COORD_OVERRIDE 0 0 (getBits v 17 0) 0

/-- RELEASE: an override is dropped and the device rediscovers; accepted as REQ is. -/
def overrideRelease (d : Dev) : Dev :=
  if !d.mayOverride then d.logXfb Code.XFB_OVERRIDE_REFUSED 0 0 d.self 0
  else if d.gf F.XFB_COORD.SOURCE = 3 then
    let d := ((d.sf F.XFB_COORD.VALID 0).sf F.XFB_COORD.SOURCE 0).sf F.XFB_DIMS.VALID 0
    ({ d with fab := { d.fab with conflict := false, derived := none } }.anchorStart).discoverAll
  else d

/-- XFB_COORD_OVERRIDE written (R292, R652): a write whose action is refused is dropped; REQ acts before RELEASE, and
each is judged on the state that the one before it left. -/
def writeOverride (d : Dev) (v : Word) : Dev :=
  let req := decide (getBits v 63 63 = 1)
  let rel := decide (getBits v 62 62 = 1)
  let d := if (req || rel) && !d.mayOverride then d
    else (d.sf F.XFB_COORD_OVERRIDE.DIMS_M1 (getBits v 35 18)).sf F.XFB_COORD_OVERRIDE.INDEX (getBits v 17 0)
  let d := if req then d.overrideReq v else d
  if rel then d.overrideRelease else d

/-! ### Congestion and rates (R328 to R332) -/

def setRates (d : Dev) (l : List Rate) : Dev := { d with rates := l }.sf F.XFB_RATE_STAT.IN_USE l.length

/-- R330: an entry at a congestion signal. -/
def rateCut (d : Dev) (e : Rate) : Rate :=
  let g := d.gf F.XFB_RATE_CTRL.G_SHIFT
  let den := 2 ^ (e.alphaE + 1)
  { e with
    rt := e.rc, rc := max (d.gf F.XFB_RATE_CTRL.R_MIN) (e.rc * (den - e.alphaN) / den)
    alphaN := e.alphaN * (2 ^ g - 1) + 2 ^ e.alphaE, alphaE := e.alphaE + g, k := 0, lastDec := some d.chrono }

/-- R329: the entry that gives way: the highest R_C, and among equals the oldest. -/
def rateVictim (l : List Rate) : Option Rate :=
  let top := (l.map fun e => e.rc).foldl max 0
  l.find? fun e => decide (e.rc = top)

/-- R328 to R330: a congestion signal from a destination. -/
def congested (d : Dev) (dst : Nat) : Dev :=
  if !d.on F.XFB_RATE_CTRL.EN then d
  else match d.rates.find? fun e => decide (e.dst = dst) with
    | some e =>
      let ok := match e.lastDec with
        | some t => decide (t + 1000 * d.gf F.XFB_RATE_CTRL.T_DEC_US ≤ d.chrono)
        | none => true
      if ok then d.setRates (d.rates.map fun x => if x = e then d.rateCut e else x) else d
    | none =>
      let d := if d.rates.length < 256 then d
        else match rateVictim d.rates with
          | some v => ({ d with rates := d.rates.erase v }).bump F.XFB_RATE_STAT.EVICTED F.XFB_RATE_STAT.EVICTED_SAT 1
          | none => d
      d.setRates (d.rates ++ [d.rateCut { dst := dst }])

/-- R328: what a reply or an acknowledgement says of congestion. -/
def congestionOf (d : Dev) (p : Packet) : Dev := if p.ece || (decide (p.vc = 3) && p.ce) then d.congested p.src else d

/-- R331: T_DEC_US without a decrease. -/
def rateDecay (d : Dev) (dst : Nat) : Dev :=
  let g := d.gf F.XFB_RATE_CTRL.G_SHIFT
  d.setRates (d.rates.map fun e =>
    if e.dst = dst then { e with alphaN := e.alphaN * (2 ^ g - 1), alphaE := e.alphaE + g } else e)

/-- R331: T_INC_US without a decrease. -/
def rateRise (d : Dev) (dst : Nat) : Dev :=
  d.setRates ((d.rates.map fun e =>
    if e.dst = dst then
      let k := e.k + 1
      let rt := if k ≤ d.gf F.XFB_RATE_CTRL.FAST_STEPS then e.rt else min 1024 (e.rt + d.gf F.XFB_RATE_CTRL.R_AI)
      { e with k := k, rt := rt, rc := (rt + e.rc) / 2 }
    else e).filter fun e => !(decide (e.dst = dst) && decide (e.rc = 1024) && decide (e.rt = 1024)))

/-- R332: a packet that pacing governs. -/
def paced (p : Packet) : Bool := [2, 6].contains p.vc && decide (p.route ≠ 2)

/-- R332: whether a rate entry lets a packet go at a time: the flits of the last 4 µs come to no more than R_C × 4 µs,
where a unit of R_C is 109.375 flits in 4 µs. -/
def rateAllows (now : Nat) (e : Rate) : Bool :=
  decide (8 * ((e.recent.filter fun x => decide (now < x.1 + 4000)).map Prod.snd).sum ≤ 875 * e.rc)

/-- R332: flits let go to a destination are counted in its entry. -/
def countPaced (d : Dev) (p : Packet) : Dev :=
  if paced p then
    { d with rates := d.rates.map fun e =>
        if e.dst = p.dst then
          { e with recent := (e.recent.filter fun x => decide (d.chrono < x.1 + 4000)) ++ [(d.chrono, p.flits)] }
        else e }
  else d

/-- R295, R332: a packet held at injection is released: it is stamped and enters the router. -/
def releaseHeld (d : Dev) (p : Packet) : Dev :=
  let q := if p.type = PT.query then p else d.stamp p
  let d := { d with held := d.held.erase p, injected := d.injected ++ [q] }.countPaced p
  { d with reqs := d.reqs.map fun r =>
      if r.pkt = p then { r with pkt := q, firstIssue := some (r.firstIssue.getD d.chrono) } else r }

/-- R332: a held packet goes once the rate of its destination allows it; DRAIN still holds its VCs. -/
def pacedRelease (d : Dev) (p : Packet) : Dev :=
  if d.held.contains p && !(d.on F.XFB_TABLE_CTRL.DRAIN && heldVc p.vc)
      && !(paced p && d.rates.any fun e => decide (e.dst = p.dst) && !rateAllows d.chrono e) then d.releaseHeld p
  else d

/-! ### Table changes (R333 to R339) -/

/-- R333: DRAIN. -/
def drain (d : Dev) : Dev :=
  if d.on F.XFB_TABLE_CTRL.DRAIN then d
  else
    let d := { d with fab := { d.fab with drainStart := d.chrono } }.sf F.XFB_TABLE_CTRL.DRAIN 1
    (d.sf F.XFB_TABLE_STAT.DRAINING 1).sf F.XFB_TABLE_STAT.DRAINED 0

/-- R334: no packet of a held VC is in the buffers and every credit has returned. -/
def drained (d : Dev) : Dev :=
  if d.on F.XFB_TABLE_CTRL.DRAIN && !d.on F.XFB_TABLE_STAT.DRAINED
      && !(d.fab.router.any fun b => heldVc b.pkt.vc) && !(d.fab.out.any fun q => heldVc q.pkt.vc)
      && !(d.injected.any fun p => heldVc p.vc) then
    (d.sf F.XFB_TABLE_STAT.DRAINED 1).sf F.XFB_TABLE_STAT.DRAINING 0
  else d

/-- R335: SWAP. -/
def tableSwap (d : Dev) : Dev :=
  if d.on F.XFB_TABLE_STAT.DRAINED then
    ((d.sf F.XFB_TABLE_CTRL.ACTIVE (1 - d.bank)).logXfb Code.XFB_TABLE_SWAP 0 0 0 0).reroute
  else d.logXfb Code.XFB_SWAP_REFUSED 0 0 0 0

/-- R336: RESUME. -/
def tableResume (d : Dev) : Dev :=
  if !d.on F.XFB_TABLE_CTRL.DRAIN then d
  else
    let us := satAt 0xFFFFFFFF ((d.chrono - d.fab.drainStart) / 1000)
    let d := (d.sf F.XFB_TABLE_CTRL.DRAIN 0).sf F.XFB_TABLE_STAT.DRAIN_US us
    let d := (d.sf F.XFB_TABLE_STAT.DRAINED 0).sf F.XFB_TABLE_STAT.DRAINING 0
    d.held.foldl (fun d p => if d.waitsAtInjection p then d else d.releaseHeld p) d

/-- XFB_TABLE_CTRL written: RESUME, SWAP and DRAIN in this order (R652). -/
def writeTableCtrl (d : Dev) (v : Word) : Dev :=
  let d := if getBits v 2 2 = 1 then d.tableResume else d
  let d := if getBits v 1 1 = 1 then d.tableSwap else d
  if getBits v 0 0 = 1 then d.drain else d

/-- R326: XFB_VC_WEIGHT written. -/
def writeWeights (d : Dev) (v : Word) : Dev :=
  let v := setBits v 7 0 (max 4 (getBits v 7 0))
  if (List.range 6).all fun f => decide (d.admitted f = 0) || rateFits v (d.admitted f) then
    d.setReg ⟨.XFB_VC_WEIGHT, 0, 0, 0⟩ v
  else d.logXfb Code.XFB_WEIGHT_REFUSED 0 0 0 0

/-- R339: a register of a route bank written: dropped for the active bank. -/
def writeBank (d : Dev) (k : RegKey) (v : Word) : Dev :=
  if k.i = d.bank then d.logXfb Code.XFB_SWAP_REFUSED 0 0 0 0
  else
    let v := match k.name with
      | .XFB_PART_b => if getBits v 11 0 = 0 then setBits v 11 0 1 else v
      | .XFB_EXC_b_n => if getBits v 62 60 = 6 then setBits v 62 60 7 else v
      | _ => v
    d.setReg k (writeFields k.name (fun _ => false) (d.reg k) v)

/-- R329: XFB_RATE_CTRL written: EN 0 frees every entry. -/
def writeRateCtrl (d : Dev) (v : Word) : Dev :=
  let g := getBits v 39 36
  let v := setBits v 39 36 (max 1 (min 10 g))
  let v := if getBits v 55 48 = 0 then setBits v 55 48 1 else v
  let v := if getBits v 47 40 = 0 then setBits v 47 40 1 else v
  let v := if getBits v 9 0 = 0 then setBits v 9 0 1 else v
  let k : RegKey := ⟨.XFB_RATE_CTRL, 0, 0, 0⟩
  let d := d.setReg k (writeFields k.name (fun _ => false) (d.reg k) v)
  if getBits v 63 63 = 0 then d.setRates [] else d

/-- R340: the path of a slot written while it is free. -/
def writeTransitPath (d : Dev) (n : Nat) (v : Word) : Dev :=
  if d.gf F.XFB_TRANSIT_n_STAT.STATE 0 n = 0 then
    let k : RegKey := ⟨.XFB_TRANSIT_n_PATH, 0, n, 0⟩
    d.setReg k (writeFields k.name (fun _ => false) (d.reg k) v)
  else d

/-- XFB_TRANSIT_n_CTRL written: TEARDOWN, then SETUP (R652). A write that no row makes leaves it free whether the next
device lies in the owner's partition (R318, log entry 29). -/
def writeTransitCtrl (d : Dev) (n : Nat) (v : Word) : Dev :=
  let d := if getBits v 1 1 = 1 then d.transitTeardown n else d
  if getBits v 0 0 = 1 then d.draw.transitSetupReq n (Config.freeBit d.freeIx) else d

/-- R319: a setup without a reply. -/
def setupTimeout (d : Dev) (n : Nat) : Dev :=
  if d.gf F.XFB_TRANSIT_n_STAT.STATE 0 n = 1 then d.transitRefused n 6 Code.XFB_TRANSIT_REFUSED else d

end Dev

/-! ### The commands -/

def execPacketRoute (face : Option (Fin 6)) (p : Packet) (free : List Nat) (draw : Bool) (s : State) :
    Host.Outcome State Fault Refusal :=
  s.upd fun d => d.packetRoute (face.map fun f => f.val) p free draw

def execAdaptiveEscape (p : Packet) (s : State) : Host.Outcome State Fault Refusal := s.upd fun d => d.escape p

def execFaceUp (face : Fin 6) (s : State) : Host.Outcome State Fault Refusal := s.upd fun d => d.faceRise face

def execFaceDown (face : Fin 6) (s : State) : Host.Outcome State Fault Refusal :=
  s.upd fun d => if d.gf F.XFB_FACE_f_STAT.PORTS_UP 0 face = 0 || d.faceHeld face then d.faceFall face else d

def execFaceHoldExpiry (p : Packet) (s : State) : Host.Outcome State Fault Refusal := s.upd fun d => d.holdExpiry p

def execVc0Stuck (p : Packet) (s : State) : Host.Outcome State Fault Refusal := s.upd fun d => d.vc0Stuck p

def execDiscover (face : Fin 6) (p : Packet) (s : State) : Host.Outcome State Fault Refusal :=
  s.upd fun d => (d.consume p).discoverIn face p

def execTransitTearReady (slot : Fin 256) (s : State) : Host.Outcome State Fault Refusal :=
  s.upd fun d => d.transitTearReady slot

/-- The outgoing path of a router: `nextOwn` says whether the next device lies in the owner's partition, which no
state of this module tells (R318). -/
def execTransitSetup (face : Fin 6) (p : Packet) (nextOwn : Bool) (s : State) : Host.Outcome State Fault Refusal :=
  s.upd fun d => if p.type = PT.transitSetup then (d.consume p).transitSetup (some face.val) p nextOwn else d

def execTransitReply (p : Packet) (s : State) : Host.Outcome State Fault Refusal :=
  s.upd fun d => if p.type = PT.transitReply ∧ p.dst = d.self then (d.consume p).transitReply p else d

def execTransitTear (face : Fin 6) (p : Packet) (s : State) : Host.Outcome State Fault Refusal :=
  s.upd fun d => if p.type = PT.transitTear then (d.consume p).transitTear (some face.val) p else d

def execTransitBroken (p : Packet) (s : State) : Host.Outcome State Fault Refusal :=
  s.upd fun d => if p.type = PT.transitBroken ∧ p.dst = d.self then (d.consume p).transitBroken p.transit else d

def execTransitSetupTimeout (slot : Fin 256) (s : State) : Host.Outcome State Fault Refusal :=
  s.upd fun d => d.setupTimeout slot

def execDrained (s : State) : Host.Outcome State Fault Refusal := s.upd fun d => d.drained

def execRateAlphaDecay (dst : Nat) (s : State) : Host.Outcome State Fault Refusal := s.upd fun d => d.rateDecay dst

def execRateIncrease (dst : Nat) (s : State) : Host.Outcome State Fault Refusal := s.upd fun d => d.rateRise dst

def execPacedInjection (p : Packet) (s : State) : Host.Outcome State Fault Refusal := s.upd fun d => d.pacedRelease p

end Sys2Proof.Machine
end

