-- ==== Sys2Proof/Machine/Opt.lean ====
section
/-! DEFINITION. The optical ports (chapter 09): bring-up (R350 to R353), groups and replay (R345 to R349), the monitors,
the Heliostat and the Seeing monitor (R354 to R358, R362), and the hitless swap (R363 to R367). -/

namespace Sys2Proof.Machine

open Sys2Proof

/-- Ports that exist: 0-7 of every P-die, and 8 and 9 of P0. -/
def portExists (p n : Nat) : Bool := decide (p < 6) && (decide (n < 8) || (decide (p = 0) && decide (n < 10)))

/-- R627: the health index of a port. -/
def portUnit (p n : Nat) : Nat := if n < 8 then 1344 + 8 * p + n else 1384 + n

/-- Two's complement on 16 bits. -/
def w16 (z : Int) : Nat := wrapInt 16 z

/-- The larger `big` / `small` in 0.01 dB, rounded to the nearest: the number of m ≥ 1 with 10^(2m − 1) ≤ the
2000th power of the quotient. -/
def centibels : Nat → Nat → Nat → Nat
  | 0, _, _ => 0
  | fuel + 1, x, y => if y ≤ x then 1 + centibels fuel x (100 * y) else 0

/-- 1000 × log10 (a / b), rounded to the nearest, of positive numbers (R357). -/
def logRatio (a b : Nat) : Int :=
  if b ≤ a then (centibels 32767 (a ^ 2000) (10 * b ^ 2000) : Nat)
  else -((centibels 32767 (b ^ 2000) (10 * a ^ 2000) : Nat) : Int)

/-- STATE of OPT_PORT_n_STAT. -/
def OptStep.code : OptStep → Nat
  | .dark => 0 | .calibrate => 1 | .light | .lock | .align | .exchange | .qualify => 2 | .up => 3 | .keepAlive => 4
  | .heldDown => 5 | .failed => 6 | .apr => 7

namespace Dev

def port (d : Dev) (p n : Nat) : OptPort := NMap.get {} d.ports (16 * p + n)

def setPort (d : Dev) (p n : Nat) (x : OptPort) : Dev := { d with ports := NMap.set {} d.ports (16 * p + n) x }

def modPort (d : Dev) (p n : Nat) (f : OptPort → OptPort) : Dev := d.setPort p n (f (d.port p n))

/-- HLK_STAT STATE of a link that is not in service: down while DOWN holds it, hello once a host port is in service, and
training while one comes up. -/
def hostState (d : Dev) : Nat :=
  let st (n : Nat) : OptStep := (d.port 0 n).step
  if d.on F.HLK_CTRL.DOWN || d.on F.DLK_DIE_k_INV.OCCULTED 0 (dieP 0) then 0
  else if d.gf F.HLK_STAT.PORTS_UP ≠ 0 then 2
  else if [8, 9].any fun n => !([OptStep.dark, .heldDown, .failed, .apr].contains (st n)) then 1
  else 0

/-- R477: the Perdun link follows its host ports, 8 and 9 of P0: at the first one in service the AK20 sends its HELLO.
-/
def noteHost (d : Dev) : Dev :=
  let up (n : Nat) : Nat := if [OptStep.up, OptStep.keepAlive].contains (d.port 0 n).step then 1 else 0
  let d := d.sf F.HLK_STAT.PORTS_UP (up 8 + 2 * up 9)
  if d.hlkUp then d
  else
    let was := d.gf F.HLK_STAT.STATE
    let d := d.sf F.HLK_STAT.STATE d.hostState
    if was ≠ 2 ∧ d.gf F.HLK_STAT.STATE = 2 then d.sendHello else d

/-- R350, R370: a port exchanges groups: it is in service, or it is host port 8 in keep-alive. -/
def portRuns (d : Dev) (p n : Nat) : Bool := [OptStep.up, OptStep.keepAlive].contains (d.port p n).step

/-- A step of R350, with the STATE that it shows. -/
def portStep (d : Dev) (p n : Nat) (st : OptStep) : Dev :=
  let d := (d.modPort p n fun x => { x with step := st }).sf F.OPT_PORT_n_STAT.STATE st.code p n
  if p = 0 ∧ 8 ≤ n then d.noteHost else d

/-- R377, R613: an optics code written with its port, channel and stage. -/
def logOpt (d : Dev) (code p n ch stage d1 : Nat) : Dev :=
  (d.sf F.OPT_PORT_n_STAT.LAST_CODE code p n).logAt code (dieP p) (portUnit p n) (n + ch * 16 + stage * 512) d1

/-- R499: interrupt source 640 + 8p + e. -/
def raiseOpt (d : Dev) (p e : Nat) : Dev := d.raise (640 + 8 * p + e)

/-- The channel of a lane in the transmit or receive map. -/
def laneCh (d : Dev) (p n : Nat) (tx : Bool) (l : Nat) : Nat :=
  getBits (d.reg ⟨.OPT_PORT_n_MAP_k, p, n, (if tx then 0 else 2) + l / 12⟩) (5 * (l % 12) + 4) (5 * (l % 12))

def setLaneCh (d : Dev) (p n : Nat) (tx : Bool) (l c : Nat) : Dev :=
  let k : RegKey := ⟨.OPT_PORT_n_MAP_k, p, n, (if tx then 0 else 2) + l / 12⟩
  d.setReg k (setBits (d.reg k) (5 * (l % 12) + 4) (5 * (l % 12)) c)

/-- The channels of a direction's map, by lane. -/
def laneMap (d : Dev) (p n : Nat) (tx : Bool) : List Nat := (List.range 16).map (d.laneCh p n tx)

/-- The lane that a channel carries. -/
def laneOf (d : Dev) (p n : Nat) (tx : Bool) (c : Nat) : Option Nat := lowestBelow (fun l => decide (d.laneCh p n tx l = c)) 16

def laserSt (d : Dev) (p n c : Nat) : Nat := d.gf F.OPT_PORT_n_CH_c_LASER.STATE p n c

def setLaser (d : Dev) (p n c st : Nat) : Dev := d.sf F.OPT_PORT_n_CH_c_LASER.STATE st p n c

/-- TX_SPARES and RX_SPARES: the two spares less the channels that are lost to the direction. -/
def countSpares (d : Dev) (p n : Nat) : Dev :=
  let x := d.port p n
  let tx := ((List.range 18).filter fun c => decide (3 ≤ d.laserSt p n c) || x.farDead.contains c).length
  let rx := ((List.range 18).filter fun c => x.rxDead.contains c || x.rxRetired.contains c).length
  (d.sf F.OPT_PORT_n_STAT.TX_SPARES (2 - tx) p n).sf F.OPT_PORT_n_STAT.RX_SPARES (2 - rx) p n

/-- Lasers turned on, and turned off: a dark laser's bias is 0. -/
def lightOn (d : Dev) (p n : Nat) (cs : List Nat) : Dev :=
  d.modPort p n fun x => { x with lit := x.lit ++ cs.filter fun c => !x.lit.contains c }

def lightOff (d : Dev) (p n : Nat) (cs : List Nat) : Dev :=
  let d := d.modPort p n fun x => { x with lit := x.lit.filter fun c => !cs.contains c }
  cs.foldl (fun d c => d.sf F.OPT_PORT_n_CH_c_LASER.BIAS 0 p n c) d

/-- A command or a message goes to the far end: it waits for the next group (R346). -/
def optSend (d : Dev) (p n : Nat) (m : OptMsg) : Dev :=
  d.modPort p n fun x => { x with msgs := x.msgs ++ [m], mail := x.mail ++ [m] }

/-- R346: a swap command, with the map epoch it goes with: CMD switch carries MAP_EPOCH + 1 (R364). -/
def sendCmd (d : Dev) (p n : Nat) (c : SwapCmd) (w : OptSwap) : Dev :=
  let e := d.gf F.OPT_PORT_n_STAT.MAP_EPOCH p n
  d.optSend p n (.cmd c w.lane w.spare (if c = .switch then (e + 1) % 16 else e))

/-- R369, R370: in P2 a face port runs lane 0 alone, and in P3 host port 8. -/
def oneLane (d : Dev) (n : Nat) : Bool :=
  (decide (n < 8) && decide (d.gf F.PWR_STAT.STATE = 2)) || (decide (n = 8) && decide (d.gf F.PWR_STAT.STATE = 3))

/-- PORTS_UP of the P-die, and of the face for the S-die (R350, R285). -/
def setPortUp (d : Dev) (p n : Nat) (b : Bool) : Dev :=
  let k : RegKey := ⟨.OPT_FACE_STAT, p, 0, 0⟩
  let d := d.setReg k (setBits (d.reg k) (32 + n) (32 + n) (if b then 1 else 0))
  if n < 8 then d.portsChanged p (popCount 8 (d.gf F.OPT_FACE_STAT.PORTS_UP p)) else d

/-- APR of OPT_FACE_STAT: some port is in automatic power reduction. -/
def noteApr (d : Dev) (p : Nat) : Dev :=
  d.sf F.OPT_FACE_STAT.APR (if (List.range 10).any fun n => decide ((d.port p n).step = .apr) then 1 else 0) p

/-! ### Swaps -/

/-- R364: the lowest-numbered spare channel that is idle at this end and sound at the far receiver. -/
def spareOf (d : Dev) (p n : Nat) : Option Nat :=
  lowestBelow (fun c => !(d.laneMap p n true).contains c && decide (d.laserSt p n c ≤ 1)
    && !(d.port p n).farDead.contains c) 18

def headSwap (d : Dev) (p n : Nat) : Option OptSwap := (d.port p n).swaps.head?

def setHeadSwap (d : Dev) (p n : Nat) (w : OptSwap) : Dev :=
  (d.modPort p n fun x => { x with swaps := w :: x.swaps.drop 1 }).sf F.OPT_PORT_n_STAT.SWAP w.phase p n

def endSwap (d : Dev) (p n : Nat) : Dev :=
  (d.modPort p n fun x => { x with swaps := x.swaps.drop 1 }).sf F.OPT_PORT_n_STAT.SWAP 0 p n

/-- R363, R366: a swap started: it waits for the swaps of the same direction before it. -/
def queueSwap (d : Dev) (p n lane : Nat) (recal : Bool) : Dev :=
  d.modPort p n fun x => { x with swaps := x.swaps ++ [{ lane := lane, recal := recal }] }

/-- No usable spare: OPT_SPARE_EXHAUSTED (R367, R376). -/
def exhausted (d : Dev) (p n ch : Nat) : Dev := (d.logOpt Code.OPT_SPARE_EXHAUSTED p n ch 0 0).raiseOpt p 3

/-- R364, R366: the Choose step of the swap at the head. -/
def chooseSpare (d : Dev) (p n : Nat) : Dev :=
  match d.headSwap p n with
  | none => d
  | some w =>
    match (if w.back then some w.spare else d.spareOf p n) with
    | none => (d.exhausted p n (d.laneCh p n true w.lane)).endSwap p n
    | some c =>
      let d := (d.setHeadSwap p n { w with phase := 1, old := d.laneCh p n true w.lane, spare := c }).lightOn p n [c]
      (d.setLaser p n c 2).sf F.OPT_PORT_n_STAT.SWAP_LANE w.lane p n

/-- R364: a queued swap begins on a port in service. -/
def startSwap (d : Dev) (p n : Nat) : Dev :=
  match d.headSwap p n with
  | some w => if w.phase = 0 ∧ (d.port p n).step = .up then d.chooseSpare p n else d
  | none => d

/-- R366: Light or Train has failed: the spare is marked failed and the swap is retried with the other one. -/
def spareFailed (d : Dev) (p n : Nat) (w : OptSwap) : Dev :=
  let d := ((d.setLaser p n w.spare 4).lightOff p n [w.spare]).logOpt Code.OPT_SPARE_FAILED p n w.spare 0 0
  let d := d.countSpares p n
  if w.back then d.endSwap p n else d.chooseSpare p n

/-- R364: the end of Light; R369: in the pass after P2 the lasers of lanes 1 to 15 are on, and a failure leaves it at
Light. -/
def swapLight (d : Dev) (p n : Nat) (ok : Bool) : Dev :=
  match d.headSwap p n with
  | some w =>
    if w.phase ≠ 1 then d
    else if ok then
      (if w.pass then d.lightOn p n ((d.laneMap p n true).drop 1) else d).setHeadSwap p n { w with phase := 2 }
    else if w.pass then d
    else d.spareFailed p n w
  | none => d

/-- R364: the end of Train; the pass after P2 goes on to Switch at once (R369). -/
def swapTrain (d : Dev) (p n : Nat) (ok : Bool) : Dev :=
  match d.headSwap p n with
  | some w =>
    if w.phase ≠ 2 then d
    else if w.pass then (if ok then d.setHeadSwap p n { w with phase := 4 } else d)
    else if ok then (d.setHeadSwap p n { w with phase := 3 }).sendCmd p n .mirror w
    else d.spareFailed p n w
  | none => d

def swapMirror (d : Dev) (p n : Nat) : Dev :=
  match d.headSwap p n with
  | some w => if w.phase = 3 then (d.setHeadSwap p n { w with phase := 4 }).sendCmd p n .switch w else d
  | none => d

/-- R364: the lane moves to the spare under the next MAP_EPOCH, and the old channel keeps mirroring; R369: the pass
after P2 ends with all lanes in service. A laser at its end of life keeps its STATE (R358). -/
def switchNow (d : Dev) (p n : Nat) : Dev :=
  match d.headSwap p n with
  | some w =>
    if w.phase ≠ 4 then d
    else if w.pass then (d.endSwap p n).sf F.OPT_PORT_n_STAT.LANES_UP 16 p n
    else
      let d := (d.setHeadSwap p n { w with phase := 5 }).setLaneCh p n true w.lane w.spare
      let d := d.sf F.OPT_PORT_n_STAT.MAP_EPOCH (d.gf F.OPT_PORT_n_STAT.MAP_EPOCH p n + 1) p n
      let d := if d.laserSt p n w.spare = 4 then d else d.setLaser p n w.spare 0
      if d.laserSt p n w.old = 4 then d else d.setLaser p n w.old 2
  | none => d

/-- R361, R365: what the calibration of a channel that a RECAL has freed finds takes its place in the port's
calibration. -/
def recalibrate (d : Dev) (p n ch : Nat) (c : ChanCal) : Dev :=
  d.modPort p n fun x => { x with cal := x.cal.map fun y => { y with chans := y.chans.set ch c } }

/-- R364, R365: the old laser turns off; its channel is retired, or, under RECAL, is calibrated (`cal` is what that
finds, none where it fails) and takes the lane back by a second swap, after which the spare is idle again. A laser at
its end of life stays failed (R358). -/
def swapRetire (d : Dev) (p n : Nat) (cal : Option ChanCal) : Dev :=
  match d.headSwap p n with
  | some w =>
    if w.phase ≠ 5 then d
    else
      let d := (d.lightOff p n [w.old]).endSwap p n
      let d := (d.logOpt Code.OPT_SPARE_SWAP p n w.spare 0 w.lane).raiseOpt p 1
      if d.laserSt p n w.old = 4 then d.countSpares p n
      else if w.back then (d.setLaser p n w.old 1).countSpares p n
      else if w.recal then
        match cal with
        | some c =>
          (d.recalibrate p n w.old c).modPort p n fun x =>
            { x with swaps := x.swaps ++ [{ w with back := true, phase := 0, spare := w.old }] }
        | none => ((d.setLaser p n w.old 4).logOpt Code.OPT_SPARE_FAILED p n w.old 0 0).countSpares p n
      else (d.setLaser p n w.old 3).countSpares p n
  | none => d

/-- R366: a swap that has not reached Switch is aborted; one that has completes first. The waiting ones end too, and a
channel that waited to take its lane back becomes idle (DESIGN CHOICE, log entry 34). -/
def abortSwaps (d : Dev) (p n : Nat) : Dev :=
  let idle (d : Dev) (c : Nat) : Dev := if d.laserSt p n c = 2 then d.setLaser p n c 1 else d
  let d := match d.headSwap p n with
    | some w =>
      if w.phase = 0 then d
      else if w.pass then (d.lightOff p n ((d.laneMap p n true).drop 1)).endSwap p n
      else if w.phase ≤ 3 then (((idle d w.spare).lightOff p n [w.spare]).sendCmd p n .abort w).endSwap p n
      else (if w.phase = 4 then d.switchNow p n else d).swapRetire p n none
    | none => d
  let d := (d.port p n).swaps.foldl (fun d w => if w.back then idle d w.spare else d) d
  (d.modPort p n fun x => { x with swaps := [] }).sf F.OPT_PORT_n_STAT.SWAP 0 p n

/-- The far end's swap commands (R364): mirror, switch and abort. The old receive channel is retired with its laser; one
that takes its lane back was being recalibrated (R365). -/
def swapCmd (d : Dev) (p n : Nat) (c : SwapCmd) (lane ch : Nat) : Dev :=
  match c with
  | .mirror => d.modPort p n fun x => { x with rxMirror := some (lane, ch), mirrorBad := true }
  | .abort => d.modPort p n fun x => { x with rxMirror := none }
  | .switch =>
    if (d.port p n).rxMirror ≠ some (lane, ch) then d
    else
      let old := d.laneCh p n false lane
      let back := (d.port p n).rxRetired.contains ch
      let d := (d.setLaneCh p n false lane ch).modPort p n fun x =>
        { x with rxMirror := none, rxRetired := if back then x.rxRetired.erase ch else x.rxRetired ++ [old] }
      (d.countSpares p n).optSend p n (.confirm lane ch)

/-! ### Leaving service and coming up -/

/-- A port leaves service: OPT_PORT_DOWN, interrupt 640 + 8p, swaps aborted (R366), and the flit stream cut (R349). -/
def portLeave (d : Dev) (p n : Nat) : Dev :=
  if !d.portRuns p n then d
  else
    let d := ((d.logOpt Code.OPT_PORT_DOWN p n 0 0 0).raiseOpt p 0).abortSwaps p n
    let d := d.modPort p n fun x =>
      { x with
        expect := none, waiting := false, resync := false, rx := x.rx ++ [.gap], rxMirror := none, unc := [], deg := [], errs := []
        buffer := [], again := [], mail := [] }
    let d := if n < 8 then d.faceTake p .gap else d
    ((d.sf F.OPT_PORT_n_STAT.LANES_UP 0 p n).portStep p n .dark).setPortUp p n false

/-- All lasers of a port off. -/
def portDark (d : Dev) (p n : Nat) : Dev := d.lightOff p n (List.range 18)

/-- R350: a port goes to Light when it is calibrated and DOWN does not hold it; power is reduced no more (R353). -/
def toLight (d : Dev) (p n : Nat) : Dev :=
  let d := d.modPort p n fun x => { x with reduced := false }
  if d.on F.OPT_PORT_n_CTRL.DOWN p n then d.portStep p n .heldDown
  else if (d.port p n).calOk then d.portStep p n .light else d.portStep p n .dark

/-- R352, R367: a transmit lane is moved to a spare outside a swap; without one the port stays down. -/
def replaceLane (d : Dev) (p n lane : Nat) : Dev :=
  let old := d.laneCh p n true lane
  let d := d.countSpares p n
  match d.spareOf p n with
  | none => (((d.portDark p n).portStep p n .failed).exhausted p n old)
  | some c =>
    let d := ((d.setLaneCh p n true lane c).setLaser p n c 0).lightOff p n [old]
    let d := d.sf F.OPT_PORT_n_STAT.MAP_EPOCH (d.gf F.OPT_PORT_n_STAT.MAP_EPOCH p n + 1) p n
    d.toLight p n

/-- R367: a lane has reached FAIL: the port leaves service at once and comes up again from Light on a spare. -/
def laneFail (d : Dev) (p n lane : Nat) (tx : Bool) (count : Nat) : Dev :=
  let ch := d.laneCh p n tx lane
  let d := (d.logOpt Code.OPT_LANE_FAIL p n ch 0 count).score (portUnit p n) 256 Code.OPT_LANE_FAIL
  let d := d.portLeave p n
  if tx then (d.setLaser p n ch 4).replaceLane p n lane
  else
    let spare := 0 < d.gf F.OPT_PORT_n_STAT.RX_SPARES p n
    let d := (d.modPort p n fun x => { x with rxDead := if x.rxDead.contains ch then x.rxDead else x.rxDead ++ [ch] }).countSpares p n
    if spare then d.toLight p n else (((d.portDark p n).portStep p n .failed).exhausted p n ch)

/-- R364: the Switch step; R358, R367: a lane that comes to a laser at its end of life is at FAIL. -/
def swapSwitch (d : Dev) (p n : Nat) : Dev :=
  match d.headSwap p n with
  | some w =>
    let e := d.switchNow p n
    if w.phase = 4 && !w.pass && decide (e.laserSt p n w.spare = 4) then e.laneFail p n w.lane true 1 else e
  | none => d

/-- R359, R360: the Collimator starts on every port of a P-die: a full run or a retune. -/
def collimate (d : Dev) (p : Nat) (full : Bool) : Dev :=
  let d := d.sf F.OPT_FACE_STAT.COLL_STATE (if full then 1 else 2) p
  (List.range 10).foldl (fun d n =>
    if portExists p n then ((d.portLeave p n).abortSwaps p n).portStep p n .calibrate else d) d

/-- R350, R359: a port's calibration ends; `found` is none when it has failed. -/
def calibrated (d : Dev) (p n : Nat) (found : Option PortCal) : Dev :=
  if (d.port p n).step ≠ .calibrate then d
  else
    let d := match found with
      | none =>
        let d := (d.modPort p n fun x => { x with calOk := false }).portStep p n .failed
        d.logOpt Code.OPT_COLLIMATOR_FAIL p n 0 0 0
      | some c =>
        let d := d.modPort p n fun x => { x with calOk := true, cal := some c }
        let d := (List.range 18).foldl (fun d k =>
          let b := (c.chans[k]?).getD { bias := 0, power := 0, target := 0 }
          let d := if d.gf F.OPT_PORT_n_CH_c_LASER.INIT_BIAS p n k = 0 then
            (d.sf F.OPT_PORT_n_CH_c_LASER.INIT_BIAS b.bias p n k).modPort p n fun x => { x with pref := NMap.set 0 x.pref k b.power }
            else d
          let spare := !(d.laneMap p n true).contains k
          let d := if spare && decide (d.laserSt p n k = 0) then d.setLaser p n k 1 else d
          let d := if spare && decide (d.laserSt p n k = 1) && c.badLasers.contains k then
            (d.setLaser p n k 4).logOpt Code.OPT_SPARE_FAILED p n k 0 0 else d
          if !(d.laneMap p n false).contains k && c.badReceivers.contains k && !(d.port p n).rxDead.contains k then
            (d.modPort p n fun x => { x with rxDead := x.rxDead ++ [k] }).logOpt Code.OPT_SPARE_FAILED p n k 0 0
          else d) d
        (d.countSpares p n).toLight p n
    if (List.range 10).any fun k => portExists p k && decide ((d.port p k).step = .calibrate) then d
    else
      let bad := (List.range 10).any fun k => portExists p k && !(d.port p k).calOk
      d.sf F.OPT_FACE_STAT.COLL_STATE (if bad then 4 else 3) p

/-- R350, R369: the working lasers are on. -/
def lightDone (d : Dev) (p n : Nat) : Dev :=
  if (d.port p n).step = .light then
    let lanes := d.laneMap p n true
    (d.lightOn p n (if d.oneLane n then lanes.take 1 else lanes)).portStep p n .lock
  else d

def lockDone (d : Dev) (p n : Nat) : Dev := if (d.port p n).step = .lock then d.portStep p n .align else d

def alignDone (d : Dev) (p n : Nat) : Dev := if (d.port p n).step = .align then d.portStep p n .exchange else d

/-- R351: the face and the port that port n of P-die p must meet. -/
def meets (p n farFace farPort : Nat) : Bool :=
  decide (farPort = n) && decide (farFace = if n < 8 then oppositeFace p else 0xE)

/-- R351, R352: the Exchange step. -/
def exchange (d : Dev) (p n farFace farPort : Nat) (farMap farDead : List Nat) : Dev :=
  if (d.port p n).step ≠ .exchange then d
  else
    let d := (d.sf F.OPT_PORT_n_STAT.FAR_FACE farFace p n).sf F.OPT_PORT_n_STAT.FAR_PORT farPort p n
    if !meets p n farFace farPort then
      (d.portStep p n .heldDown).logOpt Code.OPT_PORT_MISWIRED p n 0 0 (farFace * 16 + farPort)
    else
      let d := (List.range 16).foldl (fun d l => d.setLaneCh p n false l (farMap.getD l l)) d
      let d := (d.modPort p n fun x => { x with farDead := farDead }).countSpares p n
      match lowestBelow (fun l => farDead.contains (d.laneCh p n true l)) 16 with
      | some l => d.replaceLane p n l
      | none =>
        if (d.laneMap p n false).any fun c => (d.port p n).rxDead.contains c then d.toLight p n
        else d.portStep p n .qualify

/-- R350, R369: the port enters service; in P3 host port 8 goes back to its keep-alive (R370). -/
def qualifyDone (d : Dev) (p n : Nat) : Dev :=
  if (d.port p n).step ≠ .qualify then d
  else
    let st : OptStep := if n = 8 ∧ d.gf F.PWR_STAT.STATE = 3 then .keepAlive else .up
    let d := (d.portStep p n st).sf F.OPT_PORT_n_STAT.LANES_UP (if d.oneLane n then 1 else 16) p n
    (d.logOpt Code.OPT_PORT_UP p n 0 0 0).setPortUp p n true

/-- R353: no light for 100 µs: only lane 0's laser stays on, at −6 dBm. -/
def aprEntry (d : Dev) (p n : Nat) : Dev :=
  if [OptStep.light, .lock, .align, .exchange, .qualify, .up, .keepAlive].contains (d.port p n).step then
    let d := d.portLeave p n
    let d := d.lightOff p n ((List.range 18).filter fun c => decide (c ≠ d.laneCh p n true 0))
    let d := (d.lightOn p n [d.laneCh p n true 0]).portStep p n .apr
    let d := d.modPort p n fun x => { x with reduced := true }
    (d.logOpt Code.OPT_APR p n 0 0 0).noteApr p
  else d

def aprReturn (d : Dev) (p n : Nat) : Dev :=
  if (d.port p n).step = .apr then (d.toLight p n).noteApr p else d

/-- OPT_PORT_n_CTRL DOWN: the port is held out of service with its lasers dark, or released. -/
def portDown (d : Dev) (p n : Nat) (v : Bool) : Dev :=
  let d := d.sf F.OPT_PORT_n_CTRL.DOWN (if v then 1 else 0) p n
  let st := (d.port p n).step
  if v then
    if st = .calibrate then d else (((d.portLeave p n).portDark p n).portStep p n .heldDown).noteApr p
  else if st = .heldDown then d.toLight p n else d

/-- R376: SWAP or RECAL of a lane: refused while no spare is usable, queued otherwise. -/
def portAction (d : Dev) (p n lane : Nat) (recal : Bool) : Dev :=
  if (d.spareOf p n).isNone then d.exhausted p n (d.laneCh p n true lane) else d.queueSwap p n lane recal

/-- OPT_PORT_n_CTRL written (R652: LANE and DOWN take their values, then RECAL and SWAP act). -/
def writePortCtrl (d : Dev) (p n : Nat) (v : Word) : Dev :=
  let lane := getBits v 11 8
  let down := decide (getBits v 0 0 = 1)
  let d := d.sf F.OPT_PORT_n_CTRL.LANE lane p n
  let d := if down = d.on F.OPT_PORT_n_CTRL.DOWN p n then d else d.portDown p n down
  let d := if getBits v 2 2 = 1 then d.portAction p n lane true else d
  if getBits v 1 1 = 1 then d.portAction p n lane false else d

/-! ### Groups and replay -/

/-- R347, R349: the flits of a group handed to the S-die: after a loss, from the first packet header on. -/
def passGroup (d : Dev) (p n : Nat) (g : OptGroup) (lost : Bool) : Dev :=
  let cut := lost || (d.port p n).resync
  let fs := if cut then g.flits.drop g.ctrl.firstHdr else g.flits
  let items := (if lost then [.gap] else []) ++ fs.map OptItem.flit
  let d := d.modPort p n fun x => { x with
    expect := some ((g.ctrl.gseq + 1) % 2 ^ 24)
    waiting := false
    resync := cut && decide (80 ≤ g.ctrl.firstHdr)
    lastSeen := g.ctrl.gseq
    rx := x.rx ++ items }
  if n < 8 then items.foldl (fun d it => d.faceTake p it) d else d

/-- R347 to R349: what becomes of a group, and when a replay is asked for. -/
def takeGroup (d : Dev) (p n : Nat) (g : OptGroup) (bad : Bool) : Dev :=
  let x := d.port p n
  let seq := g.ctrl.gseq
  let want := x.expect.getD seq
  let ask (d : Dev) : Dev :=
    (d.modPort p n fun y => { y with expect := some want, waiting := true }).optSend p n
      (.replay ((want + 2 ^ 24 - 1) % 2 ^ 24))
  let seen (d : Dev) : Dev := d.modPort p n fun y => { y with lastSeen := (y.lastSeen + 1) % 2 ^ 24 }
  if bad then
    if x.waiting && decide (seq ≠ want) then seen d else seen (ask d)
  else if x.expect.isNone then d.passGroup p n g true
  else if decide (seq = want) then
    if x.waiting then
      let d := d.bump F.OPT_PORT_n_FEC_CNT.REPLAY_CNT F.OPT_PORT_n_FEC_CNT.REPLAY_SAT 1 p n
      (d.passGroup p n g false).score (portUnit p n) 1 0
    else d.passGroup p n g false
  else if !x.waiting then (ask d).modPort p n fun y => { y with lastSeen := seq }
  else if seq = (x.lastSeen + 1) % 2 ^ 24 then seen d
  else d.passGroup p n g true

/-- R362: an uncorrectable codeword of a lane noted: true at the eighth within a millisecond. -/
def noteUncorr (d : Dev) (p n lane : Nat) : Dev × Bool :=
  let l := ((d.port p n).unc.filter fun e => decide (d.chrono < e.2 + 1000000)) ++ [(lane, d.chrono)]
  (d.modPort p n fun x => { x with unc := l }, decide (8 ≤ (l.filter fun e => decide (e.1 = lane)).length))

/-- R362: corrected symbols of a receive channel counted in the running window. -/
def countErrs (d : Dev) (p n ch k : Nat) : Dev :=
  d.modPort p n fun x => { x with errs := NMap.set 0 x.errs ch (NMap.get 0 x.errs ch + k) }

/-- R362, R364: the copy of a mirrored lane on its spare channel: its symbols in error count for that channel, and it
is to equal the lane's codeword. -/
def mirrorCopy (d : Dev) (p n : Nat) (words : List (List Nat × Nat)) : Dev :=
  match (d.port p n).rxMirror, words[16]? with
  | some (lane, ch), some (data, k) =>
    let d := if k ≤ 7 then d.countErrs p n ch k else d
    if 7 < k || decide (data ≠ (words.getD lane ([], 0)).1) then d.modPort p n fun x => { x with mirrorBad := true } else d
  | _, _ => d

/-- MSG_TYPE and MSG_DATA of the port messages, whose numbers the manual does not give (DESIGN CHOICE, log entry 33):
1 a power report, 2 a Seeing summary that names a lane at DEGRADED, 3 a confirmed switch, 4 a qualified mirror. -/
def msgWord : OptMsg → Nat × Nat
  | .power v => (1, v)
  | .degraded l => (2, l)
  | .confirm l c => (3, l + 16 * c)
  | .qualified l c => (4, l + 16 * c)
  | _ => (0, 0)

/-- R363: a port message of the far end: a lane at DEGRADED starts a swap. -/
def takeMsgOf (d : Dev) (p n : Nat) (c : OptCtrl) : Dev :=
  let l := c.msgData
  if c.msgType ≠ 2 ∨ 16 ≤ l ∨ (d.port p n).swaps.any (fun w => decide (w.lane = l)) ∨ (d.spareOf p n).isNone then d
  else d.queueSwap p n l false

/-- R344 to R349: a group received on a port in service. In P2 its sixteen codewords come one after another on lane 0
(R369). -/
def groupReceive (d : Dev) (p n : Nat) (r : OptRx) : Dev :=
  if !d.portRuns p n then d
  else
    let one := decide (d.gf F.OPT_PORT_n_STAT.LANES_UP p n = 1)
    let words := r.words.map laneDecode
    let g := OptGroup.ofLanes ((words.take 16).map Prod.fst)
    let errs := (List.range 16).map fun l => (if one then 0 else l, (words.getD l ([], 0)).2)
    let lost := errs.filter fun e => decide (7 < e.2)
    let fixed := errs.filter fun e => decide (e.2 ≤ 7)
    let crcBad := decide (g.crcOf ≠ g.ctrl.crc)
    let bad := !lost.isEmpty || crcBad
    let d := fixed.foldl (fun d e => d.countErrs p n (d.laneCh p n false e.1) e.2) d
    let d := d.mirrorCopy p n words
    let d := d.incr F.OPT_PORT_n_CORR_CNT.SYMBOLS (fixed.map (·.2)).sum p n
    let d := d.bump F.OPT_PORT_n_FEC_CNT.UNCORR_CNT F.OPT_PORT_n_FEC_CNT.UNCORR_SAT lost.length p n
    let d := if lost.isEmpty && crcBad then d.bump F.OPT_PORT_n_FEC_CNT.CRC_CNT F.OPT_PORT_n_FEC_CNT.CRC_SAT 1 p n else d
    let d := if bad then d.logOpt Code.OPT_GROUP_BAD p n 0 0 1 else d.incr F.OPT_PORT_n_GRP_CNT.GROUPS 1 p n
    let d := d.takeGroup p n g bad
    let d := if bad then d else d.takeMsgOf p n g.ctrl
    let r := lost.foldl (fun (r : Dev × List Nat) e =>
      let (d, hit) := r.1.noteUncorr p n e.1
      (d, if hit && !r.2.contains e.1 then r.2 ++ [e.1] else r.2)) (d, [])
    r.2.foldl (fun d l => d.laneFail p n l false 8) r.1

/-- R348, R349: a REPLAY_REQ; `good`: whether the group that carries it passed its checks (R347; log entry 51). The
transmitter resends from the group after ACK, in order, or from the oldest group that its buffer of the last 204
holds. -/
def replayRequest (d : Dev) (p n ack : Nat) (good : Bool) : Dev :=
  let x := d.port p n
  let back := (x.gseq + 2 ^ 25 - 1 - ack) % 2 ^ 24
  if !good || !d.portRuns p n || decide (back = 0) then d
  else
    let again (d : Dev) (l : List OptGroup) : Dev :=
      (d.modPort p n fun x => { x with again := l }).optSend p n (.resend ((x.gseq + 2 ^ 24 - l.length) % 2 ^ 24))
    if back ≤ x.buffer.length then again d (x.buffer.drop (x.buffer.length - back))
    else
      let d := d.bump F.OPT_PORT_n_FEC_CNT.MISS_CNT F.OPT_PORT_n_FEC_CNT.MISS_SAT 1 p n
      let d := (d.logOpt Code.OPT_REPLAY_MISS p n 0 0 1).score (portUnit p n) 16 Code.OPT_REPLAY_MISS
      again d x.buffer

/-! ### What the ports send (R345 to R348) -/

/-- CMD of a swap command (R346). -/
def cmdCode : SwapCmd → Nat
  | .mirror => 1 | .switch => 2 | .abort => 3

/-- R346: the next group of a port: the first command or message that waits goes with it, and flits of its face. -/
def nextGroup (d : Dev) (p n : Nat) (fs : List Flit) : OptGroup :=
  let x := d.port p n
  let c : OptCtrl :=
    { gseq := x.gseq, ack := (x.expect.getD 0 + 2 ^ 24 - 1) % 2 ^ 24, mapEpoch := d.gf F.OPT_PORT_n_STAT.MAP_EPOCH p n
      firstHdr := ((List.range fs.length).find? fun k => (fs.getD k ⟨false, []⟩).header).getD 127 }
  let c := match x.mail.head? with
    | some (.replay a) => { c with ack := a, replayReq := true }
    | some (.cmd k l ch e) => { c with mapEpoch := e, cmd := cmdCode k, cmdLane := l, cmdCh := ch }
    | some m => { c with msgType := (msgWord m).1, msgData := (msgWord m).2 }
    | none => c
  let g : OptGroup := { ctrl := c, flits := fs.map fun f => f.bytes }
  { g with ctrl := { c with crc := g.crcOf } }

/-- R345, R348: a port in service sends a group: one that is asked for again, or the next one, which enters the replay
buffer. The flits of a face go to its ports in service in groups, the lowest port first (DESIGN CHOICE, log entry 33).
-/
def sendGroup (d : Dev) (p n : Nat) : Dev :=
  let x := d.port p n
  if !d.portRuns p n then d
  else match x.again with
    | _ :: rest => d.modPort p n fun x => { x with again := rest }
    | [] =>
      let all := if 8 ≤ n then NMap.get [] d.hlk.out n
        else if d.on F.XFB_FACE_f_STAT.OCCULTED 0 p then [] else NMap.get [] d.fab.stream p
      let g := d.nextGroup p n (all.take 80)
      let d := d.modPort p n fun x => { x with
        gseq := (x.gseq + 1) % 2 ^ 24, mail := x.mail.drop 1, buffer := (x.buffer ++ [g]).drop (x.buffer.length - 203) }
      if all.isEmpty then d
      else if 8 ≤ n then { d with hlk := { d.hlk with out := NMap.set [] d.hlk.out n (all.drop 80) } }
      else { d with fab := { d.fab with stream := NMap.set [] d.fab.stream p (all.drop 80) } }

/-- R443: the Chronograph after one nanosecond of the Guide Star: it advances by the trimmed step. -/
def chronoTick (d : Dev) : Dev :=
  let step := (((d.time.frac : Int) + 2 ^ 40) + d.time.trim).toNat
  { d with chrono := d.chrono + step / 2 ^ 40, time := { d.time with frac := step % 2 ^ 40 } }

/-- A step with no command waiting (log entry 1): the Chronograph advances by one nanosecond's step, the router's
faces send, and each port in service sends a group. -/
def tick (d : Dev) : Dev :=
  let d := d.chronoTick.routerTick
  if d.ports.any fun e => [OptStep.up, OptStep.keepAlive].contains e.2.step then
    (List.range 6).foldl (fun d p => (List.range 10).foldl (fun d n => if portExists p n then d.sendGroup p n else d) d) d
  else d

/-! ### Monitors, the Heliostat and the Seeing monitor -/

/-- R354: the readings of a port stored. -/
def monitor (d : Dev) (p : Nat) (m : PortMon) : Dev :=
  if !portExists p m.port then d
  else
    let d := d.sf F.OPT_PORT_n_POWER.MUX_OUT (w16 m.muxOut) p m.port
    let d := d.sf F.OPT_PORT_n_POWER.EDGE_OUT (w16 m.edgeOut) p m.port
    let d := d.sf F.OPT_PORT_n_POWER.DEMUX_IN (w16 m.demuxIn) p m.port
    (List.range 18).foldl (fun d c =>
      match m.chans[c]? with
      | some (tap, out, pd) =>
        ((d.sf F.OPT_PORT_n_CH_c_MON.LASER_TAP (w16 tap) p m.port c).sf F.OPT_PORT_n_CH_c_MON.MOD_OUT (w16 out) p m.port c).sf
          F.OPT_PORT_n_CH_c_MON.PD (w16 pd) p m.port c
      | none => d) d

/-- A 16-bit reading in 0.01 dBm. -/
def dbm (d : Dev) (f : Fld) (p n : Nat) (c : Nat := 0) : Int := sext 16 (d.gf f p n c)

/-- The power of x in 0.01 dBm, times 10^40: the largest number of milliwatts whose 1000th power does not pass 10^(x +
40000). -/
def milliwatts (x : Int) : Nat :=
  let n := (x + 40000).toNat
  let top := 10 ^ n
  (List.range (n / 300 + 2)).foldr (fun b r => if (r + 2 ^ b) ^ 1000 ≤ top then r + 2 ^ b else r) 0

/-- R355: whether powers in 0.01 dBm sum to at least a power in 0.01 dBm. -/
def sumReaches (l : List Int) (x : Int) : Bool := decide (milliwatts x ≤ (l.map milliwatts).sum)

/-- R355: the first stage in signal order whose loss has passed its limit: stage, channel and the reading after it.
The lanes are those that carry groups. -/
def lossStage (d : Dev) (p n : Nat) (c : PortCal) : Option (Nat × Nat × Nat) :=
  let cal (k : Nat) : ChanCal := (c.chans[k]?).getD { bias := 0, power := 0, target := 0 }
  let tap (k : Nat) : Int := d.dbm F.OPT_PORT_n_CH_c_MON.LASER_TAP p n k
  let out (k : Nat) : Int := d.dbm F.OPT_PORT_n_CH_c_MON.MOD_OUT p n k
  let pd (k : Nat) : Int := d.dbm F.OPT_PORT_n_CH_c_MON.PD p n k
  let lanes := d.gf F.OPT_PORT_n_STAT.LANES_UP p n
  let tx := (d.laneMap p n true).take lanes
  let rx := (d.laneMap p n false).take lanes
  let mux := d.dbm F.OPT_PORT_n_POWER.MUX_OUT p n
  let edge := d.dbm F.OPT_PORT_n_POWER.EDGE_OUT p n
  let demux := d.dbm F.OPT_PORT_n_POWER.DEMUX_IN p n
  let far := d.dbm F.OPT_PORT_n_POWER.FAR_EDGE_OUT p n
  match tx.find? fun k => decide (100 ≤ (cal k).target - tap k - (cal k).loss1) with
  | some k => some (1, k, w16 (tap k))
  | none =>
    match tx.find? fun k => decide (100 ≤ tap k - out k - (cal k).loss2) with
    | some k => some (2, k, w16 (out k))
    | none =>
      if sumReaches (tx.map out) (mux + c.loss3 + 100) then some (3, 0, w16 mux)
      else if 100 ≤ mux - edge - c.loss4 then some (4, 0, w16 edge)
      else if 600 < far - demux - c.coupler then some (5, 0, w16 demux)
      else match rx.find? fun k => decide (100 ≤ Config.channelShare demux k - pd k - (cal k).loss6) with
        | some k => some (6, k, w16 (pd k))
        | none => none

/-- R355: the stage losses of the ports in service. -/
def lossCheck (d : Dev) (p : Nat) : Dev :=
  (List.range 10).foldl (fun d n =>
    if (d.port p n).step ≠ .up then d
    else match (d.port p n).cal with
      | none => d
      | some c =>
        match d.lossStage p n c with
        | none => d
        | some (stage, ch, x) =>
          ((d.logOpt Code.OPT_LOSS_HIGH p n ch stage x).score (portUnit p n) 64 Code.OPT_LOSS_HIGH).raiseOpt p 2) d

/-- R357: P_FIX_DELTA from the tap power P, the bias I and I_0 in 0.01 mA, η in µW per mA and P_ref: none when P_fix is
not positive. -/
def pFixDelta (power bias eta i0 pref : Nat) : Option Int :=
  let z : Int := 100 * (power : Int) - (eta : Int) * ((bias : Int) - i0)
  if 0 < z ∧ 0 < pref then some (logRatio z.toNat (100 * pref)) else none

/-- R356 to R358, R363: the Heliostat's adjustment of a lit laser. -/
def heliostat (d : Dev) (p n ch bias power eta : Nat) : Dev :=
  if !(d.port p n).lit.contains ch then d
  else
    let i0 := d.gf F.OPT_PORT_n_CH_c_LASER.INIT_BIAS p n ch
    let delta := pFixDelta power bias eta i0 (NMap.get 0 (d.port p n).pref ch)
    let d := d.sf F.OPT_PORT_n_CH_c_LASER.BIAS bias p n ch
    let shown := match delta with
      | some z => w16 z
      | none => (Config.noLogarithm d.freeIx).toNat
    let d := if delta.isNone then d.draw else d
    let d := d.sf F.OPT_PORT_n_CH_c_LASER.P_FIX_DELTA shown p n ch
    let fallen (limit : Int) : Bool := match delta with
      | some z => decide (z ≤ limit)
      | none => true
    let eol := fallen (-300) || decide (3 * i0 ≤ 2 * bias)
    match d.laneOf p n true ch with
    | some l =>
      if eol && decide (d.laserSt p n ch ≠ 4) then
        let d := (d.setLaser p n ch 4).logOpt Code.OPT_LASER_EOL p n ch 0 (d.gf F.OPT_PORT_n_CH_c_MON.LASER_TAP p n ch)
        d.laneFail p n l true 1
      else if (fallen (-(d.gf F.OPT_SPARE_POLICY.DROP_CDB p : Int)) || decide (i0 * d.gf F.OPT_SPARE_POLICY.BIAS_PCT p < 100 * bias))
          && !(d.port p n).swaps.any (fun w => decide (w.lane = l)) && (d.spareOf p n).isSome then d.queueSwap p n l false
      else d
    | none =>
      if eol && decide (d.laserSt p n ch ≠ 4) then
        let d := (d.setLaser p n ch 4).logOpt Code.OPT_LASER_EOL p n ch 0 (d.gf F.OPT_PORT_n_CH_c_MON.LASER_TAP p n ch)
        match d.headSwap p n with
        | some w =>
          if w.spare = ch ∧ 1 ≤ w.phase ∧ w.phase ≤ 3 ∧ !w.pass then d.spareFailed p n w else d.countSpares p n
        | none => d.countSpares p n
      else d

/-- R362: the classing of one receive channel at the end of a window. -/
def seeChannel (d : Dev) (p n lane : Nat) : Dev :=
  let c := d.laneCh p n false lane
  let e := NMap.get 0 (d.port p n).errs c
  let run := if d.gf F.OPT_SPARE_POLICY.DEGRADED_ERR p ≤ e then NMap.get 0 (d.port p n).deg c + 1 else 0
  let d := d.modPort p n fun x => { x with deg := NMap.set 0 x.deg c run }
  let minute := d.chrono / 60000000000
  let d := if 119 ≤ e ∧ (d.port p n).minute ≠ some minute then
    (d.modPort p n fun x => { x with minute := some minute }).score (portUnit p n) 1 0 else d
  if run = 10 then
    ((d.logOpt Code.OPT_SEEING_DEGRADED p n c 0 e).score (portUnit p n) 64 Code.OPT_SEEING_DEGRADED).optSend p n (.degraded lane)
  else d

/-- R364: a mirror is qualified by a whole window below WATCH with both copies equal; a port message tells the
transmitter. -/
def mirrorWindow (d : Dev) (p n : Nat) : Dev :=
  match (d.port p n).rxMirror with
  | none => d
  | some (lane, ch) =>
    let bad := (d.port p n).mirrorBad || decide (119 ≤ NMap.get 0 (d.port p n).errs ch)
    let d := d.modPort p n fun x => { x with mirrorBad := false }
    if bad then d else d.optSend p n (.qualified lane ch)

/-- R362: a 1 ms window ends: ERR_1MS of every channel takes its count, the mapped channels are classed, and every
lane at FAIL is dealt with. -/
def seeingWindow (d : Dev) (p n : Nat) : Dev :=
  if !d.portRuns p n then d
  else
    let errs := (d.port p n).errs
    let lanes := List.range (d.gf F.OPT_PORT_n_STAT.LANES_UP p n)
    let failed := (lanes.map fun l => (l, NMap.get 0 errs (d.laneCh p n false l))).filter fun x => decide (23800 ≤ x.2)
    let d := (List.range 18).foldl (fun d c => d.sf F.OPT_PORT_n_CH_c_MON.ERR_1MS (satAt 0xFFFF (NMap.get 0 errs c)) p n c) d
    let d := (lanes.foldl (fun d l => d.seeChannel p n l) d).mirrorWindow p n
    let d := d.modPort p n fun x => { x with errs := [] }
    failed.foldl (fun d x => d.laneFail p n x.1 false x.2) d

/-- R362: no light on a receive channel for 10 µs. -/
def noLight (d : Dev) (p n ch : Nat) : Dev :=
  if !d.portRuns p n then d
  else match d.laneOf p n false ch with
    | some l => d.laneFail p n l false 0
    | none => d

end Dev

end Sys2Proof.Machine
end

