-- ==== Sys2Proof/Machine/Serve.lean ====
section
/-! DEFINITION. Serving an access to memory at its target (chapter 07): the region check (R249 to R252), age and alignment
of a request (R265, R266), the reply cache (R272 to R276), applying it in HBM, in the activation SRAM, or in the companion
window (R488), and how an access of this device ends with a code (R248, R269, R277, R437). -/

namespace Sys2Proof.Machine

open Sys2Proof

/-- R13: a local offset in the register space. -/
def inRegSpace (o : Nat) : Bool := decide (0x3F0000000000 ≤ o) && decide (o < 0x400000000000)

/-- The local offset of a global address (R12). -/
def localOf (a : Nat) : Nat := a % 2 ^ 46

namespace Dev

/-! ### How an access of this device ends -/

/-- R248, R264, R277, R437: a request of this device ends with a code. -/
def endReq (d : Dev) (r : Req) (code : Nat) : Dev :=
  let p := r.pkt
  let gas (d : Dev) : Dev :=
    match d.reqEntry r with
    | some x => (d.dropReq r).gasFault r.core code p.dst p.addr x
    | none => d.dropReq r
  match r.kind with
  | .gld | .gst => gas d
  | .gatom => gas (if code = Code.GAS_OUTCOME_UNKNOWN then d.outcomeUnknown r p.aop p.w64 p.addr else d)
  | .dmaRead | .dmaWrite => d.dmaPacketFailed r code
  | .signal =>
    let d := d.dropReq r
    let n := leNat ((p.payload.drop 6).take 2) % 4096
    let core := leNat ((p.payload.drop 8).take 1) % 128
    let d := if code = Code.GAS_OUTCOME_UNKNOWN then
      (d.outcomeUnknown r 0 true (counterAddr p.dst core n)).bump F.SYN_CORE_STAT.LOST_CNT F.SYN_CORE_STAT.LOST_SAT 1 r.core
      else d.logGas code r.core p.dst (counterAddr p.dst core n) r.seq
    d.endSignal r.core r.seq 2
  | .release => d.dropReq r
  | .attnMap | .attnPage | .attnAppend =>
    let d := d.dropReq r
    match d.attnEntry r.core with
    | some x => if x.seq = r.seq then d.attnRemote r.core code p.dst p.addr x else d
    | none => d
  | .coll => d

/-- R269: the outstanding accesses to a device end. -/
def endAccessesTo (d : Dev) (dev : Nat) : Dev :=
  (d.reqs.filter fun r => decide (r.pkt.dst = dev)).foldl (fun d r =>
    match r.kind with
    | .gatom | .signal => d.endReq r Code.GAS_OUTCOME_UNKNOWN
    | .release | .coll => d
    | _ => d.endReq r Code.GAS_TARGET_OCCULTED) d

/-! ### The check of an access -/

/-- The lowest-numbered valid region that contains a local offset (R249). -/
def regionOf (d : Dev) (o : Nat) : Option Nat :=
  let u := o / 65536
  lowestBelow (fun n => d.on F.GAS_REGION_n_ATTR.VALID 0 n && decide (d.gf F.GAS_REGION_n_BASE.BASE 0 n ≤ u)
    && decide (u ≤ d.gf F.GAS_REGION_n_LIMIT.LIMIT 0 n)) 4096

/-- What a kind of access needs of a region (R250). -/
inductive Need where
  | read | write | atomic
  deriving DecidableEq, Repr

def allows (d : Dev) (n : Nat) : Need → Bool
  | .read => d.on F.GAS_REGION_n_ATTR.READ 0 n
  | .write => d.on F.GAS_REGION_n_ATTR.WRITE 0 n
  | .atomic => d.on F.GAS_REGION_n_ATTR.ATOMIC 0 n

/-- R250, R251: checks 2 to 4: the code the requester receives, the code the target logs and the region. -/
def regionCheck (d : Dev) (o key : Nat) (own : Bool) (need : Need) : Option (Nat × Nat × Nat) :=
  match d.regionOf o with
  | none => some (Code.GAS_KEY_MISMATCH, Code.GAS_NO_REGION, 0)
  | some n =>
    let k := d.gf F.GAS_REGION_n_ATTR.KEY 0 n
    if k = 0 ∨ k ≠ key then some (Code.GAS_KEY_MISMATCH, Code.GAS_KEY_MISMATCH, n)
    else if d.on F.GAS_REGION_n_ATTR.LOCAL_ONLY 0 n && !own then some (Code.GAS_KEY_MISMATCH, Code.GAS_KEY_MISMATCH, n)
    else if d.allows n need then none else some (Code.GAS_PERM, Code.GAS_PERM, n)

/-- R14, R486, R649: a register-space offset names a register. -/
def isRegister (o : Nat) : Bool :=
  let r := o - 0x3F0000000000
  decide (o % 8 = 0) && ((RegKey.ofOffset r).isSome || isSpareOffset r)

/-- R246, R487: check 1 of R250: size, alignment and range of a request. -/
def rangeOk (d : Dev) (p : Packet) : Bool :=
  let o := localOf p.addr
  let mem (n : Nat) (win : Bool) : Bool :=
    match d.areaOf o n with
    | some .window => win
    | some _ => true
    | none => !d.started && d.populated o n && (win || decide (o < 0x200000000000))
  if p.type = PT.read ∨ p.type = PT.write then
    if inRegSpace o then isRegister o else decide (o % 64 = 0) && mem 64 true
  else if p.type = PT.atomic then
    let n := if p.w64 then 8 else 4
    decide (o < 0x100000000000) && decide (o % n = 0) && mem n false
  else !inRegSpace o && decide (1 ≤ p.length) && mem p.length true

/-- The right that a request needs. -/
def needOf (p : Packet) : Need :=
  if p.type = PT.atomic then .atomic else if p.type = PT.write ∨ p.type = PT.dmaWrite then .write else .read

/-- R282, R613: the target's own record of a refusal. -/
def logTarget (d : Dev) (code addr region : Nat) : Dev := d.logAt code dieS 0xFFFF addr region

/-- R250: a request checked: the code it is refused with, and the device with the refusal counted and logged. -/
def checkAccess (d : Dev) (p : Packet) : Nat × Dev :=
  let refused (code logged region : Nat) : Nat × Dev :=
    (code, (d.bump F.GAS_ERR_CNT.REFUSED_CNT F.GAS_ERR_CNT.REFUSED_SAT 1).logTarget logged p.addr region)
  if !d.rangeOk p then refused Code.GAS_ADDR_ERROR Code.GAS_ADDR_ERROR 0
  else match d.regionCheck (localOf p.addr) p.key (decide (p.src = d.self)) (needOf p) with
    | some (code, logged, n) => refused code logged n
    | none =>
      if !d.started && !inRegSpace (localOf p.addr) then (Code.BOOT_NOT_READY, d.logTarget Code.BOOT_NOT_READY p.addr 0)
      else (0, d)

/-- R266: a request of another device while one of the two Chronographs is not aligned. -/
def unaligned (d : Dev) (p : Packet) : Bool := decide (p.src ≠ d.self) && (!p.talign || !d.on F.SYN_TIME_STAT.ALIGNED)

/-- R265: a request too old to be applied. -/
def stale (d : Dev) (p : Packet) : Bool := decide (1000 * p.timeoutUs ≤ d.chrono - p.issueTime)

def dropStale (d : Dev) (p : Packet) : Dev :=
  (d.bump F.GAS_ERR_CNT.STALE_CNT F.GAS_ERR_CNT.STALE_SAT 1).logTarget Code.GAS_STALE_DROP p.addr 0

/-- A reply to a request, which carries back what identifies it. -/
def answerTo (d : Dev) (p : Packet) (type : Nat) (payload : List Byte) : Dev :=
  d.send
    { d.packet type 3 p.src with
      addr := p.addr, key := p.key, offset := p.offset, msg := p.msg, total := p.total, dseq := p.dseq, core := p.core
      epoch := p.epoch, aop := p.aop, signed := p.signed, w64 := p.w64, ret := p.ret, attempt := p.attempt, ece := p.ce
      last := decide (p.type = PT.dmaRead) && p.last
      length := payload.length, payload := payload }

/-- R217: the hint of a request. -/
def hintOf (d : Dev) (p : Packet) : Nat :=
  if p.type = PT.read ∨ p.type = PT.write ∨ p.type = PT.atomic then
    if d.on F.MSC_CTRL.GAS_HINT (homeX (localOf p.addr)) then hintKeep else hintStream
  else p.hint

def isWrite (p : Packet) : Bool := decide (p.type = PT.write) || decide (p.type = PT.dmaWrite) || decide (p.type = PT.atomic)

/-- The bytes that a write stores. -/
def dataOf (p : Packet) : List Byte := (p.payload ++ List.replicate (spanOf p) 0).take (spanOf p)

/-- R255: the reply to a request that has been applied. -/
def served (d : Dev) (p : Packet) (bytes : List Byte) : Dev :=
  let d := d.incr F.GAS_SERVED_CNT.COUNT 1
  if p.type = PT.read then d.answerTo p PT.readData bytes
  else if p.type = PT.write then d.answerTo p PT.writeAck []
  else if p.type = PT.dmaRead then d.answerTo p PT.dmaData bytes
  else d.answerTo p PT.dmaAck []

/-! ### The reply cache -/

/-- R273: an entry ends once its minimum lifetime has passed and it has been released; R279: none ends while the device
is occulted. -/
def replyEnds (d : Dev) (r : Reply) : Bool := !d.occulted && r.released && decide (r.made + r.life ≤ d.chrono)

/-- GAS_REPLY_STAT IN_USE follows the cache. -/
def setReplies (d : Dev) (l : List Reply) : Dev :=
  { d with gas := { d.gas with replies := l } }.sf F.GAS_REPLY_STAT.IN_USE l.length

def sweepReplies (d : Dev) : Dev := d.setReplies (d.gas.replies.filter fun r => !d.replyEnds r)

/-- R272: the entry of a packet's tag. -/
def replyOf (d : Dev) (p : Packet) : Option Reply :=
  d.gas.replies.find? fun r =>
    decide (r.dev = p.src) && decide (r.core = p.core) && decide (r.epoch = p.epoch) && decide (r.seq = p.total)

def modReply (d : Dev) (r : Reply) (f : Reply → Reply) : Dev :=
  d.setReplies (d.gas.replies.map fun x => if x = r then f x else x)

/-- R273: an entry made for an operation that has been applied, or refused under R423. -/
def enterReply (d : Dev) (p : Packet) (value refusal : Nat) : Dev :=
  d.setReplies (d.gas.replies ++
    [{ dev := p.src, core := p.core, epoch := p.epoch, seq := p.total, value := value, refusal := refusal
       made := d.chrono, life := 4000 * p.timeoutUs }])

/-- R274, R437: the answer that an entry gives. -/
def replyAnswer (d : Dev) (p : Packet) (r : Reply) : Dev :=
  if p.type = PT.atomic then d.answerTo p PT.atomicReply (leBytes 8 r.value)
  else if r.refusal ≠ 0 then d.refuse p r.refusal
  else d.answerTo p PT.writeAck []

/-- R276: the cache is full. -/
def busyRefusal (d : Dev) (p : Packet) : Dev :=
  (d.bump F.GAS_ERR_CNT.BUSY_CNT F.GAS_ERR_CNT.BUSY_SAT 1).answerTo p PT.busy []

/-! ### Atomic operations -/

/-- R270: the new value of an operand of `w` bits. -/
def atomicNew (aop w : Nat) (signed : Bool) (old a b : Nat) : Nat :=
  let m := 2 ^ w
  let lt (x y : Nat) : Bool := if signed then decide (sext w x < sext w y) else decide (x < y)
  let a := a % m
  let b := b % m
  match aop with
  | 0 => (old + a) % m
  | 1 => if lt a old then a else old
  | 2 => if lt old a then a else old
  | 3 => a
  | 4 => if old = b then a else old
  | _ => old

/-- R271, R273, R274, R276: an ATOMIC applied in one step at its home X-die; one whose tag has an entry is answered
from it, and one that finds the cache full is refused busy. -/
def applyAtomic (d : Dev) (p : Packet) (errs : List MemErr) : Dev :=
  match d.replyOf p with
  | some r => d.replyAnswer p r
  | none =>
    if 4096 ≤ d.gas.replies.length then d.busyRefusal p
    else
      let o := localOf p.addr
      let n := if p.w64 then 8 else 4
      let hint := d.hintOf p
      let (code, d) := d.readHbm o n hint 0 errs
      if code ≠ 0 then d.refuse p code
      else
        let old := leNat (d.hbmBytes o n)
        let a := leNat (p.payload.take 8)
        let b := leNat ((p.payload.drop 8).take 8)
        let (code, d) := d.writeHbm o (leBytes n (atomicNew p.aop (8 * n) p.signed old a b)) hint 0 []
        if code ≠ 0 then d.refuse p code
        else ((d.incr F.GAS_SERVED_CNT.COUNT 1).enterReply p old 0).answerTo p PT.atomicReply (leBytes 8 old)

/-! ### The companion window (R486 to R489) -/

def setJobs (d : Dev) (l : List WinJob) : Dev := { d with mem := { d.mem with jobs := l } }

/-- A request of the AK20 to the companion for a unit of the window is outstanding. -/
def unitAsked (d : Dev) (u : Nat) : Bool := d.hlk.reqs.any fun r => decide (r.want ≠ .wrback) && decide (r.off / 64 = u)

/-- R221, R488: the ways that companion lines may take in a set. -/
def hostWays (d : Dev) (u : Nat) : Nat := d.gf F.MSC_CTRL.HOST_WAYS (unitHome u)

/-- R488: whether an access to an absent window unit allocates a line, and in which class. -/
def windowClass (d : Dev) (u hint use count : Nat) : Option (Bool × Nat) :=
  if d.on F.HLK_CTRL.CACHE_EN && decide (0 < d.hostWays u) then allocClass hint use count else none

/-- R488: the bytes of a window unit that a line holds. -/
def lineByte (l : Line) (a : Nat) : Byte := l.data.getD (a % 64) 0

/-- R488: a line's bytes with some replaced: the line is modified. -/
def lineWrite (l : Line) (a : Nat) (bs : List Byte) : Line :=
  { l with
    comp := some .m, dirty := true
    data := (List.range 64).map fun k =>
      let x := 64 * l.unit + k
      if a ≤ x ∧ x < a + bs.length then bs.getD (x - a) 0 else l.data.getD k 0 }

/-- R226, R488: the line of a window unit that an access finds, its check bits examined unless the access replaces it
whole. -/
def windowLine (d : Dev) (u : Nat) (whole : Bool) (errs : List MemErr) : Nat × Option Line × Dev :=
  match d.lineAt u, d.on F.HLK_CTRL.CACHE_EN with
  | some l, true => if whole then (0, some l, d) else d.checkLine l errs
  | _, _ => (0, none, d)

/-- R488: the part of an access that lies in one window unit: what it finds in the line, or what it asks for. -/
def windowUnit (d : Dev) (j : WinJob) (u : Nat) (errs : List MemErr) : Dev × WinJob :=
  let p := j.pkt
  let o := localOf p.addr
  let lo := max o (64 * u)
  let hi := min (o + spanOf p) (64 * u + 64)
  let hint := d.hintOf p
  let ask (d : Dev) (op : Nat) (r : HlkReq) (bs : List Byte) : Dev × WinJob :=
    let t := d.hlk.nextTag % 4096
    (d.askCompanion op r bs, { j with waits := j.waits ++ [t] })
  let (code, line, d) := d.windowLine u (isWrite p && decide (hi - lo = 64)) errs
  if code ≠ 0 then (d, { j with code := if j.code = 0 then code else j.code })
  else if isWrite p then
    let bs := ((dataOf p).drop (lo - o)).take (hi - lo)
    match line with
    | some l =>
      if l.comp = some .s then ask d 2 { tag := 0, want := .fill true, off := 64 * u, kept := l.kept, count := l.count } []
      else (d.putLine (lineWrite l lo bs), j)
    | none =>
      match d.windowClass u hint p.useCount p.useCount with
      | some (kept, count) => ask d 2 { tag := 0, want := .fill true, off := 64 * u, kept := kept, count := count } []
      | none => ask d 4 { tag := 0, want := .write, off := lo, len := hi - lo } bs
  else
    match line with
    | some l =>
      let got := (List.range (hi - lo)).foldl (fun g k => NMap.set none g (lo + k) (some (lineByte l (lo + k)))) j.got
      ((d.incr F.MSC_HIT_CNT.LINES 1 (unitHome u)).useLine l hint, { j with got := got })
    | none =>
      let d := d.incr F.MSC_MISS_CNT.LINES 1 (unitHome u)
      match d.windowClass u hint p.useCount (p.useCount - 1) with
      | some (kept, count) => ask d 1 { tag := 0, want := .fill false, off := 64 * u, kept := kept, count := count } []
      | none => ask d 3 { tag := 0, want := .read, off := lo, len := hi - lo } []

/-- R255, R248: a window access that waits for nothing more is answered. -/
def finishJob (d : Dev) (j : WinJob) : Dev :=
  if j.code ≠ 0 then d.refuse j.pkt j.code
  else
    let o := localOf j.pkt.addr
    d.served j.pkt (if isWrite j.pkt then [] else (List.range (spanOf j.pkt)).map fun k => (NMap.get none j.got (o + k)).getD 0)

/-- An access to the window: served unit by unit. -/
def applyWindow (d : Dev) (p : Packet) (errs : List MemErr) : Dev :=
  let (d, j) := (unitsOf (localOf p.addr) (spanOf p)).foldl (fun (d, j) u => d.windowUnit j u errs) (d, { pkt := p })
  if j.waits = [] then d.finishJob j else d.setJobs (d.mem.jobs ++ [j])

/-! ### Applying an access -/

/-- R255: an access to HBM that nothing holds back. -/
def serveHbm (d : Dev) (p : Packet) (errs : List MemErr) : Dev :=
  let o := localOf p.addr
  let n := spanOf p
  if p.type = PT.atomic then d.applyAtomic p errs
  else if isWrite p then
    let (code, d) := d.writeHbm o (dataOf p) (d.hintOf p) p.useCount errs
    if code = 0 then d.served p [] else d.refuse p code
  else
    let (code, d) := d.readHbm o n (d.hintOf p) p.useCount errs
    if code = 0 then d.served p (d.hbmBytes o n) else d.refuse p code

/-- The core under copy whose store a range of activation SRAM touches (R85). -/
def copyingAt (d : Dev) (o n : Nat) : Option Nat :=
  ((unitsOf o n).find? fun u => (match sramCore (64 * u) with
    | some c => d.copying c
    | none => false)).map fun u => (sramCore (64 * u)).getD 0

/-- R256: an access to activation SRAM. -/
def serveSram (d : Dev) (p : Packet) : Dev :=
  let o := localOf p.addr
  let n := spanOf p
  if isWrite p then
    let bs := dataOf p
    ((List.range n).foldl (fun d k => d.setSramByte (o + k) (bs.getD k 0)) d).served p []
  else d.served p ((List.range n).map fun k => d.sramByte (o + k))

/-- R274: an ATOMIC of the same tag waits to be applied, so that a later arrival of the tag waits for its result. -/
def tagHeld (d : Dev) (p : Packet) : Bool :=
  decide (p.type = PT.atomic) && d.mem.held.any fun w => match w with
    | .packet x => decide (x.type = PT.atomic) && decide (x.src = p.src) && decide (x.core = p.core)
        && decide (x.epoch = p.epoch) && decide (x.total = p.total)
    | _ => false

/-- R265, R216, R240, R488, R491, R85, R255: a request that has passed its checks is applied now, or waits. R279: an
occulted device applies no ATOMIC. A window that has gone refuses what waited for it. -/
def applyMem (d : Dev) (p : Packet) (errs : List MemErr) : Dev :=
  let o := localOf p.addr
  let n := spanOf p
  if d.stale p then d.dropStale p
  else if o < 0x100000000000 then
    match d.hbmHeld o n (isWrite p) with
    | (true, d) => d.holdAccess (.packet p)
    | (false, d) => if d.occulted && decide (p.type = PT.atomic) then d.holdAccess (.packet p) else d.serveHbm p errs
  else if o < 0x200000000000 then
    match d.copyingAt o n with
    | some c => d.hold c (.request p)
    | none => d.serveSram p
  else if d.areaOf o n ≠ some .window then d.refuse p Code.GAS_ADDR_ERROR
  else if d.behind (o, n) || (unitsOf o n).any d.unitAsked then d.holdAccess (.packet p)
  else d.applyWindow p errs

/-! ### Accesses of the companion (R490, R491) -/

/-- R217: the hint of companion accesses. -/
def hostHint (d : Dev) (o : Nat) : Nat := if d.on F.MSC_CTRL.HOST_HINT (homeX o) then hintKeep else hintStream

/-- A companion access to activation SRAM; one to a core under copy is held (R85). -/
def reqSram (d : Dev) (m : HlkMsg) : Dev :=
  let o := reqOffset m
  match d.copyingAt o (reqBytes m) with
  | some c => d.hold c (.message m)
  | none =>
    if m.op = 4 then
      ((List.range m.payload.length).foldl (fun d k => d.setSramByte (o + k) (m.payload.getD k 0)) d).respond m 3 0 []
    else d.respond m 1 0 ((List.range m.length).map fun k => d.sramByte (o + k))

/-- R491: the directory notes that the companion holds a line, as the most recently granted. -/
def grant (d : Dev) (u : Nat) (owned : Bool) : Dev :=
  d.setDir ((d.hlk.dir.filter fun l => decide (l.unit ≠ u)) ++ [{ unit := u, owned := owned }])

/-- A line leaves the directory. -/
def dropDir (d : Dev) (u : Nat) : Dev := d.setDir (d.hlk.dir.filter fun l => decide (l.unit ≠ u))

/-- R491: a RD_SHARED or RD_OWN of a line that nothing holds back: with the directory full it recalls an entry and
waits. -/
def reqCached (d : Dev) (m : HlkMsg) (errs : List MemErr) : Dev :=
  let o := reqOffset m
  let u := o / 64
  if (d.dirAt u).isNone && decide (1048576 ≤ d.hlk.dir.length) then
    match d.hlk.dir.head? with
    | some l => (d.recallLine l.unit true).holdAccess (.message m)
    | none => d
  else
    let (code, d) := d.readHbm o 64 (d.hostHint o) 0 errs
    if code ≠ 0 then d.refuseHlk m code
    else (d.grant u (decide (m.op = 2))).respond m m.op 0 (d.hbmBytes o 64)

/-- The bytes of a companion write stored in HBM. -/
def reqStore (d : Dev) (m : HlkMsg) (errs : List MemErr) : Dev :=
  let o := reqOffset m
  let (code, d) := d.writeHbm o m.payload (d.hostHint o) 0 errs
  if code = 0 then d.respond m 3 0 [] else d.refuseHlk m code

/-- R490: a message of the companion that gives back an owned line: a WRBACK, whose data is written and acknowledged,
or the answer to a recall (R491), whose data is stored when there is some, and whose line is shared or leaves the
directory. While the line's frame is copied it waits (R240). -/
def returnIn (d : Dev) (m : HlkMsg) (errs : List MemErr) : Dev :=
  let u := d.returnUnit m
  if d.frameBusy u then { d with mem := { d.mem with returns := d.mem.returns ++ [m] } }
  else if m.cls = HC.req then (d.dropDir u).reqStore m errs
  else
    let inv := (d.dirAt u).any fun l => (l.snoop.map Prod.fst) = some true
    let d := if inv then d.dropDir u
      else d.setDir (d.hlk.dir.map fun x => if x.unit = u then { x with owned := false, snoop := none } else x)
    if m.payload.length = 64 then (d.writeHbm (64 * u) m.payload (d.hostHint (64 * u)) 0 errs).2 else d

/-- R485: an earlier request of the companion to one of its lines waits. -/
def reqBehind (d : Dev) (m : HlkMsg) : Bool :=
  d.mem.held.any fun w => match w with
    | .message x => Dev.sameUnit (reqOffset m, reqBytes m) (reqOffset x, reqBytes x)
    | _ => false

/-- R490, R491: a checked request of the companion to memory, applied or held. A WRBACK of a line that the companion
owns, and an EVICT_CLEAN, wait for no access that waits for that line; a WRBACK of a line that it does not own is
written like any other write. -/
def reqMem (d : Dev) (m : HlkMsg) (errs : List MemErr) : Dev :=
  let o := reqOffset m
  if 0x100000000000 ≤ o then d.reqSram m
  else if m.op = 6 then if d.reqBehind m then d.holdAccess (.message m) else d.dropDir (o / 64)
  else if m.op = 5 ∧ (d.dirAt (o / 64)).any fun l => l.owned then
    if d.reqBehind m then d.holdAccess (.message m) else d.returnIn m errs
  else match d.hbmHeld o (reqBytes m) (decide (m.op = 4 ∨ m.op = 5)) with
    | (true, d) => d.holdAccess (.message m)
    | (false, d) =>
      if m.op = 4 ∨ m.op = 5 then d.reqStore m errs
      else if m.op = 3 then
        let (code, d) := d.readHbm o m.length (d.hostHint o) 0 errs
        if code = 0 then d.respond m 1 0 (d.hbmBytes o m.length) else d.refuseHlk m code
      else d.reqCached m errs

/-! ### Accesses of the Eyepiece (R564) and of the rows HBM_READ and HBM_WRITE -/

def modMgmt (d : Dev) (f : MgmtSt → MgmtSt) : Dev := { d with mgmt := f d.mgmt }

/-- An access of the Eyepiece is done: the next scan captures its code and its data. -/
def eyeDone (d : Dev) (code : Nat) (v : Word) : Dev := d.modMgmt fun x => { x with eyeCode := code, eyeData := v }

/-- A memory read by the Eyepiece that nothing holds back. -/
def eyeLoad (d : Dev) (o : Nat) (errs : List MemErr) : Dev :=
  if o < 0x100000000000 then
    let (code, d) := d.readHbm o 8 hintStream 0 errs
    d.eyeDone code (if code = 0 then BitVec.ofNat 64 (leNat (d.hbmBytes o 8)) else 0)
  else d.eyeDone 0 (BitVec.ofNat 64 (leNat ((List.range 8).map fun k => d.sramByte (o + k))))

/-- A memory write by the Eyepiece that nothing holds back. -/
def eyeStore (d : Dev) (o : Nat) (v : Word) (errs : List MemErr) : Dev :=
  let bs := leBytes 8 v.toNat
  if o < 0x100000000000 then
    let (code, d) := d.writeHbm o bs hintStream 0 errs
    d.eyeDone code 0
  else ((List.range 8).foldl (fun d k => d.setSramByte (o + k) (bs.getD k 0)) d).eyeDone 0 0

/-- R216, R240, R491, R85: a checked memory access of the Eyepiece, done or held. -/
def eyeMem (d : Dev) (a : EyeAccess) (errs : List MemErr) : Dev :=
  let o := localOf (eyeAddr a)
  let write := match a with
    | .writeMem _ _ _ => true
    | _ => false
  let act (d : Dev) : Dev := match a with
    | .writeMem _ _ v => d.eyeStore o v errs
    | _ => d.eyeLoad o errs
  if o < 0x100000000000 then
    match d.hbmHeld o 8 write with
    | (true, d) => d.holdAccess (.eye a)
    | (false, d) => act d
  else match d.copyingAt o 8 with
    | some c => d.hold c (.eye a)
    | none => act d

/-- HBM_READ: the access's outcome is the step's answer. -/
def rawLoad (d : Dev) (o n hint use : Nat) (errs : List MemErr) : Dev :=
  match d.hbmHeld o n false with
  | (true, d) => d.holdAccess (.load o n hint use)
  | (false, d) =>
    let (code, d) := d.readHbm o n hint use errs
    { d with answer := { code := code, data := if code = 0 then d.hbmBytes o n else [] } }

/-- HBM_WRITE. -/
def rawStore (d : Dev) (o : Nat) (bs : List Byte) (hint use : Nat) (errs : List MemErr) : Dev :=
  match d.hbmHeld o bs.length true with
  | (true, d) => d.holdAccess (.store o bs hint use)
  | (false, d) =>
    let (code, d) := d.writeHbm o bs hint use errs
    { d with answer := { code := code } }

/-! ### What waited -/

/-- A waiting access tried again. -/
def retry (d : Dev) (errs : List MemErr) : Waiting → Dev
  | .packet p =>
    match if p.type = PT.atomic ∧ !d.occulted then d.replyOf p else none with
    | some r => d.replyAnswer p r
    | none => d.applyMem p errs
  | .message m => d.reqMem m errs
  | .eye a => d.eyeMem a errs
  | .load o n hint use => d.rawLoad o n hint use errs
  | .store o bs hint use => d.rawStore o bs hint use errs
  | .table n v => keepSetting d (d.writeGroupCfg n v errs) ⟨.COL_GROUP_n_CFG, 0, n, 0⟩

/-- What waited for a frame copy, a recall or a companion line is tried again in the order in which it came: first the
lines that the companion gives back. -/
def retryHeld (d : Dev) (errs : List MemErr) : Dev :=
  let d := d.mem.returns.foldl (fun d m => d.returnIn m errs) { d with mem := { d.mem with returns := [] } }
  d.mem.held.foldl (fun d w => d.retry errs w) { d with mem := { d.mem with held := [] } }

/-- R243, R492: a waiting access ends with HBM_POISON. -/
def poisonWaiting (d : Dev) (u : Nat) (w : Waiting) : Dev :=
  let d := d.logHbm Code.HBM_POISON u
  match w with
  | .packet p => d.refuse p Code.HBM_POISON
  | .message m => d.refuseHlk m Code.HBM_POISON
  | .eye _ => d.eyeDone Code.HBM_POISON 0
  | .load _ _ _ _ => { d with answer := { code := Code.HBM_POISON } }
  | .store _ _ _ _ => { d with answer := { code := Code.HBM_POISON } }
  | .table n v => keepSetting d (d.groupUnread n v) ⟨.COL_GROUP_n_CFG, 0, n, 0⟩

/-! ### What the companion answers -/

/-- R488: a line filled by the companion. -/
def fillLine (d : Dev) (r : HlkReq) (st : CompSt) (data : List Byte) (errs : List MemErr) : Dev :=
  let u := r.off / 64
  let l : Line := { unit := u, kept := r.kept, count := r.count, comp := some st, dirty := decide (st = .m), data := data }
  if (d.lineAt u).isSome then d.putLine l else d.allocate l (some (d.hostWays u)) errs

/-- A job with a response to one of its requests taken in. -/
def jobStep (r : HlkReq) (code : Nat) (data : List Byte) (j : WinJob) : WinJob :=
  if !j.waits.contains r.tag then j
  else
    let base := if r.want = .read then r.off else r.off / 64 * 64
    let o := localOf j.pkt.addr
    let got := if isWrite j.pkt || decide (code ≠ 0) then j.got
      else (List.range data.length).foldl (fun g k =>
        if o ≤ base + k ∧ base + k < o + spanOf j.pkt then NMap.set none g (base + k) (some (data.getD k 0)) else g) j.got
    { j with waits := j.waits.filter fun t => decide (t ≠ r.tag), code := if j.code = 0 then code else j.code, got := got }

/-- Jobs that wait for nothing more are answered, oldest first. -/
def finishJobs (d : Dev) : Dev :=
  (d.mem.jobs.filter fun j => decide (j.waits = [])).foldl (fun d j => d.finishJob j)
    (d.setJobs (d.mem.jobs.filter fun j => decide (j.waits ≠ [])))

/-- R488: a response of the companion to a request of the AK20: data, an acknowledgement, or a refusal with its code. -/
def companionAnswer (d : Dev) (tag code : Nat) (excl : Bool) (data : List Byte) (errs : List MemErr) : Dev :=
  match d.hlk.reqs.find? fun r => decide (r.tag = tag) with
  | none => d
  | some r =>
    let d := { d with hlk := { d.hlk with reqs := d.hlk.reqs.erase r } }
    let d := match r.want, decide (code = 0) with
      | .fill want, true =>
        let writer : Option WinJob := d.mem.jobs.find? fun (j : WinJob) => j.waits.contains tag && isWrite j.pkt
        match want, writer with
        | true, some j =>
          let o := localOf j.pkt.addr
          let lo := max o r.off
          let hi := min (o + spanOf j.pkt) (r.off + 64)
          let l := lineWrite { unit := r.off / 64, kept := r.kept, data := data } lo (((dataOf j.pkt).drop (lo - o)).take (hi - lo))
          d.fillLine r .m l.data errs
        | _, _ => d.fillLine r (if excl then .e else .s) data errs
      | _, _ => d
    ((d.setJobs (d.mem.jobs.map fun j => jobStep r code data j)).finishJobs).retryHeld errs

end Dev

/-! ### The commands -/

/-- The access as the manual's HBM_READ gives it. -/
def execHbmRead (offset bytes hint useCount : Nat) (errs : List MemErr) (s : State) : Host.Outcome State Fault Refusal :=
  s.upd fun d =>
    if d.areaOf offset bytes ≠ some .hbm then { d with answer := { code := Code.GAS_ADDR_ERROR } }
    else d.rawLoad offset bytes hint useCount errs

def execHbmWrite (offset : Nat) (data : List Byte) (hint useCount : Nat) (errs : List MemErr) (s : State) :
    Host.Outcome State Fault Refusal :=
  s.upd fun d =>
    if d.areaOf offset data.length ≠ some .hbm then { d with answer := { code := Code.GAS_ADDR_ERROR } }
    else d.rawStore offset data hint useCount errs

/-- R240: what the frame's copy held goes on to the frame's new place. -/
def execMapoutFrameDone (bad : List Nat) (errs : List MemErr) (s : State) (fixed : List Nat := []) : Host.Outcome State Fault Refusal :=
  s.upd fun d => (d.frameCopied bad fixed).retryHeld errs

end Sys2Proof.Machine
end

