-- ==== Sys2Proof/Machine/Occult.lean ====
section
/-! DEFINITION. The loss of the Perdun link (R496), occultation of a unit of this device and its lifting (R470, R594, R614,
R615, R620, R621), and notices (R616 to R619). -/

namespace Sys2Proof.Machine

open Sys2Proof

/-- The module's occultable units by their health index (R627); a die has none, and its records carry 0xFFFF. -/
def dieIndex : Nat := 0xFFFF

namespace Dev

/-! ### The loss of the Perdun link (R496) -/

/-- The poison pattern written to a unit and to its line in the cache (R224, R492, R496). -/
def poisonUnit (d : Dev) (u : Nat) : Dev := (d.dropLineOf u).setPoison u true

def countLost (d : Dev) (n : Nat) : Dev := d.bump F.HLK_ERR_CNT.LOST_CNT F.HLK_ERR_CNT.LOST_SAT n

/-- R496: every outstanding COUNTER ends. -/
def endCounters (d : Dev) : Dev :=
  (List.range 128).foldl (fun d c =>
    if (d.core c).signals.any fun x => decide (x.dest = 3) then
      d.modCore c fun k => { k with signals := k.signals.filter fun x => decide (x.dest ≠ 3) }
    else d) d

/-- HLK_STAT outside service. -/
def hlkIdle (d : Dev) : Dev := (d.sf F.HLK_STAT.REVISION 0).sf F.HLK_STAT.STATE d.hostState

/-- R496: the link leaves service. -/
def linkDown (d : Dev) (errs : List MemErr) : Dev :=
  if !d.hlkUp then d
  else
    let d := (d.hlkIdle.logHlk Code.HLK_LINK_DOWN 0 0).raise 688
    let jobs := d.mem.jobs
    let d := jobs.foldl (fun d j => d.refuse j.pkt Code.HLK_LINK_DOWN) (d.setJobs [])
    let d := d.endCounters
    let comps := d.mem.lines.filter fun l => l.comp.isSome
    let dirty := (comps.filter fun l => decide (l.comp = some .m)).length
    let d := d.setLines (d.mem.lines.filter fun l => l.comp.isNone)
    let owned := d.hlk.dir.filter fun l => l.owned
    let d := owned.foldl (fun d l => d.poisonUnit l.unit) d
    let d := { d with
      hlk := { nextTag := d.hlk.nextTag }
      mem := { d.mem with returns := [], held := d.mem.held.filter fun w => match w with
        | .message _ => false
        | _ => true }
      int := { d.int with running := d.int.running.filter fun e => decide (e.1 < 4) } }
    let lost := dirty + owned.length
    let d := if lost = 0 then d else (d.countLost lost).logHlk Code.HLK_LINES_LOST 0 lost
    let d : Dev := d.retryHeld errs
    if d.gf F.HLK_STAT.STATE = 2 then d.sendHello else d

/-- R477, R483, R496: what becomes of the Perdun link when an event takes host ports out of service: the other port
carries on, or the link leaves service. `d` was before the event, and `e` is after it. -/
def hostWatch (d e : Dev) (errs : List MemErr) : Dev :=
  let lost := d.hostPorts.filter fun n => !e.hostPorts.contains n
  if lost.isEmpty || !e.hlkUp then e
  else if e.hostPorts.isEmpty then e.linkDown errs
  else lost.foldl resendCrossed e

/-! ### Notices (R616 to R619) -/

/-- The whole torus as a group of which this device is one member, with every wrap link allowed (R616). -/
def torus (d : Dev) : Geo :=
  let ext := (List.range 3).map d.dim
  { list := false, p := ext.foldl (· * ·) 1, ext := ext, closed := [true, true, true], keeper := 0
    rank := coordOf d.self 0 + d.dim 0 * coordOf d.self 1 + d.dim 0 * d.dim 1 * coordOf d.self 2 }

def rankDev (g : Geo) (r : Nat) : Nat := g.pos r 0 + 64 * g.pos r 1 + 4096 * g.pos r 2

def devRank (g : Geo) (i : Nat) : Nat := coordOf i 0 + g.stride 1 * coordOf i 1 + g.stride 2 * coordOf i 2

/-- The neighbours of a rank: the only ranks whose parent it can be. -/
def treeNear (g : Geo) (r : Nat) : List Nat :=
  ((List.range 3).flatMap fun k =>
    [g.withPos r k ((g.pos r k + 1) % g.extAt k), g.withPos r k ((g.pos r k + g.extAt k - 1) % g.extAt k)]).dedup

/-- The children of a device in the tree of R397 over the torus, rooted at a device. -/
def noticeKids (d : Dev) (root : Nat) : List Nat :=
  let g := d.torus
  ((treeNear g g.rank).filter fun x => decide (g.parent (devRank g root) x = some g.rank)).map (rankDev g)

/-- The code that a notice carries (R298). -/
def noticeCode (kind : Nat) : Nat :=
  if kind = 1 then Code.SAFE_OCCULTED else if kind = 2 then Code.SAFE_RESTORED else Code.SAFE_DEVICE_LOST

/-- R298, R616: one copy of a notice to every child of this device in the sender's tree. -/
def noticeCopy (d : Dev) (root kind dev count epoch : Nat) : Dev :=
  (d.noticeKids root).foldl (fun d k =>
    d.send
      { d.packet PT.notice 0 k with
        src := root, origin := root, length := 64
        payload := leBytes 2 kind ++ leBytes 2 count ++ leBytes 4 epoch ++ leBytes 4 dev ++ leBytes 2 (noticeCode kind)
          ++ List.replicate 50 0 }) d

/-- R615, R616: a notice broadcast: the first copy now, two more to come. A device whose S-die is not in service, or
whose coordinates are not valid, sends none. -/
def broadcast (d : Dev) (kind dev : Nat) : Dev :=
  if d.sdieDown || !d.coordsValid then d
  else
    let n := d.safe.noticeCount % 65536
    let s := d.safe
    let x : NoticeOut := { kind := kind, dev := dev, count := n, left := 2 }
    let d := { d with safe := { s with noticeCount := s.noticeCount + 1, notices := s.notices ++ [x] } }
    d.noticeCopy d.self kind dev n (d.gf F.GAS_EPOCH.EPOCH)

/-- R616: the next copy of a notice of this device. -/
def nextCopy (d : Dev) (count : Nat) : Dev :=
  match d.safe.notices.find? fun x => decide (x.count = count) with
  | some x =>
    let rest := if x.left ≤ 1 then d.safe.notices.erase x
      else d.safe.notices.map fun y => if y = x then { y with left := y.left - 1 } else y
    { d with safe := { d.safe with notices := rest } }.noticeCopy d.self x.kind x.dev x.count (d.gf F.GAS_EPOCH.EPOCH)
  | none => d

/-- R618: a device enters the GAS units' list; the oldest entry leaves a full one. -/
def listDevice (d : Dev) (dev : Nat) : Dev :=
  let l := (d.listed.erase dev) ++ [dev]
  { d with listed := l.drop (l.length - 64) }

/-- R269, R414, R617, R618: an occultation or a loss of a device handed to the GAS units and the collective slots. -/
def deviceGone (d : Dev) (dev : Nat) : Dev := ((d.listDevice dev).endAccessesTo dev).memberLost dev

/-- R617: the record of a notice. -/
def noticeRecord (d : Dev) (kind sender dev : Nat) : Dev :=
  d.report
    { code := noticeCode kind, source := srcOf 31 sender
      d0 := if kind = 3 then dev else 1481, d1 := 0, device := dev, remote := true }

/-- R617 to R619: what a device does with a notice, once. -/
def actNotice (d : Dev) (kind sender dev : Nat) : Dev :=
  if kind = 2 then
    if d.listed.contains dev then ({ d with listed := d.listed.erase dev }).noticeRecord kind sender dev else d
  else ((d.deviceGone dev).noticeRecord kind sender dev).raise 130

/-- R616, R617: a notice packet arrives: the first copy is acted on, and every copy goes on to the children. -/
def noticeIn (d : Dev) (p : Packet) : Dev :=
  let b := p.payload
  let get (lo n : Nat) : Nat := leNat ((b.drop lo).take n)
  let kind := get 0 1
  let count := get 2 2
  let epoch := get 4 4
  let dev := get 8 4 % 2 ^ 18
  let id := (p.src, epoch, count)
  let d := d.noticeCopy p.src kind dev count epoch
  if d.safe.seen.contains id || decide (p.src = d.self) then d
  else { d with safe := { d.safe with seen := d.safe.seen ++ [id] } }.actNotice kind p.src dev

/-! ### Occultation -/

/-- The logical cores that an occultation covers. -/
def covers (u : OccUnit) (c : Nat) : Bool :=
  match u with
  | .core k => decide (k.val = c)
  | .island n => decide (c / 4 = n.val)
  | .die k => decide (c / 16 = k.val)
  | .device => false

/-- A logical core leaves service (R470, R594, R621): it holds no physical core, and a slot whose home core it is closes
(R414). -/
def coreOut (d : Dev) (c : Nat) : Dev :=
  if d.inService c then
    let p := d.physOf c
    ({ d with safe := { d.safe with phys := NMap.set 7 d.safe.phys c p } }.setPhys (c / 4) (c % 4) 7).homeCoreLost c
  else d

/-- A logical core that no occultation covers any longer returns to the physical core that it held. -/
def coreBack (d : Dev) (c : Nat) : Dev :=
  if d.inService c || d.safe.occs.any fun x => covers x.unit c then d
  else d.setPhys (c / 4) (c % 4) (NMap.get 7 d.safe.phys c)

/-- The dies whose loss occults the device (R470): X-dies, the S-die and the M-die. -/
def occultsDevice (k : Nat) : Bool := (decide (8 ≤ k) && decide (k ≤ 12)) || decide (k = 19)

/-- The health index that names a unit in R614's records. -/
def unitIndex (d : Dev) : OccUnit → Nat
  | .core c => healthCore c (d.physOf c)
  | .island n => 1408 + n
  | .die k => if occultsDevice k then 1481 else dieIndex
  | .device => 1481

/-- R614: a record of an occultation or its lifting, and interrupt source 129. -/
def occRecord (d : Dev) (code die unit cause : Nat) : Dev := (d.logAt code die unit unit cause).raise 129

/-- The die that a record names as the unit's. -/
def unitDie : OccUnit → Nat
  | .core c => c / 16
  | .island n => n / 8
  | .die k => k
  | .device => dieM

/-- The device is occulted: by itself or by a die of it. -/
def deviceOcculted (l : List Occ) : Bool :=
  l.any fun x => match x.unit with
    | .device => true
    | .die k => occultsDevice k
    | _ => false

/-- R470, R615: the device as a whole: its GAS units and slots act (R614), and a notice goes out. -/
def deviceOut (d : Dev) : Dev :=
  if d.occulted then d
  else (((({ d with occulted := true }).sf F.GAS_REPLY_STAT.FROZEN 1).endAccessesTo d.self).memberLost d.self).broadcast 1 d.self

/-- R281: a purge that waited for the occultation to lift. -/
def purgeReplies (d : Dev) : Dev :=
  if !d.on F.GAS_REPLY_PURGE.REQ || d.occulted then d
  else
    let all := d.on F.GAS_REPLY_PURGE.ALL
    let dev := d.gf F.GAS_REPLY_PURGE.DEVICE
    let gone (r : Reply) : Bool := (all || decide (r.dev = dev)) && decide (r.made + r.life ≤ d.chrono)
    let n := (d.gas.replies.filter gone).length
    let d := (d.setReplies (d.gas.replies.filter fun r => !gone r)).sf F.GAS_REPLY_PURGE.REQ 0
    d.logTarget Code.GAS_REPLY_PURGED dev n

/-- R279, R615: the device is no longer occulted. -/
def deviceBack (d : Dev) : Dev :=
  if !d.occulted || deviceOcculted d.safe.occs then d
  else (((({ d with occulted := false }).sf F.GAS_REPLY_STAT.FROZEN 0).sweepReplies).purgeReplies).broadcast 2 d.self
    |>.retryHeld []

/-- R470, R308: a die is lost: its cores, its face, or the device with it. -/
def dieOut (d : Dev) (k : Nat) : Dev :=
  let d := d.sf F.DLK_DIE_k_INV.OCCULTED 1 0 k
  if k < 8 then (List.range 16).foldl (fun d c => d.coreOut (16 * k + c)) d
  else if k = 12 then ((List.range 6).foldl (fun d f => d.faceFall f) d).deviceOut
  else if occultsDevice k then d.deviceOut
  else
    let f := k - 13
    let d := (d.sf F.XFB_FACE_f_STAT.OCCULTED 1 0 f).faceFall f
    if f = 0 then d.linkDown [] else d

/-- R614: a unit of this device is occulted, for a cause; `ctrl` says that SAFE_OCCULT_CTRL made it. -/
def occult (d : Dev) (u : OccUnit) (cause : Nat) (ctrl : Bool) : Dev :=
  if d.safe.occs.any fun x => decide (x.unit = u) then d
  else
    let d := d.occRecord Code.SAFE_OCCULTED (unitDie u) (d.unitIndex u) cause
    let d := { d with safe := { d.safe with occs := d.safe.occs ++ [{ unit := u, ctrl := ctrl }] } }
    match u with
    | .core c => d.coreOut c
    | .island n => (List.range 4).foldl (fun d c => d.coreOut (4 * n + c)) d
    | .die k => d.dieOut k
    | .device => d.deviceOut

/-- R614, R655: an occultation is lifted. -/
def lift (d : Dev) (u : OccUnit) : Dev :=
  if !d.safe.occs.any fun x => decide (x.unit = u) then d
  else
    let d := { d with safe := { d.safe with occs := d.safe.occs.filter fun x => decide (x.unit ≠ u) } }
    let d := match u with
      | .core c => d.coreBack c
      | .island n => (List.range 4).foldl (fun d c => d.coreBack (4 * n + c)) d
      | .die k =>
        let d := d.sf F.DLK_DIE_k_INV.OCCULTED 0 0 k
        if k.val < 8 then (List.range 16).foldl (fun d c => d.coreBack (16 * k + c)) d
        else if 13 ≤ k.val ∧ k.val ≤ 18 then d.sf F.XFB_FACE_f_STAT.OCCULTED 0 0 (k - 13)
        else d
      | .device => d
    (d.occRecord Code.SAFE_RESTORED (unitDie u) (d.unitIndex u) 0).deviceBack

/-! ### SAFE_OCCULT_CTRL (R619, R621) -/

/-- R621: the unit that a health index names: an engine or a physical core that a logical core holds, a cluster
island, or the device. -/
def ctrlUnit (d : Dev) (u : Nat) : Option OccUnit :=
  let holder (cl p : Nat) : Option OccUnit :=
    match lowestBelow (fun l => decide (d.physOf (4 * cl + l) = p)
        || (!d.inService (4 * cl + l) && decide (NMap.get 7 d.safe.phys (4 * cl + l) = p))) 4 with
    | some l => if h : 4 * cl + l < 128 then some (.core ⟨4 * cl + l, h⟩) else none
    | none => none
  if u < 320 then holder (4 * (u / 40) + u % 40 / 10) (u % 10 / 2)
  else if u < 480 then holder (4 * ((u - 320) / 20) + (u - 320) % 20 / 5) ((u - 320) % 5)
  else if h : 1408 ≤ u ∧ u < 1440 then some (.island ⟨u - 1408, by omega⟩)
  else if u = 1481 then some .device
  else none

/-- REQ of SAFE_OCCULT_CTRL. -/
def occultReq (d : Dev) : Dev :=
  let op := d.gf F.SAFE_OCCULT_CTRL.OP
  let dev := d.gf F.SAFE_OCCULT_CTRL.DEVICE
  let refused := d.logAt Code.SAFE_OCCULT_REFUSED dieM 0xFFFF (d.reg ⟨.SAFE_OCCULT_CTRL, 0, 0, 0⟩).toNat 0
  match op with
  | 0 =>
    match d.ctrlUnit (d.gf F.SAFE_OCCULT_CTRL.UNIT) with
    | some u => d.occult u 0 true
    | none => refused
  | 1 =>
    match d.ctrlUnit (d.gf F.SAFE_OCCULT_CTRL.UNIT) with
    | some u => if d.safe.occs.any fun x => decide (x.unit = u) && x.ctrl then d.lift u else refused
    | none => refused
  | 2 =>
    if dev = d.self then refused else (d.broadcast 3 dev).actNotice 3 d.self dev
  | _ => refused

end Dev

/-! ### The commands -/

/-- A unit of this device is occulted by the rule of a chapter, with the code of the cause, or its occultation is
lifted. -/
def execOccultation (unit : OccUnit) (cause : Nat) (lifted : Bool) (s : State) : Host.Outcome State Fault Refusal :=
  s.upd fun d => if lifted then d.lift unit else d.occult unit cause false

def execNoticeCopyTimer (count : Nat) (s : State) : Host.Outcome State Fault Refusal := s.upd fun d => d.nextCopy count

def execOccultationNotice (p : Packet) (s : State) : Host.Outcome State Fault Refusal :=
  s.upd fun d => if p.type = PT.notice ∧ p.payload.headD 0 = 1 then (d.consume p).noticeIn p else d

def execRestorationNotice (p : Packet) (s : State) : Host.Outcome State Fault Refusal :=
  s.upd fun d => if p.type = PT.notice ∧ p.payload.headD 0 = 2 then (d.consume p).noticeIn p else d

def execDeviceLostNotice (p : Packet) (s : State) : Host.Outcome State Fault Refusal :=
  s.upd fun d => if p.type = PT.notice ∧ p.payload.headD 0 = 3 then (d.consume p).noticeIn p else d

end Sys2Proof.Machine
end

