-- ==== Sys2Proof/Machine/PortCmds.lean ====
section
/-! DEFINITION. The rows of the optical ports (chapter 9). What takes a host port out of service is told to the Perdun link
(R477, R483, R496). -/

namespace Sys2Proof.Machine

open Sys2Proof

/-- What a port row does to a port that exists. -/
def Dev.onPort (d : Dev) (p n : Nat) (f : Dev → Dev) : Dev :=
  if !portExists p n then d else if n < 8 then f d else Dev.hostWatch d (f d) []

/-! ### The commands -/

def execPortLightDone (die : Fin 6) (port : Fin 10) (s : State) : Host.Outcome State Fault Refusal :=
  s.upd fun d => d.onPort die port fun d => d.lightDone die port

def execPortLockDone (die : Fin 6) (port : Fin 10) (s : State) : Host.Outcome State Fault Refusal :=
  s.upd fun d => d.onPort die port fun d => d.lockDone die port

def execPortAlignDone (die : Fin 6) (port : Fin 10) (s : State) : Host.Outcome State Fault Refusal :=
  s.upd fun d => d.onPort die port fun d => d.alignDone die port

def execPortExchange (die : Fin 6) (port : Fin 10) (farFace farPort : Fin 16) (farMap farDead : List Nat) (s : State) :
    Host.Outcome State Fault Refusal :=
  s.upd fun d => d.onPort die port fun d => d.exchange die port farFace farPort farMap farDead

def execPortQualifyDone (die : Fin 6) (port : Fin 10) (s : State) : Host.Outcome State Fault Refusal :=
  s.upd fun d => d.onPort die port fun d => d.qualifyDone die port

def execGroupReceive (die : Fin 6) (port : Fin 10) (group : OptRx) (s : State) : Host.Outcome State Fault Refusal :=
  s.upd fun d => d.onPort die port fun d => d.groupReceive die port group

def execReplayRequest (die : Fin 6) (port : Fin 10) (ack : Fin 16777216) (good : Bool) (s : State) :
    Host.Outcome State Fault Refusal :=
  s.upd fun d => d.onPort die port fun d => d.replayRequest die port ack good

def execAprEntry (die : Fin 6) (port : Fin 10) (s : State) : Host.Outcome State Fault Refusal :=
  s.upd fun d => d.onPort die port fun d => d.aprEntry die port

def execAprLightReturn (die : Fin 6) (port : Fin 10) (s : State) : Host.Outcome State Fault Refusal :=
  s.upd fun d => d.onPort die port fun d => d.aprReturn die port

def execMonitorRefresh (die : Fin 6) (readings : List PortMon) (s : State) : Host.Outcome State Fault Refusal :=
  s.upd fun d => readings.foldl (fun d m => d.monitor die m) d

/-- The port's own reading goes to the far end, and the far end's is stored (R354). -/
def execEdgePowerReport (die : Fin 6) (port : Fin 10) (farEdge : Int) (s : State) : Host.Outcome State Fault Refusal :=
  s.upd fun d => d.onPort die port fun d =>
    if (d.port die port).step = .up then
      (d.sf F.OPT_PORT_n_POWER.FAR_EDGE_OUT (w16 farEdge) die port).optSend die port
        (.power (d.gf F.OPT_PORT_n_POWER.EDGE_OUT die port))
    else d

def execLossCheck (die : Fin 6) (s : State) : Host.Outcome State Fault Refusal := s.upd fun d => d.lossCheck die

def execHeliostatAdjust (die : Fin 6) (port : Fin 10) (channel : Fin 18) (bias power eta : Nat) (s : State) :
    Host.Outcome State Fault Refusal :=
  s.upd fun d => d.onPort die port fun d => d.heliostat die port channel bias power eta

def execSeeingWindow (die : Fin 6) (port : Fin 10) (s : State) : Host.Outcome State Fault Refusal :=
  s.upd fun d => d.onPort die port fun d => d.seeingWindow die port

def execSpareSwapStart (die : Fin 6) (port : Fin 10) (s : State) : Host.Outcome State Fault Refusal :=
  s.upd fun d => d.onPort die port fun d => d.startSwap die port

def execSpareLightDone (die : Fin 6) (port : Fin 10) (ok : Bool) (s : State) : Host.Outcome State Fault Refusal :=
  s.upd fun d => d.onPort die port fun d => d.swapLight die port ok

def execSpareTrainDone (die : Fin 6) (port : Fin 10) (ok : Bool) (s : State) : Host.Outcome State Fault Refusal :=
  s.upd fun d => d.onPort die port fun d => d.swapTrain die port ok

def execMirrorQualified (die : Fin 6) (port : Fin 10) (s : State) : Host.Outcome State Fault Refusal :=
  s.upd fun d => d.onPort die port fun d => d.swapMirror die port

def execSwapSwitch (die : Fin 6) (port : Fin 10) (s : State) : Host.Outcome State Fault Refusal :=
  s.upd fun d => d.onPort die port fun d => d.swapSwitch die port

def execSwapCmdReceive (die : Fin 6) (port : Fin 10) (cmd : SwapCmd) (lane : Fin 16) (channel : Fin 18) (s : State) :
    Host.Outcome State Fault Refusal :=
  s.upd fun d => d.onPort die port fun d => d.swapCmd die port cmd lane channel

def execSwapRetireDone (die : Fin 6) (port : Fin 10) (s : State) (cal : Option ChanCal := none) :
    Host.Outcome State Fault Refusal :=
  s.upd fun d => d.onPort die port fun d => d.swapRetire die port cal

def execNoLightOnChannel (die : Fin 6) (port : Fin 10) (channel : Fin 18) (s : State) :
    Host.Outcome State Fault Refusal :=
  s.upd fun d => d.onPort die port fun d => d.noLight die port channel

end Sys2Proof.Machine
end

