-- ==== Sys2Proof/Machine/Dlk.lean ====
section
/-! DEFINITION. The die-to-die links (chapter 12): frames and replay (R451 to R454), retraining and width agreement (R456 to
R465), failover and loss (R466 to R471), the management sideband and identities (R472 to R475). -/

namespace Sys2Proof.Machine

open Sys2Proof

/-- R456: the quarters chosen from a mask of sound quarters, as a mask. -/
def quarters (m : Nat) : Nat :=
  if m % 16 = 15 then 15
  else if m % 4 = 3 then 3
  else if m / 4 % 4 = 3 then 12
  else if m % 2 = 1 then 1
  else if m / 2 % 2 = 1 then 2
  else if m / 4 % 2 = 1 then 4
  else if m / 8 % 2 = 1 then 8
  else 0

/-- The kinds of link (the table of chapter 12). -/
inductive LinkKind where
  | cx (die : Nat) | cxAlt (die : Nat) | xs | sp (face : Nat) | ms | mx
  deriving DecidableEq, Repr

def linkKind (n : Nat) : LinkKind :=
  if n < 8 then .cx n else if n < 16 then .cxAlt (n - 8) else if n < 20 then .xs else if n < 26 then .sp (n - 20)
  else if n = 26 then .ms else .mx

/-- The control flit of a frame (R452). -/
structure Control where
  fseq : Nat
  ack : Nat
  nak : Bool
  idle : Bool
  retrain : Bool
  reset : Bool
  train : Nat
  xnum : Nat
  mask : Nat
  width : Nat
  level : Nat
  deriving DecidableEq, Repr

/-- Bytes 0 to 55 of a control flit (R452). -/
def Control.bytes (c : Control) : List Byte :=
  leBytes 2 c.fseq ++ leBytes 2 c.ack
    ++ leBytes 1 (c.nak.toNat + 2 * c.idle.toNat + 4 * c.retrain.toNat + 8 * c.reset.toNat)
    ++ leBytes 1 c.train ++ leBytes 1 c.xnum ++ leBytes 1 (c.mask % 16) ++ leBytes 1 (c.width % 16) ++ leBytes 1 c.level
    ++ List.replicate 46 0

/-- A frame as it goes over the wires: 16 payload flits and the control flit, with its CRC-64 (R451, R452). -/
def frameBytes (payload : List Byte) (c : Control) : List Byte :=
  let b := payload ++ c.bytes
  b ++ leBytes 8 (crc64 b)

/-- A frame of 1088 bytes split into its payload and its control flit; none when its CRC does not match (R453). -/
def frameOfBytes (b : List Byte) : Option (List Byte × Control) :=
  let c := (b.drop 1024).take 64
  if b.length ≠ 1088 ∨ crc64 (b.take 1080) ≠ leNat (c.drop 56) then none
  else
    let fl := leNat ((c.drop 4).take 1)
    some (b.take 1024,
      { fseq := leNat (c.take 2), ack := leNat ((c.drop 2).take 2), nak := bitOf fl 0, idle := bitOf fl 1
        retrain := bitOf fl 2, reset := bitOf fl 3, train := leNat ((c.drop 5).take 1), xnum := leNat ((c.drop 6).take 1)
        mask := leNat ((c.drop 7).take 1) % 16, width := leNat ((c.drop 8).take 1) % 16, level := leNat ((c.drop 9).take 1) })

namespace Dev

def link (d : Dev) (n : Nat) : Link := NMap.get {} d.dlk.links n

def setLink (d : Dev) (n : Nat) (l : Link) : Dev := { d with dlk := { d.dlk with links := NMap.set {} d.dlk.links n l } }

def linkEnd (d : Dev) (n : Nat) (init : Bool) : LinkEnd := if init then (d.link n).init else (d.link n).resp

def setEnd (d : Dev) (n : Nat) (init : Bool) (e : LinkEnd) : Dev :=
  let l := d.link n
  d.setLink n (if init then { l with init := e } else { l with resp := e })

def linkState (d : Dev) (n : Nat) : Nat := d.gf F.DLK_LINK_n_STAT.STATE 0 n

def setLinkState (d : Dev) (n v : Nat) : Dev := d.sf F.DLK_LINK_n_STAT.STATE v 0 n

/-- R476, R613: a package-link code about a link. -/
def logLink (d : Dev) (code n d1 : Nat) : Dev :=
  (d.sf F.DLK_LINK_n_STAT.LAST_CODE code 0 n).logAt code dieM (1312 + n) n d1

/-- R459, R460: both ends of a link log a code. -/
def logEnds (d : Dev) (code n d1 : Nat) : Dev := (d.logLink code n d1).logLink code n d1

/-! ### Frames -/

/-- The frames that an end has sent and that have not been acknowledged, oldest first (R453). -/
def unackedFrames (d : Dev) (n : Nat) (init : Bool) : List SentFrame :=
  let e := d.linkEnd n init
  e.replay.filter fun r => decide ((e.fseq + 65535 - r.fseq) % 65536 < (e.fseq + 65535 - e.acked) % 65536)

/-- The control flit of a frame of one end, without a training message: ACK names the last frame received good and in
order, and NAK asks for what follows it (R452, R453). -/
def control (d : Dev) (n : Nat) (init : Bool) (fseq : Nat) (idle : Bool) : Control :=
  let e := d.linkEnd n init
  { fseq := fseq, ack := (e.expect + 65535) % 65536, nak := e.waiting, idle := idle, retrain := false, reset := e.fresh
    train := 0, xnum := 0, mask := 0, width := 0, level := d.gf F.DLK_PKG_LEVEL.COMMON_LEVEL }

/-- A frame goes over the wires of a link. -/
def putFrame (d : Dev) (n : Nat) (init : Bool) (payload : List Byte) (c : Control) : Dev :=
  d.setLink n { d.link n with sent := (d.link n).sent ++ [(init, frameBytes payload c)] }

/-- R453, R463: the frames after the last ACK are resent in order. -/
def resendFrames (d : Dev) (n : Nat) (init : Bool) : Dev :=
  (d.unackedFrames n init).foldl (fun d r => d.putFrame n init r.payload (d.control n init r.fseq r.idle)) d

/-- R451, R453: an end sends its next frame and keeps its last 64. On a link in standby it is an idle frame (R466); on
a link that is up, whether the die has traffic for it and which bytes its flits carry is free (DESIGN CHOICE, log
entry 44). -/
def sendFrame (d : Dev) (n : Nat) (init : Bool) : Dev :=
  let e := d.linkEnd n init
  let idle := decide (d.linkState n = 4) || !Config.freeBit d.freeIx
  let payload := if idle then List.replicate 1024 0 else (List.range 1024).map fun a => Config.freeByte d.freeIx a
  let d := d.putFrame n init payload (d.control n init e.fseq idle)
  let kept := e.replay ++ [{ fseq := e.fseq, idle := idle, payload := payload }]
  { d.setEnd n init { e with fseq := (e.fseq + 1) % 65536, replay := kept.drop (kept.length - 64) } with freeIx := d.freeIx + 1 }

/-- What the links do in a step with no command waiting: both ends of each link that is up or in standby send a frame.
-/
def linkTick (d : Dev) : Dev :=
  ((List.range 31).filter fun n => [3, 4].contains (d.linkState n)).foldl (fun d n => (d.sendFrame n true).sendFrame n false) d

/-- R458, R459: a message of the exchange goes out in the control flit of an idle frame, which takes no FSEQ (DESIGN
CHOICE, log entry 44). -/
def sendTrain (d : Dev) (n : Nat) (init : Bool) (train width : Nat) : Dev :=
  let e := d.linkEnd n init
  d.putFrame n init (List.replicate 1024 0)
    { d.control n init e.fseq true with
      train := train, xnum := d.gf F.DLK_LINK_n_STAT.XNUM 0 n, mask := e.mask, width := width }

/-- R457: the responder's end asks for retraining and waits. -/
def askRetrain (d : Dev) (n : Nat) : Dev :=
  d.putFrame n false (List.replicate 1024 0) { d.control n false (d.linkEnd n false).fseq true with retrain := true }

/-- R464: an end learns that the other has been reset: it discards its replay buffer and every frame it has not passed
on, and logs the frames that no ACK has named. The S-die discards the packet of which flits were lost. -/
def farReset (d : Dev) (n : Nat) (init : Bool) : Dev :=
  let lost := (d.unackedFrames n init).length
  let d := if lost = 0 then d else d.logLink Code.DLK_FRAMES_LOST n lost
  let d := match linkKind n with
    | .sp f => if init then d.faceTake f .gap else d
    | _ => d
  let e := d.linkEnd n init
  d.setEnd n init { e with replay := [], acked := (e.fseq + 65535) % 65536, resent := 0, waiting := false }

/-- R464: an end whose die has been reset: FSEQ 0, an empty replay buffer, and RESET set until its next exchange. -/
def resetEnd (d : Dev) (n : Nat) (init : Bool) : Dev := d.setEnd n init { fresh := true }

/-- R463, R464: traffic resumes after an exchange. When neither end has been reset, each resends what follows the ACK
of the other. After a reset each end expects the other's next frame (DESIGN CHOICE, log entry 44). -/
def resumeFrames (d : Dev) (n : Nat) : Dev :=
  let i := d.linkEnd n true
  let r := d.linkEnd n false
  let renew := i.fresh || r.fresh
  let one (e o : LinkEnd) : LinkEnd :=
    if renew then
      { e with fresh := false, waiting := false, resent := 0, expect := o.fseq, acked := (e.fseq + 65535) % 65536 }
    else { e with waiting := false, resent := 0, acked := (o.expect + 65535) % 65536 }
  (((d.setEnd n true (one i r)).setEnd n false (one r i)).resendFrames n true).resendFrames n false

/-- R476, R613: a code about a die. -/
def logDie (d : Dev) (code k : Nat) : Dev := d.logAt code dieM 0xFFFF (k * 2 ^ 32) 0

/-- R457: a link retrains from full width: counted, scored and logged. -/
def retrain (d : Dev) (n : Nat) : Dev :=
  let d := d.bump F.DLK_LINK_n_ERR.RETRAIN_CNT F.DLK_LINK_n_ERR.RETRAIN_SAT 1 0 n
  let d := (d.logLink Code.DLK_RETRAIN n 0).score (1312 + n) 16 Code.DLK_RETRAIN
  let d := d.setLink n { d.link n with accepted := none, again := false }
  d.setLinkState n 1

/-- R467: the requests of C-die c that have left it and have had no response. The S-die sends those of collectives. -/
def dieRequests (d : Dev) (c : Nat) : List Req :=
  d.reqs.filter fun r => decide (r.core / 16 = c) && decide (r.kind ≠ .coll) && !d.held.contains r.pkt

/-- The types of packet that answer a request (R296). -/
def isResponse (t : Nat) : Bool :=
  [PT.readData, PT.writeAck, PT.atomicReply, PT.releaseAck, PT.busy, PT.refusal, PT.dmaData, PT.dmaAck].contains t

/-- A packet inside this device that answers a request of C-die c. -/
def answersDie (d : Dev) (c : Nat) (p : Packet) : Bool :=
  isResponse p.type && (d.dieRequests c).any fun r =>
    decide (r.pkt.dst = p.src) && decide (r.pkt.msg = p.msg) && decide (r.pkt.offset = p.offset)

/-- R467: of the responses on their way inside this device, those in flight on the failed link are lost; which ones
are is a free choice for each. -/
def loseResponses (d : Dev) (c : Nat) : Dev :=
  let gone (i : Nat) (p : Packet) : Bool := d.answersDie c p && Config.freeBit (d.freeIx + i)
  { d with
    inside := (((List.range d.inside.length).zip d.inside).filter fun e => !gone e.1 e.2).map Prod.snd
    freeIx := d.freeIx + d.inside.length }

/-- R467: a request sent once more as it was, with its tag, DSEQ and ISSUE_TIME. -/
def reissue (d : Dev) (p : Packet) : Dev :=
  if p.dst = d.self then { d with inside := d.inside ++ [p] } else { d with injected := d.injected ++ [p] }

/-- R466, R467: a C-die moves to its alternate link, which is trained, and re-issues its open requests over it. -/
def failover (d : Dev) (c : Nat) : Dev :=
  let d := { d with dlk := { d.dlk with moved := d.dlk.moved ++ [c] } }
  let d := ((d.setLinkState (8 + c) 3).logLink Code.DLK_FAILOVER c 0).loseResponses c
  (d.dieRequests c).foldl (fun d r => d.reissue r.pkt) d

/-- R470: what the loss of a link that stays down leads to. A link that is still training is not lost, and a C-die
that has moved to its alternate does not come back to its primary before the next start (R469). -/
def linkLost (d : Dev) (n : Nat) : Dev :=
  match linkKind n with
  | .cx c =>
    if d.dlk.moved.contains c || [1, 2].contains (d.linkState (8 + c)) then d
    else if d.linkState (8 + c) = 4 then d.failover c
    else if h : c < 20 then d.occult (.die ⟨c, h⟩) Code.DLK_LINK_FAILED false else d
  | .cxAlt c =>
    if !(d.dlk.moved.contains c || [5, 6].contains (d.linkState c)) then d
    else if h : c < 20 then d.occult (.die ⟨c, h⟩) Code.DLK_LINK_FAILED false else d
  | .sp f => if h : 13 + f < 20 then d.occult (.die ⟨13 + f, h⟩) Code.DLK_LINK_FAILED false else d
  | .xs | .ms | .mx => d.occult .device Code.DLK_LINK_FAILED false

/-- R465: an exchange has ended: a RETRAIN that waited is taken up. -/
def takeAgain (d : Dev) (n : Nat) : Dev :=
  if (d.link n).again then (d.sf F.DLK_LINK_n_STAT.FAILED_TRIES 0 0 n).retrain n else d

/-- R460: the link stays down; both ends log it. -/
def linkFailed (d : Dev) (n : Nat) : Dev :=
  (((d.setLinkState n 5).logEnds Code.DLK_LINK_FAILED n 0).linkLost n).takeAgain n

/-- R459, R460: an exchange fails: both ends log it, and the link is held down and retrains, or stays down after the
third in a row. -/
def exchangeFailed (d : Dev) (n : Nat) : Dev :=
  let tries := d.gf F.DLK_LINK_n_STAT.FAILED_TRIES 0 n + 1
  let d := d.bump F.DLK_LINK_n_ERR.MISMATCH_CNT F.DLK_LINK_n_ERR.MISMATCH_SAT 1 0 n
  let d := (d.logEnds Code.WIDTH_MISMATCH n 0).score (1312 + n) 64 Code.WIDTH_MISMATCH
  let d := d.sf F.DLK_LINK_n_STAT.FAILED_TRIES tries 0 n
  let d := d.setLink n { d.link n with accepted := none }
  if 3 ≤ tries then d.linkFailed n else if (d.link n).again then d.takeAgain n else d.retrain n

/-- R453: a frame that is good: its ACK frees frames, its NAK has those after it resent, or after 8 resends of the
first has the link retrain (R454); its payload is passed on when it is the frame expected. -/
def goodFrame (d : Dev) (n : Nat) (init : Bool) (payload : List Byte) (c : Control) : Dev :=
  let e := d.linkEnd n init
  let e := if c.ack = e.acked then e else { e with acked := c.ack, resent := 0 }
  let good := decide (c.fseq = e.expect)
  let e := if good then { e with expect := (e.expect + 1) % 65536, waiting := false } else e
  let d := d.setEnd n init e
  let l := d.link n
  let d := if good && !c.idle then d.setLink n { l with passed := l.passed ++ [(init, payload)] } else d
  if !c.nak then d
  else if 8 ≤ e.resent then (if init then d else d.askRetrain n).retrain n
  else
    let d := (d.setEnd n init { e with resent := e.resent + 1 }).resendFrames n init
    d.bump F.DLK_LINK_n_ERR.REPLAY_CNT F.DLK_LINK_n_ERR.REPLAY_SAT (d.unackedFrames n init).length 0 n

/-- R453, R454, R463, R464: a frame arrives at an end of a link that carries frames. -/
def frameIn (d : Dev) (n : Nat) (init : Bool) (bytes : List Byte) : Dev :=
  if !([3, 4].contains (d.linkState n)) then d
  else match frameOfBytes bytes with
    | none =>
      let d := d.bump F.DLK_LINK_n_ERR.CRC_CNT F.DLK_LINK_n_ERR.CRC_SAT 1 0 n
      let d := (d.logLink Code.DLK_CRC_ERROR n 1).score (1312 + n) 1 Code.DLK_CRC_ERROR
      d.setEnd n init { d.linkEnd n init with waiting := true }
    | some (payload, c) =>
      let d := d.incr F.DLK_LINK_n_FRAMES.FRAMES 1 0 n
      if c.reset then
        let d := d.farReset n init
        (d.setEnd n init { d.linkEnd n init with expect := (c.fseq + 1) % 65536 }).retrain n
      else if c.retrain then d.retrain n
      else d.goodFrame n init payload c

/-- R457: a clock group or a lane has lost lock. -/
def lockLost (d : Dev) (n : Nat) : Dev := if [3, 4].contains (d.linkState n) then (d.askRetrain n).retrain n else d

/-- R458: both ends have tested every quarter; the initiator proposes under a new XNUM. -/
def testDone (d : Dev) (n maskI maskR : Nat) : Dev :=
  if d.linkState n ≠ 1 then d
  else
    let d := d.setEnd n true { d.linkEnd n true with mask := maskI % 16 }
    let d := d.setEnd n false { d.linkEnd n false with mask := maskR % 16 }
    let d := d.sf F.DLK_LINK_n_STAT.XNUM (d.gf F.DLK_LINK_n_STAT.XNUM 0 n + 1) 0 n
    let d := (d.sf F.DLK_LINK_n_STAT.LOCAL_MASK maskI 0 n).sf F.DLK_LINK_n_STAT.FAR_MASK maskR 0 n
    (d.setLinkState n 2).sendTrain n true 1 0

/-- R459: what a message of the exchange must carry: the XNUM of the PROPOSE and the common feature level. -/
def exchangeOk (d : Dev) (n xnum level : Nat) : Bool :=
  decide (xnum = d.gf F.DLK_LINK_n_STAT.XNUM 0 n) && decide (level = d.gf F.DLK_PKG_LEVEL.COMMON_LEVEL)

/-- R458: the responder answers a PROPOSE with the width that the two masks give. A PROPOSE of an end that has been
reset says so (R464). -/
def propose (d : Dev) (n xnum mask level : Nat) : Dev :=
  if d.linkState n ≠ 2 then d
  else if !d.exchangeOk n xnum level then d.exchangeFailed n
  else
    let d := if (d.linkEnd n true).fresh then d.farReset n false else d
    let w := quarters (mask % 16 &&& (d.linkEnd n false).mask)
    (d.setLink n { d.link n with accepted := some w }).sendTrain n false 2 w

/-- R458 to R460: the initiator compares the ACCEPT's width with its own. -/
def accept (d : Dev) (n xnum mask width level : Nat) : Dev :=
  if d.linkState n ≠ 2 then d
  else
    let d := d.sf F.DLK_LINK_n_STAT.FAR_MASK mask 0 n
    let m := (d.linkEnd n true).mask &&& (mask % 16)
    if !d.exchangeOk n xnum level || decide (width ≠ quarters m) then d.exchangeFailed n
    else
      let d := if (d.linkEnd n false).fresh then d.farReset n true else d
      if m = 0 then d.linkFailed n
      else (d.setLink n { d.link n with accepted := some width }).sendTrain n true 3 width

/-- The STATE that a link takes when its width is agreed: an alternate link waits in standby, and so does a primary
that its C-die has left (R469). -/
def agreedState (d : Dev) (n : Nat) : Nat :=
  match linkKind n with
  | .cx c => if d.dlk.moved.contains c then 4 else 3
  | .cxAlt c => if d.dlk.moved.contains c then 3 else 4
  | _ => 3

/-- R466: an alternate link that trains after its primary has failed takes up the traffic. -/
def takeOver (d : Dev) (n : Nat) : Dev :=
  match linkKind n with
  | .cxAlt c => if !d.dlk.moved.contains c && [5, 6].contains (d.linkState c) then d.failover c else d
  | _ => d

/-- R464 and its example: the X-die's end has been reset alone, and the C-die whose traffic the link carries issues again
its requests that have had no response, as after a failover (R467). -/
def askAgain (d : Dev) (n : Nat) (lost : Bool) : Dev :=
  if lost && decide (n < 16) && decide (d.linkState n = 3) then (d.dieRequests (n % 8)).foldl (fun d r => d.reissue r.pkt) d
  else d

/-- R458, R461: both ends change to the agreed quarters, and traffic resumes. -/
def confirm (d : Dev) (n xnum width level : Nat) : Dev :=
  if d.linkState n ≠ 2 then d
  else if !d.exchangeOk n xnum level || decide ((d.link n).accepted ≠ some width) || decide (width = 0) then d.exchangeFailed n
  else
    let d := (d.sf F.DLK_LINK_n_STAT.QUARTERS width 0 n).sf F.DLK_LINK_n_STAT.FAILED_TRIES 0 0 n
    let d := (d.setLinkState n (d.agreedState n)).setLink n { d.link n with accepted := none }
    let d := (d.resumeFrames n).askAgain n (d.linkEnd n true).fresh
    let d := if width = 15 then d else
      (d.logLink Code.DLK_WIDTH_REDUCED n (width * 16 + ((d.linkEnd n true).mask &&& (d.linkEnd n false).mask))).score
        (1312 + n) 1024 Code.DLK_WIDTH_REDUCED
    (d.takeOver n).takeAgain n

/-- R459: a message has not arrived within 100 µs. -/
def exchangeTimeout (d : Dev) (n : Nat) : Dev := if d.linkState n = 2 then d.exchangeFailed n else d

/-- R457, R460, R465: RETRAIN written. -/
def retrainWrite (d : Dev) (n : Nat) : Dev :=
  if d.linkState n = 2 then d.setLink n { d.link n with again := true }
  else if d.linkState n = 6 then d
  else (d.sf F.DLK_LINK_n_STAT.FAILED_TRIES 0 0 n).retrain n

/-- R465, R466, R471: DOWN written. -/
def downWrite (d : Dev) (n : Nat) (v : Bool) : Dev :=
  if v = d.on F.DLK_LINK_n_CTRL.DOWN 0 n then d
  else if v then
    match linkKind n with
    | .cx c =>
      if [3, 4].contains (d.linkState (8 + c)) then
        let d := ((d.sf F.DLK_LINK_n_CTRL.DOWN 1 0 n).setLinkState n 6).setLink n
          { d.link n with accepted := none, again := false }
        if d.linkState (8 + c) = 4 then d.failover c else d
      else d.logLink Code.DLK_DOWN_REFUSED n 0
    | _ => d.logLink Code.DLK_DOWN_REFUSED n 0
  else (d.sf F.DLK_LINK_n_CTRL.DOWN 0 0 n).retrain n

/-- DLK_LINK_n_CTRL written. -/
def writeLinkCtrl (d : Dev) (n : Nat) (v : Word) : Dev :=
  let d := if getBits v 0 0 = 1 then d.retrainWrite n else d
  d.downWrite n (decide (getBits v 1 1 = 1))

/-! ### The sideband and identities -/

/-- R472: a message of the M-die to a die, whose answer is awaited. -/
def sideSend (d : Dev) (k : Nat) : Dev := { d with dlk := { d.dlk with side := NMap.set 0 d.dlk.side k 1 } }

/-- The type of a die (DLK_DIE_k_INV TYPE). -/
def dieType (k : Nat) : Nat := if k < 8 then 0 else if k < 12 then 1 else if k = 12 then 2 else if k < 19 then 3 else 4

/-- R472, R473: a message of a die: discarded when its CRC fails; an identity fills the die's inventory. -/
def sideIn (d : Dev) (k : Nat) (bytes : List Byte) (identity : Option (Nat × Nat)) : Dev :=
  if bytes.length ≠ 16 ∨ crc16 (bytes.take 14) ≠ leNat (bytes.drop 14) then d
  else
    let d := { d with dlk := { d.dlk with side := NMap.set 0 d.dlk.side k 0 } }
    match identity with
    | some (stepping, level) =>
      let d := (d.sf F.DLK_DIE_k_INV.PRESENT 1 0 k).sf F.DLK_DIE_k_INV.TYPE (dieType k) 0 k
      (d.sf F.DLK_DIE_k_INV.STEPPING stepping 0 k).sf F.DLK_DIE_k_INV.LEVEL level 0 k
    | none => d

/-- R472: a message unanswered for 10 µs is sent again, up to 8 times. -/
def sideResend (d : Dev) (k : Nat) : Dev :=
  let t := NMap.get 0 d.dlk.side k
  if t = 0 then d
  else { d with dlk := { d.dlk with side := NMap.set 0 d.dlk.side k (if t < 9 then t + 1 else 0) } }

/-- R473: a die has given no identity within 1 ms: it is treated as lost. -/
def identityTimeout (d : Dev) (k : Fin 20) : Dev :=
  if d.on F.DLK_DIE_k_INV.PRESENT 0 k || decide (k.val = 19) then d
  else
    let d := { d with dlk := { d.dlk with side := NMap.set 0 d.dlk.side k 0 } }
    (d.logDie Code.DLK_DIE_ABSENT k).occult (.die k) Code.DLK_DIE_ABSENT false

end Dev

/-! ### The commands -/

def execFrameReceive (link : Fin 31) (initiator : Bool) (payload control : List Byte) (s : State) :
    Host.Outcome State Fault Refusal :=
  s.upd fun d => d.frameIn link initiator (payload ++ control)

def execLinkLockLoss (link : Fin 31) (s : State) : Host.Outcome State Fault Refusal := s.upd fun d => d.lockLost link

def execLinkTestDone (link : Fin 31) (initMask respMask : Fin 16) (s : State) : Host.Outcome State Fault Refusal :=
  s.upd fun d => d.testDone link initMask respMask

def execPropose (link : Fin 31) (xnum : Fin 256) (mask level : Fin 16) (s : State) : Host.Outcome State Fault Refusal :=
  s.upd fun d => d.propose link xnum mask level

def execAccept (link : Fin 31) (xnum : Fin 256) (mask width level : Fin 16) (s : State) :
    Host.Outcome State Fault Refusal :=
  s.upd fun d => d.accept link xnum mask width level

def execConfirm (link : Fin 31) (xnum : Fin 256) (width level : Fin 16) (s : State) : Host.Outcome State Fault Refusal :=
  s.upd fun d => d.confirm link xnum width level

def execExchangeTimeout (link : Fin 31) (s : State) : Host.Outcome State Fault Refusal :=
  s.upd fun d => d.exchangeTimeout link

def execSidebandMessage (die : Fin 20) (bytes : List Byte) (identity : Option (Nat × Nat)) (s : State) :
    Host.Outcome State Fault Refusal :=
  s.upd fun d => d.sideIn die bytes identity

def execSidebandResend (die : Fin 20) (s : State) : Host.Outcome State Fault Refusal := s.upd fun d => d.sideResend die

def execDieIdentityTimeout (die : Fin 20) (s : State) : Host.Outcome State Fault Refusal :=
  s.upd fun d => d.identityTimeout die

end Sys2Proof.Machine
end

