-- ==== Sys2Proof/Machine/Time.lean ====
section
/-! DEFINITION. The Chronograph's alignment (R443 to R446), the Meridian start (R448, R449), and the interrupt controller
(R499 to R506). -/

namespace Sys2Proof.Machine

open Sys2Proof

namespace Dev

/-! ### Alignment -/

/-- R613: a record of CLK_CHRONO_UNALIGNED, with the step in ns. -/
def logChrono (d : Dev) (step : Nat) : Dev := d.logAt Code.CLK_CHRONO_UNALIGNED dieS 0xFFFF dieS step

def isRoot (d : Dev) : Bool := d.on F.SYN_TIME_CTRL.ROOT

/-- R444: the faces towards the root: in Z, in Y and in X, where the coordinates differ. -/
def rootFaces (d : Dev) : List Nat :=
  let root := d.gf F.SYN_TIME_CTRL.ROOT_INDEX
  ([2, 1, 0].filter fun k => decide (coordOf d.self k ≠ coordOf root k)).map fun k =>
    faceOf k (directionRule (d.dim k) (coordOf d.self k) (coordOf root k) true)

/-- R444, R446: the face to the parent: the first towards the root; one that is down, or behind which no ALIGNED
neighbour has been found, is passed over for the next. -/
def parentFace (d : Dev) : Option Nat :=
  match d.rootFaces.find? fun f => d.faceUp f && !d.time.skip.contains f with
  | some f => some f
  | none => d.rootFaces.head?

/-- R446: a face behind which no ALIGNED parent is found is passed over from now on; once every face is, the search
starts again. -/
def passFace (d : Dev) (f : Nat) : Dev :=
  let l := f :: d.time.skip
  { d with time := { d.time with skip := if d.rootFaces.all fun x => l.contains x || !d.faceUp x then [] else l } }

/-- The device one step away by a face. -/
def neighbourBy (d : Dev) (f : Nat) : Nat :=
  let k := f / 2
  let n := d.dim k
  let c := coordOf d.self k
  withCoord d.self k (if f % 2 = 0 then (c + 1) % n else (c + n - 1) % n)

/-- R445, R298: a time request to the neighbour on a face, stamped T1 as it crosses. -/
def askTime (d : Dev) (f t1 : Nat) : Dev := d.notice (d.neighbourBy f) 5 0 0 (leBytes 8 t1)

/-- R445: the 100 µs exchange with the parent; the root's start exchange asks every neighbour whose face is up (R444).
-/
def timeExchange (d : Dev) (t1 : Nat) : Dev :=
  if !d.coordsValid then d
  else if d.isRoot then
    if d.time.rootDone then d
    else ((List.range 6).filter fun f => d.faceUp f).foldl (fun d f => d.askTime f t1) d
  else match d.parentFace with
    | some f => if d.faceUp f then (d.sf F.SYN_TIME_STAT.PARENT_FACE f).askTime f t1 else d
    | none => d

/-- R445, R298: a time request answered. -/
def timeRequest (d : Dev) (p : Packet) (t2 t3 : Nat) : Dev :=
  let al := if d.on F.SYN_TIME_STAT.ALIGNED then 1 else 0
  d.notice p.src 6 0 0
    ((p.payload.drop 8).take 8 ++ leBytes 8 t2 ++ leBytes 8 t3 ++ leBytes 1 al ++ leBytes 1 (d.gf F.SYN_TIME_STAT.DEPTH))

/-- The device becomes ALIGNED; a zeroing of HBM takes its fabric time now (R279). -/
def becomeAligned (d : Dev) : Dev :=
  let d := d.sf F.SYN_TIME_STAT.ALIGNED 1
  let d := { d with time := { d.time with once := true, stepNext := false, lastGood := d.chrono } }
  if d.gas.zeroPending then { d with gas := { d.gas with zeroPending := false, zeroed := d.chrono } } else d

/-- R446: ALIGNED is cleared. -/
def loseAligned (d : Dev) : Dev :=
  if d.on F.SYN_TIME_STAT.ALIGNED then ((d.sf F.SYN_TIME_STAT.ALIGNED 0).logChrono 0).raise 581 else d

/-- The Chronograph moved by θ, in 1/64 ns (R445). -/
def setChrono (d : Dev) (theta : Int) : Dev := { d with chrono := ((d.chrono : Int) + theta / 64).toNat }

/-- R443: the rate trim: its size is the S-die's own choice within ±250 ppm, 274,877,906 steps of 2^−40 either way, a
free value here; TRIM_PPB shows it in parts per 10⁹, rounded down (DESIGN CHOICE, log entry 43). -/
def trim (d : Dev) : Dev :=
  let z : Int := (((Config.freeWord d.freeIx 0).toNat % 549755813 : Nat) : Int) - 274877906
  { d.draw with time := { d.time with trim := z } }.sf F.SYN_TIME_STAT.TRIM_PPB (wrapInt 20 (z * 1000000000 / 2 ^ 40))

/-- R445, R446: a good exchange with the parent: θ in 1/64 ns, and what it leads to. -/
def goodExchange (d : Dev) (theta : Int) : Dev :=
  let d := { d with time := { d.time with lastGood := d.chrono } }
  let big := theta.natAbs
  if !d.time.once then (d.setChrono theta).becomeAligned
  else if d.time.stepNext then ((d.setChrono theta).becomeAligned).logChrono (big / 64)
  else if 64000000 < big then { d.loseAligned with time := { d.time with stepNext := true } }
  else if 6400 < big then d.trim.loseAligned
  else if big < 128 ∧ !d.on F.SYN_TIME_STAT.ALIGNED then d.trim.becomeAligned
  else d.trim

/-- R444 to R446: a time reply, the root's from any neighbour and another device's from its parent: θ, and what it
leads to. A parent that is not ALIGNED gives no good exchange; a device that has lost its own alignment then looks for
another. -/
def timeReply (d : Dev) (p : Packet) (t4 : Nat) : Dev :=
  let get (lo n : Nat) : Nat := leNat ((p.payload.drop lo).take n)
  let theta : Int := (((get 16 8 : Int) - get 8 8) - ((t4 : Int) - get 24 8)) / 2
  let face := d.gf F.SYN_TIME_STAT.PARENT_FACE
  if d.isRoot then
    let d := d.sf F.SYN_TIME_STAT.OFFSET (wrapInt 32 theta)
    if !d.time.rootDone && decide (0 < theta) then d.setChrono theta else d
  else if p.src ≠ d.neighbourBy face then d
  else
    let d := d.sf F.SYN_TIME_STAT.OFFSET (wrapInt 32 theta)
    if get 32 1 = 1 then (d.sf F.SYN_TIME_STAT.DEPTH (get 33 1 + 1)).goodExchange theta
    else if d.time.once && !d.on F.SYN_TIME_STAT.ALIGNED then d.passFace face
    else d

/-- R446: no good exchange for 10 ms: ALIGNED is cleared, and the device looks for another parent. -/
def alignTimeout (d : Dev) : Dev :=
  if d.isRoot || decide (d.chrono < d.time.lastGood + 10000000) then d
  else if d.time.once then d.loseAligned.passFace (d.gf F.SYN_TIME_STAT.PARENT_FACE) else d.loseAligned

/-! ### The Meridian start -/

/-- R448, R449: the release: counter CNTR of every logical core in service rises by 1. -/
def meridianRelease (d : Dev) : Dev :=
  let n := d.gf F.SYN_MERIDIAN_CTRL.CNTR
  let d := (List.range 128).foldl (fun d c => if d.inService c then d.update c n 1 5 d.self none else d) d
  let d := (d.sf F.SYN_MERIDIAN_DONE.TIME d.chrono).sf F.SYN_MERIDIAN_CTRL.ARM 0
  if d.on F.SYN_TIME_STAT.ALIGNED then d else d.sf F.SYN_MERIDIAN_CTRL.UNALIGNED 1

/-- R448, R449: ARM. -/
def meridianArm (d : Dev) : Dev :=
  if d.on F.SYN_MERIDIAN_CTRL.ARM then d
  else if d.gf F.SYN_MERIDIAN_TICK.TICK < d.chrono + 2000 then
    let d := (d.sf F.SYN_MERIDIAN_CTRL.LATE 1).logAt Code.SYN_MERIDIAN_LATE dieS 0xFFFF 0 (d.gf F.SYN_MERIDIAN_CTRL.CNTR)
    (d.raise 580).meridianRelease
  else d.sf F.SYN_MERIDIAN_CTRL.ARM 1

/-- R449: CANCEL. -/
def meridianCancel (d : Dev) : Dev := d.sf F.SYN_MERIDIAN_CTRL.ARM 0

/-- SYN_MERIDIAN_CTRL written (R652). -/
def writeMeridianCtrl (d : Dev) (v : Word) : Dev :=
  let d := d.sf F.SYN_MERIDIAN_CTRL.CNTR (getBits v 13 2)
  let d := if getBits v 1 1 = 1 then d.meridianCancel else d
  if getBits v 0 0 = 1 then d.meridianArm else d

/-- SYN_MERIDIAN_TICK written: dropped while ARM is set (R448). -/
def writeMeridianTick (d : Dev) (v : Word) : Dev :=
  if d.on F.SYN_MERIDIAN_CTRL.ARM then d else d.sf F.SYN_MERIDIAN_TICK.TICK v.toNat

/-! ### The interrupt controller -/

/-- R499: the target of a source. -/
def srcTarget (d : Dev) (n : Nat) : Nat := if n < 128 then n / 32 else d.gf F.INT_SRC_n_CFG.TARGET 0 n

def srcLevel (d : Dev) (n : Nat) : Nat := d.gf F.INT_SRC_n_CFG.LEVEL 0 n

def isPending (d : Dev) (n : Nat) : Bool := bitOf (d.reg ⟨.INT_PEND_SET_k, 0, n / 64, 0⟩).toNat (n % 64)

def isMasked (d : Dev) (n : Nat) : Bool := bitOf (d.reg ⟨.INT_MASK_SET_k, 0, n / 64, 0⟩).toNat (n % 64)

/-- The handlers that run at a target, highest level first. -/
def runningAt (d : Dev) (t : Nat) : List (Nat × Nat) := NMap.get [] d.int.running t

def setRunning (d : Dev) (t : Nat) (l : List (Nat × Nat)) : Dev :=
  { d with int := { d.int with running := NMap.set [] d.int.running t l } }

/-- The highest level that runs at a target; 0 when none does. -/
def runLevel (d : Dev) (t : Nat) : Nat := ((d.runningAt t).head?.map Prod.fst).getD 0

/-- R501: a source is deliverable to a target. -/
def deliverable (d : Dev) (t n : Nat) : Bool :=
  d.isPending n && !d.isMasked n && decide (d.srcTarget n = t) && decide (d.gf F.INT_TGT_t_THRESH.THRESHOLD 0 t < d.srcLevel n)
    && decide (d.runLevel t < d.srcLevel n)

/-- R501: the source on offer at a target: the highest level, and the lowest number on a tie. -/
def offer (d : Dev) (t : Nat) : Option Nat :=
  (List.range 1024).foldl (fun (best : Option Nat) n =>
    if d.deliverable t n then
      match best with
      | some m => if d.srcLevel m < d.srcLevel n then some n else best
      | none => some n
    else best) none

def clearPending (d : Dev) (n : Nat) : Dev :=
  let k : RegKey := ⟨.INT_PEND_SET_k, 0, n / 64, 0⟩
  d.setReg k (setBits (d.reg k) (n % 64) (n % 64) 0)

/-- R502: the source on offer claimed: its pending bit is cleared and it runs at its level. -/
def claim (d : Dev) (t : Nat) : Option (Nat × Nat) × Dev :=
  match d.offer t with
  | none => (none, d)
  | some n =>
    let l := d.srcLevel n
    (some (n, l), (d.clearPending n).setRunning t ((l, n) :: d.runningAt t))

/-- R503: an EOI. -/
def endOfInt (d : Dev) (t src : Nat) : Dev :=
  match d.runningAt t with
  | (_, n) :: rest => if n = src then d.setRunning t rest else d.logHlk Code.INT_EOI_UNMATCHED 0 src
  | [] => d.logHlk Code.INT_EOI_UNMATCHED 0 src

/-- R505: bits of INT_PEND_SET_k set: every private source, and shared ones in the wide configuration. -/
def pendSet (d : Dev) (k : Nat) (v : Word) : Dev :=
  if k < 2 ∨ d.on F.INT_CFG.WIDE then
    let r : RegKey := ⟨.INT_PEND_SET_k, 0, k, 0⟩
    d.setReg r (d.reg r ||| v)
  else if v = 0 then d else d.logHlk Code.INT_SWSET_REFUSED 0 v.toNat

def pendClr (d : Dev) (k : Nat) (v : Word) : Dev :=
  let r : RegKey := ⟨.INT_PEND_SET_k, 0, k, 0⟩
  d.setReg r (d.reg r &&& ~~~v)

def maskSet (d : Dev) (k : Nat) (v : Word) : Dev :=
  let r : RegKey := ⟨.INT_MASK_SET_k, 0, k, 0⟩
  d.setReg r (d.reg r ||| v)

def maskClr (d : Dev) (k : Nat) (v : Word) : Dev :=
  let r : RegKey := ⟨.INT_MASK_SET_k, 0, k, 0⟩
  d.setReg r (d.reg r &&& ~~~v)

/-- R506: companion vectors that a TARGET may name. -/
def vectorsOn (d : Dev) : Nat :=
  if d.on F.INT_CFG.WIDE then min (d.gf F.INT_CFG.VECTORS) (d.gf F.HLK_STAT.VECTORS) else 0

/-- R506: INT_SRC_n_CFG written. -/
def writeSrcCfg (d : Dev) (n : Nat) (v : Word) : Dev :=
  let t := getBits v 11 8
  let d := d.sf F.INT_SRC_n_CFG.LEVEL (getBits v 3 0) 0 n
  if n < 128 then d
  else if t < 4 ∨ t < 4 + d.vectorsOn then d.sf F.INT_SRC_n_CFG.TARGET t 0 n
  else d.logHlk Code.INT_TARGET_REFUSED n t

/-- R504, R481: the M-die claims the source on offer for a companion vector and sends CTL INTERRUPT. -/
def companionInt (d : Dev) (vec : Nat) : Dev :=
  if !d.hlkUp || decide (d.vectorsOn ≤ vec) then d
  else match d.claim (4 + vec) with
    | (some (n, l), d) => d.hlkSend { cls := HC.ctl, op := 3, value := vec * 2 ^ 16 + l * 2 ^ 12 + n }
    | (none, d) => d

end Dev

/-! ### The commands -/

def execTimeExchange (t1 : Nat) (s : State) : Host.Outcome State Fault Refusal := s.upd fun d => d.timeExchange t1

def execTimeRequest (p : Packet) (t2 t3 : Nat) (s : State) : Host.Outcome State Fault Refusal :=
  s.upd fun d => if p.type = PT.notice ∧ p.payload.headD 0 = 5 then (d.consume p).timeRequest p t2 t3 else d

def execTimeReply (p : Packet) (t4 : Nat) (s : State) : Host.Outcome State Fault Refusal :=
  s.upd fun d => if p.type = PT.notice ∧ p.payload.headD 0 = 6 then (d.consume p).timeReply p t4 else d

def execAlignLossTimeout (s : State) : Host.Outcome State Fault Refusal :=
  s.upd fun d => d.alignTimeout

def execRootExchangeEnd (s : State) : Host.Outcome State Fault Refusal :=
  s.upd fun d =>
    if d.isRoot && !d.time.rootDone then { d with time := { d.time with rootDone := true } }.becomeAligned else d

def execMeridianRelease (s : State) : Host.Outcome State Fault Refusal :=
  s.upd fun d =>
    if d.on F.SYN_MERIDIAN_CTRL.ARM && decide (d.gf F.SYN_MERIDIAN_TICK.TICK ≤ d.chrono) then d.meridianRelease else d

def execCompanionInterrupt (vector : Fin 8) (s : State) : Host.Outcome State Fault Refusal :=
  s.upd fun d => d.companionInt vector

end Sys2Proof.Machine
end

