-- ==== Sys2Proof/Machine/Log.lean ====
section
/-! DEFINITION. The logbook: records (R606, R607), the write slot (R609), coalescing entries that close (R610, R612), the copy
to the HBM ring (R608), and the last reports before a Quiesce or an entry to P3 (R651). -/

namespace Sys2Proof.Machine

open Sys2Proof

/-- R610: the KIND that a code calls for. -/
def recordKind (code : Nat) : Nat :=
  if code = Code.SAFE_ACCUSATION then 3
  else if code = Code.SAFE_OCCULTED ∨ code = Code.SAFE_DEVICE_LOST then 4
  else if code = Code.SAFE_RESTORED then 5
  else 1

/-- What a record holds beside its report (R606). -/
structure RecHead where
  kind : Nat
  first : Nat
  last : Nat
  overflowFirst : Bool := false
  sat : Bool := false
  count : Nat
  drops : Nat := 0
  deriving DecidableEq, Repr

/-- R606: the first 60 bytes of a record. -/
def recordBody (seq : Nat) (h : RecHead) (r : Report) : List Byte :=
  leBytes 8 seq ++ leBytes 8 h.first ++ leBytes 8 h.last ++ leBytes 2 r.code ++ leBytes 1 h.kind
    ++ leBytes 1 ((if h.overflowFirst then 1 else 0) + (if h.sat then 2 else 0) + (if r.remote then 4 else 0))
    ++ leBytes 4 h.count ++ leBytes 4 r.source ++ leBytes 4 (satAt (2 ^ 32 - 1) h.drops)
    ++ leBytes 8 r.d0 ++ leBytes 8 r.d1 ++ leBytes 4 (r.device % 2 ^ 18)

/-- R606: a record of 64 bytes. -/
def recordOfReport (seq : Nat) (h : RecHead) (r : Report) : List Byte :=
  let b := recordBody seq h r
  b ++ leBytes 4 (crc32 b)

/-- R628: the weight of an event that a code names by itself; 0 for a code that none of the table's events has. -/
def weightOf (code : Nat) : Nat :=
  if [Code.ENG_TILE_PARITY, Code.ENG_ACC_UNCORRECTABLE, Code.CORE_IMEM_UNCORRECTABLE, Code.CORE_STORE_UNCORRECTABLE,
      Code.HBM_UNCORRECTABLE, Code.HBM_SCRUB_UNCORRECTABLE, Code.MSC_UNCORRECTABLE, Code.LOCKSTEP_MISMATCH].contains code then 512
  else if [Code.DLK_WIDTH_REDUCED, Code.COLL_RESIDUE_ERROR, Code.CLK_PLL_UNLOCK].contains code then 1024
  else if [Code.WIDTH_MISMATCH, Code.OPT_LOSS_HIGH, Code.OPT_SEEING_DEGRADED, Code.COLL_RESIDUE_RETRY].contains code then 64
  else if [Code.DLK_RETRAIN, Code.OPT_REPLAY_MISS].contains code then 16
  else if code = Code.OPT_LANE_FAIL then 256
  else if [Code.DLK_CRC_ERROR, Code.CLK_DROOP].contains code then 1
  else 0

namespace Dev

/-- R607: a record written: it takes the next number and its slot of the on-die ring. Source 128 is set by a record with
OVERFLOW_FIRST. -/
def writeRecord (d : Dev) (h : RecHead) (r : Report) : Dev :=
  let seq := d.gf F.LOG_HEAD.SEQ
  let b := recordOfReport seq h r
  let d := (List.range 8).foldl (fun d w =>
    d.setReg ⟨.LOG_RING_n, 0, 8 * (seq % 4096) + w, 0⟩ (BitVec.ofNat 64 (leNat ((b.drop (8 * w)).take 8)))) d
  let d := d.sf F.LOG_HEAD.SEQ (seq + 1)
  if h.overflowFirst then d.raise 128 else d

/-- The record of a report of the intake queue: LAST is the time of the report (R277). -/
def writeIntake (d : Dev) (e : Intake) : Dev :=
  let first := e.rep.first.getD e.time
  d.writeRecord
    { kind := recordKind e.rep.code, first := first, last := e.time, overflowFirst := e.overflowFirst
      count := if recordKind e.rep.code = 3 then e.rep.count else 1, drops := e.drops } e.rep

/-- R610, R612: the KIND 2 record of a closed entry. -/
def writeCoalesce (d : Dev) (e : Coalesce) : Dev :=
  d.writeRecord { kind := 2, first := e.first, last := e.last, sat := e.sat, count := e.count } e.lastRep

/-- R609, R610: the next write slot: a closed entry goes ahead of the intake queue. -/
def writeSlot (d : Dev) : Dev :=
  let l := d.log
  match l.closed with
  | e :: rest => { d with log := { l with closed := rest } }.writeCoalesce e
  | [] =>
    match l.intake with
    | e :: rest =>
      { d with log := { l with intake := rest, full := l.full && decide (64 ≤ rest.length) } }.writeIntake e
    | [] => d

/-- R610: an entry closes: with reports added, its record takes the next write slot. -/
def closeEntry (d : Dev) (source code : Nat) : Dev :=
  let l := d.log
  match l.open_.find? fun e => decide (e.source = source ∧ e.code = code) with
  | some e =>
    { d with log := { l with open_ := l.open_.erase e, closed := if e.count = 0 then l.closed else l.closed ++ [e] } }
  | none => d

/-- R651: every report in the intake queue is written, every open entry closes with its record, and no further report is
accepted. -/
def flushLog (d : Dev) : Dev :=
  let l := d.log
  let d := { d with log := { l with closed := [], intake := [], open_ := [], full := false, shut := true } }
  let d := l.closed.foldl (fun d e => d.writeCoalesce e) d
  let d := l.intake.foldl (fun d e => d.writeIntake e) d
  (l.open_.filter fun e => decide (e.count ≠ 0)).foldl (fun d e => d.writeCoalesce e) d

/-! ### The HBM ring (R608) -/

/-- R608: a valid LOG_HBM_BASE. -/
def ringBaseOk (base : Nat) : Bool := decide (base % 2 ^ 26 = 0) && decide (base + 0x4000000 ≤ 0x008B80000000)

/-- R608: records are being copied. -/
def ringActive (d : Dev) : Bool :=
  d.on F.LOG_CTRL.HBM_EN && d.started && (List.range 4).all (fun q => d.on F.HBM_STAT.READY q)
    && !(List.range 4).any (fun q => d.on F.HBM_STAT.SELF_REFRESH q) && ringBaseOk (d.gf F.LOG_HBM_BASE.BASE)

/-- The bytes of a record in the on-die ring. -/
def ringBytes (d : Dev) (seq : Nat) : List Byte :=
  (List.range 8).flatMap fun w => leBytes 8 (d.reg ⟨.LOG_RING_n, 0, 8 * (seq % 4096) + w, 0⟩).toNat

/-- R607, R608, R216, R240: once its place in HBM is free, the oldest record that the on-die ring still holds and that
has not been copied is copied. -/
def ringCopy (d : Dev) (errs : List MemErr) : Dev :=
  let head := d.gf F.LOG_HEAD.SEQ
  let next := max (d.gf F.LOG_HBM_COPIED.SEQ) (head - 4096)
  let a := d.gf F.LOG_HBM_BASE.BASE + 64 * (next % 1048576)
  if !d.ringActive || decide (head ≤ next) then d
  else match d.hbmHeld a 64 true with
  | (true, d) => d
  | (false, d) =>
    let d := (d.writeHbm a (d.ringBytes next) hintStream 0 errs).2
    d.sf F.LOG_HBM_COPIED.SEQ (next + 1)

/-- LOG_CTRL written: a COALESCE_MS of 0 is stored as 1; HBM_EN set with an invalid base is refused (R608). -/
def writeLogCtrl (d : Dev) (v : Word) : Dev :=
  let d := d.sf F.LOG_CTRL.COALESCE_MS (max 1 (getBits v 47 32))
  let base := d.gf F.LOG_HBM_BASE.BASE
  if getBits v 0 0 = 1 ∧ !ringBaseOk base then d.logAt Code.LOG_HBM_REFUSED dieM 0xFFFF base 0
  else d.sf F.LOG_CTRL.HBM_EN (getBits v 0 0)

end Dev

/-! ### The commands -/

/-- R609 to R612: a report of a unit of this device; R628: the event that it reports adds its weight to the unit's
score. -/
def execLogReport (code source d0 d1 : Nat) (s : State) : Host.Outcome State Fault Refusal :=
  s.upd fun d =>
    let d := d.report { code := code, source := source, d0 := d0, d1 := d1, device := d.self }
    let u := source % 2 ^ 18
    if u < 2048 ∧ weightOf code ≠ 0 then d.score u (weightOf code) code else d

def execLogRecordWrite (s : State) : Host.Outcome State Fault Refusal := s.upd fun d => d.writeSlot

def execCoalesceClose (source code : Nat) (s : State) : Host.Outcome State Fault Refusal :=
  s.upd fun d => d.closeEntry source code

def execHbmRingCopy (errs : List MemErr) (s : State) : Host.Outcome State Fault Refusal := s.upd fun d => d.ringCopy errs

end Sys2Proof.Machine
end

