-- ==== Sys2Proof/Machine/Trust.lean ====
section
/-! DEFINITION. Key pairs, certificates, signature blocks and the chain of trust (R547 to R550), the layout of the security
records (R548, R549, R556, R558), and the floor record log (R558 to R560). -/

namespace Sys2Proof

/-- Bytes of a number, the most significant first. -/
def beBytes (n v : Nat) : List Byte := (leBytes n v).reverse

/-- The number that bytes spell, the most significant first. -/
def beNat (b : List Byte) : Nat := leNat b.reverse

namespace KeyPair

/-- The bytes that KEY_ID digests (chapter 15): the modulus, the exponent and the SLH-DSA key. -/
def bytes (k : KeyPair) : List Byte := beBytes 384 k.rsaN ++ beBytes 4 k.rsaE ++ beBytes 48 k.slhPk

/-- KEY_ID of a pair. -/
def id (k : KeyPair) : Nat := (Config.sha384 k.bytes).toNat

end KeyPair

/-- R549: the 16,704 bytes of a signature block. -/
def SigBlock.bytes (s : SigBlock) : List Byte :=
  leBytes 4 s.magic ++ leBytes 2 s.format ++ leBytes 2 s.kind ++ leBytes 48 s.keyId ++ beBytes 384 s.rsaSig
    ++ (List.range 16224).map (fun i => s.slhSig.getD i 0) ++ leBytes 40 s.tail

/-- R549: the message M that both signatures of a block are made over. -/
def signedMessage (kind digest : Nat) : List Byte := leBytes 2 kind ++ leBytes 48 digest

/-- R549: a block of the format, whose KIND matches the use. -/
def SigBlock.wellFormed (s : SigBlock) : Bool := decide (s.magic = 0x53474953) && decide (s.format = 1) && decide (s.tail = 0)

namespace Cert

/-- R548: the 512 bytes of a certificate's body. The exponent is stored as KEY_ID digests it (DEDUCED, log entry 64:
keys are stored as their standards define). -/
def body (c : Cert) : List Byte :=
  leBytes 4 c.magic ++ leBytes 1 c.role ++ leBytes 3 c.rest ++ c.pair.bytes ++ leBytes 48 c.issuer ++ leBytes 16 c.serial
    ++ leBytes 4 c.seq

/-- R548: the fields of a body of 512 bytes. -/
def ofBody (b : List Byte) (sig : SigBlock) : Cert :=
  let f (lo n : Nat) : List Byte := (b.drop lo).take n
  { magic := leNat (f 0 4), role := leNat (f 4 1), rest := leNat (f 5 3)
    pair := { rsaN := beNat (f 8 384), rsaE := beNat (f 392 4), slhPk := beNat (f 396 48) }
    issuer := leNat (f 444 48), serial := leNat (f 492 16), seq := leNat (f 508 4), sig := sig }

/-- R548: the 17,216 bytes of a certificate. -/
def bytes (c : Cert) : List Byte := c.body ++ c.sig.bytes

/-- R548: the values that the fields of a body must hold. -/
def wellFormed (c : Cert) : Bool :=
  decide (c.magic = 0x54524543) && decide (c.role < 8) && decide (c.rest = 0) && decide (c.pair.rsaE = 65537)
    && (decide (6 ≤ c.role) || decide (c.serial = 0)) && (decide (c.role = 7) || decide (c.seq = 0))

end Cert

/-- R547: the role that certifies a role. -/
def certifier : Nat → Option Nat
  | 0 | 1 | 2 | 3 | 4 | 5 => some 0
  | 6 => some 2
  | 7 => some 3
  | _ => none

/-- R547, R548, R550: a certificate is accepted: its body and its block are as they must be, both signatures verify,
and its issuer is the root pair of the boot ROM for itself, or an accepted certificate of the role that certifies this
one. Two steps reach the root; the number bounds them. -/
def certOk (root : Nat) (l : List Cert) : Nat → Cert → Bool
  | 0, _ => false
  | f + 1, c =>
    c.wellFormed && c.sig.wellFormed && decide (c.sig.kind = 3) && c.sig.rsaOk && c.sig.slhOk
      && decide (c.sig.keyId = c.issuer)
      && (if c.role = 0 then decide (c.issuer = c.pair.id) && decide (c.pair.id = root)
        else l.any fun i => decide (certifier c.role = some i.role) && decide (i.pair.id = c.issuer) && certOk root l f i)

namespace SecRecords

/-- Every certificate of the records. -/
def all (r : SecRecords) : List Cert := r.certs ++ r.identity.toList ++ r.owners.filterMap fun c => c

/-- R556: where the certificates, the owner slots and the records of the floor log lie in the flash. DEDUCED (log
entries 42 and 64): the certificates of roles 0-5 stand one after another. -/
def certOffset (n : Nat) : Nat := 17216 * n
def identityOffset : Nat := 0x20000
def helperOffset : Nat := 0x28000
def ownerOffset (n : Nat) : Nat := 0x30000 + 17216 * n
def floorOffset (half : Bool) (n : Nat) : Nat := 0x40000 + (if half then 0x48000 else 0) + 16768 * n

end SecRecords

/-- R558: the 16,768 bytes of a floor record. -/
def FloorRec.bytes (x : FloorRec) : List Byte :=
  leBytes 4 x.magic ++ leBytes 1 x.kind ++ leBytes 3 x.rest ++ leBytes 16 x.serial ++ leBytes 8 x.floor ++ leBytes 32 x.tail
    ++ x.sig.bytes

/-- R556: the bytes of the security records in the flash: each item at its offset; the rest of the MiB is erased. -/
def SecRecords.items (r : SecRecords) : List (Nat × List Byte) :=
  let number {α : Type} (l : List α) : List (Nat × α) := (List.range l.length).zip l
  ((number r.certs).map fun e => (SecRecords.certOffset e.1, e.2.bytes))
    ++ (r.identity.toList.map fun c => (SecRecords.identityOffset, c.bytes))
    ++ [(SecRecords.helperOffset, r.helper)]
    ++ ((number r.owners).filterMap fun e => e.2.map fun c => (SecRecords.ownerOffset e.1, c.bytes))
    ++ ((number r.log0).map fun e => (SecRecords.floorOffset false e.1, e.2.bytes))
    ++ ((number r.log1).map fun e => (SecRecords.floorOffset true e.1, e.2.bytes))

namespace SecRecords

/-- A half of the floor log, and both with the offset of each record, the active half last. -/
def log (r : SecRecords) (half : Bool) : List FloorRec := if half then r.log1 else r.log0

def setLog (r : SecRecords) (half : Bool) (l : List FloorRec) : SecRecords :=
  if half then { r with log1 := l } else { r with log0 := l }

def floors (r : SecRecords) : List (Nat × FloorRec) :=
  [!r.active1, r.active1].flatMap fun h => (List.range (r.log h).length).zip (r.log h) |>.map fun e => (floorOffset h e.1, e.2)

end SecRecords

/-- R556: records of one half of the log. -/
def halfSize : Nat := 17

/-- R551: the 128 bytes of an image's header. -/
def FwImage.header (x : FwImage) : List Byte :=
  leBytes 4 x.magic ++ leBytes 2 x.format ++ leBytes 2 x.hoFormat ++ leBytes 4 x.version ++ leBytes 4 x.svn
    ++ leBytes 4 x.code.length ++ leBytes 2 x.hoMin ++ leBytes 2 x.hoMax ++ leBytes 4 x.floorOffset ++ leBytes 100 x.rest

/-- R549, R551: the digest that an image's signature block covers, of its header and code. -/
def FwImage.digest (x : FwImage) : Nat := (Config.sha384 (x.header ++ x.code)).toNat

/-- R560: the floor record that an image embeds. -/
def FwImage.embedded (x : FwImage) : Option FloorRec := if x.floorOffset = 0 then none else x.floor

/-- R521: the header and the entries of an Almanac. -/
def Almanac.body (a : Almanac) : List Byte :=
  leBytes 4 a.magic ++ leBytes 2 a.format ++ leBytes 2 a.flags ++ leBytes 8 a.sequence ++ leBytes 4 a.entries.length
    ++ leBytes 4 a.sigOffset ++ leBytes 40 a.rest
    ++ a.entries.flatMap fun e => leBytes 5 e.1 ++ leBytes 3 0 ++ leBytes 8 e.2.toNat

/-- R522, R549: the digest that an Almanac's signature block covers, of its header and entries. -/
def Almanac.digest (a : Almanac) : Nat := (Config.sha384 a.body).toNat

/-! ### The device's identity (R553) -/

/-- HMAC-SHA-384, as R553 names it (PRESUMED, log entry 46: the manual does not restate the function). -/
def hmac384 (key msg : List Byte) : List Byte :=
  let k := key ++ List.replicate (128 - key.length) 0
  let inner := beBytes 48 (Config.sha384 (k.map (· ^^^ 0x36#8) ++ msg)).toNat
  beBytes 48 (Config.sha384 (k.map (· ^^^ 0x5C#8) ++ inner)).toNat

/-- The bytes of a label of R553. -/
def labelBytes (s : String) : List Byte := s.toList.map fun c => BitVec.ofNat 8 c.toNat

/-- R553: the seed S that the array yields with the helper data, and what comes of it. -/
def idSecret (helper : List Byte) : IdSecret :=
  let s := beBytes 32 (Config.pufSeed helper).toNat
  let sk := hmac384 s (labelBytes "AK20-SLH-SK")
  { skSeed := sk.take 24, skPrf := sk.drop 24, pkSeed := (hmac384 s (labelBytes "AK20-SLH-PK")).take 24
    rsaSeed := hmac384 s (labelBytes "AK20-RSA") }

/-- R553: the public keys of the identity pair: the SLH-DSA key is PK.seed and PK.root. -/
def IdSecret.pair (x : IdSecret) : KeyPair :=
  { rsaN := Config.rsaModulus x.rsaSeed, slhPk := beNat (x.pkSeed ++ beBytes 24 (Config.slhRoot x.skSeed x.skPrf x.pkSeed).toNat) }

namespace Machine.Dev

/-- R547, R550: an item signed with a block is accepted (none) or refused with a code: SEC_CHAIN_INVALID when KIND,
the chain or the role is wrong, else SEC_SIG_FAIL when a signature fails. `may` says which accepted certificates may
sign it. -/
def itemFault (d : Dev) (kind : Nat) (may : Cert → Bool) (s : SigBlock) : Option Nat :=
  let l := d.eph.records.all
  if s.kind ≠ kind ∨ !(l.any fun c => decide (c.pair.id = s.keyId) && may c && certOk d.rootKeyId l 3 c) then
    some Code.SEC_CHAIN_INVALID
  else if s.wellFormed && s.rsaOk && s.slhOk then none
  else some Code.SEC_SIG_FAIL

/-- R550: which signature of a block failed: bit 0 the RSA signature, bit 1 the SLH-DSA signature. -/
def sigFailure (s : SigBlock) : Nat := (if s.rsaOk then 0 else 1) + (if s.slhOk then 0 else 2)

/-- A SERIAL of zero or the module's (R557, R559). -/
def serialHere (n : Nat) : Bool := decide (n = 0) || decide (n = Config.moduleSerial.toNat)

/-- R557: the owner's certificate in force: of the accepted role-7 certificates for this module the one with the highest
SEQ. -/
def ownerCert (d : Dev) : Option Cert :=
  let l := d.eph.records.all
  ((d.eph.records.owners.filterMap fun c => c).filter fun c =>
    decide (c.role = 7) && serialHere c.serial && certOk d.rootKeyId l 3 c).foldl (fun m c =>
      match m with
      | some x => if x.seq < c.seq then some c else some x
      | none => some c) none

/-- R547, R558: who may sign Almanacs and Almanac floor records: role 7, or role 5 of a module without an owner. -/
def almanacSigner (owned : Bool) (c : Cert) : Bool := decide (c.role = 7) || (!owned && decide (c.role = 5))

/-- R558: a floor record verifies. -/
def floorOk (d : Dev) (x : FloorRec) : Bool :=
  decide (x.magic = 0x524F4C46) && decide (x.rest = 0) && decide (x.tail = 0)
    && (match x.kind with
      | 1 => decide (x.floor < 2 ^ 32) && (d.itemFault 5 (fun c => decide (c.role = 1)) x.sig).isNone
      | 2 => (d.itemFault 5 (almanacSigner d.ownerCert.isSome) x.sig).isNone
      | _ => false)

/-- R559: the floor of a TYPE among some records. -/
def floorAmong (d : Dev) (l : List FloorRec) (kind : Nat) : Nat :=
  (l.filter fun x => decide (x.kind = kind) && serialHere x.serial && d.floorOk x).foldl (fun m x => max m x.floor) 0

/-- R560: the record in force of a TYPE. -/
def recordInForce (d : Dev) (l : List FloorRec) (kind : Nat) : Option FloorRec :=
  l.find? fun x => decide (x.kind = kind) && serialHere x.serial && d.floorOk x && decide (x.floor = d.floorAmong l kind)

/-- R560: a record appended to the active half of the log. When it is full, the record in force of each TYPE goes into
the other half first, and then the full half is erased. -/
def appendFloor (d : Dev) (x : FloorRec) : Dev :=
  let r := d.eph.records
  let h := r.active1
  let l := r.log h
  let r := if l.length < halfSize then r.setLog h (l ++ [x])
    else
      let kept := ([1, 2].map fun t => (d.recordInForce (r.log0 ++ r.log1) t).toList).flatten
      { ((r.setLog (!h) (r.log (!h) ++ kept ++ [x])).setLog h []) with active1 := !h }
  { d with eph := { d.eph with records := r } }

end Machine.Dev
end Sys2Proof
end

