-- ==== Sys2Proof/Machine/Eph.lean ====
section
/-! DEFINITION. The Ephemeris (R525 to R536): the journal in flash and its records, replay, compaction and discard; and what
the fields of the registers keep at an event (R9 to R11). -/

namespace Sys2Proof.Machine

open Sys2Proof

/-- R529: a journal record of 32 bytes. -/
def JRec.bytes (r : JRec) : List Byte :=
  let b := leBytes 5 r.offset ++ leBytes 1 r.kind ++ leBytes 2 0 ++ leBytes 8 r.value.toNat ++ leBytes 8 r.seq ++ leBytes 4 0
  b ++ leBytes 4 (crc32 b)

/-- R11: the events that a field may outlive: a cold start, a warm start, and P2, P3 or the wake that ends P3. -/
inductive KeepEvent where
  | cold | warm | parked
  deriving DecidableEq, Repr

/-- R11: whether a Keep class covers an event. -/
def outlives : KeepEvent → Keep → Bool
  | .cold, k => decide (k = .e)
  | .warm, k => decide (k = .e ∨ k = .w)
  | .parked, k => decide (k ≠ .none)

/-- R10: a register's word after an event: the fields that their class covers keep their value, the others return to the
Reset column. `rw` says whether the RW fields keep theirs: at a start, only what has been recorded does (R524, R528). -/
def keepWord (ev : KeepEvent) (rw : Bool) (k : RegKey) (v : Word) : Word :=
  BitVec.ofNat 64 (assemble k.name.fields fun f =>
    if outlives ev f.keep && (rw || decide (f.access ≠ .rw)) then getBits v f.hi f.lo else fieldReset k f)

/-- R525: the RW fields of a register's word returned to the Reset column. -/
def dropRw (k : RegKey) (v : Word) : Word :=
  BitVec.ofNat 64 (assemble k.name.fields fun f => if f.access = .rw then fieldReset k f else getBits v f.hi f.lo)

/-- The fields that the AK20 changes itself and the Ephemeris holds. -/
def RegName.hasOwn (n : RegName) : Bool := n.fields.any fun f => decide (f.access ≠ .rw) && decide (f.keep ≠ .none)

/-- R525: a discard takes the RW fields from every entry, and the entry with them where nothing else is recorded. -/
def discardSettings (m : FMap RegKey (Option EphEntry)) : FMap RegKey (Option EphEntry) :=
  m.filterMap fun e => match e.2 with
    | some x => if RegName.hasOwn e.1.name then some (e.1, some { x with rw := false }) else none
    | none => none

/-- R531: a record applied to the register values built so far. -/
def replayRec (m : FMap RegKey (Option EphEntry)) (r : JRec) : FMap RegKey (Option EphEntry) :=
  if r.kind = 4 then discardSettings m
  else if r.kind = 1 ∨ r.kind = 2 then
    match RegKey.ofOffset r.offset with
    | some k => FMap.set RegKey.lt none m k (some { value := r.value, rw := true })
    | none => m
  else m

/-- R531: the SEQ of the snapshot commit record of the readable part of an area. -/
def commitSeq (l : List JRec) : Option Nat := (l.find? fun r => decide (r.kind = 3)).map fun r => r.seq

namespace Dev

/-- The area of the journal in use. -/
def activeArea (d : Dev) : List JRec := if d.eph.active1 then d.eph.area1 else d.eph.area0

def setActive (d : Dev) (l : List JRec) : Dev :=
  { d with eph := if d.eph.active1 then { d.eph with area1 := l } else { d.eph with area0 := l } }

/-- A register stored without a record: what a start restores, and the Almanac's values (R527). -/
def putReg (d : Dev) (k : RegKey) (v : Word) : Dev := { d with regs := FMap.set RegKey.lt k.reset d.regs k v }

/-- R532: the journal compacted into the other area: one record for each class-E register of the SRAM, then the commit
record. The flash window must be open (R604). -/
def compact (d : Dev) : Dev :=
  if !d.power.flashOpen then d
  else
    let regs := d.eph.sram.filter fun e => e.1.name.journalled
    let recs := regs.zipIdx.map fun e =>
      ({ offset := e.1.1.offset, kind := if e.1.1.name = .BOOT_CTRL then 1 else 2
         value := (e.1.2.map fun x => x.value).getD 0, seq := d.eph.seq + 1 + e.2 } : JRec)
    let last := d.eph.seq + recs.length + 1
    let l := recs ++ [{ offset := 0, kind := 3, value := 0, seq := last }]
    let e := d.eph
    let e := if e.active1 then { e with area0 := l, active1 := false } else { e with area1 := l, active1 := true }
    { d with eph := { e with seq := last, compactions := e.compactions + 1 } }.logBoot Code.EPH_COMPACTED 0 last

/-- R530: the oldest pending record is written; R532: an area at seven eighths is compacted. -/
def writeRec (d : Dev) : Dev :=
  match d.eph.pending with
  | r :: rest =>
    let n := d.eph.seq + 1
    let x : JRec := { offset := r.key.offset, kind := r.kind, value := r.value, seq := n }
    let l := d.activeArea ++ [x]
    let d := { d with eph := { d.eph with pending := rest, seq := n, behind := d.eph.behind && !rest.isEmpty } }.setActive l
    if 229376 ≤ l.length then d.compact else d
  | [] => d

/-- R530: every pending record is written, the window permitting. -/
def writeAllRecs (d : Dev) : Dev :=
  if d.power.flashOpen then d.eph.pending.foldl (fun d _ => d.writeRec) d else d

/-- R533: a record that falls due while the window is closed is held: only the latest value of each register stays. -/
def holdRecs (d : Dev) : Dev :=
  if d.eph.pending.isEmpty then d
  else
    let l := d.eph.pending.foldl (fun l r => (l.filter fun x => decide (x.key ≠ r.key) || decide (r.kind = 4) || decide (x.kind = 4)) ++ [r]) []
    let was := d.eph.behind
    let d := { d with eph := { d.eph with pending := l, behind := true } }
    if was then d else (d.bump F.EPH_ERR_CNT.BEHIND_CNT F.EPH_ERR_CNT.BEHIND_SAT 1).logBoot Code.EPH_JOURNAL_BEHIND 0 l.length

/-- R530, R533: a pending record falls due. -/
def journalWrite (d : Dev) : Dev := if d.power.flashOpen then d.writeRec else d.holdRecs

/-- R531: the area that replay takes, and its records; `bad0` and `bad1` are the places at which an area stops being
readable. -/
def replayArea (d : Dev) (bad0 bad1 : Option Nat) : Bool × List JRec × Bool :=
  let cut (l : List JRec) (b : Option Nat) : List JRec := match b with
    | some n => l.take n
    | none => l
  let l0 := cut d.eph.area0 bad0
  let l1 := cut d.eph.area1 bad1
  let one := match commitSeq l0, commitSeq l1 with
    | some a, some b => decide (a < b)
    | none, some _ => true
    | _, none => false
  if one then (true, l1, decide (l1.length < d.eph.area1.length)) else (false, l0, decide (l0.length < d.eph.area0.length))

/-- R531: the journal replayed into the Ephemeris SRAM. -/
def replay (d : Dev) (bad0 bad1 : Option Nat) : Dev :=
  let (one, l, stopped) := d.replayArea bad0 bad1
  let sram := l.foldl replayRec []
  let e := d.eph
  let e := if one then { e with area1 := l, active1 := true } else { e with area0 := l, active1 := false }
  let d := { d with eph :=
    { e with sram := sram, valid := true, pending := [], behind := false, seq := l.foldl (fun m r => max m r.seq) 0 } }
  if stopped then (d.bump F.EPH_ERR_CNT.CORRUPT_CNT F.EPH_ERR_CNT.CORRUPT_SAT 1).logBoot Code.EPH_JOURNAL_CORRUPT l.length 0 else d

/-- R528: the class-E fields of the registers as the replayed SRAM has them; every other class-E field returns to the
Reset column. -/
def restoreE (d : Dev) : Dev :=
  let bare := d.regs.filterMap fun e =>
    let v := BitVec.ofNat 64 (assemble e.1.name.fields fun f => if f.keep = .e then fieldReset e.1 f else getBits e.2 f.hi f.lo)
    if v = e.1.reset then none else some (e.1, v)
  d.eph.sram.foldl (fun d e => match e.2 with
    | some x =>
      let old := d.reg e.1
      d.putReg e.1 (BitVec.ofNat 64 (assemble e.1.name.fields fun f =>
        if decide (f.keep = .e) && (x.rw || decide (f.access ≠ .rw)) then getBits x.value f.hi f.lo else getBits old f.hi f.lo))
    | none => d) { d with regs := bare }

/-- R525: every setting of the Ephemeris is discarded, in the journal as well. -/
def discardAll (d : Dev) : Dev :=
  let regs := d.regs.filterMap fun e =>
    let v := dropRw e.1 e.2
    if v = e.1.reset then none else some (e.1, v)
  let r : PendRec := { key := ⟨.BOOT_CTRL, 0, 0, 0⟩, kind := 4, value := 0 }
  let e := d.eph
  { d with regs := regs, eph := { e with sram := discardSettings e.sram, pending := e.pending ++ [r] } }.logBoot Code.EPH_DISCARDED 0 0

/-- Whether the RW fields of a register are recorded in the Ephemeris. -/
def recorded (d : Dev) (k : RegKey) : Bool :=
  match FMap.get none d.eph.sram k with
  | some e => e.rw
  | none => false

/-- R338: the route banks with their XFB_PART, which a warm start keeps as they are. -/
def bankReg (n : RegName) : Bool := [.XFB_PART_b, .XFB_ROUTE_b_d_h, .XFB_EXC_b_n].contains n

/-- R10, R11: the registers that `sel` selects lose what the event takes; at a start (`start`) an RW field keeps only a
recorded value, the route banks apart (R338). -/
def loseFields (d : Dev) (ev : KeepEvent) (start : Bool) (sel : RegKey → Bool) : Dev :=
  { d with regs := d.regs.filterMap fun e =>
      if sel e.1 then
        let v := keepWord ev (!start || d.recorded e.1 || bankReg e.1.name) e.1 e.2
        if v = e.1.reset then none else some (e.1, v)
      else some e }

/-- R9, R524: the Almanac applied to the RW fields that the Ephemeris does not hold, of the registers that `sel`
selects. -/
def applyAlmanac (d : Dev) (sel : RegKey → Bool) : Dev :=
  match d.boot.almanac with
  | some a => a.entries.foldl (fun d e =>
      match RegKey.ofOffset e.1 with
      | some k =>
        if sel k then
          let old := d.reg k
          let new := k.name.stored e.2
          let rec_ := d.recorded k
          d.putReg k (BitVec.ofNat 64 (assemble k.name.fields fun f =>
            if decide (f.access = .rw) && !(rec_ && decide (f.keep ≠ .none)) then getBits new f.hi f.lo else getBits old f.hi f.lo))
        else d
      | none => d) d
  | none => d

/-- R510: an uncorrectable error of the Ephemeris SRAM. -/
def sramLost (d : Dev) : Dev :=
  ({ d with eph := { d.eph with valid := false }, boot := { d.boot with warmRecord := false } }).sf F.BOOT_STAT.WARM_RECORD 0

/-- EPH_CTRL written: COMPACT, then FLUSH (R652). -/
def writeEphCtrl (d : Dev) (v : Word) : Dev :=
  let d := if getBits v 1 1 = 1 then d.compact else d
  if getBits v 0 0 = 1 then d.writeAllRecs else d

end Dev

/-! ### The commands -/

def execJournalWrite (s : State) : Host.Outcome State Fault Refusal := s.upd fun d => d.journalWrite

def execEphSramUncorrectable (s : State) : Host.Outcome State Fault Refusal := s.upd fun d => d.sramLost

end Sys2Proof.Machine
end

