-- ==== Sys2Proof/Machine/Power.lean ====
section
/-! DEFINITION. Power, clocks and temperature (chapter 16): the input and the cap (R573 to R579), operating points and the
Clock Drive (R585 to R590), droop (R588, R589), the Guide Star and the PLLs (R593, R594), temperature (R595 to R602), and the
flash write window (R603, R604). -/

namespace Sys2Proof.Machine

open Sys2Proof

/-- R585: the divider of an operating point, in tenths. -/
def opDivider : Nat → Nat
  | 7 => 40 | 6 => 45 | 5 => 50 | 4 => 60 | 3 => 72 | 2 => 90 | 1 => 120 | _ => 180

/-- R583: the frequency in MHz of an island that is no cluster's. -/
def islandMHz (n : Nat) : Nat := if n < 36 then 1600 else if n = 36 then 2000 else if n < 43 then 1750 else 1200

/-- R583, R585, R587: the frequency of an island at a divider, in whole MHz. -/
def freqAt (n : Nat) (div : Nat × Nat) : Nat :=
  if div.1 = 0 then 0 else (if n < 32 then 7200 else islandMHz n) * div.2 / div.1

/-- R587: step k of 16 of a ramp. -/
def rampDiv (a b : Nat × Nat) (k : Nat) : Nat × Nat := ((16 - k) * a.1 * b.2 + k * b.1 * a.2, 16 * a.2 * b.2)

/-- Sensors of a die, and the columns of their grid (the table of R595). -/
def sensorsOf (k : Nat) : Nat := if k < 8 then 24 else if k < 19 then 8 else 4
def gridCols (k : Nat) : Nat := if k < 8 then 6 else if k < 19 then 4 else 2

/-- R597: the adjacent positions in the grid, sensors numbered row by row. -/
def sensorNear (k s : Nat) : List Nat :=
  let c := gridCols k
  (List.range (sensorsOf k)).filter fun t =>
    (decide (t / c = s / c) && (decide (t + 1 = s) || decide (s + 1 = t))) || decide (t + c = s) || decide (s + c = t)

/-- A value put into a sorted list. -/
def insertSorted (x : Int) : List Int → List Int
  | [] => [x]
  | y :: l => if x ≤ y then x :: y :: l else y :: insertSorted x l

/-- Twice the median: of an even number of values, the sum of the middle two. -/
def median2 (l : List Int) : Int :=
  let s := l.foldl (fun a x => insertSorted x a) []
  let n := s.length
  if n % 2 = 1 then 2 * s.getD (n / 2) 0 else s.getD (n / 2 - 1) 0 + s.getD (n / 2) 0

/-- R599: the level that a maximum reaches, and the highest one at or below the old level that it does not leave; in
0.125 °C. -/
def thermLevel (m : Int) (old : Nat) : Nat :=
  let enter := if 920 ≤ m then 3 else if 840 ≤ m then 2 else if 760 ≤ m then 1 else 0
  let stay := if 3 ≤ old ∧ 880 ≤ m then 3 else if 2 ≤ old ∧ 800 ≤ m then 2 else if 1 ≤ old ∧ 720 ≤ m then 1 else 0
  max enter stay

namespace Dev

/-! ### Records and limits -/

/-- R605, R613: a power, clock or thermal code. -/
def logPwr (d : Dev) (code unit d0 d1 : Nat) : Dev := (d.sf F.PWR_STAT.LAST_CODE code).logAt code dieM unit d0 d1

def isl (d : Dev) (n : Nat) : IslandSt := NMap.get {} d.power.islands n

def modIsl (d : Dev) (n : Nat) (f : IslandSt → IslandSt) : Dev :=
  { d with power := { d.power with islands := NMap.set {} d.power.islands n (f (d.isl n)) } }

def therm (d : Dev) (k : Nat) : ThermSt := NMap.get {} d.power.therms k

def modTherm (d : Dev) (k : Nat) (f : ThermSt → ThermSt) : Dev :=
  { d with power := { d.power with therms := NMap.set {} d.power.therms k (f (d.therm k)) } }

/-- R600: the thermal limit of a cluster island: its own C-die's, and those of every die of another type. -/
def thermLimit (d : Dev) (n : Nat) : Nat :=
  (List.range 12).foldl (fun m k => min m (d.therm (8 + k)).limit) (d.therm (n / 4)).limit

/-- R586: the operating point in force and its limiter. -/
def opInForce (d : Dev) (n : Nat) : Nat × Nat :=
  let fw := d.gf F.CLK_ISLAND_n_CTRL.OP 0 n
  let x := d.isl n
  let th := d.thermLimit n
  let op := min (min fw x.capLimit) (min th x.droopLimit)
  (op, if op = 7 then 0 else if op = fw then 1 else if op = x.capLimit then 2 else if op = th then 3 else 4)

/-! ### The Clock Drive -/

/-- The island's present divider and frequency. -/
def setDiv (d : Dev) (n : Nat) (v : Nat × Nat) : Dev :=
  (d.modIsl n fun x => { x with div := v }).sf F.CLK_ISLAND_n_STAT.FREQ_MHZ (freqAt n v) 0 n

/-- R587: a ramp to a divider starts, or replans from the present divider. -/
def startRamp (d : Dev) (n : Nat) (b : Nat × Nat) : Dev :=
  (d.modIsl n fun x => { x with ramp := some { a := x.div, b := b, k := 0 }, rising := false }).sf F.CLK_ISLAND_n_STAT.RAMPING 1 0 n

/-- The divider that an island's point in force, or its ¾ limit (R589), calls for. -/
def wantedDiv (d : Dev) (n : Nat) : Nat × Nat :=
  if n < 32 then (opDivider (d.opInForce n).1, 10) else if (d.isl n).slow then (4, 3) else (1, 1)

/-- R586: a request has changed: the point in force follows. A falling point ramps at once; a rising one waits for its
rail. -/
def retarget (d : Dev) (n : Nat) : Dev :=
  if !d.on F.CLK_ISLAND_n_STAT.POWERED 0 n then d
  else if n < 32 then
    let old := d.gf F.CLK_ISLAND_n_STAT.OP_IN_FORCE 0 n
    let (op, who) := d.opInForce n
    let d := (d.sf F.CLK_ISLAND_n_STAT.OP_IN_FORCE op 0 n).sf F.CLK_ISLAND_n_STAT.LIMITER who 0 n
    if op < old then d.startRamp n (d.wantedDiv n)
    else if old < op then d.modIsl n fun x => { x with rising := true }
    else d
  else
    let d := d.sf F.CLK_ISLAND_n_STAT.LIMITER (if (d.isl n).slow then 4 else 0) 0 n
    d.startRamp n (d.wantedDiv n)

/-- R587: one step of a ramp; the stretch that it has taken over ends with it (R589). -/
def rampStep (d : Dev) (n : Nat) : Dev :=
  match (d.isl n).ramp with
  | some r =>
    let k := r.k + 1
    let d := d.setDiv n (if k = 16 then r.b else rampDiv r.a r.b k)
    if k < 16 then d.modIsl n fun x => { x with ramp := some { r with k := k } }
    else
      let taken := (d.isl n).taken
      let d := (d.modIsl n fun x => { x with ramp := none, taken := false }).sf F.CLK_ISLAND_n_STAT.RAMPING 0 0 n
      if taken then d.sf F.CLK_ISLAND_n_STAT.STRETCHED 0 0 n else d
  | none => d

/-- R586: a raised rail has settled. -/
def railSettled (d : Dev) (n : Nat) : Dev := if (d.isl n).rising then d.startRamp n (d.wantedDiv n) else d

/-- An island powered, its clock at the divider that its requests call for. -/
def islandUp (d : Dev) (n : Nat) : Dev :=
  let d := d.modIsl n fun _ => {}
  let d := (d.sf F.CLK_ISLAND_n_STAT.POWERED 1 0 n).sf F.CLK_ISLAND_n_STAT.PLL_LOCK 1 0 n
  let (op, who) := if n < 32 then d.opInForce n else (7, 0)
  let d := (d.sf F.CLK_ISLAND_n_STAT.OP_IN_FORCE op 0 n).sf F.CLK_ISLAND_n_STAT.LIMITER who 0 n
  d.setDiv n (d.wantedDiv n)

/-- An island's clock stops: no frequency, no ramp, no stretch. -/
def clockOff (d : Dev) (n : Nat) : Dev :=
  let d := (d.modIsl n fun _ => {}).sf F.CLK_ISLAND_n_STAT.FREQ_MHZ 0 0 n
  (d.sf F.CLK_ISLAND_n_STAT.RAMPING 0 0 n).sf F.CLK_ISLAND_n_STAT.STRETCHED 0 0 n

/-- An island turned off. -/
def islandOff (d : Dev) (n : Nat) : Dev :=
  let d := (d.clockOff n).sf F.CLK_ISLAND_n_STAT.POWERED 0 0 n
  let d := (d.sf F.CLK_ISLAND_n_STAT.PLL_LOCK 0 0 n).sf F.CLK_ISLAND_n_STAT.GATED 0 0 n
  (d.sf F.CLK_ISLAND_n_STAT.OP_IN_FORCE 0 0 n).sf F.CLK_ISLAND_n_STAT.LIMITER 0 0 n

/-! ### The cap -/

/-- R25: the highest cap that the working converters allow. -/
def converterCap (d : Dev) : Nat :=
  let n := 5 - d.power.failed
  if 4 ≤ n then 4000 else 1000 * n

/-- R576: the cap in force is the lowest of the three limits; source 196 when it changes. -/
def refreshCap (d : Dev) : Dev :=
  let w := min (d.gf F.PWR_CTRL.CAP_W) (min d.converterCap (if d.power.low then 2000 else 4000))
  if w = d.gf F.PWR_STAT.CAP_IN_FORCE_W then d else (d.sf F.PWR_STAT.CAP_IN_FORCE_W w).raise 196

/-- R577, R578: the cap controller lowers every cluster island below its point in force by one. -/
def lowerAll (d : Dev) : Dev :=
  (List.range 32).foldl (fun d n =>
    if d.on F.CLK_ISLAND_n_STAT.POWERED 0 n then
      (d.modIsl n fun x => { x with capLimit := d.gf F.CLK_ISLAND_n_STAT.OP_IN_FORCE 0 n - 1 }).retarget n
    else d) d

/-- R577: the limit of the cap controller rises by one point. -/
def raiseAll (d : Dev) : Dev :=
  (List.range 32).foldl (fun d n =>
    if d.on F.CLK_ISLAND_n_STAT.POWERED 0 n && decide ((d.isl n).capLimit < 7) then
      (d.modIsl n fun x => { x with capLimit := x.capLimit + 1 }).retarget n
    else d) d

/-- R577: a power window ends. At a window of 10 ms (`long`), with its average input power, the points fall; after 1
ms, with the highest power in it, they rise. -/
def capWindow (d : Dev) (long : Bool) (watts : Nat) : Dev :=
  let cap := d.gf F.PWR_STAT.CAP_IN_FORCE_W
  if long then (if cap < watts then d.lowerAll else d) else if 100 * watts < 97 * cap then d.raiseAll else d

/-! ### The input and the input-loss path -/

/-- Stage one is on, or a start holds it off in its Delay step or for 100 ms. -/
def runs (d : Dev) : Bool := d.power.stageOne || decide (d.boot.step = .delay) || decide (d.boot.step = .hold)

/-- R574: the input-loss path begins, for a LAST_OFF_CAUSE. One that runs already keeps its cause; a shutdown that is
under way for a cold start (R512) ends in Off instead. -/
def beginLoss (d : Dev) (cause : Nat) : Dev :=
  if d.power.path.isSome && d.power.toOff then d
  else
    let lost := d.runs && decide (cause ≠ 3)
    let d := (d.sf F.PWR_STAT.LAST_OFF_CAUSE cause).logPwr Code.PWR_INPUT_LOSS 0xFFFF 0 cause
    let p := d.power
    { d with
      power := { p with path := some (p.path.getD .clocks), toOff := true }
      safe := { d.safe with unplanned := d.safe.unplanned || lost } }

/-- R574: a trigger of the input-loss path; `opened` says that the input switch opens. -/
def lossPath (d : Dev) (cause : Nat) (opened : Bool) : Dev :=
  let d := if opened then { d with power := { d.power with closed := false } } else d
  if d.runs then d.beginLoss cause else d

/-- R573, R578: the readings of a sample and its runs; the flag says that the fast limit acts. -/
def inputRuns (d : Dev) (vin iin pin : Nat) : Bool × Dev :=
  let d := ((d.sf F.PWR_INPUT.VIN vin).sf F.PWR_INPUT.IIN iin).sf F.PWR_INPUT.PIN_W pin
  let d := d.incr F.PWR_ENERGY_CNT.UJ (10 * pin)
  let run (b : Bool) (n : Nat) : Nat := if b then n + 1 else 0
  let p := d.power
  let fast := run (decide (5 * d.gf F.PWR_STAT.CAP_IN_FORCE_W < 4 * pin)) p.fastRun
  (decide (fast = 5), { d with
    power := { p with
      lowRun := run (decide (vin < 4800)) p.lowRun, underRun := run (decide (vin < 4400)) p.underRun
      highRun := run (decide (6400 < vin)) p.highRun, overRun := run (decide (6600 < vin)) p.overRun
      fastRun := if fast = 5 then 0 else fast } })

/-- R573: the input has stayed below 48 V. -/
def inputLow (d : Dev) (vin : Nat) : Dev :=
  if 10 ≤ d.power.lowRun ∧ !d.power.low then
    let d := { d with power := { d.power with low := true } }
    let d := d.sf F.PWR_STAT.INPUT_LOW 1
    (((d.bump F.PWR_EVENT_CNT.LOW_CNT F.PWR_EVENT_CNT.LOW_SAT 1).logPwr Code.PWR_INPUT_LOW 0xFFFF 0 vin).raise 195).refreshCap
  else d

/-- R573: the input has stayed above 64 V, or is back below it. -/
def inputHigh (d : Dev) (vin : Nat) : Dev :=
  if 10 ≤ d.power.highRun ∧ !d.power.high then
    let d := { d with power := { d.power with high := true } }
    let d := d.sf F.PWR_STAT.INPUT_HIGH 1
    ((d.bump F.PWR_EVENT_CNT.HIGH_CNT F.PWR_EVENT_CNT.HIGH_SAT 1).logPwr Code.PWR_INPUT_HIGH 0xFFFF 0 vin).raise 195
  else if vin ≤ 6400 ∧ d.power.high then
    let d := { d with power := { d.power with high := false } }
    d.sf F.PWR_STAT.INPUT_HIGH 0
  else d

/-- R578: the fast limit. -/
def fastLimit (d : Dev) : Dev := (d.bump F.PWR_EVENT_CNT.FASTLIM_CNT F.PWR_EVENT_CNT.FASTLIM_SAT 1).lowerAll

/-- R573: an input that has been below 44 V or above 66 V for two samples. -/
def inputGone (d : Dev) : Dev := if 2 ≤ d.power.underRun ∨ 2 ≤ d.power.overRun then d.lossPath 1 true else d

/-- R573, R578: a sample of the input: voltage in 10 mV, current in 10 mA, power in W. -/
def inputSample (d : Dev) (vin iin pin : Nat) : Dev :=
  let (fast, d) := d.inputRuns vin iin pin
  if !d.power.stageOne then d.inputGone
  else
    let d := (d.inputLow vin).inputHigh vin
    (if fast then d.fastLimit else d).inputGone

/-- R573: the input has been low for 100 ms. -/
def lowTimeout (d : Dev) : Dev :=
  if d.power.low && decide (d.gf F.PWR_INPUT.VIN < 4800) then d.lossPath 1 false else d

/-- R573: the input has stayed at or above 48.5 V for 10 ms. -/
def lowLift (d : Dev) : Dev :=
  if d.power.low && decide (4850 ≤ d.gf F.PWR_INPUT.VIN) then
    ({ d with power := { d.power with low := false } }.sf F.PWR_STAT.INPUT_LOW 0).refreshCap
  else d

/-- R25: a stage-one converter fails. -/
def converterFail (d : Dev) : Dev :=
  if !d.power.stageOne || decide (5 ≤ d.power.failed) then d
  else
    let d := { d with power := { d.power with failed := d.power.failed + 1 } }
    let n := 5 - d.power.failed
    let d := ((d.sf F.PWR_STAT.CONVERTERS n).logPwr Code.PWR_CONVERTER_FAIL 0xFFFF 0 n).raise 196
    if n < 2 then d.lossPath 4 false else d.refreshCap

/-- R37: PGOOD_OUT follows the rails; R27: with the auxiliary path off it presents high impedance. -/
def refreshPgood (d : Dev) : Dev :=
  { d with power := { d.power with
    pgoodOut := if !d.power.aux then .highZ else if d.power.railsUp && d.power.badRails.isEmpty then .released else .low } }

/-- R37: a rail leaves or enters regulation. -/
def railChange (d : Dev) (rail : Nat) (ok : Bool) : Dev :=
  let l := d.power.badRails.filter fun r => decide (r ≠ rail)
  { d with power := { d.power with badRails := if ok then l else l ++ [rail] } }.refreshPgood

/-! ### Gating (R580, R590) -/

/-- PWR_STAT STATE in P0 and P1: P1 while every cluster island is gated (R580). -/
def reportP1 (d : Dev) : Dev :=
  if 2 ≤ d.gf F.PWR_STAT.STATE then d
  else d.sf F.PWR_STAT.STATE (if (List.range 32).all fun n => d.on F.CLK_ISLAND_n_STAT.GATED 0 n then 1 else 0)

/-- R580: every logical core of the cluster is all halted or paused, and its queues are empty. -/
def clusterIdle (d : Dev) (n : Nat) : Bool :=
  (List.range 4).all fun c => d.coreIdle (4 * n + c) && (List.range 8).all fun q => (d.queue (4 * n + c) q).isEmpty

def idleGate (d : Dev) (n : Nat) : Dev :=
  if d.islandOn n && d.clusterIdle n then (d.sf F.CLK_ISLAND_n_STAT.GATED 1 0 n).reportP1 else d

def ungate (d : Dev) (n : Nat) : Dev :=
  if d.islandOn n && d.on F.CLK_ISLAND_n_STAT.GATED 0 n then (d.sf F.CLK_ISLAND_n_STAT.GATED 0 0 n).reportP1 else d

/-- CLK_ISLAND_n_CTRL written (R586, R590): a write that clears EN where it may not is dropped and logged. -/
def writeIsland (d : Dev) (n : Nat) (v : Word) : Dev :=
  let en := getBits v 7 7
  if en = 0 ∧ !(decide (n < 32) && (List.range 4).all fun c => d.coreIdle (4 * n + c)) then
    (d.logPwr Code.PWR_STATE_REFUSED (1408 + n) (islandDie n + 256 * n) 0).raise 199
  else
    let was := d.on F.CLK_ISLAND_n_CTRL.EN 0 n
    let d := (d.sf F.CLK_ISLAND_n_CTRL.EN en 0 n).sf F.CLK_ISLAND_n_CTRL.OP (getBits v 2 0) 0 n
    let d := if was = decide (en = 1) then d else (d.sf F.CLK_ISLAND_n_STAT.GATED (1 - en) 0 n).reportP1
    if n < 32 then d.retarget n else d

/-! ### Droop (R588, R589) -/

def droopTrip (d : Dev) (n : Nat) : Dev :=
  if !d.on F.CLK_ISLAND_n_STAT.POWERED 0 n then d
  else
    let d := (d.modIsl n fun x => { x with tripped := true }).sf F.CLK_ISLAND_n_STAT.STRETCHED 1 0 n
    let d := d.bump F.CLK_ISLAND_n_STAT.DROOP_CNT F.CLK_ISLAND_n_STAT.DROOP_SAT 1 0 n
    (d.logPwr Code.CLK_DROOP (1408 + n) (islandDie n + 256 * n) 1).score (1408 + n) 1 Code.CLK_DROOP

/-- R588: 32 cycles after the last detector has cleared, the stretch ends; a hand-over's ends with its ramp (R589). -/
def droopClear (d : Dev) (n : Nat) : Dev :=
  let d := d.modIsl n fun x => { x with tripped := false }
  if (d.isl n).taken then d else d.sf F.CLK_ISLAND_n_STAT.STRETCHED 0 0 n

/-- R589: a trip has lasted longer than 2 µs. -/
def droopHandover (d : Dev) (n : Nat) : Dev :=
  if !(d.isl n).tripped then d
  else
    let d := if n < 32 then
        d.modIsl n fun x => { x with droopLimit := d.gf F.CLK_ISLAND_n_STAT.OP_IN_FORCE 0 n - 1 }
      else d.modIsl n fun x => { x with slow := true }
    let d := (d.retarget n).modIsl n fun x => { x with taken := x.ramp.isSome }
    (d.score (1408 + n) 8 Code.CLK_DROOP).raise 197

/-- R589: 1 ms without a trip. -/
def droopRecovery (d : Dev) (n : Nat) : Dev :=
  let x := d.isl n
  if x.tripped then d
  else if n < 32 then
    if x.droopLimit < 7 then (d.modIsl n fun x => { x with droopLimit := x.droopLimit + 1 }).retarget n else d
  else if x.slow then (d.modIsl n fun x => { x with slow := false, rising := true }).sf F.CLK_ISLAND_n_STAT.LIMITER 0 0 n
  else d

/-! ### Guide Star and PLLs -/

/-- R593: the Guide Star is lost, and every PLL holds its frequency. -/
def refLost (d : Dev) : Dev :=
  if !d.on F.CLK_STAT.REF_OK then d
  else (((d.sf F.CLK_STAT.REF_OK 0).sf F.CLK_STAT.HOLDOVER 1).logPwr Code.CLK_REF_LOST 0xFFFF dieM 0).raise 198

/-- R593: the Guide Star is not back within 1 ms: the device is occulted, its faces go down, and its Chronograph leaves
ALIGNED. -/
def holdoverExpiry (d : Dev) : Dev :=
  if !d.on F.CLK_STAT.HOLDOVER then d
  else
    let d := d.occult .device Code.CLK_REF_LOST false
    ((List.range 6).foldl (fun d f => d.faceFall f) d).loseAligned

/-- The Guide Star is in use or returns, with a measured frequency. -/
def refBack (d : Dev) (khz : Nat) : Dev :=
  ((d.sf F.CLK_STAT.REF_OK 1).sf F.CLK_STAT.HOLDOVER 0).sf F.CLK_STAT.REF_KHZ khz

/-- R594: an island's PLL loses lock: its clock stops and its units are occulted. -/
def pllUnlock (d : Dev) (n : Nat) : Dev :=
  if !d.on F.CLK_ISLAND_n_STAT.PLL_LOCK 0 n then d
  else
    let d := ((d.clockOff n).sf F.CLK_ISLAND_n_STAT.PLL_LOCK 0 0 n).logPwr Code.CLK_PLL_UNLOCK (1408 + n) (islandDie n + 256 * n) 0
    let d := (d.score (1408 + n) 1024 Code.CLK_PLL_UNLOCK).raise 198
    if h : n < 32 then d.occult (.island ⟨n, h⟩) Code.CLK_PLL_UNLOCK false
    else if h : islandDie n < 20 then d.occult (.die ⟨islandDie n, h⟩) Code.CLK_PLL_UNLOCK false
    else d

/-! ### Temperature -/

/-- THM_STAT: the highest maximum and its die, and whether any die is at Warning or a thermal limit is in force. -/
def refreshThm (d : Dev) : Dev :=
  let val (k : Nat) : Int := (BitVec.ofNat 16 (d.gf F.THM_DIE_k_STAT.MAX 0 k)).toInt
  let best := (List.range 20).foldl (fun b k => if val b < val k then k else b) 0
  let d := (d.sf F.THM_STAT.MAX_C (wrapInt 8 (val best / 8))).sf F.THM_STAT.MAX_DIE best
  let d := d.sf F.THM_STAT.WARNING (if (List.range 20).any fun k => decide (1 ≤ d.gf F.THM_DIE_k_STAT.LEVEL 0 k) then 1 else 0)
  d.sf F.THM_STAT.THROTTLE (if (List.range 20).any fun k => decide ((d.therm k).limit < 7) then 1 else 0)

/-- R600: the cluster islands that a die's thermal limit affects. -/
def thermRetarget (d : Dev) (k : Nat) : Dev :=
  if k < 8 then (List.range 4).foldl (fun d l => d.retarget (4 * k + l)) d
  else (List.range 32).foldl (fun d n => d.retarget n) d

/-- R597: a sensor leaves the maximum and the shutdown path. -/
def discardSensor (d : Dev) (k s r : Nat) : Dev :=
  let d := d.sf F.THM_DIE_k_DISCARD.DISCARDED (d.gf F.THM_DIE_k_DISCARD.DISCARDED 0 k ||| 2 ^ s) 0 k
  (d.logPwr Code.THM_SENSOR_DISCARDED 0xFFFF (k + 2 ^ 16 * s) r).raise 194

def sensorIn (d : Dev) (k s : Nat) : Bool := decide (s < sensorsOf k) && !bitOf (d.gf F.THM_DIE_k_DISCARD.DISCARDED 0 k) s

/-- R598: the count of sensors in service; with fewer than half of them a die is blind, and is occulted. -/
def checkBlind (d : Dev) (k : Nat) : Dev :=
  let n := ((List.range (sensorsOf k)).filter fun s => d.sensorIn k s).length
  let d := d.sf F.THM_DIE_k_STAT.IN_SERVICE n 0 k
  if 2 * n < sensorsOf k ∧ !d.on F.THM_DIE_k_STAT.BLIND 0 k then
    let d := ((d.sf F.THM_DIE_k_STAT.BLIND 1 0 k).logPwr Code.THM_DIE_BLIND 0xFFFF k n).raise 194
    if h : k < 20 then d.occult (.die ⟨k, h⟩) Code.THM_DIE_BLIND false else d
  else d

/-- R597: whether a reading disagrees: no reading, one outside −20 to 150 °C, or one more than 8 °C from the median of
its neighbours in service. -/
def disagrees (d : Dev) (k : Nat) (temps : List (Option Int)) (s : Nat) : Bool :=
  let sound (t : Int) : Bool := decide (-160 ≤ t) && decide (t ≤ 1200)
  match temps.getD s none with
  | none => true
  | some t =>
    if !sound t then true
    else
      let near := ((sensorNear k s).filter fun x => d.sensorIn k x).filterMap fun x => (temps.getD x none).filter sound
      !near.isEmpty && decide (128 < (2 * t - median2 near).natAbs)

/-- R597: every sensor in service is compared with its neighbours. -/
def crossCheck (d : Dev) (k : Nat) (temps : List (Option Int)) : Dev :=
  let bad := (List.range (sensorsOf k)).filter fun s => d.sensorIn k s && d.disagrees k temps s
  (List.range (sensorsOf k)).foldl (fun d s =>
    if !d.sensorIn k s then d
    else
      let n := if bad.contains s then NMap.get 0 (d.therm k).differ s + 1 else 0
      let d := d.modTherm k fun x => { x with differ := NMap.set 0 x.differ s n }
      if n = 10 then d.discardSensor k s (wrapInt 16 ((temps.getD s none).getD 0)) else d) d

/-- R595: the maximum of a die over its sensors in service, and the sensor that holds it. -/
def dieMax (d : Dev) (k : Nat) (temps : List (Option Int)) : Option (Int × Nat) :=
  (List.range (sensorsOf k)).foldl (fun m s =>
    if !d.sensorIn k s then m
    else match temps.getD s none, m with
      | some t, none => some (t, s)
      | some t, some (u, r) => if u < t then some (t, s) else some (u, r)
      | none, m => m) none

/-- R596: the sampling interval follows the maximum. -/
def sampleRate (d : Dev) (k : Nat) (m : Int) : Dev :=
  if 760 ≤ m then (d.modTherm k fun x => { x with cool := 0 }).sf F.THM_DIE_k_STAT.FAST 1 0 k
  else if !d.on F.THM_DIE_k_STAT.FAST 0 k then d
  else
    let n := if m < 744 then (d.therm k).cool + 1 else 0
    let d := d.modTherm k fun x => { x with cool := if n = 200 then 0 else n }
    if n = 200 then d.sf F.THM_DIE_k_STAT.FAST 0 0 k else d

/-- R599, R600: the thresholds. -/
def judgeTemp (d : Dev) (k : Nat) (m : Int) : Dev :=
  let old := d.gf F.THM_DIE_k_STAT.LEVEL 0 k
  let new := thermLevel m old
  let r := wrapInt 16 m
  let d := d.sf F.THM_DIE_k_STAT.LEVEL new 0 k
  let d := if old = 0 ∧ 1 ≤ new then
      ((d.bump F.THM_EVENT_CNT.WARN_CNT F.THM_EVENT_CNT.WARN_SAT 1).logPwr Code.THM_WARNING 0xFFFF k r).raise 192
    else if 1 ≤ old ∧ new = 0 then d.raise 192 else d
  if old < 2 ∧ 2 ≤ new then
    let d := ((d.bump F.THM_EVENT_CNT.THROT_CNT F.THM_EVENT_CNT.THROT_SAT 1).logPwr Code.THM_THROTTLE 0xFFFF k r).raise 193
    let op := d.gf F.THM_CTRL.THROTTLE_OP
    (d.modTherm k fun x => { x with limit := op }).thermRetarget k
  else if 2 ≤ old ∧ new < 2 then d.raise 193 else d

/-- R603, R604: the flash-area sensor's reading, in °C. -/
def flashReading (d : Dev) (t : Option Int) : Dev :=
  let was := d.power.flashOpen
  let isOpen := match t with
    | none => false
    | some x => if was then decide (0 ≤ x ∧ x ≤ 70) else decide (2 ≤ x ∧ x ≤ 68)
  let d := d.sf F.THM_STAT.FLASH_C (wrapInt 8 (t.getD 0))
  let d := { d with power := { d.power with flashOpen := isOpen } }.sf F.THM_STAT.FLASH_OPEN (if isOpen then 1 else 0)
  if was = isOpen then d
  else if isOpen then
    let e := d.eph
    ((e.heldFloors.foldl appendFloor { d with eph := { e with heldFloors := [] } }).raise 200).writeAllRecs
  else (d.logPwr Code.THM_FLASH_WINDOW_CLOSED 0xFFFF 0 (wrapInt 16 (t.getD 0))).raise 200

/-- R595 to R600, R603: a sample of a die's sensors in 0.125 °C, with the sensors of the module in °C. -/
def thermalSample (d : Dev) (k : Nat) (temps : List (Option Int)) (flash : Option Int) (inlet outlet : Int) : Dev :=
  let d := (d.sf F.THM_STAT.INLET_C (wrapInt 8 inlet)).sf F.THM_STAT.OUTLET_C (wrapInt 8 outlet)
  let d := (d.flashReading flash).crossCheck k temps
  let d := match d.dieMax k temps with
    | some (m, s) =>
      let d := (d.sf F.THM_DIE_k_STAT.MAX (wrapInt 16 m) 0 k).sf F.THM_DIE_k_STAT.MAX_SENSOR s 0 k
      (d.sampleRate k m).judgeTemp k m
    | none => d
  let d := (d.checkBlind k).refreshThm
  let cool := k = 19 ∧ (List.range 4).all fun s => match temps.getD s none with
    | some t => decide (t < 880)
    | none => false
  if cool then { d with power := { d.power with hot := false } } else d

/-- R600: a further 1 ms at or above 105 °C. -/
def throttleStep (d : Dev) (k : Nat) : Dev :=
  let m := (BitVec.ofNat 16 (d.gf F.THM_DIE_k_STAT.MAX 0 k)).toInt
  if 2 ≤ d.gf F.THM_DIE_k_STAT.LEVEL 0 k ∧ 840 ≤ m ∧ 0 < (d.therm k).limit then
    (d.modTherm k fun x => { x with limit := x.limit - 1 }).thermRetarget k
  else d

/-- R600: 10 ms below 100 °C. -/
def throttleRecovery (d : Dev) (k : Nat) : Dev :=
  if d.gf F.THM_DIE_k_STAT.LEVEL 0 k < 2 ∧ (d.therm k).limit < 7 then
    ((d.modTherm k fun x => { x with limit := x.limit + 1 }).thermRetarget k).refreshThm
  else d

/-- R601: two sensors in service on a die cross 115 °C, or no longer exceed it. -/
def crossing (d : Dev) (k : Nat) (above : Bool) : Dev :=
  let l := d.power.crossing.filter fun x => decide (x ≠ k)
  { d with power := { d.power with crossing := if above then l ++ [k] else l } }

/-- R601: 50 µs have passed since the crossing. -/
def thmShutdown (d : Dev) (k : Nat) : Dev :=
  if !d.power.crossing.contains k || !d.power.stageOne then d
  else
    let d := d.sf F.THM_EVENT_CNT.SHUTDOWN_CNT (satAt 0xFFFF (d.gf F.THM_EVENT_CNT.SHUTDOWN_CNT + 1))
    let d := d.logPwr Code.THM_SHUTDOWN 0xFFFF k (d.gf F.THM_DIE_k_STAT.MAX 0 k)
    { d with power := { d.power with crossing := [], hot := true } }.lossPath 2 false

/-- R602, R645: the comparators and droop detectors that the 50 ms test finds dead. -/
def comparatorTest (d : Dev) (failed : List (Nat × Nat)) (detectors : List Nat) : Dev :=
  let d := failed.foldl (fun d (k, s) =>
    if !d.sensorIn k s then d
    else
      let d := d.sf F.THM_DIE_k_DISCARD.COMP_FAIL (d.gf F.THM_DIE_k_DISCARD.COMP_FAIL 0 k ||| 2 ^ s) 0 k
      let d := (d.logPwr Code.THM_COMPARATOR_FAIL 0xFFFF (k + 2 ^ 16 * s) 0).raise 194
      (d.discardSensor k s 0).checkBlind k) d
  detectors.foldl (fun d n => (d.logAt Code.SAFE_MONITOR_FAIL dieM (1408 + n) (Config.mechanism 1).toNat n).raise 137) d

end Dev

/-! ### The commands -/

def execRailRegulationChange (rail : Nat) (ok : Bool) (s : State) : Host.Outcome State Fault Refusal :=
  s.upd fun d => d.railChange rail ok

def execConverterFail (s : State) : Host.Outcome State Fault Refusal := s.upd fun d => d.converterFail

def execInputSample (vin iin pin : Fin 65536) (s : State) : Host.Outcome State Fault Refusal :=
  s.upd fun d => if d.power.aux then d.inputSample vin iin pin else d

def execInputLowTimeout (s : State) : Host.Outcome State Fault Refusal := s.upd fun d => d.lowTimeout

def execInputLowLift (s : State) : Host.Outcome State Fault Refusal := s.upd fun d => d.lowLift

def execCapWindow (watts : Nat) (s : State) (long : Bool := true) : Host.Outcome State Fault Refusal :=
  s.upd fun d => d.capWindow long watts

def execIslandIdleGate (island : Fin 32) (s : State) : Host.Outcome State Fault Refusal := s.upd fun d => d.idleGate island

def execIslandUngate (island : Fin 32) (s : State) : Host.Outcome State Fault Refusal := s.upd fun d => d.ungate island

def execRampStep (island : Fin 44) (s : State) : Host.Outcome State Fault Refusal := s.upd fun d => d.rampStep island

def execRailSettled (island : Fin 44) (s : State) : Host.Outcome State Fault Refusal := s.upd fun d => d.railSettled island

def execDroopTrip (island : Fin 44) (s : State) : Host.Outcome State Fault Refusal := s.upd fun d => d.droopTrip island

def execDroopClear (island : Fin 44) (s : State) : Host.Outcome State Fault Refusal := s.upd fun d => d.droopClear island

def execDroopHandover (island : Fin 44) (s : State) : Host.Outcome State Fault Refusal :=
  s.upd fun d => d.droopHandover island

def execDroopRecovery (island : Fin 44) (s : State) : Host.Outcome State Fault Refusal :=
  s.upd fun d => d.droopRecovery island

def execClkRefLost (s : State) : Host.Outcome State Fault Refusal := s.upd fun d => d.refLost

def execRefHoldoverExpiry (s : State) : Host.Outcome State Fault Refusal := s.upd fun d => d.holdoverExpiry

def execGuideStarReturn (khz : Fin 131072) (s : State) : Host.Outcome State Fault Refusal :=
  s.upd fun d => if d.on F.CLK_STAT.HOLDOVER then d.refBack khz else d

def execClkPllUnlock (island : Fin 44) (s : State) : Host.Outcome State Fault Refusal := s.upd fun d => d.pllUnlock island

def execThrottleStep (die : Fin 20) (s : State) : Host.Outcome State Fault Refusal := s.upd fun d => d.throttleStep die

def execThrottleRecoveryStep (die : Fin 20) (s : State) : Host.Outcome State Fault Refusal :=
  s.upd fun d => d.throttleRecovery die

def execComparatorCrossing (die : Fin 20) (above : Bool) (s : State) : Host.Outcome State Fault Refusal :=
  s.upd fun d => d.crossing die above

def execThmShutdown (die : Fin 20) (s : State) : Host.Outcome State Fault Refusal := s.upd fun d => d.thmShutdown die

def execComparatorTest (failed : List (Fin 20 × Fin 24)) (detectors : List (Fin 44)) (s : State) :
    Host.Outcome State Fault Refusal :=
  s.upd fun d => d.comparatorTest (failed.map fun x => (x.1.val, x.2.val)) (detectors.map fun n => n.val)

end Sys2Proof.Machine
end

