-- ==== Sys2Proof/Machine/Boot.lean ====
section
/-! DEFINITION. Start-up (chapter 14): the kinds of start and what each loses (R508 to R512, R528, R535), the steps of a start
(R514 to R517), a start that fails (R519), firmware and Almanac slots (R522, R523, R538, R550 to R552, R559), First Light's
results (R639), and the input path of the module (R23, R24, R33 to R36, R574, R575, R658). -/

namespace Sys2Proof.Machine

open Sys2Proof

/-- BOOT_STAT STATE of a step. -/
def BootStep.code : BootStep → Nat
  | .delay | .down | .hold | .rails => 0
  | .rom => 1
  | .firmware | .ephemeris => 2
  | .inventory | .links => 3
  | .hbm => 4
  | .firstLight => 5
  | .ready => 6
  | .failed => 7
  | .recovery => 8
  | .quiesce => 9
  | .off => 10

/-- BOOT_STAT KIND. -/
def StartKind.code : StartKind → Nat
  | .cold => 0 | .warm => 1 | .wake => 2

/-- R11, R508: the event that precedes a start of a kind. -/
def StartKind.event : StartKind → KeepEvent
  | .cold => .cold | .warm => .warm | .wake => .parked

/-- R551: the header of an image is as it must be, and the image fits its slot of 24 MiB. -/
def imageFits (x : FwImage) : Bool :=
  decide (x.magic = 0x4D525746) && decide (x.format = 1) && decide (x.rest = 0)
    && decide (128 + x.code.length + 16704 ≤ 24 * 2 ^ 20)

/-- R522: an entry of an Almanac names a register, and its VALUE is zero outside the RW fields. -/
def almanacEntryOk (e : Nat × Word) : Bool :=
  match RegKey.ofOffset e.1 with
  | some k =>
    decide (e.1 % 8 = 0)
      && decide (e.2 = BitVec.ofNat 64 (assemble k.name.fields fun f => if f.access = .rw then getBits e.2 f.hi f.lo else 0))
  | none => false

/-- Strictly rising numbers. -/
def rising : List Nat → Bool
  | a :: b :: l => decide (a < b) && rising (b :: l)
  | _ => true

/-- R521, R522, R559: the contents of an Almanac slot are valid; its signature apart. -/
def almanacOk (fl : Nat) (a : Almanac) : Bool :=
  decide (a.magic = 0x4E4D4C41) && decide (a.format = 1) && decide (a.flags < 2)
    && decide (1 ≤ a.entries.length ∧ a.entries.length ≤ 200000) && decide (a.sigOffset = 64 + 16 * a.entries.length)
    && rising (a.entries.map fun e => e.1) && a.entries.all almanacEntryOk && decide (fl ≤ a.sequence)

/-- R523: the Almanac chosen, with its slot (true for B), and whether the slot with the higher SEQUENCE was not valid.
-/
def chooseAlmanac (ok : Almanac → Bool) (a b : Option Almanac) : Option (Almanac × Bool) × Bool :=
  let ok (x : Option Almanac) : Option Almanac := x.filter ok
  let bFirst := match a, b with
    | some x, some y => decide (x.sequence < y.sequence)
    | none, some _ => true
    | _, none => false
  let first := if bFirst then (b, true) else (a, false)
  let other := if bFirst then (a, false) else (b, true)
  match ok first.1, ok other.1 with
  | some x, _ => (some (x, first.2), false)
  | none, some y => (some (y, other.2), true)
  | none, none => (none, false)

/-- The dies at the ends of a link. -/
def linkDies (n : Nat) : List Nat :=
  match linkKind n with
  | .cx c => [c, dieX (c / 2)]
  | .cxAlt c => [c, dieX (c / 2 ^^^ 1)]
  | .xs => [dieX (n - 16), dieS]
  | .sp f => [dieS, dieP f]
  | .ms => [dieM, dieS]
  | .mx => [dieM, dieX (n - 27)]

/-- The die at the initiator's end of a link (chapter 12, Width agreement). -/
def initiatorDie (n : Nat) : Nat :=
  match linkKind n with
  | .cx c => dieX (c / 2)
  | .cxAlt c => dieX (c / 2 ^^^ 1)
  | .xs | .sp _ => dieS
  | .ms | .mx => dieM

/-- The registers of a die's blocks; the link windows of an X-die's block apart, which its links' retraining follows
(`linkOf`), and apart from the registers that read the same in every X-die: one X-die's reset takes no value from
them, since the other X-dies still show it (DESIGN CHOICE, log entry 9). -/
def ofDie (k : Nat) (x : RegKey) : Bool :=
  match x.name.info.place.block with
  | .cluster => decide (x.u / 4 = k)
  | .core => decide (x.u / 16 = k)
  | .engine => decide (x.u / 32 = k)
  | .xdie => decide (k = dieX x.u) && !x.name.isLink && !x.name.sharedX
  | .sdie | .gas => decide (k = dieS)
  | .pdie => decide (k = dieP x.u)
  | _ => false

/-- The registers of the link windows that lie in an X-die's block (R475's section). -/
def linkOf (k : Nat) (x : RegKey) : Bool := x.name.isLink && decide (k = dieX (linkQuadrant x.i))

namespace Dev

/-! ### Steps -/

/-- The state of the boot sequence, with the STATE that it shows. -/
def setBoot (d : Dev) (st : BootStep) : Dev :=
  { d with boot := { d.boot with step := st } }.sf F.BOOT_STAT.STATE st.code

/-- R613, R615: a security code, noted in SEC_STAT LAST_CODE. -/
def logSec (d : Dev) (code d0 d1 : Nat) : Dev := (d.sf F.SEC_STAT.LAST_CODE code).logAt code dieM 0xFFFF d0 d1

/-- R512: a cold start begun without a rise of PGOOD_IN: pending journal records are written, and the shutdown of R574
begins. -/
def coldRestart (d : Dev) : Dev :=
  let d := d.writeAllRecs
  let d := { d with
    power := { d.power with path := some (d.power.path.getD .clocks) }
    boot := { d.boot with coldNext := false, resetting := none, handover := none } }
  (d.setBoot .down).sf F.BOOT_STAT.READY 0

/-- A step ends and the next begins: a COLD that waits takes effect at this boundary (R511). -/
def stepTo (d : Dev) (st : BootStep) : Dev := if d.boot.coldNext then d.coldRestart else d.setBoot st

/-- R519: a start that fails: a cold start ends in FAILED, a warm start or a wake becomes a cold start. -/
def startFail (d : Dev) (code : Nat) : Dev :=
  if d.boot.kind = .cold then ((d.setBoot .failed).sf F.BOOT_STAT.FAIL_CODE code).logBoot code 0 0
  else
    let d := { d with safe := { d.safe with unplanned := true } }
    (d.logBoot Code.BOOT_WARM_FAILED 0 code).coldRestart

/-- R519: RECOVERY: stage one off, the always-on domain alone. -/
def toRecovery (d : Dev) : Dev :=
  let d := (List.range 44).foldl (fun d n => d.islandOff n) d
  let d := { d with power := { d.power with stageOne := false, railsUp := false } }.refreshPgood
  (d.sf F.PWR_STAT.CONVERTERS 0).setBoot .recovery

/-! ### What a start loses (R528, R535) -/

/-- R655: no occultation survives: the logical cores that they took out of service hold their physical cores again. -/
def restoreCores (d : Dev) : Dev :=
  (List.range 128).foldl (fun d c =>
    if d.inService c then d else d.setPhys (c / 4) (c % 4) (NMap.get 7 d.safe.phys c)) d

/-- What a port keeps outside its registers: the record of P_ref, the receive channels that have failed or are
retired, and the retained calibration (R360), which a cold start loses. -/
def keepPort (warm : Bool) (x : OptPort) : OptPort :=
  { pref := x.pref, rxDead := x.rxDead, rxRetired := x.rxRetired, cal := if warm then x.cal else none }

/-- What no register holds, at a start of a kind (R535): stores, instruction memories, engines and threads are lost,
and so are packets, requests, groups, companion lines, Transits and rates. HBM is kept by a warm start alone; the
reply cache, HBM training and calibration by a warm start and a wake. -/
def wipeUnits (d : Dev) (kind : StartKind) : Dev :=
  let warm := decide (kind ≠ .cold)
  let k := d.freeIx
  let d := d.restoreCores
  let subst := substFrom [] [] d.mappedOut
  let kept := if warm && d.coordsValid then some (d.self, bitsOf (d.reg ⟨.XFB_DIMS, 0, 0, 0⟩).toNat 17 0) else none
  { d with
    chrono := 0
    freeIx := k + 3
    log := {}
    cores := []
    engines := []
    swaps := []
    unspecCore := [(0, 2 ^ 30, k)]
    unspecCluster := [(0, 2 ^ 29, k + 1)]
    unspecImem := [(0, 2 ^ 27, k + 2)]
    coreStore := []
    clusterStore := []
    imem := []
    injected := []
    inside := []
    held := []
    rates := []
    listed := []
    suspects := []
    reqs := []
    dseqs := []
    collq := []
    colls := if warm then NMap.mapVals {} d.colls (fun x => { members := x.members }) else []
    occulted := false
    hbm := if kind = .warm then d.hbm else []
    mem :=
      { poison := if kind = .warm then d.mem.poison else [], subst := subst, trainTemp := if warm then d.mem.trainTemp else [] }
    gas := { replies := if warm then d.gas.replies else [], zeroed := d.gas.zeroed, zeroPending := d.gas.zeroPending }
    fab := { kept := kept }
    ports := NMap.mapVals {} d.ports (keepPort warm)
    time := {}
    dlk := {}
    hlk := {}
    int := {}
    sec :=
      { identity := if warm then d.sec.identity else none, secret := if warm then d.sec.secret else none, owner := d.sec.owner }
    safe :=
      { residueDead := warm && d.safe.residueDead, serviceNs := d.safe.serviceNs, lossNs := d.safe.lossNs
        unplanned := d.safe.unplanned }
    power := { d.power with islands := [], therms := [], crossing := [] }
    boot := { d.boot with
      handover := none, staged := none, resetting := none, training := [], almanac := none, ownerChanged := false } }

/-- Registers that report what the always-on domain holds beside them, put back after their fields have been lost. -/
def syncBoot (d : Dev) : Dev :=
  let d := (d.sf F.BOOT_STAT.STATE d.boot.step.code).sf F.BOOT_STAT.KIND d.boot.kind.code
  let d := d.sf F.BOOT_STAT.WARM_RECORD (if d.boot.warmRecord then 1 else 0)
  let d := d.sf F.PWR_STAT.CONVERTERS (if d.power.stageOne then 5 - d.power.failed else 0)
  let d := (d.sf F.PWR_STAT.INPUT_LOW (if d.power.low then 1 else 0)).sf F.PWR_STAT.INPUT_HIGH (if d.power.high then 1 else 0)
  let d := d.sf F.THM_STAT.FLASH_OPEN (if d.power.flashOpen then 1 else 0)
  let d := d.sf F.GAS_REPLY_STAT.IN_USE d.gas.replies.length
  let d := d.sf F.SAFE_MON_STAT.RESIDUE_DEAD (if d.safe.residueDead then 1 else 0)
  d.sf F.PWR_STAT.CAP_IN_FORCE_W (min (d.gf F.PWR_CTRL.CAP_W) (min d.converterCap (if d.power.low then 2000 else 4000)))

/-- R42: outside P3, Off and RECOVERY the port has no EXTEST: one that is in force ends as a start begins, and the port
returns to IDCODE (the model's choice, log entry 6). -/
def endExtest (d : Dev) : Dev :=
  if d.mgmt.driving then { d with mgmt := { d.mgmt with driving := false, ir := .idcode, tdo := [] } } else d

/-- A start of a kind begins: what the event before it takes is lost (R10, R528), but for the strap, the delay (R512)
and the Guide Star's state, which the always-on domain holds; the start goes to its first step. -/
def enterStart (d : Dev) (kind : StartKind) (first : BootStep) : Dev :=
  let was := decide (kind ≠ .cold) && d.occulted
  let strap := d.reg ⟨.BOOT_STRAP, 0, 0, 0⟩
  let ref := d.reg ⟨.CLK_STAT, 0, 0, 0⟩
  let d := (d.wipeUnits kind).loseFields kind.event true fun _ => true
  let d := ((d.putReg ⟨.BOOT_STRAP, 0, 0, 0⟩ strap).putReg ⟨.CLK_STAT, 0, 0, 0⟩ ref).endExtest
  let d := { d with boot := { d.boot with
    step := first, kind := kind, identity := decide (kind ≠ StartKind.cold), coldNext := false, wasOcculted := was
    delayRan := decide (first = BootStep.delay) } }
  d.syncBoot

/-! ### The input and PGOOD_IN -/

/-- R31, R34, R509: a rise of PGOOD_IN is acted on: a cold start with its Delay step. -/
def pgoodStart (d : Dev) : Dev :=
  let d := { d with power := { d.power with rise := false, hold := false } }
  (d.enterStart .cold .delay).sf F.BOOT_STRAP.DELAY_US 0

/-- R36, R601: a rise that has waited is acted on once nothing holds it and the input switch is closed. -/
def tryRise (d : Dev) : Dev :=
  let p := d.power
  if p.rise && p.pgoodIn && p.aux && p.closed && !p.stageOne && p.path.isNone && !p.hold && !p.hot then d.pgoodStart else d

/-- R30, R34, R575: a rise of PGOOD_IN with the auxiliary path in service; `vin` is the input voltage in 10 mV. -/
def pgoodRise (d : Dev) (strap vin : Nat) : Dev :=
  let d := d.sf F.BOOT_STRAP.OSC_DLY strap
  if vin < 4800 ∨ 6400 < vin then d else { d with power := { d.power with rise := true } }.tryRise

/-- R33, R35, R511: PGOOD_IN falls: the input-loss path while stage one is on or a start holds it off; in RECOVERY the
device goes Off. -/
def pgoodFall (d : Dev) : Dev :=
  let d := { d with power := { d.power with pgoodIn := false, rise := false } }
  if d.runs then d.lossPath 3 false
  else if d.boot.step = .recovery ∧ d.power.path.isNone then d.setBoot .off
  else d

/-- R658: the auxiliary path leaves service: what the flash and the module's own parts hold stays. -/
def powerLost (d : Dev) : Dev :=
  { ({} : Dev) with
    freeIx := d.freeIx
    power := { mated := d.power.mated, closed := d.power.closed, pgoodIn := d.power.pgoodIn, failed := d.power.failed }
    eph := { d.eph with sram := [], valid := false, pending := [], behind := false, seq := 0 }
    gas := { zeroed := d.gas.zeroed }
    ports := NMap.mapVals {} d.ports (keepPort false)
    safe := { serviceNs := d.safe.serviceNs, lossNs := d.safe.lossNs, unplanned := d.safe.unplanned } }

/-! ### The shutdown (R574, R512) -/

/-- Clocks stop: every island but the always-on domain. -/
def clocksStopped (d : Dev) : Dev :=
  if d.power.path ≠ some .clocks then d
  else
    let d := (List.range 44).foldl (fun d n => d.clockOff n) d
    { d with power := { d.power with path := some .rails } }

/-- Rails off: PGOOD_OUT falls, and HBM contents are lost. -/
def railsOff (d : Dev) : Dev :=
  if d.power.path ≠ some .rails then d
  else
    let d := (List.range 44).foldl (fun d n => d.islandOff n) d
    { d with
      hbm := [], mem := { d.mem with poison := [] }
      power := { d.power with path := some .journal, railsUp := false } }.refreshPgood

/-- The journal is done and stage one turns off: the device is Off, or holds for 100 ms and goes on with a cold start
(R512). R510: the warm record is cleared. R36: a rise that waits holds for 100 ms. -/
def stageOneOff (d : Dev) : Dev :=
  if d.power.path ≠ some .journal then d
  else
    let d := d.writeAllRecs
    let toOff := d.power.toOff
    let d := (d.wipeUnits .cold).loseFields .cold true fun k => (islandOf k).isSome
    let p := d.power
    let d := { d with
      power := { p with stageOne := false, path := none, toOff := false, hold := !toOff || p.rise }
      boot := { d.boot with warmRecord := false, image := none } }
    let d := (d.sf F.PWR_STAT.CONVERTERS 0).sf F.BOOT_STAT.WARM_RECORD 0
    let d := (d.sf F.BOOT_STAT.READY 0).sf F.PWR_STAT.STATE 0
    d.setBoot (if toOff then .off else .hold)

/-- R36: the hold after a shutdown ends. -/
def pgoodHoldEnd (d : Dev) : Dev :=
  if !d.power.hold || decide (d.boot.step = .hold) then d
  else { d with power := { d.power with hold := false } }.tryRise

/-- R25: with one converter or none, stage one turns off again through the input-loss path. -/
def converterCheck (d : Dev) : Dev := if 4 ≤ d.power.failed then d.lossPath 4 false else d

/-- R512: the hold ends and the start goes on from Rails. -/
def stageOneHoldEnd (d : Dev) : Dev :=
  if d.boot.step ≠ .hold || d.power.path.isSome then d
  else
    let d := { d with power := { d.power with hold := false, stageOne := true } }
    (d.enterStart .cold .rails).converterCheck

/-! ### The first steps -/

/-- R31: the strap delay ends, and the Rails step begins with stage one. -/
def delayEnd (d : Dev) (khz : Nat) : Dev :=
  if d.boot.step ≠ .delay || d.power.path.isSome then d
  else
    let d := { d with power := { d.power with stageOne := true } }
    let d := d.sf F.PWR_STAT.CONVERTERS (5 - d.power.failed)
    ((d.refBack khz).stepTo .rails).converterCheck

/-- R566: a new challenge. -/
def newChallenge (d : Dev) : Dev :=
  ((List.range 4).foldl (fun d k => d.setReg ⟨.DBG_CHALLENGE_k, 0, k, 0⟩ (Config.freeWord d.freeIx k)) d).draw

/-- The rails are in regulation: every island has its clock, and PGOOD_OUT is released (R37). -/
def railsIn (d : Dev) : Dev :=
  if d.boot.step ≠ .rails || !d.power.stageOne || d.power.path.isSome then d
  else
    let d := { d with power := { d.power with railsUp := true, badRails := [] } }.refreshPgood
    let d := (List.range 44).foldl (fun d n => d.islandUp n) d
    d.newChallenge.stepTo .rom

/-- The boot control record as BOOT_FW_STAT and BOOT_FW_VER_s report it. -/
def mirrorFw (d : Dev) : Dev :=
  let e := d.eph
  let d := (d.sf F.BOOT_FW_STAT.ACTIVE (if e.activeB then 1 else 0)).sf F.BOOT_FW_STAT.STATE_A e.stateA
  let d := ((d.sf F.BOOT_FW_STAT.TRIES_A e.triesA).sf F.BOOT_FW_STAT.STATE_B e.stateB).sf F.BOOT_FW_STAT.TRIES_B e.triesB
  let ver (st : Nat) (x : Option FwImage) : Nat := if st = 0 then 0 else (x.map fun i => i.version).getD 0
  (d.sf F.BOOT_FW_VER_s.VERSION (ver e.stateA e.slotA) 0 0).sf F.BOOT_FW_VER_s.VERSION (ver e.stateB e.slotB) 0 1

/-- The boot ROM has checked itself and read the boot control record; R513: it reports the delay as it ran. -/
def romDone (d : Dev) (delayUs : Nat) : Dev :=
  if d.boot.step ≠ .rom then d
  else
    let d := if d.boot.delayRan then d.sf F.BOOT_STRAP.DELAY_US delayUs else d
    d.mirrorFw.stepTo .firmware

/-- R554: the identity certificate names the derived pair and this module, and verifies with role 6. -/
def identityAgrees (d : Dev) (pair : KeyPair) : Bool :=
  match d.eph.records.identity with
  | some c =>
    decide (c.role = 6) && decide (c.pair.id = pair.id) && decide (c.serial = Config.moduleSerial.toNat)
      && certOk d.rootKeyId d.eph.records.all 3 c
  | none => false

/-- The security records as the M-die reads them in the flash; none: as this device last knew them. -/
def readRecords (d : Dev) (r : Option SecRecords) : Dev := { d with eph := { d.eph with records := r.getD d.eph.records } }

/-- R553, R554: the identity pair has been derived from the silicon and the helper data. -/
def identityDone (d : Dev) (records : Option SecRecords) : Dev :=
  if d.boot.identity || !([BootStep.firmware, .ephemeris, .inventory].contains d.boot.step) then d
  else
    let d := { d.readRecords records with boot := { d.boot with identity := true } }
    let secret := idSecret d.eph.records.helper
    let keyId := secret.pair.id
    if d.identityAgrees secret.pair then
      let d := { d with sec := { d.sec with identity := some keyId, secret := some secret } }.sf F.SEC_STAT.IDENTITY 1
      (List.range 6).foldl (fun d k => d.sf F.SEC_ID_KEYID_k.KEYID (keyId / 2 ^ (64 * k)) 0 k) d
    else ({ d with sec := { d.sec with identity := none, secret := none } }.sf F.SEC_STAT.IDENTITY 2).logSec Code.SEC_IDENTITY_FAIL 0 0

/-! ### The Firmware step -/

/-- The state and the tries of a firmware slot. -/
def slotState (d : Dev) (b : Bool) : Nat × Nat := if b then (d.eph.stateB, d.eph.triesB) else (d.eph.stateA, d.eph.triesA)

def setSlot (d : Dev) (b : Bool) (st tries : Nat) : Dev :=
  { d with eph := if b then { d.eph with stateB := st, triesB := tries } else { d.eph with stateA := st, triesA := tries } }.mirrorFw

def slotImage (d : Dev) (b : Bool) : Option FwImage := if b then d.eph.slotB else d.eph.slotA

/-- The firmware floor in force, and the Almanac floor (R559). -/
def fwFloor (d : Dev) : Nat := d.gf F.SEC_FLOOR.FW_FLOOR

/-- R550, R552: the code with which an image fails to verify, if it does. -/
def imageFault (d : Dev) : Option FwImage → Option Nat
  | some x =>
    match d.itemFault 1 (fun c => decide (c.role = 1)) x.sig with
    | some code => some code
    | none => if !imageFits x then some Code.SEC_SIG_FAIL else if x.svn < d.fwFloor then some Code.SEC_ROLLBACK else none
  | none => some Code.SEC_SIG_FAIL

/-- R550: which signature of an image failed. -/
def imageFailure (x : Option FwImage) : Nat := (x.map fun (y : FwImage) => sigFailure y.sig).getD 0

/-- R538, R550, R552: a slot under the test for a start; a slot that does not verify is logged, and a TRIAL slot that
starts uses one try. -/
def trySlot (d : Dev) (b : Bool) : Bool × Dev :=
  let (st, tries) := d.slotState b
  if st = 2 ∨ (st = 1 ∧ 0 < tries) then
    match d.imageFault (d.slotImage b) with
    | some code => (false, d.logSec code (if b then 0x2000000 else 0x800000) (imageFailure (d.slotImage b)))
    | none =>
      let d := if st = 1 then d.setSlot b 1 (tries - 1) else d
      (true, { d with boot := { d.boot with image := d.slotImage b } }.sf F.BOOT_FW_STAT.RUNNING (if b then 1 else 0))
  else (false, d)

/-- R538, R519: the firmware slot started, or RECOVERY. -/
def chooseFirmware (d : Dev) : Bool × Dev :=
  let b := d.eph.activeB
  let (ok, d) := d.trySlot b
  if ok then (true, d)
  else
    let d := d.setSlot b 3 0
    let (ok, d) := d.trySlot (!b)
    if ok then (true, d.logBoot Code.BOOT_FW_FALLBACK (if b then 0x800000 else 0x2000000) 0)
    else (false, (d.logBoot Code.BOOT_NO_FIRMWARE 0 0).toRecovery)

/-- R557, R559: the floor log and the owner. The log's source names the offset of a record that is ignored. -/
def readSecurity (d : Dev) (r : FlashRead) : Dev :=
  let d := d.readRecords r.records
  let all := d.eph.records.floors
  let d : Dev := (all.filter fun e => !d.floorOk e.2).foldl (fun d e => d.logSec Code.SEC_FLOOR_RECORD_INVALID e.1 e.2.floor) d
  let l := all.map fun e => e.2
  let d : Dev := (d.sf F.SEC_FLOOR.FW_FLOOR (d.floorAmong l 1)).sf F.SEC_ALM_FLOOR.FLOOR (d.floorAmong l 2)
  let owner : Option Nat := d.ownerCert.map fun (c : Cert) => c.pair.id
  let changed := decide (owner ≠ d.eph.lastOwner)
  let d := { d with
    sec := { d.sec with owner := owner }, eph := { d.eph with lastOwner := owner }
    boot := { d.boot with ownerChanged := changed } }
  let d := d.sf F.SEC_STAT.OWNED (if owner.isSome then 1 else 0)
  if changed then d.logSec Code.SEC_OWNER_CHANGED 0x30000 0 else d

/-- R522, R550: an Almanac's signature block is accepted, or the code with which it is refused. -/
def almanacFault (d : Dev) (a : Almanac) : Option Nat := d.itemFault 2 (almanacSigner d.sec.owner.isSome) a.sig

/-- R550: the refusal of an Almanac slot's signature block is logged. -/
def logAlmanac (d : Dev) (b : Bool) (x : Option Almanac) : Dev :=
  match x with
  | some a =>
    match d.almanacFault a with
    | some code => d.logSec code (if b then 0x3C00000 else 0x3800000) (sigFailure a.sig)
    | none => d
  | none => d

/-- R519, R523, R559: the Almanac slot chosen. -/
def readAlmanac (d : Dev) (r : FlashRead) : Dev :=
  let d := (d.logAlmanac false r.almanacA).logAlmanac true r.almanacB
  match chooseAlmanac (fun a => (d.almanacFault a).isNone && almanacOk (d.gf F.SEC_ALM_FLOOR.FLOOR) a) r.almanacA r.almanacB with
  | (some (a, b), fell) =>
    let d := { d with boot := { d.boot with almanac := some a } }
    let d := (d.sf F.BOOT_FW_STAT.ALMANAC_SLOT (if b then 1 else 0)).sf F.BOOT_ALMANAC_SEQ.SEQUENCE a.sequence
    let d := d.sf F.BOOT_LAST_START.ALMANAC_ENTRIES a.entries.length
    if fell then d.logBoot Code.BOOT_ALMANAC_FALLBACK (if b then 0x3800000 else 0x3C00000) a.sequence else d
  | (none, _) =>
    ({ d with boot := { d.boot with almanac := none } }.sf F.BOOT_STAT.NO_ALMANAC 1).logBoot Code.BOOT_ALMANAC_INVALID 0 0

/-- The Firmware step ends. -/
def firmwareDone (d : Dev) (r : FlashRead) : Dev :=
  if d.boot.step ≠ .firmware then d
  else
    let d := { d with eph := { d.eph with slotA := r.imageA, slotB := r.imageB } }.mirrorFw
    let (ok, d) := (d.readSecurity r).chooseFirmware
    if ok then (d.readAlmanac r).stepTo .ephemeris else d

/-! ### Ephemeris and Inventory -/

/-- R525, R557: the Ephemeris settings are to be discarded at this start. -/
def discardDue (d : Dev) : Bool :=
  let held := match FMap.get none d.eph.sram ⟨.BOOT_CTRL, 0, 0, 0⟩ with
    | some e => decide (getBits e.value 2 2 = 1)
    | none => false
  let alm := match d.boot.almanac with
    | some a => decide (d.eph.lastAlmanac < a.sequence) && bitOf a.flags 0
    | none => false
  d.boot.ownerChanged || held || alm

/-- The Ephemeris step ends: R531, the journal replayed at a cold start; R525, a discard; R528, the fields restored;
and the start counted. -/
def ephemerisDone (d : Dev) (bad0 bad1 : Option Nat) : Dev :=
  if d.boot.step ≠ .ephemeris then d
  else
    let cold := decide (d.boot.kind = .cold)
    let d := if cold then d.replay bad0 bad1 else d
    let d := if d.discardDue then d.discardAll.sf F.BOOT_CTRL.EPH_DISCARD 0 else d
    let d := (if cold then d.restoreE.restoreSubst else d).mirrorFw
    let d := { d with eph := { d.eph with
      lastAlmanac := max d.eph.lastAlmanac ((d.boot.almanac.map fun (a : Almanac) => a.sequence).getD 0) } }
    let d := if cold then d.incr F.BOOT_START_CNT.COLD_CNT 1 else d.incr F.BOOT_START_CNT.WARM_CNT 1
    ((List.range 19).foldl sideSend d).stepTo .inventory

/-- R474: the minimum stepping of a die, from DLK_PKG_LEVEL. -/
def minStepping (d : Dev) (k : Nat) : Nat :=
  match dieType k with
  | 0 => d.gf F.DLK_PKG_LEVEL.MIN_C
  | 1 => d.gf F.DLK_PKG_LEVEL.MIN_X
  | 2 => d.gf F.DLK_PKG_LEVEL.MIN_S
  | 3 => d.gf F.DLK_PKG_LEVEL.MIN_P
  | _ => d.gf F.DLK_PKG_LEVEL.MIN_M

def dieOutOfService (d : Dev) (k : Nat) : Bool := d.on F.DLK_DIE_k_INV.OCCULTED 0 k

/-- R473, R474: every die has answered or is lost; those below their minimum are occulted. -/
def judgeDies (d : Dev) : Dev :=
  (List.range 19).foldl (fun d k =>
    if d.dieOutOfService k || decide (d.minStepping k ≤ d.gf F.DLK_DIE_k_INV.STEPPING 0 k) then d
    else
      let d := (d.sf F.DLK_DIE_k_INV.BELOW_MIN 1 0 k).logDie Code.DLK_STEPPING_BELOW_MIN k
      if h : k < 20 then d.occult (.die ⟨k, h⟩) Code.DLK_STEPPING_BELOW_MIN false else d) d

/-- R475: the lowest feature level among the dies in service. -/
def commonLevel (d : Dev) : Nat :=
  (List.range 20).foldl (fun m k => if d.dieOutOfService k then m else min m (d.gf F.DLK_DIE_k_INV.LEVEL 0 k)) 15

/-- The Inventory step ends: R9, every register loaded; R473 to R475, the dies and the common level; a start raises
GAS_EPOCH (R272), an anchor takes its coordinates (R287), and the links begin to train (R457). -/
def inventoryDone (d : Dev) (stepping level : Nat) : Dev :=
  if d.boot.step ≠ .inventory || !d.boot.identity
      || !(List.range 19).all (fun k => d.on F.DLK_DIE_k_INV.PRESENT 0 k || d.dieOutOfService k) then d
  else
    let d := (d.applyAlmanac fun _ => true).refreshCap
    let d := (d.sf F.DLK_DIE_k_INV.PRESENT 1 0 19).sf F.DLK_DIE_k_INV.TYPE 4 0 19
    let d := (d.sf F.DLK_DIE_k_INV.STEPPING stepping 0 19).sf F.DLK_DIE_k_INV.LEVEL level 0 19
    if stepping < d.minStepping 19 then (d.logDie Code.DLK_STEPPING_BELOW_MIN 19).toRecovery
    else
      let d := d.judgeDies
      if d.occulted then d.startFail Code.BOOT_FAILED
      else
        let d := d.sf F.DLK_PKG_LEVEL.COMMON_LEVEL d.commonLevel
        let d := ((List.range 19).filter fun k => !d.dieOutOfService k).foldl sideSend d
        let d := (d.incr F.GAS_EPOCH.EPOCH 1).anchorStart
        let d := (List.range 31).foldl (fun d n =>
          if (linkDies n).any fun k => d.dieOutOfService k then d else d.setLinkState n 1) d
        d.stepTo .links

/-! ### Links, HBM and ports -/

/-- R360: a temperature lies within ±10 °C of another. -/
def within10 (a b : Nat) : Bool := decide (a ≤ b + 10) && decide (b ≤ a + 10)

/-- R359, R360: the Collimator starts on a P-die at a temperature: in full at a cold start and away from CAL_TEMP,
else a retune. -/
def startCollimator (d : Dev) (p temp : Nat) (cold : Bool) : Dev :=
  if !cold && within10 temp (d.gf F.OPT_FACE_STAT.CAL_TEMP p) then d.collimate p false
  else
    let d := if cold then d else d.logAt Code.OPT_COLLIMATOR_FULL (dieP p) 0xFFFF 0 0
    (d.collimate p true).sf F.OPT_FACE_STAT.CAL_TEMP temp p

/-- The Links step ends: HBM and the Collimator start. -/
def linksDone (d : Dev) (temps : List Nat) : Dev :=
  if d.boot.step ≠ .links || (List.range 31).any (fun n => [1, 2].contains (d.linkState n)) then d
  else if d.occulted then d.startFail Code.BOOT_FAILED
  else
    let d := (List.range 6).foldl (fun d p =>
      if d.dieOutOfService (dieP p) then d else d.startCollimator p (temps.getD p 0) (decide (d.boot.kind = StartKind.cold))) d
    ({ d with boot := { d.boot with training := (List.range 24).map fun s => (s, 0) } }).stepTo .hbm

/-- HBM accepts accesses once the start completes: HBM_STAT READY. -/
def hbmReady (d : Dev) : Dev :=
  (List.range 4).foldl (fun d q => (d.sf F.HBM_STAT.READY 1 q).sf F.HBM_STAT.SELF_REFRESH 0 q) d

/-- R233, R234: a stack's training ends: reused or trained, tried once more at a cold start, or the start fails. -/
def trainingDone (d : Dev) (s : Nat) (ok : Bool) (temp : Nat) : Dev :=
  match d.boot.step, d.boot.training.find? fun e => decide (e.1 = s) with
  | .hbm, some (_, tries) =>
    let rest := d.boot.training.filter fun e => decide (e.1 ≠ s)
    if ok then
      let reused := match NMap.get none d.mem.trainTemp s with
        | some t => decide (d.boot.kind ≠ StartKind.cold) && within10 temp t
        | none => false
      let d := if reused then d
        else
          let d := { d with mem := { d.mem with trainTemp := NMap.set none d.mem.trainTemp s (some temp) } }
          if d.boot.kind = .warm then d.logAt Code.HBM_RETRAIN (dieX (s / 6)) (1280 + s) 0 (32 * s) else d
      let x := d.gf F.HBM_STAT.STACK_IN_SERVICE (s / 6)
      let d := d.sf F.HBM_STAT.STACK_IN_SERVICE (x ||| 2 ^ (s % 6)) (s / 6)
      let d := d.sf F.HBM_STACK_s_STAT.TRAINED 1 (s / 6) (s % 6)
      let d := if reused || decide (d.boot.kind ≠ StartKind.warm) then d else d.sf F.HBM_STACK_s_STAT.RETRAINED 1 (s / 6) (s % 6)
      let d := { d with boot := { d.boot with training := rest } }
      if rest.isEmpty && decide (d.boot.kind = StartKind.warm) then d.hbmReady.stepTo .firstLight else d
    else
      let d := d.logAt Code.HBM_TRAIN_FAIL (dieX (s / 6)) (1280 + s) 0 (32 * s)
      if d.boot.kind = .cold ∧ tries = 0 then { d with boot := { d.boot with training := rest ++ [(s, 1)] } }
      else d.startFail Code.BOOT_HBM_STACK_FAIL
  | _, _ => d

/-- R232: the zero fill ends; R279: the time of the zeroing is kept once the device is ALIGNED. -/
def zeroFillDone (d : Dev) : Dev :=
  if d.boot.step ≠ .hbm || !d.boot.training.isEmpty || decide (d.boot.kind = StartKind.warm) then d
  else
    let d := { d with hbm := [], mem := { d.mem with poison := [] }, gas := { d.gas with zeroPending := true } }
    d.hbmReady.stepTo .firstLight

/-! ### First Light and Ready -/

/-- R639: a unit fails First Light in a layer: logged, its score set to RETIRE; `onDemand` says that the start is
complete. The result is whether it fails at device level. -/
def lightFail (d : Dev) (u layer : Nat) : Bool × Dev :=
  let d := d.logAt Code.FIRST_LIGHT_FAIL dieM u u layer
  let retire := d.gf F.SAFE_HEALTH_CTRL.RETIRE
  let old := d.gf F.SAFE_HEALTH_u.SCORE 0 u
  let d := if u < 2048 then (d.sf F.SAFE_HEALTH_u.SCORE (min old retire) 0 u).score u (retire - min old retire) Code.FIRST_LIGHT_FAIL
    else d
  let cl := if u < 320 then u / 10 else (u - 320) / 5
  let p := if u < 320 then u % 10 / 2 else (u - 320) % 5
  if u < 480 then
    match lowestBelow (fun l => decide (d.physOf (4 * cl + l) = p)) 4 with
    | some l =>
      if h : 4 * cl + l < 128 then (false, d.occult (.core ⟨4 * cl + l, h⟩) Code.FIRST_LIGHT_FAIL false) else (false, d)
    | none =>
      if (List.range 4).any fun l => decide (NMap.get 7 d.safe.phys (4 * cl + l) = p) && !d.inService (4 * cl + l) then (false, d)
      else (false, d.sf F.CLU_CORE_RETIRED.PHYS_RETIRED (d.gf F.CLU_CORE_RETIRED.PHYS_RETIRED cl ||| 2 ^ p) cl)
  else (decide (1472 ≤ u), d)

/-- Every failing unit of a run; whether the run fails at device level. -/
def lightFails (d : Dev) (fails : List (Nat × Nat)) : Bool × Dev :=
  fails.foldl (fun r f => let (b, d) := r.2.lightFail f.1 f.2; (r.1 || b, d)) (false, d)

/-- The Ready step: start complete, the warm record set (R510), and a restoration notice (R655). -/
def startComplete (d : Dev) (elapsedMs : Nat) : Dev :=
  let d := (d.setBoot .ready).sf F.BOOT_STAT.READY 1
  let d := { d with
    boot := { d.boot with warmRecord := true, kickAt := d.chrono }
    eph := { d.eph with valid := true }
    safe := { d.safe with unplanned := false } }
  let d := (d.sf F.BOOT_STAT.WARM_RECORD 1).sf F.BOOT_LAST_START.DURATION_MS elapsedMs
  let d := if d.boot.wasOcculted then d.occRecord Code.SAFE_RESTORED dieM 1481 0 else d
  d.broadcast 2 d.self

/-- R639: the result of a First Light in SAFE_FL_STAT, with its code; one that fails by its reference set alone keeps
R638's. -/
def lightResult (d : Dev) (pass : Bool) (durationMs : Nat) (fails : List (Nat × Nat)) (form : Nat) : Dev :=
  let d := (d.sf F.SAFE_FL_STAT.STATE (if pass then 2 else 3)).sf F.SAFE_FL_STAT.DURATION_MS durationMs
  let d := d.sf F.SAFE_FL_STAT.FAIL_UNIT ((fails.head?.map fun f => f.1).getD 0)
  if pass then (d.sf F.SAFE_FL_STAT.CODE Code.FIRST_LIGHT_PASS).logAt Code.FIRST_LIGHT_PASS dieM 0xFFFF form durationMs
  else if fails.isEmpty then d else d.sf F.SAFE_FL_STAT.CODE Code.FIRST_LIGHT_FAIL

/-- R638: the reference set's digest is wrong. -/
def refsetInvalid (d : Dev) : Dev :=
  ((d.logAt Code.FIRST_LIGHT_REFSET_INVALID dieM 0xFFFF (Config.freeWord d.freeIx 0).toNat 0).draw).sf F.SAFE_FL_STAT.CODE
    Code.FIRST_LIGHT_REFSET_INVALID

/-- The First Light of a start ends. -/
def startLightDone (d : Dev) (durationMs : Nat) (fails : List (Nat × Nat)) (refset : Bool) (elapsedMs : Nat) : Dev :=
  let form := if d.boot.kind = .cold then (Config.formCode 0).toNat else 0
  let (bad, d) := if refset then d.lightFails fails else (true, d.refsetInvalid)
  let d := d.lightResult (!bad && fails.isEmpty) durationMs fails form
  if bad || d.occulted then d.startFail Code.BOOT_FAILED else if d.boot.coldNext then d.coldRestart else d.startComplete elapsedMs

/-- R640: the stores of the C-dies of a First Light on demand are left with unspecified contents. -/
def looseStores (d : Dev) (scope : Nat) : Dev :=
  (List.range 8).foldl (fun d n =>
    if bitOf scope n then (d.looseCore (n * 2 ^ 27) (2 ^ 27)).looseCluster (n * 2 ^ 26) (2 ^ 26) else d) d

/-- R640: a First Light on demand ends. -/
def demandLightDone (d : Dev) (corner : Bool) (scope durationMs : Nat) (fails : List (Nat × Nat)) (refset : Bool) : Dev :=
  let d := { d with safe := { d.safe with firstLight := none } }.looseStores scope
  let (bad, d) := if refset then d.lightFails fails else (true, d.refsetInvalid)
  let d := d.lightResult (!bad && fails.isEmpty) durationMs fails (if corner then 1 else 0)
  let d := if refset then d else d.sf F.SAFE_FL_STAT.CODE Code.FIRST_LIGHT_FAIL
  let d := if bad then d.occult .device Code.FIRST_LIGHT_FAIL false else d
  d.raise 135

/-- FIRST_LIGHT_DONE. -/
def firstLightDone (d : Dev) (durationMs : Nat) (fails : List (Nat × Nat)) (refset : Bool) (elapsedMs : Nat) : Dev :=
  if d.boot.step = .firstLight then d.startLightDone durationMs fails refset elapsedMs
  else match d.safe.firstLight with
    | some (corner, scope) => d.demandLightDone corner scope durationMs fails refset
    | none => d

/-! ### COLD, WARM and Quiesce -/

/-- R511: BOOT_CTRL COLD. -/
def coldReq (d : Dev) : Dev :=
  if !d.power.stageOne || d.power.path.isSome then d
  else if decide (d.boot.kind ≠ StartKind.cold) && !([BootStep.ready, .failed].contains d.boot.step) then
    { d with boot := { d.boot with coldNext := true } }
  else d.coldRestart

/-- R510: a warm start begins, or a cold start without a valid warm record. -/
def warmStart (d : Dev) : Dev :=
  if !d.boot.warmRecord then (d.logBoot Code.BOOT_WARM_FAILED 0x100000008 0).coldRestart
  else
    let d := { d with boot := { d.boot with kind := .warm, handover := none } }
    ((d.setBoot .quiesce).sf F.BOOT_STAT.READY 0).sf F.BOOT_STAT.KIND 1

/-- R511: BOOT_CTRL WARM. -/
def warmReq (d : Dev) : Dev :=
  if d.boot.step = .ready then d.warmStart else d.logBoot Code.BOOT_WRITE_REFUSED 0x100000008 2

/-- R230: a write to memory that has been accepted and not completed. -/
def writeWaits (d : Dev) : Bool :=
  !d.mem.returns.isEmpty || d.mem.jobs.any (fun j => isWrite j.pkt) || d.mem.held.any fun w => match w with
    | .packet p => isWrite p
    | .message m => decide (m.op = 4 ∨ m.op = 5)
    | .eye (.writeMem _ _ _) => true
    | .store _ _ _ _ => true
    | _ => false

/-- R517, R230, R530, R536, R651: Quiesce ends, with every accepted write completed: the caches are written back, HBM
is in self-refresh, the journal, the logbook and the retained state are saved, and the dies are reset. -/
def quiesceDone (d : Dev) (errs : List MemErr) : Dev :=
  if d.boot.step ≠ .quiesce || d.mem.mapout.isSome || d.writeWaits then d
  else
    let d := (List.range 6).foldl (fun d p => (List.range 10).foldl (fun d n =>
      if portExists p n then d.abortSwaps p n else d) d) d
    let d := ((d.cacheEmpty errs).writeAllRecs).flushLog
    if d.boot.coldNext then d.coldRestart
    else
      let d := d.enterStart .warm .rails
      (List.range 4).foldl (fun d q => d.sf F.HBM_STAT.SELF_REFRESH 1 q) d

/-! ### The watchdog -/

/-- R545: a period has passed without a KICK. -/
def watchdog (d : Dev) : Dev :=
  let halted := d.sec.mcores.any fun m => m.2.halted
  if !d.started || decide (d.boot.step ≠ .ready) || d.boot.handover.isSome || halted
      || decide (d.chrono < d.boot.kickAt + 1000000 * d.gf F.BOOT_WATCHDOG.PERIOD_MS) then d
  else
    let d := { d with safe := { d.safe with unplanned := true } }
    (d.logBoot Code.BOOT_WATCHDOG 0x100000058 0).warmStart

def kickDog (d : Dev) : Dev := { d with boot := { d.boot with kickAt := d.chrono } }

/-- BOOT_WATCHDOG written: the period is stored within 100 to 60,000 ms, and a change of it restarts the period. -/
def writeWatchdog (d : Dev) (v : Word) : Dev :=
  let p := max 100 (min 60000 (getBits v 31 16))
  let d := if p = d.gf F.BOOT_WATCHDOG.PERIOD_MS then d else (d.sf F.BOOT_WATCHDOG.PERIOD_MS p).kickDog
  if getBits v 0 0 = 1 then d.kickDog else d

end Dev

/-! ### The commands -/

def execPrsntNMate (s : State) : Host.Outcome State Fault Refusal :=
  s.upd fun d => { d with power := { d.power with mated := true } }

/-- A rise of PGOOD_IN that found the switch open is acted on once it has closed. -/
def execInputSwitchClose (s : State) : Host.Outcome State Fault Refusal :=
  s.upd fun d => if d.power.mated then { d with power := { d.power with closed := true } }.tryRise else d

/-- R658, R575: with PGOOD_IN high, the return of the auxiliary path counts as its rise. -/
def execAuxPathInService (strap : Fin 8) (vin : Fin 65536) (s : State) : Host.Outcome State Fault Refusal :=
  s.upd fun d =>
    if !d.power.closed || d.power.aux then d
    else
      let d := { d with power := { d.power with aux := true } }.refreshPgood.setBoot .off
      if d.power.pgoodIn then d.pgoodRise strap vin else d

/-- R24: PRSNT_N breaks: the input switch opens, and the input-loss path runs at once. -/
def execPrsntNBreak (s : State) : Host.Outcome State Fault Refusal :=
  s.upd fun d =>
    let d := { d with power := { d.power with mated := false, closed := false } }
    if d.power.aux then d.beginLoss 1 else d

def execAuxPathOff (s : State) : Host.Outcome State Fault Refusal :=
  s.upd fun d => if d.power.aux then d.powerLost else d

def execPgoodInRise (strap : Fin 8) (vin : Fin 65536) (s : State) : Host.Outcome State Fault Refusal :=
  s.upd fun d =>
    if d.power.pgoodIn then d
    else
      let d := { d with power := { d.power with pgoodIn := true } }
      if d.power.aux then d.pgoodRise strap vin else d

def execStartDelayExpiry (khz : Fin 131072) (s : State) : Host.Outcome State Fault Refusal := s.upd fun d => d.delayEnd khz

def execPgoodInFall (s : State) : Host.Outcome State Fault Refusal := s.upd fun d => d.pgoodFall

def execPgoodHoldExpiry (s : State) : Host.Outcome State Fault Refusal := s.upd fun d => d.pgoodHoldEnd

def execClocksStopped (s : State) : Host.Outcome State Fault Refusal := s.upd fun d => d.clocksStopped

def execRailsOff (s : State) : Host.Outcome State Fault Refusal := s.upd fun d => d.railsOff

def execStageOneOff (s : State) : Host.Outcome State Fault Refusal := s.upd fun d => d.stageOneOff

def execStageOneHoldExpiry (s : State) : Host.Outcome State Fault Refusal := s.upd fun d => d.stageOneHoldEnd

def execQuiesceDone (errs : List MemErr) (s : State) : Host.Outcome State Fault Refusal := s.upd fun d => d.quiesceDone errs

def execRailsUp (s : State) : Host.Outcome State Fault Refusal := s.upd fun d => d.railsIn

def execBootRomDone (delayUs : Fin 4294967296) (s : State) : Host.Outcome State Fault Refusal :=
  s.upd fun d => d.romDone delayUs

def execIdentityDone (found : Bool) (records : SecRecords) (s : State) : Host.Outcome State Fault Refusal :=
  s.upd fun d => d.identityDone (if found then some records else none)

def execFirmwareStepDone (read : FlashRead) (s : State) : Host.Outcome State Fault Refusal :=
  s.upd fun d => d.firmwareDone read

def execEphemerisStepDone (bad0 bad1 : Option Nat) (s : State) : Host.Outcome State Fault Refusal :=
  s.upd fun d => d.ephemerisDone bad0 bad1

def execInventoryDone (stepping level : Fin 16) (s : State) : Host.Outcome State Fault Refusal :=
  s.upd fun d => d.inventoryDone stepping level

def execLinksTrained (temps : List Nat) (s : State) : Host.Outcome State Fault Refusal := s.upd fun d => d.linksDone temps

def execHbmTrainingDone (stack : Fin 24) (ok : Bool) (temp : Fin 256) (s : State) : Host.Outcome State Fault Refusal :=
  s.upd fun d => d.trainingDone stack ok temp

def execHbmZeroFillDone (s : State) : Host.Outcome State Fault Refusal := s.upd fun d => d.zeroFillDone

def execPortCalibrateDone (die : Fin 6) (port : Fin 10) (found : Option PortCal) (s : State) :
    Host.Outcome State Fault Refusal :=
  s.upd fun d => d.onPort die port fun d => d.calibrated die port found

def execFirstLightDone (durationMs : Nat) (fails : List (Nat × Nat)) (refset : Bool) (elapsedMs : Nat) (s : State) :
    Host.Outcome State Fault Refusal :=
  s.upd fun d => d.firstLightDone durationMs fails refset elapsedMs

def execBootWatchdog (s : State) : Host.Outcome State Fault Refusal := s.upd fun d => d.watchdog

/-- A sample; R601: with every M-die sensor below 110 °C, a rise that has waited for it is acted on. -/
def execThermalSample (die : Fin 20) (temps : List (Option Int)) (flash : Option Int) (inlet outlet : Int) (s : State) :
    Host.Outcome State Fault Refusal :=
  s.upd fun d => (d.thermalSample die temps flash inlet outlet).tryRise

end Sys2Proof.Machine
end

