-- ==== Sys2Proof/Machine/Parked.lean ====
section
/-! DEFINITION. Power states P2 and P3 (R535, R536, R581, R582, R369, R370, R497), die reset (R537), and firmware slots with live
handover (R538 to R544, R560). -/

namespace Sys2Proof.Machine

open Sys2Proof

namespace Dev

/-! ### What a die that is turned off or reset loses (R535, R536) -/

/-- A C-die's cores, engines, swaps, stores, instruction memories and requests. -/
def dropDie (d : Dev) (k : Nat) : Dev :=
  let a := 16 * k * 2 ^ 20
  let d := (d.looseCore (k * 2 ^ 27) (2 ^ 27)).looseCluster (k * 2 ^ 26) (2 ^ 26)
  { d with
    cores := d.cores.filter fun e => decide (e.1 / 16 ≠ k)
    engines := d.engines.filter fun e => decide (e.1 / 32 ≠ k)
    swaps := d.swaps.filter fun e => decide (e.1 / 4 ≠ k)
    imem := d.imem.filter fun e => decide (e.1 < a) || decide (a + 2 ^ 24 ≤ e.1)
    unspecImem := (a, 2 ^ 24, d.freeIx) :: d.unspecImem
    freeIx := d.freeIx + 1
    reqs := d.reqs.filter fun r => decide (r.core / 16 ≠ k)
    dseqs := d.dseqs.filter fun e => decide (e.1 / 2 ^ 18 / 16 ≠ k) }

/-- The islands of a die off or on. -/
def dieIslands (d : Dev) (k : Nat) (up : Bool) : Dev :=
  (List.range 44).foldl (fun d n => if islandDie n = k then (if up then d.islandUp n else d.islandOff n) else d) d

/-- R10, R536: a die is power-gated at the entry to P2 or P3; the block of port 8 on P0 stays powered (R581). DESIGN
CHOICE (log entry 3): R11's table calls a field without a Keep class lost in P2, and R10 and R536 speak of the dies
and islands that are turned off: only the fields of a die that is turned off are lost, those of a die that stays
powered in P2 are kept. -/
def gateDie (d : Dev) (k : Nat) : Dev :=
  let d := if k < 8 then d.dropDie k else d
  (d.loseFields .parked false fun x =>
    ofDie k x && !(decide (x.name.info.place.block = .pdie ∧ x.u = 0 ∧ x.i = 8))).dieIslands k false

/-! ### Entry and exit (R581, R582) -/

/-- R581: the conditions on a TARGET of 2 or 3. -/
def mayPark (d : Dev) : Bool :=
  (List.range 128).all (fun c => d.coreIdle c) && d.mem.mapout.isNone && d.boot.resetting.isNone && d.swaps.isEmpty
    && d.boot.handover.isNone && d.started && decide (d.boot.step = .ready) && decide (d.gf F.PWR_STAT.STATE < 3)

/-- R581: a dropped TARGET write. -/
def parkRefused (d : Dev) (t : Nat) : Dev := (d.logPwr Code.PWR_STATE_REFUSED 0xFFFF 0 t).raise 199

/-- R581, R497: entry begins: every directory entry is recalled. -/
def beginPark (d : Dev) (t : Nat) : Dev :=
  let d := (d.sf F.PWR_CTRL.TARGET t).sf F.PWR_STAT.STATE 4
  d.hlk.dir.foldl (fun d l => d.recallLine l.unit true) d

/-- R582: TARGET 0 written: P2 is left, or a wake begins from P3. -/
def leavePark (d : Dev) : Dev :=
  let d := d.sf F.PWR_CTRL.TARGET 0
  match d.gf F.PWR_STAT.STATE with
  | 2 => d.sf F.PWR_STAT.STATE 5
  | 3 => (d.enterStart .wake .rails).sf F.PWR_STAT.STATE 5
  | _ => d

/-- A TARGET written (R581, R582); 1 and 4 to 7 are dropped. While an entry or an exit runs, another TARGET is
refused. -/
def writeTarget (d : Dev) (t : Nat) : Dev :=
  let st := d.gf F.PWR_STAT.STATE
  if t = d.gf F.PWR_CTRL.TARGET then d
  else if st = 4 ∨ st = 5 then d.parkRefused t
  else if t = 0 then d.leavePark
  else if t = 2 ∨ t = 3 then (if d.mayPark then d.beginPark t else d.parkRefused t)
  else d

/-- PWR_CTRL written: R576, CAP_W is stored within 2,000 to 4,000; a write whose TARGET is refused is dropped whole
(R581). -/
def writePwrCtrl (d : Dev) (v : Word) : Dev :=
  let t := getBits v 2 0
  let st := d.gf F.PWR_STAT.STATE
  let refused := decide (t ≠ d.gf F.PWR_CTRL.TARGET)
    && (decide (st = 4 ∨ st = 5) || (decide (t = 2 ∨ t = 3) && !d.mayPark))
  if refused then d.parkRefused t
  else ((d.sf F.PWR_CTRL.CAP_W (max 2000 (min 4000 (getBits v 47 32)))).refreshCap).writeTarget t

/-- R369, R366: a port in service runs lane 0 alone. -/
def laneZero (d : Dev) (p n : Nat) : Dev :=
  let d := d.abortSwaps p n
  if (d.port p n).step ≠ .up then d
  else
    let off := (d.laneMap p n true).drop 1
    (d.lightOff p n off).sf F.OPT_PORT_n_STAT.LANES_UP 1 p n

/-- R369: the pass that adds lanes 1 to 15 back begins: Light, Train and Switch, all lanes in one, while the port
stays in service. -/
def lanesBack (d : Dev) (p n : Nat) : Dev :=
  if (d.port p n).step ≠ .up ∨ d.gf F.OPT_PORT_n_STAT.LANES_UP p n ≠ 1 then d
  else
    (d.modPort p n fun x => { x with swaps := { lane := 1, pass := true, phase := 1 } :: x.swaps }).sf
      F.OPT_PORT_n_STAT.SWAP 1 p n

def overPorts (d : Dev) (f : Dev → Nat → Nat → Dev) : Dev :=
  (List.range 6).foldl (fun d p => (List.range 10).foldl (fun d n => if portExists p n then f d p n else d) d) d

/-- R370: every face port dark; host port 8 keeps lane 0, and host port 9 is dark. -/
def portsStandby (d : Dev) (p n : Nat) : Dev :=
  if p = 0 ∧ n = 8 then
    (if (d.port p n).step = .up then (d.laneZero p n).portStep p n .keepAlive else d)
  else ((d.portLeave p n).portDark p n).portStep p n .dark

/-- R581: the entry ends: P2, or P3 with the rest of the package gated. -/
def parked (d : Dev) (errs : List MemErr) : Dev :=
  let t := d.gf F.PWR_CTRL.TARGET
  let d := d.cacheEmpty errs
  let d := (List.range 4).foldl (fun d q => d.sf F.HBM_STAT.SELF_REFRESH 1 q) d
  let d := (List.range 8).foldl (fun d k => d.gateDie k) d
  let d := d.overPorts fun d p n => if n < 8 ∨ t = 2 then d.laneZero p n else d
  let d := if t = 3 then
      let d := Dev.hostWatch d (d.overPorts fun d p n => d.portsStandby p n) errs
      let d := ((List.range 6).foldl (fun d f => d.faceFall f) d).flushLog
      let d := if d.hlkUp then d.sf F.HLK_STAT.STATE 4 else d
      let d := (List.range 11).foldl (fun d k => d.gateDie (8 + k)) d
      let d := d.dieIslands 19 false
      { d with
        hbm := [], mem := { d.mem with poison := [] }, boot := { d.boot with warmRecord := false }
        power := { d.power with railsUp := false } }.refreshPgood.sf F.BOOT_STAT.WARM_RECORD 0
    else d
  ((d.sf F.PWR_STAT.STATE t).logPwr Code.PWR_STATE_CHANGED 0xFFFF 0 t).raise 199

/-- R582, R518: the exit ends: from P2 with the C-dies powered, HBM out of self-refresh, GAS_EPOCH raised and the lanes
back; from P3 at the end of the wake. -/
def unparked (d : Dev) : Dev :=
  let d := if d.on F.CLK_ISLAND_n_STAT.POWERED 0 0 then d
    else
      let d := (List.range 8).foldl (fun d k => d.dieIslands k true) d
      let d := (List.range 4).foldl (fun d q => d.sf F.HBM_STAT.SELF_REFRESH 0 q) d
      (d.incr F.GAS_EPOCH.EPOCH 1).overPorts fun d p n => d.lanesBack p n
  (((d.sf F.PWR_STAT.STATE 0).reportP1).logPwr Code.PWR_STATE_CHANGED 0xFFFF 0 0).raise 199

/-- PWR_STATE_CHANGED: an entry or an exit ends. An entry waits for the recalls (R497). -/
def pwrChanged (d : Dev) (errs : List MemErr) : Dev :=
  match d.gf F.PWR_STAT.STATE with
  | 4 => if d.hlk.dir.isEmpty && d.mem.jobs.isEmpty && !d.writeWaits then d.parked errs else d
  | 5 => if d.boot.step = .ready then d.unparked else d
  | _ => d

/-! ### Die reset (R537) -/

/-- REQ of BOOT_DIE_RESET. -/
def dieResetReq (d : Dev) (k : Nat) : Dev :=
  if d.boot.step ≠ .ready then d.logBoot Code.BOOT_WRITE_REFUSED 0x100000010 (k + 256)
  else
    let d := d.sf F.BOOT_DIE_RESET.DIE k
    if h : k < 19 ∧ k ≠ 12 ∧ d.boot.resetting = none then
      let d := d.occult (.die ⟨k, by omega⟩) 0 false
      let links := (List.range 31).filter fun n =>
        (linkDies n).contains k && decide (d.linkState n ≠ 0) && (decide (d.linkState n ≠ 6) || linkOf k ⟨.DLK_LINK_n_CTRL, 0, n, 0⟩)
      let d := ((List.range 31).filter fun n => (linkDies n).contains k).foldl
        (fun d n => d.resetEnd n (decide (initiatorDie n = k))) (d.loseFields .warm true (linkOf k))
      let d := (links.foldl (fun d n => d.retrain n) d).sideSend k
      { d with boot := { d.boot with resetting := some k } }.sf F.BOOT_DIE_RESET.STATE 1
    else (d.sf F.BOOT_DIE_RESET.STATE 3).logBoot Code.BOOT_WRITE_REFUSED 0x100000010 (k + 256)

/-- R537, R496, R535: an X-die's cache is written back and lost; its companion lines and directory entries end. -/
def dropCache (d : Dev) (q : Nat) (errs : List MemErr) : Dev :=
  let mine (l : Line) : Bool := decide (unitHome l.unit = q)
  let comps := d.mem.lines.filter fun l => mine l && l.comp.isSome
  let owned := d.hlk.dir.filter fun l => l.owned && decide (unitHome l.unit = q)
  let d := (d.mem.lines.filter fun l => mine l && l.comp.isNone).foldl (fun d l => d.evictLine l errs) d
  let d := d.setLines (d.mem.lines.filter fun l => !mine l)
  let d := owned.foldl (fun d l => d.poisonUnit l.unit) d
  let d := d.setDir (d.hlk.dir.filter fun l => decide (unitHome l.unit ≠ q))
  let n := (comps.filter fun l => decide (l.comp = some .m)).length + owned.length
  if n = 0 then d else (d.countLost n).logHlk Code.HLK_LINES_LOST 0 n

/-- R233: the stacks of a reset X-die reuse their training or train again, by their temperatures. -/
def stacksBack (d : Dev) (q : Nat) (temps : List Nat) : Dev :=
  let d := (List.range 6).foldl (fun d i =>
    let s := 6 * q + i
    let t := temps.getD i 0
    match NMap.get none d.mem.trainTemp s with
    | some u =>
      let d := d.sf F.HBM_STACK_s_STAT.TRAINED 1 q i
      if within10 t u then d
      else ({ d with mem := { d.mem with trainTemp := NMap.set none d.mem.trainTemp s (some t) } }.sf
        F.HBM_STACK_s_STAT.RETRAINED 1 q i).logAt Code.HBM_RETRAIN (dieX q) (1280 + s) 0 (32 * s)
    | none =>
      { d with mem := { d.mem with trainTemp := NMap.set none d.mem.trainTemp s (some t) } }.sf F.HBM_STACK_s_STAT.TRAINED 1 q i) d
  (d.sf F.HBM_STAT.STACK_IN_SERVICE 63 q).sf F.HBM_STAT.READY 1 q

/-- A die's reset ends: what it held is lost, its fields are restored as for a warm start, its First Light has run
with `fails`, and its occultation is lifted. The dispatch sequence numbers of a C-die's cores restart at 0, so
GAS_EPOCH rises and no tag comes twice (R272; DESIGN CHOICE, log entry 25). -/
def dieResetDone (d : Dev) (durationMs : Nat) (fails : List (Nat × Nat)) (temps : List Nat) (errs : List MemErr) : Dev :=
  match d.boot.resetting with
  | none => d
  | some k =>
    if (List.range 31).any fun n => (linkDies n).contains k && [1, 2].contains (d.linkState n) then d
    else
      let d := { d with boot := { d.boot with resetting := none } }
      let d := if k < 8 then (d.dropDie k).incr F.GAS_EPOCH.EPOCH 1 else if k < 12 then d.dropCache (k - 8) errs else d
      let d := (d.loseFields .warm true (ofDie k)).applyAlmanac (ofDie k)
      let d := if 8 ≤ k ∧ k < 12 then d.stacksBack (k - 8) temps else d
      let d := if 13 ≤ k then
          let p := k - 13
          let d := (List.range 10).foldl (fun d n => d.modPort p n (keepPort true)) d
          d.startCollimator p (temps.getD 0 0) false
        else d
      let d := if h : k < 20 then d.lift (.die ⟨k, h⟩) else d
      let (bad, d) := d.lightFails fails
      let d := d.lightResult fails.isEmpty durationMs fails (Config.formCode 1).toNat
      let d := if bad then d.occult .device Code.FIRST_LIGHT_FAIL false else d
      d.sf F.BOOT_DIE_RESET.STATE 2

/-! ### Firmware slots (R539, R560) -/

/-- The slot that runs (true for B), and a slot's flash offset (R520). -/
def runningB (d : Dev) : Bool := d.on F.BOOT_FW_STAT.RUNNING
def slotOffset (b : Bool) : Nat := if b then 0x2000000 else 0x800000

def setImage (d : Dev) (b : Bool) (x : Option FwImage) : Dev :=
  { d with eph := if b then { d.eph with slotB := x } else { d.eph with slotA := x } }

/-- TRIAL: the slot that is not running, which holds `x`, is verified. -/
def fwTrial (d : Dev) (x : Option FwImage) : Dev :=
  let b := !d.runningB
  if !d.power.flashOpen then d.logPwr Code.THM_FLASH_WINDOW_CLOSED 0xFFFF 0 0
  else
    let d := d.setImage b x
    match d.imageFault x with
    | some code => ((d.setSlot b 3 0).logSec code (slotOffset b) (imageFailure x)).logBoot Code.BOOT_FW_VERIFY_FAIL (slotOffset b) 0
    | none => { d with eph := { d.eph with activeB := b } }.setSlot b 1 3

/-- COMMIT: the running TRIAL slot is GOOD, and its embedded floor record is appended when it raises a floor; with the
flash window closed the record waits (R604). -/
def fwCommit (d : Dev) : Dev :=
  let b := d.runningB
  let (st, tries) := d.slotState b
  if st ≠ 1 then d
  else
    let d := d.setSlot b 2 tries
    match (d.boot.image.bind fun x => x.embedded) with
    | some f =>
      let l := d.eph.records.log0 ++ d.eph.records.log1 ++ d.eph.heldFloors
      if d.floorOk f && serialHere f.serial && decide (d.floorAmong l f.kind < f.floor) then
        let d := if d.power.flashOpen then d.appendFloor f
          else { d with eph := { d.eph with heldFloors := d.eph.heldFloors ++ [f] } }
        d.logSec Code.SEC_FLOOR_RAISED 0x40000 f.floor
      else d
    | none => d

/-! ### Live handover (R540 to R544) -/

/-- HANDOVER: with start complete and a TRIAL slot that is ACTIVE and not running, which holds `x`. -/
def fwHandover (d : Dev) (x : Option FwImage) : Dev :=
  let b := d.eph.activeB
  if !d.started || decide (d.boot.step ≠ .ready) || decide (b = d.runningB) || decide ((d.slotState b).1 ≠ 1)
      || d.boot.handover.isSome then d
  else { d.setImage b x with boot := { d.boot with handover := some .verify, staged := x } }

/-- Verify ends: Park begins with HANDOVER_BUSY, or the handover is refused for the record's format (R543) or does not
verify. -/
def handoverVerified (d : Dev) : Dev :=
  if d.boot.handover ≠ some .verify then d
  else
    let stop := { d with boot := { d.boot with handover := none, staged := none } }
    match d.imageFault d.boot.staged, d.boot.staged, d.boot.image with
    | none, some x, some run =>
      if x.hoMin ≤ run.hoFormat ∧ run.hoFormat ≤ x.hoMax then
        { d with boot := { d.boot with handover := some .park } }.sf F.BOOT_FW_STAT.HANDOVER_BUSY 1
      else stop.logBoot Code.BOOT_HANDOVER_REFUSED 0x100000038 run.hoFormat
    | some code, _, _ => (stop.logSec code (slotOffset d.eph.activeB) (imageFailure d.boot.staged)).logBoot Code.BOOT_FW_VERIFY_FAIL 0 0
    | _, _, _ => stop

/-- Park ends: the handover record is written and cores 1 to 3 are parked. -/
def handoverParked (d : Dev) : Dev :=
  if d.boot.handover = some .park then { d with boot := { d.boot with handover := some .load } } else d

/-- Load ends: the staged image has started on core 0; R538: a TRIAL slot that starts uses one try. -/
def handoverLoaded (d : Dev) : Dev :=
  if d.boot.handover ≠ some .load then d
  else
    let b := d.eph.activeB
    let (st, tries) := d.slotState b
    (if st = 1 then d.setSlot b 1 (tries - 1) else d) |> fun d => { d with boot := { d.boot with handover := some .resume } }

/-- The handover ends, whichever image runs: management goes on, and so does the watchdog (R541). -/
def handoverEnd (d : Dev) : Dev :=
  { d with boot := { d.boot with handover := none, staged := none, kickAt := d.chrono } }.sf F.BOOT_FW_STAT.HANDOVER_BUSY 0

/-- RESUMED: the new firmware runs. -/
def fwResumed (d : Dev) : Dev :=
  if d.boot.handover ≠ some .resume then d
  else
    let d := { d with boot := { d.boot with image := d.boot.staged } }
    let d := d.sf F.BOOT_FW_STAT.RUNNING (if d.eph.activeB then 1 else 0)
    d.handoverEnd.logBoot Code.BOOT_HANDOVER_DONE 0x100000038 0

/-- R542: the previous image is restarted from the same record, and the new slot is BAD. -/
def handoverReverted (d : Dev) : Dev :=
  if d.boot.handover ≠ some .resume then d
  else ((d.setSlot d.eph.activeB 3 0).handoverEnd).logBoot Code.BOOT_HANDOVER_REVERTED 0x100000038 0

/-- BOOT_FW_CTRL written (R652): RESUMED, HANDOVER, COMMIT, TRIAL; the slots hold what they were last read to hold. -/
def writeFwCtrl (d : Dev) (v : Word) : Dev :=
  let d := if getBits v 3 3 = 1 then d.fwResumed else d
  let d := if getBits v 2 2 = 1 then d.fwHandover (d.slotImage d.eph.activeB) else d
  let d := if getBits v 1 1 = 1 then d.fwCommit else d
  if getBits v 0 0 = 1 then d.fwTrial (d.slotImage (!d.runningB)) else d

/-- BOOT_CTRL written (R652): EPH_DISCARD takes its value, then WARM, then COLD. -/
def writeBootCtrl (d : Dev) (v : Word) : Dev :=
  let d := d.sf F.BOOT_CTRL.EPH_DISCARD (getBits v 2 2)
  let d := if getBits v 1 1 = 1 then d.warmReq else d
  if getBits v 0 0 = 1 then d.coldReq else d

/-- BOOT_DIE_RESET written. -/
def writeDieReset (d : Dev) (v : Word) : Dev :=
  if getBits v 8 8 = 1 then d.dieResetReq (getBits v 4 0) else d.sf F.BOOT_DIE_RESET.DIE (getBits v 4 0)

end Dev

/-! ### The commands -/

def execPwrStateChanged (errs : List MemErr) (s : State) : Host.Outcome State Fault Refusal := s.upd fun d => d.pwrChanged errs

def execDieResetDone (durationMs : Nat) (fails : List (Nat × Nat)) (temps : List Nat) (errs : List MemErr) (s : State) :
    Host.Outcome State Fault Refusal :=
  s.upd fun d => d.dieResetDone durationMs fails temps errs

def execHandoverVerifyDone (s : State) : Host.Outcome State Fault Refusal := s.upd fun d => d.handoverVerified

def execHandoverParkDone (s : State) : Host.Outcome State Fault Refusal := s.upd fun d => d.handoverParked

def execHandoverLoadDone (s : State) : Host.Outcome State Fault Refusal := s.upd fun d => d.handoverLoaded

def execBootHandoverReverted (s : State) : Host.Outcome State Fault Refusal := s.upd fun d => d.handoverReverted

end Sys2Proof.Machine
end

