-- ==== Sys2Proof/Machine/Sec.lean ====
section
/-! DEFINITION. Attestation reports (R561 to R563), debug tokens and states (R565 to R569), and the management cores as the debug
port sees them (R564, R570). -/

namespace Sys2Proof.Machine

open Sys2Proof

/-- R565: the fields of a token's body. -/
structure Token where
  magic : Nat
  state : Nat
  serial : Nat
  challenge : Nat
  consent : Nat
  zero : Bool
  body : List Byte
  deriving DecidableEq, Repr

/-- A token body of 128 bytes. -/
def tokenOf (b : List Byte) : Token :=
  let get (lo n : Nat) : Nat := leNat ((b.drop lo).take n)
  { magic := get 0 4, state := get 4 1, serial := get 8 16, challenge := get 24 32, consent := get 56 48
    zero := decide (get 5 3 = 0) && decide (get 104 24 = 0), body := b }

/-- A branch record taken into a trace of 4,096 entries: the oldest is overwritten. -/
def MCore.record (x : MCore) (target : Nat) : MCore :=
  let l := x.trace ++ [target % 2 ^ 32]
  { x with trace := l.drop (l.length - 4096), overrun := x.overrun || decide (4096 < l.length) }

namespace Dev

/-! ### Attestation -/

/-- The debug state, and whether VENDOR_MARK is set. -/
def debugState (d : Dev) : Nat := d.gf F.DBG_STAT.STATE
def vendorMark (d : Dev) : Bool := d.on F.DBG_STAT.VENDOR_MARK

/-- REQ of SEC_ATTEST_CTRL, by a requester path (R561 to R563). -/
def attestReq (d : Dev) (src : Nat) : Dev :=
  let refuse (code : Nat) : Dev := (d.sf F.SEC_ATTEST_STAT.CODE code).logSec code 0x200000018 1
  if d.on F.SEC_ATTEST_STAT.BUSY then refuse Code.SEC_ATTEST_BUSY
  else if d.sec.identity.isNone && !d.vendorMark then refuse Code.SEC_NO_IDENTITY
  else
    let d := ((d.sf F.SEC_ATTEST_STAT.BUSY 1).sf F.SEC_ATTEST_STAT.DONE 0).sf F.SEC_ATTEST_STAT.CODE 0
    let nonce := (List.range 4).flatMap fun k => leBytes 8 (d.reg ⟨.SEC_NONCE_k, 0, k, 0⟩).toNat
    { d with sec := { d.sec with report := some (nonce, src) } }

/-- R561: the digest that the running image's signature covers, and the Almanac's. -/
def fwDigest (d : Dev) : Nat := (d.boot.image.map fun (x : FwImage) => x.digest).getD 0
def almDigest (d : Dev) : Nat := (d.boot.almanac.map fun (a : Almanac) => a.digest).getD 0

/-- R561: the inventory of a die as the report holds it. -/
def inventoryWord (d : Dev) (k : Nat) : Nat :=
  let v := d.reg ⟨.DLK_DIE_k_INV, 0, k, 0⟩
  getBits v 63 61 * 2 ^ 13 + getBits v 11 0

/-- R561: the body of a report. -/
def reportBody (d : Dev) (nonce : List Byte) (src : Nat) : List Byte :=
  let bit (b : Bool) (n : Nat) : Nat := if b then n else 0
  let img := d.boot.image
  let ver := (img.map fun (x : FwImage) => x.version).getD 0
  let svn := (img.map fun (x : FwImage) => x.svn).getD 0
  let key := if d.vendorMark then 0 else d.sec.identity.getD 0
  leBytes 4 0x54545441 ++ leBytes 2 1 ++ leBytes 1 d.debugState
    ++ leBytes 1 (bit d.vendorMark 1 + bit (d.on F.BOOT_STAT.NO_ALMANAC) 2 + bit d.sec.owner.isSome 4)
    ++ nonce ++ leBytes 16 Config.moduleSerial.toNat ++ leBytes 48 key ++ leBytes 48 Config.romDigest.toNat
    ++ leBytes 48 d.fwDigest ++ leBytes 4 ver ++ leBytes 4 svn ++ leBytes 4 d.fwFloor
    ++ leBytes 1 (if d.runningB then 1 else 0) ++ leBytes 1 (d.gf F.DLK_PKG_LEVEL.COMMON_LEVEL) ++ leBytes 2 src
    ++ leBytes 8 (d.gf F.BOOT_ALMANAC_SEQ.SEQUENCE) ++ leBytes 8 (d.gf F.SEC_ALM_FLOOR.FLOOR) ++ leBytes 48 d.almDigest
    ++ leBytes 48 (d.sec.owner.getD 0) ++ leBytes 4 (d.gf F.BOOT_START_CNT.COLD_CNT)
    ++ leBytes 4 (d.gf F.BOOT_START_CNT.WARM_CNT) ++ leBytes 8 d.chrono
    ++ ((List.range 20).flatMap fun k => leBytes 2 (d.inventoryWord k)) ++ leBytes 640 0

/-- R549, R563: the signature block of a report: the signatures are values of the identity pair, which the manual does
not state; under VENDOR_MARK they and the KEY_ID are zero. -/
def reportBlock (d : Dev) : List Byte :=
  let sig : List Byte := if d.vendorMark then leBytes 16608 0 else (List.range 16608).map fun i => Config.freeByte d.freeIx i
  leBytes 4 0x53474953 ++ leBytes 2 1 ++ leBytes 2 6 ++ leBytes 48 (if d.vendorMark then 0 else d.sec.identity.getD 0)
    ++ sig ++ leBytes 40 0

/-- Bytes written over the registers of a name from number 0 on, 8 a register. -/
def putBytes (d : Dev) (name : RegName) (b : List Byte) : Dev :=
  (List.range ((b.length + 7) / 8)).foldl (fun d n =>
    d.setReg ⟨name, 0, n, 0⟩ (BitVec.ofNat 64 (leNat ((b.drop (8 * n)).take 8)))) d

/-- R562: the report is complete. -/
def attestDone (d : Dev) : Dev :=
  match d.sec.report with
  | some (nonce, src) =>
    let b := d.reportBody nonce src ++ d.reportBlock
    let d := { d.draw with sec := { d.sec with report := none } }.putBytes .SEC_REPORT_n b
    let d := (d.sf F.SEC_ATTEST_STAT.BUSY 0).sf F.SEC_ATTEST_STAT.DONE 1
    d.sf F.SEC_ATTEST_STAT.REPORTS (d.gf F.SEC_ATTEST_STAT.REPORTS + 1)
  | none => d

/-! ### Debug states -/

/-- R572, R613: a debug code, noted in DBG_STAT LAST_CODE. -/
def logDbg (d : Dev) (code d0 d1 : Nat) : Dev := (d.sf F.DBG_STAT.LAST_CODE code).logAt code dieM 0xFFFF d0 d1

/-- SUBMIT: the tokens are verified, unless a lockout drops it (R566, R567). -/
def dbgSubmit (d : Dev) : Dev :=
  if d.gf F.DBG_STAT.LOCKOUT_S ≠ 0 ∨ d.sec.verifying then d else { d with sec := { d.sec with verifying := true } }

/-- The bytes of token 0 or 1 in DBG_TOKEN_n (R566): the body of 128 bytes. -/
def tokenAt (d : Dev) (j : Nat) : Token :=
  tokenOf ((List.range 16).flatMap fun i => leBytes 8 (d.reg ⟨.DBG_TOKEN_n, 0, 2104 * j + i, 0⟩).toNat)

def challengeNow (d : Dev) : Nat :=
  leNat ((List.range 4).flatMap fun k => leBytes 8 (d.reg ⟨.DBG_CHALLENGE_k, 0, k, 0⟩).toNat)

/-- R565: a token's body names this module, the present challenge and a state. -/
def tokenFits (d : Dev) (t : Token) (st : Nat) : Bool :=
  decide (t.magic = 0x4E4B5444) && decide (t.state = st) && decide (t.serial = Config.moduleSerial.toNat)
    && decide (t.challenge = d.challengeNow) && t.zero

/-- R549, R566: the signature block of token 0 or 1 in DBG_TOKEN_n, after its body, with what the evaluation of its two
signatures finds. -/
def tokenSig (d : Dev) (j : Nat) (rsaOk slhOk : Bool) : SigBlock :=
  let get (reg n : Nat) : List Byte :=
    (List.range n).flatMap fun i => leBytes 8 (d.reg ⟨.DBG_TOKEN_n, 0, 2104 * j + 16 + reg + i, 0⟩).toNat
  let h := get 0 55
  let f (lo n : Nat) : Nat := leNat ((h.drop lo).take n)
  { magic := f 0 4, format := f 4 2, kind := f 6 2, keyId := f 8 48, rsaSig := beNat ((h.drop 56).take 384)
    tail := leNat (get 2083 5), rsaOk := rsaOk, slhOk := slhOk }

/-- R565: which accepted certificates may sign a token of a KIND: 7 and 9 the owner in force, 8 role 4. -/
def tokenSigner (d : Dev) (kind : Nat) (c : Cert) : Bool :=
  if kind = 8 then decide (c.role = 4) else decide (c.role = 7) && decide (d.sec.owner = some c.pair.id)

/-- R550, R565: the KIND of a token whose signature block is accepted, and the code of one that is refused. -/
def tokenKind (d : Dev) (s : SigBlock) : Option Nat :=
  if [7, 8, 9].contains s.kind && (d.itemFault s.kind (d.tokenSigner s.kind) s).isNone then some s.kind else none

def tokenFault (d : Dev) (s : SigBlock) : Option Nat :=
  if [7, 8, 9].contains s.kind then d.itemFault s.kind (d.tokenSigner s.kind) s else some Code.SEC_CHAIN_INVALID

/-- R550: the refusal of a token's signature block is logged. -/
def logToken (d : Dev) (j : Nat) (s : SigBlock) : Dev :=
  match d.tokenFault s with
  | some code => d.logSec code (⟨.DBG_TOKEN_n, 0, 2104 * j, 0⟩ : RegKey).offset (sigFailure s)
  | none => d

/-- R565: the state that the tokens open, if they open one. `kind0` and `kind1` are the KINDs of the two signature
blocks, where they are accepted. -/
def tokensOpen (d : Dev) (kind0 kind1 : Option Nat) : Option Nat :=
  let a := d.tokenAt 0
  let b := d.tokenAt 1
  let owned := d.sec.owner.isSome
  if owned && decide (kind0 = some 7) && d.tokenFits a 1 && decide (a.consent = 0) then some 1
  else if owned && decide (kind0 = some 9) && decide (kind1 = some 8) && d.tokenFits a 2 && decide (a.consent = 0)
      && d.tokenFits b 2 && decide (b.consent = (Config.sha384 a.body).toNat) then some 2
  else if !owned && decide (kind0 = some 8) && d.tokenFits a 2 && decide (a.consent = 0) then some 2
  else none

/-- R568: VENDOR entered: the identity keys are erased first. -/
def enterVendor (d : Dev) : Dev :=
  let d := { d with sec := { d.sec with identity := none, secret := none } }.sf F.SEC_STAT.IDENTITY 3
  let d := (List.range 6).foldl (fun d k => d.sf F.SEC_ID_KEYID_k.KEYID 0 0 k) d
  ((d.sf F.DBG_STAT.VENDOR_MARK 1).sf F.DBG_STAT.STATE 2).logDbg Code.DBG_VENDOR_ENTERED 0 2

/-- R550, R566 to R568: verification ends: the state changes or the SUBMIT has failed; the tokens are cleared and a new
challenge is drawn. The second token is one that follows a consent token. -/
def submitDone (d : Dev) (rsa0 slh0 rsa1 slh1 : Bool) : Dev :=
  if !d.sec.verifying then d
  else
    let s0 := d.tokenSig 0 rsa0 slh0
    let s1 := d.tokenSig 1 rsa1 slh1
    let opened := d.tokensOpen (d.tokenKind s0) (d.tokenKind s1)
    let d := d.logToken 0 s0
    let d := if s0.kind = 9 then d.logToken 1 s1 else d
    let d := { d with
      regs := d.regs.filter fun e => decide (e.1.name ≠ RegName.DBG_TOKEN_n), sec := { d.sec with verifying := false } }
    let d := match opened with
      | some 2 => d.enterVendor.sf F.DBG_STAT.FAILS 0
      | some st => ((d.sf F.DBG_STAT.STATE st).logDbg Code.DBG_STATE_CHANGED 0 st).sf F.DBG_STAT.FAILS 0
      | none =>
        let f := satAt 255 (d.gf F.DBG_STAT.FAILS + 1)
        let secs := 2 ^ (min f 7 - 1)
        let d := (d.sf F.DBG_STAT.FAILS f).logDbg Code.DBG_TOKEN_REFUSED 0 f
        let d := { d with sec := { d.sec with lockEnd := d.chrono + secs * 10 ^ 9 } }
        (d.sf F.DBG_STAT.LOCKOUT_S secs).logDbg Code.DBG_LOCKOUT 0 secs
    d.newChallenge

/-- R569: EXIT: SEALED again; halted management cores go on. -/
def dbgExit (d : Dev) : Dev :=
  if d.debugState = 0 then d
  else
    let d := (d.sf F.DBG_STAT.STATE 0).logDbg Code.DBG_STATE_CHANGED 0 0
    { d with
      sec := { d.sec with mcores := NMap.mapVals {} d.sec.mcores fun (m : MCore) => { m with halted := false } } }

/-- DBG_CTRL written (R652): REFRESH, EXIT, SUBMIT. -/
def writeDbgCtrl (d : Dev) (v : Word) : Dev :=
  let d := if getBits v 2 2 = 1 then d.newChallenge else d
  let d := if getBits v 1 1 = 1 then d.dbgExit else d
  if getBits v 0 0 = 1 then d.dbgSubmit else d

/-! ### Management cores -/

def mcore (d : Dev) (m : Nat) : MCore := NMap.get {} d.sec.mcores m

def setMcore (d : Dev) (m : Nat) (x : MCore) : Dev :=
  { d with sec := { d.sec with mcores := NMap.set {} d.sec.mcores m x } }

/-- R564: the debug state permits halt, step and trace. -/
def mcoreMay (d : Dev) : Bool := decide (d.debugState ≠ 0)

def debugRefused (d : Dev) (off : Nat) : Dev := d.logDbg Code.DBG_ACCESS_REFUSED off d.debugState

/-- STEP: one instruction of a halted core; `branch` is the target where it branches. -/
def mcoreStep (d : Dev) (m : Nat) (branch : Option Nat) : Dev :=
  let x := d.mcore m
  match branch with
  | some t => if x.halted then d.setMcore m (x.record t) else d
  | none => d

/-- DBG_MCORE_m_CTRL written (R652): STEP, RESUME, HALT. What a step executes is the firmware's. -/
def writeMcore (d : Dev) (m : Nat) (v : Word) : Dev :=
  if !d.mcoreMay then d.debugRefused (0x201000100 + 16 * m)
  else
    let d := if getBits v 2 2 = 1 then d.mcoreStep m none else d
    let d := if getBits v 1 1 = 1 then d.setMcore m { d.mcore m with halted := false } else d
    if getBits v 0 0 = 1 then d.setMcore m { d.mcore m with halted := true } else d

/-- DBG_MCORE_m_TRACE read: the oldest record is returned and removed. -/
def mcoreTrace (d : Dev) (m : Nat) : Word × Dev :=
  let x := d.mcore m
  match x.trace with
  | t :: rest =>
    (BitVec.ofNat 64 (2 ^ 63 + (if x.overrun then 2 ^ 62 else 0) + t), d.setMcore m { x with trace := rest, overrun := false })
  | [] => (if x.overrun then BitVec.ofNat 64 (2 ^ 62) else 0, d.setMcore m { x with overrun := false })

end Dev

/-! ### The commands -/

def execAttestDone (s : State) : Host.Outcome State Fault Refusal := s.upd fun d => d.attestDone

def execSubmitVerifyDone (rsa0 rsa1 : Bool) (s : State) (slh0 slh1 : Bool := true) :
    Host.Outcome State Fault Refusal :=
  s.upd fun d => d.submitDone rsa0 slh0 rsa1 slh1

def execDbgLockoutExpiry (s : State) : Host.Outcome State Fault Refusal := s.upd fun d => d.sf F.DBG_STAT.LOCKOUT_S 0

/-- MCORE_STEP: what the instruction does is the firmware's; its branch, if it takes one, is recorded. -/
def execMcoreStep (m : Fin 4) (branch : Option Nat) (s : State) : Host.Outcome State Fault Refusal :=
  s.upd fun d => if d.mcoreMay then d.mcoreStep m branch else d.debugRefused (0x201000100 + 16 * m.val)

/-- MCORE_TRACE_READ: `branches` are those that the core has taken since the last read. -/
def execMcoreTraceRead (m : Fin 4) (branches : List Nat) (s : State) : Host.Outcome State Fault Refusal :=
  s.upd fun d =>
    if !d.mcoreMay then { d.debugRefused (0x201000108 + 16 * m.val) with answer := { code := Code.DBG_ACCESS_REFUSED } }
    else
      let d := d.setMcore m (branches.foldl (fun x t => x.record t) (d.mcore m))
      let (v, d) := d.mcoreTrace m
      { d with answer := { value := v } }

end Sys2Proof.Machine
end

