-- ==== Sys2Proof/Machine/Safe.lean ====
section
/-! DEFINITION. Accusation summaries and their window (R622 to R626), health scores over time (R629), lock-step marks (R635, R636),
First Light on demand (R640), the Plate digest (R641, R642), the self-tests of the monitors (R644, R645), and firmware messages
(R298). -/

namespace Sys2Proof.Machine

open Sys2Proof

/-- The KIND byte of a NOTICE (R298). -/
def noticeKind (p : Packet) : Nat := (p.payload.headD 0).toNat

namespace Dev

/-! ### Accusations -/

/-- R623, R624: a summary arrives: at its suspect it is recorded and scored, elsewhere its accusers join this device's
entry. -/
def summaryIn (d : Dev) (p : Packet) : Dev :=
  let get (lo n : Nat) : Nat := leNat ((p.payload.drop lo).take n)
  let s : Suspect := { dev := get 8 4 % 2 ^ 18, accusers := get 12 4, mask := get 16 1 % 32, unit := get 18 2 }
  let d := if s.dev = d.self then d.summaryAtSuspect p.src s (get 20 8) else d.mergeAccusers s
  d.raise 131

/-- R623: the window ends: one summary for each suspect. -/
def windowEnd (d : Dev) : Dev :=
  let l := d.suspects
  let w := d.accuseWindow - 1
  let d := { d with suspects := [] }.sf F.SAFE_AGG_STAT.SUSPECTS 0
  l.foldl (fun d e => d.forwardSummary e w) d

/-- SAFE_ACCUSE written. -/
def writeAccuse (d : Dev) (v : Word) : Dev :=
  let d := (d.sf F.SAFE_ACCUSE.UNIT (getBits v 33 18)).sf F.SAFE_ACCUSE.SUSPECT (getBits v 17 0)
  if getBits v 63 63 = 1 then d.accuse (getBits v 17 0) 4 (getBits v 33 18) else d

/-- SAFE_OCCULT_CTRL written. -/
def writeOccult (d : Dev) (v : Word) : Dev :=
  let d := (d.sf F.SAFE_OCCULT_CTRL.OP (getBits v 61 60)).sf F.SAFE_OCCULT_CTRL.UNIT (getBits v 33 18)
  let d := d.sf F.SAFE_OCCULT_CTRL.DEVICE (getBits v 17 0)
  if getBits v 63 63 = 1 then d.occultReq else d

/-! ### Health -/

/-- R629: every score is halved; a WATCH below half its threshold returns to OK. -/
def halfLife (d : Dev) : Dev :=
  (List.range 2048).foldl (fun d u =>
    let s := d.gf F.SAFE_HEALTH_u.SCORE 0 u
    if s = 0 then d
    else
      let d := d.sf F.SAFE_HEALTH_u.SCORE (s / 2) 0 u
      if d.gf F.SAFE_HEALTH_u.LEVEL 0 u = 1 ∧ 2 * (s / 2) < d.gf F.SAFE_HEALTH_CTRL.WATCH then
        d.sf F.SAFE_HEALTH_u.LEVEL 0 0 u
      else d) d

/-- CLEAR of SAFE_HEALTH_u. -/
def healthClear (d : Dev) (u : Nat) : Dev := (d.sf F.SAFE_HEALTH_u.SCORE 0 0 u).sf F.SAFE_HEALTH_u.LEVEL 0 0 u

/-- SAFE_HEALTH_CTRL written: a WATCH and a HALF_LIFE_H of 0 are stored as 1, and RETIRE no lower than WATCH + 1. -/
def writeHealthCtrl (d : Dev) (v : Word) : Dev :=
  let w := max 1 (getBits v 23 0)
  let d := (d.sf F.SAFE_HEALTH_CTRL.HALF_LIFE_H (max 1 (getBits v 63 56))).sf F.SAFE_HEALTH_CTRL.WATCH w
  d.sf F.SAFE_HEALTH_CTRL.RETIRE (min (2 ^ 24 - 1) (max (w + 1) (getBits v 47 24)))

/-! ### Lock-step -/

/-- R635: the partner's mark of a core arrives: it is compared with the mark of its number, or waits for it. -/
def markIn (d : Dev) (p : Packet) : Dev :=
  let get (lo n : Nat) : Nat := leNat ((p.payload.drop lo).take n)
  let n := get 8 8
  let v := get 16 8
  let c := get 24 1
  if !d.on F.SAFE_LS_CTRL.EN || decide (p.src ≠ d.gf F.SAFE_LS_CTRL.PARTNER) || decide (128 ≤ c) then d
  else match (d.core c).marks.find? fun m => decide (m.number = n) with
    | some m => (d.modCore c fun x => { x with marks := x.marks.erase m }).compareMarks c n m.value v
    | none =>
      if n < d.gf F.SAFE_CORE_MARK.MARKS c then d
      else d.modCore c fun x =>
        let l := x.partnerMarks ++ [{ number := n, value := v }]
        { x with partnerMarks := l.drop (l.length - 16) }

/-- R635: TIMEOUT_MS have passed without the partner's mark. -/
def markTimeout (d : Dev) (c n : Nat) : Dev :=
  match (d.core c).marks.find? fun m => decide (m.number = n) with
  | some m => (d.modCore c fun x => { x with marks := x.marks.erase m }).markLost c n
  | none => d

/-- SAFE_LS_CTRL written: TIMEOUT_MS is stored within 1 to 19 (R634). -/
def writeLsCtrl (d : Dev) (v : Word) : Dev :=
  let d := (d.sf F.SAFE_LS_CTRL.EN (getBits v 63 63)).sf F.SAFE_LS_CTRL.MARK_CNTR (getBits v 59 48)
  (d.sf F.SAFE_LS_CTRL.TIMEOUT_MS (max 1 (min 19 (getBits v 39 24)))).sf F.SAFE_LS_CTRL.PARTNER (getBits v 17 0)

/-! ### First Light on demand -/

/-- REQ of SAFE_FL_CTRL (R640). -/
def lightReq (d : Dev) : Dev :=
  let form := d.gf F.SAFE_FL_CTRL.FORM
  let scope := d.gf F.SAFE_FL_CTRL.SCOPE
  let idle := (List.range 128).all fun c => !bitOf scope (c / 16) || d.coreIdle c
  if d.started && decide (d.boot.step = .ready) && idle && d.safe.firstLight.isNone && decide (form < 2) then
    { d with safe := { d.safe with firstLight := some (decide (form = 1), scope) } }.sf F.SAFE_FL_STAT.STATE 1
  else
    let d := (d.sf F.SAFE_FL_STAT.STATE 4).sf F.SAFE_FL_STAT.CODE Code.FIRST_LIGHT_REFUSED
    d.logAt Code.FIRST_LIGHT_REFUSED dieM 0xFFFF (d.reg ⟨.SAFE_FL_CTRL, 0, 0, 0⟩).toNat 0

/-- SAFE_FL_CTRL written. -/
def writeLight (d : Dev) (v : Word) : Dev :=
  let d := (d.sf F.SAFE_FL_CTRL.FORM (getBits v 9 8)).sf F.SAFE_FL_CTRL.SCOPE (getBits v 7 0)
  if getBits v 63 63 = 1 then d.lightReq else d

/-! ### Plate -/

/-- The sum of CORE_NDET_CNT over the cores, and of the marks taken. -/
def ndetSum (d : Dev) : Nat := ((List.range 128).map fun c => d.gf F.CORE_NDET_CNT.COUNT c).sum
def marksTaken (d : Dev) : Nat := ((List.range 128).map fun c => d.gf F.SAFE_CORE_MARK.MARKS c).sum

/-- START: a Plate window opens; it counts as a mark of every core (R634). -/
def plateStart (d : Dev) : Dev :=
  let d := { d with
    safe := { d.safe with plate := some (d.ndetSum, d.gf F.SAFE_LS_STAT.AGREED, d.marksTaken), plateBad := false } }
  let d := (List.range 128).foldl (fun d c => d.modCore c fun x => { x with markTime := some d.chrono }) d
  d.sf F.SAFE_LS_STAT.UNCHECKED 0

/-- R642: whether a record made now is CHECKED. -/
def plateChecked (d : Dev) : Bool :=
  match d.safe.plate with
  | some (_, agreed, taken) =>
    let n := d.marksTaken - taken
    d.on F.SAFE_LS_CTRL.EN && decide (0 < n) && decide (d.gf F.SAFE_LS_STAT.AGREED - agreed = n) && !d.safe.plateBad
      && !d.on F.SAFE_LS_STAT.UNCHECKED
  | none => false

/-- REQ: the range is hashed, or the request is refused (R641). -/
def plateReq (d : Dev) : Dev :=
  let a := d.gf F.SAFE_PLATE_ADDR.ADDR
  let n := d.gf F.SAFE_PLATE_LEN.LEN
  let inRange := match d.areaOf a n with
    | some .hbm => true
    | some .sram => true
    | _ => false
  if d.on F.SAFE_PLATE_STAT.BUSY || !inRange || decide (n = 0) || !d.started then
    (d.sf F.SAFE_PLATE_STAT.CODE Code.PLATE_REFUSED).logAt Code.PLATE_REFUSED dieM 0xFFFF a n
  else
    let d := ((d.sf F.SAFE_PLATE_STAT.BUSY 1).sf F.SAFE_PLATE_STAT.DONE 0).sf F.SAFE_PLATE_STAT.CODE 0
    { d with safe := { d.safe with making := some (a, n, d.plateChecked) } }

/-- The bytes of a range of the local map. -/
def rangeBytes (d : Dev) (a n : Nat) : List Byte :=
  if a < 0x100000000000 then d.hbmBytes a n else (List.range n).map fun k => d.sramByte (a + k)

/-- R641: the Plate record of a range with some contents digest. -/
def plateRecord (d : Dev) (digest : BitVec 384) (a n : Nat) (checked : Bool) : List Byte :=
  let bit (b : Bool) (v : Nat) : Nat := if b then v else 0
  let (ndet0, agreed0, _) := d.safe.plate.getD (0, 0, 0)
  let ndet := d.ndetSum - ndet0
  let sr := (List.range 128).any fun c => d.on F.CORE_NUM_CTRL.SR_EN c
  leBytes 4 0x54414C50 ++ leBytes 2 1
    ++ leBytes 2 (bit checked 1 + bit (decide (ndet ≠ 0)) 2 + bit d.vendorMark 4 + bit sr 8)
    ++ leBytes 48 digest.toNat ++ leBytes 48 d.fwDigest ++ leBytes 48 d.almDigest
    ++ leBytes 16 Config.moduleSerial.toNat
    ++ leBytes 4 (if d.on F.SAFE_LS_CTRL.EN then d.gf F.SAFE_LS_CTRL.PARTNER else 2 ^ 31)
    ++ leBytes 4 (d.gf F.SAFE_LS_STAT.AGREED - agreed0) ++ leBytes 8 ndet ++ leBytes 8 d.chrono ++ leBytes 8 a ++ leBytes 8 n
    ++ leBytes 48 0

/-- R641: the range is read, from HBM under the STREAM hint, and the record and its digest are complete. A range with
a unit whose bytes are not known (R225) has a digest that is a free value. While the range's units are held back
(R216, R240, R491) nothing happens: the command comes again. -/
def plateDone (d : Dev) (errs : List MemErr) : Dev :=
  match d.safe.making with
  | some (a, n, checked) =>
    let hbm := decide (a < 0x100000000000)
    let (wait, d) := if hbm then d.hbmHeld a n false else ((d.copyingAt a n).isSome, d)
    if wait then d else
    let (code, d) := if hbm then d.readHbm a n hintStream 0 errs else (0, d)
    let digest := if code = 0 then Config.sha384 (d.rangeBytes a n) else Config.freeDigest d.freeIx
    let d := if code = 0 then d else d.draw
    let r := d.plateRecord digest a n checked
    let d := { d with safe := { d.safe with making := none } }.putBytes .SAFE_PLATE_REC_n r
    let d := d.putBytes .SAFE_PLATE_DIGEST_k (leBytes 48 (Config.sha384 r).toNat)
    ((d.sf F.SAFE_PLATE_STAT.BUSY 0).sf F.SAFE_PLATE_STAT.DONE 1).raise 136
  | none => d

/-- SAFE_PLATE_CTRL written (R652): REQ, then START. -/
def writePlate (d : Dev) (v : Word) : Dev :=
  let d := if getBits v 63 63 = 1 then d.plateReq else d
  if getBits v 62 62 = 1 then d.plateStart else d

/-! ### Monitors -/

/-- R645: SAFE_MONITOR_FAIL for a mechanism and a unit. -/
def monitorFail (d : Dev) (mech unit : Nat) : Dev :=
  (d.logAt Code.SAFE_MONITOR_FAIL dieM 0xFFFF (Config.mechanism mech).toNat unit).raise 137

/-- R644: the injected residue error is caught, or a checker has stayed silent. -/
def residueTest (d : Dev) (caught : Bool) : Dev :=
  if caught then d
  else ({ d with safe := { d.safe with residueDead := true } }.sf F.SAFE_MON_STAT.RESIDUE_DEAD 1).monitorFail 0 1480

/-- R645: a monitor's heartbeat is heard (false for A, true for B). -/
def heartbeat (d : Dev) (b : Bool) : Dev := d.sf (if b then F.SAFE_MON_STAT.MON_B_OK else F.SAFE_MON_STAT.MON_A_OK) 1

/-- R645: no heartbeat of a monitor for 10 ms: the other one takes over every test. -/
def heartbeatLost (d : Dev) (b : Bool) : Dev :=
  (d.sf (if b then F.SAFE_MON_STAT.MON_B_OK else F.SAFE_MON_STAT.MON_A_OK) 0).monitorFail 2
    (Config.mechanism (if b then 4 else 3)).toNat

end Dev

/-! ### The commands -/

def execAccusationSummary (p : Packet) (s : State) : Host.Outcome State Fault Refusal :=
  s.upd fun d => if p.type = PT.notice ∧ noticeKind p = 4 then (d.consume p).summaryIn p else d

def execLockstepMarkNotice (p : Packet) (s : State) : Host.Outcome State Fault Refusal :=
  s.upd fun d => if p.type = PT.notice ∧ noticeKind p = 7 then (d.consume p).markIn p else d

/-- R298: a firmware message is handed to firmware. -/
def execFirmwareMessage (p : Packet) (s : State) : Host.Outcome State Fault Refusal :=
  s.upd fun d =>
    if p.type = PT.notice ∧ noticeKind p = 8 then
      let d := d.consume p
      { d with safe := { d.safe with messages := d.safe.messages ++ [(p.src, p.payload.drop 8)] } }
    else d

def execAccusationWindowEnd (s : State) : Host.Outcome State Fault Refusal := s.upd fun d => d.windowEnd

def execHealthHalfLife (s : State) : Host.Outcome State Fault Refusal := s.upd fun d => d.halfLife

def execLockstepMarkTimeout (core : Fin 128) (number : Nat) (s : State) : Host.Outcome State Fault Refusal :=
  s.upd fun d => d.markTimeout core number

def execPlateDone (s : State) (errs : List MemErr := []) : Host.Outcome State Fault Refusal := s.upd fun d => d.plateDone errs

def execResidueInjection (caught : Bool) (s : State) : Host.Outcome State Fault Refusal := s.upd fun d => d.residueTest caught

def execMonitorHeartbeat (b : Bool) (s : State) : Host.Outcome State Fault Refusal := s.upd fun d => d.heartbeat b

def execHeartbeatTimeout (b : Bool) (s : State) : Host.Outcome State Fault Refusal := s.upd fun d => d.heartbeatLost b

end Sys2Proof.Machine
end

