-- ==== Sys2Proof/Machine/RegRead.lean ====
section
/-! DEFINITION. Reading a register by any path: what refuses the access (R519, R564), what a unit without power answers
(R591, R654), the fields that show what the state holds beside the register file, and what a read does (R6, R502, R571). -/

namespace Sys2Proof.Machine

open Sys2Proof

/-- R519: the registers of the M-die, which answer in FAILED. -/
def isMdie (k : RegKey) : Bool := [Block.boot, .sec, .pwr, .intc, .log].contains k.name.info.place.block

/-- A register of a management core's debug, whose rows of R564 hold on every path. -/
def isMcore (k : RegKey) : Bool := decide (k.name = .DBG_MCORE_m_CTRL) || decide (k.name = .DBG_MCORE_m_TRACE)

/-- CORE_QUEUE_q_STAT HEAD without the forced stop: what the entry at a head does. -/
def Entry.headCode (x : Entry) : Nat :=
  match x.op with
  | .wait _ => 1
  | _ => 2

def Entry.isStream (x : Entry) : Bool :=
  match x.op with
  | .stream .. => true
  | _ => false

namespace Dev

/-- R519, R564: why a register access is refused on every path, if it is, with the refusal logged. -/
def regRefusal (d : Dev) (k : RegKey) : Nat × Dev :=
  if decide (d.boot.step = BootStep.failed) && !isMdie k then (Code.BOOT_NOT_READY, d.logBoot Code.BOOT_NOT_READY k.offset 0)
  else if isMcore k && d.regServed k && !d.mcoreMay then (Code.DBG_ACCESS_REFUSED, d.debugRefused k.offset)
  else (0, d)

/-! ### What status fields show -/

/-- The threads of a core in given states, as bits. -/
def threadBits (d : Dev) (c : Nat) (l : List ThreadSt) : Nat :=
  ((List.range 16).map fun t => if l.contains (d.thread c t).st then 2 ^ t else 0).sum

/-- CORE_STAT CORE_STATE. -/
def coreState (d : Dev) (c : Nat) : Nat :=
  let x := d.core c
  if x.faulted then 5
  else if x.forced then 4
  else if x.paused then 3
  else if (List.range 16).all fun t => decide ((d.thread c t).st = .halted) then 0
  else if d.on F.CORE_PREEMPT_CTRL.REQ c || d.swapWaiting c then 2
  else 1

def coreStat (d : Dev) (c : Nat) : Word :=
  let v := setBits 0 55 52 (d.coreState c)
  let v := setBits v 47 32 (d.threadBits c [.running])
  let v := setBits v 31 16 (d.threadBits c [.waiting, .switched, .parked, .stopped])
  setBits v 15 0 (d.threadBits c [.halted, .faulted])

/-- CORE_QUEUE_q_STAT HEAD. -/
def queueHead (d : Dev) (c q : Nat) : Nat :=
  match d.queue c q with
  | [] => 0
  | x :: _ =>
    if x.stuck then (if x.isStream && decide (x.seq ≠ d.gf F.CORE_FAULT_SEQ.SEQ c) then 5 else 3)
    else if (d.core c).forced && !x.started then 4
    else x.headCode

/-- The STREAM that an engine works on, its own queue's or the paired one of the other queue. -/
def currentStream (d : Dev) (c e : Nat) : Option Entry :=
  match d.activeStream c e with
  | some x => some x
  | none => (d.activeStream c (1 - e)).filter fun x => x.isPaired

/-- ENG_STAT. The waits for a row, a slot or the partner stand as the last attempt left them. -/
def engStat (d : Dev) (u : Nat) : Word :=
  let c := u / 2
  let e := u % 2
  let g := d.engine c e
  let wait := d.gf F.ENG_STAT.STATE u
  let stream := d.currentStream c e
  let st := if (d.core c).faulted then 8
    else if g.loading.isSome then (if stream.isSome then 5 else 1)
    else if stream.isSome then (if wait = 0 then 2 else wait)
    else if (d.activeEmit c e).isSome then (if wait = 4 then 4 else 6)
    else if g.flight.isEmpty then 0 else 2
  let v := setBits 0 47 32 g.flight.length
  let v := setBits v 19 16 (d.queue c e).length
  let v := setBits v 11 10 ((g.tile.map fun t => t.mode).getD 0)
  let v := setBits v 9 9 (if (g.tile.map fun t => t.valid) = some true then 1 else 0)
  let v := setBits v 8 8 (if (stream.map fun x => x.isPaired) = some true then 1 else 0)
  setBits v 3 0 st

def mscStat (d : Dev) (q : Nat) : Word :=
  let mine := d.mem.lines.filter fun l => decide (unitHome l.unit = q)
  let busy := d.on F.MSC_CTRL.FLUSH q || d.on F.MSC_CTRL.UNKEEP q
  let v := setBits 0 53 32 (mine.filter fun l => l.kept).length
  let v := setBits v 31 31 (if busy then 1 else 0)
  setBits v 21 0 (mine.filter fun l => !l.kept).length

/-- R273: entries of the reply cache past their minimum lifetime and not released. -/
def unreleased (d : Dev) : Nat := (d.gas.replies.filter fun r => !r.released && decide (r.made + r.life ≤ d.chrono)).length

def intStat (d : Dev) (t : Nat) : Word :=
  let run := ((List.range 16).map fun l => if (d.runningAt t).any fun x => decide (x.1 = l) then 2 ^ l else 0).sum
  setBits (setBits 0 16 16 (if (d.offer t).isSome then 1 else 0)) 15 0 run

def ephStat (d : Dev) : Word :=
  let bit (b : Bool) : Nat := if b then 1 else 0
  let v := setBits (setBits (setBits 0 63 63 (bit d.eph.valid)) 62 62 (bit d.eph.behind)) 61 61 (bit d.eph.active1)
  setBits (setBits v 47 32 (satAt 0xFFFF d.eph.pending.length)) 16 0 d.eph.sram.length

def logStat (d : Dev) : Word :=
  let bit (b : Bool) : Nat := if b then 1 else 0
  let v := setBits (setBits 0 63 63 (bit d.ringActive)) 62 62 (bit (decide (64 ≤ d.log.intake.length)))
  setBits (setBits v 41 32 d.log.open_.length) 6 0 d.log.intake.length

/-- DBG_STAT LOCKOUT_S: seconds of lockout remaining. -/
def lockoutS (d : Dev) : Nat :=
  if d.gf F.DBG_STAT.LOCKOUT_S = 0 then 0 else max 1 ((d.sec.lockEnd - d.chrono + 999999999) / 1000000000)

/-- The word of a register as the device holds it now. -/
def shown (d : Dev) (k : RegKey) : Word :=
  let v := d.reg k
  let bit (b : Bool) : Nat := if b then 1 else 0
  match k.name with
  | .CORE_STAT => d.coreStat k.u
  | .CORE_CTRL => setBits (setBits 0 2 2 (bit (d.core k.u).clearHeld)) 0 0 (bit (d.core k.u).forced)
  | .CORE_THREAD_n_CTRL => setBits 0 6 4 (d.thread k.u k.i).st.code
  | .CORE_QUEUE_q_STAT => setBits (setBits v 39 32 (d.queue k.u k.i).length) 2 0 (d.queueHead k.u k.i)
  | .ENG_STAT => d.engStat k.u
  | .MSC_STAT => d.mscStat k.u
  | .GAS_REPLY_STAT => setBits v 44 32 d.unreleased
  | .SYN_CHRONO => BitVec.ofNat 64 d.chrono
  | .HLK_DIR_STAT => setBits (setBits 0 44 24 (d.hlk.dir.filter fun l => l.owned).length) 20 0 d.hlk.dir.length
  | .INT_TGT_t_STAT => d.intStat k.i
  | .EPH_STAT => d.ephStat
  | .EPH_JOURNAL_SEQ => BitVec.ofNat 64 d.eph.seq
  | .EPH_AREA => setBits (setBits 0 63 32 d.eph.compactions) 31 0 d.activeArea.length
  | .LOG_STAT => d.logStat
  | .SAFE_CORE_MARK => setBits v 63 56 (d.core k.u).marks.length
  | .DBG_STAT => setBits v 47 40 d.lockoutS
  | .DBG_MCORE_m_CTRL => setBits 0 63 63 (bit (d.mcore k.i).halted)
  | _ => v

/-! ### The read -/

/-- R502: a read of INT_TGT_t_CLAIM by a management core. -/
def claimRead (d : Dev) (t : Nat) : Word × Dev :=
  if 4 ≤ t then (0, d)
  else match d.claim t with
    | (some (n, l), d) => (setBits (setBits (setBits 0 31 31 1) 19 16 l) 9 0 n, d)
    | (none, d) => (0, d)

/-- R6, R591, R654: a register read that nothing refuses: the value, and the device with the RC fields cleared. -/
def readReg (d : Dev) (k : RegKey) : Word × Dev :=
  let k := k.home
  if !d.regServed k then (0, d)
  else if k.name = .INT_TGT_t_CLAIM then d.claimRead k.i
  else if k.name = .DBG_MCORE_m_TRACE then d.mcoreTrace k.i
  else
    let v := d.shown k
    (readView k.name v, if k.name.hasRc then d.setReg k (afterRead k (d.reg k)) else d)

end Dev
end Sys2Proof.Machine
end

