-- ==== Sys2Proof/Machine/RegWrite.lean ====
section
/-! DEFINITION. Writing a register by any path: R4, R591 and R656 for what is dropped, the registers whose writes act
(R652), the region table and the unsettled table (R253, R254, R278, R280, R283), settings kept in the Ephemeris (R527), and the
writes that a copy to a spare core holds (R85). -/

namespace Sys2Proof.Machine

open Sys2Proof

/-- No field of a register acts by being written. -/
def noAction (_ : Field) : Bool := false

namespace Dev

/-- A register written that no action hangs on: R5, R6, and the values that its table stores. -/
def plainWrite (d : Dev) (k : RegKey) (v : Word) : Dev := d.setReg k (writeFields k.name noAction (d.reg k) (k.name.stored v))

/-! ### Numeric settings of a core -/

/-- R187: a write to a core that is neither all halted nor paused. -/
def coreBusy (d : Dev) (c : Nat) : Dev := d.logCore Code.CORE_THREAD_BUSY c 0 0 0xF (d.nextSeq c)

/-- R187, R200: CORE_NUM_CTRL written. -/
def writeNumCtrl (d : Dev) (c : Nat) (v : Word) : Dev :=
  let k : RegKey := ⟨.CORE_NUM_CTRL, c, 0, 0⟩
  let old := d.gf F.CORE_NUM_CTRL.SR_EN c
  if getBits v 3 3 = old ∨ d.coreIdle c then d.plainWrite k v
  else (d.plainWrite k (setBits v 3 3 old)).coreBusy c

/-- R187: CORE_SR_SEED written. -/
def writeSeed (d : Dev) (c : Nat) (v : Word) : Dev :=
  if d.coreIdle c then d.plainWrite ⟨.CORE_SR_SEED, c, 0, 0⟩ v else d.coreBusy c

/-! ### Regions (R253, R254, R493) -/

/-- R253: BASE and LIMIT are held until the next ATTR write. -/
def holdBase (d : Dev) (n : Nat) (v : Word) : Dev :=
  { d with gas := { d.gas with heldBase := NMap.set none d.gas.heldBase n (some (getBits v 45 16)) } }

def holdLimit (d : Dev) (n : Nat) (v : Word) : Dev :=
  { d with gas := { d.gas with heldLimit := NMap.set none d.gas.heldLimit n (some (getBits v 45 16)) } }

/-- R253: an ATTR write applies all three registers as one change. -/
def writeRegion (d : Dev) (n : Nat) (v : Word) : Dev :=
  let before := d
  let base := NMap.get none d.gas.heldBase n
  let limit := NMap.get none d.gas.heldLimit n
  let d := match base with
    | some b => d.sf F.GAS_REGION_n_BASE.BASE b 0 n
    | none => d
  let d := match limit with
    | some l => d.sf F.GAS_REGION_n_LIMIT.LIMIT l 0 n
    | none => d
  let d := d.plainWrite ⟨.GAS_REGION_n_ATTR, 0, n, 0⟩ v
  let d := { d with gas := { d.gas with
    heldBase := NMap.set none d.gas.heldBase n none, heldLimit := NMap.set none d.gas.heldLimit n none } }
  keepSetting before (keepSetting before d ⟨.GAS_REGION_n_BASE, 0, n, 0⟩) ⟨.GAS_REGION_n_LIMIT, 0, n, 0⟩

/-- A local offset lies in a region whose VALID is 0 (R493). -/
def inInvalid (d : Dev) (o : Nat) : Bool :=
  (List.range 4096).any fun n => !d.on F.GAS_REGION_n_ATTR.VALID 0 n && decide (d.gf F.GAS_REGION_n_BASE.BASE 0 n ≤ o / 65536)
    && decide (o / 65536 ≤ d.gf F.GAS_REGION_n_LIMIT.LIMIT 0 n)

/-- R254: accesses that have been checked and not applied. -/
def unapplied (d : Dev) : List Waiting :=
  (d.mem.held.filter fun w => match w with
    | .packet _ => true
    | .message _ => true
    | .eye _ => true
    | _ => false)
  ++ d.mem.returns.map .message ++ d.mem.jobs.map (fun j => .packet j.pkt) ++ d.swaps.flatMap fun e => match e.2 with
    | some s => s.held.filterMap fun h => match h with
      | .request p => some (.packet p)
      | .message m => some (.message m)
      | .eye a => some (.eye a)
      | _ => none
    | none => []

/-- R254, R493: the fence's REQ clears once every access that it waits for has been applied, and every directory line in
an invalid region has been recalled. -/
def regionFenced (d : Dev) : Dev :=
  match d.gas.fence with
  | some ws =>
    if ws.any (fun w => d.unapplied.contains w) || d.hlk.dir.any (fun l => l.snoop.isSome && d.inInvalid (64 * l.unit)) then d
    else { d with gas := { d.gas with fence := none } }.sf F.GAS_REGION_FENCE.REQ 0
  | none => d

/-- R254, R493: REQ of GAS_REGION_FENCE. -/
def fenceReq (d : Dev) : Dev :=
  let d := d.hlk.dir.foldl (fun d l => if d.inInvalid (64 * l.unit) then d.recallLine l.unit true else d) d
  ({ d with gas := { d.gas with fence := some (d.gas.fence.getD [] ++ d.unapplied) } }.sf F.GAS_REGION_FENCE.REQ 1).regionFenced

/-- R281: GAS_REPLY_PURGE written. -/
def writePurge (d : Dev) (v : Word) : Dev :=
  let d := (d.sf F.GAS_REPLY_PURGE.ALL (getBits v 24 24)).sf F.GAS_REPLY_PURGE.DEVICE (getBits v 17 0)
  if getBits v 31 31 = 1 then (d.sf F.GAS_REPLY_PURGE.REQ 1).purgeReplies else d

/-! ### The unsettled table (R278, R280, R283) -/

def unsettled (d : Dev) (n : Nat) : Nat := d.gf F.GAS_UNSETTLED_n_TAG.STATE 0 n

/-- R280, R299: the query of an entry sent to its target, with the issue time that the entry holds. -/
def sendQuery (d : Dev) (n : Nat) : Dev :=
  d.send
    { d.packet PT.query 0 (d.gf F.GAS_UNSETTLED_n_TAG.TARGET 0 n) with
      core := d.gf F.GAS_UNSETTLED_n_TAG.CORE 0 n, aop := d.gf F.GAS_UNSETTLED_n_TAG.AOP 0 n
      w64 := d.on F.GAS_UNSETTLED_n_TAG.W64 0 n, epoch := d.gf F.GAS_UNSETTLED_n_EPOCH.EPOCH 0 n
      total := d.gf F.GAS_UNSETTLED_n_SEQ.SEQ 0 n, addr := d.gf F.GAS_UNSETTLED_n_ADDR.ADDR 0 n
      issueTime := d.gf F.GAS_UNSETTLED_n_TIME.TIME 0 n }

/-- R280, R283: REQ of GAS_QUERY_CTRL. -/
def queryReq (d : Dev) (n : Nat) : Dev :=
  if 3 ≤ d.unsettled n then d else (d.sf F.GAS_UNSETTLED_n_TAG.STATE 2 0 n).sendQuery n

/-- CANCEL of GAS_QUERY_CTRL. -/
def queryCancel (d : Dev) (n : Nat) : Dev := if d.unsettled n = 2 then d.sf F.GAS_UNSETTLED_n_TAG.STATE 1 0 n else d

/-- GAS_QUERY_CTRL written (R652). -/
def writeQuery (d : Dev) (v : Word) : Dev :=
  let n := getBits v 12 8
  let d := d.sf F.GAS_QUERY_CTRL.INDEX n
  let d := if getBits v 1 1 = 1 then d.queryCancel n else d
  if getBits v 0 0 = 1 then d.queryReq n else d

/-- R278: STATE, CORE and TARGET of an entry written: only STATE 0 is accepted, which frees the entry, whose VALUE is
zero from then on; CORE and TARGET take their values while STATE is 0. -/
def writeTag (d : Dev) (n : Nat) (v : Word) : Dev :=
  if d.unsettled n = 0 then
    (d.sf F.GAS_UNSETTLED_n_TAG.CORE (getBits v 24 18) 0 n).sf F.GAS_UNSETTLED_n_TAG.TARGET (getBits v 17 0) 0 n
  else if getBits v 63 60 = 0 then (d.sf F.GAS_UNSETTLED_n_TAG.STATE 0 0 n).sf F.GAS_UNSETTLED_n_VALUE.VALUE 0 0 n
  else d

/-- R278: another register of an entry, written only while STATE is 0. -/
def writeUnsettled (d : Dev) (k : RegKey) (v : Word) : Dev := if d.unsettled k.i = 0 then d.plainWrite k v else d

/-! ### The Perdun link -/

/-- R496: HLK_CTRL written: DOWN takes the link out of service, and lets it back. -/
def writeHlkCtrl (d : Dev) (v : Word) : Dev :=
  let was := d.on F.HLK_CTRL.DOWN
  let d := d.plainWrite ⟨.HLK_CTRL, 0, 0, 0⟩ v
  if d.on F.HLK_CTRL.DOWN = was then d
  else if was then d.noteHost
  else if d.hlkUp then d.linkDown []
  else d.sf F.HLK_STAT.STATE 0

/-! ### The registers of one core -/

/-- MSC_CTRL written (R652): the settings, then UNKEEP, then FLUSH (R222). -/
def writeMsc (d : Dev) (q : Nat) (v : Word) : Dev :=
  let k : RegKey := ⟨.MSC_CTRL, q, 0, 0⟩
  let d := d.setReg k (writeFields .MSC_CTRL (fun f => decide (f.access = .w1s)) (d.reg k) (RegName.stored .MSC_CTRL v))
  let d := if getBits v 1 1 = 1 then d.mscUnkeep q else d
  if getBits v 0 0 = 1 then d.mscFlush q else d

/-- HBM_MAPOUT_CTRL written: PC, then REQ. -/
def writeMapout (d : Dev) (q : Nat) (v : Word) : Dev :=
  let d := d.sf F.HBM_MAPOUT_CTRL.PC (getBits v 25 16) q
  if getBits v 0 0 = 1 then d.mapoutReq q else d

/-! ### The write -/

/-- A register of a core's window written: the core's rules. -/
def coreWrite (d : Dev) (k : RegKey) (dev : Nat) (v : Word) : Dev :=
  match k.name with
  | .CORE_CTRL => d.writeCoreCtrl k.u v
  | .CORE_PREEMPT_CTRL => d.writePreempt k.u v
  | .CORE_THREAD_n_PC => d.writePc k.u k.i (getBits v 15 0)
  | .CORE_THREAD_n_CTRL => d.writeThread k.u k.i v
  | .CORE_THREAD_n_T_m => d.writeT k.u k.i k.j v.toNat
  | .CORE_NUM_CTRL => d.writeNumCtrl k.u v
  | .CORE_SR_SEED => d.writeSeed k.u v
  | .CORE_SPEC_k_CTRL => d.writeSpecCtrl k.u k.i v
  | .CORE_SPEC_k_LO => d.writeSpecAddr k.u k.i false v
  | .CORE_SPEC_k_HI => d.writeSpecAddr k.u k.i true v
  | .SYN_CNT_n => d.setCounter k.u k.i (getBits v 47 0)
  | .SYN_CNT_n_ADD => d.update k.u k.i (sext 48 (getBits v 47 0)) 6 dev none
  | _ => d.plainWrite k v

/-- A register written that the device serves: what its chapter says a write does (R6, R652). `src` is the path of the
write and `dev` the device that sent it. -/
def regWrite (d : Dev) (k : RegKey) (src dev : Nat) (v : Word) : Dev :=
  match k.name with
  | .CLU_SWAP_CTRL => d.writeSwapCtrl k.u v
  | .HBM_MAPOUT_CTRL => d.writeMapout k.u v
  | .MSC_CTRL => d.writeMsc k.u v
  | .GAS_REGION_FENCE => if getBits v 0 0 = 1 then d.fenceReq else d
  | .GAS_REPLY_PURGE => d.writePurge v
  | .GAS_QUERY_CTRL => d.writeQuery v
  | .GAS_UNSETTLED_n_TAG => d.writeTag k.i v
  | .GAS_UNSETTLED_n_EPOCH | .GAS_UNSETTLED_n_SEQ | .GAS_UNSETTLED_n_TIME => d.writeUnsettled k v
  | .GAS_REGION_n_BASE => d.holdBase k.i v
  | .GAS_REGION_n_LIMIT => d.holdLimit k.i v
  | .GAS_REGION_n_ATTR => d.writeRegion k.i v
  | .XFB_COORD_OVERRIDE => d.writeOverride v
  | .XFB_PART_b | .XFB_ROUTE_b_d_h | .XFB_EXC_b_n => d.writeBank k v
  | .XFB_TABLE_CTRL => d.writeTableCtrl v
  | .XFB_VC_WEIGHT => d.writeWeights v
  | .XFB_RATE_CTRL => d.writeRateCtrl v
  | .XFB_TRANSIT_n_PATH => d.writeTransitPath k.i v
  | .XFB_TRANSIT_n_CTRL => d.writeTransitCtrl k.i v
  | .OPT_PORT_n_CTRL => Dev.hostWatch d (d.writePortCtrl k.u k.i v) []
  | .COL_GROUP_n_CFG => d.writeGroupCfg k.i v []
  | .COL_GROUP_n_BOX | .COL_GROUP_n_LIST | .COL_GROUP_n_ROLE | .COL_GROUP_n_RXBUF => d.writeGroup k.name k.i v
  | .COL_GROUP_n_CTRL => if getBits v 0 0 = 1 then d.abortSlot k.i else d
  | .SYN_MERIDIAN_TICK => d.writeMeridianTick v
  | .SYN_MERIDIAN_CTRL => d.writeMeridianCtrl v
  | .DLK_LINK_n_CTRL => d.writeLinkCtrl k.i v
  | .HLK_CTRL => d.writeHlkCtrl v
  | .INT_PEND_SET_k => d.pendSet k.i v
  | .INT_PEND_CLR_k => d.pendClr k.i v
  | .INT_MASK_SET_k => d.maskSet k.i v
  | .INT_MASK_CLR_k => d.maskClr k.i v
  | .INT_TGT_t_EOI => d.endOfInt k.i (getBits v 9 0)
  | .INT_SRC_n_CFG => d.writeSrcCfg k.i v
  | .BOOT_CTRL => d.writeBootCtrl v
  | .BOOT_DIE_RESET => d.writeDieReset v
  | .BOOT_FW_CTRL => d.writeFwCtrl v
  | .BOOT_WATCHDOG => d.writeWatchdog v
  | .EPH_CTRL => d.writeEphCtrl v
  | .SEC_ATTEST_CTRL => if getBits v 0 0 = 1 then d.attestReq src else d
  | .DBG_CTRL => d.writeDbgCtrl v
  | .DBG_MCORE_m_CTRL => d.writeMcore k.i v
  | .PWR_CTRL => d.writePwrCtrl v
  | .CLK_ISLAND_n_CTRL => d.writeIsland k.i v
  | .LOG_CTRL => d.writeLogCtrl v
  | .SAFE_ACCUSE => d.writeAccuse v
  | .SAFE_OCCULT_CTRL => d.writeOccult v
  | .SAFE_HEALTH_CTRL => d.writeHealthCtrl v
  | .SAFE_LS_CTRL => d.writeLsCtrl v
  | .SAFE_FL_CTRL => d.writeLight v
  | .SAFE_PLATE_CTRL => d.writePlate v
  | .SAFE_HEALTH_u => if getBits v 61 61 = 1 then d.healthClear k.i else d
  | _ => d.coreWrite k dev v

/-- R4: a write after start completes to a register not marked runtime: dropped and recorded. -/
def writeRefused (d : Dev) (k : RegKey) (src : Nat) (v : Word) : Dev :=
  let d := (d.sf F.BOOT_REFUSED.SOURCE src).sf F.BOOT_REFUSED.OFFSET k.offset
  d.logBoot Code.BOOT_WRITE_REFUSED k.offset v.toNat

/-- R4, R85, R527, R591: a write that nothing refuses: dropped, held for a core under copy, or done and kept. -/
def writeReg (d : Dev) (k : RegKey) (src dev : Nat) (v : Word) : Dev :=
  if !d.regServed k.home then d
  else if d.started && !k.name.info.runtime then d.writeRefused k src v
  else match coreOf k with
    | some c =>
      if d.copying c then d.hold c (.write k src dev v) else keepSetting d (d.regWrite k src dev v) k.home
    | none => keepSetting d (d.regWrite k src dev v) k.home

/-- R519, R564: a write by a path, with the code that its requester receives. -/
def regStore (d : Dev) (k : RegKey) (src dev : Nat) (v : Word) : Nat × Dev :=
  let (code, d) := d.regRefusal k
  if code ≠ 0 then (code, d) else (0, d.writeReg k src dev v)

/-- R519, R564: a read by a path: its code, its value and the device after it. -/
def regLoad (d : Dev) (k : RegKey) : Nat × Word × Dev :=
  let (code, d) := d.regRefusal k
  if code ≠ 0 then (code, 0, d) else (0, d.readReg k)

/-- A command that is a register write of its own: made by a management core (source 4), with its answer (R656). -/
def command (d : Dev) (k : RegKey) (v : Word) : Dev :=
  let (code, d) := d.regStore k 4 d.self v
  { d with answer := { code := code } }

/-- A command that sets an action bit and leaves the register's other fields as they are. -/
def actionBit (d : Dev) (k : RegKey) (bit : Nat) : Dev := d.command k (setBits (d.reg k) bit bit 1)

/-! ### Requests that reach registers and counters (R246, R437) -/

/-- The register-space offset of a request. -/
def regOffset (p : Packet) : Nat := localOf p.addr - 0x3F0000000000

/-- R246, R265, R85: a READ or WRITE of a register that has passed its checks; one of a core under copy is held. -/
def accessReg (d : Dev) (p : Packet) : Dev :=
  if d.stale p then d.dropStale p
  else match RegKey.ofOffset (regOffset p) with
    | none => d.served p (List.replicate 64 0)
    | some k =>
      match (coreOf k).filter d.copying with
      | some c => d.hold c (.request p)
      | none =>
        if p.type = PT.write then
          let (code, d) := d.regStore k 0 p.src (BitVec.ofNat 64 (leNat (p.payload.take 8)))
          if code = 0 then d.served p [] else d.refuse p code
        else
          let (code, v, d) := d.regLoad k
          if code = 0 then d.served p (leBytes 8 v.toNat ++ List.replicate 56 0) else d.refuse p code

/-- The core, the counter and the addend that a COUNTER packet names. -/
def counterCore (p : Packet) : Nat := leNat ((p.payload.drop 8).take 1) % 128
def counterNum (p : Packet) : Nat := leNat ((p.payload.drop 6).take 2) % 4096
def counterAdd (p : Packet) : Int := sext 48 (leNat (p.payload.take 6))

/-- R437, R273, R276, R423, R85: a COUNTER applied once: a tag that has an entry is answered from it, a full cache
refuses busy, and a refused update is remembered as a refusal. -/
def applyCounter (d : Dev) (p : Packet) : Dev :=
  let c := counterCore p
  let n := counterNum p
  match d.replyOf p with
  | some r => d.replyAnswer p r
  | none =>
    if d.copying c then d.hold c (.request p)
    else if 4096 ≤ d.gas.replies.length then d.busyRefusal p
    else if !d.inService c then (d.logTarget Code.GAS_ADDR_ERROR (counterAddr p.dst c n) 0).refuse p Code.GAS_ADDR_ERROR
    else
      let code := match d.judge c n (counterAdd p) with
        | .applied => 0
        | .underflow => Code.SYN_UNDERFLOW
        | .overflow => Code.SYN_OVERFLOW
      let d := (d.update c n (counterAdd p) 3 p.src none).enterReply p 0 code
      if code = 0 then (d.incr F.GAS_SERVED_CNT.COUNT 1).answerTo p PT.writeAck [] else d.refuse p code

end Dev

end Sys2Proof.Machine
end

