-- ==== Sys2Proof/Machine/Commands.lean ====
section
/-! DEFINITION. The rows that are a register access of their own. A write row is the write as a management core makes it
(source 4): what its row names takes the row's operands, and the register's other settings keep their values. REGISTER_WRITE
and RC_REGISTER_READ are the access itself, once the path's own checks (R39, R250, R490, R564) have let it through. -/

namespace Sys2Proof.Machine

open Sys2Proof

namespace Dev

/-- The RW fields of a register as they stand: the word to write that changes nothing and acts on nothing. -/
def settings (d : Dev) (k : RegKey) : Word :=
  BitVec.ofNat 64 (assemble (k.name.fields.filter fun f => decide (f.access = .rw)) fun f => getBits (d.reg k) f.hi f.lo)

/-- A command that writes an action bit. -/
def press (d : Dev) (k : RegKey) (f : Fld) : Dev := d.command k (setBits (d.settings k) f.hi f.lo 1)

/-- A command that writes one setting. -/
def setting (d : Dev) (k : RegKey) (f : Fld) (x : Nat) : Dev := d.command k (setBits (d.settings k) f.hi f.lo x)

/-- A command whose write does `act` where nothing refuses or drops it. -/
def commandBy (d : Dev) (k : RegKey) (v : Word) (act : Dev → Dev) : Dev :=
  let (code, d) := d.regRefusal k
  let d := if code ≠ 0 ∨ !d.regServed k then d
    else if d.started && !k.name.info.runtime then d.writeRefused k 4 v
    else keepSetting d (act d) k
  { d with answer := { code := code } }

/-- R649, R282: an offset at which no register stands: the refusal is recorded. -/
def noRegister (d : Dev) (o : Nat) : Dev := d.logTarget Code.GAS_ADDR_ERROR (d.self * 2 ^ 46 + 0x3F0000000000 + o) 0

/-- R591, R649, R656: a write by register-space offset: a spare core's window drops it; where no register stands it is
refused. -/
def storeAt (d : Dev) (o src dev : Nat) (v : Word) : Nat × Dev :=
  match RegKey.ofOffset o with
  | some k => d.regStore k src dev v
  | none => if isSpareOffset o then (0, d) else (Code.GAS_ADDR_ERROR, d.noRegister o)

/-- R591, R649: a read by register-space offset. -/
def loadAt (d : Dev) (o : Nat) : Nat × Word × Dev :=
  match RegKey.ofOffset o with
  | some k => d.regLoad k
  | none => if isSpareOffset o then (0, 0, d) else (Code.GAS_ADDR_ERROR, 0, d.noRegister o)

/-- REGISTER_WRITE. -/
def registerWrite (d : Dev) (src o : Nat) (v : Word) : Dev :=
  let (code, d) := d.storeAt o src d.self v
  { d with answer := { code := code } }

/-- R85: the core under copy that a register at an offset belongs to, with the register. -/
def heldReg (d : Dev) (o : Nat) : Option (RegKey × Nat) :=
  (RegKey.ofOffset o).bind fun k => ((coreOf k).filter d.copying).map fun c => (k, c)

/-- RC_REGISTER_READ: the read returns the fields and clears the RC ones (R8). -/
def registerRead (d : Dev) (o : Nat) : Dev :=
  match d.heldReg o with
  | some (k, c) => d.hold c (.load k 4)
  | none =>
    let (code, v, d) := d.loadAt o
    { d with answer := { code := code, value := v } }

/-- R502: a claim read by a management core. -/
def claimCommand (d : Dev) (t : Nat) : Dev :=
  let (code, v, d) := d.regLoad ⟨.INT_TGT_t_CLAIM, 0, t, 0⟩
  { d with answer := { code := code, value := v } }

/-- A write to a route bank register by its register-space offset; another register is no bank's. -/
def bankWrite (d : Dev) (o : Nat) (v : Word) : Dev :=
  match RegKey.ofOffset o with
  | some k => if [RegName.XFB_PART_b, .XFB_ROUTE_b_d_h, .XFB_EXC_b_n].contains k.name then d.command k v else d
  | none => d

end Dev

/-! ### Registers of any block -/

def execRegisterWrite (source : Fin 5) (offset : Nat) (value : Word) (s : State) : Host.Outcome State Fault Refusal :=
  s.upd fun d => d.registerWrite source offset value

def execRcRegisterRead (offset : Nat) (s : State) : Host.Outcome State Fault Refusal :=
  s.upd fun d => d.registerRead offset

/-! ### Clusters and cores -/

def execCluSwapReq (cluster : Fin 32) (mode lcore : Fin 4) (s : State) : Host.Outcome State Fault Refusal :=
  s.upd fun d => d.command ⟨.CLU_SWAP_CTRL, cluster, 0, 0⟩ (setBits (setBits 1 7 6 mode) 5 4 lcore)

def execCluSwapCancel (cluster : Fin 32) (s : State) : Host.Outcome State Fault Refusal :=
  s.upd fun d => d.press ⟨.CLU_SWAP_CTRL, cluster, 0, 0⟩ F.CLU_SWAP_CTRL.CANCEL

def execThreadStart (core : Fin 128) (thread : Fin 16) (s : State) : Host.Outcome State Fault Refusal :=
  s.upd fun d => d.press ⟨.CORE_THREAD_n_CTRL, core, thread, 0⟩ F.CORE_THREAD_n_CTRL.START

def execThreadHalt (core : Fin 128) (thread : Fin 16) (s : State) : Host.Outcome State Fault Refusal :=
  s.upd fun d => d.press ⟨.CORE_THREAD_n_CTRL, core, thread, 0⟩ F.CORE_THREAD_n_CTRL.HALT

def execThreadPcWrite (core : Fin 128) (thread : Fin 16) (value : Word) (s : State) : Host.Outcome State Fault Refusal :=
  s.upd fun d => d.command ⟨.CORE_THREAD_n_PC, core, thread, 0⟩ value

def execThreadTWrite (core : Fin 128) (thread reg : Fin 16) (value : Word) (s : State) : Host.Outcome State Fault Refusal :=
  s.upd fun d => d.command ⟨.CORE_THREAD_n_T_m, core, thread, reg⟩ value

def execCoreClearFault (core : Fin 128) (s : State) : Host.Outcome State Fault Refusal :=
  s.upd fun d => d.press ⟨.CORE_CTRL, core, 0, 0⟩ F.CORE_CTRL.CLEAR_FAULT

def execCoreResume (core : Fin 128) (s : State) : Host.Outcome State Fault Refusal :=
  s.upd fun d => d.press ⟨.CORE_CTRL, core, 0, 0⟩ F.CORE_CTRL.RESUME

def execCoreForceStop (core : Fin 128) (s : State) : Host.Outcome State Fault Refusal :=
  s.upd fun d => d.press ⟨.CORE_CTRL, core, 0, 0⟩ F.CORE_CTRL.FORCE_STOP

def execPreemptReq (core : Fin 128) (s : State) : Host.Outcome State Fault Refusal :=
  s.upd fun d => d.press ⟨.CORE_PREEMPT_CTRL, core, 0, 0⟩ F.CORE_PREEMPT_CTRL.REQ

def execPreemptCancel (core : Fin 128) (s : State) : Host.Outcome State Fault Refusal :=
  s.upd fun d => d.press ⟨.CORE_PREEMPT_CTRL, core, 0, 0⟩ F.CORE_PREEMPT_CTRL.CANCEL

def execCoreNumCtrlWrite (core : Fin 128) (value : Word) (s : State) : Host.Outcome State Fault Refusal :=
  s.upd fun d => d.command ⟨.CORE_NUM_CTRL, core, 0, 0⟩ value

def execCoreSrSeedWrite (core : Fin 128) (value : Word) (s : State) : Host.Outcome State Fault Refusal :=
  s.upd fun d => d.command ⟨.CORE_SR_SEED, core, 0, 0⟩ value

def execSpecClear (core : Fin 128) (channel : Fin 4) (s : State) : Host.Outcome State Fault Refusal :=
  s.upd fun d => d.press ⟨.CORE_SPEC_k_CTRL, core, channel, 0⟩ F.CORE_SPEC_k_CTRL.CLEAR

def execSpecCtrlWrite (core : Fin 128) (channel : Fin 4) (value : Word) (s : State) : Host.Outcome State Fault Refusal :=
  s.upd fun d => d.command ⟨.CORE_SPEC_k_CTRL, core, channel, 0⟩ value

def execSpecWindowWrite (core : Fin 128) (channel : Fin 4) (hi : Bool) (value : Word) (s : State) :
    Host.Outcome State Fault Refusal :=
  s.upd fun d => d.command ⟨if hi then .CORE_SPEC_k_HI else .CORE_SPEC_k_LO, core, channel, 0⟩ value

def execSynCntWrite (core : Fin 128) (n : Fin 4096) (value : Word) (s : State) : Host.Outcome State Fault Refusal :=
  s.upd fun d => d.command ⟨.SYN_CNT_n, core, n, 0⟩ value

def execSynCntAdd (core : Fin 128) (n : Fin 4096) (value : Word) (s : State) : Host.Outcome State Fault Refusal :=
  s.upd fun d => d.command ⟨.SYN_CNT_n_ADD, core, n, 0⟩ value

/-! ### HBM and the memory-side caches -/

def execMscFlush (x : Fin 4) (s : State) : Host.Outcome State Fault Refusal :=
  s.upd fun d => d.press ⟨.MSC_CTRL, x, 0, 0⟩ F.MSC_CTRL.FLUSH

def execMscUnkeep (x : Fin 4) (s : State) : Host.Outcome State Fault Refusal :=
  s.upd fun d => d.press ⟨.MSC_CTRL, x, 0, 0⟩ F.MSC_CTRL.UNKEEP

def execHbmMapoutReq (x : Fin 4) (pc : Fin 1024) (s : State) : Host.Outcome State Fault Refusal :=
  s.upd fun d => d.command ⟨.HBM_MAPOUT_CTRL, x, 0, 0⟩ (setBits 1 25 16 pc)

/-! ### The hall-wide memory space -/

def execRegionBaseWrite (n : Fin 4096) (value : Word) (s : State) : Host.Outcome State Fault Refusal :=
  s.upd fun d => d.command ⟨.GAS_REGION_n_BASE, 0, n, 0⟩ value

def execRegionLimitWrite (n : Fin 4096) (value : Word) (s : State) : Host.Outcome State Fault Refusal :=
  s.upd fun d => d.command ⟨.GAS_REGION_n_LIMIT, 0, n, 0⟩ value

def execRegionAttrWrite (n : Fin 4096) (value : Word) (s : State) : Host.Outcome State Fault Refusal :=
  s.upd fun d => d.command ⟨.GAS_REGION_n_ATTR, 0, n, 0⟩ value

def execRegionFenceReq (s : State) : Host.Outcome State Fault Refusal :=
  s.upd fun d => d.press ⟨.GAS_REGION_FENCE, 0, 0, 0⟩ F.GAS_REGION_FENCE.REQ

def execRegionFenceDone (s : State) : Host.Outcome State Fault Refusal := s.upd fun d => d.regionFenced

def execReplyPurge (all : Bool) (device : Fin 262144) (s : State) : Host.Outcome State Fault Refusal :=
  s.upd fun d => d.command ⟨.GAS_REPLY_PURGE, 0, 0, 0⟩
    (setBits (setBits (setBits 0 31 31 1) 24 24 (if all then 1 else 0)) 17 0 device)

def execQueryReq (n : Fin 32) (s : State) : Host.Outcome State Fault Refusal :=
  s.upd fun d => d.command ⟨.GAS_QUERY_CTRL, 0, 0, 0⟩ (setBits 1 12 8 n)

def execQueryCancel (n : Fin 32) (s : State) : Host.Outcome State Fault Refusal :=
  s.upd fun d => d.command ⟨.GAS_QUERY_CTRL, 0, 0, 0⟩ (setBits 2 12 8 n)

def execUnsettledTagWrite (n : Fin 32) (value : Word) (s : State) : Host.Outcome State Fault Refusal :=
  s.upd fun d => d.command ⟨.GAS_UNSETTLED_n_TAG, 0, n, 0⟩ value

def execUnsettledEpochWrite (n : Fin 32) (value : Word) (s : State) : Host.Outcome State Fault Refusal :=
  s.upd fun d => d.command ⟨.GAS_UNSETTLED_n_EPOCH, 0, n, 0⟩ value

def execUnsettledSeqWrite (n : Fin 32) (value : Word) (s : State) : Host.Outcome State Fault Refusal :=
  s.upd fun d => d.command ⟨.GAS_UNSETTLED_n_SEQ, 0, n, 0⟩ value

def execUnsettledTimeWrite (n : Fin 32) (value : Word) (s : State) : Host.Outcome State Fault Refusal :=
  s.upd fun d => d.command ⟨.GAS_UNSETTLED_n_TIME, 0, n, 0⟩ value

/-! ### The fabric -/

def execCoordOverride (dims index : Fin 262144) (s : State) : Host.Outcome State Fault Refusal :=
  s.upd fun d => d.command ⟨.XFB_COORD_OVERRIDE, 0, 0, 0⟩ (setBits (setBits (setBits 0 63 63 1) 35 18 dims) 17 0 index)

def execCoordOverrideRelease (s : State) : Host.Outcome State Fault Refusal :=
  s.upd fun d => d.press ⟨.XFB_COORD_OVERRIDE, 0, 0, 0⟩ F.XFB_COORD_OVERRIDE.RELEASE

def execTransitSetupReq (slot : Fin 256) (s : State) (nextOwn : Bool := true) :
    Host.Outcome State Fault Refusal :=
  let k : RegKey := ⟨.XFB_TRANSIT_n_CTRL, 0, slot, 0⟩
  s.upd fun d => d.commandBy k (setBits (d.settings k) 0 0 1) fun d => d.transitSetupReq slot nextOwn

def execTeardown (slot : Fin 256) (s : State) : Host.Outcome State Fault Refusal :=
  s.upd fun d => d.press ⟨.XFB_TRANSIT_n_CTRL, 0, slot, 0⟩ F.XFB_TRANSIT_n_CTRL.TEARDOWN

def execTransitPathWrite (slot : Fin 256) (value : Word) (s : State) : Host.Outcome State Fault Refusal :=
  s.upd fun d => d.command ⟨.XFB_TRANSIT_n_PATH, 0, slot, 0⟩ value

def execDrain (s : State) : Host.Outcome State Fault Refusal :=
  s.upd fun d => d.press ⟨.XFB_TABLE_CTRL, 0, 0, 0⟩ F.XFB_TABLE_CTRL.DRAIN

def execTableSwap (s : State) : Host.Outcome State Fault Refusal :=
  s.upd fun d => d.press ⟨.XFB_TABLE_CTRL, 0, 0, 0⟩ F.XFB_TABLE_CTRL.SWAP

def execTableResume (s : State) : Host.Outcome State Fault Refusal :=
  s.upd fun d => d.press ⟨.XFB_TABLE_CTRL, 0, 0, 0⟩ F.XFB_TABLE_CTRL.RESUME

def execVcWeightWrite (value : Word) (s : State) : Host.Outcome State Fault Refusal :=
  s.upd fun d => d.command ⟨.XFB_VC_WEIGHT, 0, 0, 0⟩ value

def execRouteBankWrite (offset : Nat) (value : Word) (s : State) : Host.Outcome State Fault Refusal :=
  s.upd fun d => d.bankWrite offset value

/-! ### Optical ports -/

def execPortSwap (die : Fin 6) (port : Fin 10) (lane : Fin 16) (s : State) : Host.Outcome State Fault Refusal :=
  s.upd fun d =>
    let k : RegKey := ⟨.OPT_PORT_n_CTRL, die, port, 0⟩
    d.onPort die port fun d => d.command k (setBits (setBits (d.settings k) 11 8 lane) 1 1 1)

def execRecal (die : Fin 6) (port : Fin 10) (lane : Fin 16) (s : State) : Host.Outcome State Fault Refusal :=
  s.upd fun d =>
    let k : RegKey := ⟨.OPT_PORT_n_CTRL, die, port, 0⟩
    d.onPort die port fun d => d.command k (setBits (setBits (d.settings k) 11 8 lane) 2 2 1)

def execPortDownWrite (die : Fin 6) (port : Fin 10) (value : Word) (s : State) : Host.Outcome State Fault Refusal :=
  s.upd fun d => d.onPort die port fun d => d.command ⟨.OPT_PORT_n_CTRL, die, port, 0⟩ value

/-! ### Collectives -/

def execColGroupValidWrite (slot : Fin 256) (value : Word) (s : State) (errs : List MemErr := []) :
    Host.Outcome State Fault Refusal :=
  s.upd fun d => d.commandBy ⟨.COL_GROUP_n_CFG, 0, slot, 0⟩ value fun d => d.writeGroupCfg slot value errs

def execColConfigWrite (slot : Fin 256) (reg : Fin 4) (value : Word) (s : State) : Host.Outcome State Fault Refusal :=
  s.upd fun d =>
    let name : RegName := if reg = 0 then .COL_GROUP_n_BOX else if reg = 1 then .COL_GROUP_n_LIST
      else if reg = 2 then .COL_GROUP_n_ROLE else .COL_GROUP_n_RXBUF
    d.command ⟨name, 0, slot, 0⟩ value

def execCollAbort (slot : Fin 256) (s : State) : Host.Outcome State Fault Refusal :=
  s.upd fun d => d.press ⟨.COL_GROUP_n_CTRL, 0, slot, 0⟩ F.COL_GROUP_n_CTRL.ABORT

/-! ### Time, package links and interrupts -/

def execMeridianArm (s : State) : Host.Outcome State Fault Refusal :=
  s.upd fun d => d.press ⟨.SYN_MERIDIAN_CTRL, 0, 0, 0⟩ F.SYN_MERIDIAN_CTRL.ARM

def execMeridianCancel (s : State) : Host.Outcome State Fault Refusal :=
  s.upd fun d => d.press ⟨.SYN_MERIDIAN_CTRL, 0, 0, 0⟩ F.SYN_MERIDIAN_CTRL.CANCEL

def execMeridianTickWrite (value : Word) (s : State) : Host.Outcome State Fault Refusal :=
  s.upd fun d => d.command ⟨.SYN_MERIDIAN_TICK, 0, 0, 0⟩ value

def execLinkRetrainWrite (link : Fin 31) (s : State) : Host.Outcome State Fault Refusal :=
  s.upd fun d => d.press ⟨.DLK_LINK_n_CTRL, 0, link, 0⟩ F.DLK_LINK_n_CTRL.RETRAIN

def execLinkDownWrite (link : Fin 31) (down : Bool) (s : State) : Host.Outcome State Fault Refusal :=
  s.upd fun d => d.setting ⟨.DLK_LINK_n_CTRL, 0, link, 0⟩ F.DLK_LINK_n_CTRL.DOWN (if down then 1 else 0)

def execHlkDownWrite (down : Bool) (s : State) : Host.Outcome State Fault Refusal :=
  s.upd fun d => d.setting ⟨.HLK_CTRL, 0, 0, 0⟩ F.HLK_CTRL.DOWN (if down then 1 else 0)

def execIntPendSet (k : Fin 16) (value : Word) (s : State) : Host.Outcome State Fault Refusal :=
  s.upd fun d => d.command ⟨.INT_PEND_SET_k, 0, k, 0⟩ value

def execIntPendClr (k : Fin 16) (value : Word) (s : State) : Host.Outcome State Fault Refusal :=
  s.upd fun d => d.command ⟨.INT_PEND_CLR_k, 0, k, 0⟩ value

def execIntMaskSet (k : Fin 16) (value : Word) (s : State) : Host.Outcome State Fault Refusal :=
  s.upd fun d => d.command ⟨.INT_MASK_SET_k, 0, k, 0⟩ value

def execIntMaskClr (k : Fin 16) (value : Word) (s : State) : Host.Outcome State Fault Refusal :=
  s.upd fun d => d.command ⟨.INT_MASK_CLR_k, 0, k, 0⟩ value

def execIntClaim (target : Fin 12) (s : State) : Host.Outcome State Fault Refusal := s.upd fun d => d.claimCommand target

def execIntEoiWrite (target : Fin 12) (source : Fin 1024) (s : State) : Host.Outcome State Fault Refusal :=
  s.upd fun d => d.command ⟨.INT_TGT_t_EOI, 0, target, 0⟩ (BitVec.ofNat 64 source)

def execIntSrcCfgWrite (source : Fin 1024) (value : Word) (s : State) : Host.Outcome State Fault Refusal :=
  s.upd fun d => d.command ⟨.INT_SRC_n_CFG, 0, source, 0⟩ value

/-! ### Start-up and retained state -/

def execBootCold (s : State) : Host.Outcome State Fault Refusal :=
  s.upd fun d => d.press ⟨.BOOT_CTRL, 0, 0, 0⟩ F.BOOT_CTRL.COLD

def execBootWarm (s : State) : Host.Outcome State Fault Refusal :=
  s.upd fun d => d.press ⟨.BOOT_CTRL, 0, 0, 0⟩ F.BOOT_CTRL.WARM

def execDieResetReq (die : Fin 32) (s : State) : Host.Outcome State Fault Refusal :=
  s.upd fun d => d.command ⟨.BOOT_DIE_RESET, 0, 0, 0⟩ (setBits (setBits 0 8 8 1) 4 0 die)

def execWatchdogKick (s : State) : Host.Outcome State Fault Refusal :=
  s.upd fun d => d.press ⟨.BOOT_WATCHDOG, 0, 0, 0⟩ F.BOOT_WATCHDOG.KICK

def execWatchdogPeriodWrite (periodMs : Fin 65536) (s : State) : Host.Outcome State Fault Refusal :=
  s.upd fun d => d.setting ⟨.BOOT_WATCHDOG, 0, 0, 0⟩ F.BOOT_WATCHDOG.PERIOD_MS periodMs

def execFwTrial (image : Option FwImage) (s : State) : Host.Outcome State Fault Refusal :=
  s.upd fun d => d.commandBy ⟨.BOOT_FW_CTRL, 0, 0, 0⟩ 1 fun d => d.fwTrial image

def execFwCommit (s : State) : Host.Outcome State Fault Refusal :=
  s.upd fun d => d.press ⟨.BOOT_FW_CTRL, 0, 0, 0⟩ F.BOOT_FW_CTRL.COMMIT

def execFwHandover (image : Option FwImage) (s : State) : Host.Outcome State Fault Refusal :=
  s.upd fun d => d.commandBy ⟨.BOOT_FW_CTRL, 0, 0, 0⟩ 4 fun d => d.fwHandover image

def execFwResumed (s : State) : Host.Outcome State Fault Refusal :=
  s.upd fun d => d.press ⟨.BOOT_FW_CTRL, 0, 0, 0⟩ F.BOOT_FW_CTRL.RESUMED

def execEphCompact (s : State) : Host.Outcome State Fault Refusal :=
  s.upd fun d => d.press ⟨.EPH_CTRL, 0, 0, 0⟩ F.EPH_CTRL.COMPACT

def execEphFlush (s : State) : Host.Outcome State Fault Refusal :=
  s.upd fun d => d.press ⟨.EPH_CTRL, 0, 0, 0⟩ F.EPH_CTRL.FLUSH

/-! ### Power and clocks -/

def execCapWWrite (watts : Fin 65536) (s : State) : Host.Outcome State Fault Refusal :=
  s.upd fun d => d.setting ⟨.PWR_CTRL, 0, 0, 0⟩ F.PWR_CTRL.CAP_W watts

def execPwrTargetP0 (s : State) : Host.Outcome State Fault Refusal :=
  s.upd fun d => d.setting ⟨.PWR_CTRL, 0, 0, 0⟩ F.PWR_CTRL.TARGET 0

def execPwrTargetP2 (s : State) : Host.Outcome State Fault Refusal :=
  s.upd fun d => d.setting ⟨.PWR_CTRL, 0, 0, 0⟩ F.PWR_CTRL.TARGET 2

def execPwrTargetP3 (s : State) : Host.Outcome State Fault Refusal :=
  s.upd fun d => d.setting ⟨.PWR_CTRL, 0, 0, 0⟩ F.PWR_CTRL.TARGET 3

def execIslandEnWrite (island : Fin 44) (en : Bool) (s : State) : Host.Outcome State Fault Refusal :=
  s.upd fun d => d.setting ⟨.CLK_ISLAND_n_CTRL, 0, island, 0⟩ F.CLK_ISLAND_n_CTRL.EN (if en then 1 else 0)

def execIslandOpWrite (island : Fin 44) (op : Fin 8) (s : State) : Host.Outcome State Fault Refusal :=
  s.upd fun d => d.setting ⟨.CLK_ISLAND_n_CTRL, 0, island, 0⟩ F.CLK_ISLAND_n_CTRL.OP op

/-! ### The logbook, security and debug -/

def execLogHbmEnWrite (value : Word) (s : State) : Host.Outcome State Fault Refusal :=
  s.upd fun d => d.command ⟨.LOG_CTRL, 0, 0, 0⟩ value

/-- R561: the path that writes REQ stands in the report, so the row names it. -/
def execAttestReq (source : Fin 5) (s : State) : Host.Outcome State Fault Refusal :=
  s.upd fun d => d.commandBy ⟨.SEC_ATTEST_CTRL, 0, 0, 0⟩ 1 fun d => d.attestReq source

def execSecNonceWrite (k : Fin 4) (value : Word) (s : State) : Host.Outcome State Fault Refusal :=
  s.upd fun d => d.command ⟨.SEC_NONCE_k, 0, k, 0⟩ value

def execDbgSubmit (s : State) : Host.Outcome State Fault Refusal :=
  s.upd fun d => d.press ⟨.DBG_CTRL, 0, 0, 0⟩ F.DBG_CTRL.SUBMIT

def execDbgExit (s : State) : Host.Outcome State Fault Refusal :=
  s.upd fun d => d.press ⟨.DBG_CTRL, 0, 0, 0⟩ F.DBG_CTRL.EXIT

def execDbgRefresh (s : State) : Host.Outcome State Fault Refusal :=
  s.upd fun d => d.press ⟨.DBG_CTRL, 0, 0, 0⟩ F.DBG_CTRL.REFRESH

def execMcoreHalt (m : Fin 4) (s : State) : Host.Outcome State Fault Refusal :=
  s.upd fun d => d.press ⟨.DBG_MCORE_m_CTRL, 0, m, 0⟩ F.DBG_MCORE_m_CTRL.HALT

def execMcoreResume (m : Fin 4) (s : State) : Host.Outcome State Fault Refusal :=
  s.upd fun d => d.press ⟨.DBG_MCORE_m_CTRL, 0, m, 0⟩ F.DBG_MCORE_m_CTRL.RESUME

/-! ### Occultation, health and checks -/

def execSafeOccultUnit (unit : Fin 65536) (s : State) : Host.Outcome State Fault Refusal :=
  s.upd fun d => d.command ⟨.SAFE_OCCULT_CTRL, 0, 0, 0⟩ (setBits (setBits 0 63 63 1) 33 18 unit)

def execSafeLiftUnit (unit : Fin 65536) (s : State) : Host.Outcome State Fault Refusal :=
  s.upd fun d => d.command ⟨.SAFE_OCCULT_CTRL, 0, 0, 0⟩ (setBits (setBits (setBits 0 63 63 1) 61 60 1) 33 18 unit)

def execSafeDeclareLost (device : Fin 262144) (s : State) : Host.Outcome State Fault Refusal :=
  s.upd fun d => d.command ⟨.SAFE_OCCULT_CTRL, 0, 0, 0⟩ (setBits (setBits (setBits 0 63 63 1) 61 60 2) 17 0 device)

def execSafeAccuse (suspect : Fin 262144) (unit : Fin 65536) (s : State) : Host.Outcome State Fault Refusal :=
  s.upd fun d => d.command ⟨.SAFE_ACCUSE, 0, 0, 0⟩ (setBits (setBits (setBits 0 63 63 1) 33 18 unit) 17 0 suspect)

def execHealthClear (unit : Fin 2048) (s : State) : Host.Outcome State Fault Refusal :=
  s.upd fun d => d.press ⟨.SAFE_HEALTH_u, 0, unit, 0⟩ F.SAFE_HEALTH_u.CLEAR

def execFirstLightReq (form : Fin 4) (scope : Fin 256) (s : State) : Host.Outcome State Fault Refusal :=
  s.upd fun d => d.command ⟨.SAFE_FL_CTRL, 0, 0, 0⟩ (setBits (setBits (setBits 0 63 63 1) 9 8 form) 7 0 scope)

def execPlateStart (s : State) : Host.Outcome State Fault Refusal :=
  s.upd fun d => d.press ⟨.SAFE_PLATE_CTRL, 0, 0, 0⟩ F.SAFE_PLATE_CTRL.START

def execPlateReq (s : State) : Host.Outcome State Fault Refusal :=
  s.upd fun d => d.press ⟨.SAFE_PLATE_CTRL, 0, 0, 0⟩ F.SAFE_PLATE_CTRL.REQ

end Sys2Proof.Machine
end

