-- ==== Sys2Proof/Machine/Target.lean ====
section
/-! DEFINITION. The packets of the hall-wide memory space (chapter 07): requests that arrive at their target (R244 to R256,
R265 to R276, R280, R437), replies that reach their requester (R257 to R264, R275 to R277), and the timeouts of requests,
releases, queries and reply-cache entries. -/

namespace Sys2Proof.Machine

open Sys2Proof

namespace Dev

/-! ### Requests at their target -/

/-- A packet of a type arrives at the device that it names. -/
def comesIn (d : Dev) (p : Packet) (type : Nat) : Bool := decide (p.type = type) && decide (p.dst = d.self)

/-- R282: a refusal of the target, written to its logbook. -/
def turnAway (d : Dev) (p : Packet) (code : Nat) : Dev := (d.logTarget code p.addr 0).refuse p code

/-- R311, R268, R266, R265: a request arrives: an occulted device takes none, another partition's and one without time
alignment are refused, and one that is too old is discarded. -/
def request (d : Dev) (p : Packet) (serve : Dev → Dev) : Dev :=
  let d := d.consume p
  if d.occulted then d
  else if p.partition ≠ d.partition then d.turnAway p Code.GAS_PARTITION
  else if d.unaligned p then d.turnAway p Code.GAS_TIME_UNALIGNED
  else if d.stale p then d.dropStale p
  else serve d

/-- R250: a READ, a WRITE or a DMA packet that passes its checks is served. -/
def serveAccess (d : Dev) (p : Packet) (errs : List MemErr) : Dev :=
  let (code, d) := d.checkAccess p
  if code ≠ 0 then d.refuse p code
  else if inRegSpace (localOf p.addr) then d.accessReg p
  else d.applyMem p errs

/-- R274: an ATOMIC whose tag has an entry is answered from it; another one is checked and applied. -/
def serveAtomic (d : Dev) (p : Packet) (errs : List MemErr) : Dev :=
  let d := d.sweepReplies
  match d.replyOf p with
  | some r => d.replyAnswer p r
  | none =>
    if d.tagHeld p then d.holdAccess (.packet p)
    else
      let (code, d) := d.checkAccess p
      if code ≠ 0 then d.refuse p code else d.applyMem p errs

/-- R273, R275, R279, R659: a RELEASE is acknowledged, whether its tag is in the cache or not. -/
def releaseIn (d : Dev) (p : Packet) : Dev :=
  let d := d.consume p
  if d.occulted then d
  else if p.partition ≠ d.partition then d.turnAway p Code.GAS_PARTITION
  else
    let d := match d.replyOf p with
      | some r => d.modReply r fun x => { x with released := true }
      | none => d
    d.sweepReplies.answerTo p PT.releaseAck []

/-- R280, R659: a QUERY: only a target in service and ALIGNED answers. -/
def queryIn (d : Dev) (p : Packet) : Dev :=
  let d := d.consume p
  if !d.started || d.occulted || !d.on F.SYN_TIME_STAT.ALIGNED then d
  else
    let answer (d : Dev) (value ans : Nat) : Dev :=
      d.send
        { d.packet PT.queryAnswer 0 p.src with
          addr := p.addr, total := p.total, core := p.core, epoch := p.epoch, aop := p.aop, w64 := p.w64, length := 16
          payload := leBytes 8 value ++ leBytes 1 ans ++ List.replicate 7 0 }
    if p.issueTime < d.gas.zeroed then answer d 0 5
    else match d.replyOf p with
      | none => answer d 0 4
      | some r =>
        let d := (d.modReply r fun x => { x with released := true }).sweepReplies
        if r.refusal = 0 then answer d r.value 3 else answer d 0 4

/-! ### Replies at their requester -/

/-- The request of this device that a reply names, among those of some kinds. -/
def reqOf (d : Dev) (p : Packet) (kinds : List ReqKind) : Option Req :=
  d.reqs.find? fun r => kinds.contains r.kind && decide (r.pkt.dst = p.src) && decide (r.pkt.msg = p.msg)
    && decide (r.pkt.offset = p.offset)

/-- R311, R328: a reply arrives: what it says of congestion is taken, and the request that it names is answered. One
that names no outstanding request is discarded. -/
def reply (d : Dev) (p : Packet) (kinds : List ReqKind) (take : Dev → Req → Dev) : Dev :=
  let d := d.consume p
  if d.occulted then d
  else
    let d := d.congestionOf p
    match d.reqOf p kinds with
    | some r => take d r
    | none => d

/-- R126, R144, R652: the reply of a thread that has switched has been written: it may run again, or halts where HALT
waits, and a START behind that HALT acts. -/
def unswitch (d : Dev) (c t : Nat) : Dev :=
  let d := d.modThread c t fun th =>
    let st : ThreadSt := if th.haltReq then .halted else .running
    if th.st = .switched then { th with st := st, haltReq := false }
    else if th.st = .stopped ∧ th.prev = .switched then { th with prev := st, haltReq := false }
    else th
  d.heldStart c t

/-- R257: a line reply is written to the store, and the GLD is complete. -/
def gldDone (d : Dev) (r : Req) (bytes : List Byte) : Dev :=
  ((((d.dropReq r).wrStore r.core r.saddr (bytes ++ List.replicate 64 0 |>.take 64)).gasDone r.core r.seq).unswitch
    r.core r.thread).kick r.core

/-- R275: the release of a request's tag, on VC_6. -/
def sendRelease (d : Dev) (r : Req) : Dev :=
  let (m, d) := d.takeMsg
  d.track { r with
    kind := .release, pkt := { r.pkt with type := PT.release, vc := 6, length := 0, payload := [], msg := m, attempt := 0 } }

/-- R260, R270, R275: the reply to a GATOM, which its destination sequence number names: the old value is written
where RET asks for it, and a release is sent. -/
def gatomDone (d : Dev) (q : Packet) (r : Req) (value : Nat) : Dev :=
  let p := r.pkt
  if p.dseq ≠ q.dseq then d else
  let d := d.dropReq r
  let d := if p.ret then d.setTreg r.core r.thread r.tdst (if p.w64 then value % 2 ^ 64 else value % 2 ^ 32) else d
  let d := (d.gasDone r.core r.seq).sendRelease r
  let d := if p.ret ∨ p.aop = 4 then d.unswitch r.core r.thread else d
  d.kick r.core

/-- R260, R431, R437: a write acknowledgement retires the GST or the SIGNAL that its sequence number names. -/
def writeAcked (d : Dev) (p : Packet) (r : Req) : Dev :=
  if r.pkt.dseq ≠ p.dseq then d
  else if r.kind = .signal then ((d.dropReq r).endSignal r.core r.seq 2).sendRelease r
  else ((d.dropReq r).gasDone r.core r.seq).kick r.core

/-- R262: a DMA data packet: of a remote source of a DMA, or of a read of an ATTN. -/
def dmaDataIn (d : Dev) (p : Packet) (r : Req) : Dev :=
  let d := d.dropReq r
  if r.kind = .dmaRead then d.dmaArrive r.core r.queue r.seq r.pkt.offset p.payload
  else d.attnArrive r.core r.pkt.addr p.payload

/-- R262, R156, R413: a DMA acknowledgement: of a DMA, of an append of an ATTN, or of a collective. -/
def dmaAckIn (d : Dev) (p : Packet) (r : Req) : Dev :=
  if r.pkt.dseq ≠ p.dseq then d
  else match r.kind with
    | .dmaWrite => (d.dropReq r).dmaAcked r.core r.queue r.seq r.pkt.offset r.pkt.payload.length
    | .attnAppend => (d.dropReq r).attnTokens r.core
    | _ => d.collAcked r

/-- R276: a busy refusal: the request is sent again 2 µs later. -/
def busyIn (d : Dev) (p : Packet) (r : Req) : Dev :=
  let r' := { r with busy := if r.busy.contains p.attempt then r.busy else r.busy ++ [p.attempt]
                     busyWait := r.busyWait || decide (p.attempt = r.pkt.attempt) }
  { d with reqs := d.reqs.map fun x => if x = r then r' else x }

/-- R280: a query's answer sets the state of the entry whose query is pending. -/
def queryAnswerIn (d : Dev) (p : Packet) : Dev :=
  let d := d.consume p
  let ans := leNat ((p.payload.drop 8).take 1)
  let entry := lowestBelow (fun n => decide (d.unsettled n = 2) && decide (d.gf F.GAS_UNSETTLED_n_TAG.TARGET 0 n = p.src)
    && decide (d.gf F.GAS_UNSETTLED_n_TAG.CORE 0 n = p.core) && decide (d.gf F.GAS_UNSETTLED_n_EPOCH.EPOCH 0 n = p.epoch)
    && decide (d.gf F.GAS_UNSETTLED_n_SEQ.SEQ 0 n = p.total)) 32
  match entry with
  | some n =>
    if 3 ≤ ans ∧ ans ≤ 5 then
      (d.sf F.GAS_UNSETTLED_n_TAG.STATE ans 0 n).sf F.GAS_UNSETTLED_n_VALUE.VALUE
        (if ans = 3 then leNat (p.payload.take 8) else 0) 0 n
    else d
  | none => d

/-! ### Timeouts -/

/-- The request of some kinds with a message number and an offset, once it has left its injection queue (R295). -/
def timed (d : Dev) (msg offset : Nat) (kinds : List ReqKind) : Option Req :=
  (d.reqs.find? fun r => kinds.contains r.kind && decide (r.pkt.msg = msg) && decide (r.pkt.offset = offset)).filter
    fun r => !d.held.contains r.pkt

/-- R276: every attempt of a request has received a busy refusal. -/
def allBusy (r : Req) : Bool := (List.range (r.pkt.attempt + 1)).all fun n => r.busy.contains n

/-- R264, R267, R276, R277: no reply after TIMEOUT_US: the request is sent again, or its attempts are exhausted. -/
def reqTimeout (d : Dev) (r : Req) : Dev :=
  if r.pkt.attempt < r.retries then d.resend r (r.pkt.attempt + 1)
  else match r.kind with
    | .gatom | .signal =>
      d.endReq r (if allBusy r then Code.GAS_REPLY_FULL else Code.GAS_OUTCOME_UNKNOWN)
    | _ => d.endReq r Code.GAS_TIMEOUT

def timeoutOf (d : Dev) (msg offset : Nat) (kinds : List ReqKind) : Dev :=
  match d.timed msg offset kinds with
  | some r => d.reqTimeout r
  | none => d

/-- R276: the 2 µs of a busy refusal end: the request is sent again within its attempt. -/
def busyResend (d : Dev) (msg : Nat) : Dev :=
  match (d.timed msg 0 [.gatom, .signal]).filter fun r => r.busyWait with
  | some r => d.resend r r.pkt.attempt
  | none => d

/-- R275: a release without its acknowledgement is sent again. -/
def releaseAgain (d : Dev) (msg : Nat) : Dev :=
  match d.timed msg 0 [.release] with
  | some r => (d.dropReq r).track r
  | none => d

/-- R280: a query without an answer is sent again. -/
def queryAgain (d : Dev) (n : Nat) : Dev := if d.unsettled n = 2 then d.sendQuery n else d

end Dev

/-! ### The commands -/

def execRead (p : Packet) (errs : List MemErr) (s : State) : Host.Outcome State Fault Refusal :=
  s.upd fun d => if d.comesIn p PT.read then d.request p fun d => d.serveAccess p errs else d

def execReadData (p : Packet) (s : State) : Host.Outcome State Fault Refusal :=
  s.upd fun d => if d.comesIn p PT.readData then d.reply p [.gld] fun d r => d.gldDone r p.payload else d

def execWrite (p : Packet) (errs : List MemErr) (s : State) : Host.Outcome State Fault Refusal :=
  s.upd fun d => if d.comesIn p PT.write then d.request p fun d => d.serveAccess p errs else d

def execWriteAck (p : Packet) (s : State) : Host.Outcome State Fault Refusal :=
  s.upd fun d => if d.comesIn p PT.writeAck then d.reply p [.gst, .signal] fun d r => d.writeAcked p r else d

def execAtomic (p : Packet) (errs : List MemErr) (s : State) : Host.Outcome State Fault Refusal :=
  s.upd fun d => if d.comesIn p PT.atomic then d.request p fun d => d.serveAtomic p errs else d

def execAtomicReply (p : Packet) (s : State) : Host.Outcome State Fault Refusal :=
  s.upd fun d =>
    if d.comesIn p PT.atomicReply then d.reply p [.gatom] fun d r => d.gatomDone p r (leNat (p.payload.take 8)) else d

def execRelease (p : Packet) (s : State) : Host.Outcome State Fault Refusal :=
  s.upd fun d => if d.comesIn p PT.release then d.releaseIn p else d

def execReleaseAck (p : Packet) (s : State) : Host.Outcome State Fault Refusal :=
  s.upd fun d => if d.comesIn p PT.releaseAck then d.reply p [.release] fun d r => d.dropReq r else d

def execBusy (p : Packet) (s : State) : Host.Outcome State Fault Refusal :=
  s.upd fun d => if d.comesIn p PT.busy then d.reply p [.gatom, .signal] fun d r => d.busyIn p r else d

def execRefusal (p : Packet) (s : State) : Host.Outcome State Fault Refusal :=
  s.upd fun d =>
    if d.comesIn p PT.refusal then
      d.reply p [.gld, .gst, .gatom, .signal, .dmaRead, .dmaWrite, .attnMap, .attnPage, .attnAppend] fun d r => d.endReq r p.code
    else d

def execDmaRead (p : Packet) (errs : List MemErr) (s : State) : Host.Outcome State Fault Refusal :=
  s.upd fun d => if d.comesIn p PT.dmaRead then d.request p fun d => d.serveAccess p errs else d

def execDmaData (p : Packet) (s : State) : Host.Outcome State Fault Refusal :=
  s.upd fun d =>
    if d.comesIn p PT.dmaData then d.reply p [.dmaRead, .attnMap, .attnPage] fun d r => d.dmaDataIn p r else d

def execDmaWrite (p : Packet) (errs : List MemErr) (s : State) : Host.Outcome State Fault Refusal :=
  s.upd fun d => if d.comesIn p PT.dmaWrite then d.request p fun d => d.serveAccess p errs else d

def execDmaAck (p : Packet) (s : State) : Host.Outcome State Fault Refusal :=
  s.upd fun d =>
    if d.comesIn p PT.dmaAck then d.reply p [.dmaWrite, .attnAppend, .coll] fun d r => d.dmaAckIn p r else d

def execCounter (p : Packet) (s : State) : Host.Outcome State Fault Refusal :=
  s.upd fun d => if d.comesIn p PT.counter then d.request p fun d => d.sweepReplies.applyCounter p else d

def execQuery (p : Packet) (s : State) : Host.Outcome State Fault Refusal :=
  s.upd fun d => if d.comesIn p PT.query then d.queryIn p else d

def execQueryAnswer (p : Packet) (s : State) : Host.Outcome State Fault Refusal :=
  s.upd fun d => if d.comesIn p PT.queryAnswer then d.queryAnswerIn p else d

def execGasRequestTimeout (msg : Nat) (s : State) : Host.Outcome State Fault Refusal :=
  s.upd fun d => d.timeoutOf msg 0 [.gld, .gst, .gatom]

def execDmaPacketTimeout (msg offset : Nat) (s : State) : Host.Outcome State Fault Refusal :=
  s.upd fun d => d.timeoutOf msg offset [.dmaRead, .dmaWrite, .attnMap, .attnPage, .attnAppend]

def execRemoteSignalTimeout (msg : Nat) (s : State) : Host.Outcome State Fault Refusal :=
  s.upd fun d => d.timeoutOf msg 0 [.signal]

def execGatomBusyResend (msg : Nat) (s : State) : Host.Outcome State Fault Refusal := s.upd fun d => d.busyResend msg

def execReleaseResend (msg : Nat) (s : State) : Host.Outcome State Fault Refusal := s.upd fun d => d.releaseAgain msg

def execQueryResend (n : Fin 32) (s : State) : Host.Outcome State Fault Refusal := s.upd fun d => d.queryAgain n

def execReplyEntryExpiry (s : State) : Host.Outcome State Fault Refusal := s.upd fun d => d.sweepReplies

end Sys2Proof.Machine
end

