-- ==== Sys2Proof/Machine/Hlk.lean ====
section
/-! DEFINITION. Messages of the companion on the Perdun link (chapter 13): order and credits (R482, R483), HELLO (R478, R479),
requests to the device's memory and registers (R485, R490, R491, R497), snoops (R489), responses (R488, R491), the CTL
messages (R494, R495, R503), and the loss of a port or of the link (R483, R496). -/

namespace Sys2Proof.Machine

open Sys2Proof

/-- R481: the operations that a companion sends. -/
def fromCompanion (cls op : Nat) : Bool :=
  (decide (cls = HC.req) && decide (1 ≤ op ∧ op ≤ 6)) || (decide (cls = HC.snp) && decide (op = 1 ∨ op = 2))
    || (decide (cls = HC.rsp) && decide (1 ≤ op ∧ op ≤ 5)) || (decide (cls = HC.ctl) && [1, 2, 4, 6, 7].contains op)

/-- R480, R481: the payload that an operation carries is the one that its row names. -/
def payloadOk (m : HlkMsg) : Bool :=
  let n := m.payload.length
  if m.cls = HC.req ∧ m.op = 3 then decide (n = 0)
  else decide (n = m.length) &&
    (if m.cls = HC.req ∧ m.op = 4 then decide (1 ≤ n ∧ n ≤ 4096)
      else if m.cls = HC.req ∧ m.op = 5 then decide (n = 64)
      else if m.cls = HC.rsp ∧ m.op = 1 then decide (n ≤ 4096)
      else if m.cls = HC.rsp ∧ m.op = 2 then decide (n = 64)
      else if m.cls = HC.rsp ∧ m.op = 4 then decide (n = 0 ∨ n = 64)
      else if m.cls = HC.ctl ∧ m.op = 1 then decide (n = 64)
      else decide (n = 0))

/-- R481: a message that the AK20 acts on. -/
def wellFormedMsg (m : HlkMsg) : Bool := fromCompanion m.cls m.op && payloadOk m && decide (m.reserved = 0)

/-- R482: credits in flits, by class, from the VALUE of a CTL CREDIT, and back. -/
def creditsOf (v : Nat) : List Nat := [bitsOf v 47 36, bitsOf v 35 24, bitsOf v 23 12, bitsOf v 11 0]
def creditValue (l : List Nat) : Nat := l.foldl (fun v x => v * 4096 + min 4095 x) 0

namespace Dev

def modHlk (d : Dev) (f : HlkSt → HlkSt) : Dev := { d with hlk := f d.hlk }

/-! ### What arrives -/

/-- R483: messages that LACK covers are no longer kept. -/
def ackUpTo (d : Dev) (lack : Nat) : Dev :=
  d.modHlk fun h =>
    let kept := h.unacked.filter fun x => decide (2 ^ 31 ≤ (lack + 2 ^ 32 - x.lseq % 2 ^ 32) % 2 ^ 32)
    { h with unacked := kept, crossed := h.crossed.filter fun c => kept.any fun x => decide (x.lseq = c.1) }

/-- R482: the receiver frees the buffer of a message and returns its credits, all that it owes at once; a CTL CREDIT is
itself answered with the next one. -/
def freeCredits (d : Dev) (m : HlkMsg) : Dev :=
  let d := d.modHlk fun h => { h with owed := h.owed.set m.cls (h.owed.getD m.cls 0 + hlkFlits m) }
  if m.cls = HC.ctl ∧ m.op = 2 then d
  else
    let back := d.hlk.owed
    let d := d.modHlk fun h => { h with granted := List.zipWith (· + ·) h.granted back, owed := [0, 0, 0, 0] }
    d.hlkSend { cls := HC.ctl, op := 2, value := creditValue back }

/-- R481, R482: a message that is discarded is logged. -/
def logMessage (d : Dev) (code : Nat) (m : HlkMsg) : Dev :=
  (d.logHlk code (m.cls * 2 ^ 6 + m.op) m.addr).raise 691

/-! ### HELLO -/

/-- R478, R479: whether a companion HELLO is acceptable. -/
def helloOk (b : List Byte) : Bool :=
  let f (i n : Nat) : Nat := leNat ((b.drop i).take n)
  decide (f 0 2 = 1) && decide (f 2 2 = 0) && decide (65 ≤ f 20 2) && decide (65 ≤ f 22 2) && decide (65 ≤ f 24 2)
    && decide (4 ≤ f 26 2) && decide (f 36 2 ≤ 16384) && decide (f 38 1 ≤ 8) && decide (f 39 25 = 0)

/-- R477, R478: a HELLO of the companion brings the link up, or is refused. -/
def helloIn (d : Dev) (m : HlkMsg) : Dev :=
  let f (i n : Nat) : Nat := leNat ((m.payload.drop i).take n)
  let d := d.modHlk fun h => { h with rxNext := (m.lseq + 1) % 2 ^ 32, early := [] }
  if wellFormedMsg m && helloOk m.payload then
    let d := d.modHlk fun h => { h with credits := [f 20 2, f 22 2, f 24 2, f 26 2], granted := [2048, 512, 4096, 64], owed := [0, 0, 0, 0] }
    let d := ((d.sf F.HLK_STAT.REVISION 1).sf F.HLK_STAT.VECTORS (f 38 1)).sf F.HLK_STAT.STATE 3
    let d := ((d.sf F.HLK_WINDOW_BASE.BASE (f 28 8)).sf F.HLK_WINDOW_SIZE.GIB (f 36 2)).sf F.HLK_COMP_ID.ID (f 4 8)
    ((d.logHlk Code.HLK_LINK_UP 0 0).raise 688).hlkPump
  else (d.logHlk Code.HLK_HELLO_REFUSED 0 0).raise 690

/-! ### Requests to this device (R490, R491) -/

/-- R497: a request that P2 or P3 does not serve. -/
def parkedReq (d : Dev) (o : Nat) : Bool :=
  let st := d.gf F.PWR_STAT.STATE
  let alwaysOn := match RegKey.ofOffset (o - 0x3F0000000000) with
    | some k => (islandOf k).isNone
    | none => false
  if inRegSpace o then decide (st = 3) && !alwaysOn else decide (st = 2 ∨ st = 3)

/-- R490, R14: check 1 for a companion request: what it may reach, with which size and alignment. -/
def reqRange (d : Dev) (m : HlkMsg) : Bool :=
  let o := reqOffset m
  let n := reqBytes m
  decide (m.addr < 2 ^ 46) &&
    (if m.op = 3 ∨ m.op = 4 then
      if inRegSpace o then decide (n = 8) && isRegister o
      else decide (1 ≤ n ∧ o % 4096 + n ≤ 4096) &&
        (match d.areaOf o n with
          | some .window => false
          | some _ => true
          | none => !d.started && d.populated o n && decide (o < 0x200000000000))
    else d.on F.HLK_CTRL.DIR_EN && decide (o % 64 = 0) &&
      (decide (d.areaOf o 64 = some .hbm) || (!d.started && d.populated o 64 && decide (o < 0x100000000000))))

/-- The right that a companion request needs (R250): a write needs WRITE, and every other one READ. -/
def reqNeed (m : HlkMsg) : Need := if m.op = 4 ∨ m.op = 5 then .write else .read

/-- R249 to R254, R490, R497, R515: a companion request checked: the code that refuses it, and the device with the
refusal counted and logged. -/
def checkReq (d : Dev) (m : HlkMsg) : Nat × Dev :=
  let o := reqOffset m
  let refused (code logged region : Nat) : Nat × Dev :=
    (code, (d.bump F.GAS_ERR_CNT.REFUSED_CNT F.GAS_ERR_CNT.REFUSED_SAT 1).logTarget logged m.addr region)
  if d.parkedReq o then (Code.HLK_PARKED, d.logHlk Code.HLK_PARKED 0 m.addr)
  else if !d.reqRange m then refused Code.GAS_ADDR_ERROR Code.GAS_ADDR_ERROR 0
  else match d.regionCheck o m.key false (reqNeed m) with
    | some (code, logged, n) => refused code logged n
    | none =>
      if !d.started && !inRegSpace o then (Code.BOOT_NOT_READY, d.logTarget Code.BOOT_NOT_READY m.addr 0) else (0, d)

/-- R490: a companion access to a register; one of a core under copy is held (R85). -/
def reqReg (d : Dev) (m : HlkMsg) : Dev :=
  let o := reqOffset m - 0x3F0000000000
  match d.heldReg o with
  | some (_, c) => d.hold c (.message m)
  | none =>
    if m.op = 4 then
      let (code, d) := d.storeAt o 1 d.self (BitVec.ofNat 64 (leNat m.payload))
      if code = 0 then d.respond m 3 0 [] else d.refuseHlk m code
    else
      let (code, v, d) := d.loadAt o
      if code = 0 then d.respond m 1 0 (leBytes 8 v.toNat) else d.refuseHlk m code

/-- A companion request. A line that leaves the directory lets what waited for it go on. -/
def reqIn (d : Dev) (m : HlkMsg) (errs : List MemErr) : Dev :=
  let (code, d) := d.checkReq m
  if code ≠ 0 then d.refuseHlk m code
  else if inRegSpace (reqOffset m) then d.reqReg m
  else
    let d := d.reqMem m errs
    if m.op = 5 ∨ m.op = 6 then d.retryHeld errs else d

/-! ### Snoops and responses -/

/-- R489: a snoop of a companion line: data where it is modified; it is left shared, or it goes. -/
def snoopIn (d : Dev) (m : HlkMsg) : Dev :=
  let w := (m.addr + 2 ^ 64 - d.gf F.HLK_WINDOW_BASE.BASE) % 2 ^ 64
  match (d.lineAt ((0x200000000000 + w) / 64)).filter fun l => l.comp.isSome with
  | none => d.respond m 4 0 []
  | some l =>
    let d := if m.op = 1 then
        d.setLines (d.mem.lines.map fun x => if x.unit = l.unit then { x with comp := some .s, dirty := false } else x)
      else d.dropLineOf l.unit
    d.respond m 4 0 (if l.comp = some .m then l.data else [])

/-- R491: the companion's answer to a recall; what waited for it goes on. -/
def recallDone (d : Dev) (m : HlkMsg) (errs : List MemErr) : Dev :=
  if d.hlk.dir.any fun l => (l.snoop.map Prod.snd) = some m.tag then (d.returnIn m errs).retryHeld errs else d

/-- R488, R491: a response of the companion. -/
def responseIn (d : Dev) (m : HlkMsg) (errs : List MemErr) : Dev :=
  match m.op with
  | 1 => d.companionAnswer m.tag 0 false m.payload errs
  | 2 => d.companionAnswer m.tag 0 true m.payload errs
  | 3 => d.companionAnswer m.tag 0 false [] errs
  | 4 => d.recallDone m errs
  | _ => d.companionAnswer m.tag m.code false [] errs

/-- R494: the core whose SIGNAL a COUNTER_ACK names has it acknowledged. -/
def counterAcked (d : Dev) (tag : Nat) : Dev :=
  (List.range 128).foldl (fun d c =>
    match (d.core c).signals.find? fun x => decide (x.dest = 3) && decide (x.tag = tag) with
    | some x => d.endSignal c x.seq 3
    | none => d) d

/-- R482, R494, R495, R503: a CTL message of the companion other than HELLO. -/
def ctlIn (d : Dev) (m : HlkMsg) : Dev :=
  match m.op with
  | 2 => (d.modHlk fun h => { h with credits := List.zipWith (· + ·) h.credits (creditsOf m.value) }).hlkPump
  | 4 => d.endOfInt (4 + bitsOf m.value 19 16) (bitsOf m.value 9 0)
  | 6 => d.counterAcked m.tag
  | 7 => d.raise (1008 + bitsOf m.value 2 0)
  | _ => d

/-- R481: a message in order, with its credits held: a malformed one is refused or discarded. In P3 the relay passes
CTL messages and requests alone (R497, R498). -/
def message (d : Dev) (m : HlkMsg) (errs : List MemErr) : Dev :=
  if d.gf F.HLK_STAT.STATE = 4 ∧ (m.cls = HC.snp ∨ m.cls = HC.rsp) then d
  else if !wellFormedMsg m then
    let d := d.logMessage Code.HLK_BAD_MESSAGE m
    if m.cls = HC.req ∨ 4 ≤ m.cls then d.refuseHlk m Code.HLK_BAD_MESSAGE else d
  else if m.cls = HC.req then d.reqIn m errs
  else if m.cls = HC.snp then d.snoopIn m
  else if m.cls = HC.rsp then d.responseIn m errs
  else d.ctlIn m

/-- R482, R483: the message that is next in LSEQ order. -/
def inOrder (d : Dev) (m : HlkMsg) (errs : List MemErr) : Dev :=
  let d := d.modHlk fun h => { h with rxNext := (h.rxNext + 1) % 2 ^ 32 }
  if m.cls < 4 ∧ d.hlk.granted.getD m.cls 0 < hlkFlits m then d.logMessage Code.HLK_CREDIT_ERROR m
  else
    let d := d.modHlk fun h => { h with granted := h.granted.set m.cls (h.granted.getD m.cls 0 - hlkFlits m) }
    (d.message m errs).freeCredits m

/-- R483: messages that came early follow as their turn comes. -/
def inTurn (d : Dev) (errs : List MemErr) : Nat → Dev
  | 0 => d
  | n + 1 =>
    match d.hlk.early.find? fun x => decide (x.lseq % 2 ^ 32 = d.hlk.rxNext) with
    | some m => ((d.modHlk fun h => { h with early := h.early.erase m }).inOrder m errs).inTurn errs n
    | none => d

/-- R483: a message arrives on a host port: repeated ones are discarded, and one ahead of its turn waits. Before the
link is up only a HELLO is taken. -/
def hlkIn (d : Dev) (m : HlkMsg) (errs : List MemErr) : Dev :=
  let st := d.gf F.HLK_STAT.STATE
  if st < 2 ∨ 4 < st then d
  else
    let d := (d.incr F.HLK_RX_CNT.FLITS (hlkFlits m)).ackUpTo m.lack
    if st = 2 then (if m.cls = HC.ctl ∧ m.op = 1 then d.helloIn m else d)
    else
      let ahead := (m.lseq % 2 ^ 32 + 2 ^ 32 - d.hlk.rxNext) % 2 ^ 32
      if ahead = 0 then ((d.inOrder m errs).inTurn errs d.hlk.early.length).hlkPump
      else if 2 ^ 31 ≤ ahead ∨ d.hlk.early.any (fun x => decide (x.lseq % 2 ^ 32 = m.lseq % 2 ^ 32)) then d.hlkPump
      else (d.modHlk fun h => { h with early := h.early ++ [m] }).hlkPump

/-- The row of an operation takes its own messages, and those that are no operation at all (R481). -/
def hlkRow (d : Dev) (cls op : Nat) (m : HlkMsg) (errs : List MemErr) : Dev :=
  if (m.cls = cls ∧ m.op = op) ∨ !fromCompanion m.cls m.op then d.hlkIn m errs else d

/-! ### Time and loss -/

/-- R492, R243: a recall that the companion has not answered: the unit is poisoned, the entry goes, and the accesses
that waited for it receive HBM_POISON, each with its record. -/
def snoopTimeout (d : Dev) (u : Nat) (errs : List MemErr) : Dev :=
  match d.dirAt u with
  | none => d
  | some l =>
    if l.snoop.isNone then d
    else
      let waited (w : Waiting) : Bool := Dev.sameUnit (64 * u, 64) (d.waitSpan w)
      let ws := d.mem.held.filter waited
      let rs := d.mem.returns.filter fun m => decide (d.returnUnit m ≠ u)
      let d := { d with mem := { d.mem with held := d.mem.held.filter fun w => !waited w, returns := rs } }
      let d := (d.poisonUnit u).dropDir u
      let d := d.bump F.HLK_ERR_CNT.SNOOP_CNT F.HLK_ERR_CNT.SNOOP_SAT 1
      let d := (d.logHlk Code.HLK_SNOOP_TIMEOUT 0 (64 * u)).raise 689
      (ws.foldl (fun d w => d.poisonWaiting u w) d).retryHeld errs

/-- R477, R483, R496: a host port leaves service. -/
def hostPortLoss (d : Dev) (n : Nat) (errs : List MemErr) : Dev := Dev.hostWatch d (d.portLeave 0 n) errs

/-- R477, R496: with no host port in service, with P0 occulted, or with DOWN set, the link leaves service. -/
def hlkLost (d : Dev) (errs : List MemErr) : Dev :=
  if d.gf F.HLK_STAT.PORTS_UP = 0 ∨ d.on F.DLK_DIE_k_INV.OCCULTED 0 (dieP 0) ∨ d.on F.HLK_CTRL.DOWN then d.linkDown errs else d

/-- R478: the AK20's HELLO again, until an acceptable one has arrived. -/
def helloAgain (d : Dev) : Dev := if d.gf F.HLK_STAT.STATE = 2 then d.sendHello else d

end Dev

/-! ### The commands -/

def execHello (m : HlkMsg) (s : State) : Host.Outcome State Fault Refusal := s.upd fun d => d.hlkRow 3 1 m []

def execHelloResend (s : State) : Host.Outcome State Fault Refusal := s.upd fun d => d.helloAgain

def execCredit (m : HlkMsg) (s : State) : Host.Outcome State Fault Refusal := s.upd fun d => d.hlkRow 3 2 m []

def execEoi (m : HlkMsg) (s : State) : Host.Outcome State Fault Refusal := s.upd fun d => d.hlkRow 3 4 m []

def execCounterAck (m : HlkMsg) (s : State) : Host.Outcome State Fault Refusal := s.upd fun d => d.hlkRow 3 6 m []

def execDoorbell (m : HlkMsg) (s : State) : Host.Outcome State Fault Refusal := s.upd fun d => d.hlkRow 3 7 m []

def execRdShared (m : HlkMsg) (errs : List MemErr) (s : State) : Host.Outcome State Fault Refusal :=
  s.upd fun d => d.hlkRow 0 1 m errs

def execRdOwn (m : HlkMsg) (errs : List MemErr) (s : State) : Host.Outcome State Fault Refusal :=
  s.upd fun d => d.hlkRow 0 2 m errs

def execRdUncached (m : HlkMsg) (errs : List MemErr) (s : State) : Host.Outcome State Fault Refusal :=
  s.upd fun d => d.hlkRow 0 3 m errs

def execWrUncached (m : HlkMsg) (errs : List MemErr) (s : State) : Host.Outcome State Fault Refusal :=
  s.upd fun d => d.hlkRow 0 4 m errs

def execWrback (m : HlkMsg) (errs : List MemErr) (s : State) : Host.Outcome State Fault Refusal :=
  s.upd fun d => d.hlkRow 0 5 m errs

def execEvictClean (m : HlkMsg) (errs : List MemErr) (s : State) : Host.Outcome State Fault Refusal :=
  s.upd fun d => d.hlkRow 0 6 m errs

def execSnpShare (m : HlkMsg) (s : State) : Host.Outcome State Fault Refusal := s.upd fun d => d.hlkRow 1 1 m []

def execSnpInv (m : HlkMsg) (s : State) : Host.Outcome State Fault Refusal := s.upd fun d => d.hlkRow 1 2 m []

def execDataS (m : HlkMsg) (s : State) (errs : List MemErr := []) : Host.Outcome State Fault Refusal :=
  s.upd fun d => d.hlkRow 2 1 m errs

def execDataE (m : HlkMsg) (s : State) (errs : List MemErr := []) : Host.Outcome State Fault Refusal :=
  s.upd fun d => d.hlkRow 2 2 m errs

def execWrAck (m : HlkMsg) (s : State) (errs : List MemErr := []) : Host.Outcome State Fault Refusal :=
  s.upd fun d => d.hlkRow 2 3 m errs

def execSnpAck (m : HlkMsg) (errs : List MemErr) (s : State) : Host.Outcome State Fault Refusal :=
  s.upd fun d => d.hlkRow 2 4 m errs

def execRefused (m : HlkMsg) (s : State) (errs : List MemErr := []) : Host.Outcome State Fault Refusal :=
  s.upd fun d => d.hlkRow 2 5 m errs

def execSnoopTimeout (unit : Nat) (errs : List MemErr) (s : State) : Host.Outcome State Fault Refusal :=
  s.upd fun d => d.snoopTimeout unit errs

def execHostPortLoss (second : Bool) (s : State) (errs : List MemErr := []) : Host.Outcome State Fault Refusal :=
  s.upd fun d => d.hostPortLoss (if second then 9 else 8) errs

def execHlkLinkDown (s : State) (errs : List MemErr := []) : Host.Outcome State Fault Refusal := s.upd fun d => d.hlkLost errs

end Sys2Proof.Machine
end

