-- ==== Sys2Proof/Machine/Mgmt.lean ====
section
/-! DEFINITION. The management connector (chapter 01) and the debug port (chapter 15): the I3C target (R38, R39, R541, R564),
the test access port (R40, R42, R519), and the Eyepiece and INTSCAN (R564). -/

namespace Sys2Proof.Machine

open Sys2Proof

/-- R564: the register blocks that I3C reaches in SEALED. -/
def i3cSealed (k : RegKey) : Bool :=
  !isMcore k && [Block.boot, .pwr, .log, .sec].contains k.name.info.place.block

/-- R564: the registers that the Eyepiece reaches in SEALED: SEC_ and DBG_ registers other than DBG_MCORE_m. -/
def eyeSealed (k : RegKey) : Bool := !isMcore k && decide (k.name.info.place.block = .sec)

/-- The low `n` bits of a number, the lowest first. -/
def bitList (n v : Nat) : List Bool := (List.range n).map fun i => bitOf v i

namespace Dev

/-- R564: whether the debug state opens a register-space offset to a path that SEALED limits to `sealed`; an offset
without a register is not refused for this. -/
def opens (d : Dev) (sealed : RegKey → Bool) (o : Nat) : Bool :=
  decide (d.debugState ≠ 0) || (match RegKey.ofOffset o with
    | some k => sealed k
    | none => !isSpareOffset o)

/-! ### I3C -/

/-- R541, R564: nothing keeps an I3C access from a register. -/
def i3cMay (d : Dev) (o : Nat) : Bool := !d.on F.BOOT_FW_STAT.HANDOVER_BUSY && d.opens i3cSealed o

/-- R38, R541, R564: a register read over I3C. -/
def i3cRead (d : Dev) (o : Nat) : Nat × Word × Dev :=
  if d.on F.BOOT_FW_STAT.HANDOVER_BUSY then (Code.BOOT_HANDOVER_BUSY, 0, d.logBoot Code.BOOT_HANDOVER_BUSY o 0)
  else if !d.opens i3cSealed o then (Code.DBG_ACCESS_REFUSED, 0, d.debugRefused o)
  else d.loadAt o

/-- R4, R541, R564: a register write over I3C. -/
def i3cWrite (d : Dev) (o : Nat) (v : Word) : Nat × Dev :=
  if d.on F.BOOT_FW_STAT.HANDOVER_BUSY then (Code.BOOT_HANDOVER_BUSY, d.logBoot Code.BOOT_HANDOVER_BUSY o 0)
  else if !d.opens i3cSealed o then (Code.DBG_ACCESS_REFUSED, d.debugRefused o)
  else d.storeAt o 2 d.self v

/-- R38, R39: a private write: a read request, a write, or a format error. A form is its length with its command: a
command of the other length is a format error (the model's choice, log entry 7). The target answers while the
auxiliary path is in service (R33, R658). -/
def i3cIn (d : Dev) (bytes : List Byte) : Dev :=
  let o := leNat ((bytes.drop 1).take 5)
  if !d.power.aux then d
  else if bytes.length = 6 ∧ bytes.headD 0 = 1 then
    match (if d.i3cMay o then d.heldReg o else none) with
    | some (k, c) => (d.hold c (.load k 2)).modMgmt fun x => { x with i3c := .none }
    | none =>
      let (code, v, d) := d.i3cRead o
      d.modMgmt fun x => { x with i3c := .read code v }
  else if bytes.length = 14 ∧ bytes.headD 0 = 2 then
    let (code, d) := d.i3cWrite o (BitVec.ofNat 64 (leNat (bytes.drop 6)))
    d.modMgmt fun x => { x with i3c := .status code }
  else (d.logAt Code.I3C_FORMAT_ERROR dieM 0xFFFF 0 0).modMgmt fun x => { x with i3c := .format }

/-- R38, R39: the bytes that answer a private read of n bytes. A read of another length than the answer's gets the
first n of its bytes, and one with no answer waiting gets none (the model's choice, log entry 8). -/
def i3cAnswer (r : I3cResp) (n : Nat) : List Byte :=
  match r with
  | .none => []
  | .read code v => (leBytes 8 (if code = 0 then v.toNat else 0) ++ leBytes 2 code).take n
  | .status code => (leBytes 2 code).take n
  | .format => ((if n = 10 then leBytes 8 0 else []) ++ leBytes 2 Code.I3C_FORMAT_ERROR).take n

/-- A private read returns the answer that waits, once. -/
def i3cOut (d : Dev) (n : Nat) : Dev :=
  if d.power.aux then d.modMgmt fun x => { x with sda := i3cAnswer x.i3c n, i3c := .none } else d

/-! ### The test access port -/

/-- An instruction selected on the port: a new one ends EXTEST, and a scan of its data register shifts bits out. -/
def selectIr (d : Dev) (ir : JtagIr) (tdo : List Bool) : Dev :=
  if d.power.aux then d.modMgmt fun x => { x with ir := ir, driving := decide (ir = .extest), tdo := tdo } else d

/-- SAMPLE/PRELOAD: the pins are captured, and the update stage of the boundary-scan register is loaded. -/
def samplePreload (d : Dev) (pins preload : List Bool) : Dev :=
  if d.power.aux then (d.selectIr .sample pins).modMgmt fun x => { x with boundary := preload } else d

/-- R42, R519: EXTEST is allowed in P3, Off and RECOVERY. -/
def mayExtest (d : Dev) : Bool :=
  decide (d.gf F.PWR_STAT.STATE = 3) || decide (d.boot.step = .off) || decide (d.boot.step = .recovery)

/-- R40, R42: EXTEST drives the pins from the boundary-scan register's update stage; otherwise it is refused and the
attempt is recorded. A scan of the register captures the pins, which are shifted out, and updates the stage with the
bits shifted in. -/
def extest (d : Dev) (pins : List Bool) (scan : Option (List Bool)) : Dev :=
  if !d.power.aux then d
  else if d.mayExtest then
    match scan with
    | none => d.selectIr .extest []
    | some bits => (d.selectIr .extest pins).modMgmt fun x => { x with boundary := bits }
  else d.debugRefused 0

/-! ### The Eyepiece -/

/-- R250, R487, R515, R564: the checks of a memory access of the Eyepiece: of the HBM and activation SRAM of this
device; with region checks in OWNER, and without them in VENDOR. -/
def eyeCheck (d : Dev) (addr key : Nat) (need : Need) : Nat × Dev :=
  let o := localOf addr
  let refused (code logged region : Nat) : Nat × Dev := (code, d.logTarget logged addr region)
  let there := decide (addr / 2 ^ 46 = d.self) && decide (o % 8 = 0) && (match d.areaOf o 8 with
    | some .hbm => true
    | some .sram => true
    | _ => !d.started && d.populated o 8 && decide (o < 0x200000000000))
  if d.debugState = 0 then (Code.DBG_ACCESS_REFUSED, d.debugRefused o)
  else if !there then refused Code.GAS_ADDR_ERROR Code.GAS_ADDR_ERROR 0
  else match (if d.debugState = 1 then d.regionCheck o key false need else none) with
    | some (code, logged, n) => refused code logged n
    | none => if d.started then (0, d) else refused Code.BOOT_NOT_READY Code.BOOT_NOT_READY 0

/-- R564: an Eyepiece access. The scan that brings it captures the code and the data of the access before. -/
def eyepiece (d : Dev) (a : EyeAccess) (errs : List MemErr) : Dev :=
  if !d.power.aux then d
  else
    let d := d.selectIr .eyepiece (bitList 120 (d.mgmt.eyeCode * 2 ^ 104 + d.mgmt.eyeData.toNat))
    match a with
    | .readReg o =>
      if !d.opens eyeSealed o then (d.debugRefused o).eyeDone Code.DBG_ACCESS_REFUSED 0
      else match d.heldReg o with
        | some (k, c) => d.hold c (.load k 3)
        | none =>
          let (code, v, d) := d.loadAt o
          d.eyeDone code v
    | .writeReg o v =>
      if !d.opens eyeSealed o then (d.debugRefused o).eyeDone Code.DBG_ACCESS_REFUSED 0
      else
        let (code, d) := d.storeAt o 3 d.self v
        d.eyeDone code 0
    | .readMem addr key =>
      let (code, d) := d.eyeCheck addr key .read
      if code ≠ 0 then d.eyeDone code 0 else d.eyeMem a errs
    | .writeMem addr key _ =>
      let (code, d) := d.eyeCheck addr key .write
      if code ≠ 0 then d.eyeDone code 0 else d.eyeMem a errs

/-- R564: INTSCAN, in VENDOR only: n bits of the M-die's internal scan chains, whose contents the manual does not
give. -/
def intscan (d : Dev) (n : Nat) : Dev :=
  if !d.power.aux then d
  else if d.debugState ≠ 2 then d.debugRefused 0
  else { d.selectIr .intscan ((List.range n).map fun i => Config.freeBit (d.freeIx + i)) with freeIx := d.freeIx + n }

end Dev

/-! ### The commands -/

/-- Bytes that form a write are the write's row. -/
def execI3cReadRequest (bytes : List Byte) (s : State) : Host.Outcome State Fault Refusal :=
  s.upd fun d => if bytes.length = 14 ∧ bytes.headD 0 = 2 then d else d.i3cIn bytes

/-- Bytes that form a read request are the read's row. -/
def execI3cWrite (bytes : List Byte) (s : State) : Host.Outcome State Fault Refusal :=
  s.upd fun d => if bytes.length = 6 ∧ bytes.headD 0 = 1 then d else d.i3cIn bytes

def execI3cPrivateRead (n : Nat) (s : State) : Host.Outcome State Fault Refusal := s.upd fun d => d.i3cOut n

def execJtagBypass (s : State) : Host.Outcome State Fault Refusal := s.upd fun d => d.selectIr .bypass [false]

def execJtagSamplePreload (pins preload : List Bool) (s : State) : Host.Outcome State Fault Refusal :=
  s.upd fun d => d.samplePreload pins preload

def execJtagExtest (s : State) (pins : List Bool := []) (scan : Option (List Bool) := none) :
    Host.Outcome State Fault Refusal :=
  s.upd fun d => d.extest pins scan

def execJtagIdcode (s : State) : Host.Outcome State Fault Refusal :=
  s.upd fun d => d.selectIr .idcode (bitList 32 Config.idcode.toNat)

def execEyepiece (a : EyeAccess) (errs : List MemErr) (s : State) : Host.Outcome State Fault Refusal :=
  s.upd fun d => d.eyepiece a errs

def execIntscan (n : Nat) (s : State) : Host.Outcome State Fault Refusal := s.upd fun d => d.intscan n

end Sys2Proof.Machine
end

