-- ==== Sys2Proof/Machine/Remap.lean ====
section
/-! DEFINITION. The remap of a COPY swap (R83 to R86, R101): the logical number moves to the spare, what the cluster held for
the core is applied in arrival order, and the old physical core is retired. -/

namespace Sys2Proof.Machine

open Sys2Proof

namespace Dev

/-- A register read by a path that was held: its answer goes where the path looks for it. -/
def answerLoad (d : Dev) (k : RegKey) (path : Nat) : Dev :=
  let (code, v, d) := d.regLoad k
  if path = 2 then d.modMgmt fun x => { x with i3c := .read code v }
  else if path = 3 then d.eyeDone code v
  else { d with answer := { code := code, value := v } }

/-- R85: one thing that was held for core c. -/
def releaseOne (d : Dev) (c : Nat) : Held → Dev
  | .update n a kind source => d.update c n a kind source none
  | .setCounter n v => d.setCounter c n v
  | .request p =>
    if p.type = PT.counter then d.applyCounter p
    else if inRegSpace (localOf p.addr) then d.accessReg p
    else d.applyMem p []
  | .message m => if inRegSpace (reqOffset m) then d.reqReg m else d.reqMem m []
  | .eye a => d.eyeMem a []
  | .write k src dev v => d.writeReg k src dev v
  | .load k path => d.answerLoad k path
  | .store x off bs => d.dmaPut c x off bs

/-- R85: what the cluster held for the core applied in arrival order. -/
def release (d : Dev) (c : Nat) (hs : List Held) : Dev := hs.foldl (fun d h => d.releaseOne c h) d

/-- R83 to R86, R101: the logical number moves: windows follow, held accesses are applied, PARKED threads go on unless a
request of the runtime is pending, and the old physical core is retired, with its record. -/
def swapRemap (d : Dev) (k dur : Nat) : Dev :=
  match d.swapOf k with
  | some s =>
    if s.phase ≠ .copied then d
    else
      let c := 4 * k + s.lcore
      let d := ((d.setSwap k none).remap k s.lcore).freshEngines c
      let d := ((d.sf F.CLU_SWAP_STAT.STATE 4 k).sf F.CLU_SWAP_STAT.DURATION_US (satAt 0xFFFF dur) k).sf
        F.CLU_SWAP_CTRL.REQ 0 k
      ((d.release c s.held).unparkFree c).retired k
  | none => d

end Dev

def execSwapRemapDone (cluster : Fin 32) (durationUs : Nat) (s : State) : Host.Outcome State Fault Refusal :=
  s.upd fun d => d.swapRemap cluster durationUs

end Sys2Proof.Machine
end

