-- ==== Sys2Proof/Machine/Dispatch.lean ====
section
/-! DEFINITION. One arm for every command: the meaning it has. -/

namespace Sys2Proof.Machine

open Sys2Proof

/-- The effect of a command on the device. -/
def exec (i : Instr) (s : State) : Host.Outcome State Fault Refusal :=
  match i with
  | .prsntNMate => Sys2Proof.Machine.execPrsntNMate s
  | .inputSwitchClose => Sys2Proof.Machine.execInputSwitchClose s
  | .auxPathInService strap vin => Sys2Proof.Machine.execAuxPathInService strap vin s
  | .prsntNBreak => Sys2Proof.Machine.execPrsntNBreak s
  | .auxPathOff => Sys2Proof.Machine.execAuxPathOff s
  | .pgoodInRise strap vin => Sys2Proof.Machine.execPgoodInRise strap vin s
  | .startDelayExpiry khz => Sys2Proof.Machine.execStartDelayExpiry khz s
  | .pgoodInFall => Sys2Proof.Machine.execPgoodInFall s
  | .pgoodHoldExpiry => Sys2Proof.Machine.execPgoodHoldExpiry s
  | .railRegulationChange rail ok => Sys2Proof.Machine.execRailRegulationChange rail ok s
  | .converterFail => Sys2Proof.Machine.execConverterFail s
  | .i3cReadRequest bytes => Sys2Proof.Machine.execI3cReadRequest bytes s
  | .i3cWrite bytes => Sys2Proof.Machine.execI3cWrite bytes s
  | .i3cPrivateRead n => Sys2Proof.Machine.execI3cPrivateRead n s
  | .jtagBypass => Sys2Proof.Machine.execJtagBypass s
  | .jtagSamplePreload pins preload => Sys2Proof.Machine.execJtagSamplePreload pins preload s
  | .jtagExtest pins scan => Sys2Proof.Machine.execJtagExtest s pins scan
  | .jtagIdcode => Sys2Proof.Machine.execJtagIdcode s
  | .eyepiece a errs => Sys2Proof.Machine.execEyepiece a errs s
  | .intscan n => Sys2Proof.Machine.execIntscan n s
  | .registerWrite source offset value => Sys2Proof.Machine.execRegisterWrite source offset value s
  | .loads iss => Sys2Proof.Machine.execLoads iss s
  | .loadsStallEnd core eng extra => Sys2Proof.Machine.execLoadsStallEnd core eng s extra
  | .stream iss => Sys2Proof.Machine.execStream iss s
  | .streamRowIssue core eng parity ecc => Sys2Proof.Machine.execStreamRowIssue core eng parity ecc s
  | .streamRowComplete core eng ecc => Sys2Proof.Machine.execStreamRowComplete core eng ecc s
  | .emit iss => Sys2Proof.Machine.execEmit iss s
  | .emitSlotRead core eng ecc => Sys2Proof.Machine.execEmitSlotRead core eng ecc s
  | .cluSwapReq cluster mode lcore => Sys2Proof.Machine.execCluSwapReq cluster mode lcore s
  | .cluSwapCancel cluster => Sys2Proof.Machine.execCluSwapCancel cluster s
  | .sparePowerUpDone cluster pass => Sys2Proof.Machine.execSparePowerUpDone cluster pass s
  | .swapCopyDone cluster => Sys2Proof.Machine.execSwapCopyDone cluster s
  | .swapRemapDone cluster durationUs => Sys2Proof.Machine.execSwapRemapDone cluster durationUs s
  | .nop iss => Sys2Proof.Machine.execNop iss s
  | .halt iss => Sys2Proof.Machine.execHalt iss s
  | .pause iss => Sys2Proof.Machine.execPause iss s
  | .spawn iss => Sys2Proof.Machine.execSpawn iss s
  | .br iss => Sys2Proof.Machine.execBr iss s
  | .brz iss => Sys2Proof.Machine.execBrz iss s
  | .brnz iss => Sys2Proof.Machine.execBrnz iss s
  | .brlt iss => Sys2Proof.Machine.execBrlt iss s
  | .tli iss => Sys2Proof.Machine.execTli iss s
  | .tadd iss => Sys2Proof.Machine.execTadd iss s
  | .tmul iss => Sys2Proof.Machine.execTmul iss s
  | .tand iss => Sys2Proof.Machine.execTand iss s
  | .tor iss => Sys2Proof.Machine.execTor iss s
  | .tshl iss => Sys2Proof.Machine.execTshl iss s
  | .tshr iss => Sys2Proof.Machine.execTshr iss s
  | .tld iss => Sys2Proof.Machine.execTld iss s
  | .tst iss => Sys2Proof.Machine.execTst iss s
  | .rdtime iss => Sys2Proof.Machine.execRdtime iss s
  | .rdcnt iss => Sys2Proof.Machine.execRdcnt iss s
  | .vadd iss => Sys2Proof.Machine.execVadd iss s
  | .vsub iss => Sys2Proof.Machine.execVsub iss s
  | .vmul iss => Sys2Proof.Machine.execVmul iss s
  | .vfma iss => Sys2Proof.Machine.execVfma iss s
  | .vmax iss => Sys2Proof.Machine.execVmax iss s
  | .vmin iss => Sys2Proof.Machine.execVmin iss s
  | .vscale iss => Sys2Proof.Machine.execVscale iss s
  | .vcvt iss => Sys2Proof.Machine.execVcvt iss s
  | .vexp iss => Sys2Proof.Machine.execVexp iss s
  | .vrecip iss => Sys2Proof.Machine.execVrecip iss s
  | .vrsqrt iss => Sys2Proof.Machine.execVrsqrt iss s
  | .vsilu iss => Sys2Proof.Machine.execVsilu iss s
  | .vgate iss => Sys2Proof.Machine.execVgate iss s
  | .vrsum iss => Sys2Proof.Machine.execVrsum iss s
  | .vrmax iss => Sys2Proof.Machine.execVrmax iss s
  | .vlsum iss => Sys2Proof.Machine.execVlsum iss s
  | .vlmax iss => Sys2Proof.Machine.execVlmax iss s
  | .attn iss => Sys2Proof.Machine.execAttn iss s
  | .dma iss => Sys2Proof.Machine.execDma iss s
  | .dmaDescriptorStart core cluster seq ecc src => Sys2Proof.Machine.execDmaDescriptorStart core cluster seq ecc s src
  | .dmaDescriptorDone core cluster seq => Sys2Proof.Machine.execDmaDescriptorDone core cluster seq s
  | .streamFifoAppend core cluster seq bytes ecc => Sys2Proof.Machine.execStreamFifoAppend core cluster seq bytes s ecc
  | .queueEntryRetire core queue => Sys2Proof.Machine.execQueueEntryRetire core queue s
  | .signal iss => Sys2Proof.Machine.execSignal iss s
  | .wait iss => Sys2Proof.Machine.execWait iss s
  | .waitConditionMet core place => Sys2Proof.Machine.execWaitConditionMet core place s
  | .waitTimeout core thread => Sys2Proof.Machine.execWaitTimeout core thread s
  | .fence iss => Sys2Proof.Machine.execFence iss s
  | .fenceComplete core thread => Sys2Proof.Machine.execFenceComplete core thread s
  | .gld iss => Sys2Proof.Machine.execGld iss s
  | .gst iss => Sys2Proof.Machine.execGst iss s
  | .gatom iss => Sys2Proof.Machine.execGatom iss s
  | .coll iss => Sys2Proof.Machine.execColl iss s
  | .threadStart core thread => Sys2Proof.Machine.execThreadStart core thread s
  | .threadHalt core thread => Sys2Proof.Machine.execThreadHalt core thread s
  | .threadPcWrite core thread value => Sys2Proof.Machine.execThreadPcWrite core thread value s
  | .threadTWrite core thread reg value => Sys2Proof.Machine.execThreadTWrite core thread reg value s
  | .coreClearFault core => Sys2Proof.Machine.execCoreClearFault core s
  | .clearFaultAct core => Sys2Proof.Machine.execClearFaultAct core s
  | .coreResume core => Sys2Proof.Machine.execCoreResume core s
  | .coreForceStop core => Sys2Proof.Machine.execCoreForceStop core s
  | .preemptReq core => Sys2Proof.Machine.execPreemptReq core s
  | .preemptCancel core => Sys2Proof.Machine.execPreemptCancel core s
  | .corePaused core waitUs => Sys2Proof.Machine.execCorePaused core waitUs s
  | .corePreemptLate core => Sys2Proof.Machine.execCorePreemptLate core s
  | .pcmapWritten core => Sys2Proof.Machine.execPcmapWritten core s
  | .coreNumCtrlWrite core value => Sys2Proof.Machine.execCoreNumCtrlWrite core value s
  | .coreSrSeedWrite core value => Sys2Proof.Machine.execCoreSrSeedWrite core value s
  | .specClear core channel => Sys2Proof.Machine.execSpecClear core channel s
  | .specCtrlWrite core channel value => Sys2Proof.Machine.execSpecCtrlWrite core channel value s
  | .specWindowWrite core channel hi value => Sys2Proof.Machine.execSpecWindowWrite core channel hi value s
  | .attnDescriptorStart core ecc => Sys2Proof.Machine.execAttnDescriptorStart core ecc s
  | .attnMapEntryRead core entry ecc => Sys2Proof.Machine.execAttnMapEntryRead core entry s ecc
  | .attnAppendDone core => Sys2Proof.Machine.execAttnAppendDone core s
  | .attnBlock core ecc => Sys2Proof.Machine.execAttnBlock core s ecc
  | .attnOutputDone core => Sys2Proof.Machine.execAttnOutputDone core s
  | .hbmRead offset bytes hint useCount errs => Sys2Proof.Machine.execHbmRead offset bytes hint useCount errs s
  | .hbmWrite offset data hint useCount errs => Sys2Proof.Machine.execHbmWrite offset data hint useCount errs s
  | .mscFlush x => Sys2Proof.Machine.execMscFlush x s
  | .mscUnkeep x => Sys2Proof.Machine.execMscUnkeep x s
  | .mscOpDone x unkeep errs => Sys2Proof.Machine.execMscOpDone x unkeep errs s
  | .patrolScrub x unit ecc last odecc => Sys2Proof.Machine.execPatrolScrub x unit ecc last odecc s
  | .hbmRefresh => Sys2Proof.Machine.execHbmRefresh s
  | .stackTempRead x temps => Sys2Proof.Machine.execStackTempRead x temps s
  | .hbmMapoutReq x pc => Sys2Proof.Machine.execHbmMapoutReq x pc s
  | .mapoutFenceDone => Sys2Proof.Machine.execMapoutFenceDone s
  | .mapoutFrameDone bad errs fixed => Sys2Proof.Machine.execMapoutFrameDone bad errs s fixed
  | .hbmTrainingDone stack ok temp => Sys2Proof.Machine.execHbmTrainingDone stack ok temp s
  | .hbmZeroFillDone => Sys2Proof.Machine.execHbmZeroFillDone s
  | .read p errs => Sys2Proof.Machine.execRead p errs s
  | .readData p => Sys2Proof.Machine.execReadData p s
  | .write p errs => Sys2Proof.Machine.execWrite p errs s
  | .writeAck p => Sys2Proof.Machine.execWriteAck p s
  | .atomic p errs => Sys2Proof.Machine.execAtomic p errs s
  | .atomicReply p => Sys2Proof.Machine.execAtomicReply p s
  | .release p => Sys2Proof.Machine.execRelease p s
  | .releaseAck p => Sys2Proof.Machine.execReleaseAck p s
  | .busy p => Sys2Proof.Machine.execBusy p s
  | .refusal p => Sys2Proof.Machine.execRefusal p s
  | .dmaRead p errs => Sys2Proof.Machine.execDmaRead p errs s
  | .dmaData p => Sys2Proof.Machine.execDmaData p s
  | .dmaWrite p errs => Sys2Proof.Machine.execDmaWrite p errs s
  | .dmaAck p => Sys2Proof.Machine.execDmaAck p s
  | .counter p => Sys2Proof.Machine.execCounter p s
  | .query p => Sys2Proof.Machine.execQuery p s
  | .queryAnswer p => Sys2Proof.Machine.execQueryAnswer p s
  | .gasRequestTimeout msg => Sys2Proof.Machine.execGasRequestTimeout msg s
  | .dmaPacketTimeout msg offset => Sys2Proof.Machine.execDmaPacketTimeout msg offset s
  | .gatomBusyResend msg => Sys2Proof.Machine.execGatomBusyResend msg s
  | .releaseResend msg => Sys2Proof.Machine.execReleaseResend msg s
  | .queryResend n => Sys2Proof.Machine.execQueryResend n s
  | .replyEntryExpiry => Sys2Proof.Machine.execReplyEntryExpiry s
  | .pacedInjection p => Sys2Proof.Machine.execPacedInjection p s
  | .rateAlphaDecay dst => Sys2Proof.Machine.execRateAlphaDecay dst s
  | .rateIncrease dst => Sys2Proof.Machine.execRateIncrease dst s
  | .regionBaseWrite n value => Sys2Proof.Machine.execRegionBaseWrite n value s
  | .regionLimitWrite n value => Sys2Proof.Machine.execRegionLimitWrite n value s
  | .regionAttrWrite n value => Sys2Proof.Machine.execRegionAttrWrite n value s
  | .regionFenceReq => Sys2Proof.Machine.execRegionFenceReq s
  | .regionFenceDone => Sys2Proof.Machine.execRegionFenceDone s
  | .replyPurge all device => Sys2Proof.Machine.execReplyPurge all device s
  | .queryReq n => Sys2Proof.Machine.execQueryReq n s
  | .queryCancel n => Sys2Proof.Machine.execQueryCancel n s
  | .unsettledTagWrite n value => Sys2Proof.Machine.execUnsettledTagWrite n value s
  | .unsettledEpochWrite n value => Sys2Proof.Machine.execUnsettledEpochWrite n value s
  | .unsettledSeqWrite n value => Sys2Proof.Machine.execUnsettledSeqWrite n value s
  | .unsettledTimeWrite n value => Sys2Proof.Machine.execUnsettledTimeWrite n value s
  | .packetRoute face p free draw => Sys2Proof.Machine.execPacketRoute face p free draw s
  | .adaptiveEscape p => Sys2Proof.Machine.execAdaptiveEscape p s
  | .faceUp face => Sys2Proof.Machine.execFaceUp face s
  | .faceDown face => Sys2Proof.Machine.execFaceDown face s
  | .faceHoldExpiry p => Sys2Proof.Machine.execFaceHoldExpiry p s
  | .vc0Stuck p => Sys2Proof.Machine.execVc0Stuck p s
  | .discover face p => Sys2Proof.Machine.execDiscover face p s
  | .coordOverride dims index => Sys2Proof.Machine.execCoordOverride dims index s
  | .coordOverrideRelease => Sys2Proof.Machine.execCoordOverrideRelease s
  | .transitSetupReq slot nextOwn => Sys2Proof.Machine.execTransitSetupReq slot s nextOwn
  | .teardown slot => Sys2Proof.Machine.execTeardown slot s
  | .transitTearReady slot => Sys2Proof.Machine.execTransitTearReady slot s
  | .transitSetup face p nextOwn => Sys2Proof.Machine.execTransitSetup face p nextOwn s
  | .transitReply p => Sys2Proof.Machine.execTransitReply p s
  | .transitTear face p => Sys2Proof.Machine.execTransitTear face p s
  | .transitBroken p => Sys2Proof.Machine.execTransitBroken p s
  | .transitSetupTimeout slot => Sys2Proof.Machine.execTransitSetupTimeout slot s
  | .transitPathWrite slot value => Sys2Proof.Machine.execTransitPathWrite slot value s
  | .drain => Sys2Proof.Machine.execDrain s
  | .drained => Sys2Proof.Machine.execDrained s
  | .tableSwap => Sys2Proof.Machine.execTableSwap s
  | .tableResume => Sys2Proof.Machine.execTableResume s
  | .vcWeightWrite value => Sys2Proof.Machine.execVcWeightWrite value s
  | .routeBankWrite offset value => Sys2Proof.Machine.execRouteBankWrite offset value s
  | .portCalibrateDone die port found => Sys2Proof.Machine.execPortCalibrateDone die port found s
  | .portLightDone die port => Sys2Proof.Machine.execPortLightDone die port s
  | .portLockDone die port => Sys2Proof.Machine.execPortLockDone die port s
  | .portAlignDone die port => Sys2Proof.Machine.execPortAlignDone die port s
  | .portExchange die port farFace farPort farMap farDead => Sys2Proof.Machine.execPortExchange die port farFace farPort farMap farDead s
  | .portQualifyDone die port => Sys2Proof.Machine.execPortQualifyDone die port s
  | .groupReceive die port group => Sys2Proof.Machine.execGroupReceive die port group s
  | .replayRequest die port ack good => Sys2Proof.Machine.execReplayRequest die port ack good s
  | .aprEntry die port => Sys2Proof.Machine.execAprEntry die port s
  | .aprLightReturn die port => Sys2Proof.Machine.execAprLightReturn die port s
  | .monitorRefresh die readings => Sys2Proof.Machine.execMonitorRefresh die readings s
  | .edgePowerReport die port farEdge => Sys2Proof.Machine.execEdgePowerReport die port farEdge s
  | .lossCheck die => Sys2Proof.Machine.execLossCheck die s
  | .heliostatAdjust die port channel bias power eta => Sys2Proof.Machine.execHeliostatAdjust die port channel bias power eta s
  | .seeingWindow die port => Sys2Proof.Machine.execSeeingWindow die port s
  | .spareSwapStart die port => Sys2Proof.Machine.execSpareSwapStart die port s
  | .spareLightDone die port ok => Sys2Proof.Machine.execSpareLightDone die port ok s
  | .spareTrainDone die port ok => Sys2Proof.Machine.execSpareTrainDone die port ok s
  | .mirrorQualified die port => Sys2Proof.Machine.execMirrorQualified die port s
  | .swapSwitch die port => Sys2Proof.Machine.execSwapSwitch die port s
  | .swapCmdReceive die port cmd lane channel => Sys2Proof.Machine.execSwapCmdReceive die port cmd lane channel s
  | .swapRetireDone die port cal => Sys2Proof.Machine.execSwapRetireDone die port s cal
  | .portSwap die port lane => Sys2Proof.Machine.execPortSwap die port lane s
  | .recal die port lane => Sys2Proof.Machine.execRecal die port lane s
  | .portDownWrite die port value => Sys2Proof.Machine.execPortDownWrite die port value s
  | .colGroupValidWrite slot value errs => Sys2Proof.Machine.execColGroupValidWrite slot value s errs
  | .colConfigWrite slot reg value => Sys2Proof.Machine.execColConfigWrite slot reg value s
  | .collInstanceStart slot ecc errs src checks => Sys2Proof.Machine.execCollInstanceStart slot ecc errs s src checks
  | .collAgreement p checks errs => Sys2Proof.Machine.execCollAgreement p checks errs s
  | .collData p checks errs => Sys2Proof.Machine.execCollData p checks errs s
  | .collAbortMarker p => Sys2Proof.Machine.execCollAbortMarker p s
  | .collWaitingMarker p => Sys2Proof.Machine.execCollWaitingMarker p s
  | .collMulticastAck p => Sys2Proof.Machine.execCollMulticastAck p s
  | .stragglerTimeout slot => Sys2Proof.Machine.execStragglerTimeout slot s
  | .collAbort slot => Sys2Proof.Machine.execCollAbort slot s
  | .collStatusWrite slot => Sys2Proof.Machine.execCollStatusWrite slot s
  | .barrierArrival p => Sys2Proof.Machine.execBarrierArrival p s
  | .barrierRelease p => Sys2Proof.Machine.execBarrierRelease p s
  | .synCntWrite core n value => Sys2Proof.Machine.execSynCntWrite core n value s
  | .synCntAdd core n value => Sys2Proof.Machine.execSynCntAdd core n value s
  | .timeExchange t1 => Sys2Proof.Machine.execTimeExchange t1 s
  | .timeRequest p t2 t3 => Sys2Proof.Machine.execTimeRequest p t2 t3 s
  | .timeReply p t4 => Sys2Proof.Machine.execTimeReply p t4 s
  | .alignLossTimeout => Sys2Proof.Machine.execAlignLossTimeout s
  | .rootExchangeEnd => Sys2Proof.Machine.execRootExchangeEnd s
  | .meridianArm => Sys2Proof.Machine.execMeridianArm s
  | .meridianCancel => Sys2Proof.Machine.execMeridianCancel s
  | .meridianTickWrite value => Sys2Proof.Machine.execMeridianTickWrite value s
  | .meridianRelease => Sys2Proof.Machine.execMeridianRelease s
  | .frameReceive link initiator payload control => Sys2Proof.Machine.execFrameReceive link initiator payload control s
  | .linkLockLoss link => Sys2Proof.Machine.execLinkLockLoss link s
  | .linkTestDone link initMask respMask => Sys2Proof.Machine.execLinkTestDone link initMask respMask s
  | .propose link xnum mask level => Sys2Proof.Machine.execPropose link xnum mask level s
  | .accept link xnum mask width level => Sys2Proof.Machine.execAccept link xnum mask width level s
  | .confirm link xnum width level => Sys2Proof.Machine.execConfirm link xnum width level s
  | .exchangeTimeout link => Sys2Proof.Machine.execExchangeTimeout link s
  | .linkRetrainWrite link => Sys2Proof.Machine.execLinkRetrainWrite link s
  | .linkDownWrite link down => Sys2Proof.Machine.execLinkDownWrite link down s
  | .sidebandMessage die bytes identity => Sys2Proof.Machine.execSidebandMessage die bytes identity s
  | .sidebandResend die => Sys2Proof.Machine.execSidebandResend die s
  | .dieIdentityTimeout die => Sys2Proof.Machine.execDieIdentityTimeout die s
  | .hello m => Sys2Proof.Machine.execHello m s
  | .helloResend => Sys2Proof.Machine.execHelloResend s
  | .credit m => Sys2Proof.Machine.execCredit m s
  | .eoi m => Sys2Proof.Machine.execEoi m s
  | .counterAck m => Sys2Proof.Machine.execCounterAck m s
  | .doorbell m => Sys2Proof.Machine.execDoorbell m s
  | .rdShared m errs => Sys2Proof.Machine.execRdShared m errs s
  | .rdOwn m errs => Sys2Proof.Machine.execRdOwn m errs s
  | .rdUncached m errs => Sys2Proof.Machine.execRdUncached m errs s
  | .wrUncached m errs => Sys2Proof.Machine.execWrUncached m errs s
  | .wrback m errs => Sys2Proof.Machine.execWrback m errs s
  | .evictClean m errs => Sys2Proof.Machine.execEvictClean m errs s
  | .snpShare m => Sys2Proof.Machine.execSnpShare m s
  | .snpInv m => Sys2Proof.Machine.execSnpInv m s
  | .dataS m errs => Sys2Proof.Machine.execDataS m s errs
  | .dataE m errs => Sys2Proof.Machine.execDataE m s errs
  | .wrAck m errs => Sys2Proof.Machine.execWrAck m s errs
  | .snpAck m errs => Sys2Proof.Machine.execSnpAck m errs s
  | .refused m errs => Sys2Proof.Machine.execRefused m s errs
  | .snoopTimeout unit errs => Sys2Proof.Machine.execSnoopTimeout unit errs s
  | .hostPortLoss second errs => Sys2Proof.Machine.execHostPortLoss second s errs
  | .hlkLinkDown errs => Sys2Proof.Machine.execHlkLinkDown s errs
  | .hlkDownWrite down => Sys2Proof.Machine.execHlkDownWrite down s
  | .intPendSet k value => Sys2Proof.Machine.execIntPendSet k value s
  | .intPendClr k value => Sys2Proof.Machine.execIntPendClr k value s
  | .intMaskSet k value => Sys2Proof.Machine.execIntMaskSet k value s
  | .intMaskClr k value => Sys2Proof.Machine.execIntMaskClr k value s
  | .intClaim target => Sys2Proof.Machine.execIntClaim target s
  | .intEoiWrite target source => Sys2Proof.Machine.execIntEoiWrite target source s
  | .intSrcCfgWrite source value => Sys2Proof.Machine.execIntSrcCfgWrite source value s
  | .companionInterrupt vector => Sys2Proof.Machine.execCompanionInterrupt vector s
  | .bootCold => Sys2Proof.Machine.execBootCold s
  | .bootWarm => Sys2Proof.Machine.execBootWarm s
  | .stageOneHoldExpiry => Sys2Proof.Machine.execStageOneHoldExpiry s
  | .quiesceDone errs => Sys2Proof.Machine.execQuiesceDone errs s
  | .railsUp => Sys2Proof.Machine.execRailsUp s
  | .bootRomDone delayUs => Sys2Proof.Machine.execBootRomDone delayUs s
  | .identityDone found records => Sys2Proof.Machine.execIdentityDone found records s
  | .firmwareStepDone read => Sys2Proof.Machine.execFirmwareStepDone read s
  | .ephemerisStepDone bad0 bad1 => Sys2Proof.Machine.execEphemerisStepDone bad0 bad1 s
  | .inventoryDone stepping level => Sys2Proof.Machine.execInventoryDone stepping level s
  | .linksTrained temps => Sys2Proof.Machine.execLinksTrained temps s
  | .firstLightDone durationMs fails refset elapsedMs => Sys2Proof.Machine.execFirstLightDone durationMs fails refset elapsedMs s
  | .dieResetReq die => Sys2Proof.Machine.execDieResetReq die s
  | .dieResetDone durationMs fails temps errs => Sys2Proof.Machine.execDieResetDone durationMs fails temps errs s
  | .watchdogKick => Sys2Proof.Machine.execWatchdogKick s
  | .watchdogPeriodWrite periodMs => Sys2Proof.Machine.execWatchdogPeriodWrite periodMs s
  | .bootWatchdog => Sys2Proof.Machine.execBootWatchdog s
  | .fwTrial image => Sys2Proof.Machine.execFwTrial image s
  | .fwCommit => Sys2Proof.Machine.execFwCommit s
  | .fwHandover image => Sys2Proof.Machine.execFwHandover image s
  | .handoverVerifyDone => Sys2Proof.Machine.execHandoverVerifyDone s
  | .handoverParkDone => Sys2Proof.Machine.execHandoverParkDone s
  | .handoverLoadDone => Sys2Proof.Machine.execHandoverLoadDone s
  | .fwResumed => Sys2Proof.Machine.execFwResumed s
  | .bootHandoverReverted => Sys2Proof.Machine.execBootHandoverReverted s
  | .journalWrite => Sys2Proof.Machine.execJournalWrite s
  | .ephCompact => Sys2Proof.Machine.execEphCompact s
  | .ephFlush => Sys2Proof.Machine.execEphFlush s
  | .ephSramUncorrectable => Sys2Proof.Machine.execEphSramUncorrectable s
  | .attestReq source => Sys2Proof.Machine.execAttestReq source s
  | .attestDone => Sys2Proof.Machine.execAttestDone s
  | .secNonceWrite k value => Sys2Proof.Machine.execSecNonceWrite k value s
  | .dbgSubmit => Sys2Proof.Machine.execDbgSubmit s
  | .submitVerifyDone rsa0 rsa1 slh0 slh1 => Sys2Proof.Machine.execSubmitVerifyDone rsa0 rsa1 s slh0 slh1
  | .dbgLockoutExpiry => Sys2Proof.Machine.execDbgLockoutExpiry s
  | .dbgExit => Sys2Proof.Machine.execDbgExit s
  | .dbgRefresh => Sys2Proof.Machine.execDbgRefresh s
  | .mcoreHalt m => Sys2Proof.Machine.execMcoreHalt m s
  | .mcoreResume m => Sys2Proof.Machine.execMcoreResume m s
  | .mcoreStep m branch => Sys2Proof.Machine.execMcoreStep m branch s
  | .mcoreTraceRead m branches => Sys2Proof.Machine.execMcoreTraceRead m branches s
  | .inputSample vin iin pin => Sys2Proof.Machine.execInputSample vin iin pin s
  | .inputLowTimeout => Sys2Proof.Machine.execInputLowTimeout s
  | .inputLowLift => Sys2Proof.Machine.execInputLowLift s
  | .clocksStopped => Sys2Proof.Machine.execClocksStopped s
  | .railsOff => Sys2Proof.Machine.execRailsOff s
  | .stageOneOff => Sys2Proof.Machine.execStageOneOff s
  | .capWindow watts long => Sys2Proof.Machine.execCapWindow watts s long
  | .capWWrite watts => Sys2Proof.Machine.execCapWWrite watts s
  | .pwrTargetP0 => Sys2Proof.Machine.execPwrTargetP0 s
  | .pwrTargetP2 => Sys2Proof.Machine.execPwrTargetP2 s
  | .pwrTargetP3 => Sys2Proof.Machine.execPwrTargetP3 s
  | .pwrStateChanged errs => Sys2Proof.Machine.execPwrStateChanged errs s
  | .islandIdleGate island => Sys2Proof.Machine.execIslandIdleGate island s
  | .islandUngate island => Sys2Proof.Machine.execIslandUngate island s
  | .rampStep island => Sys2Proof.Machine.execRampStep island s
  | .railSettled island => Sys2Proof.Machine.execRailSettled island s
  | .droopTrip island => Sys2Proof.Machine.execDroopTrip island s
  | .droopClear island => Sys2Proof.Machine.execDroopClear island s
  | .droopHandover island => Sys2Proof.Machine.execDroopHandover island s
  | .droopRecovery island => Sys2Proof.Machine.execDroopRecovery island s
  | .islandEnWrite island en => Sys2Proof.Machine.execIslandEnWrite island en s
  | .islandOpWrite island op => Sys2Proof.Machine.execIslandOpWrite island op s
  | .clkRefLost => Sys2Proof.Machine.execClkRefLost s
  | .refHoldoverExpiry => Sys2Proof.Machine.execRefHoldoverExpiry s
  | .clkPllUnlock island => Sys2Proof.Machine.execClkPllUnlock island s
  | .thermalSample die temps flash inlet outlet => Sys2Proof.Machine.execThermalSample die temps flash inlet outlet s
  | .throttleStep die => Sys2Proof.Machine.execThrottleStep die s
  | .throttleRecoveryStep die => Sys2Proof.Machine.execThrottleRecoveryStep die s
  | .comparatorCrossing die above => Sys2Proof.Machine.execComparatorCrossing die above s
  | .thmShutdown die => Sys2Proof.Machine.execThmShutdown die s
  | .comparatorTest failed detectors => Sys2Proof.Machine.execComparatorTest failed detectors s
  | .logReport code source d0 d1 => Sys2Proof.Machine.execLogReport code source d0 d1 s
  | .logRecordWrite => Sys2Proof.Machine.execLogRecordWrite s
  | .coalesceClose source code => Sys2Proof.Machine.execCoalesceClose source code s
  | .hbmRingCopy errs => Sys2Proof.Machine.execHbmRingCopy errs s
  | .logHbmEnWrite value => Sys2Proof.Machine.execLogHbmEnWrite value s
  | .occultation unit cause lifted => Sys2Proof.Machine.execOccultation unit cause lifted s
  | .noticeCopyTimer count => Sys2Proof.Machine.execNoticeCopyTimer count s
  | .occultationNotice p => Sys2Proof.Machine.execOccultationNotice p s
  | .restorationNotice p => Sys2Proof.Machine.execRestorationNotice p s
  | .deviceLostNotice p => Sys2Proof.Machine.execDeviceLostNotice p s
  | .accusationSummary p => Sys2Proof.Machine.execAccusationSummary p s
  | .lockstepMarkNotice p => Sys2Proof.Machine.execLockstepMarkNotice p s
  | .firmwareMessage p => Sys2Proof.Machine.execFirmwareMessage p s
  | .safeOccultUnit unit => Sys2Proof.Machine.execSafeOccultUnit unit s
  | .safeLiftUnit unit => Sys2Proof.Machine.execSafeLiftUnit unit s
  | .safeDeclareLost device => Sys2Proof.Machine.execSafeDeclareLost device s
  | .safeAccuse suspect unit => Sys2Proof.Machine.execSafeAccuse suspect unit s
  | .accusationWindowEnd => Sys2Proof.Machine.execAccusationWindowEnd s
  | .healthHalfLife => Sys2Proof.Machine.execHealthHalfLife s
  | .healthClear unit => Sys2Proof.Machine.execHealthClear unit s
  | .lockstepMarkTimeout core number => Sys2Proof.Machine.execLockstepMarkTimeout core number s
  | .firstLightReq form scope => Sys2Proof.Machine.execFirstLightReq form scope s
  | .plateStart => Sys2Proof.Machine.execPlateStart s
  | .plateReq => Sys2Proof.Machine.execPlateReq s
  | .plateDone errs => Sys2Proof.Machine.execPlateDone s errs
  | .residueInjection caught => Sys2Proof.Machine.execResidueInjection caught s
  | .monitorHeartbeat b => Sys2Proof.Machine.execMonitorHeartbeat b s
  | .heartbeatTimeout b => Sys2Proof.Machine.execHeartbeatTimeout b s
  | .guideStarReturn khz => Sys2Proof.Machine.execGuideStarReturn khz s
  | .noLightOnChannel die port channel => Sys2Proof.Machine.execNoLightOnChannel die port channel s
  | .remoteSignalTimeout msg => Sys2Proof.Machine.execRemoteSignalTimeout msg s
  | .collPacketTimeout msg offset => Sys2Proof.Machine.execCollPacketTimeout msg offset s
  | .rcRegisterRead offset => Sys2Proof.Machine.execRcRegisterRead offset s

end Sys2Proof.Machine
end

