-- ==== Sys2Proof/Machine/Step.lean ====
section
/-! DEFINITION. The step: the command at the front of the queue is taken and acts on the device; with no command waiting
one nanosecond of the Chronograph passes (R443), in which the faces send what their output queues hold (R325) and the package
links their next frames (R451). -/

namespace Sys2Proof.Machine

open Sys2Proof

/-- A step with no command waiting (DESIGN CHOICE, log entry 1): one nanosecond passes. -/
def idle (s : State) : State := { s with dev := s.dev.tick.linkTick }

/-- One step of the block. -/
def step (s : State) : Host.Outcome State Fault Refusal :=
  match s.pending with
  | [] => .next (idle s)
  | c :: rest => exec c { s with pending := rest }

/-- The table gives its rows no bits, so no word spells a command and the state is unchanged. -/
def State.withFetchWord (s : State) (nbits w : Nat) : State :=
  match decodeTableWord nbits w with
  | some c => { s with pending := c :: s.pending }
  | none => s

end Sys2Proof.Machine
end

