-- ==== Sys2Proof/WellFormed.lean ====
section
/-! DEFINITION. Which terms of `Instr` are commands: every field of a packet, a message, a group or a header within the
width that the manual lays out for it, and lists of the length that the manual gives. `exec` is total on every term; a
statement that needs a width says so by these checks. -/

namespace Sys2Proof

/-- R294: each header field within its width, and as many payload bytes as LENGTH says. -/
def Packet.wf (p : Packet) : Bool :=
  decide (p.dst < 2 ^ 18) && decide (p.src < 2 ^ 18) && decide (p.partition < 2 ^ 12) && decide (p.vc < 8)
    && decide (p.type < 32) && decide (p.route < 4) && decide (p.transit < 2 ^ 16) && decide (p.length ≤ 4096)
    && decide (p.hops < 2 ^ 9) && decide (p.origVc < 8) && decide (p.wrap < 8) && decide (p.attempt < 4)
    && decide (p.timeoutUs < 2 ^ 14) && decide (p.addr < 2 ^ 64) && decide (p.key < 2 ^ 16)
    && decide (p.offset < 2 ^ 48) && decide (p.msg < 2 ^ 16) && decide (p.total < 2 ^ 64) && decide (p.dseq < 2 ^ 64)
    && decide (p.issueTime < 2 ^ 64) && decide (p.core < 128) && decide (p.epoch < 2 ^ 32) && decide (p.aop < 8)
    && decide (p.code < 2 ^ 16) && decide (p.word2 < 2 ^ 64) && decide (p.word7 < 2 ^ 64) && decide (p.hint < 4)
    && decide (p.useCount < 2 ^ 8) && decide (p.origin < 2 ^ 18) && decide (p.payload.length ≤ p.length)

/-- R480: each header field within its width, and no more payload bytes than LENGTH says. -/
def HlkMsg.wf (m : HlkMsg) : Bool :=
  decide (m.cls < 16) && decide (m.op < 64) && decide (m.length ≤ 4096) && decide (m.tag < 4096)
    && decide (m.code < 2 ^ 16) && decide (m.addr < 2 ^ 64) && decide (m.key < 2 ^ 16) && decide (m.value < 2 ^ 48)
    && decide (m.lseq < 2 ^ 32) && decide (m.lack < 2 ^ 32) && decide (m.payload.length ≤ m.length)

/-- R212: a unit is one of the module's 64-byte units of HBM. -/
def MemErr.wf (e : MemErr) : Bool := decide (e.unit < 2 ^ 40)

/-- R344, R345: sixteen codewords, and one more where a lane is mirrored, of 272 symbols of ten bits. -/
def OptRx.wf (g : OptRx) : Bool :=
  decide (g.words.length = 16 ∨ g.words.length = 17)
    && g.words.all fun w => decide (w.length = 272) && w.all fun s => decide (s < 1024)

/-- R344, R359: a calibration names the port's 18 channels. -/
def PortCal.wf (c : PortCal) : Bool :=
  decide (c.chans.length = 18) && (c.badLasers.all fun k => decide (k < 18))
    && (c.badReceivers.all fun k => decide (k < 18))

/-- R354: a port's readings are of its 18 channels. -/
def PortMon.wf (m : PortMon) : Bool := decide (m.port < 10) && decide (m.chans.length = 18)

/-- The widths of a key pair's fields (chapter 15). -/
def KeyPair.wf (k : KeyPair) : Bool := decide (k.rsaN < 2 ^ 3072) && decide (k.rsaE < 2 ^ 32) && decide (k.slhPk < 2 ^ 384)

/-- R549: the widths of a signature block's fields. -/
def SigBlock.wf (s : SigBlock) : Bool :=
  decide (s.magic < 2 ^ 32) && decide (s.format < 2 ^ 16) && decide (s.kind < 2 ^ 16) && decide (s.keyId < 2 ^ 384)
    && decide (s.rsaSig < 2 ^ 3072) && decide (s.slhSig.length ≤ 16224) && decide (s.tail < 2 ^ 320)

/-- R548: the widths of a certificate's fields. -/
def Cert.wf (c : Cert) : Bool :=
  decide (c.magic < 2 ^ 32) && decide (c.role < 256) && decide (c.rest < 2 ^ 24) && c.pair.wf && decide (c.issuer < 2 ^ 384)
    && decide (c.serial < 2 ^ 128) && decide (c.seq < 2 ^ 32) && c.sig.wf

/-- R558: the widths of a floor record's fields. -/
def FloorRec.wf (r : FloorRec) : Bool :=
  decide (r.magic < 2 ^ 32) && decide (r.kind < 256) && decide (r.rest < 2 ^ 24) && decide (r.serial < 2 ^ 128)
    && decide (r.floor < 2 ^ 64) && decide (r.tail < 2 ^ 256) && r.sig.wf

/-- R556: the areas of the security records hold what they have room for. -/
def SecRecords.wf (r : SecRecords) : Bool :=
  decide (r.certs.length ≤ 7) && r.certs.all Cert.wf && r.identity.all Cert.wf && decide (r.helper.length ≤ 32768)
    && decide (r.owners.length = 3) && (r.owners.all fun c => c.all Cert.wf)
    && decide (r.log0.length ≤ 17) && decide (r.log1.length ≤ 17) && r.log0.all FloorRec.wf && r.log1.all FloorRec.wf

/-- R551: the widths of a firmware header's fields. -/
def FwImage.wf (f : FwImage) : Bool :=
  decide (f.magic < 2 ^ 32) && decide (f.format < 2 ^ 16) && decide (f.version < 2 ^ 32) && decide (f.svn < 2 ^ 32)
    && decide (f.code.length < 2 ^ 32) && decide (f.floorOffset < 2 ^ 32) && decide (f.hoFormat < 2 ^ 16) && decide (f.hoMin < 2 ^ 16)
    && decide (f.hoMax < 2 ^ 16) && decide (f.rest < 2 ^ 800) && f.floor.all FloorRec.wf && f.sig.wf

/-- R521: the widths of an Almanac's fields. -/
def Almanac.wf (a : Almanac) : Bool :=
  decide (a.magic < 2 ^ 32) && decide (a.format < 2 ^ 16) && decide (a.flags < 2 ^ 16) && decide (a.sequence < 2 ^ 64)
    && decide (a.sigOffset < 2 ^ 32) && decide (a.rest < 2 ^ 320) && (a.entries.all fun e => decide (e.1 < 2 ^ 40)) && a.sig.wf

/-- What the Firmware step reads is made of well-formed parts. -/
def FlashRead.wf (r : FlashRead) : Bool :=
  r.imageA.all FwImage.wf && r.imageB.all FwImage.wf && r.almanacA.all Almanac.wf && r.almanacB.all Almanac.wf
    && r.records.all SecRecords.wf

/-- R564: an offset of the register space or a global address, and a key of 16 bits. -/
def EyeAccess.wf : EyeAccess → Bool
  | .readReg o => decide (o < 2 ^ 40)
  | .writeReg o _ => decide (o < 2 ^ 40)
  | .readMem a k => decide (a < 2 ^ 64) && decide (k < 2 ^ 16)
  | .writeMem a k _ => decide (a < 2 ^ 64) && decide (k < 2 ^ 16)

/-- Whether a term of `Instr` is a command: every operand within its width. -/
def Instr.wf : Instr → Bool
  | .prsntNMate | .inputSwitchClose | .auxPathInService _ _ | .prsntNBreak | .auxPathOff | .pgoodInRise _ _
  | .startDelayExpiry _ | .pgoodInFall | .pgoodHoldExpiry => true
  | .railRegulationChange rail _ => decide (rail < 2 ^ 8)
  | .converterFail | .i3cReadRequest _ | .i3cWrite _ | .i3cPrivateRead _ | .jtagBypass => true
  | .jtagSamplePreload pins preload => decide (pins.length = preload.length)
  | .jtagExtest _ _ | .jtagIdcode => true
  | .eyepiece a errs => a.wf && errs.all MemErr.wf
  | .intscan _ => true
  | .registerWrite _ offset _ => decide (offset < 2 ^ 40)
  | .loads _ | .loadsStallEnd _ _ _ | .stream _ | .streamRowIssue _ _ _ _ | .streamRowComplete _ _ _ | .emit _
  | .emitSlotRead _ _ _ | .cluSwapReq _ _ _ | .cluSwapCancel _ | .sparePowerUpDone _ _ | .swapCopyDone _
  | .swapRemapDone _ _ | .nop _ | .halt _ | .pause _ | .spawn _ | .br _ | .brz _ | .brnz _ | .brlt _ | .tli _
  | .tadd _ | .tmul _ | .tand _ | .tor _ | .tshl _ | .tshr _ | .tld _ | .tst _ | .rdtime _ | .rdcnt _ | .vadd _
  | .vsub _ | .vmul _ | .vfma _ | .vmax _ | .vmin _ | .vscale _ | .vcvt _ | .vexp _ | .vrecip _ | .vrsqrt _
  | .vsilu _ | .vgate _ | .vrsum _ | .vrmax _ | .vlsum _ | .vlmax _ | .attn _ | .dma _
  | .dmaDescriptorStart _ _ _ _ _ | .dmaDescriptorDone _ _ _ => true
  | .streamFifoAppend _ _ _ bytes _ => decide (bytes ≤ 2 ^ 16)
  | .queueEntryRetire _ _ | .signal _ | .wait _ | .waitConditionMet _ _ | .waitTimeout _ _ | .fence _
  | .fenceComplete _ _ | .gld _ | .gst _ | .gatom _ | .coll _ | .threadStart _ _ | .threadHalt _ _
  | .threadPcWrite _ _ _ | .threadTWrite _ _ _ _ | .coreClearFault _ | .clearFaultAct _ | .coreResume _
  | .coreForceStop _ | .preemptReq _ | .preemptCancel _ | .corePaused _ _ | .corePreemptLate _ | .pcmapWritten _
  | .coreNumCtrlWrite _ _ | .coreSrSeedWrite _ _ | .specClear _ _ | .specCtrlWrite _ _ _ | .specWindowWrite _ _ _ _
  | .attnDescriptorStart _ _ => true
  | .attnMapEntryRead _ entry _ => decide (entry < 2 ^ 32)
  | .attnAppendDone _ | .attnBlock _ _ | .attnOutputDone _ => true
  | .hbmRead offset bytes hint useCount errs =>
      decide (offset + bytes ≤ 2 ^ 46) && decide (hint < 4) && decide (useCount < 2 ^ 8) && errs.all MemErr.wf
  | .hbmWrite offset data hint useCount errs =>
      decide (offset + data.length ≤ 2 ^ 46) && decide (hint < 4) && decide (useCount < 2 ^ 8) && errs.all MemErr.wf
  | .mscFlush _ | .mscUnkeep _ => true
  | .mscOpDone _ _ errs => errs.all MemErr.wf
  | .patrolScrub _ unit _ _ _ => decide (unit < 2 ^ 40)
  | .hbmRefresh => true
  | .stackTempRead _ temps => decide (temps.length = 6)
  | .hbmMapoutReq _ _ | .mapoutFenceDone => true
  | .mapoutFrameDone _ errs _ => errs.all MemErr.wf
  | .hbmTrainingDone _ _ _ | .hbmZeroFillDone => true
  | .read p errs => p.wf && errs.all MemErr.wf
  | .readData p => p.wf
  | .write p errs => p.wf && errs.all MemErr.wf
  | .writeAck p => p.wf
  | .atomic p errs => p.wf && errs.all MemErr.wf
  | .atomicReply p => p.wf
  | .release p => p.wf
  | .releaseAck p => p.wf
  | .busy p => p.wf
  | .refusal p => p.wf
  | .dmaRead p errs => p.wf && errs.all MemErr.wf
  | .dmaData p => p.wf
  | .dmaWrite p errs => p.wf && errs.all MemErr.wf
  | .dmaAck p => p.wf
  | .counter p => p.wf
  | .query p => p.wf
  | .queryAnswer p => p.wf
  | .gasRequestTimeout msg => decide (msg < 2 ^ 16)
  | .dmaPacketTimeout msg _ => decide (msg < 2 ^ 16)
  | .gatomBusyResend msg => decide (msg < 2 ^ 16)
  | .releaseResend msg => decide (msg < 2 ^ 16)
  | .queryResend _ | .replyEntryExpiry => true
  | .pacedInjection p => p.wf
  | .rateAlphaDecay dst => decide (dst < 2 ^ 18)
  | .rateIncrease dst => decide (dst < 2 ^ 18)
  | .regionBaseWrite _ _ | .regionLimitWrite _ _ | .regionAttrWrite _ _ | .regionFenceReq | .regionFenceDone
  | .replyPurge _ _ | .queryReq _ | .queryCancel _ | .unsettledTagWrite _ _ | .unsettledEpochWrite _ _
  | .unsettledSeqWrite _ _ | .unsettledTimeWrite _ _ => true
  | .packetRoute _ p free _ => decide (free.length = 6) && p.wf
  | .adaptiveEscape p => p.wf
  | .faceUp _ | .faceDown _ => true
  | .faceHoldExpiry p => p.wf
  | .vc0Stuck p => p.wf
  | .discover _ p => p.wf
  | .coordOverride _ _ | .coordOverrideRelease | .transitSetupReq _ _ | .teardown _ | .transitTearReady _ => true
  | .transitSetup _ p _ => p.wf
  | .transitReply p => p.wf
  | .transitTear _ p => p.wf
  | .transitBroken p => p.wf
  | .transitSetupTimeout _ | .transitPathWrite _ _ | .drain | .drained | .tableSwap | .tableResume
  | .vcWeightWrite _ => true
  | .routeBankWrite offset _ => decide (offset < 2 ^ 40)
  | .portCalibrateDone _ _ found => found.all PortCal.wf
  | .portLightDone _ _ | .portLockDone _ _ | .portAlignDone _ _ => true
  | .portExchange _ _ _ _ farMap farDead =>
      decide (farMap.length = 16) && (farMap.all fun c => decide (c < 18)) && (farDead.all fun c => decide (c < 18))
  | .portQualifyDone _ _ => true
  | .groupReceive _ _ group => group.wf
  | .replayRequest _ _ _ _ | .aprEntry _ _ | .aprLightReturn _ _ => true
  | .monitorRefresh _ readings => readings.all PortMon.wf
  | .edgePowerReport _ _ _ | .lossCheck _ => true
  | .heliostatAdjust _ _ _ bias _ _ => decide (bias < 2 ^ 16)
  | .seeingWindow _ _ | .spareSwapStart _ _ | .spareLightDone _ _ _ | .spareTrainDone _ _ _ | .mirrorQualified _ _
  | .swapSwitch _ _ | .swapCmdReceive _ _ _ _ _ | .swapRetireDone _ _ _ | .portSwap _ _ _ | .recal _ _ _
  | .portDownWrite _ _ _ => true
  | .colGroupValidWrite _ _ errs => errs.all MemErr.wf
  | .colConfigWrite _ _ _ => true
  | .collInstanceStart _ _ errs _ _ => errs.all MemErr.wf
  | .collAgreement p _ errs => p.wf && errs.all MemErr.wf
  | .collData p _ errs => p.wf && errs.all MemErr.wf
  | .collAbortMarker p => p.wf
  | .collWaitingMarker p => p.wf
  | .collMulticastAck p => p.wf
  | .stragglerTimeout _ | .collAbort _ | .collStatusWrite _ => true
  | .barrierArrival p => p.wf
  | .barrierRelease p => p.wf
  | .synCntWrite _ _ _ | .synCntAdd _ _ _ => true
  | .timeExchange t1 => decide (t1 < 2 ^ 64)
  | .timeRequest p t2 t3 => decide (t2 < 2 ^ 64) && decide (t3 < 2 ^ 64) && p.wf
  | .timeReply p t4 => decide (t4 < 2 ^ 64) && p.wf
  | .alignLossTimeout | .rootExchangeEnd | .meridianArm | .meridianCancel | .meridianTickWrite _ | .meridianRelease
  | .frameReceive _ _ _ _ | .linkLockLoss _ | .linkTestDone _ _ _ | .propose _ _ _ _ | .accept _ _ _ _ _
  | .confirm _ _ _ _ | .exchangeTimeout _ | .linkRetrainWrite _ | .linkDownWrite _ _ | .sidebandMessage _ _ _
  | .sidebandResend _ | .dieIdentityTimeout _ => true
  | .hello m => m.wf
  | .helloResend => true
  | .credit m => m.wf
  | .eoi m => m.wf
  | .counterAck m => m.wf
  | .doorbell m => m.wf
  | .rdShared m errs => m.wf && errs.all MemErr.wf
  | .rdOwn m errs => m.wf && errs.all MemErr.wf
  | .rdUncached m errs => m.wf && errs.all MemErr.wf
  | .wrUncached m errs => m.wf && errs.all MemErr.wf
  | .wrback m errs => m.wf && errs.all MemErr.wf
  | .evictClean m errs => m.wf && errs.all MemErr.wf
  | .snpShare m => m.wf
  | .snpInv m => m.wf
  | .dataS m errs => m.wf && errs.all MemErr.wf
  | .dataE m errs => m.wf && errs.all MemErr.wf
  | .wrAck m errs => m.wf && errs.all MemErr.wf
  | .snpAck m errs => m.wf && errs.all MemErr.wf
  | .refused m errs => m.wf && errs.all MemErr.wf
  | .snoopTimeout unit errs => decide (unit < 2 ^ 40) && errs.all MemErr.wf
  | .hostPortLoss _ errs => errs.all MemErr.wf
  | .hlkLinkDown errs => errs.all MemErr.wf
  | .hlkDownWrite _ | .intPendSet _ _ | .intPendClr _ _ | .intMaskSet _ _ | .intMaskClr _ _ | .intClaim _
  | .intEoiWrite _ _ | .intSrcCfgWrite _ _ | .companionInterrupt _ | .bootCold | .bootWarm | .stageOneHoldExpiry => true
  | .quiesceDone errs => errs.all MemErr.wf
  | .railsUp | .bootRomDone _ => true
  | .identityDone _ records => records.wf
  | .firmwareStepDone flash => flash.wf
  | .ephemerisStepDone _ _ | .inventoryDone _ _ | .linksTrained _ => true
  | .firstLightDone _ fails _ _ => (fails.all fun f => decide (f.1 < 2048))
  | .dieResetReq _ => true
  | .dieResetDone _ fails _ errs => (fails.all fun f => decide (f.1 < 2048)) && errs.all MemErr.wf
  | .watchdogKick | .watchdogPeriodWrite _ | .bootWatchdog => true
  | .fwTrial image => image.all FwImage.wf
  | .fwCommit => true
  | .fwHandover image => image.all FwImage.wf
  | .handoverVerifyDone | .handoverParkDone | .handoverLoadDone | .fwResumed | .bootHandoverReverted | .journalWrite
  | .ephCompact | .ephFlush | .ephSramUncorrectable | .attestReq _ | .attestDone | .secNonceWrite _ _ | .dbgSubmit
  | .submitVerifyDone _ _ _ _ | .dbgLockoutExpiry | .dbgExit | .dbgRefresh | .mcoreHalt _ | .mcoreResume _ => true
  | .mcoreStep _ branch => (branch.all fun b => decide (b < 2 ^ 64))
  | .mcoreTraceRead _ branches => (branches.all fun b => decide (b < 2 ^ 64))
  | .inputSample _ _ _ | .inputLowTimeout | .inputLowLift | .clocksStopped | .railsOff | .stageOneOff => true
  | .capWindow watts _ => decide (watts < 2 ^ 16)
  | .capWWrite _ | .pwrTargetP0 | .pwrTargetP2 | .pwrTargetP3 => true
  | .pwrStateChanged errs => errs.all MemErr.wf
  | .islandIdleGate _ | .islandUngate _ | .rampStep _ | .railSettled _ | .droopTrip _ | .droopClear _
  | .droopHandover _ | .droopRecovery _ | .islandEnWrite _ _ | .islandOpWrite _ _ | .clkRefLost | .refHoldoverExpiry
  | .clkPllUnlock _ | .thermalSample _ _ _ _ _ | .throttleStep _ | .throttleRecoveryStep _ | .comparatorCrossing _ _
  | .thmShutdown _ | .comparatorTest _ _ => true
  | .logReport code source d0 d1 =>
      decide (code < 2 ^ 16) && decide (source < 2 ^ 32) && decide (d0 < 2 ^ 64) && decide (d1 < 2 ^ 64)
  | .logRecordWrite => true
  | .coalesceClose source code => decide (code < 2 ^ 16) && decide (source < 2 ^ 32)
  | .hbmRingCopy errs => errs.all MemErr.wf
  | .logHbmEnWrite _ => true
  | .occultation _ cause _ => decide (cause < 2 ^ 64)
  | .noticeCopyTimer _ => true
  | .occultationNotice p => p.wf
  | .restorationNotice p => p.wf
  | .deviceLostNotice p => p.wf
  | .accusationSummary p => p.wf
  | .lockstepMarkNotice p => p.wf
  | .firmwareMessage p => p.wf
  | .safeOccultUnit _ | .safeLiftUnit _ | .safeDeclareLost _ | .safeAccuse _ _ | .accusationWindowEnd
  | .healthHalfLife | .healthClear _ | .lockstepMarkTimeout _ _ | .firstLightReq _ _ | .plateStart | .plateReq => true
  | .plateDone errs => errs.all MemErr.wf
  | .residueInjection _ | .monitorHeartbeat _ | .heartbeatTimeout _ | .guideStarReturn _ | .noLightOnChannel _ _ _ => true
  | .remoteSignalTimeout msg => decide (msg < 2 ^ 16)
  | .collPacketTimeout msg _ => decide (msg < 2 ^ 16)
  | .rcRegisterRead offset => decide (offset < 2 ^ 40)

end Sys2Proof
end

