-- ==== Sys2Proof/Safety.lean ====
section
/-! DEFINITION. The terms in which statements about the machine are made: the parts of the device and what a command
leaves unchanged, the canonical form of its memories and of its register file, and that a command completes. -/

namespace Sys2Proof.Machine

open Sys2Proof

/-- The parts of the device. All registers of one name are one part. -/
inductive Part where
  | reg (n : RegName)
  | chrono | freeIx | answer | log | cores | engines | swaps | coreStore | clusterStore | imem | hbm
  | injected | inside | held | rates | listed | suspects | reqs | dseqs | nextMsg | collq | colls | power | boot | eph
  | occulted | mem | gas | fab | ports | time | dlk | hlk | int | sec | rootKeyId | mgmt | safe
  deriving DecidableEq, Repr

/-- A part is the same in two devices: for a memory, every byte of it reads the same. -/
def Part.same (d e : Dev) : Part → Prop
  | .reg n => ∀ u i j, e.reg ⟨n, u, i, j⟩ = d.reg ⟨n, u, i, j⟩
  | .chrono => e.chrono = d.chrono
  | .freeIx => e.freeIx = d.freeIx
  | .answer => e.answer = d.answer
  | .log => e.log = d.log
  | .cores => e.cores = d.cores
  | .engines => e.engines = d.engines
  | .swaps => e.swaps = d.swaps
  | .coreStore => ∀ a, e.coreByte a = d.coreByte a
  | .clusterStore => ∀ a, e.clusterByte a = d.clusterByte a
  | .imem => ∀ a, e.imemByte a = d.imemByte a
  | .hbm => ∀ a, NMap.get 0 e.hbm a = NMap.get 0 d.hbm a
  | .injected => e.injected = d.injected
  | .inside => e.inside = d.inside
  | .held => e.held = d.held
  | .rates => e.rates = d.rates
  | .listed => e.listed = d.listed
  | .suspects => e.suspects = d.suspects
  | .reqs => e.reqs = d.reqs
  | .dseqs => e.dseqs = d.dseqs
  | .nextMsg => e.nextMsg = d.nextMsg
  | .collq => e.collq = d.collq
  | .colls => e.colls = d.colls
  | .power => e.power = d.power
  | .boot => e.boot = d.boot
  | .eph => e.eph = d.eph
  | .occulted => e.occulted = d.occulted
  | .mem => e.mem = d.mem
  | .gas => e.gas = d.gas
  | .fab => e.fab = d.fab
  | .ports => e.ports = d.ports
  | .time => e.time = d.time
  | .dlk => e.dlk = d.dlk
  | .hlk => e.hlk = d.hlk
  | .int => e.int = d.int
  | .sec => e.sec = d.sec
  | .rootKeyId => e.rootKeyId = d.rootKeyId
  | .mgmt => e.mgmt = d.mgmt
  | .safe => e.safe = d.safe

/-- From `d` to `e` no part changes but those of `ps`. -/
def Keeps (ps : List Part) (d e : Dev) : Prop := ∀ p, p ∉ ps → p.same d e

/-- From `d` to `e` no register changes but those of `rs` and those that `ps` names, and no other part changes but those
of `ps`. -/
def Only (rs : List RegKey) (ps : List Part) (d e : Dev) : Prop :=
  (∀ k : RegKey, k ∉ rs → Part.reg k.name ∉ ps → e.reg k = d.reg k)
    ∧ ∀ p, p ∉ ps → (∀ n, p ≠ .reg n) → p.same d e

/-- What a report to the logbook changes (R609). -/
def logParts : List Part := [.log, .reg .LOG_DROPPED, .reg .SAFE_MON_STAT]

/-- What an event counted in a health score changes (R628, R629): the score, and a change of level with its report, its
interrupt source and its journal record. -/
def scoreParts : List Part := [.reg .SAFE_HEALTH_u, .reg .INT_PEND_SET_k, .eph] ++ logParts

/-- What a single-bit error corrected in a core's memories changes (R103). -/
def eccParts : Ecc → List Part
  | .corrected => .reg .CORE_ERR_CNT :: scoreParts
  | _ => []

/-- What a stop of a core by a fault changes (R137 to R140, R145, R499). -/
def stopParts : List Part :=
  [.cores, .reg .CORE_FAULT_STAT, .reg .CORE_FAULT_SEQ, .reg .CORE_QUEUE_q_STAT, .reg .CORE_QUEUE_q_STOP, .reg .CORE_PCMAP_INFO,
    .reg .CORE_PCMAP_m, .reg .CORE_PCMAP_DONE, .reg .INT_PEND_SET_k] ++ logParts

/-- What the dispatch of an instruction changes beside its effect: the sequence number and the counts, the thread, the
PC, or a stop of the core (R96, R103, R104, R114). -/
def issueParts : List Part :=
  [.reg .CORE_DISPATCH_SEQ, .reg .CORE_NDET_CNT, .reg .CORE_ERR_CNT, .reg .CORE_THREAD_n_PC] ++ stopParts ++ scoreParts

/-- What a report about another device changes: a score here, or an accusation kept for its window (R622, R623). -/
def suspectParts : List Part := [.suspects, .reg .SAFE_AGG_STAT] ++ scoreParts

/-- The unsettled table (R278). -/
def unsettledParts : List Part :=
  [.reg .GAS_UNSETTLED_STAT, .reg .GAS_UNSETTLED_n_ADDR, .reg .GAS_UNSETTLED_n_EPOCH, .reg .GAS_UNSETTLED_n_SEQ,
    .reg .GAS_UNSETTLED_n_TAG, .reg .GAS_UNSETTLED_n_TIME, .reg .GAS_UNSETTLED_n_VALUE]

/-- The messages that this device sends on the Perdun link. -/
def hostParts : List Part := [.hlk, .reg .HLK_TX_CNT]

/-- The packets of this device's units on their way. -/
def trafficParts : List Part := [.injected, .inside, .held]

/-- The parts of groups of parts, single parts, and the registers of some names. -/
def changes (gs : List (List Part)) (ps : List Part) (rs : List RegName) : List Part := gs.flatten ++ ps ++ rs.map .reg

/-- A command meets a frame: where it answers a next state, the waiting commands are what they were and no part of the
device changes but those of `ps`. -/
def Frame (ps : List Part) (c : Instr) : Prop :=
  ∀ s t, exec c s = .next t → t.pending = s.pending ∧ Keeps ps s.dev t.dev

/-- A command completes: from every device in which `pre` holds it answers a next state, with the waiting commands as
they were and `post` between the device before and the device after. -/
def Completes (c : Instr) (pre : Dev → Prop) (post : Dev → Dev → Prop) : Prop :=
  ∀ s, pre s.dev → ∃ t, exec c s = .next t ∧ t.pending = s.pending ∧ post s.dev t.dev

/-! ### The instructions of a core -/

/-- The operation and the dispatch of a command that is an instruction of a core. -/
def issueOf : Instr → Option (Op × Issue)
  | .loads i => some (.loads, i) | .stream i => some (.stream, i) | .emit i => some (.emit, i)
  | .nop i => some (.nop, i) | .halt i => some (.halt, i) | .pause i => some (.pause, i) | .spawn i => some (.spawn, i)
  | .br i => some (.br, i) | .brz i => some (.brz, i) | .brnz i => some (.brnz, i) | .brlt i => some (.brlt, i)
  | .tli i => some (.tli, i) | .tadd i => some (.tadd, i) | .tmul i => some (.tmul, i) | .tand i => some (.tand, i)
  | .tor i => some (.tor, i) | .tshl i => some (.tshl, i) | .tshr i => some (.tshr, i) | .tld i => some (.tld, i)
  | .tst i => some (.tst, i) | .rdtime i => some (.rdtime, i) | .rdcnt i => some (.rdcnt, i)
  | .vadd i => some (.vadd, i) | .vsub i => some (.vsub, i) | .vmul i => some (.vmul, i) | .vfma i => some (.vfma, i)
  | .vmax i => some (.vmax, i) | .vmin i => some (.vmin, i) | .vscale i => some (.vscale, i) | .vcvt i => some (.vcvt, i)
  | .vexp i => some (.vexp, i) | .vrecip i => some (.vrecip, i) | .vrsqrt i => some (.vrsqrt, i)
  | .vsilu i => some (.vsilu, i) | .vgate i => some (.vgate, i) | .vrsum i => some (.vrsum, i)
  | .vrmax i => some (.vrmax, i) | .vlsum i => some (.vlsum, i) | .vlmax i => some (.vlmax, i) | .attn i => some (.attn, i)
  | .dma i => some (.dma, i) | .signal i => some (.signal, i) | .wait i => some (.wait, i) | .fence i => some (.fence, i)
  | .gld i => some (.gld, i) | .gst i => some (.gst, i) | .gatom i => some (.gatom, i) | .coll i => some (.coll, i)
  | _ => none

namespace Dev

/-- R96: the thread may dispatch, in its turn of the round-robin order, nothing being known yet of its instruction. -/
def ready (d : Dev) (i : Issue) : Bool :=
  d.eligible i.core i.thread && !d.overtakes i && !(d.thread i.core i.thread).pastEnd

/-- The instruction at a thread's PC decodes to `x`, a `want`, and its fetch finds no uncorrectable error. -/
def fetches (d : Dev) (want : Op) (i : Issue) (x : Ins) : Bool :=
  decide (i.fetch ≠ .uncorrectable)
    && decide (decodeIns (d.fetchWord i.core (d.pc i.core i.thread)) = some x) && decide (x.op = want)

/-- R96, R111 to R114: a thread may dispatch its next instruction, the `want` named `x`, and nothing refuses it. -/
def mayIssue (d : Dev) (want : Op) (i : Issue) (x : Ins) : Bool :=
  d.ready i && d.fetches want i x && !d.queueFull i.core x && !(x.needsNdet && !x.ndet)
    && d.addrsOk i.core i.thread x

/-- R98, R144: the thread goes on at the next instruction, or has passed the last one. -/
def wentOn (i : Issue) (d e : Dev) : Prop :=
  if d.pc i.core i.thread = 65535 then
    (e.thread i.core i.thread).pastEnd = true ∧ e.pc i.core i.thread = 65535
  else
    e.pc i.core i.thread = d.pc i.core i.thread + 1
      ∧ (e.thread i.core i.thread).pastEnd = (d.thread i.core i.thread).pastEnd

/-- R96, R104, R114: an instruction has been dispatched: it has taken the next sequence number and been counted if it
carries NDET = 1. No thread but those of `ts` and no queue but those of `qs` is changed, no register but those of `rs`,
and no other part but those of `ps`. -/
def issued (ts qs : List (Nat × Nat)) (rs : List RegKey) (ps : List Part) (i : Issue) (x : Ins) (d e : Dev) : Prop :=
  e.nextSeq i.core = (d.nextSeq i.core + 1) % 2 ^ 64
    ∧ e.gf F.CORE_NDET_CNT.COUNT i.core = (d.gf F.CORE_NDET_CNT.COUNT i.core + (if x.ndet then 1 else 0)) % 2 ^ 64
    ∧ (∀ c t, (c, t) ∉ ts → e.thread c t = d.thread c t)
    ∧ (∀ c q, (c, q) ∉ qs → e.queue c q = d.queue c q)
    ∧ Only (rs ++ [⟨.CORE_DISPATCH_SEQ, i.core, 0, 0⟩, ⟨.CORE_NDET_CNT, i.core, 0, 0⟩])
        (ps ++ .cores :: eccParts i.fetch) d e

/-- The register of a thread's PC. -/
def pcKey (i : Issue) : RegKey := ⟨.CORE_THREAD_n_PC, i.core, i.thread, 0⟩

/-- R127: a CTRL instruction has put a value into T[TD], which for T0 is discarded, and its thread goes on. -/
def putsT (ps : List Part) (i : Issue) (x : Ins) (v : Nat) (d e : Dev) : Prop :=
  e.treg i.core i.thread x.ctd = (if x.ctd = 0 then 0 else v % 2 ^ 64)
    ∧ wentOn i d e ∧ (e.thread i.core i.thread).st = (d.thread i.core i.thread).st
    ∧ issued [(i.core, i.thread)] []
        (pcKey i :: if x.ctd = 0 then [] else [⟨.CORE_THREAD_n_T_m, i.core, i.thread, x.ctd⟩]) ps i x d e

/-- R104: an instruction has been placed at the tail of queue `q` and its thread, now in state `st`, goes on; nothing
has started yet. -/
def placed (q : Nat) (op : QOp) (st : ThreadSt) (i : Issue) (x : Ins) (d m : Dev) : Prop :=
  m.queue i.core q = d.queue i.core q ++
      [{ seq := d.nextSeq i.core, thread := i.thread, pc := d.pc i.core i.thread, op := op
         sig := if x.sig then some x.cnt else none, ecc := i.data }]
    ∧ wentOn i d m ∧ (m.thread i.core i.thread).st = st
    ∧ issued [(i.core, i.thread)] [(i.core, q)] [pcKey i] [] i x d m

/-- The memory and the address in it that a store address of core c names (R99). -/
def storeCell (c a : Nat) : Part × Nat :=
  if a < 0x0800000 then (.coreStore, c * 2 ^ 23 + a)
  else if a < 0x1000000 then (.imem, c * 2 ^ 20 + (a - 0x0900000))
  else (.clusterStore, c / 4 * 2 ^ 24 + (a - 0x1000000))

/-- A byte of one of the memories of the C-dies. -/
def cell (d : Dev) : Part → Nat → Byte
  | .coreStore, a => d.coreByte a
  | .clusterStore, a => d.clusterByte a
  | .imem, a => d.imemByte a
  | _, _ => 0

/-- Every byte of the memories of the C-dies but the `n` bytes from store address `a` of core `c` reads as before. -/
def storesOnly (c a n : Nat) (d e : Dev) : Prop :=
  ∀ m b, (m, b) ∉ (List.range n).map (fun k => storeCell c (a + k)) → e.cell m b = d.cell m b

/-- Every queue of a core is empty. -/
def queuesEmpty (d : Dev) (c : Nat) : Bool := (List.range 8).all fun q => (d.queue c q).isEmpty

/-- R200: no numeric exception of a core stops it. -/
def noNumericStop (d : Dev) (c : Nat) : Bool :=
  !d.on F.CORE_NUM_CTRL.MXNAN_STOP c && !d.on F.CORE_NUM_CTRL.INVALID_STOP c && !d.on F.CORE_NUM_CTRL.OVERFLOW_STOP c

/-- Two byte ranges have no byte in common. -/
def apart (a n b m : Nat) : Bool := decide (a + n ≤ b) || decide (b + m ≤ a)

/-- R120: no vector of D that a VEC operation writes overlaps a vector of A or B that it reads later. -/
def hazardFree (d : Dev) (i : Issue) (x : Ins) : Bool :=
  let b := d.idxBase i.core i.thread x
  x.op.reduces || (List.range x.len).all fun k => (List.range k).all fun k' =>
    apart (x.vd + b + k' * vecBytes x.td) (vecBytes x.td) (x.va + b + k * vecBytes x.ta) (vecBytes x.ta)
      && (!x.op.readsB || apart (x.vd + b + k' * vecBytes x.td) (vecBytes x.td) (x.vb + b + k * vecBytes x.tb) (vecBytes x.tb))

/-- Lane j of vector k of an operand at a store address, widened to binary32 (R189). -/
def vecLaneIn (d : Dev) (i : Issue) (t a k j : Nat) : Nat :=
  widen t (leNat (d.rdStore i.core (a + k * vecBytes t + (elemFmt t).bytes * j) (elemFmt t).bytes))

/-- R192 to R195: lane j of result vector k of a VEC operation, in binary32. -/
def vecLaneResult (d : Dev) (i : Issue) (x : Ins) (k j : Nat) : Nat :=
  let b := d.idxBase i.core i.thread x
  let a (k j : Nat) : Nat := d.vecLaneIn i x.ta (x.va + b) k j
  match x.op with
  | .vlsum => if j = 0 then (treeFold add32 8 ((List.range 256).map (a k))).1 else 0
  | .vlmax => if j = 0 then (treeFold (fun p q => (max32 p q, false)) 8 ((List.range 256).map (a k))).1 else 0
  | .vrsum => ((List.range x.len).drop 1).foldl (fun s n => (add32 s (a n j)).1) (a 0 j)
  | .vrmax => ((List.range x.len).drop 1).foldl (fun s n => max32 s (a n j)) (a 0 j)
  | op => (vecLane op (d.treg i.core i.thread x.ts % 2 ^ 32) (a k j)
      (if op.readsB then d.vecLaneIn i x.tb (x.vb + b) k j else 0)
      (if op = .vfma then d.vecLaneIn i x.td (x.vd + b) k j else 0)).1

/-- R137, R138, R139, R499: a core has stopped by its first fault since CLEAR_FAULT, with a code, at an instruction of a
thread. -/
def stopsCore (i : Issue) (code pc seq : Nat) (d e : Dev) : Prop :=
  (e.core i.core).faulted = true
    ∧ e.gf F.CORE_FAULT_STAT.CODE i.core = code
    ∧ e.gf F.CORE_FAULT_STAT.THREAD i.core = i.thread
    ∧ e.gf F.CORE_FAULT_STAT.PC i.core = pc
    ∧ e.gf F.CORE_FAULT_STAT.QUEUE i.core = 0xF
    ∧ e.gf F.CORE_FAULT_STAT.MULTI i.core = 0
    ∧ e.gf F.CORE_FAULT_SEQ.SEQ i.core = seq
    ∧ (e.thread i.core i.thread).st = .faulted
    ∧ (∀ t, t < 16 → t ≠ i.thread → (d.thread i.core t).st ≠ .halted → (d.thread i.core t).st ≠ .faulted →
        (e.thread i.core t).st = .stopped)
    ∧ (∀ q, q < 8 → ∀ y ∈ e.queue i.core q, y.started = true)
    ∧ (∀ m b, e.cell m b = d.cell m b)
    ∧ getBits (e.reg ⟨.INT_PEND_SET_k, 0, (256 + 32 * (i.core / 16) + i.core % 16) / 64, 0⟩)
        ((256 + 32 * (i.core / 16) + i.core % 16) % 64) ((256 + 32 * (i.core / 16) + i.core % 16) % 64) = 1

end Dev

/-! ### Register commands -/

/-- What the keeping of a changed setting in the Ephemeris changes (R527, R534), and the answer of a command. -/
def cmdParts : List Part := [.answer, .eph, .reg .EPH_ERR_CNT, .reg .BOOT_FW_STAT] ++ logParts

/-- A register whose write does no more than R5 and R6 say: no action hangs on it. -/
def plainReg : RegName → Bool
  | .CORE_CTRL | .CORE_PREEMPT_CTRL | .CORE_THREAD_n_PC | .CORE_THREAD_n_CTRL | .CORE_THREAD_n_T_m | .CORE_NUM_CTRL
  | .CORE_SR_SEED | .CORE_SPEC_k_CTRL | .CORE_SPEC_k_LO | .CORE_SPEC_k_HI | .SYN_CNT_n | .SYN_CNT_n_ADD
  | .CLU_SWAP_CTRL | .HBM_MAPOUT_CTRL | .MSC_CTRL | .GAS_REGION_FENCE | .GAS_REPLY_PURGE | .GAS_QUERY_CTRL
  | .GAS_UNSETTLED_n_TAG | .GAS_UNSETTLED_n_EPOCH | .GAS_UNSETTLED_n_SEQ | .GAS_UNSETTLED_n_TIME | .GAS_REGION_n_BASE
  | .GAS_REGION_n_LIMIT | .GAS_REGION_n_ATTR | .XFB_COORD_OVERRIDE | .XFB_PART_b | .XFB_ROUTE_b_d_h | .XFB_EXC_b_n
  | .XFB_TABLE_CTRL | .XFB_VC_WEIGHT | .XFB_RATE_CTRL | .XFB_TRANSIT_n_PATH | .XFB_TRANSIT_n_CTRL | .OPT_PORT_n_CTRL
  | .COL_GROUP_n_CFG | .COL_GROUP_n_BOX | .COL_GROUP_n_LIST | .COL_GROUP_n_ROLE | .COL_GROUP_n_RXBUF
  | .COL_GROUP_n_CTRL | .SYN_MERIDIAN_TICK | .SYN_MERIDIAN_CTRL | .DLK_LINK_n_CTRL | .HLK_CTRL | .INT_PEND_SET_k
  | .INT_PEND_CLR_k | .INT_MASK_SET_k | .INT_MASK_CLR_k | .INT_TGT_t_EOI | .INT_SRC_n_CFG | .BOOT_CTRL
  | .BOOT_DIE_RESET | .BOOT_FW_CTRL | .BOOT_WATCHDOG | .EPH_CTRL | .SEC_ATTEST_CTRL | .DBG_CTRL | .DBG_MCORE_m_CTRL
  | .PWR_CTRL | .CLK_ISLAND_n_CTRL | .LOG_CTRL | .SAFE_ACCUSE | .SAFE_OCCULT_CTRL | .SAFE_HEALTH_CTRL | .SAFE_LS_CTRL
  | .SAFE_FL_CTRL | .SAFE_PLATE_CTRL | .SAFE_HEALTH_u => false
  | _ => true

namespace Dev

/-- A write by a management core to a register is done: nothing refuses it (R519, R564), the register's unit is powered
(R591), the register is marked runtime or the start is not complete (R4), and no copy to a spare core holds it (R85). -/
def accepts (d : Dev) (k : RegKey) : Bool :=
  !(decide (d.boot.step = BootStep.failed) && !isMdie k) && !(isMcore k && d.regServed k && !d.mcoreMay)
    && d.regServed k.home && (!d.started || k.name.info.runtime)
    && (match coreOf k with
      | some c => !d.copying c
      | none => true)

/-- A register command has been done and answered without a code; it has changed no register but those of `rs` and no
other part but those of `ps` and of `cmdParts`. -/
def did (rs : List RegKey) (ps : List Part) (d e : Dev) : Prop := e.answer.code = 0 ∧ Only rs (ps ++ cmdParts) d e

/-- No thread but those of `ts` and no queue is changed, and no core but `c` in anything else. -/
def coreOnly (c : Nat) (ts : List Nat) (d e : Dev) : Prop :=
  (∀ c', c' ≠ c → e.core c' = d.core c') ∧ (∀ t, t ∉ ts → e.thread c t = d.thread c t)
    ∧ (∀ q, e.queue c q = d.queue c q)

/-- R450: an error count has been raised by n, up to its largest value. -/
def counted (f : Fld) (n u i : Nat) (d e : Dev) : Prop :=
  e.gf f u i = min (2 ^ (f.hi + 1 - f.lo) - 1) (d.gf f u i + n)

/-- A byte range of HBM, in which nothing holds an access back (R216, R240, R491) and no unit is poisoned (R224). -/
def hbmFree (d : Dev) (a n : Nat) (write : Bool) : Bool :=
  decide (d.areaOf a n = some .hbm) && !d.behind (a, n)
    && (unitsOf a n).all fun u => !d.dirConflict u write && !d.frameBusy u && !d.isPoison u

/-! ### The start (R550 to R560) -/

/-- R559: the floor of a TYPE in the floor log as this device knows it. -/
def floorOf (d : Dev) (kind : Nat) : Nat := d.floorAmong (d.eph.records.floors.map fun e => e.2) kind

/-- R550 to R552: an image that a role-1 certificate of the chain signs, whose header is as it must be and whose SVN
is not below the floor. -/
def startable (d : Dev) (x : FwImage) : Bool :=
  decide (d.itemFault 1 (fun c => decide (c.role = 1)) x.sig = none) && imageFits x && decide (d.floorOf 1 ≤ x.svn)

/-- R560: a floor record that verifies for this module and raises the floor of its TYPE. -/
def raisesFloor (d : Dev) (f : FloorRec) : Bool :=
  d.floorOk f && serialHere f.serial
    && decide (d.floorAmong (d.eph.records.log0 ++ d.eph.records.log1 ++ d.eph.heldFloors) f.kind < f.floor)

/-! ### Packets -/

/-- The packets on their way from this device's units are those of another device. -/
def sameTraffic (m e : Dev) : Prop := e.inside = m.inside ∧ e.held = m.held ∧ e.injected = m.injected

/-- From `d` to `e` one packet has been sent, as the device `e` sends it. -/
def sent (q : Packet) (d e : Dev) : Prop :=
  sameTraffic ({ e with inside := d.inside, held := d.held, injected := d.injected }.send q) e

/-- A packet has been taken in and answered. -/
def answered (p : Packet) (type : Nat) (payload : List Byte) (d e : Dev) : Prop :=
  sameTraffic ({ e with
    inside := (d.consume p).inside, held := d.held, injected := (d.consume p).injected }.answerTo p type payload) e

/-- A packet has been taken in and refused with a code. -/
def refused (p : Packet) (code : Nat) (d e : Dev) : Prop :=
  sameTraffic ({ e with
    inside := (d.consume p).inside, held := d.held, injected := (d.consume p).injected }.refuse p code) e

/-- R265, R266, R268, R311: a request of a type is taken by this device. -/
def takesRequest (d : Dev) (p : Packet) (type : Nat) : Bool :=
  d.comesIn p type && !d.occulted && decide (p.partition = d.partition) && !d.unaligned p && !d.stale p

/-- R250: a request that passes the target's checks. -/
def grants (d : Dev) (p : Packet) (type : Nat) : Bool := d.takesRequest p type && decide ((d.checkAccess p).1 = 0)

/-- A reply of a type answers an outstanding request of this device. -/
def answers (d : Dev) (p : Packet) (type : Nat) (kinds : List ReqKind) (r : Req) : Bool :=
  d.comesIn p type && !d.occulted && decide (d.reqOf p kinds = some r)

/-- R85: no core is under copy to its spare. -/
def noCopy (d : Dev) : Bool := (List.range 128).all fun c => !d.copying c

/-- The bytes of HBM that a request's write leaves: its own within its span, and the others as before. -/
def hbmTakes (o : Nat) (bs : List Byte) (d e : Dev) : Prop :=
  ∀ a, e.hbmByte a = if o ≤ a ∧ a < o + bs.length then bs.getD (a - o) 0 else d.hbmByte a

/-! ### Collectives -/

/-- R137, R140, R410, R412: a COLL faults and stops its core, which had no fault, with a code and a DETAIL. -/
def collFaulted (i : CollInst) (code detail : Nat) (e : Dev) : Prop :=
  (e.core i.core).faulted = true ∧ e.gf F.CORE_FAULT_STAT.CODE i.core = code
    ∧ e.gf F.CORE_FAULT_STAT.DETAIL i.core = detail ∧ e.gf F.CORE_FAULT_STAT.QUEUE i.core = 7
    ∧ e.gf F.CORE_FAULT_STAT.THREAD i.core = i.thread % 16 ∧ e.gf F.CORE_FAULT_STAT.PC i.core = i.pc % 2 ^ 16
    ∧ e.gf F.CORE_FAULT_SEQ.SEQ i.core = i.seq % 2 ^ 64 ∧ e.gf F.CORE_PCMAP_INFO.KIND i.core = 4

/-- R383, R384: the instance that a slot starts next, and its descriptor. -/
def collNext (d : Dev) (n : Nat) (i : CollInst) (b : List Byte) (y : CollDesc) : Bool :=
  decide ((NMap.get [] d.collq n).head? = some i) && (d.runOf n).isNone && d.on F.COL_GROUP_n_CFG.VALID 0 n
    && decide (d.gf F.COL_GROUP_n_CFG.HOME_CORE 0 n = i.core) && decide (b = d.rdStore i.core i.addr 64)
    && decide (y = collDescOf b)

/-- R386, R391, R412: nothing refuses the instance, which runs by an algorithm. -/
def collGood (d : Dev) (n : Nat) (i : CollInst) (b : List Byte) (y : CollDesc) (a : CollAlgo) : Bool :=
  d.collNext n i b y && (decide (d.gf F.COL_GROUP_n_CTRL.CLOSE_CODE 0 n = 0) || decide (y.op = 6))
    && decide (collAlgo y (d.gf F.COL_CTRL.TREE_MAX_LOG2) (d.geo n).list = some a) && !collBadDesc y b (d.geo n) (some a)
    && (!y.order || i.ndet) && (decide (srcBytes y (d.geo n) = 0) || d.bufferOk y.src (srcBytes y (d.geo n)))
    && (decide (dstBytes y (d.geo n) = 0) || d.bufferOk y.dst (dstBytes y (d.geo n)))
    && !(d.bufWaits y.src (srcBytes y (d.geo n)) false).1

/-- A COLL packet of a kind for a slot of this device whose running instance is `r`, from the member of rank `k`. -/
def collIn (d : Dev) (p : Packet) (kind n : Nat) (r : CollRun) (k : Nat) : Bool :=
  decide (d.collFor p kind = some n) && decide (d.runOf n = some r) && decide (p.cInst = r.num % 2 ^ 24)
    && decide (d.rankOf n p.src = some k)

/-- R262, R413: a COLL data packet has been taken in and acknowledged. -/
def collAckedIn (p : Packet) (d e : Dev) : Prop :=
  sameTraffic ({ e with
    inside := (d.consume p).inside, held := d.held, injected := (d.consume p).injected }.ackColl p) e

/-- A COLL packet has been kept for a phase or an instance that this member has not reached. -/
def keptEarly (n : Nat) (p : Packet) (d e : Dev) : Prop :=
  e.collSlot n = { d.collSlot n with
    early := if (d.collSlot n).early.contains p then (d.collSlot n).early else (d.collSlot n).early ++ [p] }

/-- R410, R411: the running instance of a slot has stopped with a code. -/
def collStopped (n code : Nat) (suspect : Option Nat) (r : CollRun) (d e : Dev) : Prop :=
  e.runOf n = some { r with phase := .abort code, suspect := suspect, sends := [] }
    ∧ e.gf F.COL_GROUP_n_STAT.STATE 0 n = 3 ∧ e.isPending 578 = true
    ∧ e.hbm = d.hbm ∧ e.coreStore = d.coreStore ∧ e.clusterStore = d.clusterStore
    ∧ ∀ q ∈ e.reqs, q ∈ d.reqs

/-! ### Links -/

/-- R457, R465: a link has gone to retraining from full width; `ps` are other parts that have changed with it. -/
def retrained (n : Nat) (ps : List Part) (d e : Dev) : Prop :=
  e.linkState n = 1 ∧ counted F.DLK_LINK_n_ERR.RETRAIN_CNT 1 0 n d e
    ∧ e.gf F.DLK_LINK_n_STAT.LAST_CODE 0 n = Code.DLK_RETRAIN ∧ (e.link n).accepted = none ∧ (e.link n).again = false
    ∧ (e.link n).passed = (d.link n).passed
    ∧ Only [⟨.DLK_LINK_n_STAT, 0, n, 0⟩, ⟨.DLK_LINK_n_ERR, 0, n, 0⟩, ⟨.DLK_LINK_n_CTRL, 0, n, 0⟩,
        ⟨.DLK_LINK_n_FRAMES, 0, n, 0⟩] (ps ++ .dlk :: (cmdParts ++ scoreParts)) d e

/-! ### The Perdun link -/

/-- R481 to R483: a message of an operation that is taken on arrival: the link is in service, the message is the next
one in order and well formed, and its credits are held. -/
def hlkTakes (d : Dev) (m : HlkMsg) (cls op : Nat) : Bool :=
  decide (m.cls = cls) && decide (m.op = op) && d.hlkUp
    && !(decide (d.gf F.HLK_STAT.STATE = 4) && [HC.snp, HC.rsp].contains cls) && decide (m.lseq % 2 ^ 32 = d.hlk.rxNext)
    && wellFormedMsg m && decide (hlkFlits m ≤ d.hlk.granted.getD cls 0) && decide (d.hlk.early = [])

/-- R482, R483: the link's side with a message taken in: what LACK covers is no longer kept, and the message has used
its credits. -/
def hlkTaken (d : Dev) (m : HlkMsg) : Dev :=
  (d.ackUpTo m.lack).modHlk fun h =>
    { h with rxNext := (h.rxNext + 1) % 2 ^ 32, granted := h.granted.set m.cls (h.granted.getD m.cls 0 - hlkFlits m) }

/-- The link's side is that of a device, but for the directory, with the credits of a message returned. -/
def hlkDone (m : HlkMsg) (x e : Dev) : Prop :=
  e.hlk = { ((x.freeCredits m).hlkPump).hlk with dir := e.hlk.dir }

/-- A request of the companion has been taken in and answered. -/
def hlkAnswered (m : HlkMsg) (op code : Nat) (payload : List Byte) (d e : Dev) : Prop :=
  hlkDone m ((d.hlkTaken m).respond m op code payload) e

/-- A message of the companion has been taken in, and nothing but its credits goes back. -/
def hlkSilent (m : HlkMsg) (d e : Dev) : Prop := hlkDone m (d.hlkTaken m) e

/-- R490: a companion request that nothing refuses or holds. -/
def hlkGrants (d : Dev) (m : HlkMsg) (op : Nat) : Bool :=
  d.hlkTakes m 0 op && decide ((d.checkReq m).1 = 0) && !d.behind (reqOffset m, reqBytes m)
    && (d.heldReg (reqOffset m - 0x3F0000000000)).isNone && (d.copyingAt (reqOffset m) (reqBytes m)).isNone
    && d.mem.lines.all fun l => l.comp.isNone

/-- Every access that waits is a request of the companion. -/
def onlyMessagesWait (d : Dev) : Bool := d.mem.held.all fun w => match w with
  | .message _ => true
  | _ => false

/-- Nothing waits for a frame copy, a recall or a companion line. -/
def nothingWaits (d : Dev) : Bool := d.mem.held.isEmpty && d.mem.returns.isEmpty

/-- The registers of the link's traffic counts. -/
def hlkCounts : List RegKey := [⟨.HLK_RX_CNT, 0, 0, 0⟩, ⟨.HLK_TX_CNT, 0, 0, 0⟩]

/-- R496: the link has left service. -/
def hlkGone (d e : Dev) : Prop :=
  e.hlkUp = false ∧ e.isPending 688 = true ∧ e.hlk.dir = [] ∧ e.hlk.reqs = [] ∧ e.mem.jobs = [] ∧ e.nothingWaits = true
    ∧ (∀ l ∈ e.mem.lines, l.comp = none) ∧ (∀ l ∈ d.hlk.dir, l.owned = true → e.isPoison l.unit = true)
    ∧ (∀ c, c < 128 → ∀ g ∈ (e.core c).signals, g.dest ≠ 3)
    ∧ counted F.HLK_ERR_CNT.LOST_CNT
        ((d.mem.lines.filter fun l => decide (l.comp = some .m)).length + (d.hlk.dir.filter fun l => l.owned).length) 0 0 d e
    ∧ ∀ t, e.runningAt t = if t < 4 then d.runningAt t else []

/-- An access that waited for the companion has been answered with bytes, or refused with a code. -/
def jobServed (j : WinJob) (code : Nat) (bytes : List Byte) (d e : Dev) : Prop :=
  sameTraffic ((fun x : Dev => if code = 0 then x.served j.pkt bytes else x.refuse j.pkt code)
    { e with inside := d.inside, held := d.held, injected := d.injected }) e

/-- A report has reached the logbook: it is what `report` makes of it (R609 to R612). -/
def reported (r : Report) (d e : Dev) : Prop :=
  e.log = (d.report r).log ∧ e.gf F.LOG_DROPPED.DROPPED = (d.report r).gf F.LOG_DROPPED.DROPPED

/-- The registers that show at a start what the always-on domain holds beside them (R512, R513, R535, R593, R655). -/
def startRegs : List RegName :=
  [.BOOT_STAT, .BOOT_STRAP, .CLK_STAT, .PWR_STAT, .THM_STAT, .SAFE_MON_STAT, .GAS_REPLY_STAT, .CLU_CORE_MAP]

end Dev

/-- The canonical form of a memory of the C-dies: addresses strictly rising, and no entry that reads as an unlisted
one. -/
def storeWf (u : List (Nat × Nat × Nat)) (m : NMap Byte) : Bool := FMap.wf natLt (Dev.storeDflt u) m

/-- Every memory of the device is in canonical form. -/
def Dev.memoryWf (d : Dev) : Prop :=
  storeWf d.unspecCore d.coreStore = true ∧ storeWf d.unspecCluster d.clusterStore = true
    ∧ storeWf d.unspecImem d.imem = true ∧ NMap.wf 0 d.hbm = true

/-- The register file is in canonical form: a register that holds its reset value is not listed. -/
def Dev.regsWf (d : Dev) : Prop := FMap.wf RegKey.lt RegKey.reset d.regs = true

end Sys2Proof.Machine
end

