-- ==== Sys2Proof/Certificates/Slice0/Obligations.lean ====
section
/-! DEFINITION. The statements: what the commands of each chapter do and what they leave unchanged, the machine's step, its
state after reset, and the forms that every step keeps. -/

open Sys2Proof Sys2Proof.Machine

/-- With command `c` at the front of the queue, a step is `exec c` on the device with the queue's rest. -/
def Obligations.StepRunsFrontCommand : Prop :=
  ∀ (c : Instr) (rest : List Instr) (s : State), s.pending = c :: rest → step s = exec c { s with pending := rest }

/-- With no command waiting, a step answers a next state in which the Chronograph has advanced by the trimmed step of one nanosecond;
only what is sent by the faces, the optical ports and the package links can change beside it, and while no port is in service, no
link is up or in standby and no packet waits in the router, nothing does. A face that is up sends the packet that its output queues
give next (R325) and counts its flits, and a port in service sends its next group. That a step without a command is a nanosecond, in which
each of these sends once, is the model's choice (log entry 1). -/
def Obligations.IdleStep : Prop :=
  ∀ s : State, s.pending = [] → ∃ t, step s = .next t ∧ t.pending = []
    ∧ t.dev.chrono = s.dev.chrono + ((s.dev.time.frac : Int) + 2 ^ 40 + s.dev.time.trim).toNat / 2 ^ 40
    ∧ t.dev.time.frac = ((s.dev.time.frac : Int) + 2 ^ 40 + s.dev.time.trim).toNat % 2 ^ 40
    ∧ Keeps (changes [logParts, trafficParts] [.chrono, .time, .fab, .ports, .hlk, .dlk, .freeIx]
        [.XFB_FACE_f_TX_CNT, .XFB_FACE_f_CE_CNT, .XFB_DROP_CNT]) s.dev t.dev
    ∧ ((∀ e ∈ s.dev.ports, e.2.step ≠ .up ∧ e.2.step ≠ .keepAlive) → (∀ n, n < 31 → s.dev.linkState n ≠ 3 ∧ s.dev.linkState n ≠ 4) →
        s.dev.fab.out = [] → s.dev.fab.router = [] → Keeps [.chrono, .time] s.dev t.dev)
    ∧ (∀ f q o, f < 6 → s.dev.faceUp f = true → s.dev.nextOut f = some (q, o) → (∀ x ∈ s.dev.fab.out, x.face = f) →
        s.dev.fab.router = [] → t.dev.fab.out = s.dev.fab.out.erase q ∧ t.dev.fab.sent = s.dev.fab.sent ++ [(f, q.pkt)]
          ∧ t.dev.gf F.XFB_FACE_f_TX_CNT.FLITS 0 f
            = (s.dev.gf F.XFB_FACE_f_TX_CNT.FLITS 0 f + q.pkt.flits) % 2 ^ (F.XFB_FACE_f_TX_CNT.FLITS.hi + 1 - F.XFB_FACE_f_TX_CNT.FLITS.lo))
    ∧ (∀ p n, p < 6 → portExists p n = true → (s.dev.port p n).step = .up → (s.dev.port p n).again = [] →
        (t.dev.port p n).gseq = ((s.dev.port p n).gseq + 1) % 2 ^ 24
          ∧ (t.dev.port p n).mail = (s.dev.port p n).mail.drop 1)

/-- Every command answers a next state from every state, with the waiting commands as they were: what the device refuses, it
refuses as the manual says, with a code and a record. So every step of every state answers a next state.
Where the manual leaves a detail open, the clauses rest on the model's choices of log entry 5. -/
def Obligations.NothingStops : Prop :=
  (∀ (c : Instr) (s : State), ∃ t, exec c s = .next t ∧ t.pending = s.pending) ∧ ∀ s : State, ∃ t, step s = .next t

/-- After reset no command waits, every register reads its Reset value, every thread is HALTED with PC 0 and the core's next sequence
number is 0, the synchronisation counters are 0, the Chronograph is 0, every queue is empty, and the memories and the register file are
in canonical form. That an unwritten byte of a store or of HBM reads 0 there is the model's choice (log entry 2).
Where the manual leaves a detail open, the clauses rest on the model's choices of log entries 2, 55, 57, 65 and 66. -/
def Obligations.ResetState : Prop :=
  State.reset.pending = [] ∧ (∀ k, State.reset.dev.reg k = k.reset)
    ∧ (∀ c t, (State.reset.dev.thread c t).st = .halted ∧ State.reset.dev.pc c t = 0 ∧ State.reset.dev.nextSeq c = 0)
    ∧ (∀ c n, State.reset.dev.cntC c n = 0) ∧ State.reset.dev.chrono = 0
    ∧ (∀ c q, State.reset.dev.queue c q = [])
    ∧ (∀ m a, State.reset.dev.cell m a = 0) ∧ (∀ a, NMap.get 0 State.reset.dev.hbm a = 0)
    ∧ State.reset.dev.memoryWf ∧ State.reset.dev.regsWf

/-- From any state whose memories (the core stores, the cluster stores, the instruction memories and HBM) are in canonical form, with
addresses strictly rising and no entry equal to what an unlisted address reads as, a step leads to a state whose memories are
in canonical form, whichever command it runs.
Where the manual leaves a detail open, the clauses rest on the model's choices of log entry 2. -/
def Obligations.MemoriesStayCanonical : Prop :=
  ∀ s t : State, s.dev.memoryWf → step s = .next t → t.dev.memoryWf

/-- From any state whose register file is in canonical form, with registers in strictly rising order and none listed that holds
its Reset value, a step leads to a state whose register file is in canonical form, whichever command it runs.
Where the manual leaves a detail open, the clauses rest on the model's choices of log entry 65. -/
def Obligations.RegistersStayCanonical : Prop :=
  ∀ s t : State, s.dev.regsWf → step s = .next t → t.dev.regsWf

/-- When a cold start begins, by a rise of PGOOD_IN or at the end of the hold that follows a shutdown with two converters or more in service, every field whose Keep
class is not E reads its Reset value, in every register but eight: those that report the start, its strap, the Guide Star, the power
path, the flash window, the residue check, the reply cache and the core map.
Where the manual leaves a detail open, the clauses rest on the model's choices of log entries 57 and 65. -/
def Obligations.ColdStartRegisters : Prop :=
  (∀ (st : Fin 8) (vin : Fin 65536) (k : RegKey), ∀ f ∈ k.name.fields, Completes (.pgoodInRise st vin)
      (fun d => d.power.pgoodIn = false ∧ d.power.aux = true ∧ d.power.stageOne = false ∧ d.power.path = none
        ∧ d.power.closed = true ∧ d.power.hold = false ∧ d.power.hot = false ∧ 4800 ≤ vin.val ∧ vin.val ≤ 6400 ∧ f.keep ≠ .e
        ∧ k.name ∉ Dev.startRegs) fun _ e =>
        getBits (e.reg k) f.hi f.lo = fieldReset k f % 2 ^ (f.hi + 1 - f.lo))
  ∧ (∀ (k : RegKey), ∀ f ∈ k.name.fields, Completes .stageOneHoldExpiry
      (fun d => d.boot.step = .hold ∧ d.power.path = none ∧ d.power.failed ≤ 3 ∧ f.keep ≠ .e ∧ k.name ∉ Dev.startRegs) fun _ e =>
        getBits (e.reg k) f.hi f.lo = fieldReset k f % 2 ^ (f.hi + 1 - f.lo))

/-- REQ of CLU_SWAP_CTRL, whatever its MODE and logical core, while the cluster has a swap in progress: CODE becomes
CLU_SWAP_CANCELLED, the refusal is logged and the cluster's interrupt source is set, and the swap in progress, its STATE and every
core stay as they are. -/
def Obligations.SwapRequestWhileSwapping : Prop :=
  ∀ (k : Fin 32) (mode l : Fin 4) (x : Swap), Completes (.cluSwapReq k mode l)
    (fun d => d.accepts ⟨.CLU_SWAP_CTRL, k, 0, 0⟩ = true ∧ d.swapOf k = some x) fun d e =>
      e.swapOf k = some x ∧ e.swaps = d.swaps ∧ e.gf F.CLU_SWAP_STAT.CODE k = Code.CLU_SWAP_CANCELLED
        ∧ e.gf F.CLU_SWAP_STAT.STATE k = d.gf F.CLU_SWAP_STAT.STATE k ∧ e.isPending (Dev.swapSource k) = true
        ∧ Dev.reported { code := Code.CLU_SWAP_CANCELLED, source := srcOf (k / 4) 0xFFFF, d0 := k, d1 := 0, device := d.self } d e
        ∧ Dev.did [⟨.CLU_SWAP_CTRL, k, 0, 0⟩, ⟨.CLU_SWAP_STAT, k, 0, 0⟩, ⟨.INT_PEND_SET_k, 0, Dev.swapSource k / 64, 0⟩] [] d e

/-- EXTEST with the test access port powered, while the power state is not P3 and the device is neither Off nor in recovery: the
boundary-scan registers, the pins and every other part of the management side stay as they are, and the attempt is reported to
the logbook. -/
def Obligations.ExtestOutsideStandby : Prop :=
  ∀ pins scan, Completes (.jtagExtest pins scan) (fun d => d.power.aux = true ∧ d.gf F.PWR_STAT.STATE ≠ 3 ∧ d.boot.step ≠ .off ∧ d.boot.step ≠ .recovery)
    fun d e => e.mgmt = d.mgmt
      ∧ Dev.reported { code := Code.DBG_ACCESS_REFUSED, source := srcOf dieM 0xFFFF, d0 := 0, d1 := d.debugState, device := d.self } d e
      ∧ Only [⟨.DBG_STAT, 0, 0, 0⟩] logParts d e

/-- A CTL DOORBELL taken from the Perdun link with number n sets source 1008 + n pending, and no other source. -/
def Obligations.DoorbellInterrupt : Prop :=
  ∀ (m : HlkMsg) (n : Nat), Completes (.doorbell m) (fun d => d.hlkTakes m 3 7 = true ∧ n = bitsOf m.value 2 0) fun d e =>
    e.isPending (1008 + n) = true ∧ (∀ i, i < 1024 → i ≠ 1008 + n → e.isPending i = d.isPending i)
      ∧ Only (⟨.INT_PEND_SET_k, 0, 15, 0⟩ :: Dev.hlkCounts) [.hlk] d e

/-- The end of an exit from P2 (the state shows an exit, the start has been complete throughout, and the C-dies are still without
power) leaves P2 with GAS_EPOCH one higher, modulo its width. -/
def Obligations.LeavingP2 : Prop :=
  ∀ errs, Completes (.pwrStateChanged errs)
    (fun d => d.gf F.PWR_STAT.STATE = 5 ∧ d.boot.step = .ready ∧ d.on F.CLK_ISLAND_n_STAT.POWERED 0 0 = false) fun d e =>
      e.gf F.GAS_EPOCH.EPOCH = (d.gf F.GAS_EPOCH.EPOCH + 1) % 2 ^ (F.GAS_EPOCH.EPOCH.hi + 1 - F.GAS_EPOCH.EPOCH.lo)
        ∧ e.gf F.PWR_STAT.STATE ≤ 1

/-- NOP, HALT, PAUSE, SPAWN, BR, BRZ, BRNZ and BRLT complete whenever their thread may dispatch them. NOP only goes on. HALT
makes the thread HALTED with its PC at the next instruction. PAUSE parks its thread at the instruction after it while a
pre-emption request or a COPY swap waits and the COLL queue holds no COLL, and is otherwise a NOP. SPAWN starts a HALTED thread at
IMM[15:0]. BR, and BRZ, BRNZ and BRLT when T[TA] is zero, nonzero, or less than T[TB] as two's complement, set the PC to
IMM[15:0]; a branch not taken goes on. Each takes the next sequence number, is counted if it carries NDET, and changes no
other register, thread, queue or memory (what a corrected fetch counts apart).
Where the manual leaves a detail open, the clauses rest on the model's choices of log entries 17 and 63. -/
def Obligations.ControlInstructions : Prop :=
  (∀ i x, Completes (.nop i) (fun d => d.mayIssue .nop i x = true) fun d e =>
      Dev.wentOn i d e ∧ (e.thread i.core i.thread).st = (d.thread i.core i.thread).st
        ∧ Dev.issued [(i.core, i.thread)] [] [Dev.pcKey i] [] i x d e)
  ∧ (∀ i x, Completes (.halt i) (fun d => d.mayIssue .halt i x = true) fun d e =>
      (e.thread i.core i.thread).st = .halted ∧ e.pc i.core i.thread = (d.pc i.core i.thread + 1) % 65536
        ∧ Dev.issued [(i.core, i.thread)] [] [Dev.pcKey i] [] i x d e)
  ∧ (∀ i x, Completes (.pause i) (fun d => d.mayIssue .pause i x = true) fun d e =>
      Dev.wentOn i d e
        ∧ (if (d.on F.CORE_PREEMPT_CTRL.REQ i.core || d.swapWaiting i.core)
              && (d.queue i.core 7).all fun y => y.isWait then
            (e.thread i.core i.thread).st = .parked
              ∧ Dev.issued [(i.core, i.thread)] [] [Dev.pcKey i, ⟨.CLU_SWAP_STAT, i.core / 4, 0, 0⟩] [.swaps] i x d e
          else
            (e.thread i.core i.thread).st = (d.thread i.core i.thread).st
              ∧ Dev.issued [(i.core, i.thread)] [] [Dev.pcKey i] [] i x d e))
  ∧ (∀ i x, Completes (.spawn i)
      (fun d => d.mayIssue .spawn i x = true ∧ (d.thread i.core (bitsOf x.imm 19 16)).st = .halted) fun d e =>
      (e.thread i.core (bitsOf x.imm 19 16)).st = .running
        ∧ (e.thread i.core (bitsOf x.imm 19 16)).pastEnd = false
        ∧ e.pc i.core (bitsOf x.imm 19 16) = x.imm % 65536
        ∧ (∀ m, e.treg i.core (bitsOf x.imm 19 16) m = d.treg i.core (bitsOf x.imm 19 16) m)
        ∧ Dev.wentOn i d e ∧ (e.thread i.core i.thread).st = (d.thread i.core i.thread).st
        ∧ Dev.issued [(i.core, i.thread), (i.core, bitsOf x.imm 19 16)] []
            [Dev.pcKey i, ⟨.CORE_THREAD_n_PC, i.core, bitsOf x.imm 19 16, 0⟩] [] i x d e)
  ∧ (∀ i x, Completes (.br i) (fun d => d.mayIssue .br i x = true) fun d e =>
      e.pc i.core i.thread = x.imm % 65536 ∧ Dev.issued [] [] [Dev.pcKey i] [] i x d e)
  ∧ (∀ i x, Completes (.brz i) (fun d => d.mayIssue .brz i x = true) fun d e =>
      (if d.treg i.core i.thread x.cta = 0 then
          e.pc i.core i.thread = x.imm % 65536 ∧ e.thread i.core i.thread = d.thread i.core i.thread
        else Dev.wentOn i d e ∧ (e.thread i.core i.thread).st = (d.thread i.core i.thread).st)
        ∧ Dev.issued [(i.core, i.thread)] [] [Dev.pcKey i] [] i x d e)
  ∧ (∀ i x, Completes (.brnz i) (fun d => d.mayIssue .brnz i x = true) fun d e =>
      (if d.treg i.core i.thread x.cta = 0 then
          Dev.wentOn i d e ∧ (e.thread i.core i.thread).st = (d.thread i.core i.thread).st
        else e.pc i.core i.thread = x.imm % 65536 ∧ e.thread i.core i.thread = d.thread i.core i.thread)
        ∧ Dev.issued [(i.core, i.thread)] [] [Dev.pcKey i] [] i x d e)
  ∧ (∀ i x, Completes (.brlt i) (fun d => d.mayIssue .brlt i x = true) fun d e =>
      (if BitVec.slt (BitVec.ofNat 64 (d.treg i.core i.thread x.cta)) (BitVec.ofNat 64 (d.treg i.core i.thread x.ctb)) then
          e.pc i.core i.thread = x.imm % 65536 ∧ e.thread i.core i.thread = d.thread i.core i.thread
        else Dev.wentOn i d e ∧ (e.thread i.core i.thread).st = (d.thread i.core i.thread).st)
        ∧ Dev.issued [(i.core, i.thread)] [] [Dev.pcKey i] [] i x d e)

/-- TLI, TADD, TMUL, TAND, TOR, TSHL, TSHR, RDTIME and RDCNT complete whenever their thread may dispatch them: each puts its
value, modulo 2^64, into T[TD] (discarded for T0) and goes on, and changes no other register, thread, queue or memory. RDTIME
reads the Chronograph, RDCNT a counter of the own core, zero-extended.
Where the manual leaves a detail open, the clauses rest on the model's choices of log entry 17. -/
def Obligations.ScalarInstructions : Prop :=
  (∀ i x, Completes (.tli i) (fun d => d.mayIssue .tli i x = true) fun d e => Dev.putsT [] i x x.imm d e)
  ∧ (∀ i x, Completes (.tadd i) (fun d => d.mayIssue .tadd i x = true) fun d e =>
      Dev.putsT [] i x (d.treg i.core i.thread x.cta + d.treg i.core i.thread x.ctb + x.imm) d e)
  ∧ (∀ i x, Completes (.tmul i) (fun d => d.mayIssue .tmul i x = true) fun d e =>
      Dev.putsT [] i x (d.treg i.core i.thread x.cta * x.imm) d e)
  ∧ (∀ i x, Completes (.tand i) (fun d => d.mayIssue .tand i x = true) fun d e =>
      Dev.putsT [] i x (d.treg i.core i.thread x.cta &&& x.imm) d e)
  ∧ (∀ i x, Completes (.tor i) (fun d => d.mayIssue .tor i x = true) fun d e =>
      Dev.putsT [] i x (d.treg i.core i.thread x.cta ||| x.imm) d e)
  ∧ (∀ i x, Completes (.tshl i) (fun d => d.mayIssue .tshl i x = true) fun d e =>
      Dev.putsT [] i x (d.treg i.core i.thread x.cta <<< (x.imm % 64)) d e)
  ∧ (∀ i x, Completes (.tshr i) (fun d => d.mayIssue .tshr i x = true) fun d e =>
      Dev.putsT [] i x (d.treg i.core i.thread x.cta >>> (x.imm % 64)) d e)
  ∧ (∀ i x, Completes (.rdtime i) (fun d => d.mayIssue .rdtime i x = true) fun d e => Dev.putsT [] i x d.chrono d e)
  ∧ (∀ i x, Completes (.rdcnt i) (fun d => d.mayIssue .rdcnt i x = true) fun d e =>
      Dev.putsT [] i x (d.cntC i.core (x.imm % 4096)) d e)

/-- TLD puts the 8 bytes at store address IMM[24:0] + T[TA] (+ T[IDX]) into T[TD], unless they cannot be corrected, and
changes no memory. TST stores T[TB] in the 8 bytes there: no other byte of any memory changes, and no register but the PC,
the sequence number and the NDET count.
Where the manual leaves a detail open, the clauses rest on the model's choices of log entries 17 and 47. -/
def Obligations.StoreTransfers : Prop :=
  (∀ i x, Completes (.tld i) (fun d => d.mayIssue .tld i x = true ∧ i.data ≠ .uncorrectable) fun d e =>
      Dev.putsT (eccParts i.data) i x
        (leNat (d.rdStore i.core (x.imm % 2 ^ 25 + d.treg i.core i.thread x.cta + d.idxBase i.core i.thread x) 8)) d e)
  ∧ (∀ i x, Completes (.tst i) (fun d => d.mayIssue .tst i x = true) fun d e =>
      leNat (e.rdStore i.core (x.imm % 2 ^ 25 + d.treg i.core i.thread x.cta + d.idxBase i.core i.thread x) 8)
          = d.treg i.core i.thread x.ctb
        ∧ Dev.storesOnly i.core (x.imm % 2 ^ 25 + d.treg i.core i.thread x.cta + d.idxBase i.core i.thread x) 8 d e
        ∧ Dev.wentOn i d e ∧ (e.thread i.core i.thread).st = (d.thread i.core i.thread).st
        ∧ Dev.issued [(i.core, i.thread)] [] [Dev.pcKey i] [.coreStore, .clusterStore] i x d e)

/-- Whatever instruction a thread would dispatch, a thread that has passed PC 65,535 faults with CORE_PC_OVERFLOW when it
would next dispatch: CORE_FAULT_STAT reports PC 65,535, QUEUE 0xF and the thread, CORE_FAULT_SEQ the next sequence number,
which is not consumed. A thread passes PC 65,535 by an instruction there that goes on, with its full effect: a NOP there
leaves the thread RUNNING, its PC at 65,535, and the dispatch after it faults; a BR or a HALT there does not pass it. -/
def Obligations.PastLastInstruction : Prop :=
  (∀ c want i, issueOf c = some (want, i) →
    Completes c (fun d => d.eligible i.core i.thread = true ∧ d.overtakes i = false ∧ (d.thread i.core i.thread).pastEnd = true) fun d e =>
      Dev.stopsCore i Code.CORE_PC_OVERFLOW 65535 (d.nextSeq i.core) d e ∧ e.nextSeq i.core = d.nextSeq i.core)
  ∧ (∀ i x, Completes (.nop i) (fun d => d.mayIssue .nop i x = true ∧ d.pc i.core i.thread = 65535) fun _ e =>
      e.eligible i.core i.thread = true ∧ (e.thread i.core i.thread).pastEnd = true)
  ∧ (∀ i x, Completes (.tli i) (fun d => d.mayIssue .tli i x = true ∧ d.pc i.core i.thread = 65535) fun _ e =>
      e.eligible i.core i.thread = true ∧ (e.thread i.core i.thread).pastEnd = true
        ∧ e.treg i.core i.thread x.ctd = if x.ctd = 0 then 0 else x.imm)
  ∧ (∀ i x, Completes (.br i) (fun d => d.mayIssue .br i x = true ∧ d.pc i.core i.thread = 65535) fun _ e =>
      (e.thread i.core i.thread).pastEnd = false ∧ e.pc i.core i.thread = x.imm % 65536)
  ∧ (∀ i x, Completes (.halt i) (fun d => d.mayIssue .halt i x = true ∧ d.pc i.core i.thread = 65535) fun _ e =>
      (e.thread i.core i.thread).pastEnd = false ∧ (e.thread i.core i.thread).st = .halted)

/-- A thread that may dispatch is stopped, whatever instruction it would dispatch, by a fetch that cannot be corrected
(CORE_IMEM_UNCORRECTABLE) and by a word that does not decode (CORE_ILLEGAL_INSTR). An instruction that must carry NDET = 1 and
does not stops it with CORE_NDET_REQUIRED, a store address outside R99 or misaligned with CORE_BAD_ADDR. A SPAWN of a thread
that is not HALTED stops it with CORE_THREAD_BUSY, a TLD of a word that cannot be corrected with CORE_STORE_UNCORRECTABLE. Each
stops the core at that PC with that sequence number, which is taken; no memory changes.
Where the manual leaves a detail open, the clauses rest on the model's choices of log entries 17, 21 and 63. -/
def Obligations.SequencerRefusals : Prop :=
  (∀ c want i, issueOf c = some (want, i) →
    Completes c (fun d => d.ready i = true ∧ i.fetch = .uncorrectable) fun d e =>
      Dev.stopsCore i Code.CORE_IMEM_UNCORRECTABLE (d.pc i.core i.thread) (d.nextSeq i.core) d e
        ∧ e.nextSeq i.core = (d.nextSeq i.core + 1) % 2 ^ 64)
  ∧ (∀ c want i, issueOf c = some (want, i) →
    Completes c (fun d => d.ready i = true ∧ i.fetch ≠ .uncorrectable
        ∧ decodeIns (d.fetchWord i.core (d.pc i.core i.thread)) = none) fun d e =>
      Dev.stopsCore i Code.CORE_ILLEGAL_INSTR (d.pc i.core i.thread) (d.nextSeq i.core) d e
        ∧ e.nextSeq i.core = (d.nextSeq i.core + 1) % 2 ^ 64)
  ∧ (∀ c want i x, issueOf c = some (want, i) →
    Completes c (fun d => d.ready i = true ∧ d.fetches want i x = true ∧ d.queueFull i.core x = false
        ∧ x.needsNdet = true ∧ x.ndet = false) fun d e =>
      Dev.stopsCore i Code.CORE_NDET_REQUIRED (d.pc i.core i.thread) (d.nextSeq i.core) d e
        ∧ e.nextSeq i.core = (d.nextSeq i.core + 1) % 2 ^ 64)
  ∧ (∀ c want i x, issueOf c = some (want, i) →
    Completes c (fun d => d.ready i = true ∧ d.fetches want i x = true ∧ d.queueFull i.core x = false
        ∧ (x.needsNdet = false ∨ x.ndet = true) ∧ d.addrsOk i.core i.thread x = false) fun d e =>
      Dev.stopsCore i Code.CORE_BAD_ADDR (d.pc i.core i.thread) (d.nextSeq i.core) d e
        ∧ e.nextSeq i.core = (d.nextSeq i.core + 1) % 2 ^ 64)
  ∧ (∀ i x, Completes (.spawn i)
      (fun d => d.mayIssue .spawn i x = true ∧ (d.thread i.core (bitsOf x.imm 19 16)).st ≠ .halted) fun d e =>
      Dev.stopsCore i Code.CORE_THREAD_BUSY (d.pc i.core i.thread) (d.nextSeq i.core) d e
        ∧ e.nextSeq i.core = (d.nextSeq i.core + 1) % 2 ^ 64)
  ∧ (∀ i x, Completes (.tld i) (fun d => d.mayIssue .tld i x = true ∧ i.data = .uncorrectable) fun d e =>
      Dev.stopsCore i Code.CORE_STORE_UNCORRECTABLE (d.pc i.core i.thread) (d.nextSeq i.core) d e
        ∧ e.nextSeq i.core = (d.nextSeq i.core + 1) % 2 ^ 64)

/-- LOADS, STREAM, EMIT, the VEC operations, ATTN, DMA, COLL, GLD, GST, GATOM and a WAIT that names a queue complete whenever
their thread may dispatch them: the instruction, with its addresses and its T registers as they stand, is placed at the tail
of its queue, and its thread goes on; a GLD, and a GATOM that returns a value, leaves its thread SWITCHED. Placing it changes
nothing else; then the queues of the core start what they may (`Dev.kick`).
Where the manual leaves a detail open, the clauses rest on the model's choices of log entries 17 and 63. -/
def Obligations.QueuedInstructions : Prop :=
  (∀ i x, Completes (.loads i) (fun d => d.mayIssue .loads i x = true) fun d e => ∃ m : Dev, e = m.kick i.core
      ∧ Dev.placed x.eng (.loads x.eng x.mode x.etype (x.addr + d.idxBase i.core i.thread x) x.stride)
          (d.thread i.core i.thread).st i x d m)
  ∧ (∀ i x, Completes (.stream i) (fun d => d.mayIssue .stream i x = true) fun d e => ∃ m : Dev, e = m.kick i.core
      ∧ Dev.placed x.eng (.stream x.pair x.acc x.src x.fmt x.rows x.accBase
          (if x.src then x.addr + d.idxBase i.core i.thread x else 0)) (d.thread i.core i.thread).st i x d m)
  ∧ (∀ i x, Completes (.emit i) (fun d => d.mayIssue .emit i x = true) fun d e => ∃ m : Dev, e = m.kick i.core
      ∧ Dev.placed x.eng (.emit x.intlv x.ofmt x.scale x.slot x.count (x.addr + d.idxBase i.core i.thread x) x.stride)
          (d.thread i.core i.thread).st i x d m)
  ∧ (∀ c op i x, (c, op) ∈ ([(.vadd i, .vadd), (.vsub i, .vsub), (.vmul i, .vmul), (.vfma i, .vfma), (.vmax i, .vmax),
        (.vmin i, .vmin), (.vscale i, .vscale), (.vcvt i, .vcvt), (.vexp i, .vexp), (.vrecip i, .vrecip),
        (.vrsqrt i, .vrsqrt), (.vsilu i, .vsilu), (.vgate i, .vgate), (.vrsum i, .vrsum), (.vrmax i, .vrmax),
        (.vlsum i, .vlsum), (.vlmax i, .vlmax)] : List (Instr × Op)) →
      Completes c (fun d => d.mayIssue op i x = true) fun d e => ∃ m : Dev, e = m.kick i.core
        ∧ Dev.placed 2 (.vec op x.ta x.tb x.td (d.treg i.core i.thread x.ts % 2 ^ 32) x.len
            (x.va + d.idxBase i.core i.thread x) (x.vb + d.idxBase i.core i.thread x) (x.vd + d.idxBase i.core i.thread x))
            (d.thread i.core i.thread).st i x d m)
  ∧ (∀ i x, Completes (.attn i) (fun d => d.mayIssue .attn i x = true) fun d e => ∃ m : Dev, e = m.kick i.core
      ∧ Dev.placed 3 (.attn (x.va + d.idxBase i.core i.thread x)) (d.thread i.core i.thread).st i x d m)
  ∧ (∀ i x, Completes (.dma i) (fun d => d.mayIssue .dma i x = true) fun d e => ∃ m : Dev, e = m.kick i.core
      ∧ Dev.placed (4 + x.engine) (.dma { nextAddr := x.addr + d.idxBase i.core i.thread x })
          (d.thread i.core i.thread).st i x d m)
  ∧ (∀ i x, Completes (.coll i) (fun d => d.mayIssue .coll i x = true) fun d e => ∃ m : Dev, e = m.kick i.core
      ∧ Dev.placed 7 (.coll x.group (x.addr + d.idxBase i.core i.thread x) x.ndet) (d.thread i.core i.thread).st i x d m)
  ∧ (∀ i x, Completes (.gld i) (fun d => d.mayIssue .gld i x = true) fun d e => ∃ m : Dev, e = m.kick i.core
      ∧ Dev.placed 6 (.gas .gld (d.gasPacket i.core i.thread x (d.nextSeq i.core)) (x.saddr + d.idxBase i.core i.thread x)
          x.tdst) .switched i x d m)
  ∧ (∀ i x, Completes (.gst i) (fun d => d.mayIssue .gst i x = true) fun d e => ∃ m : Dev, e = m.kick i.core
      ∧ Dev.placed 6 (.gas .gst (d.gasPacket i.core i.thread x (d.nextSeq i.core)) (x.saddr + d.idxBase i.core i.thread x)
          x.tdst) (d.thread i.core i.thread).st i x d m)
  ∧ (∀ i x, Completes (.gatom i) (fun d => d.mayIssue .gatom i x = true) fun d e => ∃ m : Dev, e = m.kick i.core
      ∧ Dev.placed 6 (.gas .gatom (d.gasPacket i.core i.thread x (d.nextSeq i.core))
          (x.saddr + d.idxBase i.core i.thread x) x.tdst)
          (if x.ret || decide (x.aop = 4) then .switched else (d.thread i.core i.thread).st) i x d m)
  ∧ (∀ i x, Completes (.wait i) (fun d => d.mayIssue .wait i x = true ∧ x.queueSel ≠ 0) fun d e => ∃ m : Dev, e = m.kick i.core
      ∧ Dev.placed (x.queueSel - 1)
          (.wait { cntr := x.cntr, target := (x.value + d.treg i.core i.thread x.tval) % 2 ^ 48, timeoutUs := x.timeoutUs,
                   tres := x.tres, since := d.chrono }) (d.thread i.core i.thread).st i x d m)

/-- A WAIT with QUEUE 0 holds its thread WAITING for VALUE + T[TVAL] modulo 2^48. A FENCE holds its thread for its SCOPE.
A SIGNAL with FENCE set waits for every scope first. A SIGNAL of the own core, or of a core of the device in service, adds its
signed VALUE to the counter, unless that leaves the counter's range, which stops the core that owns it, or a copy holds the
counter, which holds the update. One to a remote device sends a COUNTER and waits for its acknowledgement, or is logged when
the device cannot be reached. One to the companion gives the link a COUNTER and waits for its response, or is logged when the
link is down. Then the queues of the core start what they may.
Where the manual leaves a detail open, the clauses rest on the model's choices of log entry 63. -/
def Obligations.SyncInstructions : Prop :=
  (∀ i x, Completes (.wait i) (fun d => d.mayIssue .wait i x = true ∧ x.queueSel = 0) fun d e =>
      (e.thread i.core i.thread).st = .waiting
        ∧ (e.thread i.core i.thread).wait = some
            { cntr := x.cntr, target := (x.value + d.treg i.core i.thread x.tval) % 2 ^ 48, timeoutUs := x.timeoutUs
              tres := x.tres, since := d.chrono }
        ∧ Dev.wentOn i d e ∧ Dev.issued [(i.core, i.thread)] [] [Dev.pcKey i] [] i x d e)
  ∧ (∀ i x, Completes (.fence i) (fun d => d.mayIssue .fence i x = true) fun d e =>
      (e.thread i.core i.thread).fence = some { scope := x.scope, seq := d.nextSeq i.core }
        ∧ Dev.wentOn i d e ∧ Dev.issued [(i.core, i.thread)] [] [Dev.pcKey i] [] i x d e)
  ∧ (∀ i x, Completes (.signal i) (fun d => d.mayIssue .signal i x = true ∧ x.sigFence = true) fun d e =>
      (∃ g, (e.thread i.core i.thread).fence = some g ∧ g.scope = 15 ∧ g.seq = d.nextSeq i.core ∧ g.signal = some
          { dest := x.dest, cntr := x.cntr, value := x.value, core := x.core, device := d.treg i.core i.thread x.tdev % 2 ^ 18,
            seq := d.nextSeq i.core, pc := d.pc i.core i.thread, thread := i.thread })
        ∧ Dev.wentOn i d e ∧ Dev.issued [(i.core, i.thread)] [] [Dev.pcKey i] [] i x d e)
  ∧ (∀ i x k, Completes (.signal i)
      (fun d => d.mayIssue .signal i x = true ∧ x.sigFence = false
        ∧ ((x.dest = 0 ∧ k = i.core.val) ∨ (x.dest = 1 ∧ k = x.core ∧ d.inService x.core = true))
        ∧ d.copying k = false ∧ d.judge k x.cntr (sext 48 x.value) = .applied
        ∧ ¬ (d.on F.SAFE_LS_CTRL.EN = true ∧ d.gf F.SAFE_LS_CTRL.MARK_CNTR = x.cntr)) fun d e => ∃ m : Dev, e = m.kick i.core
      ∧ (m.cntC k x.cntr : Int) = ((d.cntC k x.cntr : Int) + sext 48 x.value) % 2 ^ 48
      ∧ m.gf F.SYN_UPDATE_CNT.COUNT k = (d.gf F.SYN_UPDATE_CNT.COUNT k + 1) % 2 ^ 64
      ∧ Dev.wentOn i d m
      ∧ Dev.issued [(i.core, i.thread)] []
          [Dev.pcKey i, ⟨.SYN_CNT_n, k, x.cntr, 0⟩, ⟨.SYN_UPDATE_CNT, k, 0, 0⟩] [] i x d m)
  ∧ (∀ i x k, Completes (.signal i)
      (fun d => d.mayIssue .signal i x = true ∧ x.sigFence = false ∧ x.dest = 1 ∧ k = x.core ∧ k ≠ i.core.val
        ∧ d.inService k = true ∧ d.copying k = false ∧ (d.core k).faulted = false
        ∧ d.judge k x.cntr (sext 48 x.value) ≠ .applied) fun d e => ∃ m : Dev, e = m.kick i.core
      ∧ (m.core k).faulted = true ∧ m.gf F.CORE_FAULT_STAT.CODE k = Code.CORE_COUNTER_FAULT
      ∧ m.cntC k x.cntr = d.cntC k x.cntr
      ∧ m.gf F.SYN_CORE_FAULT.CNTR k = x.cntr ∧ m.gf F.SYN_CORE_FAULT.SOURCE k = d.self
      ∧ m.gf F.SYN_CORE_FAULT.CODE k =
          (if d.judge k x.cntr (sext 48 x.value) = .underflow then Code.SYN_UNDERFLOW else Code.SYN_OVERFLOW))
  ∧ (∀ i x k s, Completes (.signal i)
      (fun d => d.mayIssue .signal i x = true ∧ x.sigFence = false ∧ x.dest = 1 ∧ k = x.core ∧ d.inService k = true
        ∧ d.copying k = true ∧ d.swapOf (k / 4) = some s) fun d e => ∃ m : Dev, e = m.kick i.core
      ∧ m.swapOf (k / 4) = some { s with held := s.held ++ [.update x.cntr (sext 48 x.value) 2 d.self] }
      ∧ Dev.wentOn i d m ∧ Dev.issued [(i.core, i.thread)] [] [Dev.pcKey i] [.swaps] i x d m)
  ∧ (∀ i x, Completes (.signal i)
      (fun d => d.mayIssue .signal i x = true ∧ x.sigFence = false ∧ x.dest = 2
        ∧ d.gasReach (d.treg i.core i.thread x.tdev % 2 ^ 18) = none) fun d e => ∃ m : Dev, e = m.kick i.core
      ∧ (∃ r, m.reqs = d.reqs ++ [r] ∧ r.kind = .signal ∧ r.core = i.core.val ∧ r.seq = d.nextSeq i.core
          ∧ r.pkt.type = PT.counter ∧ r.pkt.dst = d.treg i.core i.thread x.tdev % 2 ^ 18
          ∧ r.pkt.payload = leBytes 6 x.value ++ leBytes 2 x.cntr ++ leBytes 1 x.core ++ List.replicate 7 0)
      ∧ (m.core i.core).signals = (d.core i.core).signals ++ [{ seq := d.nextSeq i.core, dest := 2 }]
      ∧ (∀ c n, m.cntC c n = d.cntC c n)
      ∧ m.gf F.GAS_ISSUED_CNT.COUNT = (d.gf F.GAS_ISSUED_CNT.COUNT + 1) % 2 ^ 64)
  ∧ (∀ i x code, Completes (.signal i)
      (fun d => d.mayIssue .signal i x = true ∧ x.sigFence = false ∧ x.dest = 2
        ∧ d.gasReach (d.treg i.core i.thread x.tdev % 2 ^ 18) = some code) fun d e => ∃ m : Dev, e = m.kick i.core
      ∧ (i.fetch = .ok →
          m.log = (d.logGas code i.core (d.treg i.core i.thread x.tdev % 2 ^ 18)
            (counterAddr (d.treg i.core i.thread x.tdev % 2 ^ 18) x.core x.cntr) (d.nextSeq i.core)).log)
      ∧ (m.core i.core).signals = (d.core i.core).signals ∧ Dev.wentOn i d m
      ∧ Dev.issued [(i.core, i.thread)] [] [Dev.pcKey i] logParts i x d m)
  ∧ (∀ i x, Completes (.signal i)
      (fun d => d.mayIssue .signal i x = true ∧ x.sigFence = false ∧ x.dest = 3 ∧ d.hlkUp = true) fun d e => ∃ m : Dev,
        e = m.kick i.core ∧ m.hlk = (d.sendCounter x.cntr x.value).2.hlk
      ∧ (m.core i.core).signals = (d.core i.core).signals
          ++ [{ seq := d.nextSeq i.core, dest := 3, tag := (d.sendCounter x.cntr x.value).1 }]
      ∧ Dev.wentOn i d m
      ∧ Dev.issued [(i.core, i.thread)] [] [Dev.pcKey i, ⟨.HLK_TX_CNT, 0, 0, 0⟩] [.hlk] i x d m)
  ∧ (∀ i x, Completes (.signal i)
      (fun d => d.mayIssue .signal i x = true ∧ x.sigFence = false ∧ x.dest = 3 ∧ d.hlkUp = false) fun d e => ∃ m : Dev,
        e = m.kick i.core ∧ m.gf F.HLK_STAT.LAST_CODE = Code.HLK_LINK_DOWN
      ∧ (m.core i.core).signals = (d.core i.core).signals ∧ Dev.wentOn i d m
      ∧ Dev.issued [(i.core, i.thread)] [] [Dev.pcKey i, ⟨.HLK_STAT, 0, 0, 0⟩] logParts i x d m)

/-- On a core whose queues are empty, with no numeric exception set to stop and no vector of D written before a later
vector of A or B that overlaps it is read, a VEC operation of LEN vectors writes LEN vectors to D (one for VRSUM and VRMAX).
Element j of vector k is the result of lane j, computed in binary32 and converted to TD with one rounding: for the lane-wise
operations from lane j of A, B and D; for VLSUM and VLMAX the pairwise tree over the 256 lanes in lane 0 and zero in the others;
for VRSUM and VRMAX the sum, or maximum, of vectors 0 to LEN − 1 in order. Every other byte of every memory is unchanged, the
vector queue's entry is done, and the core has not stopped.
Where the manual leaves a detail open, the clauses rest on the model's choices of log entry 64. -/
def Obligations.VectorResults : Prop :=
  ∀ c op i x, (c, op) ∈ ([(.vadd i, .vadd), (.vsub i, .vsub), (.vmul i, .vmul), (.vfma i, .vfma), (.vmax i, .vmax),
      (.vmin i, .vmin), (.vscale i, .vscale), (.vcvt i, .vcvt), (.vexp i, .vexp), (.vrecip i, .vrecip),
      (.vrsqrt i, .vrsqrt), (.vsilu i, .vsilu), (.vgate i, .vgate), (.vrsum i, .vrsum), (.vrmax i, .vrmax),
      (.vlsum i, .vlsum), (.vlmax i, .vlmax)] : List (Instr × Op)) →
    Completes c
      (fun d => d.mayIssue op i x = true ∧ i.data ≠ .uncorrectable ∧ d.queuesEmpty i.core = true
        ∧ d.noNumericStop i.core = true ∧ d.hazardFree i x = true)
      fun d e =>
        let b := d.idxBase i.core i.thread x
        let n := if op.reduces then 1 else x.len
        (∀ k j, k < n → j < 256 →
            e.rdStore i.core (x.vd + b + k * vecBytes x.td + (elemFmt x.td).bytes * j) (elemFmt x.td).bytes
              = leBytes (elemFmt x.td).bytes (vecExit x.td (d.vecLaneResult i x k j)).1)
          ∧ Dev.storesOnly i.core (x.vd + b) (n * vecBytes x.td) d e
          ∧ (∃ y, e.queue i.core 2 = [y] ∧ y.done = true ∧ y.seq = d.nextSeq i.core)
          ∧ (e.core i.core).faulted = false ∧ Dev.wentOn i d e

/-- Each step of an engine completes, and then the queues of the core start what they may (`Dev.kick`). The end of a LOADS
stall makes the LOADS complete, and counts the cycles that a LOADS from the cluster store has stalled for beyond its own. A row of a STREAM that is in its source and whose slot is free is multiplied through the tile
of its engine: its column sums enter the array, and the next row is due. A row that leaves the array writes its 128 sums to its
slot, or adds each to the entry there with one rounding, stochastic when enabled beyond 4,096 terms. An EMIT's slot read
converts the 128 entries, scaled by 2^SCALE, and writes them to its output row (with INTLV the row of two slots when the second has
been read); no other byte of memory changes.
Where the manual leaves a detail open, the clauses rest on the model's choices of log entries 20, 21, 47 and 63. -/
def Obligations.EngineSteps : Prop :=
  (∀ (c : Fin 128) (e : Fin 2) extra s, Completes (.loadsStallEnd c e extra)
      (fun d => (d.engine c e).loading = some s) fun d e' => ∃ m : Dev, e' = m.kick c
        ∧ (m.engine c e).loading = none ∧ (m.engine c e).tile = (d.engine c e).tile
        ∧ m.queue c e = (d.queue c e).map (fun y => if y.seq = s then { y with n := 1, done := true } else y)
        ∧ m.gf F.ENG_LOAD_STALL_CNT.CYCLES (2 * c + e) = (if (d.queue c e).any fun y => decide (y.seq = s) && Dev.clusterLoad y then
            (d.gf F.ENG_LOAD_STALL_CNT.CYCLES (2 * c + e) + extra) % 2 ^ 64 else d.gf F.ENG_LOAD_STALL_CNT.CYCLES (2 * c + e))
        ∧ Only [⟨.ENG_LOAD_STALL_CNT, 2 * c + e, 0, 0⟩] [.engines, .cores] d m)
  ∧ (∀ (c : Fin 128) (e : Fin 2) x acc src fmt rows base addr bytes, Completes (.streamRowIssue c e none .ok)
      (fun d => (d.core c).faulted = false ∧ d.activeStream c e = some x
        ∧ x.op = .stream false acc src fmt rows base addr ∧ d.rowSource c e src fmt addr x.n = some bytes
        ∧ d.slotFree c e ((base + x.n) % 4096) x.seq = true ∧ d.noNumericStop c = true
        ∧ ∀ r ∈ (d.engine c e).flight, ¬ (r.seq = x.seq ∧ r.row = x.n)) fun d e' => ∃ m : Dev, e' = m.kick c
        ∧ (∃ r, (m.engine c e).flight = (d.engine c e).flight ++ [r] ∧ r.slot = (base + x.n) % 4096 ∧ r.add = acc
            ∧ r.seq = x.seq ∧ r.row = x.n
            ∧ (∀ t, (d.engine c e).tile = some t → r.sums = (outputColumn t.mode t.etype t.rows (rowElems fmt bytes)).1))
        ∧ (m.engine c e).tile = (d.engine c e).tile
        ∧ m.queue c e = (d.queue c e).map (fun y => if y.seq = x.seq then { y with n := y.n + 1 } else y)
        ∧ m.gf F.ENG_ROWS_CNT.ROWS (2 * c + e) = (d.gf F.ENG_ROWS_CNT.ROWS (2 * c + e) + 1) % 2 ^ 64
        ∧ (∀ a b, m.cell a b = d.cell a b))
  ∧ (∀ (c : Fin 128) (e : Fin 2) r rest q x, Completes (.streamRowComplete c e .ok)
      (fun d => (d.engine c e).flight = r :: rest ∧ d.entryOfRow c e r.seq = some (q, x) ∧ d.noNumericStop c = true
        ∧ ∀ r' ∈ rest, ¬ (r'.seq = r.seq ∧ r'.row = r.row))
      fun d e' => ∃ m : Dev, e' = m.kick c
        ∧ (m.engine c e).flight = rest
        ∧ (∀ j, j < 128 → ((m.engine c e).slot r.slot).get r.slot j =
            if r.add then
              let v := (FV.sum [val32 (((d.engine c e).slot r.slot).get r.slot j), val32 (r.sums.getD j 0)]).1
              if d.on F.CORE_NUM_CTRL.SR_EN c
                  && decide (4096 < min (2 ^ 24 - 1) (((d.engine c e).slot r.slot).terms + r.k)) then
                roundSr (srRandom (d.gf F.CORE_SR_SEED.SEED c) j r.slot
                  (min (2 ^ 24 - 1) (((d.engine c e).slot r.slot).terms + r.k))) v
              else round32 v
            else r.sums.getD j 0)
        ∧ ((m.engine c e).slot r.slot).terms =
            (if r.add then min (2 ^ 24 - 1) (((d.engine c e).slot r.slot).terms + r.k) else r.k)
        ∧ ((m.engine c e).slot r.slot).poison = ((r.add && ((d.engine c e).slot r.slot).poison) || r.poison)
        ∧ (∀ s, s ≠ r.slot → (m.engine c e).slot s = (d.engine c e).slot s)
        ∧ (∀ a b, m.cell a b = d.cell a b))
  ∧ (∀ (c : Fin 128) (e : Fin 2) x intlv ofmt scale slot count addr stride, Completes (.emitSlotRead c e .ok)
      (fun d => d.activeEmit c e = some x ∧ x.op = .emit intlv ofmt scale slot count addr stride ∧ ofmt < 4
        ∧ (intlv = true → 2 ≤ ofmt) ∧ d.heldByRow c e x.seq = false
        ∧ d.slotWritten c e ((slot + x.n) % 4096) x.seq = true
        ∧ ((d.engine c e).slot ((slot + x.n) % 4096)).poison = false ∧ d.noNumericStop c = true
        ∧ (∀ j, j < 128 → ((d.engine c e).even.getD j []).length = 1 ∨ intlv = false ∨ x.n % 2 = 0)
        ∧ storeOk (Dev.emitRow intlv addr stride x.n) (if intlv then 256 else 128 * (elemFmt ofmt).bytes) = true)
      fun d e' => ∃ m : Dev, e' = m.kick c
        ∧ (let row := Dev.emitRow intlv addr stride x.n
          let w := (elemFmt ofmt).bytes
          let out (j : Nat) : List Byte := leBytes w
            (Dev.emitElem ofmt scale (((d.engine c e).slot ((slot + x.n) % 4096)).get ((slot + x.n) % 4096) j)).1
          if intlv = false then
            (∀ j, j < 128 → m.rdStore c (row + w * j) w = out j) ∧ Dev.storesOnly c row (128 * w) d m
              ∧ m.engine c e = d.engine c e
          else if x.n % 2 = 1 then
            (∀ j, j < 128 → m.rdStore c (row + 2 * j) 1 = (d.engine c e).even.getD j [] ∧ m.rdStore c (row + 2 * j + 1) 1 = out j)
              ∧ Dev.storesOnly c row 256 d m ∧ m.engine c e = { d.engine c e with even := [] }
          else if x.n + 1 = count then
            (∀ j, j < 128 → m.rdStore c (row + 2 * j) 1 = out j ∧ m.rdByte c (row + 2 * j + 1) = d.rdByte c (row + 2 * j + 1))
              ∧ Dev.storesOnly c row 256 d m ∧ m.engine c e = d.engine c e
          else (∀ a b, m.cell a b = d.cell a b) ∧ m.engine c e = { d.engine c e with even := (List.range 128).map out })
        ∧ m.queue c e = (d.queue c e).map
            (fun y => if y.seq = x.seq then { y with n := y.n + 1, done := decide (y.n + 1 = count) } else y))

/-- Each event of a core completes where its condition holds. The oldest completed entry of a queue retires: it leaves the
queue, and LAST_SEQ and RETIRED say so. A WAIT whose condition holds moves the counter's floor to its target (unless that lies
behind the floor) and its thread runs on, with T[TRES] = 1 if it has a timeout, or its queue goes on. A WAIT with a timeout whose
condition does not hold runs out with T[TRES] = 0. A FENCE ends, with a HALT that waited for it and the START behind that. The map of a DMA fault is
written once its packets have settled. A held CLEAR_FAULT leaves every thread HALTED and every queue empty. A core at its pause
point is paused. A late request sets LATE and the core's interrupt source.
Where the manual leaves a detail open, the clauses rest on the model's choices of log entry 63. -/
def Obligations.CoreEvents : Prop :=
  (∀ (c : Fin 128) (q : Fin 8) x, Completes (.queueEntryRetire c q)
      (fun d => d.retiring c q = some x ∧ x.sig = none) fun d e => ∃ m : Dev, e = m.kick c
        ∧ m.queue c q = (d.queue c q).erase x ∧ (∀ q', q' ≠ q.val → m.queue c q' = d.queue c q')
        ∧ m.gf F.CORE_QUEUE_q_DONE.LAST_SEQ c q = x.seq % 2 ^ 64
        ∧ m.gf F.CORE_QUEUE_q_CNT.RETIRED c q = (d.gf F.CORE_QUEUE_q_CNT.RETIRED c q + 1) % 2 ^ 64
        ∧ Only [⟨.CORE_QUEUE_q_DONE, c, q, 0⟩, ⟨.CORE_QUEUE_q_CNT, c, q, 0⟩, ⟨.CORE_COLL_REC, c, 0, 0⟩, ⟨.SAFE_LS_STAT, 0, 0, 0⟩,
            ⟨.CORE_ATTN_REC, c, 0, 0⟩] [.cores, .engines] d m
        ∧ ((∀ a, x.op ≠ .attn a) → (∀ k, m.engine c k = d.engine c k) ∧ (m.core c).attn = (d.core c).attn)
        ∧ ((∃ a, x.op = .attn a) → m.gf F.CORE_ATTN_REC.PHASE c = 5 ∧ (m.core c).attn = none
            ∧ (m.engine c 0).tile = none ∧ (m.engine c 1).tile = none))
  ∧ (∀ (c : Fin 128) (q : Fin 8) x n, Completes (.queueEntryRetire c q)
      (fun d => d.retiring c q = some x ∧ x.sig = some n ∧ n < 4096 ∧ d.copying c = false ∧ d.judge c n 1 = .applied
        ∧ d.on F.SAFE_LS_CTRL.EN = false) fun d e => ∃ m : Dev, e = m.kick c
        ∧ m.queue c q = (d.queue c q).erase x ∧ m.cntC c n = (d.cntC c n + 1) % 2 ^ 48 ∧ m.cntF c n = d.cntF c n)
  ∧ (∀ (c : Fin 128) (t : Fin 16) w, Completes (.waitConditionMet c (.thread t))
      (fun d => d.threadWait c t = some w ∧ d.waitHolds c w = true ∧ w.target < 2 ^ 48 ∧ w.cntr < 4096) fun d e =>
        (e.thread c t).st = .running ∧ (e.thread c t).wait = none
          ∧ e.cntF c w.cntr = (if d.waitT c w < 2 ^ 47 then w.target else d.cntF c w.cntr)
          ∧ e.cntC c w.cntr = d.cntC c w.cntr
          ∧ (w.timeoutUs ≠ 0 → e.treg c t w.tres = if w.tres = 0 then 0 else 1)
          ∧ Dev.coreOnly c [t] d e
          ∧ Only (⟨.SYN_FLOOR_n, c, w.cntr, 0⟩ :: if w.timeoutUs = 0 then [] else [⟨.CORE_THREAD_n_T_m, c, t, w.tres⟩])
              [.cores] d e)
  ∧ (∀ (c : Fin 128) (q : Fin 8) x w, Completes (.waitConditionMet c (.queue q))
      (fun d => d.headWait c q = some (x, w) ∧ d.waitHolds c w = true ∧ w.target < 2 ^ 48) fun d e => ∃ m : Dev, e = m.kick c
        ∧ m.queue c q = (d.queue c q).map (fun y => if y.seq = x.seq then { y with done := true } else y)
        ∧ m.cntF c w.cntr = (if d.waitT c w < 2 ^ 47 then w.target else d.cntF c w.cntr)
        ∧ Only [⟨.SYN_FLOOR_n, c, w.cntr, 0⟩] [.cores] d m)
  ∧ (∀ (c : Fin 128) (t : Fin 16) w, Completes (.waitTimeout c t)
      (fun d => d.threadWait c t = some w ∧ w.timeoutUs ≠ 0 ∧ 1000 * w.timeoutUs ≤ (d.chrono + 2 ^ 64 - w.since) % 2 ^ 64
        ∧ d.waitHolds c w = false) fun d e =>
        (e.thread c t).st = .running ∧ (e.thread c t).wait = none ∧ e.treg c t w.tres = 0
          ∧ Dev.coreOnly c [t] d e ∧ Only [⟨.CORE_THREAD_n_T_m, c, t, w.tres⟩] [.cores] d e)
  ∧ (∀ (c : Fin 128) (t : Fin 16) f, Completes (.fenceComplete c t)
      (fun d => (d.thread c t).fence = some f ∧ f.signal = none ∧ (d.core c).faulted = false
        ∧ d.fenceDone c f.scope f.seq = true ∧ (d.thread c t).startReq = false) fun d e =>
        (e.thread c t).fence = none ∧ (e.thread c t).haltReq = false
          ∧ (e.thread c t).st = (if (d.thread c t).haltReq then .halted else (d.thread c t).st)
          ∧ Dev.coreOnly c [t] d e ∧ Only [] [.cores] d e)
  ∧ (∀ (c : Fin 128) (t : Fin 16) f, Completes (.fenceComplete c t)
      (fun d => (d.thread c t).fence = some f ∧ f.signal = none ∧ (d.core c).faulted = false
        ∧ d.fenceDone c f.scope f.seq = true ∧ (d.thread c t).haltReq = true ∧ (d.thread c t).startReq = true
        ∧ (d.core c).paused = false ∧ (d.core c).forced = false) fun d e =>
        (e.thread c t).fence = none ∧ (e.thread c t).haltReq = false ∧ (e.thread c t).startReq = false
          ∧ (e.thread c t).st = .running ∧ Dev.coreOnly c [t] d e ∧ Only [] [.cores] d e)
  ∧ (∀ (c : Fin 128) (t : Fin 16) f g, Completes (.fenceComplete c t)
      (fun d => (d.thread c t).fence = some f ∧ f.signal = some g ∧ (d.core c).faulted = false
        ∧ d.fenceDone c f.scope f.seq = true) fun d e => ∃ m : Dev, e = ((m.signalAct c g).heldStart c t).kick c
        ∧ (m.thread c t).fence = none ∧ Dev.coreOnly c [t] d m ∧ Only [] [.cores] d m)
  ∧ (∀ (c : Fin 128), Completes (.pcmapWritten c)
      (fun d => (d.core c).mapPending = true
        ∧ d.dmaOutstanding c (d.gf F.CORE_FAULT_STAT.QUEUE c) (d.gf F.CORE_FAULT_SEQ.SEQ c) = false) fun d e =>
        (e.core c).mapPending = false ∧ Dev.coreOnly c [] d e
          ∧ (∀ x r y, d.dmaEntry c (d.gf F.CORE_FAULT_STAT.QUEUE c) (d.gf F.CORE_FAULT_SEQ.SEQ c) = some (x, r) →
              r.desc = some y → e.gf F.CORE_PCMAP_DONE.DONE c = r.doneBytes % 2 ^ 64
              ∧ ∀ k, k < 512 → chunkBytes y.total * k < y.total →
                  covered r.got (chunkBytes y.total * k) (min (chunkBytes y.total * k + chunkBytes y.total) y.total)
                    = min (chunkBytes y.total * k + chunkBytes y.total) y.total - chunkBytes y.total * k →
                  getBits (e.reg ⟨.CORE_PCMAP_m, c, k / 64, 0⟩) (k % 64) (k % 64) = 1)
          ∧ Only (⟨.CORE_PCMAP_DONE, c, 0, 0⟩ :: (List.range 8).map fun m => ⟨.CORE_PCMAP_m, c, m, 0⟩) [.cores] d e)
  ∧ (∀ (c : Fin 128), Completes (.clearFaultAct c)
      (fun d => (d.core c).clearHeld = true ∧ d.faultSettled c = true ∧ (d.core c).clearThenResume = false
        ∧ (d.core c).clearThenStop = false) fun d e =>
        (e.core c).faulted = false ∧ (e.core c).clearHeld = false
          ∧ (∀ t, t < 16 → (e.thread c t).st = .halted ∧ (e.thread c t).fence = none) ∧ (∀ q, e.queue c q = [])
          ∧ e.gf F.CORE_PREEMPT_STAT.STATE c = d.gf F.CORE_PREEMPT_CTRL.REQ c
          ∧ (∀ c', c' ≠ c.val → e.core c' = d.core c') ∧ Only [⟨.CORE_PREEMPT_STAT, c, 0, 0⟩] [.cores] d e)
  ∧ (∀ (c : Fin 128) w, Completes (.corePaused c w)
      (fun d => (d.core c).paused = false ∧ (d.core c).faulted = false ∧ (d.core c).forced = false
        ∧ d.on F.CORE_PREEMPT_CTRL.REQ c = true ∧ d.pausePoint c = true) fun d e =>
        (e.core c).paused = true ∧ e.gf F.CORE_PREEMPT_STAT.STATE c = 2
          ∧ e.gf F.CORE_PREEMPT_STAT.WAIT_US c = min w 0xFFFFFFFF
          ∧ (e.engine c 0).tile = none ∧ (e.engine c 1).tile = none
          ∧ (∀ s, ((e.engine c 0).slot s).poison = false ∧ ((e.engine c 1).slot s).poison = false)
          ∧ Dev.coreOnly c [] d e
          ∧ Only [⟨.CORE_PREEMPT_STAT, c, 0, 0⟩, ⟨.CLU_SWAP_STAT, c / 4, 0, 0⟩] [.cores, .engines, .freeIx, .swaps] d e)
  ∧ (∀ (c : Fin 128), Completes (.corePreemptLate c)
      (fun d => d.on F.CORE_PREEMPT_CTRL.REQ c = true ∧ (d.core c).paused = false ∧ d.on F.CORE_PREEMPT_STAT.LATE c = false)
      fun d e => e.gf F.CORE_PREEMPT_STAT.LATE c = 1
        ∧ getBits (e.reg ⟨.INT_PEND_SET_k, 0, Dev.coreSource c / 64, 0⟩) (Dev.coreSource c % 64) (Dev.coreSource c % 64) = 1
        ∧ Only [⟨.CORE_PREEMPT_STAT, c, 0, 0⟩, ⟨.INT_PEND_SET_k, 0, Dev.coreSource c / 64, 0⟩] logParts d e)

/-- Each command completes where the register takes the write and the core's state lets it act. START makes a HALTED thread
RUNNING; HALT makes a RUNNING thread HALTED; PC and T registers of a HALTED thread take their values (T0 none). CLEAR_FAULT of a
settled fault leaves every thread HALTED and every queue empty. FORCE_STOP stops every thread that is not HALTED, and RESUME
returns each to its former state. REQ requests a pre-emption and CANCEL withdraws it. CORE_NUM_CTRL and CORE_SR_SEED take their
values on a core that is all halted or paused. No other register and no memory changes.
Where the manual leaves a detail open, the clauses rest on the model's choices of log entries 17, 18 and 63. -/
def Obligations.CoreControl : Prop :=
  (∀ (c : Fin 128) (t : Fin 16), Completes (.threadStart c t)
      (fun d => d.accepts ⟨.CORE_THREAD_n_CTRL, c, t, 0⟩ = true ∧ (d.core c).faulted = false ∧ (d.core c).paused = false
        ∧ (d.core c).forced = false ∧ (d.thread c t).st = .halted) fun d e =>
        e.thread c t = { d.thread c t with st := .running } ∧ Dev.coreOnly c [t] d e ∧ Dev.did [] [.cores] d e)
  ∧ (∀ (c : Fin 128) (t : Fin 16), Completes (.threadHalt c t)
      (fun d => d.accepts ⟨.CORE_THREAD_n_CTRL, c, t, 0⟩ = true ∧ (d.thread c t).st = .running
        ∧ (d.thread c t).fence = none) fun d e =>
        e.thread c t = { d.thread c t with st := .halted } ∧ Dev.coreOnly c [t] d e ∧ Dev.did [] [.cores] d e)
  ∧ (∀ (c : Fin 128) (t : Fin 16) v, Completes (.threadPcWrite c t v)
      (fun d => d.accepts ⟨.CORE_THREAD_n_PC, c, t, 0⟩ = true ∧ (d.thread c t).st = .halted) fun d e =>
        e.pc c t = v.toNat % 65536 ∧ (e.thread c t).pastEnd = false ∧ (e.thread c t).st = .halted
          ∧ Dev.coreOnly c [t] d e ∧ Dev.did [⟨.CORE_THREAD_n_PC, c, t, 0⟩] [.cores] d e)
  ∧ (∀ (c : Fin 128) (t m : Fin 16) v, Completes (.threadTWrite c t m v)
      (fun d => d.accepts ⟨.CORE_THREAD_n_T_m, c, t, m⟩ = true ∧ (d.thread c t).st = .halted) fun d e =>
        e.treg c t m = (if m = 0 then 0 else v.toNat)
          ∧ Dev.did (if m = 0 then [] else [⟨.CORE_THREAD_n_T_m, c, t, m⟩]) [] d e)
  ∧ (∀ (c : Fin 128), Completes (.coreClearFault c)
      (fun d => d.accepts ⟨.CORE_CTRL, c, 0, 0⟩ = true ∧ (d.core c).faulted = true ∧ d.faultSettled c = true) fun d e =>
        (e.core c).faulted = false ∧ (∀ t, t < 16 → (e.thread c t).st = .halted) ∧ (∀ q, e.queue c q = [])
          ∧ e.gf F.CORE_PREEMPT_STAT.STATE c = d.gf F.CORE_PREEMPT_CTRL.REQ c
          ∧ (∀ c', c' ≠ c.val → e.core c' = d.core c') ∧ Dev.did [⟨.CORE_PREEMPT_STAT, c, 0, 0⟩] [.cores] d e)
  ∧ (∀ (c : Fin 128), Completes (.coreResume c)
      (fun d => d.accepts ⟨.CORE_CTRL, c, 0, 0⟩ = true ∧ (d.core c).faulted = false ∧ (d.core c).forced = true
        ∧ (d.core c).clearHeld = false) fun d e => ∃ m : Dev, Dev.did [] [] (m.kick c) e ∧ (m.core c).forced = false
        ∧ (∀ t, t < 16 → (m.thread c t).st = if (d.thread c t).st = .stopped then (d.thread c t).prev else (d.thread c t).st)
        ∧ (∀ q, m.queue c q = d.queue c q) ∧ Only [] [.cores] d m)
  ∧ (∀ (c : Fin 128), Completes (.coreForceStop c)
      (fun d => d.accepts ⟨.CORE_CTRL, c, 0, 0⟩ = true ∧ (d.core c).faulted = false ∧ (d.core c).clearHeld = false) fun d e =>
        (e.core c).forced = true
          ∧ (∀ t, t < 16 → (d.thread c t).st ≠ .halted → (d.thread c t).st ≠ .faulted → (e.thread c t).st = .stopped)
          ∧ (∀ t, t < 16 → (d.thread c t).st = .halted → (e.thread c t).st = .halted)
          ∧ (∀ q, e.queue c q = d.queue c q) ∧ (∀ c', c' ≠ c.val → e.core c' = d.core c') ∧ Dev.did [] [.cores] d e)
  ∧ (∀ (c : Fin 128), Completes (.preemptReq c)
      (fun d => d.accepts ⟨.CORE_PREEMPT_CTRL, c, 0, 0⟩ = true ∧ d.on F.CORE_PREEMPT_CTRL.REQ c = false) fun d e =>
        e.gf F.CORE_PREEMPT_CTRL.REQ c = 1 ∧ e.gf F.CORE_PREEMPT_STAT.STATE c = 1 ∧ e.gf F.CORE_PREEMPT_STAT.LATE c = 0
          ∧ Dev.did [⟨.CORE_PREEMPT_CTRL, c, 0, 0⟩, ⟨.CORE_PREEMPT_STAT, c, 0, 0⟩] [] d e)
  ∧ (∀ (c : Fin 128), Completes (.preemptCancel c)
      (fun d => d.accepts ⟨.CORE_PREEMPT_CTRL, c, 0, 0⟩ = true ∧ d.on F.CORE_PREEMPT_CTRL.REQ c = true) fun d e =>
        e.gf F.CORE_PREEMPT_CTRL.REQ c = 0 ∧ e.gf F.CORE_PREEMPT_STAT.STATE c = 3 ∧ (e.core c).paused = false
          ∧ (∀ t, t < 16 → (e.thread c t).st = if (d.thread c t).st = .parked then .running else (d.thread c t).st)
          ∧ (∀ q, e.queue c q = d.queue c q) ∧ (∀ c', c' ≠ c.val → e.core c' = d.core c')
          ∧ Dev.did [⟨.CORE_PREEMPT_CTRL, c, 0, 0⟩, ⟨.CORE_PREEMPT_STAT, c, 0, 0⟩] [.cores] d e)
  ∧ (∀ (c : Fin 128) v, Completes (.coreNumCtrlWrite c v)
      (fun d => d.accepts ⟨.CORE_NUM_CTRL, c, 0, 0⟩ = true ∧ d.coreIdle c = true) fun d e =>
        e.gf F.CORE_NUM_CTRL.SR_EN c = getBits v 3 3
          ∧ e.gf F.CORE_NUM_CTRL.MXNAN_STOP c = getBits v F.CORE_NUM_CTRL.MXNAN_STOP.hi F.CORE_NUM_CTRL.MXNAN_STOP.lo
          ∧ e.gf F.CORE_NUM_CTRL.INVALID_STOP c = getBits v F.CORE_NUM_CTRL.INVALID_STOP.hi F.CORE_NUM_CTRL.INVALID_STOP.lo
          ∧ e.gf F.CORE_NUM_CTRL.OVERFLOW_STOP c = getBits v F.CORE_NUM_CTRL.OVERFLOW_STOP.hi F.CORE_NUM_CTRL.OVERFLOW_STOP.lo
          ∧ Dev.did [⟨.CORE_NUM_CTRL, c, 0, 0⟩] [] d e)
  ∧ (∀ (c : Fin 128) v, Completes (.coreSrSeedWrite c v)
      (fun d => d.accepts ⟨.CORE_SR_SEED, c, 0, 0⟩ = true ∧ d.coreIdle c = true) fun d e =>
        e.reg ⟨.CORE_SR_SEED, c, 0, 0⟩ = v ∧ Dev.did [⟨.CORE_SR_SEED, c, 0, 0⟩] [] d e)

/-- Each command completes where the register takes the write. CLEAR zeroes the channel's status and its 32 bin words. The
control word takes LIMIT, ALERT_EN, FREEZE and ARM, and SOURCE while the channel was not armed; the window's ends take their
address while the channel is not armed. A write of SYN_CNT_n sets the counter and its floor; a write of SYN_CNT_n_ADD adds its
signed value to the counter while that stays in range, and outside the range leaves the counter and stops its core.
Where the manual leaves a detail open, the clauses rest on the model's choices of log entry 22. -/
def Obligations.SpectrographAndCounters : Prop :=
  (∀ (c : Fin 128) (k : Fin 4), Completes (.specClear c k)
      (fun d => d.accepts ⟨.CORE_SPEC_k_CTRL, c, k, 0⟩ = true) fun d e =>
        e.reg ⟨.CORE_SPEC_k_STAT, c, k, 0⟩ = 0 ∧ (∀ n, n < 32 → e.reg ⟨.CORE_SPEC_k_BIN_n, c, k, n⟩ = 0)
          ∧ (∀ (f : Fld), f ∈ [F.CORE_SPEC_k_CTRL.LIMIT, F.CORE_SPEC_k_CTRL.SOURCE, F.CORE_SPEC_k_CTRL.ALERT_EN,
              F.CORE_SPEC_k_CTRL.FREEZE, F.CORE_SPEC_k_CTRL.ARM] → e.gf f c k = d.gf f c k)
          ∧ Dev.did (⟨.CORE_SPEC_k_CTRL, c, k, 0⟩ :: ⟨.CORE_SPEC_k_STAT, c, k, 0⟩ ::
              (List.range 32).map fun n => ⟨.CORE_SPEC_k_BIN_n, c, k, n⟩) [.cores] d e ∧ Dev.coreOnly c [] d e)
  ∧ (∀ (c : Fin 128) (k : Fin 4) v, Completes (.specCtrlWrite c k v)
      (fun d => d.accepts ⟨.CORE_SPEC_k_CTRL, c, k, 0⟩ = true ∧ getBits v 1 1 = 0) fun d e =>
        e.gf F.CORE_SPEC_k_CTRL.LIMIT c k = getBits v 63 32
          ∧ e.gf F.CORE_SPEC_k_CTRL.SOURCE c k =
              (if d.on F.CORE_SPEC_k_CTRL.ARM c k then d.gf F.CORE_SPEC_k_CTRL.SOURCE c k else getBits v 5 4)
          ∧ e.gf F.CORE_SPEC_k_CTRL.ALERT_EN c k = getBits v 3 3 ∧ e.gf F.CORE_SPEC_k_CTRL.FREEZE c k = getBits v 2 2
          ∧ e.gf F.CORE_SPEC_k_CTRL.ARM c k = getBits v 0 0
          ∧ Dev.did [⟨.CORE_SPEC_k_CTRL, c, k, 0⟩] [.cores] d e ∧ Dev.coreOnly c [] d e)
  ∧ (∀ (c : Fin 128) (k : Fin 4) hi v, Completes (.specWindowWrite c k hi v)
      (fun d => d.accepts ⟨if hi then .CORE_SPEC_k_HI else .CORE_SPEC_k_LO, c, k, 0⟩ = true) fun d e =>
        (if d.on F.CORE_SPEC_k_CTRL.ARM c k then Dev.did [] [] d e
          else e.gf (if hi then F.CORE_SPEC_k_HI.ADDR else F.CORE_SPEC_k_LO.ADDR) c k = getBits v 24 0
            ∧ Dev.did [⟨if hi then .CORE_SPEC_k_HI else .CORE_SPEC_k_LO, c, k, 0⟩] [] d e))
  ∧ (∀ (c : Fin 128) (n : Fin 4096) v, Completes (.synCntWrite c n v)
      (fun d => d.accepts ⟨.SYN_CNT_n, c, n, 0⟩ = true) fun d e =>
        e.cntC c n = v.toNat % 2 ^ 48 ∧ e.cntF c n = v.toNat % 2 ^ 48
          ∧ Dev.did [⟨.SYN_CNT_n, c, n, 0⟩, ⟨.SYN_FLOOR_n, c, n, 0⟩] [] d e)
  ∧ (∀ (c : Fin 128) (n : Fin 4096) v, Completes (.synCntAdd c n v)
      (fun d => d.accepts ⟨.SYN_CNT_n_ADD, c, n, 0⟩ = true ∧ d.judge c n (sext 48 (getBits v 47 0)) = .applied
        ∧ (d.on F.SAFE_LS_CTRL.EN = false ∨ d.gf F.SAFE_LS_CTRL.MARK_CNTR ≠ n)) fun d e =>
        e.cntC c n = (d.cntC c n + v.toNat) % 2 ^ 48 ∧ e.cntF c n = d.cntF c n
          ∧ e.gf F.SYN_UPDATE_CNT.COUNT c = (d.gf F.SYN_UPDATE_CNT.COUNT c + 1) % 2 ^ 64
          ∧ Dev.did [⟨.SYN_CNT_n, c, n, 0⟩, ⟨.SYN_UPDATE_CNT, c, 0, 0⟩] [] d e)
  ∧ (∀ (c : Fin 128) (n : Fin 4096) v, Completes (.synCntAdd c n v)
      (fun d => d.accepts ⟨.SYN_CNT_n_ADD, c, n, 0⟩ = true ∧ d.judge c n (sext 48 (getBits v 47 0)) ≠ .applied
        ∧ (d.core c).faulted = false) fun d e =>
        (e.core c).faulted = true ∧ e.cntC c n = d.cntC c n ∧ e.cntF c n = d.cntF c n
          ∧ e.gf F.CORE_FAULT_STAT.CODE c = Code.CORE_COUNTER_FAULT
          ∧ e.gf F.SYN_CORE_FAULT.CODE c =
              (if d.judge c n (sext 48 (getBits v 47 0)) = .underflow then Code.SYN_UNDERFLOW else Code.SYN_OVERFLOW))

/-- Each command and event of a spare-core swap completes. With an unretired spare and no swap in progress, REQ with MODE 0
begins a COPY swap of the logical core and MODE 1 moves the logical core to the spare at once, with a fresh core. CANCEL of a swap
whose copy has not begun ends it with CLU_SWAP_CANCELLED. A spare that passes its check stands ready, and one that fails ends the
swap with CLU_SPARE_FAILED. The end of the copy lets the remap begin, and the remap gives the logical core to the spare,
retires the old core, sets the cluster's interrupt source and clears REQ.
Where the manual leaves a detail open, the clauses rest on the model's choices of log entries 11, 13, 14, 15 and 16. -/
def Obligations.SpareCoreSwaps : Prop :=
  (∀ (k : Fin 32) (l : Fin 4), Completes (.cluSwapReq k 0 l)
      (fun d => d.accepts ⟨.CLU_SWAP_CTRL, k, 0, 0⟩ = true ∧ d.swapOf k = none ∧ d.hasSpare k = true) fun d e =>
        (∃ s, e.swapOf k = some s ∧ s.lcore = l.val ∧ s.empty = false ∧ s.powered = false ∧ s.phase = .waiting)
          ∧ e.gf F.CLU_SWAP_STAT.STATE k = 2 ∧ e.gf F.CLU_SWAP_CTRL.REQ k = 1
          ∧ Dev.did [⟨.CLU_SWAP_CTRL, k, 0, 0⟩, ⟨.CLU_SWAP_STAT, k, 0, 0⟩] [.swaps] d e)
  ∧ (∀ (k : Fin 32) (l : Fin 4), Completes (.cluSwapReq k 1 l)
      (fun d => d.accepts ⟨.CLU_SWAP_CTRL, k, 0, 0⟩ = true ∧ d.swapOf k = none ∧ d.hasSpare k = true) fun d e =>
        e.physOf (4 * k + l) = d.gf F.CLU_CORE_MAP.SPARE_PHYS k ∧ e.gf F.CLU_CORE_MAP.SPARE_PHYS k = 7
          ∧ (∀ c, c ≠ 4 * k.val + l.val → e.core c = d.core c)
          ∧ (∀ t, (e.thread (4 * k + l) t).st = .halted) ∧ (∀ q, e.queue (4 * k + l) q = [])
          ∧ (∀ a, a < 2 ^ 23 → e.coreByte ((4 * k + l) * 2 ^ 23 + a) = 0)
          ∧ e.gf F.CLU_SWAP_STAT.STATE k = 4 ∧ e.nextSeq (4 * k + l) = d.nextSeq (4 * k + l)
          ∧ e.isPending (Dev.swapSource k) = true)
  ∧ (∀ (k : Fin 32) s, Completes (.cluSwapCancel k)
      (fun d => d.accepts ⟨.CLU_SWAP_CTRL, k, 0, 0⟩ = true ∧ d.swapOf k = some s ∧ s.phase = .waiting) fun d e =>
        e.swapOf k = none ∧ e.gf F.CLU_SWAP_STAT.CODE k = Code.CLU_SWAP_CANCELLED ∧ e.gf F.CLU_SWAP_STAT.STATE k = 5
          ∧ e.gf F.CLU_SWAP_CTRL.REQ k = 0 ∧ (∀ c, e.physOf c = d.physOf c)
          ∧ Dev.did [⟨.CLU_SWAP_CTRL, k, 0, 0⟩, ⟨.CLU_SWAP_STAT, k, 0, 0⟩, ⟨.INT_PEND_SET_k, 0, Dev.swapSource k / 64, 0⟩]
              [.swaps, .cores] d e)
  ∧ (∀ (k : Fin 32) s, Completes (.sparePowerUpDone k true)
      (fun d => d.swapOf k = some s ∧ s.powered = false ∧ s.phase = .waiting ∧ s.lcore < 4) fun d e =>
        (∃ s', e.swapOf k = some s' ∧ s'.powered = true
          ∧ s'.phase = (if !s.empty && d.pausePoint (4 * k + s.lcore) then .copying else .waiting))
          ∧ Only [⟨.CLU_SWAP_STAT, k, 0, 0⟩] [.swaps] d e)
  ∧ (∀ (k : Fin 32) s, Completes (.sparePowerUpDone k false)
      (fun d => d.swapOf k = some s ∧ s.powered = false ∧ s.phase = .waiting) fun d e =>
        e.swapOf k = none ∧ e.gf F.CLU_SWAP_STAT.CODE k = Code.CLU_SPARE_FAILED ∧ e.gf F.CLU_SWAP_CTRL.REQ k = 0
          ∧ Only [⟨.CLU_SWAP_CTRL, k, 0, 0⟩, ⟨.CLU_SWAP_STAT, k, 0, 0⟩, ⟨.INT_PEND_SET_k, 0, Dev.swapSource k / 64, 0⟩]
              (.swaps :: .cores :: logParts) d e)
  ∧ (∀ (k : Fin 32) s, Completes (.swapCopyDone k)
      (fun d => d.swapOf k = some s ∧ s.phase = .copying) fun d e =>
        e.swapOf k = some { s with phase := .copied } ∧ (∀ k', k' ≠ k.val → e.swapOf k' = d.swapOf k') ∧ Only [] [.swaps] d e)
  ∧ (∀ (k : Fin 32) s us, Completes (.swapRemapDone k us)
      (fun d => d.swapOf k = some s ∧ s.phase = .copied ∧ s.held = [] ∧ s.lcore < 4) fun d e =>
        e.physOf (4 * k + s.lcore) = d.gf F.CLU_CORE_MAP.SPARE_PHYS k ∧ e.gf F.CLU_CORE_MAP.SPARE_PHYS k = 7
          ∧ (d.physOf (4 * k + s.lcore) < 5 → bitOf (e.gf F.CLU_CORE_RETIRED.PHYS_RETIRED k) (d.physOf (4 * k + s.lcore)) = true)
          ∧ e.swapOf k = none ∧ e.gf F.CLU_SWAP_STAT.STATE k = 4 ∧ e.gf F.CLU_SWAP_STAT.DURATION_US k = min us 0xFFFF
          ∧ e.gf F.CLU_SWAP_CTRL.REQ k = 0 ∧ e.isPending (Dev.swapSource k) = true
          ∧ (e.engine (4 * k + s.lcore) 0).tile = none ∧ (e.core (4 * k + s.lcore)).fifo0 = []
          ∧ (∀ a, e.coreByte a = d.coreByte a) ∧ (∀ a, e.imemByte a = d.imemByte a)
          ∧ (∀ q, e.queue (4 * k + s.lcore) q = d.queue (4 * k + s.lcore) q))

/-- A DMA engine that starts a descriptor whose checks pass moves its bytes: between stores, every destination byte of every
target core becomes the source byte as it stood, and no other byte of memory changes; from a remote source it sends the reads,
and to a remote destination the writes, that `dmaPieces` cuts the bytes into. A descriptor that has delivered every byte ends
its DMA, or the chain moves on to NEXT. An append takes the next bytes of a store source, in order and as many as every target
FIFO has space for, but for the pad bytes that the FIFO's last STREAM has passed.
Where the manual leaves a detail open, the clauses rest on the model's choices of log entries 12 and 47. -/
def Obligations.DmaEngines : Prop :=
  (∀ (c : Fin 128) cl seq x r b y, Completes (.dmaDescriptorStart c cl seq .ok .ok)
      (fun d => d.dmaEntry c (dmaQueue cl) seq = some (x, r) ∧ x.started = true ∧ x.done = false ∧ x.stuck = false
        ∧ r.desc = none ∧ r.failed = none ∧ b = d.rdStore c r.nextAddr 64 ∧ y = dmaDescOf b
        ∧ dmaBadDesc d.self (dmaQueue cl - 4) b = false ∧ dmaBadAddr y = false ∧ d.dmaReach y = none
        ∧ y.srcSp = true ∧ y.dstSp = true ∧ y.toFifo = false ∧ (y.rowBytes ≤ y.dstStride ∨ y.rows = 1)
        ∧ ∀ t ∈ Dev.dmaTargets c y, d.copying t = false) fun d e =>
        (∀ t ∈ Dev.dmaTargets c y, ∀ o, o < y.total →
            e.cell (Dev.storeCell t (y.dstAt o)).1 (Dev.storeCell t (y.dstAt o)).2 = d.rdByte c (y.srcAt o))
          ∧ (∀ m a, (∀ t ∈ Dev.dmaTargets c y, ∀ o, o < y.total → (m, a) ≠ Dev.storeCell t (y.dstAt o)) →
              e.cell m a = d.cell m a)
          ∧ (∃ x' r', e.dmaEntry c (dmaQueue cl) seq = some (x', r') ∧ r'.desc = some y ∧ r'.complete = true)
          ∧ Only [] [.cores, .nextMsg, .coreStore, .clusterStore, .imem] d e)
  ∧ (∀ (c : Fin 128) cl seq x r b y, Completes (.dmaDescriptorStart c cl seq .ok .ok)
      (fun d => d.dmaEntry c (dmaQueue cl) seq = some (x, r) ∧ x.started = true ∧ x.done = false ∧ x.stuck = false
        ∧ r.desc = none ∧ r.failed = none ∧ b = d.rdStore c r.nextAddr 64 ∧ y = dmaDescOf b
        ∧ dmaBadDesc d.self (dmaQueue cl - 4) b = false ∧ dmaBadAddr y = false ∧ d.dmaReach y = none
        ∧ y.srcSp = false) fun d e =>
        (∃ rs, e.reqs = d.reqs ++ rs
            ∧ rs.map (fun q => (q.pkt.offset, q.pkt.addr, q.pkt.length)) = dmaPieces y.src y.rowBytes y.srcStride 0 y.total y.total
            ∧ ∀ q ∈ rs, q.kind = .dmaRead ∧ q.core = c.val ∧ q.seq = seq ∧ q.pkt.type = PT.dmaRead ∧ q.pkt.dst = y.srcDev
                ∧ q.pkt.key = y.srcKey)
          ∧ (∀ m a, e.cell m a = d.cell m a))
  ∧ (∀ (c : Fin 128) cl seq x r b y, Completes (.dmaDescriptorStart c cl seq .ok .ok)
      (fun d => d.dmaEntry c (dmaQueue cl) seq = some (x, r) ∧ x.started = true ∧ x.done = false ∧ x.stuck = false
        ∧ r.desc = none ∧ r.failed = none ∧ b = d.rdStore c r.nextAddr 64 ∧ y = dmaDescOf b
        ∧ dmaBadDesc d.self (dmaQueue cl - 4) b = false ∧ dmaBadAddr y = false ∧ d.dmaReach y = none
        ∧ y.srcSp = true ∧ y.dstSp = false) fun d e =>
        (∃ rs, e.reqs = d.reqs ++ rs
            ∧ rs.map (fun q => (q.pkt.offset, q.pkt.addr, q.pkt.length)) = dmaPieces y.dst y.rowBytes y.dstStride 0 y.total y.total
            ∧ ∀ q ∈ rs, q.kind = .dmaWrite ∧ q.core = c.val ∧ q.seq = seq ∧ q.pkt.type = PT.dmaWrite ∧ q.pkt.dst = y.dstDev
                ∧ q.pkt.payload = (List.range q.pkt.length).map fun k => d.rdByte c (y.srcAt (q.pkt.offset + k)))
          ∧ (∀ m a, e.cell m a = d.cell m a))
  ∧ (∀ (c : Fin 128) cl seq x r y, Completes (.dmaDescriptorDone c cl seq)
      (fun d => d.dmaEntry c (dmaQueue cl) seq = some (x, r) ∧ x.stuck = false ∧ r.failed = none ∧ r.complete = true
        ∧ r.desc = some y ∧ (y.next = 0 ∨ r.index ≠ 4095)) fun d e => ∃ m : Dev, e = m.kick c
        ∧ m.queue c (dmaQueue cl) = (d.queue c (dmaQueue cl)).map (fun z =>
            if z.seq = seq then
              if y.next = 0 then { z with done := true, op := .dma { r with desc := none } }
              else { z with op := .dma { nextAddr := y.next, index := r.index + 1 } }
            else z)
        ∧ Only [] [.cores] d m)
  ∧ (∀ (c : Fin 128) cl seq n x r y bs, Completes (.streamFifoAppend c cl seq n .ok)
      (fun d => d.dmaEntry c (dmaQueue cl) seq = some (x, r) ∧ x.stuck = false ∧ r.failed = none ∧ r.desc = some y
        ∧ y.toFifo = true ∧ y.srcSp = true ∧ (∀ t ∈ Dev.dmaTargets c y, d.copying t = false)
        ∧ bs = (List.range (min (min n (d.fifoSpace c y)) (y.total - r.appended))).map fun k => d.rdByte c (y.srcAt (r.appended + k)))
      fun d e =>
        (∀ t ∈ Dev.dmaTargets c y, if y.dst < 0x0810000 then
            (e.core t).fifo0 = (d.core t).fifo0 ++ bs.drop (d.core t).skip0 ∧ (e.core t).fifo1 = (d.core t).fifo1
          else (e.core t).fifo1 = (d.core t).fifo1 ++ bs.drop (d.core t).skip1 ∧ (e.core t).fifo0 = (d.core t).fifo0)
          ∧ (∃ x' r', e.dmaEntry c (dmaQueue cl) seq = some (x', r') ∧ r'.appended = r.appended + bs.length)
          ∧ (∀ t, t ≠ c.val → t ∉ Dev.dmaTargets c y → e.core t = d.core t) ∧ Only [] [.cores] d e)

/-- Each step of the attention stream unit completes. A descriptor whose checks pass is taken, with every column at m = −∞ and
l = 0, and the map entries that its append needs are asked for. A map entry that has arrived well formed is kept, and the append
or the read-ahead goes on. Once nothing of the append is outstanding, the attend phase begins. A block whose keys and values
are in the work area goes through the online softmax of every column, and the engines count its rows: the keys on engine 0 and the 128 rows of the
values on engine 1. After the last block, element p of feature f of head h is
the normalised output of its column, converted to OFMT; a last descriptor completes its ATTN.
Where the manual leaves a detail open, the clauses rest on the model's choices of log entries 21, 23, 24 and 47. -/
def Obligations.AttentionUnit : Prop :=
  (∀ (c : Fin 128) x r b y, Completes (.attnDescriptorStart c .ok)
      (fun d => d.attnEntry c = some x ∧ d.attnRun c = some r ∧ r.desc = none ∧ r.faulted = false
        ∧ b = d.rdStore c r.nextAddr 128 ∧ y = attnDescOf b ∧ attnBadDesc b = false ∧ attnBadAddr y = false
        ∧ inHbmRange (y.map % 2 ^ 46) = true ∧ y.map % 2 ^ 46 + 16 * (y.kEnd + 256) < 0x9000000000
        ∧ d.gasReach (y.map / 2 ^ 46) = none) fun d e =>
        e.gf F.CORE_ATTN_REC.PHASE c = 2 ∧ (e.core c).faulted = (d.core c).faulted
          ∧ (∃ r', e.attnRun c = some r' ∧ r'.desc = some y ∧ r'.nextKey = y.kStart ∧ r'.appended = false
              ∧ r'.cols = List.replicate 128 { m := negInf32, l := 0, o := List.replicate 128 0 }
              ∧ ∀ n ∈ Dev.entriesOf y y.kvLen y.kEnd, Dev.mapLine y n ∈ r'.askedMap)
          ∧ (∀ m a, e.cell m a = d.cell m a))
  ∧ (∀ (c : Fin 128) n ecc x r y b p, Completes (.attnMapEntryRead c n ecc)
      (fun d => d.attnEntry c = some x ∧ d.attnRun c = some r ∧ r.desc = some y ∧ r.faulted = false
        ∧ (if r.appended then Dev.needsEntry y r.nextKey n = true else n ∈ Dev.entriesOf y y.kvLen y.kEnd) ∧ r.entries.any (fun e => decide (e.1 = n)) = false
        ∧ Dev.attnBytes r (y.map + 16 * n) 16 = some b ∧ mapEntryOf b = some p) fun d e => ∃ m : Dev,
        e = (if r.appended then m.attnAhead c x y else m.attnAppend c x y ecc)
          ∧ m.attnRun c = some { r with entries := r.entries ++ [(n, p.1, p.2)] } ∧ Dev.coreOnly c [] d m ∧ Only [] [.cores] d m)
  ∧ (∀ (c : Fin 128) x r y, Completes (.attnAppendDone c)
      (fun d => d.attnEntry c = some x ∧ d.attnRun c = some r ∧ r.desc = some y ∧ r.faulted = false ∧ r.appended = false
        ∧ r.appendAt = y.append ∧ y.append ≤ 128 ∧ y.appendOnly = false ∧ d.attnUnacked c = []) fun d e => ∃ m : Dev,
        e = m.attnAhead c x y ∧ m.attnRun c = some { r with appendSent := true, appended := true }
          ∧ m.gf F.CORE_ATTN_REC.PHASE c = 3 ∧ m.gf F.CORE_ATTN_REC.APPEND_DONE c = y.append
          ∧ Dev.coreOnly c [] d m ∧ Only [⟨.CORE_ATTN_REC, c, 0, 0⟩] [.cores] d m)
  ∧ (∀ (c : Fin 128) x r y k0 p kb vb q o, Completes (.attnBlock c .ok)
      (fun d => d.attnEntry c = some x ∧ d.attnRun c = some r ∧ r.desc = some y ∧ r.faulted = false ∧ r.appended = true
        ∧ y.blockAt r.nextKey = some k0 ∧ Dev.pageOf r y k0 = some p
        ∧ Dev.attnBytes r (p.1 + k0 % y.tokens * y.rowB) (y.blockLen k0 * y.rowB) = some kb
        ∧ Dev.attnBytes r (p.1 + k0 % y.tokens * y.rowB + 0x8000) (y.blockLen k0 * y.rowB) = some vb
        ∧ q = r.query.getD (d.queryTile c y) ∧ o = Dev.softmaxBlock y q k0 r.cols (Dev.blockRows y kb) (Dev.blockRows y vb)
        ∧ d.noNumericStop c = true) fun d e => ∃ m : Dev, e = m.attnAhead c x y
          ∧ m.attnRun c = some { r with
              cols := o.cols, blocks := r.blocks + 1, total := r.total + 1, nextKey := k0 + 128, query := some q
              loaded := true }
          ∧ m.gf F.ENG_ROWS_CNT.ROWS (2 * c) = (d.gf F.ENG_ROWS_CNT.ROWS (2 * c) + y.blockLen k0) % 2 ^ 64
          ∧ m.gf F.ENG_ROWS_CNT.ROWS (2 * c + 1) = (d.gf F.ENG_ROWS_CNT.ROWS (2 * c + 1) + 128) % 2 ^ 64
          ∧ m.gf F.CORE_ATTN_BLOCKS_CNT.BLOCKS c = (d.gf F.CORE_ATTN_BLOCKS_CNT.BLOCKS c + 1) % 2 ^ 64
          ∧ Dev.coreOnly c [] d m
          ∧ Only [⟨.CORE_ATTN_REC, c, 0, 0⟩, ⟨.CORE_ATTN_BLOCKS_CNT, c, 0, 0⟩, ⟨.CORE_NUM_CNT, c, 0, 0⟩, ⟨.CORE_NUM_LAST, c, 0, 0⟩,
              ⟨.ENG_ROWS_CNT, 2 * c, 0, 0⟩, ⟨.ENG_ROWS_CNT, 2 * c + 1, 0, 0⟩, ⟨.ENG_LOAD_STALL_CNT, 2 * c, 0, 0⟩,
              ⟨.ENG_LOAD_STALL_CNT, 2 * c + 1, 0, 0⟩, ⟨.CORE_QUEUE_q_DONE, c, 0, 0⟩, ⟨.CORE_QUEUE_q_DONE, c, 1, 0⟩,
              ⟨.CORE_QUEUE_q_CNT, c, 0, 0⟩, ⟨.CORE_QUEUE_q_CNT, c, 1, 0⟩] [.cores, .engines, .freeIx] d m)
  ∧ (∀ (c : Fin 128) x r y, Completes (.attnOutputDone c)
      (fun d => d.attnEntry c = some x ∧ d.attnRun c = some r ∧ r.desc = some y ∧ r.faulted = false ∧ r.appended = true
        ∧ y.blockAt r.nextKey = none ∧ y.appendOnly = false ∧ attnBadAddr y = false ∧ y.stats = false ∧ y.next = 0 ∧ y.ofmt < 4
        ∧ y.oCol + y.npos ≤ 128 ∧ 128 * (elemFmt y.ofmt).bytes ≤ y.oStride ∧ y.work + y.workB ≤ 2 ^ 23
        ∧ Dev.apart y.work y.workB y.oAddr (rowSpan (128 * y.hq) (128 * (elemFmt y.ofmt).bytes) y.oStride) = true
        ∧ d.noNumericStop c = true) fun d e => ∃ m : Dev, e = m.kick c
          ∧ (∀ h f p, h < y.hq → f < 128 → p < y.npos →
              m.rdStore c (y.oAddr + (128 * h + f) * y.oStride + (y.oCol + p) * (elemFmt y.ofmt).bytes) (elemFmt y.ofmt).bytes
                = leBytes (elemFmt y.ofmt).bytes
                    (vecExit y.ofmt (((r.cols.map (attnFinal y.unnorm y.oscale)).getD (h * y.npos + p) ([], false)).1.getD f 0)).1)
          ∧ (∀ a, (∀ k, k < y.workB → a ≠ c * 2 ^ 23 + y.work + k) →
              (∀ k, k < rowSpan (128 * y.hq) (128 * (elemFmt y.ofmt).bytes) y.oStride →
                (.coreStore, a) ≠ Dev.storeCell c (y.oAddr + k)) → m.coreByte a = d.coreByte a)
          ∧ m.attnEntry c ≠ some x ∧ m.gf F.CORE_ATTN_REC.PHASE c = 4)

/-- Each input event completes. PRSNT_N and the input switch are noted. The auxiliary path comes into service Off; with PGOOD_IN
high, the input within 48 to 64 V and nothing that holds a start, a cold start begins with its Delay step, as at a rise of PGOOD_IN.
The path that goes off leaves every register at its Reset value and keeps the flash. PRSNT_N breaking begins the input-loss
path, and with stage one on or held off by a start so do a fall of PGOOD_IN, a second sample outside 44 to 66 V and an input low for
100 ms, each with its cause. A rise with the input switch open waits, and is acted on once it closes. With one converter or none the
strap delay ends in that path; a fall in RECOVERY ends in Off. The tenth sample below 48 V sets INPUT_LOW and the 2,000 W cap, and 48.5 V for 10 ms lifts both.
Where the manual leaves a detail open, the clauses rest on the model's choices of log entries 56 and 57. -/
def Obligations.ModuleInput : Prop :=
  Completes .prsntNMate (fun _ => True) (fun d e => e.power = { d.power with mated := true } ∧ Only [] [.power] d e)
  ∧ Completes .inputSwitchClose (fun d => d.power.mated = true ∧ d.power.rise = false)
      (fun d e => e.power = { d.power with closed := true } ∧ Only [] [.power] d e)
  ∧ Completes .inputSwitchClose (fun d => d.power.mated = true ∧ d.power.rise = true ∧ d.power.pgoodIn = true
        ∧ d.power.aux = true ∧ d.power.stageOne = false ∧ d.power.path = none ∧ d.power.hold = false ∧ d.power.hot = false)
      (fun _ e => e.power.closed = true ∧ e.power.rise = false ∧ e.boot.step = .delay ∧ e.boot.kind = .cold)
  ∧ (∀ st vin, Completes (.auxPathInService st vin)
      (fun d => d.power.closed = true ∧ d.power.aux = false ∧ d.power.pgoodIn = false) fun d e =>
        e.power = { d.power with
            aux := true, pgoodOut := if d.power.railsUp && d.power.badRails.isEmpty then .released else .low }
          ∧ e.boot = { d.boot with step := .off } ∧ e.gf F.BOOT_STAT.STATE = 10
          ∧ Only [⟨.BOOT_STAT, 0, 0, 0⟩] [.power, .boot] d e)
  ∧ (∀ st (vin : Fin 65536), Completes (.auxPathInService st vin)
      (fun d => d.power.closed = true ∧ d.power.aux = false ∧ d.power.pgoodIn = true ∧ d.power.stageOne = false
        ∧ d.power.path = none ∧ d.power.hold = false ∧ d.power.hot = false ∧ 4800 ≤ vin.val ∧ vin.val ≤ 6400) fun _ e =>
        e.power.aux = true ∧ e.boot.step = .delay ∧ e.boot.kind = .cold ∧ e.gf F.BOOT_STRAP.OSC_DLY = st.val)
  ∧ Completes .prsntNBreak (fun d => d.power.aux = true ∧ (d.power.path = none ∨ d.power.toOff = false)) (fun d e =>
        e.power = { d.power with
            mated := false, closed := false, path := some (d.power.path.getD .clocks), toOff := true }
          ∧ e.safe = { d.safe with unplanned := d.safe.unplanned || d.runs }
          ∧ e.gf F.PWR_STAT.LAST_OFF_CAUSE = 1 ∧ Only [⟨.PWR_STAT, 0, 0, 0⟩] (.power :: .safe :: .eph :: logParts) d e)
  ∧ Completes .prsntNBreak (fun d => d.power.aux = false) (fun d e =>
        e.power = { d.power with mated := false, closed := false } ∧ Only [] [.power] d e)
  ∧ Completes .auxPathOff (fun d => d.power.aux = true) (fun d e =>
        (∀ k, e.reg k = k.reset) ∧ e.power.aux = false ∧ e.power.stageOne = false ∧ e.hbm = [] ∧ e.cores = [] ∧ e.gas.replies = []
          ∧ e.boot.warmRecord = false ∧ e.eph.area0 = d.eph.area0 ∧ e.eph.area1 = d.eph.area1 ∧ e.eph.slotA = d.eph.slotA
          ∧ e.eph.slotB = d.eph.slotB ∧ e.eph.records = d.eph.records ∧ e.eph.sram = [] ∧ e.power.pgoodIn = d.power.pgoodIn
          ∧ e.power.pgoodOut = .highZ)
  ∧ (∀ (st : Fin 8) (vin : Fin 65536), Completes (.pgoodInRise st vin)
      (fun d => d.power.pgoodIn = false ∧ d.power.aux = true ∧ d.power.closed = true ∧ d.power.stageOne = false
        ∧ d.power.path = none ∧ d.power.hold = false ∧ d.power.hot = false ∧ 4800 ≤ vin.val ∧ vin.val ≤ 6400) fun _ e =>
        e.boot.step = .delay ∧ e.boot.kind = .cold ∧ e.gf F.BOOT_STRAP.OSC_DLY = st.val ∧ e.power.pgoodIn = true
          ∧ e.power.rise = false ∧ e.chrono = 0 ∧ e.cores = [] ∧ e.hbm = [] ∧ e.gas.replies = [] ∧ e.log = {})
  ∧ (∀ (st : Fin 8) (vin : Fin 65536), Completes (.pgoodInRise st vin)
      (fun d => d.power.pgoodIn = false ∧ d.power.aux = true ∧ (vin.val < 4800 ∨ 6400 < vin.val)) fun d e =>
        e.power = { d.power with pgoodIn := true } ∧ e.gf F.BOOT_STRAP.OSC_DLY = st.val
          ∧ Only [⟨.BOOT_STRAP, 0, 0, 0⟩] [.power] d e)
  ∧ (∀ (st : Fin 8) (vin : Fin 65536), Completes (.pgoodInRise st vin)
      (fun d => d.power.pgoodIn = false ∧ d.power.aux = true ∧ d.power.closed = false ∧ 4800 ≤ vin.val ∧ vin.val ≤ 6400) fun d e =>
        e.power = { d.power with pgoodIn := true, rise := true } ∧ e.gf F.BOOT_STRAP.OSC_DLY = st.val
          ∧ Only [⟨.BOOT_STRAP, 0, 0, 0⟩] [.power] d e)
  ∧ (∀ (khz : Fin 131072), Completes (.startDelayExpiry khz) (fun d => d.boot.step = .delay ∧ d.boot.coldNext = false
        ∧ d.power.path = none ∧ d.power.failed < 4) fun d e =>
        e.power = { d.power with stageOne := true } ∧ e.boot = { d.boot with step := .rails }
          ∧ e.gf F.PWR_STAT.CONVERTERS = 5 - d.power.failed ∧ e.gf F.CLK_STAT.REF_OK = 1 ∧ e.gf F.CLK_STAT.HOLDOVER = 0
          ∧ e.gf F.CLK_STAT.REF_KHZ = khz.val
          ∧ Only [⟨.PWR_STAT, 0, 0, 0⟩, ⟨.CLK_STAT, 0, 0, 0⟩, ⟨.BOOT_STAT, 0, 0, 0⟩] [.power, .boot] d e)
  ∧ (∀ (khz : Fin 131072), Completes (.startDelayExpiry khz) (fun d => d.boot.step = .delay ∧ d.boot.coldNext = false
        ∧ d.power.path = none ∧ 4 ≤ d.power.failed) fun _ e =>
        e.power.path = some .clocks ∧ e.power.toOff = true ∧ e.gf F.PWR_STAT.LAST_OFF_CAUSE = 4)
  ∧ Completes .pgoodInFall (fun d => d.runs = true ∧ d.power.path = none) (fun d e =>
        e.power = { d.power with pgoodIn := false, rise := false, path := some .clocks, toOff := true }
          ∧ e.gf F.PWR_STAT.LAST_OFF_CAUSE = 3 ∧ Only [⟨.PWR_STAT, 0, 0, 0⟩] (.power :: .eph :: logParts) d e)
  ∧ Completes .pgoodInFall (fun d => d.power.stageOne = false ∧ d.boot.step = .recovery ∧ d.power.path = none) (fun d e =>
        e.power = { d.power with pgoodIn := false, rise := false } ∧ e.boot = { d.boot with step := .off }
          ∧ e.gf F.BOOT_STAT.STATE = 10 ∧ Only [⟨.BOOT_STAT, 0, 0, 0⟩] [.power, .boot] d e)
  ∧ Completes .pgoodHoldExpiry (fun d => d.power.hold = true ∧ d.boot.step ≠ .hold ∧ d.power.rise = false) (fun d e =>
        e.power = { d.power with hold := false } ∧ Only [] [.power] d e)
  ∧ Completes .pgoodHoldExpiry (fun d => d.power.hold = true ∧ d.boot.step ≠ .hold ∧ d.power.rise = true ∧ d.power.pgoodIn = true
        ∧ d.power.aux = true ∧ d.power.closed = true ∧ d.power.stageOne = false ∧ d.power.path = none ∧ d.power.hot = false) (fun _ e =>
        e.boot.step = .delay ∧ e.boot.kind = .cold ∧ e.power.hold = false ∧ e.power.rise = false)
  ∧ (∀ (v i p : Fin 65536), Completes (.inputSample v i p) (fun d => d.power.aux = true ∧ d.runs = false) fun d e =>
        e.gf F.PWR_INPUT.VIN = v.val ∧ e.gf F.PWR_INPUT.IIN = i.val ∧ e.gf F.PWR_INPUT.PIN_W = p.val
          ∧ e.gf F.PWR_ENERGY_CNT.UJ = (d.gf F.PWR_ENERGY_CNT.UJ + 10 * p.val) % 2 ^ 64
          ∧ Only [⟨.PWR_INPUT, 0, 0, 0⟩, ⟨.PWR_ENERGY_CNT, 0, 0, 0⟩] [.power] d e)
  ∧ (∀ (v i p : Fin 65536), Completes (.inputSample v i p) (fun d => d.power.aux = true ∧ d.power.stageOne = true
        ∧ 9 ≤ d.power.lowRun ∧ d.power.low = false ∧ 4400 ≤ v.val ∧ v.val < 4800 ∧ d.power.high = false) fun d e =>
        e.power.low = true ∧ e.gf F.PWR_STAT.INPUT_LOW = 1 ∧ e.power.path = d.power.path
          ∧ getBits (e.reg ⟨.INT_PEND_SET_k, 0, 3, 0⟩) 3 3 = 1)
  ∧ (∀ (v i p : Fin 65536), Completes (.inputSample v i p) (fun d => d.power.aux = true ∧ d.runs = true
        ∧ d.power.path = none ∧ ((v.val < 4400 ∧ 1 ≤ d.power.underRun) ∨ (6600 < v.val ∧ 1 ≤ d.power.overRun))) fun _ e =>
        e.power.path = some .clocks ∧ e.power.toOff = true ∧ e.power.closed = false ∧ e.gf F.PWR_STAT.LAST_OFF_CAUSE = 1)
  ∧ Completes .inputLowTimeout (fun d => d.power.low = true ∧ d.gf F.PWR_INPUT.VIN < 4800 ∧ d.runs = true
        ∧ d.power.path = none) (fun d e =>
        e.power = { d.power with path := some .clocks, toOff := true } ∧ e.gf F.PWR_STAT.LAST_OFF_CAUSE = 1
          ∧ Only [⟨.PWR_STAT, 0, 0, 0⟩] (.power :: .safe :: .eph :: logParts) d e)
  ∧ Completes .inputLowLift (fun d => d.power.low = true ∧ 4850 ≤ d.gf F.PWR_INPUT.VIN) (fun d e =>
        e.power = { d.power with low := false } ∧ e.gf F.PWR_STAT.INPUT_LOW = 0
          ∧ e.gf F.PWR_STAT.CAP_IN_FORCE_W = min (d.gf F.PWR_CTRL.CAP_W) (min d.converterCap 4000)
          ∧ Only [⟨.PWR_STAT, 0, 0, 0⟩, ⟨.INT_PEND_SET_k, 0, 3, 0⟩] [.power, .eph] d e)

/-- Each step completes. COLD in the Ready or Failed step begins the shutdown, and during a warm start waits for the step's end; WARM
begins a warm start with its Quiesce step. The shutdown stops every island's clock, takes the rails down with HBM lost, and turns
stage one off: the device is then Off, or holds before a cold start. The end of that hold, or of Quiesce, goes on with the Rails step of
the cold or the warm start: cores, engines and packets are gone, and HBM, the reply cache and the map-out list stay at a warm start.
RAILS_UP powers every island; the boot ROM step reports the delay as it ran. A rail and a converter are noted.
Where the manual leaves a detail open, the clauses rest on the model's choices of log entries 56 and 57. -/
def Obligations.ShutdownAndRestart : Prop :=
  Completes .bootCold (fun d => d.accepts ⟨.BOOT_CTRL, 0, 0, 0⟩ = true ∧ d.power.stageOne = true ∧ d.power.path = none
        ∧ (d.boot.step = .ready ∨ d.boot.step = .failed)) (fun _ e =>
        e.power.path = some .clocks ∧ e.boot.step = .down ∧ e.gf F.BOOT_STAT.STATE = 0 ∧ e.gf F.BOOT_STAT.READY = 0
          ∧ e.answer.code = 0)
  ∧ Completes .bootCold (fun d => d.accepts ⟨.BOOT_CTRL, 0, 0, 0⟩ = true ∧ d.power.stageOne = true ∧ d.power.path = none
        ∧ d.boot.kind ≠ .cold ∧ d.boot.step ≠ .ready ∧ d.boot.step ≠ .failed) (fun d e =>
        e.boot = { d.boot with coldNext := true } ∧ Dev.did [⟨.BOOT_CTRL, 0, 0, 0⟩] [.boot] d e)
  ∧ Completes .bootWarm (fun d => d.accepts ⟨.BOOT_CTRL, 0, 0, 0⟩ = true ∧ d.boot.step = .ready ∧ d.boot.warmRecord = true)
      (fun d e => e.boot = { d.boot with kind := .warm, handover := none, step := .quiesce } ∧ e.gf F.BOOT_STAT.STATE = 9
        ∧ e.gf F.BOOT_STAT.READY = 0 ∧ e.gf F.BOOT_STAT.KIND = 1
        ∧ Dev.did [⟨.BOOT_CTRL, 0, 0, 0⟩, ⟨.BOOT_STAT, 0, 0, 0⟩] [.boot] d e)
  ∧ Completes .clocksStopped (fun d => d.power.path = some .clocks) (fun d e =>
        e.power.path = some .rails ∧ (∀ n, n < 44 → e.gf F.CLK_ISLAND_n_STAT.FREQ_MHZ 0 n = 0 ∧ e.gf F.CLK_ISLAND_n_STAT.RAMPING 0 n = 0)
          ∧ Only ((List.range 44).map fun n => ⟨.CLK_ISLAND_n_STAT, 0, n, 0⟩) [.power] d e)
  ∧ Completes .railsOff (fun d => d.power.path = some .rails) (fun d e =>
        e.power.path = some .journal ∧ e.power.railsUp = false ∧ e.power.pgoodOut = (if d.power.aux then .low else .highZ) ∧ e.hbm = []
          ∧ (∀ n, n < 44 → e.gf F.CLK_ISLAND_n_STAT.POWERED 0 n = 0)
          ∧ Only ((List.range 44).map fun n => ⟨.CLK_ISLAND_n_STAT, 0, n, 0⟩) [.power, .hbm, .mem] d e)
  ∧ Completes .stageOneOff (fun d => d.power.path = some .journal) (fun d e =>
        e.power.path = none ∧ e.power.stageOne = false ∧ e.boot.warmRecord = false ∧ e.gf F.BOOT_STAT.WARM_RECORD = 0
          ∧ e.gf F.BOOT_STAT.READY = 0 ∧ e.cores = [] ∧ e.hbm = [] ∧ e.boot.step = (if d.power.toOff then .off else .hold)
          ∧ e.power.hold = (!d.power.toOff || d.power.rise))
  ∧ Completes .stageOneHoldExpiry (fun d => d.boot.step = .hold ∧ d.power.path = none ∧ d.power.failed < 4) (fun d e =>
        e.power.stageOne = true ∧ e.power.hold = false ∧ e.boot.step = .rails ∧ e.boot.kind = .cold ∧ e.cores = [] ∧ e.hbm = []
          ∧ e.gas.replies = [] ∧ e.chrono = 0 ∧ e.gas.zeroed = d.gas.zeroed ∧ e.eph.area0 = d.eph.area0 ∧ e.eph.area1 = d.eph.area1)
  ∧ (∀ errs, Completes (.quiesceDone errs) (fun d => d.boot.step = .quiesce ∧ d.mem.mapout = none ∧ d.writeWaits = false
        ∧ d.boot.coldNext = false ∧ d.mem.lines = [] ∧ d.on F.LOG_CTRL.HBM_EN = false) fun d e =>
        e.boot.step = .rails ∧ e.boot.kind = .warm ∧ e.cores = [] ∧ e.engines = [] ∧ e.injected = [] ∧ e.reqs = []
          ∧ e.hbm = d.hbm ∧ e.gas.replies = d.gas.replies ∧ e.mem.poison = d.mem.poison ∧ e.mem.subst = substFrom [] [] d.mappedOut
          ∧ (∀ q, q < 4 → e.gf F.HBM_STAT.SELF_REFRESH q = 1))
  ∧ Completes .railsUp (fun d => d.boot.step = .rails ∧ d.power.stageOne = true ∧ d.power.path = none ∧ d.boot.coldNext = false
        ∧ d.power.aux = true)
      (fun _ e => e.power.railsUp = true ∧ e.power.pgoodOut = .released ∧ e.boot.step = .rom ∧ e.gf F.BOOT_STAT.STATE = 1
        ∧ (∀ n, n < 44 → e.gf F.CLK_ISLAND_n_STAT.POWERED 0 n = 1 ∧ e.gf F.CLK_ISLAND_n_STAT.PLL_LOCK 0 n = 1))
  ∧ (∀ (us : Fin 4294967296), Completes (.bootRomDone us) (fun d => d.boot.step = .rom ∧ d.boot.coldNext = false) fun d e =>
        e.boot = { d.boot with step := .firmware } ∧ e.gf F.BOOT_STAT.STATE = 2
          ∧ e.gf F.BOOT_STRAP.DELAY_US = (if d.boot.delayRan then us.val else d.gf F.BOOT_STRAP.DELAY_US)
          ∧ e.gf F.BOOT_FW_STAT.ACTIVE = (if d.eph.activeB then 1 else 0)
          ∧ Only [⟨.BOOT_STRAP, 0, 0, 0⟩, ⟨.BOOT_STAT, 0, 0, 0⟩, ⟨.BOOT_FW_STAT, 0, 0, 0⟩, ⟨.BOOT_FW_VER_s, 0, 0, 0⟩,
              ⟨.BOOT_FW_VER_s, 0, 1, 0⟩] [.boot, .eph] d e)
  ∧ (∀ rail ok, Completes (.railRegulationChange rail ok) (fun _ => True) fun d e =>
        e.power.badRails = (d.power.badRails.filter fun r => decide (r ≠ rail)) ++ (if ok then [] else [rail])
          ∧ e.power.pgoodOut = (if !d.power.aux then .highZ
            else if d.power.railsUp && e.power.badRails.isEmpty then .released else .low) ∧ Only [] [.power] d e)
  ∧ Completes .converterFail (fun d => d.power.stageOne = true ∧ d.power.failed < 3) (fun d e =>
        e.power = { d.power with failed := d.power.failed + 1 } ∧ e.gf F.PWR_STAT.CONVERTERS = 4 - d.power.failed
          ∧ e.gf F.PWR_STAT.CAP_IN_FORCE_W =
              min (d.gf F.PWR_CTRL.CAP_W) (min (if d.power.failed = 0 then 4000 else 1000 * (4 - d.power.failed))
                (if d.power.low then 2000 else 4000))
          ∧ getBits (e.reg ⟨.INT_PEND_SET_k, 0, 3, 0⟩) 4 4 = 1
          ∧ Only [⟨.PWR_STAT, 0, 0, 0⟩, ⟨.INT_PEND_SET_k, 0, 3, 0⟩] (.power :: .eph :: logParts) d e)
  ∧ Completes .converterFail (fun d => d.power.stageOne = true ∧ (d.power.failed = 3 ∨ d.power.failed = 4)
        ∧ d.power.path = none) (fun d e =>
        e.power.failed = d.power.failed + 1 ∧ e.power.path = some .clocks ∧ e.power.toOff = true ∧ e.gf F.PWR_STAT.LAST_OFF_CAUSE = 4)

/-- Each step of a start completes, a COLD not waiting. The identity is noted with its KEY_ID, or its failure. The Firmware step starts
the ACTIVE slot where that verifies (a TRIAL slot by one of its tries) with the chosen Almanac, falls back to a verifying other slot and
marks the ACTIVE one BAD, and is RECOVERY where neither verifies. The Ephemeris step counts the start and discards settings when that is
due. The Inventory step raises GAS_EPOCH and lets the links train once every die has answered; the Links step starts the training of
24 stacks; each trained stack leaves the list; a failed one is tried once more at a cold start. The zero fill clears HBM. A First Light
that passes completes the start: READY is 1 and the warm record is set.
Where the manual leaves a detail open, the clauses rest on the model's choices of log entries 42, 46, 55, 57 and 59. -/
def Obligations.StartSteps : Prop :=
  (∀ k (s : SecRecords) r x, Completes (.identityDone k s) (fun d => d.boot.identity = false ∧ d.boot.step = .firmware
        ∧ r = (if k then some s else none) ∧ x = idSecret (r.getD d.eph.records).helper ∧ (d.readRecords r).identityAgrees x.pair = true) fun d e =>
        e.boot = { d.boot with identity := true } ∧ e.sec = { d.sec with identity := some x.pair.id, secret := some x }
          ∧ e.eph.records = r.getD d.eph.records ∧ e.gf F.SEC_STAT.IDENTITY = 1
          ∧ (∀ k, k < 6 → e.gf F.SEC_ID_KEYID_k.KEYID 0 k = x.pair.id / 2 ^ (64 * k) % 2 ^ 64)
          ∧ Only (⟨.SEC_STAT, 0, 0, 0⟩ :: (List.range 6).map fun k => ⟨.SEC_ID_KEYID_k, 0, k, 0⟩) [.boot, .sec, .eph] d e)
  ∧ (∀ k (s : SecRecords) r x, Completes (.identityDone k s) (fun d => d.boot.identity = false ∧ d.boot.step = .firmware
        ∧ r = (if k then some s else none) ∧ x = idSecret (r.getD d.eph.records).helper ∧ (d.readRecords r).identityAgrees x.pair = false) fun d e =>
        e.boot = { d.boot with identity := true } ∧ e.sec = { d.sec with identity := none, secret := none }
          ∧ e.eph.records = r.getD d.eph.records ∧ e.gf F.SEC_STAT.IDENTITY = 2
          ∧ e.gf F.SEC_STAT.LAST_CODE = Code.SEC_IDENTITY_FAIL
          ∧ Only [⟨.SEC_STAT, 0, 0, 0⟩] (.boot :: .sec :: .eph :: logParts) d e)
  ∧ (∀ (r : FlashRead) b x a ab f, Completes (.firmwareStepDone r) (fun d => d.boot.step = .firmware ∧ d.boot.coldNext = false
        ∧ b = d.eph.activeB ∧ ((if b then d.eph.stateB else d.eph.stateA) = 2
          ∨ ((if b then d.eph.stateB else d.eph.stateA) = 1 ∧ 0 < (if b then d.eph.triesB else d.eph.triesA)))
        ∧ f = d.readRecords r.records ∧ (if b then r.imageB else r.imageA) = some x ∧ f.startable x = true
        ∧ f.floorOf 1 < 2 ^ 32 ∧ f.floorOf 2 < 2 ^ 64
        ∧ chooseAlmanac (fun y => (f.itemFault 2 (Dev.almanacSigner f.ownerCert.isSome) y.sig).isNone && almanacOk (f.floorOf 2) y)
            r.almanacA r.almanacB = (some (a, ab), false)) fun d e =>
        e.boot.step = .ephemeris ∧ e.boot.image = some x ∧ e.boot.almanac = some a
          ∧ e.sec.owner = f.ownerCert.map (fun c => c.pair.id) ∧ e.boot.ownerChanged = decide (e.sec.owner ≠ d.eph.lastOwner)
          ∧ e.gf F.SEC_FLOOR.FW_FLOOR = f.floorOf 1 ∧ e.gf F.SEC_ALM_FLOOR.FLOOR = f.floorOf 2
          ∧ e.gf F.BOOT_FW_STAT.RUNNING = (if b then 1 else 0) ∧ e.gf F.BOOT_FW_STAT.ALMANAC_SLOT = (if ab then 1 else 0)
          ∧ e.gf F.BOOT_ALMANAC_SEQ.SEQUENCE = a.sequence % 2 ^ 64
          ∧ (if b then e.eph.stateB = d.eph.stateB ∧ e.eph.triesB = (if d.eph.stateB = 1 then d.eph.triesB - 1 else d.eph.triesB)
            else e.eph.stateA = d.eph.stateA ∧ e.eph.triesA = (if d.eph.stateA = 1 then d.eph.triesA - 1 else d.eph.triesA)))
  ∧ (∀ (r : FlashRead) b x, Completes (.firmwareStepDone r) (fun d => d.boot.step = .firmware ∧ d.boot.coldNext = false
        ∧ b = d.eph.activeB ∧ (if b then r.imageB else r.imageA) = none ∧ (if b then d.eph.stateA else d.eph.stateB) = 2
        ∧ (if b then r.imageA else r.imageB) = some x ∧ (d.readRecords r.records).startable x = true) fun _ e =>
        e.boot.step = .ephemeris ∧ e.gf F.BOOT_FW_STAT.RUNNING = (if b then 0 else 1)
          ∧ (if b then e.eph.stateB = 3 ∧ e.eph.triesB = 0 else e.eph.stateA = 3 ∧ e.eph.triesA = 0) ∧ e.eph.activeB = b)
  ∧ (∀ (r : FlashRead), Completes (.firmwareStepDone r) (fun d => d.boot.step = .firmware ∧ r.imageA = none ∧ r.imageB = none) fun d e =>
        e.boot.step = .recovery ∧ e.gf F.BOOT_STAT.STATE = 8 ∧ e.power.stageOne = false
          ∧ e.power.pgoodOut = (if d.power.aux then .low else .highZ)
          ∧ e.gf F.BOOT_FW_STAT.LAST_CODE = Code.BOOT_NO_FIRMWARE)
  ∧ (∀ b0 b1, Completes (.ephemerisStepDone b0 b1) (fun d => d.boot.step = .ephemeris ∧ d.boot.coldNext = false
        ∧ d.boot.kind ≠ .cold ∧ d.discardDue = false) fun d e =>
        e.boot = { d.boot with step := .inventory } ∧ e.gf F.BOOT_STAT.STATE = 3
          ∧ e.gf F.BOOT_START_CNT.WARM_CNT = (d.gf F.BOOT_START_CNT.WARM_CNT + 1) % 2 ^ 32
          ∧ Only [⟨.BOOT_STAT, 0, 0, 0⟩, ⟨.BOOT_START_CNT, 0, 0, 0⟩, ⟨.BOOT_FW_STAT, 0, 0, 0⟩, ⟨.BOOT_FW_VER_s, 0, 0, 0⟩,
              ⟨.BOOT_FW_VER_s, 0, 1, 0⟩] [.boot, .eph, .dlk] d e ∧ ∀ k, k < 19 → NMap.get 0 e.dlk.side k = 1)
  ∧ (∀ b0 b1, Completes (.ephemerisStepDone b0 b1) (fun d => d.boot.step = .ephemeris ∧ d.boot.coldNext = false
        ∧ d.boot.kind ≠ .cold ∧ d.discardDue = true) fun _ e =>
        e.boot.step = .inventory ∧ e.gf F.BOOT_CTRL.EPH_DISCARD = 0
          ∧ (∀ k x, FMap.get none e.eph.sram k = some x → k.name ∉ [.BOOT_CTRL, .BOOT_START_CNT, .BOOT_FW_STAT, .BOOT_FW_VER_s] →
              x.rw = false))
  ∧ (∀ (st lv : Fin 16), Completes (.inventoryDone st lv) (fun d => d.boot.step = .inventory ∧ d.boot.coldNext = false
        ∧ d.boot.identity = true ∧ d.boot.almanac = none ∧ d.occulted = false ∧ d.gf F.DLK_PKG_LEVEL.MIN_M ≤ st.val
        ∧ ∀ k, k < 19 → d.on F.DLK_DIE_k_INV.PRESENT 0 k = true ∧ d.dieOutOfService k = false
          ∧ d.minStepping k ≤ d.gf F.DLK_DIE_k_INV.STEPPING 0 k) fun d e =>
        e.boot.step = .links ∧ e.gf F.GAS_EPOCH.EPOCH = (d.gf F.GAS_EPOCH.EPOCH + 1) % 2 ^ 32
          ∧ e.gf F.DLK_DIE_k_INV.STEPPING 0 19 = st.val ∧ e.gf F.DLK_DIE_k_INV.LEVEL 0 19 = lv.val
          ∧ (d.dieOutOfService 19 = false → ∀ n, n < 31 → e.linkState n = 1))
  ∧ (∀ ts, Completes (.linksTrained ts) (fun d => d.boot.step = .links ∧ d.boot.coldNext = false ∧ d.occulted = false
        ∧ ∀ n, n < 31 → d.linkState n ≠ 1 ∧ d.linkState n ≠ 2) fun _ e =>
        e.boot.step = .hbm ∧ e.gf F.BOOT_STAT.STATE = 4 ∧ e.boot.training = (List.range 24).map fun s => (s, 0))
  ∧ (∀ (s : Fin 24) (t : Fin 256) n, Completes (.hbmTrainingDone s true t) (fun d => d.boot.step = .hbm ∧ d.boot.kind = .cold
        ∧ (s.val, n) ∈ d.boot.training) fun d e =>
        e.boot = { d.boot with training := d.boot.training.filter fun x => decide (x.1 ≠ s.val) }
          ∧ NMap.get none e.mem.trainTemp s = some t.val ∧ e.gf F.HBM_STACK_s_STAT.TRAINED (s.val / 6) (s.val % 6) = 1
          ∧ bitOf (e.gf F.HBM_STAT.STACK_IN_SERVICE (s.val / 6)) (s.val % 6) = true
          ∧ Only [⟨.HBM_STAT, s.val / 6, 0, 0⟩, ⟨.HBM_STACK_s_STAT, s.val / 6, s.val % 6, 0⟩] [.boot, .mem] d e)
  ∧ (∀ (s : Fin 24) (t : Fin 256), Completes (.hbmTrainingDone s false t) (fun d => d.boot.step = .hbm ∧ d.boot.kind = .cold
        ∧ d.boot.training.find? (fun x => decide (x.1 = s.val)) = some (s.val, 0)) fun d e =>
        e.boot = { d.boot with training := (d.boot.training.filter fun x => decide (x.1 ≠ s.val)) ++ [(s.val, 1)] }
          ∧ Only [] (.boot :: logParts) d e)
  ∧ (∀ (s : Fin 24) (t : Fin 256), Completes (.hbmTrainingDone s false t) (fun d => d.boot.step = .hbm ∧ d.boot.kind = .cold
        ∧ d.boot.training.find? (fun x => decide (x.1 = s.val)) = some (s.val, 1)) fun _ e =>
        e.boot.step = .failed ∧ e.gf F.BOOT_STAT.FAIL_CODE = Code.BOOT_HBM_STACK_FAIL)
  ∧ Completes .hbmZeroFillDone (fun d => d.boot.step = .hbm ∧ d.boot.coldNext = false ∧ d.boot.training = [] ∧ d.boot.kind ≠ .warm)
      (fun d e => e.boot = { d.boot with step := .firstLight } ∧ e.hbm = [] ∧ e.mem.poison = [] ∧ e.gas.zeroPending = true
        ∧ (∀ q, q < 4 → e.gf F.HBM_STAT.READY q = 1 ∧ e.gf F.HBM_STAT.SELF_REFRESH q = 0))
  ∧ (∀ ms el, Completes (.firstLightDone ms [] true el) (fun d => d.boot.step = .firstLight ∧ d.boot.coldNext = false
        ∧ d.occulted = false) fun _ e =>
        e.boot.step = .ready ∧ e.gf F.BOOT_STAT.READY = 1 ∧ e.gf F.BOOT_STAT.STATE = 6 ∧ e.boot.warmRecord = true
          ∧ e.gf F.BOOT_STAT.WARM_RECORD = 1 ∧ e.gf F.BOOT_LAST_START.DURATION_MS = el % 2 ^ 32 ∧ e.safe.unplanned = false
          ∧ e.gf F.SAFE_FL_STAT.STATE = 2 ∧ e.gf F.SAFE_FL_STAT.CODE = Code.FIRST_LIGHT_PASS)
  ∧ (∀ ms fs el, Completes (.firstLightDone ms fs false el) (fun d => d.boot.step = .firstLight ∧ d.boot.kind = .cold) fun _ e =>
        e.boot.step = .failed ∧ e.gf F.BOOT_STAT.FAIL_CODE = Code.BOOT_FAILED ∧ e.gf F.SAFE_FL_STAT.STATE = 3
          ∧ e.gf F.SAFE_FL_STAT.CODE = (if fs = [] then Code.FIRST_LIGHT_REFSET_INVALID else Code.FIRST_LIGHT_FAIL))
  ∧ (∀ ms (u : Fin 320) l el, Completes (.firstLightDone ms [(u.val, l)] true el) (fun d => d.boot.step ≠ .firstLight
        ∧ d.safe.firstLight = some (false, 0)) fun _ e =>
        e.safe.firstLight = none ∧ e.gf F.SAFE_FL_STAT.STATE = 3 ∧ e.gf F.SAFE_FL_STAT.FAIL_UNIT = u.val
          ∧ getBits (e.reg ⟨.INT_PEND_SET_k, 0, 2, 0⟩) 7 7 = 1)

/-- Each command and event completes. REQ of BOOT_DIE_RESET occults a die that may be reset, and the reset's end leaves a C-die's
cores fresh, other cores as they were, with STATE 2; dies 12 and 19 are refused. KICK and a new period restart the watchdog, whose
expiry begins a warm start. TRIAL makes a verifying image the ACTIVE TRIAL slot with three tries, or marks it BAD. COMMIT makes the running
TRIAL slot GOOD. A handover goes through Verify, Park, Load and Resume, and ends with the new image running or the new slot BAD. The
oldest pending record is written while the flash window is open; else BEHIND is noted. COMPACT moves the journal to the other area, FLUSH
writes every record, and an uncorrectable SRAM error clears the warm record.
Where the manual leaves a detail open, the clauses rest on the model's choices of log entries 25, 55 and 57. -/
def Obligations.ResetAndFirmware : Prop :=
  (∀ (k : Fin 32), Completes (.dieResetReq k) (fun d => d.accepts ⟨.BOOT_DIE_RESET, 0, 0, 0⟩ = true ∧ d.boot.step = .ready
        ∧ k.val < 19 ∧ k.val ≠ 12 ∧ d.boot.resetting = none ∧ ∀ x ∈ d.safe.occs, ∀ y, x.unit = .die y → y.val ≠ k.val) fun _ e =>
        e.boot.resetting = some k.val ∧ e.gf F.BOOT_DIE_RESET.STATE = 1 ∧ e.gf F.BOOT_DIE_RESET.DIE = k.val
          ∧ e.gf F.DLK_DIE_k_INV.OCCULTED 0 k = 1 ∧ e.answer.code = 0)
  ∧ (∀ (k : Fin 32), Completes (.dieResetReq k) (fun d => d.accepts ⟨.BOOT_DIE_RESET, 0, 0, 0⟩ = true ∧ d.boot.step = .ready
        ∧ (k.val = 12 ∨ 19 ≤ k.val)) fun _ e =>
        e.gf F.BOOT_DIE_RESET.STATE = 3 ∧ e.gf F.BOOT_FW_STAT.LAST_CODE = Code.BOOT_WRITE_REFUSED ∧ e.answer.code = 0)
  ∧ (∀ ms ts errs k, Completes (.dieResetDone ms [] ts errs) (fun d => d.boot.resetting = some k ∧ k < 8 ∧ d.boot.almanac = none
        ∧ ∀ n, n < 31 → k ∈ linkDies n → d.linkState n ≠ 1 ∧ d.linkState n ≠ 2) fun d e =>
        e.boot.resetting = none ∧ e.gf F.BOOT_DIE_RESET.STATE = 2 ∧ e.gf F.SAFE_FL_STAT.STATE = 2
          ∧ e.gf F.GAS_EPOCH.EPOCH = (d.gf F.GAS_EPOCH.EPOCH + 1) % 2 ^ 32
          ∧ (∀ c, c / 16 = k → e.core c = {}) ∧ (∀ c, c / 16 ≠ k → e.core c = d.core c) ∧ e.hbm = d.hbm)
  ∧ Completes .watchdogKick (fun d => d.accepts ⟨.BOOT_WATCHDOG, 0, 0, 0⟩ = true ∧ 100 ≤ d.gf F.BOOT_WATCHDOG.PERIOD_MS
        ∧ d.gf F.BOOT_WATCHDOG.PERIOD_MS ≤ 60000) (fun d e =>
        e.boot = { d.boot with kickAt := d.chrono } ∧ Dev.did [] [.boot] d e)
  ∧ (∀ (p : Fin 65536), Completes (.watchdogPeriodWrite p) (fun d => d.accepts ⟨.BOOT_WATCHDOG, 0, 0, 0⟩ = true) fun d e =>
        e.gf F.BOOT_WATCHDOG.PERIOD_MS = max 100 (min 60000 p.val)
          ∧ e.boot.kickAt = (if max 100 (min 60000 p.val) = d.gf F.BOOT_WATCHDOG.PERIOD_MS then d.boot.kickAt else d.chrono)
          ∧ Dev.did [⟨.BOOT_WATCHDOG, 0, 0, 0⟩, ⟨.BOOT_FW_STAT, 0, 0, 0⟩] [.boot] d e)
  ∧ Completes .bootWatchdog (fun d => d.started = true ∧ d.boot.step = .ready ∧ d.boot.handover = none
        ∧ (d.sec.mcores.any fun m => m.2.halted) = false ∧ d.boot.kickAt + 1000000 * d.gf F.BOOT_WATCHDOG.PERIOD_MS ≤ d.chrono
        ∧ d.boot.warmRecord = true) (fun _ e =>
        e.boot.step = .quiesce ∧ e.boot.kind = .warm ∧ e.gf F.BOOT_STAT.READY = 0 ∧ e.gf F.BOOT_STAT.STATE = 9
          ∧ e.safe.unplanned = true ∧ e.gf F.BOOT_FW_STAT.LAST_CODE = Code.BOOT_WATCHDOG)
  ∧ (∀ x b, Completes (.fwTrial (some x)) (fun d => d.accepts ⟨.BOOT_FW_CTRL, 0, 0, 0⟩ = true ∧ d.power.flashOpen = true
        ∧ d.imageFault (some x) = none ∧ b = !d.runningB) fun d e =>
        e.eph.activeB = b ∧ e.slotState b = (1, 3) ∧ e.slotImage b = some x ∧ e.slotState (!b) = d.slotState (!b)
          ∧ e.gf F.BOOT_FW_STAT.ACTIVE = (if b then 1 else 0)
          ∧ Dev.did [⟨.BOOT_FW_STAT, 0, 0, 0⟩, ⟨.BOOT_FW_VER_s, 0, 0, 0⟩, ⟨.BOOT_FW_VER_s, 0, 1, 0⟩] [] d e)
  ∧ (∀ x b, Completes (.fwTrial (some x)) (fun d => d.accepts ⟨.BOOT_FW_CTRL, 0, 0, 0⟩ = true ∧ d.power.flashOpen = true
        ∧ d.imageFault (some x) ≠ none ∧ b = !d.runningB) fun d e =>
        e.eph.activeB = d.eph.activeB ∧ e.slotState b = (3, 0) ∧ e.gf F.BOOT_FW_STAT.LAST_CODE = Code.BOOT_FW_VERIFY_FAIL)
  ∧ (∀ b x, Completes .fwCommit (fun d => d.accepts ⟨.BOOT_FW_CTRL, 0, 0, 0⟩ = true ∧ b = d.runningB ∧ (d.slotState b).1 = 1
        ∧ d.boot.image = some x) fun d e =>
        e.slotState b = (2, (d.slotState b).2) ∧ e.slotState (!b) = d.slotState (!b) ∧ e.eph.activeB = d.eph.activeB
          ∧ e.eph.records = (match x.embedded with
            | some f => if d.raisesFloor f && d.power.flashOpen then (d.appendFloor f).eph.records else d.eph.records
            | none => d.eph.records)
          ∧ e.eph.heldFloors = d.eph.heldFloors ++ (match x.embedded with
            | some f => if d.raisesFloor f && !d.power.flashOpen then [f] else []
            | none => []))
  ∧ (∀ x, Completes (.fwHandover x) (fun d => d.accepts ⟨.BOOT_FW_CTRL, 0, 0, 0⟩ = true ∧ d.started = true ∧ d.boot.step = .ready
        ∧ d.eph.activeB ≠ d.runningB ∧ (d.slotState d.eph.activeB).1 = 1 ∧ d.boot.handover = none) fun d e =>
        e.boot = { d.boot with handover := some .verify, staged := x } ∧ e.slotImage d.eph.activeB = x ∧ Dev.did [] [.boot] d e)
  ∧ (∀ x r, Completes .handoverVerifyDone (fun d => d.boot.handover = some .verify ∧ d.boot.staged = some x
        ∧ d.boot.image = some r ∧ d.imageFault (some x) = none ∧ x.hoMin ≤ r.hoFormat ∧ r.hoFormat ≤ x.hoMax) fun d e =>
        e.boot = { d.boot with handover := some .park } ∧ e.gf F.BOOT_FW_STAT.HANDOVER_BUSY = 1
          ∧ Only [⟨.BOOT_FW_STAT, 0, 0, 0⟩] [.boot, .eph] d e)
  ∧ (∀ x r, Completes .handoverVerifyDone (fun d => d.boot.handover = some .verify ∧ d.boot.staged = some x
        ∧ d.boot.image = some r ∧ d.imageFault (some x) = none ∧ ¬(x.hoMin ≤ r.hoFormat ∧ r.hoFormat ≤ x.hoMax)) fun d e =>
        e.boot = { d.boot with handover := none, staged := none }
          ∧ e.gf F.BOOT_FW_STAT.LAST_CODE = Code.BOOT_HANDOVER_REFUSED ∧ Only [⟨.BOOT_FW_STAT, 0, 0, 0⟩] (.boot :: .eph :: logParts) d e)
  ∧ Completes .handoverParkDone (fun d => d.boot.handover = some .park)
      (fun d e => e.boot = { d.boot with handover := some .load } ∧ Only [] [.boot] d e)
  ∧ (∀ b, Completes .handoverLoadDone (fun d => d.boot.handover = some .load ∧ b = d.eph.activeB ∧ (d.slotState b).1 = 1) fun d e =>
        e.boot = { d.boot with handover := some .resume } ∧ e.slotState b = (1, (d.slotState b).2 - 1)
          ∧ Only [⟨.BOOT_FW_STAT, 0, 0, 0⟩, ⟨.BOOT_FW_VER_s, 0, 0, 0⟩, ⟨.BOOT_FW_VER_s, 0, 1, 0⟩] [.boot, .eph] d e)
  ∧ Completes .fwResumed (fun d => d.accepts ⟨.BOOT_FW_CTRL, 0, 0, 0⟩ = true ∧ d.boot.handover = some .resume) (fun d e =>
        e.boot = { d.boot with image := d.boot.staged, staged := none, handover := none, kickAt := d.chrono }
          ∧ e.runningB = d.eph.activeB ∧ e.gf F.BOOT_FW_STAT.HANDOVER_BUSY = 0
          ∧ e.gf F.BOOT_FW_STAT.LAST_CODE = Code.BOOT_HANDOVER_DONE ∧ Dev.did [⟨.BOOT_FW_STAT, 0, 0, 0⟩] [.boot] d e)
  ∧ Completes .bootHandoverReverted (fun d => d.boot.handover = some .resume) (fun d e =>
        e.boot = { d.boot with staged := none, handover := none, kickAt := d.chrono } ∧ e.slotState d.eph.activeB = (3, 0)
          ∧ e.runningB = d.runningB ∧ e.gf F.BOOT_FW_STAT.HANDOVER_BUSY = 0
          ∧ e.gf F.BOOT_FW_STAT.LAST_CODE = Code.BOOT_HANDOVER_REVERTED)
  ∧ (∀ r rest, Completes .journalWrite (fun d => d.power.flashOpen = true ∧ d.eph.pending = r :: rest
        ∧ d.activeArea.length < 229375) fun d e =>
        e.activeArea = d.activeArea ++ [{ offset := r.key.offset, kind := r.kind, value := r.value, seq := d.eph.seq + 1 }]
          ∧ e.eph.pending = rest ∧ e.eph.seq = d.eph.seq + 1 ∧ e.eph.sram = d.eph.sram ∧ Only [] [.eph] d e)
  ∧ Completes .journalWrite (fun d => d.power.flashOpen = false ∧ d.eph.pending ≠ [] ∧ d.eph.behind = false) (fun d e =>
        e.eph.behind = true ∧ e.eph.area0 = d.eph.area0 ∧ e.eph.area1 = d.eph.area1 ∧ e.eph.sram = d.eph.sram
          ∧ e.gf F.BOOT_FW_STAT.LAST_CODE = Code.EPH_JOURNAL_BEHIND
          ∧ Only [⟨.EPH_ERR_CNT, 0, 0, 0⟩, ⟨.BOOT_FW_STAT, 0, 0, 0⟩] (.eph :: logParts) d e)
  ∧ Completes .ephCompact (fun d => d.accepts ⟨.EPH_CTRL, 0, 0, 0⟩ = true ∧ d.power.flashOpen = true) (fun d e =>
        e.eph.active1 = !d.eph.active1 ∧ e.eph.compactions = d.eph.compactions + 1
          ∧ e.activeArea.getLast? = some { offset := 0, kind := 3, value := 0, seq := e.eph.seq }
          ∧ (∀ r ∈ e.activeArea, r.kind ≠ 3 → ∃ k : RegKey, k.name.journalled = true ∧ r.offset = k.offset)
          ∧ e.eph.sram = d.eph.sram ∧ e.eph.pending = d.eph.pending ∧ Dev.did [⟨.BOOT_FW_STAT, 0, 0, 0⟩] [] d e)
  ∧ Completes .ephFlush (fun d => d.accepts ⟨.EPH_CTRL, 0, 0, 0⟩ = true ∧ d.power.flashOpen = true) (fun d e =>
        e.eph.pending = [] ∧ e.eph.sram = d.eph.sram ∧ Dev.did [⟨.BOOT_FW_STAT, 0, 0, 0⟩] [] d e)
  ∧ Completes .ephSramUncorrectable (fun _ => True) (fun d e =>
        e.eph = { d.eph with valid := false } ∧ e.boot = { d.boot with warmRecord := false } ∧ e.gf F.BOOT_STAT.WARM_RECORD = 0
          ∧ Only [⟨.BOOT_STAT, 0, 0, 0⟩] [.eph, .boot] d e)

/-- Each command and event completes. A 10 ms window above the cap lowers the cap limit of every powered cluster island below
its point in force, a 1 ms window well below it raises limits by one. CAP_W is stored within 2,000 to 4,000 and the cap in force follows. TARGET 2 or 3 begins
the entry where R581 allows it and is refused else; TARGET 0 leaves P2, and wakes from P3 by a start of its own. The entry's end gates
the C-dies with HBM in self-refresh; the exit's end powers them and raises GAS_EPOCH. An idle cluster is gated and a gated one ungated. A ramp
takes its 16 steps. A trip stretches the clock and is counted; one that lasts lowers the point, and the stretch ends with the ramp that
takes over; recovery raises the point. EN and OP take effect.
Where the manual leaves a detail open, the clauses rest on the model's choices of log entries 3 and 56. -/
def Obligations.PowerAndClocks : Prop :=
  (∀ w, Completes (.capWindow w true) (fun d => d.gf F.PWR_STAT.CAP_IN_FORCE_W < w) fun d e =>
        (∀ n, n < 32 → d.on F.CLK_ISLAND_n_STAT.POWERED 0 n = true →
            (e.isl n).capLimit = d.gf F.CLK_ISLAND_n_STAT.OP_IN_FORCE 0 n - 1)
          ∧ (∀ n, d.on F.CLK_ISLAND_n_STAT.POWERED 0 n = false → e.isl n = d.isl n)
          ∧ Only ((List.range 32).map fun n => ⟨.CLK_ISLAND_n_STAT, 0, n, 0⟩) [.power] d e)
  ∧ (∀ w, Completes (.capWindow w false) (fun d => 100 * w < 97 * d.gf F.PWR_STAT.CAP_IN_FORCE_W) fun d e =>
        (∀ n, n < 32 → d.on F.CLK_ISLAND_n_STAT.POWERED 0 n = true →
            (e.isl n).capLimit = (if (d.isl n).capLimit < 7 then (d.isl n).capLimit + 1 else (d.isl n).capLimit))
          ∧ Only ((List.range 32).map fun n => ⟨.CLK_ISLAND_n_STAT, 0, n, 0⟩) [.power] d e)
  ∧ (∀ (w : Fin 65536), Completes (.capWWrite w) (fun d => d.accepts ⟨.PWR_CTRL, 0, 0, 0⟩ = true) fun d e =>
        e.gf F.PWR_CTRL.CAP_W = max 2000 (min 4000 w.val) ∧ e.gf F.PWR_CTRL.TARGET = d.gf F.PWR_CTRL.TARGET
          ∧ e.gf F.PWR_STAT.CAP_IN_FORCE_W = min (max 2000 (min 4000 w.val)) (min d.converterCap (if d.power.low then 2000 else 4000))
          ∧ Dev.did [⟨.PWR_CTRL, 0, 0, 0⟩, ⟨.PWR_STAT, 0, 0, 0⟩, ⟨.INT_PEND_SET_k, 0, 3, 0⟩] [] d e)
  ∧ Completes .pwrTargetP0 (fun d => d.accepts ⟨.PWR_CTRL, 0, 0, 0⟩ = true ∧ d.gf F.PWR_CTRL.TARGET ≠ 0 ∧ d.gf F.PWR_STAT.STATE = 2)
      (fun d e => e.gf F.PWR_CTRL.TARGET = 0 ∧ e.gf F.PWR_STAT.STATE = 5
        ∧ Dev.did [⟨.PWR_CTRL, 0, 0, 0⟩, ⟨.PWR_STAT, 0, 0, 0⟩, ⟨.INT_PEND_SET_k, 0, 3, 0⟩] [] d e)
  ∧ Completes .pwrTargetP0 (fun d => d.accepts ⟨.PWR_CTRL, 0, 0, 0⟩ = true ∧ d.gf F.PWR_CTRL.TARGET ≠ 0 ∧ d.gf F.PWR_STAT.STATE = 3)
      (fun d e => e.gf F.PWR_STAT.STATE = 5 ∧ e.boot.step = .rails ∧ e.boot.kind = .wake ∧ e.cores = [] ∧ e.hbm = []
        ∧ e.gas.replies = d.gas.replies)
  ∧ Completes .pwrTargetP2 (fun d => d.accepts ⟨.PWR_CTRL, 0, 0, 0⟩ = true ∧ d.gf F.PWR_CTRL.TARGET = 0 ∧ d.mayPark = true)
      (fun _ e => e.gf F.PWR_CTRL.TARGET = 2 ∧ e.gf F.PWR_STAT.STATE = 4 ∧ e.answer.code = 0)
  ∧ Completes .pwrTargetP2 (fun d => d.accepts ⟨.PWR_CTRL, 0, 0, 0⟩ = true ∧ d.gf F.PWR_CTRL.TARGET = 0 ∧ d.mayPark = false)
      (fun d e => e.gf F.PWR_STAT.LAST_CODE = Code.PWR_STATE_REFUSED ∧ getBits (e.reg ⟨.INT_PEND_SET_k, 0, 3, 0⟩) 7 7 = 1
        ∧ Dev.did [⟨.PWR_STAT, 0, 0, 0⟩, ⟨.INT_PEND_SET_k, 0, 3, 0⟩] [] d e)
  ∧ Completes .pwrTargetP3 (fun d => d.accepts ⟨.PWR_CTRL, 0, 0, 0⟩ = true ∧ d.gf F.PWR_CTRL.TARGET = 0 ∧ d.mayPark = true)
      (fun _ e => e.gf F.PWR_CTRL.TARGET = 3 ∧ e.gf F.PWR_STAT.STATE = 4 ∧ e.answer.code = 0)
  ∧ (∀ errs, Completes (.pwrStateChanged errs) (fun d => d.gf F.PWR_STAT.STATE = 4 ∧ d.gf F.PWR_CTRL.TARGET = 2 ∧ d.hlk.dir = []
        ∧ d.mem.jobs = [] ∧ d.writeWaits = false ∧ d.mem.lines = []) fun d e =>
        e.gf F.PWR_STAT.STATE = 2 ∧ (∀ c, c < 128 → e.core c = {}) ∧ e.hbm = d.hbm
          ∧ (∀ q, q < 4 → e.gf F.HBM_STAT.SELF_REFRESH q = 1) ∧ (∀ n, n < 32 → e.gf F.CLK_ISLAND_n_STAT.POWERED 0 n = 0)
          ∧ e.gf F.PWR_STAT.LAST_CODE = Code.PWR_STATE_CHANGED ∧ getBits (e.reg ⟨.INT_PEND_SET_k, 0, 3, 0⟩) 7 7 = 1)
  ∧ (∀ errs, Completes (.pwrStateChanged errs) (fun d => d.gf F.PWR_STAT.STATE = 5 ∧ d.boot.step = .ready
        ∧ d.on F.CLK_ISLAND_n_STAT.POWERED 0 0 = false) fun d e =>
        e.gf F.PWR_STAT.STATE ≤ 1 ∧ (∀ n, n < 32 → e.gf F.CLK_ISLAND_n_STAT.POWERED 0 n = 1)
          ∧ (∀ q, q < 4 → e.gf F.HBM_STAT.SELF_REFRESH q = 0)
          ∧ e.gf F.GAS_EPOCH.EPOCH = (d.gf F.GAS_EPOCH.EPOCH + 1) % 2 ^ 32)
  ∧ (∀ (n : Fin 32), Completes (.islandIdleGate n) (fun d => d.islandOn n = true ∧ d.clusterIdle n = true) fun d e =>
        e.gf F.CLK_ISLAND_n_STAT.GATED 0 n = 1 ∧ Only [⟨.CLK_ISLAND_n_STAT, 0, n, 0⟩, ⟨.PWR_STAT, 0, 0, 0⟩] [.eph] d e)
  ∧ (∀ (n : Fin 32), Completes (.islandUngate n) (fun d => d.islandOn n = true ∧ d.on F.CLK_ISLAND_n_STAT.GATED 0 n = true)
      fun d e => e.gf F.CLK_ISLAND_n_STAT.GATED 0 n = 0
        ∧ (d.gf F.PWR_STAT.STATE < 2 → e.gf F.PWR_STAT.STATE = 0)
        ∧ Only [⟨.CLK_ISLAND_n_STAT, 0, n, 0⟩, ⟨.PWR_STAT, 0, 0, 0⟩] [.eph] d e)
  ∧ (∀ (n : Fin 44) r, Completes (.rampStep n) (fun d => (d.isl n).ramp = some r ∧ r.k < 15) fun d e =>
        e.isl n = { d.isl n with div := rampDiv r.a r.b (r.k + 1), ramp := some { r with k := r.k + 1 } }
          ∧ e.gf F.CLK_ISLAND_n_STAT.FREQ_MHZ 0 n = freqAt n (rampDiv r.a r.b (r.k + 1)) % 65536
          ∧ Only [⟨.CLK_ISLAND_n_STAT, 0, n, 0⟩] [.power] d e)
  ∧ (∀ (n : Fin 44) r, Completes (.rampStep n) (fun d => (d.isl n).ramp = some r ∧ r.k = 15) fun d e =>
        e.isl n = { d.isl n with div := r.b, ramp := none, taken := false }
          ∧ e.gf F.CLK_ISLAND_n_STAT.FREQ_MHZ 0 n = freqAt n r.b % 65536 ∧ e.gf F.CLK_ISLAND_n_STAT.RAMPING 0 n = 0
          ∧ e.gf F.CLK_ISLAND_n_STAT.STRETCHED 0 n = (if (d.isl n).taken then 0 else d.gf F.CLK_ISLAND_n_STAT.STRETCHED 0 n)
          ∧ Only [⟨.CLK_ISLAND_n_STAT, 0, n, 0⟩] [.power] d e)
  ∧ (∀ (n : Fin 44), Completes (.railSettled n) (fun d => (d.isl n).rising = true) fun d e =>
        e.isl n = { d.isl n with ramp := some { a := (d.isl n).div, b := d.wantedDiv n, k := 0 }, rising := false }
          ∧ e.gf F.CLK_ISLAND_n_STAT.RAMPING 0 n = 1 ∧ Only [⟨.CLK_ISLAND_n_STAT, 0, n, 0⟩] [.power] d e)
  ∧ (∀ (n : Fin 44), Completes (.droopTrip n) (fun d => d.on F.CLK_ISLAND_n_STAT.POWERED 0 n = true) fun d e =>
        e.isl n = { d.isl n with tripped := true } ∧ e.gf F.CLK_ISLAND_n_STAT.STRETCHED 0 n = 1
          ∧ e.gf F.CLK_ISLAND_n_STAT.DROOP_CNT 0 n = min 65535 (d.gf F.CLK_ISLAND_n_STAT.DROOP_CNT 0 n + 1)
          ∧ Only [⟨.CLK_ISLAND_n_STAT, 0, n, 0⟩, ⟨.PWR_STAT, 0, 0, 0⟩] (.power :: scoreParts) d e)
  ∧ (∀ (n : Fin 44), Completes (.droopClear n) (fun d => (d.isl n).taken = false) fun d e =>
        e.isl n = { d.isl n with tripped := false } ∧ e.gf F.CLK_ISLAND_n_STAT.STRETCHED 0 n = 0
          ∧ Only [⟨.CLK_ISLAND_n_STAT, 0, n, 0⟩] [.power] d e)
  ∧ (∀ (n : Fin 44), Completes (.droopClear n) (fun d => (d.isl n).taken = true) fun d e =>
        e.isl n = { d.isl n with tripped := false } ∧ Only [] [.power] d e)
  ∧ (∀ (n : Fin 44), Completes (.droopHandover n) (fun d => (d.isl n).tripped = true) fun d e =>
        (if n.val < 32 then (e.isl n).droopLimit = d.gf F.CLK_ISLAND_n_STAT.OP_IN_FORCE 0 n - 1 else (e.isl n).slow = true)
          ∧ (e.isl n).taken = (e.isl n).ramp.isSome ∧ getBits (e.reg ⟨.INT_PEND_SET_k, 0, 3, 0⟩) 5 5 = 1
          ∧ Only [⟨.CLK_ISLAND_n_STAT, 0, n, 0⟩, ⟨.INT_PEND_SET_k, 0, 3, 0⟩] (.power :: scoreParts) d e)
  ∧ (∀ (n : Fin 44), Completes (.droopRecovery n) (fun d => (d.isl n).tripped = false) fun d e =>
        (if n.val < 32 then (e.isl n).droopLimit = (if (d.isl n).droopLimit < 7 then (d.isl n).droopLimit + 1 else (d.isl n).droopLimit)
          else (e.isl n).slow = false) ∧ Only [⟨.CLK_ISLAND_n_STAT, 0, n, 0⟩] [.power] d e)
  ∧ (∀ (n : Fin 44) en, Completes (.islandEnWrite n en) (fun d => d.accepts ⟨.CLK_ISLAND_n_CTRL, 0, n, 0⟩ = true
        ∧ (en = true ∨ (n.val < 32 ∧ ∀ c, c < 4 → d.coreIdle (4 * n.val + c) = true))) fun d e =>
        e.gf F.CLK_ISLAND_n_CTRL.EN 0 n = (if en then 1 else 0)
          ∧ e.gf F.CLK_ISLAND_n_CTRL.OP 0 n = d.gf F.CLK_ISLAND_n_CTRL.OP 0 n
          ∧ Dev.did [⟨.CLK_ISLAND_n_CTRL, 0, n, 0⟩, ⟨.CLK_ISLAND_n_STAT, 0, n, 0⟩, ⟨.PWR_STAT, 0, 0, 0⟩] [.power] d e)
  ∧ (∀ (n : Fin 44), Completes (.islandEnWrite n false) (fun d => d.accepts ⟨.CLK_ISLAND_n_CTRL, 0, n, 0⟩ = true ∧ 32 ≤ n.val)
      fun d e => e.gf F.PWR_STAT.LAST_CODE = Code.PWR_STATE_REFUSED
        ∧ Dev.did [⟨.PWR_STAT, 0, 0, 0⟩, ⟨.INT_PEND_SET_k, 0, 3, 0⟩] [] d e)
  ∧ (∀ (n : Fin 44) (op : Fin 8), Completes (.islandOpWrite n op) (fun d => d.accepts ⟨.CLK_ISLAND_n_CTRL, 0, n, 0⟩ = true
        ∧ d.on F.CLK_ISLAND_n_CTRL.EN 0 n = true) fun d e =>
        e.gf F.CLK_ISLAND_n_CTRL.OP 0 n = op.val ∧ e.gf F.CLK_ISLAND_n_CTRL.EN 0 n = 1
          ∧ (n.val < 32 → d.on F.CLK_ISLAND_n_STAT.POWERED 0 n = true → e.gf F.CLK_ISLAND_n_STAT.OP_IN_FORCE 0 n =
              min (min op.val (d.isl n).capLimit) (min (d.thermLimit n) (d.isl n).droopLimit) % 8)
          ∧ Dev.did [⟨.CLK_ISLAND_n_CTRL, 0, n, 0⟩, ⟨.CLK_ISLAND_n_STAT, 0, n, 0⟩] [.power] d e)

/-- Each event completes. The loss of the Guide Star begins holdover and its return ends it; holdover that lasts occults the device. A PLL
that loses lock stops its island's clock and takes a cluster's cores out of service. A sample in which every sensor of a die reads one
temperature makes that the maximum, with the level that the thresholds give, every sensor in service. Each further 1 ms hot lowers the
thermal limit by one and each 10 ms cool raises it. A crossing of the shutdown threshold is noted, and one that lasts begins the
input-loss path with cause 2. A comparator that fails its test leaves service; a test that finds nothing changes nothing.
Where the manual leaves a detail open, the clauses rest on the model's choices of log entry 56. -/
def Obligations.ClockReferenceAndTemperature : Prop :=
  Completes .clkRefLost (fun d => d.on F.CLK_STAT.REF_OK = true) (fun d e =>
        e.gf F.CLK_STAT.REF_OK = 0 ∧ e.gf F.CLK_STAT.HOLDOVER = 1 ∧ getBits (e.reg ⟨.INT_PEND_SET_k, 0, 3, 0⟩) 6 6 = 1
          ∧ Only [⟨.CLK_STAT, 0, 0, 0⟩, ⟨.PWR_STAT, 0, 0, 0⟩, ⟨.INT_PEND_SET_k, 0, 3, 0⟩] (.eph :: logParts) d e)
  ∧ (∀ (khz : Fin 131072), Completes (.guideStarReturn khz) (fun d => d.on F.CLK_STAT.HOLDOVER = true) fun d e =>
        e.gf F.CLK_STAT.REF_OK = 1 ∧ e.gf F.CLK_STAT.HOLDOVER = 0 ∧ e.gf F.CLK_STAT.REF_KHZ = khz.val
          ∧ Only [⟨.CLK_STAT, 0, 0, 0⟩] [] d e)
  ∧ Completes .refHoldoverExpiry (fun d => d.on F.CLK_STAT.HOLDOVER = true ∧ d.safe.occs = [] ∧ d.occulted = false) (fun _ e =>
        e.occulted = true ∧ e.gf F.GAS_REPLY_STAT.FROZEN = 1 ∧ e.on F.SYN_TIME_STAT.ALIGNED = false
          ∧ e.safe.occs = [{ unit := .device, ctrl := false }])
  ∧ (∀ (n : Fin 44), Completes (.clkPllUnlock n) (fun d => d.on F.CLK_ISLAND_n_STAT.PLL_LOCK 0 n = true ∧ n.val < 32
        ∧ d.safe.occs = []) fun _ e =>
        e.gf F.CLK_ISLAND_n_STAT.PLL_LOCK 0 n = 0 ∧ e.gf F.CLK_ISLAND_n_STAT.FREQ_MHZ 0 n = 0
          ∧ (∀ l, l < 4 → e.inService (4 * n.val + l) = false) ∧ getBits (e.reg ⟨.INT_PEND_SET_k, 0, 3, 0⟩) 6 6 = 1)
  ∧ (∀ (k : Fin 20) ts (t : Int) fl i o, Completes (.thermalSample k ts fl i o) (fun d => d.power.rise = false
        ∧ ts.length = sensorsOf k ∧ (∀ x ∈ ts, x = some t) ∧ -160 ≤ t ∧ t ≤ 1200 ∧ ∀ s, s < sensorsOf k → d.sensorIn k s = true)
      fun d e => e.gf F.THM_DIE_k_STAT.MAX 0 k = wrapInt 16 t ∧ e.gf F.THM_DIE_k_STAT.MAX_SENSOR 0 k = 0
        ∧ e.gf F.THM_DIE_k_STAT.LEVEL 0 k = thermLevel t (d.gf F.THM_DIE_k_STAT.LEVEL 0 k)
        ∧ e.gf F.THM_DIE_k_STAT.IN_SERVICE 0 k = sensorsOf k
        ∧ (∀ s, s < sensorsOf k → e.sensorIn k s = true)
        ∧ e.power.flashOpen = (match fl with
            | none => false
            | some x => if d.power.flashOpen then decide (0 ≤ x ∧ x ≤ 70) else decide (2 ≤ x ∧ x ≤ 68))
        ∧ e.gf F.THM_STAT.INLET_C = wrapInt 8 i ∧ e.gf F.THM_STAT.OUTLET_C = wrapInt 8 o)
  ∧ (∀ (k : Fin 20), Completes (.throttleStep k) (fun d => 2 ≤ d.gf F.THM_DIE_k_STAT.LEVEL 0 k
        ∧ 840 ≤ (BitVec.ofNat 16 (d.gf F.THM_DIE_k_STAT.MAX 0 k)).toInt ∧ 0 < (d.therm k).limit) fun d e =>
        e.therm k = { d.therm k with limit := (d.therm k).limit - 1 } ∧ (∀ j, j ≠ k.val → e.therm j = d.therm j)
          ∧ Only ((List.range 32).map fun n => ⟨.CLK_ISLAND_n_STAT, 0, n, 0⟩) [.power] d e)
  ∧ (∀ (k : Fin 20), Completes (.throttleRecoveryStep k) (fun d => d.gf F.THM_DIE_k_STAT.LEVEL 0 k < 2 ∧ (d.therm k).limit < 7)
      fun d e => e.therm k = { d.therm k with limit := (d.therm k).limit + 1 } ∧ (∀ j, j ≠ k.val → e.therm j = d.therm j)
        ∧ Only (⟨.THM_STAT, 0, 0, 0⟩ :: (List.range 32).map fun n => ⟨.CLK_ISLAND_n_STAT, 0, n, 0⟩) [.power] d e)
  ∧ (∀ (k : Fin 20) a, Completes (.comparatorCrossing k a) (fun _ => True) fun d e =>
        e.power = { d.power with crossing := (d.power.crossing.filter fun x => decide (x ≠ k.val)) ++ if a then [k.val] else [] }
          ∧ Only [] [.power] d e)
  ∧ (∀ (k : Fin 20), Completes (.thmShutdown k) (fun d => d.power.crossing.contains k.val = true ∧ d.power.stageOne = true
        ∧ d.power.path = none) fun d e =>
        e.power = { d.power with crossing := [], hot := true, path := some .clocks, toOff := true }
          ∧ e.gf F.PWR_STAT.LAST_OFF_CAUSE = 2
          ∧ e.gf F.THM_EVENT_CNT.SHUTDOWN_CNT = min 65535 (d.gf F.THM_EVENT_CNT.SHUTDOWN_CNT + 1)
          ∧ Only [⟨.THM_EVENT_CNT, 0, 0, 0⟩, ⟨.PWR_STAT, 0, 0, 0⟩] (.power :: .safe :: .eph :: logParts) d e)
  ∧ Completes (.comparatorTest [] []) (fun _ => True) (fun d e => Only [] [] d e)
  ∧ (∀ (k : Fin 20) (s : Fin 24), Completes (.comparatorTest [(k, s)] []) (fun d => d.sensorIn k s = true) fun _ e =>
        bitOf (e.gf F.THM_DIE_k_DISCARD.COMP_FAIL 0 k) s = true ∧ e.sensorIn k s = false
          ∧ getBits (e.reg ⟨.INT_PEND_SET_k, 0, 3, 0⟩) 2 2 = 1)
  ∧ (∀ (n : Fin 44), Completes (.comparatorTest [] [n]) (fun _ => True) fun d e =>
        getBits (e.reg ⟨.INT_PEND_SET_k, 0, 2, 0⟩) 9 9 = 1 ∧ Only [⟨.INT_PEND_SET_k, 0, 2, 0⟩] logParts d e)

/-- A write that is taken, to a register on which no action hangs, leaves each field as its access code says (R6): RW and WO take the
written value (as the register stores it), W1S sets, W1C clears, RO and RC stay; every reserved bit stays (R5), and no other register
changes. Once start is complete, a write to a register not marked runtime changes nothing of it: it is recorded in BOOT_REFUSED and the
logbook, and acknowledged (R4). An offset at which no register stands answers GAS_ADDR_ERROR, one in a spare core's window drops the write,
and FAILED answers BOOT_NOT_READY. A read returns every field but the WO ones, and then returns the RC fields to their reset value.
A read or write of a core under copy is held (R85).
Where the manual leaves a detail open, the clauses rest on the model's choices of log entries 60 and 65. -/
def Obligations.RegisterAccess : Prop :=
  (∀ (src : Fin 5) o v k, Completes (.registerWrite src o v)
      (fun d => RegKey.ofOffset o = some k ∧ plainReg k.name = true ∧ d.accepts k = true) fun d e =>
        (∀ f ∈ k.name.fields, getBits (e.reg k) f.hi f.lo = (match f.access with
            | .rw | .wo => getBits (k.name.stored v) f.hi f.lo
            | .w1s => getBits (d.reg k) f.hi f.lo ||| getBits (k.name.stored v) f.hi f.lo
            | .w1c => getBits (d.reg k) f.hi f.lo - (getBits (d.reg k) f.hi f.lo &&& getBits (k.name.stored v) f.hi f.lo)
            | .ro | .rc => getBits (d.reg k) f.hi f.lo))
          ∧ (∀ b, b < 64 → (∀ f ∈ k.name.fields, b < f.lo ∨ f.hi < b) → getBits (e.reg k) b b = getBits (d.reg k) b b)
          ∧ Dev.did [k] [] d e)
  ∧ (∀ (src : Fin 5) o v k, Completes (.registerWrite src o v)
      (fun d => RegKey.ofOffset o = some k ∧ d.regServed k.home = true ∧ d.started = true ∧ k.name.info.runtime = false
        ∧ d.boot.step ≠ .failed ∧ isMcore k = false) fun d e =>
        e.gf F.BOOT_REFUSED.SOURCE = src.val ∧ e.gf F.BOOT_REFUSED.OFFSET = k.offset % 2 ^ 40
          ∧ e.gf F.BOOT_FW_STAT.LAST_CODE = Code.BOOT_WRITE_REFUSED
          ∧ e.log = (d.logAt Code.BOOT_WRITE_REFUSED dieM 0xFFFF k.offset v.toNat).log ∧ e.answer = {}
          ∧ Only [⟨.BOOT_REFUSED, 0, 0, 0⟩, ⟨.BOOT_FW_STAT, 0, 0, 0⟩] (.answer :: .eph :: logParts) d e)
  ∧ (∀ (src : Fin 5) o v, Completes (.registerWrite src o v)
      (fun _ => RegKey.ofOffset o = none ∧ isSpareOffset o = false) fun d e =>
        e.answer = { code := Code.GAS_ADDR_ERROR } ∧ Only [] (.answer :: logParts) d e)
  ∧ (∀ (src : Fin 5) o v, Completes (.registerWrite src o v)
      (fun _ => RegKey.ofOffset o = none ∧ isSpareOffset o = true) fun d e => e.answer = {} ∧ Only [] [.answer] d e)
  ∧ (∀ (src : Fin 5) o v k, Completes (.registerWrite src o v)
      (fun d => RegKey.ofOffset o = some k ∧ d.boot.step = .failed ∧ isMdie k = false) fun d e =>
        e.answer = { code := Code.BOOT_NOT_READY } ∧ Only [⟨.BOOT_FW_STAT, 0, 0, 0⟩] (.answer :: .eph :: logParts) d e)
  ∧ (∀ o k, Completes (.rcRegisterRead o)
      (fun d => RegKey.ofOffset o = some k ∧ k.home = k ∧ d.regServed k = true ∧ d.boot.step ≠ .failed ∧ isMcore k = false
        ∧ k.name ≠ .INT_TGT_t_CLAIM ∧ d.heldReg o = none) fun d e =>
        e.answer.code = 0
          ∧ (∀ f ∈ k.name.fields, getBits e.answer.value f.hi f.lo = if f.access = .wo then 0 else getBits (d.shown k) f.hi f.lo)
          ∧ (∀ b, b < 64 → (∀ f ∈ k.name.fields, b < f.lo ∨ f.hi < b) → getBits e.answer.value b b = 0)
          ∧ (∀ f ∈ k.name.fields, getBits (e.reg k) f.hi f.lo =
              if f.access = .rc then fieldReset k f % 2 ^ (f.hi + 1 - f.lo) else getBits (d.reg k) f.hi f.lo)
          ∧ Only [k] [.answer, .eph] d e)
  ∧ (∀ o k, Completes (.rcRegisterRead o)
      (fun d => RegKey.ofOffset o = some k ∧ d.regServed k.home = false ∧ d.boot.step ≠ .failed ∧ isMcore k = false
        ∧ d.heldReg o = none) fun d e => e.answer = {} ∧ Only [] [.answer] d e)
  ∧ (∀ o k c, Completes (.rcRegisterRead o) (fun d => d.heldReg o = some (k, c)) fun d e => e = d.hold c (.load k 4))
  ∧ (∀ (src : Fin 5) o v k c, Completes (.registerWrite src o v) (fun d => d.heldReg o = some (k, c)
        ∧ d.regServed k.home = true ∧ (d.started = false ∨ k.name.info.runtime = true) ∧ d.boot.step ≠ .failed) fun d e =>
        e = { d.hold c (.write k src d.self v) with answer := {} })

/-- Each row completes while the auxiliary path is in service. An I3C read request or write that the debug state and HANDOVER_BUSY let
through is the register access itself by path 2, and its answer waits for one private read, which returns it and consumes it; another
length is answered as a format error, and an offset that SEALED closes is refused and recorded. BYPASS, SAMPLE, IDCODE and EXTEST select their instruction
and shift out their bits; EXTEST drives the pins in P3, Off and RECOVERY only, and a scan of it
captures the pins and updates what it drives. An Eyepiece scan captures the access before and does the
next one, or refuses it in SEALED. INTSCAN shifts out free bits in VENDOR only.
Where the manual leaves a detail open, the clauses rest on the model's choices of log entries 4, 6, 7, 8 and 62. -/
def Obligations.ManagementPaths : Prop :=
  (∀ bs o k, Completes (.i3cReadRequest bs) (fun d => d.power.aux = true ∧ bs.length = 6 ∧ bs.headD 0 = 1
        ∧ o = leNat ((bs.drop 1).take 5) ∧ RegKey.ofOffset o = some k ∧ d.on F.BOOT_FW_STAT.HANDOVER_BUSY = false
        ∧ d.opens i3cSealed o = true ∧ (d.regRefusal k).1 = 0 ∧ d.heldReg o = none) fun d e =>
        e = { (d.readReg k).2 with mgmt := { (d.readReg k).2.mgmt with i3c := .read 0 (d.readReg k).1 } })
  ∧ (∀ bs o k c, Completes (.i3cReadRequest bs) (fun d => d.power.aux = true ∧ bs.length = 6 ∧ bs.headD 0 = 1
        ∧ o = leNat ((bs.drop 1).take 5) ∧ d.i3cMay o = true ∧ d.heldReg o = some (k, c)) fun d e =>
        e = { d.hold c (.load k 2) with mgmt := { d.mgmt with i3c := .none } })
  ∧ (∀ bs o, Completes (.i3cReadRequest bs) (fun d => d.power.aux = true ∧ bs.length = 6 ∧ bs.headD 0 = 1
        ∧ o = leNat ((bs.drop 1).take 5) ∧ d.on F.BOOT_FW_STAT.HANDOVER_BUSY = false ∧ d.opens i3cSealed o = false) fun d e =>
        e.mgmt = { d.mgmt with i3c := .read Code.DBG_ACCESS_REFUSED 0 }
          ∧ e.gf F.DBG_STAT.LAST_CODE = Code.DBG_ACCESS_REFUSED ∧ Only [⟨.DBG_STAT, 0, 0, 0⟩] (.mgmt :: logParts) d e)
  ∧ (∀ bs, Completes (.i3cReadRequest bs) (fun d => d.power.aux = true ∧ bs.length ≠ 6 ∧ bs.length ≠ 14) fun d e =>
        e.mgmt = { d.mgmt with i3c := .format } ∧ Only [] (.mgmt :: logParts) d e)
  ∧ (∀ bs o k v, Completes (.i3cWrite bs) (fun d => d.power.aux = true ∧ bs.length = 14 ∧ bs.headD 0 = 2
        ∧ o = leNat ((bs.drop 1).take 5) ∧ v = BitVec.ofNat 64 (leNat (bs.drop 6)) ∧ RegKey.ofOffset o = some k
        ∧ d.on F.BOOT_FW_STAT.HANDOVER_BUSY = false ∧ d.opens i3cSealed o = true ∧ (d.regRefusal k).1 = 0) fun d e =>
        e = { d.writeReg k 2 d.self v with mgmt := { (d.writeReg k 2 d.self v).mgmt with i3c := .status 0 } })
  ∧ (∀ bs, Completes (.i3cWrite bs) (fun d => d.power.aux = true ∧ bs.length = 14 ∧ bs.headD 0 = 2
        ∧ d.on F.BOOT_FW_STAT.HANDOVER_BUSY = true) fun d e =>
        e.mgmt = { d.mgmt with i3c := .status Code.BOOT_HANDOVER_BUSY }
          ∧ Only [⟨.BOOT_FW_STAT, 0, 0, 0⟩] (.mgmt :: .eph :: logParts) d e)
  ∧ (∀ n v, Completes (.i3cPrivateRead n) (fun d => d.power.aux = true ∧ d.mgmt.i3c = .read 0 v) fun d e =>
        e.mgmt = { d.mgmt with sda := (leBytes 8 v.toNat ++ [0, 0]).take n, i3c := .none } ∧ Only [] [.mgmt] d e)
  ∧ (∀ n c v, Completes (.i3cPrivateRead n) (fun d => d.power.aux = true ∧ d.mgmt.i3c = .read c v ∧ c ≠ 0) fun d e =>
        e.mgmt = { d.mgmt with sda := (List.replicate 8 0 ++ leBytes 2 c).take n, i3c := .none } ∧ Only [] [.mgmt] d e)
  ∧ (∀ n c, Completes (.i3cPrivateRead n) (fun d => d.power.aux = true ∧ d.mgmt.i3c = .status c) fun d e =>
        e.mgmt = { d.mgmt with sda := (leBytes 2 c).take n, i3c := .none } ∧ Only [] [.mgmt] d e)
  ∧ Completes .jtagBypass (fun d => d.power.aux = true)
      (fun d e => e.mgmt = { d.mgmt with ir := .bypass, driving := false, tdo := [false] } ∧ Only [] [.mgmt] d e)
  ∧ (∀ pins pre, Completes (.jtagSamplePreload pins pre) (fun d => d.power.aux = true) fun d e =>
        e.mgmt = { d.mgmt with ir := .sample, driving := false, tdo := pins, boundary := pre } ∧ Only [] [.mgmt] d e)
  ∧ (∀ pins, Completes (.jtagExtest pins none) (fun d => d.power.aux = true ∧ d.mayExtest = true) fun d e =>
        e.mgmt = { d.mgmt with ir := .extest, driving := true, tdo := [] } ∧ Only [] [.mgmt] d e)
  ∧ (∀ pins bits, Completes (.jtagExtest pins (some bits)) (fun d => d.power.aux = true ∧ d.mayExtest = true) fun d e =>
        e.mgmt = { d.mgmt with ir := .extest, driving := true, tdo := pins, boundary := bits } ∧ Only [] [.mgmt] d e)
  ∧ (∀ pins scan, Completes (.jtagExtest pins scan) (fun d => d.power.aux = true ∧ d.mayExtest = false) fun d e =>
         e.gf F.DBG_STAT.LAST_CODE = Code.DBG_ACCESS_REFUSED ∧ Only [⟨.DBG_STAT, 0, 0, 0⟩] logParts d e)
  ∧ Completes .jtagIdcode (fun d => d.power.aux = true) (fun d e =>
        e.mgmt = { d.mgmt with ir := .idcode, driving := false, tdo := (List.range 32).map fun i => bitOf Config.idcode.toNat i }
          ∧ Only [] [.mgmt] d e)
  ∧ (∀ o errs, Completes (.eyepiece (.readReg o) errs) (fun d => d.power.aux = true ∧ d.opens eyeSealed o = false) fun d e =>
        e.mgmt = { d.mgmt with
            ir := .eyepiece, driving := false
            tdo := (List.range 120).map fun i => bitOf (d.mgmt.eyeCode * 2 ^ 104 + d.mgmt.eyeData.toNat) i
            eyeCode := Code.DBG_ACCESS_REFUSED, eyeData := 0 }
          ∧ Only [⟨.DBG_STAT, 0, 0, 0⟩] (.mgmt :: logParts) d e)
  ∧ (∀ o v k errs, Completes (.eyepiece (.writeReg o v) errs) (fun d => d.power.aux = true ∧ d.opens eyeSealed o = true
        ∧ RegKey.ofOffset o = some k ∧ plainReg k.name = true ∧ d.accepts k = true) fun d e =>
        e.mgmt.ir = .eyepiece ∧ e.mgmt.eyeCode = 0 ∧ e.mgmt.eyeData = 0
          ∧ (∀ f ∈ k.name.fields, f.access = .rw → getBits (e.reg k) f.hi f.lo = getBits (k.name.stored v) f.hi f.lo)
          ∧ Only [k] (.mgmt :: cmdParts) d e)
  ∧ (∀ a key errs o, Completes (.eyepiece (.readMem a key) errs) (fun d => d.power.aux = true ∧ d.debugState = 2
        ∧ d.started = true ∧ o = localOf a ∧ a / 2 ^ 46 = d.self ∧ o % 8 = 0 ∧ d.areaOf o 8 = some .sram
        ∧ d.copyingAt o 8 = none) fun d e =>
        e.mgmt.eyeCode = 0 ∧ e.mgmt.eyeData = BitVec.ofNat 64 (leNat ((List.range 8).map fun k => d.sramByte (o + k)))
          ∧ Only [] [.mgmt] d e)
  ∧ (∀ a key errs v, Completes (.eyepiece (.writeMem a key v) errs) (fun d => d.power.aux = true ∧ d.debugState = 0) fun d e =>
        e.mgmt.eyeCode = Code.DBG_ACCESS_REFUSED ∧ e.mgmt.eyeData = 0 ∧ Only [⟨.DBG_STAT, 0, 0, 0⟩] (.mgmt :: logParts) d e)
  ∧ (∀ n, Completes (.intscan n) (fun d => d.power.aux = true ∧ d.debugState = 2) fun d e =>
        e.mgmt = { d.mgmt with ir := .intscan, driving := false, tdo := (List.range n).map fun i => Config.freeBit (d.freeIx + i) }
          ∧ e.freeIx = d.freeIx + n ∧ Only [] [.mgmt, .freeIx] d e)
  ∧ (∀ n, Completes (.intscan n) (fun d => d.power.aux = true ∧ d.debugState ≠ 2) fun d e =>
        e.gf F.DBG_STAT.LAST_CODE = Code.DBG_ACCESS_REFUSED ∧ Only [⟨.DBG_STAT, 0, 0, 0⟩] logParts d e)

/-- Each command completes where the register takes the write. Set and clear writes change exactly the named bits of the pending and
mask words; a shared source is set by software in the wide configuration only, else INT_SWSET_REFUSED. A claim by a management core
returns the source on offer with its level, clears its pending bit and stacks it, and returns 0 with nothing on offer. EOI of the running
source ends it, and any other is logged. INT_SRC_n_CFG takes its level, and its target where that exists. A companion vector's source is
claimed and sent as CTL INTERRUPT while the link is up.
Where the manual leaves a detail open, the clauses rest on the model's choices of log entry 60. -/
def Obligations.InterruptController : Prop :=
  (∀ (k : Fin 16) v, Completes (.intPendSet k v)
      (fun d => d.accepts ⟨.INT_PEND_SET_k, 0, k, 0⟩ = true ∧ (k.val < 2 ∨ d.on F.INT_CFG.WIDE = true)) fun d e =>
        e.reg ⟨.INT_PEND_SET_k, 0, k, 0⟩ = d.reg ⟨.INT_PEND_SET_k, 0, k, 0⟩ ||| v
          ∧ Dev.did [⟨.INT_PEND_SET_k, 0, k, 0⟩] [] d e)
  ∧ (∀ (k : Fin 16) v, Completes (.intPendSet k v)
      (fun d => d.accepts ⟨.INT_PEND_SET_k, 0, k, 0⟩ = true ∧ 2 ≤ k.val ∧ d.on F.INT_CFG.WIDE = false ∧ v ≠ 0) fun d e =>
        e.gf F.HLK_STAT.LAST_CODE = Code.INT_SWSET_REFUSED ∧ Dev.did [⟨.HLK_STAT, 0, 0, 0⟩] [] d e)
  ∧ (∀ (k : Fin 16) v, Completes (.intPendClr k v) (fun d => d.accepts ⟨.INT_PEND_CLR_k, 0, k, 0⟩ = true) fun d e =>
        e.reg ⟨.INT_PEND_SET_k, 0, k, 0⟩ = d.reg ⟨.INT_PEND_SET_k, 0, k, 0⟩ &&& ~~~v
          ∧ Dev.did [⟨.INT_PEND_SET_k, 0, k, 0⟩] [] d e)
  ∧ (∀ (k : Fin 16) v, Completes (.intMaskSet k v) (fun d => d.accepts ⟨.INT_MASK_SET_k, 0, k, 0⟩ = true) fun d e =>
        e.reg ⟨.INT_MASK_SET_k, 0, k, 0⟩ = d.reg ⟨.INT_MASK_SET_k, 0, k, 0⟩ ||| v
          ∧ Dev.did [⟨.INT_MASK_SET_k, 0, k, 0⟩] [] d e)
  ∧ (∀ (k : Fin 16) v, Completes (.intMaskClr k v) (fun d => d.accepts ⟨.INT_MASK_CLR_k, 0, k, 0⟩ = true) fun d e =>
        e.reg ⟨.INT_MASK_SET_k, 0, k, 0⟩ = d.reg ⟨.INT_MASK_SET_k, 0, k, 0⟩ &&& ~~~v
          ∧ Dev.did [⟨.INT_MASK_SET_k, 0, k, 0⟩] [] d e)
  ∧ (∀ (t : Fin 12) n, Completes (.intClaim t)
      (fun d => d.regServed ⟨.INT_TGT_t_CLAIM, 0, t, 0⟩ = true ∧ t.val < 4 ∧ d.offer t = some n) fun d e =>
        e.answer.code = 0 ∧ getBits e.answer.value 31 31 = 1 ∧ getBits e.answer.value 19 16 = d.srcLevel n
          ∧ getBits e.answer.value 9 0 = n ∧ e.isPending n = false ∧ e.runningAt t = (d.srcLevel n, n) :: d.runningAt t
          ∧ (∀ t', t' ≠ t.val → e.runningAt t' = d.runningAt t')
          ∧ (∀ m, m < 1024 → m ≠ n → e.isPending m = d.isPending m)
          ∧ Only [⟨.INT_PEND_SET_k, 0, n / 64, 0⟩] [.answer, .int] d e)
  ∧ (∀ (t : Fin 12), Completes (.intClaim t)
      (fun d => d.regServed ⟨.INT_TGT_t_CLAIM, 0, t, 0⟩ = true ∧ (4 ≤ t.val ∨ d.offer t = none)) fun d e =>
        e.answer = {} ∧ Only [] [.answer] d e)
  ∧ (∀ (t : Fin 12) (n : Fin 1024) l rest, Completes (.intEoiWrite t n)
      (fun d => d.accepts ⟨.INT_TGT_t_EOI, 0, t, 0⟩ = true ∧ d.runningAt t = (l, n.val) :: rest) fun d e =>
        e.runningAt t = rest ∧ (∀ t', t' ≠ t.val → e.runningAt t' = d.runningAt t') ∧ Dev.did [] [.int] d e)
  ∧ (∀ (t : Fin 12) (n : Fin 1024), Completes (.intEoiWrite t n)
      (fun d => d.accepts ⟨.INT_TGT_t_EOI, 0, t, 0⟩ = true ∧ (d.runningAt t).head?.map Prod.snd ≠ some n.val) fun d e =>
        e.gf F.HLK_STAT.LAST_CODE = Code.INT_EOI_UNMATCHED ∧ Dev.did [⟨.HLK_STAT, 0, 0, 0⟩] [] d e)
  ∧ (∀ (n : Fin 1024) v, Completes (.intSrcCfgWrite n v)
      (fun d => d.accepts ⟨.INT_SRC_n_CFG, 0, n, 0⟩ = true ∧ (n.val < 128 ∨ getBits v 11 8 < 4 + d.vectorsOn)) fun d e =>
        e.srcLevel n = getBits v 3 0 ∧ e.srcTarget n = (if n.val < 128 then n.val / 32 else getBits v 11 8)
          ∧ Dev.did [⟨.INT_SRC_n_CFG, 0, n, 0⟩] [] d e)
  ∧ (∀ (n : Fin 1024) v, Completes (.intSrcCfgWrite n v)
      (fun d => d.accepts ⟨.INT_SRC_n_CFG, 0, n, 0⟩ = true ∧ 128 ≤ n.val ∧ 4 + d.vectorsOn ≤ getBits v 11 8) fun d e =>
        e.srcLevel n = getBits v 3 0 ∧ e.srcTarget n = d.srcTarget n ∧ e.gf F.HLK_STAT.LAST_CODE = Code.INT_TARGET_REFUSED
          ∧ Dev.did [⟨.INT_SRC_n_CFG, 0, n, 0⟩, ⟨.HLK_STAT, 0, 0, 0⟩] [] d e)
  ∧ (∀ (x : Fin 8) n, Completes (.companionInterrupt x)
      (fun d => d.hlkUp = true ∧ x.val < d.vectorsOn ∧ d.offer (4 + x.val) = some n ∧ d.hlk.waiting = []
        ∧ d.hlkMay { cls := HC.ctl, op := 3, value := x.val * 2 ^ 16 + d.srcLevel n * 2 ^ 12 + n } = true) fun d e =>
        e.isPending n = false ∧ e.runningAt (4 + x.val) = (d.srcLevel n, n) :: d.runningAt (4 + x.val)
          ∧ (∃ m, e.hlk.unacked = d.hlk.unacked ++ [m] ∧ m.cls = HC.ctl ∧ m.op = 3
            ∧ m.value = x.val * 2 ^ 16 + d.srcLevel n * 2 ^ 12 + n ∧ m.lseq = d.hlk.txNext % 2 ^ 32)
          ∧ e.hlk.waiting = []
          ∧ Only [⟨.INT_PEND_SET_k, 0, n / 64, 0⟩, ⟨.HLK_TX_CNT, 0, 0, 0⟩] [.int, .hlk] d e)

/-- Each row completes. An exchange sends a time request to the parent; a request is answered with its three times, ALIGNED and DEPTH.
A first reply of an aligned parent steps the Chronograph by θ and makes the device ALIGNED; a later one trims the rate, keeps ALIGNED
within 100 µs, and clears it above. The root's start exchange only moves forward, and its end makes the root ALIGNED. A parent that is not ALIGNED is passed over, and 10 ms without
a good exchange clear ALIGNED. The tick takes a value while ARM is 0; ARM of a tick that is 2 µs away waits, and of a nearer one is LATE and
releases at once; CANCEL clears ARM; the release raises counter CNTR of every core in service by one.
Where the manual leaves a detail open, the clauses rest on the model's choices of log entry 43. -/
def Obligations.ChronographAndMeridian : Prop :=
  (∀ t1 f, Completes (.timeExchange t1) (fun d => d.coordsValid = true ∧ d.isRoot = false ∧ d.parentFace = some f ∧ f < 8
        ∧ d.faceUp f = true) fun d e => ∃ m : Dev, e = m.askTime f t1 ∧ m.gf F.SYN_TIME_STAT.PARENT_FACE = f
        ∧ Only [⟨.SYN_TIME_STAT, 0, 0, 0⟩] [] d m)
  ∧ (∀ p t2 t3, Completes (.timeRequest p t2 t3) (fun _ => p.type = PT.notice ∧ p.payload.headD 0 = 5) fun d e =>
        e = (d.consume p).notice p.src 6 0 0 ((p.payload.drop 8).take 8 ++ leBytes 8 t2 ++ leBytes 8 t3
          ++ leBytes 1 (if d.on F.SYN_TIME_STAT.ALIGNED then 1 else 0) ++ leBytes 1 (d.gf F.SYN_TIME_STAT.DEPTH)))
  ∧ (∀ p t4 (th : Int), Completes (.timeReply p t4) (fun d => p.type = PT.notice ∧ p.payload.headD 0 = 6
        ∧ th = (((leNat ((p.payload.drop 16).take 8) : Int) - leNat ((p.payload.drop 8).take 8))
            - ((t4 : Int) - leNat ((p.payload.drop 24).take 8))) / 2
        ∧ d.isRoot = false ∧ p.src = d.neighbourBy (d.gf F.SYN_TIME_STAT.PARENT_FACE)
        ∧ leNat ((p.payload.drop 32).take 1) = 1 ∧ d.time.once = false ∧ d.gas.zeroPending = false) fun d e =>
        e.chrono = ((d.chrono : Int) + th / 64).toNat ∧ e.on F.SYN_TIME_STAT.ALIGNED = true ∧ e.time.once = true
          ∧ e.gf F.SYN_TIME_STAT.DEPTH = (leNat ((p.payload.drop 33).take 1) + 1) % 128
          ∧ e.gf F.SYN_TIME_STAT.OFFSET = wrapInt 32 th)
  ∧ (∀ p t4 (th : Int), Completes (.timeReply p t4) (fun d => p.type = PT.notice ∧ p.payload.headD 0 = 6
        ∧ th = (((leNat ((p.payload.drop 16).take 8) : Int) - leNat ((p.payload.drop 8).take 8))
            - ((t4 : Int) - leNat ((p.payload.drop 24).take 8))) / 2
        ∧ d.isRoot = false ∧ p.src = d.neighbourBy (d.gf F.SYN_TIME_STAT.PARENT_FACE)
        ∧ leNat ((p.payload.drop 32).take 1) = 1 ∧ d.time.once = true ∧ d.time.stepNext = false
        ∧ d.gas.zeroPending = false) fun d e =>
        e.chrono = d.chrono
          ∧ e.on F.SYN_TIME_STAT.ALIGNED = (if 6400 < th.natAbs then false else decide (th.natAbs < 128) || d.on F.SYN_TIME_STAT.ALIGNED)
          ∧ e.time.stepNext = decide (64000000 < th.natAbs) ∧ (th.natAbs ≤ 64000000 → e.time.trim.natAbs ≤ 274877906))
  ∧ (∀ p t4 f, Completes (.timeReply p t4) (fun d => p.type = PT.notice ∧ p.payload.headD 0 = 6 ∧ d.isRoot = false
        ∧ f = d.gf F.SYN_TIME_STAT.PARENT_FACE ∧ p.src = d.neighbourBy f ∧ leNat ((p.payload.drop 32).take 1) ≠ 1
        ∧ d.time.once = true ∧ d.on F.SYN_TIME_STAT.ALIGNED = false) fun d e =>
        e.time.skip = (if d.rootFaces.all fun x => (f :: d.time.skip).contains x || !d.faceUp x then [] else f :: d.time.skip)
          ∧ Only [⟨.SYN_TIME_STAT, 0, 0, 0⟩] [.time, .inside, .injected] d e)
  ∧ Completes .alignLossTimeout (fun d => d.isRoot = false ∧ d.time.lastGood + 10000000 ≤ d.chrono) (fun d e =>
        e.on F.SYN_TIME_STAT.ALIGNED = false
          ∧ Only [⟨.SYN_TIME_STAT, 0, 0, 0⟩, ⟨.INT_PEND_SET_k, 0, 9, 0⟩] (.time :: logParts) d e)
  ∧ Completes .alignLossTimeout (fun d => d.isRoot = true ∨ d.chrono < d.time.lastGood + 10000000) (fun d e => Only [] [] d e)
  ∧ Completes .rootExchangeEnd (fun d => d.isRoot = true ∧ d.time.rootDone = false) (fun d e =>
        e.on F.SYN_TIME_STAT.ALIGNED = true ∧ e.time.rootDone = true ∧ e.chrono = d.chrono
          ∧ e.gas.zeroed = (if d.gas.zeroPending then d.chrono else d.gas.zeroed)
          ∧ Only [⟨.SYN_TIME_STAT, 0, 0, 0⟩] [.time, .gas] d e)
  ∧ (∀ v, Completes (.meridianTickWrite v) (fun d => d.accepts ⟨.SYN_MERIDIAN_TICK, 0, 0, 0⟩ = true) fun d e =>
        e.reg ⟨.SYN_MERIDIAN_TICK, 0, 0, 0⟩ = (if d.on F.SYN_MERIDIAN_CTRL.ARM then d.reg ⟨.SYN_MERIDIAN_TICK, 0, 0, 0⟩ else v)
          ∧ Dev.did [⟨.SYN_MERIDIAN_TICK, 0, 0, 0⟩] [] d e)
  ∧ Completes .meridianArm (fun d => d.accepts ⟨.SYN_MERIDIAN_CTRL, 0, 0, 0⟩ = true ∧ d.on F.SYN_MERIDIAN_CTRL.ARM = false
        ∧ d.chrono + 2000 ≤ d.gf F.SYN_MERIDIAN_TICK.TICK) (fun d e =>
        e.on F.SYN_MERIDIAN_CTRL.ARM = true ∧ e.gf F.SYN_MERIDIAN_CTRL.CNTR = d.gf F.SYN_MERIDIAN_CTRL.CNTR
          ∧ Dev.did [⟨.SYN_MERIDIAN_CTRL, 0, 0, 0⟩] [] d e)
  ∧ Completes .meridianArm (fun d => d.accepts ⟨.SYN_MERIDIAN_CTRL, 0, 0, 0⟩ = true ∧ d.on F.SYN_MERIDIAN_CTRL.ARM = false
        ∧ d.gf F.SYN_MERIDIAN_TICK.TICK < d.chrono + 2000 ∧ d.on F.SAFE_LS_CTRL.EN = false) (fun d e =>
        e.on F.SYN_MERIDIAN_CTRL.ARM = false ∧ e.on F.SYN_MERIDIAN_CTRL.LATE = true
          ∧ e.gf F.SYN_MERIDIAN_DONE.TIME = d.chrono % 2 ^ 64 ∧ getBits (e.reg ⟨.INT_PEND_SET_k, 0, 9, 0⟩) 4 4 = 1
          ∧ (∀ c n, c < 128 → n = d.gf F.SYN_MERIDIAN_CTRL.CNTR → d.inService c = true → d.copying c = false
              → d.judge c n 1 = .applied → e.cntC c n = (d.cntC c n + 1) % 2 ^ 48))
  ∧ Completes .meridianCancel (fun d => d.accepts ⟨.SYN_MERIDIAN_CTRL, 0, 0, 0⟩ = true) (fun d e =>
        e.on F.SYN_MERIDIAN_CTRL.ARM = false ∧ e.gf F.SYN_MERIDIAN_CTRL.CNTR = d.gf F.SYN_MERIDIAN_CTRL.CNTR
          ∧ Dev.did [⟨.SYN_MERIDIAN_CTRL, 0, 0, 0⟩] [] d e)
  ∧ Completes .meridianRelease (fun d => d.on F.SYN_MERIDIAN_CTRL.ARM = true ∧ d.gf F.SYN_MERIDIAN_TICK.TICK ≤ d.chrono
        ∧ d.on F.SAFE_LS_CTRL.EN = false) (fun d e =>
        e.on F.SYN_MERIDIAN_CTRL.ARM = false ∧ e.gf F.SYN_MERIDIAN_DONE.TIME = d.chrono % 2 ^ 64
          ∧ (∀ c n, c < 128 → n = d.gf F.SYN_MERIDIAN_CTRL.CNTR → d.inService c = true → d.copying c = false
              → d.judge c n 1 = .applied → e.cntC c n = (d.cntC c n + 1) % 2 ^ 48)
          ∧ (∀ c n, n ≠ d.gf F.SYN_MERIDIAN_CTRL.CNTR → e.cntC c n = d.cntC c n)
          ∧ (d.on F.SYN_TIME_STAT.ALIGNED = false → e.on F.SYN_MERIDIAN_CTRL.UNALIGNED = true))

/-- Each row completes. A nonce word is stored. REQ starts a report with the nonce as it stands, unless one is being made or no identity
exists; its end writes the report's bytes to SEC_REPORT_n, with DONE. SUBMIT begins verification outside a lockout; tokens that open a state
set it (VENDOR erases the identity first), and others raise FAILS and begin a lockout of 2^(FAILS − 1) s, to 64 s; either way the tokens
are cleared and a new challenge is drawn. EXIT returns to SEALED with every management core running; REFRESH draws a challenge. HALT,
RESUME, STEP and TRACE act outside SEALED and are refused in it.
Where the manual leaves a detail open, the clauses rest on the model's choices of log entries 41, 42 and 58. -/
def Obligations.SecurityAndDebug : Prop :=
  (∀ (k : Fin 4) v, Completes (.secNonceWrite k v) (fun d => d.accepts ⟨.SEC_NONCE_k, 0, k, 0⟩ = true) fun d e =>
        e.reg ⟨.SEC_NONCE_k, 0, k, 0⟩ = v ∧ Dev.did [⟨.SEC_NONCE_k, 0, k, 0⟩] [] d e)
  ∧ (∀ (s : Fin 5), Completes (.attestReq s) (fun d => d.accepts ⟨.SEC_ATTEST_CTRL, 0, 0, 0⟩ = true
        ∧ d.on F.SEC_ATTEST_STAT.BUSY = false ∧ (d.sec.identity.isSome = true ∨ d.vendorMark = true)) fun d e =>
        e.sec = { d.sec with
            report := some ((List.range 4).flatMap (fun k => leBytes 8 (d.reg ⟨.SEC_NONCE_k, 0, k, 0⟩).toNat), s.val) }
          ∧ e.on F.SEC_ATTEST_STAT.BUSY = true ∧ e.on F.SEC_ATTEST_STAT.DONE = false ∧ e.gf F.SEC_ATTEST_STAT.CODE = 0
          ∧ Dev.did [⟨.SEC_ATTEST_STAT, 0, 0, 0⟩] [.sec] d e)
  ∧ (∀ (s : Fin 5), Completes (.attestReq s) (fun d => d.accepts ⟨.SEC_ATTEST_CTRL, 0, 0, 0⟩ = true
        ∧ (d.on F.SEC_ATTEST_STAT.BUSY = true ∨ (d.sec.identity = none ∧ d.vendorMark = false))) fun d e =>
        e.gf F.SEC_ATTEST_STAT.CODE = (if d.on F.SEC_ATTEST_STAT.BUSY then Code.SEC_ATTEST_BUSY else Code.SEC_NO_IDENTITY)
          ∧ Dev.did [⟨.SEC_ATTEST_STAT, 0, 0, 0⟩, ⟨.SEC_STAT, 0, 0, 0⟩] [] d e)
  ∧ (∀ n s b, Completes .attestDone (fun d => d.sec.report = some (n, s) ∧ b = d.reportBody n s ++ d.reportBlock) fun d e =>
        (∀ i, i < b.length / 8 → e.reg ⟨.SEC_REPORT_n, 0, i, 0⟩ = BitVec.ofNat 64 (leNat ((b.drop (8 * i)).take 8)))
          ∧ e.on F.SEC_ATTEST_STAT.BUSY = false ∧ e.on F.SEC_ATTEST_STAT.DONE = true ∧ e.sec = { d.sec with report := none })
  ∧ Completes .dbgSubmit (fun d => d.accepts ⟨.DBG_CTRL, 0, 0, 0⟩ = true ∧ d.gf F.DBG_STAT.LOCKOUT_S = 0 ∧ d.sec.verifying = false)
      (fun d e => e.sec = { d.sec with verifying := true } ∧ Dev.did [] [.sec] d e)
  ∧ Completes .dbgSubmit (fun d => d.accepts ⟨.DBG_CTRL, 0, 0, 0⟩ = true ∧ d.gf F.DBG_STAT.LOCKOUT_S ≠ 0)
      (fun d e => Dev.did [] [] d e)
  ∧ (∀ r0 s0 r1 s1, Completes (.submitVerifyDone r0 r1 s0 s1) (fun d => d.sec.verifying = true
        ∧ d.tokensOpen (d.tokenKind (d.tokenSig 0 r0 s0)) (d.tokenKind (d.tokenSig 1 r1 s1)) = some 1) fun d e =>
        e.debugState = 1 ∧ e.gf F.DBG_STAT.FAILS = 0 ∧ e.sec = { d.sec with verifying := false }
          ∧ (∀ n, e.reg ⟨.DBG_TOKEN_n, 0, n, 0⟩ = 0)
          ∧ (∀ k, k < 4 → e.reg ⟨.DBG_CHALLENGE_k, 0, k, 0⟩ = Config.freeWord d.freeIx k) ∧ e.freeIx = d.freeIx + 1)
  ∧ (∀ r0 s0 r1 s1, Completes (.submitVerifyDone r0 r1 s0 s1) (fun d => d.sec.verifying = true
        ∧ d.tokensOpen (d.tokenKind (d.tokenSig 0 r0 s0)) (d.tokenKind (d.tokenSig 1 r1 s1)) = some 2) fun d e =>
        e.debugState = 2 ∧ e.vendorMark = true ∧ e.gf F.DBG_STAT.FAILS = 0 ∧ e.sec = { d.sec with verifying := false, identity := none, secret := none }
          ∧ e.gf F.SEC_STAT.IDENTITY = 3 ∧ (∀ k, k < 6 → e.gf F.SEC_ID_KEYID_k.KEYID 0 k = 0)
          ∧ (∀ n, e.reg ⟨.DBG_TOKEN_n, 0, n, 0⟩ = 0))
  ∧ (∀ r0 s0 r1 s1, Completes (.submitVerifyDone r0 r1 s0 s1) (fun d => d.sec.verifying = true
        ∧ d.tokensOpen (d.tokenKind (d.tokenSig 0 r0 s0)) (d.tokenKind (d.tokenSig 1 r1 s1)) = none) fun d e =>
        e.debugState = d.debugState ∧ e.gf F.DBG_STAT.FAILS = min 255 (d.gf F.DBG_STAT.FAILS + 1)
          ∧ e.gf F.DBG_STAT.LOCKOUT_S = 2 ^ (min (d.gf F.DBG_STAT.FAILS + 1) 7 - 1)
          ∧ e.sec = { d.sec with verifying := false, lockEnd := d.chrono + e.gf F.DBG_STAT.LOCKOUT_S * 10 ^ 9 }
          ∧ (∀ n, e.reg ⟨.DBG_TOKEN_n, 0, n, 0⟩ = 0)
          ∧ (∀ k, k < 4 → e.reg ⟨.DBG_CHALLENGE_k, 0, k, 0⟩ = Config.freeWord d.freeIx k))
  ∧ Completes .dbgLockoutExpiry (fun _ => True)
      (fun d e => e.gf F.DBG_STAT.LOCKOUT_S = 0 ∧ Only [⟨.DBG_STAT, 0, 0, 0⟩] [] d e)
  ∧ Completes .dbgExit (fun d => d.accepts ⟨.DBG_CTRL, 0, 0, 0⟩ = true ∧ d.debugState ≠ 0) (fun d e =>
        e.debugState = 0 ∧ e.vendorMark = d.vendorMark ∧ (∀ m, (e.mcore m).halted = false ∧ (e.mcore m).trace = (d.mcore m).trace)
          ∧ Dev.did [⟨.DBG_STAT, 0, 0, 0⟩] [.sec] d e)
  ∧ Completes .dbgRefresh (fun d => d.accepts ⟨.DBG_CTRL, 0, 0, 0⟩ = true) (fun d e =>
        (∀ k, k < 4 → e.reg ⟨.DBG_CHALLENGE_k, 0, k, 0⟩ = Config.freeWord d.freeIx k) ∧ e.freeIx = d.freeIx + 1
          ∧ Dev.did ((List.range 4).map fun k => ⟨.DBG_CHALLENGE_k, 0, k, 0⟩) [.freeIx] d e)
  ∧ (∀ (m : Fin 4), Completes (.mcoreHalt m) (fun d => d.accepts ⟨.DBG_MCORE_m_CTRL, 0, m, 0⟩ = true ∧ d.mcoreMay = true) fun d e =>
        e.mcore m = { d.mcore m with halted := true } ∧ (∀ n, n ≠ m.val → e.mcore n = d.mcore n) ∧ Dev.did [] [.sec] d e)
  ∧ (∀ (m : Fin 4), Completes (.mcoreResume m) (fun d => d.accepts ⟨.DBG_MCORE_m_CTRL, 0, m, 0⟩ = true ∧ d.mcoreMay = true) fun d e =>
        e.mcore m = { d.mcore m with halted := false } ∧ (∀ n, n ≠ m.val → e.mcore n = d.mcore n) ∧ Dev.did [] [.sec] d e)
  ∧ (∀ (m : Fin 4), Completes (.mcoreHalt m) (fun d => d.regServed ⟨.DBG_MCORE_m_CTRL, 0, m, 0⟩ = true ∧ d.mcoreMay = false) fun d e =>
        e.answer.code = Code.DBG_ACCESS_REFUSED ∧ (∀ n, e.mcore n = d.mcore n)
          ∧ Only [⟨.DBG_STAT, 0, 0, 0⟩] (.answer :: logParts) d e)
  ∧ (∀ (m : Fin 4) t, Completes (.mcoreStep m (some t)) (fun d => d.mcoreMay = true ∧ (d.mcore m).halted = true) fun d e =>
        e.mcore m = { d.mcore m with
            trace := ((d.mcore m).trace ++ [t % 2 ^ 32]).drop ((d.mcore m).trace.length + 1 - 4096)
            overrun := (d.mcore m).overrun || decide (4096 < (d.mcore m).trace.length + 1) }
          ∧ (∀ n, n ≠ m.val → e.mcore n = d.mcore n) ∧ Only [] [.sec] d e)
  ∧ (∀ (m : Fin 4), Completes (.mcoreStep m none) (fun d => d.mcoreMay = true) fun d e => Only [] [] d e)
  ∧ (∀ (m : Fin 4) b, Completes (.mcoreStep m b) (fun d => d.mcoreMay = false) fun d e =>
        e.gf F.DBG_STAT.LAST_CODE = Code.DBG_ACCESS_REFUSED ∧ Only [⟨.DBG_STAT, 0, 0, 0⟩] logParts d e)
  ∧ (∀ (m : Fin 4) t rest, Completes (.mcoreTraceRead m []) (fun d => d.mcoreMay = true ∧ (d.mcore m).trace = t :: rest ∧ t < 2 ^ 32)
      fun d e => e.answer = { value := BitVec.ofNat 64 (2 ^ 63 + (if (d.mcore m).overrun then 2 ^ 62 else 0) + t) }
        ∧ e.mcore m = { d.mcore m with trace := rest, overrun := false } ∧ Only [] [.sec, .answer] d e)

/-- Each row completes. A report that matches no open entry, with room in the intake queue, waits there and opens an entry unless its
code never coalesces; one that matches an open entry raises its count. With the queue full and OVERFLOW noted it is dropped and counted. The
write slot writes a closed entry's record first, else the oldest waiting one: it takes the next number and its slot of the ring. An
entry closes, with a record to write where reports were added. HBM_EN set with a valid base lets records be copied, one at a time, in order, each
once its place in HBM is free; an invalid base is refused.
Where the manual leaves a detail open, the clauses rest on the model's choices of log entries 47, 53 and 60. -/
def Obligations.Logbook : Prop :=
  (∀ code src d0 d1, Completes (.logReport code src d0 d1) (fun d => d.log.shut = false ∧ weightOf code = 0
        ∧ (d.log.open_.find? fun e => decide (e.source = src ∧ e.code = code)) = none
        ∧ d.log.intake.length < 64 ∧ d.log.open_.length < 512) fun d e =>
        e.log.intake = d.log.intake ++ [{ rep := { code := code, source := src, d0 := d0, d1 := d1, device := d.self }
                                          time := d.chrono, overflowFirst := false, drops := d.log.drops }]
          ∧ e.log.open_ = d.log.open_ ++ (if Dev.neverCoalesces code then [] else
              [{ source := src, code := code, lastRep := { code := code, source := src, d0 := d0, d1 := d1, device := d.self } }])
          ∧ e.log.drops = 0 ∧ e.log.closed = d.log.closed
          ∧ (codeClass code = 0xB → e.gf F.SAFE_MON_STAT.LAST_CODE = code % 65536)
          ∧ Only [⟨.SAFE_MON_STAT, 0, 0, 0⟩] [.log] d e)
  ∧ (∀ code src d0 d1 y, Completes (.logReport code src d0 d1) (fun d => d.log.shut = false ∧ weightOf code = 0
        ∧ (d.log.open_.find? fun e => decide (e.source = src ∧ e.code = code)) = some y ∧ y.count < 2 ^ 32 - 1) fun d e =>
        (∃ z ∈ e.log.open_, z.source = src ∧ z.code = code ∧ z.count = y.count + 1 ∧ z.last = d.chrono
            ∧ z.first = (if y.count = 0 then d.chrono else y.first) ∧ z.lastRep.d0 = d0 ∧ z.lastRep.d1 = d1)
          ∧ e.log.intake = d.log.intake ∧ e.log.drops = d.log.drops ∧ Only [⟨.SAFE_MON_STAT, 0, 0, 0⟩] [.log] d e)
  ∧ (∀ code src d0 d1, Completes (.logReport code src d0 d1) (fun d => d.log.shut = false ∧ weightOf code = 0
        ∧ (d.log.open_.find? fun e => decide (e.source = src ∧ e.code = code)) = none
        ∧ 64 ≤ d.log.intake.length ∧ d.log.full = true) fun d e =>
        e.log.intake = d.log.intake ∧ e.log.drops = d.log.drops + 1
          ∧ e.gf F.LOG_DROPPED.DROPPED = min (2 ^ (F.LOG_DROPPED.DROPPED.hi + 1 - F.LOG_DROPPED.DROPPED.lo) - 1)
              (d.gf F.LOG_DROPPED.DROPPED + 1)
          ∧ Only [⟨.SAFE_MON_STAT, 0, 0, 0⟩, ⟨.LOG_DROPPED, 0, 0, 0⟩] [.log] d e)
  ∧ (∀ (u : Fin 2048) code d0 d1, Completes (.logReport code (19 * 2 ^ 27 + u.val) d0 d1)
      (fun d => weightOf code ≠ 0 ∧ d.gf F.SAFE_HEALTH_u.SCORE 0 u + weightOf code < 2 ^ 24 ∧ code < 65536) fun d e =>
        e.gf F.SAFE_HEALTH_u.SCORE 0 u = d.gf F.SAFE_HEALTH_u.SCORE 0 u + weightOf code
          ∧ e.gf F.SAFE_HEALTH_u.LAST_CODE 0 u = code ∧ Only [⟨.SAFE_HEALTH_u, 0, u, 0⟩, ⟨.INT_PEND_SET_k, 0, 2, 0⟩] (.eph :: logParts) d e)
  ∧ (∀ x rest b h, Completes .logRecordWrite (fun d => d.log.closed = [] ∧ d.log.intake = x :: rest
        ∧ h = d.gf F.LOG_HEAD.SEQ ∧ b = recordOfReport h
            { kind := recordKind x.rep.code, first := x.rep.first.getD x.time, last := x.time
              overflowFirst := x.overflowFirst, count := if recordKind x.rep.code = 3 then x.rep.count else 1, drops := x.drops } x.rep)
      fun d e => e.log.intake = rest ∧ e.gf F.LOG_HEAD.SEQ = (h + 1) % 2 ^ (F.LOG_HEAD.SEQ.hi + 1 - F.LOG_HEAD.SEQ.lo)
        ∧ (∀ w, w < 8 → e.reg ⟨.LOG_RING_n, 0, 8 * (h % 4096) + w, 0⟩ = BitVec.ofNat 64 (leNat ((b.drop (8 * w)).take 8)))
        ∧ Only (⟨.LOG_HEAD, 0, 0, 0⟩ :: ⟨.INT_PEND_SET_k, 0, 2, 0⟩ ::
            (List.range 8).map fun w => ⟨.LOG_RING_n, 0, 8 * (h % 4096) + w, 0⟩) [.log] d e)
  ∧ (∀ x rest b h, Completes .logRecordWrite (fun d => d.log.closed = x :: rest ∧ h = d.gf F.LOG_HEAD.SEQ
        ∧ b = recordOfReport h { kind := 2, first := x.first, last := x.last, sat := x.sat, count := x.count } x.lastRep) fun d e =>
        e.log = { d.log with closed := rest }
          ∧ (∀ w, w < 8 → e.reg ⟨.LOG_RING_n, 0, 8 * (h % 4096) + w, 0⟩ = BitVec.ofNat 64 (leNat ((b.drop (8 * w)).take 8)))
          ∧ Only (⟨.LOG_HEAD, 0, 0, 0⟩ :: (List.range 8).map fun w => ⟨.LOG_RING_n, 0, 8 * (h % 4096) + w, 0⟩) [.log] d e)
  ∧ (∀ src code y, Completes (.coalesceClose src code)
      (fun d => (d.log.open_.find? fun e => decide (e.source = src ∧ e.code = code)) = some y) fun d e =>
        e.log = { d.log with open_ := d.log.open_.erase y, closed := d.log.closed ++ if y.count = 0 then [] else [y] }
          ∧ Only [] [.log] d e)
  ∧ (∀ errs n a, Completes (.hbmRingCopy errs) (fun d => d.ringActive = true
        ∧ n = max (d.gf F.LOG_HBM_COPIED.SEQ) (d.gf F.LOG_HEAD.SEQ - 4096) ∧ n < d.gf F.LOG_HEAD.SEQ
        ∧ a = d.gf F.LOG_HBM_BASE.BASE + 64 * (n % 1048576) ∧ d.hbmFree a 64 true = true) fun d e =>
        e = ((d.writeHbm a (d.ringBytes n) hintStream 0 errs).2).sf F.LOG_HBM_COPIED.SEQ (n + 1))
  ∧ (∀ errs n a, Completes (.hbmRingCopy errs) (fun d => d.ringActive = true
        ∧ n = max (d.gf F.LOG_HBM_COPIED.SEQ) (d.gf F.LOG_HEAD.SEQ - 4096) ∧ n < d.gf F.LOG_HEAD.SEQ
        ∧ a = d.gf F.LOG_HBM_BASE.BASE + 64 * (n % 1048576) ∧ (d.hbmHeld a 64 true).1 = true) fun d e =>
        e = (d.hbmHeld a 64 true).2)
  ∧ (∀ v, Completes (.logHbmEnWrite v) (fun d => d.accepts ⟨.LOG_CTRL, 0, 0, 0⟩ = true
        ∧ (getBits v 0 0 = 0 ∨ Dev.ringBaseOk (d.gf F.LOG_HBM_BASE.BASE) = true)) fun d e =>
        e.gf F.LOG_CTRL.HBM_EN = getBits v 0 0 ∧ e.gf F.LOG_CTRL.COALESCE_MS = max 1 (getBits v 47 32)
          ∧ Dev.did [⟨.LOG_CTRL, 0, 0, 0⟩] [] d e)
  ∧ (∀ v, Completes (.logHbmEnWrite v) (fun d => d.accepts ⟨.LOG_CTRL, 0, 0, 0⟩ = true ∧ getBits v 0 0 = 1
        ∧ Dev.ringBaseOk (d.gf F.LOG_HBM_BASE.BASE) = false) fun d e =>
        e.gf F.LOG_CTRL.HBM_EN = d.gf F.LOG_CTRL.HBM_EN ∧ e.gf F.LOG_CTRL.COALESCE_MS = max 1 (getBits v 47 32)
          ∧ Dev.did [⟨.LOG_CTRL, 0, 0, 0⟩] [] d e)

/-- Each row completes. An HBM read that nothing holds back returns the bytes and changes none; one outside HBM answers GAS_ADDR_ERROR;
a poisoned unit answers HBM_POISON, and an uncorrectable one HBM_UNCORRECTABLE and is poisoned. A write changes exactly its bytes, and a whole unit's clears
poison. An access that a companion's line conflicts with, or that comes behind a waiting one to the same unit, waits. FLUSH and UNKEEP take the X-die's dirty and kept lines, and their end leaves
those clean, or counted. A scrub counts a corrected unit, poisons an uncorrectable one and counts a pass; a refresh changes nothing;
temperatures are stored with their maximum. A map-out is refused with its code, or discards the last valid band; once no access to the band waits, frames are copied one
by one, each substituted, and the last one commits it.
Where the manual leaves a detail open, the clauses rest on the model's choices of log entries 10, 47 and 50. -/
def Obligations.HbmAndCaches : Prop :=
  (∀ o n h c, Completes (.hbmRead o n h c []) (fun d => d.hbmFree o n false = true) fun d e =>
        e.answer = { data := d.hbmBytes o n } ∧ e.hbm = d.hbm)
  ∧ (∀ o n h c errs, Completes (.hbmRead o n h c errs) (fun d => d.areaOf o n ≠ some .hbm) fun d e =>
        e.answer = { code := Code.GAS_ADDR_ERROR } ∧ Only [] [.answer] d e)
  ∧ (∀ o n h c u errs, Completes (.hbmRead o n h c errs) (fun d => d.areaOf o n = some .hbm ∧ unitsOf o n = [u]
        ∧ d.behind (o, n) = false ∧ d.dirConflict u false = false ∧ d.frameBusy u = false ∧ d.lineAt u = none ∧ d.isPoison u = true) fun d e =>
        e.answer = { code := Code.HBM_POISON } ∧ Only [] (.answer :: logParts) d e)
  ∧ (∀ o n h c u errs, Completes (.hbmRead o n h c errs) (fun d => d.areaOf o n = some .hbm ∧ unitsOf o n = [u]
        ∧ d.behind (o, n) = false ∧ d.dirConflict u false = false ∧ d.frameBusy u = false ∧ d.lineAt u = none ∧ d.isPoison u = false
        ∧ (errOf errs u).dram = .uncorrectable) fun d e =>
        e.answer = { code := Code.HBM_UNCORRECTABLE } ∧ e.isPoison u = true ∧ e.hbm = d.hbm
          ∧ Dev.counted F.HBM_PC_n_ERR.UNCORR_CNT 1 (d.pcOf u / 192) (d.pcOf u % 192) d e
          ∧ e.isPending (512 + 16 * unitHome u) = true)
  ∧ (∀ o n h c u, Completes (.hbmRead o n h c [{ unit := u, dram := .corrected }]) (fun d => d.hbmFree o n false = true
        ∧ u ∈ unitsOf o n ∧ d.mem.lines = [] ∧ h = hintStream) fun d e =>
        e.answer = { data := d.hbmBytes o n } ∧ e.hbm = d.hbm
          ∧ Dev.counted F.HBM_PC_n_ERR.CORR_CNT 1 (d.pcOf u / 192) (d.pcOf u % 192) d e)
  ∧ (∀ o bs h c, Completes (.hbmWrite o bs h c []) (fun d => d.hbmFree o bs.length true = true) fun d e =>
        e.answer = {} ∧ (∀ a, e.hbmByte a = if o ≤ a ∧ a < o + bs.length then bs.getD (a - o) 0 else d.hbmByte a))
  ∧ (∀ o bs h c u errs, Completes (.hbmWrite o bs h c errs) (fun d => d.areaOf o bs.length = some .hbm ∧ bs.length = 64 ∧ o = 64 * u
        ∧ d.behind (o, 64) = false ∧ d.dirConflict u true = false ∧ d.frameBusy u = false ∧ d.lineAt u = none ∧ h = hintStream) fun d e =>
        e.answer = {} ∧ e.isPoison u = false
          ∧ (∀ a, e.hbmByte a = if o ≤ a ∧ a < o + 64 then bs.getD (a - o) 0 else d.hbmByte a) ∧ Only [] [.answer, .hbm, .mem] d e)
  ∧ (∀ o bs h c u errs, Completes (.hbmWrite o bs h c errs) (fun d => d.areaOf o bs.length = some .hbm ∧ u ∈ unitsOf o bs.length
        ∧ d.dirConflict u true = true) fun d e =>
        e.answer = d.answer ∧ e.hbm = d.hbm ∧ e.mem = { d.mem with held := d.mem.held ++ [.store o bs h c] })
  ∧ (∀ o n h c errs, Completes (.hbmRead o n h c errs) (fun d => d.areaOf o n = some .hbm ∧ d.behind (o, n) = true) fun d e =>
        e.mem = { d.mem with held := d.mem.held ++ [.load o n h c] } ∧ Only [] [.mem] d e)
  ∧ (∀ (x : Fin 4), Completes (.mscFlush x) (fun d => d.accepts ⟨.MSC_CTRL, x, 0, 0⟩ = true) fun d e =>
        e.gf F.MSC_CTRL.FLUSH x = 1 ∧ e.mem = { d.mem with flushing := NMap.set none d.mem.flushing x (some (d.flushSet x)) }
          ∧ Dev.did [⟨.MSC_CTRL, x, 0, 0⟩] [.mem] d e)
  ∧ (∀ (x : Fin 4), Completes (.mscUnkeep x) (fun d => d.accepts ⟨.MSC_CTRL, x, 0, 0⟩ = true) fun d e =>
        e.gf F.MSC_CTRL.UNKEEP x = 1 ∧ e.mem = { d.mem with unkeeping := NMap.set none d.mem.unkeeping x (some (d.keepSet x)) }
          ∧ Dev.did [⟨.MSC_CTRL, x, 0, 0⟩] [.mem] d e)
  ∧ (∀ (x : Fin 4) us, Completes (.mscOpDone x false []) (fun d => NMap.get none d.mem.flushing x = some us) fun d e =>
        e.gf F.MSC_CTRL.FLUSH x = 0 ∧ NMap.get none e.mem.flushing x = none ∧ e.hbm = d.hbm
          ∧ (∀ u ∈ us, ∀ l, e.lineAt u = some l → l.dirty = false) ∧ (∀ u, u ∉ us → e.lineAt u = d.lineAt u))
  ∧ (∀ (x : Fin 4) us, Completes (.mscOpDone x true []) (fun d => NMap.get none d.mem.unkeeping x = some us) fun d e =>
        e.gf F.MSC_CTRL.UNKEEP x = 0 ∧ NMap.get none e.mem.unkeeping x = none
          ∧ e.mem.lines = d.mem.lines.map (fun l => if us.contains l.unit && l.kept then { l with kept := false, count := 1 } else l)
          ∧ Only [⟨.MSC_CTRL, x, 0, 0⟩] [.mem] d e)
  ∧ (∀ (x : Fin 4) u, Completes (.patrolScrub x u .corrected false []) (fun d => 64 * u < d.hbmLimit ∧ unitHome u = x.val
        ∧ d.isPoison u = false) fun d e =>
        e.hbm = d.hbm ∧ e.mem = d.mem ∧ Dev.counted F.HBM_PC_n_ERR.CORR_CNT 1 (d.pcOf u / 192) (d.pcOf u % 192) d e)
  ∧ (∀ (x : Fin 4) u, Completes (.patrolScrub x u .uncorrectable false []) (fun d => 64 * u < d.hbmLimit ∧ unitHome u = x.val
        ∧ d.isPoison u = false) fun d e =>
        e.hbm = d.hbm ∧ e.isPoison u = true ∧ (∀ v, v ≠ u → e.isPoison v = d.isPoison v)
          ∧ Dev.counted F.HBM_PC_n_ERR.UNCORR_CNT 1 (d.pcOf u / 192) (d.pcOf u % 192) d e
          ∧ e.isPending (512 + 16 * x.val) = true)
  ∧ (∀ (x : Fin 4) u ns, Completes (.patrolScrub x u .ok true ns) (fun _ => True) fun d e =>
        e.gf F.HBM_SCRUB_CTRL.PASSES x = (d.gf F.HBM_SCRUB_CTRL.PASSES x + 1) % 2 ^ 32 ∧ e.hbm = d.hbm
          ∧ (∀ i, i < 6 → Dev.counted F.HBM_STACK_s_STAT.ODECC_CNT (ns.getD i 0) x i d e))
  ∧ Completes .hbmRefresh (fun _ => True) (fun d e => Only [] [] d e)
  ∧ (∀ (x : Fin 4) ts, Completes (.stackTempRead x ts) (fun _ => True) fun d e =>
        (∀ i, i < 6 → e.gf F.HBM_STACK_s_STAT.TEMP x i = ts.getD i 0 % 256 ∧ ts.getD i 0 % 256 ≤ e.gf F.HBM_STAT.MAX_STACK_TEMP x)
          ∧ (∃ i, i < 6 ∧ e.gf F.HBM_STAT.MAX_STACK_TEMP x = ts.getD i 0 % 256)
          ∧ Only (⟨.HBM_STAT, x, 0, 0⟩ :: (List.range 6).map fun i => ⟨.HBM_STACK_s_STAT, x, i, 0⟩) [] d e)
  ∧ (∀ (x : Fin 4) (pc : Fin 1024) b, Completes (.hbmMapoutReq x pc) (fun d => d.accepts ⟨.HBM_MAPOUT_CTRL, x, 0, 0⟩ = true
        ∧ d.mapoutRefusal x pc = none ∧ b = 767 - d.mapouts) fun d e =>
        e.mem.mapout = some { q := x, pc := pc } ∧ e.gf F.HBM_MAPOUT_STAT.STATE x = 1
          ∧ e.gf F.HBM_MAPOUT_CTRL.REQ x = 1 ∧ e.gf F.HBM_MAPOUT_STAT.FRAMES_DONE x = 0
          ∧ (∀ a, e.hbmByte a = if b * 0x30000000 ≤ a ∧ a < (b + 1) * 0x30000000 then 0 else d.hbmByte a)
          ∧ Dev.did [⟨.HBM_MAPOUT_CTRL, x, 0, 0⟩, ⟨.HBM_MAPOUT_STAT, x, 0, 0⟩] [.mem, .hbm] d e)
  ∧ (∀ (x : Fin 4) (pc : Fin 1024) code, Completes (.hbmMapoutReq x pc) (fun d => d.accepts ⟨.HBM_MAPOUT_CTRL, x, 0, 0⟩ = true
        ∧ d.mapoutRefusal x pc = some code ∧ code < 65536) fun d e =>
        e.gf F.HBM_MAPOUT_STAT.STATE x = 4 ∧ e.gf F.HBM_MAPOUT_STAT.CODE x = code
          ∧ Dev.did [⟨.HBM_MAPOUT_CTRL, x, 0, 0⟩, ⟨.HBM_MAPOUT_STAT, x, 0, 0⟩] [] d e)
  ∧ (∀ m b, Completes .mapoutFenceDone (fun d => d.mem.mapout = some m ∧ m.phase = .fence ∧ b = 767 - d.mapouts
        ∧ d.bandHeld b = false) fun d e =>
        e.mem.mapout = some { m with phase := .copy, moves := movesOf d.mem.subst d.mappedOut m.pc }
          ∧ e.mem.subst = liveSubst d.mem.subst d.mapouts ∧ e.gf F.HBM_MAPOUT_STAT.STATE m.q = 2
          ∧ (∀ a, e.hbmByte a = if b * 0x30000000 ≤ a ∧ a < (b + 1) * 0x30000000 then 0 else d.hbmByte a)
          ∧ Only [⟨.HBM_MAPOUT_STAT, m.q, 0, 0⟩] [.mem, .hbm] d e)
  ∧ Completes .mapoutFenceDone (fun d => d.bandHeld (767 - d.mapouts) = true) (fun d e => Only [] [] d e)
  ∧ (∀ m f h g rest errs, Completes (.mapoutFrameDone [] errs []) (fun d => d.mem.mapout = some m ∧ m.phase = .copy
        ∧ m.moves = (f, h) :: g :: rest ∧ d.mem.held = [] ∧ d.mem.returns = []) fun d e =>
        e.mem.mapout = some { m with moves := g :: rest } ∧ NMap.get none e.mem.subst f = some h
          ∧ (∀ f', f' ≠ f → NMap.get none e.mem.subst f' = NMap.get none d.mem.subst f')
          ∧ e.gf F.HBM_MAPOUT_STAT.FRAMES_DONE m.q = (d.gf F.HBM_MAPOUT_STAT.FRAMES_DONE m.q + 1) % 1024
          ∧ e.hbm = d.hbm ∧ Only [⟨.HBM_MAPOUT_STAT, m.q, 0, 0⟩] [.mem] d e)
  ∧ (∀ m f h errs, Completes (.mapoutFrameDone [] errs []) (fun d => d.mem.mapout = some m ∧ m.phase = .copy ∧ m.moves = [(f, h)]
        ∧ d.mem.held = [] ∧ d.mem.returns = [] ∧ d.mapouts < 24) fun d e =>
        e.mem.mapout = none ∧ NMap.get none e.mem.subst f = some h ∧ e.gf F.HBM_MAPOUT_STAT.STATE m.q = 3
          ∧ e.mapouts = d.mapouts + 1 ∧ e.gf F.HBM_CAPACITY.BYTES = (767 - d.mapouts) * 0x30000000
          ∧ e.gf F.HBM_PC_n_ERR.MAPPED_OUT m.q (m.pc % 192) = 1 ∧ e.gf F.HBM_MAPOUT_CTRL.REQ m.q = 0
          ∧ e.isPending (512 + 16 * m.q + 1) = true ∧ e.hbm = d.hbm)

/-- Each row completes. A READ or DMA_READ that the checks grant is answered with the bytes of HBM or SRAM, and a WRITE or DMA_WRITE stores
exactly its bytes and is acknowledged; a register is read and written alike. An ATOMIC with no entry of its tag stores the new value,
answers the old one and enters it; one with an entry is answered from it, one whose tag waits to be applied waits
behind it, and with the cache full it is refused busy. A COUNTER raises its
counter and is entered and acknowledged; one that would underflow is entered and refused. A request that fails a check, comes from another partition
or without time alignment is refused; a stale one, or one at an occulted device, is discarded. A RELEASE is acknowledged and its entry
marked, and a QUERY is answered with APPLIED and the value, NOT HELD, or MEMORY ZEROED.
Where the manual leaves a detail open, the clauses rest on the model's choices of log entries 47 and 52. -/
def Obligations.GasTargets : Prop :=
  (∀ p c o, (c, p.type) ∈ [(Instr.read p [], PT.read), (Instr.dmaRead p [], PT.dmaRead)] → o = localOf p.addr → Completes c
      (fun d => d.grants p p.type = true ∧ d.hbmFree o (spanOf p) false = true) fun d e =>
        Dev.answered p (if p.type = PT.read then PT.readData else PT.dmaData) (d.hbmBytes o (spanOf p)) d e ∧ e.hbm = d.hbm)
  ∧ (∀ p c o, (c, p.type) ∈ [(Instr.read p [], PT.read), (Instr.dmaRead p [], PT.dmaRead)] → o = localOf p.addr → Completes c
      (fun d => d.grants p p.type = true ∧ d.areaOf o (spanOf p) = some .sram ∧ d.noCopy = true) fun d e =>
        Dev.answered p (if p.type = PT.read then PT.readData else PT.dmaData)
            ((List.range (spanOf p)).map fun k => d.sramByte (o + k)) d e
          ∧ Only [⟨.GAS_SERVED_CNT, 0, 0, 0⟩] [.inside, .held, .injected] d e)
  ∧ (∀ p c o, (c, p.type) ∈ [(Instr.write p [], PT.write), (Instr.dmaWrite p [], PT.dmaWrite)] → o = localOf p.addr → Completes c
      (fun d => d.grants p p.type = true ∧ d.hbmFree o (spanOf p) true = true) fun d e =>
        Dev.answered p (if p.type = PT.write then PT.writeAck else PT.dmaAck) [] d e ∧ Dev.hbmTakes o (Dev.dataOf p) d e)
  ∧ (∀ p c o, (c, p.type) ∈ [(Instr.write p [], PT.write), (Instr.dmaWrite p [], PT.dmaWrite)] → o = localOf p.addr → Completes c
      (fun d => d.grants p p.type = true ∧ d.areaOf o (spanOf p) = some .sram ∧ d.noCopy = true) fun d e =>
        Dev.answered p (if p.type = PT.write then PT.writeAck else PT.dmaAck) [] d e
          ∧ (∀ k, k < spanOf p → e.sramByte (o + k) = (Dev.dataOf p).getD k 0)
          ∧ Only [⟨.GAS_SERVED_CNT, 0, 0, 0⟩] [.inside, .held, .injected, .coreStore, .clusterStore] d e)
  ∧ (∀ p k, Completes (.read p []) (fun d => d.grants p PT.read = true ∧ inRegSpace (localOf p.addr) = true
        ∧ RegKey.ofOffset (Dev.regOffset p) = some k ∧ (coreOf k).isNone = true ∧ (d.regRefusal k).1 = 0) fun d e =>
        Dev.answered p PT.readData (leBytes 8 (d.readReg k).1.toNat ++ List.replicate 56 0) d e)
  ∧ (∀ p k, Completes (.write p []) (fun d => d.grants p PT.write = true ∧ inRegSpace (localOf p.addr) = true
        ∧ RegKey.ofOffset (Dev.regOffset p) = some k ∧ plainReg k.name = true ∧ d.accepts k = true) fun d e =>
        Dev.answered p PT.writeAck [] d e
          ∧ (∀ f ∈ k.name.fields, f.access = .rw → getBits (e.reg k) f.hi f.lo
              = getBits (k.name.stored (BitVec.ofNat 64 (leNat (p.payload.take 8)))) f.hi f.lo))
  ∧ (∀ p c code, (c, p.type) ∈ [(Instr.read p [], PT.read), (Instr.write p [], PT.write), (Instr.dmaRead p [], PT.dmaRead),
        (Instr.dmaWrite p [], PT.dmaWrite)] → Completes c
      (fun d => d.takesRequest p p.type = true ∧ (d.checkAccess p).1 = code ∧ code ≠ 0) fun d e =>
        Dev.refused p code d e ∧ Only [⟨.GAS_ERR_CNT, 0, 0, 0⟩] ([.inside, .held, .injected] ++ logParts) d e)
  ∧ (∀ p c, (c, p.type) ∈ [(Instr.read p [], PT.read), (Instr.write p [], PT.write), (Instr.dmaRead p [], PT.dmaRead),
        (Instr.dmaWrite p [], PT.dmaWrite), (Instr.atomic p [], PT.atomic), (Instr.counter p, PT.counter)] →
      Completes c (fun d => d.comesIn p p.type = true ∧ d.occulted = true) (fun d e => Only [] [.inside, .injected] d e)
        ∧ Completes c (fun d => d.comesIn p p.type = true ∧ d.occulted = false ∧ p.partition ≠ d.partition)
            (fun d e => Dev.refused p Code.GAS_PARTITION d e ∧ Only [] ([.inside, .held, .injected] ++ logParts) d e)
        ∧ Completes c (fun d => d.comesIn p p.type = true ∧ d.occulted = false ∧ p.partition = d.partition ∧ d.unaligned p = true)
            (fun d e => Dev.refused p Code.GAS_TIME_UNALIGNED d e ∧ Only [] ([.inside, .held, .injected] ++ logParts) d e)
        ∧ Completes c (fun d => d.comesIn p p.type = true ∧ d.occulted = false ∧ p.partition = d.partition ∧ d.unaligned p = false
              ∧ d.stale p = true) (fun d e => Dev.counted F.GAS_ERR_CNT.STALE_CNT 1 0 0 d e
            ∧ Only [⟨.GAS_ERR_CNT, 0, 0, 0⟩] ([.inside, .injected] ++ logParts) d e))
  ∧ (∀ p o n old (x : Dev), Completes (.atomic p []) (fun d => d.grants p PT.atomic = true ∧ o = localOf p.addr
        ∧ n = spanOf p ∧ d.hbmFree o n true = true ∧ d.tagHeld p = false ∧ old = leNat (d.hbmBytes o n) ∧ x = d.sweepReplies ∧ x.replyOf p = none
        ∧ x.gas.replies.length < 4096) fun d e =>
        Dev.answered p PT.atomicReply (leBytes 8 old) d e
          ∧ Dev.hbmTakes o (leBytes n (Dev.atomicNew p.aop (8 * n) p.signed old (leNat (p.payload.take 8))
              (leNat ((p.payload.drop 8).take 8)))) d e
          ∧ e.gas.replies = x.gas.replies ++ [{ dev := p.src, core := p.core, epoch := p.epoch, seq := p.total, value := old
                                                made := d.chrono, life := 4000 * p.timeoutUs }])
  ∧ (∀ p r (x : Dev), Completes (.atomic p []) (fun d => d.takesRequest p PT.atomic = true ∧ x = d.sweepReplies
        ∧ x.replyOf p = some r) fun d e =>
        Dev.answered p PT.atomicReply (leBytes 8 r.value) d e ∧ e.hbm = d.hbm ∧ e.gas.replies = x.gas.replies)
  ∧ (∀ p (x : Dev) errs, Completes (.atomic p errs) (fun d => d.takesRequest p PT.atomic = true ∧ x = d.sweepReplies
        ∧ x.replyOf p = none ∧ d.tagHeld p = true) fun d e => e = (({ x with
            inside := (d.consume p).inside, injected := (d.consume p).injected } : Dev)).holdAccess (.packet p))
  ∧ (∀ p o (x : Dev), Completes (.atomic p []) (fun d => d.grants p PT.atomic = true ∧ o = localOf p.addr
        ∧ d.hbmFree o (spanOf p) true = true ∧ d.tagHeld p = false ∧ x = d.sweepReplies ∧ x.replyOf p = none ∧ 4096 ≤ x.gas.replies.length) fun d e =>
        Dev.answered p PT.busy [] d e ∧ Dev.counted F.GAS_ERR_CNT.BUSY_CNT 1 0 0 d e ∧ e.hbm = d.hbm
          ∧ e.gas.replies = x.gas.replies)
  ∧ (∀ p c n a (x : Dev), Completes (.counter p) (fun d => d.takesRequest p PT.counter = true ∧ c = Dev.counterCore p
        ∧ n = Dev.counterNum p ∧ a = Dev.counterAdd p ∧ x = d.sweepReplies ∧ x.replyOf p = none ∧ x.gas.replies.length < 4096
        ∧ d.inService c = true ∧ d.copying c = false ∧ d.judge c n a = .applied ∧ d.on F.SAFE_LS_CTRL.EN = false) fun d e =>
        Dev.answered p PT.writeAck [] d e ∧ e.cntC c n = wrapInt 48 ((d.cntC c n : Int) + a)
          ∧ (∃ y, e.gas.replies = x.gas.replies ++ [y] ∧ y.dev = p.src ∧ y.core = p.core ∧ y.epoch = p.epoch ∧ y.seq = p.total
            ∧ y.refusal = 0)
          ∧ Only [⟨.SYN_CNT_n, c, n, 0⟩, ⟨.SYN_UPDATE_CNT, c, 0, 0⟩, ⟨.GAS_SERVED_CNT, 0, 0, 0⟩, ⟨.GAS_REPLY_STAT, 0, 0, 0⟩]
              [.inside, .held, .injected, .gas] d e)
  ∧ (∀ p c n a (x : Dev), Completes (.counter p) (fun d => d.takesRequest p PT.counter = true ∧ c = Dev.counterCore p
        ∧ n = Dev.counterNum p ∧ a = Dev.counterAdd p ∧ x = d.sweepReplies ∧ x.replyOf p = none ∧ x.gas.replies.length < 4096
        ∧ d.inService c = true ∧ d.copying c = false ∧ d.judge c n a = .underflow) fun d e =>
        Dev.refused p Code.SYN_UNDERFLOW d e ∧ e.cntC c n = d.cntC c n ∧ (e.core c).faulted = true
          ∧ e.gf F.SYN_CORE_FAULT.CODE c = Code.SYN_UNDERFLOW
          ∧ (∃ y, e.gas.replies = x.gas.replies ++ [y] ∧ y.refusal = Code.SYN_UNDERFLOW))
  ∧ (∀ p c, Completes (.counter p) (fun d => d.takesRequest p PT.counter = true ∧ c = Dev.counterCore p
        ∧ d.sweepReplies.replyOf p = none ∧ d.sweepReplies.gas.replies.length < 4096 ∧ d.inService c = false
        ∧ d.copying c = false) fun d e =>
        Dev.refused p Code.GAS_ADDR_ERROR d e ∧ e.gas = d.sweepReplies.gas)
  ∧ (∀ p r, Completes (.release p) (fun d => d.comesIn p PT.release = true ∧ d.occulted = false ∧ p.partition = d.partition
        ∧ d.replyOf p = some r) fun d e =>
        Dev.answered p PT.releaseAck [] d e
          ∧ e.gas.replies = (d.gas.replies.map fun y => if y = r then { y with released := true } else y).filter
              (fun y => !d.replyEnds y)
          ∧ Only [⟨.GAS_REPLY_STAT, 0, 0, 0⟩] [.inside, .held, .injected, .gas] d e)
  ∧ (∀ p, Completes (.release p) (fun d => d.comesIn p PT.release = true ∧ d.occulted = false ∧ p.partition = d.partition
        ∧ d.replyOf p = none) fun d e => Dev.answered p PT.releaseAck [] d e ∧ e.gas.replies = d.sweepReplies.gas.replies)
  ∧ (∀ p v ans, Completes (.query p) (fun d => d.comesIn p PT.query = true ∧ d.started = true ∧ d.occulted = false
        ∧ d.on F.SYN_TIME_STAT.ALIGNED = true ∧ (v, ans) = (if p.issueTime < d.gas.zeroed then (0, 5) else match d.replyOf p with
            | none => (0, 4)
            | some r => if r.refusal = 0 then (r.value, 3) else (0, 4))) fun d e =>
        (∃ q, Dev.sent q (d.consume p) e ∧ q.type = PT.queryAnswer ∧ q.vc = 0 ∧ q.dst = p.src ∧ q.total = p.total ∧ q.core = p.core
          ∧ q.epoch = p.epoch ∧ q.addr = p.addr ∧ q.payload = leBytes 8 v ++ leBytes 1 ans ++ List.replicate 7 0)
          ∧ Only [⟨.GAS_REPLY_STAT, 0, 0, 0⟩] [.inside, .held, .injected, .gas] d e)
  ∧ (∀ p, Completes (.query p) (fun d => d.comesIn p PT.query = true ∧ (d.started = false ∨ d.occulted = true
        ∨ d.on F.SYN_TIME_STAT.ALIGNED = false)) fun d e => Only [] [.inside, .injected] d e)
  ∧ (∀ (d : Dev) p type bs q, p.src ≠ d.self → d.waitsAtInjection q = false
      → q = { d.packet type 3 p.src with
          addr := p.addr, key := p.key, offset := p.offset, msg := p.msg, total := p.total, dseq := p.dseq, core := p.core
          epoch := p.epoch, aop := p.aop, signed := p.signed, w64 := p.w64, ret := p.ret, attempt := p.attempt, ece := p.ce
          last := decide (p.type = PT.dmaRead) && p.last, length := bs.length, payload := bs }
      → (type ≠ PT.query → (d.answerTo p type bs).injected = d.injected ++ [d.stamp q]))

/-- Each row completes. READ_DATA writes its 64 bytes to the store and ends the GLD; WRITE_ACK ends the GST or SIGNAL that its sequence
number names; ATOMIC_REPLY puts the old value into TDST where RET asks, ends the GATOM and sends a RELEASE, whose RELEASE_ACK ends it. BUSY notes that the
request is to be sent again. REFUSAL stops the core with DMA_REMOTE_ERROR and the code. DMA_DATA and DMA_ACK give a descriptor its bytes.
QUERY_ANSWER sets the state and value of its entry. A request without a reply is sent again with the next attempt, and with all
attempts used a GLD or GST stops its core with GAS_TIMEOUT, and a GATOM or SIGNAL is entered in the unsettled table. A busy request, a
release and a query are sent again, and the reply cache drops what has expired.
Where the manual leaves a detail open, the clauses rest on the model's choices of log entry 52. -/
def Obligations.GasReplies : Prop :=
  (∀ p r, Completes (.readData p) (fun d => d.answers p PT.readData [.gld] r = true ∧ p.payload.length = 64
        ∧ r.saddr + 64 ≤ 0x800000 ∧ r.core < 128 ∧ r.thread < 16) fun d e => ∃ m : Dev, e = m.kick r.core ∧ m.reqs = d.reqs.erase r
        ∧ m.rdStore r.core r.saddr 64 = p.payload ∧ Dev.storesOnly r.core r.saddr 64 d m
        ∧ (∀ y ∈ m.queue r.core 6, y.seq = r.seq → y.done = true)
        ∧ ((d.thread r.core r.thread).st = .switched → (d.thread r.core r.thread).haltReq = false →
            (d.thread r.core r.thread).startReq = false → (m.thread r.core r.thread).st = .running))
  ∧ (∀ p r, Completes (.writeAck p) (fun d => d.answers p PT.writeAck [.gst, .signal] r = true ∧ r.kind = .gst
        ∧ r.pkt.dseq = p.dseq) fun d e => ∃ m : Dev, e = m.kick r.core ∧ m.reqs = d.reqs.erase r
        ∧ (∀ y ∈ m.queue r.core 6, y.seq = r.seq → y.done = true) ∧ (∀ t, m.thread r.core t = d.thread r.core t))
  ∧ (∀ p r, Completes (.writeAck p) (fun d => d.answers p PT.writeAck [.gst, .signal] r = true ∧ r.kind = .signal
        ∧ r.pkt.dseq = p.dseq) fun d e =>
        (∃ y, e.reqs = d.reqs.erase r ++ [y] ∧ y.kind = .release ∧ y.pkt.type = PT.release ∧ y.pkt.dst = r.pkt.dst
          ∧ y.pkt.total = r.pkt.total ∧ y.pkt.core = r.pkt.core ∧ y.pkt.epoch = r.pkt.epoch)
          ∧ (e.core r.core).signals = (d.core r.core).signals.filter fun g => !(decide (g.seq = r.seq) && decide (g.dest = 2)))
  ∧ (∀ p r, Completes (.writeAck p) (fun d => d.answers p PT.writeAck [.gst, .signal] r = true ∧ r.pkt.dseq ≠ p.dseq) fun d e =>
        e.reqs = d.reqs ∧ e.cores = d.cores)
  ∧ (∀ p r, Completes (.atomicReply p) (fun d => d.answers p PT.atomicReply [.gatom] r = true ∧ r.pkt.dseq ≠ p.dseq) fun d e =>
        e.reqs = d.reqs ∧ e.cores = d.cores)
  ∧ (∀ p r, Completes (.dmaAck p) (fun d => d.answers p PT.dmaAck [.dmaWrite, .attnAppend, .coll] r = true
        ∧ r.pkt.dseq ≠ p.dseq) fun d e => e.reqs = d.reqs ∧ e.cores = d.cores)
  ∧ (∀ p r, Completes (.atomicReply p) (fun d => d.answers p PT.atomicReply [.gatom] r = true
        ∧ r.pkt.dseq = p.dseq ∧ (d.thread r.core r.thread).startReq = false) fun d e => ∃ m : Dev, e = m.kick r.core
        ∧ (∃ y, m.reqs = d.reqs.erase r ++ [y] ∧ y.kind = .release ∧ y.pkt.total = r.pkt.total ∧ y.pkt.core = r.pkt.core
          ∧ y.pkt.epoch = r.pkt.epoch ∧ y.pkt.dst = r.pkt.dst ∧ y.pkt.vc = 6)
        ∧ (∀ y ∈ m.queue r.core 6, y.seq = r.seq → y.done = true)
        ∧ (r.pkt.ret = true → m.treg r.core r.thread r.tdst = (if r.tdst = 0 then 0 else
            leNat (p.payload.take 8) % 2 ^ (if r.pkt.w64 then 64 else 32)))
        ∧ (r.pkt.ret = false → ∀ t k, m.treg r.core t k = d.treg r.core t k))
  ∧ (∀ p r, Completes (.releaseAck p) (fun d => d.answers p PT.releaseAck [.release] r = true) fun d e =>
        e.reqs = d.reqs.erase r ∧ e.cores = d.cores)
  ∧ (∀ p r, Completes (.busy p) (fun d => d.answers p PT.busy [.gatom, .signal] r = true) fun d e =>
        { r with
            busy := if r.busy.contains p.attempt then r.busy else r.busy ++ [p.attempt]
            busyWait := r.busyWait || decide (p.attempt = r.pkt.attempt) } ∈ e.reqs
          ∧ e.reqs.length = d.reqs.length ∧ e.cores = d.cores)
  ∧ (∀ p r x, Completes (.refusal p) (fun d => d.answers p PT.refusal
          [.gld, .gst, .gatom, .signal, .dmaRead, .dmaWrite, .attnMap, .attnPage, .attnAppend] r = true
        ∧ (r.kind = .gld ∨ r.kind = .gst) ∧ d.reqEntry r = some x ∧ (d.core r.core).faulted = false ∧ p.code < 65536
        ∧ p.code ≠ Code.GAS_TIMEOUT ∧ p.code ≠ Code.GAS_OUTCOME_UNKNOWN) fun d e =>
        e.reqs = d.reqs.erase r ∧ (e.core r.core).faulted = true
          ∧ e.gf F.CORE_FAULT_STAT.CODE r.core = Code.DMA_REMOTE_ERROR ∧ e.gf F.CORE_FAULT_STAT.DETAIL r.core = p.code
          ∧ e.gf F.CORE_FAULT_STAT.QUEUE r.core = 6 ∧ e.gf F.CORE_FAULT_SEQ.SEQ r.core = x.seq % 2 ^ 64)
  ∧ (∀ p r x run y, Completes (.dmaData p) (fun d => d.answers p PT.dmaData [.dmaRead, .attnMap, .attnPage] r = true
        ∧ r.kind = .dmaRead ∧ d.dmaEntry r.core r.queue r.seq = some (x, run) ∧ run.desc = some y ∧ y.toFifo = false ∧ y.dstSp = true
        ∧ y.mcast = false) fun d e => e.reqs = d.reqs.erase r
          ∧ (∃ z, e.dmaEntry r.core r.queue r.seq = some (z, { run with got := run.got ++ [(r.pkt.offset, p.payload.length)] })))
  ∧ (∀ p r x run, Completes (.dmaAck p) (fun d => d.answers p PT.dmaAck [.dmaWrite, .attnAppend, .coll] r = true
        ∧ r.kind = .dmaWrite ∧ r.pkt.dseq = p.dseq ∧ d.dmaEntry r.core r.queue r.seq = some (x, run)) fun d e =>
        e.reqs = d.reqs.erase r
          ∧ (∃ z, e.dmaEntry r.core r.queue r.seq = some (z, { run with got := run.got ++ [(r.pkt.offset, r.pkt.payload.length)] })))
  ∧ (∀ p n ans, Completes (.queryAnswer p) (fun d => d.comesIn p PT.queryAnswer = true ∧ n < 32 ∧ d.unsettled n = 2
        ∧ d.gf F.GAS_UNSETTLED_n_TAG.TARGET 0 n = p.src ∧ d.gf F.GAS_UNSETTLED_n_TAG.CORE 0 n = p.core
        ∧ d.gf F.GAS_UNSETTLED_n_EPOCH.EPOCH 0 n = p.epoch ∧ d.gf F.GAS_UNSETTLED_n_SEQ.SEQ 0 n = p.total
        ∧ ((List.range n).all fun m => decide (d.unsettled m ≠ 2)) = true ∧ ans = leNat ((p.payload.drop 8).take 1) ∧ 3 ≤ ans ∧ ans ≤ 5)
      fun d e => e.unsettled n = ans ∧ e.gf F.GAS_UNSETTLED_n_VALUE.VALUE 0 n = (if ans = 3 then leNat (p.payload.take 8) else 0)
        ∧ Only [⟨.GAS_UNSETTLED_n_TAG, 0, n, 0⟩, ⟨.GAS_UNSETTLED_n_VALUE, 0, n, 0⟩] [.inside, .injected] d e)
  ∧ (∀ msg off c kinds r, (c, kinds, off) ∈ [(Instr.gasRequestTimeout msg, [ReqKind.gld, .gst, .gatom], 0),
        (Instr.dmaPacketTimeout msg off, [.dmaRead, .dmaWrite, .attnMap, .attnPage, .attnAppend], off),
        (Instr.remoteSignalTimeout msg, [.signal], 0)] → Completes c
      (fun d => d.timed msg off kinds = some r ∧ r.pkt.attempt < r.retries) fun d e =>
        (∃ y, e.reqs = d.reqs.erase r ++ [y] ∧ y.kind = r.kind ∧ y.seq = r.seq ∧ y.pkt.attempt = r.pkt.attempt + 1
          ∧ y.pkt.msg = r.pkt.msg ∧ y.pkt.offset = r.pkt.offset ∧ y.pkt.total = r.pkt.total ∧ y.pkt.payload = r.pkt.payload)
          ∧ Dev.counted F.GAS_ERR_CNT.RETRY_CNT 1 0 0 d e
          ∧ Only [⟨.GAS_ERR_CNT, 0, 0, 0⟩, ⟨.GAS_ISSUED_CNT, 0, 0, 0⟩] [.reqs, .inside, .held, .injected] d e)
  ∧ (∀ msg r x, Completes (.gasRequestTimeout msg) (fun d => d.timed msg 0 [.gld, .gst, .gatom] = some r
        ∧ r.retries ≤ r.pkt.attempt ∧ (r.kind = .gld ∨ r.kind = .gst) ∧ d.reqEntry r = some x ∧ (d.core r.core).faulted = false)
      fun d e => e.reqs = d.reqs.erase r ∧ (e.core r.core).faulted = true
        ∧ e.gf F.CORE_FAULT_STAT.CODE r.core = Code.DMA_REMOTE_ERROR ∧ e.gf F.CORE_FAULT_STAT.DETAIL r.core = Code.GAS_TIMEOUT)
  ∧ (∀ msg r n, Completes (.gasRequestTimeout msg) (fun d => d.timed msg 0 [.gld, .gst, .gatom] = some r
        ∧ r.retries ≤ r.pkt.attempt ∧ r.kind = .gatom ∧ Dev.allBusy r = false ∧ n < 32 ∧ d.unsettled n = 0
        ∧ ((List.range n).all fun m => decide (d.unsettled m ≠ 0)) = true) fun d e =>
        e.reqs = d.reqs.erase r ∧ e.unsettled n = 1 ∧ e.gf F.GAS_UNSETTLED_n_SEQ.SEQ 0 n = r.seq % 2 ^ 64
          ∧ e.gf F.GAS_UNSETTLED_n_TAG.TARGET 0 n = r.pkt.dst % 2 ^ 18 ∧ e.gf F.GAS_UNSETTLED_n_ADDR.ADDR 0 n = r.pkt.addr % 2 ^ 64
          ∧ e.gf F.GAS_UNSETTLED_n_TIME.TIME 0 n = r.firstIssue.getD 0 % 2 ^ 64)
  ∧ (∀ msg r n, Completes (.remoteSignalTimeout msg) (fun d => d.timed msg 0 [.signal] = some r
        ∧ r.retries ≤ r.pkt.attempt ∧ r.kind = .signal ∧ Dev.allBusy r = false ∧ n < 32 ∧ d.unsettled n = 0
        ∧ ((List.range n).all fun m => decide (d.unsettled m ≠ 0)) = true) fun d e =>
        e.reqs = d.reqs.erase r ∧ e.unsettled n = 1 ∧ e.gf F.GAS_UNSETTLED_n_SEQ.SEQ 0 n = r.seq % 2 ^ 64
          ∧ Dev.counted F.SYN_CORE_STAT.LOST_CNT 1 r.core 0 d e
          ∧ (e.core r.core).signals = (d.core r.core).signals.filter fun g => !(decide (g.seq = r.seq) && decide (g.dest = 2)))
  ∧ (∀ msg r, Completes (.gatomBusyResend msg) (fun d => d.timed msg 0 [.gatom, .signal] = some r ∧ r.busyWait = true) fun d e =>
        (∃ y, e.reqs = d.reqs.erase r ++ [y] ∧ y.kind = r.kind ∧ y.busyWait = false ∧ y.pkt.attempt = r.pkt.attempt
          ∧ y.pkt.msg = r.pkt.msg ∧ y.pkt.total = r.pkt.total)
          ∧ Only [⟨.GAS_ERR_CNT, 0, 0, 0⟩, ⟨.GAS_ISSUED_CNT, 0, 0, 0⟩] [.reqs, .inside, .held, .injected] d e)
  ∧ (∀ msg r, Completes (.releaseResend msg) (fun d => d.timed msg 0 [.release] = some r ∧ r.kind = .release) fun d e =>
        (∃ y, e.reqs = d.reqs.erase r ++ [y] ∧ y.kind = .release ∧ y.pkt.msg = r.pkt.msg ∧ y.pkt.total = r.pkt.total)
          ∧ Only [] [.reqs, .inside, .held, .injected] d e)
  ∧ (∀ (n : Fin 32), Completes (.queryResend n) (fun d => d.unsettled n = 2) fun d e =>
        (∃ q, Dev.sent q d e ∧ q.type = PT.query ∧ q.dst = d.gf F.GAS_UNSETTLED_n_TAG.TARGET 0 n
          ∧ q.total = d.gf F.GAS_UNSETTLED_n_SEQ.SEQ 0 n ∧ q.issueTime = d.gf F.GAS_UNSETTLED_n_TIME.TIME 0 n)
          ∧ Only [] [.inside, .held, .injected] d e)
  ∧ Completes .replyEntryExpiry (fun _ => True) (fun d e => e.gas.replies = d.gas.replies.filter (fun r => !d.replyEnds r)
        ∧ e.gf F.GAS_REPLY_STAT.IN_USE = e.gas.replies.length % 2 ^ 13 ∧ Only [⟨.GAS_REPLY_STAT, 0, 0, 0⟩] [.gas] d e)

/-- Each row completes. BASE and LIMIT writes are held, and the ATTR write applies all three at once. FENCE's REQ reads 1 while an access checked
before it has not been applied, and clears when none is left. A purge drops the entries past their lifetime of one device, or of all, unless the
device is occulted, where REQ stays. REQ of an entry without an answer makes it pending and sends its QUERY; CANCEL makes a pending one unsettled
again. TAG written with STATE 0 frees an entry, and CORE, TARGET, EPOCH, SEQ and TIME take their values only while the entry is free.
Where the manual leaves a detail open, the clauses rest on the model's choices of log entry 60. -/
def Obligations.RegionsAndUnsettled : Prop :=
  (∀ (n : Fin 4096) v, Completes (.regionBaseWrite n v) (fun d => d.accepts ⟨.GAS_REGION_n_BASE, 0, n, 0⟩ = true) fun d e =>
        e.gas = { d.gas with heldBase := NMap.set none d.gas.heldBase n (some (getBits v 45 16)) } ∧ Dev.did [] [.gas] d e)
  ∧ (∀ (n : Fin 4096) v, Completes (.regionLimitWrite n v) (fun d => d.accepts ⟨.GAS_REGION_n_LIMIT, 0, n, 0⟩ = true) fun d e =>
        e.gas = { d.gas with heldLimit := NMap.set none d.gas.heldLimit n (some (getBits v 45 16)) } ∧ Dev.did [] [.gas] d e)
  ∧ (∀ (n : Fin 4096) v b l, Completes (.regionAttrWrite n v) (fun d => d.accepts ⟨.GAS_REGION_n_ATTR, 0, n, 0⟩ = true
        ∧ b = (NMap.get none d.gas.heldBase n).getD (d.gf F.GAS_REGION_n_BASE.BASE 0 n)
        ∧ l = (NMap.get none d.gas.heldLimit n).getD (d.gf F.GAS_REGION_n_LIMIT.LIMIT 0 n)) fun d e =>
        e.gf F.GAS_REGION_n_BASE.BASE 0 n = b % 2 ^ 30 ∧ e.gf F.GAS_REGION_n_LIMIT.LIMIT 0 n = l % 2 ^ 30
          ∧ (∀ f ∈ RegName.GAS_REGION_n_ATTR.fields, getBits (e.reg ⟨.GAS_REGION_n_ATTR, 0, n, 0⟩) f.hi f.lo = getBits v f.hi f.lo)
          ∧ NMap.get none e.gas.heldBase n = none ∧ NMap.get none e.gas.heldLimit n = none
          ∧ Dev.did [⟨.GAS_REGION_n_BASE, 0, n, 0⟩, ⟨.GAS_REGION_n_LIMIT, 0, n, 0⟩, ⟨.GAS_REGION_n_ATTR, 0, n, 0⟩] [.gas] d e)
  ∧ Completes .regionFenceReq (fun d => d.accepts ⟨.GAS_REGION_FENCE, 0, 0, 0⟩ = true ∧ d.gas.fence = none ∧ d.unapplied = []
        ∧ d.hlk.dir = []) (fun d e =>
        e.gf F.GAS_REGION_FENCE.REQ = 0 ∧ e.gas.fence = none ∧ Dev.did [⟨.GAS_REGION_FENCE, 0, 0, 0⟩] [.gas] d e)
  ∧ Completes .regionFenceReq (fun d => d.accepts ⟨.GAS_REGION_FENCE, 0, 0, 0⟩ = true ∧ d.gas.fence = none ∧ d.unapplied ≠ []
        ∧ d.hlk.dir = []) (fun d e => e.gf F.GAS_REGION_FENCE.REQ = 1 ∧ e.gas.fence = some d.unapplied
        ∧ Dev.did [⟨.GAS_REGION_FENCE, 0, 0, 0⟩] [.gas] d e)
  ∧ (∀ ws, Completes .regionFenceDone (fun d => d.gas.fence = some ws ∧ (∀ w ∈ ws, w ∉ d.unapplied) ∧ d.hlk.dir = []) fun d e =>
        e.gf F.GAS_REGION_FENCE.REQ = 0 ∧ e.gas = { d.gas with fence := none } ∧ Only [⟨.GAS_REGION_FENCE, 0, 0, 0⟩] [.gas] d e)
  ∧ (∀ ws w, Completes .regionFenceDone (fun d => d.gas.fence = some ws ∧ w ∈ ws ∧ w ∈ d.unapplied)
      fun d e => Only [] [] d e)
  ∧ (∀ all (dev : Fin 262144), Completes (.replyPurge all dev) (fun d => d.accepts ⟨.GAS_REPLY_PURGE, 0, 0, 0⟩ = true
        ∧ d.occulted = false) fun d e =>
        e.gas = { d.gas with replies := d.gas.replies.filter fun r =>
          !((all || decide (r.dev = dev.val)) && decide (r.made + r.life ≤ d.chrono)) }
          ∧ e.gf F.GAS_REPLY_PURGE.REQ = 0 ∧ Dev.did [⟨.GAS_REPLY_PURGE, 0, 0, 0⟩, ⟨.GAS_REPLY_STAT, 0, 0, 0⟩] [.gas] d e)
  ∧ (∀ all (dev : Fin 262144), Completes (.replyPurge all dev) (fun d => d.accepts ⟨.GAS_REPLY_PURGE, 0, 0, 0⟩ = true
        ∧ d.occulted = true) fun d e =>
        e.gas = d.gas ∧ e.gf F.GAS_REPLY_PURGE.REQ = 1 ∧ e.gf F.GAS_REPLY_PURGE.DEVICE = dev.val
          ∧ Dev.did [⟨.GAS_REPLY_PURGE, 0, 0, 0⟩] [] d e)
  ∧ (∀ (n : Fin 32), Completes (.queryReq n) (fun d => d.accepts ⟨.GAS_QUERY_CTRL, 0, 0, 0⟩ = true ∧ d.unsettled n < 3) fun d e =>
        e.unsettled n = 2 ∧ (∀ m, m < 32 → m ≠ n.val → e.unsettled m = d.unsettled m)
          ∧ (∃ q, Dev.sent q d e ∧ q.type = PT.query ∧ q.vc = 0 ∧ q.dst = d.gf F.GAS_UNSETTLED_n_TAG.TARGET 0 n
            ∧ q.total = d.gf F.GAS_UNSETTLED_n_SEQ.SEQ 0 n ∧ q.core = d.gf F.GAS_UNSETTLED_n_TAG.CORE 0 n
            ∧ q.aop = d.gf F.GAS_UNSETTLED_n_TAG.AOP 0 n ∧ q.w64 = d.on F.GAS_UNSETTLED_n_TAG.W64 0 n
            ∧ q.epoch = d.gf F.GAS_UNSETTLED_n_EPOCH.EPOCH 0 n ∧ q.addr = d.gf F.GAS_UNSETTLED_n_ADDR.ADDR 0 n
            ∧ q.issueTime = d.gf F.GAS_UNSETTLED_n_TIME.TIME 0 n)
          ∧ Dev.did [⟨.GAS_QUERY_CTRL, 0, 0, 0⟩, ⟨.GAS_UNSETTLED_n_TAG, 0, n, 0⟩] [.inside, .held, .injected] d e)
  ∧ (∀ (n : Fin 32), Completes (.queryReq n) (fun d => d.accepts ⟨.GAS_QUERY_CTRL, 0, 0, 0⟩ = true ∧ 3 ≤ d.unsettled n) fun d e =>
        Dev.did [⟨.GAS_QUERY_CTRL, 0, 0, 0⟩] [] d e)
  ∧ (∀ (n : Fin 32), Completes (.queryCancel n) (fun d => d.accepts ⟨.GAS_QUERY_CTRL, 0, 0, 0⟩ = true) fun d e =>
        e.unsettled n = (if d.unsettled n = 2 then 1 else d.unsettled n)
          ∧ Dev.did [⟨.GAS_QUERY_CTRL, 0, 0, 0⟩, ⟨.GAS_UNSETTLED_n_TAG, 0, n, 0⟩] [] d e)
  ∧ (∀ (n : Fin 32) v, Completes (.unsettledTagWrite n v) (fun d => d.accepts ⟨.GAS_UNSETTLED_n_TAG, 0, n, 0⟩ = true) fun d e =>
        e.unsettled n = (if getBits v 63 60 = 0 then 0 else d.unsettled n)
          ∧ (e.gf F.GAS_UNSETTLED_n_TAG.CORE 0 n, e.gf F.GAS_UNSETTLED_n_TAG.TARGET 0 n)
            = (if d.unsettled n = 0 then (getBits v 24 18, getBits v 17 0)
                else (d.gf F.GAS_UNSETTLED_n_TAG.CORE 0 n, d.gf F.GAS_UNSETTLED_n_TAG.TARGET 0 n))
          ∧ e.gf F.GAS_UNSETTLED_n_TAG.AOP 0 n = d.gf F.GAS_UNSETTLED_n_TAG.AOP 0 n
          ∧ (d.unsettled n ≠ 0 → getBits v 63 60 = 0 → e.gf F.GAS_UNSETTLED_n_VALUE.VALUE 0 n = 0)
          ∧ Dev.did [⟨.GAS_UNSETTLED_n_TAG, 0, n, 0⟩, ⟨.GAS_UNSETTLED_n_VALUE, 0, n, 0⟩] [] d e)
  ∧ (∀ (n : Fin 32) v c k, (c, k) ∈ [(Instr.unsettledEpochWrite n v, RegName.GAS_UNSETTLED_n_EPOCH),
        (Instr.unsettledSeqWrite n v, .GAS_UNSETTLED_n_SEQ), (Instr.unsettledTimeWrite n v, .GAS_UNSETTLED_n_TIME)] → Completes c
      (fun d => d.accepts ⟨k, 0, n, 0⟩ = true) fun d e =>
        (∀ f ∈ k.fields, getBits (e.reg ⟨k, 0, n, 0⟩) f.hi f.lo
          = if d.unsettled n = 0 then getBits v f.hi f.lo else getBits (d.reg ⟨k, 0, n, 0⟩) f.hi f.lo)
          ∧ Dev.did [⟨k, 0, n, 0⟩] [] d e)

/-- Each row completes. A packet of an unknown type, above the hop limit, or without a route is discarded and counted; one for this device is delivered,
and one for a face with room enters its output queue with one hop more, an adaptive one that of the face with the most free credits; it waits in
the buffers otherwise, a Transit's packet for a face that is down apart, which is discarded. An occulted S-die forwards nothing. A stuck
adaptive packet goes on by the escape pools; a hold that expires and a stuck VC_0 packet are discarded. A face comes up with ports in
service and sends a DISCOVER; it goes down with none. A DISCOVER of a device with coordinates gives this device its own, one step away, a different one within 100 us
takes them away again, and a wrong one later is a wiring error. A paced packet is stamped and enters the router as soon as its rate allows it, and a rate
entry decays and rises as R331 says.
Where the manual leaves a detail open, the clauses rest on the model's choices of log entries 26, 27, 30, 31 and 49. -/
def Obligations.FabricRouting : Prop :=
  (∀ p free y, Completes (.packetRoute none p free y) (fun d => d.sdieDown = false ∧ p ∈ d.injected
        ∧ (knownType p.type = false ∨ p.vc = 7 ∨ p.route = 3)) fun d e =>
        e.injected = d.injected.erase p ∧ Dev.counted F.XFB_DROP_CNT.BAD 1 0 0 d e
          ∧ e.fab = { d.fab with free := NMap.set [] d.fab.free p.vc free } ∧ Only [⟨.XFB_DROP_CNT, 0, 0, 0⟩] (.injected :: .fab :: logParts) d e)
  ∧ (∀ p free y, Completes (.packetRoute none p free y) (fun d => d.sdieDown = false ∧ p ∈ d.injected
        ∧ knownType p.type = true ∧ p.vc ≠ 7 ∧ p.route ≠ 3 ∧ p.type ≠ PT.discover ∧ 2 * (d.dim 0 + d.dim 1 + d.dim 2) < p.hops) fun d e =>
        e.injected = d.injected.erase p ∧ Dev.counted F.XFB_DROP_CNT.HOP 1 0 0 d e
          ∧ e.fab = { d.fab with free := NMap.set [] d.fab.free p.vc free } ∧ Only [⟨.XFB_DROP_CNT, 0, 0, 0⟩] (.injected :: .fab :: logParts) d e)
  ∧ (∀ p free y, Completes (.packetRoute none p free y) (fun d => d.sdieDown = false ∧ p ∈ d.injected
        ∧ knownType p.type = true ∧ p.vc ≠ 7 ∧ p.route ≠ 3 ∧ p.type ≠ PT.discover ∧ p.hops ≤ 2 * (d.dim 0 + d.dim 1 + d.dim 2)
        ∧ (d.mute p = true ∨ d.wayOf p none = .unroutable)) fun d e =>
        e.injected = d.injected.erase p ∧ Dev.counted F.XFB_DROP_CNT.UNROUTABLE 1 0 0 d e
          ∧ e.fab = { d.fab with free := NMap.set [] d.fab.free p.vc free } ∧ Only [⟨.XFB_DROP_CNT, 0, 0, 0⟩] (.injected :: .fab :: logParts) d e)
  ∧ (∀ p (f : Fin 6) x free y, Completes (.packetRoute none p free y) (fun d => d.sdieDown = false ∧ p ∈ d.injected
        ∧ knownType p.type = true ∧ p.vc ≠ 7 ∧ p.route ≠ 3 ∧ p.type ≠ PT.discover ∧ p.hops ≤ 2 * (d.dim 0 + d.dim 1 + d.dim 2)
        ∧ d.mute p = false ∧ d.wayOf p none = .face f x ∧ d.hasRoom f x = true ∧ d.on F.XFB_ECN_CTRL.EN = false) fun d e =>
        e.injected = d.injected.erase p
          ∧ e.fab = { d.fab with
              free := NMap.set [] d.fab.free p.vc free
              out := d.fab.out ++ [{ face := f, pkt := { x with hops := x.hops + 1 }, was := some { pkt := p, face := none } }] }
          ∧ Only [] [.injected, .fab] d e)
  ∧ (∀ p fs f free y, Completes (.packetRoute none p free y) (fun d => d.sdieDown = false ∧ p ∈ d.injected
        ∧ knownType p.type = true ∧ p.vc ≠ 7 ∧ p.route ≠ 3 ∧ p.type ≠ PT.discover ∧ p.hops ≤ 2 * (d.dim 0 + d.dim 1 + d.dim 2)
        ∧ d.mute p = false ∧ d.wayOf p none = .adaptive fs ∧ f ∈ fs ∧ d.hasRoom f p = true ∧ 0 < free.getD f 0
        ∧ (∀ g ∈ fs, g ≠ f → d.hasRoom g p = true → free.getD g 0 < free.getD f 0) ∧ d.on F.XFB_ECN_CTRL.EN = false) fun d e =>
        e.injected = d.injected.erase p
          ∧ e.fab.out = d.fab.out ++
              [{ face := f, pkt := { p with dateline := false, hops := p.hops + 1 }, was := some { pkt := p, face := none } }]
          ∧ (e.credits p.vc).getD f 0 = free.getD f 0 - p.flits ∧ Only [] [.injected, .fab] d e)
  ∧ (∀ p (f : Fin 6) x free y, Completes (.packetRoute none p free y) (fun d => d.sdieDown = false ∧ p ∈ d.injected
        ∧ knownType p.type = true ∧ p.vc ≠ 7 ∧ p.route ≠ 3 ∧ p.type ≠ PT.discover ∧ p.hops ≤ 2 * (d.dim 0 + d.dim 1 + d.dim 2)
        ∧ d.mute p = false ∧ d.wayOf p none = .face f x ∧ d.hasRoom f x = false ∧ (d.faceUp f = true ∨ x.route ≠ 2)) fun d e =>
        e.fab = { d.fab with
          free := NMap.set [] d.fab.free p.vc free, router := d.fab.router ++ [{ pkt := p, face := none }] }
          ∧ e.injected = d.injected.erase p ∧ Only [] [.injected, .fab] d e)
  ∧ (∀ p (f : Fin 6) x free y, Completes (.packetRoute none p free y) (fun d => d.sdieDown = false ∧ p ∈ d.injected
        ∧ knownType p.type = true ∧ p.vc = 4 ∧ p.route = 2 ∧ p.type ≠ PT.discover ∧ p.hops ≤ 2 * (d.dim 0 + d.dim 1 + d.dim 2)
        ∧ d.mute p = false ∧ d.wayOf p none = .face f x ∧ x.vc = 4 ∧ x.route = 2 ∧ d.faceUp f = false) fun d e =>
        e.injected = d.injected.erase p ∧ e.fab = { d.fab with free := NMap.set [] d.fab.free p.vc free }
          ∧ Only [] [.injected, .fab] d e)
  ∧ (∀ p (g : Fin 6) free y, Completes (.packetRoute (some g) p free y) (fun d => d.sdieDown = false ∧ d.faceUp g = true
        ∧ d.occulted = false ∧ knownType p.type = true ∧ p.vc < 5 ∧ p.route = 0 ∧ isManagement p.type = false ∧ p.dst = d.self
        ∧ p.hops ≤ 2 * (d.dim 0 + d.dim 1 + d.dim 2) ∧ d.coordsValid = true ∧ p.partition = d.partition
        ∧ d.on F.XFB_TABLE_STAT.DRAINED = false) fun d e =>
        e.inside = d.inside ++ [p] ∧ e.gf F.XFB_FACE_f_RX_CNT.FLITS 0 g = (d.gf F.XFB_FACE_f_RX_CNT.FLITS 0 g + p.flits) % 2 ^ 64
          ∧ e.fab = { d.fab with free := NMap.set [] d.fab.free p.vc free, arrived := d.fab.arrived.erase (g.val, p) }
          ∧ Only [⟨.XFB_FACE_f_RX_CNT, 0, g, 0⟩] [.inside, .fab] d e)
  ∧ (∀ (g : Option (Fin 6)) p free y, Completes (.packetRoute g p free y) (fun d => d.sdieDown = true) fun d e => Only [] [] d e)
  ∧ (∀ p b, Completes (.adaptiveEscape p) (fun d => d.buffered p = some b ∧ [2, 3, 6].contains p.vc = true ∧ p.route = 1 ∧ p.esc = false)
      fun d e => e = (d.unbuffer b).routePacket { p with esc := true } b.face)
  ∧ (∀ p b, Completes (.faceHoldExpiry p) (fun d => d.buffered p = some b ∧ p.type ≠ PT.coll) fun d e =>
        e.fab = { d.fab with router := d.fab.router.erase b } ∧ Dev.counted F.XFB_DROP_CNT.HOLD 1 0 0 d e
          ∧ Only [⟨.XFB_DROP_CNT, 0, 0, 0⟩] (.fab :: logParts) d e)
  ∧ (∀ p b, Completes (.vc0Stuck p) (fun d => d.buffered p = some b ∧ p.vc = 0) fun d e =>
        e.fab = { d.fab with router := d.fab.router.erase b } ∧ Dev.counted F.XFB_DROP_CNT.VC0 1 0 0 d e
          ∧ Only [⟨.XFB_DROP_CNT, 0, 0, 0⟩] (.fab :: logParts) d e)
  ∧ (∀ (f : Fin 6), Completes (.faceUp f) (fun d => d.faceUp f = false ∧ d.faceHeld f = false
        ∧ d.gf F.XFB_FACE_f_STAT.PORTS_UP 0 f ≠ 0 ∧ d.fab.router = []) fun d e =>
        e.faceUp f = true ∧ e.isPending 576 = true
          ∧ (∃ x, e.fab = { d.fab with out := d.fab.out ++ [{ face := f, pkt := x }] } ∧ x.type = PT.discover ∧ x.vc = 0)
          ∧ Only [⟨.XFB_FACE_f_STAT, 0, f, 0⟩, ⟨.INT_PEND_SET_k, 0, 9, 0⟩] (.fab :: logParts) d e)
  ∧ (∀ (f : Fin 6), Completes (.faceDown f) (fun d => d.faceUp f = true ∧ (d.gf F.XFB_FACE_f_STAT.PORTS_UP 0 f = 0
        ∨ d.faceHeld f = true) ∧ d.fab.circuits = []) fun d e =>
        e.faceUp f = false ∧ e.isPending 576 = true ∧ e.fab.out = d.fab.out.filter (fun q => decide (q.face ≠ f.val))
          ∧ (∀ q ∈ d.fab.out, q.face = f.val → q.pkt.route ≠ 2 → ∀ b, q.was = some b →
              { b with pkt := { b.pkt with ce := q.pkt.ce } } ∈ e.fab.router)
          ∧ Only [⟨.XFB_FACE_f_STAT, 0, f, 0⟩, ⟨.INT_PEND_SET_k, 0, 9, 0⟩] (.fab :: logParts) d e)
  ∧ (∀ (f : Fin 6) p ix dims, Completes (.discover f p) (fun d => p.type = PT.discover ∧ d.faceUp f = true ∧ d.fab.conflict = false
        ∧ d.coordsValid = false ∧ d.fab.kept = none ∧ leNat ((p.payload.drop 17).take 1) < 8 ∧ bitOf (leNat ((p.payload.drop 17).take 1)) 0 = true
        ∧ leNat ((p.payload.drop 18).take 2) = 0 ∧ ix = leNat ((p.payload.drop 20).take 4) ∧ ix < 2 ^ 18
        ∧ dims = leNat ((p.payload.drop 24).take 4) ∧ dims < 2 ^ 18 ∧ leNat ((p.payload.drop 28).take 36) = 0) fun d e =>
        e.coordsValid = true ∧ e.self = Dev.implied f ix dims % 2 ^ 18 ∧ e.gf F.XFB_COORD.SOURCE = 2
          ∧ getBits (e.reg ⟨.XFB_DIMS, 0, 0, 0⟩) 17 0 = dims ∧ e.gf F.XFB_FACE_f_STAT.NEIGHBOUR 0 f = ix
          ∧ (∀ b k t, b < 2 → k < 3 → t < 64 → e.tableEntry b k t =
              if t < e.dim k then directionRule (e.dim k) (coordOf e.self k) t (d.wrapBit b k) else 3))
  ∧ (∀ (f : Fin 6) p ix dims, Completes (.discover f p) (fun d => p.type = PT.discover ∧ d.faceUp f = true ∧ d.fab.conflict = false
        ∧ d.coordsValid = true ∧ d.gf F.XFB_COORD.SOURCE ≠ 2 ∧ leNat ((p.payload.drop 17).take 1) < 8
        ∧ bitOf (leNat ((p.payload.drop 17).take 1)) 0 = true ∧ leNat ((p.payload.drop 18).take 2) = 0
        ∧ ix = leNat ((p.payload.drop 20).take 4) ∧ ix < 2 ^ 18 ∧ dims = leNat ((p.payload.drop 24).take 4) ∧ dims < 2 ^ 18
        ∧ leNat ((p.payload.drop 28).take 36) = 0 ∧ Dev.implied f ix dims ≠ d.self) fun d e =>
        e.gf F.XFB_FACE_f_STAT.WIRING_ERR 0 f = 1 ∧ e.faceUp f = false ∧ e.reg ⟨.XFB_COORD, 0, 0, 0⟩ = d.reg ⟨.XFB_COORD, 0, 0, 0⟩)
  ∧ (∀ (f : Fin 6) p ix dims me t old, Completes (.discover f p) (fun d => p.type = PT.discover ∧ d.faceUp f = true
        ∧ d.fab.conflict = false ∧ d.coordsValid = true ∧ d.gf F.XFB_COORD.SOURCE = 2 ∧ d.fab.derived = some (t, old)
        ∧ d.chrono < t + 100000 ∧ d.fab.undo = [] ∧ leNat ((p.payload.drop 17).take 1) < 8
        ∧ bitOf (leNat ((p.payload.drop 17).take 1)) 0 = true ∧ leNat ((p.payload.drop 18).take 2) = 0
        ∧ ix = leNat ((p.payload.drop 20).take 4) ∧ ix < 2 ^ 18 ∧ dims = leNat ((p.payload.drop 24).take 4) ∧ dims < 2 ^ 18
        ∧ leNat ((p.payload.drop 28).take 36) = 0 ∧ me = Dev.implied f ix dims ∧ old ≠ (me, dims)) fun _ e =>
        e.coordsValid = false ∧ e.fab.conflict = true ∧ e.fab.derived = none)
  ∧ (∀ p, Completes (.pacedInjection p) (fun d => p ∈ d.held ∧ (d.on F.XFB_TABLE_CTRL.DRAIN = false ∨ heldVc p.vc = false)
        ∧ (∀ r ∈ d.rates, r.dst = p.dst → Dev.paced p = false ∨ Dev.rateAllows d.chrono r = true)) fun d e =>
        e.held = d.held.erase p ∧ e.injected = d.injected ++ [if p.type = PT.query then p else d.stamp p]
          ∧ (∀ r ∈ e.rates, r.dst = p.dst → Dev.paced p = true → (d.chrono, p.flits) ∈ r.recent)
          ∧ Only [] [.held, .injected, .reqs, .rates] d e)
  ∧ (∀ p r, Completes (.pacedInjection p) (fun d => r ∈ d.rates ∧ r.dst = p.dst ∧ Dev.paced p = true
        ∧ Dev.rateAllows d.chrono r = false) fun d e => Only [] [] d e)
  ∧ (∀ dst r, Completes (.rateAlphaDecay dst) (fun d => d.rates = [r] ∧ r.dst = dst) fun d e =>
        e.rates = [{ r with
          alphaN := r.alphaN * (2 ^ d.gf F.XFB_RATE_CTRL.G_SHIFT - 1), alphaE := r.alphaE + d.gf F.XFB_RATE_CTRL.G_SHIFT }]
          ∧ Only [⟨.XFB_RATE_STAT, 0, 0, 0⟩] [.rates] d e)
  ∧ (∀ dst r rt, Completes (.rateIncrease dst) (fun d => r ∈ d.rates ∧ r.dst = dst ∧ r.rc < 1024
        ∧ rt = (if r.k + 1 ≤ d.gf F.XFB_RATE_CTRL.FAST_STEPS then r.rt else min 1024 (r.rt + d.gf F.XFB_RATE_CTRL.R_AI))
        ∧ (rt + r.rc) / 2 < 1024) fun d e =>
        { r with k := r.k + 1, rt := rt, rc := (rt + r.rc) / 2 } ∈ e.rates
          ∧ (∀ x ∈ d.rates, x.dst ≠ dst → x ∈ e.rates) ∧ Only [⟨.XFB_RATE_STAT, 0, 0, 0⟩] [.rates] d e)
  ∧ (∀ p (f : Fin 6) x free y q m, Completes (.packetRoute none p free y) (fun d => d.sdieDown = false ∧ p ∈ d.injected
        ∧ knownType p.type = true ∧ p.vc ≠ 7 ∧ p.route ≠ 3 ∧ p.type ≠ PT.discover ∧ p.hops ≤ 2 * (d.dim 0 + d.dim 1 + d.dim 2)
        ∧ d.mute p = false ∧ d.wayOf p none = .face f x ∧ d.hasRoom f x = true ∧ d.on F.XFB_ECN_CTRL.EN = true ∧ x.route ≠ 2
        ∧ x.vc ∈ [2, 3, 5, 6] ∧ q = d.queued f x.vc ∧ m = (decide (d.gf F.XFB_ECN_CTRL.K_MIN < q)
          && (decide (d.gf F.XFB_ECN_CTRL.K_MAX ≤ q) || (y && decide (d.gf F.XFB_ECN_CTRL.P_MAX ≠ 0))))) fun d e =>
        e.fab.out = d.fab.out ++
            [{ face := f, pkt := { x with hops := x.hops + 1, ce := x.ce || m }, was := some { pkt := p, face := none } }]
          ∧ e.gf F.XFB_FACE_f_CE_CNT.MARKED 0 f = (d.gf F.XFB_FACE_f_CE_CNT.MARKED 0 f + (if m then 1 else 0)) % 2 ^ 64
          ∧ Only [⟨.XFB_FACE_f_CE_CNT, 0, f, 0⟩] [.injected, .fab] d e)

/-- Each row completes. An override of a device that is drained, or has no coordinates, sets index and dimensions; otherwise it is refused and
changes nothing; its release gives the coordinates up. SETUP of a free slot reserves the path in the circuit table and sends the setup on, or the slot is refused with its
CAUSE. The reply establishes the slot or refuses it, a break marks it, a teardown waits for its packets and frees it. A router takes a setup
of another device, or refuses it. PATH takes its value while the slot is free. DRAIN holds injection, DRAINED is noted with nothing
held in the buffers, SWAP changes the active bank only when drained, and RESUME ends it. Weights are stored where every reservation still fits, and the
active bank's registers drop a write.
Where the manual leaves a detail open, the clauses rest on the model's choices of log entries 28, 29, 31 and 49. -/
def Obligations.FabricControl : Prop :=
  (∀ dims ix, Completes (.coordOverride dims ix) (fun d => d.accepts ⟨.XFB_COORD_OVERRIDE, 0, 0, 0⟩ = true
        ∧ (d.coordsValid = false ∨ d.on F.XFB_TABLE_STAT.DRAINED = true)) fun _ e =>
        e.coordsValid = true ∧ e.self = ix.val ∧ e.gf F.XFB_COORD.SOURCE = 3 ∧ getBits (e.reg ⟨.XFB_DIMS, 0, 0, 0⟩) 17 0 = dims.val
          ∧ e.fab.conflict = false ∧ e.answer = {})
  ∧ (∀ dims ix, Completes (.coordOverride dims ix) (fun d => d.accepts ⟨.XFB_COORD_OVERRIDE, 0, 0, 0⟩ = true
        ∧ d.coordsValid = true ∧ d.on F.XFB_TABLE_STAT.DRAINED = false) fun d e => Dev.did [] [] d e)
  ∧ Completes .coordOverrideRelease (fun d => d.accepts ⟨.XFB_COORD_OVERRIDE, 0, 0, 0⟩ = true ∧ d.gf F.XFB_COORD.SOURCE = 3
        ∧ d.on F.XFB_TABLE_STAT.DRAINED = true ∧ d.on F.XFB_ANCHOR.ANCHOR = false) (fun _ e =>
        e.coordsValid = false ∧ e.gf F.XFB_COORD.SOURCE = 0 ∧ e.gf F.XFB_DIMS.VALID = 0)
  ∧ (∀ (n : Fin 256) own id, Completes (.transitSetupReq n own) (fun d => d.accepts ⟨.XFB_TRANSIT_n_CTRL, 0, n, 0⟩ = true
        ∧ d.gf F.XFB_TRANSIT_n_STAT.STATE 0 n = 0 ∧ id = d.gf F.XFB_TRANSIT_n_PATH.ID 0 n ∧ (id = 0 ∨ d.ownTransit id ≠ none)) fun d e =>
        e.gf F.XFB_TRANSIT_n_STAT.STATE 0 n = 5 ∧ e.gf F.XFB_TRANSIT_n_STAT.CAUSE 0 n = 5
          ∧ e.gf F.XFB_TRANSIT_n_STAT.CODE 0 n = Code.XFB_TRANSIT_REFUSED ∧ e.answer = {}
          ∧ Dev.did [⟨.XFB_TRANSIT_n_STAT, 0, n, 0⟩, ⟨.XFB_TRANSIT_n_CNT, 0, n, 0⟩] [] d e)
  ∧ (∀ (n : Fin 256) own id, Completes (.transitSetupReq n own) (fun d => d.accepts ⟨.XFB_TRANSIT_n_CTRL, 0, n, 0⟩ = true
        ∧ d.gf F.XFB_TRANSIT_n_STAT.STATE 0 n = 0 ∧ id = d.gf F.XFB_TRANSIT_n_PATH.ID 0 n ∧ id ≠ 0 ∧ d.ownTransit id = none
        ∧ d.coordsValid = true ∧ d.gf F.XFB_TRANSIT_n_PATH.DEST 0 n = d.self ∧ d.inTorus d.self = true ∧ d.fab.circuits = []) fun d e =>
        e.gf F.XFB_TRANSIT_n_STAT.STATE 0 n = 2 ∧ e.gf F.XFB_TRANSIT_n_STAT.CODE 0 n = 0
          ∧ e.fab.circuits = [
              { owner := d.self, id := id, rate := d.gf F.XFB_TRANSIT_n_PATH.RATE 0 n, face := 6, from_ := none, dst := d.self
                dirs := d.gf F.XFB_TRANSIT_n_PATH.DIR_X 0 n + 2 * d.gf F.XFB_TRANSIT_n_PATH.DIR_Y 0 n
                  + 4 * d.gf F.XFB_TRANSIT_n_PATH.DIR_Z 0 n }])
  ∧ (∀ (n : Fin 256) own, Completes (.transitSetupReq n own) (fun d => d.accepts ⟨.XFB_TRANSIT_n_CTRL, 0, n, 0⟩ = true
        ∧ d.gf F.XFB_TRANSIT_n_STAT.STATE 0 n ≠ 0) fun d e => Dev.did [] [] d e)
  ∧ (∀ (n : Fin 256), Completes (.teardown n) (fun d => d.accepts ⟨.XFB_TRANSIT_n_CTRL, 0, n, 0⟩ = true) fun d e =>
        e.gf F.XFB_TRANSIT_n_STAT.STATE 0 n = (match d.gf F.XFB_TRANSIT_n_STAT.STATE 0 n with
          | 2 => 4 | 3 => 0 | 5 => 0 | s => s)
          ∧ Dev.did [⟨.XFB_TRANSIT_n_STAT, 0, n, 0⟩] [] d e)
  ∧ (∀ (n : Fin 256), Completes (.transitTearReady n) (fun d => d.gf F.XFB_TRANSIT_n_STAT.STATE 0 n = 4
        ∧ d.gf F.XFB_TRANSIT_n_PATH.DEST 0 n = d.self ∧ d.fab.circuits = [] ∧ (∀ r ∈ d.reqs, r.pkt.route ≠ 2)) fun d e =>
        e.gf F.XFB_TRANSIT_n_STAT.STATE 0 n = 0 ∧ Only [⟨.XFB_TRANSIT_n_STAT, 0, n, 0⟩] [] d e)
  ∧ (∀ (n : Fin 256) r, Completes (.transitTearReady n) (fun d => r ∈ d.reqs ∧ r.pkt.route = 2
        ∧ r.pkt.transit = d.gf F.XFB_TRANSIT_n_PATH.ID 0 n) fun d e => Only [] [] d e)
  ∧ (∀ (g f : Fin 6) p k dir x w, Completes (.transitSetup g p true) (fun d => p.type = PT.transitSetup ∧ d.setupRefusal p true = none
        ∧ d.transitStep p.dst (p.addr / 2 ^ 8 % 8) = some (k, dir) ∧ d.stepIn k dir p (some g.val) = (f.val, x, w)) fun d e =>
        e.fab.circuits = d.fab.circuits ++ [
              { owner := p.src, id := p.transit, rate := p.addr % 256, face := f, from_ := some g.val
                dst := p.dst, dirs := p.addr / 2 ^ 8 % 8 }]
          ∧ e.fab.out = d.fab.out ++ [{ face := f, pkt := { x with hops := p.hops + 1 } }]
          ∧ Only [⟨.XFB_CIRCUIT_STAT, 0, 0, 0⟩] [.fab, .inside, .injected] d e)
  ∧ (∀ (g : Fin 6) p own cause, Completes (.transitSetup g p own) (fun d => p.type = PT.transitSetup
        ∧ d.setupRefusal p own = some cause ∧ p.src ≠ d.self) fun d e =>
        (∃ q, Dev.sent q (d.consume p) e ∧ q.type = PT.transitReply ∧ q.dst = p.src ∧ q.transit = p.transit
          ∧ q.code = Code.XFB_TRANSIT_REFUSED ∧ q.addr = cause + d.self * 2 ^ 8)
          ∧ e.fab = d.fab ∧ Only [⟨.XFB_CIRCUIT_STAT, 0, 0, 0⟩] ([.inside, .held, .injected] ++ logParts) d e)
  ∧ (∀ p (n : Fin 256), Completes (.transitReply p) (fun d => p.type = PT.transitReply ∧ p.dst = d.self
        ∧ d.ownTransit p.transit = some n.val ∧ (d.gf F.XFB_TRANSIT_n_STAT.STATE 0 n = 1 ∨ d.gf F.XFB_TRANSIT_n_STAT.STATE 0 n = 4)
        ∧ p.code = 0) fun d e =>
        e.gf F.XFB_TRANSIT_n_STAT.STATE 0 n = (if d.gf F.XFB_TRANSIT_n_STAT.STATE 0 n = 1 then 2 else 0)
          ∧ Only [⟨.XFB_TRANSIT_n_STAT, 0, n, 0⟩] [.inside, .injected] d e)
  ∧ (∀ p (n : Fin 256), Completes (.transitReply p) (fun d => p.type = PT.transitReply ∧ p.dst = d.self
        ∧ d.ownTransit p.transit = some n.val ∧ d.gf F.XFB_TRANSIT_n_STAT.STATE 0 n = 1 ∧ p.code ≠ 0 ∧ p.code < 65536) fun _ e =>
        e.gf F.XFB_TRANSIT_n_STAT.STATE 0 n = 5 ∧ e.gf F.XFB_TRANSIT_n_STAT.CODE 0 n = p.code)
  ∧ (∀ (g : Fin 6) p c, Completes (.transitTear g p) (fun d => p.type = PT.transitTear ∧ d.fab.circuits = [c] ∧ c.id = p.transit
        ∧ c.owner = p.src ∧ c.face = 6) fun d e => e.fab.circuits = []
          ∧ (∃ q, Dev.sent q (d.consume p) e ∧ q.type = PT.transitReply ∧ q.dst = p.src ∧ q.transit = p.transit ∧ q.code = 0))
  ∧ (∀ p (n : Fin 256), Completes (.transitBroken p) (fun d => p.type = PT.transitBroken ∧ p.dst = d.self
        ∧ d.ownTransit p.transit = some n.val ∧ d.gf F.XFB_TRANSIT_n_STAT.STATE 0 n = 2) fun _ e =>
        e.gf F.XFB_TRANSIT_n_STAT.STATE 0 n = 3 ∧ e.gf F.XFB_TRANSIT_n_STAT.CODE 0 n = Code.XFB_TRANSIT_BROKEN
          ∧ e.isPending 577 = true)
  ∧ (∀ (n : Fin 256), Completes (.transitSetupTimeout n) (fun d => d.gf F.XFB_TRANSIT_n_STAT.STATE 0 n = 1) fun _ e =>
        e.gf F.XFB_TRANSIT_n_STAT.STATE 0 n = 5 ∧ e.gf F.XFB_TRANSIT_n_STAT.CAUSE 0 n = 6
          ∧ e.gf F.XFB_TRANSIT_n_STAT.CODE 0 n = Code.XFB_TRANSIT_REFUSED)
  ∧ (∀ (n : Fin 256) v, Completes (.transitPathWrite n v) (fun d => d.accepts ⟨.XFB_TRANSIT_n_PATH, 0, n, 0⟩ = true) fun d e =>
        (∀ f ∈ RegName.XFB_TRANSIT_n_PATH.fields, getBits (e.reg ⟨.XFB_TRANSIT_n_PATH, 0, n, 0⟩) f.hi f.lo =
          if d.gf F.XFB_TRANSIT_n_STAT.STATE 0 n = 0 then getBits v f.hi f.lo else getBits (d.reg ⟨.XFB_TRANSIT_n_PATH, 0, n, 0⟩) f.hi f.lo)
          ∧ Dev.did [⟨.XFB_TRANSIT_n_PATH, 0, n, 0⟩] [] d e)
  ∧ Completes .drain (fun d => d.accepts ⟨.XFB_TABLE_CTRL, 0, 0, 0⟩ = true ∧ d.on F.XFB_TABLE_CTRL.DRAIN = false) (fun d e =>
        e.on F.XFB_TABLE_CTRL.DRAIN = true ∧ e.on F.XFB_TABLE_STAT.DRAINING = true ∧ e.on F.XFB_TABLE_STAT.DRAINED = false
          ∧ e.fab = { d.fab with drainStart := d.chrono } ∧ e.bank = d.bank
          ∧ Dev.did [⟨.XFB_TABLE_CTRL, 0, 0, 0⟩, ⟨.XFB_TABLE_STAT, 0, 0, 0⟩] [.fab] d e)
  ∧ Completes .drained (fun d => d.on F.XFB_TABLE_CTRL.DRAIN = true ∧ d.on F.XFB_TABLE_STAT.DRAINED = false
        ∧ (∀ b ∈ d.fab.router, heldVc b.pkt.vc = false) ∧ (∀ q ∈ d.fab.out, heldVc q.pkt.vc = false)
        ∧ (∀ p ∈ d.injected, heldVc p.vc = false)) (fun d e =>
        e.on F.XFB_TABLE_STAT.DRAINED = true ∧ e.on F.XFB_TABLE_STAT.DRAINING = false ∧ Only [⟨.XFB_TABLE_STAT, 0, 0, 0⟩] [] d e)
  ∧ (∀ b, Completes .drained (fun d => b ∈ d.fab.router ∧ heldVc b.pkt.vc = true) fun d e => Only [] [] d e)
  ∧ (∀ q, Completes .drained (fun d => q ∈ d.fab.out ∧ heldVc q.pkt.vc = true) fun d e => Only [] [] d e)
  ∧ Completes .tableSwap (fun d => d.accepts ⟨.XFB_TABLE_CTRL, 0, 0, 0⟩ = true ∧ d.on F.XFB_TABLE_STAT.DRAINED = true
        ∧ d.fab.router = []) (fun d e => e.bank = 1 - d.bank ∧ Dev.did [⟨.XFB_TABLE_CTRL, 0, 0, 0⟩] [] d e)
  ∧ Completes .tableSwap (fun d => d.accepts ⟨.XFB_TABLE_CTRL, 0, 0, 0⟩ = true ∧ d.on F.XFB_TABLE_STAT.DRAINED = false)
      (fun d e => Dev.did [] [] d e)
  ∧ Completes .tableResume (fun d => d.accepts ⟨.XFB_TABLE_CTRL, 0, 0, 0⟩ = true ∧ d.on F.XFB_TABLE_CTRL.DRAIN = true
        ∧ d.rates = []) (fun d e =>
        e.on F.XFB_TABLE_CTRL.DRAIN = false ∧ e.on F.XFB_TABLE_STAT.DRAINED = false ∧ e.bank = d.bank
          ∧ e.held = [] ∧ e.injected = d.injected ++ d.held.map (fun p => if p.type = PT.query then p else d.stamp p)
          ∧ e.gf F.XFB_TABLE_STAT.DRAIN_US = min (2 ^ 32 - 1) ((d.chrono - d.fab.drainStart) / 1000))
  ∧ (∀ v w, Completes (.vcWeightWrite v) (fun d => d.accepts ⟨.XFB_VC_WEIGHT, 0, 0, 0⟩ = true
        ∧ w = setBits v 7 0 (max 4 (getBits v 7 0))) fun d e =>
        e.reg ⟨.XFB_VC_WEIGHT, 0, 0, 0⟩ = (if ((List.range 6).all fun f => decide (d.admitted f = 0) || Dev.rateFits w (d.admitted f)) then w
          else d.reg ⟨.XFB_VC_WEIGHT, 0, 0, 0⟩) ∧ Dev.did [⟨.XFB_VC_WEIGHT, 0, 0, 0⟩] [] d e)
  ∧ (∀ o v k, Completes (.routeBankWrite o v) (fun d => RegKey.ofOffset o = some k ∧ k.name = .XFB_ROUTE_b_d_h
        ∧ d.accepts k = true) fun d e =>
        (∀ f ∈ k.name.fields, getBits (e.reg k) f.hi f.lo = if k.i = d.bank then getBits (d.reg k) f.hi f.lo else getBits v f.hi f.lo)
          ∧ Dev.did [k] [] d e)

/-- Each row completes on a port that exists. Calibration ends in Light, held down where DOWN says so, with the first bias of each channel recorded, or in
FAILED. Light, Lock and Align follow one another; Exchange goes to Qualify with the far map as the receive map, or holds a miswired port down; Qualify puts
it in service with its lanes. A good group in order hands its flits on; a bad one counts and asks for a replay from the group expected. A replay
request resends from the group after ACK, or from the oldest held. 100 µs without light leave only lane 0's laser on, and light brings the
port back to Light. A receive channel without light takes its port out of service.
Where the manual leaves a detail open, the clauses rest on the model's choices of log entries 32, 33 and 51. -/
def Obligations.OpticalPorts : Prop :=
  (∀ (p : Fin 6) (n : Fin 10), Completes (.portCalibrateDone p n none) (fun d => portExists p n = true
        ∧ (d.port p n).step = .calibrate) fun d e =>
        (e.port p n).step = .failed ∧ (e.port p n).calOk = false ∧ e.gf F.OPT_PORT_n_STAT.STATE p n = 6
          ∧ e.gf F.OPT_PORT_n_STAT.LAST_CODE p n = Code.OPT_COLLIMATOR_FAIL ∧ (∀ m, m ≠ n.val → e.port p m = d.port p m))
  ∧ (∀ (p : Fin 6) (n : Fin 10) c, Completes (.portCalibrateDone p n (some c)) (fun d => portExists p n = true
        ∧ (d.port p n).step = .calibrate) fun d e =>
        (e.port p n).step = (if d.on F.OPT_PORT_n_CTRL.DOWN p n then .heldDown else .light)
          ∧ (e.port p n).calOk = true ∧ (e.port p n).cal = some c
          ∧ (∀ k, k < 18 → e.gf F.OPT_PORT_n_CH_c_LASER.INIT_BIAS p n k = (if d.gf F.OPT_PORT_n_CH_c_LASER.INIT_BIAS p n k = 0
              then ((c.chans[k]?).getD { bias := 0, power := 0, target := 0 }).bias % 2 ^ 16
              else d.gf F.OPT_PORT_n_CH_c_LASER.INIT_BIAS p n k)))
  ∧ (∀ (p : Fin 6) (n : Fin 10), Completes (.portLightDone p n) (fun d => portExists p n = true ∧ (d.port p n).step = .light)
      fun d e => (e.port p n).step = .lock
        ∧ (∀ c ∈ (if d.oneLane n then (d.laneMap p n true).take 1 else d.laneMap p n true), c ∈ (e.port p n).lit)
        ∧ (n.val < 8 → Only [⟨.OPT_PORT_n_STAT, p, n, 0⟩] [.ports] d e))
  ∧ (∀ (p : Fin 6) (n : Fin 10), Completes (.portLockDone p n) (fun d => portExists p n = true ∧ (d.port p n).step = .lock)
      fun d e => e.port p n = { d.port p n with step := .align } ∧ (n.val < 8 → Only [⟨.OPT_PORT_n_STAT, p, n, 0⟩] [.ports] d e))
  ∧ (∀ (p : Fin 6) (n : Fin 10), Completes (.portAlignDone p n) (fun d => portExists p n = true ∧ (d.port p n).step = .align)
      fun d e => e.port p n = { d.port p n with step := .exchange } ∧ (n.val < 8 → Only [⟨.OPT_PORT_n_STAT, p, n, 0⟩] [.ports] d e))
  ∧ (∀ (p : Fin 6) (n : Fin 10) (ff fp : Fin 16) fm fd, Completes (.portExchange p n ff fp fm fd) (fun d => portExists p n = true
        ∧ (d.port p n).step = .exchange ∧ Dev.meets p n ff fp = false) fun _ e =>
        (e.port p n).step = .heldDown ∧ e.gf F.OPT_PORT_n_STAT.FAR_FACE p n = ff.val ∧ e.gf F.OPT_PORT_n_STAT.FAR_PORT p n = fp.val
          ∧ e.gf F.OPT_PORT_n_STAT.LAST_CODE p n = Code.OPT_PORT_MISWIRED)
  ∧ (∀ (p : Fin 6) (n : Fin 10) (ff fp : Fin 16) fm, Completes (.portExchange p n ff fp fm []) (fun d => portExists p n = true
        ∧ (d.port p n).step = .exchange ∧ Dev.meets p n ff fp = true ∧ (d.port p n).rxDead = []) fun d e =>
        (e.port p n).step = .qualify ∧ (∀ l, l < 16 → e.laneCh p n false l = fm.getD l l % 32 ∧ e.laneCh p n true l = d.laneCh p n true l))
  ∧ (∀ (p : Fin 6) (n : Fin 10), Completes (.portQualifyDone p n) (fun d => portExists p n = true ∧ (d.port p n).step = .qualify)
      fun d e => (e.port p n).step = (if n.val = 8 ∧ d.gf F.PWR_STAT.STATE = 3 then .keepAlive else .up)
        ∧ e.gf F.OPT_PORT_n_STAT.STATE p n = (if n.val = 8 ∧ d.gf F.PWR_STAT.STATE = 3 then 4 else 3)
        ∧ e.gf F.OPT_PORT_n_STAT.LANES_UP p n = (if d.oneLane n then 1 else 16)
        ∧ getBits (e.reg ⟨.OPT_FACE_STAT, p, 0, 0⟩) (32 + n) (32 + n) = 1 ∧ e.gf F.OPT_PORT_n_STAT.LAST_CODE p n = Code.OPT_PORT_UP
        ∧ (∀ m, m ≠ n.val → e.port p m = d.port p m))
  ∧ (∀ (p : Fin 6) (n : Fin 10) r g, Completes (.groupReceive p n r) (fun d => portExists p n = true ∧ (d.port p n).step = .up
        ∧ r.words.length = 16 ∧ (∀ w ∈ r.words, (laneDecode w).2 ≤ 7) ∧ g = OptGroup.ofLanes (r.words.map fun w => (laneDecode w).1)
        ∧ g.crcOf = g.ctrl.crc ∧ g.ctrl.msgType ≠ 2 ∧ (d.port p n).waiting = false ∧ (d.port p n).resync = false
        ∧ (d.port p n).expect = some g.ctrl.gseq) fun d e =>
        (e.port p n).rx = (d.port p n).rx ++ g.flits.map .flit ∧ (e.port p n).expect = some ((g.ctrl.gseq + 1) % 2 ^ 24)
          ∧ (e.port p n).msgs = (d.port p n).msgs
          ∧ e.gf F.OPT_PORT_n_GRP_CNT.GROUPS p n = (d.gf F.OPT_PORT_n_GRP_CNT.GROUPS p n + 1) % 2 ^ 64
          ∧ Only [⟨.OPT_PORT_n_GRP_CNT, p, n, 0⟩, ⟨.OPT_PORT_n_CORR_CNT, p, n, 0⟩, ⟨.OPT_PORT_n_FEC_CNT, p, n, 0⟩] [.ports, .fab] d e)
  ∧ (∀ (p : Fin 6) (n : Fin 10) r w, Completes (.groupReceive p n r) (fun d => portExists p n = true ∧ (d.port p n).step = .up
        ∧ r.words.length = 16 ∧ 7 < (laneDecode (r.words.headD [])).2 ∧ (∀ x ∈ r.words.drop 1, (laneDecode x).2 ≤ 7)
        ∧ (d.port p n).waiting = false ∧ (d.port p n).expect = some w ∧ (d.port p n).unc = []) fun d e =>
        (e.port p n).rx = (d.port p n).rx ∧ (e.port p n).expect = some w ∧ (e.port p n).waiting = true
          ∧ (e.port p n).msgs = (d.port p n).msgs ++ [.replay ((w + 2 ^ 24 - 1) % 2 ^ 24)]
          ∧ (e.port p n).mail = (d.port p n).mail ++ [.replay ((w + 2 ^ 24 - 1) % 2 ^ 24)]
          ∧ Dev.counted F.OPT_PORT_n_FEC_CNT.UNCORR_CNT 1 p n d e ∧ e.gf F.OPT_PORT_n_STAT.LAST_CODE p n = Code.OPT_GROUP_BAD)
  ∧ (∀ (p : Fin 6) (n : Fin 10) (a : Fin 16777216) b m x, Completes (.replayRequest p n a true) (fun d => portExists p n = true
        ∧ x = d.port p n ∧ x.step = .up ∧ b = (x.gseq + 2 ^ 25 - 1 - a.val) % 2 ^ 24 ∧ 0 < b ∧ b ≤ x.buffer.length
        ∧ m = .resend ((x.gseq + 2 ^ 24 - b) % 2 ^ 24)) fun d e =>
        e.port p n = { x with again := x.buffer.drop (x.buffer.length - b), msgs := x.msgs ++ [m], mail := x.mail ++ [m] }
          ∧ Only [] [.ports] d e)
  ∧ (∀ (p : Fin 6) (n : Fin 10) (a : Fin 16777216) m x, Completes (.replayRequest p n a true) (fun d => portExists p n = true
        ∧ x = d.port p n ∧ x.step = .up ∧ x.buffer.length < (x.gseq + 2 ^ 25 - 1 - a.val) % 2 ^ 24
        ∧ m = .resend ((x.gseq + 2 ^ 24 - x.buffer.length) % 2 ^ 24)) fun d e =>
        e.port p n = { x with again := x.buffer, msgs := x.msgs ++ [m], mail := x.mail ++ [m] }
          ∧ Dev.counted F.OPT_PORT_n_FEC_CNT.MISS_CNT 1 p n d e ∧ e.gf F.OPT_PORT_n_STAT.LAST_CODE p n = Code.OPT_REPLAY_MISS)
  ∧ (∀ (p : Fin 6) (n : Fin 10) (a : Fin 16777216) b, Completes (.replayRequest p n a b) (fun d => b = false ∨ d.portRuns p n = false)
      fun d e => Only [] [] d e)
  ∧ (∀ (p : Fin 6) (n : Fin 10), Completes (.aprEntry p n) (fun d => portExists p n = true
        ∧ [OptStep.light, .lock, .align, .exchange, .qualify, .up, .keepAlive].contains (d.port p n).step = true) fun _ e =>
        (e.port p n).step = .apr ∧ (e.port p n).reduced = true ∧ (∀ c, c < 18 → (c ∈ (e.port p n).lit ↔ c = e.laneCh p n true 0))
          ∧ e.gf F.OPT_PORT_n_STAT.LAST_CODE p n = Code.OPT_APR ∧ e.gf F.OPT_FACE_STAT.APR p = 1)
  ∧ (∀ (p : Fin 6) (n : Fin 10), Completes (.aprLightReturn p n) (fun d => portExists p n = true ∧ (d.port p n).step = .apr)
      fun d e => (e.port p n).step = (if d.on F.OPT_PORT_n_CTRL.DOWN p n then .heldDown else if (d.port p n).calOk then .light else .dark)
        ∧ (n.val < 8 → Only [⟨.OPT_PORT_n_STAT, p, n, 0⟩, ⟨.OPT_FACE_STAT, p, 0, 0⟩] [.ports] d e))
  ∧ (∀ (p : Fin 6) (n : Fin 10) (c : Fin 18) l, Completes (.noLightOnChannel p n c) (fun d => portExists p n = true
        ∧ (d.port p n).step = .up ∧ d.laneOf p n false c = some l ∧ (d.port p n).swaps = []
        ∧ 0 < d.gf F.OPT_PORT_n_STAT.RX_SPARES p n
        ∧ (d.port p n).calOk = true ∧ d.on F.OPT_PORT_n_CTRL.DOWN p n = false) fun _ e =>
        (e.port p n).step = .light ∧ c.val ∈ (e.port p n).rxDead ∧ e.gf F.OPT_PORT_n_STAT.LANES_UP p n = 0
          ∧ getBits (e.reg ⟨.OPT_FACE_STAT, p, 0, 0⟩) (32 + n) (32 + n) = 0)
  ∧ (∀ (p : Fin 6) (n : Fin 10) (c : Fin 18), Completes (.noLightOnChannel p n c) (fun d => portExists p n = true
        ∧ d.laneOf p n false c = none) fun d e => Only [] [] d e)

/-- Each row completes on a port that exists. Monitor readings are stored, and the far end's edge power with them. A stage loss past its limit logs OPT_LOSS_HIGH.
The Heliostat stores bias and P_FIX_DELTA of a lit laser, starts a swap past the policy's limits, and a laser at its end of life is failed. A Seeing
window shows each channel's errors and clears them, and a channel at 23,800 takes the port out of service. A swap runs Choose, Light, Train, Mirror,
Switch and Retire, each at its event; without a spare it is refused. The lanes of a port that leaves P2 come back in one pass, and a
channel freed by RECAL takes its lane back. A mirror clean for a whole window is reported. The far end's commands move a receive lane, and its message of a
lane at DEGRADED starts a swap. SWAP and RECAL queue a swap where a spare
exists, and DOWN holds the port down or releases it.
Where the manual leaves a detail open, the clauses rest on the model's choices of log entries 34, 35 and 51. -/
def Obligations.OpticalSwaps : Prop :=
  (∀ (p : Fin 6) m, Completes (.monitorRefresh p [m]) (fun _ => portExists p m.port = true) fun d e =>
        e.gf F.OPT_PORT_n_POWER.MUX_OUT p m.port = w16 m.muxOut ∧ e.gf F.OPT_PORT_n_POWER.EDGE_OUT p m.port = w16 m.edgeOut
          ∧ e.gf F.OPT_PORT_n_POWER.DEMUX_IN p m.port = w16 m.demuxIn
          ∧ (∀ c x y z, c < 18 → m.chans[c]? = some (x, y, z) → e.gf F.OPT_PORT_n_CH_c_MON.LASER_TAP p m.port c = w16 x
            ∧ e.gf F.OPT_PORT_n_CH_c_MON.MOD_OUT p m.port c = w16 y ∧ e.gf F.OPT_PORT_n_CH_c_MON.PD p m.port c = w16 z)
          ∧ Only (⟨.OPT_PORT_n_POWER, p, m.port, 0⟩ :: (List.range 18).map fun c => ⟨.OPT_PORT_n_CH_c_MON, p, m.port, c⟩) [] d e)
  ∧ (∀ (p : Fin 6) (n : Fin 10) x, Completes (.edgePowerReport p n x) (fun d => portExists p n = true ∧ (d.port p n).step = .up)
      fun d e => e.gf F.OPT_PORT_n_POWER.FAR_EDGE_OUT p n = w16 x
        ∧ e.port p n = { d.port p n with
            msgs := (d.port p n).msgs ++ [.power (d.gf F.OPT_PORT_n_POWER.EDGE_OUT p n)]
            mail := (d.port p n).mail ++ [.power (d.gf F.OPT_PORT_n_POWER.EDGE_OUT p n)] }
        ∧ Only [⟨.OPT_PORT_n_POWER, p, n, 0⟩] [.ports] d e)
  ∧ (∀ (p : Fin 6) (n : Fin 10) c y, Completes (.lossCheck p) (fun d => (d.port p n).step = .up ∧ (d.port p n).cal = some c
        ∧ d.lossStage p n c = some y) fun d e =>
        e.gf F.OPT_PORT_n_STAT.LAST_CODE p n = Code.OPT_LOSS_HIGH ∧ e.isPending (640 + 8 * p.val + 2) = true ∧ e.ports = d.ports)
  ∧ (∀ (p : Fin 6), Completes (.lossCheck p) (fun d => ∀ n, n < 10 → (d.port p n).step ≠ .up) fun d e => Only [] [] d e)
  ∧ (∀ (p : Fin 6) (n : Fin 10) (c : Fin 18) b w eta i0 z, Completes (.heliostatAdjust p n c b w eta) (fun d => portExists p n = true
        ∧ c.val ∈ (d.port p n).lit ∧ i0 = d.gf F.OPT_PORT_n_CH_c_LASER.INIT_BIAS p n c
        ∧ Dev.pFixDelta w b eta i0 (NMap.get 0 (d.port p n).pref c) = some z ∧ -300 < z ∧ 2 * b < 3 * i0
        ∧ -(d.gf F.OPT_SPARE_POLICY.DROP_CDB p : Int) < z ∧ 100 * b ≤ i0 * d.gf F.OPT_SPARE_POLICY.BIAS_PCT p) fun d e =>
        e.gf F.OPT_PORT_n_CH_c_LASER.BIAS p n c = b % 2 ^ 16 ∧ e.gf F.OPT_PORT_n_CH_c_LASER.P_FIX_DELTA p n c = w16 z
          ∧ Only [⟨.OPT_PORT_n_CH_c_LASER, p, n, c⟩] [] d e)
  ∧ (∀ (p : Fin 6) (n : Fin 10) (c : Fin 18) b w eta i0 z l s, Completes (.heliostatAdjust p n c b w eta) (fun d =>
        portExists p n = true ∧ c.val ∈ (d.port p n).lit ∧ i0 = d.gf F.OPT_PORT_n_CH_c_LASER.INIT_BIAS p n c
        ∧ Dev.pFixDelta w b eta i0 (NMap.get 0 (d.port p n).pref c) = some z ∧ -300 < z ∧ 2 * b < 3 * i0
        ∧ z ≤ -(d.gf F.OPT_SPARE_POLICY.DROP_CDB p : Int) ∧ d.laneOf p n true c = some l ∧ (d.port p n).swaps = []
        ∧ d.spareOf p n = some s) fun d e =>
        (e.port p n).swaps = [{ lane := l }] ∧ Only [⟨.OPT_PORT_n_CH_c_LASER, p, n, c⟩] [.ports] d e)
  ∧ (∀ (p : Fin 6) (n : Fin 10) (c : Fin 18) b w eta l, Completes (.heliostatAdjust p n c b w eta) (fun d =>
        portExists p n = true ∧ c.val ∈ (d.port p n).lit ∧ 3 * d.gf F.OPT_PORT_n_CH_c_LASER.INIT_BIAS p n c ≤ 2 * b
        ∧ d.laneOf p n true c = some l ∧ (d.port p n).step = .up ∧ d.laserSt p n c ≠ 4) fun _ e =>
        e.laserSt p n c = 4 ∧ (e.port p n).step ≠ .up)
  ∧ (∀ (p : Fin 6) (n : Fin 10) (c : Fin 18) b w eta, Completes (.heliostatAdjust p n c b w eta)
      (fun d => c.val ∉ (d.port p n).lit) fun d e => Only [] [] d e)
  ∧ (∀ (p : Fin 6) (n : Fin 10), Completes (.seeingWindow p n) (fun d => portExists p n = true ∧ (d.port p n).step = .up
        ∧ d.gf F.OPT_PORT_n_STAT.LANES_UP p n = 16 ∧ (d.laneMap p n false).Nodup
        ∧ ((d.laneMap p n false).all fun c => decide (NMap.get 0 (d.port p n).errs c < 119)
          && decide (NMap.get 0 (d.port p n).errs c < d.gf F.OPT_SPARE_POLICY.DEGRADED_ERR p)) = true) fun d e =>
        (∀ c, c < 18 → e.gf F.OPT_PORT_n_CH_c_MON.ERR_1MS p n c = min 0xFFFF (NMap.get 0 (d.port p n).errs c)
            ∧ NMap.get 0 (e.port p n).errs c = 0)
          ∧ (∀ c ∈ d.laneMap p n false, NMap.get 0 (e.port p n).deg c = 0)
          ∧ (e.port p n).step = .up ∧ Only ((List.range 18).map fun c => ⟨.OPT_PORT_n_CH_c_MON, p, n, c⟩) [.ports] d e)
  ∧ (∀ (p : Fin 6) (n : Fin 10) l c, Completes (.seeingWindow p n) (fun d => portExists p n = true ∧ (d.port p n).step = .up
        ∧ d.gf F.OPT_PORT_n_STAT.LANES_UP p n = 16 ∧ (d.laneMap p n false).Nodup ∧ (d.port p n).rxMirror = some (l, c)
        ∧ ((d.laneMap p n false).all fun c => decide (NMap.get 0 (d.port p n).errs c < 119)
          && decide (NMap.get 0 (d.port p n).errs c < d.gf F.OPT_SPARE_POLICY.DEGRADED_ERR p)) = true) fun d e =>
        (e.port p n).mirrorBad = false
          ∧ (e.port p n).mail = (d.port p n).mail
              ++ (if (d.port p n).mirrorBad = true ∨ 119 ≤ NMap.get 0 (d.port p n).errs c then [] else [.qualified l c]))
  ∧ (∀ (p : Fin 6) (n : Fin 10) c, Completes (.seeingWindow p n) (fun d => portExists p n = true ∧ (d.port p n).step = .up
        ∧ d.gf F.OPT_PORT_n_STAT.LANES_UP p n = 1 ∧ c = d.laneCh p n false 0 ∧ 23800 ≤ NMap.get 0 (d.port p n).errs c) fun _ e =>
        (e.port p n).step ≠ .up ∧ c ∈ (e.port p n).rxDead ∧ e.gf F.OPT_PORT_n_STAT.LANES_UP p n = 0)
  ∧ (∀ (p : Fin 6) (n : Fin 10) w rest c, Completes (.spareSwapStart p n) (fun d => portExists p n = true ∧ (d.port p n).step = .up
        ∧ (d.port p n).swaps = w :: rest ∧ w.phase = 0 ∧ w.back = false ∧ d.spareOf p n = some c) fun d e =>
        (e.port p n).swaps = { w with phase := 1, old := d.laneCh p n true w.lane, spare := c } :: rest ∧ c ∈ (e.port p n).lit
          ∧ e.laserSt p n c = 2 ∧ e.gf F.OPT_PORT_n_STAT.SWAP p n = 1
          ∧ Only [⟨.OPT_PORT_n_STAT, p, n, 0⟩, ⟨.OPT_PORT_n_CH_c_LASER, p, n, c⟩] [.ports, .eph] d e)
  ∧ (∀ (p : Fin 6) (n : Fin 10) w rest, Completes (.spareSwapStart p n) (fun d => portExists p n = true ∧ (d.port p n).step = .up
        ∧ (d.port p n).swaps = w :: rest ∧ w.phase = 0 ∧ w.back = false ∧ d.spareOf p n = none) fun d e =>
        e.port p n = { d.port p n with swaps := rest } ∧ e.gf F.OPT_PORT_n_STAT.LAST_CODE p n = Code.OPT_SPARE_EXHAUSTED
          ∧ e.isPending (640 + 8 * p.val + 3) = true)
  ∧ (∀ (p : Fin 6) (n : Fin 10) w rest, Completes (.spareLightDone p n true) (fun d => portExists p n = true
        ∧ (d.port p n).swaps = w :: rest ∧ w.phase = 1) fun d e =>
        (e.port p n).swaps = { w with phase := 2 } :: rest
          ∧ (∀ c, c ∈ (e.port p n).lit ↔ c ∈ (d.port p n).lit ∨ (w.pass = true ∧ c ∈ (d.laneMap p n true).drop 1))
          ∧ Only [⟨.OPT_PORT_n_STAT, p, n, 0⟩] [.ports] d e)
  ∧ (∀ (p : Fin 6) (n : Fin 10) w rest, Completes (.spareTrainDone p n true) (fun d => portExists p n = true
        ∧ (d.port p n).swaps = w :: rest ∧ w.phase = 2 ∧ w.pass = true) fun d e =>
        e.port p n = { d.port p n with swaps := { w with phase := 4 } :: rest } ∧ Only [⟨.OPT_PORT_n_STAT, p, n, 0⟩] [.ports] d e)
  ∧ (∀ (p : Fin 6) (n : Fin 10) w rest, Completes (.swapSwitch p n) (fun d => portExists p n = true
        ∧ (d.port p n).swaps = w :: rest ∧ w.phase = 4 ∧ w.pass = true) fun d e =>
        e.port p n = { d.port p n with swaps := rest } ∧ e.gf F.OPT_PORT_n_STAT.LANES_UP p n = 16
          ∧ Only [⟨.OPT_PORT_n_STAT, p, n, 0⟩] [.ports] d e)
  ∧ (∀ (p : Fin 6) (n : Fin 10) w rest c, (c, w.phase) ∈ [(Instr.spareLightDone p n false, 1), (Instr.spareTrainDone p n false, 2)] →
      Completes c (fun d => portExists p n = true ∧ (d.port p n).swaps = w :: rest ∧ w.back = true ∧ w.pass = false) fun d e =>
        e.laserSt p n w.spare = 4 ∧ (e.port p n).swaps = rest ∧ w.spare ∉ (e.port p n).lit
          ∧ e.laneMap p n true = d.laneMap p n true)
  ∧ (∀ (p : Fin 6) (n : Fin 10) w rest, Completes (.spareTrainDone p n true) (fun d => portExists p n = true
        ∧ (d.port p n).swaps = w :: rest ∧ w.phase = 2 ∧ w.pass = false) fun d e =>
        (e.port p n).swaps = { w with phase := 3 } :: rest
          ∧ (e.port p n).mail = (d.port p n).mail ++ [.cmd .mirror w.lane w.spare (d.gf F.OPT_PORT_n_STAT.MAP_EPOCH p n)]
          ∧ Only [⟨.OPT_PORT_n_STAT, p, n, 0⟩] [.ports] d e)
  ∧ (∀ (p : Fin 6) (n : Fin 10) w rest, Completes (.mirrorQualified p n) (fun d => portExists p n = true
        ∧ (d.port p n).swaps = w :: rest ∧ w.phase = 3) fun d e =>
        (e.port p n).swaps = { w with phase := 4 } :: rest
          ∧ (e.port p n).mail = (d.port p n).mail
              ++ [.cmd .switch w.lane w.spare ((d.gf F.OPT_PORT_n_STAT.MAP_EPOCH p n + 1) % 16)]
          ∧ Only [⟨.OPT_PORT_n_STAT, p, n, 0⟩] [.ports] d e)
  ∧ (∀ (p : Fin 6) (n : Fin 10) w rest, Completes (.swapSwitch p n) (fun d => portExists p n = true
        ∧ (d.port p n).swaps = w :: rest ∧ w.phase = 4 ∧ w.pass = false ∧ w.lane < 16 ∧ w.spare < 18 ∧ w.spare ≠ w.old
        ∧ d.laserSt p n w.spare ≠ 4 ∧ d.laserSt p n w.old ≠ 4) fun d e =>
        (e.port p n).swaps = { w with phase := 5 } :: rest ∧ e.laneCh p n true w.lane = w.spare
          ∧ (∀ l, l < 16 → l ≠ w.lane → e.laneCh p n true l = d.laneCh p n true l)
          ∧ e.gf F.OPT_PORT_n_STAT.MAP_EPOCH p n = (d.gf F.OPT_PORT_n_STAT.MAP_EPOCH p n + 1) % 16
          ∧ e.laserSt p n w.spare = 0 ∧ e.laserSt p n w.old = 2)
  ∧ (∀ (p : Fin 6) (n : Fin 10) w rest c, Completes (.swapRetireDone p n (some c)) (fun d => portExists p n = true
        ∧ (d.port p n).swaps = w :: rest ∧ w.phase = 5 ∧ w.back = false ∧ w.recal = true ∧ d.laserSt p n w.old ≠ 4) fun d e =>
        (e.port p n).swaps = rest ++ [{ w with back := true, phase := 0, spare := w.old }] ∧ w.old ∉ (e.port p n).lit
          ∧ (e.port p n).cal = (d.port p n).cal.map (fun y => { y with chans := y.chans.set w.old c }))
  ∧ (∀ (p : Fin 6) (n : Fin 10) w rest cal, Completes (.swapRetireDone p n cal) (fun d => portExists p n = true
        ∧ (d.port p n).swaps = w :: rest ∧ w.phase = 5 ∧ w.back = false ∧ w.recal = false ∧ d.laserSt p n w.old ≠ 4) fun d e =>
        (e.port p n).swaps = rest ∧ e.laserSt p n w.old = 3 ∧ w.old ∉ (e.port p n).lit ∧ e.laneMap p n true = d.laneMap p n true
          ∧ e.gf F.OPT_PORT_n_STAT.LAST_CODE p n = Code.OPT_SPARE_SWAP ∧ e.isPending (640 + 8 * p.val + 1) = true)
  ∧ (∀ (p : Fin 6) (n : Fin 10) (l : Fin 16) (c : Fin 18), Completes (.swapCmdReceive p n .mirror l c) (fun _ => portExists p n = true)
      fun d e => e.port p n = { d.port p n with rxMirror := some (l.val, c.val), mirrorBad := true } ∧ Only [] [.ports] d e)
  ∧ (∀ (p : Fin 6) (n : Fin 10) (l : Fin 16) (c : Fin 18), Completes (.swapCmdReceive p n .abort l c) (fun _ => portExists p n = true)
      fun d e => e.port p n = { d.port p n with rxMirror := none } ∧ Only [] [.ports] d e)
  ∧ (∀ (p : Fin 6) (n : Fin 10) (l : Fin 16) (c : Fin 18), Completes (.swapCmdReceive p n .switch l c) (fun d => portExists p n = true
        ∧ (d.port p n).rxMirror = some (l.val, c.val) ∧ (d.port p n).rxRetired = []) fun d e =>
        e.laneCh p n false l = c.val ∧ (e.port p n).rxMirror = none ∧ (e.port p n).rxRetired = [d.laneCh p n false l]
          ∧ (e.port p n).msgs = (d.port p n).msgs ++ [.confirm l c] ∧ e.laneMap p n true = d.laneMap p n true)
  ∧ (∀ (p : Fin 6) (n : Fin 10) r g l, Completes (.groupReceive p n r) (fun d => portExists p n = true ∧ (d.port p n).step = .up
        ∧ r.words.length = 16 ∧ (∀ w ∈ r.words, (laneDecode w).2 ≤ 7) ∧ g = OptGroup.ofLanes (r.words.map fun w => (laneDecode w).1)
        ∧ g.crcOf = g.ctrl.crc ∧ g.ctrl.msgType = 2 ∧ l = g.ctrl.msgData ∧ l < 16 ∧ (∀ w ∈ (d.port p n).swaps, w.lane ≠ l)
        ∧ d.spareOf p n ≠ none) fun d e => (e.port p n).swaps = (d.port p n).swaps ++ [{ lane := l }])
  ∧ (∀ (p : Fin 6) (n : Fin 10) (l : Fin 16) c r, (c, r) ∈ [(Instr.portSwap p n l, false), (Instr.recal p n l, true)] → Completes c
      (fun d => portExists p n = true ∧ d.accepts ⟨.OPT_PORT_n_CTRL, p, n, 0⟩ = true ∧ (d.spareOf p n).isSome = true) fun d e =>
        e.port p n = { d.port p n with swaps := (d.port p n).swaps ++ [{ lane := l, recal := r }] }
          ∧ e.gf F.OPT_PORT_n_CTRL.LANE p n = l.val ∧ Dev.did [⟨.OPT_PORT_n_CTRL, p, n, 0⟩] [.ports] d e)
  ∧ (∀ (p : Fin 6) (n : Fin 10) (l : Fin 16) c, c ∈ [Instr.portSwap p n l, Instr.recal p n l] → Completes c
      (fun d => portExists p n = true ∧ d.accepts ⟨.OPT_PORT_n_CTRL, p, n, 0⟩ = true ∧ d.spareOf p n = none) fun d e =>
        e.gf F.OPT_PORT_n_STAT.LAST_CODE p n = Code.OPT_SPARE_EXHAUSTED ∧ e.ports = d.ports
          ∧ e.isPending (640 + 8 * p.val + 3) = true)
  ∧ (∀ (p : Fin 6) (n : Fin 10) v, Completes (.portDownWrite p n v) (fun d => portExists p n = true
        ∧ d.accepts ⟨.OPT_PORT_n_CTRL, p, n, 0⟩ = true ∧ getBits v 2 0 = 1 ∧ d.on F.OPT_PORT_n_CTRL.DOWN p n = false
        ∧ (d.port p n).step ≠ .calibrate) fun _ e =>
        e.on F.OPT_PORT_n_CTRL.DOWN p n = true ∧ (e.port p n).step = .heldDown ∧ (∀ c, c < 18 → c ∉ (e.port p n).lit))
  ∧ (∀ (p : Fin 6) (n : Fin 10) v, Completes (.portDownWrite p n v) (fun d => portExists p n = true
        ∧ d.accepts ⟨.OPT_PORT_n_CTRL, p, n, 0⟩ = true ∧ getBits v 2 0 = 0 ∧ d.on F.OPT_PORT_n_CTRL.DOWN p n = true
        ∧ (d.port p n).step = .heldDown) fun d e =>
        e.on F.OPT_PORT_n_CTRL.DOWN p n = false ∧ (e.port p n).step = (if (d.port p n).calOk then .light else .dark))

/-- Each row completes. VALID takes a sound configuration, with INSTANCE 0 and STATE idle, and refuses another; a busy slot drops every configuration write.
The next instance of a slot faults its core by the checks of R386, R391 and R412, or enters; in a LIST a member that is not the keeper then sends its signature
to the keeper. It waits while another runs. Once all its output is written and all its packets are acknowledged its status block is written with VALID 1, DONE
rises and the slot is ready for the next; an aborted instance writes VALID 0 with its code, faults its core, and closes the slot where R412 says
so. ABORT stops the running instance or closes the slot. A packet without an acknowledgement is resent, and at the end of its
retries it aborts the instance, or a MULTICAST counts its member as not reached.
Where the manual leaves a detail open, the clauses rest on the model's choices of log entries 36, 37, 38, 39, 47 and
48. -/
def Obligations.CollectiveInstances : Prop :=
  (∀ (n : Fin 256) v errs, Completes (.colGroupValidWrite n v errs) (fun d => d.accepts ⟨.COL_GROUP_n_CFG, 0, n, 0⟩ = true
        ∧ d.slotBusy n = true) fun d e => Dev.did [] [] d e)
  ∧ (∀ (n : Fin 256) v l m,
      Completes (.colGroupValidWrite n v []) (fun d => d.accepts ⟨.COL_GROUP_n_CFG, 0, n, 0⟩ = true ∧ d.slotBusy n = false
        ∧ getBits v 63 63 = 1 ∧ l = (if getBits v 62 62 = 1 then d.listTable n else [])
        ∧ (getBits v 62 62 = 1 → ∃ t k, d.tableRange n = some (t, k) ∧ d.hbmFree t k false = true)
        ∧ m = d.configured n v l ∧ m.groupOk n = true) (fun d e =>
        e.reg ⟨.COL_GROUP_n_CFG, 0, n, 0⟩ = m.reg ⟨.COL_GROUP_n_CFG, 0, n, 0⟩ ∧ e.colls = m.colls
          ∧ e.gf F.COL_GROUP_n_STAT.INSTANCE 0 n = 0 ∧ e.gf F.COL_GROUP_n_STAT.STATE 0 n = 0
          ∧ m.rankOf n d.self = some (e.gf F.COL_GROUP_n_STAT.RANK 0 n) ∧ e.gf F.COL_GROUP_n_CTRL.CLOSE_CODE 0 n = 0
          ∧ Dev.did [⟨.COL_GROUP_n_CFG, 0, n, 0⟩, ⟨.COL_GROUP_n_STAT, 0, n, 0⟩, ⟨.COL_GROUP_n_CTRL, 0, n, 0⟩]
              [.colls, .mem, .reg .MSC_HIT_CNT, .reg .MSC_MISS_CNT] d e)
      ∧ Completes (.colGroupValidWrite n v []) (fun d => d.accepts ⟨.COL_GROUP_n_CFG, 0, n, 0⟩ = true ∧ d.slotBusy n = false
        ∧ getBits v 63 63 = 1 ∧ l = (if getBits v 62 62 = 1 then d.listTable n else [])
        ∧ (getBits v 62 62 = 1 → ∃ t k, d.tableRange n = some (t, k) ∧ d.hbmFree t k false = true)
        ∧ m = d.configured n v l ∧ m.groupOk n = false) (fun d e =>
        e.on F.COL_GROUP_n_CFG.VALID 0 n = false
          ∧ Dev.did [⟨.COL_GROUP_n_CFG, 0, n, 0⟩] [.colls, .mem, .reg .MSC_HIT_CNT, .reg .MSC_MISS_CNT] d e))
  ∧ (∀ (n : Fin 256) v errs, Completes (.colGroupValidWrite n v errs) (fun d => d.accepts ⟨.COL_GROUP_n_CFG, 0, n, 0⟩ = true
        ∧ d.slotBusy n = false ∧ getBits v 63 63 = 1 ∧ getBits v 62 62 = 1 ∧ d.tableRange n = none) fun d e =>
        e.on F.COL_GROUP_n_CFG.VALID 0 n = false ∧ Dev.did [⟨.COL_GROUP_n_CFG, 0, n, 0⟩] [.colls] d e)
  ∧ (∀ (n : Fin 256) v errs, Completes (.colGroupValidWrite n v errs) (fun d => d.accepts ⟨.COL_GROUP_n_CFG, 0, n, 0⟩ = true
        ∧ d.slotBusy n = false ∧ getBits v 63 63 = 0) fun d e =>
        e.on F.COL_GROUP_n_CFG.VALID 0 n = false ∧ Dev.did [⟨.COL_GROUP_n_CFG, 0, n, 0⟩] [] d e)
  ∧ (∀ (n : Fin 256) (x : Fin 4) v r, [(0, RegName.COL_GROUP_n_BOX), (1, .COL_GROUP_n_LIST), (2, .COL_GROUP_n_ROLE),
        (3, .COL_GROUP_n_RXBUF)].contains (x.val, r) = true →
      Completes (.colConfigWrite n x v) (fun d => d.accepts ⟨r, 0, n, 0⟩ = true ∧ d.slotBusy n = true) (fun d e => Dev.did [] [] d e)
      ∧ Completes (.colConfigWrite n x v) (fun d => d.accepts ⟨r, 0, n, 0⟩ = true ∧ d.slotBusy n = false) fun d e =>
        (∀ f ∈ r.fields, getBits (e.reg ⟨r, 0, n, 0⟩) f.hi f.lo = getBits v f.hi f.lo) ∧ Dev.did [⟨r, 0, n, 0⟩] [] d e)
  ∧ (∀ (n : Fin 256) ecc src ks errs, Completes (.collInstanceStart n ecc errs src ks) (fun d => NMap.get [] d.collq n = []
        ∨ (d.runOf n).isSome = true) fun d e => Only [] [] d e)
  ∧ (∀ (n : Fin 256) ecc src ks errs i rest, Completes (.collInstanceStart n ecc errs src ks) (fun d => NMap.get [] d.collq n = i :: rest
        ∧ d.runOf n = none ∧ (d.on F.COL_GROUP_n_CFG.VALID 0 n = false ∨ d.gf F.COL_GROUP_n_CFG.HOME_CORE 0 n ≠ i.core)
        ∧ (d.core i.core).faulted = false) fun d e => ∃ m : Dev, e = m.kick i.core
          ∧ Dev.collFaulted i Code.DMA_REMOTE_ERROR Code.COLL_GROUP_INVALID m ∧ NMap.get [] m.collq n = rest
          ∧ ∀ k b, m.cell k b = d.cell k b)
  ∧ (∀ (n : Fin 256) src ks errs i b y code detail, Completes (.collInstanceStart n .ok errs src ks) (fun d => d.collNext n i b y = true
        ∧ (d.core i.core).faulted = false
        ∧ (code, detail) = (if d.gf F.COL_GROUP_n_CTRL.CLOSE_CODE 0 n ≠ 0 ∧ y.op ≠ 6 then
            (Code.DMA_REMOTE_ERROR, d.gf F.COL_GROUP_n_CTRL.CLOSE_CODE 0 n)
          else if collBadDesc y b (d.geo n) (collAlgo y (d.gf F.COL_CTRL.TREE_MAX_LOG2) (d.geo n).list) = true then (Code.DMA_BAD_DESC, 0)
          else if y.order = true ∧ i.ndet = false then (Code.CORE_NDET_REQUIRED, 0)
          else if (srcBytes y (d.geo n) ≠ 0 ∧ d.bufferOk y.src (srcBytes y (d.geo n)) = false)
              ∨ (dstBytes y (d.geo n) ≠ 0 ∧ d.bufferOk y.dst (dstBytes y (d.geo n)) = false) then
            (Code.DMA_REMOTE_ERROR, Code.GAS_ADDR_ERROR)
          else if srcBytes y (d.geo n) ≠ 0 ∧ d.areaOf y.src (srcBytes y (d.geo n)) = some .sram ∧ src = .uncorrectable then
            (Code.CORE_STORE_UNCORRECTABLE, 0)
          else (0, 0)) ∧ code ≠ 0) fun d e => ∃ m : Dev, e = m.kick i.core
          ∧ Dev.collFaulted i code detail m ∧ m.runOf n = none
          ∧ m.gf F.COL_GROUP_n_STAT.INSTANCE 0 n = (d.gf F.COL_GROUP_n_STAT.INSTANCE 0 n + 1) % 2 ^ 24
          ∧ (∀ k c, m.cell k c = d.cell k c) ∧ m.hbm = d.hbm ∧ m.injected = d.injected)
  ∧ (∀ (n : Fin 256) src ks errs i rest, Completes (.collInstanceStart n .uncorrectable errs src ks) (fun d => NMap.get [] d.collq n = i :: rest
        ∧ d.runOf n = none ∧ d.on F.COL_GROUP_n_CFG.VALID 0 n = true ∧ d.gf F.COL_GROUP_n_CFG.HOME_CORE 0 n = i.core
        ∧ (d.core i.core).faulted = false) fun _ e => ∃ m : Dev, e = m.kick i.core
          ∧ Dev.collFaulted i Code.CORE_STORE_UNCORRECTABLE 0 m ∧ m.runOf n = none)
  ∧ (∀ (n : Fin 256) ecc src ks errs i b y a, ecc ≠ .uncorrectable → src ≠ .uncorrectable → Completes (.collInstanceStart n ecc errs src ks) (fun d =>
        d.collGood n i b y a = true) fun d e =>
        ∃ r, e.runOf n = some r ∧ r.inst = i ∧ r.desc = y ∧ r.algo = a ∧ r.num = d.gf F.COL_GROUP_n_STAT.INSTANCE 0 n)
  ∧ (∀ (n : Fin 256) src i b y a, Completes (.collInstanceStart n .ok [] src []) (fun d => d.collGood n i b y a = true
        ∧ srcBytes y (d.geo n) = 0 ∧ y.op = 3 ∧ d.isList n = true ∧ (d.geo n).rank ≠ (d.geo n).keeper
        ∧ (d.collSlot n).early = [] ∧ d.memberDev n (d.geo n).keeper ≠ d.self ∧ d.on F.XFB_TABLE_CTRL.DRAIN = false) fun d e =>
        (∃ r, e.runOf n = some r ∧ r.phase = .agree) ∧ e.gf F.COL_GROUP_n_STAT.STATE 0 n = 1
          ∧ (∃ q, e.injected = d.injected ++ [q] ∧ q.type = PT.coll ∧ q.vc = 1 ∧ q.dst = d.memberDev n (d.geo n).keeper
            ∧ q.cKind = 1 ∧ q.cStage = 0 ∧ q.cInst = d.gf F.COL_GROUP_n_STAT.INSTANCE 0 n
            ∧ (Dev.agreeVal y q (d.geo n).rank).sig = some (d.sigOf n (d.gf F.COL_GROUP_n_STAT.INSTANCE 0 n) y))
          ∧ Only [⟨.COL_GROUP_n_STAT, 0, n, 0⟩, ⟨.CORE_COLL_REC, i.core, 0, 0⟩] [.colls, .injected, .nextMsg] d e)
  ∧ (∀ (n : Fin 256) r, Completes (.collStatusWrite n) (fun d => d.runOf n = some r ∧ r.phase = .move ∧ r.need = 0 ∧ r.sends = []
        ∧ d.collOpen n r.inst = 0 ∧ r.inst.core < 128 ∧ r.desc.status + 64 ≤ 2 ^ 23) fun d e => ∃ m : Dev, e = m.kick r.inst.core
          ∧ m.rdStore r.inst.core r.desc.status 64 = d.statusBlock r true 0
          ∧ (∀ a, a < r.inst.core * 2 ^ 23 + r.desc.status ∨ r.inst.core * 2 ^ 23 + r.desc.status + 64 ≤ a →
              m.coreByte a = d.coreByte a)
          ∧ m.gf F.COL_GROUP_n_DONE.COUNT 0 n = (d.gf F.COL_GROUP_n_DONE.COUNT 0 n + 1) % 2 ^ 64
          ∧ m.gf F.COL_GROUP_n_STAT.INSTANCE 0 n = (d.gf F.COL_GROUP_n_STAT.INSTANCE 0 n + 1) % 2 ^ 24
          ∧ m.gf F.COL_GROUP_n_STAT.STATE 0 n = (if d.gf F.COL_GROUP_n_CTRL.CLOSE_CODE 0 n = 0 then 0 else 4)
          ∧ m.runOf n = none ∧ NMap.get [] m.collq n = (NMap.get [] d.collq n).drop 1
          ∧ m.queue r.inst.core 7 = (d.queue r.inst.core 7).map fun z => if z.seq = r.inst.seq then { z with done := true } else z)
  ∧ (∀ (n : Fin 256) r code, Completes (.collStatusWrite n) (fun d => d.runOf n = some r ∧ r.phase = .abort code
        ∧ (d.core r.inst.core).faulted = false ∧ code < 2 ^ 16 ∧ r.inst.core < 128 ∧ r.desc.status + 64 ≤ 2 ^ 23)
      fun d e => ∃ m : Dev, e = m.kick r.inst.core
          ∧ m.rdStore r.inst.core r.desc.status 64 = d.statusBlock r false code
          ∧ Dev.collFaulted r.inst Code.DMA_REMOTE_ERROR code m ∧ m.runOf n = none
          ∧ m.gf F.COL_GROUP_n_DONE.COUNT 0 n = d.gf F.COL_GROUP_n_DONE.COUNT 0 n
          ∧ (code ∈ [Code.GROUP_MEMBER_LOST, Code.COLL_ABORTED, Code.COLL_TRANSFER_FAILED] →
              m.gf F.COL_GROUP_n_STAT.STATE 0 n = 4 ∧ m.gf F.COL_GROUP_n_CTRL.CLOSE_CODE 0 n = code)
          ∧ (code ∈ [Code.COLL_SIGNATURE_MISMATCH, Code.COLL_RESIDUE_ERROR] → d.gf F.COL_GROUP_n_CTRL.CLOSE_CODE 0 n = 0 →
              m.gf F.COL_GROUP_n_STAT.STATE 0 n = 0))
  ∧ (∀ (n : Fin 256), Completes (.collStatusWrite n) (fun d => d.runOf n = none) fun d e => Only [] [] d e)
  ∧ (∀ (n : Fin 256), Completes (.collAbort n) (fun d => d.accepts ⟨.COL_GROUP_n_CTRL, 0, n, 0⟩ = true
        ∧ d.on F.COL_GROUP_n_CFG.VALID 0 n = true ∧ d.runOf n = none) fun d e =>
        e.gf F.COL_GROUP_n_STAT.STATE 0 n = 4 ∧ e.gf F.COL_GROUP_n_CTRL.CLOSE_CODE 0 n = Code.COLL_ABORTED
          ∧ Dev.did [⟨.COL_GROUP_n_STAT, 0, n, 0⟩, ⟨.COL_GROUP_n_CTRL, 0, n, 0⟩] [.inside, .injected, .held, .nextMsg] d e)
  ∧ (∀ (n : Fin 256) r, Completes (.collAbort n) (fun d => d.accepts ⟨.COL_GROUP_n_CTRL, 0, n, 0⟩ = true
        ∧ d.on F.COL_GROUP_n_CFG.VALID 0 n = true ∧ d.runOf n = some r ∧ (r.phase = .agree ∨ r.phase = .move)) fun d e =>
        Dev.collStopped n Code.COLL_ABORTED none r d e)
  ∧ (∀ msg o r, Completes (.collPacketTimeout msg o) (fun d => d.collTimed msg o = some r ∧ r.pkt.attempt < r.retries
        ∧ r.pkt.route ≠ 2 ∧ r.pkt.dst ≠ d.self ∧ d.waitsAtInjection r.pkt = false) fun d e =>
        e.reqs = d.reqs.erase r ++ [{ r with
            pkt := e.stamp { r.pkt with attempt := r.pkt.attempt + 1 }, firstIssue := some (r.firstIssue.getD d.chrono) }]
          ∧ e.injected = d.injected ++ [e.stamp { r.pkt with attempt := r.pkt.attempt + 1 }]
          ∧ Dev.counted F.GAS_ERR_CNT.RETRY_CNT 1 0 0 d e ∧ Only [⟨.GAS_ERR_CNT, 0, 0, 0⟩] [.reqs, .injected] d e)
  ∧ (∀ msg o r x, Completes (.collPacketTimeout msg o) (fun d => d.collTimed msg o = some r ∧ r.retries ≤ r.pkt.attempt ∧ r.pkt.cOp ≠ 6
        ∧ d.runOf r.saddr = some x ∧ x.phase = .move) fun d e =>
        Dev.collStopped r.saddr Code.COLL_TRANSFER_FAILED (some r.pkt.dst) x d e)
  ∧ (∀ msg o r x k, Completes (.collPacketTimeout msg o) (fun d => d.collTimed msg o = some r ∧ r.retries ≤ r.pkt.attempt ∧ r.pkt.cOp = 6
        ∧ d.runOf r.saddr = some x ∧ x.algo = .mcast ∧ x.num % 2 ^ 24 = r.pkt.cInst ∧ d.isList r.saddr = true
        ∧ d.rankOf r.saddr r.pkt.origin = some (d.geo r.saddr).rank ∧ d.rankOf r.saddr r.pkt.dst = some k ∧ k ∈ x.kids) fun d e =>
        e.runOf r.saddr = some { x with kids := x.kids.erase k, missed := x.missed + 1, need := x.need - 1 }
          ∧ Only [] [.reqs, .colls] d e)
  ∧ (∀ msg o, Completes (.collPacketTimeout msg o) (fun d => d.collTimed msg o = none) fun d e => Only [] [] d e)

/-- Each row completes. A packet of a phase that this member has not reached is kept, and data is acknowledged. A contribution is collected until the line's
are all there; a mismatch ends the instance untouched, and equal signatures start the data phase. DIRECT data is written at its sender's block. A MULTICAST is stored in the receive buffer and
counted, or not taken when it does not fit. Data of an aborted instance is discarded. An abort marker stops the running instance with its code or closes the slot; a
WAITING marker and a missing input name the slow member. Counts of members go up the tree. A barrier counts its arrivals at the
keeper, which releases it; a release or a mismatch ends it at a member.
Where the manual leaves a detail open, the clauses rest on the model's choices of log entries 36, 37, 38, 39, 47 and
48. -/
def Obligations.CollectivePackets : Prop :=
  (∀ p ks errs n, Completes (.collAgreement p ks errs) (fun d => d.collFor p 1 = some n ∧ p.cOp ≠ 5 ∧ d.runOf n = none) fun d e =>
        Dev.keptEarly n p d e ∧ Only [] [.colls, .inside, .injected] d e)
  ∧ (∀ p ks errs n r k v dim, Completes (.collAgreement p ks errs) (fun d => d.collIn p 1 n r k = true ∧ p.cOp ≠ 5
        ∧ r.phase = .agree ∧ (r.algo ≠ .ll ∨ r.desc.op ≠ 0) ∧ d.isList n = false ∧ v = Dev.agreeVal r.desc p k
        ∧ Dev.llFind r v.stage k = none ∧ r.waiting = [] ∧ (d.geo n).active[r.stage]? = some dim
        ∧ ((d.geo n).line dim).any (fun j => (decide (j ≠ k) || decide (v.stage ≠ r.stage)) && (Dev.llFind r r.stage j).isNone) = true
        ∧ (d.collSlot n).early = []) fun d e =>
        e.runOf n = some { r with vals := r.vals ++ [v] }
          ∧ Only [⟨.COL_GROUP_n_STAT, 0, n, 0⟩] [.colls, .inside, .injected] d e)
  ∧ (∀ p ks errs n r k v dim vs, Completes (.collAgreement p ks errs) (fun d => d.collIn p 1 n r k = true ∧ p.cOp ≠ 5
        ∧ r.phase = .agree ∧ (r.algo ≠ .ll ∨ r.desc.op ≠ 0) ∧ d.isList n = false ∧ v = Dev.agreeVal r.desc p k
        ∧ Dev.llFind r v.stage k = none ∧ (d.geo n).active[r.stage]? = some dim ∧ r.stage + 1 = (d.geo n).active.length
        ∧ vs = ((d.geo n).line dim).filterMap (fun j => Dev.llFind { r with vals := r.vals ++ [v] } r.stage j)
        ∧ vs.length = ((d.geo n).line dim).length ∧ (vs.map fun w => w.sig) ≠ List.replicate vs.length (vs.headD v).sig
        ∧ k ≠ (d.geo n).rank ∧ Dev.llFind r (r.stage + 1) (d.geo n).rank = none) fun d e =>
        (∃ r', e.runOf n = some r' ∧ r'.phase = .abort Code.COLL_SIGNATURE_MISMATCH)
          ∧ e.gf F.COL_GROUP_n_STAT.STATE 0 n = 3 ∧ e.hbm = d.hbm ∧ e.coreStore = d.coreStore ∧ e.clusterStore = d.clusterStore)
  ∧ (∀ p ks errs n r k v, Completes (.collAgreement p ks errs) (fun d => d.collIn p 1 n r k = true ∧ p.cOp ≠ 5
        ∧ r.phase = .agree ∧ r.algo = .tree ∧ r.desc.op = 3 ∧ r.desc.root ≠ (d.geo n).rank ∧ d.isList n = true
        ∧ k = (d.geo n).keeper ∧ (d.geo n).rank ≠ k ∧ v = Dev.agreeVal r.desc p k ∧ v.stage = 1 ∧ Dev.llFind r 1 k = none
        ∧ (d.collSlot n).early = []) fun d e =>
        (v.sig.isSome = true → (∃ r', e.runOf n = some r' ∧ r'.phase = .move ∧ r'.need = r.desc.count)
            ∧ e.gf F.COL_GROUP_n_STAT.STATE 0 n = 2
            ∧ Only [⟨.COL_GROUP_n_STAT, 0, n, 0⟩, ⟨.CORE_COLL_REC, r.inst.core, 0, 0⟩] [.colls, .inside, .injected] d e)
          ∧ (v.sig = none → (∃ r', e.runOf n = some r' ∧ r'.phase = .abort Code.COLL_SIGNATURE_MISMATCH)
            ∧ e.gf F.COL_GROUP_n_STAT.STATE 0 n = 3 ∧ e.hbm = d.hbm))
  ∧ (∀ p ks errs n, Completes (.collData p ks errs) (fun d => d.collFor p 0 = some n ∧ p.cOp ≠ 6 ∧ d.runOf n = none) fun d e =>
        Dev.keptEarly n p d e ∧ Dev.collAckedIn p d e ∧ Only [] [.colls, .inside, .injected, .held] d e)
  ∧ (∀ p ks errs n r k c, Completes (.collData p ks errs) (fun d => d.collIn p 0 n r k = true ∧ p.cOp ≠ 6 ∧ r.phase = .abort c
        ∧ (d.bufWaits r.desc.dst (Dev.dstCount r.desc (d.geo n).p * elemBytes r.desc.dtype) true).1 = false) fun d e =>
        Dev.collAckedIn p d e ∧ Only [] [.inside, .injected, .held] d e)
  ∧ (∀ p ks n r k w o, Completes (.collData p ks []) (fun d => d.collIn p 0 n r k = true ∧ p.cOp ≠ 6 ∧ r.phase = .move
        ∧ r.algo = .direct ∧ r.desc.op = 4 ∧ w = elemBytes r.desc.dtype ∧ p.payload.length % w = 0
        ∧ (d.bufWaits r.desc.dst (Dev.dstCount r.desc (d.geo n).p * w) true).1 = false
        ∧ r.seen.contains (p.cStage, k, p.offset / w) = false
        ∧ o = r.desc.dst + w * (k * r.desc.count + p.offset / w) ∧ o < 0x100000000000
        ∧ d.hbmFree o p.payload.length true = true) fun d e =>
        Dev.hbmTakes o p.payload d e ∧ Dev.collAckedIn p d e
          ∧ ∃ r', e.runOf n = some r' ∧ r'.need = r.need - p.payload.length / w
            ∧ r'.seen = r.seen ++ [(p.cStage, k, p.offset / w)])
  ∧ (∀ p ks n k h c o, Completes (.collData p ks []) (fun d => d.collFor p 0 = some n ∧ p.cOp = 6 ∧ d.isList n = true
        ∧ d.rankOf n p.origin = some k ∧ d.castOf n k p.cInst = none ∧ d.occulted = false
        ∧ p.offset = 0 ∧ p.total = p.payload.length ∧ 0 < p.total ∧ p.total ≤ 4096 * d.gf F.COL_GROUP_n_RXBUF.RX_PAGES 0 n
        ∧ o = d.gf F.COL_GROUP_n_RXBUF.ADDR 0 n ∧ d.hbmFree o p.total true = true ∧ o < 0x100000000000
        ∧ h = d.gf F.COL_GROUP_n_CFG.HOME_CORE 0 n ∧ c = d.gf F.COL_GROUP_n_ROLE.RX_COUNTER 0 n
        ∧ d.copying h = false ∧ d.judge h c 1 = .applied) fun d e =>
        Dev.hbmTakes o p.payload d e ∧ e.cntC h c = (d.cntC h c + 1) % 2 ^ 48)
  ∧ (∀ p ks errs n k, Completes (.collData p ks errs) (fun d => d.collFor p 0 = some n ∧ p.cOp = 6 ∧ d.isList n = true
        ∧ d.rankOf n p.origin = some k ∧ d.castOf n k p.cInst = none
        ∧ (d.bufWaits (d.gf F.COL_GROUP_n_RXBUF.ADDR 0 n + p.offset) p.payload.length true).1 = false
        ∧ 4096 * d.gf F.COL_GROUP_n_RXBUF.RX_PAGES 0 n < p.total) fun d e =>
        Only [] ([.colls, .inside, .injected, .held, .nextMsg] ++ logParts) d e)
  ∧ (∀ p n r k, Completes (.collAbortMarker p) (fun d => d.collIn p 2 n r k = true ∧ (r.phase = .agree ∨ r.phase = .move)) fun d e =>
        Dev.collStopped n (leNat p.payload % 65536) none r d e)
  ∧ (∀ p n code, Completes (.collAbortMarker p) (fun d => d.collFor p 2 = some n ∧ d.runOf n = none
        ∧ code = leNat p.payload % 65536 ∧ code ∈ [Code.GROUP_MEMBER_LOST, Code.COLL_ABORTED, Code.COLL_TRANSFER_FAILED]
        ∧ p.cInst = d.gf F.COL_GROUP_n_STAT.INSTANCE 0 n) fun d e =>
        e.gf F.COL_GROUP_n_STAT.STATE 0 n = 4 ∧ e.gf F.COL_GROUP_n_CTRL.CLOSE_CODE 0 n = code
          ∧ Only [⟨.COL_GROUP_n_STAT, 0, n, 0⟩, ⟨.COL_GROUP_n_CTRL, 0, n, 0⟩] ([.inside, .injected, .held, .nextMsg] ++ logParts) d e)
  ∧ (∀ p n r k dev, Completes (.collWaitingMarker p) (fun d => d.collIn p 3 n r k = true ∧ dev = leNat p.payload % 2 ^ 18
        ∧ r.waiting = [] ∧ d.on F.COL_GROUP_n_STAT.WAITING_VALID 0 n = false ∧ d.suspects.length < 256) fun d e =>
        e.runOf n = some { r with waiting := [(k, dev)] } ∧ e.on F.COL_GROUP_n_STAT.WAITING_VALID 0 n = true
          ∧ e.gf F.COL_GROUP_n_STAT.WAITING_ON 0 n = dev ∧ e.isPending 579 = true
          ∧ (dev ≠ d.self → ∃ s ∈ e.suspects, s.dev = dev)
          ∧ Only [⟨.COL_GROUP_n_STAT, 0, n, 0⟩, ⟨.INT_PEND_SET_k, 0, 9, 0⟩, ⟨.SAFE_AGG_STAT, 0, 0, 0⟩]
              ([.colls, .inside, .injected, .suspects] ++ logParts) d e)
  ∧ (∀ (n : Fin 256) r k, Completes (.stragglerTimeout n) (fun d => d.runOf n = some r ∧ (d.missing n).min? = some k
        ∧ r.waiting = [] ∧ d.on F.COL_GROUP_n_STAT.WAITING_VALID 0 n = false ∧ d.suspects.length < 256) fun d e =>
        e.on F.COL_GROUP_n_STAT.WAITING_VALID 0 n = true ∧ e.gf F.COL_GROUP_n_STAT.WAITING_ON 0 n = d.memberDev n k % 2 ^ 18
          ∧ e.isPending 579 = true ∧ e.runOf n = some r
          ∧ (∀ j ∈ d.heldBack n, ∃ q ∈ e.inside ++ e.held ++ e.injected,
              q.type = PT.coll ∧ q.cKind = 3 ∧ q.dst = d.memberDev n j)
          ∧ Only [⟨.COL_GROUP_n_STAT, 0, n, 0⟩, ⟨.INT_PEND_SET_k, 0, 9, 0⟩, ⟨.SAFE_AGG_STAT, 0, 0, 0⟩]
              ([.inside, .injected, .held, .nextMsg, .suspects] ++ logParts) d e)
  ∧ (∀ (n : Fin 256), Completes (.stragglerTimeout n) (fun d => d.runOf n = none ∨ d.missing n = []) fun d e => Only [] [] d e)
  ∧ (∀ p n r k a b, Completes (.collMulticastAck p) (fun d => d.collIn p 4 n r k = true ∧ r.algo = .mcast
        ∧ d.rankOf n p.origin = some (d.geo n).rank ∧ k ∈ r.kids
        ∧ a = leNat (p.payload.take 4) ∧ b = leNat ((p.payload.drop 4).take 4)) fun d e =>
        e.runOf n = some { r with kids := r.kids.erase k, reached := r.reached + a, missed := r.missed + b, need := r.need - (a + b) }
          ∧ Only [] [.colls, .inside, .injected] d e)
  ∧ (∀ p n c, (c, p.cStage) ∈ [(Instr.barrierArrival p, 0), (Instr.barrierRelease p, 1)] → Completes c (fun d => d.collFor p 1 = some n
        ∧ p.cOp = 5 ∧ d.runOf n = none) fun d e => Dev.keptEarly n p d e ∧ Only [] [.colls, .inside, .injected] d e)
  ∧ (∀ p n r k v vs, Completes (.barrierArrival p) (fun d => d.collIn p 1 n r k = true ∧ p.cOp = 5 ∧ p.cStage = 0
        ∧ r.algo = .barrier ∧ r.phase = .agree ∧ r.stage = 0 ∧ (d.geo n).rank = (d.geo n).keeper ∧ k ∈ Dev.barrierKids (d.geo n)
        ∧ Dev.llFind r 0 k = none ∧ v = { Dev.agreeVal r.desc p k with stage := 0 }
        ∧ vs = ((d.geo n).rank :: Dev.barrierKids (d.geo n)).filterMap (fun j => Dev.llFind { r with vals := r.vals ++ [v] } 0 j)
        ∧ (vs.map fun w => w.sig) = List.replicate vs.length v.sig ∧ v.sig.isSome = true ∧ (vs.map fun w => w.count).sum ≤ (d.geo n).p
        ∧ (vs.length = 1 + (Dev.barrierKids (d.geo n)).length ↔ (vs.map fun w => w.count).sum = (d.geo n).p)) fun d e =>
        e.gf F.SYN_BARRIER_n.ARRIVED 0 n = (vs.map fun w => w.count).sum % 2 ^ 19
          ∧ (∃ r', e.runOf n = some r' ∧ r'.phase = (if vs.length = 1 + (Dev.barrierKids (d.geo n)).length then .move else .agree))
          ∧ (vs.length = 1 + (Dev.barrierKids (d.geo n)).length → e.gf F.COL_GROUP_n_STAT.STATE 0 n = 2)
          ∧ Only [⟨.SYN_BARRIER_n, 0, n, 0⟩, ⟨.COL_GROUP_n_STAT, 0, n, 0⟩, ⟨.CORE_COLL_REC, r.inst.core, 0, 0⟩]
              [.colls, .inside, .injected, .held, .nextMsg] d e)
  ∧ (∀ p n r k v, Completes (.barrierRelease p) (fun d => d.collIn p 1 n r k = true ∧ p.cOp = 5 ∧ p.cStage = 1
        ∧ r.algo = .barrier ∧ r.phase = .agree ∧ v = Dev.agreeVal r.desc p k) fun d e =>
        (v.sig.isSome = true → e.runOf n = some { r with phase := .move, need := 0 } ∧ e.gf F.COL_GROUP_n_STAT.STATE 0 n = 2)
          ∧ (v.sig = none → Dev.collStopped n Code.COLL_SIGNATURE_MISMATCH none r d e))

/-- Each row completes. A frame in order is passed on, a bad one or one out of turn is not; a NAK has the unacknowledged frames sent again; a frame with RESET
or RETRAIN, a ninth NAK and the loss of lock retrain the link, and a link that carries nothing takes no frame. After the pattern test the initiator proposes under a new XNUM, the responder accepts the
width of both masks, and CONFIRM puts it into use; a message that breaks R459, or none in time, makes the link retrain, and the third failure in a row takes it
down: a C-die fails over to a trained alternate and its open requests are issued again, as they are after a reset of its X-die, and where none is trained it is occulted. RETRAIN waits for a running exchange. DOWN takes down
a C–X primary whose alternate is trained, is dropped elsewhere, and is released. A sideband message with a good CRC is answered and fills the inventory;
unanswered ones are sent again up to 8 times, and a die without an identity is occulted.
Where the manual leaves a detail open, the clauses rest on the model's choices of log entries 40, 44 and 54. -/
def Obligations.PackageLinks : Prop :=
  (∀ (n : Fin 31) i b k, Completes (.frameReceive n i b k) (fun d => d.linkState n ≠ 3 ∧ d.linkState n ≠ 4) fun d e => Only [] [] d e)
  ∧ (∀ (n : Fin 31) i b k, Completes (.frameReceive n i b k) (fun d => (d.linkState n = 3 ∨ d.linkState n = 4)
        ∧ frameOfBytes (b ++ k) = none) fun d e =>
        (e.linkEnd n i) = { d.linkEnd n i with waiting := true } ∧ (e.link n).passed = (d.link n).passed
          ∧ Dev.counted F.DLK_LINK_n_ERR.CRC_CNT 1 0 n d e ∧ e.linkState n = d.linkState n
          ∧ Only [⟨.DLK_LINK_n_STAT, 0, n, 0⟩, ⟨.DLK_LINK_n_ERR, 0, n, 0⟩] (.dlk :: scoreParts) d e)
  ∧ (∀ (n : Fin 31) i b k y c, Completes (.frameReceive n i b k) (fun d => (d.linkState n = 3 ∨ d.linkState n = 4)
        ∧ frameOfBytes (b ++ k) = some (y, c) ∧ c.reset = false ∧ c.retrain = false ∧ c.nak = false) fun d e =>
        (e.link n).passed = (d.link n).passed ++ (if c.fseq = (d.linkEnd n i).expect ∧ c.idle = false then [(i, y)] else [])
          ∧ (e.linkEnd n i).expect = (if c.fseq = (d.linkEnd n i).expect then (c.fseq + 1) % 2 ^ 16 else (d.linkEnd n i).expect)
          ∧ (c.fseq ≠ (d.linkEnd n i).expect → (e.linkEnd n i).waiting = (d.linkEnd n i).waiting)
          ∧ e.linkEnd n (!i) = d.linkEnd n (!i)
          ∧ e.gf F.DLK_LINK_n_FRAMES.FRAMES 0 n = (d.gf F.DLK_LINK_n_FRAMES.FRAMES 0 n + 1) % 2 ^ 64
          ∧ Only [⟨.DLK_LINK_n_FRAMES, 0, n, 0⟩] [.dlk] d e)
  ∧ (∀ (n : Fin 31) i b k y c, Completes (.frameReceive n i b k) (fun d => (d.linkState n = 3 ∨ d.linkState n = 4)
        ∧ frameOfBytes (b ++ k) = some (y, c) ∧ c.reset = false ∧ (c.retrain = true
          ∨ (c.nak = true ∧ c.fseq ≠ (d.linkEnd n i).expect ∧ c.ack = (d.linkEnd n i).acked ∧ 8 ≤ (d.linkEnd n i).resent))) fun d e =>
        Dev.retrained n [] d e)
  ∧ (∀ (n : Fin 31) i b k y c, Completes (.frameReceive n i b k) (fun d => (d.linkState n = 3 ∨ d.linkState n = 4)
        ∧ frameOfBytes (b ++ k) = some (y, c) ∧ c.reset = true) fun d e =>
        Dev.retrained n [.fab] d e ∧ (e.linkEnd n i).expect = (c.fseq + 1) % 2 ^ 16 ∧ (e.linkEnd n i).resent = 0
          ∧ (e.linkEnd n i).replay = [])
  ∧ (∀ (n : Fin 31) i b k y c, Completes (.frameReceive n i b k) (fun d => (d.linkState n = 3 ∨ d.linkState n = 4)
        ∧ frameOfBytes (b ++ k) = some (y, c) ∧ c.reset = false ∧ c.retrain = false ∧ c.nak = true
        ∧ c.fseq ≠ (d.linkEnd n i).expect ∧ c.ack = (d.linkEnd n i).acked ∧ (d.linkEnd n i).resent < 8) fun d e =>
        (e.link n).sent = (d.link n).sent ++ (d.unackedFrames n i).map (fun r => (i, frameBytes r.payload (d.control n i r.fseq r.idle)))
          ∧ e.linkEnd n i = { d.linkEnd n i with resent := (d.linkEnd n i).resent + 1 }
          ∧ Dev.counted F.DLK_LINK_n_ERR.REPLAY_CNT (d.unackedFrames n i).length 0 n d e ∧ e.linkState n = d.linkState n
          ∧ Only [⟨.DLK_LINK_n_FRAMES, 0, n, 0⟩, ⟨.DLK_LINK_n_ERR, 0, n, 0⟩] [.dlk] d e)
  ∧ (∀ (n : Fin 31), Completes (.linkLockLoss n) (fun d => d.linkState n = 3 ∨ d.linkState n = 4) fun d e => Dev.retrained n [] d e)
  ∧ (∀ (n : Fin 31), Completes (.linkLockLoss n) (fun d => d.linkState n ≠ 3 ∧ d.linkState n ≠ 4) fun d e => Only [] [] d e)
  ∧ (∀ (n : Fin 31) (a b : Fin 16), Completes (.linkTestDone n a b) (fun d => d.linkState n = 1) fun d e =>
        e.linkState n = 2 ∧ (e.linkEnd n true).mask = a.val ∧ (e.linkEnd n false).mask = b.val
          ∧ e.gf F.DLK_LINK_n_STAT.XNUM 0 n = (d.gf F.DLK_LINK_n_STAT.XNUM 0 n + 1) % 256
          ∧ (∃ c, (e.link n).sent = (d.link n).sent ++ [(true, frameBytes (List.replicate 1024 0) c)] ∧ c.train = 1 ∧ c.width = 0
            ∧ c.xnum = e.gf F.DLK_LINK_n_STAT.XNUM 0 n ∧ c.mask = (e.linkEnd n true).mask)
          ∧ Only [⟨.DLK_LINK_n_STAT, 0, n, 0⟩] [.dlk] d e)
  ∧ (∀ (n : Fin 31) (x : Fin 256) (m l : Fin 16), Completes (.propose n x m l) (fun d => d.linkState n = 2
        ∧ d.exchangeOk n x l = true ∧ (d.linkEnd n true).fresh = false) fun d e =>
        (e.link n).accepted = some (quarters (m.val &&& (d.linkEnd n false).mask))
          ∧ (∃ c, (e.link n).sent = (d.link n).sent ++ [(false, frameBytes (List.replicate 1024 0) c)] ∧ c.train = 2 ∧ c.width = quarters (m.val &&& (d.linkEnd n false).mask)
            ∧ c.xnum = e.gf F.DLK_LINK_n_STAT.XNUM 0 n ∧ c.mask = (e.linkEnd n false).mask)
          ∧ Only [] [.dlk] d e)
  ∧ (∀ (n : Fin 31) (x : Fin 256) (m w l : Fin 16), Completes (.accept n x m w l) (fun d => d.linkState n = 2
        ∧ d.exchangeOk n x l = true ∧ (d.linkEnd n true).mask &&& m.val ≠ 0
        ∧ w.val = quarters ((d.linkEnd n true).mask &&& m.val) ∧ (d.linkEnd n false).fresh = false) fun d e =>
        (e.link n).accepted = some w.val ∧ e.linkState n = 2
          ∧ (∃ c, (e.link n).sent = (d.link n).sent ++ [(true, frameBytes (List.replicate 1024 0) c)] ∧ c.train = 3 ∧ c.width = w.val
            ∧ c.xnum = e.gf F.DLK_LINK_n_STAT.XNUM 0 n ∧ c.mask = (e.linkEnd n true).mask)
          ∧ e.gf F.DLK_LINK_n_STAT.FAR_MASK 0 n = m.val ∧ Only [⟨.DLK_LINK_n_STAT, 0, n, 0⟩] [.dlk] d e)
  ∧ (∀ (n : Fin 31) (x : Fin 256) (w l : Fin 16), Completes (.confirm n x w l) (fun d => d.linkState n = 2
        ∧ d.exchangeOk n x l = true ∧ (d.link n).accepted = some w.val ∧ w.val ≠ 0 ∧ (d.link n).again = false
        ∧ (8 ≤ n.val → n.val < 16 → d.dlk.moved.contains (n.val - 8) = true ∨ d.linkState (n - 8) ≠ 5 ∧ d.linkState (n - 8) ≠ 6)) fun d e =>
        e.linkState n = (if (n.val < 8 ∧ d.dlk.moved.contains n.val = true)
            ∨ (8 ≤ n.val ∧ n.val < 16 ∧ d.dlk.moved.contains (n.val - 8) = false) then 4 else 3)
          ∧ e.gf F.DLK_LINK_n_STAT.QUARTERS 0 n = w.val ∧ e.gf F.DLK_LINK_n_STAT.FAILED_TRIES 0 n = 0
          ∧ (e.link n).accepted = none
          ∧ (n.val < 16 → (d.linkEnd n true).fresh = true → e.linkState n = 3 → ∀ r ∈ d.dieRequests (n % 8), r.pkt ∈ e.inside ++ e.injected)
          ∧ (w.val = 15 → Only [⟨.DLK_LINK_n_STAT, 0, n, 0⟩]
              (.dlk :: if n.val < 16 ∧ (d.linkEnd n true).fresh = true then [.inside, .injected] else []) d e)
          ∧ (w.val ≠ 15 → e.gf F.DLK_LINK_n_STAT.LAST_CODE 0 n = Code.DLK_WIDTH_REDUCED
              ∧ Only [⟨.DLK_LINK_n_STAT, 0, n, 0⟩]
                (.dlk :: scoreParts ++ if n.val < 16 ∧ (d.linkEnd n true).fresh = true then [.inside, .injected] else []) d e))
  ∧ (∀ (n : Fin 31) (x : Fin 256) (w l : Fin 16), Completes (.confirm n x w l) (fun d => d.linkState n = 2
        ∧ d.exchangeOk n x l = true ∧ (d.link n).accepted = some w.val ∧ w.val ≠ 0 ∧ (d.link n).again = true
        ∧ (8 ≤ n.val → n.val < 16 → d.dlk.moved.contains (n.val - 8) = true ∨ d.linkState (n - 8) ≠ 5 ∧ d.linkState (n - 8) ≠ 6)) fun d e =>
        Dev.retrained n (if n.val < 16 ∧ (d.linkEnd n true).fresh = true then [.inside, .injected] else []) d e
          ∧ e.gf F.DLK_LINK_n_STAT.QUARTERS 0 n = w.val)
  ∧ (∀ (n : Fin 31) (x : Fin 256) (l : Fin 16) k, Completes (.confirm n x 15 l) (fun d => d.linkState n = 2
        ∧ d.exchangeOk n x l = true ∧ (d.link n).accepted = some 15 ∧ (d.link n).again = false ∧ 8 ≤ n.val ∧ n.val < 16
        ∧ k = n.val - 8 ∧ d.dlk.moved.contains k = false ∧ (d.linkState k = 5 ∨ d.linkState k = 6)) fun d e =>
        e.linkState n = 3 ∧ e.dlk.moved = d.dlk.moved ++ [k] ∧ e.gf F.DLK_LINK_n_STAT.LAST_CODE 0 k = Code.DLK_FAILOVER
          ∧ (∀ r ∈ d.dieRequests k, r.pkt ∈ e.inside ++ e.injected))
  ∧ (∀ (n : Fin 31) (x : Fin 256) (m w l : Fin 16) c (bad : Dev → Bool), (c, bad) ∈ [
        (Instr.propose n x m l, fun d => !d.exchangeOk n x l),
        (Instr.accept n x m w l, fun d => !d.exchangeOk n x l || decide (w.val ≠ quarters ((d.linkEnd n true).mask &&& m.val))),
        (Instr.confirm n x w l, fun d => !d.exchangeOk n x l || decide ((d.link n).accepted ≠ some w.val) || decide (w.val = 0)),
        (Instr.exchangeTimeout n, fun _ => true)] →
      Completes c (fun d => d.linkState n = 2 ∧ bad d = true ∧ (d.link n).again = false ∧ d.gf F.DLK_LINK_n_STAT.FAILED_TRIES 0 n < 2) (fun d e =>
          Dev.retrained n [] d e ∧ Dev.counted F.DLK_LINK_n_ERR.MISMATCH_CNT 1 0 n d e
            ∧ e.gf F.DLK_LINK_n_STAT.FAILED_TRIES 0 n = d.gf F.DLK_LINK_n_STAT.FAILED_TRIES 0 n + 1)
        ∧ Completes c (fun d => d.linkState n = 2 ∧ bad d = true ∧ (d.link n).again = true
            ∧ d.gf F.DLK_LINK_n_STAT.FAILED_TRIES 0 n < 2) (fun d e =>
          Dev.retrained n [] d e ∧ Dev.counted F.DLK_LINK_n_ERR.MISMATCH_CNT 1 0 n d e ∧ e.gf F.DLK_LINK_n_STAT.FAILED_TRIES 0 n = 0)
        ∧ Completes c (fun d => d.linkState n = 2 ∧ bad d = true ∧ d.gf F.DLK_LINK_n_STAT.FAILED_TRIES 0 n = 2 ∧ n.val < 8
            ∧ (d.link n).again = false ∧ d.dlk.moved.contains n.val = false ∧ d.linkState (8 + n) = 4) (fun d e =>
          e.linkState n = 5 ∧ e.linkState (8 + n) = 3 ∧ e.gf F.DLK_LINK_n_STAT.LAST_CODE 0 n = Code.DLK_FAILOVER
            ∧ e.safe.occs = d.safe.occs)
        ∧ ∀ k : Fin 20, ((n.val < 8 ∧ k.val = n.val) ∨ (20 ≤ n.val ∧ n.val < 26 ∧ k.val = n.val - 7)) →
          Completes c (fun d => d.linkState n = 2 ∧ bad d = true ∧ d.gf F.DLK_LINK_n_STAT.FAILED_TRIES 0 n = 2
            ∧ (d.link n).again = false
            ∧ (n.val < 8 → d.dlk.moved.contains n.val = false ∧ ([1, 2, 4].contains (d.linkState (8 + n)) = false)) ∧ (d.safe.occs.any fun o => decide (o.unit = .die k)) = false) fun d e =>
          e.linkState n = 5 ∧ e.safe.occs = d.safe.occs ++ [{ unit := .die k, ctrl := false }]
            ∧ e.on F.DLK_DIE_k_INV.OCCULTED 0 k = true)
  ∧ (∀ (n : Fin 31) (x : Fin 256) (m l : Fin 16) c w, c ∈ [Instr.propose n x m l, .accept n x m w l, .confirm n x w l, .exchangeTimeout n] →
      Completes c (fun d => d.linkState n ≠ 2) fun d e => Only [] [] d e)
  ∧ (∀ (n : Fin 31), Completes (.linkRetrainWrite n) (fun d => d.accepts ⟨.DLK_LINK_n_CTRL, 0, n, 0⟩ = true ∧ d.linkState n = 2)
      fun d e => (e.link n) = { d.link n with again := true } ∧ Dev.did [] [.dlk] d e)
  ∧ (∀ (n : Fin 31), Completes (.linkRetrainWrite n) (fun d => d.accepts ⟨.DLK_LINK_n_CTRL, 0, n, 0⟩ = true ∧ d.linkState n ≠ 2
        ∧ d.linkState n ≠ 6) fun d e => Dev.retrained n [] d e ∧ e.answer.code = 0 ∧ e.gf F.DLK_LINK_n_STAT.FAILED_TRIES 0 n = 0)
  ∧ (∀ (n : Fin 31), Completes (.linkDownWrite n true) (fun d => d.accepts ⟨.DLK_LINK_n_CTRL, 0, n, 0⟩ = true
        ∧ d.on F.DLK_LINK_n_CTRL.DOWN 0 n = false ∧ n.val < 8 ∧ d.linkState (8 + n) = 4) fun d e =>
        e.on F.DLK_LINK_n_CTRL.DOWN 0 n = true ∧ e.linkState n = 6 ∧ e.linkState (8 + n) = 3
          ∧ e.gf F.DLK_LINK_n_STAT.LAST_CODE 0 n = Code.DLK_FAILOVER ∧ (e.link n).accepted = none ∧ (e.link n).again = false
          ∧ e.dlk.moved = d.dlk.moved ++ [n.val] ∧ (∀ r ∈ d.dieRequests n, r.pkt ∈ e.inside ++ e.injected)
          ∧ Dev.did [⟨.DLK_LINK_n_CTRL, 0, n, 0⟩, ⟨.DLK_LINK_n_STAT, 0, n, 0⟩, ⟨.DLK_LINK_n_STAT, 0, 8 + n, 0⟩]
              [.dlk, .inside, .injected, .freeIx] d e)
  ∧ (∀ (n : Fin 31), Completes (.linkDownWrite n true) (fun d => d.accepts ⟨.DLK_LINK_n_CTRL, 0, n, 0⟩ = true
        ∧ d.on F.DLK_LINK_n_CTRL.DOWN 0 n = false ∧ n.val < 8 ∧ d.linkState (8 + n) = 3) fun d e =>
        e.on F.DLK_LINK_n_CTRL.DOWN 0 n = true ∧ e.linkState n = 6 ∧ (e.link n).accepted = none ∧ (e.link n).again = false
          ∧ Dev.did [⟨.DLK_LINK_n_CTRL, 0, n, 0⟩, ⟨.DLK_LINK_n_STAT, 0, n, 0⟩] [.dlk] d e)
  ∧ (∀ (n : Fin 31), Completes (.linkDownWrite n true) (fun d => d.accepts ⟨.DLK_LINK_n_CTRL, 0, n, 0⟩ = true
        ∧ d.on F.DLK_LINK_n_CTRL.DOWN 0 n = false ∧ (8 ≤ n.val ∨ d.linkState (8 + n) ≠ 3 ∧ d.linkState (8 + n) ≠ 4)) fun d e =>
        e.on F.DLK_LINK_n_CTRL.DOWN 0 n = false ∧ e.gf F.DLK_LINK_n_STAT.LAST_CODE 0 n = Code.DLK_DOWN_REFUSED
          ∧ Dev.did [⟨.DLK_LINK_n_STAT, 0, n, 0⟩] [] d e)
  ∧ (∀ (n : Fin 31), Completes (.linkDownWrite n false) (fun d => d.accepts ⟨.DLK_LINK_n_CTRL, 0, n, 0⟩ = true
        ∧ d.on F.DLK_LINK_n_CTRL.DOWN 0 n = true) fun d e =>
        e.on F.DLK_LINK_n_CTRL.DOWN 0 n = false ∧ Dev.retrained n [] d e ∧ e.answer.code = 0)
  ∧ (∀ (k : Fin 20) b x, Completes (.sidebandMessage k b x) (fun _ => b.length ≠ 16 ∨ crc16 (b.take 14) ≠ leNat (b.drop 14))
      fun d e => Only [] [] d e)
  ∧ (∀ (k : Fin 20) b, Completes (.sidebandMessage k b none) (fun _ => b.length = 16 ∧ crc16 (b.take 14) = leNat (b.drop 14))
      fun d e => NMap.get 0 e.dlk.side k = 0 ∧ e.dlk.links = d.dlk.links ∧ Only [] [.dlk] d e)
  ∧ (∀ (k : Fin 20) b st lv, Completes (.sidebandMessage k b (some (st, lv))) (fun _ => b.length = 16
        ∧ crc16 (b.take 14) = leNat (b.drop 14)) fun d e =>
        NMap.get 0 e.dlk.side k = 0 ∧ e.on F.DLK_DIE_k_INV.PRESENT 0 k = true ∧ e.gf F.DLK_DIE_k_INV.TYPE 0 k = Dev.dieType k
          ∧ e.gf F.DLK_DIE_k_INV.STEPPING 0 k = st % 16 ∧ e.gf F.DLK_DIE_k_INV.LEVEL 0 k = lv % 16
          ∧ Only [⟨.DLK_DIE_k_INV, 0, k, 0⟩] [.dlk] d e)
  ∧ (∀ (k : Fin 20) t, Completes (.sidebandResend k) (fun d => NMap.get 0 d.dlk.side k = t) fun d e =>
        NMap.get 0 e.dlk.side k = (if t = 0 ∨ 9 ≤ t then 0 else t + 1) ∧ e.dlk.links = d.dlk.links ∧ Only [] [.dlk] d e)
  ∧ (∀ (k : Fin 20), Completes (.dieIdentityTimeout k) (fun d => d.on F.DLK_DIE_k_INV.PRESENT 0 k = false ∧ k.val ≠ 19
        ∧ (d.safe.occs.any fun o => decide (o.unit = .die k)) = false) fun d e =>
        e.safe.occs = d.safe.occs ++ [{ unit := .die k, ctrl := false }] ∧ e.on F.DLK_DIE_k_INV.OCCULTED 0 k = true
          ∧ e.isPending 129 = true)
  ∧ (∀ (k : Fin 20), Completes (.dieIdentityTimeout k) (fun d => d.on F.DLK_DIE_k_INV.PRESENT 0 k = true) fun d e => Only [] [] d e)

/-- Each row completes on a message taken in order. A RD_UNCACHED that is granted is answered with the bytes of HBM, activation SRAM or a register, and a
WR_UNCACHED stores its own and is acknowledged. RD_SHARED and RD_OWN enter the line in the directory and answer with it. WRBACK stores an owned line and takes
it out, and EVICT_CLEAN takes a line out. A request that a check fails is refused with the code, and one that
comes behind an earlier access to one of its units, or waits for a recall, is held. SNP_SHARE and
SNP_INV answer with a modified line and leave it shared or gone. An answer of the companion fills a line or ends the access that waited for it, and a
refusal refuses that access. A SNP_ACK stores modified data and ends its recall; a recall without an answer poisons the unit, and the access that waited for
it ends with HBM_POISON.
Where the manual leaves a detail open, the clauses rest on the model's choices of log entries 45, 47 and 61. -/
def Obligations.PerdunRequests : Prop :=
  (∀ m o, o = reqOffset m → Completes (.rdUncached m []) (fun d => d.hlkGrants m 3 = true ∧ o < 0x100000000000
        ∧ d.hbmFree o m.length false = true) fun d e =>
        Dev.hlkAnswered m 1 0 (d.hbmBytes o m.length) d e ∧ e.hbm = d.hbm ∧ e.hlk.dir = d.hlk.dir)
  ∧ (∀ m o, o = reqOffset m → Completes (.rdUncached m []) (fun d => d.hlkGrants m 3 = true ∧ 0x100000000000 ≤ o
        ∧ inRegSpace o = false) fun d e =>
        Dev.hlkAnswered m 1 0 ((List.range m.length).map fun k => d.sramByte (o + k)) d e ∧ Only Dev.hlkCounts [.hlk] d e)
  ∧ (∀ m o k, o = reqOffset m → Completes (.rdUncached m []) (fun d => d.hlkGrants m 3 = true ∧ inRegSpace o = true
        ∧ RegKey.ofOffset (o - 0x3F0000000000) = some k ∧ plainReg k.name = true ∧ (d.regRefusal k).1 = 0
        ∧ k.name ≠ .HLK_RX_CNT ∧ k.name ≠ .INT_TGT_t_CLAIM) fun d e =>
        Dev.hlkAnswered m 1 0 (leBytes 8 (d.readReg k).1.toNat) d e)
  ∧ (∀ m o, o = reqOffset m → Completes (.wrUncached m []) (fun d => d.hlkGrants m 4 = true ∧ o < 0x100000000000
        ∧ d.hbmFree o m.payload.length true = true) fun d e =>
        Dev.hlkAnswered m 3 0 [] d e ∧ Dev.hbmTakes o m.payload d e ∧ e.hlk.dir = d.hlk.dir)
  ∧ (∀ m o, o = reqOffset m → Completes (.wrUncached m []) (fun d => d.hlkGrants m 4 = true ∧ 0x100000000000 ≤ o
        ∧ inRegSpace o = false) fun d e =>
        Dev.hlkAnswered m 3 0 [] d e ∧ (∀ k, k < m.payload.length → e.sramByte (o + k) = m.payload.getD k 0)
          ∧ Only Dev.hlkCounts [.hlk, .coreStore, .clusterStore] d e)
  ∧ (∀ m o k, o = reqOffset m → Completes (.wrUncached m []) (fun d => d.hlkGrants m 4 = true ∧ inRegSpace o = true
        ∧ RegKey.ofOffset (o - 0x3F0000000000) = some k ∧ plainReg k.name = true ∧ d.accepts k = true) fun d e =>
        Dev.hlkAnswered m 3 0 [] d e ∧ (∀ f ∈ k.name.fields, f.access = .rw →
          getBits (e.reg k) f.hi f.lo = getBits (k.name.stored (BitVec.ofNat 64 (leNat m.payload))) f.hi f.lo))
  ∧ (∀ m o c op, o = reqOffset m → (c, op) ∈ [(Instr.rdShared m [], 1), (Instr.rdOwn m [], 2)] → Completes c
      (fun d => d.hlkGrants m op = true ∧ d.hbmFree o 64 false = true
        ∧ ((d.dirAt (o / 64)).isSome = true ∨ d.hlk.dir.length < 1048576)) fun d e =>
        Dev.hlkAnswered m op 0 (d.hbmBytes o 64) d e ∧ e.hbm = d.hbm
          ∧ e.hlk.dir = (d.hlk.dir.filter fun l => decide (l.unit ≠ o / 64)) ++ [{ unit := o / 64, owned := decide (op = 2) }])
  ∧ (∀ m o c op l rest, o = reqOffset m → (c, op) ∈ [(Instr.rdShared m [], 1), (Instr.rdOwn m [], 2)] → Completes c
      (fun d => d.hlkGrants m op = true ∧ d.hbmFree o 64 false = true ∧ d.dirAt (o / 64) = none
        ∧ 1048576 ≤ d.hlk.dir.length ∧ d.hlk.dir = l :: rest ∧ l.snoop = none) fun d e =>
        e.mem.held = d.mem.held ++ [.message m]
          ∧ (∃ x y, e.hlk.dir = { l with snoop := some (true, x) } :: y ∧ y.length = rest.length)
          ∧ Only Dev.hlkCounts [.hlk, .mem] d e)
  ∧ (∀ m o, o = reqOffset m → Completes (.wrback m []) (fun d => d.hlkGrants m 5 = true
        ∧ ((d.dirAt (o / 64)).any fun l => l.owned) = true ∧ d.frameBusy (o / 64) = false ∧ d.nothingWaits = true) fun d e =>
        Dev.hlkAnswered m 3 0 [] d e ∧ Dev.hbmTakes o m.payload d e
          ∧ e.hlk.dir = d.hlk.dir.filter fun l => decide (l.unit ≠ o / 64))
  ∧ (∀ m, Completes (.wrback m []) (fun d => d.hlkGrants m 5 = true ∧ ((d.dirAt (reqOffset m / 64)).any fun l => l.owned) = true
        ∧ d.frameBusy (reqOffset m / 64) = true ∧ d.nothingWaits = true) fun d e =>
        Dev.hlkSilent m d e ∧ e.mem.returns = [m] ∧ e.hlk.dir = d.hlk.dir ∧ Only Dev.hlkCounts [.hlk, .mem] d e)
  ∧ (∀ m o, o = reqOffset m → Completes (.evictClean m []) (fun d => d.hlkGrants m 6 = true ∧ d.nothingWaits = true) fun d e =>
        Dev.hlkSilent m d e ∧ (e.hlk.dir = d.hlk.dir.filter fun l => decide (l.unit ≠ o / 64)) ∧ Only Dev.hlkCounts [.hlk] d e)
  ∧ (∀ m c op code, (c, op) ∈ [(Instr.rdShared m [], 1), (Instr.rdOwn m [], 2), (Instr.rdUncached m [], 3), (Instr.wrUncached m [], 4)] →
      Completes c (fun d => d.hlkTakes m 0 op = true ∧ (d.checkReq m).1 = code ∧ code ≠ 0) fun d e =>
        Dev.hlkAnswered m 5 code [] d e ∧ Dev.counted F.HLK_ERR_CNT.REFUSED_CNT 1 0 0 d e ∧ e.hlk.dir = d.hlk.dir
          ∧ Only (⟨.HLK_ERR_CNT, 0, 0, 0⟩ :: ⟨.HLK_STAT, 0, 0, 0⟩ :: ⟨.GAS_ERR_CNT, 0, 0, 0⟩ :: Dev.hlkCounts) (.hlk :: logParts) d e)
  ∧ (∀ m o c op, o = reqOffset m →
      (c, op) ∈ [(Instr.rdShared m [], 1), (Instr.rdOwn m [], 2), (Instr.rdUncached m [], 3), (Instr.wrUncached m [], 4)] →
      Completes c (fun d => d.hlkTakes m 0 op = true ∧ (d.checkReq m).1 = 0 ∧ o < 0x100000000000
        ∧ d.behind (o, reqBytes m) = true) fun d e =>
        e.mem.held = d.mem.held ++ [.message m] ∧ Dev.hlkSilent m d e ∧ e.hlk.dir = d.hlk.dir ∧ Only Dev.hlkCounts [.hlk, .mem] d e)
  ∧ (∀ m c op u l, (c, op) ∈ [(Instr.snpShare m, 1), (Instr.snpInv m, 2)] → Completes c (fun d => d.hlkTakes m 1 op = true
        ∧ u = (0x200000000000 + (m.addr + 2 ^ 64 - d.gf F.HLK_WINDOW_BASE.BASE) % 2 ^ 64) / 64
        ∧ d.lineAt u = some l ∧ l.comp.isSome = true) fun d e =>
        Dev.hlkAnswered m 4 0 (if l.comp = some .m then l.data else []) d e
          ∧ e.lineAt u = (if op = 1 then some { l with comp := some .s, dirty := false } else none)
          ∧ (∀ v, v ≠ u → e.lineAt v = d.lineAt v) ∧ Only Dev.hlkCounts [.hlk, .mem] d e)
  ∧ (∀ m c op, (c, op) ∈ [(Instr.snpShare m, 1), (Instr.snpInv m, 2)] → Completes c (fun d => d.hlkTakes m 1 op = true
        ∧ (d.mem.lines.all fun l => l.comp.isNone) = true) fun d e =>
        Dev.hlkAnswered m 4 0 [] d e ∧ Only Dev.hlkCounts [.hlk] d e)
  ∧ (∀ m r j, Completes (.dataS m []) (fun d => d.hlkTakes m 2 1 = true ∧ d.hlk.reqs = [r] ∧ r.tag = m.tag ∧ r.want = .read
        ∧ d.mem.jobs = [j] ∧ j.waits = [m.tag] ∧ j.code = 0 ∧ j.got = [] ∧ Dev.isWrite j.pkt = false ∧ localOf j.pkt.addr = r.off
        ∧ spanOf j.pkt = m.payload.length ∧ d.nothingWaits = true) fun d e =>
        Dev.jobServed j 0 m.payload d e ∧ e.hlk.reqs = [] ∧ e.mem.jobs = []
          ∧ Only (⟨.GAS_SERVED_CNT, 0, 0, 0⟩ :: Dev.hlkCounts) [.hlk, .mem, .inside, .held, .injected] d e)
  ∧ (∀ m r c op st, (c, op, st) ∈ [(Instr.dataS m [], 1, CompSt.s), (Instr.dataE m [], 2, CompSt.e)] → Completes c (fun d =>
        d.hlkTakes m 2 op = true ∧ d.hlk.reqs = [r] ∧ r.tag = m.tag ∧ r.want = .fill false ∧ d.mem.jobs = [] ∧ d.nothingWaits = true
        ∧ d.mem.lines = []) fun d e =>
        e.lineAt (r.off / 64) = some { unit := r.off / 64, kept := r.kept, count := r.count, comp := some st, dirty := false, data := m.payload }
          ∧ e.hlk.reqs = [] ∧ Only Dev.hlkCounts [.hlk, .mem] d e)
  ∧ (∀ m r j c op code, (c, op, code) ∈ [(Instr.wrAck m [], 3, 0), (Instr.refused m [], 5, m.code)] → Completes c (fun d =>
        d.hlkTakes m 2 op = true ∧ (op = 5 → m.code ≠ 0) ∧ d.hlk.reqs = [r] ∧ r.tag = m.tag ∧ r.want = .write
        ∧ d.mem.jobs = [j] ∧ j.waits = [m.tag] ∧ j.code = 0 ∧ Dev.isWrite j.pkt = true ∧ d.nothingWaits = true) fun d e =>
        Dev.jobServed j code [] d e ∧ e.hlk.reqs = [] ∧ e.mem.jobs = [] ∧ e.mem.lines = d.mem.lines)
  ∧ (∀ m errs c op, (c, op) ∈ [(Instr.dataS m errs, 1), (Instr.dataE m errs, 2), (Instr.wrAck m errs, 3), (Instr.snpAck m errs, 4),
        (Instr.refused m errs, 5)] →
      Completes c (fun d => d.hlkTakes m 2 op = true ∧ (d.hlk.reqs.all fun r => decide (r.tag ≠ m.tag)) = true
        ∧ (d.hlk.dir.all fun l => decide (l.snoop.map Prod.snd ≠ some m.tag)) = true) fun d e =>
        Dev.hlkSilent m d e ∧ e.hlk.dir = d.hlk.dir ∧ Only Dev.hlkCounts [.hlk] d e)
  ∧ (∀ m l inv, Completes (.snpAck m []) (fun d => d.hlkTakes m 2 4 = true
        ∧ d.hlk.dir.find? (fun l => decide (l.snoop.map Prod.snd = some m.tag)) = some l ∧ l.snoop = some (inv, m.tag)
        ∧ d.dirAt l.unit = some l ∧ d.frameBusy l.unit = false ∧ d.nothingWaits = true) fun d e =>
        Dev.hbmTakes (64 * l.unit) m.payload d e
          ∧ e.hlk.dir = (if inv then d.hlk.dir.filter fun x => decide (x.unit ≠ l.unit)
              else d.hlk.dir.map fun x => if x.unit = l.unit then { x with owned := false, snoop := none } else x))
  ∧ (∀ u l x, Completes (.snoopTimeout u []) (fun d => d.dirAt u = some l ∧ l.snoop = some x ∧ d.nothingWaits = true)
      fun d e => e.isPoison u = true ∧ e.dirAt u = none ∧ e.lineAt u = none
          ∧ Dev.counted F.HLK_ERR_CNT.SNOOP_CNT 1 0 0 d e ∧ e.gf F.HLK_STAT.LAST_CODE = Code.HLK_SNOOP_TIMEOUT
          ∧ e.isPending 689 = true
          ∧ Only [⟨.HLK_ERR_CNT, 0, 0, 0⟩, ⟨.HLK_STAT, 0, 0, 0⟩, ⟨.INT_PEND_SET_k, 0, 10, 0⟩] ([.hlk, .mem] ++ logParts) d e)
  ∧ (∀ u l x p, Completes (.snoopTimeout u []) (fun d => d.dirAt u = some l ∧ l.snoop = some x ∧ d.mem.held = [.packet p]
        ∧ d.mem.returns = [] ∧ Dev.sameUnit (64 * u, 64) (p.addr % 2 ^ 46, spanOf p) = true) fun d e =>
        e.isPoison u = true ∧ e.dirAt u = none ∧ e.mem.held = [] ∧ Dev.jobServed { pkt := p } Code.HBM_POISON [] d e)
  ∧ (∀ u, Completes (.snoopTimeout u []) (fun d => ((d.dirAt u).any fun l => l.snoop.isSome) = false) fun d e => Only [] [] d e)

/-- Each row completes. An acceptable HELLO brings the link up with its credits, window and vectors; another is refused, and this device's own is sent
again while none has come. A CREDIT adds to the credits held, an EOI ends the handler of a vector, a COUNTER_ACK ends its SIGNAL, and a DOORBELL sets its source. A message
that comes again is discarded, one ahead of its turn waits, one beyond its credits is discarded and logged, and a malformed one is refused if it is a request and else
discarded. The loss of one host port sends the unacknowledged messages that crossed it again over the other; the loss of both, or DOWN, takes the link out of service: requests, counters,
companion lines and directory entries end, owned units are poisoned and counted.
Where the manual leaves a detail open, the clauses rest on the model's choices of log entries 45 and 61. -/
def Obligations.PerdunLink : Prop :=
  (∀ m, Completes (.hello m) (fun d => m.cls = 3 ∧ m.op = 1 ∧ d.gf F.HLK_STAT.STATE = 2 ∧ wellFormedMsg m = true
        ∧ Dev.helloOk m.payload = true ∧ d.hlk.waiting = []) fun _ e =>
        e.hlkUp = true ∧ e.gf F.HLK_STAT.LAST_CODE = Code.HLK_LINK_UP ∧ e.isPending 688 = true
          ∧ e.hlk.credits = [leNat ((m.payload.drop 20).take 2), leNat ((m.payload.drop 22).take 2),
              leNat ((m.payload.drop 24).take 2), leNat ((m.payload.drop 26).take 2)]
          ∧ e.hlk.rxNext = (m.lseq + 1) % 2 ^ 32 ∧ e.hlk.granted = [2048, 512, 4096, 64]
          ∧ e.gf F.HLK_WINDOW_BASE.BASE = leNat ((m.payload.drop 28).take 8)
          ∧ e.gf F.HLK_WINDOW_SIZE.GIB = leNat ((m.payload.drop 36).take 2)
          ∧ e.gf F.HLK_STAT.VECTORS = leNat ((m.payload.drop 38).take 1)
          ∧ e.gf F.HLK_COMP_ID.ID = leNat ((m.payload.drop 4).take 8))
  ∧ (∀ m, Completes (.hello m) (fun d => m.cls = 3 ∧ m.op = 1 ∧ d.gf F.HLK_STAT.STATE = 2
        ∧ (wellFormedMsg m && Dev.helloOk m.payload) = false) fun d e =>
        e.gf F.HLK_STAT.STATE = 2 ∧ e.gf F.HLK_STAT.LAST_CODE = Code.HLK_HELLO_REFUSED ∧ e.isPending 690 = true
          ∧ e.ports = d.ports ∧ e.hlk.credits = d.hlk.credits)
  ∧ Completes .helloResend (fun d => d.gf F.HLK_STAT.STATE = 2) (fun d e =>
        (∃ x, e.hlk.unacked = d.hlk.unacked ++ [x] ∧ x.cls = 3 ∧ x.op = 1 ∧ x.payload.length = 64
          ∧ leNat (x.payload.take 2) = 1 ∧ leNat ((x.payload.drop 20).take 2) = 2048 ∧ leNat ((x.payload.drop 22).take 2) = 512
          ∧ leNat ((x.payload.drop 24).take 2) = 4096 ∧ leNat ((x.payload.drop 26).take 2) = 64)
          ∧ Only [⟨.HLK_TX_CNT, 0, 0, 0⟩] [.hlk] d e)
  ∧ Completes .helloResend (fun d => d.gf F.HLK_STAT.STATE ≠ 2) (fun d e => Only [] [] d e)
  ∧ (∀ m, Completes (.credit m) (fun d => d.hlkTakes m 3 2 = true ∧ d.hlk.waiting = []) fun d e =>
        e.hlk.credits = List.zipWith (· + ·) d.hlk.credits (creditsOf m.value) ∧ e.hlk.rxNext = (d.hlk.rxNext + 1) % 2 ^ 32
          ∧ e.hlk.owed = d.hlk.owed.set 3 (d.hlk.owed.getD 3 0 + 1) ∧ Only [⟨.HLK_RX_CNT, 0, 0, 0⟩] [.hlk] d e)
  ∧ (∀ m t l src rest, Completes (.eoi m) (fun d => d.hlkTakes m 3 4 = true ∧ t = 4 + bitsOf m.value 19 16
        ∧ d.runningAt t = (l, src) :: rest ∧ src = bitsOf m.value 9 0) fun d e =>
        e.runningAt t = rest ∧ (∀ k, k ≠ t → e.runningAt k = d.runningAt k) ∧ Only Dev.hlkCounts [.hlk, .int] d e)
  ∧ (∀ m t, Completes (.eoi m) (fun d => d.hlkTakes m 3 4 = true ∧ t = 4 + bitsOf m.value 19 16
        ∧ ((d.runningAt t).head?.any fun x => decide (x.2 = bitsOf m.value 9 0)) = false) fun d e =>
        e.int = d.int ∧ e.gf F.HLK_STAT.LAST_CODE = Code.INT_EOI_UNMATCHED)
  ∧ (∀ m (c : Fin 128) x, Completes (.counterAck m) (fun d => d.hlkTakes m 3 6 = true ∧ (d.core c).signals = [x] ∧ x.dest = 3
        ∧ x.tag = m.tag) fun d e => (e.core c).signals = [] ∧ e.engines = d.engines ∧ e.coreStore = d.coreStore)
  ∧ (∀ m, Completes (.doorbell m) (fun d => d.hlkTakes m 3 7 = true) fun d e =>
        e.isPending (1008 + bitsOf m.value 2 0) = true ∧ Dev.hlkSilent m d e
          ∧ Only (⟨.INT_PEND_SET_k, 0, 15, 0⟩ :: Dev.hlkCounts) [.hlk] d e)
  ∧ (∀ m errs c cls op, (c, cls, op) ∈ [(Instr.hello m, 3, 1), (Instr.credit m, 3, 2), (Instr.eoi m, 3, 4), (Instr.counterAck m, 3, 6),
        (Instr.doorbell m, 3, 7), (Instr.rdShared m errs, 0, 1), (Instr.rdOwn m errs, 0, 2), (Instr.rdUncached m errs, 0, 3),
        (Instr.wrUncached m errs, 0, 4), (Instr.wrback m errs, 0, 5), (Instr.evictClean m errs, 0, 6), (Instr.snpShare m, 1, 1),
        (Instr.snpInv m, 1, 2), (Instr.dataS m errs, 2, 1), (Instr.dataE m errs, 2, 2), (Instr.wrAck m errs, 2, 3), (Instr.snpAck m errs, 2, 4),
        (Instr.refused m errs, 2, 5)] → m.cls = cls → m.op = op →
      Completes c (fun d => d.hlkUp = false ∧ d.gf F.HLK_STAT.STATE ≠ 2) (fun d e => Only [] [] d e)
        ∧ Completes c (fun d => d.hlkUp = true ∧ d.hlk.waiting = []
            ∧ 2 ^ 31 ≤ (m.lseq % 2 ^ 32 + 2 ^ 32 - d.hlk.rxNext) % 2 ^ 32) (fun d e =>
          e.hlk = (d.ackUpTo m.lack).hlk ∧ Only [⟨.HLK_RX_CNT, 0, 0, 0⟩] [.hlk] d e)
        ∧ Completes c (fun d => d.hlkUp = true ∧ d.hlk.waiting = [] ∧ d.hlk.early = []
            ∧ 0 < (m.lseq % 2 ^ 32 + 2 ^ 32 - d.hlk.rxNext) % 2 ^ 32
            ∧ (m.lseq % 2 ^ 32 + 2 ^ 32 - d.hlk.rxNext) % 2 ^ 32 < 2 ^ 31) (fun d e =>
          e.hlk = { (d.ackUpTo m.lack).hlk with early := [m] } ∧ Only [⟨.HLK_RX_CNT, 0, 0, 0⟩] [.hlk] d e)
        ∧ Completes c (fun d => d.hlkUp = true ∧ d.hlk.waiting = [] ∧ d.hlk.early = [] ∧ m.lseq % 2 ^ 32 = d.hlk.rxNext
            ∧ d.hlk.granted.getD cls 0 < hlkFlits m) fun d e =>
          e.hlk = { (d.ackUpTo m.lack).hlk with rxNext := (d.hlk.rxNext + 1) % 2 ^ 32 }
            ∧ e.gf F.HLK_STAT.LAST_CODE = Code.HLK_CREDIT_ERROR ∧ e.isPending 691 = true
            ∧ Only [⟨.HLK_RX_CNT, 0, 0, 0⟩, ⟨.HLK_STAT, 0, 0, 0⟩, ⟨.INT_PEND_SET_k, 0, 10, 0⟩] (.hlk :: logParts) d e)
  ∧ (∀ m, Completes (.rdUncached m []) (fun d => m.cls = 0 ∧ fromCompanion m.cls m.op = false ∧ d.hlkUp = true
        ∧ m.lseq % 2 ^ 32 = d.hlk.rxNext ∧ hlkFlits m ≤ d.hlk.granted.getD 0 0 ∧ d.hlk.early = []) fun d e =>
        Dev.hlkAnswered m 5 Code.HLK_BAD_MESSAGE [] d e ∧ Dev.counted F.HLK_ERR_CNT.REFUSED_CNT 1 0 0 d e
          ∧ e.gf F.HLK_STAT.LAST_CODE = Code.HLK_BAD_MESSAGE ∧ e.isPending 691 = true)
  ∧ (∀ m, Completes (.doorbell m) (fun d => m.cls = 3 ∧ fromCompanion m.cls m.op = false ∧ d.hlkUp = true
        ∧ m.lseq % 2 ^ 32 = d.hlk.rxNext ∧ hlkFlits m ≤ d.hlk.granted.getD 3 0 ∧ d.hlk.early = []) fun d e =>
        Dev.hlkSilent m d e ∧ e.gf F.HLK_STAT.LAST_CODE = Code.HLK_BAD_MESSAGE ∧ e.isPending 691 = true)
  ∧ (∀ b n o lost, n = (if b then 9 else 8) → o = (if b then 8 else 9) → Completes (.hostPortLoss b []) (fun d =>
        (d.port 0 n).step = .up ∧ (d.port 0 o).step = .up ∧ d.gf F.HLK_STAT.PORTS_UP = 3 ∧ d.hlkUp = true
        ∧ lost = d.hlk.unacked.filter fun m => d.hlk.crossed.contains (m.lseq, n)) fun d e =>
        e.hlkUp = true ∧ (e.port 0 n).step = .dark ∧ e.gf F.HLK_STAT.PORTS_UP = (if b then 1 else 2)
          ∧ e.hlk.unacked = d.hlk.unacked ∧ e.hlk.txNext = d.hlk.txNext ∧ e.hlk.dir = d.hlk.dir
          ∧ NMap.get [] e.hlk.out n = [] ∧ NMap.get [] e.hlk.out o = NMap.get [] d.hlk.out o ++ lost.flatMap HlkMsg.stream
          ∧ Dev.counted F.HLK_ERR_CNT.RESEND_CNT lost.length 0 0 d e)
  ∧ (∀ b n, n = (if b then 9 else 8) → Completes (.hostPortLoss b []) (fun d => (d.port 0 n).step = .up
        ∧ d.gf F.HLK_STAT.PORTS_UP = (if b then 2 else 1) ∧ (d.port 0 (if b then 8 else 9)).step = .dark ∧ d.hlkUp = true
        ∧ d.onlyMessagesWait = true) fun d e => Dev.hlkGone d e ∧ (e.port 0 n).step = .dark)
  ∧ (∀ b n errs, n = (if b then 9 else 8) → Completes (.hostPortLoss b errs) (fun d =>
        (d.port 0 n).step ≠ .up ∧ (d.port 0 n).step ≠ .keepAlive) fun d e => Only [] [] d e)
  ∧ Completes (.hlkLinkDown []) (fun d => d.hlkUp = true ∧ d.onlyMessagesWait = true ∧ (d.gf F.HLK_STAT.PORTS_UP = 0
        ∨ d.on F.DLK_DIE_k_INV.OCCULTED 0 (dieP 0) = true ∨ d.on F.HLK_CTRL.DOWN = true)) (fun d e => Dev.hlkGone d e)
  ∧ (∀ errs, Completes (.hlkLinkDown errs) (fun d => d.hlkUp = false ∨ (d.gf F.HLK_STAT.PORTS_UP ≠ 0
        ∧ d.on F.DLK_DIE_k_INV.OCCULTED 0 (dieP 0) = false ∧ d.on F.HLK_CTRL.DOWN = false)) fun d e => Only [] [] d e)
  ∧ Completes (.hlkDownWrite true) (fun d => d.accepts ⟨.HLK_CTRL, 0, 0, 0⟩ = true ∧ d.hlkUp = true ∧ d.on F.HLK_CTRL.DOWN = false
        ∧ d.onlyMessagesWait = true) (fun d e => Dev.hlkGone d e ∧ e.on F.HLK_CTRL.DOWN = true ∧ e.answer.code = 0)
  ∧ Completes (.hlkDownWrite false) (fun d => d.accepts ⟨.HLK_CTRL, 0, 0, 0⟩ = true ∧ d.hlkUp = false ∧ d.on F.HLK_CTRL.DOWN = true
        ∧ d.gf F.HLK_STAT.STATE = 0 ∧ ((d.port 0 8).step = .up ∨ (d.port 0 9).step = .up)
        ∧ d.on F.DLK_DIE_k_INV.OCCULTED 0 (dieP 0) = false) fun d e =>
        e.on F.HLK_CTRL.DOWN = false ∧ e.gf F.HLK_STAT.STATE = 2 ∧ ∃ x, e.hlk.unacked = d.hlk.unacked ++ [x] ∧ x.op = 1

/-- Each row completes. An occulted core, island or C-die has its logical cores out of service, an occulted P-die its face, and an occulted device or X-die the device,
whose reply cache freezes and which announces it; each is recorded, with source 129. A unit already occulted stays so. Lifting brings the
cores back, or the device, which announces its restoration. A notice is sent three times. A notice of an occultation or a loss that comes first puts its device on
the GAS units' list and sets source 130; a restoration takes it off; a copy is only passed on. SAFE_OCCULT_CTRL occults a unit it names, lifts an
occultation that it made, and declares another device lost; it refuses what it cannot do.
Where the manual leaves a detail open, the clauses rest on the model's choices of log entry 53. -/
def Obligations.Occultation : Prop :=
  (∀ (c : Fin 128) x, Completes (.occultation (.core c) x false) (fun d => (d.safe.occs.any fun o => decide (o.unit = .core c)) = false
        ∧ d.inService c = true) fun d e =>
        e.inService c = false ∧ (∀ k, k < 128 → k ≠ c.val → e.physOf k = d.physOf k)
          ∧ NMap.get 7 e.safe.phys c = d.physOf c ∧ e.safe.occs = d.safe.occs ++ [{ unit := .core c, ctrl := false }]
          ∧ e.isPending 129 = true ∧ e.occulted = d.occulted)
  ∧ (∀ (n : Fin 32) x, Completes (.occultation (.island n) x false) (fun d =>
        (d.safe.occs.any fun o => decide (o.unit = .island n)) = false) fun d e =>
        (∀ k, k < 128 → if k / 4 = n.val then e.inService k = false else e.physOf k = d.physOf k)
          ∧ e.safe.occs = d.safe.occs ++ [{ unit := .island n, ctrl := false }] ∧ e.isPending 129 = true)
  ∧ (∀ (k : Fin 20) x, Completes (.occultation (.die k) x false) (fun d => (d.safe.occs.any fun o => decide (o.unit = .die k)) = false)
      fun d e =>
        e.on F.DLK_DIE_k_INV.OCCULTED 0 k = true ∧ e.safe.occs = d.safe.occs ++ [{ unit := .die k, ctrl := false }]
          ∧ e.isPending 129 = true
          ∧ (k.val < 8 → ∀ c, c < 128 → if c / 16 = k.val then e.inService c = false else e.physOf c = d.physOf c)
          ∧ (13 ≤ k.val → k.val < 19 → e.on F.XFB_FACE_f_STAT.OCCULTED 0 (k - 13) = true ∧ e.occulted = d.occulted)
          ∧ ((8 ≤ k.val ∧ k.val ≤ 12) ∨ k.val = 19 → e.occulted = true ∧ (d.occulted = false → e.on F.GAS_REPLY_STAT.FROZEN = true)))
  ∧ (∀ x, Completes (.occultation .device x false) (fun d => (d.safe.occs.any fun o => decide (o.unit = .device)) = false
        ∧ d.occulted = false ∧ d.sdieDown = false ∧ d.coordsValid = true) fun d e =>
        e.occulted = true ∧ e.on F.GAS_REPLY_STAT.FROZEN = true ∧ e.gas.replies = d.gas.replies
          ∧ e.safe.notices = d.safe.notices ++ [{ kind := 1, dev := d.self, count := d.safe.noticeCount % 65536, left := 2 }]
          ∧ e.safe.noticeCount = d.safe.noticeCount + 1)
  ∧ (∀ u x, Completes (.occultation u x false) (fun d => (d.safe.occs.any fun o => decide (o.unit = u)) = true) fun d e => Only [] [] d e)
  ∧ (∀ u x, Completes (.occultation u x true) (fun d => (d.safe.occs.any fun o => decide (o.unit = u)) = false) fun d e => Only [] [] d e)
  ∧ (∀ (c : Fin 128) x, Completes (.occultation (.core c) x true) (fun d => d.safe.occs = [{ unit := .core c, ctrl := false }]
        ∧ d.inService c = false ∧ NMap.get 7 d.safe.phys c < 5 ∧ d.occulted = false) fun d e =>
        e.physOf c = NMap.get 7 d.safe.phys c ∧ (∀ k, k < 128 → k ≠ c.val → e.physOf k = d.physOf k) ∧ e.safe.occs = []
          ∧ e.isPending 129 = true
          ∧ Only [⟨.CLU_CORE_MAP, c.val / 4, 0, 0⟩, ⟨.INT_PEND_SET_k, 0, 2, 0⟩] (.safe :: logParts) d e)
  ∧ (∀ x, Completes (.occultation .device x true) (fun d => d.safe.occs = [{ unit := .device, ctrl := false }] ∧ d.occulted = true
        ∧ d.on F.GAS_REPLY_PURGE.REQ = false ∧ d.sdieDown = false ∧ d.coordsValid = true) fun d e =>
        e.occulted = false ∧ e.on F.GAS_REPLY_STAT.FROZEN = false ∧ e.safe.occs = []
          ∧ e.safe.notices = d.safe.notices ++ [{ kind := 2, dev := d.self, count := d.safe.noticeCount % 65536, left := 2 }])
  ∧ (∀ n x, Completes (.noticeCopyTimer n) (fun d => d.safe.notices = [x] ∧ x.count = n ∧ x.left = 2) fun d e =>
        e.safe.notices = [{ x with left := 1 }] ∧ Only [] [.safe, .inside, .injected, .held] d e)
  ∧ (∀ n x, Completes (.noticeCopyTimer n) (fun d => d.safe.notices = [x] ∧ x.count = n ∧ x.left = 1) fun d e =>
        e.safe.notices = [] ∧ Only [] [.safe, .inside, .injected, .held] d e)
  ∧ (∀ n, Completes (.noticeCopyTimer n) (fun d => (d.safe.notices.all fun x => decide (x.count ≠ n)) = true) fun d e => Only [] [] d e)
  ∧ (∀ p c k dev, (c, k) ∈ [(Instr.occultationNotice p, (1 : Byte)), (Instr.deviceLostNotice p, 3)] → Completes c (fun d =>
        p.type = PT.notice ∧ p.payload.headD 0 = k ∧ p.src ≠ d.self ∧ dev = leNat ((p.payload.drop 8).take 4) % 2 ^ 18
        ∧ d.safe.seen.contains (p.src, leNat ((p.payload.drop 4).take 4), leNat ((p.payload.drop 2).take 2)) = false
        ∧ d.reqs = []) fun d e =>
        dev ∈ e.listed ∧ e.isPending 130 = true
          ∧ e.safe.seen = d.safe.seen ++ [(p.src, leNat ((p.payload.drop 4).take 4), leNat ((p.payload.drop 2).take 2))])
  ∧ (∀ p dev, Completes (.restorationNotice p) (fun d =>
        p.type = PT.notice ∧ p.payload.headD 0 = 2 ∧ p.src ≠ d.self ∧ dev = leNat ((p.payload.drop 8).take 4) % 2 ^ 18
        ∧ d.safe.seen.contains (p.src, leNat ((p.payload.drop 4).take 4), leNat ((p.payload.drop 2).take 2)) = false) fun d e =>
        e.listed = d.listed.erase dev
          ∧ e.safe.seen = d.safe.seen ++ [(p.src, leNat ((p.payload.drop 4).take 4), leNat ((p.payload.drop 2).take 2))]
          ∧ Only [] ([.listed, .safe, .inside, .injected, .held] ++ logParts) d e)
  ∧ (∀ p c k, (c, k) ∈ [(Instr.occultationNotice p, (1 : Byte)), (Instr.restorationNotice p, 2), (Instr.deviceLostNotice p, 3)] →
      Completes c (fun d => p.type = PT.notice ∧ p.payload.headD 0 = k ∧ (p.src = d.self
        ∨ d.safe.seen.contains (p.src, leNat ((p.payload.drop 4).take 4), leNat ((p.payload.drop 2).take 2)) = true)) fun d e =>
        Only [] [.inside, .injected, .held] d e)
  ∧ (∀ (u : Fin 65536) x, Completes (.safeOccultUnit u) (fun d => d.accepts ⟨.SAFE_OCCULT_CTRL, 0, 0, 0⟩ = true
        ∧ d.ctrlUnit u = some x ∧ (d.safe.occs.any fun o => decide (o.unit = x)) = false) fun d e =>
        e.safe.occs = d.safe.occs ++ [{ unit := x, ctrl := true }] ∧ e.isPending 129 = true ∧ e.answer.code = 0)
  ∧ (∀ (u : Fin 65536) x, Completes (.safeLiftUnit u) (fun d => d.accepts ⟨.SAFE_OCCULT_CTRL, 0, 0, 0⟩ = true
        ∧ d.ctrlUnit u = some x ∧ (d.safe.occs.any fun o => decide (o.unit = x) && o.ctrl) = true) fun d e =>
        e.safe.occs = (d.safe.occs.filter fun o => decide (o.unit ≠ x)) ∧ e.isPending 129 = true ∧ e.answer.code = 0)
  ∧ (∀ (u : Fin 65536), Completes (.safeOccultUnit u) (fun d => d.accepts ⟨.SAFE_OCCULT_CTRL, 0, 0, 0⟩ = true
        ∧ d.ctrlUnit u = none) fun d e => Dev.did [⟨.SAFE_OCCULT_CTRL, 0, 0, 0⟩] [] d e)
  ∧ (∀ (u : Fin 65536), Completes (.safeLiftUnit u) (fun d => d.accepts ⟨.SAFE_OCCULT_CTRL, 0, 0, 0⟩ = true
        ∧ (d.safe.occs.all fun o => !o.ctrl) = true) fun d e => Dev.did [⟨.SAFE_OCCULT_CTRL, 0, 0, 0⟩] [] d e)
  ∧ (∀ (v : Fin 262144), Completes (.safeDeclareLost v) (fun d => d.accepts ⟨.SAFE_OCCULT_CTRL, 0, 0, 0⟩ = true ∧ v.val ≠ d.self
        ∧ d.sdieDown = false ∧ d.coordsValid = true ∧ d.reqs = []) fun d e =>
        v.val ∈ e.listed ∧ e.isPending 130 = true
          ∧ e.safe.notices = d.safe.notices ++ [{ kind := 3, dev := v, count := d.safe.noticeCount % 65536, left := 2 }])
  ∧ (∀ (v : Fin 262144), Completes (.safeDeclareLost v) (fun d => d.accepts ⟨.SAFE_OCCULT_CTRL, 0, 0, 0⟩ = true ∧ v.val = d.self)
      fun d e => Dev.did [⟨.SAFE_OCCULT_CTRL, 0, 0, 0⟩] [] d e)

/-- Each row completes. An accusation of another device enters the suspects or joins its entry; a summary joins the entry of its suspect, or is scored where it names
this device; the window's end sends a summary of each. Every half-life halves the scores, and CLEAR clears one. A partner's mark that agrees is counted, one that
differs is a mismatch, one that is early waits, and a mark whose partner does not come is lost. First Light on demand starts when its C-dies are idle and is
refused otherwise. A Plate window opens, a range is hashed, and its record and digest are put in the registers; while the range is held back nothing
happens, and the digest of an unreadable range is a free value. A silent residue checker, and a monitor without a heartbeat,
are reported. A firmware message is handed over.
Where the manual leaves a detail open, the clauses rest on the model's choices of log entries 47, 53 and 59. -/
def Obligations.HealthAndChecks : Prop :=
  (∀ (v : Fin 262144) (u : Fin 65536), Completes (.safeAccuse v u) (fun d => d.accepts ⟨.SAFE_ACCUSE, 0, 0, 0⟩ = true ∧ v.val ≠ d.self
        ∧ (d.suspects.all fun s => decide (s.dev ≠ v.val)) = true ∧ d.suspects.length < 256) fun d e =>
        e.suspects = d.suspects ++ [{ dev := v, accusers := 0, mask := 16, unit := u, own := true }]
          ∧ e.gf F.SAFE_AGG_STAT.SUSPECTS = (d.suspects.length + 1) % 512
          ∧ Dev.did [⟨.SAFE_ACCUSE, 0, 0, 0⟩, ⟨.SAFE_AGG_STAT, 0, 0, 0⟩] [.suspects] d e)
  ∧ (∀ (v : Fin 262144) (u : Fin 65536), Completes (.safeAccuse v u) (fun d => d.accepts ⟨.SAFE_ACCUSE, 0, 0, 0⟩ = true ∧ v.val ≠ d.self
        ∧ (d.suspects.any fun s => decide (s.dev = v.val)) = true) fun d e =>
        e.suspects = (d.suspects.map fun s => if s.dev = v.val then
            { s with accusers := s.accusers, mask := s.mask ||| 16, unit := min s.unit u, own := true } else s)
          ∧ Dev.did [⟨.SAFE_ACCUSE, 0, 0, 0⟩] [.suspects] d e)
  ∧ (∀ (v : Fin 262144) (u : Fin 65536), Completes (.safeAccuse v u) (fun d => d.accepts ⟨.SAFE_ACCUSE, 0, 0, 0⟩ = true ∧ v.val = d.self)
      fun d e => Dev.did [⟨.SAFE_ACCUSE, 0, 0, 0⟩] [] d e)
  ∧ (∀ p x, Completes (.accusationSummary p) (fun d => p.type = PT.notice ∧ noticeKind p = 4
        ∧ x = leNat ((p.payload.drop 8).take 4) % 2 ^ 18 ∧ x ≠ d.self
        ∧ (d.suspects.all fun s => decide (s.dev ≠ x)) = true ∧ d.suspects.length < 256) fun d e =>
        (∃ s, e.suspects = d.suspects ++ [s] ∧ s.dev = x ∧ s.own = false ∧ s.accusers = leNat ((p.payload.drop 12).take 4)
          ∧ s.mask = leNat ((p.payload.drop 16).take 1) % 32 ∧ s.unit = leNat ((p.payload.drop 18).take 2))
          ∧ e.isPending 131 = true
          ∧ Only [⟨.SAFE_AGG_STAT, 0, 0, 0⟩, ⟨.INT_PEND_SET_k, 0, 2, 0⟩] [.suspects, .inside, .injected] d e)
  ∧ (∀ p u n, Completes (.accusationSummary p) (fun d => p.type = PT.notice ∧ noticeKind p = 4
        ∧ leNat ((p.payload.drop 8).take 4) % 2 ^ 18 = d.self ∧ n = leNat ((p.payload.drop 12).take 4)
        ∧ u = (if leNat ((p.payload.drop 18).take 2) < 2048 then leNat ((p.payload.drop 18).take 2) else 1481)) fun d e =>
        e.gf F.SAFE_HEALTH_u.SCORE 0 u = min (2 ^ 24 - 1) (d.gf F.SAFE_HEALTH_u.SCORE 0 u + min n 16)
          ∧ e.isPending 131 = true ∧ e.suspects = d.suspects ∧ Only [] ([.inside, .injected] ++ scoreParts) d e)
  ∧ Completes .accusationWindowEnd (fun _ => True) (fun _ e => e.suspects = [] ∧ e.gf F.SAFE_AGG_STAT.SUSPECTS = 0)
  ∧ Completes .accusationWindowEnd (fun d => (∃ s, d.suspects = [s] ∧ s.dev ≠ d.self) ∧ d.on F.SAFE_CTRL.AGG_EN = true
        ∧ d.gf F.SAFE_CTRL.ANCHOR_INDEX ≠ d.self ∧ d.hasRoute (d.gf F.SAFE_CTRL.ANCHOR_INDEX) = true
        ∧ d.listed.contains (d.gf F.SAFE_CTRL.ANCHOR_INDEX) = false
        ∧ d.rackParent (d.gf F.SAFE_CTRL.ANCHOR_INDEX) ≠ d.self) (fun d e =>
        (∃ q, e.injected = d.injected ++ [q] ∧ q.type = PT.notice ∧ q.dst = d.rackParent (d.gf F.SAFE_CTRL.ANCHOR_INDEX)
          ∧ noticeKind q = 4 ∧ (∀ s ∈ d.suspects, leNat ((q.payload.drop 8).take 4) = s.dev % 2 ^ 32))
          ∧ Only [⟨.SAFE_AGG_STAT, 0, 0, 0⟩] [.suspects, .injected] d e)
  ∧ (∀ s w, Completes .accusationWindowEnd (fun d => d.suspects = [s] ∧ s.dev ≠ d.self ∧ d.on F.SAFE_CTRL.AGG_EN = false
        ∧ d.coordsValid = true ∧ w = d.accuseWindow - 1) fun d e =>
        Dev.sameTraffic ({ e with inside := d.inside, held := d.held, injected := d.injected }.notice s.dev 4 0 0 (Dev.summaryBody s w)) e
          ∧ e.suspects = [] ∧ Dev.counted F.SAFE_AGG_STAT.BYPASS 1 0 0 d e
          ∧ Only [⟨.SAFE_AGG_STAT, 0, 0, 0⟩] [.suspects, .injected, .inside, .held] d e)
  ∧ Completes .healthHalfLife (fun _ => True) (fun d e =>
        (∀ u, u < 2048 → e.gf F.SAFE_HEALTH_u.SCORE 0 u = d.gf F.SAFE_HEALTH_u.SCORE 0 u / 2)
          ∧ (∀ u, u < 2048 → d.gf F.SAFE_HEALTH_u.LEVEL 0 u ≠ 1 → e.gf F.SAFE_HEALTH_u.LEVEL 0 u = d.gf F.SAFE_HEALTH_u.LEVEL 0 u)
          ∧ (∀ u, u < 2048 → d.gf F.SAFE_HEALTH_u.LEVEL 0 u = 1 → d.gf F.SAFE_HEALTH_u.SCORE 0 u ≠ 0 →
              e.gf F.SAFE_HEALTH_u.LEVEL 0 u = (if 2 * (d.gf F.SAFE_HEALTH_u.SCORE 0 u / 2) < d.gf F.SAFE_HEALTH_CTRL.WATCH then 0 else 1))
          ∧ Only [] [.reg .SAFE_HEALTH_u, .eph] d e)
  ∧ (∀ (u : Fin 2048), Completes (.healthClear u) (fun d => d.accepts ⟨.SAFE_HEALTH_u, 0, u, 0⟩ = true) fun d e =>
        e.gf F.SAFE_HEALTH_u.SCORE 0 u = 0 ∧ e.gf F.SAFE_HEALTH_u.LEVEL 0 u = 0
          ∧ e.gf F.SAFE_HEALTH_u.LAST_CODE 0 u = d.gf F.SAFE_HEALTH_u.LAST_CODE 0 u ∧ Dev.did [⟨.SAFE_HEALTH_u, 0, u, 0⟩] [] d e)
  ∧ (∀ p c n v x, Completes (.lockstepMarkNotice p) (fun d => p.type = PT.notice ∧ noticeKind p = 7 ∧ d.on F.SAFE_LS_CTRL.EN = true
        ∧ p.src = d.gf F.SAFE_LS_CTRL.PARTNER ∧ c = leNat ((p.payload.drop 24).take 1) ∧ c < 128
        ∧ n = leNat ((p.payload.drop 8).take 8) ∧ v = leNat ((p.payload.drop 16).take 8)
        ∧ (d.core c).marks.find? (fun m => decide (m.number = n)) = some x) fun d e =>
        (e.core c).marks = (d.core c).marks.erase x
          ∧ (x.value = v → e.gf F.SAFE_LS_STAT.AGREED = min (2 ^ 32 - 1) (d.gf F.SAFE_LS_STAT.AGREED + 1)
              ∧ Only [⟨.SAFE_LS_STAT, 0, 0, 0⟩] [.cores, .inside, .injected] d e)
          ∧ (x.value ≠ v → e.on F.SAFE_LS_STAT.MISMATCH = true ∧ e.gf F.SAFE_LS_STAT.CORE = c ∧ e.isPending 134 = true
              ∧ e.safe.plateBad = true))
  ∧ (∀ p c n v, Completes (.lockstepMarkNotice p) (fun d => p.type = PT.notice ∧ noticeKind p = 7 ∧ d.on F.SAFE_LS_CTRL.EN = true
        ∧ p.src = d.gf F.SAFE_LS_CTRL.PARTNER ∧ c = leNat ((p.payload.drop 24).take 1) ∧ c < 128
        ∧ n = leNat ((p.payload.drop 8).take 8) ∧ v = leNat ((p.payload.drop 16).take 8)
        ∧ (d.core c).marks = [] ∧ d.gf F.SAFE_CORE_MARK.MARKS c ≤ n ∧ (d.core c).partnerMarks.length < 16) fun d e =>
        (e.core c).partnerMarks = (d.core c).partnerMarks ++ [{ number := n, value := v }] ∧ Dev.coreOnly c (List.range 16) d e
          ∧ Only [] [.cores, .inside, .injected] d e)
  ∧ (∀ p, Completes (.lockstepMarkNotice p) (fun d => p.type = PT.notice ∧ noticeKind p = 7 ∧ (d.on F.SAFE_LS_CTRL.EN = false
        ∨ p.src ≠ d.gf F.SAFE_LS_CTRL.PARTNER)) fun d e => Only [] [.inside, .injected] d e)
  ∧ (∀ (c : Fin 128) n x, Completes (.lockstepMarkTimeout c n) (fun d => (d.core c).marks.find? (fun m => decide (m.number = n)) = some x)
      fun d e => (e.core c).marks = (d.core c).marks.erase x ∧ e.on F.SAFE_LS_STAT.LOST = true ∧ e.gf F.SAFE_LS_STAT.CORE = c.val
          ∧ e.isPending 134 = true ∧ e.safe.plateBad = true
          ∧ Only [⟨.SAFE_LS_STAT, 0, 0, 0⟩, ⟨.INT_PEND_SET_k, 0, 2, 0⟩] ([.cores, .safe] ++ logParts) d e)
  ∧ (∀ (c : Fin 128) n, Completes (.lockstepMarkTimeout c n) (fun d => (d.core c).marks = []) fun d e => Only [] [] d e)
  ∧ (∀ p, Completes (.firmwareMessage p) (fun _ => p.type = PT.notice ∧ noticeKind p = 8) fun d e =>
        e.safe = { d.safe with messages := d.safe.messages ++ [(p.src, p.payload.drop 8)] } ∧ Only [] [.safe, .inside, .injected] d e)
  ∧ (∀ (f : Fin 4) (x : Fin 256), Completes (.firstLightReq f x) (fun d => d.accepts ⟨.SAFE_FL_CTRL, 0, 0, 0⟩ = true
        ∧ d.started = true ∧ d.boot.step = .ready ∧ ((List.range 128).all fun c => !bitOf x (c / 16) || d.coreIdle c) = true
        ∧ d.safe.firstLight = none ∧ f.val < 2) fun d e =>
        e.safe = { d.safe with firstLight := some (decide (f.val = 1), x.val) } ∧ e.gf F.SAFE_FL_STAT.STATE = 1
          ∧ Dev.did [⟨.SAFE_FL_CTRL, 0, 0, 0⟩, ⟨.SAFE_FL_STAT, 0, 0, 0⟩] [.safe] d e)
  ∧ (∀ (f : Fin 4) (x : Fin 256), Completes (.firstLightReq f x) (fun d => d.accepts ⟨.SAFE_FL_CTRL, 0, 0, 0⟩ = true
        ∧ (((List.range 128).all fun c => !bitOf x (c / 16) || d.coreIdle c) = false ∨ d.safe.firstLight.isSome = true ∨ 2 ≤ f.val)) fun d e =>
        e.safe = d.safe ∧ e.gf F.SAFE_FL_STAT.STATE = 4 ∧ e.gf F.SAFE_FL_STAT.CODE = Code.FIRST_LIGHT_REFUSED
          ∧ Dev.did [⟨.SAFE_FL_CTRL, 0, 0, 0⟩, ⟨.SAFE_FL_STAT, 0, 0, 0⟩] [] d e)
  ∧ Completes .plateStart (fun d => d.accepts ⟨.SAFE_PLATE_CTRL, 0, 0, 0⟩ = true) (fun d e =>
        e.safe = { d.safe with plate := some (d.ndetSum, d.gf F.SAFE_LS_STAT.AGREED, d.marksTaken), plateBad := false }
          ∧ e.on F.SAFE_LS_STAT.UNCHECKED = false ∧ (∀ c, c < 128 → (e.core c).markTime = some d.chrono)
          ∧ Dev.did [⟨.SAFE_LS_STAT, 0, 0, 0⟩] [.safe, .cores] d e)
  ∧ (∀ a n, Completes .plateReq (fun d => d.accepts ⟨.SAFE_PLATE_CTRL, 0, 0, 0⟩ = true ∧ a = d.gf F.SAFE_PLATE_ADDR.ADDR
        ∧ n = d.gf F.SAFE_PLATE_LEN.LEN ∧ d.on F.SAFE_PLATE_STAT.BUSY = false ∧ n ≠ 0 ∧ d.started = true
        ∧ (d.areaOf a n = some .hbm ∨ d.areaOf a n = some .sram)) fun d e =>
        e.safe = { d.safe with making := some (a, n, d.plateChecked) } ∧ e.on F.SAFE_PLATE_STAT.BUSY = true
          ∧ e.on F.SAFE_PLATE_STAT.DONE = false ∧ Dev.did [⟨.SAFE_PLATE_STAT, 0, 0, 0⟩] [.safe] d e)
  ∧ Completes .plateReq (fun d => d.accepts ⟨.SAFE_PLATE_CTRL, 0, 0, 0⟩ = true ∧ (d.on F.SAFE_PLATE_STAT.BUSY = true
        ∨ d.gf F.SAFE_PLATE_LEN.LEN = 0)) (fun d e =>
        e.gf F.SAFE_PLATE_STAT.CODE = Code.PLATE_REFUSED ∧ e.safe = d.safe ∧ Dev.did [⟨.SAFE_PLATE_STAT, 0, 0, 0⟩] [] d e)
  ∧ (∀ a n c errs x, Completes (.plateDone errs) (fun d => d.safe.making = some (a, n, c)
        ∧ x = d.plateRecord (Config.sha384 (d.rangeBytes a n)) a n c ∧ ((0x100000000000 ≤ a ∧ d.copyingAt a n = none)
          ∨ (a < 0x100000000000 ∧ errs = [] ∧ d.hbmFree a n false = true))) fun d e =>
        e.safe.making = none ∧ e.on F.SAFE_PLATE_STAT.DONE = true ∧ e.on F.SAFE_PLATE_STAT.BUSY = false ∧ e.isPending 136 = true
          ∧ (∀ k, k < 32 → (e.reg ⟨.SAFE_PLATE_REC_n, 0, k, 0⟩).toNat = leNat ((x.drop (8 * k)).take 8))
          ∧ (∀ k, k < 6 → (e.reg ⟨.SAFE_PLATE_DIGEST_k, 0, k, 0⟩).toNat
              = leNat (((leBytes 48 (Config.sha384 x).toNat).drop (8 * k)).take 8))
          ∧ Only [⟨.SAFE_PLATE_STAT, 0, 0, 0⟩, ⟨.INT_PEND_SET_k, 0, 2, 0⟩]
              [.safe, .mem, .hlk, .reg .HLK_TX_CNT, .reg .MSC_HIT_CNT, .reg .MSC_MISS_CNT, .reg .MSC_DROP_CNT,
                .reg .SAFE_PLATE_REC_n, .reg .SAFE_PLATE_DIGEST_k] d e)
  ∧ (∀ a n c errs x, Completes (.plateDone errs) (fun d => d.safe.making = some (a, n, c) ∧ a < 0x100000000000
        ∧ d.behind (a, n) = false ∧ unitsOf a n = [a / 64] ∧ d.dirConflict (a / 64) false = false ∧ d.frameBusy (a / 64) = false
        ∧ d.lineAt (a / 64) = none ∧ d.isPoison (a / 64) = true ∧ x = d.plateRecord (Config.freeDigest d.freeIx) a n c) fun d e =>
        e.safe.making = none ∧ e.on F.SAFE_PLATE_STAT.DONE = true ∧ e.freeIx = d.freeIx + 1
          ∧ (∀ k, k < 32 → (e.reg ⟨.SAFE_PLATE_REC_n, 0, k, 0⟩).toNat = leNat ((x.drop (8 * k)).take 8)))
  ∧ (∀ a n c errs, Completes (.plateDone errs) (fun d => d.safe.making = some (a, n, c) ∧ a < 0x100000000000
        ∧ d.behind (a, n) = true) fun d e => Only [] [] d e)
  ∧ (∀ a n c errs k, Completes (.plateDone errs) (fun d => d.safe.making = some (a, n, c) ∧ 0x100000000000 ≤ a
        ∧ d.copyingAt a n = some k) fun d e => Only [] [] d e)
  ∧ (∀ errs, Completes (.plateDone errs) (fun d => d.safe.making = none) fun d e => Only [] [] d e)
  ∧ Completes (.residueInjection true) (fun _ => True) (fun d e => Only [] [] d e)
  ∧ Completes (.residueInjection false) (fun _ => True) (fun d e =>
        e.safe = { d.safe with residueDead := true } ∧ e.on F.SAFE_MON_STAT.RESIDUE_DEAD = true ∧ e.isPending 137 = true
          ∧ Only [⟨.INT_PEND_SET_k, 0, 2, 0⟩] (.safe :: logParts) d e)
  ∧ (∀ b, Completes (.monitorHeartbeat b) (fun _ => True) fun d e =>
        e.on (if b then F.SAFE_MON_STAT.MON_B_OK else F.SAFE_MON_STAT.MON_A_OK) = true
          ∧ e.on (if b then F.SAFE_MON_STAT.MON_A_OK else F.SAFE_MON_STAT.MON_B_OK)
            = d.on (if b then F.SAFE_MON_STAT.MON_A_OK else F.SAFE_MON_STAT.MON_B_OK)
          ∧ Only [⟨.SAFE_MON_STAT, 0, 0, 0⟩] [] d e)
  ∧ (∀ b, Completes (.heartbeatTimeout b) (fun _ => True) fun d e =>
        e.on (if b then F.SAFE_MON_STAT.MON_B_OK else F.SAFE_MON_STAT.MON_A_OK) = false ∧ e.isPending 137 = true
          ∧ Only [⟨.INT_PEND_SET_k, 0, 2, 0⟩] logParts d e)

/-- Whatever the state, and whether or not the command takes effect, each of these commands of a core and of a cluster's
spare leaves the waiting commands as they were and every part of the device as it was but those listed: what a
dispatch or a stop of a core changes, and the command's own destination. HBM, the faces, the links, power and security
stand outside them all. -/
def Obligations.CoreFrames : Prop :=
  (∀ i, ∀ c ∈ [Instr.nop i, Instr.halt i, Instr.spawn i, Instr.br i, Instr.brz i, Instr.brnz i, Instr.brlt i,
      Instr.fence i], Frame (changes [issueParts] [] []) c)
  ∧ (∀ i, ∀ c ∈ [Instr.tli i, Instr.tadd i, Instr.tmul i, Instr.tand i, Instr.tor i, Instr.tshl i, Instr.tshr i,
      Instr.tld i, Instr.rdtime i, Instr.rdcnt i], Frame (changes [issueParts] [] [.CORE_THREAD_n_T_m]) c)
  ∧ (∀ i, Frame (changes [issueParts] [.swaps] [.CLU_SWAP_STAT]) (.pause i))
  ∧ (∀ i, Frame (changes [issueParts] [.clusterStore, .coreStore, .imem] []) (.tst i))
  ∧ (∀ core cluster seq bytes ecc, Frame (changes [stopParts, scoreParts] [] [.CORE_ERR_CNT]) (.streamFifoAppend
      core cluster seq bytes ecc))
  ∧ (∀ core thread, Frame (changes [] [.cores] [.CORE_THREAD_n_T_m, .SYN_FLOOR_n]) (.waitTimeout core thread))
  ∧ (∀ core waitUs, Frame (changes [] [.cores, .engines, .freeIx, .swaps] [.CLU_SWAP_STAT, .CORE_PREEMPT_STAT])
      (.corePaused core waitUs))
  ∧ (∀ core, Frame (changes [logParts] [] [.CORE_PREEMPT_STAT, .INT_PEND_SET_k]) (.corePreemptLate core))
  ∧ (∀ core, Frame (changes [] [.cores] [.CORE_PCMAP_DONE, .CORE_PCMAP_m]) (.pcmapWritten core))
  ∧ (∀ cluster, Frame (changes [] [.swaps] []) (.swapCopyDone cluster))
  ∧ (∀ cluster pass, Frame (changes [logParts] [.cores, .swaps] [.CLU_SWAP_CTRL, .CLU_SWAP_STAT, .INT_PEND_SET_k])
      (.sparePowerUpDone cluster pass))
  ∧ (∀ core ecc, Frame (changes [stopParts, suspectParts, trafficParts] [.engines, .nextMsg, .reqs] [.CORE_ATTN_REC,
      .CORE_ERR_CNT, .GAS_ISSUED_CNT]) (.attnDescriptorStart core ecc))
  ∧ (∀ core entry ecc, Frame (changes [stopParts, suspectParts, trafficParts] [.dseqs, .engines, .nextMsg, .reqs]
      [.CORE_ATTN_REC, .CORE_ERR_CNT, .GAS_ISSUED_CNT]) (.attnMapEntryRead core entry ecc))

/-- Whatever the state, and whether or not the command takes effect, each of these commands leaves the waiting commands as
they were and every part of the device as it was but those listed. A read of HBM, a refresh, a scrub and a temperature
reading change no byte of HBM; no reply and no timeout changes a byte of any memory. -/
def Obligations.MemoryFrames : Prop :=
  (∀ offset bytes hint useCount errs, Frame (changes [scoreParts, hostParts] [.answer, .mem] [.HBM_PC_n_ERR,
      .MSC_DROP_CNT, .MSC_ERR_CNT, .MSC_HIT_CNT, .MSC_MISS_CNT]) (.hbmRead offset bytes hint useCount errs))
  ∧ (∀ offset data hint useCount errs, Frame (changes [scoreParts, hostParts] [.answer, .hbm, .mem] [.HBM_PC_n_ERR,
      .MSC_ERR_CNT]) (.hbmWrite offset data hint useCount errs))
  ∧ (∀ x unkeep errs, Frame (changes [scoreParts, hostParts] [.mem] [.MSC_CTRL, .MSC_ERR_CNT]) (.mscOpDone x unkeep
      errs))
  ∧ (∀ x unit ecc last odecc, Frame (changes [scoreParts] [.mem] [.HBM_PC_n_ERR, .HBM_SCRUB_CTRL,
      .HBM_STACK_s_STAT]) (.patrolScrub x unit ecc last odecc))
  ∧ (Frame (changes [] [] []) .hbmRefresh)
  ∧ (∀ x temps, Frame (changes [] [] [.HBM_STACK_s_STAT, .HBM_STAT]) (.stackTempRead x temps))
  ∧ (Frame (changes [] [.hbm, .mem] [.HBM_MAPOUT_STAT]) .mapoutFenceDone)
  ∧ (∀ stack ok temp, Frame (changes [logParts] [.boot, .eph, .mem, .power, .safe] [.BOOT_FW_STAT, .BOOT_STAT,
      .HBM_STACK_s_STAT, .HBM_STAT]) (.hbmTrainingDone stack ok temp))
  ∧ (Frame (changes [logParts] [.boot, .eph, .gas, .hbm, .mem, .power] [.BOOT_FW_STAT, .BOOT_STAT, .HBM_STAT])
      .hbmZeroFillDone)
  ∧ (∀ p errs, Frame (changes [scoreParts, hostParts, trafficParts] [.clusterStore, .coreStore, .gas, .hbm, .mem,
      .swaps] [.GAS_ERR_CNT, .GAS_REPLY_STAT, .GAS_SERVED_CNT, .HBM_PC_n_ERR, .MSC_DROP_CNT, .MSC_ERR_CNT,
      .MSC_HIT_CNT, .MSC_MISS_CNT]) (.atomic p errs))
  ∧ (∀ p, Frame (changes [logParts, trafficParts] [.gas] [.GAS_REPLY_STAT]) (.release p))
  ∧ (∀ p, Frame (changes [stopParts, suspectParts, unsettledParts, trafficParts] [.engines, .rates, .reqs]
      [.CORE_ATTN_REC, .SYN_CORE_STAT, .XFB_RATE_STAT]) (.refusal p))
  ∧ (∀ p, Frame (changes [stopParts, scoreParts, trafficParts] [.gas, .safe, .swaps] [.GAS_ERR_CNT, .GAS_REPLY_STAT,
      .GAS_SERVED_CNT, .SAFE_CORE_DIGEST, .SAFE_CORE_MARK, .SAFE_LS_STAT, .SYN_CNT_n, .SYN_CORE_FAULT,
      .SYN_UPDATE_CNT]) (.counter p))
  ∧ (∀ p, Frame (changes [stopParts, suspectParts, trafficParts] [.colls, .dseqs, .engines, .nextMsg, .rates, .reqs]
      [.CORE_ATTN_REC, .GAS_ISSUED_CNT, .XFB_RATE_STAT]) (.dmaAck p))
  ∧ (∀ p, Frame (changes [trafficParts] [.gas] [.GAS_REPLY_STAT]) (.query p))
  ∧ (∀ p, Frame (changes [] [.injected, .inside] [.GAS_UNSETTLED_n_TAG, .GAS_UNSETTLED_n_VALUE]) (.queryAnswer p))
  ∧ (∀ p, ∀ c ∈ [Instr.releaseAck p, Instr.busy p], Frame (changes [] [.injected, .inside, .rates, .reqs]
      [.XFB_RATE_STAT]) c)
  ∧ (∀ msg, Frame (changes [trafficParts] [.reqs] [.GAS_ERR_CNT, .GAS_ISSUED_CNT]) (.gatomBusyResend msg))
  ∧ (∀ msg, Frame (changes [trafficParts] [.reqs] []) (.releaseResend msg))
  ∧ (∀ n, Frame (changes [trafficParts] [] []) (.queryResend n))
  ∧ (Frame (changes [] [.gas] [.GAS_REPLY_STAT]) .replyEntryExpiry)
  ∧ (∀ msg, ∀ c ∈ [Instr.gasRequestTimeout msg, Instr.remoteSignalTimeout msg], Frame (changes [stopParts,
      suspectParts, unsettledParts, trafficParts] [.engines, .reqs] [.CORE_ATTN_REC, .GAS_ERR_CNT, .GAS_ISSUED_CNT,
      .SYN_CORE_STAT]) c)
  ∧ (∀ msg offset, Frame (changes [stopParts, suspectParts, unsettledParts, trafficParts] [.engines, .reqs]
      [.CORE_ATTN_REC, .GAS_ERR_CNT, .GAS_ISSUED_CNT, .SYN_CORE_STAT]) (.dmaPacketTimeout msg offset))
  ∧ (∀ p, Frame (changes [] [.held, .injected, .rates, .reqs] []) (.pacedInjection p))
  ∧ (∀ dst, ∀ c ∈ [Instr.rateAlphaDecay dst, Instr.rateIncrease dst], Frame (changes [] [.rates] [.XFB_RATE_STAT])
      c)
  ∧ (Frame (changes [] [.gas] [.GAS_REGION_FENCE]) .regionFenceDone)

/-- Whatever the state, and whether or not the command takes effect, each of these commands of the router and of the
optical ports leaves the waiting commands as they were and every part of the device as it was but those listed. None
of them changes a core, an engine or a byte of any memory, but that the loss of the last host port takes the Perdun
link out of service, after which accesses that waited for a line go on. -/
def Obligations.FabricFrames : Prop :=
  (∀ face, Frame (changes [logParts, trafficParts] [.fab] [.INT_PEND_SET_k, .XFB_CIRCUIT_STAT, .XFB_FACE_f_STAT,
      .XFB_TRANSIT_n_STAT]) (.faceDown face))
  ∧ (∀ slot, Frame (changes [] [.fab] [.XFB_CIRCUIT_STAT, .XFB_TRANSIT_n_STAT]) (.transitTearReady slot))
  ∧ (∀ face p nextOwn, Frame (changes [logParts, trafficParts] [.fab] [.XFB_CIRCUIT_STAT, .XFB_TRANSIT_n_STAT])
      (.transitSetup face p nextOwn))
  ∧ (∀ p, Frame (changes [logParts] [.fab, .injected, .inside] [.XFB_CIRCUIT_STAT, .XFB_TRANSIT_n_STAT])
      (.transitReply p))
  ∧ (∀ face p, Frame (changes [trafficParts] [.fab] [.XFB_CIRCUIT_STAT]) (.transitTear face p))
  ∧ (∀ p, Frame (changes [logParts] [.fab, .injected, .inside] [.INT_PEND_SET_k, .XFB_CIRCUIT_STAT,
      .XFB_TRANSIT_n_STAT]) (.transitBroken p))
  ∧ (∀ slot, Frame (changes [logParts] [.fab] [.XFB_CIRCUIT_STAT, .XFB_TRANSIT_n_STAT]) (.transitSetupTimeout slot))
  ∧ (Frame (changes [] [] [.XFB_TABLE_STAT]) .drained)
  ∧ (∀ die (port : Fin 10) found, port.val < 8 → Frame (changes [logParts] [.eph, .ports] [.OPT_FACE_STAT,
      .OPT_PORT_n_CH_c_LASER, .OPT_PORT_n_STAT]) (.portCalibrateDone die port found))
  ∧ (∀ die (port : Fin 10), port.val < 8 → ∀ c ∈ [Instr.portLightDone die port, Instr.portLockDone die port,
      Instr.portAlignDone die port, Instr.mirrorQualified die port], Frame (changes [] [.eph, .ports]
      [.OPT_PORT_n_STAT]) c)
  ∧ (∀ die (port : Fin 10) farFace farPort farMap farDead, port.val < 8 → Frame (changes [logParts] [.eph, .ports]
      [.INT_PEND_SET_k, .OPT_PORT_n_CH_c_LASER, .OPT_PORT_n_MAP_k, .OPT_PORT_n_STAT]) (.portExchange die port farFace
      farPort farMap farDead))
  ∧ (∀ die (port : Fin 10), port.val < 8 → Frame (changes [logParts, trafficParts] [.eph, .fab, .ports]
      [.INT_PEND_SET_k, .OPT_FACE_STAT, .OPT_PORT_n_STAT, .XFB_CIRCUIT_STAT, .XFB_FACE_f_STAT, .XFB_TRANSIT_n_STAT])
      (.portQualifyDone die port))
  ∧ (∀ die (port : Fin 10) group, port.val < 8 → Frame (changes [scoreParts, trafficParts] [.fab, .ports]
      [.OPT_FACE_STAT, .OPT_PORT_n_CH_c_LASER, .OPT_PORT_n_CORR_CNT, .OPT_PORT_n_FEC_CNT, .OPT_PORT_n_GRP_CNT,
      .OPT_PORT_n_MAP_k, .OPT_PORT_n_STAT, .XFB_CIRCUIT_STAT, .XFB_FACE_f_STAT, .XFB_TRANSIT_n_STAT]) (.groupReceive
      die port group))
  ∧ (∀ die (port : Fin 10) ack good, port.val < 8 → Frame (changes [scoreParts] [.ports] [.OPT_PORT_n_FEC_CNT,
      .OPT_PORT_n_STAT]) (.replayRequest die port ack good))
  ∧ (∀ die (port : Fin 10), port.val < 8 → Frame (changes [logParts, trafficParts] [.eph, .fab, .ports]
      [.INT_PEND_SET_k, .OPT_FACE_STAT, .OPT_PORT_n_CH_c_LASER, .OPT_PORT_n_MAP_k, .OPT_PORT_n_STAT,
      .XFB_CIRCUIT_STAT, .XFB_FACE_f_STAT, .XFB_TRANSIT_n_STAT]) (.aprEntry die port))
  ∧ (∀ die (port : Fin 10), port.val < 8 → Frame (changes [] [.eph, .ports] [.OPT_FACE_STAT, .OPT_PORT_n_STAT])
      (.aprLightReturn die port))
  ∧ (∀ die readings, Frame (changes [] [] [.OPT_PORT_n_CH_c_MON, .OPT_PORT_n_POWER]) (.monitorRefresh die readings))
  ∧ (∀ die (port : Fin 10) farEdge, port.val < 8 → Frame (changes [] [.ports] [.OPT_PORT_n_POWER]) (.edgePowerReport
      die port farEdge))
  ∧ (∀ die, Frame (changes [scoreParts] [] [.OPT_PORT_n_STAT]) (.lossCheck die))
  ∧ (∀ die (port : Fin 10) channel bias power eta, port.val < 8 → Frame (changes [scoreParts, trafficParts] [.fab,
      .freeIx, .ports] [.OPT_FACE_STAT, .OPT_PORT_n_CH_c_LASER, .OPT_PORT_n_MAP_k, .OPT_PORT_n_STAT,
      .XFB_CIRCUIT_STAT, .XFB_FACE_f_STAT, .XFB_TRANSIT_n_STAT]) (.heliostatAdjust die port channel bias power eta))
  ∧ (∀ die (port : Fin 10), port.val < 8 → Frame (changes [scoreParts, trafficParts] [.fab, .ports] [.OPT_FACE_STAT,
      .OPT_PORT_n_CH_c_LASER, .OPT_PORT_n_CH_c_MON, .OPT_PORT_n_MAP_k, .OPT_PORT_n_STAT, .XFB_CIRCUIT_STAT,
      .XFB_FACE_f_STAT, .XFB_TRANSIT_n_STAT]) (.seeingWindow die port))
  ∧ (∀ die (port : Fin 10), port.val < 8 → Frame (changes [logParts] [.eph, .ports] [.INT_PEND_SET_k,
      .OPT_PORT_n_CH_c_LASER, .OPT_PORT_n_STAT]) (.spareSwapStart die port))
  ∧ (∀ die (port : Fin 10) ok, port.val < 8 → ∀ c ∈ [Instr.spareLightDone die port ok, Instr.spareTrainDone die port
      ok], Frame (changes [logParts] [.eph, .ports] [.INT_PEND_SET_k, .OPT_PORT_n_CH_c_LASER, .OPT_PORT_n_STAT]) c)
  ∧ (∀ die (port : Fin 10) cal, port.val < 8 → Frame (changes [logParts] [.eph, .ports] [.INT_PEND_SET_k,
      .OPT_PORT_n_CH_c_LASER, .OPT_PORT_n_STAT]) (.swapRetireDone die port cal))
  ∧ (∀ die (port : Fin 10), port.val < 8 → Frame (changes [scoreParts, trafficParts] [.fab, .ports] [.OPT_FACE_STAT,
      .OPT_PORT_n_CH_c_LASER, .OPT_PORT_n_MAP_k, .OPT_PORT_n_STAT, .XFB_CIRCUIT_STAT, .XFB_FACE_f_STAT,
      .XFB_TRANSIT_n_STAT]) (.swapSwitch die port))
  ∧ (∀ die (port : Fin 10) channel, port.val < 8 → Frame (changes [scoreParts, trafficParts] [.fab, .ports]
      [.OPT_FACE_STAT, .OPT_PORT_n_CH_c_LASER, .OPT_PORT_n_MAP_k, .OPT_PORT_n_STAT, .XFB_CIRCUIT_STAT,
      .XFB_FACE_f_STAT, .XFB_TRANSIT_n_STAT]) (.noLightOnChannel die port channel))
  ∧ (∀ die (port : Fin 10) cmd lane channel, port.val < 8 → Frame (changes [] [.eph, .ports] [.OPT_PORT_n_MAP_k,
      .OPT_PORT_n_STAT]) (.swapCmdReceive die port cmd lane channel))
  ∧ (∀ die port found farFace farPort farMap farDead group ack good farEdge channel bias power eta ok cmd lane cal,
      ∀ c ∈ [Instr.portCalibrateDone die port found, Instr.portLightDone die port, Instr.portLockDone die port,
      Instr.portAlignDone die port, Instr.portExchange die port farFace farPort farMap farDead, Instr.portQualifyDone
      die port, Instr.groupReceive die port group, Instr.replayRequest die port ack good, Instr.aprEntry die port,
      Instr.aprLightReturn die port, Instr.edgePowerReport die port farEdge, Instr.heliostatAdjust die port channel
      bias power eta, Instr.seeingWindow die port, Instr.spareSwapStart die port, Instr.spareLightDone die port ok,
      Instr.spareTrainDone die port ok, Instr.mirrorQualified die port, Instr.swapSwitch die port,
      Instr.swapCmdReceive die port cmd lane channel, Instr.swapRetireDone die port cal, Instr.noLightOnChannel die
      port channel], Frame (changes [scoreParts, hostParts, trafficParts] [.answer, .clusterStore, .colls, .coreStore,
      .cores, .fab, .freeIx, .gas, .hbm, .int, .mem, .mgmt, .ports, .swaps] [.BOOT_FW_STAT, .COL_GROUP_n_CFG,
      .COL_GROUP_n_CTRL, .COL_GROUP_n_STAT, .EPH_ERR_CNT, .GAS_ERR_CNT, .GAS_REPLY_STAT, .GAS_SERVED_CNT,
      .HBM_PC_n_ERR, .HLK_ERR_CNT, .HLK_STAT, .MSC_DROP_CNT, .MSC_ERR_CNT, .MSC_HIT_CNT, .MSC_MISS_CNT,
      .OPT_FACE_STAT, .OPT_PORT_n_CH_c_LASER, .OPT_PORT_n_CH_c_MON, .OPT_PORT_n_CORR_CNT, .OPT_PORT_n_FEC_CNT,
      .OPT_PORT_n_GRP_CNT, .OPT_PORT_n_MAP_k, .OPT_PORT_n_POWER, .OPT_PORT_n_STAT, .XFB_CIRCUIT_STAT,
      .XFB_FACE_f_STAT, .XFB_TRANSIT_n_STAT]) c)

/-- Whatever the state, and whether or not the command takes effect, each of these commands leaves the waiting commands as
they were and every part of the device as it was but those listed. None of them changes a byte of any memory, and only
the alignment of time changes the Chronograph. -/
def Obligations.LinkAndTimeFrames : Prop :=
  (∀ p, Frame (changes [logParts, trafficParts] [.colls, .nextMsg, .reqs] [.COL_GROUP_n_CTRL, .COL_GROUP_n_STAT,
      .INT_PEND_SET_k]) (.collAbortMarker p))
  ∧ (∀ p, Frame (changes [suspectParts, trafficParts] [.colls] [.COL_GROUP_n_STAT]) (.collWaitingMarker p))
  ∧ (∀ p, Frame (changes [trafficParts] [.colls, .nextMsg] []) (.collMulticastAck p))
  ∧ (∀ slot, Frame (changes [suspectParts, trafficParts] [.nextMsg] [.COL_GROUP_n_STAT]) (.stragglerTimeout slot))
  ∧ (∀ msg offset, Frame (changes [suspectParts, trafficParts] [.colls, .nextMsg, .reqs] [.COL_GROUP_n_STAT,
      .GAS_ERR_CNT]) (.collPacketTimeout msg offset))
  ∧ (∀ p, Frame (changes [logParts, trafficParts] [.colls, .nextMsg, .reqs] [.COL_GROUP_n_STAT, .CORE_COLL_REC,
      .INT_PEND_SET_k, .SYN_BARRIER_n]) (.barrierRelease p))
  ∧ (∀ t1, Frame (changes [trafficParts] [] [.SYN_TIME_STAT]) (.timeExchange t1))
  ∧ (∀ p t2 t3, Frame (changes [trafficParts] [] []) (.timeRequest p t2 t3))
  ∧ (∀ p t4, Frame (changes [logParts] [.chrono, .freeIx, .gas, .injected, .inside, .time] [.INT_PEND_SET_k,
      .SYN_TIME_STAT]) (.timeReply p t4))
  ∧ (Frame (changes [logParts] [.time] [.INT_PEND_SET_k, .SYN_TIME_STAT]) .alignLossTimeout)
  ∧ (Frame (changes [] [.gas, .time] [.SYN_TIME_STAT]) .rootExchangeEnd)
  ∧ (Frame (changes [stopParts, scoreParts, trafficParts] [.safe, .swaps] [.SAFE_CORE_DIGEST, .SAFE_CORE_MARK,
      .SAFE_LS_STAT, .SYN_CNT_n, .SYN_CORE_FAULT, .SYN_MERIDIAN_CTRL, .SYN_MERIDIAN_DONE, .SYN_UPDATE_CNT])
      .meridianRelease)
  ∧ (∀ link initiator payload control, Frame (changes [scoreParts] [.dlk, .fab] [.DLK_LINK_n_ERR,
      .DLK_LINK_n_FRAMES, .DLK_LINK_n_STAT]) (.frameReceive link initiator payload control))
  ∧ (∀ link, Frame (changes [scoreParts] [.dlk] [.DLK_LINK_n_ERR, .DLK_LINK_n_STAT]) (.linkLockLoss link))
  ∧ (∀ link initMask respMask, Frame (changes [] [.dlk] [.DLK_LINK_n_STAT]) (.linkTestDone link initMask respMask))
  ∧ (∀ die bytes identity, Frame (changes [] [.dlk] [.DLK_DIE_k_INV]) (.sidebandMessage die bytes identity))
  ∧ (∀ die, Frame (changes [] [.dlk] []) (.sidebandResend die))
  ∧ (Frame (changes [hostParts] [] []) .helloResend)
  ∧ (∀ vector, Frame (changes [hostParts] [.int] [.INT_PEND_SET_k]) (.companionInterrupt vector))

/-- Whatever the state, and whether or not the command takes effect, each of these commands leaves the waiting commands as
they were and every part of the device as it was but those listed. None of them changes a core, an engine or a byte of
any memory, and no test access port instruction changes a register but to record its refusal. -/
def Obligations.StartAndSecurityFrames : Prop :=
  (∀ n, Frame (changes [] [.mgmt] []) (.i3cPrivateRead n))
  ∧ (∀ c ∈ [Instr.jtagBypass, Instr.jtagIdcode], Frame (changes [] [.mgmt] []) c)
  ∧ (∀ pins preload, Frame (changes [] [.mgmt] []) (.jtagSamplePreload pins preload))
  ∧ (∀ pins scan, Frame (changes [logParts] [.mgmt] [.DBG_STAT]) (.jtagExtest pins scan))
  ∧ (∀ n, Frame (changes [logParts] [.freeIx, .mgmt] [.DBG_STAT]) (.intscan n))
  ∧ (Frame (changes [logParts] [.boot, .eph, .freeIx, .power] [.BOOT_FW_STAT, .BOOT_STAT, .CLK_ISLAND_n_STAT,
      .DBG_CHALLENGE_k]) .railsUp)
  ∧ (∀ delayUs, Frame (changes [logParts] [.boot, .eph, .power] [.BOOT_FW_STAT, .BOOT_FW_VER_s, .BOOT_STAT,
      .BOOT_STRAP]) (.bootRomDone delayUs))
  ∧ (∀ found records, Frame (changes [logParts] [.boot, .eph, .sec] [.SEC_ID_KEYID_k, .SEC_STAT]) (.identityDone
      found records))
  ∧ (∀ read, Frame (changes [logParts] [.boot, .eph, .power, .sec] [.BOOT_ALMANAC_SEQ, .BOOT_FW_STAT,
      .BOOT_FW_VER_s, .BOOT_LAST_START, .BOOT_STAT, .CLK_ISLAND_n_STAT, .PWR_STAT, .SEC_ALM_FLOOR, .SEC_FLOOR,
      .SEC_STAT]) (.firmwareStepDone read))
  ∧ (∀ temps, Frame (changes [logParts, hostParts, trafficParts] [.boot, .eph, .fab, .ports, .power, .safe]
      [.BOOT_FW_STAT, .BOOT_STAT, .HLK_STAT, .INT_PEND_SET_k, .OPT_FACE_STAT, .OPT_PORT_n_CH_c_LASER,
      .OPT_PORT_n_MAP_k, .OPT_PORT_n_STAT, .XFB_CIRCUIT_STAT, .XFB_FACE_f_STAT, .XFB_TRANSIT_n_STAT]) (.linksTrained
      temps))
  ∧ (Frame (changes [logParts] [.boot, .eph, .power, .safe] [.BOOT_FW_STAT, .BOOT_STAT]) .bootWatchdog)
  ∧ (∀ image, Frame (changes [logParts] [.answer, .eph] [.BOOT_FW_STAT, .BOOT_FW_VER_s, .BOOT_REFUSED, .DBG_STAT,
      .EPH_ERR_CNT, .PWR_STAT, .SEC_STAT]) (.fwTrial image))
  ∧ (∀ image, Frame (changes [logParts] [.answer, .boot, .eph] [.BOOT_FW_STAT, .BOOT_REFUSED, .DBG_STAT,
      .EPH_ERR_CNT]) (.fwHandover image))
  ∧ (Frame (changes [logParts] [.boot, .eph] [.BOOT_FW_STAT, .SEC_STAT]) .handoverVerifyDone)
  ∧ (Frame (changes [] [.boot] []) .handoverParkDone)
  ∧ (Frame (changes [] [.boot, .eph] [.BOOT_FW_STAT, .BOOT_FW_VER_s]) .handoverLoadDone)
  ∧ (Frame (changes [logParts] [.boot, .eph] [.BOOT_FW_STAT, .BOOT_FW_VER_s]) .bootHandoverReverted)
  ∧ (Frame (changes [logParts] [.eph] [.BOOT_FW_STAT, .EPH_ERR_CNT]) .journalWrite)
  ∧ (Frame (changes [] [.boot, .eph] [.BOOT_STAT]) .ephSramUncorrectable)
  ∧ (∀ source, Frame (changes [logParts] [.answer, .eph, .sec] [.BOOT_FW_STAT, .BOOT_REFUSED, .DBG_STAT,
      .EPH_ERR_CNT, .SEC_ATTEST_STAT, .SEC_STAT]) (.attestReq source))
  ∧ (Frame (changes [] [] [.DBG_STAT]) .dbgLockoutExpiry)
  ∧ (∀ m branch, Frame (changes [logParts] [.sec] [.DBG_STAT]) (.mcoreStep m branch))
  ∧ (∀ m branches, Frame (changes [logParts] [.answer, .sec] [.DBG_STAT]) (.mcoreTraceRead m branches))

/-- Whatever the state, and whether or not the command takes effect, each of these commands leaves the waiting commands as
they were and every part of the device as it was but those listed. Of them only the end of the rails and the copy to
the HBM ring change a byte of a memory, none changes a port, and only a notice that ends an access changes an engine. -/
def Obligations.PowerAndHealthFrames : Prop :=
  (Frame (changes [] [.power] []) .prsntNMate)
  ∧ (∀ rail ok, Frame (changes [] [.power] []) (.railRegulationChange rail ok))
  ∧ (∀ die above, Frame (changes [] [.power] []) (.comparatorCrossing die above))
  ∧ (∀ c ∈ [Instr.prsntNBreak, Instr.inputLowTimeout], Frame (changes [logParts] [.eph, .power, .safe] [.PWR_STAT])
      c)
  ∧ (∀ khz, Frame (changes [logParts] [.boot, .eph, .power, .safe] [.BOOT_FW_STAT, .BOOT_STAT, .CLK_STAT,
      .PWR_STAT]) (.startDelayExpiry khz))
  ∧ (Frame (changes [logParts] [.boot, .eph, .power, .safe] [.BOOT_STAT, .PWR_STAT]) .pgoodInFall)
  ∧ (Frame (changes [logParts] [.eph, .power, .safe] [.INT_PEND_SET_k, .PWR_STAT]) .converterFail)
  ∧ (∀ vin iin pin, Frame (changes [logParts] [.eph, .power, .safe] [.CLK_ISLAND_n_STAT, .INT_PEND_SET_k,
      .PWR_ENERGY_CNT, .PWR_EVENT_CNT, .PWR_INPUT, .PWR_STAT]) (.inputSample vin iin pin))
  ∧ (Frame (changes [] [.eph, .power] [.INT_PEND_SET_k, .PWR_STAT]) .inputLowLift)
  ∧ (Frame (changes [] [.power] [.CLK_ISLAND_n_STAT]) .clocksStopped)
  ∧ (∀ watts long, Frame (changes [] [.power] [.CLK_ISLAND_n_STAT]) (.capWindow watts long))
  ∧ (∀ island, ∀ c ∈ [Instr.rampStep island, Instr.railSettled island, Instr.droopClear island, Instr.droopRecovery
      island], Frame (changes [] [.power] [.CLK_ISLAND_n_STAT]) c)
  ∧ (∀ die, Frame (changes [] [.power] [.CLK_ISLAND_n_STAT]) (.throttleStep die))
  ∧ (Frame (changes [] [.hbm, .mem, .power] [.CLK_ISLAND_n_STAT]) .railsOff)
  ∧ (∀ island, ∀ c ∈ [Instr.islandIdleGate island, Instr.islandUngate island], Frame (changes [] [.eph]
      [.CLK_ISLAND_n_STAT, .PWR_STAT]) c)
  ∧ (∀ island, Frame (changes [scoreParts] [.power] [.CLK_ISLAND_n_STAT, .PWR_STAT]) (.droopTrip island))
  ∧ (∀ island, Frame (changes [scoreParts] [.power] [.CLK_ISLAND_n_STAT]) (.droopHandover island))
  ∧ (Frame (changes [logParts] [.eph] [.CLK_STAT, .INT_PEND_SET_k, .PWR_STAT]) .clkRefLost)
  ∧ (∀ khz, Frame (changes [] [] [.CLK_STAT]) (.guideStarReturn khz))
  ∧ (∀ die, Frame (changes [] [.power] [.CLK_ISLAND_n_STAT, .THM_STAT]) (.throttleRecoveryStep die))
  ∧ (∀ die, Frame (changes [logParts] [.eph, .power, .safe] [.PWR_STAT, .THM_EVENT_CNT]) (.thmShutdown die))
  ∧ (∀ code source d0 d1, Frame (changes [scoreParts] [] []) (.logReport code source d0 d1))
  ∧ (Frame (changes [] [.log] [.INT_PEND_SET_k, .LOG_HEAD, .LOG_RING_n]) .logRecordWrite)
  ∧ (∀ source code, Frame (changes [] [.log] []) (.coalesceClose source code))
  ∧ (∀ errs, Frame (changes [scoreParts, hostParts] [.hbm, .mem] [.HBM_PC_n_ERR, .LOG_HBM_COPIED, .MSC_ERR_CNT])
      (.hbmRingCopy errs))
  ∧ (∀ count, Frame (changes [trafficParts] [.safe] []) (.noticeCopyTimer count))
  ∧ (∀ p, ∀ c ∈ [Instr.occultationNotice p, Instr.restorationNotice p, Instr.deviceLostNotice p], Frame (changes
      [stopParts, suspectParts, unsettledParts, trafficParts] [.colls, .engines, .listed, .nextMsg, .reqs, .safe]
      [.COL_GROUP_n_CTRL, .COL_GROUP_n_STAT, .CORE_ATTN_REC, .SYN_CORE_STAT]) c)
  ∧ (∀ p, Frame (changes [suspectParts, trafficParts] [] []) (.accusationSummary p))
  ∧ (Frame (changes [suspectParts, trafficParts] [] []) .accusationWindowEnd)
  ∧ (∀ p, Frame (changes [scoreParts] [.cores, .injected, .inside, .safe] [.SAFE_LS_STAT]) (.lockstepMarkNotice p))
  ∧ (∀ core number, Frame (changes [logParts] [.cores, .safe] [.INT_PEND_SET_k, .SAFE_LS_STAT])
      (.lockstepMarkTimeout core number))
  ∧ (∀ p, Frame (changes [] [.injected, .inside, .safe] []) (.firmwareMessage p))
  ∧ (Frame (changes [] [.eph] [.SAFE_HEALTH_u]) .healthHalfLife)
  ∧ (∀ caught, Frame (changes [logParts] [.safe] [.INT_PEND_SET_k]) (.residueInjection caught))

/-- For each command of the module's input, of the shutdown and the restart, of the firmware slots and the journal, and of the power states and
the clocks, conditions on the device and the operands alone under which `exec` answers a next state, and one thing that this state
then holds: the effect that the command has of its own, and not a refusal.
Where the manual leaves a detail open, the clauses rest on the model's choices of log entries 4, 56 and 57. -/
def Obligations.InputPowerAndFirmwareComplete : Prop :=
  Completes .prsntNMate (fun _ => True) (fun _ e => e.power.mated = true)
  ∧ Completes .inputSwitchClose (fun d => d.power.mated = true) (fun _ e => e.power.closed = true)
  ∧ (∀ st vin, Completes (.auxPathInService st vin) (fun d => d.power.closed = true ∧ d.power.aux = false) fun _ e =>
        e.power.aux = true)
  ∧ Completes .prsntNBreak (fun _ => True) (fun _ e => e.power.mated = false ∧ e.power.closed = false)
  ∧ Completes .auxPathOff (fun d => d.power.aux = true) (fun _ e => e.power.aux = false)
  ∧ (∀ khz, Completes (.startDelayExpiry khz) (fun d => d.boot.step = .delay ∧ d.boot.coldNext = false
        ∧ d.power.path = none ∧ d.power.failed < 4) fun _ e => e.power.stageOne = true ∧ e.boot.step = .rails)
  ∧ Completes .pgoodInFall (fun d => d.runs = true ∧ d.power.path = none) (fun _ e => e.power.path = some .clocks)
  ∧ Completes .pgoodHoldExpiry (fun d => d.power.hold = true ∧ d.boot.step ≠ .hold ∧ d.power.rise = false) (fun _ e =>
        e.power.hold = false)
  ∧ (∀ (v i p : Fin 65536), Completes (.inputSample v i p) (fun d => d.power.aux = true ∧ d.runs = false) fun _ e =>
        e.gf F.PWR_INPUT.VIN = v.val)
  ∧ Completes .inputLowTimeout (fun d => d.power.low = true ∧ d.gf F.PWR_INPUT.VIN < 4800 ∧ d.runs = true
        ∧ d.power.path = none) (fun _ e => e.power.path = some .clocks)
  ∧ Completes .inputLowLift (fun d => d.power.low = true ∧ 4850 ≤ d.gf F.PWR_INPUT.VIN) (fun _ e => e.power.low = false)
  ∧ Completes .bootCold (fun d => d.accepts ⟨.BOOT_CTRL, 0, 0, 0⟩ = true ∧ d.power.stageOne = true ∧ d.power.path = none
        ∧ (d.boot.step = .ready ∨ d.boot.step = .failed)) (fun _ e => e.power.path = some .clocks)
  ∧ Completes .bootWarm (fun d => d.accepts ⟨.BOOT_CTRL, 0, 0, 0⟩ = true ∧ d.boot.step = .ready ∧ d.boot.warmRecord = true)
      (fun _ e => e.boot.step = .quiesce ∧ e.boot.kind = .warm)
  ∧ Completes .clocksStopped (fun d => d.power.path = some .clocks) (fun _ e => e.power.path = some .rails)
  ∧ Completes .railsOff (fun d => d.power.path = some .rails) (fun _ e => e.power.path = some .journal ∧ e.hbm = [])
  ∧ Completes .stageOneOff (fun d => d.power.path = some .journal) (fun _ e => e.power.path = none ∧ e.power.stageOne = false)
  ∧ (∀ errs, Completes (.quiesceDone errs) (fun d => d.boot.step = .quiesce ∧ d.mem.mapout = none ∧ d.writeWaits = false
        ∧ d.boot.coldNext = false ∧ d.mem.lines = [] ∧ d.on F.LOG_CTRL.HBM_EN = false) fun _ e => e.boot.step = .rails)
  ∧ Completes .railsUp (fun d => d.boot.step = .rails ∧ d.power.stageOne = true ∧ d.power.path = none ∧ d.boot.coldNext = false
        ∧ d.power.aux = true) (fun _ e => e.power.railsUp = true ∧ e.boot.step = .rom)
  ∧ (∀ us, Completes (.bootRomDone us) (fun d => d.boot.step = .rom ∧ d.boot.coldNext = false) fun _ e => e.boot.step = .firmware)
  ∧ (∀ rail ok, Completes (.railRegulationChange rail ok) (fun _ => True) fun _ e => e.power.badRails.contains rail = !ok)
  ∧ Completes .converterFail (fun d => d.power.stageOne = true ∧ d.power.failed < 5) (fun d e =>
        e.power.failed = d.power.failed + 1)
  ∧ (∀ k : Fin 32, Completes (.dieResetReq k) (fun d => d.accepts ⟨.BOOT_DIE_RESET, 0, 0, 0⟩ = true ∧ d.boot.step = .ready
        ∧ k.val < 19 ∧ k.val ≠ 12 ∧ d.boot.resetting = none ∧ ∀ x ∈ d.safe.occs, ∀ y, x.unit = .die y → y.val ≠ k.val) fun _ e =>
        e.boot.resetting = some k.val)
  ∧ (∀ ms ts errs k, Completes (.dieResetDone ms [] ts errs) (fun d => d.boot.resetting = some k ∧ k < 8 ∧ d.boot.almanac = none
        ∧ ∀ n, n < 31 → k ∈ linkDies n → d.linkState n ≠ 1 ∧ d.linkState n ≠ 2) fun _ e =>
        e.boot.resetting = none ∧ ∀ c, c / 16 = k → e.core c = {})
  ∧ Completes .watchdogKick (fun d => d.accepts ⟨.BOOT_WATCHDOG, 0, 0, 0⟩ = true) (fun d e => e.boot.kickAt = d.chrono)
  ∧ (∀ p : Fin 65536, Completes (.watchdogPeriodWrite p) (fun d => d.accepts ⟨.BOOT_WATCHDOG, 0, 0, 0⟩ = true) fun _ e =>
        e.gf F.BOOT_WATCHDOG.PERIOD_MS = max 100 (min 60000 p.val))
  ∧ Completes .bootWatchdog (fun d => d.started = true ∧ d.boot.step = .ready ∧ d.boot.handover = none
        ∧ (d.sec.mcores.any fun m => m.2.halted) = false ∧ d.boot.kickAt + 1000000 * d.gf F.BOOT_WATCHDOG.PERIOD_MS ≤ d.chrono
        ∧ d.boot.warmRecord = true) (fun _ e => e.boot.step = .quiesce ∧ e.boot.kind = .warm)
  ∧ (∀ x, Completes (.fwTrial (some x)) (fun d => d.accepts ⟨.BOOT_FW_CTRL, 0, 0, 0⟩ = true ∧ d.power.flashOpen = true
        ∧ d.imageFault (some x) = none) fun d e => e.eph.activeB = !d.runningB ∧ e.slotState (!d.runningB) = (1, 3))
  ∧ Completes .fwCommit (fun d => d.accepts ⟨.BOOT_FW_CTRL, 0, 0, 0⟩ = true ∧ (d.slotState d.runningB).1 = 1 ∧ d.boot.image ≠ none) (fun d e =>
        (e.slotState d.runningB).1 = 2)
  ∧ (∀ x, Completes (.fwHandover x) (fun d => d.accepts ⟨.BOOT_FW_CTRL, 0, 0, 0⟩ = true ∧ d.started = true ∧ d.boot.step = .ready
        ∧ d.eph.activeB ≠ d.runningB ∧ (d.slotState d.eph.activeB).1 = 1 ∧ d.boot.handover = none) fun _ e =>
        e.boot.handover = some .verify ∧ e.boot.staged = x)
  ∧ (∀ x r, Completes .handoverVerifyDone (fun d => d.boot.handover = some .verify ∧ d.boot.staged = some x
        ∧ d.boot.image = some r ∧ d.imageFault (some x) = none ∧ x.hoMin ≤ r.hoFormat ∧ r.hoFormat ≤ x.hoMax) fun _ e =>
        e.boot.handover = some .park)
  ∧ Completes .handoverParkDone (fun d => d.boot.handover = some .park) (fun _ e => e.boot.handover = some .load)
  ∧ Completes .handoverLoadDone (fun d => d.boot.handover = some .load ∧ (d.slotState d.eph.activeB).1 = 1) (fun _ e =>
        e.boot.handover = some .resume)
  ∧ Completes .fwResumed (fun d => d.accepts ⟨.BOOT_FW_CTRL, 0, 0, 0⟩ = true ∧ d.boot.handover = some .resume) (fun d e =>
        e.boot.handover = none ∧ e.boot.image = d.boot.staged)
  ∧ Completes .bootHandoverReverted (fun d => d.boot.handover = some .resume) (fun d e =>
        e.boot.handover = none ∧ (e.slotState d.eph.activeB).1 = 3)
  ∧ (∀ r rest, Completes .journalWrite (fun d => d.power.flashOpen = true ∧ d.eph.pending = r :: rest
        ∧ d.activeArea.length < 229375) fun d e => e.eph.pending = rest ∧ e.activeArea.length = d.activeArea.length + 1)
  ∧ Completes .ephCompact (fun d => d.accepts ⟨.EPH_CTRL, 0, 0, 0⟩ = true ∧ d.power.flashOpen = true) (fun d e =>
        e.eph.active1 = !d.eph.active1)
  ∧ Completes .ephFlush (fun d => d.accepts ⟨.EPH_CTRL, 0, 0, 0⟩ = true ∧ d.power.flashOpen = true) (fun _ e =>
        e.eph.pending = [])
  ∧ Completes .ephSramUncorrectable (fun _ => True) (fun _ e => e.eph.valid = false ∧ e.boot.warmRecord = false)
  ∧ (∀ w, Completes (.capWindow w true) (fun d => d.gf F.PWR_STAT.CAP_IN_FORCE_W < w) fun d e =>
        ∀ n, n < 32 → d.on F.CLK_ISLAND_n_STAT.POWERED 0 n = true →
          (e.isl n).capLimit = d.gf F.CLK_ISLAND_n_STAT.OP_IN_FORCE 0 n - 1)
  ∧ (∀ w : Fin 65536, Completes (.capWWrite w) (fun d => d.accepts ⟨.PWR_CTRL, 0, 0, 0⟩ = true) fun _ e =>
        e.gf F.PWR_CTRL.CAP_W = max 2000 (min 4000 w.val))
  ∧ Completes .pwrTargetP0 (fun d => d.accepts ⟨.PWR_CTRL, 0, 0, 0⟩ = true ∧ d.gf F.PWR_CTRL.TARGET ≠ 0
        ∧ d.gf F.PWR_STAT.STATE = 2) (fun _ e => e.gf F.PWR_CTRL.TARGET = 0 ∧ e.gf F.PWR_STAT.STATE = 5)
  ∧ Completes .pwrTargetP2 (fun d => d.accepts ⟨.PWR_CTRL, 0, 0, 0⟩ = true ∧ d.gf F.PWR_CTRL.TARGET = 0 ∧ d.mayPark = true)
      (fun _ e => e.gf F.PWR_CTRL.TARGET = 2 ∧ e.gf F.PWR_STAT.STATE = 4)
  ∧ Completes .pwrTargetP3 (fun d => d.accepts ⟨.PWR_CTRL, 0, 0, 0⟩ = true ∧ d.gf F.PWR_CTRL.TARGET = 0 ∧ d.mayPark = true)
      (fun _ e => e.gf F.PWR_CTRL.TARGET = 3 ∧ e.gf F.PWR_STAT.STATE = 4)
  ∧ (∀ n : Fin 32, Completes (.islandIdleGate n) (fun d => d.islandOn n = true ∧ d.clusterIdle n = true) fun _ e =>
        e.gf F.CLK_ISLAND_n_STAT.GATED 0 n = 1)
  ∧ (∀ n : Fin 32, Completes (.islandUngate n) (fun d => d.islandOn n = true ∧ d.on F.CLK_ISLAND_n_STAT.GATED 0 n = true)
      fun _ e => e.gf F.CLK_ISLAND_n_STAT.GATED 0 n = 0)
  ∧ (∀ (n : Fin 44) r, Completes (.rampStep n) (fun d => (d.isl n).ramp = some r ∧ r.k < 15) fun _ e =>
        (e.isl n).div = rampDiv r.a r.b (r.k + 1))
  ∧ (∀ n : Fin 44, Completes (.railSettled n) (fun d => (d.isl n).rising = true) fun _ e =>
        (e.isl n).rising = false ∧ e.gf F.CLK_ISLAND_n_STAT.RAMPING 0 n = 1)
  ∧ (∀ n : Fin 44, Completes (.droopTrip n) (fun d => d.on F.CLK_ISLAND_n_STAT.POWERED 0 n = true) fun _ e =>
        (e.isl n).tripped = true ∧ e.gf F.CLK_ISLAND_n_STAT.STRETCHED 0 n = 1)
  ∧ (∀ n : Fin 44, Completes (.droopClear n) (fun _ => True) fun _ e => (e.isl n).tripped = false)
  ∧ (∀ n : Fin 44, Completes (.droopHandover n) (fun d => (d.isl n).tripped = true) fun d e =>
        if n.val < 32 then (e.isl n).droopLimit = d.gf F.CLK_ISLAND_n_STAT.OP_IN_FORCE 0 n - 1 else (e.isl n).slow = true)
  ∧ (∀ n : Fin 44, Completes (.droopRecovery n) (fun d => (d.isl n).tripped = false ∧ (d.isl n).droopLimit < 7) fun d e =>
        if n.val < 32 then (e.isl n).droopLimit = (d.isl n).droopLimit + 1 else (e.isl n).slow = false)
  ∧ (∀ n : Fin 44, Completes (.islandEnWrite n true) (fun d => d.accepts ⟨.CLK_ISLAND_n_CTRL, 0, n, 0⟩ = true) fun _ e =>
        e.gf F.CLK_ISLAND_n_CTRL.EN 0 n = 1)
  ∧ (∀ (n : Fin 44) (op : Fin 8), Completes (.islandOpWrite n op) (fun d => d.accepts ⟨.CLK_ISLAND_n_CTRL, 0, n, 0⟩ = true
        ∧ d.on F.CLK_ISLAND_n_CTRL.EN 0 n = true) fun _ e => e.gf F.CLK_ISLAND_n_CTRL.OP 0 n = op.val)
end

