-- ==== Sys2Proof/Laws/Bits.lean ====
section
/-! SUPPORT. The laws of bit ranges: what a field reads as after a field of the same word has been set. -/

namespace Sys2Proof

theorem testBit_bitsOf (n hi lo i : Nat) :
    (bitsOf n hi lo).testBit i = (decide (i < hi + 1 - lo) && n.testBit (i + lo)) := by
  simp [bitsOf, Nat.testBit_mod_two_pow, Nat.testBit_div_two_pow]

theorem testBit_putBits (n hi lo v i : Nat) (h : lo ≤ hi) :
    (putBits n hi lo v).testBit i = if i < lo then n.testBit i else if i ≤ hi then v.testBit (i - lo) else n.testBit i := by
  have h₁ : putBits n hi lo v
      = 2 ^ lo * (2 ^ (hi + 1 - lo) * (n / 2 ^ (hi + 1)) + v % 2 ^ (hi + 1 - lo)) + n % 2 ^ lo := by
    have : 2 ^ (hi + 1) = 2 ^ lo * 2 ^ (hi + 1 - lo) := by rw [← pow_add]; congr 1; omega
    simp only [putBits]
    rw [this]
    ring
  rw [h₁, Nat.testBit_two_pow_mul_add _ (Nat.mod_lt _ (by positivity))]
  by_cases hi' : i < lo
  · simp [hi', Nat.testBit_mod_two_pow]
  · rw [Nat.testBit_two_pow_mul_add _ (Nat.mod_lt _ (by positivity))]
    by_cases hh : i ≤ hi
    · have : i - lo < hi + 1 - lo := by omega
      simp [hi', hh, this, Nat.testBit_mod_two_pow]
    · have h₂ : ¬ i - lo < hi + 1 - lo := by omega
      have h₃ : i - lo - (hi + 1 - lo) + (hi + 1) = i := by omega
      simp [hi', hh, h₂, Nat.testBit_div_two_pow, h₃]

theorem putBits_lt (n hi lo v : Nat) (h : lo ≤ hi) (hh : hi < 64) (hn : n < 2 ^ 64) : putBits n hi lo v < 2 ^ 64 := by
  apply Nat.lt_pow_two_of_testBit
  intro i hi'
  rw [testBit_putBits _ _ _ _ _ h]
  have : ¬ i < lo := by omega
  have h₂ : ¬ i ≤ hi := by omega
  simp only [this, h₂, if_false]
  exact Nat.testBit_lt_two_pow (lt_of_lt_of_le hn (Nat.pow_le_pow_right (by decide) hi'))

theorem toNat_setBits (v : Word) (hi lo x : Nat) (h : lo ≤ hi) (hh : hi < 64) :
    (setBits v hi lo x).toNat = putBits v.toNat hi lo x := by
  simp only [setBits, BitVec.toNat_ofNat]
  exact Nat.mod_eq_of_lt (putBits_lt _ _ _ _ h hh v.isLt)

/-- A field that has been set reads as the value modulo its width. -/
theorem getBits_setBits_self (v : Word) (hi lo x : Nat) (h : lo ≤ hi) (hh : hi < 64) :
    getBits (setBits v hi lo x) hi lo = x % 2 ^ (hi + 1 - lo) := by
  apply Nat.eq_of_testBit_eq
  intro i
  rw [getBits, toNat_setBits v hi lo x h hh, testBit_bitsOf, testBit_putBits _ _ _ _ _ h, Nat.testBit_mod_two_pow]
  by_cases hi' : i < hi + 1 - lo
  · have h₁ : ¬ i + lo < lo := by omega
    have h₂ : i + lo ≤ hi := by omega
    simp [hi', h₁, h₂]
  · simp [hi']

/-- A field leaves the ranges beside it as they are. -/
theorem getBits_setBits_of_disjoint (v : Word) (hi lo hi' lo' x : Nat) (h : lo ≤ hi) (hh : hi < 64)
    (hd : hi' < lo ∨ hi < lo') : getBits (setBits v hi lo x) hi' lo' = getBits v hi' lo' := by
  apply Nat.eq_of_testBit_eq
  intro i
  rw [getBits, getBits, toNat_setBits v hi lo x h hh, testBit_bitsOf, testBit_bitsOf, testBit_putBits _ _ _ _ _ h]
  by_cases hi₁ : i < hi' + 1 - lo'
  · rcases hd with hd | hd
    · have : i + lo' < lo := by omega
      simp [this]
    · have h₁ : ¬ i + lo' < lo := by omega
      have h₂ : ¬ i + lo' ≤ hi := by omega
      simp [h₁, h₂]
  · simp [hi₁]

theorem getBits_lt (v : Word) (hi lo : Nat) : getBits v hi lo < 2 ^ (hi + 1 - lo) := Nat.mod_lt _ (by positivity)

end Sys2Proof
end

