-- ==== Sys2Proof/Laws/Maps.lean ====
section
/-! SUPPORT. The laws of finite maps: a read after a write to the same key gives the value written, a write leaves every
other key alone, and every operation keeps the canonical form. -/

namespace Sys2Proof

namespace FMap

variable {κ α : Type}

theorem get_erase_self [DecidableEq κ] (dflt : α) (m : FMap κ α) (k : κ) : get dflt (erase m k) k = dflt := by
  induction m with
  | nil => rfl
  | cons e m ih =>
    obtain ⟨k', v⟩ := e
    by_cases h : k' = k <;> simp [erase, get, h, ih]

theorem get_erase_ne [DecidableEq κ] (dflt : α) (m : FMap κ α) {k k' : κ} (h : k' ≠ k) :
    get dflt (erase m k) k' = get dflt m k' := by
  induction m with
  | nil => rfl
  | cons e m ih =>
    obtain ⟨k₀, v⟩ := e
    by_cases h₀ : k₀ = k
    · have : k₀ ≠ k' := fun e => h (e ▸ h₀ ▸ rfl)
      simp [erase, get, h₀, ih]
      intro hk; exact absurd hk.symm h
    · by_cases h₁ : k₀ = k' <;> simp [erase, get, h₀, h₁, ih]
      · subst h₁; simp [h₀, get]

theorem get_insert_ne [DecidableEq κ] (lt : κ → κ → Bool) (dflt : α) (m : FMap κ α) {k k' : κ} (v : α) (h : k' ≠ k) :
    get dflt (insert lt m k v) k' = get dflt m k' := by
  induction m with
  | nil => simp [insert, get, h.symm]
  | cons e m ih =>
    obtain ⟨k₀, v₀⟩ := e
    by_cases hl : lt k k₀
    · simp [insert, hl, get, h.symm]
    · simp [insert, hl, get, ih]

theorem get_insert_self [DecidableEq κ] (lt : κ → κ → Bool) (dflt : α) (m : FMap κ α) (k : κ) (v : α)
    (h : ∀ e ∈ m, e.1 ≠ k) : get dflt (insert lt m k v) k = v := by
  induction m with
  | nil => simp [insert, get]
  | cons e m ih =>
    obtain ⟨k₀, v₀⟩ := e
    have h₀ : k₀ ≠ k := h (k₀, v₀) (by simp)
    by_cases hl : lt k k₀
    · simp [insert, hl, get]
    · simp [insert, hl, get, h₀, ih fun e he => h e (by simp [he])]

theorem ne_of_mem_erase [DecidableEq κ] (m : FMap κ α) (k : κ) : ∀ e ∈ erase m k, e.1 ≠ k := by
  induction m with
  | nil => simp [erase]
  | cons e m ih =>
    obtain ⟨k₀, v⟩ := e
    by_cases h : k₀ = k
    · simpa [erase, h] using ih
    · intro e he
      simp only [erase, h, if_false, List.mem_cons] at he
      rcases he with rfl | he
      · exact h
      · exact ih e he

/-- A read after a write to the same key gives the value written. -/
@[simp] theorem get_set_self [DecidableEq κ] [DecidableEq α] (lt : κ → κ → Bool) (dflt : α) (m : FMap κ α) (k : κ) (v : α) :
    get dflt (set lt dflt m k v) k = v := by
  unfold set
  split
  · subst_vars; exact get_erase_self _ m k
  · exact get_insert_self lt _ _ k v (ne_of_mem_erase m k)

/-- A write leaves every other key alone. -/
theorem get_set_ne [DecidableEq κ] [DecidableEq α] (lt : κ → κ → Bool) (dflt dflt' : α) (m : FMap κ α) {k k' : κ} (v : α)
    (h : k' ≠ k) : get dflt' (set lt dflt m k v) k' = get dflt' m k' := by
  unfold set
  split
  · exact get_erase_ne _ m h
  · rw [get_insert_ne lt _ _ v h, get_erase_ne _ m h]

/-! ### The canonical form -/

theorem wf_filter [DecidableEq α] (lt : κ → κ → Bool) (dflt : κ → α) (p : κ × α → Bool) {m : FMap κ α}
    (h : wf lt dflt m = true) : wf lt dflt (m.filter p) = true := by
  induction m with
  | nil => exact h
  | cons e m ih =>
    obtain ⟨k, v⟩ := e
    simp only [wf, Bool.and_eq_true, List.all_eq_true, decide_eq_true_eq] at h
    by_cases hp : p (k, v)
    · simp only [List.filter_cons, hp, if_true, wf, Bool.and_eq_true, List.all_eq_true, decide_eq_true_eq]
      exact ⟨⟨fun e he => h.1.1 e (List.mem_of_mem_filter he), h.1.2⟩, ih h.2⟩
    · simp only [List.filter_cons, hp]
      exact ih h.2

/-- The canonical form under another default that agrees with the first one on every listed key. -/
theorem wf_congr [DecidableEq α] (lt : κ → κ → Bool) (dflt dflt' : κ → α) {m : FMap κ α} (h : wf lt dflt m = true)
    (hd : ∀ e ∈ m, dflt' e.1 = dflt e.1) : wf lt dflt' m = true := by
  induction m with
  | nil => rfl
  | cons e m ih =>
    obtain ⟨k, v⟩ := e
    simp only [wf, Bool.and_eq_true, List.all_eq_true, decide_eq_true_eq] at h ⊢
    exact ⟨⟨h.1.1, by rw [hd (k, v) (by simp)]; exact h.1.2⟩, ih h.2 fun e he => hd e (by simp [he])⟩

theorem wf_erase [DecidableEq κ] [DecidableEq α] (lt : κ → κ → Bool) (dflt : κ → α) (k : κ) {m : FMap κ α}
    (h : wf lt dflt m = true) : wf lt dflt (erase m k) = true := by
  have he : erase m k = m.filter fun e => decide (e.1 ≠ k) := by
    clear h
    induction m with
    | nil => rfl
    | cons e m ih =>
      obtain ⟨k₀, v⟩ := e
      by_cases h₀ : k₀ = k <;> simp [erase, h₀, ih]
  rw [he]
  exact wf_filter lt dflt _ h

theorem mem_insert (lt : κ → κ → Bool) (m : FMap κ α) (k : κ) (v : α) (e : κ × α) :
    e ∈ insert lt m k v ↔ e = (k, v) ∨ e ∈ m := by
  induction m with
  | nil => simp [insert]
  | cons e₀ m ih =>
    obtain ⟨k₀, v₀⟩ := e₀
    by_cases hl : lt k k₀
    · simp [insert, hl]
    · simp [insert, hl, ih]; tauto

theorem wf_insert [DecidableEq α] (lt : κ → κ → Bool) (dflt : κ → α) (k : κ) (v : α) {m : FMap κ α}
    (trans : ∀ a b c, lt a b = true → lt b c = true → lt a c = true)
    (total : ∀ a b, lt a b = false → a ≠ b → lt b a = true)
    (h : wf lt dflt m = true) (hk : ∀ e ∈ m, e.1 ≠ k) (hv : v ≠ dflt k) : wf lt dflt (insert lt m k v) = true := by
  induction m with
  | nil => simp [insert, wf, hv]
  | cons e m ih =>
    obtain ⟨k₀, v₀⟩ := e
    have hw := h
    simp only [wf, Bool.and_eq_true, List.all_eq_true, decide_eq_true_eq] at h
    by_cases hl : lt k k₀
    · simp only [insert, hl, if_true]
      rw [wf]
      simp only [Bool.and_eq_true, List.all_eq_true, decide_eq_true_eq, hw, and_true]
      refine ⟨fun e he => ?_, hv⟩
      rcases List.mem_cons.mp he with rfl | he
      · exact hl
      · exact trans _ _ _ hl (h.1.1 e he)
    · simp only [insert, if_neg hl, wf, Bool.and_eq_true, List.all_eq_true, decide_eq_true_eq]
      refine ⟨⟨fun e he => ?_, h.1.2⟩, ih h.2 fun e he => hk e (by simp [he])⟩
      rcases (mem_insert lt m k v e).mp he with rfl | he
      · exact total _ _ (by simpa using hl) (hk (k₀, v₀) (by simp)).symm
      · exact h.1.1 e he

/-- A write keeps the canonical form. -/
theorem wf_set [DecidableEq κ] [DecidableEq α] (lt : κ → κ → Bool) (dflt : κ → α) (k : κ) (v : α) {m : FMap κ α}
    (trans : ∀ a b c, lt a b = true → lt b c = true → lt a c = true)
    (total : ∀ a b, lt a b = false → a ≠ b → lt b a = true)
    (h : wf lt dflt m = true) : wf lt dflt (set lt (dflt k) m k v) = true := by
  unfold set
  split
  · exact wf_erase lt dflt k h
  · rename_i hv
    exact wf_insert lt dflt k v trans total (wf_erase lt dflt k h) (ne_of_mem_erase m k) hv

/-- Changing every listed value, and listing none that becomes the default, keeps the canonical form. -/
theorem wf_filterMap [DecidableEq α] (lt : κ → κ → Bool) (dflt : κ → α) (f : κ × α → Option (κ × α)) {m : FMap κ α}
    (hf : ∀ e e', f e = some e' → e'.1 = e.1 ∧ (e.2 ≠ dflt e.1 → e'.2 ≠ dflt e.1)) (h : wf lt dflt m = true) :
    wf lt dflt (m.filterMap f) = true := by
  induction m with
  | nil => rfl
  | cons e m ih =>
    obtain ⟨k, v⟩ := e
    simp only [wf, Bool.and_eq_true, List.all_eq_true, decide_eq_true_eq] at h
    cases hfe : f (k, v) with
    | none => simpa [List.filterMap_cons, hfe] using ih h.2
    | some e' =>
      obtain ⟨k', v'⟩ := e'
      obtain ⟨rfl, hv⟩ := hf _ _ hfe
      simp only [List.filterMap_cons, hfe, wf, Bool.and_eq_true, List.all_eq_true, decide_eq_true_eq]
      refine ⟨⟨fun e he => ?_, hv h.1.2⟩, ih h.2⟩
      obtain ⟨e₀, he₀, hfe₀⟩ := List.mem_filterMap.mp he
      rw [(hf _ _ hfe₀).1]
      exact h.1.1 e₀ he₀

end FMap

/-! ### Maps keyed by numbers -/

theorem natLt_trans (a b c : Nat) (h₁ : natLt a b = true) (h₂ : natLt b c = true) : natLt a c = true := by
  simp only [natLt, decide_eq_true_eq] at *; omega

theorem natLt_total (a b : Nat) (h : natLt a b = false) (hne : a ≠ b) : natLt b a = true := by
  simp only [natLt, decide_eq_true_eq, decide_eq_false_iff_not] at *; omega

namespace NMap

variable {α : Type}

@[simp] theorem get_set_self [DecidableEq α] (dflt : α) (m : NMap α) (k : Nat) (v : α) : get dflt (set dflt m k v) k = v :=
  FMap.get_set_self _ _ _ _ _

theorem get_set_ne [DecidableEq α] (dflt dflt' : α) (m : NMap α) {k k' : Nat} (v : α) (h : k' ≠ k) :
    get dflt' (set dflt m k v) k' = get dflt' m k' :=
  FMap.get_set_ne _ _ _ _ _ h

@[simp] theorem get_nil (dflt : α) (k : Nat) : get dflt [] k = dflt := rfl

theorem wf_set [DecidableEq α] (dflt : α) (k : Nat) (v : α) {m : NMap α} (h : wf dflt m = true) :
    wf dflt (set dflt m k v) = true :=
  FMap.wf_set natLt (fun _ => dflt) k v natLt_trans natLt_total h

end NMap

/-! ### The register file -/

theorem RegName.ctorIdx_inj (a b : RegName) : a.ctorIdx = b.ctorIdx ↔ a = b :=
  ⟨fun h => by have := congrArg RegName.ofNat h; simpa [RegName.ofNat_ctorIdx] using this, fun h => h ▸ rfl⟩

/-- The order of the register file, as comparisons of numbers. -/
theorem RegKey.lt_iff (a b : RegKey) : RegKey.lt a b = true ↔
    a.name.ctorIdx < b.name.ctorIdx ∨ a.name.ctorIdx = b.name.ctorIdx ∧ (a.u < b.u ∨ a.u = b.u ∧
      (a.i < b.i ∨ a.i = b.i ∧ a.j < b.j)) := by
  unfold RegKey.lt
  by_cases hn : a.name = b.name
  · by_cases hu : a.u = b.u
    · by_cases hi : a.i = b.i <;> simp [hn, hu, hi]
    · simp [hn, hu]
  · have : a.name.ctorIdx ≠ b.name.ctorIdx := fun h => hn ((RegName.ctorIdx_inj _ _).mp h)
    simp [hn, this]

theorem RegKey.lt_trans (a b c : RegKey) (h₁ : RegKey.lt a b = true) (h₂ : RegKey.lt b c = true) : RegKey.lt a c = true := by
  rw [RegKey.lt_iff] at *; omega

theorem RegKey.lt_total (a b : RegKey) (h : RegKey.lt a b = false) (hne : a ≠ b) : RegKey.lt b a = true := by
  have h' : ¬ RegKey.lt a b = true := by simp [h]
  rw [RegKey.lt_iff] at *
  have : ¬ (a.name.ctorIdx = b.name.ctorIdx ∧ a.u = b.u ∧ a.i = b.i ∧ a.j = b.j) := by
    rintro ⟨hn, hu, hi, hj⟩
    obtain ⟨_, _, _, _⟩ := a
    obtain ⟨_, _, _, _⟩ := b
    exact hne (by simp_all [RegName.ctorIdx_inj])
  omega

end Sys2Proof
end

