-- ==== Sys2Proof/Laws/State.lean ====
section
/-! SUPPORT. The small lemmas of State: what each named update leaves as it is (true by rfl), and what a register and a field
read as after one of them has been written. -/

namespace Sys2Proof.Machine.Dev

variable (d : Dev)

/-! ### What an update leaves as it is -/

@[simp] theorem setReg_chrono (k : RegKey) (v : Word) : (d.setReg k v).chrono = d.chrono := rfl
@[simp] theorem setReg_freeIx (k : RegKey) (v : Word) : (d.setReg k v).freeIx = d.freeIx := rfl
@[simp] theorem setReg_answer (k : RegKey) (v : Word) : (d.setReg k v).answer = d.answer := rfl
@[simp] theorem setReg_log (k : RegKey) (v : Word) : (d.setReg k v).log = d.log := rfl
@[simp] theorem setReg_cores (k : RegKey) (v : Word) : (d.setReg k v).cores = d.cores := rfl
@[simp] theorem setReg_engines (k : RegKey) (v : Word) : (d.setReg k v).engines = d.engines := rfl
@[simp] theorem setReg_swaps (k : RegKey) (v : Word) : (d.setReg k v).swaps = d.swaps := rfl
@[simp] theorem setReg_unspecCore (k : RegKey) (v : Word) : (d.setReg k v).unspecCore = d.unspecCore := rfl
@[simp] theorem setReg_unspecCluster (k : RegKey) (v : Word) : (d.setReg k v).unspecCluster = d.unspecCluster := rfl
@[simp] theorem setReg_unspecImem (k : RegKey) (v : Word) : (d.setReg k v).unspecImem = d.unspecImem := rfl
@[simp] theorem setReg_coreStore (k : RegKey) (v : Word) : (d.setReg k v).coreStore = d.coreStore := rfl
@[simp] theorem setReg_clusterStore (k : RegKey) (v : Word) : (d.setReg k v).clusterStore = d.clusterStore := rfl
@[simp] theorem setReg_imem (k : RegKey) (v : Word) : (d.setReg k v).imem = d.imem := rfl
@[simp] theorem setReg_injected (k : RegKey) (v : Word) : (d.setReg k v).injected = d.injected := rfl
@[simp] theorem setReg_inside (k : RegKey) (v : Word) : (d.setReg k v).inside = d.inside := rfl
@[simp] theorem setReg_held (k : RegKey) (v : Word) : (d.setReg k v).held = d.held := rfl
@[simp] theorem setReg_rates (k : RegKey) (v : Word) : (d.setReg k v).rates = d.rates := rfl
@[simp] theorem setReg_listed (k : RegKey) (v : Word) : (d.setReg k v).listed = d.listed := rfl
@[simp] theorem setReg_suspects (k : RegKey) (v : Word) : (d.setReg k v).suspects = d.suspects := rfl
@[simp] theorem setReg_reqs (k : RegKey) (v : Word) : (d.setReg k v).reqs = d.reqs := rfl
@[simp] theorem setReg_dseqs (k : RegKey) (v : Word) : (d.setReg k v).dseqs = d.dseqs := rfl
@[simp] theorem setReg_nextMsg (k : RegKey) (v : Word) : (d.setReg k v).nextMsg = d.nextMsg := rfl
@[simp] theorem setReg_collq (k : RegKey) (v : Word) : (d.setReg k v).collq = d.collq := rfl
@[simp] theorem setReg_colls (k : RegKey) (v : Word) : (d.setReg k v).colls = d.colls := rfl
@[simp] theorem setReg_power (k : RegKey) (v : Word) : (d.setReg k v).power = d.power := rfl
@[simp] theorem setReg_boot (k : RegKey) (v : Word) : (d.setReg k v).boot = d.boot := rfl
@[simp] theorem setReg_occulted (k : RegKey) (v : Word) : (d.setReg k v).occulted = d.occulted := rfl
@[simp] theorem setReg_hbm (k : RegKey) (v : Word) : (d.setReg k v).hbm = d.hbm := rfl
@[simp] theorem setReg_mem (k : RegKey) (v : Word) : (d.setReg k v).mem = d.mem := rfl
@[simp] theorem setReg_gas (k : RegKey) (v : Word) : (d.setReg k v).gas = d.gas := rfl
@[simp] theorem setReg_fab (k : RegKey) (v : Word) : (d.setReg k v).fab = d.fab := rfl
@[simp] theorem setReg_ports (k : RegKey) (v : Word) : (d.setReg k v).ports = d.ports := rfl
@[simp] theorem setReg_time (k : RegKey) (v : Word) : (d.setReg k v).time = d.time := rfl
@[simp] theorem setReg_dlk (k : RegKey) (v : Word) : (d.setReg k v).dlk = d.dlk := rfl
@[simp] theorem setReg_hlk (k : RegKey) (v : Word) : (d.setReg k v).hlk = d.hlk := rfl
@[simp] theorem setReg_int (k : RegKey) (v : Word) : (d.setReg k v).int = d.int := rfl
@[simp] theorem setReg_sec (k : RegKey) (v : Word) : (d.setReg k v).sec = d.sec := rfl
@[simp] theorem setReg_mgmt (k : RegKey) (v : Word) : (d.setReg k v).mgmt = d.mgmt := rfl
@[simp] theorem setReg_safe (k : RegKey) (v : Word) : (d.setReg k v).safe = d.safe := rfl
@[simp] theorem setReg_rootKeyId (k : RegKey) (v : Word) : (d.setReg k v).rootKeyId = d.rootKeyId := rfl

@[simp] theorem sf_chrono (f : Fld) (v u i j : Nat) : (d.sf f v u i j).chrono = d.chrono := rfl
@[simp] theorem sf_freeIx (f : Fld) (v u i j : Nat) : (d.sf f v u i j).freeIx = d.freeIx := rfl
@[simp] theorem sf_answer (f : Fld) (v u i j : Nat) : (d.sf f v u i j).answer = d.answer := rfl
@[simp] theorem sf_log (f : Fld) (v u i j : Nat) : (d.sf f v u i j).log = d.log := rfl
@[simp] theorem sf_cores (f : Fld) (v u i j : Nat) : (d.sf f v u i j).cores = d.cores := rfl
@[simp] theorem sf_engines (f : Fld) (v u i j : Nat) : (d.sf f v u i j).engines = d.engines := rfl
@[simp] theorem sf_swaps (f : Fld) (v u i j : Nat) : (d.sf f v u i j).swaps = d.swaps := rfl
@[simp] theorem sf_unspecCore (f : Fld) (v u i j : Nat) : (d.sf f v u i j).unspecCore = d.unspecCore := rfl
@[simp] theorem sf_unspecCluster (f : Fld) (v u i j : Nat) : (d.sf f v u i j).unspecCluster = d.unspecCluster := rfl
@[simp] theorem sf_unspecImem (f : Fld) (v u i j : Nat) : (d.sf f v u i j).unspecImem = d.unspecImem := rfl
@[simp] theorem sf_coreStore (f : Fld) (v u i j : Nat) : (d.sf f v u i j).coreStore = d.coreStore := rfl
@[simp] theorem sf_clusterStore (f : Fld) (v u i j : Nat) : (d.sf f v u i j).clusterStore = d.clusterStore := rfl
@[simp] theorem sf_imem (f : Fld) (v u i j : Nat) : (d.sf f v u i j).imem = d.imem := rfl
@[simp] theorem sf_injected (f : Fld) (v u i j : Nat) : (d.sf f v u i j).injected = d.injected := rfl
@[simp] theorem sf_inside (f : Fld) (v u i j : Nat) : (d.sf f v u i j).inside = d.inside := rfl
@[simp] theorem sf_held (f : Fld) (v u i j : Nat) : (d.sf f v u i j).held = d.held := rfl
@[simp] theorem sf_rates (f : Fld) (v u i j : Nat) : (d.sf f v u i j).rates = d.rates := rfl
@[simp] theorem sf_listed (f : Fld) (v u i j : Nat) : (d.sf f v u i j).listed = d.listed := rfl
@[simp] theorem sf_suspects (f : Fld) (v u i j : Nat) : (d.sf f v u i j).suspects = d.suspects := rfl
@[simp] theorem sf_reqs (f : Fld) (v u i j : Nat) : (d.sf f v u i j).reqs = d.reqs := rfl
@[simp] theorem sf_dseqs (f : Fld) (v u i j : Nat) : (d.sf f v u i j).dseqs = d.dseqs := rfl
@[simp] theorem sf_nextMsg (f : Fld) (v u i j : Nat) : (d.sf f v u i j).nextMsg = d.nextMsg := rfl
@[simp] theorem sf_collq (f : Fld) (v u i j : Nat) : (d.sf f v u i j).collq = d.collq := rfl
@[simp] theorem sf_colls (f : Fld) (v u i j : Nat) : (d.sf f v u i j).colls = d.colls := rfl
@[simp] theorem sf_power (f : Fld) (v u i j : Nat) : (d.sf f v u i j).power = d.power := rfl
@[simp] theorem sf_boot (f : Fld) (v u i j : Nat) : (d.sf f v u i j).boot = d.boot := rfl
@[simp] theorem sf_occulted (f : Fld) (v u i j : Nat) : (d.sf f v u i j).occulted = d.occulted := rfl
@[simp] theorem sf_hbm (f : Fld) (v u i j : Nat) : (d.sf f v u i j).hbm = d.hbm := rfl
@[simp] theorem sf_mem (f : Fld) (v u i j : Nat) : (d.sf f v u i j).mem = d.mem := rfl
@[simp] theorem sf_gas (f : Fld) (v u i j : Nat) : (d.sf f v u i j).gas = d.gas := rfl
@[simp] theorem sf_fab (f : Fld) (v u i j : Nat) : (d.sf f v u i j).fab = d.fab := rfl
@[simp] theorem sf_ports (f : Fld) (v u i j : Nat) : (d.sf f v u i j).ports = d.ports := rfl
@[simp] theorem sf_time (f : Fld) (v u i j : Nat) : (d.sf f v u i j).time = d.time := rfl
@[simp] theorem sf_dlk (f : Fld) (v u i j : Nat) : (d.sf f v u i j).dlk = d.dlk := rfl
@[simp] theorem sf_hlk (f : Fld) (v u i j : Nat) : (d.sf f v u i j).hlk = d.hlk := rfl
@[simp] theorem sf_int (f : Fld) (v u i j : Nat) : (d.sf f v u i j).int = d.int := rfl
@[simp] theorem sf_sec (f : Fld) (v u i j : Nat) : (d.sf f v u i j).sec = d.sec := rfl
@[simp] theorem sf_mgmt (f : Fld) (v u i j : Nat) : (d.sf f v u i j).mgmt = d.mgmt := rfl
@[simp] theorem sf_safe (f : Fld) (v u i j : Nat) : (d.sf f v u i j).safe = d.safe := rfl
@[simp] theorem sf_rootKeyId (f : Fld) (v u i j : Nat) : (d.sf f v u i j).rootKeyId = d.rootKeyId := rfl

@[simp] theorem incr_chrono (f : Fld) (n u i j : Nat) : (d.incr f n u i j).chrono = d.chrono := rfl
@[simp] theorem incr_freeIx (f : Fld) (n u i j : Nat) : (d.incr f n u i j).freeIx = d.freeIx := rfl
@[simp] theorem incr_answer (f : Fld) (n u i j : Nat) : (d.incr f n u i j).answer = d.answer := rfl
@[simp] theorem incr_log (f : Fld) (n u i j : Nat) : (d.incr f n u i j).log = d.log := rfl
@[simp] theorem incr_cores (f : Fld) (n u i j : Nat) : (d.incr f n u i j).cores = d.cores := rfl
@[simp] theorem incr_engines (f : Fld) (n u i j : Nat) : (d.incr f n u i j).engines = d.engines := rfl
@[simp] theorem incr_swaps (f : Fld) (n u i j : Nat) : (d.incr f n u i j).swaps = d.swaps := rfl
@[simp] theorem incr_unspecCore (f : Fld) (n u i j : Nat) : (d.incr f n u i j).unspecCore = d.unspecCore := rfl
@[simp] theorem incr_unspecCluster (f : Fld) (n u i j : Nat) : (d.incr f n u i j).unspecCluster = d.unspecCluster := rfl
@[simp] theorem incr_unspecImem (f : Fld) (n u i j : Nat) : (d.incr f n u i j).unspecImem = d.unspecImem := rfl
@[simp] theorem incr_coreStore (f : Fld) (n u i j : Nat) : (d.incr f n u i j).coreStore = d.coreStore := rfl
@[simp] theorem incr_clusterStore (f : Fld) (n u i j : Nat) : (d.incr f n u i j).clusterStore = d.clusterStore := rfl
@[simp] theorem incr_imem (f : Fld) (n u i j : Nat) : (d.incr f n u i j).imem = d.imem := rfl
@[simp] theorem incr_injected (f : Fld) (n u i j : Nat) : (d.incr f n u i j).injected = d.injected := rfl
@[simp] theorem incr_inside (f : Fld) (n u i j : Nat) : (d.incr f n u i j).inside = d.inside := rfl
@[simp] theorem incr_held (f : Fld) (n u i j : Nat) : (d.incr f n u i j).held = d.held := rfl
@[simp] theorem incr_rates (f : Fld) (n u i j : Nat) : (d.incr f n u i j).rates = d.rates := rfl
@[simp] theorem incr_listed (f : Fld) (n u i j : Nat) : (d.incr f n u i j).listed = d.listed := rfl
@[simp] theorem incr_suspects (f : Fld) (n u i j : Nat) : (d.incr f n u i j).suspects = d.suspects := rfl
@[simp] theorem incr_reqs (f : Fld) (n u i j : Nat) : (d.incr f n u i j).reqs = d.reqs := rfl
@[simp] theorem incr_dseqs (f : Fld) (n u i j : Nat) : (d.incr f n u i j).dseqs = d.dseqs := rfl
@[simp] theorem incr_nextMsg (f : Fld) (n u i j : Nat) : (d.incr f n u i j).nextMsg = d.nextMsg := rfl
@[simp] theorem incr_collq (f : Fld) (n u i j : Nat) : (d.incr f n u i j).collq = d.collq := rfl
@[simp] theorem incr_colls (f : Fld) (n u i j : Nat) : (d.incr f n u i j).colls = d.colls := rfl
@[simp] theorem incr_power (f : Fld) (n u i j : Nat) : (d.incr f n u i j).power = d.power := rfl
@[simp] theorem incr_boot (f : Fld) (n u i j : Nat) : (d.incr f n u i j).boot = d.boot := rfl
@[simp] theorem incr_occulted (f : Fld) (n u i j : Nat) : (d.incr f n u i j).occulted = d.occulted := rfl
@[simp] theorem incr_hbm (f : Fld) (n u i j : Nat) : (d.incr f n u i j).hbm = d.hbm := rfl
@[simp] theorem incr_mem (f : Fld) (n u i j : Nat) : (d.incr f n u i j).mem = d.mem := rfl
@[simp] theorem incr_gas (f : Fld) (n u i j : Nat) : (d.incr f n u i j).gas = d.gas := rfl
@[simp] theorem incr_fab (f : Fld) (n u i j : Nat) : (d.incr f n u i j).fab = d.fab := rfl
@[simp] theorem incr_ports (f : Fld) (n u i j : Nat) : (d.incr f n u i j).ports = d.ports := rfl
@[simp] theorem incr_time (f : Fld) (n u i j : Nat) : (d.incr f n u i j).time = d.time := rfl
@[simp] theorem incr_dlk (f : Fld) (n u i j : Nat) : (d.incr f n u i j).dlk = d.dlk := rfl
@[simp] theorem incr_hlk (f : Fld) (n u i j : Nat) : (d.incr f n u i j).hlk = d.hlk := rfl
@[simp] theorem incr_int (f : Fld) (n u i j : Nat) : (d.incr f n u i j).int = d.int := rfl
@[simp] theorem incr_sec (f : Fld) (n u i j : Nat) : (d.incr f n u i j).sec = d.sec := rfl
@[simp] theorem incr_mgmt (f : Fld) (n u i j : Nat) : (d.incr f n u i j).mgmt = d.mgmt := rfl
@[simp] theorem incr_safe (f : Fld) (n u i j : Nat) : (d.incr f n u i j).safe = d.safe := rfl
@[simp] theorem incr_rootKeyId (f : Fld) (n u i j : Nat) : (d.incr f n u i j).rootKeyId = d.rootKeyId := rfl

@[simp] theorem raise_chrono (n : Nat) : (d.raise n).chrono = d.chrono := rfl
@[simp] theorem raise_freeIx (n : Nat) : (d.raise n).freeIx = d.freeIx := rfl
@[simp] theorem raise_answer (n : Nat) : (d.raise n).answer = d.answer := rfl
@[simp] theorem raise_log (n : Nat) : (d.raise n).log = d.log := rfl
@[simp] theorem raise_cores (n : Nat) : (d.raise n).cores = d.cores := rfl
@[simp] theorem raise_engines (n : Nat) : (d.raise n).engines = d.engines := rfl
@[simp] theorem raise_swaps (n : Nat) : (d.raise n).swaps = d.swaps := rfl
@[simp] theorem raise_unspecCore (n : Nat) : (d.raise n).unspecCore = d.unspecCore := rfl
@[simp] theorem raise_unspecCluster (n : Nat) : (d.raise n).unspecCluster = d.unspecCluster := rfl
@[simp] theorem raise_unspecImem (n : Nat) : (d.raise n).unspecImem = d.unspecImem := rfl
@[simp] theorem raise_coreStore (n : Nat) : (d.raise n).coreStore = d.coreStore := rfl
@[simp] theorem raise_clusterStore (n : Nat) : (d.raise n).clusterStore = d.clusterStore := rfl
@[simp] theorem raise_imem (n : Nat) : (d.raise n).imem = d.imem := rfl
@[simp] theorem raise_injected (n : Nat) : (d.raise n).injected = d.injected := rfl
@[simp] theorem raise_inside (n : Nat) : (d.raise n).inside = d.inside := rfl
@[simp] theorem raise_held (n : Nat) : (d.raise n).held = d.held := rfl
@[simp] theorem raise_rates (n : Nat) : (d.raise n).rates = d.rates := rfl
@[simp] theorem raise_listed (n : Nat) : (d.raise n).listed = d.listed := rfl
@[simp] theorem raise_suspects (n : Nat) : (d.raise n).suspects = d.suspects := rfl
@[simp] theorem raise_reqs (n : Nat) : (d.raise n).reqs = d.reqs := rfl
@[simp] theorem raise_dseqs (n : Nat) : (d.raise n).dseqs = d.dseqs := rfl
@[simp] theorem raise_nextMsg (n : Nat) : (d.raise n).nextMsg = d.nextMsg := rfl
@[simp] theorem raise_collq (n : Nat) : (d.raise n).collq = d.collq := rfl
@[simp] theorem raise_colls (n : Nat) : (d.raise n).colls = d.colls := rfl
@[simp] theorem raise_power (n : Nat) : (d.raise n).power = d.power := rfl
@[simp] theorem raise_boot (n : Nat) : (d.raise n).boot = d.boot := rfl
@[simp] theorem raise_occulted (n : Nat) : (d.raise n).occulted = d.occulted := rfl
@[simp] theorem raise_hbm (n : Nat) : (d.raise n).hbm = d.hbm := rfl
@[simp] theorem raise_mem (n : Nat) : (d.raise n).mem = d.mem := rfl
@[simp] theorem raise_gas (n : Nat) : (d.raise n).gas = d.gas := rfl
@[simp] theorem raise_fab (n : Nat) : (d.raise n).fab = d.fab := rfl
@[simp] theorem raise_ports (n : Nat) : (d.raise n).ports = d.ports := rfl
@[simp] theorem raise_time (n : Nat) : (d.raise n).time = d.time := rfl
@[simp] theorem raise_dlk (n : Nat) : (d.raise n).dlk = d.dlk := rfl
@[simp] theorem raise_hlk (n : Nat) : (d.raise n).hlk = d.hlk := rfl
@[simp] theorem raise_int (n : Nat) : (d.raise n).int = d.int := rfl
@[simp] theorem raise_sec (n : Nat) : (d.raise n).sec = d.sec := rfl
@[simp] theorem raise_mgmt (n : Nat) : (d.raise n).mgmt = d.mgmt := rfl
@[simp] theorem raise_safe (n : Nat) : (d.raise n).safe = d.safe := rfl
@[simp] theorem raise_rootKeyId (n : Nat) : (d.raise n).rootKeyId = d.rootKeyId := rfl

@[simp] theorem setCore_regs (c : Nat) (x : Core) : (d.setCore c x).regs = d.regs := rfl
@[simp] theorem setCore_eph (c : Nat) (x : Core) : (d.setCore c x).eph = d.eph := rfl
@[simp] theorem setCore_chrono (c : Nat) (x : Core) : (d.setCore c x).chrono = d.chrono := rfl
@[simp] theorem setCore_freeIx (c : Nat) (x : Core) : (d.setCore c x).freeIx = d.freeIx := rfl
@[simp] theorem setCore_answer (c : Nat) (x : Core) : (d.setCore c x).answer = d.answer := rfl
@[simp] theorem setCore_log (c : Nat) (x : Core) : (d.setCore c x).log = d.log := rfl
@[simp] theorem setCore_engines (c : Nat) (x : Core) : (d.setCore c x).engines = d.engines := rfl
@[simp] theorem setCore_swaps (c : Nat) (x : Core) : (d.setCore c x).swaps = d.swaps := rfl
@[simp] theorem setCore_unspecCore (c : Nat) (x : Core) : (d.setCore c x).unspecCore = d.unspecCore := rfl
@[simp] theorem setCore_unspecCluster (c : Nat) (x : Core) : (d.setCore c x).unspecCluster = d.unspecCluster := rfl
@[simp] theorem setCore_unspecImem (c : Nat) (x : Core) : (d.setCore c x).unspecImem = d.unspecImem := rfl
@[simp] theorem setCore_coreStore (c : Nat) (x : Core) : (d.setCore c x).coreStore = d.coreStore := rfl
@[simp] theorem setCore_clusterStore (c : Nat) (x : Core) : (d.setCore c x).clusterStore = d.clusterStore := rfl
@[simp] theorem setCore_imem (c : Nat) (x : Core) : (d.setCore c x).imem = d.imem := rfl
@[simp] theorem setCore_injected (c : Nat) (x : Core) : (d.setCore c x).injected = d.injected := rfl
@[simp] theorem setCore_inside (c : Nat) (x : Core) : (d.setCore c x).inside = d.inside := rfl
@[simp] theorem setCore_held (c : Nat) (x : Core) : (d.setCore c x).held = d.held := rfl
@[simp] theorem setCore_rates (c : Nat) (x : Core) : (d.setCore c x).rates = d.rates := rfl
@[simp] theorem setCore_listed (c : Nat) (x : Core) : (d.setCore c x).listed = d.listed := rfl
@[simp] theorem setCore_suspects (c : Nat) (x : Core) : (d.setCore c x).suspects = d.suspects := rfl
@[simp] theorem setCore_reqs (c : Nat) (x : Core) : (d.setCore c x).reqs = d.reqs := rfl
@[simp] theorem setCore_dseqs (c : Nat) (x : Core) : (d.setCore c x).dseqs = d.dseqs := rfl
@[simp] theorem setCore_nextMsg (c : Nat) (x : Core) : (d.setCore c x).nextMsg = d.nextMsg := rfl
@[simp] theorem setCore_collq (c : Nat) (x : Core) : (d.setCore c x).collq = d.collq := rfl
@[simp] theorem setCore_colls (c : Nat) (x : Core) : (d.setCore c x).colls = d.colls := rfl
@[simp] theorem setCore_power (c : Nat) (x : Core) : (d.setCore c x).power = d.power := rfl
@[simp] theorem setCore_boot (c : Nat) (x : Core) : (d.setCore c x).boot = d.boot := rfl
@[simp] theorem setCore_occulted (c : Nat) (x : Core) : (d.setCore c x).occulted = d.occulted := rfl
@[simp] theorem setCore_hbm (c : Nat) (x : Core) : (d.setCore c x).hbm = d.hbm := rfl
@[simp] theorem setCore_mem (c : Nat) (x : Core) : (d.setCore c x).mem = d.mem := rfl
@[simp] theorem setCore_gas (c : Nat) (x : Core) : (d.setCore c x).gas = d.gas := rfl
@[simp] theorem setCore_fab (c : Nat) (x : Core) : (d.setCore c x).fab = d.fab := rfl
@[simp] theorem setCore_ports (c : Nat) (x : Core) : (d.setCore c x).ports = d.ports := rfl
@[simp] theorem setCore_time (c : Nat) (x : Core) : (d.setCore c x).time = d.time := rfl
@[simp] theorem setCore_dlk (c : Nat) (x : Core) : (d.setCore c x).dlk = d.dlk := rfl
@[simp] theorem setCore_hlk (c : Nat) (x : Core) : (d.setCore c x).hlk = d.hlk := rfl
@[simp] theorem setCore_int (c : Nat) (x : Core) : (d.setCore c x).int = d.int := rfl
@[simp] theorem setCore_sec (c : Nat) (x : Core) : (d.setCore c x).sec = d.sec := rfl
@[simp] theorem setCore_mgmt (c : Nat) (x : Core) : (d.setCore c x).mgmt = d.mgmt := rfl
@[simp] theorem setCore_safe (c : Nat) (x : Core) : (d.setCore c x).safe = d.safe := rfl
@[simp] theorem setCore_rootKeyId (c : Nat) (x : Core) : (d.setCore c x).rootKeyId = d.rootKeyId := rfl

@[simp] theorem modCore_regs (c : Nat) (f : Core → Core) : (d.modCore c f).regs = d.regs := rfl
@[simp] theorem modCore_eph (c : Nat) (f : Core → Core) : (d.modCore c f).eph = d.eph := rfl
@[simp] theorem modCore_chrono (c : Nat) (f : Core → Core) : (d.modCore c f).chrono = d.chrono := rfl
@[simp] theorem modCore_freeIx (c : Nat) (f : Core → Core) : (d.modCore c f).freeIx = d.freeIx := rfl
@[simp] theorem modCore_answer (c : Nat) (f : Core → Core) : (d.modCore c f).answer = d.answer := rfl
@[simp] theorem modCore_log (c : Nat) (f : Core → Core) : (d.modCore c f).log = d.log := rfl
@[simp] theorem modCore_engines (c : Nat) (f : Core → Core) : (d.modCore c f).engines = d.engines := rfl
@[simp] theorem modCore_swaps (c : Nat) (f : Core → Core) : (d.modCore c f).swaps = d.swaps := rfl
@[simp] theorem modCore_unspecCore (c : Nat) (f : Core → Core) : (d.modCore c f).unspecCore = d.unspecCore := rfl
@[simp] theorem modCore_unspecCluster (c : Nat) (f : Core → Core) : (d.modCore c f).unspecCluster = d.unspecCluster := rfl
@[simp] theorem modCore_unspecImem (c : Nat) (f : Core → Core) : (d.modCore c f).unspecImem = d.unspecImem := rfl
@[simp] theorem modCore_coreStore (c : Nat) (f : Core → Core) : (d.modCore c f).coreStore = d.coreStore := rfl
@[simp] theorem modCore_clusterStore (c : Nat) (f : Core → Core) : (d.modCore c f).clusterStore = d.clusterStore := rfl
@[simp] theorem modCore_imem (c : Nat) (f : Core → Core) : (d.modCore c f).imem = d.imem := rfl
@[simp] theorem modCore_injected (c : Nat) (f : Core → Core) : (d.modCore c f).injected = d.injected := rfl
@[simp] theorem modCore_inside (c : Nat) (f : Core → Core) : (d.modCore c f).inside = d.inside := rfl
@[simp] theorem modCore_held (c : Nat) (f : Core → Core) : (d.modCore c f).held = d.held := rfl
@[simp] theorem modCore_rates (c : Nat) (f : Core → Core) : (d.modCore c f).rates = d.rates := rfl
@[simp] theorem modCore_listed (c : Nat) (f : Core → Core) : (d.modCore c f).listed = d.listed := rfl
@[simp] theorem modCore_suspects (c : Nat) (f : Core → Core) : (d.modCore c f).suspects = d.suspects := rfl
@[simp] theorem modCore_reqs (c : Nat) (f : Core → Core) : (d.modCore c f).reqs = d.reqs := rfl
@[simp] theorem modCore_dseqs (c : Nat) (f : Core → Core) : (d.modCore c f).dseqs = d.dseqs := rfl
@[simp] theorem modCore_nextMsg (c : Nat) (f : Core → Core) : (d.modCore c f).nextMsg = d.nextMsg := rfl
@[simp] theorem modCore_collq (c : Nat) (f : Core → Core) : (d.modCore c f).collq = d.collq := rfl
@[simp] theorem modCore_colls (c : Nat) (f : Core → Core) : (d.modCore c f).colls = d.colls := rfl
@[simp] theorem modCore_power (c : Nat) (f : Core → Core) : (d.modCore c f).power = d.power := rfl
@[simp] theorem modCore_boot (c : Nat) (f : Core → Core) : (d.modCore c f).boot = d.boot := rfl
@[simp] theorem modCore_occulted (c : Nat) (f : Core → Core) : (d.modCore c f).occulted = d.occulted := rfl
@[simp] theorem modCore_hbm (c : Nat) (f : Core → Core) : (d.modCore c f).hbm = d.hbm := rfl
@[simp] theorem modCore_mem (c : Nat) (f : Core → Core) : (d.modCore c f).mem = d.mem := rfl
@[simp] theorem modCore_gas (c : Nat) (f : Core → Core) : (d.modCore c f).gas = d.gas := rfl
@[simp] theorem modCore_fab (c : Nat) (f : Core → Core) : (d.modCore c f).fab = d.fab := rfl
@[simp] theorem modCore_ports (c : Nat) (f : Core → Core) : (d.modCore c f).ports = d.ports := rfl
@[simp] theorem modCore_time (c : Nat) (f : Core → Core) : (d.modCore c f).time = d.time := rfl
@[simp] theorem modCore_dlk (c : Nat) (f : Core → Core) : (d.modCore c f).dlk = d.dlk := rfl
@[simp] theorem modCore_hlk (c : Nat) (f : Core → Core) : (d.modCore c f).hlk = d.hlk := rfl
@[simp] theorem modCore_int (c : Nat) (f : Core → Core) : (d.modCore c f).int = d.int := rfl
@[simp] theorem modCore_sec (c : Nat) (f : Core → Core) : (d.modCore c f).sec = d.sec := rfl
@[simp] theorem modCore_mgmt (c : Nat) (f : Core → Core) : (d.modCore c f).mgmt = d.mgmt := rfl
@[simp] theorem modCore_safe (c : Nat) (f : Core → Core) : (d.modCore c f).safe = d.safe := rfl
@[simp] theorem modCore_rootKeyId (c : Nat) (f : Core → Core) : (d.modCore c f).rootKeyId = d.rootKeyId := rfl

@[simp] theorem setEngine_regs (c e : Nat) (x : Engine) : (d.setEngine c e x).regs = d.regs := rfl
@[simp] theorem setEngine_eph (c e : Nat) (x : Engine) : (d.setEngine c e x).eph = d.eph := rfl
@[simp] theorem setEngine_chrono (c e : Nat) (x : Engine) : (d.setEngine c e x).chrono = d.chrono := rfl
@[simp] theorem setEngine_freeIx (c e : Nat) (x : Engine) : (d.setEngine c e x).freeIx = d.freeIx := rfl
@[simp] theorem setEngine_answer (c e : Nat) (x : Engine) : (d.setEngine c e x).answer = d.answer := rfl
@[simp] theorem setEngine_log (c e : Nat) (x : Engine) : (d.setEngine c e x).log = d.log := rfl
@[simp] theorem setEngine_cores (c e : Nat) (x : Engine) : (d.setEngine c e x).cores = d.cores := rfl
@[simp] theorem setEngine_swaps (c e : Nat) (x : Engine) : (d.setEngine c e x).swaps = d.swaps := rfl
@[simp] theorem setEngine_unspecCore (c e : Nat) (x : Engine) : (d.setEngine c e x).unspecCore = d.unspecCore := rfl
@[simp] theorem setEngine_unspecCluster (c e : Nat) (x : Engine) : (d.setEngine c e x).unspecCluster = d.unspecCluster := rfl
@[simp] theorem setEngine_unspecImem (c e : Nat) (x : Engine) : (d.setEngine c e x).unspecImem = d.unspecImem := rfl
@[simp] theorem setEngine_coreStore (c e : Nat) (x : Engine) : (d.setEngine c e x).coreStore = d.coreStore := rfl
@[simp] theorem setEngine_clusterStore (c e : Nat) (x : Engine) : (d.setEngine c e x).clusterStore = d.clusterStore := rfl
@[simp] theorem setEngine_imem (c e : Nat) (x : Engine) : (d.setEngine c e x).imem = d.imem := rfl
@[simp] theorem setEngine_injected (c e : Nat) (x : Engine) : (d.setEngine c e x).injected = d.injected := rfl
@[simp] theorem setEngine_inside (c e : Nat) (x : Engine) : (d.setEngine c e x).inside = d.inside := rfl
@[simp] theorem setEngine_held (c e : Nat) (x : Engine) : (d.setEngine c e x).held = d.held := rfl
@[simp] theorem setEngine_rates (c e : Nat) (x : Engine) : (d.setEngine c e x).rates = d.rates := rfl
@[simp] theorem setEngine_listed (c e : Nat) (x : Engine) : (d.setEngine c e x).listed = d.listed := rfl
@[simp] theorem setEngine_suspects (c e : Nat) (x : Engine) : (d.setEngine c e x).suspects = d.suspects := rfl
@[simp] theorem setEngine_reqs (c e : Nat) (x : Engine) : (d.setEngine c e x).reqs = d.reqs := rfl
@[simp] theorem setEngine_dseqs (c e : Nat) (x : Engine) : (d.setEngine c e x).dseqs = d.dseqs := rfl
@[simp] theorem setEngine_nextMsg (c e : Nat) (x : Engine) : (d.setEngine c e x).nextMsg = d.nextMsg := rfl
@[simp] theorem setEngine_collq (c e : Nat) (x : Engine) : (d.setEngine c e x).collq = d.collq := rfl
@[simp] theorem setEngine_colls (c e : Nat) (x : Engine) : (d.setEngine c e x).colls = d.colls := rfl
@[simp] theorem setEngine_power (c e : Nat) (x : Engine) : (d.setEngine c e x).power = d.power := rfl
@[simp] theorem setEngine_boot (c e : Nat) (x : Engine) : (d.setEngine c e x).boot = d.boot := rfl
@[simp] theorem setEngine_occulted (c e : Nat) (x : Engine) : (d.setEngine c e x).occulted = d.occulted := rfl
@[simp] theorem setEngine_hbm (c e : Nat) (x : Engine) : (d.setEngine c e x).hbm = d.hbm := rfl
@[simp] theorem setEngine_mem (c e : Nat) (x : Engine) : (d.setEngine c e x).mem = d.mem := rfl
@[simp] theorem setEngine_gas (c e : Nat) (x : Engine) : (d.setEngine c e x).gas = d.gas := rfl
@[simp] theorem setEngine_fab (c e : Nat) (x : Engine) : (d.setEngine c e x).fab = d.fab := rfl
@[simp] theorem setEngine_ports (c e : Nat) (x : Engine) : (d.setEngine c e x).ports = d.ports := rfl
@[simp] theorem setEngine_time (c e : Nat) (x : Engine) : (d.setEngine c e x).time = d.time := rfl
@[simp] theorem setEngine_dlk (c e : Nat) (x : Engine) : (d.setEngine c e x).dlk = d.dlk := rfl
@[simp] theorem setEngine_hlk (c e : Nat) (x : Engine) : (d.setEngine c e x).hlk = d.hlk := rfl
@[simp] theorem setEngine_int (c e : Nat) (x : Engine) : (d.setEngine c e x).int = d.int := rfl
@[simp] theorem setEngine_sec (c e : Nat) (x : Engine) : (d.setEngine c e x).sec = d.sec := rfl
@[simp] theorem setEngine_mgmt (c e : Nat) (x : Engine) : (d.setEngine c e x).mgmt = d.mgmt := rfl
@[simp] theorem setEngine_safe (c e : Nat) (x : Engine) : (d.setEngine c e x).safe = d.safe := rfl
@[simp] theorem setEngine_rootKeyId (c e : Nat) (x : Engine) : (d.setEngine c e x).rootKeyId = d.rootKeyId := rfl

@[simp] theorem modEngine_regs (c e : Nat) (f : Engine → Engine) : (d.modEngine c e f).regs = d.regs := rfl
@[simp] theorem modEngine_eph (c e : Nat) (f : Engine → Engine) : (d.modEngine c e f).eph = d.eph := rfl
@[simp] theorem modEngine_chrono (c e : Nat) (f : Engine → Engine) : (d.modEngine c e f).chrono = d.chrono := rfl
@[simp] theorem modEngine_freeIx (c e : Nat) (f : Engine → Engine) : (d.modEngine c e f).freeIx = d.freeIx := rfl
@[simp] theorem modEngine_answer (c e : Nat) (f : Engine → Engine) : (d.modEngine c e f).answer = d.answer := rfl
@[simp] theorem modEngine_log (c e : Nat) (f : Engine → Engine) : (d.modEngine c e f).log = d.log := rfl
@[simp] theorem modEngine_cores (c e : Nat) (f : Engine → Engine) : (d.modEngine c e f).cores = d.cores := rfl
@[simp] theorem modEngine_swaps (c e : Nat) (f : Engine → Engine) : (d.modEngine c e f).swaps = d.swaps := rfl
@[simp] theorem modEngine_unspecCore (c e : Nat) (f : Engine → Engine) : (d.modEngine c e f).unspecCore = d.unspecCore := rfl
@[simp] theorem modEngine_unspecCluster (c e : Nat) (f : Engine → Engine) : (d.modEngine c e f).unspecCluster = d.unspecCluster := rfl
@[simp] theorem modEngine_unspecImem (c e : Nat) (f : Engine → Engine) : (d.modEngine c e f).unspecImem = d.unspecImem := rfl
@[simp] theorem modEngine_coreStore (c e : Nat) (f : Engine → Engine) : (d.modEngine c e f).coreStore = d.coreStore := rfl
@[simp] theorem modEngine_clusterStore (c e : Nat) (f : Engine → Engine) : (d.modEngine c e f).clusterStore = d.clusterStore := rfl
@[simp] theorem modEngine_imem (c e : Nat) (f : Engine → Engine) : (d.modEngine c e f).imem = d.imem := rfl
@[simp] theorem modEngine_injected (c e : Nat) (f : Engine → Engine) : (d.modEngine c e f).injected = d.injected := rfl
@[simp] theorem modEngine_inside (c e : Nat) (f : Engine → Engine) : (d.modEngine c e f).inside = d.inside := rfl
@[simp] theorem modEngine_held (c e : Nat) (f : Engine → Engine) : (d.modEngine c e f).held = d.held := rfl
@[simp] theorem modEngine_rates (c e : Nat) (f : Engine → Engine) : (d.modEngine c e f).rates = d.rates := rfl
@[simp] theorem modEngine_listed (c e : Nat) (f : Engine → Engine) : (d.modEngine c e f).listed = d.listed := rfl
@[simp] theorem modEngine_suspects (c e : Nat) (f : Engine → Engine) : (d.modEngine c e f).suspects = d.suspects := rfl
@[simp] theorem modEngine_reqs (c e : Nat) (f : Engine → Engine) : (d.modEngine c e f).reqs = d.reqs := rfl
@[simp] theorem modEngine_dseqs (c e : Nat) (f : Engine → Engine) : (d.modEngine c e f).dseqs = d.dseqs := rfl
@[simp] theorem modEngine_nextMsg (c e : Nat) (f : Engine → Engine) : (d.modEngine c e f).nextMsg = d.nextMsg := rfl
@[simp] theorem modEngine_collq (c e : Nat) (f : Engine → Engine) : (d.modEngine c e f).collq = d.collq := rfl
@[simp] theorem modEngine_colls (c e : Nat) (f : Engine → Engine) : (d.modEngine c e f).colls = d.colls := rfl
@[simp] theorem modEngine_power (c e : Nat) (f : Engine → Engine) : (d.modEngine c e f).power = d.power := rfl
@[simp] theorem modEngine_boot (c e : Nat) (f : Engine → Engine) : (d.modEngine c e f).boot = d.boot := rfl
@[simp] theorem modEngine_occulted (c e : Nat) (f : Engine → Engine) : (d.modEngine c e f).occulted = d.occulted := rfl
@[simp] theorem modEngine_hbm (c e : Nat) (f : Engine → Engine) : (d.modEngine c e f).hbm = d.hbm := rfl
@[simp] theorem modEngine_mem (c e : Nat) (f : Engine → Engine) : (d.modEngine c e f).mem = d.mem := rfl
@[simp] theorem modEngine_gas (c e : Nat) (f : Engine → Engine) : (d.modEngine c e f).gas = d.gas := rfl
@[simp] theorem modEngine_fab (c e : Nat) (f : Engine → Engine) : (d.modEngine c e f).fab = d.fab := rfl
@[simp] theorem modEngine_ports (c e : Nat) (f : Engine → Engine) : (d.modEngine c e f).ports = d.ports := rfl
@[simp] theorem modEngine_time (c e : Nat) (f : Engine → Engine) : (d.modEngine c e f).time = d.time := rfl
@[simp] theorem modEngine_dlk (c e : Nat) (f : Engine → Engine) : (d.modEngine c e f).dlk = d.dlk := rfl
@[simp] theorem modEngine_hlk (c e : Nat) (f : Engine → Engine) : (d.modEngine c e f).hlk = d.hlk := rfl
@[simp] theorem modEngine_int (c e : Nat) (f : Engine → Engine) : (d.modEngine c e f).int = d.int := rfl
@[simp] theorem modEngine_sec (c e : Nat) (f : Engine → Engine) : (d.modEngine c e f).sec = d.sec := rfl
@[simp] theorem modEngine_mgmt (c e : Nat) (f : Engine → Engine) : (d.modEngine c e f).mgmt = d.mgmt := rfl
@[simp] theorem modEngine_safe (c e : Nat) (f : Engine → Engine) : (d.modEngine c e f).safe = d.safe := rfl
@[simp] theorem modEngine_rootKeyId (c e : Nat) (f : Engine → Engine) : (d.modEngine c e f).rootKeyId = d.rootKeyId := rfl

@[simp] theorem setThread_regs (c t : Nat) (x : Thread) : (d.setThread c t x).regs = d.regs := rfl
@[simp] theorem setThread_eph (c t : Nat) (x : Thread) : (d.setThread c t x).eph = d.eph := rfl
@[simp] theorem setThread_chrono (c t : Nat) (x : Thread) : (d.setThread c t x).chrono = d.chrono := rfl
@[simp] theorem setThread_freeIx (c t : Nat) (x : Thread) : (d.setThread c t x).freeIx = d.freeIx := rfl
@[simp] theorem setThread_answer (c t : Nat) (x : Thread) : (d.setThread c t x).answer = d.answer := rfl
@[simp] theorem setThread_log (c t : Nat) (x : Thread) : (d.setThread c t x).log = d.log := rfl
@[simp] theorem setThread_engines (c t : Nat) (x : Thread) : (d.setThread c t x).engines = d.engines := rfl
@[simp] theorem setThread_swaps (c t : Nat) (x : Thread) : (d.setThread c t x).swaps = d.swaps := rfl
@[simp] theorem setThread_unspecCore (c t : Nat) (x : Thread) : (d.setThread c t x).unspecCore = d.unspecCore := rfl
@[simp] theorem setThread_unspecCluster (c t : Nat) (x : Thread) : (d.setThread c t x).unspecCluster = d.unspecCluster := rfl
@[simp] theorem setThread_unspecImem (c t : Nat) (x : Thread) : (d.setThread c t x).unspecImem = d.unspecImem := rfl
@[simp] theorem setThread_coreStore (c t : Nat) (x : Thread) : (d.setThread c t x).coreStore = d.coreStore := rfl
@[simp] theorem setThread_clusterStore (c t : Nat) (x : Thread) : (d.setThread c t x).clusterStore = d.clusterStore := rfl
@[simp] theorem setThread_imem (c t : Nat) (x : Thread) : (d.setThread c t x).imem = d.imem := rfl
@[simp] theorem setThread_injected (c t : Nat) (x : Thread) : (d.setThread c t x).injected = d.injected := rfl
@[simp] theorem setThread_inside (c t : Nat) (x : Thread) : (d.setThread c t x).inside = d.inside := rfl
@[simp] theorem setThread_held (c t : Nat) (x : Thread) : (d.setThread c t x).held = d.held := rfl
@[simp] theorem setThread_rates (c t : Nat) (x : Thread) : (d.setThread c t x).rates = d.rates := rfl
@[simp] theorem setThread_listed (c t : Nat) (x : Thread) : (d.setThread c t x).listed = d.listed := rfl
@[simp] theorem setThread_suspects (c t : Nat) (x : Thread) : (d.setThread c t x).suspects = d.suspects := rfl
@[simp] theorem setThread_reqs (c t : Nat) (x : Thread) : (d.setThread c t x).reqs = d.reqs := rfl
@[simp] theorem setThread_dseqs (c t : Nat) (x : Thread) : (d.setThread c t x).dseqs = d.dseqs := rfl
@[simp] theorem setThread_nextMsg (c t : Nat) (x : Thread) : (d.setThread c t x).nextMsg = d.nextMsg := rfl
@[simp] theorem setThread_collq (c t : Nat) (x : Thread) : (d.setThread c t x).collq = d.collq := rfl
@[simp] theorem setThread_colls (c t : Nat) (x : Thread) : (d.setThread c t x).colls = d.colls := rfl
@[simp] theorem setThread_power (c t : Nat) (x : Thread) : (d.setThread c t x).power = d.power := rfl
@[simp] theorem setThread_boot (c t : Nat) (x : Thread) : (d.setThread c t x).boot = d.boot := rfl
@[simp] theorem setThread_occulted (c t : Nat) (x : Thread) : (d.setThread c t x).occulted = d.occulted := rfl
@[simp] theorem setThread_hbm (c t : Nat) (x : Thread) : (d.setThread c t x).hbm = d.hbm := rfl
@[simp] theorem setThread_mem (c t : Nat) (x : Thread) : (d.setThread c t x).mem = d.mem := rfl
@[simp] theorem setThread_gas (c t : Nat) (x : Thread) : (d.setThread c t x).gas = d.gas := rfl
@[simp] theorem setThread_fab (c t : Nat) (x : Thread) : (d.setThread c t x).fab = d.fab := rfl
@[simp] theorem setThread_ports (c t : Nat) (x : Thread) : (d.setThread c t x).ports = d.ports := rfl
@[simp] theorem setThread_time (c t : Nat) (x : Thread) : (d.setThread c t x).time = d.time := rfl
@[simp] theorem setThread_dlk (c t : Nat) (x : Thread) : (d.setThread c t x).dlk = d.dlk := rfl
@[simp] theorem setThread_hlk (c t : Nat) (x : Thread) : (d.setThread c t x).hlk = d.hlk := rfl
@[simp] theorem setThread_int (c t : Nat) (x : Thread) : (d.setThread c t x).int = d.int := rfl
@[simp] theorem setThread_sec (c t : Nat) (x : Thread) : (d.setThread c t x).sec = d.sec := rfl
@[simp] theorem setThread_mgmt (c t : Nat) (x : Thread) : (d.setThread c t x).mgmt = d.mgmt := rfl
@[simp] theorem setThread_safe (c t : Nat) (x : Thread) : (d.setThread c t x).safe = d.safe := rfl
@[simp] theorem setThread_rootKeyId (c t : Nat) (x : Thread) : (d.setThread c t x).rootKeyId = d.rootKeyId := rfl

@[simp] theorem modThread_regs (c t : Nat) (f : Thread → Thread) : (d.modThread c t f).regs = d.regs := rfl
@[simp] theorem modThread_eph (c t : Nat) (f : Thread → Thread) : (d.modThread c t f).eph = d.eph := rfl
@[simp] theorem modThread_chrono (c t : Nat) (f : Thread → Thread) : (d.modThread c t f).chrono = d.chrono := rfl
@[simp] theorem modThread_freeIx (c t : Nat) (f : Thread → Thread) : (d.modThread c t f).freeIx = d.freeIx := rfl
@[simp] theorem modThread_answer (c t : Nat) (f : Thread → Thread) : (d.modThread c t f).answer = d.answer := rfl
@[simp] theorem modThread_log (c t : Nat) (f : Thread → Thread) : (d.modThread c t f).log = d.log := rfl
@[simp] theorem modThread_engines (c t : Nat) (f : Thread → Thread) : (d.modThread c t f).engines = d.engines := rfl
@[simp] theorem modThread_swaps (c t : Nat) (f : Thread → Thread) : (d.modThread c t f).swaps = d.swaps := rfl
@[simp] theorem modThread_unspecCore (c t : Nat) (f : Thread → Thread) : (d.modThread c t f).unspecCore = d.unspecCore := rfl
@[simp] theorem modThread_unspecCluster (c t : Nat) (f : Thread → Thread) : (d.modThread c t f).unspecCluster = d.unspecCluster := rfl
@[simp] theorem modThread_unspecImem (c t : Nat) (f : Thread → Thread) : (d.modThread c t f).unspecImem = d.unspecImem := rfl
@[simp] theorem modThread_coreStore (c t : Nat) (f : Thread → Thread) : (d.modThread c t f).coreStore = d.coreStore := rfl
@[simp] theorem modThread_clusterStore (c t : Nat) (f : Thread → Thread) : (d.modThread c t f).clusterStore = d.clusterStore := rfl
@[simp] theorem modThread_imem (c t : Nat) (f : Thread → Thread) : (d.modThread c t f).imem = d.imem := rfl
@[simp] theorem modThread_injected (c t : Nat) (f : Thread → Thread) : (d.modThread c t f).injected = d.injected := rfl
@[simp] theorem modThread_inside (c t : Nat) (f : Thread → Thread) : (d.modThread c t f).inside = d.inside := rfl
@[simp] theorem modThread_held (c t : Nat) (f : Thread → Thread) : (d.modThread c t f).held = d.held := rfl
@[simp] theorem modThread_rates (c t : Nat) (f : Thread → Thread) : (d.modThread c t f).rates = d.rates := rfl
@[simp] theorem modThread_listed (c t : Nat) (f : Thread → Thread) : (d.modThread c t f).listed = d.listed := rfl
@[simp] theorem modThread_suspects (c t : Nat) (f : Thread → Thread) : (d.modThread c t f).suspects = d.suspects := rfl
@[simp] theorem modThread_reqs (c t : Nat) (f : Thread → Thread) : (d.modThread c t f).reqs = d.reqs := rfl
@[simp] theorem modThread_dseqs (c t : Nat) (f : Thread → Thread) : (d.modThread c t f).dseqs = d.dseqs := rfl
@[simp] theorem modThread_nextMsg (c t : Nat) (f : Thread → Thread) : (d.modThread c t f).nextMsg = d.nextMsg := rfl
@[simp] theorem modThread_collq (c t : Nat) (f : Thread → Thread) : (d.modThread c t f).collq = d.collq := rfl
@[simp] theorem modThread_colls (c t : Nat) (f : Thread → Thread) : (d.modThread c t f).colls = d.colls := rfl
@[simp] theorem modThread_power (c t : Nat) (f : Thread → Thread) : (d.modThread c t f).power = d.power := rfl
@[simp] theorem modThread_boot (c t : Nat) (f : Thread → Thread) : (d.modThread c t f).boot = d.boot := rfl
@[simp] theorem modThread_occulted (c t : Nat) (f : Thread → Thread) : (d.modThread c t f).occulted = d.occulted := rfl
@[simp] theorem modThread_hbm (c t : Nat) (f : Thread → Thread) : (d.modThread c t f).hbm = d.hbm := rfl
@[simp] theorem modThread_mem (c t : Nat) (f : Thread → Thread) : (d.modThread c t f).mem = d.mem := rfl
@[simp] theorem modThread_gas (c t : Nat) (f : Thread → Thread) : (d.modThread c t f).gas = d.gas := rfl
@[simp] theorem modThread_fab (c t : Nat) (f : Thread → Thread) : (d.modThread c t f).fab = d.fab := rfl
@[simp] theorem modThread_ports (c t : Nat) (f : Thread → Thread) : (d.modThread c t f).ports = d.ports := rfl
@[simp] theorem modThread_time (c t : Nat) (f : Thread → Thread) : (d.modThread c t f).time = d.time := rfl
@[simp] theorem modThread_dlk (c t : Nat) (f : Thread → Thread) : (d.modThread c t f).dlk = d.dlk := rfl
@[simp] theorem modThread_hlk (c t : Nat) (f : Thread → Thread) : (d.modThread c t f).hlk = d.hlk := rfl
@[simp] theorem modThread_int (c t : Nat) (f : Thread → Thread) : (d.modThread c t f).int = d.int := rfl
@[simp] theorem modThread_sec (c t : Nat) (f : Thread → Thread) : (d.modThread c t f).sec = d.sec := rfl
@[simp] theorem modThread_mgmt (c t : Nat) (f : Thread → Thread) : (d.modThread c t f).mgmt = d.mgmt := rfl
@[simp] theorem modThread_safe (c t : Nat) (f : Thread → Thread) : (d.modThread c t f).safe = d.safe := rfl
@[simp] theorem modThread_rootKeyId (c t : Nat) (f : Thread → Thread) : (d.modThread c t f).rootKeyId = d.rootKeyId := rfl

@[simp] theorem setQueue_regs (c q : Nat) (l : List Entry) : (d.setQueue c q l).regs = d.regs := rfl
@[simp] theorem setQueue_eph (c q : Nat) (l : List Entry) : (d.setQueue c q l).eph = d.eph := rfl
@[simp] theorem setQueue_chrono (c q : Nat) (l : List Entry) : (d.setQueue c q l).chrono = d.chrono := rfl
@[simp] theorem setQueue_freeIx (c q : Nat) (l : List Entry) : (d.setQueue c q l).freeIx = d.freeIx := rfl
@[simp] theorem setQueue_answer (c q : Nat) (l : List Entry) : (d.setQueue c q l).answer = d.answer := rfl
@[simp] theorem setQueue_log (c q : Nat) (l : List Entry) : (d.setQueue c q l).log = d.log := rfl
@[simp] theorem setQueue_engines (c q : Nat) (l : List Entry) : (d.setQueue c q l).engines = d.engines := rfl
@[simp] theorem setQueue_swaps (c q : Nat) (l : List Entry) : (d.setQueue c q l).swaps = d.swaps := rfl
@[simp] theorem setQueue_unspecCore (c q : Nat) (l : List Entry) : (d.setQueue c q l).unspecCore = d.unspecCore := rfl
@[simp] theorem setQueue_unspecCluster (c q : Nat) (l : List Entry) : (d.setQueue c q l).unspecCluster = d.unspecCluster := rfl
@[simp] theorem setQueue_unspecImem (c q : Nat) (l : List Entry) : (d.setQueue c q l).unspecImem = d.unspecImem := rfl
@[simp] theorem setQueue_coreStore (c q : Nat) (l : List Entry) : (d.setQueue c q l).coreStore = d.coreStore := rfl
@[simp] theorem setQueue_clusterStore (c q : Nat) (l : List Entry) : (d.setQueue c q l).clusterStore = d.clusterStore := rfl
@[simp] theorem setQueue_imem (c q : Nat) (l : List Entry) : (d.setQueue c q l).imem = d.imem := rfl
@[simp] theorem setQueue_injected (c q : Nat) (l : List Entry) : (d.setQueue c q l).injected = d.injected := rfl
@[simp] theorem setQueue_inside (c q : Nat) (l : List Entry) : (d.setQueue c q l).inside = d.inside := rfl
@[simp] theorem setQueue_held (c q : Nat) (l : List Entry) : (d.setQueue c q l).held = d.held := rfl
@[simp] theorem setQueue_rates (c q : Nat) (l : List Entry) : (d.setQueue c q l).rates = d.rates := rfl
@[simp] theorem setQueue_listed (c q : Nat) (l : List Entry) : (d.setQueue c q l).listed = d.listed := rfl
@[simp] theorem setQueue_suspects (c q : Nat) (l : List Entry) : (d.setQueue c q l).suspects = d.suspects := rfl
@[simp] theorem setQueue_reqs (c q : Nat) (l : List Entry) : (d.setQueue c q l).reqs = d.reqs := rfl
@[simp] theorem setQueue_dseqs (c q : Nat) (l : List Entry) : (d.setQueue c q l).dseqs = d.dseqs := rfl
@[simp] theorem setQueue_nextMsg (c q : Nat) (l : List Entry) : (d.setQueue c q l).nextMsg = d.nextMsg := rfl
@[simp] theorem setQueue_collq (c q : Nat) (l : List Entry) : (d.setQueue c q l).collq = d.collq := rfl
@[simp] theorem setQueue_colls (c q : Nat) (l : List Entry) : (d.setQueue c q l).colls = d.colls := rfl
@[simp] theorem setQueue_power (c q : Nat) (l : List Entry) : (d.setQueue c q l).power = d.power := rfl
@[simp] theorem setQueue_boot (c q : Nat) (l : List Entry) : (d.setQueue c q l).boot = d.boot := rfl
@[simp] theorem setQueue_occulted (c q : Nat) (l : List Entry) : (d.setQueue c q l).occulted = d.occulted := rfl
@[simp] theorem setQueue_hbm (c q : Nat) (l : List Entry) : (d.setQueue c q l).hbm = d.hbm := rfl
@[simp] theorem setQueue_mem (c q : Nat) (l : List Entry) : (d.setQueue c q l).mem = d.mem := rfl
@[simp] theorem setQueue_gas (c q : Nat) (l : List Entry) : (d.setQueue c q l).gas = d.gas := rfl
@[simp] theorem setQueue_fab (c q : Nat) (l : List Entry) : (d.setQueue c q l).fab = d.fab := rfl
@[simp] theorem setQueue_ports (c q : Nat) (l : List Entry) : (d.setQueue c q l).ports = d.ports := rfl
@[simp] theorem setQueue_time (c q : Nat) (l : List Entry) : (d.setQueue c q l).time = d.time := rfl
@[simp] theorem setQueue_dlk (c q : Nat) (l : List Entry) : (d.setQueue c q l).dlk = d.dlk := rfl
@[simp] theorem setQueue_hlk (c q : Nat) (l : List Entry) : (d.setQueue c q l).hlk = d.hlk := rfl
@[simp] theorem setQueue_int (c q : Nat) (l : List Entry) : (d.setQueue c q l).int = d.int := rfl
@[simp] theorem setQueue_sec (c q : Nat) (l : List Entry) : (d.setQueue c q l).sec = d.sec := rfl
@[simp] theorem setQueue_mgmt (c q : Nat) (l : List Entry) : (d.setQueue c q l).mgmt = d.mgmt := rfl
@[simp] theorem setQueue_safe (c q : Nat) (l : List Entry) : (d.setQueue c q l).safe = d.safe := rfl
@[simp] theorem setQueue_rootKeyId (c q : Nat) (l : List Entry) : (d.setQueue c q l).rootKeyId = d.rootKeyId := rfl

@[simp] theorem draw_regs : (d.draw).regs = d.regs := rfl
@[simp] theorem draw_eph : (d.draw).eph = d.eph := rfl
@[simp] theorem draw_chrono : (d.draw).chrono = d.chrono := rfl
@[simp] theorem draw_answer : (d.draw).answer = d.answer := rfl
@[simp] theorem draw_log : (d.draw).log = d.log := rfl
@[simp] theorem draw_cores : (d.draw).cores = d.cores := rfl
@[simp] theorem draw_engines : (d.draw).engines = d.engines := rfl
@[simp] theorem draw_swaps : (d.draw).swaps = d.swaps := rfl
@[simp] theorem draw_unspecCore : (d.draw).unspecCore = d.unspecCore := rfl
@[simp] theorem draw_unspecCluster : (d.draw).unspecCluster = d.unspecCluster := rfl
@[simp] theorem draw_unspecImem : (d.draw).unspecImem = d.unspecImem := rfl
@[simp] theorem draw_coreStore : (d.draw).coreStore = d.coreStore := rfl
@[simp] theorem draw_clusterStore : (d.draw).clusterStore = d.clusterStore := rfl
@[simp] theorem draw_imem : (d.draw).imem = d.imem := rfl
@[simp] theorem draw_injected : (d.draw).injected = d.injected := rfl
@[simp] theorem draw_inside : (d.draw).inside = d.inside := rfl
@[simp] theorem draw_held : (d.draw).held = d.held := rfl
@[simp] theorem draw_rates : (d.draw).rates = d.rates := rfl
@[simp] theorem draw_listed : (d.draw).listed = d.listed := rfl
@[simp] theorem draw_suspects : (d.draw).suspects = d.suspects := rfl
@[simp] theorem draw_reqs : (d.draw).reqs = d.reqs := rfl
@[simp] theorem draw_dseqs : (d.draw).dseqs = d.dseqs := rfl
@[simp] theorem draw_nextMsg : (d.draw).nextMsg = d.nextMsg := rfl
@[simp] theorem draw_collq : (d.draw).collq = d.collq := rfl
@[simp] theorem draw_colls : (d.draw).colls = d.colls := rfl
@[simp] theorem draw_power : (d.draw).power = d.power := rfl
@[simp] theorem draw_boot : (d.draw).boot = d.boot := rfl
@[simp] theorem draw_occulted : (d.draw).occulted = d.occulted := rfl
@[simp] theorem draw_hbm : (d.draw).hbm = d.hbm := rfl
@[simp] theorem draw_mem : (d.draw).mem = d.mem := rfl
@[simp] theorem draw_gas : (d.draw).gas = d.gas := rfl
@[simp] theorem draw_fab : (d.draw).fab = d.fab := rfl
@[simp] theorem draw_ports : (d.draw).ports = d.ports := rfl
@[simp] theorem draw_time : (d.draw).time = d.time := rfl
@[simp] theorem draw_dlk : (d.draw).dlk = d.dlk := rfl
@[simp] theorem draw_hlk : (d.draw).hlk = d.hlk := rfl
@[simp] theorem draw_int : (d.draw).int = d.int := rfl
@[simp] theorem draw_sec : (d.draw).sec = d.sec := rfl
@[simp] theorem draw_mgmt : (d.draw).mgmt = d.mgmt := rfl
@[simp] theorem draw_safe : (d.draw).safe = d.safe := rfl
@[simp] theorem draw_rootKeyId : (d.draw).rootKeyId = d.rootKeyId := rfl

@[simp] theorem setCoreByte_regs (a : Nat) (b : Byte) : (d.setCoreByte a b).regs = d.regs := rfl
@[simp] theorem setCoreByte_eph (a : Nat) (b : Byte) : (d.setCoreByte a b).eph = d.eph := rfl
@[simp] theorem setCoreByte_chrono (a : Nat) (b : Byte) : (d.setCoreByte a b).chrono = d.chrono := rfl
@[simp] theorem setCoreByte_freeIx (a : Nat) (b : Byte) : (d.setCoreByte a b).freeIx = d.freeIx := rfl
@[simp] theorem setCoreByte_answer (a : Nat) (b : Byte) : (d.setCoreByte a b).answer = d.answer := rfl
@[simp] theorem setCoreByte_log (a : Nat) (b : Byte) : (d.setCoreByte a b).log = d.log := rfl
@[simp] theorem setCoreByte_cores (a : Nat) (b : Byte) : (d.setCoreByte a b).cores = d.cores := rfl
@[simp] theorem setCoreByte_engines (a : Nat) (b : Byte) : (d.setCoreByte a b).engines = d.engines := rfl
@[simp] theorem setCoreByte_swaps (a : Nat) (b : Byte) : (d.setCoreByte a b).swaps = d.swaps := rfl
@[simp] theorem setCoreByte_unspecCore (a : Nat) (b : Byte) : (d.setCoreByte a b).unspecCore = d.unspecCore := rfl
@[simp] theorem setCoreByte_unspecCluster (a : Nat) (b : Byte) : (d.setCoreByte a b).unspecCluster = d.unspecCluster := rfl
@[simp] theorem setCoreByte_unspecImem (a : Nat) (b : Byte) : (d.setCoreByte a b).unspecImem = d.unspecImem := rfl
@[simp] theorem setCoreByte_clusterStore (a : Nat) (b : Byte) : (d.setCoreByte a b).clusterStore = d.clusterStore := rfl
@[simp] theorem setCoreByte_imem (a : Nat) (b : Byte) : (d.setCoreByte a b).imem = d.imem := rfl
@[simp] theorem setCoreByte_injected (a : Nat) (b : Byte) : (d.setCoreByte a b).injected = d.injected := rfl
@[simp] theorem setCoreByte_inside (a : Nat) (b : Byte) : (d.setCoreByte a b).inside = d.inside := rfl
@[simp] theorem setCoreByte_held (a : Nat) (b : Byte) : (d.setCoreByte a b).held = d.held := rfl
@[simp] theorem setCoreByte_rates (a : Nat) (b : Byte) : (d.setCoreByte a b).rates = d.rates := rfl
@[simp] theorem setCoreByte_listed (a : Nat) (b : Byte) : (d.setCoreByte a b).listed = d.listed := rfl
@[simp] theorem setCoreByte_suspects (a : Nat) (b : Byte) : (d.setCoreByte a b).suspects = d.suspects := rfl
@[simp] theorem setCoreByte_reqs (a : Nat) (b : Byte) : (d.setCoreByte a b).reqs = d.reqs := rfl
@[simp] theorem setCoreByte_dseqs (a : Nat) (b : Byte) : (d.setCoreByte a b).dseqs = d.dseqs := rfl
@[simp] theorem setCoreByte_nextMsg (a : Nat) (b : Byte) : (d.setCoreByte a b).nextMsg = d.nextMsg := rfl
@[simp] theorem setCoreByte_collq (a : Nat) (b : Byte) : (d.setCoreByte a b).collq = d.collq := rfl
@[simp] theorem setCoreByte_colls (a : Nat) (b : Byte) : (d.setCoreByte a b).colls = d.colls := rfl
@[simp] theorem setCoreByte_power (a : Nat) (b : Byte) : (d.setCoreByte a b).power = d.power := rfl
@[simp] theorem setCoreByte_boot (a : Nat) (b : Byte) : (d.setCoreByte a b).boot = d.boot := rfl
@[simp] theorem setCoreByte_occulted (a : Nat) (b : Byte) : (d.setCoreByte a b).occulted = d.occulted := rfl
@[simp] theorem setCoreByte_hbm (a : Nat) (b : Byte) : (d.setCoreByte a b).hbm = d.hbm := rfl
@[simp] theorem setCoreByte_mem (a : Nat) (b : Byte) : (d.setCoreByte a b).mem = d.mem := rfl
@[simp] theorem setCoreByte_gas (a : Nat) (b : Byte) : (d.setCoreByte a b).gas = d.gas := rfl
@[simp] theorem setCoreByte_fab (a : Nat) (b : Byte) : (d.setCoreByte a b).fab = d.fab := rfl
@[simp] theorem setCoreByte_ports (a : Nat) (b : Byte) : (d.setCoreByte a b).ports = d.ports := rfl
@[simp] theorem setCoreByte_time (a : Nat) (b : Byte) : (d.setCoreByte a b).time = d.time := rfl
@[simp] theorem setCoreByte_dlk (a : Nat) (b : Byte) : (d.setCoreByte a b).dlk = d.dlk := rfl
@[simp] theorem setCoreByte_hlk (a : Nat) (b : Byte) : (d.setCoreByte a b).hlk = d.hlk := rfl
@[simp] theorem setCoreByte_int (a : Nat) (b : Byte) : (d.setCoreByte a b).int = d.int := rfl
@[simp] theorem setCoreByte_sec (a : Nat) (b : Byte) : (d.setCoreByte a b).sec = d.sec := rfl
@[simp] theorem setCoreByte_mgmt (a : Nat) (b : Byte) : (d.setCoreByte a b).mgmt = d.mgmt := rfl
@[simp] theorem setCoreByte_safe (a : Nat) (b : Byte) : (d.setCoreByte a b).safe = d.safe := rfl
@[simp] theorem setCoreByte_rootKeyId (a : Nat) (b : Byte) : (d.setCoreByte a b).rootKeyId = d.rootKeyId := rfl

@[simp] theorem setClusterByte_regs (a : Nat) (b : Byte) : (d.setClusterByte a b).regs = d.regs := rfl
@[simp] theorem setClusterByte_eph (a : Nat) (b : Byte) : (d.setClusterByte a b).eph = d.eph := rfl
@[simp] theorem setClusterByte_chrono (a : Nat) (b : Byte) : (d.setClusterByte a b).chrono = d.chrono := rfl
@[simp] theorem setClusterByte_freeIx (a : Nat) (b : Byte) : (d.setClusterByte a b).freeIx = d.freeIx := rfl
@[simp] theorem setClusterByte_answer (a : Nat) (b : Byte) : (d.setClusterByte a b).answer = d.answer := rfl
@[simp] theorem setClusterByte_log (a : Nat) (b : Byte) : (d.setClusterByte a b).log = d.log := rfl
@[simp] theorem setClusterByte_cores (a : Nat) (b : Byte) : (d.setClusterByte a b).cores = d.cores := rfl
@[simp] theorem setClusterByte_engines (a : Nat) (b : Byte) : (d.setClusterByte a b).engines = d.engines := rfl
@[simp] theorem setClusterByte_swaps (a : Nat) (b : Byte) : (d.setClusterByte a b).swaps = d.swaps := rfl
@[simp] theorem setClusterByte_unspecCore (a : Nat) (b : Byte) : (d.setClusterByte a b).unspecCore = d.unspecCore := rfl
@[simp] theorem setClusterByte_unspecCluster (a : Nat) (b : Byte) : (d.setClusterByte a b).unspecCluster = d.unspecCluster := rfl
@[simp] theorem setClusterByte_unspecImem (a : Nat) (b : Byte) : (d.setClusterByte a b).unspecImem = d.unspecImem := rfl
@[simp] theorem setClusterByte_coreStore (a : Nat) (b : Byte) : (d.setClusterByte a b).coreStore = d.coreStore := rfl
@[simp] theorem setClusterByte_imem (a : Nat) (b : Byte) : (d.setClusterByte a b).imem = d.imem := rfl
@[simp] theorem setClusterByte_injected (a : Nat) (b : Byte) : (d.setClusterByte a b).injected = d.injected := rfl
@[simp] theorem setClusterByte_inside (a : Nat) (b : Byte) : (d.setClusterByte a b).inside = d.inside := rfl
@[simp] theorem setClusterByte_held (a : Nat) (b : Byte) : (d.setClusterByte a b).held = d.held := rfl
@[simp] theorem setClusterByte_rates (a : Nat) (b : Byte) : (d.setClusterByte a b).rates = d.rates := rfl
@[simp] theorem setClusterByte_listed (a : Nat) (b : Byte) : (d.setClusterByte a b).listed = d.listed := rfl
@[simp] theorem setClusterByte_suspects (a : Nat) (b : Byte) : (d.setClusterByte a b).suspects = d.suspects := rfl
@[simp] theorem setClusterByte_reqs (a : Nat) (b : Byte) : (d.setClusterByte a b).reqs = d.reqs := rfl
@[simp] theorem setClusterByte_dseqs (a : Nat) (b : Byte) : (d.setClusterByte a b).dseqs = d.dseqs := rfl
@[simp] theorem setClusterByte_nextMsg (a : Nat) (b : Byte) : (d.setClusterByte a b).nextMsg = d.nextMsg := rfl
@[simp] theorem setClusterByte_collq (a : Nat) (b : Byte) : (d.setClusterByte a b).collq = d.collq := rfl
@[simp] theorem setClusterByte_colls (a : Nat) (b : Byte) : (d.setClusterByte a b).colls = d.colls := rfl
@[simp] theorem setClusterByte_power (a : Nat) (b : Byte) : (d.setClusterByte a b).power = d.power := rfl
@[simp] theorem setClusterByte_boot (a : Nat) (b : Byte) : (d.setClusterByte a b).boot = d.boot := rfl
@[simp] theorem setClusterByte_occulted (a : Nat) (b : Byte) : (d.setClusterByte a b).occulted = d.occulted := rfl
@[simp] theorem setClusterByte_hbm (a : Nat) (b : Byte) : (d.setClusterByte a b).hbm = d.hbm := rfl
@[simp] theorem setClusterByte_mem (a : Nat) (b : Byte) : (d.setClusterByte a b).mem = d.mem := rfl
@[simp] theorem setClusterByte_gas (a : Nat) (b : Byte) : (d.setClusterByte a b).gas = d.gas := rfl
@[simp] theorem setClusterByte_fab (a : Nat) (b : Byte) : (d.setClusterByte a b).fab = d.fab := rfl
@[simp] theorem setClusterByte_ports (a : Nat) (b : Byte) : (d.setClusterByte a b).ports = d.ports := rfl
@[simp] theorem setClusterByte_time (a : Nat) (b : Byte) : (d.setClusterByte a b).time = d.time := rfl
@[simp] theorem setClusterByte_dlk (a : Nat) (b : Byte) : (d.setClusterByte a b).dlk = d.dlk := rfl
@[simp] theorem setClusterByte_hlk (a : Nat) (b : Byte) : (d.setClusterByte a b).hlk = d.hlk := rfl
@[simp] theorem setClusterByte_int (a : Nat) (b : Byte) : (d.setClusterByte a b).int = d.int := rfl
@[simp] theorem setClusterByte_sec (a : Nat) (b : Byte) : (d.setClusterByte a b).sec = d.sec := rfl
@[simp] theorem setClusterByte_mgmt (a : Nat) (b : Byte) : (d.setClusterByte a b).mgmt = d.mgmt := rfl
@[simp] theorem setClusterByte_safe (a : Nat) (b : Byte) : (d.setClusterByte a b).safe = d.safe := rfl
@[simp] theorem setClusterByte_rootKeyId (a : Nat) (b : Byte) : (d.setClusterByte a b).rootKeyId = d.rootKeyId := rfl

/-! ### Registers -/

@[simp] theorem reg_setReg_self (k : RegKey) (v : Word) : (d.setReg k v).reg k = v := FMap.get_set_self _ _ _ _ _

theorem reg_setReg_ne {k k' : RegKey} (v : Word) (h : k' ≠ k) : (d.setReg k v).reg k' = d.reg k' :=
  FMap.get_set_ne _ _ _ _ _ h

/-- A field that is set reads as the value modulo its width. -/
theorem gf_sf_self (f : Fld) (v u i j : Nat) (h : f.lo ≤ f.hi) (hh : f.hi < 64) :
    (d.sf f v u i j).gf f u i j = v % 2 ^ (f.hi + 1 - f.lo) := by
  simp [gf, sf, getBits_setBits_self _ _ _ _ h hh]

/-- A field of another register keeps its value. -/
theorem gf_sf_of_reg_ne (f g : Fld) (v u i j u' i' j' : Nat) (h : g.reg ≠ f.reg) :
    (d.sf f v u i j).gf g u' i' j' = d.gf g u' i' j' := by
  rw [gf, sf, reg_setReg_ne d _ (by simp [h]), gf]

/-- A field of another instance keeps its value. -/
theorem gf_sf_of_inst_ne (f g : Fld) (v u i j u' i' j' : Nat) (h : (u', i', j') ≠ (u, i, j)) :
    (d.sf f v u i j).gf g u' i' j' = d.gf g u' i' j' := by
  rw [gf, sf, reg_setReg_ne d _ (by intro e; obtain ⟨-, rfl, rfl, rfl⟩ := RegKey.mk.inj e; exact h rfl), gf]

/-- Another field of the same register keeps its value. -/
theorem gf_sf_of_disjoint (f g : Fld) (v u i j : Nat) (u' i' j' : Nat) (h : f.lo ≤ f.hi) (hh : f.hi < 64)
    (hd : g.hi < f.lo ∨ f.hi < g.lo) : (d.sf f v u i j).gf g u' i' j' = d.gf g u' i' j' := by
  by_cases hk : (⟨g.reg, u', i', j'⟩ : RegKey) = ⟨f.reg, u, i, j⟩
  · obtain ⟨hr, rfl, rfl, rfl⟩ := RegKey.mk.inj hk
    simp only [gf, sf, hr, reg_setReg_self]
    exact getBits_setBits_of_disjoint _ _ _ _ _ _ h hh hd
  · rw [gf, sf, reg_setReg_ne d _ hk, gf]

theorem reg_sf_ne (f : Fld) (v u i j : Nat) {k : RegKey} (h : k ≠ ⟨f.reg, u, i, j⟩) : (d.sf f v u i j).reg k = d.reg k :=
  reg_setReg_ne d _ h

theorem gf_lt (f : Fld) (u i j : Nat) : d.gf f u i j < 2 ^ (f.hi + 1 - f.lo) := getBits_lt _ _ _

/-! ### Cores, threads, queues and engines -/

@[simp] theorem core_setCore_self (c : Nat) (x : Core) : (d.setCore c x).core c = x := NMap.get_set_self _ _ _ _

theorem core_setCore_ne {c c' : Nat} (x : Core) (h : c' ≠ c) : (d.setCore c x).core c' = d.core c' :=
  NMap.get_set_ne _ _ _ _ h

@[simp] theorem core_modCore_self (c : Nat) (f : Core → Core) : (d.modCore c f).core c = f (d.core c) :=
  core_setCore_self d c _

theorem core_modCore_ne {c c' : Nat} (f : Core → Core) (h : c' ≠ c) : (d.modCore c f).core c' = d.core c' :=
  core_setCore_ne d _ h

@[simp] theorem thread_setThread_self (c t : Nat) (x : Thread) : (d.setThread c t x).thread c t = x := by
  simp [thread, setThread]

theorem thread_setThread_ne {c c' t t' : Nat} (x : Thread) (h : (c', t') ≠ (c, t)) :
    (d.setThread c t x).thread c' t' = d.thread c' t' := by
  by_cases hc : c' = c
  · subst hc
    have : t' ≠ t := fun e => h (e ▸ rfl)
    simp [thread, setThread, NMap.get_set_ne _ _ _ _ this]
  · simp [thread, setThread, core_modCore_ne d _ hc]

@[simp] theorem thread_modThread_self (c t : Nat) (f : Thread → Thread) : (d.modThread c t f).thread c t = f (d.thread c t) :=
  thread_setThread_self d c t _

theorem thread_modThread_ne {c c' t t' : Nat} (f : Thread → Thread) (h : (c', t') ≠ (c, t)) :
    (d.modThread c t f).thread c' t' = d.thread c' t' :=
  thread_setThread_ne d _ h

@[simp] theorem queue_setQueue_self (c q : Nat) (l : List Entry) : (d.setQueue c q l).queue c q = l := by
  simp [queue, setQueue]

theorem queue_setQueue_ne {c c' q q' : Nat} (l : List Entry) (h : (c', q') ≠ (c, q)) :
    (d.setQueue c q l).queue c' q' = d.queue c' q' := by
  by_cases hc : c' = c
  · subst hc
    have : q' ≠ q := fun e => h (e ▸ rfl)
    simp [queue, setQueue, NMap.get_set_ne _ _ _ _ this]
  · simp [queue, setQueue, core_modCore_ne d _ hc]

@[simp] theorem queue_setThread (c t : Nat) (x : Thread) (c' q : Nat) : (d.setThread c t x).queue c' q = d.queue c' q := by
  by_cases hc : c' = c
  · subst hc; simp [queue, setThread]
  · simp [queue, setThread, core_modCore_ne d _ hc]

@[simp] theorem thread_setQueue (c q : Nat) (l : List Entry) (c' t : Nat) : (d.setQueue c q l).thread c' t = d.thread c' t := by
  by_cases hc : c' = c
  · subst hc; simp [thread, setQueue]
  · simp [thread, setQueue, core_modCore_ne d _ hc]

@[simp] theorem engine_setEngine_self (c e : Nat) (x : Engine) : (d.setEngine c e x).engine c e = x := NMap.get_set_self _ _ _ _

@[simp] theorem core_setReg (k : RegKey) (v : Word) (c : Nat) : (d.setReg k v).core c = d.core c := rfl
@[simp] theorem core_sf (f : Fld) (v u i j c : Nat) : (d.sf f v u i j).core c = d.core c := rfl
@[simp] theorem thread_setReg (k : RegKey) (v : Word) (c t : Nat) : (d.setReg k v).thread c t = d.thread c t := rfl
@[simp] theorem thread_sf (f : Fld) (v u i j c t : Nat) : (d.sf f v u i j).thread c t = d.thread c t := rfl
@[simp] theorem queue_sf (f : Fld) (v u i j c q : Nat) : (d.sf f v u i j).queue c q = d.queue c q := rfl
@[simp] theorem reg_modCore (c : Nat) (f : Core → Core) (k : RegKey) : (d.modCore c f).reg k = d.reg k := rfl
@[simp] theorem reg_setThread (c t : Nat) (x : Thread) (k : RegKey) : (d.setThread c t x).reg k = d.reg k := rfl
@[simp] theorem reg_modThread (c t : Nat) (f : Thread → Thread) (k : RegKey) : (d.modThread c t f).reg k = d.reg k := rfl
@[simp] theorem gf_modCore (c : Nat) (f : Core → Core) (g : Fld) (u i j : Nat) : (d.modCore c f).gf g u i j = d.gf g u i j := rfl
@[simp] theorem gf_setThread (c t : Nat) (x : Thread) (g : Fld) (u i j : Nat) : (d.setThread c t x).gf g u i j = d.gf g u i j := rfl
@[simp] theorem gf_modThread (c t : Nat) (f : Thread → Thread) (g : Fld) (u i j : Nat) : (d.modThread c t f).gf g u i j = d.gf g u i j := rfl
@[simp] theorem gf_setQueue (c q : Nat) (l : List Entry) (g : Fld) (u i j : Nat) : (d.setQueue c q l).gf g u i j = d.gf g u i j := rfl

/-! ### Memories of the C-dies -/

@[simp] theorem coreByte_setCoreByte_self (a : Nat) (b : Byte) : (d.setCoreByte a b).coreByte a = b := NMap.get_set_self _ _ _ _

theorem coreByte_setCoreByte_ne {a a' : Nat} (b : Byte) (h : a' ≠ a) : (d.setCoreByte a b).coreByte a' = d.coreByte a' :=
  NMap.get_set_ne _ _ _ _ h

@[simp] theorem clusterByte_setClusterByte_self (a : Nat) (b : Byte) : (d.setClusterByte a b).clusterByte a = b :=
  NMap.get_set_self _ _ _ _

theorem clusterByte_setClusterByte_ne {a a' : Nat} (b : Byte) (h : a' ≠ a) :
    (d.setClusterByte a b).clusterByte a' = d.clusterByte a' :=
  NMap.get_set_ne _ _ _ _ h

end Sys2Proof.Machine.Dev
end

