-- ==== Sys2Proof/Tests/Slice0.lean ====
section
/-! SUPPORT. Tests of the model: the checks of well-formed operands, the worked examples of the specification, and for
every clause of the statements a device and operands that meet its hypotheses (the theorems witness_<statement>_<clauses>,
the clauses numbered in the statement's order). -/

set_option Elab.async false
set_option exponentiation.threshold 400

open Sys2Proof Sys2Proof.Machine

namespace Sys2Proof.Machine
/-- Fields set: a field, its value, a unit and an index. -/
def Dev.put (d : Dev) (l : List (Fld × Nat × Nat × Nat)) : Dev :=
  l.foldl (fun d x => d.sf x.1 x.2.1 x.2.2.1 x.2.2.2) d
end Sys2Proof.Machine

open Sys2Proof.Machine

namespace Sys2Proof.Tests

/-- A device whose start is complete, with cluster 0, the first X-die, the S-die, P0 and the M-die powered. -/
def ready : Dev :=
  { power := { mated := true, closed := true, aux := true, stageOne := true, pgoodIn := true, pgoodOut := .released, railsUp := true }
    boot := { step := .ready }
    regs := [
      (⟨.HBM_STAT, 0, 0, 0⟩, 1),
      (⟨.HBM_STAT, 1, 0, 0⟩, 1),
      (⟨.HBM_STAT, 2, 0, 0⟩, 1),
      (⟨.HBM_STAT, 3, 0, 0⟩, 1),
      (⟨.XFB_COORD, 0, 0, 0⟩, 9223372036854775808),
      (⟨.SYN_TIME_STAT, 0, 0, 0⟩, 17293822569102704640),
      (⟨.BOOT_STAT, 0, 0, 0⟩, 144115188075855872),
      (⟨.CLK_ISLAND_n_STAT, 0, 0, 0⟩, 9304436830147444736),
      (⟨.CLK_ISLAND_n_STAT, 0, 32, 0⟩, 9304436830147444736),
      (⟨.CLK_ISLAND_n_STAT, 0, 36, 0⟩, 9304436830147444736),
      (⟨.CLK_ISLAND_n_STAT, 0, 37, 0⟩, 9304436830147444736),
      (⟨.CLK_ISLAND_n_STAT, 0, 43, 0⟩, 9304436830147444736)
    ] }

/-- A control flit with an FSEQ, an ACK and FLAGS (R452). -/
def ctl (fseq ack flags : Nat) : Control :=
  { fseq := fseq, ack := ack, nak := bitOf flags 0, idle := bitOf flags 1, retrain := bitOf flags 2, reset := bitOf flags 3
    train := 0, xnum := 0, mask := 0, width := 0, level := 0 }

/-- A frame of a link (R451 to R453): a payload of sevens, its FSEQ, its ACK and its FLAGS. -/
def frame (fseq ack flags : Nat) : List Byte := frameBytes (List.replicate 1024 7) (ctl fseq ack flags)

/-- A message of the sideband (R472). -/
def side (x : Nat) : List Byte := leBytes 14 x ++ leBytes 2 (crc16 (leBytes 14 x))

end Sys2Proof.Tests

namespace Sys2Proof.Tests

/-- The lanes of a group whose flits hold zeros (R344, R345): for each lane the last symbols of its codeword, the others zero. -/
def lanes (l : List (List Nat)) : OptRx := ⟨(List.range 16).map fun i => let t := l.getD i []; List.replicate (272 - t.length) 0 ++ t⟩

/-- The lanes 0 to 3 of a group without a header and without flits. -/
def noHeader : List (List Nat) := [[618, 857, 166, 181, 431, 437, 976, 816, 854, 3, 172, 293, 175, 490, 707, 128],
  [819, 29, 476, 782, 694, 1004, 996, 183, 806, 605, 9, 786, 596, 612, 468, 113],
  [691, 409, 501, 674, 510, 15, 109, 70, 840, 575, 364, 565, 851, 543, 407, 850],
  [509, 924, 637, 123, 352, 130, 512, 474, 227, 585, 976, 693, 409, 654, 255, 632]]

/-- Lane 13 with GSEQ 7. -/
def gseq7 : List Nat := [448, 573, 473, 537, 980, 688, 713, 293, 900, 906, 247, 170, 893, 619, 416, 592]

/-- The group of GSEQ 7. -/
def rx7 : OptRx := lanes (noHeader ++ List.replicate 9 [] ++ [gseq7])

/-- The group of GSEQ 7 with the far end's swap request for lane 5. -/
def rxSwap : OptRx := lanes (noHeader ++ [[], [320, 326, 569, 378, 748, 22, 73, 653, 89, 83, 979, 944, 896, 578, 614, 182], [], [],
  [512, 503, 923, 407, 233, 650, 530, 699, 879, 895, 139, 115, 1012, 164, 771, 906], [], [], [], [], gseq7])

/-- The group of GSEQ 7 with more than seven symbols of lane 0 in error. -/
def rxBad : OptRx := lanes ([[1, 2, 3, 4, 5, 6, 7, 8, 9, 10, 11, 12, 13, 14, 15, 17]] ++ noHeader.drop 1 ++ List.replicate 9 [] ++ [gseq7])

/-- What a group spells. -/
def spelled (r : OptRx) : OptGroup := OptGroup.ofLanes (r.words.map fun w => (laneDecode w).1)

end Sys2Proof.Tests

namespace Sys2Proof.Tests

/-- A key pair. -/
def key (n : Nat) : KeyPair := { rsaN := n, slhPk := n }

/-- A signature block of a KIND that verifies against a pair (R549). -/
def signed (kind : Nat) (k : KeyPair) : SigBlock := { kind := kind, keyId := k.id }

/-- A certificate that one pair gives another (R548). -/
def cert (role : Nat) (k by_ : KeyPair) : Cert := { role := role, pair := k, issuer := by_.id, sig := signed 3 by_ }

/-- The security records of a module without an owner: the certificates of roles 0 to 5, the pair of role r being key r, and
the identity certificate. -/
def records : SecRecords :=
  { certs := (List.range 6).map fun r => cert r (key r) (key 0)
    identity := some { cert 6 (idSecret []).pair (key 2) with serial := Config.moduleSerial.toNat } }

/-- Those records with an owner, key 7. -/
def owned : SecRecords := { records with owners := [some (cert 7 (key 7) (key 3)), none, none] }

/-- An image that role 1 signs. -/
def image : FwImage := { version := 5, svn := 3, hoFormat := 2, hoMin := 1, hoMax := 3, sig := signed 1 (key 1) }

/-- A firmware floor record that role 1 signs. -/
def floorRec : FloorRec := { kind := 1, floor := 3, sig := signed 5 (key 1) }

/-- An Almanac with one entry. -/
def almanac (k : KeyPair) : Almanac :=
  { sequence := 9, sigOffset := 80, entries := [(RegKey.offset ⟨.BOOT_WATCHDOG, 0, 0, 0⟩, 0)], sig := signed 2 k }

end Sys2Proof.Tests

namespace Sys2Proof.Machine

/-- A device with security records under the root pair key 0. -/
def Dev.trust (d : Dev) (r : SecRecords) : Dev := { d with rootKeyId := (Tests.key 0).id, eph := { d.eph with records := r } }

end Sys2Proof.Machine

namespace Sys2Proof.Tests

/-- An instruction word: CLASS, OP, and fields by their lowest bit. -/
def word (cls op : Nat) (fs : List (Nat × Nat)) : Nat := fs.foldl (fun w f => w + f.2 <<< f.1) (cls <<< 124 + op <<< 118)

end Sys2Proof.Tests

namespace Sys2Proof.Machine

/-- A word at PC 5 of core 0, and its thread 2 RUNNING there. -/
def Dev.at5 (d : Dev) (w : Nat) : Dev :=
  ({ d.setThread 0 2 { st := .running } with
    imem := (List.range 16).filterMap fun k => if w >>> (8 * k) % 256 = 0 then none else some (80 + k, BitVec.ofNat 8 (w >>> (8 * k))) } : Dev).put
      [(F.CORE_THREAD_n_PC.PC, 5, 0, 2)]

/-- Every queue of core 0 held by a WAIT at its head. -/
def Dev.block (d : Dev) : Dev :=
  (d.sf F.CORE_DISPATCH_SEQ.SEQ 1).modCore 0 fun k => { k with queues := (List.range 8).map fun q =>
    (q, [({ seq := 0, thread := 0, pc := 0, op := .wait { cntr := 9, target := 9 }, started := true } : Entry)]) }

/-- A torus of 8 by 8 by 8 devices, with route tables for it. -/
def Dev.in888 (d : Dev) : Dev :=
  [0, 2, 4].foldl (fun d j => d.setReg ⟨.XFB_ROUTE_b_d_h, 0, 0, j⟩ 0xFFFFFFFFFFFFA954)
    (d.setReg ⟨.XFB_DIMS, 0, 0, 0⟩ 0x80000000000071C7)

end Sys2Proof.Machine

namespace Sys2Proof.Tests

/-- An attention descriptor: one head and one position over four tokens and one appended. -/
def attnDesc : List Byte :=
  leBytes 8 0x100000 ++ leBytes 6 0 ++ [1, 1] ++ leBytes 4 4 ++ leBytes 4 4 ++ leBytes 4 0 ++ leBytes 2 1 ++ leBytes 2 0
    ++ leBytes 4 0x3f800000 ++ leBytes 4 0x3f800000 ++ leBytes 4 0x3000 ++ leBytes 2 128 ++ [0, 0] ++ leBytes 4 0x10000
    ++ leBytes 4 0x18000 ++ leBytes 2 128 ++ leBytes 2 256 ++ leBytes 4 0x8000 ++ [0, 1, 0, 0] ++ leBytes 4 0
    ++ leBytes 4 0x20000 ++ leBytes 4 0 ++ List.replicate 48 0

/-- A DMA descriptor. -/
def dmaDesc (src dst rowBytes rows stride sp : Nat) (next : Nat := 0) : List Byte :=
  leBytes 8 src ++ leBytes 8 dst ++ leBytes 4 rowBytes ++ leBytes 4 rows ++ leBytes 4 stride ++ leBytes 4 stride ++ leBytes 6 0
    ++ leBytes 2 sp ++ leBytes 4 0 ++ leBytes 4 next ++ List.replicate 16 0

/-- A started entry of a queue. -/
def entry (op : QOp) : Entry := { seq := 3, thread := 2, pc := 5, op := op, started := true }

end Sys2Proof.Tests

namespace Sys2Proof.Tests

/-- A request of device 5 for this device. -/
def pkt (type addr len : Nat) (payload : List Byte := []) : Packet :=
  { dst := 0, src := 5, partition := 1, type := type, length := len, addr := addr, key := 7, talign := true, timeoutUs := 100, msg := 3, total := 9
    core := 1, epoch := 2, dseq := 4, payload := payload }

/-- A reply of device 5 to message 3. -/
def rep (type : Nat) (payload : List Byte := []) : Packet :=
  { dst := 0, src := 5, type := type, length := payload.length, talign := true, msg := 3, dseq := 4, payload := payload }

/-- A request of this device to device 5. -/
def req (kind : ReqKind) (type : Nat) (q : Nat := 6) : Req :=
  { kind := kind, core := 0, thread := 2, seq := 3, saddr := 0x1000, queue := q
    pkt := { dst := 5, src := 0, type := type, length := 64, addr := 5 * 2 ^ 46 + 0x2000, msg := 3, total := 3, dseq := 4 } }

end Sys2Proof.Tests

namespace Sys2Proof.Machine

/-- One region over the whole local map, with key 7 and every right. -/
def Dev.region (d : Dev) : Dev :=
  (d.put [(F.GAS_REGION_n_ATTR.VALID, 1, 0, 0), (F.GAS_REGION_n_ATTR.READ, 1, 0, 0), (F.GAS_REGION_n_ATTR.WRITE, 1, 0, 0),
    (F.GAS_REGION_n_ATTR.ATOMIC, 1, 0, 0), (F.GAS_REGION_n_ATTR.KEY, 7, 0, 0), (F.GAS_REGION_n_LIMIT.LIMIT, 2 ^ 30 - 1, 0, 0)]).in888

end Sys2Proof.Machine

namespace Sys2Proof.Tests

/-- Slot 0: the box of devices 0 and 1, group 5 of epoch 2, its keeper device 0. -/
def boxed : Dev :=
  ready.in888.put [(F.COL_GROUP_n_BOX.EXT_M1, 1, 0, 0), (F.COL_GROUP_n_CFG.VALID, 1, 0, 0), (F.COL_GROUP_n_CFG.GROUP_ID, 5, 0, 0),
    (F.COL_GROUP_n_CFG.EPOCH, 2, 0, 0)]

/-- Slot 0: the list of devices 3, 0 and 9, its keeper device 3. -/
def listed : Dev :=
  { ready.in888.put [(F.COL_GROUP_n_CFG.SHAPE, 1, 0, 0), (F.COL_GROUP_n_CFG.VALID, 1, 0, 0), (F.COL_GROUP_n_CFG.GROUP_ID, 5, 0, 0),
      (F.COL_GROUP_n_CFG.EPOCH, 2, 0, 0), (F.COL_GROUP_n_RXBUF.ADDR, 0x8000, 0, 0), (F.COL_GROUP_n_RXBUF.RX_PAGES, 1, 0, 0)] with
    colls := [(0, { members := [3, 0, 9] })] }

/-- A collective descriptor (R384). -/
def cdesc (op count root status src dst : Nat) (dtype : Nat := 4) (flags : Nat := 0) : List Byte :=
  leBytes 8 src ++ leBytes 8 dst ++ leBytes 8 count ++ leBytes 1 op ++ leBytes 1 dtype ++ [0, 0] ++ leBytes 4 flags
    ++ leBytes 4 root ++ leBytes 4 status ++ List.replicate 24 0

/-- An instance in a slot's queue. -/
def cinst : CollInst := { core := 0, seq := 3, thread := 2, pc := 5, addr := 0x1000, ndet := false }

/-- A running instance, number 0. -/
def crun (b : List Byte) (a : CollAlgo) (p : CollPhase) : CollRun :=
  { inst := cinst, num := 0, desc := collDescOf b, algo := a, phase := p }

/-- A COLL packet of a device for this one. -/
def cpkt (d : Dev) (src kind stage vc : Nat) (b : List Byte) (payload : List Byte) : Packet :=
  { d.collPacket 0 0 (collDescOf b) kind stage vc 0 payload with src := src, origin := src, dst := 0 }

/-- The payload of an agreement packet. -/
def cagree (d : Dev) (b : List Byte) (count : Nat := 1) : List Byte :=
  Dev.agreePayload (collDescOf b) { stage := 0, rank := 0, sig := some (d.sigOf 0 0 (collDescOf b)), count := count }

end Sys2Proof.Tests

namespace Sys2Proof.Machine

/-- A descriptor at the head of slot 0's queue. -/
def Dev.coll (d : Dev) (b : List Byte) : Dev :=
  { (d.setQueue 0 7 [Tests.entry (.coll 0 0x1000 false)]).wrStore 0 0x1000 b with collq := [(0, [Tests.cinst])] }

/-- An instance that runs in slot 0. -/
def Dev.runs0 (d : Dev) (r : CollRun) : Dev := (d.coll []).setRunOf 0 (some r)

end Sys2Proof.Machine

namespace Sys2Proof.Tests

/-- The Perdun link up, with both host ports in service and credits on both sides. -/
def link : Dev :=
  let d := (ready.region.put [(F.HLK_STAT.STATE, 3, 0, 0), (F.HLK_CTRL.DIR_EN, 1, 0, 0), (F.HLK_STAT.PORTS_UP, 3, 0, 0)]).modHlk fun h =>
    { h with credits := [2048, 512, 4096, 64] }
  (d.modPort 0 8 fun x => { x with step := .up }).modPort 0 9 fun x => { x with step := .up }

/-- A message of the companion. -/
def msg (cls op : Nat) (addr length : Nat := 0) (payload : List Byte := []) (lseq : Nat := 0) : HlkMsg :=
  { cls := cls, op := op, length := length, tag := 5, addr := addr, key := 7, lseq := lseq, payload := payload }

end Sys2Proof.Tests

namespace Sys2Proof.Tests

/-- The bytes of a list from an address on, as a memory lists them. -/
def bytesAt (a : Nat) (l : List Byte) : NMap Byte := (l.zipIdx.filter fun x => decide (x.1 ≠ 0)).map fun x => (a + x.2, x.1)

/-- The device that a command leaves behind. -/
def after (o : Host.Outcome State Fault Refusal) : Dev :=
  match o with
  | .next t => t.dev
  | _ => {}

/-- A device and no waiting command. -/
def on (d : Dev) : State := { dev := d, pending := [] }

/-! ### Well-formedness: for each check a term that it refuses -/

def pk : Packet := { dst := 0, src := 0, type := 0 }
def ms : HlkMsg := { cls := 0, op := 0 }
def me : MemErr := { unit := 2 ^ 40 }
def rx : OptRx := ⟨List.replicate 16 (List.replicate 272 0)⟩
def sg : SigBlock := { kind := 0, keyId := 0 }
def ct : Cert := { role := 0, pair := { rsaN := 0, slhPk := 0 }, issuer := 0, sig := sg }
def fl : FloorRec := { kind := 0, floor := 0, sig := sg }
def fw : FwImage := { version := 0, svn := 0, hoFormat := 0, hoMin := 0, hoMax := 0, sig := sg }
def al : Almanac := { sequence := 0, sigOffset := 0, entries := [], sig := sg }
def pc18 : PortCal := { chans := List.replicate 18 { bias := 0, power := 0, target := 0 } }

theorem test_wf_packet :
    pk.wf = true ∧ ∀ x ∈ ([{ pk with dst := 2 ^ 18 }, { pk with src := 2 ^ 18 }, { pk with partition := 2 ^ 12 },
    { pk with vc := 2 ^ 3 }, { pk with type := 2 ^ 5 }, { pk with route := 2 ^ 2 }, { pk with transit := 2 ^ 16 },
    { pk with hops := 2 ^ 9 }, { pk with origVc := 2 ^ 3 }, { pk with wrap := 2 ^ 3 }, { pk with attempt := 2 ^ 2 },
    { pk with timeoutUs := 2 ^ 14 }, { pk with addr := 2 ^ 64 }, { pk with key := 2 ^ 16 },
    { pk with offset := 2 ^ 48 }, { pk with msg := 2 ^ 16 }, { pk with total := 2 ^ 64 },
    { pk with dseq := 2 ^ 64 }, { pk with issueTime := 2 ^ 64 }, { pk with core := 2 ^ 7 },
    { pk with epoch := 2 ^ 32 }, { pk with aop := 2 ^ 3 }, { pk with code := 2 ^ 16 }, { pk with word2 := 2 ^ 64 },
    { pk with word7 := 2 ^ 64 }, { pk with hint := 2 ^ 2 }, { pk with useCount := 2 ^ 8 },
    { pk with origin := 2 ^ 18 }, { pk with length := 4097 },
    { pk with payload := [0] }] : List Packet), x.wf = false := by
  decide +kernel

theorem test_wf_message :
    ms.wf = true ∧ ∀ x ∈ ([{ ms with cls := 2 ^ 4 }, { ms with op := 2 ^ 6 }, { ms with tag := 2 ^ 12 },
    { ms with code := 2 ^ 16 }, { ms with addr := 2 ^ 64 }, { ms with key := 2 ^ 16 }, { ms with value := 2 ^ 48 },
    { ms with lseq := 2 ^ 32 }, { ms with lack := 2 ^ 32 }, { ms with length := 4097 },
    { ms with payload := [0] }] : List HlkMsg), x.wf = false := by
  decide +kernel

theorem test_wf_group :
    rx.wf = true ∧ ∀ x ∈ ([⟨[]⟩, ⟨List.replicate 15 (List.replicate 272 0)⟩, ⟨List.replicate 16 (List.replicate 271 0)⟩, ⟨List.replicate 17 (List.replicate 272 1024)⟩] : List OptRx), x.wf = false := by
  decide +kernel

theorem test_wf_signature :
    sg.wf = true ∧ ∀ x ∈ ([{ sg with magic := 2 ^ 32 }, { sg with format := 2 ^ 16 }, { sg with kind := 2 ^ 16 },
    { sg with keyId := 2 ^ 384 }, { sg with rsaSig := 2 ^ 3072 }, { sg with tail := 2 ^ 320 },
    { sg with slhSig := List.replicate 16225 0 }] : List SigBlock), x.wf = false := by
  decide +kernel

theorem test_wf_certificate :
    ct.wf = true ∧ ∀ x ∈ ([{ ct with magic := 2 ^ 32 }, { ct with role := 2 ^ 8 }, { ct with rest := 2 ^ 24 },
    { ct with issuer := 2 ^ 384 }, { ct with serial := 2 ^ 128 }, { ct with seq := 2 ^ 32 },
    { ct with pair := { rsaN := 2 ^ 3072, slhPk := 0 } },
    { ct with pair := { rsaN := 0, rsaE := 2 ^ 32, slhPk := 0 } },
    { ct with pair := { rsaN := 0, slhPk := 2 ^ 384 } },
    { ct with sig := { sg with kind := 2 ^ 16 } }] : List Cert), x.wf = false := by
  decide +kernel

theorem test_wf_floor :
    fl.wf = true ∧ ∀ x ∈ ([{ fl with magic := 2 ^ 32 }, { fl with kind := 2 ^ 8 }, { fl with rest := 2 ^ 24 },
    { fl with serial := 2 ^ 128 }, { fl with floor := 2 ^ 64 }, { fl with tail := 2 ^ 256 },
    { fl with sig := { sg with kind := 2 ^ 16 } }] : List FloorRec), x.wf = false := by
  decide +kernel

theorem test_wf_records :
    ({} : SecRecords).wf = true ∧ ∀ x ∈ ([{ certs := List.replicate 8 ct },
    { certs := [{ ct with role := 2 ^ 8 }] }, { identity := some { ct with role := 2 ^ 8 } },
    { helper := List.replicate 32769 0 }, { owners := [] },
    { owners := [none, none, some { ct with role := 2 ^ 8 }] }, { log0 := List.replicate 18 fl },
    { log1 := List.replicate 18 fl }, { log0 := [{ fl with kind := 2 ^ 8 }] },
    { log1 := [{ fl with kind := 2 ^ 8 }] }] : List SecRecords), x.wf = false := by
  decide +kernel

theorem test_wf_image :
    fw.wf = true ∧ ∀ x ∈ ([{ fw with magic := 2 ^ 32 }, { fw with format := 2 ^ 16 }, { fw with version := 2 ^ 32 },
    { fw with svn := 2 ^ 32 }, { fw with hoFormat := 2 ^ 16 }, { fw with hoMin := 2 ^ 16 },
    { fw with hoMax := 2 ^ 16 }, { fw with floorOffset := 2 ^ 32 }, { fw with rest := 2 ^ 800 },
    { fw with floor := some { fl with kind := 2 ^ 8 } },
    { fw with sig := { sg with kind := 2 ^ 16 } }] : List FwImage), x.wf = false := by
  decide +kernel

theorem test_wf_almanac :
    al.wf = true ∧ ∀ x ∈ ([{ al with magic := 2 ^ 32 }, { al with format := 2 ^ 16 }, { al with flags := 2 ^ 16 },
    { al with sequence := 2 ^ 64 }, { al with sigOffset := 2 ^ 32 }, { al with rest := 2 ^ 320 },
    { al with entries := [(2 ^ 40, 0)] },
    { al with sig := { sg with kind := 2 ^ 16 } }] : List Almanac), x.wf = false := by
  decide +kernel

theorem test_wf_flash :
    ({} : FlashRead).wf = true ∧ ∀ x ∈ ([{ imageA := some { fw with svn := 2 ^ 32 } },
    { imageB := some { fw with svn := 2 ^ 32 } }, { almanacA := some { al with format := 2 ^ 16 } },
    { almanacB := some { al with format := 2 ^ 16 } },
    { records := some { owners := [] } }] : List FlashRead), x.wf = false := by
  decide +kernel

theorem test_wf_access :
    (EyeAccess.readReg 0).wf = true ∧ ∀ x ∈ ([.readReg (2 ^ 40), .writeReg (2 ^ 40) 0, .readMem (2 ^ 64) 0,
    .readMem 0 (2 ^ 16), .writeMem (2 ^ 64) 0 0, .writeMem 0 (2 ^ 16) 0] : List EyeAccess), x.wf = false := by
  decide +kernel

theorem test_wf_readings :
    ({ unit := 0 } : MemErr).wf = true ∧ ∀ x ∈ ([me] : List MemErr), x.wf = false := by
  decide +kernel

theorem test_wf_command_1 :
    ∀ c ∈ ([.eyepiece (.readReg 0) [me], .hbmRead 0 0 0 0 [me], .hbmWrite 0 [] 0 0 [me], .mscOpDone 0 false [me],
    .mapoutFrameDone [] [me] [], .read { pk with vc := 8 } [], .read pk [me], .readData { pk with vc := 8 },
    .write { pk with vc := 8 } [], .write pk [me], .writeAck { pk with vc := 8 }, .atomic { pk with vc := 8 } [],
    .atomic pk [me], .atomicReply { pk with vc := 8 }, .release { pk with vc := 8 },
    .releaseAck { pk with vc := 8 }, .busy { pk with vc := 8 }, .refusal { pk with vc := 8 },
    .dmaRead { pk with vc := 8 } [], .dmaRead pk [me], .dmaData { pk with vc := 8 },
    .dmaWrite { pk with vc := 8 } [], .dmaWrite pk [me], .dmaAck { pk with vc := 8 }, .counter { pk with vc := 8 },
    .query { pk with vc := 8 }, .queryAnswer { pk with vc := 8 }, .pacedInjection { pk with vc := 8 },
    .packetRoute none { pk with vc := 8 } (List.replicate 6 0) false,
    .adaptiveEscape { pk with vc := 8 }] : List Instr), c.wf = false := by
  decide +kernel

theorem test_wf_command_2 :
    ∀ c ∈ ([.faceHoldExpiry { pk with vc := 8 }, .vc0Stuck { pk with vc := 8 }, .discover 0 { pk with vc := 8 },
    .transitSetup 0 { pk with vc := 8 } false, .transitReply { pk with vc := 8 },
    .transitTear 0 { pk with vc := 8 }, .transitBroken { pk with vc := 8 }, .colGroupValidWrite 0 0 [me],
    .collInstanceStart 0 .ok [me] .ok [], .collAgreement { pk with vc := 8 } [] [], .collAgreement pk [] [me],
    .collData { pk with vc := 8 } [] [], .collData pk [] [me], .collAbortMarker { pk with vc := 8 },
    .collWaitingMarker { pk with vc := 8 }, .collMulticastAck { pk with vc := 8 },
    .barrierArrival { pk with vc := 8 }, .barrierRelease { pk with vc := 8 }, .timeRequest { pk with vc := 8 } 0 0,
    .timeReply { pk with vc := 8 } 0, .hello { ms with op := 64 }, .credit { ms with op := 64 },
    .eoi { ms with op := 64 }, .counterAck { ms with op := 64 }, .doorbell { ms with op := 64 },
    .rdShared { ms with op := 64 } [], .rdShared ms [me], .rdOwn { ms with op := 64 } [], .rdOwn ms [me],
    .rdUncached { ms with op := 64 } []] : List Instr), c.wf = false := by
  decide +kernel

theorem test_wf_command_3 :
    ∀ c ∈ ([.rdUncached ms [me], .wrUncached { ms with op := 64 } [], .wrUncached ms [me],
    .wrback { ms with op := 64 } [], .wrback ms [me], .evictClean { ms with op := 64 } [], .evictClean ms [me],
    .snpShare { ms with op := 64 }, .snpInv { ms with op := 64 }, .dataS { ms with op := 64 } [], .dataS ms [me],
    .dataE { ms with op := 64 } [], .dataE ms [me], .wrAck { ms with op := 64 } [], .wrAck ms [me],
    .snpAck { ms with op := 64 } [], .snpAck ms [me], .refused { ms with op := 64 } [], .refused ms [me],
    .snoopTimeout 0 [me], .hostPortLoss false [me], .hlkLinkDown [me], .quiesceDone [me],
    .dieResetDone 0 [] [] [me], .pwrStateChanged [me], .hbmRingCopy [me], .occultationNotice { pk with vc := 8 },
    .restorationNotice { pk with vc := 8 }, .deviceLostNotice { pk with vc := 8 },
    .accusationSummary { pk with vc := 8 }] : List Instr), c.wf = false := by
  decide +kernel

theorem test_wf_command_4 :
    ∀ c ∈ ([.lockstepMarkNotice { pk with vc := 8 }, .firmwareMessage { pk with vc := 8 }, .plateDone [me],
    .railRegulationChange (2 ^ 8) true, .jtagSamplePreload [true] [], .eyepiece (.readReg (2 ^ 40)) [],
    .registerWrite 0 (2 ^ 40) 0, .streamFifoAppend 0 false 0 (2 ^ 16 + 1) .ok, .attnMapEntryRead 0 (2 ^ 32) .ok,
    .hbmRead (2 ^ 46) 1 0 0 [], .hbmRead 0 0 4 0 [], .hbmRead 0 0 0 256 [], .hbmWrite (2 ^ 46) [0] 0 0 [],
    .hbmWrite 0 [] 4 0 [], .hbmWrite 0 [] 0 256 [], .patrolScrub 0 (2 ^ 40) .ok false [], .stackTempRead 0 [],
    .gasRequestTimeout (2 ^ 16), .dmaPacketTimeout (2 ^ 16) 0, .gatomBusyResend (2 ^ 16), .releaseResend (2 ^ 16),
    .rateAlphaDecay (2 ^ 18), .rateIncrease (2 ^ 18), .packetRoute none pk [] false, .routeBankWrite (2 ^ 40) 0,
    .portCalibrateDone 0 0 (some { pc18 with chans := [] }),
    .portCalibrateDone 0 0 (some { pc18 with badLasers := [18] }),
    .portCalibrateDone 0 0 (some { pc18 with badReceivers := [18] }), .portExchange 0 0 0 0 [] [],
    .portExchange 0 0 0 0 (List.replicate 16 18) []] : List Instr), c.wf = false := by
  decide +kernel

theorem test_wf_command_5 :
    ∀ c ∈ ([.portExchange 0 0 0 0 (List.replicate 16 0) [18],
    .groupReceive 0 0 ⟨[]⟩, .monitorRefresh 0 [{ port := 10, muxOut := 0, edgeOut := 0, demuxIn := 0, chans := List.replicate 18 (0, 0, 0) }],
    .monitorRefresh 0 [{ port := 0, muxOut := 0, edgeOut := 0, demuxIn := 0, chans := [] }],
    .heliostatAdjust 0 0 0 (2 ^ 16) 0 0, .timeExchange (2 ^ 64), .timeRequest pk (2 ^ 64) 0,
    .timeRequest pk 0 (2 ^ 64), .timeReply pk (2 ^ 64), .snoopTimeout (2 ^ 40) [],
    .firmwareStepDone { records := some { owners := [] } }, .identityDone true { owners := [] },
    .firstLightDone 0 [(2048, 0)] false 0, .dieResetDone 0 [(2048, 0)] [] [],
    .fwTrial (some { fw with svn := 2 ^ 32 }), .fwHandover (some { fw with svn := 2 ^ 32 }),
    .mcoreStep 0 (some (2 ^ 64)), .mcoreTraceRead 0 [2 ^ 64], .capWindow (2 ^ 16) false, .logReport (2 ^ 16) 0 0 0,
    .logReport 0 (2 ^ 32) 0 0, .logReport 0 0 (2 ^ 64) 0, .logReport 0 0 0 (2 ^ 64), .coalesceClose (2 ^ 32) 0,
    .coalesceClose 0 (2 ^ 16), .occultation .device (2 ^ 64) false, .remoteSignalTimeout (2 ^ 16),
    .collPacketTimeout (2 ^ 16) 0, .rcRegisterRead (2 ^ 40)] : List Instr), c.wf = false := by
  decide +kernel

end Sys2Proof.Tests


namespace Sys2Proof.Tests

/-! ### Worked examples of the specification -/

/-- Chapter 00: the device at (5, 2, 1) has the index 4229, and local offset 0x10_0000 there the address
0x0421_4000_0010_0000. -/
theorem test_device_index :
    (coordOf 4229 0, coordOf 4229 1, coordOf 4229 2) = (5, 2, 1) ∧ 4229 * 2 ^ 46 + 0x100000 = 0x0421400000100000 ∧
    localOf 0x0421400000100000 = 0x100000 := by
  decide +kernel

/-- Chapter 02: ENG_STAT of engine C3.2.1.0. -/
theorem test_register_offset :
    (⟨.ENG_STAT, 2 * (16 * 3 + 4 * 2 + 1), 0, 0⟩ : RegKey).offset + 0x3F0000000000 = 0x3F1322800000 := by
  decide +kernel

/-- Chapter 03, worked example: the first pass's STREAM. -/
theorem test_stream_word :
    let i : Ins := ⟨.stream, 0x10100504707000000000000000000000⟩
    decodeIns 0x10100504707000000000000000000000 = some i ∧ i.ndet = false ∧ i.sig = true ∧ i.cnt = 5 ∧ i.idx = 0 ∧
    i.eng = 0 ∧ i.pair = true ∧ i.acc = false ∧ i.src = false ∧ i.fmt = 7 ∧ i.rows = 0x700 ∧ i.accBase = 0 ∧ i.addr = 0 ∧
    ((decodeIns 0x10100506707000000000000000000000).map Ins.acc) = some true := by
  decide +kernel

/-- R110: a reserved CLASS has no instruction. -/
theorem test_reserved_class : decodeIns (0xF <<< 124) = none := by
  decide +kernel

/-- R141: 8,912,896 bytes are covered by 512 chunks of 17,408 bytes. -/
theorem test_dma_chunk : chunkBytes 8912896 = 17408 ∧ 8912896 = 512 * 17408 := by
  decide +kernel

/-- Chapter 05: two MXFP4 weights with the scale byte 0x7A meet two E4M3 activations: the sum is 0.140625. -/
theorem test_mxfp4_cell :
    cellStep 0 [(scaleMx 0x7A (Fmt.e2m1.decode 7), Fmt.e4m3.decode 0x3C),
      (scaleMx 0x7A (Fmt.e2m1.decode 0xB), Fmt.e4m3.decode 0x44)] = (0x3E100000, false) := by
  decide +kernel

/-- Chapter 05: conversion to E4M3 of 460, 464, 470 and 2^-10. -/
theorem test_convert_e4m3 :
    Fmt.e4m3.convert (.num false 460 0) = (0x7E, false) ∧ Fmt.e4m3.convert (.num false 464 0) = (0x7E, false) ∧
    Fmt.e4m3.convert (.num false 470 0) = (0x7E, true) ∧ Fmt.e4m3.convert (.num false 1 (-10)) = (0, false) := by
  decide +kernel

/-- R185: 1 + 2^-25 is rounded up for r = 12,048 and down for r = 0x9000; the bound is 16,384. -/
theorem test_stochastic_rounding :
    roundSr 12048 (.num false (2 ^ 25 + 1) (-25)) = 0x3F800001 ∧ roundSr 16383 (.num false (2 ^ 25 + 1) (-25)) = 0x3F800001 ∧
    roundSr 16384 (.num false (2 ^ 25 + 1) (-25)) = 0x3F800000 ∧ roundSr 0x9000 (.num false (2 ^ 25 + 1) (-25)) = 0x3F800000 := by
  decide +kernel

/-- Chapter 05, the compensated update: 1 + 2^-24 ties to 1, and 1 + 5 × 2^-26 rounds up to 1 + 2^-23. -/
theorem test_compensated_update :
    add32 0x3F800000 0x33800000 = (0x3F800000, false) ∧ add32 0x3F800000 0x33A00000 = (0x3F800001, false) := by
  decide +kernel

/-- R213, R214: local offset 0x0002_0004_1C40 lies in pseudo-channel 630, frame 10, and its home is X3. -/
theorem test_hbm_place : hbmPlace 0x000200041C40 = (630, 10) ∧ homeX 0x000200041C40 = 3 := by
  decide +kernel

/-- Chapter 06: with three pseudo-channels mapped out the valid offsets end at 0x008F_6FFF_FFFF. -/
theorem test_hbm_limit :
    ((ready.put [(F.HBM_CAPACITY.MAPPED_OUT, 3, 0, 0)]).hbmLimit) = 0x008F70000000 := by
  decide +kernel

/-- R330: R_C = 512 with α = (15/16)^6 falls to 338. -/
theorem test_rate_cut :
    (ready.rateCut { dst := 1, rc := 512, rt := 520, alphaN := 15 ^ 6, alphaE := 24, k := 6 }).rc = 338 ∧
    (ready.rateCut { dst := 1, rc := 512, rt := 520, alphaN := 15 ^ 6, alphaE := 24, k := 6 }).rt = 512 := by
  decide +kernel

/-- R300: from x = 5 to x = 60 in 64 the direction is - where the wrap link may be crossed, else +; z goes 2 up. -/
theorem test_direction_rule :
    directionRule 64 5 60 true = 2 ∧ directionRule 64 5 60 false = 1 ∧ directionRule 64 1 3 true = 1 ∧
    directionRule 64 2 2 true = 0 := by
  decide +kernel

/-- Chapter 08: the entry of coordinate 60 lies in XFB_ROUTE_0_0_1, bits 57 to 56. -/
theorem test_route_entry :
    ((({} : Dev).setTableEntry 0 0 60 2).reg ⟨.XFB_ROUTE_b_d_h, 0, 0, 1⟩).toNat / 2 ^ 56 % 4 = 2 ∧
    (({} : Dev).setTableEntry 0 0 60 2).tableEntry 0 0 60 = 2 := by
  decide +kernel

/-- Chapter 09, the fading laser: P_FIX_DELTA is -0.76 dB at the first reading and -1.47 dB at the second. -/
theorem test_fix_delta : Dev.pFixDelta 4000 6914 70 6000 4000 = some (-76) ∧ Dev.pFixDelta 4000 7852 62 6000 4000 = some (-147) := by
  decide +kernel

/-- The counter of chapter 11: core 0's counter 1 with its floor. -/
def counter (c f : Nat) : Dev := ready.put [(F.SYN_CNT_n.VALUE, c, 0, 1), (F.SYN_FLOOR_n.FLOOR, f, 0, 1)]

/-- Chapter 11: the WAIT with the target 0x10 waits at 0 and at 16 and holds at 32, and then the floor is its target. -/
theorem test_wait_wraps :
    ((counter 0xFFFFFFFFFFF0 0xFFFFFFFFFFF0).waitHolds 0 { cntr := 1, target := 0x10 }) = false ∧
    ((counter 0 0xFFFFFFFFFFF0).waitHolds 0 { cntr := 1, target := 0x10 }) = false ∧
    ((counter 0x10 0xFFFFFFFFFFF0).waitHolds 0 { cntr := 1, target := 0x10 }) = true ∧
    ((counter 0x10 0xFFFFFFFFFFF0).waitTake 0 { cntr := 1, target := 0x10 }).cntF 0 1 = 0x10 ∧
    ((counter 0x10 0x10).judge 0 1 (-8)) = .underflow := by
  decide +kernel

/-- Chapter 13: sources 513 and 576 at level 4 and 40 at level 9, pending, for management core 1. -/
def pending (l : List Nat) : Dev :=
  l.foldl Dev.raise ((ready.put [(F.INT_SRC_n_CFG.TARGET, 1, 0, 513), (F.INT_SRC_n_CFG.LEVEL, 4, 0, 513),
    (F.INT_SRC_n_CFG.TARGET, 1, 0, 576), (F.INT_SRC_n_CFG.LEVEL, 4, 0, 576), (F.INT_SRC_n_CFG.LEVEL, 9, 0, 40),
    (F.INT_TGT_t_THRESH.THRESHOLD, 2, 0, 1)]).putBytes .INT_MASK_SET_k (List.replicate 128 0))

/-- Chapter 13: what is deliverable in the rows of the example, and that 40 is on offer beside 576 while 513 runs. -/
theorem test_offers :
    (pending [513]).deliverable 1 513 = true ∧ ((pending [576]).setRunning 1 [(4, 513)]).deliverable 1 576 = false ∧
    ((pending [576, 40]).setRunning 1 [(4, 513)]).offer 1 = some 40 ∧
    ((pending [576]).setRunning 1 [(9, 40), (4, 513)]).deliverable 1 576 = false ∧
    (pending [576]).deliverable 1 576 = true := by
  decide +kernel

/-- Chapter 13: a CLAIM takes source 513 at level 4. -/
theorem test_claim : ((pending [513]).claim 1).1 = some (513, 4) := by
  decide +kernel

/-- Chapter 13: an EOI of 513 while 40 runs is dropped; one of 40 ends it. -/
theorem test_end_of_interrupt :
    (((pending []).setRunning 1 [(9, 40), (4, 513)]).endOfInt 1 513).runningAt 1 = [(9, 40), (4, 513)] ∧
    (((pending []).setRunning 1 [(9, 40), (4, 513)]).endOfInt 1 40).runningAt 1 = [(4, 513)] := by
  decide +kernel

/-- R587: from OP7 (divider 4.0) to OP3 (7.2): 4.2 after the first step and 7.0 after the fifteenth. -/
theorem test_ramp :
    (rampDiv (4, 1) (72, 10) 1).1 * 10 = (rampDiv (4, 1) (72, 10) 1).2 * 42 ∧
    (rampDiv (4, 1) (72, 10) 15).1 = (rampDiv (4, 1) (72, 10) 15).2 * 7 := by
  decide +kernel

/-- R346, R452, R472: the checks of the nine digits 1 to 9: the published check values of CRC-32, of CRC-64 (ECMA-182) and
of CRC-16 (XMODEM). -/
theorem test_crcs :
    crc32 ((List.range 9).map fun k => BitVec.ofNat 8 (0x31 + k)) = 0xCBF43926 ∧
    crc64 ((List.range 9).map fun k => BitVec.ofNat 8 (0x31 + k)) = 0x6C40DF5F0B497347 ∧
    crc16 ((List.range 9).map fun k => BitVec.ofNat 8 (0x31 + k)) = 0x31C3 := by
  decide +kernel

/-- The register file reads back what a field was set to, and the other fields of the register stay. -/
theorem test_field_kept :
    (((counter 5 3).sf F.SYN_CNT_n.VALUE 9 0 1).gf F.SYN_CNT_n.VALUE 0 1, ((counter 5 3).sf F.SYN_CNT_n.VALUE 9 0 1).cntF 0 1) =
      (9, 3) := by
  decide +kernel

/-- R110, R115: SIGNAL of 16 to the own core's counter 1, taken from instruction memory, adds 16. -/
theorem test_signal_step :
    (after (Sys2Proof.Machine.exec (.signal { core := 0, thread := 2 })
      (on ((counter 0x100 0x100).at5 (word 5 0 [(88, 1), (40, 16)]))))).cntC 0 1 = 0x110 := by
  decide +kernel

end Sys2Proof.Tests

namespace Sys2Proof.Tests

/-- A number in little-endian bytes has as many bytes as it is asked for. -/
theorem leBytes_length : ∀ (k n : Nat), (leBytes k n).length = k
  | 0, _ => rfl
  | k + 1, n => congrArg Nat.succ (leBytes_length k (n / 256))

/-- Reading the bytes of a number gives its low bytes. -/
theorem leNat_leBytes : ∀ (k n : Nat), leNat (leBytes k n) = n % 256 ^ k
  | 0, n => by simp [leBytes, leNat, Nat.mod_one]
  | k + 1, n => by
    have h := leNat_leBytes k (n / 256)
    have e : n % (256 * 256 ^ k) = n % 256 + 256 * (n / 256 % 256 ^ k) := Nat.mod_mul
    simp only [leBytes, leNat, h, BitVec.toNat_ofNat, Nat.pow_succ, Nat.mul_comm (256 ^ k) 256, e]

/-- Bytes after one another count as the digits of one number. -/
theorem leNat_append : ∀ (a b : List Byte), leNat (a ++ b) = leNat a + 256 ^ a.length * leNat b
  | [], b => by simp [leNat]
  | x :: a, b => by simp [leNat, leNat_append a b, Nat.pow_succ]; ring

/-! ### The chain of trust of `records` and `owned` -/

theorem root_ok (l : List Cert) (f : Nat) : certOk (key 0).id l (f + 1) (cert 0 (key 0) (key 0)) = true := by
  simp [certOk, cert, signed, Cert.wellFormed, SigBlock.wellFormed, key]

theorem issued_ok (l : List Cert) (f : Nat) (c i : Cert) (h0 : c.role ≠ 0) (m : i ∈ l)
    (h : (c.wellFormed && c.sig.wellFormed && decide (c.sig.kind = 3) && c.sig.rsaOk && c.sig.slhOk) = true)
    (hk : c.sig.keyId = c.issuer) (hr : certifier c.role = some i.role) (hi : i.pair.id = c.issuer)
    (ok : certOk (key 0).id l f i = true) : certOk (key 0).id l (f + 1) c = true := by
  simp only [certOk, h, hk, decide_true, Bool.true_and, if_neg h0]
  exact List.any_eq_true.2 ⟨i, m, by simp [hr, hi, ok]⟩

theorem role_ok (l : List Cert) (f r : Nat) (h : r < 6) (m : cert 0 (key 0) (key 0) ∈ l) :
    certOk (key 0).id l (f + 2) (cert r (key r) (key 0)) = true := by
  rcases Nat.eq_zero_or_pos r with rfl | hr
  · exact root_ok l (f + 1)
  · refine issued_ok l (f + 1) _ _ (by show r ≠ 0; omega) m ?_ rfl ?_ rfl (root_ok l f)
    · have : r < 8 := by omega
      simp [cert, signed, Cert.wellFormed, SigBlock.wellFormed, key, this]
    · interval_cases r <;> rfl

theorem records_mem (r : Nat) (h : r < 6) : cert r (key r) (key 0) ∈ records.all :=
  List.mem_append_left _ (List.mem_append_left _ (List.mem_map.2 ⟨r, List.mem_range.2 h, rfl⟩))

theorem owned_mem (r : Nat) (h : r < 6) : cert r (key r) (key 0) ∈ owned.all :=
  List.mem_append_left _ (List.mem_append_left _ (List.mem_map.2 ⟨r, List.mem_range.2 h, rfl⟩))

/-- The certificate of key 7 that role 3 gives. -/
theorem owner_ok : certOk (key 0).id owned.all 3 (cert 7 (key 7) (key 3)) = true :=
  issued_ok _ 2 _ _ (by decide) (owned_mem 3 (by decide)) (by decide) rfl rfl rfl (role_ok _ 0 3 (by decide) (owned_mem 0 (by decide)))

/-- The identity certificate that role 2 gives. -/
theorem identity_ok : certOk (key 0).id records.all 3
    { cert 6 (idSecret []).pair (key 2) with serial := Config.moduleSerial.toNat } = true :=
  issued_ok _ 2 _ _ (by decide) (records_mem 2 (by decide))
    (by simp [cert, signed, Cert.wellFormed, SigBlock.wellFormed, IdSecret.pair]) rfl rfl rfl
    (role_ok _ 0 2 (by decide) (records_mem 0 (by decide)))

/-- A signed item whose signer has an accepted certificate of a role that may sign it is accepted. -/
theorem accepted (d : Dev) (kind : Nat) (may : Cert → Bool) (s : SigBlock) (c : Cert) (m : c ∈ d.eph.records.all)
    (hk : s.kind = kind) (hi : c.pair.id = s.keyId) (hm : may c = true)
    (hc : certOk d.rootKeyId d.eph.records.all 3 c = true)
    (hs : (s.wellFormed && s.rsaOk && s.slhOk) = true) : d.itemFault kind may s = none := by
  have h : d.eph.records.all.any (fun c => decide (c.pair.id = s.keyId) && may c && certOk d.rootKeyId d.eph.records.all 3 c) = true :=
    List.any_eq_true.2 ⟨c, m, by simp [hi, hm, hc]⟩
  simp [Dev.itemFault, hk, h, hs]

/-- Whatever the pair of a role below 6 signs is accepted where that role may sign it. -/
theorem signed_ok (d : Dev) (kind r : Nat) (may : Cert → Bool) (h : r < 6) (hr : d.rootKeyId = (key 0).id)
    (he : d.eph.records = records ∨ d.eph.records = owned) (hm : may (cert r (key r) (key 0)) = true) :
    d.itemFault kind may (signed kind (key r)) = none := by
  have m : ∀ k < 6, cert k (key k) (key 0) ∈ d.eph.records.all := fun k hk =>
    he.elim (fun e => e ▸ records_mem k hk) fun e => e ▸ owned_mem k hk
  exact accepted d kind may _ _ (m r h) rfl rfl hm (hr ▸ role_ok _ 1 r h (m 0 (by decide))) (by simp [signed, SigBlock.wellFormed])

theorem owned_signs (d : Dev) (kind : Nat) (may : Cert → Bool) (hr : d.rootKeyId = (key 0).id) (he : d.eph.records = owned)
    (hm : may (cert 7 (key 7) (key 3)) = true) : d.itemFault kind may (signed kind (key 7)) = none :=
  accepted d kind may _ (cert 7 (key 7) (key 3)) (he ▸ List.mem_append_right _ (by simp [owned])) rfl rfl hm
    (by rw [hr, he]; exact owner_ok) (by simp [signed, SigBlock.wellFormed])

theorem owner_of (d : Dev) (hr : d.rootKeyId = (key 0).id) (he : d.eph.records = owned) :
    d.ownerCert = some (cert 7 (key 7) (key 3)) := by
  have h : (owned.owners.filterMap fun c => c) = [cert 7 (key 7) (key 3)] := rfl
  have z : Dev.serialHere (cert 7 (key 7) (key 3)).serial = true := rfl
  have r : (cert 7 (key 7) (key 3)).role = 7 := rfl
  simp [Dev.ownerCert, hr, he, h, owner_ok, z, r]

/-- The image is good where its signer is known and the floor is not above it. -/
theorem image_ok (d : Dev) (hr : d.rootKeyId = (key 0).id) (he : d.eph.records = records) (x : FwImage)
    (hs : x.sig = signed 1 (key 1)) (h : (imageFits x && decide (d.fwFloor ≤ x.svn)) = true) : d.imageFault (some x) = none := by
  have s := signed_ok d 1 1 (fun c => decide (c.role = 1)) (by decide) hr (.inl he) (by decide)
  simp only [Bool.and_eq_true, decide_eq_true_eq] at h
  simp [Dev.imageFault, hs, s, h.1, Nat.not_lt.2 h.2]

/-- Security records, and token 0 of a state and a KIND in DBG_TOKEN_n under a key. -/
def tokened (r : SecRecords) (owner : Option Nat) (st kind : Nat) (k : KeyPair) : Dev :=
  { ready.trust r with
    sec := { ready.sec with verifying := true, owner := owner }
    regs := [(⟨.DBG_TOKEN_n, 0, 0, 0⟩, BitVec.ofNat 64 (0x4E4B5444 + st * 2 ^ 32)),
      (⟨.DBG_TOKEN_n, 0, 1, 0⟩, BitVec.ofNat 64 Config.moduleSerial.toNat),
      (⟨.DBG_TOKEN_n, 0, 2, 0⟩, BitVec.ofNat 64 (Config.moduleSerial.toNat / 2 ^ 64)),
      (⟨.DBG_TOKEN_n, 0, 16, 0⟩, BitVec.ofNat 64 (0x53474953 + 2 ^ 32 + kind * 2 ^ 48)),
      (⟨.DBG_TOKEN_n, 0, 17, 0⟩, BitVec.ofNat 64 k.id),
      (⟨.DBG_TOKEN_n, 0, 18, 0⟩, BitVec.ofNat 64 (k.id / 2 ^ 64)),
      (⟨.DBG_TOKEN_n, 0, 19, 0⟩, BitVec.ofNat 64 (k.id / 2 ^ 128)),
      (⟨.DBG_TOKEN_n, 0, 20, 0⟩, BitVec.ofNat 64 (k.id / 2 ^ 192)),
      (⟨.DBG_TOKEN_n, 0, 21, 0⟩, BitVec.ofNat 64 (k.id / 2 ^ 256)),
      (⟨.DBG_TOKEN_n, 0, 22, 0⟩, BitVec.ofNat 64 (k.id / 2 ^ 320))] }

theorem tokened_serial (r : SecRecords) (o : Option Nat) (st kind : Nat) (k : KeyPair) :
    ((tokened r o st kind k).tokenAt 0).serial = Config.moduleSerial.toNat := by
  have h := Config.moduleSerial.isLt
  have e : ((tokened r o st kind k).tokenAt 0).serial = leNat (leBytes 8 (BitVec.ofNat 64 Config.moduleSerial.toNat).toNat
      ++ leBytes 8 (BitVec.ofNat 64 (Config.moduleSerial.toNat / 2 ^ 64)).toNat) := rfl
  rw [e, leNat_append, leBytes_length, leNat_leBytes, leNat_leBytes, BitVec.toNat_ofNat, BitVec.toNat_ofNat]
  omega

theorem tokened_key (r : SecRecords) (o : Option Nat) (st kind : Nat) (k : KeyPair) :
    ((tokened r o st kind k).tokenSig 0 true true).keyId = k.id := by
  have h : k.id < 2 ^ 384 := (Config.sha384 k.bytes).isLt
  generalize hk : k.id = n at h
  have e : ((tokened r o st kind k).tokenSig 0 true true).keyId = leNat (leBytes 8 (BitVec.ofNat 64 k.id).toNat
      ++ (leBytes 8 (BitVec.ofNat 64 (k.id / 2 ^ 64)).toNat ++ (leBytes 8 (BitVec.ofNat 64 (k.id / 2 ^ 128)).toNat
      ++ (leBytes 8 (BitVec.ofNat 64 (k.id / 2 ^ 192)).toNat ++ (leBytes 8 (BitVec.ofNat 64 (k.id / 2 ^ 256)).toNat
      ++ leBytes 8 (BitVec.ofNat 64 (k.id / 2 ^ 320)).toNat))))) := rfl
  rw [e, hk]
  simp only [leNat_append, leBytes_length, leNat_leBytes, BitVec.toNat_ofNat]
  omega

theorem tokened_fits (r : SecRecords) (o : Option Nat) (st kind : Nat) (k : KeyPair) (s : Nat)
    (h : (decide (((tokened r o st kind k).tokenAt 0).magic = 0x4E4B5444)
      && decide (((tokened r o st kind k).tokenAt 0).state = s)
      && decide (((tokened r o st kind k).tokenAt 0).challenge = (tokened r o st kind k).challengeNow)
      && ((tokened r o st kind k).tokenAt 0).zero) = true) :
    (tokened r o st kind k).tokenFits ((tokened r o st kind k).tokenAt 0) s = true := by
  simpa [Dev.tokenFits, tokened_serial] using h

theorem agrees (d : Dev) (hr : d.rootKeyId = (key 0).id) (he : d.eph.records = records) :
    d.identityAgrees (idSecret []).pair = true := by
  unfold Dev.identityAgrees
  rw [hr, he]
  show (decide (6 = 6) && decide ((idSecret []).pair.id = (idSecret []).pair.id)
    && decide (Config.moduleSerial.toNat = Config.moduleSerial.toNat) && certOk (key 0).id records.all 3 _) = true
  rw [identity_ok]
  simp

theorem starts (d : Dev) (hr : d.rootKeyId = (key 0).id) (he : d.eph.records = records ∨ d.eph.records = owned)
    (h : d.floorOf 1 ≤ 3) : d.startable image = true := by
  have s := signed_ok d 1 1 (fun c => decide (c.role = 1)) (by decide) hr he (by decide)
  have f : imageFits image = true := by decide
  have v : image.svn = 3 := rfl
  have g : image.sig = signed 1 (key 1) := rfl
  simp [Dev.startable, g, s, f, v, h]

theorem chosen (ok : Almanac → Bool) (a : Almanac) (h : ok a = true) : chooseAlmanac ok (some a) none = (some (a, false), false) := by
  simp [chooseAlmanac, Option.filter, h]

theorem almanac_good (d : Dev) (hr : d.rootKeyId = (key 0).id) (he : d.eph.records = owned)
    (h : almanacOk (d.floorOf 2) (almanac (key 7)) = true) :
    ((d.itemFault 2 (Dev.almanacSigner d.ownerCert.isSome) (almanac (key 7)).sig).isNone
      && almanacOk (d.floorOf 2) (almanac (key 7))) = true := by
  have s := owned_signs d 2 (Dev.almanacSigner true) hr he (by decide)
  have g : (almanac (key 7)).sig = signed 2 (key 7) := rfl
  have o : d.ownerCert.isSome = true := by rw [owner_of d hr he]; rfl
  rw [o, g, s, h]
  rfl

/-- Token 0 opens a state where its KIND may. -/
theorem tokened_opens (r : SecRecords) (o : Option Nat) (st kind : Nat) (k : KeyPair) (c : Cert)
    (m : c ∈ r.all) (hc : certOk (key 0).id r.all 3 c = true) (hk : c.pair.id = k.id)
    (hi : [7, 8, 9].contains kind = true) (hs : ((tokened r o st kind k).tokenSig 0 true true).kind = kind)
    (hm : (tokened r o st kind k).tokenSigner kind c = true)
    (hw : ((tokened r o st kind k).tokenSig 0 true true).wellFormed = true) :
    (tokened r o st kind k).tokenKind ((tokened r o st kind k).tokenSig 0 true true) = some kind := by
  have h := accepted (tokened r o st kind k) kind ((tokened r o st kind k).tokenSigner kind)
    ((tokened r o st kind k).tokenSig 0 true true) c m hs ((tokened_key r o st kind k).symm ▸ hk) hm hc (by rw [hw]; rfl)
  simp only [Dev.tokenKind, hs, hi, h, Option.isNone_none, Bool.and_self, if_true]

/-- A directory of n + 1 owned lines. -/
def crowded (n : Nat) : Dev :=
  link.modHlk fun h => { h with dir := { unit := 127, owned := true } :: List.replicate n { unit := 126, owned := true } }

theorem crowded_full (n : Nat) : (crowded n).hlk.dir.length = n + 1 := by
  show (({ unit := 127, owned := true } : DirLine) :: List.replicate n { unit := 126, owned := true }).length = n + 1
  simp

theorem crowded_line (n : Nat) : (crowded n).dirAt 128 = none := by
  show (({ unit := 127, owned := true } : DirLine) :: List.replicate n { unit := 126, owned := true }).find? _ = none
  simp

theorem crowded_free (d : Dev) (h0 : d.dirAt 128 = none) (h1 : decide (d.areaOf 0x2000 64 = some .hbm) = true)
    (h2 : d.frameBusy 128 = false) (h3 : d.isPoison 128 = false) (h4 : d.behind (0x2000, 64) = false) : d.hbmFree 0x2000 64 false = true := by
  have h6 : unitsOf 0x2000 64 = [128] := by decide
  have h5 : d.dirConflict 128 false = false := by simp [Dev.dirConflict, h0]
  simp only [Dev.hbmFree, h1, h2, h3, h4, h5, h6, List.all_cons, List.all_nil, Bool.not_false, Bool.and_self]

end Sys2Proof.Tests

namespace Sys2Proof.Tests

/-! ### The hypotheses of the statements about a step, of the memories, and of the frames -/

theorem witness_StepRunsFrontCommand : ∃ (c : Instr) (rest : List Instr) (s : State), s.pending = c :: rest :=
  ⟨.prsntNBreak, [.auxPathOff], { dev := ready, pending := [.prsntNBreak, .auxPathOff] }, rfl⟩

/-- A packet in the output queues of face 5. -/
def waitingOut : Dev :=
  { ready.in888.put [(F.XFB_FACE_f_STAT.UP, 1, 0, 5), (F.XFB_FACE_f_STAT.PORTS_UP, 3, 0, 5)] with
    fab := { out := [{ face := 5, pkt := pkt PT.read 0 0 }] } }

theorem witness_IdleStep :
    (∃ s : State, s.pending = [] ∧ (∀ e ∈ s.dev.ports, e.2.step ≠ .up ∧ e.2.step ≠ .keepAlive)
      ∧ (∀ n, n < 31 → s.dev.linkState n ≠ 3 ∧ s.dev.linkState n ≠ 4) ∧ s.dev.fab.out = [] ∧ s.dev.fab.router = []) ∧
    (∃ (d : Dev) (f : Nat) (q : Queued) (o : FaceOut), f < 6 ∧ d.faceUp f = true ∧ d.nextOut f = some (q, o)
      ∧ (∀ x ∈ d.fab.out, x.face = f) ∧ d.fab.router = []) ∧
    (∃ (d : Dev) (p n : Nat), p < 6 ∧ portExists p n = true ∧ (d.port p n).step = .up ∧ (d.port p n).again = []) :=
  ⟨⟨on ready, rfl, by decide +kernel⟩,
    ⟨waitingOut, 5, ((waitingOut.nextOut 5).getD ({ face := 0, pkt := pkt 0 0 0 }, {})).1,
      ((waitingOut.nextOut 5).getD ({ face := 0, pkt := pkt 0 0 0 }, {})).2, by decide +kernel⟩,
    ⟨ready.modPort 0 9 fun x => { x with step := .up }, 0, 9, by decide +kernel⟩⟩

/-- A core store, a cluster store, an instruction memory and HBM with something in them, and a step. -/
theorem witness_MemoriesStayCanonical : ∃ s t : State, s.dev.memoryWf ∧ step s = .next t :=
  ⟨on { ready with coreStore := [(3, 7), (0x2000005, 1)], clusterStore := [(9, 1)], imem := [(0, 5)], hbm := [(64, 9)] }, _,
    by unfold Dev.memoryWf; decide +kernel, rfl⟩

theorem witness_RegistersStayCanonical : ∃ s t : State, s.dev.regsWf ∧ step s = .next t :=
  ⟨on ready, _, by unfold Dev.regsWf; decide +kernel, rfl⟩

/-- An answer to a read of device 5, built with that read's address, key, message and sequence. -/
theorem witness_GasTargets_23 : ∃ (d : Dev) (p : Packet) (type : Nat) (bs : List Byte) (q : Packet), p.src ≠ d.self ∧
    d.waitsAtInjection q = false ∧ q = { d.packet type 3 p.src with
      addr := p.addr, key := p.key, offset := p.offset, msg := p.msg, total := p.total, dseq := p.dseq, core := p.core
      epoch := p.epoch, aop := p.aop, signed := p.signed, w64 := p.w64, ret := p.ret, attempt := p.attempt, ece := p.ce
      last := decide (p.type = PT.dmaRead) && p.last, length := bs.length, payload := bs } ∧ type ≠ PT.query :=
  ⟨ready.in888, pkt PT.read 0 1, PT.readData, [1], _, by decide +kernel, by decide +kernel, rfl, by decide⟩

/-- The frames that are stated over a list of commands, or over the ports of a face, have such commands and ports. -/
theorem witness_Frames :
    (∃ i c, c ∈ [Instr.nop i, Instr.halt i, Instr.spawn i, Instr.br i, Instr.brz i, Instr.brnz i, Instr.brlt i, Instr.fence i]) ∧
    (∃ p c, c ∈ [Instr.releaseAck p, Instr.busy p]) ∧
    (∃ msg c, c ∈ [Instr.gasRequestTimeout msg, Instr.remoteSignalTimeout msg]) ∧
    (∃ port : Fin 10, port.val < 8) :=
  ⟨⟨{ core := 0, thread := 0 }, _, .head _⟩, ⟨pkt PT.busy 0 0, _, .tail _ (.head _)⟩, ⟨3, _, .head _⟩, 7, by decide⟩

end Sys2Proof.Tests

namespace Sys2Proof.Tests

/-! ### The hypotheses of ColdStartRegisters -/

theorem witness_ColdStartRegisters_1_to_2 :
    (∃ (d : Dev) (vin : Fin 65536) (k : RegKey) (f : Field), (f ∈ k.name.fields) ∧ d.power.pgoodIn = false
     ∧ d.power.aux = true ∧ d.power.stageOne = false ∧ d.power.path = none ∧ d.power.closed = true
     ∧ d.power.hold = false ∧ d.power.hot = false ∧ 4800 ≤ vin.val ∧ vin.val ≤ 6400 ∧ f.keep ≠ .e
     ∧ k.name ∉ Dev.startRegs) ∧
    (∃ (d : Dev) (k : RegKey) (f : Field), (f ∈ k.name.fields) ∧ d.boot.step = .hold ∧ d.power.path = none
     ∧ d.power.failed ≤ 3 ∧ f.keep ≠ .e ∧ k.name ∉ Dev.startRegs) :=
  ⟨⟨{ ready.put [(F.GAS_REGION_n_BASE.BASE, 9, 0, 5), (F.CORE_THREAD_n_PC.PC, 7, 5, 3)] with power := { mated := true, closed := true, aux := true }, boot := { step := .off } },
    6400, ⟨.GAS_REGION_n_BASE, 0, 5, 0⟩,
    (((RegName.fields .GAS_REGION_n_BASE).drop 0).headD { hi := 0, lo := 0, access := .ro, reset := 0, keep := .none }),
    by decide, by decide +kernel⟩,
    ⟨{ ready.put [(F.GAS_REGION_n_BASE.BASE, 9, 0, 5), (F.CORE_THREAD_n_PC.PC, 7, 5, 3)] with boot := { step := .hold } },
    ⟨.GAS_REGION_n_BASE, 0, 5, 0⟩,
    (((RegName.fields .GAS_REGION_n_BASE).drop 0).headD { hi := 0, lo := 0, access := .ro, reset := 0, keep := .none }),
    by decide, by decide +kernel⟩⟩

/-! ### The hypotheses of SwapRequestWhileSwapping -/

theorem witness_SwapRequestWhileSwapping_1 :
    ∃ (d : Dev) (k : Fin 32) (x : Swap), d.accepts ⟨.CLU_SWAP_CTRL, k, 0, 0⟩ = true ∧ d.swapOf k = some x :=
  ⟨(ready.setSwap 0 (some { lcore := 1, empty := false, phase := .waiting })).put [(F.CLU_SWAP_CTRL.REQ, 1, 0, 0),
  (F.CLU_SWAP_STAT.STATE, 2, 0, 0)], 0, { lcore := 1, empty := false, phase := .waiting }, by decide +kernel⟩

/-! ### The hypotheses of ExtestOutsideStandby -/

theorem witness_ExtestOutsideStandby_1 :
    ∃ (d : Dev), d.power.aux = true ∧ d.gf F.PWR_STAT.STATE ≠ 3 ∧ d.boot.step ≠ .off ∧ d.boot.step ≠ .recovery :=
  ⟨ready, by decide +kernel⟩

/-! ### The hypotheses of DoorbellInterrupt -/

theorem witness_DoorbellInterrupt_1 :
    ∃ (d : Dev) (m : HlkMsg) (n : Nat), d.hlkTakes m 3 7 = true ∧ n = bitsOf m.value 2 0 :=
  ⟨link, { msg 3 7 with value := 7 }, 7, by decide +kernel⟩

/-! ### The hypotheses of LeavingP2 -/

theorem witness_LeavingP2_1 :
    ∃ (d : Dev), d.gf F.PWR_STAT.STATE = 5 ∧ d.boot.step = .ready ∧ d.on F.CLK_ISLAND_n_STAT.POWERED 0 0 = false :=
  ⟨(ready.setHbmByte 7 7).put [(F.PWR_CTRL.TARGET, 0, 0, 0), (F.PWR_STAT.STATE, 5, 0, 0),
  (F.CLK_ISLAND_n_STAT.POWERED, 0, 0, 0), (F.HBM_STAT.SELF_REFRESH, 1, 2, 0), (F.GAS_EPOCH.EPOCH, 4294967295, 0, 0)],
  by decide +kernel⟩

/-! ### The hypotheses of ControlInstructions -/

theorem witness_ControlInstructions_1_to_8 :
    (∃ (d : Dev) (i : Issue) (x : Ins), d.mayIssue .nop i x = true) ∧
    (∃ (d : Dev) (i : Issue) (x : Ins), d.mayIssue .halt i x = true) ∧
    (∃ (d : Dev) (i : Issue) (x : Ins), d.mayIssue .pause i x = true) ∧
    (∃ (d : Dev) (i : Issue) (x : Ins), d.mayIssue .spawn i x = true
     ∧ (d.thread i.core (bitsOf x.imm 19 16)).st = .halted) ∧
    (∃ (d : Dev) (i : Issue) (x : Ins), d.mayIssue .br i x = true) ∧
    (∃ (d : Dev) (i : Issue) (x : Ins), d.mayIssue .brz i x = true) ∧
    (∃ (d : Dev) (i : Issue) (x : Ins), d.mayIssue .brnz i x = true) ∧
    (∃ (d : Dev) (i : Issue) (x : Ins), d.mayIssue .brlt i x = true) :=
  ⟨⟨(ready.at5 (word 8 0 [])), ⟨0, 2, .ok, .ok, []⟩, ⟨.nop, word 8 0 []⟩, by decide +kernel⟩,
    ⟨(ready.at5 (word 8 1 [])), ⟨0, 2, .ok, .ok, []⟩, ⟨.halt, word 8 1 []⟩, by decide +kernel⟩,
    ⟨(ready.at5 (word 8 2 [])), ⟨0, 2, .ok, .ok, []⟩, ⟨.pause, word 8 2 []⟩, by decide +kernel⟩,
    ⟨(ready.at5 (word 8 3 [(0, 196615)])), ⟨0, 2, .ok, .ok, []⟩, ⟨.spawn, word 8 3 [(0, 196615)]⟩, by decide +kernel⟩,
    ⟨(ready.at5 (word 8 4 [(0, 77)])), ⟨0, 2, .ok, .ok, []⟩, ⟨.br, word 8 4 [(0, 77)]⟩, by decide +kernel⟩,
    ⟨(ready.at5 (word 8 5 [(92, 3), (0, 77)])), ⟨0, 2, .ok, .ok, []⟩, ⟨.brz, word 8 5 [(92, 3), (0, 77)]⟩,
    by decide +kernel⟩,
    ⟨(ready.at5 (word 8 6 [(92, 3), (0, 77)])), ⟨0, 2, .ok, .ok, []⟩, ⟨.brnz, word 8 6 [(92, 3), (0, 77)]⟩,
    by decide +kernel⟩,
    ⟨(ready.at5 (word 8 7 [(92, 3), (88, 4), (0, 77)])), ⟨0, 2, .ok, .ok, []⟩, ⟨.brlt, word 8 7 [(92, 3), (88, 4), (0,
    77)]⟩, by decide +kernel⟩⟩

/-! ### The hypotheses of ScalarInstructions -/

theorem witness_ScalarInstructions_1_to_9 :
    (∃ (d : Dev) (i : Issue) (x : Ins), d.mayIssue .tli i x = true) ∧
    (∃ (d : Dev) (i : Issue) (x : Ins), d.mayIssue .tadd i x = true) ∧
    (∃ (d : Dev) (i : Issue) (x : Ins), d.mayIssue .tmul i x = true) ∧
    (∃ (d : Dev) (i : Issue) (x : Ins), d.mayIssue .tand i x = true) ∧
    (∃ (d : Dev) (i : Issue) (x : Ins), d.mayIssue .tor i x = true) ∧
    (∃ (d : Dev) (i : Issue) (x : Ins), d.mayIssue .tshl i x = true) ∧
    (∃ (d : Dev) (i : Issue) (x : Ins), d.mayIssue .tshr i x = true) ∧
    (∃ (d : Dev) (i : Issue) (x : Ins), d.mayIssue .rdtime i x = true) ∧
    (∃ (d : Dev) (i : Issue) (x : Ins), d.mayIssue .rdcnt i x = true) :=
  ⟨⟨(ready.at5 (word 8 8 [(96, 5), (0, 9223372036854775815)])), ⟨0, 2, .ok, .ok, []⟩, ⟨.tli, word 8 8 [(96, 5), (0,
    9223372036854775815)]⟩, by decide +kernel⟩,
    ⟨(ready.at5 (word 8 9 [(96, 5), (92, 3), (88, 4), (0,
    18446744073709551615)])) |>.setTreg 0 2 3 (9) |>.setTreg 0 2 4 (7), ⟨0, 2, .ok, .ok, []⟩, ⟨.tadd, word 8 9 [(96,
    5), (92, 3), (88, 4), (0, 18446744073709551615)]⟩, by decide +kernel⟩,
    ⟨(ready.at5 (word 8 10 [(96, 5), (92, 3), (0, 9223372036854775809)])) |>.setTreg 0 2 3 (9), ⟨0, 2, .ok, .ok, []⟩,
    ⟨.tmul, word 8 10 [(96, 5), (92, 3), (0, 9223372036854775809)]⟩, by decide +kernel⟩,
    ⟨(ready.at5 (word 8 11 [(96, 5), (92, 3), (0, 12)])) |>.setTreg 0 2 3 (9), ⟨0, 2, .ok, .ok, []⟩, ⟨.tand,
    word 8 11 [(96, 5), (92, 3), (0, 12)]⟩, by decide +kernel⟩,
    ⟨(ready.at5 (word 8 12 [(96, 5), (92, 3), (0, 12)])) |>.setTreg 0 2 3 (9), ⟨0, 2, .ok, .ok, []⟩, ⟨.tor,
    word 8 12 [(96, 5), (92, 3), (0, 12)]⟩, by decide +kernel⟩,
    ⟨(ready.at5 (word 8 13 [(96, 5), (92, 3), (0, 63)])) |>.setTreg 0 2 3 (9), ⟨0, 2, .ok, .ok, []⟩, ⟨.tshl,
    word 8 13 [(96, 5), (92, 3), (0, 63)]⟩, by decide +kernel⟩,
    ⟨(ready.at5 (word 8 14 [(96, 5), (92, 3), (0, 2)])) |>.setTreg 0 2 3 (9), ⟨0, 2, .ok, .ok, []⟩, ⟨.tshr,
    word 8 14 [(96, 5), (92, 3), (0, 2)]⟩, by decide +kernel⟩,
    ⟨(ready.at5 (word 8 18 [(117, 1), (96, 5)])), ⟨0, 2, .ok, .ok, []⟩, ⟨.rdtime, word 8 18 [(117, 1), (96, 5)]⟩,
    by decide +kernel⟩,
    ⟨(ready.at5 (word 8 19 [(117, 1), (96, 5), (0, 7)])).put [(F.SYN_CNT_n.VALUE, 1234, 0, 7)], ⟨0, 2, .ok, .ok, []⟩,
    ⟨.rdcnt, word 8 19 [(117, 1), (96, 5), (0, 7)]⟩, by decide +kernel⟩⟩

/-! ### The hypotheses of StoreTransfers -/

theorem witness_StoreTransfers_1_to_2 :
    (∃ (d : Dev) (i : Issue) (x : Ins), d.mayIssue .tld i x = true ∧ i.data ≠ .uncorrectable) ∧
    (∃ (d : Dev) (i : Issue) (x : Ins), d.mayIssue .tst i x = true) :=
  ⟨⟨(ready.at5 (word 8 16 [(96, 5), (92, 3), (0,
    64)])) |>.setTreg 0 2 3 (8) |>.wrStore 0 72 (leBytes 8 0x1122334455667788), ⟨0, 2, .ok, .corrected, []⟩, ⟨.tld,
    word 8 16 [(96, 5), (92, 3), (0, 64)]⟩, by decide +kernel⟩,
    ⟨(ready.at5 (word 8 17 [(88, 4), (92, 3), (0, 64)])) |>.setTreg 0 2 3 (8) |>.setTreg 0 2 4 (9223372036854775813),
    ⟨0, 2, .ok, .ok, []⟩, ⟨.tst, word 8 17 [(88, 4), (92, 3), (0, 64)]⟩, by decide +kernel⟩⟩

/-! ### The hypotheses of PastLastInstruction -/

theorem witness_PastLastInstruction_1_to_5 :
    (∃ (d : Dev) (c : Instr) (want : Op) (i : Issue), (issueOf c = some (want, i)) ∧ d.eligible i.core i.thread = true
     ∧ d.overtakes i = false ∧ (d.thread i.core i.thread).pastEnd = true) ∧
    (∃ (d : Dev) (i : Issue) (x : Ins), d.mayIssue .nop i x = true ∧ d.pc i.core i.thread = 65535) ∧
    (∃ (d : Dev) (i : Issue) (x : Ins), d.mayIssue .tli i x = true ∧ d.pc i.core i.thread = 65535) ∧
    (∃ (d : Dev) (i : Issue) (x : Ins), d.mayIssue .br i x = true ∧ d.pc i.core i.thread = 65535) ∧
    (∃ (d : Dev) (i : Issue) (x : Ins), d.mayIssue .halt i x = true ∧ d.pc i.core i.thread = 65535) :=
  ⟨⟨(ready.at5 (word 8 0 [])).setThread 0 2 { st := .running, pastEnd := true }, .nop ⟨0, 2, .ok, .ok, []⟩, .nop, ⟨0,
    2, .ok, .ok, []⟩, by decide, by decide +kernel⟩,
    ⟨({ ready.at5 0 with imem := (List.range 16).filterMap fun k => if (word 8 0 []) >>> (8 * k) % 256 = 0 then none else some (0xFFFF0 + k, BitVec.ofNat 8 ((word 8 0 []) >>> (8 * k))) } : Dev).put [(F.CORE_THREAD_n_PC.PC,
    65535, 0, 2)], ⟨0, 2, .ok, .ok, []⟩, ⟨.nop, word 8 0 []⟩, by decide +kernel⟩,
    ⟨({ ready.at5 0 with imem := (List.range 16).filterMap fun k => if (word 8 8 [(96, 5), (0, 77)]) >>> (8 * k) % 256 = 0 then none else some (0xFFFF0 + k, BitVec.ofNat 8 ((word 8 8 [(96, 5), (0, 77)]) >>> (8 * k))) } : Dev).put [(F.CORE_THREAD_n_PC.PC,
    65535, 0, 2)], ⟨0, 2, .ok, .ok, []⟩, ⟨.tli, word 8 8 [(96, 5), (0, 77)]⟩, by decide +kernel⟩,
    ⟨({ ready.at5 0 with imem := (List.range 16).filterMap fun k => if (word 8 4 [(0, 9)]) >>> (8 * k) % 256 = 0 then none else some (0xFFFF0 + k, BitVec.ofNat 8 ((word 8 4 [(0, 9)]) >>> (8 * k))) } : Dev).put [(F.CORE_THREAD_n_PC.PC,
    65535, 0, 2)], ⟨0, 2, .ok, .ok, []⟩, ⟨.br, word 8 4 [(0, 9)]⟩, by decide +kernel⟩,
    ⟨({ ready.at5 0 with imem := (List.range 16).filterMap fun k => if (word 8 1 []) >>> (8 * k) % 256 = 0 then none else some (0xFFFF0 + k, BitVec.ofNat 8 ((word 8 1 []) >>> (8 * k))) } : Dev).put [(F.CORE_THREAD_n_PC.PC,
    65535, 0, 2)], ⟨0, 2, .ok, .ok, []⟩, ⟨.halt, word 8 1 []⟩, by decide +kernel⟩⟩

/-! ### The hypotheses of SequencerRefusals -/

theorem witness_SequencerRefusals_1_to_6 :
    (∃ (d : Dev) (c : Instr) (want : Op) (i : Issue), (issueOf c = some (want, i)) ∧ d.ready i = true
     ∧ i.fetch = .uncorrectable) ∧
    (∃ (d : Dev) (c : Instr) (want : Op) (i : Issue), (issueOf c = some (want, i)) ∧ d.ready i = true
     ∧ i.fetch ≠ .uncorrectable ∧ decodeIns (d.fetchWord i.core (d.pc i.core i.thread)) = none) ∧
    (∃ (d : Dev) (c : Instr) (want : Op) (i : Issue) (x : Ins), (issueOf c = some (want, i)) ∧ d.ready i = true
     ∧ d.fetches want i x = true ∧ d.queueFull i.core x = false ∧ x.needsNdet = true ∧ x.ndet = false) ∧
    (∃ (d : Dev) (c : Instr) (want : Op) (i : Issue) (x : Ins), (issueOf c = some (want, i)) ∧ (d.ready i = true
     ∧ d.fetches want i x = true ∧ d.queueFull i.core x = false ∧ (x.needsNdet = false ∨ x.ndet = true)
     ∧ d.addrsOk i.core i.thread x = false)) ∧
    (∃ (d : Dev) (i : Issue) (x : Ins), d.mayIssue .spawn i x = true
     ∧ (d.thread i.core (bitsOf x.imm 19 16)).st ≠ .halted) ∧
    (∃ (d : Dev) (i : Issue) (x : Ins), d.mayIssue .tld i x = true ∧ i.data = .uncorrectable) :=
  ⟨⟨(ready.at5 (word 8 0 [])), .nop ⟨0, 2, .uncorrectable, .ok, []⟩, .nop, ⟨0, 2, .uncorrectable, .ok, []⟩,
    by decide, by decide +kernel⟩,
    ⟨(ready.at5 (word 8 15 [])), .nop ⟨0, 2, .ok, .ok, []⟩, .nop, ⟨0, 2, .ok, .ok, []⟩, by decide, by decide +kernel⟩,
    ⟨(ready.at5 (word 8 18 [(96, 5)])), .rdtime ⟨0, 2, .ok, .ok, []⟩, .rdtime, ⟨0, 2, .ok, .ok, []⟩, ⟨.rdtime,
    word 8 18 [(96, 5)]⟩, by decide, by decide +kernel⟩,
    ⟨(ready.at5 (word 8 16 [(96, 5), (0, 3)])), .tld ⟨0, 2, .ok, .ok, []⟩, .tld, ⟨0, 2, .ok, .ok, []⟩, ⟨.tld,
    word 8 16 [(96, 5), (0, 3)]⟩, by decide, by decide +kernel⟩,
    ⟨(ready.at5 (word 8 3 [(0, 131079)])), ⟨0, 2, .ok, .ok, []⟩, ⟨.spawn, word 8 3 [(0, 131079)]⟩, by decide +kernel⟩,
    ⟨(ready.at5 (word 8 16 [(96, 5)])), ⟨0, 2, .ok, .uncorrectable, []⟩, ⟨.tld, word 8 16 [(96, 5)]⟩,
    by decide +kernel⟩⟩

/-! ### The hypotheses of QueuedInstructions -/

theorem witness_QueuedInstructions_1_to_10 :
    (∃ (d : Dev) (i : Issue) (x : Ins), d.mayIssue .loads i x = true) ∧
    (∃ (d : Dev) (i : Issue) (x : Ins), d.mayIssue .stream i x = true) ∧
    (∃ (d : Dev) (i : Issue) (x : Ins), d.mayIssue .emit i x = true) ∧
    (∃ (d : Dev) (c : Instr) (op : Op) (i : Issue) (x : Ins), ((c, op) ∈ ([(.vadd i, .vadd), (.vsub i, .vsub),
     (.vmul i, .vmul), (.vfma i, .vfma), (.vmax i, .vmax), (.vmin i, .vmin), (.vscale i, .vscale), (.vcvt i, .vcvt),
     (.vexp i, .vexp), (.vrecip i, .vrecip), (.vrsqrt i, .vrsqrt), (.vsilu i, .vsilu), (.vgate i, .vgate), (.vrsum i,
     .vrsum), (.vrmax i, .vrmax), (.vlsum i, .vlsum), (.vlmax i, .vlmax)] : List (Instr × Op)))
     ∧ d.mayIssue op i x = true) ∧
    (∃ (d : Dev) (i : Issue) (x : Ins), d.mayIssue .attn i x = true) ∧
    (∃ (d : Dev) (i : Issue) (x : Ins), d.mayIssue .dma i x = true) ∧
    (∃ (d : Dev) (i : Issue) (x : Ins), d.mayIssue .coll i x = true) ∧
    (∃ (d : Dev) (i : Issue) (x : Ins), d.mayIssue .gld i x = true) ∧
    (∃ (d : Dev) (i : Issue) (x : Ins), d.mayIssue .gst i x = true) ∧
    (∃ (d : Dev) (i : Issue) (x : Ins), d.mayIssue .gatom i x = true) :=
  ⟨⟨ready.at5 (word 2 0 [(97, 1), (32, 4096), (16, 64)]) |>.block, ⟨0, 2, .ok, .ok, []⟩, ⟨.loads, word 2 0 [(97, 1),
    (32, 4096), (16, 64)]⟩, by decide +kernel⟩,
    ⟨ready.at5 (word 1 0 [(96, 1), (76, 2), (32, 4096)]) |>.block, ⟨0, 2, .ok, .ok, []⟩, ⟨.stream, word 1 0 [(96, 1),
    (76, 2), (32, 4096)]⟩, by decide +kernel⟩,
    ⟨ready.at5 (word 1 1 [(76, 2), (32, 4096), (16, 512)]) |>.block, ⟨0, 2, .ok, .ok, []⟩, ⟨.emit, word 1 1 [(76, 2),
    (32, 4096), (16, 512)]⟩, by decide +kernel⟩,
    ⟨ready.at5 (word 3 0 [(57, 1), (38, 0), (19, 64), (0, 128), (90, 3)]) |>.setTreg 0 2 3 (1065353216) |>.block,
    .vadd ⟨0, 2, .ok, .ok, []⟩, .vadd, ⟨0, 2, .ok, .ok, []⟩, ⟨.vadd, word 3 0 [(57, 1), (38, 0), (19, 64), (0, 128),
    (90, 3)]⟩, .head _, by decide +kernel⟩,
    ⟨ready.at5 (word 3 32 [(38, 64)]) |>.block, ⟨0, 2, .ok, .ok, []⟩, ⟨.attn, word 3 32 [(38, 64)]⟩,
    by decide +kernel⟩,
    ⟨ready.at5 (word 4 0 [(32, 4096)]) |>.block, ⟨0, 2, .ok, .ok, []⟩, ⟨.dma, word 4 0 [(32, 4096)]⟩,
    by decide +kernel⟩,
    ⟨ready.at5 (word 7 0 [(92, 3), (32, 4096)]) |>.block, ⟨0, 2, .ok, .ok, []⟩, ⟨.coll, word 7 0 [(92, 3), (32,
    4096)]⟩, by decide +kernel⟩,
    ⟨ready.at5 (word 6 0 [(96, 3), (62, 5)]) |>.setTreg 0 2 3 (4096) |>.block, ⟨0, 2, .ok, .ok, []⟩, ⟨.gld,
    word 6 0 [(96, 3), (62, 5)]⟩, by decide +kernel⟩,
    ⟨ready.at5 (word 6 1 [(96, 3), (32, 64)]) |>.setTreg 0 2 3 (4096) |>.block, ⟨0, 2, .ok, .ok, []⟩, ⟨.gst,
    word 6 1 [(96, 3), (32, 64)]⟩, by decide +kernel⟩,
    ⟨ready.at5 (word 6 2 [(96, 3), (62, 5), (75, 1)]) |>.setTreg 0 2 3 (4096) |>.block, ⟨0, 2, .ok, .ok, []⟩, ⟨.gatom,
    word 6 2 [(96, 3), (62, 5), (75, 1)]⟩, by decide +kernel⟩⟩

theorem witness_QueuedInstructions_11 :
    ∃ (d : Dev) (i : Issue) (x : Ins), d.mayIssue .wait i x = true ∧ x.queueSel ≠ 0 :=
  ⟨ready.at5 (word 5 1 [(88, 7), (40, 5), (16, 3)]) |>.block, ⟨0, 2, .ok, .ok, []⟩, ⟨.wait, word 5 1 [(88, 7), (40,
  5), (16, 3)]⟩, by decide +kernel⟩

/-! ### The hypotheses of SyncInstructions -/

theorem witness_SyncInstructions_1_to_10 :
    (∃ (d : Dev) (i : Issue) (x : Ins), d.mayIssue .wait i x = true ∧ x.queueSel = 0) ∧
    (∃ (d : Dev) (i : Issue) (x : Ins), d.mayIssue .fence i x = true) ∧
    (∃ (d : Dev) (i : Issue) (x : Ins), d.mayIssue .signal i x = true ∧ x.sigFence = true) ∧
    (∃ (d : Dev) (i : Issue) (x : Ins) (k : Nat), d.mayIssue .signal i x = true ∧ x.sigFence = false ∧ ((x.dest = 0
     ∧ k = i.core.val) ∨ (x.dest = 1 ∧ k = x.core ∧ d.inService x.core = true)) ∧ d.copying k = false
     ∧ d.judge k x.cntr (sext 48 x.value) = .applied ∧ ¬ (d.on F.SAFE_LS_CTRL.EN = true
     ∧ d.gf F.SAFE_LS_CTRL.MARK_CNTR = x.cntr)) ∧
    (∃ (d : Dev) (i : Issue) (x : Ins) (k : Nat), d.mayIssue .signal i x = true ∧ x.sigFence = false ∧ x.dest = 1
     ∧ k = x.core ∧ k ≠ i.core.val ∧ d.inService k = true ∧ d.copying k = false ∧ (d.core k).faulted = false
     ∧ d.judge k x.cntr (sext 48 x.value) ≠ .applied) ∧
    (∃ (d : Dev) (i : Issue) (x : Ins) (k : Nat) (s : Swap), d.mayIssue .signal i x = true ∧ x.sigFence = false
     ∧ x.dest = 1 ∧ k = x.core ∧ d.inService k = true ∧ d.copying k = true ∧ d.swapOf (k / 4) = some s) ∧
    (∃ (d : Dev) (i : Issue) (x : Ins), d.mayIssue .signal i x = true ∧ x.sigFence = false ∧ x.dest = 2
     ∧ d.gasReach (d.treg i.core i.thread x.tdev % 2 ^ 18) = none) ∧
    (∃ (d : Dev) (i : Issue) (x : Ins) (code : Nat), d.mayIssue .signal i x = true ∧ x.sigFence = false ∧ x.dest = 2
     ∧ d.gasReach (d.treg i.core i.thread x.tdev % 2 ^ 18) = some code) ∧
    (∃ (d : Dev) (i : Issue) (x : Ins), d.mayIssue .signal i x = true ∧ x.sigFence = false ∧ x.dest = 3
     ∧ d.hlkUp = true) ∧
    (∃ (d : Dev) (i : Issue) (x : Ins), d.mayIssue .signal i x = true ∧ x.sigFence = false ∧ x.dest = 3
     ∧ d.hlkUp = false) :=
  ⟨⟨ready.at5 (word 5 1 [(88, 7), (40, 5)]), ⟨0, 2, .ok, .ok, []⟩, ⟨.wait, word 5 1 [(88, 7), (40, 5)]⟩,
    by decide +kernel⟩,
    ⟨ready.at5 (word 5 2 [(96, 3)]), ⟨0, 2, .ok, .ok, []⟩, ⟨.fence, word 5 2 [(96, 3)]⟩, by decide +kernel⟩,
    ⟨ready.at5 (word 5 0 [(88, 7), (40, 5), (26, 1)]), ⟨0, 2, .ok, .ok, []⟩, ⟨.signal, word 5 0 [(88, 7), (40, 5),
    (26, 1)]⟩, by decide +kernel⟩,
    ⟨ready.at5 (word 5 0 [(88, 7), (40, 5)]) |>.block, ⟨0, 2, .ok, .ok, []⟩, ⟨.signal, word 5 0 [(88, 7), (40, 5)]⟩,
    0, by decide +kernel⟩,
    ⟨ready.at5 (word 5 0 [(88, 7), (40, 2 ^ 48 - 3), (38, 1), (27, 1)]) |>.block, ⟨0, 2, .ok, .ok, []⟩, ⟨.signal,
    word 5 0 [(88, 7), (40, 2 ^ 48 - 3), (38, 1), (27, 1)]⟩, 1, by decide +kernel⟩,
    ⟨{ ready.at5 (word 5 0 [(88, 7), (40, 2 ^ 48 - 3), (38, 1), (27, 1)]) |>.block with swaps := [(0, some { lcore := 1, empty := false, phase := .copying })] },
    ⟨0, 2, .ok, .ok, []⟩, ⟨.signal, word 5 0 [(88, 7), (40, 2 ^ 48 - 3), (38, 1), (27, 1)]⟩, 1,
    { lcore := 1, empty := false, phase := .copying }, by decide +kernel⟩,
    ⟨ready.at5 (word 5 0 [(88, 7), (40, 5), (38, 2), (34, 4)]) |>.setTreg 0 2 4 5 |>.block |>.in888, ⟨0, 2, .ok, .ok,
    []⟩, ⟨.signal, word 5 0 [(88, 7), (40, 5), (38, 2), (34, 4)]⟩, by decide +kernel⟩,
    ⟨ready.at5 (word 5 0 [(88, 7), (40, 5), (38, 2), (34, 4)]) |>.setTreg 0 2 4 9 |>.block |>.in888, ⟨0, 2, .ok, .ok,
    []⟩, ⟨.signal, word 5 0 [(88, 7), (40, 5), (38, 2), (34, 4)]⟩, Code.GAS_UNREACHABLE, by decide +kernel⟩,
    ⟨ready.at5 (word 5 0 [(88, 7), (40, 5), (38, 3)]) |>.block |>.put [(F.HLK_STAT.STATE, 3, 0, 0)], ⟨0, 2, .ok, .ok,
    []⟩, ⟨.signal, word 5 0 [(88, 7), (40, 5), (38, 3)]⟩, by decide +kernel⟩,
    ⟨ready.at5 (word 5 0 [(88, 7), (40, 5), (38, 3)]) |>.block, ⟨0, 2, .ok, .ok, []⟩, ⟨.signal, word 5 0 [(88, 7),
    (40, 5), (38, 3)]⟩, by decide +kernel⟩⟩

/-! ### The hypotheses of VectorResults -/

theorem witness_VectorResults_1 :
    ∃ (d : Dev) (c : Instr) (op : Op) (i : Issue) (x : Ins), ((c, op) ∈ ([(.vadd i, .vadd), (.vsub i, .vsub),
    (.vmul i, .vmul), (.vfma i, .vfma), (.vmax i, .vmax), (.vmin i, .vmin), (.vscale i, .vscale), (.vcvt i, .vcvt),
    (.vexp i, .vexp), (.vrecip i, .vrecip), (.vrsqrt i, .vrsqrt), (.vsilu i, .vsilu), (.vgate i, .vgate), (.vrsum i,
    .vrsum), (.vrmax i, .vrmax), (.vlsum i, .vlsum), (.vlmax i, .vlmax)] : List (Instr × Op)))
    ∧ d.mayIssue op i x = true ∧ i.data ≠ .uncorrectable ∧ d.queuesEmpty i.core = true ∧ d.noNumericStop i.core = true
    ∧ d.hazardFree i x = true :=
  ⟨ready.at5 (word 3 0 [(57, 2), (38, 64), (19, 128), (0, 256), (90,
  3)]) |>.setTreg 0 2 3 (1065353216) |>.wrStore 0 4096 (List.replicate 2048 0x3f) |>.put [(F.CORE_NUM_CTRL.MXNAN_STOP,
  0, 0, 0), (F.CORE_NUM_CTRL.INVALID_STOP, 0, 0, 0), (F.CORE_NUM_CTRL.OVERFLOW_STOP, 0, 0, 0)], .vadd ⟨0, 2, .ok, .ok,
  []⟩, .vadd, ⟨0, 2, .ok, .ok, []⟩, ⟨.vadd, word 3 0 [(57, 2), (38, 64), (19, 128), (0, 256), (90, 3)]⟩, .head _,
  by decide +kernel⟩

/-! ### The hypotheses of EngineSteps -/

theorem witness_EngineSteps_1_to_4 :
    (∃ (d : Dev) (c : Fin 128) (e : Fin 2) (s : Nat), (d.engine c e).loading = some s) ∧
    (∃ (d : Dev) (c : Fin 128) (e : Fin 2) (x : Entry) (acc src : Bool) (fmt rows base addr : Nat) (bytes : List Byte),
     (d.core c).faulted = false ∧ d.activeStream c e = some x ∧ x.op = .stream false acc src fmt rows base addr
     ∧ d.rowSource c e src fmt addr x.n = some bytes ∧ d.slotFree c e ((base + x.n) % 4096) x.seq = true
     ∧ d.noNumericStop c = true ∧ ∀ r ∈ (d.engine c e).flight, ¬ (r.seq = x.seq ∧ r.row = x.n)) ∧
    (∃ (d : Dev) (c : Fin 128) (e : Fin 2) (r : RowInFlight) (rest : List RowInFlight) (q : Nat) (x : Entry),
     (d.engine c e).flight = r :: rest ∧ d.entryOfRow c e r.seq = some (q, x) ∧ d.noNumericStop c = true
     ∧ ∀ r' ∈ rest, ¬ (r'.seq = r.seq ∧ r'.row = r.row)) ∧
    (∃ (d : Dev) (c : Fin 128) (e : Fin 2) (x : Entry) (intlv : Bool) (ofmt : Nat) (scale : Int) (slot count addr stride : Nat),
     d.activeEmit c e = some x ∧ x.op = .emit intlv ofmt scale slot count addr stride ∧ ofmt < 4
     ∧ (intlv = true → 2 ≤ ofmt) ∧ d.heldByRow c e x.seq = false
     ∧ d.slotWritten c e ((slot + x.n) % 4096) x.seq = true
     ∧ ((d.engine c e).slot ((slot + x.n) % 4096)).poison = false ∧ d.noNumericStop c = true ∧ (∀ j,
     j < 128 → ((d.engine c e).even.getD j []).length = 1 ∨ intlv = false ∨ x.n % 2 = 0)
     ∧ storeOk (Dev.emitRow intlv addr stride x.n) (if intlv then 256 else 128 * (elemFmt ofmt).bytes) = true) :=
  ⟨⟨(ready.modEngine 0 0 fun g => { g with loading := some 3, tile := some { mode := 1, etype := 0, rows := [] } }).setQueue 0 0 [{ seq := 3, thread := 2, pc := 5, op := .loads 0 1 0 4096 64, started := true }],
    0, 0, 3, by decide +kernel⟩,
    ⟨((ready.put [(F.CORE_NUM_CTRL.MXNAN_STOP, 0, 0, 0), (F.CORE_NUM_CTRL.INVALID_STOP, 0, 0, 0),
    (F.CORE_NUM_CTRL.OVERFLOW_STOP, 0, 0,
    0)]).setQueue 0 0 [{ seq := 3, thread := 2, pc := 5, op := .stream false true false 8 2 7 0, started := true }]).modCore 0 fun k => { k with fifo0 := List.replicate (rowBytes 8) 0x38 },
    0, 0, { seq := 3, thread := 2, pc := 5, op := .stream false true false 8 2 7 0, started := true }, true, false, 8,
    2, 7, 0, List.replicate (rowBytes 8) 0x38, by decide +kernel⟩,
    ⟨((ready.put [(F.CORE_NUM_CTRL.MXNAN_STOP, 0, 0, 0), (F.CORE_NUM_CTRL.INVALID_STOP, 0, 0, 0),
    (F.CORE_NUM_CTRL.OVERFLOW_STOP, 0, 0,
    0)]).modEngine 0 0 fun g => { g with flight := [{ seq := 3, row := 0, slot := 7, add := true, k := 64, sums := List.replicate 128 0x3f800000, poison := false }] }).setQueue 0 0 [{ seq := 3, thread := 2, pc := 5, op := .stream false true true 8 2 7 4096, started := true, n := 1 }],
    0, 0,
    { seq := 3, row := 0, slot := 7, add := true, k := 64, sums := List.replicate 128 0x3f800000, poison := false },
    [], 0, { seq := 3, thread := 2, pc := 5, op := .stream false true true 8 2 7 4096, started := true, n := 1 },
    by decide +kernel⟩,
    ⟨((ready.put [(F.CORE_NUM_CTRL.MXNAN_STOP, 0, 0, 0), (F.CORE_NUM_CTRL.INVALID_STOP, 0, 0, 0),
    (F.CORE_NUM_CTRL.OVERFLOW_STOP, 0, 0,
    0)]).modEngine 0 0 fun g => { g with slots := [(7, { vals := [(0, 0x40000000), (5, 0xc0000001)], terms := 4090 })] }).setQueue 0 0 [{ seq := 3, thread := 2, pc := 5, op := .emit false 1 2 7 2 4096 512, started := true }],
    0, 0, { seq := 3, thread := 2, pc := 5, op := .emit false 1 2 7 2 4096 512, started := true }, false, 1, 2, 7, 2,
    4096, 512, by decide +kernel⟩⟩

/-! ### The hypotheses of CoreEvents -/

theorem witness_CoreEvents_1_to_10 :
    (∃ (d : Dev) (c : Fin 128) (q : Fin 8) (x : Entry), d.retiring c q = some x ∧ x.sig = none) ∧
    (∃ (d : Dev) (c : Fin 128) (q : Fin 8) (x : Entry) (n : Nat), d.retiring c q = some x ∧ x.sig = some n ∧ n < 4096
     ∧ d.copying c = false ∧ d.judge c n 1 = .applied ∧ d.on F.SAFE_LS_CTRL.EN = false) ∧
    (∃ (d : Dev) (c : Fin 128) (t : Fin 16) (w : WaitInfo), d.threadWait c t = some w ∧ d.waitHolds c w = true
     ∧ w.target < 2 ^ 48 ∧ w.cntr < 4096) ∧
    (∃ (d : Dev) (c : Fin 128) (q : Fin 8) (x : Entry) (w : WaitInfo), d.headWait c q = some (x, w)
     ∧ d.waitHolds c w = true ∧ w.target < 2 ^ 48) ∧
    (∃ (d : Dev) (c : Fin 128) (t : Fin 16) (w : WaitInfo), d.threadWait c t = some w ∧ w.timeoutUs ≠ 0
     ∧ 1000 * w.timeoutUs ≤ (d.chrono + 2 ^ 64 - w.since) % 2 ^ 64 ∧ d.waitHolds c w = false) ∧
    (∃ (d : Dev) (c : Fin 128) (t : Fin 16) (f : FenceInfo), (d.thread c t).fence = some f ∧ f.signal = none
     ∧ (d.core c).faulted = false ∧ d.fenceDone c f.scope f.seq = true ∧ (d.thread c t).startReq = false) ∧
    (∃ (d : Dev) (c : Fin 128) (t : Fin 16) (f : FenceInfo), (d.thread c t).fence = some f ∧ f.signal = none
     ∧ (d.core c).faulted = false ∧ d.fenceDone c f.scope f.seq = true ∧ (d.thread c t).haltReq = true
     ∧ (d.thread c t).startReq = true ∧ (d.core c).paused = false ∧ (d.core c).forced = false) ∧
    (∃ (d : Dev) (c : Fin 128) (t : Fin 16) (f : FenceInfo) (g : SignalInfo), (d.thread c t).fence = some f
     ∧ f.signal = some g ∧ (d.core c).faulted = false ∧ d.fenceDone c f.scope f.seq = true) ∧
    (∃ (d : Dev) (c : Fin 128), (d.core c).mapPending = true
     ∧ d.dmaOutstanding c (d.gf F.CORE_FAULT_STAT.QUEUE c) (d.gf F.CORE_FAULT_SEQ.SEQ c) = false) ∧
    (∃ (d : Dev) (c : Fin 128), (d.core c).clearHeld = true ∧ d.faultSettled c = true
     ∧ (d.core c).clearThenResume = false ∧ (d.core c).clearThenStop = false) :=
  ⟨⟨ready.setQueue 0 6 [{ seq := 3, thread := 2, pc := 5, op := .gas .gst { dst := 0, src := 0, type := 3 } 0 0, started := true, done := true }],
    0, 6,
    { seq := 3, thread := 2, pc := 5, op := .gas .gst { dst := 0, src := 0, type := 3 } 0 0, started := true, done := true },
    by decide +kernel⟩,
    ⟨ready.setQueue 0 6 [{ seq := 3, thread := 2, pc := 5, op := .gas .gst { dst := 0, src := 0, type := 3 } 0 0, started := true, done := true, sig := some 9 }],
    0, 6,
    { seq := 3, thread := 2, pc := 5, op := .gas .gst { dst := 0, src := 0, type := 3 } 0 0, started := true, done := true, sig := some 9 },
    9, by decide +kernel⟩,
    ⟨(ready.setThread 0 2 { st := .waiting, wait := some { cntr := 7, target := 5, timeoutUs := 3, tres := 4 } }).put [(F.SYN_CNT_n.VALUE,
    9, 0, 7)], 0, 2, { cntr := 7, target := 5, timeoutUs := 3, tres := 4 }, by decide +kernel⟩,
    ⟨(ready.setQueue 0 6 [{ seq := 3, thread := 2, pc := 5, op := .wait { cntr := 7, target := 5 }, started := true }]).put [(F.SYN_CNT_n.VALUE,
    9, 0, 7)], 0, 6, { seq := 3, thread := 2, pc := 5, op := .wait { cntr := 7, target := 5 }, started := true },
    { cntr := 7, target := 5 }, by decide +kernel⟩,
    ⟨(ready.setThread 0 2 { st := .waiting, wait := some { cntr := 7, target := 5, timeoutUs := 3, tres := 4 } }) |>.setTreg 0 2 4 8 |> fun d => { d with chrono := 3000 },
    0, 2, { cntr := 7, target := 5, timeoutUs := 3, tres := 4 }, by decide +kernel⟩,
    ⟨ready.setThread 0 2 { st := .running, fence := some { scope := 1, seq := 4 }, haltReq := true }, 0, 2,
    { scope := 1, seq := 4 }, by decide +kernel⟩,
    ⟨ready.setThread 0 2 { st := .running, fence := some { scope := 1, seq := 4 }, haltReq := true, startReq := true },
    0, 2, { scope := 1, seq := 4 }, by decide +kernel⟩,
    ⟨ready.setThread 0 2 { st := .running, fence := some { scope := 15, seq := 4, signal := some { dest := 0, cntr := 7, value := 5, core := 0, device := 0, seq := 4, pc := 5, thread := 2 } } },
    0, 2,
    { scope := 15, seq := 4, signal := some { dest := 0, cntr := 7, value := 5, core := 0, device := 0, seq := 4, pc := 5, thread := 2 } },
    { dest := 0, cntr := 7, value := 5, core := 0, device := 0, seq := 4, pc := 5, thread := 2 }, by decide +kernel⟩,
    ⟨((ready.modCore 0 fun k => { k with mapPending := true, faulted := true }).setQueue 0 4 [{ seq := 3, thread := 2, pc := 5, op := .dma { nextAddr := 0, desc := some ({ src := 4096, dst := 8192, rowBytes := 64, rows := 4, srcStride := 64, dstStride := 64, srcKey := 0, dstKey := 0, hint := 0, useCount := 0, srcSp := true, dstSp := true, mcast := false, coreMask := 0, transit := 0, next := 0 }), got := [(0, 64), (128, 64)], failed := some 9 }, started := true, stuck := true }]).put [(F.CORE_FAULT_STAT.QUEUE,
    4, 0, 0), (F.CORE_FAULT_SEQ.SEQ, 3, 0, 0)], 0, by decide +kernel⟩,
    ⟨((ready.modCore 0 fun k => { k with clearHeld := true, faulted := true }).setQueue 0 4 [{ seq := 3, thread := 2, pc := 5, op := .dma { nextAddr := 0, desc := some ({ src := 4096, dst := 8192, rowBytes := 64, rows := 4, srcStride := 64, dstStride := 64, srcKey := 0, dstKey := 0, hint := 0, useCount := 0, srcSp := true, dstSp := true, mcast := false, coreMask := 0, transit := 0, next := 0 }), got := [(0, 64), (128, 64)], failed := some 9 }, started := true, stuck := true }]).setThread 0 2 { st := .faulted },
    0, by decide +kernel⟩⟩

theorem witness_CoreEvents_11_to_12 :
    (∃ (d : Dev) (c : Fin 128), (d.core c).paused = false ∧ (d.core c).faulted = false ∧ (d.core c).forced = false
     ∧ d.on F.CORE_PREEMPT_CTRL.REQ c = true ∧ d.pausePoint c = true) ∧
    (∃ (d : Dev) (c : Fin 128), d.on F.CORE_PREEMPT_CTRL.REQ c = true ∧ (d.core c).paused = false
     ∧ d.on F.CORE_PREEMPT_STAT.LATE c = false) :=
  ⟨⟨((ready.modEngine 0 1 fun g => { g with slots := [(3, { poison := true })] }).setThread 0 2 { st := .parked }).put [(F.CORE_PREEMPT_CTRL.REQ,
    1, 0, 0)], 0, by decide +kernel⟩,
    ⟨ready.put [(F.CORE_PREEMPT_CTRL.REQ, 1, 0, 0)], 0, by decide +kernel⟩⟩

/-! ### The hypotheses of CoreControl -/

theorem witness_CoreControl_1_to_10 :
    (∃ (d : Dev) (c : Fin 128) (t : Fin 16), d.accepts ⟨.CORE_THREAD_n_CTRL, c, t, 0⟩ = true
     ∧ (d.core c).faulted = false ∧ (d.core c).paused = false ∧ (d.core c).forced = false
     ∧ (d.thread c t).st = .halted) ∧
    (∃ (d : Dev) (c : Fin 128) (t : Fin 16), d.accepts ⟨.CORE_THREAD_n_CTRL, c, t, 0⟩ = true
     ∧ (d.thread c t).st = .running ∧ (d.thread c t).fence = none) ∧
    (∃ (d : Dev) (c : Fin 128) (t : Fin 16), d.accepts ⟨.CORE_THREAD_n_PC, c, t, 0⟩ = true
     ∧ (d.thread c t).st = .halted) ∧
    (∃ (d : Dev) (c : Fin 128) (t m : Fin 16), d.accepts ⟨.CORE_THREAD_n_T_m, c, t, m⟩ = true
     ∧ (d.thread c t).st = .halted) ∧
    (∃ (d : Dev) (c : Fin 128), d.accepts ⟨.CORE_CTRL, c, 0, 0⟩ = true ∧ (d.core c).faulted = true
     ∧ d.faultSettled c = true) ∧
    (∃ (d : Dev) (c : Fin 128), d.accepts ⟨.CORE_CTRL, c, 0, 0⟩ = true ∧ (d.core c).faulted = false
     ∧ (d.core c).forced = true ∧ (d.core c).clearHeld = false) ∧
    (∃ (d : Dev) (c : Fin 128), d.accepts ⟨.CORE_CTRL, c, 0, 0⟩ = true ∧ (d.core c).faulted = false
     ∧ (d.core c).clearHeld = false) ∧
    (∃ (d : Dev) (c : Fin 128), d.accepts ⟨.CORE_PREEMPT_CTRL, c, 0, 0⟩ = true
     ∧ d.on F.CORE_PREEMPT_CTRL.REQ c = false) ∧
    (∃ (d : Dev) (c : Fin 128), d.accepts ⟨.CORE_PREEMPT_CTRL, c, 0, 0⟩ = true ∧ d.on F.CORE_PREEMPT_CTRL.REQ c = true) ∧
    (∃ (d : Dev) (c : Fin 128), d.accepts ⟨.CORE_NUM_CTRL, c, 0, 0⟩ = true ∧ d.coreIdle c = true) :=
  ⟨⟨ready, 0, 2, by decide +kernel⟩,
    ⟨ready.setThread 0 2 { st := .running }, 0, 2, by decide +kernel⟩,
    ⟨ready.setThread 0 2 { st := .halted, pastEnd := true }, 0, 2, by decide +kernel⟩,
    ⟨ready, 0, 2, 5, by decide +kernel⟩,
    ⟨((ready.modCore 0 fun k => { k with faulted := true }).setQueue 0 4 [{ seq := 3, thread := 2, pc := 5, op := .dma { nextAddr := 0, desc := some ({ src := 4096, dst := 8192, rowBytes := 64, rows := 4, srcStride := 64, dstStride := 64, srcKey := 0, dstKey := 0, hint := 0, useCount := 0, srcSp := true, dstSp := true, mcast := false, coreMask := 0, transit := 0, next := 0 }), got := [(0, 64), (128, 64)], failed := some 9 }, started := true, stuck := true }]).setThread 0 2 { st := .faulted },
    0, by decide +kernel⟩,
    ⟨(ready.modCore 0 fun k => { k with forced := true }).setThread 0 2 { st := .stopped, prev := .switched }, 0,
    by decide +kernel⟩,
    ⟨(ready.setThread 0 2 { st := .running }).setQueue 0 6 [{ seq := 3, thread := 2, pc := 5, op := .wait { cntr := 7, target := 5 }, started := true }],
    0, by decide +kernel⟩,
    ⟨ready, 0, by decide +kernel⟩,
    ⟨((ready.setThread 0 2 { st := .parked }).setQueue 0 6 [{ seq := 3, thread := 2, pc := 5, op := .wait { cntr := 7, target := 5 }, started := true }]).put [(F.CORE_PREEMPT_CTRL.REQ,
    1, 0, 0)], 0, by decide +kernel⟩,
    ⟨ready, 0, by decide +kernel⟩⟩

theorem witness_CoreControl_11 :
    ∃ (d : Dev) (c : Fin 128), d.accepts ⟨.CORE_SR_SEED, c, 0, 0⟩ = true ∧ d.coreIdle c = true :=
  ⟨ready, 0, by decide +kernel⟩

/-! ### The hypotheses of SpectrographAndCounters -/

theorem witness_SpectrographAndCounters_1_to_6 :
    (∃ (d : Dev) (c : Fin 128) (k : Fin 4), d.accepts ⟨.CORE_SPEC_k_CTRL, c, k, 0⟩ = true) ∧
    (∃ (d : Dev) (c : Fin 128) (k : Fin 4) (v : Word), d.accepts ⟨.CORE_SPEC_k_CTRL, c, k, 0⟩ = true
     ∧ getBits v 1 1 = 0) ∧
    (∃ (d : Dev) (c : Fin 128) (k : Fin 4) (hi : Bool), d.accepts ⟨if hi then .CORE_SPEC_k_HI else .CORE_SPEC_k_LO, c,
     k, 0⟩ = true) ∧
    (∃ (d : Dev) (c : Fin 128) (n : Fin 4096), d.accepts ⟨.SYN_CNT_n, c, n, 0⟩ = true) ∧
    (∃ (d : Dev) (c : Fin 128) (n : Fin 4096) (v : Word), d.accepts ⟨.SYN_CNT_n_ADD, c, n, 0⟩ = true
     ∧ d.judge c n (sext 48 (getBits v 47 0)) = .applied
     ∧ (d.on F.SAFE_LS_CTRL.EN = false ∨ d.gf F.SAFE_LS_CTRL.MARK_CNTR ≠ n)) ∧
    (∃ (d : Dev) (c : Fin 128) (n : Fin 4096) (v : Word), d.accepts ⟨.SYN_CNT_n_ADD, c, n, 0⟩ = true
     ∧ d.judge c n (sext 48 (getBits v 47 0)) ≠ .applied ∧ (d.core c).faulted = false) :=
  ⟨⟨ready.put [(F.CORE_SPEC_k_STAT.ALERT, 5, 0, 3), (F.CORE_SPEC_k_CTRL.ARM, 1, 0, 3)], 0, 3, by decide +kernel⟩,
    ⟨ready, 0, 3, 0x123400000000003D, by decide +kernel⟩,
    ⟨ready, 0, 3, true, by decide +kernel⟩,
    ⟨ready, 0, 7, by decide +kernel⟩,
    ⟨ready.put [(F.SYN_CNT_n.VALUE, 9, 0, 7)], 0, 7, 0xFFFFFFFFFFFFFFFE, by decide +kernel⟩,
    ⟨ready, 0, 7, 0xFFFFFFFFFFFFFFFE, by decide +kernel⟩⟩

/-! ### The hypotheses of SpareCoreSwaps -/

theorem witness_SpareCoreSwaps_1_to_7 :
    (∃ (d : Dev) (k : Fin 32), d.accepts ⟨.CLU_SWAP_CTRL, k, 0, 0⟩ = true ∧ d.swapOf k = none ∧ d.hasSpare k = true) ∧
    (∃ (d : Dev) (k : Fin 32), d.accepts ⟨.CLU_SWAP_CTRL, k, 0, 0⟩ = true ∧ d.swapOf k = none ∧ d.hasSpare k = true) ∧
    (∃ (d : Dev) (k : Fin 32) (s : Swap), d.accepts ⟨.CLU_SWAP_CTRL, k, 0, 0⟩ = true ∧ d.swapOf k = some s
     ∧ s.phase = .waiting) ∧
    (∃ (d : Dev) (k : Fin 32) (s : Swap), d.swapOf k = some s ∧ s.powered = false ∧ s.phase = .waiting ∧ s.lcore < 4) ∧
    (∃ (d : Dev) (k : Fin 32) (s : Swap), d.swapOf k = some s ∧ s.powered = false ∧ s.phase = .waiting) ∧
    (∃ (d : Dev) (k : Fin 32) (s : Swap), d.swapOf k = some s ∧ s.phase = .copying) ∧
    (∃ (d : Dev) (k : Fin 32) (s : Swap), d.swapOf k = some s ∧ s.phase = .copied ∧ s.held = [] ∧ s.lcore < 4) :=
  ⟨⟨ready, 0, by decide +kernel⟩,
    ⟨((ready.setThread 0 2 { st := .running }).setThread 1 2 { st := .running }).wrStore 1 4096 [1, 2], 0,
    by decide +kernel⟩,
    ⟨(ready.setSwap 0 (some { lcore := 1, empty := false, phase := .waiting })).put [(F.CLU_SWAP_CTRL.REQ, 1, 0, 0)],
    0, { lcore := 1, empty := false, phase := .waiting }, by decide +kernel⟩,
    ⟨(ready.setSwap 0 (some { lcore := 1, empty := false, phase := .waiting })).put [(F.CLU_SWAP_CTRL.REQ, 1, 0, 0)],
    0, { lcore := 1, empty := false, phase := .waiting }, by decide +kernel⟩,
    ⟨(ready.setSwap 0 (some { lcore := 1, empty := false, phase := .waiting })).put [(F.CLU_SWAP_CTRL.REQ, 1, 0, 0)],
    0, { lcore := 1, empty := false, phase := .waiting }, by decide +kernel⟩,
    ⟨(ready.setSwap 0 (some { lcore := 1, empty := false, phase := .copying })).put [(F.CLU_SWAP_CTRL.REQ, 1, 0, 0)],
    0, { lcore := 1, empty := false, phase := .copying }, by decide +kernel⟩,
    ⟨(ready.setSwap 0 (some { lcore := 1, empty := false, phase := .copied })).put [(F.CLU_SWAP_CTRL.REQ, 1, 0, 0)],
    0, { lcore := 1, empty := false, phase := .copied }, by decide +kernel⟩⟩

/-! ### The hypotheses of DmaEngines -/

theorem witness_DmaEngines_1_to_5 :
    (∃ (d : Dev) (c : Fin 128) (cl : Bool) (seq : Nat) (x : Entry) (r : DmaRun) (b : List Byte) (y : DmaDesc),
     d.dmaEntry c (dmaQueue cl) seq = some (x, r) ∧ x.started = true ∧ x.done = false ∧ x.stuck = false
     ∧ r.desc = none ∧ r.failed = none ∧ b = d.rdStore c r.nextAddr 64 ∧ y = dmaDescOf b
     ∧ dmaBadDesc d.self (dmaQueue cl - 4) b = false ∧ dmaBadAddr y = false ∧ d.dmaReach y = none ∧ y.srcSp = true
     ∧ y.dstSp = true ∧ y.toFifo = false ∧ (y.rowBytes ≤ y.dstStride ∨ y.rows = 1) ∧ ∀ t ∈ Dev.dmaTargets c y,
     d.copying t = false) ∧
    (∃ (d : Dev) (c : Fin 128) (cl : Bool) (seq : Nat) (x : Entry) (r : DmaRun) (b : List Byte) (y : DmaDesc),
     d.dmaEntry c (dmaQueue cl) seq = some (x, r) ∧ x.started = true ∧ x.done = false ∧ x.stuck = false
     ∧ r.desc = none ∧ r.failed = none ∧ b = d.rdStore c r.nextAddr 64 ∧ y = dmaDescOf b
     ∧ dmaBadDesc d.self (dmaQueue cl - 4) b = false ∧ dmaBadAddr y = false ∧ d.dmaReach y = none ∧ y.srcSp = false) ∧
    (∃ (d : Dev) (c : Fin 128) (cl : Bool) (seq : Nat) (x : Entry) (r : DmaRun) (b : List Byte) (y : DmaDesc),
     d.dmaEntry c (dmaQueue cl) seq = some (x, r) ∧ x.started = true ∧ x.done = false ∧ x.stuck = false
     ∧ r.desc = none ∧ r.failed = none ∧ b = d.rdStore c r.nextAddr 64 ∧ y = dmaDescOf b
     ∧ dmaBadDesc d.self (dmaQueue cl - 4) b = false ∧ dmaBadAddr y = false ∧ d.dmaReach y = none ∧ y.srcSp = true
     ∧ y.dstSp = false) ∧
    (∃ (d : Dev) (c : Fin 128) (cl : Bool) (seq : Nat) (x : Entry) (r : DmaRun) (y : DmaDesc),
     d.dmaEntry c (dmaQueue cl) seq = some (x, r) ∧ x.stuck = false ∧ r.failed = none ∧ r.complete = true
     ∧ r.desc = some y ∧ (y.next = 0 ∨ r.index ≠ 4095)) ∧
    (∃ (d : Dev) (c : Fin 128) (cl : Bool) (seq n : Nat) (x : Entry) (r : DmaRun) (y : DmaDesc) (bs : List Byte),
     d.dmaEntry c (dmaQueue cl) seq = some (x, r) ∧ x.stuck = false ∧ r.failed = none ∧ r.desc = some y
     ∧ y.toFifo = true ∧ y.srcSp = true ∧ (∀ t ∈ Dev.dmaTargets c y, d.copying t = false)
     ∧ bs = (List.range (min (min n (d.fifoSpace c y)) (y.total - r.appended))).map fun k => d.rdByte c (y.srcAt (r.appended + k))) :=
  ⟨⟨({ready.in888 with coreStore := bytesAt 0x1000 (dmaDesc 8192 16384 64 3 128 3)} : Dev).setQueue 0 4 [entry (.dma { nextAddr := 0x1000 })],
    0, false, 3, entry (.dma { nextAddr := 0x1000 }), { nextAddr := 0x1000 }, dmaDesc 8192 16384 64 3 128 3,
    dmaDescOf (dmaDesc 8192 16384 64 3 128 3), by decide +kernel⟩,
    ⟨({ready.in888 with coreStore := bytesAt 0x1000 (dmaDesc 8192 16384 64 3 128 2)} : Dev).setQueue 0 4 [entry (.dma { nextAddr := 0x1000 })],
    0, false, 3, entry (.dma { nextAddr := 0x1000 }), { nextAddr := 0x1000 }, dmaDesc 8192 16384 64 3 128 2,
    dmaDescOf (dmaDesc 8192 16384 64 3 128 2), by decide +kernel⟩,
    ⟨({ready.in888 with coreStore := bytesAt 0x1000 (dmaDesc 8192 16384 5000 2 5000 1)} : Dev).setQueue 0 4 [entry (.dma { nextAddr := 0x1000 })],
    0, false, 3, entry (.dma { nextAddr := 0x1000 }), { nextAddr := 0x1000 }, dmaDesc 8192 16384 5000 2 5000 1,
    dmaDescOf (dmaDesc 8192 16384 5000 2 5000 1), by decide +kernel⟩,
    ⟨ready.setQueue 0 4 [entry (.dma { nextAddr := 0x1000, desc := some (dmaDescOf (dmaDesc 0x2000 0x4000 64 1 64 3 0)), got := [(0, 64)] })],
    0, false, 3,
    entry (.dma { nextAddr := 0x1000, desc := some (dmaDescOf (dmaDesc 0x2000 0x4000 64 1 64 3 0)), got := [(0, 64)] }),
    { nextAddr := 0x1000, desc := some (dmaDescOf (dmaDesc 0x2000 0x4000 64 1 64 3 0)), got := [(0, 64)] },
    dmaDescOf (dmaDesc 0x2000 0x4000 64 1 64 3 0), by decide +kernel⟩,
    ⟨({ready with coreStore := bytesAt 0x2000 (List.replicate 100 9)} : Dev).setQueue 0 4 [entry (.dma { nextAddr := 0x1000, desc := some (dmaDescOf (dmaDesc 0x2000 0x800000 64 2 64 3)) })],
    0, false, 3, 100,
    entry (.dma { nextAddr := 0x1000, desc := some (dmaDescOf (dmaDesc 0x2000 0x800000 64 2 64 3)) }),
    { nextAddr := 0x1000, desc := some (dmaDescOf (dmaDesc 0x2000 0x800000 64 2 64 3)) },
    dmaDescOf (dmaDesc 0x2000 0x800000 64 2 64 3), List.replicate 100 9, by decide +kernel⟩⟩

/-! ### The hypotheses of AttentionUnit -/

theorem witness_AttentionUnit_1_to_5 :
    (∃ (d : Dev) (c : Fin 128) (x : Entry) (r : AttnRun) (b : List Byte) (y : AttnDesc), d.attnEntry c = some x
     ∧ d.attnRun c = some r ∧ r.desc = none ∧ r.faulted = false ∧ b = d.rdStore c r.nextAddr 128 ∧ y = attnDescOf b
     ∧ attnBadDesc b = false ∧ attnBadAddr y = false ∧ inHbmRange (y.map % 2 ^ 46) = true
     ∧ y.map % 2 ^ 46 + 16 * (y.kEnd + 256) < 0x9000000000 ∧ d.gasReach (y.map / 2 ^ 46) = none) ∧
    (∃ (d : Dev) (c : Fin 128) (n : Nat) (x : Entry) (r : AttnRun) (y : AttnDesc) (b : List Byte) (p : Nat × Nat),
     d.attnEntry c = some x ∧ d.attnRun c = some r ∧ r.desc = some y ∧ r.faulted = false
     ∧ (if r.appended then Dev.needsEntry y r.nextKey n = true else n ∈ Dev.entriesOf y y.kvLen y.kEnd)
     ∧ r.entries.any (fun e => decide (e.1 = n)) = false ∧ Dev.attnBytes r (y.map + 16 * n) 16 = some b
     ∧ mapEntryOf b = some p) ∧
    (∃ (d : Dev) (c : Fin 128) (x : Entry) (r : AttnRun) (y : AttnDesc), d.attnEntry c = some x ∧ d.attnRun c = some r
     ∧ r.desc = some y ∧ r.faulted = false ∧ r.appended = false ∧ r.appendAt = y.append ∧ y.append ≤ 128
     ∧ y.appendOnly = false ∧ d.attnUnacked c = []) ∧
    (∃ (d : Dev) (c : Fin 128) (x : Entry) (r : AttnRun) (y : AttnDesc) (k0 : Nat) (p : Nat × Nat) (kb vb : List Byte) (q : List (List Byte)) (o : Dev.BlockOut),
     d.attnEntry c = some x ∧ d.attnRun c = some r ∧ r.desc = some y ∧ r.faulted = false ∧ r.appended = true
     ∧ y.blockAt r.nextKey = some k0 ∧ Dev.pageOf r y k0 = some p
     ∧ Dev.attnBytes r (p.1 + k0 % y.tokens * y.rowB) (y.blockLen k0 * y.rowB) = some kb
     ∧ Dev.attnBytes r (p.1 + k0 % y.tokens * y.rowB + 0x8000) (y.blockLen k0 * y.rowB) = some vb
     ∧ q = r.query.getD (d.queryTile c y)
     ∧ o = Dev.softmaxBlock y q k0 r.cols (Dev.blockRows y kb) (Dev.blockRows y vb) ∧ d.noNumericStop c = true) ∧
    (∃ (d : Dev) (c : Fin 128) (x : Entry) (r : AttnRun) (y : AttnDesc), d.attnEntry c = some x ∧ d.attnRun c = some r
     ∧ r.desc = some y ∧ r.faulted = false ∧ r.appended = true ∧ y.blockAt r.nextKey = none ∧ y.appendOnly = false
     ∧ attnBadAddr y = false ∧ y.stats = false ∧ y.next = 0 ∧ y.ofmt < 4 ∧ y.oCol + y.npos ≤ 128
     ∧ 128 * (elemFmt y.ofmt).bytes ≤ y.oStride ∧ y.work + y.workB ≤ 2 ^ 23
     ∧ Dev.apart y.work y.workB y.oAddr (rowSpan (128 * y.hq) (128 * (elemFmt y.ofmt).bytes) y.oStride) = true
     ∧ d.noNumericStop c = true) :=
  ⟨⟨((ready.in888.setQueue 0 3 [entry (.attn 0x1000)]).setAttn 0 ({ seq := 3, thread := 2, pc := 5, nextAddr := 0x1000 })).wrStore 0 0x1000 attnDesc,
    0, entry (.attn 0x1000), { seq := 3, thread := 2, pc := 5, nextAddr := 0x1000 }, attnDesc, attnDescOf attnDesc,
    by decide +kernel⟩,
    ⟨(ready.in888.setQueue 0 3 [entry (.attn 0x1000)]).setAttn 0 ({ seq := 3, thread := 2, pc := 5, nextAddr := 0x1000, desc := some (attnDescOf attnDesc), work := (List.range 16).map fun k => (0x100000 + k, some ((leBytes 8 0x200000 ++ leBytes 2 7 ++ [1, 0, 0, 0, 0, 0] : List Byte).getD k 0)), askedMap := [16384], appendSent := true }),
    0, 0, entry (.attn 0x1000),
    { seq := 3, thread := 2, pc := 5, nextAddr := 0x1000, desc := some (attnDescOf attnDesc), work := (List.range 16).map fun k => (0x100000 + k, some ((leBytes 8 0x200000 ++ leBytes 2 7 ++ [1, 0, 0, 0, 0, 0] : List Byte).getD k 0)), askedMap := [16384], appendSent := true },
    attnDescOf attnDesc, leBytes 8 0x200000 ++ leBytes 2 7 ++ [1, 0, 0, 0, 0, 0], (0x200000, 7), by decide +kernel⟩,
    ⟨(ready.in888.setQueue 0 3 [entry (.attn 0x1000)]).setAttn 0 ({ seq := 3, thread := 2, pc := 5, nextAddr := 0x1000, desc := some (attnDescOf attnDesc), entries := [(0, 0x200000, 7)], askedMap := [16384], askedKeys := [0], appendSent := true, appendAt := 1 }),
    0, entry (.attn 0x1000),
    { seq := 3, thread := 2, pc := 5, nextAddr := 0x1000, desc := some (attnDescOf attnDesc), entries := [(0, 0x200000, 7)], askedMap := [16384], askedKeys := [0], appendSent := true, appendAt := 1 },
    attnDescOf attnDesc, by decide +kernel⟩,
    ⟨((ready.put [(F.CORE_NUM_CTRL.MXNAN_STOP, 0, 0, 0), (F.CORE_NUM_CTRL.INVALID_STOP, 0, 0, 0),
    (F.CORE_NUM_CTRL.OVERFLOW_STOP, 0, 0,
    0)]).setQueue 0 3 [entry (.attn 0x1000)]).setAttn 0 ({ seq := 3, thread := 2, pc := 5, nextAddr := 0x1000, desc := some { attnDescOf attnDesc with kvLen := 0 }, entries := [(0, 0x200000, 7)], askedMap := [16384], askedKeys := [0], appendSent := true, appended := true, work := (List.range 128).map (fun k => (0x200000 + k, some 0x38)) ++ (List.range 128).map fun k => (0x208000 + k, some 0x38) }),
    0, entry (.attn 0x1000),
    { seq := 3, thread := 2, pc := 5, nextAddr := 0x1000, desc := some { attnDescOf attnDesc with kvLen := 0 }, entries := [(0, 0x200000, 7)], askedMap := [16384], askedKeys := [0], appendSent := true, appended := true, work := (List.range 128).map (fun k => (0x200000 + k, some 0x38)) ++ (List.range 128).map fun k => (0x208000 + k, some 0x38) },
    { attnDescOf attnDesc with kvLen := 0 }, 0, (0x200000, 7), List.replicate 128 0x38, List.replicate 128 0x38,
    (((ready.put [(F.CORE_NUM_CTRL.MXNAN_STOP, 0, 0, 0), (F.CORE_NUM_CTRL.INVALID_STOP, 0, 0, 0),
    (F.CORE_NUM_CTRL.OVERFLOW_STOP, 0, 0,
    0)]).setQueue 0 3 [entry (.attn 0x1000)]).setAttn 0 ({ seq := 3, thread := 2, pc := 5, nextAddr := 0x1000, desc := some { attnDescOf attnDesc with kvLen := 0 }, entries := [(0, 0x200000, 7)], askedMap := [16384], askedKeys := [0], appendSent := true, appended := true, work := (List.range 128).map (fun k => (0x200000 + k, some 0x38)) ++ (List.range 128).map fun k => (0x208000 + k, some 0x38) })).queryTile 0 { attnDescOf attnDesc with kvLen := 0 },
    Dev.softmaxBlock { attnDescOf attnDesc with kvLen := 0 } ((((ready.put [(F.CORE_NUM_CTRL.MXNAN_STOP, 0, 0, 0),
    (F.CORE_NUM_CTRL.INVALID_STOP, 0, 0, 0), (F.CORE_NUM_CTRL.OVERFLOW_STOP, 0, 0,
    0)]).setQueue 0 3 [entry (.attn 0x1000)]).setAttn 0 ({ seq := 3, thread := 2, pc := 5, nextAddr := 0x1000, desc := some { attnDescOf attnDesc with kvLen := 0 }, entries := [(0, 0x200000, 7)], askedMap := [16384], askedKeys := [0], appendSent := true, appended := true, work := (List.range 128).map (fun k => (0x200000 + k, some 0x38)) ++ (List.range 128).map fun k => (0x208000 + k, some 0x38) })).queryTile 0 { attnDescOf attnDesc with kvLen := 0 }) 0 [] (Dev.blockRows { attnDescOf attnDesc with kvLen := 0 } (List.replicate 128 0x38)) (Dev.blockRows { attnDescOf attnDesc with kvLen := 0 } (List.replicate 128 0x38)),
    by decide +kernel, by decide +kernel, by decide +kernel, by decide +kernel, by decide +kernel, by decide +kernel,
    by decide +kernel, by decide +kernel, by decide +kernel, rfl, rfl, by decide +kernel⟩,
    ⟨((ready.in888.put [(F.CORE_NUM_CTRL.MXNAN_STOP, 0, 0, 0), (F.CORE_NUM_CTRL.INVALID_STOP, 0, 0, 0),
    (F.CORE_NUM_CTRL.OVERFLOW_STOP, 0, 0,
    0)]).setQueue 0 3 [entry (.attn 0x1000)]).setAttn 0 ({ seq := 3, thread := 2, pc := 5, nextAddr := 0x1000, desc := some (attnDescOf attnDesc), entries := [(0, 0x200000, 7)], askedMap := [16384], askedKeys := [0], appendSent := true, appended := true, nextKey := 128, cols := List.replicate 128 { m := 0x3f800000, l := 0x40000000, o := List.replicate 128 0x40400000 } }),
    0, entry (.attn 0x1000),
    { seq := 3, thread := 2, pc := 5, nextAddr := 0x1000, desc := some (attnDescOf attnDesc), entries := [(0, 0x200000, 7)], askedMap := [16384], askedKeys := [0], appendSent := true, appended := true, nextKey := 128, cols := List.replicate 128 { m := 0x3f800000, l := 0x40000000, o := List.replicate 128 0x40400000 } },
    attnDescOf attnDesc, by decide +kernel⟩⟩

/-! ### The hypotheses of ModuleInput -/

theorem witness_ModuleInput_2_to_11 :
    (∃ (d : Dev), d.power.mated = true ∧ d.power.rise = false) ∧
    (∃ (d : Dev), d.power.mated = true ∧ d.power.rise = true ∧ d.power.pgoodIn = true ∧ d.power.aux = true
     ∧ d.power.stageOne = false ∧ d.power.path = none ∧ d.power.hold = false ∧ d.power.hot = false) ∧
    (∃ (d : Dev), d.power.closed = true ∧ d.power.aux = false ∧ d.power.pgoodIn = false) ∧
    (∃ (d : Dev) (vin : Fin 65536), d.power.closed = true ∧ d.power.aux = false ∧ d.power.pgoodIn = true
     ∧ d.power.stageOne = false ∧ d.power.path = none ∧ d.power.hold = false ∧ d.power.hot = false ∧ 4800 ≤ vin.val
     ∧ vin.val ≤ 6400) ∧
    (∃ (d : Dev), d.power.aux = true ∧ (d.power.path = none ∨ d.power.toOff = false)) ∧
    (∃ (d : Dev), d.power.aux = false) ∧
    (∃ (d : Dev), d.power.aux = true) ∧
    (∃ (d : Dev) (vin : Fin 65536), d.power.pgoodIn = false ∧ d.power.aux = true ∧ d.power.closed = true
     ∧ d.power.stageOne = false ∧ d.power.path = none ∧ d.power.hold = false ∧ d.power.hot = false ∧ 4800 ≤ vin.val
     ∧ vin.val ≤ 6400) ∧
    (∃ (d : Dev) (vin : Fin 65536), d.power.pgoodIn = false ∧ d.power.aux = true ∧ (vin.val < 4800 ∨ 6400 < vin.val)) ∧
    (∃ (d : Dev) (vin : Fin 65536), d.power.pgoodIn = false ∧ d.power.aux = true ∧ d.power.closed = false
     ∧ 4800 ≤ vin.val ∧ vin.val ≤ 6400) :=
  ⟨⟨{ power := { mated := true } }, by decide +kernel⟩,
    ⟨{ power := { mated := true, pgoodIn := true, aux := true, rise := true }, boot := { step := .off } },
    by decide +kernel⟩,
    ⟨{ power := { mated := true, closed := true } }, by decide +kernel⟩,
    ⟨{ power := { mated := true, closed := true, pgoodIn := true } }, 4800, by decide +kernel⟩,
    ⟨ready, by decide +kernel⟩,
    ⟨{ power := { mated := true, closed := true } }, by decide +kernel⟩,
    ⟨ready.setHbmByte 7 7, by decide +kernel⟩,
    ⟨{ ready.setHbmByte 7 7 with power := { mated := true, closed := true, aux := true }, boot := { step := .off } },
    6400, by decide +kernel⟩,
    ⟨{ power := { mated := true, closed := true, aux := true } }, 4799, by decide +kernel⟩,
    ⟨{ power := { mated := true, aux := true } }, 4800, by decide +kernel⟩⟩

theorem witness_ModuleInput_12_to_21 :
    (∃ (d : Dev), d.boot.step = .delay ∧ d.boot.coldNext = false ∧ d.power.path = none ∧ d.power.failed < 4) ∧
    (∃ (d : Dev), d.boot.step = .delay ∧ d.boot.coldNext = false ∧ d.power.path = none ∧ 4 ≤ d.power.failed) ∧
    (∃ (d : Dev), d.runs = true ∧ d.power.path = none) ∧
    (∃ (d : Dev), d.power.stageOne = false ∧ d.boot.step = .recovery ∧ d.power.path = none) ∧
    (∃ (d : Dev), d.power.hold = true ∧ d.boot.step ≠ .hold ∧ d.power.rise = false) ∧
    (∃ (d : Dev), d.power.hold = true ∧ d.boot.step ≠ .hold ∧ d.power.rise = true ∧ d.power.pgoodIn = true
     ∧ d.power.aux = true ∧ d.power.closed = true ∧ d.power.stageOne = false ∧ d.power.path = none
     ∧ d.power.hot = false) ∧
    (∃ (d : Dev), d.power.aux = true ∧ d.runs = false) ∧
    (∃ (d : Dev) (v : Fin 65536), d.power.aux = true ∧ d.power.stageOne = true ∧ 9 ≤ d.power.lowRun
     ∧ d.power.low = false ∧ 4400 ≤ v.val ∧ v.val < 4800 ∧ d.power.high = false) ∧
    (∃ (d : Dev) (v : Fin 65536), d.power.aux = true ∧ d.runs = true ∧ d.power.path = none ∧ ((v.val < 4400
     ∧ 1 ≤ d.power.underRun) ∨ (6600 < v.val ∧ 1 ≤ d.power.overRun))) ∧
    (∃ (d : Dev), d.power.low = true ∧ d.gf F.PWR_INPUT.VIN < 4800 ∧ d.runs = true ∧ d.power.path = none) :=
  ⟨⟨{ power := { mated := true, closed := true, aux := true, failed := 1 }, boot := { step := .delay } },
    by decide +kernel⟩,
    ⟨{ power := { mated := true, closed := true, aux := true, failed := 4 }, boot := { step := .delay } },
    by decide +kernel⟩,
    ⟨ready, by decide +kernel⟩,
    ⟨{ power := { mated := true, closed := true, aux := true, pgoodIn := true }, boot := { step := .recovery } },
    by decide +kernel⟩,
    ⟨{ power := { mated := true, closed := true, aux := true, hold := true }, boot := { step := .off } },
    by decide +kernel⟩,
    ⟨{ power := { mated := true, closed := true, aux := true, hold := true, rise := true, pgoodIn := true }, boot := { step := .off } },
    by decide +kernel⟩,
    ⟨{ power := { mated := true, closed := true, aux := true }, boot := { step := .off } }, by decide +kernel⟩,
    ⟨{ ready with power := { ready.power with lowRun := 9, underRun := 5 } }, 4400, by decide +kernel⟩,
    ⟨{ ready with power := { ready.power with lowRun := 9, underRun := 1 } }, 4399, by decide +kernel⟩,
    ⟨{ ready with power := { ready.power with low := true } }.put [(F.PWR_INPUT.VIN, 4799, 0, 0)], by decide +kernel⟩⟩

theorem witness_ModuleInput_22 :
    ∃ (d : Dev), d.power.low = true ∧ 4850 ≤ d.gf F.PWR_INPUT.VIN :=
  ⟨{ ready with power := { ready.power with low := true, failed := 3 } }.put [(F.PWR_INPUT.VIN, 4850, 0, 0),
  (F.PWR_CTRL.CAP_W, 3000, 0, 0)], by decide +kernel⟩

/-! ### The hypotheses of ShutdownAndRestart -/

theorem witness_ShutdownAndRestart_1_to_10 :
    (∃ (d : Dev), d.accepts ⟨.BOOT_CTRL, 0, 0, 0⟩ = true ∧ d.power.stageOne = true ∧ d.power.path = none
     ∧ (d.boot.step = .ready ∨ d.boot.step = .failed)) ∧
    (∃ (d : Dev), d.accepts ⟨.BOOT_CTRL, 0, 0, 0⟩ = true ∧ d.power.stageOne = true ∧ d.power.path = none
     ∧ d.boot.kind ≠ .cold ∧ d.boot.step ≠ .ready ∧ d.boot.step ≠ .failed) ∧
    (∃ (d : Dev), d.accepts ⟨.BOOT_CTRL, 0, 0, 0⟩ = true ∧ d.boot.step = .ready ∧ d.boot.warmRecord = true) ∧
    (∃ (d : Dev), d.power.path = some .clocks) ∧
    (∃ (d : Dev), d.power.path = some .rails) ∧
    (∃ (d : Dev), d.power.path = some .journal) ∧
    (∃ (d : Dev), d.boot.step = .hold ∧ d.power.path = none ∧ d.power.failed < 4) ∧
    (∃ (d : Dev), d.boot.step = .quiesce ∧ d.mem.mapout = none ∧ d.writeWaits = false ∧ d.boot.coldNext = false
     ∧ d.mem.lines = [] ∧ d.on F.LOG_CTRL.HBM_EN = false) ∧
    (∃ (d : Dev), d.boot.step = .rails ∧ d.power.stageOne = true ∧ d.power.path = none ∧ d.boot.coldNext = false
     ∧ d.power.aux = true) ∧
    (∃ (d : Dev), d.boot.step = .rom ∧ d.boot.coldNext = false) :=
  ⟨⟨ready, by decide +kernel⟩,
    ⟨{ ready with boot := { step := .quiesce, kind := .warm } }, by decide +kernel⟩,
    ⟨{ ready with boot := { step := .ready, warmRecord := true } }, by decide +kernel⟩,
    ⟨{ ready with power := { ready.power with path := some .clocks } }, by decide +kernel⟩,
    ⟨{ ready.setHbmByte 7 7 with power := { ready.power with path := some .rails } }, by decide +kernel⟩,
    ⟨{ ready.setHbmByte 7 7 with power := { ready.power with path := some .journal, toOff := true } },
    by decide +kernel⟩,
    ⟨{ power := { ready.power with hold := true, stageOne := false }, boot := { step := .hold } }, by decide +kernel⟩,
    ⟨{ (ready.setHbmByte 7 7).modEngine 0 1 fun g => { g with slots := [(3, { poison := true })] } with boot := { step := .quiesce, kind := .warm, warmRecord := true } },
    by decide +kernel⟩,
    ⟨{ ready with boot := { step := .rails } }, by decide +kernel⟩,
    ⟨{ ready with boot := { step := .rom, delayRan := true } }, by decide +kernel⟩⟩

theorem witness_ShutdownAndRestart_12_to_13 :
    (∃ (d : Dev), d.power.stageOne = true ∧ d.power.failed < 3) ∧
    (∃ (d : Dev), d.power.stageOne = true ∧ (d.power.failed = 3 ∨ d.power.failed = 4) ∧ d.power.path = none) :=
  ⟨⟨ready, by decide +kernel⟩,
    ⟨{ ready with power := { ready.power with failed := 4 } }, by decide +kernel⟩⟩

/-! ### The hypotheses of StartSteps -/

theorem witness_StartSteps_1_to_10 :
    (∃ (d : Dev) (k : Bool) (s : SecRecords) (r : Option SecRecords) (x : IdSecret), d.boot.identity = false
     ∧ d.boot.step = .firmware ∧ r = (if k then some s else none) ∧ x = idSecret (r.getD d.eph.records).helper
     ∧ (d.readRecords r).identityAgrees x.pair = true) ∧
    (∃ (d : Dev) (k : Bool) (s : SecRecords) (r : Option SecRecords) (x : IdSecret), d.boot.identity = false
     ∧ d.boot.step = .firmware ∧ r = (if k then some s else none) ∧ x = idSecret (r.getD d.eph.records).helper
     ∧ (d.readRecords r).identityAgrees x.pair = false) ∧
    (∃ (d : Dev) (r : FlashRead) (b : Bool) (x : FwImage) (a : Almanac) (ab : Bool) (f : Dev), d.boot.step = .firmware
     ∧ d.boot.coldNext = false ∧ b = d.eph.activeB
     ∧ ((if b then d.eph.stateB else d.eph.stateA) = 2 ∨ ((if b then d.eph.stateB else d.eph.stateA) = 1
     ∧ 0 < (if b then d.eph.triesB else d.eph.triesA))) ∧ f = d.readRecords r.records
     ∧ (if b then r.imageB else r.imageA) = some x ∧ f.startable x = true ∧ f.floorOf 1 < 2 ^ 32
     ∧ f.floorOf 2 < 2 ^ 64
     ∧ chooseAlmanac (fun y => (f.itemFault 2 (Dev.almanacSigner f.ownerCert.isSome) y.sig).isNone && almanacOk (f.floorOf 2) y) r.almanacA r.almanacB = (some (a,
     ab), false)) ∧
    (∃ (d : Dev) (r : FlashRead) (b : Bool) (x : FwImage), d.boot.step = .firmware ∧ d.boot.coldNext = false
     ∧ b = d.eph.activeB ∧ (if b then r.imageB else r.imageA) = none ∧ (if b then d.eph.stateA else d.eph.stateB) = 2
     ∧ (if b then r.imageA else r.imageB) = some x ∧ (d.readRecords r.records).startable x = true) ∧
    (∃ (d : Dev) (r : FlashRead), d.boot.step = .firmware ∧ r.imageA = none ∧ r.imageB = none) ∧
    (∃ (d : Dev), d.boot.step = .ephemeris ∧ d.boot.coldNext = false ∧ d.boot.kind ≠ .cold ∧ d.discardDue = false) ∧
    (∃ (d : Dev), d.boot.step = .ephemeris ∧ d.boot.coldNext = false ∧ d.boot.kind ≠ .cold ∧ d.discardDue = true) ∧
    (∃ (d : Dev) (st : Fin 16), d.boot.step = .inventory ∧ d.boot.coldNext = false ∧ d.boot.identity = true
     ∧ d.boot.almanac = none ∧ d.occulted = false ∧ d.gf F.DLK_PKG_LEVEL.MIN_M ≤ st.val ∧ ∀ k,
     k < 19 → d.on F.DLK_DIE_k_INV.PRESENT 0 k = true ∧ d.dieOutOfService k = false
     ∧ d.minStepping k ≤ d.gf F.DLK_DIE_k_INV.STEPPING 0 k) ∧
    (∃ (d : Dev), d.boot.step = .links ∧ d.boot.coldNext = false ∧ d.occulted = false ∧ ∀ n,
     n < 31 → d.linkState n ≠ 1 ∧ d.linkState n ≠ 2) ∧
    (∃ (d : Dev) (s : Fin 24) (n : Nat), d.boot.step = .hbm ∧ d.boot.kind = .cold ∧ (s.val, n) ∈ d.boot.training) :=
  ⟨⟨{ ready.trust records with boot := { step := .firmware } }, false, records, none, idSecret [], rfl, rfl, rfl,
    rfl, agrees _ rfl rfl⟩,
    ⟨{ ready with boot := { step := .firmware } }, false, records, none, idSecret [], rfl, rfl, rfl, rfl,
    by decide +kernel⟩,
    ⟨{ ready.trust {} with boot := { step := .firmware } },
    { imageA := some image, almanacA := some (almanac (key 7)), records := some owned }, false, image,
    almanac (key 7), false, ({ ready.trust {} with boot := { step := .firmware } }).readRecords (some owned),  rfl, rfl, rfl, .inl (by decide +kernel), rfl, rfl,
      starts _ rfl (.inr rfl) (by decide +kernel), by decide +kernel, by decide +kernel,
      chosen _ _ (almanac_good _ rfl rfl (by decide +kernel))⟩,
    ⟨{ ready.trust records with boot := { step := .firmware }, eph := { (ready.trust records).eph with stateB := 2 } },
    { imageB := some image }, false, image, rfl, rfl, rfl, rfl, by decide +kernel, rfl,
    starts _ rfl (.inl rfl) (by decide +kernel)⟩,
    ⟨{ ready with boot := { step := .firmware } }, {}, by decide +kernel⟩,
    ⟨{ ready with boot := { step := .ephemeris, kind := .warm } }, by decide +kernel⟩,
    ⟨{ ready with boot := { step := .ephemeris, kind := .wake, ownerChanged := true } }.sf F.XFB_RATE_CTRL.R_AI 9,
    by decide +kernel⟩,
    ⟨(List.range 19).foldl (fun d k => d.put [(F.DLK_DIE_k_INV.PRESENT, 1, 0, k), (F.DLK_DIE_k_INV.STEPPING, 3, 0,
    k)]) { ready with boot := { step := .inventory, identity := true } }, 3, by decide +kernel⟩,
    ⟨{ ready with boot := { step := .links } }, by decide +kernel⟩,
    ⟨{ ready with boot := { step := .hbm, training := [(22, 0), (23, 1)] } }, 23, 1, by decide +kernel⟩⟩

theorem witness_StartSteps_11_to_16 :
    (∃ (d : Dev) (s : Fin 24), d.boot.step = .hbm ∧ d.boot.kind = .cold
     ∧ d.boot.training.find? (fun x => decide (x.1 = s.val)) = some (s.val, 0)) ∧
    (∃ (d : Dev) (s : Fin 24), d.boot.step = .hbm ∧ d.boot.kind = .cold
     ∧ d.boot.training.find? (fun x => decide (x.1 = s.val)) = some (s.val, 1)) ∧
    (∃ (d : Dev), d.boot.step = .hbm ∧ d.boot.coldNext = false ∧ d.boot.training = [] ∧ d.boot.kind ≠ .warm) ∧
    (∃ (d : Dev), d.boot.step = .firstLight ∧ d.boot.coldNext = false ∧ d.occulted = false) ∧
    (∃ (d : Dev), d.boot.step = .firstLight ∧ d.boot.kind = .cold) ∧
    (∃ (d : Dev), d.boot.step ≠ .firstLight ∧ d.safe.firstLight = some (false, 0)) :=
  ⟨⟨{ ready with boot := { step := .hbm, training := [(23, 0), (22, 1)] } }, 23, by decide +kernel⟩,
    ⟨{ ready with boot := { step := .hbm, training := [(22, 0), (23, 1)] } }, 23, by decide +kernel⟩,
    ⟨{ ready.setHbmByte 7 7 with boot := { step := .hbm, kind := .wake } }, by decide +kernel⟩,
    ⟨{ ready with boot := { step := .firstLight } }, by decide +kernel⟩,
    ⟨{ ready with boot := { step := .firstLight } }, by decide +kernel⟩,
    ⟨{ ready with safe := { ready.safe with firstLight := some (false, 0) } }, by decide +kernel⟩⟩

/-! ### The hypotheses of ResetAndFirmware -/

theorem witness_ResetAndFirmware_1_to_10 :
    (∃ (d : Dev) (k : Fin 32), d.accepts ⟨.BOOT_DIE_RESET, 0, 0, 0⟩ = true ∧ d.boot.step = .ready ∧ k.val < 19
     ∧ k.val ≠ 12 ∧ d.boot.resetting = none ∧ ∀ x ∈ d.safe.occs, ∀ y, x.unit = .die y → y.val ≠ k.val) ∧
    (∃ (d : Dev) (k : Fin 32), d.accepts ⟨.BOOT_DIE_RESET, 0, 0, 0⟩ = true ∧ d.boot.step = .ready
     ∧ (k.val = 12 ∨ 19 ≤ k.val)) ∧
    (∃ (d : Dev) (k : Nat), d.boot.resetting = some k ∧ k < 8 ∧ d.boot.almanac = none ∧ ∀ n,
     n < 31 → k ∈ linkDies n → d.linkState n ≠ 1 ∧ d.linkState n ≠ 2) ∧
    (∃ (d : Dev), d.accepts ⟨.BOOT_WATCHDOG, 0, 0, 0⟩ = true ∧ 100 ≤ d.gf F.BOOT_WATCHDOG.PERIOD_MS
     ∧ d.gf F.BOOT_WATCHDOG.PERIOD_MS ≤ 60000) ∧
    (∃ (d : Dev), d.accepts ⟨.BOOT_WATCHDOG, 0, 0, 0⟩ = true) ∧
    (∃ (d : Dev), d.started = true ∧ d.boot.step = .ready ∧ d.boot.handover = none
     ∧ (d.sec.mcores.any fun m => m.2.halted) = false
     ∧ d.boot.kickAt + 1000000 * d.gf F.BOOT_WATCHDOG.PERIOD_MS ≤ d.chrono ∧ d.boot.warmRecord = true) ∧
    (∃ (d : Dev) (x : FwImage) (b : Bool), d.accepts ⟨.BOOT_FW_CTRL, 0, 0, 0⟩ = true ∧ d.power.flashOpen = true
     ∧ d.imageFault (some x) = none ∧ b = !d.runningB) ∧
    (∃ (d : Dev) (x : FwImage) (b : Bool), d.accepts ⟨.BOOT_FW_CTRL, 0, 0, 0⟩ = true ∧ d.power.flashOpen = true
     ∧ d.imageFault (some x) ≠ none ∧ b = !d.runningB) ∧
    (∃ (d : Dev) (b : Bool) (x : FwImage), d.accepts ⟨.BOOT_FW_CTRL, 0, 0, 0⟩ = true ∧ b = d.runningB
     ∧ (d.slotState b).1 = 1 ∧ d.boot.image = some x) ∧
    (∃ (d : Dev), d.accepts ⟨.BOOT_FW_CTRL, 0, 0, 0⟩ = true ∧ d.started = true ∧ d.boot.step = .ready
     ∧ d.eph.activeB ≠ d.runningB ∧ (d.slotState d.eph.activeB).1 = 1 ∧ d.boot.handover = none) :=
  ⟨⟨ready, 0, by decide +kernel⟩,
    ⟨ready, 12, by decide +kernel⟩,
    ⟨{ (ready.setHbmByte 7 7).modCore 0 fun k => { k with faulted := true } with boot := { step := .ready, resetting := some 0 } },
    0, by decide +kernel⟩,
    ⟨ready, by decide +kernel⟩,
    ⟨{ ready with chrono := 55 }, by decide +kernel⟩,
    ⟨{ ready with chrono := 100000000000, boot := { step := .ready, warmRecord := true } }, by decide +kernel⟩,
    ⟨{ ready.trust records with power := { ready.power with flashOpen := true } }, image, true, by decide +kernel,
    rfl, image_ok _ rfl rfl _ rfl (by decide +kernel), by decide +kernel⟩,
    ⟨{ ready with power := { ready.power with flashOpen := true } }, image, true, by decide +kernel⟩,
    ⟨{ ready.trust records with boot := { step := .ready, image := some { image with floorOffset := 0x1000, floor := some floorRec } }, eph := { (ready.trust records).eph with stateA := 1, triesA := 2 }, power := { ready.power with flashOpen := true } },
    false, { image with floorOffset := 0x1000, floor := some floorRec }, by decide +kernel, by decide +kernel,
    by decide +kernel, rfl⟩,
    ⟨{ ready with eph := { ready.eph with activeB := true, stateB := 1, triesB := 2 } }, by decide +kernel⟩⟩

theorem witness_ResetAndFirmware_11_to_20 :
    (∃ (d : Dev) (x r : FwImage), d.boot.handover = some .verify ∧ d.boot.staged = some x ∧ d.boot.image = some r
     ∧ d.imageFault (some x) = none ∧ x.hoMin ≤ r.hoFormat ∧ r.hoFormat ≤ x.hoMax) ∧
    (∃ (d : Dev) (x r : FwImage), d.boot.handover = some .verify ∧ d.boot.staged = some x ∧ d.boot.image = some r
     ∧ d.imageFault (some x) = none ∧ ¬(x.hoMin ≤ r.hoFormat ∧ r.hoFormat ≤ x.hoMax)) ∧
    (∃ (d : Dev), d.boot.handover = some .park) ∧
    (∃ (d : Dev) (b : Bool), d.boot.handover = some .load ∧ b = d.eph.activeB ∧ (d.slotState b).1 = 1) ∧
    (∃ (d : Dev), d.accepts ⟨.BOOT_FW_CTRL, 0, 0, 0⟩ = true ∧ d.boot.handover = some .resume) ∧
    (∃ (d : Dev), d.boot.handover = some .resume) ∧
    (∃ (d : Dev) (r : PendRec) (rest : List PendRec), d.power.flashOpen = true ∧ d.eph.pending = r :: rest
     ∧ d.activeArea.length < 229375) ∧
    (∃ (d : Dev), d.power.flashOpen = false ∧ d.eph.pending ≠ [] ∧ d.eph.behind = false) ∧
    (∃ (d : Dev), d.accepts ⟨.EPH_CTRL, 0, 0, 0⟩ = true ∧ d.power.flashOpen = true) ∧
    (∃ (d : Dev), d.accepts ⟨.EPH_CTRL, 0, 0, 0⟩ = true ∧ d.power.flashOpen = true) :=
  ⟨⟨{ ready.trust records with boot := { step := .ready, handover := some .verify, staged := some image, image := some { image with hoFormat := 3 } } },
    image, { image with hoFormat := 3 }, rfl, rfl, rfl, image_ok _ rfl rfl _ rfl (by decide +kernel),
    by decide +kernel⟩,
    ⟨{ ready.trust records with boot := { step := .ready, handover := some .verify, staged := some image, image := some { image with hoFormat := 4 } } },
    image, { image with hoFormat := 4 }, rfl, rfl, rfl, image_ok _ rfl rfl _ rfl (by decide +kernel),
    by decide +kernel⟩,
    ⟨{ ready with boot := { step := .ready, handover := some .park } }, by decide +kernel⟩,
    ⟨{ ready with boot := { step := .ready, handover := some .load }, eph := { ready.eph with activeB := true, stateB := 1, triesB := 2 } },
    true, by decide +kernel⟩,
    ⟨{ ready with chrono := 6, boot := { step := .ready, handover := some .resume, staged := some image }, eph := { ready.eph with activeB := true, stateB := 1, triesB := 2 } },
    by decide +kernel⟩,
    ⟨{ ready with chrono := 6, boot := { step := .ready, handover := some .resume, staged := some image }, eph := { ready.eph with activeB := true, stateB := 1, triesB := 2 } },
    by decide +kernel⟩,
    ⟨{ ready with eph := { ready.eph with pending := [{ key := ⟨.XFB_RATE_CTRL, 0, 0, 0⟩, kind := 1, value := 7 }] }, power := { ready.power with flashOpen := true } },
    { key := ⟨.XFB_RATE_CTRL, 0, 0, 0⟩, kind := 1, value := 7 }, [], by decide +kernel⟩,
    ⟨{ ready with eph := { ready.eph with pending := [{ key := ⟨.XFB_RATE_CTRL, 0, 0, 0⟩, kind := 1, value := 7 }] } },
    by decide +kernel⟩,
    ⟨{ ready.put [(F.EPH_ERR_CNT.BEHIND_CNT, 1, 0, 0)] with eph := { ready.eph with pending := [{ key := ⟨.XFB_RATE_CTRL, 0, 0, 0⟩, kind := 1, value := 7 }] }, power := { ready.power with flashOpen := true } },
    by decide +kernel⟩,
    ⟨{ ready with eph := { ready.eph with pending := [{ key := ⟨.XFB_RATE_CTRL, 0, 0, 0⟩, kind := 1, value := 7 }, { key := ⟨.XFB_RATE_CTRL, 0, 0, 0⟩, kind := 1, value := 7 }] }, power := { ready.power with flashOpen := true } },
    by decide +kernel⟩⟩

/-! ### The hypotheses of PowerAndClocks -/

theorem witness_PowerAndClocks_1_to_10 :
    (∃ (d : Dev) (w : Nat), d.gf F.PWR_STAT.CAP_IN_FORCE_W < w) ∧
    (∃ (d : Dev) (w : Nat), 100 * w < 97 * d.gf F.PWR_STAT.CAP_IN_FORCE_W) ∧
    (∃ (d : Dev), d.accepts ⟨.PWR_CTRL, 0, 0, 0⟩ = true) ∧
    (∃ (d : Dev), d.accepts ⟨.PWR_CTRL, 0, 0, 0⟩ = true ∧ d.gf F.PWR_CTRL.TARGET ≠ 0 ∧ d.gf F.PWR_STAT.STATE = 2) ∧
    (∃ (d : Dev), d.accepts ⟨.PWR_CTRL, 0, 0, 0⟩ = true ∧ d.gf F.PWR_CTRL.TARGET ≠ 0 ∧ d.gf F.PWR_STAT.STATE = 3) ∧
    (∃ (d : Dev), d.accepts ⟨.PWR_CTRL, 0, 0, 0⟩ = true ∧ d.gf F.PWR_CTRL.TARGET = 0 ∧ d.mayPark = true) ∧
    (∃ (d : Dev), d.accepts ⟨.PWR_CTRL, 0, 0, 0⟩ = true ∧ d.gf F.PWR_CTRL.TARGET = 0 ∧ d.mayPark = false) ∧
    (∃ (d : Dev), d.accepts ⟨.PWR_CTRL, 0, 0, 0⟩ = true ∧ d.gf F.PWR_CTRL.TARGET = 0 ∧ d.mayPark = true) ∧
    (∃ (d : Dev), d.gf F.PWR_STAT.STATE = 4 ∧ d.gf F.PWR_CTRL.TARGET = 2 ∧ d.hlk.dir = [] ∧ d.mem.jobs = []
     ∧ d.writeWaits = false ∧ d.mem.lines = []) ∧
    (∃ (d : Dev), d.gf F.PWR_STAT.STATE = 5 ∧ d.boot.step = .ready ∧ d.on F.CLK_ISLAND_n_STAT.POWERED 0 0 = false) :=
  ⟨⟨ready.put [(F.PWR_STAT.CAP_IN_FORCE_W, 2999, 0, 0)], 3000, by decide +kernel⟩,
    ⟨ready.put [(F.PWR_STAT.CAP_IN_FORCE_W, 3000, 0, 0)] |>.modIsl 0 fun x => { x with capLimit := 5 }, 2000,
    by decide +kernel⟩,
    ⟨ready, by decide +kernel⟩,
    ⟨ready.put [(F.PWR_CTRL.TARGET, 2, 0, 0), (F.PWR_STAT.STATE, 2, 0, 0)], by decide +kernel⟩,
    ⟨ready.put [(F.PWR_CTRL.TARGET, 3, 0, 0), (F.PWR_STAT.STATE, 3, 0, 0)], by decide +kernel⟩,
    ⟨ready, by decide +kernel⟩,
    ⟨ready.setThread 0 2 { st := .running }, by decide +kernel⟩,
    ⟨ready, by decide +kernel⟩,
    ⟨(ready.setHbmByte 7 7).put [(F.PWR_CTRL.TARGET, 2, 0, 0), (F.PWR_STAT.STATE, 4, 0, 0)], by decide +kernel⟩,
    ⟨(ready.setHbmByte 7 7).put [(F.PWR_CTRL.TARGET, 0, 0, 0), (F.PWR_STAT.STATE, 5, 0, 0),
    (F.CLK_ISLAND_n_STAT.POWERED, 0, 0, 0), (F.HBM_STAT.SELF_REFRESH, 1, 2, 0)], by decide +kernel⟩⟩

theorem witness_PowerAndClocks_11_to_20 :
    (∃ (d : Dev) (n : Fin 32), d.islandOn n = true ∧ d.clusterIdle n = true) ∧
    (∃ (d : Dev) (n : Fin 32), d.islandOn n = true ∧ d.on F.CLK_ISLAND_n_STAT.GATED 0 n = true) ∧
    (∃ (d : Dev) (n : Fin 44) (r : Ramp), (d.isl n).ramp = some r ∧ r.k < 15) ∧
    (∃ (d : Dev) (n : Fin 44) (r : Ramp), (d.isl n).ramp = some r ∧ r.k = 15) ∧
    (∃ (d : Dev) (n : Fin 44), (d.isl n).rising = true) ∧
    (∃ (d : Dev) (n : Fin 44), d.on F.CLK_ISLAND_n_STAT.POWERED 0 n = true) ∧
    (∃ (d : Dev) (n : Fin 44), (d.isl n).taken = false) ∧
    (∃ (d : Dev) (n : Fin 44), (d.isl n).taken = true) ∧
    (∃ (d : Dev) (n : Fin 44), (d.isl n).tripped = true) ∧
    (∃ (d : Dev) (n : Fin 44), (d.isl n).tripped = false) :=
  ⟨⟨ready, 0, by decide +kernel⟩,
    ⟨ready.put [(F.CLK_ISLAND_n_STAT.GATED, 1, 0, 0)], 0, by decide +kernel⟩,
    ⟨ready.modIsl 43 fun x => { x with ramp := some { a := (4, 3), b := (1, 1), k := 14 } }, 43,
    { a := (4, 3), b := (1, 1), k := 14 }, by decide +kernel⟩,
    ⟨ready.modIsl 0 fun x => { x with ramp := some { a := (40, 10), b := (180, 10), k := 15 } }, 0,
    { a := (40, 10), b := (180, 10), k := 15 }, by decide +kernel⟩,
    ⟨ready.modIsl 0 fun x => { x with rising := true }, 0, by decide +kernel⟩,
    ⟨ready.put [(F.CLK_ISLAND_n_STAT.DROOP_CNT, 65535, 0, 43)], 43, by decide +kernel⟩,
    ⟨ready.put [(F.CLK_ISLAND_n_STAT.STRETCHED, 1, 0, 43)] |>.modIsl 43 fun x => { x with tripped := true }, 43,
    by decide +kernel⟩,
    ⟨ready.put [(F.CLK_ISLAND_n_STAT.STRETCHED, 1, 0,
    43)] |>.modIsl 43 fun x => { x with tripped := true, taken := true }, 43, by decide +kernel⟩,
    ⟨ready.modIsl 43 fun x => { x with tripped := true }, 43, by decide +kernel⟩,
    ⟨ready.modIsl 43 fun x => { x with slow := true }, 43, by decide +kernel⟩⟩

theorem witness_PowerAndClocks_21_to_23 :
    (∃ (d : Dev) (n : Fin 44) (en : Bool), d.accepts ⟨.CLK_ISLAND_n_CTRL, 0, n, 0⟩ = true ∧ (en = true ∨ (n.val < 32
     ∧ ∀ c, c < 4 → d.coreIdle (4 * n.val + c) = true))) ∧
    (∃ (d : Dev) (n : Fin 44), d.accepts ⟨.CLK_ISLAND_n_CTRL, 0, n, 0⟩ = true ∧ 32 ≤ n.val) ∧
    (∃ (d : Dev) (n : Fin 44), d.accepts ⟨.CLK_ISLAND_n_CTRL, 0, n, 0⟩ = true ∧ d.on F.CLK_ISLAND_n_CTRL.EN 0 n = true) :=
  ⟨⟨ready, 0, false, by decide +kernel⟩,
    ⟨ready, 43, by decide +kernel⟩,
    ⟨ready, 43, by decide +kernel⟩⟩

/-! ### The hypotheses of ClockReferenceAndTemperature -/

theorem witness_ClockReferenceAndTemperature_1_to_11 :
    (∃ (d : Dev), d.on F.CLK_STAT.REF_OK = true) ∧
    (∃ (d : Dev), d.on F.CLK_STAT.HOLDOVER = true) ∧
    (∃ (d : Dev), d.on F.CLK_STAT.HOLDOVER = true ∧ d.safe.occs = [] ∧ d.occulted = false) ∧
    (∃ (d : Dev) (n : Fin 44), d.on F.CLK_ISLAND_n_STAT.PLL_LOCK 0 n = true ∧ n.val < 32 ∧ d.safe.occs = []) ∧
    (∃ (d : Dev) (k : Fin 20) (ts : List (Option Int)) (t : Int), d.power.rise = false ∧ ts.length = sensorsOf k
     ∧ (∀ x ∈ ts, x = some t) ∧ -160 ≤ t ∧ t ≤ 1200 ∧ ∀ s, s < sensorsOf k → d.sensorIn k s = true) ∧
    (∃ (d : Dev) (k : Fin 20), 2 ≤ d.gf F.THM_DIE_k_STAT.LEVEL 0 k
     ∧ 840 ≤ (BitVec.ofNat 16 (d.gf F.THM_DIE_k_STAT.MAX 0 k)).toInt ∧ 0 < (d.therm k).limit) ∧
    (∃ (d : Dev) (k : Fin 20), d.gf F.THM_DIE_k_STAT.LEVEL 0 k < 2 ∧ (d.therm k).limit < 7) ∧
    (∃ (d : Dev) (k : Fin 20), d.power.crossing.contains k.val = true ∧ d.power.stageOne = true ∧ d.power.path = none) ∧
    (∃ (d : Dev) (k : Fin 20) (s : Fin 24), d.sensorIn k s = true) :=
  ⟨⟨ready.put [(F.CLK_STAT.REF_OK, 1, 0, 0)], by decide +kernel⟩,
    ⟨ready.put [(F.CLK_STAT.HOLDOVER, 1, 0, 0)], by decide +kernel⟩,
    ⟨ready.put [(F.CLK_STAT.HOLDOVER, 1, 0, 0)], by decide +kernel⟩,
    ⟨ready, 0, by decide +kernel⟩,
    ⟨ready, 19, List.replicate 4 (some 400), 400, by decide +kernel⟩,
    ⟨ready.put [(F.THM_DIE_k_STAT.LEVEL, 2, 0, 0), (F.THM_DIE_k_STAT.MAX, 840, 0, 0)], 0, by decide +kernel⟩,
    ⟨ready.modTherm 0 fun x => { x with limit := 6 }, 0, by decide +kernel⟩,
    ⟨{ ready with power := { ready.power with crossing := [2, 3] } }, 3, by decide +kernel⟩,
    ⟨ready, 19, 3, by decide +kernel⟩⟩

/-! ### The hypotheses of RegisterAccess -/

theorem witness_RegisterAccess_1_to_9 :
    (∃ (d : Dev) (o : Nat) (k : RegKey), RegKey.ofOffset o = some k ∧ plainReg k.name = true ∧ d.accepts k = true) ∧
    (∃ (d : Dev) (o : Nat) (k : RegKey), RegKey.ofOffset o = some k ∧ d.regServed k.home = true ∧ d.started = true
     ∧ k.name.info.runtime = false ∧ d.boot.step ≠ .failed ∧ isMcore k = false) ∧
    (∃ (d : Dev) (o : Nat) (k : RegKey), RegKey.ofOffset o = some k ∧ d.boot.step = .failed ∧ isMdie k = false) ∧
    (∃ (d : Dev) (o : Nat) (k : RegKey), RegKey.ofOffset o = some k ∧ k.home = k ∧ d.regServed k = true
     ∧ d.boot.step ≠ .failed ∧ isMcore k = false ∧ k.name ≠ .INT_TGT_t_CLAIM ∧ d.heldReg o = none) ∧
    (∃ (d : Dev) (o : Nat) (k : RegKey), RegKey.ofOffset o = some k ∧ d.regServed k.home = false
     ∧ d.boot.step ≠ .failed ∧ isMcore k = false ∧ d.heldReg o = none) ∧
    (∃ (d : Dev) (o : Nat) (k : RegKey) (c : Nat), d.heldReg o = some (k, c)) ∧
    (∃ (d : Dev) (o : Nat) (k : RegKey) (c : Nat), d.heldReg o = some (k, c) ∧ d.regServed k.home = true
     ∧ (d.started = false ∨ k.name.info.runtime = true) ∧ d.boot.step ≠ .failed) :=
  ⟨⟨ready, (⟨.GAS_CTRL, 0, 0, 0⟩ : RegKey).offset, ⟨.GAS_CTRL, 0, 0, 0⟩, by decide +kernel⟩,
    ⟨ready, (⟨.XFB_COORD, 0, 0, 0⟩ : RegKey).offset, ⟨.XFB_COORD, 0, 0, 0⟩, by decide +kernel⟩,
    ⟨{ ready with boot := { step := .failed } }, (⟨.GAS_CTRL, 0, 0, 0⟩ : RegKey).offset, ⟨.GAS_CTRL, 0, 0, 0⟩,
    by decide +kernel⟩,
    ⟨ready, (⟨.GAS_CTRL, 0, 0, 0⟩ : RegKey).offset, ⟨.GAS_CTRL, 0, 0, 0⟩, by decide +kernel⟩,
    ⟨ready, (⟨.CORE_STAT, 20, 0, 0⟩ : RegKey).offset, ⟨.CORE_STAT, 20, 0, 0⟩, by decide +kernel⟩,
    ⟨(ready.setSwap 0 (some { lcore := 1, empty := false, phase := .copying })), (⟨.CORE_STAT, 1, 0, 0⟩
    : RegKey).offset, (⟨.CORE_STAT, 1, 0, 0⟩ : RegKey), 1, by decide +kernel⟩,
    ⟨(ready.setSwap 0 (some { lcore := 1, empty := false, phase := .copying })), (⟨.CORE_NUM_CTRL, 1, 0, 0⟩
    : RegKey).offset, (⟨.CORE_NUM_CTRL, 1, 0, 0⟩ : RegKey), 1, by decide +kernel⟩⟩

/-! ### The hypotheses of ManagementPaths -/

theorem witness_ManagementPaths_1_to_10 :
    (∃ (d : Dev) (bs : List Byte) (o : Nat) (k : RegKey), d.power.aux = true ∧ bs.length = 6 ∧ bs.headD 0 = 1
     ∧ o = leNat ((bs.drop 1).take 5) ∧ RegKey.ofOffset o = some k ∧ d.on F.BOOT_FW_STAT.HANDOVER_BUSY = false
     ∧ d.opens i3cSealed o = true ∧ (d.regRefusal k).1 = 0 ∧ d.heldReg o = none) ∧
    (∃ (d : Dev) (bs : List Byte) (o : Nat) (k : RegKey) (c : Nat), d.power.aux = true ∧ bs.length = 6
     ∧ bs.headD 0 = 1 ∧ o = leNat ((bs.drop 1).take 5) ∧ d.i3cMay o = true ∧ d.heldReg o = some (k, c)) ∧
    (∃ (d : Dev) (bs : List Byte) (o : Nat), d.power.aux = true ∧ bs.length = 6 ∧ bs.headD 0 = 1
     ∧ o = leNat ((bs.drop 1).take 5) ∧ d.on F.BOOT_FW_STAT.HANDOVER_BUSY = false ∧ d.opens i3cSealed o = false) ∧
    (∃ (d : Dev) (bs : List Byte), d.power.aux = true ∧ bs.length ≠ 6 ∧ bs.length ≠ 14) ∧
    (∃ (d : Dev) (bs : List Byte) (o : Nat) (k : RegKey) (v : BitVec 64), d.power.aux = true ∧ bs.length = 14
     ∧ bs.headD 0 = 2 ∧ o = leNat ((bs.drop 1).take 5) ∧ v = BitVec.ofNat 64 (leNat (bs.drop 6))
     ∧ RegKey.ofOffset o = some k ∧ d.on F.BOOT_FW_STAT.HANDOVER_BUSY = false ∧ d.opens i3cSealed o = true
     ∧ (d.regRefusal k).1 = 0) ∧
    (∃ (d : Dev) (bs : List Byte), d.power.aux = true ∧ bs.length = 14 ∧ bs.headD 0 = 2
     ∧ d.on F.BOOT_FW_STAT.HANDOVER_BUSY = true) ∧
    (∃ (d : Dev) (v : Word), d.power.aux = true ∧ d.mgmt.i3c = .read 0 v) ∧
    (∃ (d : Dev) (c : Nat) (v : Word), d.power.aux = true ∧ d.mgmt.i3c = .read c v ∧ c ≠ 0) ∧
    (∃ (d : Dev) (c : Nat), d.power.aux = true ∧ d.mgmt.i3c = .status c) ∧
    (∃ (d : Dev), d.power.aux = true) :=
  ⟨⟨ready, [1] ++ leBytes 5 (⟨.BOOT_STAT, 0, 0, 0⟩ : RegKey).offset, (⟨.BOOT_STAT, 0, 0, 0⟩ : RegKey).offset,
    ⟨.BOOT_STAT, 0, 0, 0⟩, by decide +kernel⟩,
    ⟨(ready.setSwap 0 (some { lcore := 1, empty := false, phase := .copying })).put [(F.DBG_STAT.STATE, 2, 0, 0)],
    [1] ++ leBytes 5 (⟨.CORE_STAT, 1, 0, 0⟩ : RegKey).offset, (⟨.CORE_STAT, 1, 0, 0⟩ : RegKey).offset, (⟨.CORE_STAT,
    1, 0, 0⟩ : RegKey), 1, by decide +kernel⟩,
    ⟨ready, [1] ++ leBytes 5 (⟨.GAS_CTRL, 0, 0, 0⟩ : RegKey).offset, (⟨.GAS_CTRL, 0, 0, 0⟩ : RegKey).offset,
    by decide +kernel⟩,
    ⟨ready, [1, 2], by decide +kernel⟩,
    ⟨ready, [2] ++ leBytes 5 (⟨.BOOT_WATCHDOG, 0, 0, 0⟩ : RegKey).offset ++ leBytes 8 5, (⟨.BOOT_WATCHDOG, 0, 0, 0⟩
    : RegKey).offset, ⟨.BOOT_WATCHDOG, 0, 0, 0⟩, 5, by decide +kernel⟩,
    ⟨ready.put [(F.BOOT_FW_STAT.HANDOVER_BUSY, 1, 0, 0)], [2] ++ leBytes 5 (⟨.BOOT_WATCHDOG, 0, 0, 0⟩
    : RegKey).offset ++ leBytes 8 5, by decide +kernel⟩,
    ⟨{ ready with mgmt := { i3c := .read 0 0x1234 } }, 0x1234, by decide +kernel⟩,
    ⟨{ ready with mgmt := { i3c := .read 5 0x1234 } }, 5, 0x1234, by decide +kernel⟩,
    ⟨{ ready with mgmt := { i3c := .status 5 } }, 5, by decide +kernel⟩,
    ⟨ready, by decide +kernel⟩⟩

theorem witness_ManagementPaths_11_to_20 :
    (∃ (d : Dev), d.power.aux = true) ∧
    (∃ (d : Dev), d.power.aux = true ∧ d.mayExtest = true) ∧
    (∃ (d : Dev), d.power.aux = true ∧ d.mayExtest = true) ∧
    (∃ (d : Dev), d.power.aux = true ∧ d.mayExtest = false) ∧
    (∃ (d : Dev), d.power.aux = true) ∧
    (∃ (d : Dev) (o : Nat), d.power.aux = true ∧ d.opens eyeSealed o = false) ∧
    (∃ (d : Dev) (o : Nat) (k : RegKey), d.power.aux = true ∧ d.opens eyeSealed o = true ∧ RegKey.ofOffset o = some k
     ∧ plainReg k.name = true ∧ d.accepts k = true) ∧
    (∃ (d : Dev) (a o : Nat), d.power.aux = true ∧ d.debugState = 2 ∧ d.started = true ∧ o = localOf a
     ∧ a / 2 ^ 46 = d.self ∧ o % 8 = 0 ∧ d.areaOf o 8 = some .sram ∧ d.copyingAt o 8 = none) ∧
    (∃ (d : Dev), d.power.aux = true ∧ d.debugState = 0) ∧
    (∃ (d : Dev), d.power.aux = true ∧ d.debugState = 2) :=
  ⟨⟨ready, by decide +kernel⟩,
    ⟨ready.put [(F.PWR_STAT.STATE, 3, 0, 0)], by decide +kernel⟩,
    ⟨ready.put [(F.PWR_STAT.STATE, 3, 0, 0)], by decide +kernel⟩,
    ⟨ready, by decide +kernel⟩,
    ⟨ready, by decide +kernel⟩,
    ⟨ready, (⟨.GAS_CTRL, 0, 0, 0⟩ : RegKey).offset, by decide +kernel⟩,
    ⟨ready.put [(F.DBG_STAT.STATE, 2, 0, 0)], (⟨.THM_CTRL, 0, 0, 0⟩ : RegKey).offset, ⟨.THM_CTRL, 0, 0, 0⟩,
    by decide +kernel⟩,
    ⟨ready.put [(F.DBG_STAT.STATE, 2, 0, 0)], 2 ^ 44, 2 ^ 44, by decide +kernel⟩,
    ⟨ready, by decide +kernel⟩,
    ⟨ready.put [(F.DBG_STAT.STATE, 2, 0, 0)], by decide +kernel⟩⟩

theorem witness_ManagementPaths_21 :
    ∃ (d : Dev), d.power.aux = true ∧ d.debugState ≠ 2 :=
  ⟨ready, by decide +kernel⟩

/-! ### The hypotheses of InterruptController -/

theorem witness_InterruptController_1_to_10 :
    (∃ (d : Dev) (k : Fin 16), d.accepts ⟨.INT_PEND_SET_k, 0, k, 0⟩ = true ∧ (k.val < 2 ∨ d.on F.INT_CFG.WIDE = true)) ∧
    (∃ (d : Dev) (k : Fin 16) (v : Word), d.accepts ⟨.INT_PEND_SET_k, 0, k, 0⟩ = true ∧ 2 ≤ k.val
     ∧ d.on F.INT_CFG.WIDE = false ∧ v ≠ 0) ∧
    (∃ (d : Dev) (k : Fin 16), d.accepts ⟨.INT_PEND_CLR_k, 0, k, 0⟩ = true) ∧
    (∃ (d : Dev) (k : Fin 16), d.accepts ⟨.INT_MASK_SET_k, 0, k, 0⟩ = true) ∧
    (∃ (d : Dev) (k : Fin 16), d.accepts ⟨.INT_MASK_CLR_k, 0, k, 0⟩ = true) ∧
    (∃ (d : Dev) (t : Fin 12) (n : Nat), d.regServed ⟨.INT_TGT_t_CLAIM, 0, t, 0⟩ = true ∧ t.val < 4
     ∧ d.offer t = some n) ∧
    (∃ (d : Dev) (t : Fin 12), d.regServed ⟨.INT_TGT_t_CLAIM, 0, t, 0⟩ = true ∧ (4 ≤ t.val ∨ d.offer t = none)) ∧
    (∃ (d : Dev) (t : Fin 12) (n : Fin 1024) (l : Nat) (rest : List (Nat × Nat)), d.accepts ⟨.INT_TGT_t_EOI, 0, t, 0⟩
     = true ∧ d.runningAt t = (l, n.val) :: rest) ∧
    (∃ (d : Dev) (t : Fin 12) (n : Fin 1024), d.accepts ⟨.INT_TGT_t_EOI, 0, t, 0⟩ = true
     ∧ (d.runningAt t).head?.map Prod.snd ≠ some n.val) ∧
    (∃ (d : Dev) (n : Fin 1024) (v : Word), d.accepts ⟨.INT_SRC_n_CFG, 0, n, 0⟩ = true
     ∧ (n.val < 128 ∨ getBits v 11 8 < 4 + d.vectorsOn)) :=
  ⟨⟨ready.setReg ⟨.INT_PEND_SET_k, 0, 1, 0⟩ 1, 1, by decide +kernel⟩,
    ⟨ready, 2, 1, by decide +kernel⟩,
    ⟨ready.setReg ⟨.INT_PEND_SET_k, 0, 15, 0⟩ 0xFF, 15, by decide +kernel⟩,
    ⟨ready.setReg ⟨.INT_MASK_SET_k, 0, 15, 0⟩ 3, 15, by decide +kernel⟩,
    ⟨ready, 15, by decide +kernel⟩,
    ⟨(ready.setReg ⟨.INT_PEND_SET_k, 0, 0, 0⟩ 0x202).setReg ⟨.INT_MASK_SET_k, 0, 0, 0⟩
    0 |>.put [(F.INT_SRC_n_CFG.LEVEL, 7, 0, 9), (F.INT_SRC_n_CFG.LEVEL, 6, 0, 1)], 0, 9, by decide +kernel⟩,
    ⟨ready, 0, by decide +kernel⟩,
    ⟨ready.setRunning 11 [(7, 1023), (3, 9)], 11, 1023, 7, [(3, 9)], by decide +kernel⟩,
    ⟨ready.setRunning 0 [(7, 8), (6, 9)], 0, 9, by decide +kernel⟩,
    ⟨ready, 127, 0xF0F, by decide +kernel⟩⟩

theorem witness_InterruptController_11_to_12 :
    (∃ (d : Dev) (n : Fin 1024) (v : Word), d.accepts ⟨.INT_SRC_n_CFG, 0, n, 0⟩ = true ∧ 128 ≤ n.val
     ∧ 4 + d.vectorsOn ≤ getBits v 11 8) ∧
    (∃ (d : Dev) (x : Fin 8) (n : Nat), d.hlkUp = true ∧ x.val < d.vectorsOn ∧ d.offer (4 + x.val) = some n
     ∧ d.hlk.waiting = []
     ∧ d.hlkMay { cls := HC.ctl, op := 3, value := x.val * 2 ^ 16 + d.srcLevel n * 2 ^ 12 + n } = true) :=
  ⟨⟨ready.put [(F.INT_CFG.WIDE, 1, 0, 0), (F.INT_CFG.VECTORS, 7, 0, 0), (F.HLK_STAT.VECTORS, 8, 0, 0)], 128, 0xB05,
    by decide +kernel⟩,
    ⟨{ (ready.setReg ⟨.INT_PEND_SET_k, 0, 3, 0⟩ 0x100).setReg ⟨.INT_MASK_SET_k, 0, 3, 0⟩ 0 with hlk := { ready.hlk with credits := List.replicate 8 9 } } |>.put [(F.HLK_STAT.STATE,
    3, 0, 0), (F.INT_CFG.WIDE, 1, 0, 0), (F.INT_CFG.VECTORS, 7, 0, 0), (F.HLK_STAT.VECTORS, 8, 0, 0),
    (F.INT_SRC_n_CFG.LEVEL, 15, 0, 200), (F.INT_SRC_n_CFG.TARGET, 4, 0, 200)], 0, 200, by decide +kernel⟩⟩

/-! ### The hypotheses of ChronographAndMeridian -/

theorem witness_ChronographAndMeridian_1_to_11 :
    (∃ (d : Dev) (f : Nat), d.coordsValid = true ∧ d.isRoot = false ∧ d.parentFace = some f ∧ f < 8
     ∧ d.faceUp f = true) ∧
    (∃ (d : Dev) (p : Packet) (t4 : Nat) (th : Int), p.type = PT.notice ∧ p.payload.headD 0 = 6
     ∧ th = (((leNat ((p.payload.drop 16).take 8) : Int) - leNat ((p.payload.drop 8).take 8)) - ((t4 : Int) - leNat ((p.payload.drop 24).take 8))) / 2
     ∧ d.isRoot = false ∧ p.src = d.neighbourBy (d.gf F.SYN_TIME_STAT.PARENT_FACE)
     ∧ leNat ((p.payload.drop 32).take 1) = 1 ∧ d.time.once = false ∧ d.gas.zeroPending = false) ∧
    (∃ (d : Dev) (p : Packet) (t4 : Nat) (th : Int), p.type = PT.notice ∧ p.payload.headD 0 = 6
     ∧ th = (((leNat ((p.payload.drop 16).take 8) : Int) - leNat ((p.payload.drop 8).take 8)) - ((t4 : Int) - leNat ((p.payload.drop 24).take 8))) / 2
     ∧ d.isRoot = false ∧ p.src = d.neighbourBy (d.gf F.SYN_TIME_STAT.PARENT_FACE)
     ∧ leNat ((p.payload.drop 32).take 1) = 1 ∧ d.time.once = true ∧ d.time.stepNext = false
     ∧ d.gas.zeroPending = false) ∧
    (∃ (d : Dev) (p : Packet) (f : Nat), p.type = PT.notice ∧ p.payload.headD 0 = 6 ∧ d.isRoot = false
     ∧ f = d.gf F.SYN_TIME_STAT.PARENT_FACE ∧ p.src = d.neighbourBy f ∧ leNat ((p.payload.drop 32).take 1) ≠ 1
     ∧ d.time.once = true ∧ d.on F.SYN_TIME_STAT.ALIGNED = false) ∧
    (∃ (d : Dev), d.isRoot = false ∧ d.time.lastGood + 10000000 ≤ d.chrono) ∧
    (∃ (d : Dev), d.isRoot = true ∨ d.chrono < d.time.lastGood + 10000000) ∧
    (∃ (d : Dev), d.isRoot = true ∧ d.time.rootDone = false) ∧
    (∃ (d : Dev), d.accepts ⟨.SYN_MERIDIAN_TICK, 0, 0, 0⟩ = true) ∧
    (∃ (d : Dev), d.accepts ⟨.SYN_MERIDIAN_CTRL, 0, 0, 0⟩ = true ∧ d.on F.SYN_MERIDIAN_CTRL.ARM = false
     ∧ d.chrono + 2000 ≤ d.gf F.SYN_MERIDIAN_TICK.TICK) ∧
    (∃ (d : Dev), d.accepts ⟨.SYN_MERIDIAN_CTRL, 0, 0, 0⟩ = true ∧ d.on F.SYN_MERIDIAN_CTRL.ARM = false
     ∧ d.gf F.SYN_MERIDIAN_TICK.TICK < d.chrono + 2000 ∧ d.on F.SAFE_LS_CTRL.EN = false) :=
  ⟨⟨ready.in888.put [(F.XFB_FACE_f_STAT.UP, 1, 0, 0), (F.SYN_TIME_CTRL.ROOT_INDEX, 1, 0, 0)], 0, by decide +kernel⟩,
    ⟨ready.in888.put [(F.SYN_TIME_STAT.PARENT_FACE, 0, 0, 0), (F.SYN_TIME_STAT.ALIGNED, 0, 0, 0)],
    { dst := 0, src := 1, type := PT.notice, length := 64, payload := [6, 0, 0, 0, 0, 0, 0, 0] ++ leBytes 8 640000 ++ leBytes 8 1280000 ++ leBytes 8 1280064 ++ [1, 127] ++ List.replicate 30 0 },
    640100, 320014 + 319968, by decide +kernel⟩,
    ⟨{ (ready.in888.put [(F.SYN_TIME_STAT.PARENT_FACE, 0, 0, 0)]) with time := { ready.time with once := true } },
    { dst := 0, src := 1, type := PT.notice, length := 64, payload := [6, 0, 0, 0, 0, 0, 0, 0] ++ leBytes 8 640000 ++ leBytes 8 640050 ++ leBytes 8 640060 ++ [1, 3] ++ List.replicate 30 0 },
    640100, 5, by decide +kernel⟩,
    ⟨{ (ready.in888.put [(F.SYN_TIME_STAT.PARENT_FACE, 0, 0, 0), (F.SYN_TIME_STAT.ALIGNED, 0, 0, 0)]) with time := { ready.time with once := true } },
    { dst := 0, src := 1, type := PT.notice, length := 64, payload := [6, 0, 0, 0, 0, 0, 0, 0] ++ leBytes 8 640000 ++ leBytes 8 640050 ++ leBytes 8 640060 ++ [0, 3] ++ List.replicate 30 0 },
    0, by decide +kernel⟩,
    ⟨{ ready with chrono := 10000000 }, by decide +kernel⟩,
    ⟨ready, by decide +kernel⟩,
    ⟨{ ready.put [(F.SYN_TIME_CTRL.ROOT, 1, 0, 0), (F.SYN_TIME_STAT.ALIGNED, 0, 0, 0)] with gas := { ready.gas with zeroPending := true }, chrono := 50 },
    by decide +kernel⟩,
    ⟨ready, by decide +kernel⟩,
    ⟨ready.put [(F.SYN_MERIDIAN_TICK.TICK, 2000, 0, 0), (F.SYN_MERIDIAN_CTRL.CNTR, 12, 0, 0)], by decide +kernel⟩,
    ⟨ready.put [(F.SYN_MERIDIAN_TICK.TICK, 1999, 0, 0), (F.SYN_MERIDIAN_CTRL.CNTR, 12, 0, 0)], by decide +kernel⟩⟩

theorem witness_ChronographAndMeridian_12_to_13 :
    (∃ (d : Dev), d.accepts ⟨.SYN_MERIDIAN_CTRL, 0, 0, 0⟩ = true) ∧
    (∃ (d : Dev), d.on F.SYN_MERIDIAN_CTRL.ARM = true ∧ d.gf F.SYN_MERIDIAN_TICK.TICK ≤ d.chrono
     ∧ d.on F.SAFE_LS_CTRL.EN = false) :=
  ⟨⟨ready.put [(F.SYN_MERIDIAN_CTRL.ARM, 1, 0, 0), (F.SYN_MERIDIAN_CTRL.CNTR, 12, 0, 0)], by decide +kernel⟩,
    ⟨ready.put [(F.SYN_MERIDIAN_CTRL.ARM, 1, 0, 0), (F.SYN_MERIDIAN_CTRL.CNTR, 12, 0, 0)], by decide +kernel⟩⟩

/-! ### The hypotheses of SecurityAndDebug -/

theorem witness_SecurityAndDebug_1_to_11 :
    (∃ (d : Dev) (k : Fin 4), d.accepts ⟨.SEC_NONCE_k, 0, k, 0⟩ = true) ∧
    (∃ (d : Dev), d.accepts ⟨.SEC_ATTEST_CTRL, 0, 0, 0⟩ = true ∧ d.on F.SEC_ATTEST_STAT.BUSY = false
     ∧ (d.sec.identity.isSome = true ∨ d.vendorMark = true)) ∧
    (∃ (d : Dev), d.accepts ⟨.SEC_ATTEST_CTRL, 0, 0, 0⟩ = true
     ∧ (d.on F.SEC_ATTEST_STAT.BUSY = true ∨ (d.sec.identity = none ∧ d.vendorMark = false))) ∧
    (∃ (d : Dev) (n : List Byte) (s : Nat) (b : List Byte), d.sec.report = some (n, s)
     ∧ b = d.reportBody n s ++ d.reportBlock) ∧
    (∃ (d : Dev), d.accepts ⟨.DBG_CTRL, 0, 0, 0⟩ = true ∧ d.gf F.DBG_STAT.LOCKOUT_S = 0 ∧ d.sec.verifying = false) ∧
    (∃ (d : Dev), d.accepts ⟨.DBG_CTRL, 0, 0, 0⟩ = true ∧ d.gf F.DBG_STAT.LOCKOUT_S ≠ 0) ∧
    (∃ (d : Dev) (r0 s0 r1 s1 : Bool), d.sec.verifying = true
     ∧ d.tokensOpen (d.tokenKind (d.tokenSig 0 r0 s0)) (d.tokenKind (d.tokenSig 1 r1 s1)) = some 1) ∧
    (∃ (d : Dev) (r0 s0 r1 s1 : Bool), d.sec.verifying = true
     ∧ d.tokensOpen (d.tokenKind (d.tokenSig 0 r0 s0)) (d.tokenKind (d.tokenSig 1 r1 s1)) = some 2) ∧
    (∃ (d : Dev) (r0 s0 r1 s1 : Bool), d.sec.verifying = true
     ∧ d.tokensOpen (d.tokenKind (d.tokenSig 0 r0 s0)) (d.tokenKind (d.tokenSig 1 r1 s1)) = none) ∧
    (∃ (d : Dev), d.accepts ⟨.DBG_CTRL, 0, 0, 0⟩ = true ∧ d.debugState ≠ 0) :=
  ⟨⟨ready, 3, by decide +kernel⟩,
    ⟨{ ready with sec := { ready.sec with identity := some 5 } }, by decide +kernel⟩,
    ⟨ready.put [(F.SEC_ATTEST_STAT.BUSY, 1, 0, 0)], by decide +kernel⟩,
    ⟨{ ready with sec := { ready.sec with report := some (List.replicate 32 7, 3) } }, List.replicate 32 7, 3,
    (({ ready with sec := { ready.sec with report := some (List.replicate 32 7, 3) } }).reportBody (List.replicate 32 7) 3) ++ ({ ready with sec := { ready.sec with report := some (List.replicate 32 7, 3) } }).reportBlock,
    rfl, rfl⟩,
    ⟨ready, by decide +kernel⟩,
    ⟨ready.put [(F.DBG_STAT.LOCKOUT_S, 1, 0, 0)], by decide +kernel⟩,
    ⟨tokened owned (some (key 7).id) 1 7 (key 7), true, true, false, false, rfl, by
    have h : (tokened owned (some (key 7).id) 1 7 (key 7)).tokenFits ((tokened owned (some (key 7).id) 1 7 (key 7)).tokenAt 0) 1 = true := tokened_fits _ _ _ _ _ 1 (by decide +kernel)
    have k : (tokened owned (some (key 7).id) 1 7 (key 7)).tokenKind ((tokened owned (some (key 7).id) 1 7 (key 7)).tokenSig 0 true true) = some 7 :=
      tokened_opens _ _ _ _ _ (cert 7 (key 7) (key 3)) (List.mem_append_right _ (.head _)) (owner_ok) rfl (by decide) (by decide +kernel) (by simp [Dev.tokenSigner, tokened, cert]) (by decide +kernel)
    have c : ((tokened owned (some (key 7).id) 1 7 (key 7)).tokenAt 0).consent = 0 := by decide +kernel
    have o : (tokened owned (some (key 7).id) 1 7 (key 7)).sec.owner = (some (key 7).id) := rfl
    simp [Dev.tokensOpen, h, k, c, o]⟩,
    ⟨tokened records none 2 8 (key 4), true, true, false, false, rfl, by
    have h : (tokened records none 2 8 (key 4)).tokenFits ((tokened records none 2 8 (key 4)).tokenAt 0) 2 = true := tokened_fits _ _ _ _ _ 2 (by decide +kernel)
    have k : (tokened records none 2 8 (key 4)).tokenKind ((tokened records none 2 8 (key 4)).tokenSig 0 true true) = some 8 :=
      tokened_opens _ _ _ _ _ (cert 4 (key 4) (key 0)) (records_mem 4 (by decide)) (role_ok _ 1 4 (by decide) (records_mem 0 (by decide))) rfl (by decide) (by decide +kernel) (by simp [Dev.tokenSigner, cert]) (by decide +kernel)
    have c : ((tokened records none 2 8 (key 4)).tokenAt 0).consent = 0 := by decide +kernel
    have o : (tokened records none 2 8 (key 4)).sec.owner = none := rfl
    simp [Dev.tokensOpen, h, k, c, o]⟩,
    ⟨{ ready with sec := { ready.sec with verifying := true } }, false, false, false, false, by decide +kernel⟩,
    ⟨{ ready.put [(F.DBG_STAT.STATE, 1, 0, 0)] with sec := { ready.sec with mcores := [(2, { halted := true, trace := [5] })] } },
    by decide +kernel⟩⟩

theorem witness_SecurityAndDebug_12_to_19 :
    (∃ (d : Dev), d.accepts ⟨.DBG_CTRL, 0, 0, 0⟩ = true) ∧
    (∃ (d : Dev) (m : Fin 4), d.accepts ⟨.DBG_MCORE_m_CTRL, 0, m, 0⟩ = true ∧ d.mcoreMay = true) ∧
    (∃ (d : Dev) (m : Fin 4), d.accepts ⟨.DBG_MCORE_m_CTRL, 0, m, 0⟩ = true ∧ d.mcoreMay = true) ∧
    (∃ (d : Dev) (m : Fin 4), d.regServed ⟨.DBG_MCORE_m_CTRL, 0, m, 0⟩ = true ∧ d.mcoreMay = false) ∧
    (∃ (d : Dev) (m : Fin 4), d.mcoreMay = true ∧ (d.mcore m).halted = true) ∧
    (∃ (d : Dev), d.mcoreMay = true) ∧
    (∃ (d : Dev), d.mcoreMay = false) ∧
    (∃ (d : Dev) (m : Fin 4) (t : Nat) (rest : List Nat), d.mcoreMay = true ∧ (d.mcore m).trace = t :: rest
     ∧ t < 2 ^ 32) :=
  ⟨⟨ready, by decide +kernel⟩,
    ⟨{ ready.put [(F.DBG_STAT.STATE, 1, 0, 0)] with sec := { ready.sec with mcores := [(2, { halted := true, trace := [5] })] } },
    3, by decide +kernel⟩,
    ⟨{ ready.put [(F.DBG_STAT.STATE, 2, 0, 0)] with sec := { ready.sec with mcores := [(2, { halted := true, trace := [5] })] } },
    2, by decide +kernel⟩,
    ⟨ready, 2, by decide +kernel⟩,
    ⟨{ ready.put [(F.DBG_STAT.STATE, 2, 0, 0)] with sec := { ready.sec with mcores := [(2, { halted := true, trace := List.replicate 4096 5 })] } },
    2, by decide +kernel⟩,
    ⟨ready.put [(F.DBG_STAT.STATE, 2, 0, 0)], by decide +kernel⟩,
    ⟨ready, by decide +kernel⟩,
    ⟨{ ready.put [(F.DBG_STAT.STATE, 2, 0, 0)] with sec := { ready.sec with mcores := [(2, { halted := false, trace := [5, 6], overrun := true })] } },
    2, 5, [6], by decide +kernel⟩⟩

/-! ### The hypotheses of Logbook -/

theorem witness_Logbook_1_to_10 :
    (∃ (d : Dev) (code src : Nat), d.log.shut = false ∧ weightOf code = 0
     ∧ (d.log.open_.find? fun e => decide (e.source = src ∧ e.code = code)) = none ∧ d.log.intake.length < 64
     ∧ d.log.open_.length < 512) ∧
    (∃ (d : Dev) (code src : Nat) (y : Coalesce), d.log.shut = false ∧ weightOf code = 0
     ∧ (d.log.open_.find? fun e => decide (e.source = src ∧ e.code = code)) = some y ∧ y.count < 2 ^ 32 - 1) ∧
    (∃ (d : Dev) (code src : Nat), d.log.shut = false ∧ weightOf code = 0
     ∧ (d.log.open_.find? fun e => decide (e.source = src ∧ e.code = code)) = none ∧ 64 ≤ d.log.intake.length
     ∧ d.log.full = true) ∧
    (∃ (d : Dev) (u : Fin 2048) (code : Nat), weightOf code ≠ 0
     ∧ d.gf F.SAFE_HEALTH_u.SCORE 0 u + weightOf code < 2 ^ 24 ∧ code < 65536) ∧
    (∃ (d : Dev) (x : Intake) (rest : List Intake) (b : List Byte) (h : Nat), d.log.closed = []
     ∧ d.log.intake = x :: rest ∧ h = d.gf F.LOG_HEAD.SEQ
     ∧ b = recordOfReport h { kind := recordKind x.rep.code, first := x.rep.first.getD x.time, last := x.time, overflowFirst := x.overflowFirst, count := if recordKind x.rep.code = 3 then x.rep.count else 1, drops := x.drops } x.rep) ∧
    (∃ (d : Dev) (x : Coalesce) (rest : List Coalesce) (b : List Byte) (h : Nat), d.log.closed = x :: rest
     ∧ h = d.gf F.LOG_HEAD.SEQ
     ∧ b = recordOfReport h { kind := 2, first := x.first, last := x.last, sat := x.sat, count := x.count } x.lastRep) ∧
    (∃ (d : Dev) (src code : Nat) (y : Coalesce), (d.log.open_.find? fun e => decide (e.source = src
     ∧ e.code = code)) = some y) ∧
    (∃ (d : Dev) (n a : Nat), d.ringActive = true ∧ n = max (d.gf F.LOG_HBM_COPIED.SEQ) (d.gf F.LOG_HEAD.SEQ - 4096)
     ∧ n < d.gf F.LOG_HEAD.SEQ ∧ a = d.gf F.LOG_HBM_BASE.BASE + 64 * (n % 1048576) ∧ d.hbmFree a 64 true = true) ∧
    (∃ (d : Dev) (n a : Nat), d.ringActive = true ∧ n = max (d.gf F.LOG_HBM_COPIED.SEQ) (d.gf F.LOG_HEAD.SEQ - 4096)
     ∧ n < d.gf F.LOG_HEAD.SEQ ∧ a = d.gf F.LOG_HBM_BASE.BASE + 64 * (n % 1048576) ∧ (d.hbmHeld a 64 true).1 = true) ∧
    (∃ (d : Dev) (v : Word), d.accepts ⟨.LOG_CTRL, 0, 0, 0⟩ = true
     ∧ (getBits v 0 0 = 0 ∨ Dev.ringBaseOk (d.gf F.LOG_HBM_BASE.BASE) = true)) :=
  ⟨⟨ready, Code.SYN_MERIDIAN_LATE, 3, by decide +kernel⟩,
    ⟨{ ready with log := { ready.log with open_ := [{ source := 3, code := 0x0705, count := 0, lastRep := { code := 0x0705, source := 3, d0 := 9, d1 := 9, device := 0 } }] } },
    0x0705, 3,
    { source := 3, code := 0x0705, count := 0, lastRep := { code := 0x0705, source := 3, d0 := 9, d1 := 9, device := 0 } },
    by decide +kernel⟩,
    ⟨{ ready with log := { ready.log with full := true, intake := List.replicate 64 { rep := { code := 0x0705, source := 4, d0 := 9, d1 := 9, device := 0 }, time := 4, overflowFirst := false, drops := 0 } } },
    0x0705, 3, by decide +kernel⟩,
    ⟨ready, 2047, Code.HBM_UNCORRECTABLE, by decide +kernel⟩,
    ⟨{ ready.put [(F.LOG_HEAD.SEQ, 4097, 0, 0)] with log := { ready.log with intake := [{ rep := { code := 0x0705, source := 4, d0 := 9, d1 := 9, device := 0 }, time := 4, overflowFirst := true, drops := 0 }] } },
    { rep := { code := 0x0705, source := 4, d0 := 9, d1 := 9, device := 0 }, time := 4, overflowFirst := true, drops := 0 },
    [],
    recordOfReport 4097 { kind := 1, first := 4, last := 4, overflowFirst := true, count := 1 } { code := 0x0705, source := 4, d0 := 9, d1 := 9, device := 0 },
    4097, by decide +kernel⟩,
    ⟨{ ready with log := { ready.log with closed := [{ source := 3, code := 0x0705, count := 2, first := 1, last := 5, lastRep := { code := 0x0705, source := 3, d0 := 9, d1 := 9, device := 0 } }] } },
    { source := 3, code := 0x0705, count := 2, first := 1, last := 5, lastRep := { code := 0x0705, source := 3, d0 := 9, d1 := 9, device := 0 } },
    [],
    recordOfReport 0 { kind := 2, first := 1, last := 5, count := 2 } { code := 0x0705, source := 3, d0 := 9, d1 := 9, device := 0 },
    0, by decide +kernel⟩,
    ⟨{ ready with log := { ready.log with open_ := [{ source := 3, code := 0x0705, count := 2, lastRep := { code := 0x0705, source := 3, d0 := 9, d1 := 9, device := 0 } }] } },
    3, 0x0705,
    { source := 3, code := 0x0705, count := 2, lastRep := { code := 0x0705, source := 3, d0 := 9, d1 := 9, device := 0 } },
    by decide +kernel⟩,
    ⟨ready.put [(F.LOG_CTRL.HBM_EN, 1, 0, 0), (F.LOG_HBM_BASE.BASE, 0x4000000, 0, 0), (F.LOG_HEAD.SEQ, 4096, 0, 0)],
    0, 0x4000000, by decide +kernel⟩,
    ⟨{ ready.put [(F.LOG_CTRL.HBM_EN, 1, 0, 0), (F.LOG_HBM_BASE.BASE, 0x4000000, 0, 0), (F.LOG_HEAD.SEQ, 4096, 0, 0)] with mem := { held := [.load 0x4000020 64 0 0] } },
    0, 0x4000000, by decide +kernel⟩,
    ⟨ready.put [(F.LOG_HBM_BASE.BASE, 0x4000000, 0, 0)], 0x500000001, by decide +kernel⟩⟩

theorem witness_Logbook_11 :
    ∃ (d : Dev) (v : Word), d.accepts ⟨.LOG_CTRL, 0, 0, 0⟩ = true ∧ getBits v 0 0 = 1
    ∧ Dev.ringBaseOk (d.gf F.LOG_HBM_BASE.BASE) = false :=
  ⟨ready.put [(F.LOG_HBM_BASE.BASE, 0x4000001, 0, 0)], 1, by decide +kernel⟩

/-! ### The hypotheses of HbmAndCaches -/

theorem witness_HbmAndCaches_1_to_10 :
    (∃ (d : Dev) (o n : Nat), d.hbmFree o n false = true) ∧
    (∃ (d : Dev) (o n : Nat), d.areaOf o n ≠ some .hbm) ∧
    (∃ (d : Dev) (o n u : Nat), d.areaOf o n = some .hbm ∧ unitsOf o n = [u] ∧ d.behind (o, n) = false
     ∧ d.dirConflict u false = false ∧ d.frameBusy u = false ∧ d.lineAt u = none ∧ d.isPoison u = true) ∧
    (∃ (d : Dev) (o n u : Nat) (errs : List MemErr), d.areaOf o n = some .hbm ∧ unitsOf o n = [u] ∧ d.behind (o,
     n) = false ∧ d.dirConflict u false = false ∧ d.frameBusy u = false ∧ d.lineAt u = none ∧ d.isPoison u = false
     ∧ (errOf errs u).dram = .uncorrectable) ∧
    (∃ (d : Dev) (o n h u : Nat), d.hbmFree o n false = true ∧ u ∈ unitsOf o n ∧ d.mem.lines = [] ∧ h = hintStream) ∧
    (∃ (d : Dev) (o : Nat) (bs : List Byte), d.hbmFree o bs.length true = true) ∧
    (∃ (d : Dev) (o : Nat) (bs : List Byte) (h u : Nat), d.areaOf o bs.length = some .hbm ∧ bs.length = 64
     ∧ o = 64 * u ∧ d.behind (o, 64) = false ∧ d.dirConflict u true = false ∧ d.frameBusy u = false
     ∧ d.lineAt u = none ∧ h = hintStream) ∧
    (∃ (d : Dev) (o : Nat) (bs : List Byte) (u : Nat), d.areaOf o bs.length = some .hbm ∧ u ∈ unitsOf o bs.length
     ∧ d.dirConflict u true = true) ∧
    (∃ (d : Dev) (o n : Nat), d.areaOf o n = some .hbm ∧ d.behind (o, n) = true) ∧
    (∃ (d : Dev) (x : Fin 4), d.accepts ⟨.MSC_CTRL, x, 0, 0⟩ = true) :=
  ⟨⟨{ ready with hbm := [(0x1005, 9)] }, 0x1000, 100, by decide +kernel⟩,
    ⟨ready, 0x8FFFFFFFFF, 2, by decide +kernel⟩,
    ⟨{ ready with mem := { poison := [(0x40, true)] } }, 0x1000, 8, 0x40, by decide +kernel⟩,
    ⟨ready, 0x1000, 8, 0x40, [{ unit := 0x40, dram := .uncorrectable }], by decide +kernel⟩,
    ⟨{ ready with hbm := [(0x1005, 9)] }, 0x1000, 100, hintStream, 0x41, by decide +kernel⟩,
    ⟨{ ready with hbm := [(0x1005, 9), (0x1007, 9), (0x1009, 9)] }, 0x1005, [1, 2, 0, 4], by decide +kernel⟩,
    ⟨{ ready with mem := { poison := [(0x40, true)] }, hbm := [(0x1005, 9)] }, 0x1000, List.replicate 64 3,
    hintStream, 0x40, by decide +kernel⟩,
    ⟨{ ready with hlk := { dir := [{ unit := 0x40, owned := false }] } }, 0x1005, [1, 2], 0x40, by decide +kernel⟩,
    ⟨{ ready with mem := { held := [.load 0x1020 64 0 0] } }, 0x1000, 64, by decide +kernel⟩,
    ⟨{ ready with mem := { lines := [{ unit := 0, kept := true, dirty := true }] } }, 0, by decide +kernel⟩⟩

theorem witness_HbmAndCaches_11_to_23 :
    (∃ (d : Dev) (x : Fin 4), d.accepts ⟨.MSC_CTRL, x, 0, 0⟩ = true) ∧
    (∃ (d : Dev) (x : Fin 4) (us : List Nat), NMap.get none d.mem.flushing x = some us) ∧
    (∃ (d : Dev) (x : Fin 4) (us : List Nat), NMap.get none d.mem.unkeeping x = some us) ∧
    (∃ (d : Dev) (x : Fin 4) (u : Nat), 64 * u < d.hbmLimit ∧ unitHome u = x.val ∧ d.isPoison u = false) ∧
    (∃ (d : Dev) (x : Fin 4) (u : Nat), 64 * u < d.hbmLimit ∧ unitHome u = x.val ∧ d.isPoison u = false) ∧
    (∃ (d : Dev) (x : Fin 4) (pc : Fin 1024) (b : Nat), d.accepts ⟨.HBM_MAPOUT_CTRL, x, 0, 0⟩ = true
     ∧ d.mapoutRefusal x pc = none ∧ b = 767 - d.mapouts) ∧
    (∃ (d : Dev) (x : Fin 4) (pc : Fin 1024) (code : Nat), d.accepts ⟨.HBM_MAPOUT_CTRL, x, 0, 0⟩ = true
     ∧ d.mapoutRefusal x pc = some code ∧ code < 65536) ∧
    (∃ (d : Dev) (m : Mapout) (b : Nat), d.mem.mapout = some m ∧ m.phase = .fence ∧ b = 767 - d.mapouts
     ∧ d.bandHeld b = false) ∧
    (∃ (d : Dev), d.bandHeld (767 - d.mapouts) = true) ∧
    (∃ (d : Dev) (m : Mapout) (f h : Nat) (g : Nat × Nat) (rest : List (Nat × Nat)), d.mem.mapout = some m
     ∧ m.phase = .copy ∧ m.moves = (f, h) :: g :: rest ∧ d.mem.held = [] ∧ d.mem.returns = []) :=
  ⟨⟨{ ready with mem := { lines := [{ unit := 0, kept := true, dirty := true }] } }, 0, by decide +kernel⟩,
    ⟨{ ready with mem := { lines := [{ unit := 0, kept := true, dirty := true }], flushing := [(0, some [0])] }, hbm := [(5, 3)] },
    0, [0], by decide +kernel⟩,
    ⟨{ ready with mem := { lines := [{ unit := 0, kept := true, dirty := true }], unkeeping := [(0, some [0])] } }, 0,
    [0], by decide +kernel⟩,
    ⟨ready, 0, 0, by decide +kernel⟩,
    ⟨ready, 0, 0, by decide +kernel⟩,
    ⟨{ ready with hbm := [(5, 3), (767 * 0x30000000 + 5, 7)] }, 0, 5, 767, by decide +kernel⟩,
    ⟨ready, 0, 200, Code.HBM_MAPOUT_BAD_PC, by decide +kernel⟩,
    ⟨{ ready with mem := { mapout := some { q := 0, pc := 5 } } }, { q := 0, pc := 5 }, 767, by decide +kernel⟩,
    ⟨{ ready with mem := { held := [.load (767 * 0x30000000) 64 0 0] } }, by decide +kernel⟩,
    ⟨{ ready with mem := { mapout := some { q := 0, pc := 5, phase := .copy, moves := [(5120, 767), (5121, 1791)] } } },
    { q := 0, pc := 5, phase := .copy, moves := [(5120, 767), (5121, 1791)] }, 5120, 767, (5121, 1791), [],
    by decide +kernel⟩⟩

theorem witness_HbmAndCaches_24 :
    ∃ (d : Dev) (m : Mapout) (f h : Nat), d.mem.mapout = some m ∧ m.phase = .copy ∧ m.moves = [(f, h)]
    ∧ d.mem.held = [] ∧ d.mem.returns = [] ∧ d.mapouts < 24 :=
  ⟨{ ready with mem := { mapout := some { q := 0, pc := 5, phase := .copy, moves := [(5120, 767)] } } },
  { q := 0, pc := 5, phase := .copy, moves := [(5120, 767)] }, 5120, 767, by decide +kernel⟩

/-! ### The hypotheses of GasTargets -/

theorem witness_GasTargets_1_to_10 :
    (∃ (d : Dev) (p : Packet) (c : Instr) (o : Nat), ((c, p.type) ∈ [(Instr.read p [], PT.read), (Instr.dmaRead p [],
     PT.dmaRead)]) ∧ (o = localOf p.addr) ∧ d.grants p p.type = true ∧ d.hbmFree o (spanOf p) false = true) ∧
    (∃ (d : Dev) (p : Packet) (c : Instr) (o : Nat), ((c, p.type) ∈ [(Instr.read p [], PT.read), (Instr.dmaRead p [],
     PT.dmaRead)]) ∧ (o = localOf p.addr) ∧ d.grants p p.type = true ∧ d.areaOf o (spanOf p) = some .sram
     ∧ d.noCopy = true) ∧
    (∃ (d : Dev) (p : Packet) (c : Instr) (o : Nat), ((c, p.type) ∈ [(Instr.write p [], PT.write),
     (Instr.dmaWrite p [], PT.dmaWrite)]) ∧ (o = localOf p.addr) ∧ d.grants p p.type = true
     ∧ d.hbmFree o (spanOf p) true = true) ∧
    (∃ (d : Dev) (p : Packet) (c : Instr) (o : Nat), ((c, p.type) ∈ [(Instr.write p [], PT.write),
     (Instr.dmaWrite p [], PT.dmaWrite)]) ∧ (o = localOf p.addr) ∧ d.grants p p.type = true
     ∧ d.areaOf o (spanOf p) = some .sram ∧ d.noCopy = true) ∧
    (∃ (d : Dev) (p : Packet) (k : RegKey), d.grants p PT.read = true ∧ inRegSpace (localOf p.addr) = true
     ∧ RegKey.ofOffset (Dev.regOffset p) = some k ∧ (coreOf k).isNone = true ∧ (d.regRefusal k).1 = 0) ∧
    (∃ (d : Dev) (p : Packet) (k : RegKey), d.grants p PT.write = true ∧ inRegSpace (localOf p.addr) = true
     ∧ RegKey.ofOffset (Dev.regOffset p) = some k ∧ plainReg k.name = true ∧ d.accepts k = true) ∧
    (∃ (d : Dev) (p : Packet) (c : Instr) (code : Nat), ((c, p.type) ∈ [(Instr.read p [], PT.read), (Instr.write p [],
     PT.write), (Instr.dmaRead p [], PT.dmaRead), (Instr.dmaWrite p [], PT.dmaWrite)])
     ∧ d.takesRequest p p.type = true ∧ (d.checkAccess p).1 = code ∧ code ≠ 0) ∧
    (∃ (d : Dev) (p : Packet) (c : Instr), ((c, p.type) ∈ [(Instr.read p [], PT.read), (Instr.write p [], PT.write),
     (Instr.dmaRead p [], PT.dmaRead), (Instr.dmaWrite p [], PT.dmaWrite), (Instr.atomic p [], PT.atomic),
     (Instr.counter p, PT.counter)]) ∧ d.comesIn p p.type = true ∧ d.occulted = true) ∧
    (∃ (d : Dev) (p : Packet) (c : Instr), ((c, p.type) ∈ [(Instr.read p [], PT.read), (Instr.write p [], PT.write),
     (Instr.dmaRead p [], PT.dmaRead), (Instr.dmaWrite p [], PT.dmaWrite), (Instr.atomic p [], PT.atomic),
     (Instr.counter p, PT.counter)]) ∧ d.comesIn p p.type = true ∧ d.occulted = false ∧ p.partition ≠ d.partition) ∧
    (∃ (d : Dev) (p : Packet) (c : Instr), ((c, p.type) ∈ [(Instr.read p [], PT.read), (Instr.write p [], PT.write),
     (Instr.dmaRead p [], PT.dmaRead), (Instr.dmaWrite p [], PT.dmaWrite), (Instr.atomic p [], PT.atomic),
     (Instr.counter p, PT.counter)]) ∧ d.comesIn p p.type = true ∧ d.occulted = false ∧ p.partition = d.partition
     ∧ d.unaligned p = true) :=
  ⟨⟨{ ready.region with hbm := [(0x1005, 9), (0x2005, 9)] }, pkt PT.read 0x1000 64, .read (pkt PT.read 0x1000 64) [],
    0x1000, .head _, by decide, by decide +kernel⟩,
    ⟨ready.region |>.wrStore 0 0x1005 [1, 2], pkt PT.read (2 ^ 44 + 0x1000) 64,
    .read (pkt PT.read (2 ^ 44 + 0x1000) 64) [], 2 ^ 44 + 0x1000, .head _, by decide, by decide +kernel⟩,
    ⟨{ ready.region with hbm := [(0x1005, 9), (0x2005, 9)] }, pkt PT.write 0x1000 64 (List.replicate 64 0x11),
    .write (pkt PT.write 0x1000 64 (List.replicate 64 0x11)) [], 0x1000, .head _, by decide, by decide +kernel⟩,
    ⟨ready.region |>.wrStore 0 0x1005 [1, 2], pkt PT.write (2 ^ 44 + 0x1000) 64 (List.replicate 64 0x11),
    .write (pkt PT.write (2 ^ 44 + 0x1000) 64 (List.replicate 64 0x11)) [], 2 ^ 44 + 0x1000, .head _, by decide,
    by decide +kernel⟩,
    ⟨ready.region, pkt PT.read (0x3F0000000000 + (⟨.BOOT_STAT, 0, 0, 0⟩ : RegKey).offset) 64, ⟨.BOOT_STAT, 0, 0, 0⟩,
    by decide +kernel⟩,
    ⟨ready.region, pkt PT.write (0x3F0000000000 + (⟨.GAS_CTRL, 0, 0, 0⟩ : RegKey).offset) 64 (leBytes 64 0x1234),
    ⟨.GAS_CTRL, 0, 0, 0⟩, by decide +kernel⟩,
    ⟨ready.region, { pkt PT.read 0x1000 64 with key := 8 }, .read ({ pkt PT.read 0x1000 64 with key := 8 }) [],
    Code.GAS_KEY_MISMATCH, .head _, by decide +kernel⟩,
    ⟨{ ready.region with occulted := true }, pkt PT.read 0x1000 64, .read (pkt PT.read 0x1000 64) [], .head _,
    by decide +kernel⟩,
    ⟨ready.region, { pkt PT.read 0x1000 64 with partition := 3 },
    .read ({ pkt PT.read 0x1000 64 with partition := 3 }) [], .head _, by decide +kernel⟩,
    ⟨ready.region, { pkt PT.read 0x1000 64 with talign := false },
    .read ({ pkt PT.read 0x1000 64 with talign := false }) [], .head _, by decide +kernel⟩⟩

theorem witness_GasTargets_11_to_14 :
    (∃ (d : Dev) (p : Packet) (c : Instr), ((c, p.type) ∈ [(Instr.read p [], PT.read), (Instr.write p [], PT.write),
     (Instr.dmaRead p [], PT.dmaRead), (Instr.dmaWrite p [], PT.dmaWrite), (Instr.atomic p [], PT.atomic),
     (Instr.counter p, PT.counter)]) ∧ d.comesIn p p.type = true ∧ d.occulted = false ∧ p.partition = d.partition
     ∧ d.unaligned p = false ∧ d.stale p = true) ∧
    (∃ (d : Dev) (p : Packet) (o n old : Nat) (x : Dev), d.grants p PT.atomic = true ∧ o = localOf p.addr
     ∧ n = spanOf p ∧ d.hbmFree o n true = true ∧ d.tagHeld p = false ∧ old = leNat (d.hbmBytes o n)
     ∧ x = d.sweepReplies ∧ x.replyOf p = none ∧ x.gas.replies.length < 4096) ∧
    (∃ (d : Dev) (p : Packet) (r : Reply) (x : Dev), d.takesRequest p PT.atomic = true ∧ x = d.sweepReplies
     ∧ x.replyOf p = some r) ∧
    (∃ (d : Dev) (p : Packet) (x : Dev), d.takesRequest p PT.atomic = true ∧ x = d.sweepReplies ∧ x.replyOf p = none
     ∧ d.tagHeld p = true) :=
  ⟨⟨ready.region, { pkt PT.read 0x1000 64 with timeoutUs := 0 },
    .read ({ pkt PT.read 0x1000 64 with timeoutUs := 0 }) [], .head _, by decide +kernel⟩,
    ⟨{ ready.region with hbm := [(0x1005, 9), (0x2005, 9)] },
    { pkt PT.atomic 0x1000 16 (leBytes 8 5 ++ leBytes 8 0) with w64 := true }, 0x1000, 8, leNat [0,0,0,0,0,9,0,0],
    ({ ready.region with hbm := [(0x1005, 9), (0x2005, 9)] }).sweepReplies, by decide +kernel, by decide +kernel,
    by decide +kernel, by decide +kernel, by decide +kernel, by decide +kernel, rfl, by decide +kernel,
    by decide +kernel⟩,
    ⟨{ ready.region with gas := { replies := [{ dev := 5, core := 1, epoch := 2, seq := 9, value := 77, made := 0, life := 400000 }] } },
    { pkt PT.atomic 0x1000 16 (leBytes 8 5 ++ leBytes 8 0) with w64 := true },
    { dev := 5, core := 1, epoch := 2, seq := 9, value := 77, made := 0, life := 400000 },
    ({ ready.region with gas := { replies := [{ dev := 5, core := 1, epoch := 2, seq := 9, value := 77, made := 0, life := 400000 }] } }).sweepReplies,
    by decide +kernel, rfl, by decide +kernel⟩,
    ⟨{ ready.region with mem := { held := [.packet { pkt PT.atomic 0x1000 16 (leBytes 8 5 ++ leBytes 8 0) with w64 := true }] } },
    { pkt PT.atomic 0x1000 16 (leBytes 8 5 ++ leBytes 8 0) with w64 := true },
    ({ ready.region with mem := { held := [.packet { pkt PT.atomic 0x1000 16 (leBytes 8 5 ++ leBytes 8 0) with w64 := true }] } }).sweepReplies,
    by decide +kernel, rfl, by decide +kernel, by decide +kernel⟩⟩

set_option maxRecDepth 100000 in
theorem witness_GasTargets_15 :
    ∃ (d : Dev) (p : Packet) (o : Nat) (x : Dev), d.grants p PT.atomic = true ∧ o = localOf p.addr
    ∧ d.hbmFree o (spanOf p) true = true ∧ d.tagHeld p = false ∧ x = d.sweepReplies ∧ x.replyOf p = none
    ∧ 4096 ≤ x.gas.replies.length :=
  ⟨{ ready.region with gas := { replies := (List.replicate 4096 { dev := 6, core := 1, epoch := 2, seq := 9, value := 77, made := 0, life := 400000 }) } },
  { pkt PT.atomic 0x1000 16 (leBytes 8 5 ++ leBytes 8 0) with w64 := true }, 0x1000,
  ({ ready.region with gas := { replies := (List.replicate 4096 { dev := 6, core := 1, epoch := 2, seq := 9, value := 77, made := 0, life := 400000 }) } }).sweepReplies,
  by decide +kernel, by decide +kernel, by decide +kernel, by decide +kernel, rfl, by decide +kernel,
  by decide +kernel⟩

theorem witness_GasTargets_16_to_22 :
    (∃ (d : Dev) (p : Packet) (c n : Nat) (a : Int) (x : Dev), d.takesRequest p PT.counter = true
     ∧ c = Dev.counterCore p ∧ n = Dev.counterNum p ∧ a = Dev.counterAdd p ∧ x = d.sweepReplies ∧ x.replyOf p = none
     ∧ x.gas.replies.length < 4096 ∧ d.inService c = true ∧ d.copying c = false ∧ d.judge c n a = .applied
     ∧ d.on F.SAFE_LS_CTRL.EN = false) ∧
    (∃ (d : Dev) (p : Packet) (c n : Nat) (a : Int) (x : Dev), d.takesRequest p PT.counter = true
     ∧ c = Dev.counterCore p ∧ n = Dev.counterNum p ∧ a = Dev.counterAdd p ∧ x = d.sweepReplies ∧ x.replyOf p = none
     ∧ x.gas.replies.length < 4096 ∧ d.inService c = true ∧ d.copying c = false ∧ d.judge c n a = .underflow) ∧
    (∃ (d : Dev) (p : Packet) (c : Nat), d.takesRequest p PT.counter = true ∧ c = Dev.counterCore p
     ∧ d.sweepReplies.replyOf p = none ∧ d.sweepReplies.gas.replies.length < 4096 ∧ d.inService c = false
     ∧ d.copying c = false) ∧
    (∃ (d : Dev) (p : Packet) (r : Reply), d.comesIn p PT.release = true ∧ d.occulted = false
     ∧ p.partition = d.partition ∧ d.replyOf p = some r) ∧
    (∃ (d : Dev) (p : Packet), d.comesIn p PT.release = true ∧ d.occulted = false ∧ p.partition = d.partition
     ∧ d.replyOf p = none) ∧
    (∃ (d : Dev) (p : Packet) (v ans : Nat), d.comesIn p PT.query = true ∧ d.started = true ∧ d.occulted = false
     ∧ d.on F.SYN_TIME_STAT.ALIGNED = true ∧ (v, ans) = (if p.issueTime < d.gas.zeroed then (0,
     5) else match d.replyOf p with | none => (0, 4) | some r => if r.refusal = 0 then (r.value, 3) else (0, 4))) ∧
    (∃ (d : Dev) (p : Packet), d.comesIn p PT.query = true
     ∧ (d.started = false ∨ d.occulted = true ∨ d.on F.SYN_TIME_STAT.ALIGNED = false)) :=
  ⟨⟨ready.region, pkt PT.counter 0 16 (leBytes 6 5 ++ leBytes 2 7 ++ leBytes 1 0 ++ List.replicate 7 0), 0, 7, 5,
    (ready.region).sweepReplies, by decide +kernel, by decide +kernel, by decide +kernel, by decide +kernel, rfl,
    by decide +kernel, by decide +kernel, by decide +kernel, by decide +kernel, by decide +kernel, by decide +kernel⟩,
    ⟨ready.region, pkt PT.counter 0 16 (leBytes 6 0xFFFFFFFFFFFF ++ leBytes 2 7 ++ leBytes 1 0 ++ List.replicate 7 0),
    0, 7, -1, (ready.region).sweepReplies, by decide +kernel, by decide +kernel, by decide +kernel, by decide +kernel,
    rfl, by decide +kernel, by decide +kernel, by decide +kernel, by decide +kernel, by decide +kernel⟩,
    ⟨ready.region.put [(F.CLU_CORE_MAP.LCORE_0_PHYS, 7, 0, 0)],
    pkt PT.counter 0 16 (leBytes 6 5 ++ leBytes 2 7 ++ leBytes 1 0 ++ List.replicate 7 0), 0, by decide +kernel⟩,
    ⟨{ ready.region with gas := { replies := [{ dev := 5, core := 1, epoch := 2, seq := 9, value := 77, made := 0, life := 400000 }] } },
    pkt PT.release 0 0, { dev := 5, core := 1, epoch := 2, seq := 9, value := 77, made := 0, life := 400000 },
    by decide +kernel⟩,
    ⟨ready.region, pkt PT.release 0 0, by decide +kernel⟩,
    ⟨{ ready.region with gas := { replies := [{ dev := 5, core := 1, epoch := 2, seq := 9, value := 77, made := 0, life := 400000 }] } },
    pkt PT.query 0 0, 77, 3, by decide +kernel⟩,
    ⟨{ ready.region with occulted := true }, pkt PT.query 0 0, by decide +kernel⟩⟩

/-! ### The hypotheses of GasReplies -/

theorem witness_GasReplies_1_to_10 :
    (∃ (d : Dev) (p : Packet) (r : Req), d.answers p PT.readData [.gld] r = true ∧ p.payload.length = 64
     ∧ r.saddr + 64 ≤ 0x800000 ∧ r.core < 128 ∧ r.thread < 16) ∧
    (∃ (d : Dev) (p : Packet) (r : Req), d.answers p PT.writeAck [.gst, .signal] r = true ∧ r.kind = .gst
     ∧ r.pkt.dseq = p.dseq) ∧
    (∃ (d : Dev) (p : Packet) (r : Req), d.answers p PT.writeAck [.gst, .signal] r = true ∧ r.kind = .signal
     ∧ r.pkt.dseq = p.dseq) ∧
    (∃ (d : Dev) (p : Packet) (r : Req), d.answers p PT.writeAck [.gst, .signal] r = true ∧ r.pkt.dseq ≠ p.dseq) ∧
    (∃ (d : Dev) (p : Packet) (r : Req), d.answers p PT.atomicReply [.gatom] r = true ∧ r.pkt.dseq ≠ p.dseq) ∧
    (∃ (d : Dev) (p : Packet) (r : Req), d.answers p PT.dmaAck [.dmaWrite, .attnAppend, .coll] r = true
     ∧ r.pkt.dseq ≠ p.dseq) ∧
    (∃ (d : Dev) (p : Packet) (r : Req), d.answers p PT.atomicReply [.gatom] r = true ∧ r.pkt.dseq = p.dseq
     ∧ (d.thread r.core r.thread).startReq = false) ∧
    (∃ (d : Dev) (p : Packet) (r : Req), d.answers p PT.releaseAck [.release] r = true) ∧
    (∃ (d : Dev) (p : Packet) (r : Req), d.answers p PT.busy [.gatom, .signal] r = true) ∧
    (∃ (d : Dev) (p : Packet) (r : Req) (x : Entry), d.answers p PT.refusal [.gld, .gst, .gatom, .signal, .dmaRead,
     .dmaWrite, .attnMap, .attnPage, .attnAppend] r = true ∧ (r.kind = .gld ∨ r.kind = .gst) ∧ d.reqEntry r = some x
     ∧ (d.core r.core).faulted = false ∧ p.code < 65536 ∧ p.code ≠ Code.GAS_TIMEOUT
     ∧ p.code ≠ Code.GAS_OUTCOME_UNKNOWN) :=
  ⟨⟨({ ready.in888 with reqs := [req .gld PT.read] } : Dev).setQueue 0 6 [entry (.gas .gld { dst := 5, src := 0, type := 3 } 0 0)] |>.setThread 0 2 { st := .switched },
    rep PT.readData (List.replicate 64 0x11), req .gld PT.read, by decide +kernel⟩,
    ⟨({ ready.in888 with reqs := [req .gst PT.write] } : Dev).setQueue 0 6 [entry (.gas .gst { dst := 5, src := 0, type := 3 } 0 0)],
    rep PT.writeAck, req .gst PT.write, by decide +kernel⟩,
    ⟨{ ready.in888 with reqs := [req .signal PT.counter] } |>.modCore 0 fun k => { k with signals := [{ seq := 3, dest := 2 }, { seq := 4, dest := 2 }] },
    rep PT.writeAck, req .signal PT.counter, by decide +kernel⟩,
    ⟨{ ready.in888 with reqs := [req .signal PT.counter] }, { rep PT.writeAck with dseq := 9 },
    req .signal PT.counter, by decide +kernel⟩,
    ⟨{ ready.in888 with reqs := [req .gatom PT.atomic] }, { rep PT.atomicReply with dseq := 9 }, req .gatom PT.atomic,
    by decide +kernel⟩,
    ⟨{ ready.in888 with reqs := [req .dmaWrite PT.dmaWrite] }, { rep PT.dmaAck with dseq := 9 },
    req .dmaWrite PT.dmaWrite, by decide +kernel⟩,
    ⟨({ ready.in888 with reqs := [{ req .gatom PT.atomic with tdst := 5 }] } : Dev).setQueue 0 6 [entry (.gas .gatom { dst := 5, src := 0, type := 3 } 0 0)],
    rep PT.atomicReply (leBytes 8 77), { req .gatom PT.atomic with tdst := 5 }, by decide +kernel⟩,
    ⟨{ ready.in888 with reqs := [req .release PT.release] }, rep PT.releaseAck, req .release PT.release,
    by decide +kernel⟩,
    ⟨{ ready.in888 with reqs := [{ req .gatom PT.atomic with tdst := 5 }] }, rep PT.busy,
    { req .gatom PT.atomic with tdst := 5 }, by decide +kernel⟩,
    ⟨({ ready.in888 with reqs := [req .gld PT.read] } : Dev).setQueue 0 6 [entry (.gas .gld { dst := 5, src := 0, type := 3 } 0 0)],
    { rep PT.refusal with code := Code.GAS_PERM }, req .gld PT.read,
    entry (.gas .gld { dst := 5, src := 0, type := 3 } 0 0), by decide +kernel⟩⟩

theorem witness_GasReplies_11_to_20 :
    (∃ (d : Dev) (p : Packet) (r : Req) (x : Entry) (run : DmaRun) (y : DmaDesc), d.answers p PT.dmaData [.dmaRead,
     .attnMap, .attnPage] r = true ∧ r.kind = .dmaRead ∧ d.dmaEntry r.core r.queue r.seq = some (x, run)
     ∧ run.desc = some y ∧ y.toFifo = false ∧ y.dstSp = true ∧ y.mcast = false) ∧
    (∃ (d : Dev) (p : Packet) (r : Req) (x : Entry) (run : DmaRun), d.answers p PT.dmaAck [.dmaWrite, .attnAppend,
     .coll] r = true ∧ r.kind = .dmaWrite ∧ r.pkt.dseq = p.dseq ∧ d.dmaEntry r.core r.queue r.seq = some (x, run)) ∧
    (∃ (d : Dev) (p : Packet) (n ans : Nat), d.comesIn p PT.queryAnswer = true ∧ n < 32 ∧ d.unsettled n = 2
     ∧ d.gf F.GAS_UNSETTLED_n_TAG.TARGET 0 n = p.src ∧ d.gf F.GAS_UNSETTLED_n_TAG.CORE 0 n = p.core
     ∧ d.gf F.GAS_UNSETTLED_n_EPOCH.EPOCH 0 n = p.epoch ∧ d.gf F.GAS_UNSETTLED_n_SEQ.SEQ 0 n = p.total
     ∧ ((List.range n).all fun m => decide (d.unsettled m ≠ 2)) = true ∧ ans = leNat ((p.payload.drop 8).take 1)
     ∧ 3 ≤ ans ∧ ans ≤ 5) ∧
    (∃ (d : Dev) (msg off : Nat) (c : Instr) (kinds : List ReqKind) (r : Req), ((c, kinds,
     off) ∈ [(Instr.gasRequestTimeout msg, [ReqKind.gld, .gst, .gatom], 0), (Instr.dmaPacketTimeout msg off,
     [.dmaRead, .dmaWrite, .attnMap, .attnPage, .attnAppend], off), (Instr.remoteSignalTimeout msg, [.signal], 0)])
     ∧ d.timed msg off kinds = some r ∧ r.pkt.attempt < r.retries) ∧
    (∃ (d : Dev) (msg : Nat) (r : Req) (x : Entry), d.timed msg 0 [.gld, .gst, .gatom] = some r
     ∧ r.retries ≤ r.pkt.attempt ∧ (r.kind = .gld ∨ r.kind = .gst) ∧ d.reqEntry r = some x
     ∧ (d.core r.core).faulted = false) ∧
    (∃ (d : Dev) (msg : Nat) (r : Req) (n : Nat), d.timed msg 0 [.gld, .gst, .gatom] = some r
     ∧ r.retries ≤ r.pkt.attempt ∧ r.kind = .gatom ∧ Dev.allBusy r = false ∧ n < 32 ∧ d.unsettled n = 0
     ∧ ((List.range n).all fun m => decide (d.unsettled m ≠ 0)) = true) ∧
    (∃ (d : Dev) (msg : Nat) (r : Req) (n : Nat), d.timed msg 0 [.signal] = some r ∧ r.retries ≤ r.pkt.attempt
     ∧ r.kind = .signal ∧ Dev.allBusy r = false ∧ n < 32 ∧ d.unsettled n = 0
     ∧ ((List.range n).all fun m => decide (d.unsettled m ≠ 0)) = true) ∧
    (∃ (d : Dev) (msg : Nat) (r : Req), d.timed msg 0 [.gatom, .signal] = some r ∧ r.busyWait = true) ∧
    (∃ (d : Dev) (msg : Nat) (r : Req), d.timed msg 0 [.release] = some r ∧ r.kind = .release) ∧
    (∃ (d : Dev) (n : Fin 32), d.unsettled n = 2) :=
  ⟨⟨({ ready.in888 with reqs := [req .dmaRead PT.dmaRead 4] } : Dev).setQueue 0 4 [entry (.dma { nextAddr := 0x1000, desc := some (dmaDescOf (dmaDesc (5 * 2 ^ 46 + 0x2000) 0x4000 64 2 64 2)) })],
    rep PT.dmaData (List.replicate 64 0x11), req .dmaRead PT.dmaRead 4,
    entry (.dma { nextAddr := 0x1000, desc := some (dmaDescOf (dmaDesc (5 * 2 ^ 46 + 0x2000) 0x4000 64 2 64 2)) }),
    { nextAddr := 0x1000, desc := some (dmaDescOf (dmaDesc (5 * 2 ^ 46 + 0x2000) 0x4000 64 2 64 2)) },
    dmaDescOf (dmaDesc (5 * 2 ^ 46 + 0x2000) 0x4000 64 2 64 2), by decide +kernel⟩,
    ⟨({ ready.in888 with reqs := [{ req .dmaWrite PT.dmaWrite 4 with pkt := { dst := 5, src := 0, type := PT.dmaWrite, msg := 3, dseq := 4, payload := List.replicate 64 1 } }] } : Dev).setQueue 0 4 [entry (.dma { nextAddr := 0x1000, desc := some (dmaDescOf (dmaDesc 0x4000 (5 * 2 ^ 46 + 0x2000) 64 2 64 1)) })],
    rep PT.dmaAck,
    { req .dmaWrite PT.dmaWrite 4 with pkt := { dst := 5, src := 0, type := PT.dmaWrite, msg := 3, dseq := 4, payload := List.replicate 64 1 } },
    entry (.dma { nextAddr := 0x1000, desc := some (dmaDescOf (dmaDesc 0x4000 (5 * 2 ^ 46 + 0x2000) 64 2 64 1)) }),
    { nextAddr := 0x1000, desc := some (dmaDescOf (dmaDesc 0x4000 (5 * 2 ^ 46 + 0x2000) 64 2 64 1)) },
    by decide +kernel⟩,
    ⟨ready.put [(F.GAS_UNSETTLED_n_TAG.STATE, 2, 0, 4), (F.GAS_UNSETTLED_n_TAG.CORE, 1, 0, 4),
    (F.GAS_UNSETTLED_n_TAG.TARGET, 5, 0, 4), (F.GAS_UNSETTLED_n_EPOCH.EPOCH, 2, 0, 4), (F.GAS_UNSETTLED_n_SEQ.SEQ, 9,
    0, 4)], { rep PT.queryAnswer (leBytes 8 77 ++ [3]) with core := 1, total := 9, epoch := 2 }, 4, 3,
    by decide +kernel⟩,
    ⟨({ ready.in888 with reqs := [req .gld PT.read] } : Dev).setQueue 0 6 [entry (.gas .gld { dst := 5, src := 0, type := 3 } 0 0)],
    3, 0, .gasRequestTimeout 3, [.gld, .gst, .gatom], req .gld PT.read, .head _, by decide +kernel⟩,
    ⟨({ ready.in888 with reqs := [{ req .gst PT.write with retries := 0 }] } : Dev).setQueue 0 6 [entry (.gas .gst { dst := 5, src := 0, type := 3 } 0 0)],
    3, { req .gst PT.write with retries := 0 }, entry (.gas .gst { dst := 5, src := 0, type := 3 } 0 0),
    by decide +kernel⟩,
    ⟨({ ready.in888 with reqs := [{ req .gatom PT.atomic with retries := 0, firstIssue := some 55 }] } : Dev).setQueue 0 6 [entry (.gas .gatom { dst := 5, src := 0, type := 3 } 0 0)],
    3, { req .gatom PT.atomic with retries := 0, firstIssue := some 55 }, 0, by decide +kernel⟩,
    ⟨{ ready.in888 with reqs := [{ req .signal PT.counter with retries := 0, firstIssue := some 55 }] } |>.put [(F.GAS_UNSETTLED_n_TAG.STATE,
    3, 0, 0)], 3, { req .signal PT.counter with retries := 0, firstIssue := some 55 }, 1, by decide +kernel⟩,
    ⟨{ ready.in888 with reqs := [{ req .gatom PT.atomic with busyWait := true }] }, 3,
    { req .gatom PT.atomic with busyWait := true }, by decide +kernel⟩,
    ⟨{ ready.in888 with reqs := [req .release PT.release] }, 3, req .release PT.release, by decide +kernel⟩,
    ⟨ready.in888.put [(F.GAS_UNSETTLED_n_TAG.STATE, 2, 0, 4), (F.GAS_UNSETTLED_n_TAG.CORE, 1, 0, 4),
    (F.GAS_UNSETTLED_n_TAG.TARGET, 5, 0, 4), (F.GAS_UNSETTLED_n_EPOCH.EPOCH, 2, 0, 4), (F.GAS_UNSETTLED_n_SEQ.SEQ, 9,
    0, 4), (F.GAS_UNSETTLED_n_TIME.TIME, 99, 0, 4)], 4, by decide +kernel⟩⟩

/-! ### The hypotheses of RegionsAndUnsettled -/

theorem witness_RegionsAndUnsettled_1_to_10 :
    (∃ (d : Dev) (n : Fin 4096), d.accepts ⟨.GAS_REGION_n_BASE, 0, n, 0⟩ = true) ∧
    (∃ (d : Dev) (n : Fin 4096), d.accepts ⟨.GAS_REGION_n_LIMIT, 0, n, 0⟩ = true) ∧
    (∃ (d : Dev) (n : Fin 4096) (b l : Nat), d.accepts ⟨.GAS_REGION_n_ATTR, 0, n, 0⟩ = true
     ∧ b = (NMap.get none d.gas.heldBase n).getD (d.gf F.GAS_REGION_n_BASE.BASE 0 n)
     ∧ l = (NMap.get none d.gas.heldLimit n).getD (d.gf F.GAS_REGION_n_LIMIT.LIMIT 0 n)) ∧
    (∃ (d : Dev), d.accepts ⟨.GAS_REGION_FENCE, 0, 0, 0⟩ = true ∧ d.gas.fence = none ∧ d.unapplied = []
     ∧ d.hlk.dir = []) ∧
    (∃ (d : Dev), d.accepts ⟨.GAS_REGION_FENCE, 0, 0, 0⟩ = true ∧ d.gas.fence = none ∧ d.unapplied ≠ []
     ∧ d.hlk.dir = []) ∧
    (∃ (d : Dev) (ws : List Waiting), d.gas.fence = some ws ∧ (∀ w ∈ ws, w ∉ d.unapplied) ∧ d.hlk.dir = []) ∧
    (∃ (d : Dev) (ws : List Waiting) (w : Waiting), d.gas.fence = some ws ∧ w ∈ ws ∧ w ∈ d.unapplied) ∧
    (∃ (d : Dev), d.accepts ⟨.GAS_REPLY_PURGE, 0, 0, 0⟩ = true ∧ d.occulted = false) ∧
    (∃ (d : Dev), d.accepts ⟨.GAS_REPLY_PURGE, 0, 0, 0⟩ = true ∧ d.occulted = true) ∧
    (∃ (d : Dev) (n : Fin 32), d.accepts ⟨.GAS_QUERY_CTRL, 0, 0, 0⟩ = true ∧ d.unsettled n < 3) :=
  ⟨⟨ready, 9, by decide +kernel⟩,
    ⟨ready, 9, by decide +kernel⟩,
    ⟨{ ready with gas := { heldBase := [(9, some 77)] } }, 9, 77, 0, by decide +kernel⟩,
    ⟨ready, by decide +kernel⟩,
    ⟨{ ready with mem := { held := [.packet (pkt PT.read 0x1000 64)] } }, by decide +kernel⟩,
    ⟨{ ready with gas := { fence := some [.packet (pkt PT.read 0x1000 64)] } }.put [(F.GAS_REGION_FENCE.REQ, 1, 0,
    0)], [.packet (pkt PT.read 0x1000 64)], by decide +kernel⟩,
    ⟨{ ready with gas := { fence := some [.packet (pkt PT.read 0x1000 64)] }, mem := { held := [.packet (pkt PT.read 0x1000 64)] } },
    [.packet (pkt PT.read 0x1000 64)], .packet (pkt PT.read 0x1000 64), by decide +kernel⟩,
    ⟨{ ready with gas := { replies := [{ dev := 5, core := 1, epoch := 2, seq := 1, value := 77, made := 0, life := 0, released := true }, { dev := 5, core := 1, epoch := 2, seq := 2, value := 77, made := 0, life := 0, released := false }] } },
    by decide +kernel⟩,
    ⟨{ ready with occulted := true, gas := { replies := [{ dev := 5, core := 1, epoch := 2, seq := 1, value := 77, made := 0, life := 0, released := true }, { dev := 5, core := 1, epoch := 2, seq := 2, value := 77, made := 0, life := 0, released := false }] } },
    by decide +kernel⟩,
    ⟨ready.in888.put [(F.GAS_UNSETTLED_n_TAG.STATE, 1, 0, 4), (F.GAS_UNSETTLED_n_TAG.CORE, 1, 0, 4),
    (F.GAS_UNSETTLED_n_TAG.TARGET, 5, 0, 4), (F.GAS_UNSETTLED_n_EPOCH.EPOCH, 2, 0, 4), (F.GAS_UNSETTLED_n_SEQ.SEQ, 9,
    0, 4), (F.GAS_UNSETTLED_n_TIME.TIME, 99, 0, 4)], 4, by decide +kernel⟩⟩

theorem witness_RegionsAndUnsettled_11_to_14 :
    (∃ (d : Dev) (n : Fin 32), d.accepts ⟨.GAS_QUERY_CTRL, 0, 0, 0⟩ = true ∧ 3 ≤ d.unsettled n) ∧
    (∃ (d : Dev), d.accepts ⟨.GAS_QUERY_CTRL, 0, 0, 0⟩ = true) ∧
    (∃ (d : Dev) (n : Fin 32), d.accepts ⟨.GAS_UNSETTLED_n_TAG, 0, n, 0⟩ = true) ∧
    (∃ (d : Dev) (n : Fin 32) (v : Word) (c : Instr) (k : RegName), ((c, k) ∈ [(Instr.unsettledEpochWrite n v,
     RegName.GAS_UNSETTLED_n_EPOCH), (Instr.unsettledSeqWrite n v, .GAS_UNSETTLED_n_SEQ),
     (Instr.unsettledTimeWrite n v, .GAS_UNSETTLED_n_TIME)]) ∧ d.accepts ⟨k, 0, n, 0⟩ = true) :=
  ⟨⟨ready.in888.put [(F.GAS_UNSETTLED_n_TAG.STATE, 4, 0, 4)], 4, by decide +kernel⟩,
    ⟨ready.in888.put [(F.GAS_UNSETTLED_n_TAG.STATE, 1, 0, 4)], by decide +kernel⟩,
    ⟨ready.put [(F.GAS_UNSETTLED_n_TAG.STATE, 0, 0, 4)], 4, by decide +kernel⟩,
    ⟨ready.put [(F.GAS_UNSETTLED_n_TAG.STATE, 0, 0, 4)], 4, 0x123456789ABCDEF0,
    .unsettledEpochWrite 4 0x123456789ABCDEF0, .GAS_UNSETTLED_n_EPOCH, .head _, by decide +kernel⟩⟩

/-! ### The hypotheses of FabricRouting -/

theorem witness_FabricRouting_1_to_10 :
    (∃ (d : Dev) (p : Packet), d.sdieDown = false ∧ p ∈ d.injected
     ∧ (knownType p.type = false ∨ p.vc = 7 ∨ p.route = 3)) ∧
    (∃ (d : Dev) (p : Packet), d.sdieDown = false ∧ p ∈ d.injected ∧ knownType p.type = true ∧ p.vc ≠ 7 ∧ p.route ≠ 3
     ∧ p.type ≠ PT.discover ∧ 2 * (d.dim 0 + d.dim 1 + d.dim 2) < p.hops) ∧
    (∃ (d : Dev) (p : Packet), d.sdieDown = false ∧ p ∈ d.injected ∧ knownType p.type = true ∧ p.vc ≠ 7 ∧ p.route ≠ 3
     ∧ p.type ≠ PT.discover ∧ p.hops ≤ 2 * (d.dim 0 + d.dim 1 + d.dim 2)
     ∧ (d.mute p = true ∨ d.wayOf p none = .unroutable)) ∧
    (∃ (d : Dev) (p : Packet) (f : Fin 6) (x : Packet), d.sdieDown = false ∧ p ∈ d.injected ∧ knownType p.type = true
     ∧ p.vc ≠ 7 ∧ p.route ≠ 3 ∧ p.type ≠ PT.discover ∧ p.hops ≤ 2 * (d.dim 0 + d.dim 1 + d.dim 2) ∧ d.mute p = false
     ∧ d.wayOf p none = .face f x ∧ d.hasRoom f x = true ∧ d.on F.XFB_ECN_CTRL.EN = false) ∧
    (∃ (d : Dev) (p : Packet) (fs : List Nat) (f : Nat) (free : List Nat), d.sdieDown = false ∧ p ∈ d.injected
     ∧ knownType p.type = true ∧ p.vc ≠ 7 ∧ p.route ≠ 3 ∧ p.type ≠ PT.discover
     ∧ p.hops ≤ 2 * (d.dim 0 + d.dim 1 + d.dim 2) ∧ d.mute p = false ∧ d.wayOf p none = .adaptive fs ∧ f ∈ fs
     ∧ d.hasRoom f p = true ∧ 0 < free.getD f 0 ∧ (∀ g ∈ fs,
     g ≠ f → d.hasRoom g p = true → free.getD g 0 < free.getD f 0) ∧ d.on F.XFB_ECN_CTRL.EN = false) ∧
    (∃ (d : Dev) (p : Packet) (f : Fin 6) (x : Packet), d.sdieDown = false ∧ p ∈ d.injected ∧ knownType p.type = true
     ∧ p.vc ≠ 7 ∧ p.route ≠ 3 ∧ p.type ≠ PT.discover ∧ p.hops ≤ 2 * (d.dim 0 + d.dim 1 + d.dim 2) ∧ d.mute p = false
     ∧ d.wayOf p none = .face f x ∧ d.hasRoom f x = false ∧ (d.faceUp f = true ∨ x.route ≠ 2)) ∧
    (∃ (d : Dev) (p : Packet) (f : Fin 6) (x : Packet), d.sdieDown = false ∧ p ∈ d.injected ∧ knownType p.type = true
     ∧ p.vc = 4 ∧ p.route = 2 ∧ p.type ≠ PT.discover ∧ p.hops ≤ 2 * (d.dim 0 + d.dim 1 + d.dim 2) ∧ d.mute p = false
     ∧ d.wayOf p none = .face f x ∧ x.vc = 4 ∧ x.route = 2 ∧ d.faceUp f = false) ∧
    (∃ (d : Dev) (p : Packet) (g : Fin 6), d.sdieDown = false ∧ d.faceUp g = true ∧ d.occulted = false
     ∧ knownType p.type = true ∧ p.vc < 5 ∧ p.route = 0 ∧ isManagement p.type = false ∧ p.dst = d.self
     ∧ p.hops ≤ 2 * (d.dim 0 + d.dim 1 + d.dim 2) ∧ d.coordsValid = true ∧ p.partition = d.partition
     ∧ d.on F.XFB_TABLE_STAT.DRAINED = false) ∧
    (∃ (d : Dev), d.sdieDown = true) ∧
    (∃ (d : Dev) (p : Packet) (b : Buffered), d.buffered p = some b ∧ [2, 3, 6].contains p.vc = true ∧ p.route = 1
     ∧ p.esc = false) :=
  ⟨⟨{ ready.in888 with injected := [{ dst := 3, src := 0, partition := 1, type := 0x13, vc := 2 }] },
    { dst := 3, src := 0, partition := 1, type := 0x13, vc := 2 }, by decide +kernel⟩,
    ⟨{ ready.in888 with injected := [{ dst := 3, src := 0, partition := 1, type := PT.read, vc := 2, hops := 49 }] },
    { dst := 3, src := 0, partition := 1, type := PT.read, vc := 2, hops := 49 }, by decide +kernel⟩,
    ⟨{ ready.in888 with injected := [{ dst := 9, src := 0, partition := 1, type := PT.read, vc := 2 }] },
    { dst := 9, src := 0, partition := 1, type := PT.read, vc := 2 }, by decide +kernel⟩,
    ⟨{ ready.in888 with injected := [{ dst := 3, src := 0, partition := 1, type := PT.read, vc := 2 }] }.put [(F.XFB_ECN_CTRL.EN,
    0, 0, 0), (F.XFB_FACE_f_STAT.UP, 1, 0, 0), (F.XFB_FACE_f_STAT.PORTS_UP, 3, 0, 0)],
    { dst := 3, src := 0, partition := 1, type := PT.read, vc := 2 }, 0,
    { dst := 3, src := 0, partition := 1, type := PT.read, vc := 2, esc := true }, by decide +kernel⟩,
    ⟨{ ready.in888 with injected := [{ dst := 3, src := 0, partition := 1, type := PT.read, vc := 2, route := 1 }] }.put [(F.XFB_ECN_CTRL.EN,
    0, 0, 0), (F.XFB_FACE_f_STAT.UP, 1, 0, 0), (F.XFB_FACE_f_STAT.PORTS_UP, 3, 0, 0)],
    { dst := 3, src := 0, partition := 1, type := PT.read, vc := 2, route := 1 }, [0], 0, [5], by decide +kernel⟩,
    ⟨{ ready.in888 with injected := [{ dst := 3, src := 0, partition := 1, type := PT.read, vc := 2 }] },
    { dst := 3, src := 0, partition := 1, type := PT.read, vc := 2 }, 0,
    { dst := 3, src := 0, partition := 1, type := PT.read, vc := 2, esc := true }, by decide +kernel⟩,
    ⟨{ ready.in888 with injected := [{ dst := 3, src := 0, partition := 1, type := PT.read, vc := 4, route := 2, transit := 9 }], fab := { circuits := [{ owner := 0, id := 9, rate := 5, face := 0, from_ := none, dst := 3 }] } },
    { dst := 3, src := 0, partition := 1, type := PT.read, vc := 4, route := 2, transit := 9 }, 0,
    { dst := 3, src := 0, partition := 1, type := PT.read, vc := 4, route := 2, transit := 9, esc := true },
    by decide +kernel⟩,
    ⟨ready.in888.put [(F.XFB_FACE_f_STAT.UP, 1, 0, 0), (F.XFB_FACE_f_STAT.PORTS_UP, 3, 0, 0)],
    { dst := 0, src := 3, partition := 1, type := PT.read, vc := 2 }, 0, by decide +kernel⟩,
    ⟨ready.in888.put [(F.DLK_DIE_k_INV.OCCULTED, 1, 0, 12)], by decide +kernel⟩,
    ⟨{ ready.in888 with fab := { router := [{ pkt := { dst := 3, src := 0, partition := 1, type := PT.read, vc := 2, route := 1 }, face := none }] } }.put [(F.XFB_FACE_f_STAT.UP,
    1, 0, 0), (F.XFB_FACE_f_STAT.PORTS_UP, 3, 0, 0)],
    { dst := 3, src := 0, partition := 1, type := PT.read, vc := 2, route := 1 },
    { pkt := { dst := 3, src := 0, partition := 1, type := PT.read, vc := 2, route := 1 }, face := none },
    by decide +kernel⟩⟩

theorem witness_FabricRouting_11_to_20 :
    (∃ (d : Dev) (p : Packet) (b : Buffered), d.buffered p = some b ∧ p.type ≠ PT.coll) ∧
    (∃ (d : Dev) (p : Packet) (b : Buffered), d.buffered p = some b ∧ p.vc = 0) ∧
    (∃ (d : Dev) (f : Fin 6), d.faceUp f = false ∧ d.faceHeld f = false ∧ d.gf F.XFB_FACE_f_STAT.PORTS_UP 0 f ≠ 0
     ∧ d.fab.router = []) ∧
    (∃ (d : Dev) (f : Fin 6), d.faceUp f = true ∧ (d.gf F.XFB_FACE_f_STAT.PORTS_UP 0 f = 0 ∨ d.faceHeld f = true)
     ∧ d.fab.circuits = []) ∧
    (∃ (d : Dev) (f : Fin 6) (p : Packet) (ix dims : Nat), p.type = PT.discover ∧ d.faceUp f = true
     ∧ d.fab.conflict = false ∧ d.coordsValid = false ∧ d.fab.kept = none ∧ leNat ((p.payload.drop 17).take 1) < 8
     ∧ bitOf (leNat ((p.payload.drop 17).take 1)) 0 = true ∧ leNat ((p.payload.drop 18).take 2) = 0
     ∧ ix = leNat ((p.payload.drop 20).take 4) ∧ ix < 2 ^ 18 ∧ dims = leNat ((p.payload.drop 24).take 4)
     ∧ dims < 2 ^ 18 ∧ leNat ((p.payload.drop 28).take 36) = 0) ∧
    (∃ (d : Dev) (f : Fin 6) (p : Packet) (ix dims : Nat), p.type = PT.discover ∧ d.faceUp f = true
     ∧ d.fab.conflict = false ∧ d.coordsValid = true ∧ d.gf F.XFB_COORD.SOURCE ≠ 2
     ∧ leNat ((p.payload.drop 17).take 1) < 8 ∧ bitOf (leNat ((p.payload.drop 17).take 1)) 0 = true
     ∧ leNat ((p.payload.drop 18).take 2) = 0 ∧ ix = leNat ((p.payload.drop 20).take 4) ∧ ix < 2 ^ 18
     ∧ dims = leNat ((p.payload.drop 24).take 4) ∧ dims < 2 ^ 18 ∧ leNat ((p.payload.drop 28).take 36) = 0
     ∧ Dev.implied f ix dims ≠ d.self) ∧
    (∃ (d : Dev) (f : Fin 6) (p : Packet) (ix dims me t : Nat) (old : Nat × Nat), p.type = PT.discover
     ∧ d.faceUp f = true ∧ d.fab.conflict = false ∧ d.coordsValid = true ∧ d.gf F.XFB_COORD.SOURCE = 2
     ∧ d.fab.derived = some (t, old) ∧ d.chrono < t + 100000 ∧ d.fab.undo = []
     ∧ leNat ((p.payload.drop 17).take 1) < 8 ∧ bitOf (leNat ((p.payload.drop 17).take 1)) 0 = true
     ∧ leNat ((p.payload.drop 18).take 2) = 0 ∧ ix = leNat ((p.payload.drop 20).take 4) ∧ ix < 2 ^ 18
     ∧ dims = leNat ((p.payload.drop 24).take 4) ∧ dims < 2 ^ 18 ∧ leNat ((p.payload.drop 28).take 36) = 0
     ∧ me = Dev.implied f ix dims ∧ old ≠ (me, dims)) ∧
    (∃ (d : Dev) (p : Packet), p ∈ d.held ∧ (d.on F.XFB_TABLE_CTRL.DRAIN = false ∨ heldVc p.vc = false)
     ∧ (∀ r ∈ d.rates, r.dst = p.dst → Dev.paced p = false ∨ Dev.rateAllows d.chrono r = true)) ∧
    (∃ (d : Dev) (p : Packet) (r : Rate), r ∈ d.rates ∧ r.dst = p.dst ∧ Dev.paced p = true
     ∧ Dev.rateAllows d.chrono r = false) ∧
    (∃ (d : Dev) (dst : Nat) (r : Rate), d.rates = [r] ∧ r.dst = dst) :=
  ⟨⟨{ ready.in888 with fab := { router := [{ pkt := { dst := 3, src := 0, partition := 1, type := PT.read, vc := 2, route := 1 }, face := some 2 }] } },
    { dst := 3, src := 0, partition := 1, type := PT.read, vc := 2, route := 1 },
    { pkt := { dst := 3, src := 0, partition := 1, type := PT.read, vc := 2, route := 1 }, face := some 2 },
    by decide +kernel⟩,
    ⟨{ ready.in888 with fab := { router := [{ pkt := { dst := 3, src := 0, partition := 1, type := PT.query, vc := 0 }, face := none }] } },
    { dst := 3, src := 0, partition := 1, type := PT.query, vc := 0 },
    { pkt := { dst := 3, src := 0, partition := 1, type := PT.query, vc := 0 }, face := none }, by decide +kernel⟩,
    ⟨ready.in888.put [(F.XFB_FACE_f_STAT.PORTS_UP, 3, 0, 0)], 0, by decide +kernel⟩,
    ⟨ready.in888.put [(F.XFB_FACE_f_STAT.UP, 1, 0, 0)], 0, by decide +kernel⟩,
    ⟨ready.put [(F.XFB_COORD.VALID, 0, 0, 0), (F.XFB_FACE_f_STAT.UP, 1, 0, 0), (F.XFB_FACE_f_STAT.PORTS_UP, 3, 0, 0)],
    0,
    { dst := 0, src := 0, type := PT.discover, length := 64, payload := leBytes 16 77 ++ [1, 1, 0, 0] ++ leBytes 4 6 ++ leBytes 4 29127 ++ List.replicate 36 0 },
    6, 0x71C7, by decide +kernel⟩,
    ⟨ready.in888.put [(F.XFB_COORD.SOURCE, 3, 0, 0), (F.XFB_FACE_f_STAT.UP, 1, 0, 0), (F.XFB_FACE_f_STAT.PORTS_UP, 3,
    0, 0)], 0,
    { dst := 0, src := 0, type := PT.discover, length := 64, payload := leBytes 16 77 ++ [1, 1, 0, 0] ++ leBytes 4 6 ++ leBytes 4 29127 ++ List.replicate 36 0 },
    6, 0x71C7, by decide +kernel⟩,
    ⟨{ ready.in888 with fab := { derived := some (ready.chrono, (1, 0x71C7)) } }.put [(F.XFB_COORD.SOURCE, 2, 0, 0),
    (F.XFB_FACE_f_STAT.UP, 1, 0, 0), (F.XFB_FACE_f_STAT.PORTS_UP, 3, 0, 0)], 0,
    { dst := 0, src := 0, type := PT.discover, length := 64, payload := leBytes 16 77 ++ [1, 1, 0, 0] ++ leBytes 4 6 ++ leBytes 4 29127 ++ List.replicate 36 0 },
    6, 0x71C7, 5, ready.chrono, (1, 0x71C7), by decide +kernel⟩,
    ⟨{ ready.in888 with held := [{ dst := 3, src := 0, partition := 1, type := PT.read, vc := 2 }] },
    { dst := 3, src := 0, partition := 1, type := PT.read, vc := 2 }, by decide +kernel⟩,
    ⟨{ ready.in888 with held := [{ dst := 3, src := 0, partition := 1, type := PT.read, vc := 2 }], rates := [{ dst := 3, rc := 1, recent := [(ready.chrono, 110)] }] },
    { dst := 3, src := 0, partition := 1, type := PT.read, vc := 2 },
    { dst := 3, rc := 1, recent := [(ready.chrono, 110)] }, by decide +kernel⟩,
    ⟨{ ready.in888 with rates := [{ dst := 3, rc := 512, rt := 800, alphaN := 3, alphaE := 2, k := 1 }] }, 3,
    { dst := 3, rc := 512, rt := 800, alphaN := 3, alphaE := 2, k := 1 }, by decide +kernel⟩⟩

theorem witness_FabricRouting_21_to_22 :
    (∃ (d : Dev) (dst : Nat) (r : Rate) (rt : Nat), r ∈ d.rates ∧ r.dst = dst ∧ r.rc < 1024
     ∧ rt = (if r.k + 1 ≤ d.gf F.XFB_RATE_CTRL.FAST_STEPS then r.rt else min 1024 (r.rt + d.gf F.XFB_RATE_CTRL.R_AI))
     ∧ (rt + r.rc) / 2 < 1024) ∧
    (∃ (d : Dev) (p : Packet) (f : Fin 6) (x : Packet) (y : Bool) (q : Nat) (m : Bool), d.sdieDown = false
     ∧ p ∈ d.injected ∧ knownType p.type = true ∧ p.vc ≠ 7 ∧ p.route ≠ 3 ∧ p.type ≠ PT.discover
     ∧ p.hops ≤ 2 * (d.dim 0 + d.dim 1 + d.dim 2) ∧ d.mute p = false ∧ d.wayOf p none = .face f x
     ∧ d.hasRoom f x = true ∧ d.on F.XFB_ECN_CTRL.EN = true ∧ x.route ≠ 2 ∧ x.vc ∈ [2, 3, 5, 6] ∧ q = d.queued f x.vc
     ∧ m = (decide (d.gf F.XFB_ECN_CTRL.K_MIN < q) && (decide (d.gf F.XFB_ECN_CTRL.K_MAX ≤ q) || (y && decide (d.gf F.XFB_ECN_CTRL.P_MAX ≠ 0))))) :=
  ⟨⟨{ ready.in888 with rates := [{ dst := 3, rc := 512, rt := 800, alphaN := 3, alphaE := 2, k := 1 }, { dst := 4, rc := 512, rt := 800, alphaN := 3, alphaE := 2, k := 1 }] },
    3, { dst := 3, rc := 512, rt := 800, alphaN := 3, alphaE := 2, k := 1 }, 800, by decide +kernel⟩,
    ⟨{ ready.in888 with injected := [{ dst := 3, src := 0, partition := 1, type := PT.read, vc := 2 }], fab := { ready.in888.fab with out := List.replicate 2 { face := 0, pkt := { dst := 3, src := 0, partition := 1, type := PT.dmaData, vc := 2, length := 4026 } } } }.put [(F.XFB_ECN_CTRL.EN,
    1, 0, 0), (F.XFB_ECN_CTRL.K_MIN, 1, 0, 0), (F.XFB_ECN_CTRL.K_MAX, 4000, 0, 0), (F.XFB_ECN_CTRL.P_MAX, 3, 0, 0),
    (F.XFB_FACE_f_STAT.UP, 1, 0, 0), (F.XFB_FACE_f_STAT.PORTS_UP, 3, 0, 0)],
    { dst := 3, src := 0, partition := 1, type := PT.read, vc := 2 }, 0,
    { dst := 3, src := 0, partition := 1, type := PT.read, vc := 2, esc := true }, true,
    ({ ready.in888 with injected := [{ dst := 3, src := 0, partition := 1, type := PT.read, vc := 2 }], fab := { ready.in888.fab with out := List.replicate 2 { face := 0, pkt := { dst := 3, src := 0, partition := 1, type := PT.dmaData, vc := 2, length := 4026 } } } }.put [(F.XFB_ECN_CTRL.EN,
    1, 0, 0), (F.XFB_ECN_CTRL.K_MIN, 1, 0, 0), (F.XFB_ECN_CTRL.K_MAX, 4000, 0, 0), (F.XFB_ECN_CTRL.P_MAX, 3, 0, 0),
    (F.XFB_FACE_f_STAT.UP, 1, 0, 0), (F.XFB_FACE_f_STAT.PORTS_UP, 3, 0, 0)]).queued 0 2, true, by decide +kernel⟩⟩

/-! ### The hypotheses of FabricControl -/

theorem witness_FabricControl_1_to_10 :
    (∃ (d : Dev), d.accepts ⟨.XFB_COORD_OVERRIDE, 0, 0, 0⟩ = true
     ∧ (d.coordsValid = false ∨ d.on F.XFB_TABLE_STAT.DRAINED = true)) ∧
    (∃ (d : Dev), d.accepts ⟨.XFB_COORD_OVERRIDE, 0, 0, 0⟩ = true ∧ d.coordsValid = true
     ∧ d.on F.XFB_TABLE_STAT.DRAINED = false) ∧
    (∃ (d : Dev), d.accepts ⟨.XFB_COORD_OVERRIDE, 0, 0, 0⟩ = true ∧ d.gf F.XFB_COORD.SOURCE = 3
     ∧ d.on F.XFB_TABLE_STAT.DRAINED = true ∧ d.on F.XFB_ANCHOR.ANCHOR = false) ∧
    (∃ (d : Dev) (n : Fin 256) (id : Nat), d.accepts ⟨.XFB_TRANSIT_n_CTRL, 0, n, 0⟩ = true
     ∧ d.gf F.XFB_TRANSIT_n_STAT.STATE 0 n = 0 ∧ id = d.gf F.XFB_TRANSIT_n_PATH.ID 0 n
     ∧ (id = 0 ∨ d.ownTransit id ≠ none)) ∧
    (∃ (d : Dev) (n : Fin 256) (id : Nat), d.accepts ⟨.XFB_TRANSIT_n_CTRL, 0, n, 0⟩ = true
     ∧ d.gf F.XFB_TRANSIT_n_STAT.STATE 0 n = 0 ∧ id = d.gf F.XFB_TRANSIT_n_PATH.ID 0 n ∧ id ≠ 0
     ∧ d.ownTransit id = none ∧ d.coordsValid = true ∧ d.gf F.XFB_TRANSIT_n_PATH.DEST 0 n = d.self
     ∧ d.inTorus d.self = true ∧ d.fab.circuits = []) ∧
    (∃ (d : Dev) (n : Fin 256), d.accepts ⟨.XFB_TRANSIT_n_CTRL, 0, n, 0⟩ = true
     ∧ d.gf F.XFB_TRANSIT_n_STAT.STATE 0 n ≠ 0) ∧
    (∃ (d : Dev) (n : Fin 256), d.accepts ⟨.XFB_TRANSIT_n_CTRL, 0, n, 0⟩ = true) ∧
    (∃ (d : Dev) (n : Fin 256), d.gf F.XFB_TRANSIT_n_STAT.STATE 0 n = 4 ∧ d.gf F.XFB_TRANSIT_n_PATH.DEST 0 n = d.self
     ∧ d.fab.circuits = [] ∧ (∀ r ∈ d.reqs, r.pkt.route ≠ 2)) ∧
    (∃ (d : Dev) (n : Fin 256) (r : Req), r ∈ d.reqs ∧ r.pkt.route = 2
     ∧ r.pkt.transit = d.gf F.XFB_TRANSIT_n_PATH.ID 0 n) ∧
    (∃ (d : Dev) (g f : Fin 6) (p : Packet) (k dir : Nat) (x : Packet) (w : Bool), p.type = PT.transitSetup
     ∧ d.setupRefusal p true = none ∧ d.transitStep p.dst (p.addr / 2 ^ 8 % 8) = some (k, dir)
     ∧ d.stepIn k dir p (some g.val) = (f.val, x, w)) :=
  ⟨⟨ready.put [(F.XFB_COORD.VALID, 0, 0, 0)], by decide +kernel⟩,
    ⟨ready, by decide +kernel⟩,
    ⟨ready.put [(F.XFB_TABLE_STAT.DRAINED, 1, 0, 0), (F.XFB_COORD.SOURCE, 3, 0, 0)], by decide +kernel⟩,
    ⟨ready.in888, 7, 0, by decide +kernel⟩,
    ⟨ready.in888.put [(F.XFB_TRANSIT_n_PATH.ID, 9, 0, 7), (F.XFB_TRANSIT_n_PATH.RATE, 5, 0, 7)], 7, 9,
    by decide +kernel⟩,
    ⟨ready.in888.put [(F.XFB_TRANSIT_n_STAT.STATE, 2, 0, 7)], 7, by decide +kernel⟩,
    ⟨ready.in888.put [(F.XFB_TRANSIT_n_STAT.STATE, 0, 0, 7)], 7, by decide +kernel⟩,
    ⟨ready.in888.put [(F.XFB_TRANSIT_n_STAT.STATE, 4, 0, 7)], 7, by decide +kernel⟩,
    ⟨{ ready.in888 with reqs := [{ req .gld PT.read with pkt := { dst := 5, src := 0, type := PT.read, route := 2, transit := 9 } }] }.put [(F.XFB_TRANSIT_n_STAT.STATE,
    4, 0, 7), (F.XFB_TRANSIT_n_PATH.ID, 9, 0, 7)], 7,
    { req .gld PT.read with pkt := { dst := 5, src := 0, type := PT.read, route := 2, transit := 9 } },
    by decide +kernel⟩,
    ⟨ready.in888.put [(F.XFB_FACE_f_STAT.UP, 1, 0, 0), (F.XFB_FACE_f_STAT.PORTS_UP, 3, 0, 0)], 1, 0,
    { dst := 3, src := 7, type := PT.transitSetup, transit := 9, addr := 5 }, 0, 1,
    { dst := 3, src := 7, type := PT.transitSetup, transit := 9, addr := 5, esc := true }, false, by decide +kernel⟩⟩

theorem witness_FabricControl_11_to_20 :
    (∃ (d : Dev) (p : Packet) (own : Bool) (cause : Nat), p.type = PT.transitSetup ∧ d.setupRefusal p own = some cause
     ∧ p.src ≠ d.self) ∧
    (∃ (d : Dev) (p : Packet) (n : Fin 256), p.type = PT.transitReply ∧ p.dst = d.self
     ∧ d.ownTransit p.transit = some n.val
     ∧ (d.gf F.XFB_TRANSIT_n_STAT.STATE 0 n = 1 ∨ d.gf F.XFB_TRANSIT_n_STAT.STATE 0 n = 4) ∧ p.code = 0) ∧
    (∃ (d : Dev) (p : Packet) (n : Fin 256), p.type = PT.transitReply ∧ p.dst = d.self
     ∧ d.ownTransit p.transit = some n.val ∧ d.gf F.XFB_TRANSIT_n_STAT.STATE 0 n = 1 ∧ p.code ≠ 0 ∧ p.code < 65536) ∧
    (∃ (d : Dev) (p : Packet) (c : Circuit), p.type = PT.transitTear ∧ d.fab.circuits = [c] ∧ c.id = p.transit
     ∧ c.owner = p.src ∧ c.face = 6) ∧
    (∃ (d : Dev) (p : Packet) (n : Fin 256), p.type = PT.transitBroken ∧ p.dst = d.self
     ∧ d.ownTransit p.transit = some n.val ∧ d.gf F.XFB_TRANSIT_n_STAT.STATE 0 n = 2) ∧
    (∃ (d : Dev) (n : Fin 256), d.gf F.XFB_TRANSIT_n_STAT.STATE 0 n = 1) ∧
    (∃ (d : Dev) (n : Fin 256), d.accepts ⟨.XFB_TRANSIT_n_PATH, 0, n, 0⟩ = true) ∧
    (∃ (d : Dev), d.accepts ⟨.XFB_TABLE_CTRL, 0, 0, 0⟩ = true ∧ d.on F.XFB_TABLE_CTRL.DRAIN = false) ∧
    (∃ (d : Dev), d.on F.XFB_TABLE_CTRL.DRAIN = true ∧ d.on F.XFB_TABLE_STAT.DRAINED = false ∧ (∀ b ∈ d.fab.router,
     heldVc b.pkt.vc = false) ∧ (∀ q ∈ d.fab.out, heldVc q.pkt.vc = false) ∧ (∀ p ∈ d.injected, heldVc p.vc = false)) ∧
    (∃ (d : Dev) (b : Buffered), b ∈ d.fab.router ∧ heldVc b.pkt.vc = true) :=
  ⟨⟨ready.in888, { dst := 3, src := 7, type := PT.transitSetup, transit := 9, addr := 5 }, true, 7,
    by decide +kernel⟩,
    ⟨ready.in888.put [(F.XFB_TRANSIT_n_STAT.STATE, 1, 0, 7), (F.XFB_TRANSIT_n_PATH.ID, 9, 0, 7)],
    { dst := 0, src := 7, type := PT.transitReply, transit := 9 }, 7, by decide +kernel⟩,
    ⟨ready.in888.put [(F.XFB_TRANSIT_n_STAT.STATE, 1, 0, 7), (F.XFB_TRANSIT_n_PATH.ID, 9, 0, 7)],
    { dst := 0, src := 7, type := PT.transitReply, transit := 9, code := Code.XFB_TRANSIT_REFUSED }, 7,
    by decide +kernel⟩,
    ⟨{ ready.in888 with fab := { circuits := [{ owner := 7, id := 9, rate := 5, face := 6, from_ := some 1 }] } },
    { dst := 0, src := 7, type := PT.transitTear, transit := 9 },
    { owner := 7, id := 9, rate := 5, face := 6, from_ := some 1 }, by decide +kernel⟩,
    ⟨ready.in888.put [(F.XFB_TRANSIT_n_STAT.STATE, 2, 0, 7), (F.XFB_TRANSIT_n_PATH.ID, 9, 0, 7)],
    { dst := 0, src := 3, type := PT.transitBroken, transit := 9 }, 7, by decide +kernel⟩,
    ⟨ready.in888.put [(F.XFB_TRANSIT_n_STAT.STATE, 1, 0, 7), (F.XFB_TRANSIT_n_PATH.ID, 9, 0, 7)], 7,
    by decide +kernel⟩,
    ⟨ready.in888.put [(F.XFB_TRANSIT_n_STAT.STATE, 0, 0, 7)], 7, by decide +kernel⟩,
    ⟨ready.in888, by decide +kernel⟩,
    ⟨ready.in888.put [(F.XFB_TABLE_CTRL.DRAIN, 1, 0, 0), (F.XFB_TABLE_STAT.DRAINING, 1, 0, 0)], by decide +kernel⟩,
    ⟨{ ready.in888 with fab := { router := [{ pkt := { dst := 3, src := 0, partition := 1, type := PT.read, vc := 2, route := 1 }, face := none }] } }.put [(F.XFB_TABLE_CTRL.DRAIN,
    1, 0, 0), (F.XFB_TABLE_STAT.DRAINING, 1, 0, 0)],
    { pkt := { dst := 3, src := 0, partition := 1, type := PT.read, vc := 2, route := 1 }, face := none },
    by decide +kernel⟩⟩

theorem witness_FabricControl_21_to_26 :
    (∃ (d : Dev) (q : Queued), q ∈ d.fab.out ∧ heldVc q.pkt.vc = true) ∧
    (∃ (d : Dev), d.accepts ⟨.XFB_TABLE_CTRL, 0, 0, 0⟩ = true ∧ d.on F.XFB_TABLE_STAT.DRAINED = true
     ∧ d.fab.router = []) ∧
    (∃ (d : Dev), d.accepts ⟨.XFB_TABLE_CTRL, 0, 0, 0⟩ = true ∧ d.on F.XFB_TABLE_STAT.DRAINED = false) ∧
    (∃ (d : Dev), d.accepts ⟨.XFB_TABLE_CTRL, 0, 0, 0⟩ = true ∧ d.on F.XFB_TABLE_CTRL.DRAIN = true ∧ d.rates = []) ∧
    (∃ (d : Dev) (v w : Word), d.accepts ⟨.XFB_VC_WEIGHT, 0, 0, 0⟩ = true ∧ w = setBits v 7 0 (max 4 (getBits v 7 0))) ∧
    (∃ (d : Dev) (o : Nat) (k : RegKey), RegKey.ofOffset o = some k ∧ k.name = .XFB_ROUTE_b_d_h ∧ d.accepts k = true) :=
  ⟨⟨{ ready.in888 with fab := { out := [{ face := 0, pkt := { dst := 3, src := 0, partition := 1, type := PT.read, vc := 2, route := 1 }, was := none }] } }.put [(F.XFB_TABLE_CTRL.DRAIN,
    1, 0, 0), (F.XFB_TABLE_STAT.DRAINING, 1, 0, 0)],
    { face := 0, pkt := { dst := 3, src := 0, partition := 1, type := PT.read, vc := 2, route := 1 }, was := none },
    by decide +kernel⟩,
    ⟨ready.in888.put [(F.XFB_TABLE_CTRL.DRAIN, 1, 0, 0), (F.XFB_TABLE_STAT.DRAINED, 1, 0, 0)], by decide +kernel⟩,
    ⟨ready.in888, by decide +kernel⟩,
    ⟨{ ready.in888 with held := [{ dst := 3, src := 0, partition := 1, type := PT.read, vc := 2 }], chrono := 5000000 }.put [(F.XFB_TABLE_CTRL.DRAIN,
    1, 0, 0), (F.XFB_TABLE_STAT.DRAINED, 1, 0, 0)], by decide +kernel⟩,
    ⟨ready.in888, 0x0101010101010101, 0x0101010101010104, by decide +kernel⟩,
    ⟨ready.in888, (⟨.XFB_ROUTE_b_d_h, 0, 0, 2⟩ : RegKey).offset, ⟨.XFB_ROUTE_b_d_h, 0, 0, 2⟩, by decide +kernel⟩⟩

/-! ### The hypotheses of OpticalPorts -/

theorem witness_OpticalPorts_1_to_10 :
    (∃ (d : Dev) (p : Fin 6) (n : Fin 10), portExists p n = true ∧ (d.port p n).step = .calibrate) ∧
    (∃ (d : Dev) (p : Fin 6) (n : Fin 10), portExists p n = true ∧ (d.port p n).step = .calibrate) ∧
    (∃ (d : Dev) (p : Fin 6) (n : Fin 10), portExists p n = true ∧ (d.port p n).step = .light) ∧
    (∃ (d : Dev) (p : Fin 6) (n : Fin 10), portExists p n = true ∧ (d.port p n).step = .lock) ∧
    (∃ (d : Dev) (p : Fin 6) (n : Fin 10), portExists p n = true ∧ (d.port p n).step = .align) ∧
    (∃ (d : Dev) (p : Fin 6) (n : Fin 10) (ff fp : Fin 16), portExists p n = true ∧ (d.port p n).step = .exchange
     ∧ Dev.meets p n ff fp = false) ∧
    (∃ (d : Dev) (p : Fin 6) (n : Fin 10) (ff fp : Fin 16), portExists p n = true ∧ (d.port p n).step = .exchange
     ∧ Dev.meets p n ff fp = true ∧ (d.port p n).rxDead = []) ∧
    (∃ (d : Dev) (p : Fin 6) (n : Fin 10), portExists p n = true ∧ (d.port p n).step = .qualify) ∧
    (∃ (d : Dev) (p : Fin 6) (n : Fin 10) (r : OptRx) (g : OptGroup), portExists p n = true ∧ (d.port p n).step = .up
     ∧ r.words.length = 16 ∧ (∀ w ∈ r.words, (laneDecode w).2 ≤ 7)
     ∧ g = OptGroup.ofLanes (r.words.map fun w => (laneDecode w).1) ∧ g.crcOf = g.ctrl.crc ∧ g.ctrl.msgType ≠ 2
     ∧ (d.port p n).waiting = false ∧ (d.port p n).resync = false ∧ (d.port p n).expect = some g.ctrl.gseq) ∧
    (∃ (d : Dev) (p : Fin 6) (n : Fin 10) (r : OptRx) (w : Nat), portExists p n = true ∧ (d.port p n).step = .up
     ∧ r.words.length = 16 ∧ 7 < (laneDecode (r.words.headD [])).2 ∧ (∀ x ∈ r.words.drop 1, (laneDecode x).2 ≤ 7)
     ∧ (d.port p n).waiting = false ∧ (d.port p n).expect = some w ∧ (d.port p n).unc = []) :=
  ⟨⟨ready.modPort 5 7 fun x => { x with step := .calibrate }, 5, 7, by decide +kernel⟩,
    ⟨ready.modPort 5 7 fun x => { x with step := .calibrate }, 5, 7, by decide +kernel⟩,
    ⟨ready.modPort 5 7 fun x => { x with step := .light }, 5, 7, by decide +kernel⟩,
    ⟨ready.modPort 5 7 fun x => { x with step := .lock }, 5, 7, by decide +kernel⟩,
    ⟨ready.modPort 5 7 fun x => { x with step := .align }, 5, 7, by decide +kernel⟩,
    ⟨ready.modPort 5 7 fun x => { x with step := .exchange }, 5, 7, 5, 7, by decide +kernel⟩,
    ⟨ready.modPort 5 7 fun x => { x with step := .exchange }, 5, 7, 4, 7, by decide +kernel⟩,
    ⟨ready.modPort 5 7 fun x => { x with step := .qualify }, 5, 7, by decide +kernel⟩,
    ⟨ready.modPort 5 7 fun x => { x with step := .up, expect := some 7 }, 5, 7, rx7, spelled rx7, by decide +kernel⟩,
    ⟨ready.modPort 5 7 fun x => { x with step := .up, expect := some 7 }, 5, 7, rxBad, 7, by decide +kernel⟩⟩

theorem witness_OpticalPorts_11_to_17 :
    (∃ (d : Dev) (p : Fin 6) (n : Fin 10) (a : Fin 16777216) (b : Nat) (m : OptMsg) (x : OptPort),
     portExists p n = true ∧ x = d.port p n ∧ x.step = .up ∧ b = (x.gseq + 2 ^ 25 - 1 - a.val) % 2 ^ 24 ∧ 0 < b
     ∧ b ≤ x.buffer.length ∧ m = .resend ((x.gseq + 2 ^ 24 - b) % 2 ^ 24)) ∧
    (∃ (d : Dev) (p : Fin 6) (n : Fin 10) (a : Fin 16777216) (m : OptMsg) (x : OptPort), portExists p n = true
     ∧ x = d.port p n ∧ x.step = .up ∧ x.buffer.length < (x.gseq + 2 ^ 25 - 1 - a.val) % 2 ^ 24
     ∧ m = .resend ((x.gseq + 2 ^ 24 - x.buffer.length) % 2 ^ 24)) ∧
    (∃ (d : Dev) (p : Fin 6) (n : Fin 10) (b : Bool), b = false ∨ d.portRuns p n = false) ∧
    (∃ (d : Dev) (p : Fin 6) (n : Fin 10), portExists p n = true ∧ [OptStep.light, .lock, .align, .exchange, .qualify,
     .up, .keepAlive].contains (d.port p n).step = true) ∧
    (∃ (d : Dev) (p : Fin 6) (n : Fin 10), portExists p n = true ∧ (d.port p n).step = .apr) ∧
    (∃ (d : Dev) (p : Fin 6) (n : Fin 10) (c : Fin 18) (l : Nat), portExists p n = true ∧ (d.port p n).step = .up
     ∧ d.laneOf p n false c = some l ∧ (d.port p n).swaps = [] ∧ 0 < d.gf F.OPT_PORT_n_STAT.RX_SPARES p n
     ∧ (d.port p n).calOk = true ∧ d.on F.OPT_PORT_n_CTRL.DOWN p n = false) ∧
    (∃ (d : Dev) (p : Fin 6) (n : Fin 10) (c : Fin 18), portExists p n = true ∧ d.laneOf p n false c = none) :=
  ⟨⟨ready.modPort 5 7 fun x => { x with step := .up, gseq := 3, buffer := [{}, {}, {}] }, 5, 7, 16777215, 3,
    .resend 0, (ready.modPort 5 7 fun x => { x with step := .up, gseq := 3, buffer := [{}, {}, {}] }).port 5 7,
    by decide +kernel⟩,
    ⟨ready.modPort 5 7 fun x => { x with step := .up, gseq := 5, buffer := [{}] }, 5, 7, 2, .resend 4,
    (ready.modPort 5 7 fun x => { x with step := .up, gseq := 5, buffer := [{}] }).port 5 7, by decide +kernel⟩,
    ⟨ready.modPort 5 7 fun x => { x with step := .up }, 5, 7, false, by decide +kernel⟩,
    ⟨ready.modPort 5 7 fun x => { x with step := .light, lit := [0, 1, 3] }, 5, 7, by decide +kernel⟩,
    ⟨ready.modPort 5 7 fun x => { x with step := .apr, calOk := true }, 5, 7, by decide +kernel⟩,
    ⟨(ready.modPort 5 7 fun x => { x with step := .up, calOk := true }), 5, 7, 3, 3, by decide +kernel⟩,
    ⟨ready.modPort 5 7 fun x => { x with step := .up }, 5, 7, 17, by decide +kernel⟩⟩

/-! ### The hypotheses of OpticalSwaps -/

theorem witness_OpticalSwaps_2_to_11 :
    (∃ (d : Dev) (p : Fin 6) (n : Fin 10), portExists p n = true ∧ (d.port p n).step = .up) ∧
    (∃ (d : Dev) (p : Fin 6) (n : Fin 10) (c : PortCal) (y : Nat × Nat × Nat), (d.port p n).step = .up
     ∧ (d.port p n).cal = some c ∧ d.lossStage p n c = some y) ∧
    (∃ (d : Dev) (p : Fin 6), ∀ n, n < 10 → (d.port p n).step ≠ .up) ∧
    (∃ (d : Dev) (p : Fin 6) (n : Fin 10) (c : Fin 18) (b w eta i0 : Nat) (z : Int), portExists p n = true
     ∧ c.val ∈ (d.port p n).lit ∧ i0 = d.gf F.OPT_PORT_n_CH_c_LASER.INIT_BIAS p n c
     ∧ Dev.pFixDelta w b eta i0 (NMap.get 0 (d.port p n).pref c) = some z ∧ -300 < z ∧ 2 * b < 3 * i0
     ∧ -(d.gf F.OPT_SPARE_POLICY.DROP_CDB p : Int) < z ∧ 100 * b ≤ i0 * d.gf F.OPT_SPARE_POLICY.BIAS_PCT p) ∧
    (∃ (d : Dev) (p : Fin 6) (n : Fin 10) (c : Fin 18) (b w eta i0 : Nat) (z : Int) (l s : Nat), portExists p n = true
     ∧ c.val ∈ (d.port p n).lit ∧ i0 = d.gf F.OPT_PORT_n_CH_c_LASER.INIT_BIAS p n c
     ∧ Dev.pFixDelta w b eta i0 (NMap.get 0 (d.port p n).pref c) = some z ∧ -300 < z ∧ 2 * b < 3 * i0
     ∧ z ≤ -(d.gf F.OPT_SPARE_POLICY.DROP_CDB p : Int) ∧ d.laneOf p n true c = some l ∧ (d.port p n).swaps = []
     ∧ d.spareOf p n = some s) ∧
    (∃ (d : Dev) (p : Fin 6) (n : Fin 10) (c : Fin 18) (b l : Nat), portExists p n = true ∧ c.val ∈ (d.port p n).lit
     ∧ 3 * d.gf F.OPT_PORT_n_CH_c_LASER.INIT_BIAS p n c ≤ 2 * b ∧ d.laneOf p n true c = some l
     ∧ (d.port p n).step = .up ∧ d.laserSt p n c ≠ 4) ∧
    (∃ (d : Dev) (p : Fin 6) (n : Fin 10) (c : Fin 18), c.val ∉ (d.port p n).lit) ∧
    (∃ (d : Dev) (p : Fin 6) (n : Fin 10), portExists p n = true ∧ (d.port p n).step = .up
     ∧ d.gf F.OPT_PORT_n_STAT.LANES_UP p n = 16 ∧ (d.laneMap p n false).Nodup
     ∧ ((d.laneMap p n false).all fun c => decide (NMap.get 0 (d.port p n).errs c < 119) && decide (NMap.get 0 (d.port p n).errs c < d.gf F.OPT_SPARE_POLICY.DEGRADED_ERR p)) = true) ∧
    (∃ (d : Dev) (p : Fin 6) (n : Fin 10) (l c : Nat), portExists p n = true ∧ (d.port p n).step = .up
     ∧ d.gf F.OPT_PORT_n_STAT.LANES_UP p n = 16 ∧ (d.laneMap p n false).Nodup ∧ (d.port p n).rxMirror = some (l, c)
     ∧ ((d.laneMap p n false).all fun c => decide (NMap.get 0 (d.port p n).errs c < 119) && decide (NMap.get 0 (d.port p n).errs c < d.gf F.OPT_SPARE_POLICY.DEGRADED_ERR p)) = true) ∧
    (∃ (d : Dev) (p : Fin 6) (n : Fin 10) (c : Nat), portExists p n = true ∧ (d.port p n).step = .up
     ∧ d.gf F.OPT_PORT_n_STAT.LANES_UP p n = 1 ∧ c = d.laneCh p n false 0 ∧ 23800 ≤ NMap.get 0 (d.port p n).errs c) :=
  ⟨⟨ready.modPort 5 7 fun x => { x with step := .up }, 5, 7, by decide +kernel⟩,
    ⟨(ready.put [(F.OPT_PORT_n_STAT.LANES_UP, 16, 5,
    7)]).modPort 5 7 fun x => { x with step := .up, cal := some { chans := List.replicate 18 { bias := 1000, power := 500, target := 300 }, badLasers := [17] } },
    5, 7, { chans := List.replicate 18 { bias := 1000, power := 500, target := 300 }, badLasers := [17] }, (1, 0, 0),
    by decide +kernel⟩,
    ⟨ready.modPort 5 7 fun x => { x with step := .light }, 5, by decide +kernel⟩,
    ⟨{ ready.modPort 5 7 fun x => { x with step := .up, lit := [3], pref := [(3, 500)] } with freeIx := 1 }.sf F.OPT_PORT_n_CH_c_LASER.INIT_BIAS 1000 5 7 3,
    5, 7, 3, 1000, 500, 50, 1000, 0, by decide +kernel⟩,
    ⟨{ ready.modPort 5 7 fun x => { x with step := .up, lit := [3], pref := [(3, 500)] } with freeIx := 1 }.sf F.OPT_PORT_n_CH_c_LASER.INIT_BIAS 1000 5 7 3 |>.put [(F.OPT_SPARE_POLICY.DROP_CDB,
    10, 5, 0)], 5, 7, 3, 1000, 480, 50, 1000, -18, 3, 16, by decide +kernel⟩,
    ⟨{ ready.modPort 5 7 fun x => { x with step := .up, lit := [3], pref := [(3, 500)] } with freeIx := 1 }.sf F.OPT_PORT_n_CH_c_LASER.INIT_BIAS 1000 5 7 3,
    5, 7, 3, 1500, 3, by decide +kernel⟩,
    ⟨{ ready.modPort 5 7 fun x => { x with step := .up, lit := [3], pref := [(3, 500)] } with freeIx := 1 }.sf F.OPT_PORT_n_CH_c_LASER.INIT_BIAS 1000 5 7 3,
    5, 7, 4, by decide +kernel⟩,
    ⟨{ ready.modPort 5 7 fun x => { x with step := .up, errs := [(3, 9)], deg := [(3, 4)] } with chrono := 5 }.put [(F.OPT_PORT_n_STAT.LANES_UP,
    16, 5, 7)], 5, 7, by decide +kernel⟩,
    ⟨{ ready.modPort 5 7 fun x => { x with step := .up, errs := [(3, 9), (16, 118)], rxMirror := some (3, 16) } with chrono := 5 }.put [(F.OPT_PORT_n_STAT.LANES_UP,
    16, 5, 7)], 5, 7, 3, 16, by decide +kernel⟩,
    ⟨{ ready.modPort 5 7 fun x => { x with step := .up, errs := [(0, 23800)], deg := [(3, 4)] } with chrono := 5 }.put [(F.OPT_PORT_n_STAT.LANES_UP,
    1, 5, 7)], 5, 7, 0, by decide +kernel⟩⟩

theorem witness_OpticalSwaps_12_to_21 :
    (∃ (d : Dev) (p : Fin 6) (n : Fin 10) (w : OptSwap) (rest : List OptSwap) (c : Nat), portExists p n = true
     ∧ (d.port p n).step = .up ∧ (d.port p n).swaps = w :: rest ∧ w.phase = 0 ∧ w.back = false
     ∧ d.spareOf p n = some c) ∧
    (∃ (d : Dev) (p : Fin 6) (n : Fin 10) (w : OptSwap) (rest : List OptSwap), portExists p n = true
     ∧ (d.port p n).step = .up ∧ (d.port p n).swaps = w :: rest ∧ w.phase = 0 ∧ w.back = false ∧ d.spareOf p n = none) ∧
    (∃ (d : Dev) (p : Fin 6) (n : Fin 10) (w : OptSwap) (rest : List OptSwap), portExists p n = true
     ∧ (d.port p n).swaps = w :: rest ∧ w.phase = 1) ∧
    (∃ (d : Dev) (p : Fin 6) (n : Fin 10) (w : OptSwap) (rest : List OptSwap), portExists p n = true
     ∧ (d.port p n).swaps = w :: rest ∧ w.phase = 2 ∧ w.pass = true) ∧
    (∃ (d : Dev) (p : Fin 6) (n : Fin 10) (w : OptSwap) (rest : List OptSwap), portExists p n = true
     ∧ (d.port p n).swaps = w :: rest ∧ w.phase = 4 ∧ w.pass = true) ∧
    (∃ (d : Dev) (p : Fin 6) (n : Fin 10) (w : OptSwap) (rest : List OptSwap) (c : Instr), ((c,
     w.phase) ∈ [(Instr.spareLightDone p n false, 1), (Instr.spareTrainDone p n false, 2)]) ∧ portExists p n = true
     ∧ (d.port p n).swaps = w :: rest ∧ w.back = true ∧ w.pass = false) ∧
    (∃ (d : Dev) (p : Fin 6) (n : Fin 10) (w : OptSwap) (rest : List OptSwap), portExists p n = true
     ∧ (d.port p n).swaps = w :: rest ∧ w.phase = 2 ∧ w.pass = false) ∧
    (∃ (d : Dev) (p : Fin 6) (n : Fin 10) (w : OptSwap) (rest : List OptSwap), portExists p n = true
     ∧ (d.port p n).swaps = w :: rest ∧ w.phase = 3) ∧
    (∃ (d : Dev) (p : Fin 6) (n : Fin 10) (w : OptSwap) (rest : List OptSwap), portExists p n = true
     ∧ (d.port p n).swaps = w :: rest ∧ w.phase = 4 ∧ w.pass = false ∧ w.lane < 16 ∧ w.spare < 18 ∧ w.spare ≠ w.old
     ∧ d.laserSt p n w.spare ≠ 4 ∧ d.laserSt p n w.old ≠ 4) ∧
    (∃ (d : Dev) (p : Fin 6) (n : Fin 10) (w : OptSwap) (rest : List OptSwap), portExists p n = true
     ∧ (d.port p n).swaps = w :: rest ∧ w.phase = 5 ∧ w.back = false ∧ w.recal = true ∧ d.laserSt p n w.old ≠ 4) :=
  ⟨⟨{ ready.modPort 5 7 fun x => { x with step := .up, swaps := [{ lane := 3, phase := 0, old := 3, spare := 16 }, { lane := 4 }] } with chrono := 5 },
    5, 7, { lane := 3, phase := 0, old := 3, spare := 16 }, [{ lane := 4 }], 16, by decide +kernel⟩,
    ⟨{ ready.modPort 5 7 fun x => { x with step := .up, swaps := [{ lane := 3, phase := 0, old := 3, spare := 16 }, { lane := 4 }], farDead := [16, 17] } with chrono := 5 },
    5, 7, { lane := 3, phase := 0, old := 3, spare := 16 }, [{ lane := 4 }], by decide +kernel⟩,
    ⟨{ ready.modPort 5 7 fun x => { x with step := .up, swaps := [{ lane := 3, phase := 1, old := 3, spare := 16 }, { lane := 4 }] } with chrono := 5 },
    5, 7, { lane := 3, phase := 1, old := 3, spare := 16 }, [{ lane := 4 }], by decide +kernel⟩,
    ⟨{ ready.modPort 5 7 fun x => { x with step := .up, swaps := [{ lane := 3, phase := 2, old := 3, spare := 16, pass := true }, { lane := 4 }] } with chrono := 5 },
    5, 7, { lane := 3, phase := 2, old := 3, spare := 16, pass := true }, [{ lane := 4 }], by decide +kernel⟩,
    ⟨{ ready.modPort 5 7 fun x => { x with step := .up, swaps := [{ lane := 3, phase := 4, old := 3, spare := 16, pass := true }, { lane := 4 }] } with chrono := 5 },
    5, 7, { lane := 3, phase := 4, old := 3, spare := 16, pass := true }, [{ lane := 4 }], by decide +kernel⟩,
    ⟨{ ready.modPort 5 7 fun x => { x with step := .up, swaps := [{ lane := 3, phase := 1, old := 3, spare := 16, back := true }, { lane := 4 }], lit := [16] } with chrono := 5 },
    5, 7, { lane := 3, phase := 1, old := 3, spare := 16, back := true }, [{ lane := 4 }], .spareLightDone 5 7 false,
    .head _, by decide +kernel⟩,
    ⟨{ ready.modPort 5 7 fun x => { x with step := .up, swaps := [{ lane := 3, phase := 2, old := 3, spare := 16 }, { lane := 4 }] } with chrono := 5 },
    5, 7, { lane := 3, phase := 2, old := 3, spare := 16 }, [{ lane := 4 }], by decide +kernel⟩,
    ⟨{ ready.modPort 5 7 fun x => { x with step := .up, swaps := [{ lane := 3, phase := 3, old := 3, spare := 16 }, { lane := 4 }] } with chrono := 5 },
    5, 7, { lane := 3, phase := 3, old := 3, spare := 16 }, [{ lane := 4 }], by decide +kernel⟩,
    ⟨{ ready.modPort 5 7 fun x => { x with step := .up, swaps := [{ lane := 3, phase := 4, old := 3, spare := 16 }, { lane := 4 }] } with chrono := 5 },
    5, 7, { lane := 3, phase := 4, old := 3, spare := 16 }, [{ lane := 4 }], by decide +kernel⟩,
    ⟨{ ready.modPort 5 7 fun x => { x with step := .up, swaps := [{ lane := 3, phase := 5, old := 3, spare := 16, recal := true }, { lane := 4 }] } with chrono := 5 },
    5, 7, { lane := 3, phase := 5, old := 3, spare := 16, recal := true }, [{ lane := 4 }], by decide +kernel⟩⟩

theorem witness_OpticalSwaps_22_to_30 :
    (∃ (d : Dev) (p : Fin 6) (n : Fin 10) (w : OptSwap) (rest : List OptSwap), portExists p n = true
     ∧ (d.port p n).swaps = w :: rest ∧ w.phase = 5 ∧ w.back = false ∧ w.recal = false ∧ d.laserSt p n w.old ≠ 4) ∧
    (∃ (d : Dev) (p : Fin 6) (n : Fin 10) (l : Fin 16) (c : Fin 18), portExists p n = true
     ∧ (d.port p n).rxMirror = some (l.val, c.val) ∧ (d.port p n).rxRetired = []) ∧
    (∃ (d : Dev) (p : Fin 6) (n : Fin 10) (r : OptRx) (g : OptGroup) (l : Nat), portExists p n = true
     ∧ (d.port p n).step = .up ∧ r.words.length = 16 ∧ (∀ w ∈ r.words, (laneDecode w).2 ≤ 7)
     ∧ g = OptGroup.ofLanes (r.words.map fun w => (laneDecode w).1) ∧ g.crcOf = g.ctrl.crc ∧ g.ctrl.msgType = 2
     ∧ l = g.ctrl.msgData ∧ l < 16 ∧ (∀ w ∈ (d.port p n).swaps, w.lane ≠ l) ∧ d.spareOf p n ≠ none) ∧
    (∃ (d : Dev) (p : Fin 6) (n : Fin 10) (l : Fin 16) (c : Instr) (r : Bool), ((c, r) ∈ [(Instr.portSwap p n l,
     false), (Instr.recal p n l, true)]) ∧ portExists p n = true ∧ d.accepts ⟨.OPT_PORT_n_CTRL, p, n, 0⟩ = true
     ∧ (d.spareOf p n).isSome = true) ∧
    (∃ (d : Dev) (p : Fin 6) (n : Fin 10) (l : Fin 16) (c : Instr), (c ∈ [Instr.portSwap p n l, Instr.recal p n l])
     ∧ portExists p n = true ∧ d.accepts ⟨.OPT_PORT_n_CTRL, p, n, 0⟩ = true ∧ d.spareOf p n = none) ∧
    (∃ (d : Dev) (p : Fin 6) (n : Fin 10) (v : Word), portExists p n = true ∧ d.accepts ⟨.OPT_PORT_n_CTRL, p, n, 0⟩
     = true ∧ getBits v 2 0 = 1 ∧ d.on F.OPT_PORT_n_CTRL.DOWN p n = false ∧ (d.port p n).step ≠ .calibrate) ∧
    (∃ (d : Dev) (p : Fin 6) (n : Fin 10) (v : Word), portExists p n = true ∧ d.accepts ⟨.OPT_PORT_n_CTRL, p, n, 0⟩
     = true ∧ getBits v 2 0 = 0 ∧ d.on F.OPT_PORT_n_CTRL.DOWN p n = true ∧ (d.port p n).step = .heldDown) :=
  ⟨⟨{ ready.modPort 5 7 fun x => { x with step := .up, swaps := [{ lane := 3, phase := 5, old := 3, spare := 16 }, { lane := 4 }] } with chrono := 5 },
    5, 7, { lane := 3, phase := 5, old := 3, spare := 16 }, [{ lane := 4 }], by decide +kernel⟩,
    ⟨ready.modPort 5 7 fun x => { x with step := .up, rxMirror := some (15, 17) }, 5, 7, 15, 17, by decide +kernel⟩,
    ⟨ready.modPort 5 7 fun x => { x with step := .up, expect := some 7 }, 5, 7, rxSwap, spelled rxSwap, 5,
    by decide +kernel⟩,
    ⟨ready.modPort 0 7 fun x => { x with step := .up }, 0, 7, 15, .portSwap 0 7 15, false, .head _, by decide +kernel⟩,
    ⟨ready.modPort 0 7 fun x => { x with step := .up, farDead := [16, 17] }, 0, 7, 15, .portSwap 0 7 15, .head _,
    by decide +kernel⟩,
    ⟨ready.modPort 0 7 fun x => { x with step := .up, lit := [1, 2] }, 0, 7, 1, by decide +kernel⟩,
    ⟨(ready.modPort 0 7 fun x => { x with step := .heldDown, calOk := true }).put [(F.OPT_PORT_n_CTRL.DOWN, 1, 0, 7)],
    0, 7, 0, by decide +kernel⟩⟩

/-! ### The hypotheses of CollectiveInstances -/

theorem witness_CollectiveInstances_1_to_10 :
    (∃ (d : Dev) (n : Fin 256), d.accepts ⟨.COL_GROUP_n_CFG, 0, n, 0⟩ = true ∧ d.slotBusy n = true) ∧
    (∃ (d : Dev) (n : Fin 256) (v : Word) (l : List Nat) (m : Dev), d.accepts ⟨.COL_GROUP_n_CFG, 0, n, 0⟩ = true
     ∧ d.slotBusy n = false ∧ getBits v 63 63 = 1 ∧ l = (if getBits v 62 62 = 1 then d.listTable n else [])
     ∧ (getBits v 62 62 = 1 → ∃ t k, d.tableRange n = some (t, k) ∧ d.hbmFree t k false = true)
     ∧ m = d.configured n v l ∧ m.groupOk n = true) ∧
    (∃ (d : Dev) (n : Fin 256) (v : Word) (l : List Nat) (m : Dev), d.accepts ⟨.COL_GROUP_n_CFG, 0, n, 0⟩ = true
     ∧ d.slotBusy n = false ∧ getBits v 63 63 = 1 ∧ l = (if getBits v 62 62 = 1 then d.listTable n else [])
     ∧ (getBits v 62 62 = 1 → ∃ t k, d.tableRange n = some (t, k) ∧ d.hbmFree t k false = true)
     ∧ m = d.configured n v l ∧ m.groupOk n = false) ∧
    (∃ (d : Dev) (n : Fin 256) (v : Word), d.accepts ⟨.COL_GROUP_n_CFG, 0, n, 0⟩ = true ∧ d.slotBusy n = false
     ∧ getBits v 63 63 = 1 ∧ getBits v 62 62 = 1 ∧ d.tableRange n = none) ∧
    (∃ (d : Dev) (n : Fin 256) (v : Word), d.accepts ⟨.COL_GROUP_n_CFG, 0, n, 0⟩ = true ∧ d.slotBusy n = false
     ∧ getBits v 63 63 = 0) ∧
    (∃ (d : Dev) (n : Fin 256) (x : Fin 4) (r : RegName), ([(0, RegName.COL_GROUP_n_BOX), (1, .COL_GROUP_n_LIST), (2,
     .COL_GROUP_n_ROLE), (3, .COL_GROUP_n_RXBUF)].contains (x.val, r) = true) ∧ d.accepts ⟨r, 0, n, 0⟩ = true
     ∧ d.slotBusy n = true) ∧
    (∃ (d : Dev) (n : Fin 256) (x : Fin 4) (r : RegName), ([(0, RegName.COL_GROUP_n_BOX), (1, .COL_GROUP_n_LIST), (2,
     .COL_GROUP_n_ROLE), (3, .COL_GROUP_n_RXBUF)].contains (x.val, r) = true) ∧ d.accepts ⟨r, 0, n, 0⟩ = true
     ∧ d.slotBusy n = false) ∧
    (∃ (d : Dev) (n : Fin 256), NMap.get [] d.collq n = [] ∨ (d.runOf n).isSome = true) ∧
    (∃ (d : Dev) (n : Fin 256) (i : CollInst) (rest : List CollInst), NMap.get [] d.collq n = i :: rest
     ∧ d.runOf n = none ∧ (d.on F.COL_GROUP_n_CFG.VALID 0 n = false ∨ d.gf F.COL_GROUP_n_CFG.HOME_CORE 0 n ≠ i.core)
     ∧ (d.core i.core).faulted = false) ∧
    (∃ (d : Dev) (n : Fin 256) (src : Ecc) (i : CollInst) (b : List Byte) (y : CollDesc) (code detail : Nat),
     d.collNext n i b y = true ∧ (d.core i.core).faulted = false ∧ (code,
     detail) = (if d.gf F.COL_GROUP_n_CTRL.CLOSE_CODE 0 n ≠ 0 ∧ y.op ≠ 6 then (Code.DMA_REMOTE_ERROR,
     d.gf F.COL_GROUP_n_CTRL.CLOSE_CODE 0 n) else if collBadDesc y b (d.geo n) (collAlgo y (d.gf F.COL_CTRL.TREE_MAX_LOG2) (d.geo n).list) = true then (Code.DMA_BAD_DESC,
     0) else if y.order = true ∧ i.ndet = false then (Code.CORE_NDET_REQUIRED, 0) else if (srcBytes y (d.geo n) ≠ 0
     ∧ d.bufferOk y.src (srcBytes y (d.geo n)) = false) ∨ (dstBytes y (d.geo n) ≠ 0
     ∧ d.bufferOk y.dst (dstBytes y (d.geo n)) = false) then (Code.DMA_REMOTE_ERROR,
     Code.GAS_ADDR_ERROR) else if srcBytes y (d.geo n) ≠ 0 ∧ d.areaOf y.src (srcBytes y (d.geo n)) = some .sram
     ∧ src = .uncorrectable then (Code.CORE_STORE_UNCORRECTABLE, 0) else (0, 0)) ∧ code ≠ 0) :=
  ⟨⟨boxed.put [(F.COL_GROUP_n_STAT.STATE, 1, 0, 0)], 0, by decide +kernel⟩,
    ⟨boxed.put [(F.COL_GROUP_n_STAT.STATE, 4, 0, 0), (F.COL_GROUP_n_STAT.INSTANCE, 9, 0, 0),
    (F.COL_GROUP_n_CTRL.CLOSE_CODE, 9, 0, 0)], 0, 0x8000000200000005, [], (boxed.put [(F.COL_GROUP_n_STAT.STATE, 4, 0,
    0), (F.COL_GROUP_n_STAT.INSTANCE, 9, 0, 0), (F.COL_GROUP_n_CTRL.CLOSE_CODE, 9, 0,
    0)]).configured 0 0x8000000200000005 [], by decide +kernel, by decide +kernel, by decide +kernel,
    by decide +kernel, fun h => absurd h (by decide), rfl, by decide +kernel⟩,
    ⟨boxed.put [(F.COL_GROUP_n_BOX.EXT_M1, 8, 0, 0)], 0, 0x8000000200000005, [],
    (boxed.put [(F.COL_GROUP_n_BOX.EXT_M1, 8, 0, 0)]).configured 0 0x8000000200000005 [], by decide +kernel,
    by decide +kernel, by decide +kernel, by decide +kernel, fun h => absurd h (by decide), rfl, by decide +kernel⟩,
    ⟨ready.in888, 255, 0xC000000200000005, by decide +kernel⟩,
    ⟨boxed, 0, 0x5, by decide +kernel⟩,
    ⟨boxed.put [(F.COL_GROUP_n_STAT.STATE, 2, 0, 0)], 0, 0, .COL_GROUP_n_BOX, by decide, by decide +kernel⟩,
    ⟨boxed, 0, 0, .COL_GROUP_n_BOX, by decide, by decide +kernel⟩,
    ⟨ready, 0, by decide +kernel⟩,
    ⟨(boxed.put [(F.COL_GROUP_n_CFG.VALID, 0, 0, 0)]).coll (cdesc 5 0 0 0x2000 0 0), 0, cinst, [], by decide +kernel⟩,
    ⟨(boxed.coll (cdesc 5 0 0 0x2000 0 0)).put [(F.COL_GROUP_n_CTRL.CLOSE_CODE, Code.COLL_ABORTED, 0, 0)], 0, .ok,
    cinst, cdesc 5 0 0 0x2000 0 0, collDescOf (cdesc 5 0 0 0x2000 0 0), Code.DMA_REMOTE_ERROR, Code.COLL_ABORTED,
    by decide +kernel⟩⟩

theorem witness_CollectiveInstances_11_to_20 :
    (∃ (d : Dev) (n : Fin 256) (i : CollInst) (rest : List CollInst), NMap.get [] d.collq n = i :: rest
     ∧ d.runOf n = none ∧ d.on F.COL_GROUP_n_CFG.VALID 0 n = true ∧ d.gf F.COL_GROUP_n_CFG.HOME_CORE 0 n = i.core
     ∧ (d.core i.core).faulted = false) ∧
    (∃ (d : Dev) (n : Fin 256) (ecc src : Ecc) (i : CollInst) (b : List Byte) (y : CollDesc) (a : CollAlgo),
     (ecc ≠ .uncorrectable) ∧ (src ≠ .uncorrectable) ∧ d.collGood n i b y a = true) ∧
    (∃ (d : Dev) (n : Fin 256) (i : CollInst) (b : List Byte) (y : CollDesc) (a : CollAlgo),
     d.collGood n i b y a = true ∧ srcBytes y (d.geo n) = 0 ∧ y.op = 3 ∧ d.isList n = true
     ∧ (d.geo n).rank ≠ (d.geo n).keeper ∧ (d.collSlot n).early = [] ∧ d.memberDev n (d.geo n).keeper ≠ d.self
     ∧ d.on F.XFB_TABLE_CTRL.DRAIN = false) ∧
    (∃ (d : Dev) (n : Fin 256) (r : CollRun), d.runOf n = some r ∧ r.phase = .move ∧ r.need = 0 ∧ r.sends = []
     ∧ d.collOpen n r.inst = 0 ∧ r.inst.core < 128 ∧ r.desc.status + 64 ≤ 2 ^ 23) ∧
    (∃ (d : Dev) (n : Fin 256) (r : CollRun) (code : Nat), d.runOf n = some r ∧ r.phase = .abort code
     ∧ (d.core r.inst.core).faulted = false ∧ code < 2 ^ 16 ∧ r.inst.core < 128 ∧ r.desc.status + 64 ≤ 2 ^ 23) ∧
    (∃ (d : Dev) (n : Fin 256), d.runOf n = none) ∧
    (∃ (d : Dev) (n : Fin 256), d.accepts ⟨.COL_GROUP_n_CTRL, 0, n, 0⟩ = true
     ∧ d.on F.COL_GROUP_n_CFG.VALID 0 n = true ∧ d.runOf n = none) ∧
    (∃ (d : Dev) (n : Fin 256) (r : CollRun), d.accepts ⟨.COL_GROUP_n_CTRL, 0, n, 0⟩ = true
     ∧ d.on F.COL_GROUP_n_CFG.VALID 0 n = true ∧ d.runOf n = some r ∧ (r.phase = .agree ∨ r.phase = .move)) ∧
    (∃ (d : Dev) (msg o : Nat) (r : Req), d.collTimed msg o = some r ∧ r.pkt.attempt < r.retries ∧ r.pkt.route ≠ 2
     ∧ r.pkt.dst ≠ d.self ∧ d.waitsAtInjection r.pkt = false) ∧
    (∃ (d : Dev) (msg o : Nat) (r : Req) (x : CollRun), d.collTimed msg o = some r ∧ r.retries ≤ r.pkt.attempt
     ∧ r.pkt.cOp ≠ 6 ∧ d.runOf r.saddr = some x ∧ x.phase = .move) :=
  ⟨⟨boxed.coll (cdesc 5 0 0 0x2000 0 0), 0, cinst, [], by decide +kernel⟩,
    ⟨boxed.coll (cdesc 0 4 0 0x2000 0x1000 0x4000), 0, .ok, .ok, cinst, cdesc 0 4 0 0x2000 0x1000 0x4000,
    collDescOf (cdesc 0 4 0 0x2000 0x1000 0x4000), .ll, by decide, by decide, by decide +kernel⟩,
    ⟨listed.coll (cdesc 3 4 0 0x2000 0x1000 0x4000), 0, cinst, cdesc 3 4 0 0x2000 0x1000 0x4000,
    collDescOf (cdesc 3 4 0 0x2000 0x1000 0x4000), .ll, by decide +kernel⟩,
    ⟨boxed.runs0 (crun (cdesc 4 4 0 0x2000 0x1000 0x4000) .direct .move), 0,
    crun (cdesc 4 4 0 0x2000 0x1000 0x4000) .direct .move, by decide +kernel⟩,
    ⟨boxed.runs0 (crun (cdesc 4 4 0 0x2000 0x1000 0x4000) .direct (.abort Code.COLL_ABORTED)), 0,
    crun (cdesc 4 4 0 0x2000 0x1000 0x4000) .direct (.abort Code.COLL_ABORTED), Code.COLL_ABORTED, by decide +kernel⟩,
    ⟨boxed, 0, by decide +kernel⟩,
    ⟨boxed, 0, by decide +kernel⟩,
    ⟨boxed.runs0 (crun (cdesc 4 4 0 0x2000 0x1000 0x4000) .direct .move), 0,
    crun (cdesc 4 4 0 0x2000 0x1000 0x4000) .direct .move, by decide +kernel⟩,
    ⟨{ (boxed.runs0 (crun (cdesc 4 4 0 0x2000 0x1000 0x4000) .direct .move)) with reqs := [{ kind := .coll, core := 0, thread := 2, seq := 3, queue := 7, saddr := 0, retries := 2, pkt := { (cpkt boxed 0 0 0 2 (cdesc 4 4 0 0x2000 0x1000 0x4000) [1, 2, 3, 4]) with dst := 1, msg := 3 } }] },
    3, 0,
    { kind := .coll, core := 0, thread := 2, seq := 3, queue := 7, saddr := 0, retries := 2, pkt := { (cpkt boxed 0 0 0 2 (cdesc 4 4 0 0x2000 0x1000 0x4000) [1, 2, 3, 4]) with dst := 1, msg := 3 } },
    by decide +kernel⟩,
    ⟨{ (boxed.runs0 (crun (cdesc 4 4 0 0x2000 0x1000 0x4000) .direct .move)) with reqs := [{ kind := .coll, core := 0, thread := 2, seq := 3, queue := 7, saddr := 0, retries := 2, pkt := { (cpkt boxed 0 0 0 2 (cdesc 4 4 0 0x2000 0x1000 0x4000) [1, 2, 3, 4]) with dst := 1, msg := 3, attempt := 2 } }] },
    3, 0,
    { kind := .coll, core := 0, thread := 2, seq := 3, queue := 7, saddr := 0, retries := 2, pkt := { (cpkt boxed 0 0 0 2 (cdesc 4 4 0 0x2000 0x1000 0x4000) [1, 2, 3, 4]) with dst := 1, msg := 3, attempt := 2 } },
    crun (cdesc 4 4 0 0x2000 0x1000 0x4000) .direct .move, by decide +kernel⟩⟩

theorem witness_CollectiveInstances_21_to_22 :
    (∃ (d : Dev) (msg o : Nat) (r : Req) (x : CollRun) (k : Nat), d.collTimed msg o = some r
     ∧ r.retries ≤ r.pkt.attempt ∧ r.pkt.cOp = 6 ∧ d.runOf r.saddr = some x ∧ x.algo = .mcast
     ∧ x.num % 2 ^ 24 = r.pkt.cInst ∧ d.isList r.saddr = true
     ∧ d.rankOf r.saddr r.pkt.origin = some (d.geo r.saddr).rank ∧ d.rankOf r.saddr r.pkt.dst = some k ∧ k ∈ x.kids) ∧
    (∃ (d : Dev) (msg o : Nat), d.collTimed msg o = none) :=
  ⟨⟨{ (listed.runs0 { crun (cdesc 6 4 0 0x2000 0x1000 0) .mcast .move with kids := [0, 2], need := 2 }) with reqs := [{ kind := .coll, core := 0, thread := 2, seq := 3, queue := 7, saddr := 0, retries := 2, pkt := { (cpkt listed 0 0 0 2 (cdesc 6 4 0 0x2000 0x1000 0) [1, 2, 3, 4]) with dst := 9, msg := 3, attempt := 2 } }] },
    3, 0,
    { kind := .coll, core := 0, thread := 2, seq := 3, queue := 7, saddr := 0, retries := 2, pkt := { (cpkt listed 0 0 0 2 (cdesc 6 4 0 0x2000 0x1000 0) [1, 2, 3, 4]) with dst := 9, msg := 3, attempt := 2 } },
    { crun (cdesc 6 4 0 0x2000 0x1000 0) .mcast .move with kids := [0, 2], need := 2 }, 2, by decide +kernel⟩,
    ⟨boxed, 3, 0, by decide +kernel⟩⟩

/-! ### The hypotheses of CollectivePackets -/

theorem witness_CollectivePackets_1_to_10 :
    (∃ (d : Dev) (p : Packet) (n : Nat), d.collFor p 1 = some n ∧ p.cOp ≠ 5 ∧ d.runOf n = none) ∧
    (∃ (d : Dev) (p : Packet) (n : Nat) (r : CollRun) (k : Nat) (v : CollVal) (dim : Nat), d.collIn p 1 n r k = true
     ∧ p.cOp ≠ 5 ∧ r.phase = .agree ∧ (r.algo ≠ .ll ∨ r.desc.op ≠ 0) ∧ d.isList n = false
     ∧ v = Dev.agreeVal r.desc p k ∧ Dev.llFind r v.stage k = none ∧ r.waiting = []
     ∧ (d.geo n).active[r.stage]? = some dim
     ∧ ((d.geo n).line dim).any (fun j => (decide (j ≠ k) || decide (v.stage ≠ r.stage)) && (Dev.llFind r r.stage j).isNone) = true
     ∧ (d.collSlot n).early = []) ∧
    (∃ (d : Dev) (p : Packet) (n : Nat) (r : CollRun) (k : Nat) (v : CollVal) (dim : Nat) (vs : List CollVal),
     d.collIn p 1 n r k = true ∧ p.cOp ≠ 5 ∧ r.phase = .agree ∧ (r.algo ≠ .ll ∨ r.desc.op ≠ 0) ∧ d.isList n = false
     ∧ v = Dev.agreeVal r.desc p k ∧ Dev.llFind r v.stage k = none ∧ (d.geo n).active[r.stage]? = some dim
     ∧ r.stage + 1 = (d.geo n).active.length
     ∧ vs = ((d.geo n).line dim).filterMap (fun j => Dev.llFind { r with vals := r.vals ++ [v] } r.stage j)
     ∧ vs.length = ((d.geo n).line dim).length ∧ (vs.map fun w => w.sig) ≠ List.replicate vs.length (vs.headD v).sig
     ∧ k ≠ (d.geo n).rank ∧ Dev.llFind r (r.stage + 1) (d.geo n).rank = none) ∧
    (∃ (d : Dev) (p : Packet) (n : Nat) (r : CollRun) (k : Nat) (v : CollVal), d.collIn p 1 n r k = true ∧ p.cOp ≠ 5
     ∧ r.phase = .agree ∧ r.algo = .tree ∧ r.desc.op = 3 ∧ r.desc.root ≠ (d.geo n).rank ∧ d.isList n = true
     ∧ k = (d.geo n).keeper ∧ (d.geo n).rank ≠ k ∧ v = Dev.agreeVal r.desc p k ∧ v.stage = 1 ∧ Dev.llFind r 1 k = none
     ∧ (d.collSlot n).early = []) ∧
    (∃ (d : Dev) (p : Packet) (n : Nat), d.collFor p 0 = some n ∧ p.cOp ≠ 6 ∧ d.runOf n = none) ∧
    (∃ (d : Dev) (p : Packet) (n : Nat) (r : CollRun) (k c : Nat), d.collIn p 0 n r k = true ∧ p.cOp ≠ 6
     ∧ r.phase = .abort c
     ∧ (d.bufWaits r.desc.dst (Dev.dstCount r.desc (d.geo n).p * elemBytes r.desc.dtype) true).1 = false) ∧
    (∃ (d : Dev) (p : Packet) (n : Nat) (r : CollRun) (k w o : Nat), d.collIn p 0 n r k = true ∧ p.cOp ≠ 6
     ∧ r.phase = .move ∧ r.algo = .direct ∧ r.desc.op = 4 ∧ w = elemBytes r.desc.dtype ∧ p.payload.length % w = 0
     ∧ (d.bufWaits r.desc.dst (Dev.dstCount r.desc (d.geo n).p * w) true).1 = false ∧ r.seen.contains (p.cStage, k,
     p.offset / w) = false ∧ o = r.desc.dst + w * (k * r.desc.count + p.offset / w) ∧ o < 0x100000000000
     ∧ d.hbmFree o p.payload.length true = true) ∧
    (∃ (d : Dev) (p : Packet) (n k h c o : Nat), d.collFor p 0 = some n ∧ p.cOp = 6 ∧ d.isList n = true
     ∧ d.rankOf n p.origin = some k ∧ d.castOf n k p.cInst = none ∧ d.occulted = false ∧ p.offset = 0
     ∧ p.total = p.payload.length ∧ 0 < p.total ∧ p.total ≤ 4096 * d.gf F.COL_GROUP_n_RXBUF.RX_PAGES 0 n
     ∧ o = d.gf F.COL_GROUP_n_RXBUF.ADDR 0 n ∧ d.hbmFree o p.total true = true ∧ o < 0x100000000000
     ∧ h = d.gf F.COL_GROUP_n_CFG.HOME_CORE 0 n ∧ c = d.gf F.COL_GROUP_n_ROLE.RX_COUNTER 0 n ∧ d.copying h = false
     ∧ d.judge h c 1 = .applied) ∧
    (∃ (d : Dev) (p : Packet) (n k : Nat), d.collFor p 0 = some n ∧ p.cOp = 6 ∧ d.isList n = true
     ∧ d.rankOf n p.origin = some k ∧ d.castOf n k p.cInst = none
     ∧ (d.bufWaits (d.gf F.COL_GROUP_n_RXBUF.ADDR 0 n + p.offset) p.payload.length true).1 = false
     ∧ 4096 * d.gf F.COL_GROUP_n_RXBUF.RX_PAGES 0 n < p.total) ∧
    (∃ (d : Dev) (p : Packet) (n : Nat) (r : CollRun) (k : Nat), d.collIn p 2 n r k = true
     ∧ (r.phase = .agree ∨ r.phase = .move)) :=
  ⟨⟨boxed, cpkt boxed 1 1 0 1 (cdesc 0 4 0 0x2000 0x1000 0x4000) (cagree boxed (cdesc 0 4 0 0x2000 0x1000 0x4000)),
    0, by decide +kernel⟩,
    ⟨boxed.runs0 (crun (cdesc 4 4 0 0x2000 0x1000 0x4000) .direct .agree),
    cpkt boxed 1 1 0 1 (cdesc 4 4 0 0x2000 0x1000 0x4000) (cagree boxed (cdesc 4 4 0 0x2000 0x1000 0x4000)), 0,
    crun (cdesc 4 4 0 0x2000 0x1000 0x4000) .direct .agree, 1,
    { stage := 0, rank := 1, sig := some (boxed.sigOf 0 0 (collDescOf (cdesc 4 4 0 0x2000 0x1000 0x4000))) }, 0,
    by decide +kernel⟩,
    ⟨boxed.runs0 { crun (cdesc 4 4 0 0x2000 0x1000 0x4000) .direct .agree with vals := [{ stage := 0, rank := 0, sig := some (boxed.sigOf 0 0 (collDescOf (cdesc 4 4 0 0x2000 0x1000 0x4000))) }] },
    cpkt boxed 1 1 0 1 (cdesc 4 5 0 0x2000 0x1000 0x4000) (cagree boxed (cdesc 4 5 0 0x2000 0x1000 0x4000)), 0,
    { crun (cdesc 4 4 0 0x2000 0x1000 0x4000) .direct .agree with vals := [{ stage := 0, rank := 0, sig := some (boxed.sigOf 0 0 (collDescOf (cdesc 4 4 0 0x2000 0x1000 0x4000))) }] },
    1, { stage := 0, rank := 1, sig := some (boxed.sigOf 0 0 (collDescOf (cdesc 4 5 0 0x2000 0x1000 0x4000))) }, 0,
    [{ stage := 0, rank := 0, sig := some (boxed.sigOf 0 0 (collDescOf (cdesc 4 4 0 0x2000 0x1000 0x4000))) },
    { stage := 0, rank := 1, sig := some (boxed.sigOf 0 0 (collDescOf (cdesc 4 5 0 0x2000 0x1000 0x4000))) }],
    by decide +kernel⟩,
    ⟨listed.runs0 (crun (cdesc 3 400 0 0x2000 0x1000 0x4000) .tree .agree),
    cpkt listed 3 1 1 1 (cdesc 3 400 0 0x2000 0x1000 0x4000) (cagree listed (cdesc 3 400 0 0x2000 0x1000 0x4000)), 0,
    crun (cdesc 3 400 0 0x2000 0x1000 0x4000) .tree .agree, 0,
    { stage := 1, rank := 0, sig := some (listed.sigOf 0 0 (collDescOf (cdesc 3 400 0 0x2000 0x1000 0x4000))) },
    by decide +kernel⟩,
    ⟨boxed, cpkt boxed 1 0 0 2 (cdesc 4 4 0 0x2000 0x1000 0x4000) [1, 2, 3, 4], 0, by decide +kernel⟩,
    ⟨boxed.runs0 (crun (cdesc 4 4 0 0x2000 0x1000 0x4000) .direct (.abort 9)),
    cpkt boxed 1 0 0 2 (cdesc 4 4 0 0x2000 0x1000 0x4000) [1, 2, 3, 4], 0,
    crun (cdesc 4 4 0 0x2000 0x1000 0x4000) .direct (.abort 9), 1, 9, by decide +kernel⟩,
    ⟨boxed.runs0 { crun (cdesc 4 4 0 0x2000 0x1000 0x4000) .direct .move with need := 4 },
    { cpkt boxed 1 0 0 2 (cdesc 4 4 0 0x2000 0x1000 0x4000) [1, 2, 3, 4] with offset := 8 }, 0,
    { crun (cdesc 4 4 0 0x2000 0x1000 0x4000) .direct .move with need := 4 }, 1, 4, 0x4000 + 4 * (4 + 2),
    by decide +kernel⟩,
    ⟨listed, { cpkt listed 9 0 0 2 (cdesc 6 4 0 0x2000 0x1000 0) [1, 2, 3, 4] with total := 4 }, 0, 2, 0, 0, 0x8000,
    by decide +kernel⟩,
    ⟨listed, { cpkt listed 9 0 0 2 (cdesc 6 4 0 0x2000 0x1000 0) [1, 2, 3, 4] with total := 4097 }, 0, 2,
    by decide +kernel⟩,
    ⟨boxed.runs0 (crun (cdesc 4 4 0 0x2000 0x1000 0x4000) .direct .move),
    cpkt boxed 1 2 0 1 (cdesc 4 4 0 0x2000 0x1000 0x4000) (leBytes 8 Code.GROUP_MEMBER_LOST), 0,
    crun (cdesc 4 4 0 0x2000 0x1000 0x4000) .direct .move, 1, by decide +kernel⟩⟩

theorem witness_CollectivePackets_11_to_15 :
    (∃ (d : Dev) (p : Packet) (n code : Nat), d.collFor p 2 = some n ∧ d.runOf n = none
     ∧ code = leNat p.payload % 65536 ∧ code ∈ [Code.GROUP_MEMBER_LOST, Code.COLL_ABORTED, Code.COLL_TRANSFER_FAILED]
     ∧ p.cInst = d.gf F.COL_GROUP_n_STAT.INSTANCE 0 n) ∧
    (∃ (d : Dev) (p : Packet) (n : Nat) (r : CollRun) (k dev : Nat), d.collIn p 3 n r k = true
     ∧ dev = leNat p.payload % 2 ^ 18 ∧ r.waiting = [] ∧ d.on F.COL_GROUP_n_STAT.WAITING_VALID 0 n = false
     ∧ d.suspects.length < 256) ∧
    (∃ (d : Dev) (n : Fin 256) (r : CollRun) (k : Nat), d.runOf n = some r ∧ (d.missing n).min? = some k
     ∧ r.waiting = [] ∧ d.on F.COL_GROUP_n_STAT.WAITING_VALID 0 n = false ∧ d.suspects.length < 256) ∧
    (∃ (d : Dev) (n : Fin 256), d.runOf n = none ∨ d.missing n = []) ∧
    (∃ (d : Dev) (p : Packet) (n : Nat) (r : CollRun) (k a b : Nat), d.collIn p 4 n r k = true ∧ r.algo = .mcast
     ∧ d.rankOf n p.origin = some (d.geo n).rank ∧ k ∈ r.kids ∧ a = leNat (p.payload.take 4)
     ∧ b = leNat ((p.payload.drop 4).take 4)) :=
  ⟨⟨boxed, cpkt boxed 1 2 0 1 (cdesc 4 4 0 0x2000 0x1000 0x4000) (leBytes 8 Code.GROUP_MEMBER_LOST), 0,
    Code.GROUP_MEMBER_LOST, by decide +kernel⟩,
    ⟨boxed.runs0 (crun (cdesc 4 4 0 0x2000 0x1000 0x4000) .direct .move),
    cpkt boxed 1 3 0 1 (cdesc 4 4 0 0x2000 0x1000 0x4000) (leBytes 8 5), 0,
    crun (cdesc 4 4 0 0x2000 0x1000 0x4000) .direct .move, 1, 5, by decide +kernel⟩,
    ⟨boxed.runs0 { crun (cdesc 4 4 0 0x2000 0x1000 0x4000) .direct .agree with vals := [{ stage := 0, rank := 0, sig := some (boxed.sigOf 0 0 (collDescOf (cdesc 4 4 0 0x2000 0x1000 0x4000))) }] },
    0,
    { crun (cdesc 4 4 0 0x2000 0x1000 0x4000) .direct .agree with vals := [{ stage := 0, rank := 0, sig := some (boxed.sigOf 0 0 (collDescOf (cdesc 4 4 0 0x2000 0x1000 0x4000))) }] },
    1, by decide +kernel⟩,
    ⟨boxed, 0, by decide +kernel⟩,
    ⟨listed.runs0 { crun (cdesc 6 4 0 0x2000 0x1000 0) .mcast .move with kids := [0, 2], need := 2 },
    cpkt listed 9 4 0 1 (cdesc 6 4 0 0x2000 0x1000 0) (leBytes 4 1 ++ leBytes 4 0) |> fun p => { p with origin := 0 },
    0, { crun (cdesc 6 4 0 0x2000 0x1000 0) .mcast .move with kids := [0, 2], need := 2 }, 2, 1, 0, by decide +kernel⟩⟩

set_option maxRecDepth 100000 in
theorem witness_CollectivePackets_16 :
    ∃ (d : Dev) (p : Packet) (n : Nat) (c : Instr), ((c, p.cStage) ∈ [(Instr.barrierArrival p, 0),
    (Instr.barrierRelease p, 1)]) ∧ d.collFor p 1 = some n ∧ p.cOp = 5 ∧ d.runOf n = none :=
  ⟨boxed, cpkt boxed 1 1 0 1 (cdesc 5 0 0 0x2000 0 0) (cagree boxed (cdesc 5 0 0 0x2000 0 0)), 0,
  .barrierArrival (cpkt boxed 1 1 0 1 (cdesc 5 0 0 0x2000 0 0) (cagree boxed (cdesc 5 0 0 0x2000 0 0))), .head _,
  by decide +kernel⟩

theorem witness_CollectivePackets_17_to_18 :
    (∃ (d : Dev) (p : Packet) (n : Nat) (r : CollRun) (k : Nat) (v : CollVal) (vs : List CollVal),
     d.collIn p 1 n r k = true ∧ p.cOp = 5 ∧ p.cStage = 0 ∧ r.algo = .barrier ∧ r.phase = .agree ∧ r.stage = 0
     ∧ (d.geo n).rank = (d.geo n).keeper ∧ k ∈ Dev.barrierKids (d.geo n) ∧ Dev.llFind r 0 k = none
     ∧ v = { Dev.agreeVal r.desc p k with stage := 0 }
     ∧ vs = ((d.geo n).rank :: Dev.barrierKids (d.geo n)).filterMap (fun j => Dev.llFind { r with vals := r.vals ++ [v] } 0 j)
     ∧ (vs.map fun w => w.sig) = List.replicate vs.length v.sig ∧ v.sig.isSome = true
     ∧ (vs.map fun w => w.count).sum ≤ (d.geo n).p
     ∧ (vs.length = 1 + (Dev.barrierKids (d.geo n)).length ↔ (vs.map fun w => w.count).sum = (d.geo n).p)) ∧
    (∃ (d : Dev) (p : Packet) (n : Nat) (r : CollRun) (k : Nat) (v : CollVal), d.collIn p 1 n r k = true ∧ p.cOp = 5
     ∧ p.cStage = 1 ∧ r.algo = .barrier ∧ r.phase = .agree ∧ v = Dev.agreeVal r.desc p k) :=
  ⟨⟨boxed.runs0 { crun (cdesc 5 0 0 0x2000 0 0) .barrier .agree with vals := [{ stage := 0, rank := 0, sig := some (boxed.sigOf 0 0 (collDescOf (cdesc 5 0 0 0x2000 0 0))) }] },
    cpkt boxed 1 1 0 1 (cdesc 5 0 0 0x2000 0 0) (cagree boxed (cdesc 5 0 0 0x2000 0 0)), 0,
    { crun (cdesc 5 0 0 0x2000 0 0) .barrier .agree with vals := [{ stage := 0, rank := 0, sig := some (boxed.sigOf 0 0 (collDescOf (cdesc 5 0 0 0x2000 0 0))) }] },
    1, { stage := 0, rank := 1, sig := some (boxed.sigOf 0 0 (collDescOf (cdesc 5 0 0 0x2000 0 0))) },
    [{ stage := 0, rank := 0, sig := some (boxed.sigOf 0 0 (collDescOf (cdesc 5 0 0 0x2000 0 0))) },
    { stage := 0, rank := 1, sig := some (boxed.sigOf 0 0 (collDescOf (cdesc 5 0 0 0x2000 0 0))) }],
    by decide +kernel⟩,
    ⟨(boxed.put [(F.COL_GROUP_n_ROLE.KEEPER, 1, 0,
    0)]).runs0 { crun (cdesc 5 0 0 0x2000 0 0) .barrier .agree with stage := 1 },
    cpkt boxed 1 1 1 1 (cdesc 5 0 0 0x2000 0 0) (cagree boxed (cdesc 5 0 0 0x2000 0 0) 2), 0,
    { crun (cdesc 5 0 0 0x2000 0 0) .barrier .agree with stage := 1 }, 1,
    { stage := 1, rank := 1, count := 2, sig := some (boxed.sigOf 0 0 (collDescOf (cdesc 5 0 0 0x2000 0 0))) },
    by decide +kernel⟩⟩

/-! ### The hypotheses of PackageLinks -/

theorem witness_PackageLinks_1_to_2 :
    (∃ (d : Dev) (n : Fin 31), d.linkState n ≠ 3 ∧ d.linkState n ≠ 4) ∧
    (∃ (d : Dev) (n : Fin 31) (b k : List Byte), (d.linkState n = 3 ∨ d.linkState n = 4)
     ∧ frameOfBytes (b ++ k) = none) :=
  ⟨⟨ready, 3, by decide +kernel⟩,
    ⟨ready.put [(F.DLK_LINK_n_STAT.STATE, 3, 0, 3)], 3, [], [], by decide +kernel⟩⟩

set_option maxRecDepth 100000 in
theorem witness_PackageLinks_3 :
    ∃ (d : Dev) (n : Fin 31) (b k y : List Byte) (c : Control), (d.linkState n = 3 ∨ d.linkState n = 4)
    ∧ frameOfBytes (b ++ k) = some (y, c) ∧ c.reset = false ∧ c.retrain = false ∧ c.nak = false :=
  ⟨ready.put [(F.DLK_LINK_n_STAT.STATE, 3, 0, 3)], 3, List.replicate 1024 7, (frame 0 0xFFFF 0).drop 1024,
  List.replicate 1024 7, ctl 0 0xFFFF 0, by decide +kernel⟩

set_option maxRecDepth 100000 in
theorem witness_PackageLinks_4 :
    ∃ (d : Dev) (n : Fin 31) (i : Bool) (b k y : List Byte) (c : Control), (d.linkState n = 3 ∨ d.linkState n = 4)
    ∧ frameOfBytes (b ++ k) = some (y, c) ∧ c.reset = false ∧ (c.retrain = true ∨ (c.nak = true
    ∧ c.fseq ≠ (d.linkEnd n i).expect ∧ c.ack = (d.linkEnd n i).acked ∧ 8 ≤ (d.linkEnd n i).resent)) :=
  ⟨ready.put [(F.DLK_LINK_n_STAT.STATE, 3, 0, 3)], 3, true, List.replicate 1024 7, (frame 5 0xFFFF 4).drop 1024,
  List.replicate 1024 7, ctl 5 0xFFFF 4, by decide +kernel⟩

set_option maxRecDepth 100000 in
theorem witness_PackageLinks_5 :
    ∃ (d : Dev) (n : Fin 31) (b k y : List Byte) (c : Control), (d.linkState n = 3 ∨ d.linkState n = 4)
    ∧ frameOfBytes (b ++ k) = some (y, c) ∧ c.reset = true :=
  ⟨ready.put [(F.DLK_LINK_n_STAT.STATE, 3, 0, 3)], 3, List.replicate 1024 7, (frame 5 0xFFFF 8).drop 1024,
  List.replicate 1024 7, ctl 5 0xFFFF 8, by decide +kernel⟩

set_option maxRecDepth 100000 in
theorem witness_PackageLinks_6 :
    ∃ (d : Dev) (n : Fin 31) (i : Bool) (b k y : List Byte) (c : Control), (d.linkState n = 3 ∨ d.linkState n = 4)
    ∧ frameOfBytes (b ++ k) = some (y, c) ∧ c.reset = false ∧ c.retrain = false ∧ c.nak = true
    ∧ c.fseq ≠ (d.linkEnd n i).expect ∧ c.ack = (d.linkEnd n i).acked ∧ (d.linkEnd n i).resent < 8 :=
  ⟨(ready.put [(F.DLK_LINK_n_STAT.STATE, 3, 0, 3)]).setEnd 3 true { resent := 7 }, 3, true, List.replicate 1024 7,
  (frame 5 0xFFFF 1).drop 1024, List.replicate 1024 7, ctl 5 0xFFFF 1, by decide +kernel⟩

theorem witness_PackageLinks_7_to_16 :
    (∃ (d : Dev) (n : Fin 31), d.linkState n = 3 ∨ d.linkState n = 4) ∧
    (∃ (d : Dev) (n : Fin 31), d.linkState n ≠ 3 ∧ d.linkState n ≠ 4) ∧
    (∃ (d : Dev) (n : Fin 31), d.linkState n = 1) ∧
    (∃ (d : Dev) (n : Fin 31) (x : Fin 256) (l : Fin 16), d.linkState n = 2 ∧ d.exchangeOk n x l = true
     ∧ (d.linkEnd n true).fresh = false) ∧
    (∃ (d : Dev) (n : Fin 31) (x : Fin 256) (m w l : Fin 16), d.linkState n = 2 ∧ d.exchangeOk n x l = true
     ∧ (d.linkEnd n true).mask &&& m.val ≠ 0 ∧ w.val = quarters ((d.linkEnd n true).mask &&& m.val)
     ∧ (d.linkEnd n false).fresh = false) ∧
    (∃ (d : Dev) (n : Fin 31) (x : Fin 256) (w l : Fin 16), d.linkState n = 2 ∧ d.exchangeOk n x l = true
     ∧ (d.link n).accepted = some w.val ∧ w.val ≠ 0 ∧ (d.link n).again = false
     ∧ (8 ≤ n.val → n.val < 16 → d.dlk.moved.contains (n.val - 8) = true ∨ d.linkState (n - 8) ≠ 5
     ∧ d.linkState (n - 8) ≠ 6)) ∧
    (∃ (d : Dev) (n : Fin 31) (x : Fin 256) (w l : Fin 16), d.linkState n = 2 ∧ d.exchangeOk n x l = true
     ∧ (d.link n).accepted = some w.val ∧ w.val ≠ 0 ∧ (d.link n).again = true
     ∧ (8 ≤ n.val → n.val < 16 → d.dlk.moved.contains (n.val - 8) = true ∨ d.linkState (n - 8) ≠ 5
     ∧ d.linkState (n - 8) ≠ 6)) ∧
    (∃ (d : Dev) (n : Fin 31) (x : Fin 256) (l : Fin 16) (k : Nat), d.linkState n = 2 ∧ d.exchangeOk n x l = true
     ∧ (d.link n).accepted = some 15 ∧ (d.link n).again = false ∧ 8 ≤ n.val ∧ n.val < 16 ∧ k = n.val - 8
     ∧ d.dlk.moved.contains k = false ∧ (d.linkState k = 5 ∨ d.linkState k = 6)) ∧
    (∃ (d : Dev) (n : Fin 31) (x : Fin 256) (m w l : Fin 16) (c : Instr) (bad : Dev → Bool), ((c,
     bad) ∈ [ (Instr.propose n x m l, fun d => !d.exchangeOk n x l), (Instr.accept n x m w l,
     fun d => !d.exchangeOk n x l || decide (w.val ≠ quarters ((d.linkEnd n true).mask &&& m.val))),
     (Instr.confirm n x w l,
     fun d => !d.exchangeOk n x l || decide ((d.link n).accepted ≠ some w.val) || decide (w.val = 0)),
     (Instr.exchangeTimeout n, fun _ => true)]) ∧ d.linkState n = 2 ∧ bad d = true ∧ (d.link n).again = false
     ∧ d.gf F.DLK_LINK_n_STAT.FAILED_TRIES 0 n < 2) ∧
    (∃ (d : Dev) (n : Fin 31) (x : Fin 256) (m w l : Fin 16) (c : Instr) (bad : Dev → Bool), ((c,
     bad) ∈ [ (Instr.propose n x m l, fun d => !d.exchangeOk n x l), (Instr.accept n x m w l,
     fun d => !d.exchangeOk n x l || decide (w.val ≠ quarters ((d.linkEnd n true).mask &&& m.val))),
     (Instr.confirm n x w l,
     fun d => !d.exchangeOk n x l || decide ((d.link n).accepted ≠ some w.val) || decide (w.val = 0)),
     (Instr.exchangeTimeout n, fun _ => true)]) ∧ d.linkState n = 2 ∧ bad d = true ∧ (d.link n).again = true
     ∧ d.gf F.DLK_LINK_n_STAT.FAILED_TRIES 0 n < 2) :=
  ⟨⟨ready.put [(F.DLK_LINK_n_STAT.STATE, 3, 0, 3)], 3, by decide +kernel⟩,
    ⟨ready, 3, by decide +kernel⟩,
    ⟨ready.put [(F.DLK_LINK_n_STAT.STATE, 1, 0, 3), (F.DLK_LINK_n_STAT.XNUM, 255, 0, 3)], 3, by decide +kernel⟩,
    ⟨(ready.put [(F.DLK_LINK_n_STAT.STATE, 2, 0, 3), (F.DLK_LINK_n_STAT.XNUM, 9, 0, 3), (F.DLK_PKG_LEVEL.COMMON_LEVEL,
    2, 0, 0)]).setEnd 3 false { mask := 14 }, 3, 9, 2, by decide +kernel⟩,
    ⟨(ready.put [(F.DLK_LINK_n_STAT.STATE, 2, 0, 3), (F.DLK_LINK_n_STAT.XNUM, 9, 0, 3), (F.DLK_PKG_LEVEL.COMMON_LEVEL,
    2, 0, 0)]).setEnd 3 true { mask := 13 }, 3, 9, 14, 12, 2, by decide +kernel⟩,
    ⟨(ready.put [(F.DLK_LINK_n_STAT.STATE, 2, 0, 3), (F.DLK_LINK_n_STAT.XNUM, 9, 0, 3), (F.DLK_PKG_LEVEL.COMMON_LEVEL,
    2, 0, 0)]).setLink 3 { accepted := some 15 }, 3, 9, 15, 2, by decide +kernel⟩,
    ⟨(ready.put [(F.DLK_LINK_n_STAT.STATE, 2, 0, 3), (F.DLK_LINK_n_STAT.XNUM, 9, 0, 3), (F.DLK_PKG_LEVEL.COMMON_LEVEL,
    2, 0, 0)]).setLink 3 { accepted := some 12, again := true }, 3, 9, 12, 2, by decide +kernel⟩,
    ⟨(ready.put [(F.DLK_LINK_n_STAT.STATE, 2, 0, 11), (F.DLK_LINK_n_STAT.XNUM, 9, 0, 11),
    (F.DLK_PKG_LEVEL.COMMON_LEVEL, 2, 0, 0), (F.DLK_LINK_n_STAT.STATE, 5, 0, 3)]).setLink 11 { accepted := some 15 },
    11, 9, 2, 3, by decide +kernel⟩,
    ⟨ready.put [(F.DLK_LINK_n_STAT.STATE, 2, 0, 3)], 3, 1, 7, 2, 0, .exchangeTimeout 3, fun _ => true,
    .tail _ (.tail _ (.tail _ (.head _))), by decide +kernel⟩,
    ⟨(ready.put [(F.DLK_LINK_n_STAT.STATE, 2, 0, 3)]).setLink 3 { again := true }, 3, 1, 7, 2, 0, .exchangeTimeout 3,
    fun _ => true, .tail _ (.tail _ (.tail _ (.head _))), by decide +kernel⟩⟩

theorem witness_PackageLinks_17_to_29 :
    (∃ (d : Dev) (n : Fin 31) (x : Fin 256) (m w l : Fin 16) (c : Instr) (bad : Dev → Bool), ((c,
     bad) ∈ [ (Instr.propose n x m l, fun d => !d.exchangeOk n x l), (Instr.accept n x m w l,
     fun d => !d.exchangeOk n x l || decide (w.val ≠ quarters ((d.linkEnd n true).mask &&& m.val))),
     (Instr.confirm n x w l,
     fun d => !d.exchangeOk n x l || decide ((d.link n).accepted ≠ some w.val) || decide (w.val = 0)),
     (Instr.exchangeTimeout n, fun _ => true)]) ∧ d.linkState n = 2 ∧ bad d = true
     ∧ d.gf F.DLK_LINK_n_STAT.FAILED_TRIES 0 n = 2 ∧ n.val < 8 ∧ (d.link n).again = false
     ∧ d.dlk.moved.contains n.val = false ∧ d.linkState (8 + n) = 4) ∧
    (∃ (d : Dev) (n : Fin 31) (x : Fin 256) (m w l : Fin 16) (c : Instr) (bad : Dev → Bool) (k : Fin 20), ((c,
     bad) ∈ [ (Instr.propose n x m l, fun d => !d.exchangeOk n x l), (Instr.accept n x m w l,
     fun d => !d.exchangeOk n x l || decide (w.val ≠ quarters ((d.linkEnd n true).mask &&& m.val))),
     (Instr.confirm n x w l,
     fun d => !d.exchangeOk n x l || decide ((d.link n).accepted ≠ some w.val) || decide (w.val = 0)),
     (Instr.exchangeTimeout n, fun _ => true)]) ∧ (((n.val < 8 ∧ k.val = n.val) ∨ (20 ≤ n.val ∧ n.val < 26
     ∧ k.val = n.val - 7))) ∧ d.linkState n = 2 ∧ bad d = true ∧ d.gf F.DLK_LINK_n_STAT.FAILED_TRIES 0 n = 2
     ∧ (d.link n).again = false ∧ (n.val < 8 → d.dlk.moved.contains n.val = false ∧ ([1, 2,
     4].contains (d.linkState (8 + n)) = false)) ∧ (d.safe.occs.any fun o => decide (o.unit = .die k)) = false) ∧
    (∃ (d : Dev) (n : Fin 31) (x : Fin 256) (m l : Fin 16) (c : Instr) (w : Fin 16), (c ∈ [Instr.propose n x m l,
     .accept n x m w l, .confirm n x w l, .exchangeTimeout n]) ∧ d.linkState n ≠ 2) ∧
    (∃ (d : Dev) (n : Fin 31), d.accepts ⟨.DLK_LINK_n_CTRL, 0, n, 0⟩ = true ∧ d.linkState n = 2) ∧
    (∃ (d : Dev) (n : Fin 31), d.accepts ⟨.DLK_LINK_n_CTRL, 0, n, 0⟩ = true ∧ d.linkState n ≠ 2 ∧ d.linkState n ≠ 6) ∧
    (∃ (d : Dev) (n : Fin 31), d.accepts ⟨.DLK_LINK_n_CTRL, 0, n, 0⟩ = true ∧ d.on F.DLK_LINK_n_CTRL.DOWN 0 n = false
     ∧ n.val < 8 ∧ d.linkState (8 + n) = 4) ∧
    (∃ (d : Dev) (n : Fin 31), d.accepts ⟨.DLK_LINK_n_CTRL, 0, n, 0⟩ = true ∧ d.on F.DLK_LINK_n_CTRL.DOWN 0 n = false
     ∧ n.val < 8 ∧ d.linkState (8 + n) = 3) ∧
    (∃ (d : Dev) (n : Fin 31), d.accepts ⟨.DLK_LINK_n_CTRL, 0, n, 0⟩ = true ∧ d.on F.DLK_LINK_n_CTRL.DOWN 0 n = false
     ∧ (8 ≤ n.val ∨ d.linkState (8 + n) ≠ 3 ∧ d.linkState (8 + n) ≠ 4)) ∧
    (∃ (d : Dev) (n : Fin 31), d.accepts ⟨.DLK_LINK_n_CTRL, 0, n, 0⟩ = true ∧ d.on F.DLK_LINK_n_CTRL.DOWN 0 n = true) ∧
    (∃ (d : Dev) (k : Fin 20) (t : Nat), NMap.get 0 d.dlk.side k = t) :=
  ⟨⟨ready.put [(F.DLK_LINK_n_STAT.STATE, 2, 0, 3), (F.DLK_LINK_n_STAT.FAILED_TRIES, 2, 0, 3),
    (F.DLK_LINK_n_STAT.STATE, 4, 0, 11)], 3, 1, 7, 2, 0, .exchangeTimeout 3, fun _ => true,
    .tail _ (.tail _ (.tail _ (.head _))), by decide +kernel⟩,
    ⟨ready.put [(F.DLK_LINK_n_STAT.STATE, 2, 0, 3), (F.DLK_LINK_n_STAT.FAILED_TRIES, 2, 0, 3)], 3, 1, 7, 2, 0,
    .exchangeTimeout 3, fun _ => true, 3, .tail _ (.tail _ (.tail _ (.head _))), by decide, by decide +kernel⟩,
    ⟨ready.put [(F.DLK_LINK_n_STAT.STATE, 3, 0, 3)], 3, 0, 0, 0, .exchangeTimeout 3, 0,
    .tail _ (.tail _ (.tail _ (.head _))), by decide +kernel⟩,
    ⟨ready.put [(F.DLK_LINK_n_STAT.STATE, 2, 0, 3)], 3, by decide +kernel⟩,
    ⟨ready.put [(F.DLK_LINK_n_STAT.STATE, 5, 0, 3), (F.DLK_LINK_n_STAT.FAILED_TRIES, 3, 0, 3)], 3, by decide +kernel⟩,
    ⟨ready.put [(F.DLK_LINK_n_STAT.STATE, 2, 0, 3), (F.DLK_LINK_n_STAT.STATE, 4, 0, 11)], 3, by decide +kernel⟩,
    ⟨ready.put [(F.DLK_LINK_n_STAT.STATE, 3, 0, 3), (F.DLK_LINK_n_STAT.STATE, 3, 0, 11)], 3, by decide +kernel⟩,
    ⟨ready.put [(F.DLK_LINK_n_STAT.STATE, 3, 0, 20)], 20, by decide +kernel⟩,
    ⟨ready.put [(F.DLK_LINK_n_STAT.STATE, 6, 0, 3), (F.DLK_LINK_n_CTRL.DOWN, 1, 0, 3)], 3, by decide +kernel⟩,
    ⟨ready.sideSend 13, 13, 1, by decide +kernel⟩⟩

theorem witness_PackageLinks_30_to_31 :
    (∃ (d : Dev) (k : Fin 20), d.on F.DLK_DIE_k_INV.PRESENT 0 k = false ∧ k.val ≠ 19
     ∧ (d.safe.occs.any fun o => decide (o.unit = .die k)) = false) ∧
    (∃ (d : Dev) (k : Fin 20), d.on F.DLK_DIE_k_INV.PRESENT 0 k = true) :=
  ⟨⟨ready, 13, by decide +kernel⟩,
    ⟨ready.put [(F.DLK_DIE_k_INV.PRESENT, 1, 0, 13)], 13, by decide +kernel⟩⟩

/-! ### The hypotheses of PerdunRequests -/

theorem witness_PerdunRequests_1_to_10 :
    (∃ (d : Dev) (m : HlkMsg) (o : Nat), (o = reqOffset m) ∧ d.hlkGrants m 3 = true ∧ o < 0x100000000000
     ∧ d.hbmFree o m.length false = true) ∧
    (∃ (d : Dev) (m : HlkMsg) (o : Nat), (o = reqOffset m) ∧ d.hlkGrants m 3 = true ∧ 0x100000000000 ≤ o
     ∧ inRegSpace o = false) ∧
    (∃ (d : Dev) (m : HlkMsg) (o : Nat) (k : RegKey), (o = reqOffset m) ∧ d.hlkGrants m 3 = true ∧ inRegSpace o = true
     ∧ RegKey.ofOffset (o - 0x3F0000000000) = some k ∧ plainReg k.name = true ∧ (d.regRefusal k).1 = 0
     ∧ k.name ≠ .HLK_RX_CNT ∧ k.name ≠ .INT_TGT_t_CLAIM) ∧
    (∃ (d : Dev) (m : HlkMsg) (o : Nat), (o = reqOffset m) ∧ d.hlkGrants m 4 = true ∧ o < 0x100000000000
     ∧ d.hbmFree o m.payload.length true = true) ∧
    (∃ (d : Dev) (m : HlkMsg) (o : Nat), (o = reqOffset m) ∧ d.hlkGrants m 4 = true ∧ 0x100000000000 ≤ o
     ∧ inRegSpace o = false) ∧
    (∃ (d : Dev) (m : HlkMsg) (o : Nat) (k : RegKey), (o = reqOffset m) ∧ d.hlkGrants m 4 = true ∧ inRegSpace o = true
     ∧ RegKey.ofOffset (o - 0x3F0000000000) = some k ∧ plainReg k.name = true ∧ d.accepts k = true) ∧
    (∃ (d : Dev) (m : HlkMsg) (o : Nat) (c : Instr) (op : Nat), (o = reqOffset m) ∧ ((c, op) ∈ [(Instr.rdShared m [],
     1), (Instr.rdOwn m [], 2)]) ∧ (d.hlkGrants m op = true ∧ d.hbmFree o 64 false = true
     ∧ ((d.dirAt (o / 64)).isSome = true ∨ d.hlk.dir.length < 1048576))) ∧
    (∃ (d : Dev) (m : HlkMsg) (o : Nat) (c : Instr) (op : Nat) (l : DirLine) (rest : List DirLine), (o = reqOffset m)
     ∧ ((c, op) ∈ [(Instr.rdShared m [], 1), (Instr.rdOwn m [], 2)]) ∧ d.hlkGrants m op = true
     ∧ d.hbmFree o 64 false = true ∧ d.dirAt (o / 64) = none ∧ 1048576 ≤ d.hlk.dir.length ∧ d.hlk.dir = l :: rest
     ∧ l.snoop = none) ∧
    (∃ (d : Dev) (m : HlkMsg) (o : Nat), (o = reqOffset m) ∧ d.hlkGrants m 5 = true
     ∧ ((d.dirAt (o / 64)).any fun l => l.owned) = true ∧ d.frameBusy (o / 64) = false ∧ d.nothingWaits = true) ∧
    (∃ (d : Dev) (m : HlkMsg), d.hlkGrants m 5 = true ∧ ((d.dirAt (reqOffset m / 64)).any fun l => l.owned) = true
     ∧ d.frameBusy (reqOffset m / 64) = true ∧ d.nothingWaits = true) :=
  ⟨⟨link.setHbmByte 0x2001 9, msg 0 3 0x2000 64, 0x2000, by decide, by decide +kernel⟩,
    ⟨link, msg 0 3 0x100000002000 4096, 0x100000002000, by decide, by decide +kernel⟩,
    ⟨link, msg 0 3 (0x3F0000000000 + RegKey.offset ⟨.COL_CTRL, 0, 0, 0⟩) 8,
    (0x3F0000000000 + RegKey.offset ⟨.COL_CTRL, 0, 0, 0⟩), ⟨.COL_CTRL, 0, 0, 0⟩, by decide, by decide +kernel⟩,
    ⟨link.setHbmByte 0x2001 9, msg 0 4 0x2000 4096 (List.replicate 4096 7), 0x2000, by decide, by decide +kernel⟩,
    ⟨link, msg 0 4 0x100000002000 5 [1, 2, 3, 4, 5], 0x100000002000, by decide, by decide +kernel⟩,
    ⟨link, msg 0 4 (0x3F0000000000 + RegKey.offset ⟨.COL_CTRL, 0, 0, 0⟩) 8 (leBytes 8 0x123456789abcdef),
    (0x3F0000000000 + RegKey.offset ⟨.COL_CTRL, 0, 0, 0⟩), ⟨.COL_CTRL, 0, 0, 0⟩, by decide, by decide +kernel⟩,
    ⟨link.setHbmByte 0x2001 9, msg 0 1 0x2000 0, 0x2000, .rdShared (msg 0 1 0x2000 0) [], 1, by decide, .head _,
    by decide +kernel⟩,
    ⟨crowded 1048575, msg 0 1 0x2000 0, 0x2000, .rdShared (msg 0 1 0x2000 0) [], 1, { unit := 127, owned := true },
      List.replicate 1048575 { unit := 126, owned := true }, by decide, .head _, by decide +kernel,
      crowded_free _ (crowded_line _) (by decide +kernel) (by decide +kernel) (by decide +kernel) (by decide +kernel), crowded_line _,
      (crowded_full _).ge, rfl, rfl⟩,
    ⟨(link.setHbmByte 0x2001 9).modHlk fun h => { h with dir := [{ unit := 128, owned := true }, { unit := 129, owned := true }] },
    msg 0 5 0x2000 64 (List.replicate 64 7), 0x2000, by decide, by decide +kernel⟩,
    ⟨{ (link.setHbmByte 0x2001 9).modHlk fun h => { h with dir := [{ unit := 128, owned := true }, { unit := 129, owned := true }] } with mem := { mapout := some { q := 0, pc := 5, phase := .copy, moves := [((hbmPlace 0x2000).1 * 1024 + (hbmPlace 0x2000).2, 767)] } } },
    msg 0 5 0x2000 64 (List.replicate 64 7), by decide +kernel⟩⟩

theorem witness_PerdunRequests_11_to_20 :
    (∃ (d : Dev) (m : HlkMsg) (o : Nat), (o = reqOffset m) ∧ d.hlkGrants m 6 = true ∧ d.nothingWaits = true) ∧
    (∃ (d : Dev) (m : HlkMsg) (c : Instr) (op code : Nat), ((c, op) ∈ [(Instr.rdShared m [], 1), (Instr.rdOwn m [],
     2), (Instr.rdUncached m [], 3), (Instr.wrUncached m [], 4)]) ∧ d.hlkTakes m 0 op = true ∧ (d.checkReq m).1 = code
     ∧ code ≠ 0) ∧
    (∃ (d : Dev) (m : HlkMsg) (o : Nat) (c : Instr) (op : Nat), (o = reqOffset m) ∧ ((c, op) ∈ [(Instr.rdShared m [],
     1), (Instr.rdOwn m [], 2), (Instr.rdUncached m [], 3), (Instr.wrUncached m [], 4)]) ∧ d.hlkTakes m 0 op = true
     ∧ (d.checkReq m).1 = 0 ∧ o < 0x100000000000 ∧ d.behind (o, reqBytes m) = true) ∧
    (∃ (d : Dev) (m : HlkMsg) (c : Instr) (op u : Nat) (l : Line), ((c, op) ∈ [(Instr.snpShare m, 1), (Instr.snpInv m,
     2)]) ∧ d.hlkTakes m 1 op = true
     ∧ u = (0x200000000000 + (m.addr + 2 ^ 64 - d.gf F.HLK_WINDOW_BASE.BASE) % 2 ^ 64) / 64 ∧ d.lineAt u = some l
     ∧ l.comp.isSome = true) ∧
    (∃ (d : Dev) (m : HlkMsg) (c : Instr) (op : Nat), ((c, op) ∈ [(Instr.snpShare m, 1), (Instr.snpInv m, 2)])
     ∧ d.hlkTakes m 1 op = true ∧ (d.mem.lines.all fun l => l.comp.isNone) = true) ∧
    (∃ (d : Dev) (m : HlkMsg) (r : HlkReq) (j : WinJob), d.hlkTakes m 2 1 = true ∧ d.hlk.reqs = [r] ∧ r.tag = m.tag
     ∧ r.want = .read ∧ d.mem.jobs = [j] ∧ j.waits = [m.tag] ∧ j.code = 0 ∧ j.got = [] ∧ Dev.isWrite j.pkt = false
     ∧ localOf j.pkt.addr = r.off ∧ spanOf j.pkt = m.payload.length ∧ d.nothingWaits = true) ∧
    (∃ (d : Dev) (m : HlkMsg) (r : HlkReq) (c : Instr) (op : Nat) (st : CompSt), ((c, op, st) ∈ [(Instr.dataS m [], 1,
     CompSt.s), (Instr.dataE m [], 2, CompSt.e)]) ∧ d.hlkTakes m 2 op = true ∧ d.hlk.reqs = [r] ∧ r.tag = m.tag
     ∧ r.want = .fill false ∧ d.mem.jobs = [] ∧ d.nothingWaits = true ∧ d.mem.lines = []) ∧
    (∃ (d : Dev) (m : HlkMsg) (r : HlkReq) (j : WinJob) (c : Instr) (op code : Nat), ((c, op,
     code) ∈ [(Instr.wrAck m [], 3, 0), (Instr.refused m [], 5, m.code)]) ∧ d.hlkTakes m 2 op = true
     ∧ (op = 5 → m.code ≠ 0) ∧ d.hlk.reqs = [r] ∧ r.tag = m.tag ∧ r.want = .write ∧ d.mem.jobs = [j]
     ∧ j.waits = [m.tag] ∧ j.code = 0 ∧ Dev.isWrite j.pkt = true ∧ d.nothingWaits = true) ∧
    (∃ (d : Dev) (m : HlkMsg) (errs : List MemErr) (c : Instr) (op : Nat), ((c, op) ∈ [(Instr.dataS m errs, 1),
     (Instr.dataE m errs, 2), (Instr.wrAck m errs, 3), (Instr.snpAck m errs, 4), (Instr.refused m errs, 5)])
     ∧ d.hlkTakes m 2 op = true ∧ (d.hlk.reqs.all fun r => decide (r.tag ≠ m.tag)) = true
     ∧ (d.hlk.dir.all fun l => decide (l.snoop.map Prod.snd ≠ some m.tag)) = true) ∧
    (∃ (d : Dev) (m : HlkMsg) (l : DirLine) (inv : Bool), d.hlkTakes m 2 4 = true
     ∧ d.hlk.dir.find? (fun l => decide (l.snoop.map Prod.snd = some m.tag)) = some l ∧ l.snoop = some (inv, m.tag)
     ∧ d.dirAt l.unit = some l ∧ d.frameBusy l.unit = false ∧ d.nothingWaits = true) :=
  ⟨⟨(link.setHbmByte 0x2001 9).modHlk fun h => { h with dir := [{ unit := 128, owned := true }, { unit := 129, owned := true }] },
    msg 0 6 0x2000 0, 0x2000, by decide, by decide +kernel⟩,
    ⟨link, msg 0 1 0x2001 0, .rdShared (msg 0 1 0x2001 0) [], 1, Code.GAS_ADDR_ERROR, .head _, by decide +kernel⟩,
    ⟨{ link with mem := { held := [.message (msg 0 1 0x2040 0)] } }, msg 0 4 0x203F 2 [3, 4], 0x203F,
    .wrUncached (msg 0 4 0x203F 2 [3, 4]) [], 4, by decide, .tail _ (.tail _ (.tail _ (.head _))), by decide +kernel⟩,
    ⟨{ link.put [(F.HLK_WINDOW_BASE.BASE, 0x10000, 0, 0)] with mem := { link.mem with lines := [{ unit := 5, kept := true }, { unit := (0x200000000000 + 0x80) / 64, kept := false, comp := some .s, dirty := true, data := List.replicate 64 7 }] } },
    msg 1 1 0x10080, .snpShare (msg 1 1 0x10080), 1, (0x200000000000 + 0x80) / 64,
    { unit := (0x200000000000 + 0x80) / 64, kept := false, comp := some .s, dirty := true, data := List.replicate 64 7 },
    .head _, by decide +kernel⟩,
    ⟨link, msg 1 1 0x10080, .snpShare (msg 1 1 0x10080), 1, .head _, by decide +kernel⟩,
    ⟨{ link.modHlk fun h => { h with reqs := [{ tag := 5, want := .read, off := 0x200000000080 }] } with mem := { link.mem with jobs := [{ pkt := { dst := 0, src := 5, partition := 1, type := PT.read, length := 64, addr := 0x200000000080, key := 7, msg := 3, total := 9, core := 1, epoch := 2, dseq := 4 }, waits := [5] }] } },
    msg 2 1 0 64 (List.replicate 64 7), { tag := 5, want := .read, off := 0x200000000080 },
    { pkt := { dst := 0, src := 5, partition := 1, type := PT.read, length := 64, addr := 0x200000000080, key := 7, msg := 3, total := 9, core := 1, epoch := 2, dseq := 4 }, waits := [5] },
    by decide +kernel⟩,
    ⟨link.modHlk fun h => { h with reqs := [{ tag := 5, want := .fill false, off := 0x200000000080, kept := true }] },
    msg 2 1 0 64 (List.replicate 64 7), { tag := 5, want := .fill false, off := 0x200000000080, kept := true },
    .dataS (msg 2 1 0 64 (List.replicate 64 7)) [], 1, .s, .head _, by decide +kernel⟩,
    ⟨{ link.modHlk fun h => { h with reqs := [{ tag := 5, want := .write, off := 0x200000000080 }] } with mem := { link.mem with jobs := [{ pkt := { dst := 0, src := 5, partition := 1, type := PT.write, payload := List.replicate 64 7, length := 64, addr := 0x200000000080, key := 7, msg := 3, total := 9, core := 1, epoch := 2, dseq := 4 }, waits := [5] }] } },
    msg 2 3, { tag := 5, want := .write, off := 0x200000000080 },
    { pkt := { dst := 0, src := 5, partition := 1, type := PT.write, payload := List.replicate 64 7, length := 64, addr := 0x200000000080, key := 7, msg := 3, total := 9, core := 1, epoch := 2, dseq := 4 }, waits := [5] },
    .wrAck (msg 2 3) [], 3, 0, .head _, by decide +kernel⟩,
    ⟨link, msg 2 1 0 64 (List.replicate 64 7), [], .dataS (msg 2 1 0 64 (List.replicate 64 7)) [], 1, .head _,
    by decide +kernel⟩,
    ⟨(link.setHbmByte 0x2001 9).modHlk fun h => { h with dir := [{ unit := 127, owned := true }, { unit := 128, owned := true, snoop := some (true, 5) }] },
    msg 2 4 0 64 (List.replicate 64 7), { unit := 128, owned := true, snoop := some (true, 5) }, true,
    by decide +kernel⟩⟩

theorem witness_PerdunRequests_21_to_23 :
    (∃ (d : Dev) (u : Nat) (l : DirLine) (x : Bool × Nat), d.dirAt u = some l ∧ l.snoop = some x
     ∧ d.nothingWaits = true) ∧
    (∃ (d : Dev) (u : Nat) (l : DirLine) (x : Bool × Nat) (p : Packet), d.dirAt u = some l ∧ l.snoop = some x
     ∧ d.mem.held = [.packet p] ∧ d.mem.returns = [] ∧ Dev.sameUnit (64 * u, 64) (p.addr % 2 ^ 46, spanOf p) = true) ∧
    (∃ (d : Dev) (u : Nat), ((d.dirAt u).any fun l => l.snoop.isSome) = false) :=
  ⟨⟨(link.setHbmByte 0x2001 9).modHlk fun h => { h with dir := [{ unit := 127, owned := true }, { unit := 128, owned := true, snoop := some (true, 5) }] },
    128, { unit := 128, owned := true, snoop := some (true, 5) }, (true, 5), by decide +kernel⟩,
    ⟨{ link.modHlk fun h => { h with dir := [{ unit := 128, owned := true, snoop := some (true, 5) }] } with mem := { held := [.packet { dst := 0, src := 5, partition := 1, type := PT.read, length := 64, addr := 0x2000, key := 7, msg := 3, total := 9, core := 1, epoch := 2, dseq := 4 }] } },
    128, { unit := 128, owned := true, snoop := some (true, 5) }, (true, 5),
    { dst := 0, src := 5, partition := 1, type := PT.read, length := 64, addr := 0x2000, key := 7, msg := 3, total := 9, core := 1, epoch := 2, dseq := 4 },
    by decide +kernel⟩,
    ⟨link, 128, by decide +kernel⟩⟩

/-! ### The hypotheses of PerdunLink -/

theorem witness_PerdunLink_1_to_10 :
    (∃ (d : Dev) (m : HlkMsg), m.cls = 3 ∧ m.op = 1 ∧ d.gf F.HLK_STAT.STATE = 2 ∧ wellFormedMsg m = true
     ∧ Dev.helloOk m.payload = true ∧ d.hlk.waiting = []) ∧
    (∃ (d : Dev) (m : HlkMsg), m.cls = 3 ∧ m.op = 1 ∧ d.gf F.HLK_STAT.STATE = 2
     ∧ (wellFormedMsg m && Dev.helloOk m.payload) = false) ∧
    (∃ (d : Dev), d.gf F.HLK_STAT.STATE = 2) ∧
    (∃ (d : Dev), d.gf F.HLK_STAT.STATE ≠ 2) ∧
    (∃ (d : Dev) (m : HlkMsg), d.hlkTakes m 3 2 = true ∧ d.hlk.waiting = []) ∧
    (∃ (d : Dev) (m : HlkMsg) (t l src : Nat) (rest : List (Nat × Nat)), d.hlkTakes m 3 4 = true
     ∧ t = 4 + bitsOf m.value 19 16 ∧ d.runningAt t = (l, src) :: rest ∧ src = bitsOf m.value 9 0) ∧
    (∃ (d : Dev) (m : HlkMsg) (t : Nat), d.hlkTakes m 3 4 = true ∧ t = 4 + bitsOf m.value 19 16
     ∧ ((d.runningAt t).head?.any fun x => decide (x.2 = bitsOf m.value 9 0)) = false) ∧
    (∃ (d : Dev) (m : HlkMsg) (c : Fin 128) (x : OutSignal), d.hlkTakes m 3 6 = true ∧ (d.core c).signals = [x]
     ∧ x.dest = 3 ∧ x.tag = m.tag) ∧
    (∃ (d : Dev) (m : HlkMsg), d.hlkTakes m 3 7 = true) ∧
    (∃ (d : Dev) (m : HlkMsg) (errs : List MemErr) (c : Instr) (cls op : Nat), ((c, cls, op) ∈ [(Instr.hello m, 3, 1),
     (Instr.credit m, 3, 2), (Instr.eoi m, 3, 4), (Instr.counterAck m, 3, 6), (Instr.doorbell m, 3, 7),
     (Instr.rdShared m errs, 0, 1), (Instr.rdOwn m errs, 0, 2), (Instr.rdUncached m errs, 0, 3),
     (Instr.wrUncached m errs, 0, 4), (Instr.wrback m errs, 0, 5), (Instr.evictClean m errs, 0, 6), (Instr.snpShare m,
     1, 1), (Instr.snpInv m, 1, 2), (Instr.dataS m errs, 2, 1), (Instr.dataE m errs, 2, 2), (Instr.wrAck m errs, 2,
     3), (Instr.snpAck m errs, 2, 4), (Instr.refused m errs, 2, 5)]) ∧ (m.cls = cls) ∧ (m.op = op) ∧ d.hlkUp = false
     ∧ d.gf F.HLK_STAT.STATE ≠ 2) :=
  ⟨⟨link.put [(F.HLK_STAT.STATE, 2, 0, 0)],
    msg 3 1 0 64 (leBytes 4 1 ++ leBytes 16 99 ++ leBytes 2 65 ++ leBytes 2 512 ++ leBytes 2 4096 ++ leBytes 2 4 ++ leBytes 8 0x10000 ++ leBytes 2 16384 ++ [8] ++ leBytes 25 0) 9,
    by decide +kernel⟩,
    ⟨link.put [(F.HLK_STAT.STATE, 2, 0, 0)],
    msg 3 1 0 64 (leBytes 4 1 ++ leBytes 16 99 ++ leBytes 2 64 ++ leBytes 2 512 ++ leBytes 2 4096 ++ leBytes 2 4 ++ leBytes 8 0x10000 ++ leBytes 2 16384 ++ [8] ++ leBytes 25 0) 9,
    by decide +kernel⟩,
    ⟨link.put [(F.HLK_STAT.STATE, 2, 0, 0)], by decide +kernel⟩,
    ⟨link, by decide +kernel⟩,
    ⟨link, { msg 3 2 with value := 0xFFF001002003 }, by decide +kernel⟩,
    ⟨link.setRunning 6 [(7, 1001), (3, 4)], { msg 3 4 with value := 0x203E9 }, 6, 7, 1001, [(3, 4)],
    by decide +kernel⟩,
    ⟨link.setRunning 6 [(7, 1001), (3, 4)], { msg 3 4 with value := 0x203E8 }, 6, by decide +kernel⟩,
    ⟨link.modCore 127 fun k => { k with signals := [{ seq := 3, dest := 3, tag := 5 }] }, msg 3 6, 127,
    { seq := 3, dest := 3, tag := 5 }, by decide +kernel⟩,
    ⟨link, { msg 3 7 with value := 7 }, by decide +kernel⟩,
    ⟨ready,
    msg 3 1 0 64 (leBytes 4 1 ++ leBytes 16 99 ++ leBytes 2 65 ++ leBytes 2 512 ++ leBytes 2 4096 ++ leBytes 2 4 ++ leBytes 8 0x10000 ++ leBytes 2 16384 ++ [8] ++ leBytes 25 0) 0,
    [],
    .hello (msg 3 1 0 64 (leBytes 4 1 ++ leBytes 16 99 ++ leBytes 2 65 ++ leBytes 2 512 ++ leBytes 2 4096 ++ leBytes 2 4 ++ leBytes 8 0x10000 ++ leBytes 2 16384 ++ [8] ++ leBytes 25 0) 0),
    3, 1, .head _, by decide, by decide, by decide +kernel⟩⟩

theorem witness_PerdunLink_11_to_20 :
    (∃ (d : Dev) (m : HlkMsg) (errs : List MemErr) (c : Instr) (cls op : Nat), ((c, cls, op) ∈ [(Instr.hello m, 3, 1),
     (Instr.credit m, 3, 2), (Instr.eoi m, 3, 4), (Instr.counterAck m, 3, 6), (Instr.doorbell m, 3, 7),
     (Instr.rdShared m errs, 0, 1), (Instr.rdOwn m errs, 0, 2), (Instr.rdUncached m errs, 0, 3),
     (Instr.wrUncached m errs, 0, 4), (Instr.wrback m errs, 0, 5), (Instr.evictClean m errs, 0, 6), (Instr.snpShare m,
     1, 1), (Instr.snpInv m, 1, 2), (Instr.dataS m errs, 2, 1), (Instr.dataE m errs, 2, 2), (Instr.wrAck m errs, 2,
     3), (Instr.snpAck m errs, 2, 4), (Instr.refused m errs, 2, 5)]) ∧ (m.cls = cls) ∧ (m.op = op) ∧ d.hlkUp = true
     ∧ d.hlk.waiting = [] ∧ 2 ^ 31 ≤ (m.lseq % 2 ^ 32 + 2 ^ 32 - d.hlk.rxNext) % 2 ^ 32) ∧
    (∃ (d : Dev) (m : HlkMsg) (errs : List MemErr) (c : Instr) (cls op : Nat), ((c, cls, op) ∈ [(Instr.hello m, 3, 1),
     (Instr.credit m, 3, 2), (Instr.eoi m, 3, 4), (Instr.counterAck m, 3, 6), (Instr.doorbell m, 3, 7),
     (Instr.rdShared m errs, 0, 1), (Instr.rdOwn m errs, 0, 2), (Instr.rdUncached m errs, 0, 3),
     (Instr.wrUncached m errs, 0, 4), (Instr.wrback m errs, 0, 5), (Instr.evictClean m errs, 0, 6), (Instr.snpShare m,
     1, 1), (Instr.snpInv m, 1, 2), (Instr.dataS m errs, 2, 1), (Instr.dataE m errs, 2, 2), (Instr.wrAck m errs, 2,
     3), (Instr.snpAck m errs, 2, 4), (Instr.refused m errs, 2, 5)]) ∧ (m.cls = cls) ∧ (m.op = op) ∧ d.hlkUp = true
     ∧ d.hlk.waiting = [] ∧ d.hlk.early = [] ∧ 0 < (m.lseq % 2 ^ 32 + 2 ^ 32 - d.hlk.rxNext) % 2 ^ 32
     ∧ (m.lseq % 2 ^ 32 + 2 ^ 32 - d.hlk.rxNext) % 2 ^ 32 < 2 ^ 31) ∧
    (∃ (d : Dev) (m : HlkMsg) (errs : List MemErr) (c : Instr) (cls op : Nat), ((c, cls, op) ∈ [(Instr.hello m, 3, 1),
     (Instr.credit m, 3, 2), (Instr.eoi m, 3, 4), (Instr.counterAck m, 3, 6), (Instr.doorbell m, 3, 7),
     (Instr.rdShared m errs, 0, 1), (Instr.rdOwn m errs, 0, 2), (Instr.rdUncached m errs, 0, 3),
     (Instr.wrUncached m errs, 0, 4), (Instr.wrback m errs, 0, 5), (Instr.evictClean m errs, 0, 6), (Instr.snpShare m,
     1, 1), (Instr.snpInv m, 1, 2), (Instr.dataS m errs, 2, 1), (Instr.dataE m errs, 2, 2), (Instr.wrAck m errs, 2,
     3), (Instr.snpAck m errs, 2, 4), (Instr.refused m errs, 2, 5)]) ∧ (m.cls = cls) ∧ (m.op = op) ∧ d.hlkUp = true
     ∧ d.hlk.waiting = [] ∧ d.hlk.early = [] ∧ m.lseq % 2 ^ 32 = d.hlk.rxNext ∧ d.hlk.granted.getD cls 0 < hlkFlits m) ∧
    (∃ (d : Dev) (m : HlkMsg), m.cls = 0 ∧ fromCompanion m.cls m.op = false ∧ d.hlkUp = true
     ∧ m.lseq % 2 ^ 32 = d.hlk.rxNext ∧ hlkFlits m ≤ d.hlk.granted.getD 0 0 ∧ d.hlk.early = []) ∧
    (∃ (d : Dev) (m : HlkMsg), m.cls = 3 ∧ fromCompanion m.cls m.op = false ∧ d.hlkUp = true
     ∧ m.lseq % 2 ^ 32 = d.hlk.rxNext ∧ hlkFlits m ≤ d.hlk.granted.getD 3 0 ∧ d.hlk.early = []) ∧
    (∃ (d : Dev) (b : Bool) (n o : Nat) (lost : List HlkMsg), (n = (if b then 9 else 8)) ∧ (o = (if b then 8 else 9))
     ∧ (d.port 0 n).step = .up ∧ (d.port 0 o).step = .up ∧ d.gf F.HLK_STAT.PORTS_UP = 3 ∧ d.hlkUp = true
     ∧ lost = d.hlk.unacked.filter fun m => d.hlk.crossed.contains (m.lseq, n)) ∧
    (∃ (d : Dev) (b : Bool) (n : Nat), (n = (if b then 9 else 8)) ∧ (d.port 0 n).step = .up
     ∧ d.gf F.HLK_STAT.PORTS_UP = (if b then 2 else 1) ∧ (d.port 0 (if b then 8 else 9)).step = .dark ∧ d.hlkUp = true
     ∧ d.onlyMessagesWait = true) ∧
    (∃ (d : Dev) (b : Bool) (n : Nat), (n = (if b then 9 else 8)) ∧ (d.port 0 n).step ≠ .up
     ∧ (d.port 0 n).step ≠ .keepAlive) ∧
    (∃ (d : Dev), d.hlkUp = true ∧ d.onlyMessagesWait = true
     ∧ (d.gf F.HLK_STAT.PORTS_UP = 0 ∨ d.on F.DLK_DIE_k_INV.OCCULTED 0 (dieP 0) = true ∨ d.on F.HLK_CTRL.DOWN = true)) ∧
    (∃ (d : Dev), d.hlkUp = false ∨ (d.gf F.HLK_STAT.PORTS_UP ≠ 0 ∧ d.on F.DLK_DIE_k_INV.OCCULTED 0 (dieP 0) = false
     ∧ d.on F.HLK_CTRL.DOWN = false)) :=
  ⟨⟨link.modHlk fun h => { h with unacked := [msg 3 2] },
    msg 3 1 0 64 (leBytes 4 1 ++ leBytes 16 99 ++ leBytes 2 65 ++ leBytes 2 512 ++ leBytes 2 4096 ++ leBytes 2 4 ++ leBytes 8 0x10000 ++ leBytes 2 16384 ++ [8] ++ leBytes 25 0) 4294967295,
    [],
    .hello (msg 3 1 0 64 (leBytes 4 1 ++ leBytes 16 99 ++ leBytes 2 65 ++ leBytes 2 512 ++ leBytes 2 4096 ++ leBytes 2 4 ++ leBytes 8 0x10000 ++ leBytes 2 16384 ++ [8] ++ leBytes 25 0) 4294967295),
    3, 1, .head _, by decide, by decide, by decide +kernel⟩,
    ⟨link.modHlk fun h => { h with unacked := [msg 3 2] },
    msg 3 1 0 64 (leBytes 4 1 ++ leBytes 16 99 ++ leBytes 2 65 ++ leBytes 2 512 ++ leBytes 2 4096 ++ leBytes 2 4 ++ leBytes 8 0x10000 ++ leBytes 2 16384 ++ [8] ++ leBytes 25 0) 3,
    [],
    .hello (msg 3 1 0 64 (leBytes 4 1 ++ leBytes 16 99 ++ leBytes 2 65 ++ leBytes 2 512 ++ leBytes 2 4096 ++ leBytes 2 4 ++ leBytes 8 0x10000 ++ leBytes 2 16384 ++ [8] ++ leBytes 25 0) 3),
    3, 1, .head _, by decide, by decide, by decide +kernel⟩,
    ⟨link.modHlk fun h => { h with granted := [0, 0, 0, 0], unacked := [msg 3 2] },
    msg 3 1 0 64 (leBytes 4 1 ++ leBytes 16 99 ++ leBytes 2 65 ++ leBytes 2 512 ++ leBytes 2 4096 ++ leBytes 2 4 ++ leBytes 8 0x10000 ++ leBytes 2 16384 ++ [8] ++ leBytes 25 0) 0,
    [],
    .hello (msg 3 1 0 64 (leBytes 4 1 ++ leBytes 16 99 ++ leBytes 2 65 ++ leBytes 2 512 ++ leBytes 2 4096 ++ leBytes 2 4 ++ leBytes 8 0x10000 ++ leBytes 2 16384 ++ [8] ++ leBytes 25 0) 0),
    3, 1, .head _, by decide, by decide, by decide +kernel⟩,
    ⟨link, msg 0 7, by decide +kernel⟩,
    ⟨link, msg 3 3, by decide +kernel⟩,
    ⟨(((link.modPort 0 8 fun x => { x with step := .up }).modPort 0 9 fun x => { x with step := .up }).put [(F.HLK_STAT.PORTS_UP,
    3, 0, 0)]).modHlk fun h => { h with unacked := [msg 3 2], crossed := [(0, 9)] }, true, 9, 8, [msg 3 2], by decide,
    by decide, by decide +kernel⟩,
    ⟨((link.modPort 0 8 fun x => { x with step := .dark }).put [(F.HLK_STAT.PORTS_UP, 2, 0,
    0)]).modHlk fun h => { h with unacked := [msg 3 2] }, true, 9, by decide, by decide +kernel⟩,
    ⟨(({ link.modHlk fun h => { h with dir := [{ unit := 3, owned := true }, { unit := 4, owned := false }], unacked := [msg 3 2], reqs := [{ tag := 5, want := .read, off := 0x200000000080 }] } with mem := { link.mem with jobs := [{ pkt := { dst := 0, src := 5, partition := 1, type := PT.read, length := 64, addr := 0x200000000080, key := 7, msg := 3, total := 9, core := 1, epoch := 2, dseq := 4 }, waits := [5] }], lines := [{ unit := 0x200000000000 / 64, kept := false, comp := some .m, dirty := true, data := List.replicate 64 7 }, { unit := 3, kept := true }] } } |>.modPort 0 8 fun x => { x with step := .dark }) |>.setRunning 6 [(7,
    1001), (3, 4)] : Dev).modPort 0 9 fun x => { x with step := .dark }, true, 9, by decide, by decide +kernel⟩,
    ⟨link.put [(F.HLK_STAT.PORTS_UP, 0, 0, 0)], by decide +kernel⟩,
    ⟨link, by decide +kernel⟩⟩

theorem witness_PerdunLink_21_to_22 :
    (∃ (d : Dev), d.accepts ⟨.HLK_CTRL, 0, 0, 0⟩ = true ∧ d.hlkUp = true ∧ d.on F.HLK_CTRL.DOWN = false
     ∧ d.onlyMessagesWait = true) ∧
    (∃ (d : Dev), d.accepts ⟨.HLK_CTRL, 0, 0, 0⟩ = true ∧ d.hlkUp = false ∧ d.on F.HLK_CTRL.DOWN = true
     ∧ d.gf F.HLK_STAT.STATE = 0 ∧ ((d.port 0 8).step = .up ∨ (d.port 0 9).step = .up)
     ∧ d.on F.DLK_DIE_k_INV.OCCULTED 0 (dieP 0) = false) :=
  ⟨⟨link.modCore 127 fun k => { k with signals := [{ seq := 3, dest := 3, tag := 5 }, { seq := 4, dest := 2 }] },
    by decide +kernel⟩,
    ⟨link.put [(F.HLK_STAT.STATE, 0, 0, 0), (F.HLK_CTRL.DOWN, 1, 0, 0)], by decide +kernel⟩⟩

/-! ### The hypotheses of Occultation -/

theorem witness_Occultation_1_to_10 :
    (∃ (d : Dev) (c : Fin 128), (d.safe.occs.any fun o => decide (o.unit = .core c)) = false ∧ d.inService c = true) ∧
    (∃ (d : Dev) (n : Fin 32), (d.safe.occs.any fun o => decide (o.unit = .island n)) = false) ∧
    (∃ (d : Dev) (k : Fin 20), (d.safe.occs.any fun o => decide (o.unit = .die k)) = false) ∧
    (∃ (d : Dev), (d.safe.occs.any fun o => decide (o.unit = .device)) = false ∧ d.occulted = false
     ∧ d.sdieDown = false ∧ d.coordsValid = true) ∧
    (∃ (d : Dev) (u : OccUnit), (d.safe.occs.any fun o => decide (o.unit = u)) = true) ∧
    (∃ (d : Dev) (u : OccUnit), (d.safe.occs.any fun o => decide (o.unit = u)) = false) ∧
    (∃ (d : Dev) (c : Fin 128), d.safe.occs = [{ unit := .core c, ctrl := false }] ∧ d.inService c = false
     ∧ NMap.get 7 d.safe.phys c < 5 ∧ d.occulted = false) ∧
    (∃ (d : Dev), d.safe.occs = [{ unit := .device, ctrl := false }] ∧ d.occulted = true
     ∧ d.on F.GAS_REPLY_PURGE.REQ = false ∧ d.sdieDown = false ∧ d.coordsValid = true) ∧
    (∃ (d : Dev) (n : Nat) (x : NoticeOut), d.safe.notices = [x] ∧ x.count = n ∧ x.left = 2) ∧
    (∃ (d : Dev) (n : Nat) (x : NoticeOut), d.safe.notices = [x] ∧ x.count = n ∧ x.left = 1) :=
  ⟨⟨ready, 1, by decide +kernel⟩,
    ⟨ready, 31, by decide +kernel⟩,
    ⟨ready, 0, by decide +kernel⟩,
    ⟨ready.in888, by decide +kernel⟩,
    ⟨ready.occult (.core 1) 0 false, .core 1, by decide +kernel⟩,
    ⟨ready, .die 1, by decide +kernel⟩,
    ⟨ready.occult (.core 3) 0 false, 3, by decide +kernel⟩,
    ⟨ready.in888.occult .device 0 false, by decide +kernel⟩,
    ⟨{ ready.in888 with safe := { ready.safe with notices := [{ kind := 1, dev := 0, count := 0, left := 2 }] } }.put [(F.XFB_FACE_f_STAT.UP,
    1, 0, 0)], 0, { kind := 1, dev := 0, count := 0, left := 2 }, by decide +kernel⟩,
    ⟨{ ready.in888 with safe := { ready.safe with notices := [{ kind := 1, dev := 0, count := 0, left := 1 }] } }, 0,
    { kind := 1, dev := 0, count := 0, left := 1 }, by decide +kernel⟩⟩

theorem witness_Occultation_11_to_20 :
    (∃ (d : Dev) (n : Nat), (d.safe.notices.all fun x => decide (x.count ≠ n)) = true) ∧
    (∃ (d : Dev) (p : Packet) (c : Instr) (k : Byte) (dev : Nat), ((c, k) ∈ [(Instr.occultationNotice p, (1 : Byte)),
     (Instr.deviceLostNotice p, 3)]) ∧ p.type = PT.notice ∧ p.payload.headD 0 = k ∧ p.src ≠ d.self
     ∧ dev = leNat ((p.payload.drop 8).take 4) % 2 ^ 18 ∧ d.safe.seen.contains (p.src,
     leNat ((p.payload.drop 4).take 4), leNat ((p.payload.drop 2).take 2)) = false ∧ d.reqs = []) ∧
    (∃ (d : Dev) (p : Packet) (dev : Nat), p.type = PT.notice ∧ p.payload.headD 0 = 2 ∧ p.src ≠ d.self
     ∧ dev = leNat ((p.payload.drop 8).take 4) % 2 ^ 18 ∧ d.safe.seen.contains (p.src,
     leNat ((p.payload.drop 4).take 4), leNat ((p.payload.drop 2).take 2)) = false) ∧
    (∃ (d : Dev) (p : Packet) (c : Instr) (k : Byte), ((c, k) ∈ [(Instr.occultationNotice p, (1 : Byte)),
     (Instr.restorationNotice p, 2), (Instr.deviceLostNotice p, 3)]) ∧ (p.type = PT.notice ∧ p.payload.headD 0 = k
     ∧ (p.src = d.self ∨ d.safe.seen.contains (p.src, leNat ((p.payload.drop 4).take 4),
     leNat ((p.payload.drop 2).take 2)) = true))) ∧
    (∃ (d : Dev) (u : Fin 65536) (x : OccUnit), d.accepts ⟨.SAFE_OCCULT_CTRL, 0, 0, 0⟩ = true ∧ d.ctrlUnit u = some x
     ∧ (d.safe.occs.any fun o => decide (o.unit = x)) = false) ∧
    (∃ (d : Dev) (u : Fin 65536) (x : OccUnit), d.accepts ⟨.SAFE_OCCULT_CTRL, 0, 0, 0⟩ = true ∧ d.ctrlUnit u = some x
     ∧ (d.safe.occs.any fun o => decide (o.unit = x) && o.ctrl) = true) ∧
    (∃ (d : Dev) (u : Fin 65536), d.accepts ⟨.SAFE_OCCULT_CTRL, 0, 0, 0⟩ = true ∧ d.ctrlUnit u = none) ∧
    (∃ (d : Dev), d.accepts ⟨.SAFE_OCCULT_CTRL, 0, 0, 0⟩ = true ∧ (d.safe.occs.all fun o => !o.ctrl) = true) ∧
    (∃ (d : Dev) (v : Fin 262144), d.accepts ⟨.SAFE_OCCULT_CTRL, 0, 0, 0⟩ = true ∧ v.val ≠ d.self ∧ d.sdieDown = false
     ∧ d.coordsValid = true ∧ d.reqs = []) ∧
    (∃ (d : Dev) (v : Fin 262144), d.accepts ⟨.SAFE_OCCULT_CTRL, 0, 0, 0⟩ = true ∧ v.val = d.self) :=
  ⟨⟨ready, 0, by decide +kernel⟩,
    ⟨ready.in888,
    { dst := 0, src := 3, type := PT.notice, length := 64, payload := [1, 0, 4, 0, 2, 0, 0, 0] ++ leBytes 4 9 ++ List.replicate 52 0 },
    .occultationNotice ({ dst := 0, src := 3, type := PT.notice, length := 64, payload := [1, 0, 4, 0, 2, 0, 0, 0] ++ leBytes 4 9 ++ List.replicate 52 0 }),
    1, 9, .head _, by decide +kernel⟩,
    ⟨{ ready.in888 with listed := [8, 9] },
    { dst := 0, src := 3, type := PT.notice, length := 64, payload := [2, 0, 4, 0, 2, 0, 0, 0] ++ leBytes 4 9 ++ List.replicate 52 0 },
    9, by decide +kernel⟩,
    ⟨ready.in888,
    { dst := 0, src := 0, type := PT.notice, length := 64, payload := [2, 0, 4, 0, 2, 0, 0, 0] ++ leBytes 4 9 ++ List.replicate 52 0 },
    .restorationNotice ({ dst := 0, src := 0, type := PT.notice, length := 64, payload := [2, 0, 4, 0, 2, 0, 0, 0] ++ leBytes 4 9 ++ List.replicate 52 0 }),
    2, .tail _ (.head _), by decide +kernel⟩,
    ⟨ready, 0, .core 0, by decide +kernel⟩,
    ⟨ready.in888.occult .device 0 true, 1481, .device, by decide +kernel⟩,
    ⟨ready, 1482, by decide +kernel⟩,
    ⟨ready.occult (.core 0) 0 false, by decide +kernel⟩,
    ⟨ready.in888, 9, by decide +kernel⟩,
    ⟨ready.in888, 0, by decide +kernel⟩⟩

/-! ### The hypotheses of HealthAndChecks -/

theorem witness_HealthAndChecks_1_to_12 :
    (∃ (d : Dev) (v : Fin 262144), d.accepts ⟨.SAFE_ACCUSE, 0, 0, 0⟩ = true ∧ v.val ≠ d.self
     ∧ (d.suspects.all fun s => decide (s.dev ≠ v.val)) = true ∧ d.suspects.length < 256) ∧
    (∃ (d : Dev) (v : Fin 262144), d.accepts ⟨.SAFE_ACCUSE, 0, 0, 0⟩ = true ∧ v.val ≠ d.self
     ∧ (d.suspects.any fun s => decide (s.dev = v.val)) = true) ∧
    (∃ (d : Dev) (v : Fin 262144), d.accepts ⟨.SAFE_ACCUSE, 0, 0, 0⟩ = true ∧ v.val = d.self) ∧
    (∃ (d : Dev) (p : Packet) (x : Nat), p.type = PT.notice ∧ noticeKind p = 4
     ∧ x = leNat ((p.payload.drop 8).take 4) % 2 ^ 18 ∧ x ≠ d.self
     ∧ (d.suspects.all fun s => decide (s.dev ≠ x)) = true ∧ d.suspects.length < 256) ∧
    (∃ (d : Dev) (p : Packet) (u n : Nat), p.type = PT.notice ∧ noticeKind p = 4
     ∧ leNat ((p.payload.drop 8).take 4) % 2 ^ 18 = d.self ∧ n = leNat ((p.payload.drop 12).take 4)
     ∧ u = (if leNat ((p.payload.drop 18).take 2) < 2048 then leNat ((p.payload.drop 18).take 2) else 1481)) ∧
    (∃ (d : Dev), (∃ s, d.suspects = [s] ∧ s.dev ≠ d.self) ∧ d.on F.SAFE_CTRL.AGG_EN = true
     ∧ d.gf F.SAFE_CTRL.ANCHOR_INDEX ≠ d.self ∧ d.hasRoute (d.gf F.SAFE_CTRL.ANCHOR_INDEX) = true
     ∧ d.listed.contains (d.gf F.SAFE_CTRL.ANCHOR_INDEX) = false
     ∧ d.rackParent (d.gf F.SAFE_CTRL.ANCHOR_INDEX) ≠ d.self) ∧
    (∃ (d : Dev) (s : Suspect) (w : Nat), d.suspects = [s] ∧ s.dev ≠ d.self ∧ d.on F.SAFE_CTRL.AGG_EN = false
     ∧ d.coordsValid = true ∧ w = d.accuseWindow - 1) ∧
    (∃ (d : Dev) (u : Fin 2048), d.accepts ⟨.SAFE_HEALTH_u, 0, u, 0⟩ = true) ∧
    (∃ (d : Dev) (p : Packet) (c n v : Nat) (x : Mark), p.type = PT.notice ∧ noticeKind p = 7
     ∧ d.on F.SAFE_LS_CTRL.EN = true ∧ p.src = d.gf F.SAFE_LS_CTRL.PARTNER ∧ c = leNat ((p.payload.drop 24).take 1)
     ∧ c < 128 ∧ n = leNat ((p.payload.drop 8).take 8) ∧ v = leNat ((p.payload.drop 16).take 8)
     ∧ (d.core c).marks.find? (fun m => decide (m.number = n)) = some x) ∧
    (∃ (d : Dev) (p : Packet) (c n v : Nat), p.type = PT.notice ∧ noticeKind p = 7 ∧ d.on F.SAFE_LS_CTRL.EN = true
     ∧ p.src = d.gf F.SAFE_LS_CTRL.PARTNER ∧ c = leNat ((p.payload.drop 24).take 1) ∧ c < 128
     ∧ n = leNat ((p.payload.drop 8).take 8) ∧ v = leNat ((p.payload.drop 16).take 8) ∧ (d.core c).marks = []
     ∧ d.gf F.SAFE_CORE_MARK.MARKS c ≤ n ∧ (d.core c).partnerMarks.length < 16) :=
  ⟨⟨ready.in888, 9, by decide +kernel⟩,
    ⟨{ ready.in888 with suspects := [{ dev := 4, accusers := 1, mask := 1, unit := 7 }, { dev := 9, accusers := 1, mask := 1, unit := 7 }] },
    9, by decide +kernel⟩,
    ⟨ready.in888, 0, by decide +kernel⟩,
    ⟨ready.in888,
    { dst := 0, src := 3, type := PT.notice, length := 64, payload := [4, 0, 4, 0, 2, 0, 0, 0] ++ leBytes 4 9 ++ leBytes 4 7 ++ [255, 0] ++ leBytes 2 1479 ++ List.replicate 44 0 },
    9, by decide +kernel⟩,
    ⟨ready.in888,
    { dst := 0, src := 3, type := PT.notice, length := 64, payload := [4, 0, 4, 0, 2, 0, 0, 0] ++ leBytes 4 0 ++ leBytes 4 700 ++ [31, 0] ++ leBytes 2 1479 ++ List.replicate 44 0 },
    1479, 700, by decide +kernel⟩,
    ⟨{ ready.in888.put [(F.SAFE_CTRL.AGG_EN, 1, 0, 0), (F.SAFE_CTRL.ANCHOR_INDEX, 3, 0, 0)] with
        suspects := [{ dev := 4, accusers := 1, mask := 1, unit := 7 }] },
      ⟨{ dev := 4, accusers := 1, mask := 1, unit := 7 }, rfl, by decide +kernel⟩, by decide +kernel⟩,
    ⟨{ ready.in888.put [(F.SAFE_CTRL.AGG_EN, 0, 0, 0)] with suspects := [{ dev := 4, accusers := 1, mask := 1, unit := 7 }] },
    { dev := 4, accusers := 1, mask := 1, unit := 7 },
    ({ ready.in888.put [(F.SAFE_CTRL.AGG_EN, 0, 0, 0)] with suspects := [{ dev := 4, accusers := 1, mask := 1, unit := 7 }] }).accuseWindow - 1,
    by decide +kernel⟩,
    ⟨ready.put [(F.SAFE_HEALTH_u.SCORE, 101, 0, 2047), (F.SAFE_HEALTH_u.LEVEL, 1, 0, 2047),
    (F.SAFE_HEALTH_u.LAST_CODE, 77, 0, 2047)], 2047, by decide +kernel⟩,
    ⟨(ready.in888.put [(F.SAFE_LS_CTRL.EN, 1, 0, 0), (F.SAFE_LS_CTRL.PARTNER, 3, 0,
    0)]).modCore 127 fun k => { k with marks := [{ number := 8, value := 1 }, { number := 9, value := 77 }] },
    { dst := 0, src := 3, type := PT.notice, length := 64, payload := [7, 0, 4, 0, 2, 0, 0, 0] ++ leBytes 8 9 ++ leBytes 8 77 ++ [127] ++ List.replicate 39 0 },
    127, 9, 77, { number := 9, value := 77 }, by decide +kernel⟩,
    ⟨ready.in888.put [(F.SAFE_LS_CTRL.EN, 1, 0, 0), (F.SAFE_LS_CTRL.PARTNER, 3, 0, 0)],
    { dst := 0, src := 3, type := PT.notice, length := 64, payload := [7, 0, 4, 0, 2, 0, 0, 0] ++ leBytes 8 9 ++ leBytes 8 77 ++ [0] ++ List.replicate 39 0 },
    0, 9, 77, by decide +kernel⟩⟩

theorem witness_HealthAndChecks_13_to_23 :
    (∃ (d : Dev) (p : Packet), p.type = PT.notice ∧ noticeKind p = 7
     ∧ (d.on F.SAFE_LS_CTRL.EN = false ∨ p.src ≠ d.gf F.SAFE_LS_CTRL.PARTNER)) ∧
    (∃ (d : Dev) (c : Fin 128) (n : Nat) (x : Mark), (d.core c).marks.find? (fun m => decide (m.number = n)) = some x) ∧
    (∃ (d : Dev) (c : Fin 128), (d.core c).marks = []) ∧
    (∃ (d : Dev) (f : Fin 4) (x : Fin 256), d.accepts ⟨.SAFE_FL_CTRL, 0, 0, 0⟩ = true ∧ d.started = true
     ∧ d.boot.step = .ready ∧ ((List.range 128).all fun c => !bitOf x (c / 16) || d.coreIdle c) = true
     ∧ d.safe.firstLight = none ∧ f.val < 2) ∧
    (∃ (d : Dev) (f : Fin 4) (x : Fin 256), d.accepts ⟨.SAFE_FL_CTRL, 0, 0, 0⟩ = true
     ∧ (((List.range 128).all fun c => !bitOf x (c / 16) || d.coreIdle c) = false ∨ d.safe.firstLight.isSome = true ∨ 2 ≤ f.val)) ∧
    (∃ (d : Dev), d.accepts ⟨.SAFE_PLATE_CTRL, 0, 0, 0⟩ = true) ∧
    (∃ (d : Dev) (a n : Nat), d.accepts ⟨.SAFE_PLATE_CTRL, 0, 0, 0⟩ = true ∧ a = d.gf F.SAFE_PLATE_ADDR.ADDR
     ∧ n = d.gf F.SAFE_PLATE_LEN.LEN ∧ d.on F.SAFE_PLATE_STAT.BUSY = false ∧ n ≠ 0 ∧ d.started = true
     ∧ (d.areaOf a n = some .hbm ∨ d.areaOf a n = some .sram)) ∧
    (∃ (d : Dev), d.accepts ⟨.SAFE_PLATE_CTRL, 0, 0, 0⟩ = true
     ∧ (d.on F.SAFE_PLATE_STAT.BUSY = true ∨ d.gf F.SAFE_PLATE_LEN.LEN = 0)) ∧
    (∃ (d : Dev) (a n : Nat) (c : Bool) (errs : List MemErr) (x : List Byte), d.safe.making = some (a, n, c)
     ∧ x = d.plateRecord (Config.sha384 (d.rangeBytes a n)) a n c ∧ ((0x100000000000 ≤ a
     ∧ d.copyingAt a n = none) ∨ (a < 0x100000000000 ∧ errs = [] ∧ d.hbmFree a n false = true))) ∧
    (∃ (d : Dev) (a n : Nat) (c : Bool) (x : List Byte), d.safe.making = some (a, n, c) ∧ a < 0x100000000000
     ∧ d.behind (a, n) = false ∧ unitsOf a n = [a / 64] ∧ d.dirConflict (a / 64) false = false
     ∧ d.frameBusy (a / 64) = false ∧ d.lineAt (a / 64) = none ∧ d.isPoison (a / 64) = true
     ∧ x = d.plateRecord (Config.freeDigest d.freeIx) a n c) :=
  ⟨⟨ready.in888,
    { dst := 0, src := 3, type := PT.notice, length := 64, payload := [7, 0, 4, 0, 2, 0, 0, 0] ++ leBytes 8 9 ++ leBytes 8 77 ++ [0] ++ List.replicate 39 0 },
    by decide +kernel⟩,
    ⟨ready.modCore 127 fun k => { k with marks := [{ number := 8, value := 1 }, { number := 9, value := 78 }] }, 127,
    9, { number := 9, value := 78 }, by decide +kernel⟩,
    ⟨ready, 127, by decide +kernel⟩,
    ⟨ready, 1, 255, by decide +kernel⟩,
    ⟨ready, 2, 1, by decide +kernel⟩,
    ⟨ready, by decide +kernel⟩,
    ⟨ready.put [(F.SAFE_PLATE_ADDR.ADDR, 0x1000, 0, 0), (F.SAFE_PLATE_LEN.LEN, 64, 0, 0)], 0x1000, 64,
    by decide +kernel⟩,
    ⟨ready, by decide +kernel⟩,
    ⟨{ ready.setHbmByte 0x1000 7 with safe := { ready.safe with making := some (0x1000, 64, true) } }, 0x1000, 64,
    true, [],
    ({ ready.setHbmByte 0x1000 7 with safe := { ready.safe with making := some (0x1000, 64, true) } }).plateRecord (Config.sha384 (({ ready.setHbmByte 0x1000 7 with safe := { ready.safe with making := some (0x1000, 64, true) } }).rangeBytes 0x1000 64)) 0x1000 64 true,
    rfl, rfl, .inr (by decide +kernel)⟩,
    ⟨{ ready with safe := { ready.safe with making := some (0x1000, 64, true) }, mem := { poison := [(64, true)] } },
    0x1000, 64, true,
    ({ ready with safe := { ready.safe with making := some (0x1000, 64, true) }, mem := { poison := [(64, true)] } }).plateRecord (Config.freeDigest ({ ready with safe := { ready.safe with making := some (0x1000, 64, true) }, mem := { poison := [(64, true)] } }).freeIx) 0x1000 64 true,
    rfl, by decide +kernel, by decide +kernel, by decide +kernel, by decide +kernel, by decide +kernel,
    by decide +kernel, by decide +kernel, rfl⟩⟩

theorem witness_HealthAndChecks_24_to_26 :
    (∃ (d : Dev) (a n : Nat) (c : Bool), d.safe.making = some (a, n, c) ∧ a < 0x100000000000 ∧ d.behind (a, n) = true) ∧
    (∃ (d : Dev) (a n : Nat) (c : Bool) (k : Nat), d.safe.making = some (a, n, c) ∧ 0x100000000000 ≤ a
     ∧ d.copyingAt a n = some k) ∧
    (∃ (d : Dev), d.safe.making = none) :=
  ⟨⟨{ ready with safe := { ready.safe with making := some (0x1000, 64, true) }, mem := { held := [.load 0x1020 64 0 0] } },
    0x1000, 64, true, by decide +kernel⟩,
    ⟨{ (ready.setSwap 0 (some { lcore := 1, empty := false, phase := .copying })) with safe := { ready.safe with making := some (0x100000800000, 64, true) } },
    0x100000800000, 64, true, 1, by decide +kernel⟩,
    ⟨ready, by decide +kernel⟩⟩

/-! ### The hypotheses of InputPowerAndFirmwareComplete -/

theorem witness_InputPowerAndFirmwareComplete_2_to_12 :
    (∃ (d : Dev), d.power.mated = true) ∧
    (∃ (d : Dev), d.power.closed = true ∧ d.power.aux = false) ∧
    (∃ (d : Dev), d.power.aux = true) ∧
    (∃ (d : Dev), d.boot.step = .delay ∧ d.boot.coldNext = false ∧ d.power.path = none ∧ d.power.failed < 4) ∧
    (∃ (d : Dev), d.runs = true ∧ d.power.path = none) ∧
    (∃ (d : Dev), d.power.hold = true ∧ d.boot.step ≠ .hold ∧ d.power.rise = false) ∧
    (∃ (d : Dev), d.power.aux = true ∧ d.runs = false) ∧
    (∃ (d : Dev), d.power.low = true ∧ d.gf F.PWR_INPUT.VIN < 4800 ∧ d.runs = true ∧ d.power.path = none) ∧
    (∃ (d : Dev), d.power.low = true ∧ 4850 ≤ d.gf F.PWR_INPUT.VIN) ∧
    (∃ (d : Dev), d.accepts ⟨.BOOT_CTRL, 0, 0, 0⟩ = true ∧ d.power.stageOne = true ∧ d.power.path = none
     ∧ (d.boot.step = .ready ∨ d.boot.step = .failed)) :=
  ⟨⟨{ power := { mated := true } }, by decide +kernel⟩,
    ⟨{ power := { mated := true, closed := true } }, by decide +kernel⟩,
    ⟨ready.setHbmByte 7 7, by decide +kernel⟩,
    ⟨{ power := { mated := true, closed := true, aux := true, failed := 1 }, boot := { step := .delay } },
    by decide +kernel⟩,
    ⟨ready, by decide +kernel⟩,
    ⟨{ power := { mated := true, closed := true, aux := true, hold := true }, boot := { step := .off } },
    by decide +kernel⟩,
    ⟨{ power := { mated := true, closed := true, aux := true }, boot := { step := .off } }, by decide +kernel⟩,
    ⟨{ ready with power := { ready.power with low := true } }.put [(F.PWR_INPUT.VIN, 4799, 0, 0)], by decide +kernel⟩,
    ⟨{ ready with power := { ready.power with low := true, failed := 3 } }.put [(F.PWR_INPUT.VIN, 4850, 0, 0),
    (F.PWR_CTRL.CAP_W, 3000, 0, 0)], by decide +kernel⟩,
    ⟨ready, by decide +kernel⟩⟩

theorem witness_InputPowerAndFirmwareComplete_13_to_23 :
    (∃ (d : Dev), d.accepts ⟨.BOOT_CTRL, 0, 0, 0⟩ = true ∧ d.boot.step = .ready ∧ d.boot.warmRecord = true) ∧
    (∃ (d : Dev), d.power.path = some .clocks) ∧
    (∃ (d : Dev), d.power.path = some .rails) ∧
    (∃ (d : Dev), d.power.path = some .journal) ∧
    (∃ (d : Dev), d.boot.step = .quiesce ∧ d.mem.mapout = none ∧ d.writeWaits = false ∧ d.boot.coldNext = false
     ∧ d.mem.lines = [] ∧ d.on F.LOG_CTRL.HBM_EN = false) ∧
    (∃ (d : Dev), d.boot.step = .rails ∧ d.power.stageOne = true ∧ d.power.path = none ∧ d.boot.coldNext = false
     ∧ d.power.aux = true) ∧
    (∃ (d : Dev), d.boot.step = .rom ∧ d.boot.coldNext = false) ∧
    (∃ (d : Dev), d.power.stageOne = true ∧ d.power.failed < 5) ∧
    (∃ (d : Dev) (k : Fin 32), d.accepts ⟨.BOOT_DIE_RESET, 0, 0, 0⟩ = true ∧ d.boot.step = .ready ∧ k.val < 19
     ∧ k.val ≠ 12 ∧ d.boot.resetting = none ∧ ∀ x ∈ d.safe.occs, ∀ y, x.unit = .die y → y.val ≠ k.val) ∧
    (∃ (d : Dev) (k : Nat), d.boot.resetting = some k ∧ k < 8 ∧ d.boot.almanac = none ∧ ∀ n,
     n < 31 → k ∈ linkDies n → d.linkState n ≠ 1 ∧ d.linkState n ≠ 2) :=
  ⟨⟨{ ready with boot := { step := .ready, warmRecord := true } }, by decide +kernel⟩,
    ⟨{ ready with power := { ready.power with path := some .clocks } }, by decide +kernel⟩,
    ⟨{ ready.setHbmByte 7 7 with power := { ready.power with path := some .rails } }, by decide +kernel⟩,
    ⟨{ ready.setHbmByte 7 7 with power := { ready.power with path := some .journal, toOff := true } },
    by decide +kernel⟩,
    ⟨{ (ready.setHbmByte 7 7).modEngine 0 1 fun g => { g with slots := [(3, { poison := true })] } with boot := { step := .quiesce, kind := .warm, warmRecord := true } },
    by decide +kernel⟩,
    ⟨{ ready with boot := { step := .rails } }, by decide +kernel⟩,
    ⟨{ ready with boot := { step := .rom, delayRan := true } }, by decide +kernel⟩,
    ⟨ready, by decide +kernel⟩,
    ⟨ready, 0, by decide +kernel⟩,
    ⟨{ (ready.setHbmByte 7 7).modCore 0 fun k => { k with faulted := true } with boot := { step := .ready, resetting := some 0 } },
    0, by decide +kernel⟩⟩

theorem witness_InputPowerAndFirmwareComplete_24_to_33 :
    (∃ (d : Dev), d.accepts ⟨.BOOT_WATCHDOG, 0, 0, 0⟩ = true) ∧
    (∃ (d : Dev), d.accepts ⟨.BOOT_WATCHDOG, 0, 0, 0⟩ = true) ∧
    (∃ (d : Dev), d.started = true ∧ d.boot.step = .ready ∧ d.boot.handover = none
     ∧ (d.sec.mcores.any fun m => m.2.halted) = false
     ∧ d.boot.kickAt + 1000000 * d.gf F.BOOT_WATCHDOG.PERIOD_MS ≤ d.chrono ∧ d.boot.warmRecord = true) ∧
    (∃ (d : Dev) (x : FwImage), d.accepts ⟨.BOOT_FW_CTRL, 0, 0, 0⟩ = true ∧ d.power.flashOpen = true
     ∧ d.imageFault (some x) = none) ∧
    (∃ (d : Dev), d.accepts ⟨.BOOT_FW_CTRL, 0, 0, 0⟩ = true ∧ (d.slotState d.runningB).1 = 1 ∧ d.boot.image ≠ none) ∧
    (∃ (d : Dev), d.accepts ⟨.BOOT_FW_CTRL, 0, 0, 0⟩ = true ∧ d.started = true ∧ d.boot.step = .ready
     ∧ d.eph.activeB ≠ d.runningB ∧ (d.slotState d.eph.activeB).1 = 1 ∧ d.boot.handover = none) ∧
    (∃ (d : Dev) (x r : FwImage), d.boot.handover = some .verify ∧ d.boot.staged = some x ∧ d.boot.image = some r
     ∧ d.imageFault (some x) = none ∧ x.hoMin ≤ r.hoFormat ∧ r.hoFormat ≤ x.hoMax) ∧
    (∃ (d : Dev), d.boot.handover = some .park) ∧
    (∃ (d : Dev), d.boot.handover = some .load ∧ (d.slotState d.eph.activeB).1 = 1) ∧
    (∃ (d : Dev), d.accepts ⟨.BOOT_FW_CTRL, 0, 0, 0⟩ = true ∧ d.boot.handover = some .resume) :=
  ⟨⟨ready, by decide +kernel⟩,
    ⟨{ ready with chrono := 55 }, by decide +kernel⟩,
    ⟨{ ready with chrono := 100000000000, boot := { step := .ready, warmRecord := true } }, by decide +kernel⟩,
    ⟨{ ready.trust records with power := { ready.power with flashOpen := true } }, image, by decide +kernel, rfl,
    image_ok _ rfl rfl _ rfl (by decide +kernel)⟩,
    ⟨{ ready.trust records with boot := { step := .ready, image := some { image with floorOffset := 0x1000, floor := some floorRec } }, eph := { (ready.trust records).eph with stateA := 1, triesA := 2 }, power := { ready.power with flashOpen := true } },
    by decide +kernel, by decide +kernel, nofun⟩,
    ⟨{ ready with eph := { ready.eph with activeB := true, stateB := 1, triesB := 2 } }, by decide +kernel⟩,
    ⟨{ ready.trust records with boot := { step := .ready, handover := some .verify, staged := some image, image := some { image with hoFormat := 3 } } },
    image, { image with hoFormat := 3 }, rfl, rfl, rfl, image_ok _ rfl rfl _ rfl (by decide +kernel),
    by decide +kernel⟩,
    ⟨{ ready with boot := { step := .ready, handover := some .park } }, by decide +kernel⟩,
    ⟨{ ready with boot := { step := .ready, handover := some .load }, eph := { ready.eph with activeB := true, stateB := 1, triesB := 2 } },
    by decide +kernel⟩,
    ⟨{ ready with chrono := 6, boot := { step := .ready, handover := some .resume, staged := some image }, eph := { ready.eph with activeB := true, stateB := 1, triesB := 2 } },
    by decide +kernel⟩⟩

theorem witness_InputPowerAndFirmwareComplete_34_to_44 :
    (∃ (d : Dev), d.boot.handover = some .resume) ∧
    (∃ (d : Dev) (r : PendRec) (rest : List PendRec), d.power.flashOpen = true ∧ d.eph.pending = r :: rest
     ∧ d.activeArea.length < 229375) ∧
    (∃ (d : Dev), d.accepts ⟨.EPH_CTRL, 0, 0, 0⟩ = true ∧ d.power.flashOpen = true) ∧
    (∃ (d : Dev), d.accepts ⟨.EPH_CTRL, 0, 0, 0⟩ = true ∧ d.power.flashOpen = true) ∧
    (∃ (d : Dev) (w : Nat), d.gf F.PWR_STAT.CAP_IN_FORCE_W < w) ∧
    (∃ (d : Dev), d.accepts ⟨.PWR_CTRL, 0, 0, 0⟩ = true) ∧
    (∃ (d : Dev), d.accepts ⟨.PWR_CTRL, 0, 0, 0⟩ = true ∧ d.gf F.PWR_CTRL.TARGET ≠ 0 ∧ d.gf F.PWR_STAT.STATE = 2) ∧
    (∃ (d : Dev), d.accepts ⟨.PWR_CTRL, 0, 0, 0⟩ = true ∧ d.gf F.PWR_CTRL.TARGET = 0 ∧ d.mayPark = true) ∧
    (∃ (d : Dev), d.accepts ⟨.PWR_CTRL, 0, 0, 0⟩ = true ∧ d.gf F.PWR_CTRL.TARGET = 0 ∧ d.mayPark = true) ∧
    (∃ (d : Dev) (n : Fin 32), d.islandOn n = true ∧ d.clusterIdle n = true) :=
  ⟨⟨{ ready with chrono := 6, boot := { step := .ready, handover := some .resume, staged := some image }, eph := { ready.eph with activeB := true, stateB := 1, triesB := 2 } },
    by decide +kernel⟩,
    ⟨{ ready with eph := { ready.eph with pending := [{ key := ⟨.XFB_RATE_CTRL, 0, 0, 0⟩, kind := 1, value := 7 }] }, power := { ready.power with flashOpen := true } },
    { key := ⟨.XFB_RATE_CTRL, 0, 0, 0⟩, kind := 1, value := 7 }, [], by decide +kernel⟩,
    ⟨{ ready.put [(F.EPH_ERR_CNT.BEHIND_CNT, 1, 0, 0)] with eph := { ready.eph with pending := [{ key := ⟨.XFB_RATE_CTRL, 0, 0, 0⟩, kind := 1, value := 7 }] }, power := { ready.power with flashOpen := true } },
    by decide +kernel⟩,
    ⟨{ ready with eph := { ready.eph with pending := [{ key := ⟨.XFB_RATE_CTRL, 0, 0, 0⟩, kind := 1, value := 7 }, { key := ⟨.XFB_RATE_CTRL, 0, 0, 0⟩, kind := 1, value := 7 }] }, power := { ready.power with flashOpen := true } },
    by decide +kernel⟩,
    ⟨ready.put [(F.PWR_STAT.CAP_IN_FORCE_W, 2999, 0, 0)], 3000, by decide +kernel⟩,
    ⟨ready, by decide +kernel⟩,
    ⟨ready.put [(F.PWR_CTRL.TARGET, 2, 0, 0), (F.PWR_STAT.STATE, 2, 0, 0)], by decide +kernel⟩,
    ⟨ready, by decide +kernel⟩,
    ⟨ready, by decide +kernel⟩,
    ⟨ready, 0, by decide +kernel⟩⟩

theorem witness_InputPowerAndFirmwareComplete_45_to_53 :
    (∃ (d : Dev) (n : Fin 32), d.islandOn n = true ∧ d.on F.CLK_ISLAND_n_STAT.GATED 0 n = true) ∧
    (∃ (d : Dev) (n : Fin 44) (r : Ramp), (d.isl n).ramp = some r ∧ r.k < 15) ∧
    (∃ (d : Dev) (n : Fin 44), (d.isl n).rising = true) ∧
    (∃ (d : Dev) (n : Fin 44), d.on F.CLK_ISLAND_n_STAT.POWERED 0 n = true) ∧
    (∃ (d : Dev) (n : Fin 44), (d.isl n).tripped = true) ∧
    (∃ (d : Dev) (n : Fin 44), (d.isl n).tripped = false ∧ (d.isl n).droopLimit < 7) ∧
    (∃ (d : Dev) (n : Fin 44), d.accepts ⟨.CLK_ISLAND_n_CTRL, 0, n, 0⟩ = true) ∧
    (∃ (d : Dev) (n : Fin 44), d.accepts ⟨.CLK_ISLAND_n_CTRL, 0, n, 0⟩ = true ∧ d.on F.CLK_ISLAND_n_CTRL.EN 0 n = true) :=
  ⟨⟨ready.put [(F.CLK_ISLAND_n_STAT.GATED, 1, 0, 0)], 0, by decide +kernel⟩,
    ⟨ready.modIsl 43 fun x => { x with ramp := some { a := (4, 3), b := (1, 1), k := 14 } }, 43,
    { a := (4, 3), b := (1, 1), k := 14 }, by decide +kernel⟩,
    ⟨ready.modIsl 0 fun x => { x with rising := true }, 0, by decide +kernel⟩,
    ⟨ready.put [(F.CLK_ISLAND_n_STAT.DROOP_CNT, 65535, 0, 43)], 43, by decide +kernel⟩,
    ⟨ready.modIsl 43 fun x => { x with tripped := true }, 43, by decide +kernel⟩,
    ⟨ready.modIsl 0 fun x => { x with droopLimit := 4 }, 0, by decide +kernel⟩,
    ⟨ready, 0, by decide +kernel⟩,
    ⟨ready, 43, by decide +kernel⟩⟩

end Sys2Proof.Tests
end

/-! PROOFS. O3, O5 and O6: every step keeps the canonical forms of the memories and of the register file.

`FormsKept s d` says that the device `d` is in canonical form wherever the device `s` was. Every function of the model that a
step goes through keeps it, and each has one lemma here, under the name of the function, in the order of the model. A proof
follows the definition: a chain of updates is a chain of lemmas (`h.sf.raise`), and a case of the definition is a case of
the proof. Only the lemmas of the primitive updates (`setReg`, `setCoreByte`, `looseCore`, …) speak of the forms themselves.

Where the kernel would evaluate a discriminant to see that an unfolded definition is the definition, the proof goes through an
equation `e` of the function itself instead of `unfold`. -/

section
namespace Sys2Proof.Machine

open Sys2Proof

/-! ### The canonical form of a store -/

theorem storeDflt_cons_of_outside (u : List (Nat × Nat × Nat)) (a n k b : Nat) (h : b < a ∨ a + n ≤ b) :
    Dev.storeDflt ((a, n, k) :: u) b = Dev.storeDflt u b := by
  have hb : ¬ (a ≤ b ∧ b < a + n) := by omega
  simp [Dev.storeDflt, hb]

theorem storeWf_set {u : List (Nat × Nat × Nat)} {m : NMap Byte} (h : storeWf u m = true) (a : Nat) (b : Byte) :
    storeWf u (NMap.set (Dev.storeDflt u a) m a b) = true :=
  FMap.wf_set natLt (Dev.storeDflt u) a b natLt_trans natLt_total h

/-- What is left of a store outside a range is canonical, whatever the unlisted bytes of the range read as from now on. -/
theorem storeWf_outside {u u' : List (Nat × Nat × Nat)} {m : NMap Byte} (h : storeWf u m = true) (a n : Nat)
    (hu : ∀ b, b < a ∨ a + n ≤ b → Dev.storeDflt u' b = Dev.storeDflt u b) :
    storeWf u' (m.filter fun e => decide (e.1 < a) || decide (a + n ≤ e.1)) = true := by
  refine FMap.wf_congr natLt _ _ (FMap.wf_filter natLt _ _ h) fun e he => hu e.1 ?_
  simpa using (List.mem_filter.mp he).2

theorem storeWf_loose {u : List (Nat × Nat × Nat)} {m : NMap Byte} (h : storeWf u m = true) (a n k : Nat) :
    storeWf ((a, n, k) :: u) (m.filter fun e => decide (e.1 < a) || decide (a + n ≤ e.1)) = true :=
  storeWf_outside h a n (storeDflt_cons_of_outside u a n k)

theorem storeWf_clearRange {u : List (Nat × Nat × Nat)} {m : NMap Byte} (h : storeWf u m = true) (a n : Nat) :
    storeWf (Dev.clearRange u a n) (m.filter fun e => decide (e.1 < a) || decide (a + n ≤ e.1)) = true := by
  refine storeWf_outside h a n fun b hb => ?_
  unfold Dev.clearRange
  split
  next he => rw [List.isEmpty_iff.mp he]
  · exact storeDflt_cons_of_outside u a n 0 b hb

/-! ### The canonical form of the register file -/

/-- The register file is in canonical form. -/
abbrev regFileWf (m : FMap RegKey Word) : Prop := FMap.wf RegKey.lt RegKey.reset m = true

theorem regFileWf_set {m : FMap RegKey Word} (h : regFileWf m) (k : RegKey) (v : Word) :
    regFileWf (FMap.set RegKey.lt k.reset m k v) :=
  FMap.wf_set RegKey.lt RegKey.reset k v RegKey.lt_trans RegKey.lt_total h

theorem regFileWf_foldl_set {m : FMap RegKey Word} (h : regFileWf m) (l : List (RegKey × Word)) :
    regFileWf (l.foldl (fun m e => FMap.set RegKey.lt e.1.reset m e.1 e.2) m) := by
  induction l generalizing m with
  | nil => exact h
  | cons e l ih => exact ih (regFileWf_set h e.1 e.2)

/-- Every register rewritten, and one that then holds its reset value no longer listed. -/
theorem regFileWf_rewrite {m : FMap RegKey Word} (h : regFileWf m) (f : RegKey × Word → Word) :
    regFileWf (m.filterMap fun e => if f e = e.1.reset then none else some (e.1, f e)) := by
  refine FMap.wf_filterMap RegKey.lt RegKey.reset _ (fun e e' he => ?_) h
  split at he
  · cases he
  · cases he; exact ⟨rfl, fun _ => ‹_›⟩

/-- The canonical forms that the device `s` has, the device `d` has as well. -/
structure FormsKept (s d : Dev) : Prop where
  memory : s.memoryWf → d.memoryWf
  regs : s.regsWf → d.regsWf

namespace FormsKept

variable {s d : Dev}

theorem refl (d : Dev) : FormsKept d d := ⟨id, id⟩

/-! ### The shapes of an update -/

theorem ite {c : Prop} [Decidable c] {a b : Dev} (ha : FormsKept s a) (hb : FormsKept s b) :
    FormsKept s (if c then a else b) := by
  split
  · exact ha
  · exact hb

theorem iteFst {α : Type} {c : Prop} [Decidable c] {a b : Dev × α} (ha : FormsKept s a.1) (hb : FormsKept s b.1) :
    FormsKept s (if c then a else b).1 := by
  split
  · exact ha
  · exact hb

theorem iteSnd {α : Type} {c : Prop} [Decidable c] {a b : α × Dev} (ha : FormsKept s a.2) (hb : FormsKept s b.2) :
    FormsKept s (if c then a else b).2 := by
  split
  · exact ha
  · exact hb

theorem iteSndSnd {α β : Type} {c : Prop} [Decidable c] {a b : α × β × Dev} (ha : FormsKept s a.2.2) (hb : FormsKept s b.2.2) :
    FormsKept s (if c then a else b).2.2 := by
  split
  · exact ha
  · exact hb

theorem foldl {α : Type} {f : Dev → α → Dev} {l : List α} (h : FormsKept s d)
    (hf : ∀ d x, FormsKept s d → FormsKept s (f d x)) : FormsKept s (l.foldl f d) := by
  induction l generalizing d with
  | nil => exact h
  | cons x l ih => exact ih (hf _ _ h)

theorem foldlFst {α β : Type} {f : Dev × β → α → Dev × β} {l : List α} {p : Dev × β} (h : FormsKept s p.1)
    (hf : ∀ p x, FormsKept s p.1 → FormsKept s (f p x).1) : FormsKept s (l.foldl f p).1 := by
  induction l generalizing p with
  | nil => exact h
  | cons x l ih => exact ih (hf _ _ h)

theorem foldlSnd {α β : Type} {f : β × Dev → α → β × Dev} {l : List α} {p : β × Dev} (h : FormsKept s p.2)
    (hf : ∀ p x, FormsKept s p.2 → FormsKept s (f p x).2) : FormsKept s (l.foldl f p).2 := by
  induction l generalizing p with
  | nil => exact h
  | cons x l ih => exact ih (hf _ _ h)

theorem fst {α : Type} {p : Dev × α} {e : Dev} {x : α} (hp : p = (e, x)) (h : FormsKept s p.1) : FormsKept s e := by
  subst hp; exact h

theorem snd {α : Type} {p : α × Dev} {e : Dev} {x : α} (hp : p = (x, e)) (h : FormsKept s p.2) : FormsKept s e := by
  subst hp; exact h

theorem sndSnd {α β : Type} {p : α × β × Dev} {e : Dev} {x : α} {y : β} (hp : p = (x, y, e)) (h : FormsKept s p.2.2) :
    FormsKept s e := by
  subst hp; exact h

/-- A change of everything but the register file and the memories. -/
theorem other (h : FormsKept s d) {chrono freeIx answer log cores engines swaps injected inside held rates listed suspects reqs
    dseqs nextMsg collq colls power boot eph occulted mem gas fab ports time dlk hlk int sec rootKeyId mgmt safe} :
    FormsKept s { regs := d.regs, unspecCore := d.unspecCore, unspecCluster := d.unspecCluster, unspecImem := d.unspecImem
                  coreStore := d.coreStore, clusterStore := d.clusterStore, imem := d.imem, hbm := d.hbm
                  chrono, freeIx, answer, log, cores, engines, swaps, injected, inside, held, rates, listed, suspects
                  reqs, dseqs, nextMsg, collq, colls, power, boot, eph, occulted, mem, gas, fab, ports, time, dlk, hlk
                  int, sec, rootKeyId, mgmt, safe } :=
  ⟨fun w => h.memory w, fun w => h.regs w⟩

/-- A change of the register file that keeps its form, and of what is no memory. -/
theorem withRegs (h : FormsKept s d) {regs : FMap RegKey Word}
    (hr : regFileWf d.regs → regFileWf regs)
    {chrono freeIx answer log cores engines swaps injected inside held rates listed suspects reqs
    dseqs nextMsg collq colls power boot eph occulted mem gas fab ports time dlk hlk int sec rootKeyId mgmt safe} :
    FormsKept s { unspecCore := d.unspecCore, unspecCluster := d.unspecCluster, unspecImem := d.unspecImem
                  coreStore := d.coreStore, clusterStore := d.clusterStore, imem := d.imem, hbm := d.hbm
                  regs, chrono, freeIx, answer, log, cores, engines, swaps, injected, inside, held, rates, listed, suspects
                  reqs, dseqs, nextMsg, collq, colls, power, boot, eph, occulted, mem, gas, fab, ports, time, dlk, hlk
                  int, sec, rootKeyId, mgmt, safe } :=
  ⟨fun w => h.memory w, fun w => hr (h.regs w)⟩

/-- HBM loses its contents, and what is no memory and no register changes. -/
theorem hbmNone (h : FormsKept s d) {chrono freeIx answer log cores engines swaps injected inside held rates listed suspects reqs
    dseqs nextMsg collq colls power boot eph occulted mem gas fab ports time dlk hlk int sec rootKeyId mgmt safe} :
    FormsKept s { regs := d.regs, unspecCore := d.unspecCore, unspecCluster := d.unspecCluster, unspecImem := d.unspecImem
                  coreStore := d.coreStore, clusterStore := d.clusterStore, imem := d.imem, hbm := []
                  chrono, freeIx, answer, log, cores, engines, swaps, injected, inside, held, rates, listed, suspects
                  reqs, dseqs, nextMsg, collq, colls, power, boot, eph, occulted, mem, gas, fab, ports, time, dlk, hlk
                  int, sec, rootKeyId, mgmt, safe } :=
  ⟨fun w => have ⟨core, cluster, imem, _⟩ := h.memory w; ⟨core, cluster, imem, rfl⟩, fun w => h.regs w⟩

/-! ### `Sys2Proof/Machine/Ops` -/

theorem setReg (h : FormsKept s d) {k : RegKey} {v : Word} : FormsKept s (d.setReg k v) :=
  h.withRegs fun w => regFileWf_set w k v

theorem sf (h : FormsKept s d) {f : Fld} {v u i j : Nat} : FormsKept s (d.sf f v u i j) := h.setReg

theorem incr (h : FormsKept s d) {f : Fld} {n u i j : Nat} : FormsKept s (d.incr f n u i j) := h.sf

theorem bump (h : FormsKept s d) {f sat : Fld} {n u i j : Nat} : FormsKept s (d.bump f sat n u i j) := by
  unfold Dev.bump
  exact .ite h.sf.sf h.sf

theorem draw (h : FormsKept s d) : FormsKept s (d.draw) := h.other

theorem raise (h : FormsKept s d) {n : Nat} : FormsKept s (d.raise n) := h.setReg

theorem logIntake (h : FormsKept s d) {r : Report} : FormsKept s (d.logIntake r) := by
  unfold Dev.logIntake
  exact .ite h.other.bump h.other

theorem report (h : FormsKept s d) {r : Report} : FormsKept s (d.report r) := by
  unfold Dev.report
  extract_lets d₁ _ _ _
  have h₁ : FormsKept s d₁ := .ite h.sf h
  split
  · exact .ite h₁.logIntake h₁.other
  · exact .ite h₁.logIntake h₁.logIntake.other

theorem logAt (h : FormsKept s d) {code die unit d0 d1 : Nat} : FormsKept s (d.logAt code die unit d0 d1) := h.report

theorem logXfb (h : FormsKept s d) {code face slot dev cnt : Nat} : FormsKept s (d.logXfb code face slot dev cnt) := h.logAt

theorem logBoot (h : FormsKept s d) {code d0 d1 : Nat} : FormsKept s (d.logBoot code d0 d1) := h.sf.logAt

theorem logCore (h : FormsKept s d) {code c pc thread queue seq : Nat} :
    FormsKept s (d.logCore code c pc thread queue seq) := h.logAt

theorem logEngine (h : FormsKept s d) {code c e q pc thread seq : Nat} :
    FormsKept s (d.logEngine code c e q pc thread seq) := h.logAt

theorem score (h : FormsKept s d) {unit weight code : Nat} : FormsKept s (d.score unit weight code) := by
  unfold Dev.score
  extract_lets _ _ d₂ _
  have h₂ : FormsKept s d₂ := .ite h.sf h.sf.sf
  exact .ite h₂.sf.logAt.raise (.ite h₂.sf.logAt.raise h₂)

theorem storeSetting (h : FormsKept s d) {k : RegKey} : FormsKept s (d.storeSetting k) := by
  unfold Dev.storeSetting
  exact .ite h.bump.logBoot h.other

theorem keepSetting (h : FormsKept s d) {before : Dev} {k : RegKey} : FormsKept s (before.keepSetting d k) := by
  unfold Dev.keepSetting
  exact .ite h.storeSetting h

theorem send (h : FormsKept s d) {p : Packet} : FormsKept s (d.send p) := by
  unfold Dev.send
  exact .ite h.other (.ite h.other h.other)

theorem setCoreByte (h : FormsKept s d) {a : Nat} {b : Byte} : FormsKept s (d.setCoreByte a b) :=
  ⟨fun w => have ⟨core, rest⟩ := h.memory w; ⟨storeWf_set core a b, rest⟩, fun w => h.regs w⟩

theorem setClusterByte (h : FormsKept s d) {a : Nat} {b : Byte} : FormsKept s (d.setClusterByte a b) :=
  ⟨fun w => have ⟨core, cluster, rest⟩ := h.memory w; ⟨core, storeWf_set cluster a b, rest⟩, fun w => h.regs w⟩

theorem looseCore (h : FormsKept s d) {a n : Nat} : FormsKept s (d.looseCore a n) :=
  ⟨fun w => have ⟨core, rest⟩ := h.memory w; ⟨storeWf_loose core a n d.freeIx, rest⟩, fun w => h.regs w⟩

theorem looseCluster (h : FormsKept s d) {a n : Nat} : FormsKept s (d.looseCluster a n) :=
  ⟨fun w => have ⟨core, cluster, rest⟩ := h.memory w; ⟨core, storeWf_loose cluster a n d.freeIx, rest⟩, fun w => h.regs w⟩

theorem wrByte (h : FormsKept s d) {c a : Nat} {b : Byte} : FormsKept s (d.wrByte c a b) := by
  unfold Dev.wrByte
  split
  · exact h.setCoreByte
  · split
    · exact ⟨fun w => have ⟨core, cluster, imem, hbm⟩ := h.memory w; ⟨core, cluster, storeWf_set imem _ b, hbm⟩, fun w => h.regs w⟩
    · exact h.setClusterByte

theorem wrStore (h : FormsKept s d) {c a : Nat} {bs : List Byte} : FormsKept s (d.wrStore c a bs) := by
  induction bs generalizing d a with
  | nil => exact h
  | cons b bs ih => exact ih h.wrByte

theorem setCore (h : FormsKept s d) {c : Nat} {x : Core} : FormsKept s (d.setCore c x) := h.other

theorem modCore (h : FormsKept s d) {c : Nat} {f : Core → Core} : FormsKept s (d.modCore c f) := h.setCore

theorem setEngine (h : FormsKept s d) {c e : Nat} {x : Engine} : FormsKept s (d.setEngine c e x) := h.other

theorem modEngine (h : FormsKept s d) {c e : Nat} {f : Engine → Engine} : FormsKept s (d.modEngine c e f) := h.setEngine

theorem setThread (h : FormsKept s d) {c t : Nat} {x : Thread} : FormsKept s (d.setThread c t x) := h.modCore

theorem modThread (h : FormsKept s d) {c t : Nat} {f : Thread → Thread} : FormsKept s (d.modThread c t f) := h.setThread

theorem setQueue (h : FormsKept s d) {c q : Nat} {l : List Entry} : FormsKept s (d.setQueue c q l) := h.modCore

theorem modEntry (h : FormsKept s d) {c q seq : Nat} {f : Entry → Entry} : FormsKept s (d.modEntry c q seq f) := h.setQueue

theorem setPc (h : FormsKept s d) {c t v : Nat} : FormsKept s (d.setPc c t v) := h.sf

theorem setTreg (h : FormsKept s d) {c t m v : Nat} : FormsKept s (d.setTreg c t m v) := by
  unfold Dev.setTreg
  exact .ite h h.sf

theorem hold (h : FormsKept s d) {c : Nat} {x : Held} : FormsKept s (d.hold c x) := by
  unfold Dev.hold
  split
  · exact h.other
  · exact h

theorem faultQueue (h : FormsKept s d) {c q : Nat} {faulting : Option Nat} : FormsKept s (d.faultQueue c q faulting) := by
  unfold Dev.faultQueue
  extract_lets _ _ _ _ d₂
  have h₂ : FormsKept s d₂ := .ite h.setQueue h.setQueue.sf
  split
  · split
    · exact h₂.sf.sf
    · exact h₂.sf.sf
  · exact h₂

theorem coreFault (h : FormsKept s d) {c : Nat} {f : Dev.FaultInfo} : FormsKept s (d.coreFault c f) := by
  unfold Dev.coreFault
  extract_lets _ _ _ _ d₅ d₆ _ _ _ _ _ _ _ _ d₁₅ _ _ d₁₈
  have h₅ : FormsKept s d₅ := by
    unfold d₅
    split
    · exact h.logCore.modCore.modCore.modThread
    · exact h.logCore.modCore.modCore
  have h₆ : FormsKept s d₆ := .foldl h₅ fun _ _ h => h.faultQueue
  have h₁₅ : FormsKept s d₁₅ := h₆.setReg.sf.sf.sf.sf.sf.sf.sf.sf
  have h₁₈ : FormsKept s d₁₈ := .foldl h₁₅.sf.sf fun _ _ h => h.sf
  exact .ite (.ite h.logCore.sf.modEntry h.logCore.sf) h₁₈.raise

theorem markLost (h : FormsKept s d) {c n : Nat} : FormsKept s (d.markLost c n) := h.logAt.sf.sf.other.raise

theorem compareMarks (h : FormsKept s d) {c n own other : Nat} : FormsKept s (d.compareMarks c n own other) := by
  unfold Dev.compareMarks
  exact .ite h.sf h.logAt.score.sf.sf.other.raise

theorem takeMark (h : FormsKept s d) {c : Nat} : FormsKept s (d.takeMark c) := by
  have e : @Dev.takeMark = @Dev.takeMark := rfl
  conv at e => rhs; delta Dev.takeMark
  rw [e]
  beta_reduce
  extract_lets -underBinder _ _ _ _ d₁
  have h₁ : FormsKept s d₁ := h.sf.sf.modCore.send
  clear_value d₁
  split
  · exact h₁.modCore.compareMarks
  · exact .ite h₁.modCore.markLost h₁.modCore

theorem applyUpdate (h : FormsKept s d) {c n : Nat} {a : Int} : FormsKept s (d.applyUpdate c n a) := by
  unfold Dev.applyUpdate
  exact .ite h.sf.incr.takeMark h.sf.incr

theorem refuseUpdate (h : FormsKept s d) {c n kind source code : Nat} {sig : Option (Nat × Nat × Nat)} :
    FormsKept s (d.refuseUpdate c n kind source code sig) := by
  unfold Dev.refuseUpdate
  extract_lets _ _ _ _ _ _
  split
  · exact h.logAt.setReg.sf.sf.sf.sf.coreFault
  · exact h.logAt.setReg.sf.sf.sf.sf.coreFault

theorem update (h : FormsKept s d) {c n : Nat} {a : Int} {kind source : Nat} {sig : Option (Nat × Nat × Nat)} :
    FormsKept s (d.update c n a kind source sig) := by
  unfold Dev.update
  split
  · exact h.hold
  · split
    · exact h.applyUpdate
    · exact h.refuseUpdate
    · exact h.refuseUpdate

theorem setCounter (h : FormsKept s d) {c n v : Nat} : FormsKept s (d.setCounter c n v) := by
  unfold Dev.setCounter
  exact .ite h.hold h.sf.sf

/-! ### `Sys2Proof/Machine/Numeric` -/

theorem numRecord (h : FormsKept s d) {w : Dev.NumAt} {cnt sat : Fld} {code n index : Nat} :
    FormsKept s (d.numRecord w cnt sat code n index) := h.bump.setReg.sf.sf.sf.sf.sf

theorem numExc (h : FormsKept s d) {w : Dev.NumAt} {e : NumExc} {index : Nat} : FormsKept s (d.numExc w e index).1 := by
  unfold Dev.numExc
  extract_lets _ d1 d2 d3
  have h1 : FormsKept s d1 := .ite h h.numRecord
  have h2 : FormsKept s d2 := .ite h1.numRecord h1
  have h3 : FormsKept s d3 := .ite h2.numRecord h2
  exact h3

theorem specStop (h : FormsKept s d) {c k : Nat} : FormsKept s (d.specStop c k) := h.sf.sf

theorem specHit (h : FormsKept s d) {c k b : Nat} : FormsKept s (d.specHit c k b) := by
  unfold Dev.specHit
  extract_lets _ _ _ _ _ _ d₃ _ d₅
  have h₃ : FormsKept s d₃ := .ite h.modCore.sf.sf h.modCore.sf
  have h₅ : FormsKept s d₅ := .ite h₃.sf.sf h₃.sf
  exact .ite h.specStop (.ite h₅.specStop h₅)

theorem specCount (h : FormsKept s d) {c source a : Nat} {v : FV} : FormsKept s (d.specCount c source a v) := by
  unfold Dev.specCount
  exact .foldl h fun _ _ h => .ite h.specHit h

theorem specAll (h : FormsKept s d) {c source : Nat} {l : List (Nat × FV)} : FormsKept s (d.specAll c source l) := by
  unfold Dev.specAll
  exact .foldl h fun _ _ h => h.specCount

theorem digestWord (h : FormsKept s d) {c a : Nat} : FormsKept s (d.digestWord c a) := h.sf

theorem digestRange (h : FormsKept s d) {c a n : Nat} : FormsKept s (d.digestRange c a n) := by
  unfold Dev.digestRange
  exact .foldl h fun _ _ h => h.digestWord

theorem storeEcc (h : FormsKept s d) {c : Nat} {x : Ecc} : FormsKept s (d.storeEcc c x) := by
  unfold Dev.storeEcc
  split
  · exact h
  · exact h.bump.score
  · exact h.score

/-! ### `Sys2Proof/Machine/Engine` -/

theorem engineFault (h : FormsKept s d) {c e q code row slot : Nat} {x : Entry} :
    FormsKept s (d.engineFault c e q code row slot x) := h.setReg.sf.sf.sf.sf.logEngine

theorem engineStop (h : FormsKept s d) {c e q code row slot done : Nat} {x : Entry} :
    FormsKept s (d.engineStop c e q code row slot done x) := h.engineFault.coreFault

theorem loadTile (h : FormsKept s d) {c e : Nat} {t : Tile} : FormsKept s (d.loadTile c e t) := h.modEngine.incr

theorem startLoads (h : FormsKept s d) {c e : Nat} {x : Entry} {mode etype addr stride : Nat} :
    FormsKept s (d.startLoads c e x mode etype addr stride) := by
  unfold Dev.startLoads
  extract_lets _ _ _ _ _ _ _
  exact .ite h.modEntry.storeEcc.modEngine.engineStop h.modEntry.storeEcc.loadTile.modEngine.specAll

theorem startStream (h : FormsKept s d) {c e : Nat} {x : Entry} {pair : Bool} {fmt rows : Nat} :
    FormsKept s (d.startStream c e x pair fmt rows) := by
  unfold Dev.startStream
  extract_lets _
  split
  · exact h.modEntry.engineStop
  · exact .foldl h.modEntry fun _ _ h => h.modEngine

theorem startEngine (h : FormsKept s d) {c e : Nat} {x : Entry} : FormsKept s (d.startEngine c e x) := by
  unfold Dev.startEngine
  split
  · exact h.startLoads
  · exact h.startStream
  · exact h.modEntry

theorem takeFifo (h : FormsKept s d) {c e n : Nat} : FormsKept s (d.takeFifo c e n) := h.modCore

theorem issueOn (h : FormsKept s d) {c k q : Nat} {x : Entry} {add : Bool} {slot : Nat} {elems : List FV} {parity : Bool} :
    FormsKept s (d.issueOn c k q x add slot elems parity).1 := by
  unfold Dev.issueOn
  extract_lets _ _ _ _
  split
  · extract_lets _ _ _ d₃
    have h₃ : FormsKept s d₃ := .ite h.setEngine.incr.sf.bump.engineFault.score h.setEngine.incr.sf
    exact h₃

theorem markInvalid (h : FormsKept s d) {c k seq row : Nat} : FormsKept s (d.markInvalid c k seq row) := h.modEngine

theorem idleCycle (h : FormsKept s d) {c k : Nat} {cnt : Fld} {st : Nat} : FormsKept s (d.idleCycle c k cnt st) := h.incr.sf

theorem issueNow (h : FormsKept s d) {c e : Nat} {parity : Option (Fin 2)} {x : Entry} {acc src : Bool} {fmt rows slot : Nat}
    {bytes : List Byte} : FormsKept s (d.issueNow c e parity x acc src fmt rows slot bytes) := by
  unfold Dev.issueNow
  extract_lets es _ _ d₁ _
  have h₁ : FormsKept s d₁ := .ite h h.takeFifo
  split
  next d₂ bad he =>
    have h₂ : FormsKept s d₂ := by
      refine fst he (.foldlFst h₁ fun p k h => ?_)
      split
      next he => exact fst he h.issueOn
    extract_lets d₃ _
    have h₃ : FormsKept s d₃ := .ite h₂ (.foldl h₂ fun _ _ h => h.markInvalid)
    split
    next d₄ _ he =>
      have h₄ : FormsKept s d₄ := fst he h₃.modEntry.numExc
      split
      · exact h₄.engineStop
      · exact h₄

theorem issueRow (h : FormsKept s d) {c e : Nat} {parity : Option (Fin 2)} {ecc : Ecc} :
    FormsKept s (d.issueRow c e parity ecc) := by
  unfold Dev.issueRow
  split
  · exact h
  · split
    · exact h
    · split
      · extract_lets _ _ d₁
        have h₁ : FormsKept s d₁ := .ite h.storeEcc h
        split
        · exact .foldl h fun _ _ h => h.idleCycle
        · exact .ite (.foldl h fun _ _ h => h.idleCycle) (.ite h₁.engineStop h₁.issueNow)
      · exact h

theorem accEcc (h : FormsKept s d) {c k q slot : Nat} {x : Entry} {row : Nat} {y : Ecc} :
    FormsKept s (d.accEcc c k q slot x row y) := by
  unfold Dev.accEcc
  split
  · exact h
  · exact h.bump.score
  · exact h.bump.modEngine.engineFault.score

theorem accumulate (h : FormsKept s d) {c k : Nat} {r : RowInFlight} : FormsKept s (d.accumulate c k r).1 := by
  unfold Dev.accumulate
  exact .iteFst h.setEngine h.setEngine

theorem noteRows (h : FormsKept s d) {c q : Nat} {x : Entry} : FormsKept s (d.noteRows c q x) := by
  unfold Dev.noteRows
  extract_lets _ _ _
  exact .ite (.ite h.modEntry.sf h.modEntry.sf) h.modEntry

theorem completeRow (h : FormsKept s d) {c k : Nat} {ecc : Ecc} : FormsKept s (d.completeRow c k ecc) := by
  unfold Dev.completeRow
  extract_lets _
  split
  · exact h
  · split
    · exact h.setEngine
    · extract_lets _ d₂ _
      have h₂ : FormsKept s d₂ := .ite h.setEngine.accEcc h.setEngine
      split
      next _ d' _ he₂ =>
        have h' : FormsKept s d' := fst he₂ h₂.accumulate
        extract_lets _ d₃
        have h₃ : FormsKept s d₃ := .ite (.foldl h' fun _ _ h => h.markInvalid) h'
        split
        next _ d₄ _ he₃ =>
          have h₄ : FormsKept s d₄ := fst he₃ (.iteFst h₃.numExc h₃)
          extract_lets _
          split
          · exact h₄.noteRows.engineStop
          · exact h₄.noteRows

theorem emitWrite (h : FormsKept s d) {c e : Nat} {intlv : Bool} {w row n : Nat} {bs : List (List Byte)} {last : Bool} :
    FormsKept s (d.emitWrite c e intlv w row n bs last) := by
  unfold Dev.emitWrite
  extract_lets _
  exact .ite (.digestRange (.foldl h fun _ _ h => h.wrStore)) (.ite h.modEngine (.ite (.foldl h fun _ _ h => h.wrStore) (.digestRange (.modEngine (.foldl (.foldl h fun _ _ h => h.wrStore) fun _ _ h => h.wrStore)))))

theorem emitFlush (h : FormsKept s d) {c e : Nat} {intlv : Bool} {row n : Nat} :
    FormsKept s (d.emitFlush c e intlv row n) := by
  unfold Dev.emitFlush
  exact .ite h.emitWrite.modEngine h

theorem emitSlot (h : FormsKept s d) {c e : Nat} {ecc : Ecc} : FormsKept s (d.emitSlot c e ecc) := by
  unfold Dev.emitSlot
  split
  · exact h
  · split
    · extract_lets _ _ _ _ _ _ _ _ _ _ _
      split
      · exact h.idleCycle
      · split
        · exact h.idleCycle
        · split
          · exact h.sf.accEcc.emitFlush.engineStop
          · split
            next _ d₅ _ he₅ =>
              have h₅ : FormsKept s d₅ := fst he₅ h.sf.accEcc.specAll.emitWrite.modEntry.numExc
              split
              · exact h₅.engineStop
              · exact h₅
    · exact h

/-! ### `Sys2Proof/Machine/Route` -/

theorem setTableEntry (h : FormsKept s d) {b k t v : Nat} : FormsKept s (d.setTableEntry b k t v) := h.setReg

theorem fillTables (h : FormsKept s d) : FormsKept s (d.fillTables) := by
  unfold Dev.fillTables
  extract_lets d₁
  have h₁ : FormsKept s d₁ := .foldl h fun _ _ h' => .foldl h' fun _ _ h' => .foldl h' fun _ _ h => h.setTableEntry
  exact .foldl h₁ fun _ _ h' => .foldl h' fun _ _ h => h.setReg

theorem notice (h : FormsKept s d) {dst kind count epoch : Nat} {body : List Byte} :
    FormsKept s (d.notice dst kind count epoch body) := h.send

theorem summaryRecord (h : FormsKept s d) {sender : Nat} {e : Suspect} {w : Nat} :
    FormsKept s (d.summaryRecord sender e w) := h.report

theorem summaryAtSuspect (h : FormsKept s d) {sender : Nat} {e : Suspect} {w : Nat} :
    FormsKept s (d.summaryAtSuspect sender e w) := h.summaryRecord.score

theorem forwardSummary (h : FormsKept s d) {e : Suspect} {w : Nat} : FormsKept s (d.forwardSummary e w) := by
  unfold Dev.forwardSummary
  extract_lets _ _
  exact .ite h.notice.bump (.ite (.ite h.summaryAtSuspect h.summaryRecord.notice) h.notice)

theorem mergeAccusers (h : FormsKept s d) {x : Suspect} : FormsKept s (d.mergeAccusers x) := by
  unfold Dev.mergeAccusers
  split
  · exact h.other
  · exact .ite h.other.sf h.forwardSummary.bump

theorem accuse (h : FormsKept s d) {suspect bit unit : Nat} : FormsKept s (d.accuse suspect bit unit) := by
  unfold Dev.accuse
  exact .ite h h.mergeAccusers

/-! ### `Sys2Proof/Machine/GasReq` -/

theorem takeMsg (h : FormsKept s d) : FormsKept s (d.takeMsg).2 := h.other

theorem takeDseq (h : FormsKept s d) {c dst : Nat} : FormsKept s (d.takeDseq c dst).2 := h.other

theorem track (h : FormsKept s d) {r : Req} : FormsKept s (d.track r) := h.send.other

theorem issue (h : FormsKept s d) {r : Req} : FormsKept s (d.issue r) := h.incr.track

theorem dropReq (h : FormsKept s d) {r : Req} : FormsKept s (d.dropReq r) := h.other

theorem resend (h : FormsKept s d) {r : Req} {attempt : Nat} : FormsKept s (d.resend r attempt) := h.dropReq.bump.issue

theorem logGas (h : FormsKept s d) {code c dst addr seq : Nat} : FormsKept s (d.logGas code c dst addr seq) := h.report

theorem outcomeUnknown (h : FormsKept s d) {r : Req} {aop : Nat} {w64 : Bool} {addr : Nat} :
    FormsKept s (d.outcomeUnknown r aop w64 addr) := by
  unfold Dev.outcomeUnknown
  extract_lets free _ d₁ _
  have h₁ : FormsKept s d₁ := by
    unfold d₁
    clear_value free
    split
    · exact h.setReg.sf.sf.sf.sf.sf.sf.sf.sf.sf.sf
    · exact h.bump
  exact h₁.report.accuse

theorem gasFault (h : FormsKept s d) {c code dst addr : Nat} {x : Entry} : FormsKept s (d.gasFault c code dst addr x) := by
  unfold Dev.gasFault
  extract_lets d₁ d₂
  have h₁ : FormsKept s d₁ := .ite h h.logGas
  have h₂ : FormsKept s d₂ := .ite h₁.accuse h₁
  exact h₂.coreFault

theorem startGas (h : FormsKept s d) {c : Nat} {x : Entry} {op : Op} {p : Packet} {saddr tdst : Nat} :
    FormsKept s (d.startGas c x op p saddr tdst) := by
  unfold Dev.startGas
  extract_lets _ d₂ _
  have h₂ : FormsKept s d₂ := .ite h.modEntry.storeEcc h.modEntry
  split
  · exact h₂.coreFault
  · split
    · exact h₂.gasFault
    · split
      next _ _ d₃ he₂ =>
        have h₃ : FormsKept s d₃ := snd he₂ h₂.takeMsg
        extract_lets _
        split
        next _ _ d₄ he₃ =>
          have h₄ : FormsKept s d₄ := snd he₃ (.iteSnd h₃ h₃.takeDseq)
          exact h₄.issue

theorem gasDone (h : FormsKept s d) {c seq : Nat} : FormsKept s (d.gasDone c seq) := h.modEntry

/-! ### `Sys2Proof/Machine/Dma` -/

theorem setRun (h : FormsKept s d) {c q seq : Nat} {r : DmaRun} : FormsKept s (d.setRun c q seq r) := h.modEntry

theorem dmaPut (h : FormsKept s d) {t : Nat} {x : DmaDesc} {off : Nat} {bs : List Byte} :
    FormsKept s (d.dmaPut t x off bs) := by
  unfold Dev.dmaPut
  exact .foldl h fun _ _ h => h.wrByte

theorem dmaStore (h : FormsKept s d) {c : Nat} {x : DmaDesc} {off : Nat} {bs : List Byte} :
    FormsKept s (d.dmaStore c x off bs) := by
  unfold Dev.dmaStore
  exact .foldl h fun _ _ h => .ite h.hold h.dmaPut

theorem dmaRoute (h : FormsKept s d) {x : DmaDesc} {p : Packet} : FormsKept s (d.dmaRoute x p).1 := by
  unfold Dev.dmaRoute
  split
  · exact h.incr
  · exact h

theorem dmaSendWrites (h : FormsKept s d) {c q seq : Nat} {x : DmaDesc} {msg off : Nat} {bs : List Byte} :
    FormsKept s (d.dmaSendWrites c q seq x msg off bs) := by
  unfold Dev.dmaSendWrites
  exact .foldl h fun _ _ h => h.takeDseq.dmaRoute.issue

theorem dmaSendReads (h : FormsKept s d) {c q seq : Nat} {x : DmaDesc} {msg : Nat} :
    FormsKept s (d.dmaSendReads c q seq x msg) := by
  unfold Dev.dmaSendReads
  exact .foldl h fun _ _ h => h.issue

theorem writeMap (h : FormsKept s d) {c : Nat} : FormsKept s (d.writeMap c) := by
  unfold Dev.writeMap
  extract_lets _ _
  split
  · split
    · exact .foldl h.modCore.sf fun _ _ h => .ite h.setReg h
    · exact h.modCore
  · exact h.modCore

theorem dmaFault (h : FormsKept s d) {c q code detail : Nat} {x : Entry} : FormsKept s (d.dmaFault c q code detail x) := by
  unfold Dev.dmaFault
  exact .ite h.setRun.coreFault.writeMap h.setRun.coreFault

theorem dmaRemote (h : FormsKept s d) {c q code dst addr : Nat} {x : Entry} :
    FormsKept s (d.dmaRemote c q code dst addr x) := by
  unfold Dev.dmaRemote
  extract_lets _ d₁ d₂
  have h₁ : FormsKept s d₁ := .ite h.logXfb h.logGas
  have h₂ : FormsKept s d₂ := .ite h₁.accuse h₁
  exact h₂.dmaFault

theorem dmaMove (h : FormsKept s d) {c q seq : Nat} {x : DmaDesc} {msg : Nat} {r : DmaRun} {src : Ecc} :
    FormsKept s (d.dmaMove c q seq x msg r src) := by
  unfold Dev.dmaMove
  split
  · split
    · exact h
    · split
      · split
        · exact h.dmaFault
        · exact h
      · exact .ite h.storeEcc.dmaStore.setRun h.storeEcc.dmaSendWrites
  · exact h.dmaSendReads

theorem dmaStart (h : FormsKept s d) {c q seq : Nat} {ecc src : Ecc} : FormsKept s (d.dmaStart c q seq ecc src) := by
  unfold Dev.dmaStart
  split
  · exact h
  · split
    · exact h
    · extract_lets _ _ _
      split
      · exact h.storeEcc.dmaFault
      · split
        next _ _ d₂ he₃ =>
          have h₂ : FormsKept s d₂ := snd he₃ h.storeEcc.takeMsg
          extract_lets _ _ _
          split
          · exact h₂.setRun.dmaFault
          · split
            · exact h₂.setRun.dmaFault
            · split
              · exact h₂.setRun.dmaRemote
              · exact h₂.setRun.dmaMove

theorem dmaFinish (h : FormsKept s d) {c q seq : Nat} : FormsKept s (d.dmaFinish c q seq) := by
  unfold Dev.dmaFinish
  split
  · exact h
  · split
    · exact h
    · split
      · exact h
      · exact .ite h.modEntry (.ite h.dmaFault h.setRun)

theorem fifoPush (h : FormsKept s d) {t : Nat} {second : Bool} {bs : List Byte} :
    FormsKept s (d.fifoPush t second bs) := h.modCore

theorem dmaAppend (h : FormsKept s d) {c q seq n : Nat} {ecc : Ecc} : FormsKept s (d.dmaAppend c q seq n ecc) := by
  unfold Dev.dmaAppend
  split
  · exact h
  · split
    · exact h
    · exact .ite h (.ite h.dmaFault (.foldl (.setRun (.ite h.storeEcc h)) fun _ _ h => h.fifoPush))

theorem dmaArrive (h : FormsKept s d) {c q seq off : Nat} {bs : List Byte} : FormsKept s (d.dmaArrive c q seq off bs) := by
  unfold Dev.dmaArrive
  split
  · exact h
  · split
    · exact h
    · split
      · exact h.setRun
      · split
        · exact h.dmaStore.setRun
        · split
          · exact h
          · split
            · split
              · exact h.dmaRemote
              · exact h
            · exact h.dmaSendWrites

theorem dmaAcked (h : FormsKept s d) {c q seq off n : Nat} : FormsKept s (d.dmaAcked c q seq off n) := by
  unfold Dev.dmaAcked
  split
  · exact h
  · exact h.setRun

theorem dmaPacketFailed (h : FormsKept s d) {r : Req} {code : Nat} : FormsKept s (d.dmaPacketFailed r code) := by
  unfold Dev.dmaPacketFailed
  extract_lets _
  split
  · exact h.dropReq
  · exact .ite h.dropReq h.dropReq.dmaRemote

/-! ### `Sys2Proof/Machine/Vector` -/

theorem vecOut (h : FormsKept s d) {c td addr k : Nat} {rs : List Nat} :
    FormsKept s (d.vecOut c td addr k rs).1 := h.specAll.wrStore.digestRange

theorem vecStop (h : FormsKept s d) {c code done : Nat} {x : Entry} : FormsKept s (d.vecStop c code done x) := h.coreFault

theorem vecRun (h : FormsKept s d) {c : Nat} {x : Entry} {v : VecArgs} {k n : Nat} : FormsKept s (d.vecRun c x v k n) := by
  induction n generalizing d k with
  | zero =>
    unfold Dev.vecRun
    exact h.modEntry
  | succ n ih =>
    unfold Dev.vecRun
    extract_lets _ _ e
    have he : FormsKept s e.1 := h.vecOut.numExc
    split
    · exact he.vecStop
    · exact ih he

theorem vecReduce (h : FormsKept s d) {c : Nat} {x : Entry} {v : VecArgs} {k n : Nat} {acc : List Nat} :
    FormsKept s (d.vecReduce c x v k n acc).1 := by
  induction n generalizing d k acc with
  | zero =>
    unfold Dev.vecReduce
    exact h
  | succ n ih =>
    unfold Dev.vecReduce
    exact ih h.numExc

theorem startVec (h : FormsKept s d) {c : Nat} {x : Entry} {v : VecArgs} : FormsKept s (d.startVec c x v) := by
  unfold Dev.startVec
  extract_lets _ _ _ _ _ stop
  split
  · exact h.modEntry.storeEcc.vecStop
  · split
    · clear_value stop
      split
      · exact h.modEntry.storeEcc.vecReduce.vecOut.numExc.vecStop
      · exact h.modEntry.storeEcc.vecReduce.vecOut.numExc.modEntry
    · exact h.modEntry.storeEcc.vecRun

/-! ### `Sys2Proof/Machine/Attn` -/

theorem setAttn (h : FormsKept s d) {c : Nat} {r : AttnRun} : FormsKept s (d.setAttn c r) := h.modCore

theorem attnPhase (h : FormsKept s d) {c p : Nat} : FormsKept s (d.attnPhase c p) := h.sf

theorem dropTiles (h : FormsKept s d) {c : Nat} : FormsKept s (d.dropTiles c) := by
  unfold Dev.dropTiles
  exact h.modEngine.modEngine

theorem attnFault (h : FormsKept s d) {c cause code detail : Nat} {x : Entry} :
    FormsKept s (d.attnFault c cause code detail x) := by
  unfold Dev.attnFault
  extract_lets _ d₂ _
  have h₂ : FormsKept s d₂ := by
    unfold d₂
    split
    · exact .ite h.sf.dropTiles h.sf
    · exact h.sf
  exact h₂.modCore.coreFault

theorem attnRemote (h : FormsKept s d) {c code dst addr : Nat} {x : Entry} :
    FormsKept s (d.attnRemote c code dst addr x) := by
  unfold Dev.attnRemote
  exact .attnFault (.ite h.logGas.accuse h.logGas)

theorem startAttn (h : FormsKept s d) {c : Nat} {x : Entry} {addr : Nat} :
    FormsKept s (d.startAttn c x addr) := h.modEntry.setReg.attnPhase.setAttn

theorem takeSlots (h : FormsKept s d) {c : Nat} : FormsKept s (d.takeSlots c) := by
  unfold Dev.takeSlots
  exact h.draw.modEngine.modEngine

theorem attnRead (h : FormsKept s d) {c : Nat} {x : Entry} {kind : ReqKind} {addr n key hint use : Nat} :
    FormsKept s (d.attnRead c x kind addr n key hint use) := by
  unfold Dev.attnRead
  extract_lets _
  split
  · exact h
  · split
    · exact h.attnRemote
    · exact .ite h.attnRemote (.foldl h.takeMsg fun _ _ h => h.issue)

theorem attnAskMap (h : FormsKept s d) {c : Nat} {x : Entry} {y : AttnDesc} {n : Nat} :
    FormsKept s (d.attnAskMap c x y n) := by
  unfold Dev.attnAskMap
  split
  · exact h
  · exact .ite h h.setAttn.attnRead

theorem attnAhead (h : FormsKept s d) {c : Nat} {x : Entry} {y : AttnDesc} : FormsKept s (d.attnAhead c x y) := by
  unfold Dev.attnAhead
  split
  · exact h
  · extract_lets _ _ d₁
    have h₁ : FormsKept s d₁ := .foldl h fun _ _ h => h.attnAskMap
    refine .foldl h₁ fun _ _ h => ?_
    split
    · exact h
    · split
      · exact h
      · split
        · exact h
        · exact h.setAttn.attnRead.attnRead

theorem attnNext (h : FormsKept s d) {c : Nat} {x : Entry} {r : AttnRun} {y : AttnDesc} :
    FormsKept s (d.attnNext c x r y) := by
  unfold Dev.attnNext
  extract_lets d₁ _ _
  have h₁ : FormsKept s d₁ := .ite h h.looseCore
  exact .ite h₁.modEntry (.ite h₁.attnPhase.attnFault h₁.setReg.sf.attnPhase.setAttn)

theorem attnStart (h : FormsKept s d) {c : Nat} {ecc : Ecc} : FormsKept s (d.attnStart c ecc) := by
  unfold Dev.attnStart
  split
  · exact .ite h (.ite h.storeEcc.attnFault (.ite h.storeEcc.attnFault (.ite h.storeEcc.attnFault (.foldl h.storeEcc.setAttn.attnPhase fun _ _ h => h.attnAskMap))))
  · exact h

theorem attnPut (h : FormsKept s d) {c : Nat} {x : Entry} {y : AttnDesc} {a key : Nat} {bs : List Byte} :
    FormsKept s (d.attnPut c x y a key bs) := by
  unfold Dev.attnPut
  extract_lets _
  split
  · exact h
  · split
    · exact h.attnRemote
    · exact h.takeMsg.takeDseq.issue

theorem attnToken (h : FormsKept s d) {c : Nat} {x : Entry} {y : AttnDesc} : FormsKept s (d.attnToken c x y) := by
  unfold Dev.attnToken
  split
  · exact h
  · extract_lets _ _
    split
    · exact h.setAttn.attnPut.attnPut
    · exact h

theorem attnAppend (h : FormsKept s d) {c : Nat} {x : Entry} {y : AttnDesc} {ecc : Ecc} :
    FormsKept s (d.attnAppend c x y ecc) := by
  unfold Dev.attnAppend
  split
  · exact h
  · exact .ite h (.ite (.attnFault (.ite h h.storeEcc)) (.attnToken (.setAttn (.ite h h.storeEcc))))

theorem attnTokens (h : FormsKept s d) {c : Nat} : FormsKept s (d.attnTokens c) := by
  unfold Dev.attnTokens
  split
  · split
    · exact h
    · exact .ite h h.sf.attnToken
  · exact h

theorem attnEntryRead (h : FormsKept s d) {c n : Nat} {ecc : Ecc} : FormsKept s (d.attnEntryRead c n ecc) := by
  unfold Dev.attnEntryRead
  split
  · split
    · exact h
    · extract_lets _
      split
      · exact h
      · split
        · exact h
        · split
          · exact h.attnFault
          · exact .ite h.setAttn.attnAhead h.setAttn.attnAppend
  · exact h

theorem attnAppended (h : FormsKept s d) {c : Nat} : FormsKept s (d.attnAppended c) := by
  unfold Dev.attnAppended
  split
  · split
    · exact h
    · exact .ite h (.ite h.sf.attnNext h.sf.attnPhase.setAttn.attnAhead)
  · exact h

theorem unitRetires (h : FormsKept s d) {c q seq n : Nat} : FormsKept s (d.unitRetires c q seq n) := h.sf.incr

theorem unitEntries (h : FormsKept s d) {c : Nat} {r : AttnRun} {y : AttnDesc} {q ptile : List (List Byte)} {rows : Nat} :
    FormsKept s (d.unitEntries c r y q ptile rows) := by
  unfold Dev.unitEntries
  extract_lets _ d₁ d₂ _ _
  have h₁ : FormsKept s d₁ := .ite h h.takeSlots
  have h₂ : FormsKept s d₂ := .ite h₁ h₁.loadTile
  exact h₂.loadTile.incr.incr.unitRetires.unitRetires

theorem attnBlock (h : FormsKept s d) {c : Nat} {ecc : Ecc} : FormsKept s (d.attnBlock c ecc) := by
  unfold Dev.attnBlock
  split
  · split
    · exact h
    · split
      · exact h
      · split
        · exact h
        · extract_lets _ bytes _ _
          clear_value bytes
          split
          · exact h.incr
          · split
            · exact h.storeEcc.attnFault
            · extract_lets _ _ _ _
              split
              next _ d₅ _ he₆ =>
                have h₅ : FormsKept s d₅ := fst he₆ h.storeEcc.unitEntries.setAttn.sf.incr.numExc
                split
                · exact h₅.attnFault
                · exact h₅.attnAhead
  · exact h

theorem digestTouched (h : FormsKept s d) {c a n : Nat} : FormsKept s (d.digestTouched c a n) := by
  unfold Dev.digestTouched
  exact .foldl h fun _ _ h => h.digestWord

theorem attnWrite (h : FormsKept s d) {c : Nat} {y : AttnDesc} {cols : List AttnCol} :
    FormsKept s (d.attnWrite c y cols).1 := by
  unfold Dev.attnWrite
  exact .foldlFst h fun _ _ h' => .foldlFst h' fun _ _ h => h.specAll.wrStore.digestTouched

theorem attnStats (h : FormsKept s d) {c : Nat} {y : AttnDesc} {cols : List AttnCol} :
    FormsKept s (d.attnStats c y cols) := h.wrStore.digestRange

theorem attnOutput (h : FormsKept s d) {c : Nat} : FormsKept s (d.attnOutput c) := by
  unfold Dev.attnOutput
  split
  · split
    · exact h
    · split
      · exact h
      · extract_lets _ _ d₂
        have h₂ : FormsKept s d₂ := .ite h.attnPhase.attnWrite.attnStats h.attnPhase.attnWrite
        split
        next _ d₃ _ he₄ =>
          have h₃ : FormsKept s d₃ := fst he₄ h₂.numExc
          split
          · exact h₃.attnFault
          · exact h₃.attnNext
  · exact h

theorem attnArrive (h : FormsKept s d) {c addr : Nat} {bs : List Byte} : FormsKept s (d.attnArrive c addr bs) := by
  unfold Dev.attnArrive
  split
  · exact h
  · exact h.setAttn

/-! ### `Sys2Proof/Machine/HlkLink` -/

theorem logHlk (h : FormsKept s d) {code d0 d1 : Nat} : FormsKept s (d.logHlk code d0 d1) := h.sf.logAt

theorem takeTag (h : FormsKept s d) : FormsKept s (d.takeTag).2 := h.other

theorem stripe (h : FormsKept s d) {m : HlkMsg} : FormsKept s (d.stripe m) := by
  unfold Dev.stripe
  split
  · exact h
  · exact .foldl h fun _ _ h => h.other

theorem hlkOut (h : FormsKept s d) {m : HlkMsg} : FormsKept s (d.hlkOut m) := h.other.stripe.incr

theorem resendCrossed (h : FormsKept s d) {n : Nat} : FormsKept s (d.resendCrossed n) := by
  unfold Dev.resendCrossed
  extract_lets _ _ _
  exact .ite h.other (.foldl h.other.bump.incr fun _ _ h => h.stripe)

theorem sendHello (h : FormsKept s d) : FormsKept s (d.sendHello) := h.hlkOut

theorem hlkPumpList (h : FormsKept s d) {blocked : List Nat} {l : List HlkMsg} : FormsKept s (d.hlkPumpList blocked l).1 := by
  induction l generalizing d blocked with
  | nil => exact h
  | cons m l ih =>
    unfold Dev.hlkPumpList
    exact .iteFst (ih h.hlkOut) (ih h)

theorem hlkPump (h : FormsKept s d) : FormsKept s (d.hlkPump) := h.hlkPumpList.other

theorem hlkSend (h : FormsKept s d) {m : HlkMsg} : FormsKept s (d.hlkSend m) := h.other.hlkPump

theorem respond (h : FormsKept s d) {m : HlkMsg} {op code : Nat} {payload : List Byte} :
    FormsKept s (d.respond m op code payload) := h.hlkSend

theorem refuseHlk (h : FormsKept s d) {m : HlkMsg} {code : Nat} : FormsKept s (d.refuseHlk m code) := h.bump.respond

theorem sendCounter (h : FormsKept s d) {n value : Nat} : FormsKept s (d.sendCounter n value).2 := h.takeTag.hlkSend

/-! ### `Sys2Proof/Machine/Sync` -/

theorem waitTake (h : FormsKept s d) {c : Nat} {w : WaitInfo} : FormsKept s (d.waitTake c w) := by
  unfold Dev.waitTake
  exact .ite h.sf h

theorem endSignal (h : FormsKept s d) {c seq dest : Nat} : FormsKept s (d.endSignal c seq dest) := h.modCore

theorem signalRemote (h : FormsKept s d) {c : Nat} {g : SignalInfo} : FormsKept s (d.signalRemote c g) := by
  unfold Dev.signalRemote
  split
  · exact h.logGas
  · exact h.takeMsg.takeDseq.modCore.issue

theorem signalCompanion (h : FormsKept s d) {c : Nat} {g : SignalInfo} : FormsKept s (d.signalCompanion c g) := by
  unfold Dev.signalCompanion
  exact .ite h.sendCounter.modCore h.logHlk

theorem signalAct (h : FormsKept s d) {c : Nat} {g : SignalInfo} : FormsKept s (d.signalAct c g) := by
  unfold Dev.signalAct
  extract_lets _ _
  exact .ite h.update (.ite (.ite h.update h) (.ite h.signalRemote h.signalCompanion))

/-! ### `Sys2Proof/Machine/Sched` -/

theorem startColl (h : FormsKept s d) {c : Nat} {x : Entry} {g addr : Nat} {ndet : Bool} :
    FormsKept s (d.startColl c x g addr ndet) := by
  unfold Dev.startColl
  extract_lets _ _ _ d₂ _ d₄
  have h₂ : FormsKept s d₂ := h.modEntry.other
  have h₄ : FormsKept s d₄ := h₂.setReg.sf
  exact h₄.sf.sf.modCore

theorem startEntry (h : FormsKept s d) {c q : Nat} {x : Entry} : FormsKept s (d.startEntry c q x) := by
  unfold Dev.startEntry
  split
  · exact h.startVec
  · exact h.startAttn
  · exact h.modEntry
  · exact h.startGas
  · exact h.startColl
  · exact h.modEntry
  · exact h.startEngine

theorem kickQueue (h : FormsKept s d) {c q n : Nat} : FormsKept s (d.kickQueue c q n) := by
  induction n generalizing d with
  | zero => exact h
  | succ n ih =>
    unfold Dev.kickQueue
    split
    · exact h
    · exact .ite (ih h.startEntry) h

theorem pauseEngines (h : FormsKept s d) {c : Nat} : FormsKept s (d.pauseEngines c) := by
  unfold Dev.pauseEngines
  exact h.draw.modEngine.draw.modEngine

theorem swapTry (h : FormsKept s d) {c : Nat} : FormsKept s (d.swapTry c) := by
  unfold Dev.swapTry
  split
  · exact .ite h.other.sf h
  · exact h

theorem kick (h : FormsKept s d) {c : Nat} : FormsKept s (d.kick c) := by
  unfold Dev.kick
  exact .swapTry (.foldl (.foldl h fun _ _ h => h.kickQueue) fun _ _ h => h.kickQueue)

/-! ### `Sys2Proof/Machine/Thread` -/

theorem takeSeq (h : FormsKept s d) {c : Nat} : FormsKept s (d.takeSeq c) := h.incr

theorem seqFault (h : FormsKept s d) {c t pc seq code : Nat} : FormsKept s (d.seqFault c t pc seq code) := h.coreFault

theorem fetchEcc (h : FormsKept s d) {c : Nat} {x : Ecc} : FormsKept s (d.fetchEcc c x) := by
  unfold Dev.fetchEcc
  split
  · exact h
  · exact h.bump.score
  · exact h.score

theorem dispatch (h : FormsKept s d) {want : Op} {i : Issue} {effect : Issued → Ins → Dev → Dev}
    (hf : ∀ a x d, FormsKept s d → FormsKept s (effect a x d)) : FormsKept s (d.dispatch want i effect) := by
  unfold Dev.dispatch
  extract_lets _ _ _ _ refuse d₁ d₂
  have hrefuse : ∀ {d : Dev} {code : Nat}, FormsKept s d → FormsKept s (refuse d code) := fun h => h.takeSeq.seqFault
  have h₁ : FormsKept s d₁ := h.fetchEcc
  have h₂ : FormsKept s d₂ := h₁.takeSeq.modCore
  clear_value refuse d₁ d₂
  split
  · exact h
  · split
    · exact h.seqFault
    · split
      · exact hrefuse h.fetchEcc
      · split
        · exact hrefuse h₁
        · exact .ite h (.ite (hrefuse h₁) (.ite (hrefuse h₁) (hf _ _ _ (.ite h₂.incr h₂))))

theorem advance (h : FormsKept s d) {a : Issued} : FormsKept s (d.advance a) := by
  unfold Dev.advance
  exact .ite h.modThread h.setPc

theorem branch (h : FormsKept s d) {a : Issued} {x : Ins} : FormsKept s (d.branch a x) := h.setPc

theorem threadBusy (h : FormsKept s d) {c t : Nat} : FormsKept s (d.threadBusy c t) := h.logCore

theorem threadStart (h : FormsKept s d) {c t : Nat} : FormsKept s (d.threadStart c t) := by
  unfold Dev.threadStart
  exact .ite h.threadBusy (.ite h.modThread h)

theorem heldStart (h : FormsKept s d) {c t : Nat} : FormsKept s (d.heldStart c t) := by
  unfold Dev.heldStart
  exact .ite h.setThread.threadStart h

theorem setTd (h : FormsKept s d) {a : Issued} {x : Ins} {v : Nat} : FormsKept s (d.setTd a x v) := h.advance.setTreg

theorem enqueue (h : FormsKept s d) {a : Issued} {x : Ins} {q : Nat} {op : QOp} : FormsKept s (d.enqueue a x q op) := by
  unfold Dev.enqueue
  exact h.advance.setQueue.kick

theorem enqueueVec (h : FormsKept s d) {a : Issued} {x : Ins} : FormsKept s (d.enqueueVec a x) := by
  unfold Dev.enqueueVec
  exact h.enqueue

theorem enqueueGas (h : FormsKept s d) {a : Issued} {x : Ins} : FormsKept s (d.enqueueGas a x) := by
  unfold Dev.enqueueGas
  exact .enqueue (.ite h.modThread h)

theorem doWait (h : FormsKept s d) {a : Issued} {x : Ins} : FormsKept s (d.doWait a x) := by
  unfold Dev.doWait
  exact .ite h.advance.modThread h.enqueue

theorem doSignal (h : FormsKept s d) {a : Issued} {x : Ins} : FormsKept s (d.doSignal a x) := by
  unfold Dev.doSignal
  exact .ite h.advance.modThread h.advance.signalAct.kick

theorem doPause (h : FormsKept s d) {a : Issued} : FormsKept s (d.doPause a) := by
  unfold Dev.doPause
  exact .ite h.advance.modThread.swapTry h.advance

theorem doSpawn (h : FormsKept s d) {a : Issued} {x : Ins} : FormsKept s (d.doSpawn a x) := by
  unfold Dev.doSpawn
  exact .ite h.advance.setPc.modThread h.advance.seqFault

theorem doHalt (h : FormsKept s d) {a : Issued} : FormsKept s (d.doHalt a) := h.setPc.modThread

theorem doTld (h : FormsKept s d) {a : Issued} {x : Ins} : FormsKept s (d.doTld a x) := by
  unfold Dev.doTld
  exact .ite h.storeEcc.advance.seqFault h.storeEcc.setTd

theorem doTst (h : FormsKept s d) {a : Issued} {x : Ins} : FormsKept s (d.doTst a x) := h.advance.wrStore

/-! ### `Sys2Proof/Machine/EngineCmds` -/

theorem stallEnd (h : FormsKept s d) {c e extra : Nat} : FormsKept s (d.stallEnd c e extra) := by
  unfold Dev.stallEnd
  split
  · exact h
  · exact .kick (.modEntry (.modEngine (.ite h.incr h)))

theorem noteUnchecked (h : FormsKept s d) {c : Nat} {x : Entry} : FormsKept s (d.noteUnchecked c x) := by
  unfold Dev.noteUnchecked
  exact .ite h.sf h

theorem retire (h : FormsKept s d) {c q : Nat} : FormsKept s (d.retire c q) := by
  unfold Dev.retire
  split
  · exact h
  · extract_lets _ _ d₃ _ d₅ d₆
    have h₃ : FormsKept s d₃ := by
      unfold d₃
      split
      · exact h.setQueue.sf.incr.attnPhase.dropTiles.modCore
      · exact h.setQueue.sf.incr
    have h₅ : FormsKept s d₅ := .ite h₃.noteUnchecked.sf h₃.noteUnchecked
    have h₆ : FormsKept s d₆ := by
      unfold d₆
      split
      · exact h₅.update
      · exact h₅
    exact h₆.kick

theorem waitEnd (h : FormsKept s d) {c t : Nat} {w : WaitInfo} {res : Nat} : FormsKept s (d.waitEnd c t w res) := by
  unfold Dev.waitEnd
  exact .ite h.modThread.setTreg h.modThread

theorem waitMetThread (h : FormsKept s d) {c t : Nat} : FormsKept s (d.waitMetThread c t) := by
  unfold Dev.waitMetThread
  split
  · exact .ite h.waitTake.waitEnd h
  · exact h

theorem waitMetQueue (h : FormsKept s d) {c q : Nat} : FormsKept s (d.waitMetQueue c q) := by
  unfold Dev.waitMetQueue
  split
  · exact .ite h.waitTake.modEntry.kick h
  · exact h

theorem waitTimeout (h : FormsKept s d) {c t : Nat} : FormsKept s (d.waitTimeout c t) := by
  unfold Dev.waitTimeout
  split
  · exact .ite h (.ite h.waitTake.waitEnd h.waitEnd)
  · exact h

theorem fenceComplete (h : FormsKept s d) {c t : Nat} : FormsKept s (d.fenceComplete c t) := by
  unfold Dev.fenceComplete
  extract_lets _ _
  split
  · exact h
  · split
    · exact h
    · split
      · exact h.modThread.signalAct.heldStart.kick
      · exact h.modThread.heldStart

theorem mapWritten (h : FormsKept s d) {c : Nat} : FormsKept s (d.mapWritten c) := by
  unfold Dev.mapWritten
  exact .ite h.writeMap h

/-! ### `Sys2Proof/Machine/CoreCtl` -/

theorem threadHalt (h : FormsKept s d) {c t : Nat} : FormsKept s (d.threadHalt c t) := by
  unfold Dev.threadHalt
  extract_lets _
  split
  · exact h.setThread
  · exact .ite h.setThread h.setThread
  · exact h.setThread
  · exact h.setThread.swapTry
  · exact h

theorem writeThread (h : FormsKept s d) {c t : Nat} {v : Word} : FormsKept s (d.writeThread c t v) := by
  unfold Dev.writeThread
  extract_lets _ _ d'
  have h' : FormsKept s d' := .ite h.threadHalt h
  exact .ite h' (.ite h'.modThread h'.threadStart)

theorem writePc (h : FormsKept s d) {c t v : Nat} : FormsKept s (d.writePc c t v) := by
  unfold Dev.writePc
  exact .ite h.setPc.modThread h.threadBusy

theorem writeT (h : FormsKept s d) {c t m v : Nat} : FormsKept s (d.writeT c t m v) := by
  unfold Dev.writeT
  exact .ite h.setTreg h.threadBusy

theorem forceStop (h : FormsKept s d) {c : Nat} : FormsKept s (d.forceStop c) := by
  unfold Dev.forceStop
  exact .ite h h.modCore.modCore

theorem resume (h : FormsKept s d) {c : Nat} : FormsKept s (d.resume c) := by
  unfold Dev.resume
  extract_lets _ _
  exact .ite h (.ite h.modCore.kick (.ite h.modCore.sf.sf.sf h))

theorem clearAct (h : FormsKept s d) {c : Nat} : FormsKept s (d.clearAct c) := h.modCore.sf

theorem thenActs (h : FormsKept s d) {c : Nat} {res stop : Bool} : FormsKept s (d.thenActs c res stop) := by
  unfold Dev.thenActs
  extract_lets d₁
  have h₁ : FormsKept s d₁ := .ite h.resume h
  exact .ite h₁.forceStop h₁

theorem clearFault (h : FormsKept s d) {c : Nat} {res stop : Bool} : FormsKept s (d.clearFault c res stop) := by
  unfold Dev.clearFault
  exact .ite h.thenActs (.ite h.clearAct.thenActs h.modCore)

theorem clearHeldAct (h : FormsKept s d) {c : Nat} : FormsKept s (d.clearHeldAct c) := by
  unfold Dev.clearHeldAct
  exact .ite h.clearAct.modCore.thenActs h

theorem writeCoreCtrl (h : FormsKept s d) {c : Nat} {v : Word} : FormsKept s (d.writeCoreCtrl c v) := by
  unfold Dev.writeCoreCtrl
  exact .ite h.clearFault (.ite h.modCore h.thenActs)

theorem preemptReq (h : FormsKept s d) {c : Nat} : FormsKept s (d.preemptReq c) := by
  unfold Dev.preemptReq
  exact .ite h h.sf.sf.sf

theorem preemptCancel (h : FormsKept s d) {c : Nat} : FormsKept s (d.preemptCancel c) := by
  unfold Dev.preemptCancel
  exact .ite h (.ite h.sf.sf.sf h.sf.sf.sf.modCore)

theorem corePaused (h : FormsKept s d) {c waitUs : Nat} : FormsKept s (d.corePaused c waitUs) := by
  unfold Dev.corePaused
  extract_lets _ _ _ d₂
  have h₂ : FormsKept s d₂ := .ite h.modCore.pauseEngines.sf.sf h.modCore.pauseEngines
  exact .ite h h₂.swapTry

theorem preemptLate (h : FormsKept s d) {c : Nat} : FormsKept s (d.preemptLate c) := by
  unfold Dev.preemptLate
  exact .ite h.sf.logCore.raise h

theorem writePreempt (h : FormsKept s d) {c : Nat} {v : Word} : FormsKept s (d.writePreempt c v) := by
  unfold Dev.writePreempt
  extract_lets _ d₂
  have h₂ : FormsKept s d₂ := .ite h.sf.preemptCancel h.sf
  exact .ite h₂.preemptReq h₂

theorem specFresh (h : FormsKept s d) {c k : Nat} : FormsKept s (d.specFresh c k) := h.modCore

theorem specClear (h : FormsKept s d) {c k : Nat} : FormsKept s (d.specClear c k) := by
  unfold Dev.specClear
  exact .foldl h.specFresh.setReg fun _ _ h => h.setReg

theorem writeSpecCtrl (h : FormsKept s d) {c k : Nat} {v : Word} : FormsKept s (d.writeSpecCtrl c k v) := by
  unfold Dev.writeSpecCtrl
  extract_lets _ _ d₂ _ _ _ d₆
  have h₂ : FormsKept s d₂ := .ite h.sf h.sf.sf
  have h₆ : FormsKept s d₆ := .ite h₂.sf.sf.sf.specFresh h₂.sf.sf.sf
  exact .ite h₆.specClear h₆

theorem writeSpecAddr (h : FormsKept s d) {c k : Nat} {hi : Bool} {v : Word} : FormsKept s (d.writeSpecAddr c k hi v) := by
  unfold Dev.writeSpecAddr
  exact .ite h h.sf

/-! ### `Sys2Proof/Machine/Swap` -/

theorem setSwap (h : FormsKept s d) {k : Nat} {x : Option Swap} : FormsKept s (d.setSwap k x) := h.other

theorem setPhys (h : FormsKept s d) {k l p : Nat} : FormsKept s (d.setPhys k l p) := h.setReg

theorem unparkFree (h : FormsKept s d) {c : Nat} : FormsKept s (d.unparkFree c) := by
  unfold Dev.unparkFree
  exact .ite h h.modCore

theorem swapEnds (h : FormsKept s d) {k code : Nat} : FormsKept s (d.swapEnds k code) := h.sf.sf.sf.logAt.raise

theorem retired (h : FormsKept s d) {k : Nat} : FormsKept s (d.retired k) := h.logAt.raise

theorem freshCore (h : FormsKept s d) {c : Nat} : FormsKept s (d.freshCore c) :=
  ⟨fun w => have ⟨core, cluster, imem, hbm⟩ := h.memory w
    ⟨storeWf_clearRange core _ _, cluster, storeWf_clearRange imem _ _, hbm⟩, fun w => FMap.wf_filter _ _ _ (h.regs w)⟩

theorem remap (h : FormsKept s d) {k l : Nat} : FormsKept s (d.remap k l) := by
  unfold Dev.remap
  exact .ite h.setPhys.sf h.setPhys.sf.sf

theorem swapReq (h : FormsKept s d) {k : Nat} : FormsKept s (d.swapReq k) := by
  unfold Dev.swapReq
  extract_lets _ _ _ _
  exact .ite h.sf.logAt.raise (.ite h.swapEnds (.ite h.swapEnds (.ite h.remap.freshCore.sf.sf.retired h.setSwap.sf.sf)))

theorem swapCancel (h : FormsKept s d) {k : Nat} : FormsKept s (d.swapCancel k) := by
  unfold Dev.swapCancel
  split
  · exact .ite h.setSwap.swapEnds.unparkFree h
  · exact h

theorem writeSwapCtrl (h : FormsKept s d) {k : Nat} {v : Word} : FormsKept s (d.writeSwapCtrl k v) := by
  unfold Dev.writeSwapCtrl
  extract_lets _ d₂
  have h₂ : FormsKept s d₂ := .ite h.sf.sf.swapCancel h.sf.sf
  exact .ite h₂.swapReq h₂

theorem sparePowered (h : FormsKept s d) {k : Nat} {pass : Bool} : FormsKept s (d.sparePowered k pass) := by
  unfold Dev.sparePowered
  split
  · exact .ite h (.ite h.setSwap.sf.swapTry h.setSwap.swapEnds.unparkFree)
  · exact h

theorem swapCopied (h : FormsKept s d) {k : Nat} : FormsKept s (d.swapCopied k) := by
  unfold Dev.swapCopied
  split
  · exact .ite h.setSwap h
  · exact h

theorem freshEngines (h : FormsKept s d) {c : Nat} : FormsKept s (d.freshEngines c) :=
  h.setEngine.setEngine.modCore.withRegs fun w => FMap.wf_filter _ _ _ w

/-! ### `Sys2Proof/Machine/Gate` -/

theorem setSramByte (h : FormsKept s d) {o : Nat} {b : Byte} : FormsKept s (d.setSramByte o b) := by
  unfold Dev.setSramByte
  exact .ite h.setCoreByte h.setClusterByte

/-! ### `Sys2Proof/Machine/Mem` -/

theorem setPoison (h : FormsKept s d) {u : Nat} {b : Bool} : FormsKept s (d.setPoison u b) := h.other

theorem setHbmByte (h : FormsKept s d) {a : Nat} {b : Byte} : FormsKept s (d.setHbmByte a b) :=
  ⟨fun w => have ⟨core, cluster, imem, hbm⟩ := h.memory w; ⟨core, cluster, imem, NMap.wf_set 0 a b hbm⟩, fun w => h.regs w⟩

theorem putHbm (h : FormsKept s d) {a : Nat} {bs : List Byte} : FormsKept s (d.putHbm a bs) := by
  induction bs generalizing d a with
  | nil => exact h
  | cons b bs ih => exact ih h.setHbmByte

theorem logHbm (h : FormsKept s d) {code u : Nat} : FormsKept s (d.logHbm code u) := h.logAt

theorem hbmCorrected (h : FormsKept s d) {u : Nat} : FormsKept s (d.hbmCorrected u) := h.bump.score

theorem hbmLost (h : FormsKept s d) {u code : Nat} : FormsKept s (d.hbmLost u code) := h.setPoison.bump.score.logHbm.raise

theorem mscCorrected (h : FormsKept s d) {u : Nat} : FormsKept s (d.mscCorrected u) := h.bump.score

theorem mscLost (h : FormsKept s d) {u : Nat} : FormsKept s (d.mscLost u) := by
  unfold Dev.mscLost
  extract_lets _ _ d₁ _ d₃
  have h₁ : FormsKept s d₁ := .bump (.ite h h.setPoison)
  have h₃ : FormsKept s d₃ := .ite h₁.score.logAt h₁.score.logHbm
  exact h₃.raise

theorem setLines (h : FormsKept s d) {l : List Line} : FormsKept s (d.setLines l) := h.other

theorem dropLineOf (h : FormsKept s d) {u : Nat} : FormsKept s (d.dropLineOf u) := h.setLines

theorem putLine (h : FormsKept s d) {l : Line} : FormsKept s (d.putLine l) := h.setLines

theorem askCompanion (h : FormsKept s d) {op : Nat} {r : HlkReq} {payload : List Byte} :
    FormsKept s (d.askCompanion op r payload) := h.takeTag.other.hlkSend

theorem writeBack (h : FormsKept s d) {l : Line} : FormsKept s (d.writeBack l) := by
  unfold Dev.writeBack
  exact .ite h.askCompanion h.setPoison

theorem evictLine (h : FormsKept s d) {l : Line} {errs : List MemErr} : FormsKept s (d.evictLine l errs) := by
  unfold Dev.evictLine
  extract_lets _
  split
  · split
    · exact h.dropLineOf.mscLost
    · exact h.dropLineOf.mscCorrected.writeBack
    · exact h.dropLineOf.writeBack
  · exact .ite h.dropLineOf.takeTag.hlkSend h.dropLineOf

theorem allocate (h : FormsKept s d) {l : Line} {ways : Option Nat} {errs : List MemErr} :
    FormsKept s (d.allocate l ways errs) := by
  unfold Dev.allocate
  extract_lets d₁
  have h₁ : FormsKept s d₁ := by
    unfold d₁
    split
    · exact h.evictLine
    · exact h
  exact h₁.putLine

theorem useLine (h : FormsKept s d) {l : Line} {hint : Nat} : FormsKept s (d.useLine l hint) := by
  unfold Dev.useLine
  exact .ite h.putLine (.ite h.putLine (.ite h.evictLine.incr h.putLine))

theorem fetchUnit (h : FormsKept s d) {u : Nat} {errs : List MemErr} : FormsKept s (d.fetchUnit u errs).2 := by
  unfold Dev.fetchUnit
  split
  · exact h.logHbm
  · split
    · exact h.hbmLost
    · exact h.hbmCorrected
    · exact h

theorem checkLine (h : FormsKept s d) {l : Line} {errs : List MemErr} : FormsKept s (d.checkLine l errs).2.2 := by
  unfold Dev.checkLine
  split
  · exact h
  · exact h.mscCorrected
  · exact .iteSndSnd h.dropLineOf.mscLost h.dropLineOf.bump

theorem readMiss (h : FormsKept s d) {u hint use : Nat} {errs : List MemErr} :
    FormsKept s (d.readMiss u hint use errs).2 := by
  unfold Dev.readMiss
  split
  next _ _ d₁ he =>
    have h₁ : FormsKept s d₁ := snd he h.fetchUnit
    split
    · exact h₁
    · extract_lets _
      split
      · exact h₁.incr.allocate
      · exact h₁.incr

theorem readUnit (h : FormsKept s d) {u hint use : Nat} {errs : List MemErr} :
    FormsKept s (d.readUnit u hint use errs).2 := by
  unfold Dev.readUnit
  split
  · exact h.readMiss
  · split
    next _ _ d₁ he₁ =>
      have h₁ : FormsKept s d₁ := sndSnd he₁ h.checkLine
      exact h₁.incr.useLine
    next _ d₁ he₁ =>
      have h₁ : FormsKept s d₁ := sndSnd he₁ h.checkLine
      exact h₁.readMiss
    next _ _ _ d₁ _ _ he₃ =>
      have h₁ : FormsKept s d₁ := sndSnd he₃ h.checkLine
      exact h₁

theorem writeUnit (h : FormsKept s d) {u : Nat} {whole : Bool} {hint use : Nat} {errs : List MemErr} :
    FormsKept s (d.writeUnit u whole hint use errs).2 := by
  unfold Dev.writeUnit
  extract_lets miss
  have hmiss : ∀ {d : Dev}, FormsKept s d → FormsKept s (miss d).2 := by
    intro d h
    unfold miss
    split
    next d₁ he =>
      have h₁ : FormsKept s d₁ := snd he (.iteSnd h h.fetchUnit)
      refine .iteSnd h₁ ?_
      split
      · exact h₁.allocate
      · exact h₁.setPoison
  clear_value miss
  split
  · exact hmiss h
  · refine .iteSnd h.putLine ?_
    split
    next he => exact (sndSnd he h.checkLine).putLine
    next he => exact hmiss (sndSnd he h.checkLine)
    next he => exact sndSnd he h.checkLine

theorem readHbm (h : FormsKept s d) {a n hint use : Nat} {errs : List MemErr} :
    FormsKept s (d.readHbm a n hint use errs).2 := by
  unfold Dev.readHbm
  exact .foldlSnd h fun _ _ h => h.readUnit

theorem writeHbm (h : FormsKept s d) {a : Nat} {bytes : List Byte} {hint use : Nat} {errs : List MemErr} :
    FormsKept s (d.writeHbm a bytes hint use errs).2 := by
  unfold Dev.writeHbm
  refine .foldlSnd h fun ⟨_, d⟩ u h => ?_
  exact .ite h.writeUnit.putHbm h.writeUnit

theorem setDir (h : FormsKept s d) {l : List DirLine} : FormsKept s (d.setDir l) := h.other

theorem recallLine (h : FormsKept s d) {u : Nat} {inv : Bool} : FormsKept s (d.recallLine u inv) := by
  unfold Dev.recallLine
  split
  · exact .ite h h.takeTag.setDir.hlkSend
  · exact h

theorem hbmWaits (h : FormsKept s d) {a n : Nat} {write : Bool} : FormsKept s (d.hbmWaits a n write).2 := by
  unfold Dev.hbmWaits
  exact .foldlSnd h fun _ _ h => .iteSnd h.recallLine h

theorem holdAccess (h : FormsKept s d) {w : Waiting} : FormsKept s (d.holdAccess w) := h.other

theorem hbmHeld (h : FormsKept s d) {o n : Nat} {write : Bool} : FormsKept s (d.hbmHeld o n write).2 := by
  unfold Dev.hbmHeld
  exact .iteSnd h h.hbmWaits

theorem mscFlush (h : FormsKept s d) {q : Nat} : FormsKept s (d.mscFlush q) := h.sf.other

theorem mscUnkeep (h : FormsKept s d) {q : Nat} : FormsKept s (d.mscUnkeep q) := h.sf.other

theorem cleanLine (h : FormsKept s d) {u : Nat} {errs : List MemErr} : FormsKept s (d.cleanLine u errs) := by
  unfold Dev.cleanLine
  split
  · split
    · exact h
    · split
      · exact h.dropLineOf.mscLost
      · exact .writeBack (.setLines (.ite h.mscCorrected h))
  · exact h

theorem flushDone (h : FormsKept s d) {q : Nat} {errs : List MemErr} : FormsKept s (d.flushDone q errs) := by
  unfold Dev.flushDone
  split
  · exact .sf (.other (.foldl h fun _ _ h => h.cleanLine))
  · exact h

theorem unkeepDone (h : FormsKept s d) {q : Nat} : FormsKept s (d.unkeepDone q) := by
  unfold Dev.unkeepDone
  split
  · exact h.setLines.other.sf
  · exact h

theorem cacheEmpty (h : FormsKept s d) {errs : List MemErr} : FormsKept s (d.cacheEmpty errs) := by
  unfold Dev.cacheEmpty
  exact .setLines (.foldl h fun _ _ h => h.evictLine)

theorem scrub (h : FormsKept s d) {u : Nat} {ecc : Ecc} : FormsKept s (d.scrub u ecc) := by
  unfold Dev.scrub
  split
  · exact h
  · split
    · exact h
    · exact h.hbmCorrected
    · exact h.hbmLost

theorem odecc (h : FormsKept s d) {q i n : Nat} : FormsKept s (d.odecc q i n) := by
  unfold Dev.odecc
  exact .ite h.bump.other.score h.bump.other

theorem scrubPass (h : FormsKept s d) {q : Nat} {counts : List Nat} : FormsKept s (d.scrubPass q counts) := by
  unfold Dev.scrubPass
  exact .sf (.foldl h fun _ _ h => .ite h h.odecc)

theorem stackTemps (h : FormsKept s d) {q : Nat} {temps : List Nat} : FormsKept s (d.stackTemps q temps) := by
  unfold Dev.stackTemps
  exact .sf (.foldl h fun _ _ h => h.sf)

theorem dropBand (h : FormsKept s d) {b : Nat} : FormsKept s (d.dropBand b) :=
  ⟨fun w => have ⟨core, cluster, imem, hbm⟩ := h.memory w; ⟨core, cluster, imem, FMap.wf_filter _ _ _ hbm⟩, fun w => h.regs w⟩

theorem mapoutReq (h : FormsKept s d) {q : Nat} : FormsKept s (d.mapoutReq q) := by
  unfold Dev.mapoutReq
  extract_lets _ _ _ _ _ _
  split
  · exact h.sf.sf.sf.sf.logAt
  · exact h.sf.sf.sf.dropBand.sf.other

theorem restoreSubst (h : FormsKept s d) : FormsKept s (d.restoreSubst) := h.other

theorem mapoutFenced (h : FormsKept s d) : FormsKept s (d.mapoutFenced) := by
  unfold Dev.mapoutFenced
  split
  · exact .ite h.dropBand.other.sf h
  · exact h

theorem mapoutCommit (h : FormsKept s d) {m : Mapout} :
    FormsKept s (d.mapoutCommit m) := h.setReg.sf.sf.sf.other.sf.sf.sf.logAt.raise

theorem frameCopied (h : FormsKept s d) {bad fixed : List Nat} : FormsKept s (d.frameCopied bad fixed) := by
  unfold Dev.frameCopied
  split
  · split
    · exact .ite h (.ite (.mapoutCommit (.sf (.other (.foldl (.foldl h fun _ _ h => h.hbmCorrected) fun _ _ h => h.hbmLost)))) (.sf (.other (.foldl (.foldl h fun _ _ h => h.hbmCorrected) fun _ _ h => h.hbmLost))))
    · exact h
  · exact h

/-! ### `Sys2Proof/Machine/Group` -/

theorem setCollSlot (h : FormsKept s d) {n : Nat} {x : CollSlot} : FormsKept s (d.setCollSlot n x) := h.other

theorem setRunOf (h : FormsKept s d) {n : Nat} {r : Option CollRun} : FormsKept s (d.setRunOf n r) := h.setCollSlot

theorem logColl (h : FormsKept s d) {code n inst : Nat} {suspect : Option Nat} :
    FormsKept s (d.logColl code n inst suspect) := h.report

theorem groupTaken (h : FormsKept s d) {n : Nat} : FormsKept s (d.groupTaken n) := by
  unfold Dev.groupTaken
  exact .ite h.setReg.sf.sf h.sf.logColl

theorem cfgFields (h : FormsKept s d) {n : Nat} {v : Word} : FormsKept s (d.cfgFields n v) := h.setReg

theorem configured (h : FormsKept s d) {n : Nat} {v : Word} {members : List Nat} :
    FormsKept s (d.configured n v members) := h.cfgFields.setCollSlot

theorem groupUnread (h : FormsKept s d) {n : Nat} {v : Word} : FormsKept s (d.groupUnread n v) := h.configured.groupTaken

theorem readTable (h : FormsKept s d) {n : Nat} {v : Word} {errs : List MemErr} : FormsKept s (d.readTable n v errs) := by
  unfold Dev.readTable
  split
  · exact h.groupUnread
  · split
    next _ d₁ he₁ =>
      have h₁ : FormsKept s d₁ := snd he₁ h.hbmHeld
      exact h₁.holdAccess
    next _ d₁ he₁ =>
      have h₁ : FormsKept s d₁ := snd he₁ h.hbmHeld
      exact .ite h₁.readHbm.configured.groupTaken h₁.readHbm.groupUnread

theorem writeGroupCfg (h : FormsKept s d) {n : Nat} {v : Word} {errs : List MemErr} :
    FormsKept s (d.writeGroupCfg n v errs) := by
  unfold Dev.writeGroupCfg
  exact .ite h.logColl (.ite h.cfgFields (.ite h.readTable h.configured.groupTaken))

theorem writeGroup (h : FormsKept s d) {name : RegName} {n : Nat} {v : Word} : FormsKept s (d.writeGroup name n v) := by
  unfold Dev.writeGroup
  exact .ite h.logColl h.setReg

theorem readBuf (h : FormsKept s d) {a n : Nat} {errs : List MemErr} : FormsKept s (d.readBuf a n errs).2.2 := by
  unfold Dev.readBuf
  exact .iteSndSnd h.readHbm h

theorem writeBuf (h : FormsKept s d) {a : Nat} {bs : List Byte} {errs : List MemErr} :
    FormsKept s (d.writeBuf a bs errs).2 := by
  unfold Dev.writeBuf
  exact .iteSnd h.writeHbm (.foldl h fun _ _ h => h.setSramByte)

theorem bufWaits (h : FormsKept s d) {a n : Nat} {write : Bool} : FormsKept s (d.bufWaits a n write).2 := by
  unfold Dev.bufWaits
  exact .iteSnd h.hbmHeld h

theorem sendColl (h : FormsKept s d) {p : Packet} : FormsKept s (d.sendColl p) := h.takeMsg.send

theorem collMsg (h : FormsKept s d) {n : Nat} {p : Packet} : FormsKept s (d.collMsg n p).2 := by
  unfold Dev.collMsg
  extract_lets _
  split
  · exact h
  · exact h.takeMsg.setCollSlot

theorem sendCollData (h : FormsKept s d) {n : Nat} {i : CollInst} {p : Packet} :
    FormsKept s (d.sendCollData n i p) := h.collMsg.takeDseq.track

/-! ### `Sys2Proof/Machine/Coll` -/

theorem modRun (h : FormsKept s d) {n : Nat} {f : CollRun → CollRun} : FormsKept s (d.modRun n f) := h.setRunOf

theorem recPhase (h : FormsKept s d) {i : CollInst} {phase : Nat} : FormsKept s (d.recPhase i phase) := by
  unfold Dev.recPhase
  exact .ite h.sf h

theorem countColl (h : FormsKept s d) {invalid saturate : Nat} : FormsKept s (d.countColl invalid saturate) := by
  unfold Dev.countColl
  extract_lets d₁
  have h₁ : FormsKept s d₁ := .ite h h.bump
  exact .ite h₁ h₁.bump

theorem closeSlot (h : FormsKept s d) {n code : Nat} : FormsKept s (d.closeSlot n code) := h.sf.sf

theorem sendMarker (h : FormsKept s d) {n num : Nat} {y : CollDesc} {kind value origin : Nat} :
    FormsKept s (d.sendMarker n num y kind value origin) := by
  unfold Dev.sendMarker
  exact .foldl h fun _ _ h => h.sendColl

theorem dropColl (h : FormsKept s d) {n : Nat} {i : CollInst} : FormsKept s (d.dropColl n i) := h.other

theorem collStop (h : FormsKept s d) {n code : Nat} {suspect : Option Nat} : FormsKept s (d.collStop n code suspect) := by
  unfold Dev.collStop
  split
  · exact h
  · split
    · exact .ite h (.ite (.ite h.setRunOf h) h.setRunOf.logColl)
    · exact h.setRunOf.dropColl.sf.logColl.raise

theorem collAbort (h : FormsKept s d) {n code : Nat} {suspect : Option Nat} : FormsKept s (d.collAbort n code suspect) := by
  unfold Dev.collAbort
  split
  · exact h
  · split
    · exact h.collStop
    · exact h.sendMarker.collStop

theorem residue (h : FormsKept s d) {n num : Nat} {adds : List (Nat × Nat)} {checks : List CollCheck} :
    FormsKept s (d.residue n num adds checks).2 := by
  unfold Dev.residue
  extract_lets _
  exact .iteSnd h (.iteSnd h.bump.score.collAbort (.foldl h fun _ _ h => h.bump.score.logColl))

theorem collWrite (h : FormsKept s d) {n first : Nat} {vals : List Nat} {errs : List MemErr} :
    FormsKept s (d.collWrite n first vals errs) := by
  unfold Dev.collWrite
  split
  · exact h
  · extract_lets _
    exact .ite h.writeBuf.collAbort (.ite h.writeBuf.modRun.sf h.writeBuf.modRun)

theorem collOut (h : FormsKept s d) {n first : Nat} {vals : List Nat} {errs : List MemErr} :
    FormsKept s (d.collOut n first vals errs) := h.modRun.collWrite

theorem collSendElems (h : FormsKept s d) {n stage vc w dst first size : Nat} {vals : List Nat} {transit : Option Nat} :
    FormsKept s (d.collSendElems n stage vc w dst first size vals transit) := by
  unfold Dev.collSendElems
  split
  · exact h
  · exact .foldl h fun _ _ h => h.sendCollData

theorem treeDown (h : FormsKept s d) {n first : Nat} {vals : List Nat} {errs : List MemErr} :
    FormsKept s (d.treeDown n first vals errs) := by
  unfold Dev.treeDown
  split
  · exact h
  · exact .collOut (.foldl h fun _ _ h => h.collSendElems)

theorem treeUp (h : FormsKept s d) {n first : Nat} {checks : List CollCheck} {errs : List MemErr} :
    FormsKept s (d.treeUp n first checks errs) := by
  unfold Dev.treeUp
  split
  · exact h
  · extract_lets _ _ _ _ _ _
    split
    · exact h
    · split
      · split
        next _ d₁ he₃ =>
          have h₁ : FormsKept s d₁ := snd he₃ h.residue
          exact h₁
        next _ d₁ he₃ =>
          have h₁ : FormsKept s d₁ := snd he₃ h.residue
          extract_lets _
          split
          · exact h₁.countColl.collSendElems
          · split
            · exact h₁.countColl.countColl.treeDown

theorem ringApply (h : FormsKept s d) {n : Nat} {a : RingAcc} {checks : List CollCheck} {errs : List MemErr} :
    FormsKept s (d.ringApply n a checks errs) := by
  unfold Dev.ringApply
  split
  · exact h
  · extract_lets _ _ _
    split
    next _ d₁ he₁ =>
      have h₁ : FormsKept s d₁ := snd he₁ h.residue
      exact h₁
    next _ d₁ he₁ =>
      have h₁ : FormsKept s d₁ := snd he₁ h.residue
      extract_lets _ _ d₄
      have h₄ : FormsKept s d₄ := .foldl h₁.modRun.countColl fun _ _ h' => .foldl h' fun _ _ h => h.collSendElems
      exact .foldl h₄ fun _ _ h => h.collWrite

theorem directPump (h : FormsKept s d) {n k : Nat} : FormsKept s (d.directPump n k) := by
  induction k generalizing d with
  | zero => exact h
  | succ k ih =>
    unfold Dev.directPump
    split
    · split
      · exact .ite (ih h.setRunOf.sendCollData) h
      · exact h
    · exact h

theorem collMove (h : FormsKept s d) {n : Nat} {result : List Nat} {checks : List CollCheck} {errs : List MemErr} :
    FormsKept s (d.collMove n result checks errs) := by
  unfold Dev.collMove
  split
  · exact h
  · extract_lets _ _ _ _ _ _ _ _ _ _ _
    split
    · split
      · split
        · exact h.sf.recPhase.sf.setRunOf.countColl.collOut
      · split
        · exact h.sf.recPhase.sf.setRunOf.collOut
        · exact h.sf.recPhase.sf.setRunOf
    · exact .ite (.ite (.foldl h.sf.recPhase.sf.setRunOf fun _ _ h => h.treeDown) h.sf.recPhase.sf.setRunOf) (.foldl h.sf.recPhase.sf.setRunOf fun _ _ h => h.treeUp)
    · exact h.sf.recPhase.sf.setRunOf.ringApply
    · exact h.sf.recPhase.sf.setRunOf.setRunOf.collOut.directPump
    · exact h.sf.recPhase.sf.setRunOf

theorem sendAgree (h : FormsKept s d) {n stage : Nat} {dsts : List Nat} {v : CollVal} :
    FormsKept s (d.sendAgree n stage dsts v) := by
  unfold Dev.sendAgree
  split
  · exact h
  · exact .foldl h fun _ _ h => h.sendColl

theorem llDone (h : FormsKept s d) {n : Nat} {v : CollVal} {checks : List CollCheck} {errs : List MemErr} :
    FormsKept s (d.llDone n v checks errs) := by
  unfold Dev.llDone
  exact .ite h.collStop h.collMove

theorem llCombine (h : FormsKept s d) {n num stage : Nat} {y : CollDesc} {vs : List CollVal} {checks : List CollCheck} :
    FormsKept s (d.llCombine n num stage y vs checks).2 := by
  unfold Dev.llCombine
  extract_lets t _
  split
  next d₁ he => exact snd he h.residue
  next d₁ he =>
    have h₁ : FormsKept s d₁ := snd he h.residue
    dsimp only
    exact h₁.countColl

theorem llAdvance (h : FormsKept s d) {n : Nat} {checks : List CollCheck} {errs : List MemErr} {k : Nat} :
    FormsKept s (d.llAdvance n checks errs k) := by
  induction k generalizing d with
  | zero => exact h
  | succ k ih =>
    unfold Dev.llAdvance
    split
    · exact h
    · split
      · exact h
      · extract_lets -underBinder g vs
        clear_value g vs
        split
        · split
          · split
            · exact h
            · split
              next he => exact snd he h.llCombine
              next d₁ he =>
                have h₁ : FormsKept s d₁ := snd he h.llCombine
                exact h₁.sendAgree.llDone
          · split
            · exact h.llDone
            · exact h
        · split
          · split
            · exact h.llDone
            · exact h
          · extract_lets -underBinder line ws
            clear_value line ws
            split
            · exact h
            · split
              next he => exact snd he h.llCombine
              next d₁ he =>
                have h₁ : FormsKept s d₁ := snd he h.llCombine
                refine ih ?_
                split
                · exact h₁.setRunOf.sendAgree
                · exact h₁.setRunOf

theorem llEnter (h : FormsKept s d) {n : Nat} {checks : List CollCheck} {errs : List MemErr} :
    FormsKept s (d.llEnter n checks errs) := by
  unfold Dev.llEnter
  split
  · exact h
  · extract_lets _ _ _ _ _ _ d₃
    have h₃ : FormsKept s d₃ := .ite (.foldl h.setRunOf.sendAgree fun _ _ h => h.collSendElems) h.setRunOf.sendAgree
    exact h₃.llAdvance

theorem ackColl (h : FormsKept s d) {p : Packet} : FormsKept s (d.ackColl p) := h.send

theorem keepEarly (h : FormsKept s d) {n : Nat} {p : Packet} : FormsKept s (d.keepEarly n p) := by
  unfold Dev.keepEarly
  exact .ite h h.setCollSlot

theorem inputFrom (h : FormsKept s d) {n rank : Nat} : FormsKept s (d.inputFrom n rank) := by
  unfold Dev.inputFrom
  split
  · exact h
  · extract_lets _ _
    split
    · exact h.setRunOf
    · split
      · exact h.setRunOf.sf
      · exact h.setRunOf.sf

theorem takeAgree (h : FormsKept s d) {n : Nat} {p : Packet} {checks : List CollCheck} {errs : List MemErr} :
    FormsKept s (d.takeAgree n p checks errs) := by
  unfold Dev.takeAgree
  split
  · exact h
  · split
    · exact h
    · exact .ite h h.setRunOf.inputFrom.llAdvance

theorem takeData (h : FormsKept s d) {n : Nat} {p : Packet} {checks : List CollCheck} {errs : List MemErr} :
    FormsKept s (d.takeData n p checks errs) := by
  unfold Dev.takeData
  split
  · exact h
  · split
    · exact h
    · extract_lets _ _ _ _ _ _ d₂
      have h₂ : FormsKept s d₂ := .foldl h.setRunOf.inputFrom fun _ _ h => h.collSendElems
      split
      · exact h
      · split
        · exact .ite h₂.collOut h₂.modRun
        · exact .ite h.setRunOf.inputFrom.modRun.treeUp h.setRunOf.inputFrom.treeDown
        · split
          · exact h.setRunOf.inputFrom
          · exact h.setRunOf.inputFrom.ringApply
        · exact h.setRunOf.inputFrom.collOut
        · exact h.setRunOf.inputFrom

theorem takeEarly (h : FormsKept s d) {n : Nat} {checks : List CollCheck} {errs : List MemErr} :
    FormsKept s (d.takeEarly n checks errs) := by
  unfold Dev.takeEarly
  extract_lets _ _ _
  refine .foldl h.setCollSlot fun _ _ h => ?_
  split
  · exact h.keepEarly
  · exact .ite h.takeAgree (.ite h.takeData (.ite h.keepEarly h))

/-! ### `Sys2Proof/Machine/CollCmds` -/

theorem castSend (h : FormsKept s d) {n : Nat} {i : CollInst} {p : Packet} {dst : Nat} :
    FormsKept s (d.castSend n i p dst) := h.sendCollData

theorem castStart (h : FormsKept s d) {n : Nat} : FormsKept s (d.castStart n) := by
  unfold Dev.castStart
  split
  · exact h
  · extract_lets _ _ _ _ _ _ _ _
    exact .foldl h.sf.setRunOf.recPhase fun _ _ h' => .foldl h' fun _ _ h => h.castSend

theorem setCasts (h : FormsKept s d) {n : Nat} {l : List CollCast} : FormsKept s (d.setCasts n l) := h.setCollSlot

theorem putCast (h : FormsKept s d) {n : Nat} {c : CollCast} : FormsKept s (d.putCast n c) := h.setCasts

theorem castReport (h : FormsKept s d) {n root inst : Nat} {y : CollDesc} : FormsKept s (d.castReport n root inst y) := by
  unfold Dev.castReport
  split
  · exact h
  · exact .ite h.putCast.sendColl h

theorem castData (h : FormsKept s d) {n : Nat} {p : Packet} {errs : List MemErr} : FormsKept s (d.castData n p errs) := by
  unfold Dev.castData
  extract_lets _ root _ _ fits c
  split
  next c d₁ he =>
    have h₁ : FormsKept s d₁ := by
      refine snd he ?_
      split
      · exact h
      · exact .ite h h.logColl
    extract_lets d₂ d₃
    have h₂ : FormsKept s d₂ := h₁.ackColl
    have h₃ : FormsKept s d₃ := .foldl h₂ fun _ _ h => h.castSend
    refine .ite h₂ ?_
    split
    next d₄ he =>
      have h₄ : FormsKept s d₄ := snd he (.iteSnd h₃.writeBuf h₃)
      exact .ite h₄.putCast (FormsKept.ite h₄.putCast.update h₄.putCast).castReport

theorem castCounts (h : FormsKept s d) {n root inst child reached missed : Nat} {y : CollDesc} :
    FormsKept s (d.castCounts n root inst child reached missed y) := by
  unfold Dev.castCounts
  extract_lets _
  split
  · exact h.modRun
  · split
    · exact .ite h.putCast.castReport h
    · exact h

theorem castPrune (h : FormsKept s d) {n : Nat} {p : Packet} : FormsKept s (d.castPrune n p) := by
  unfold Dev.castPrune
  extract_lets _ _
  split
  · exact h.other.castCounts
  · exact h

theorem barrierEnd (h : FormsKept s d) {n : Nat} {v : CollVal} : FormsKept s (d.barrierEnd n v) := by
  unfold Dev.barrierEnd
  extract_lets _ _
  split
  · exact h.sendAgree.collStop
  · split
    · exact h.sendAgree.setRunOf.sf.recPhase
    · exact h.sendAgree

theorem barrierCheck (h : FormsKept s d) {n : Nat} : FormsKept s (d.barrierCheck n) := by
  unfold Dev.barrierCheck
  split
  · exact h
  · extract_lets _ _ _ d₁ _ _
    have h₁ : FormsKept s d₁ := .ite h.sf.sf h
    exact .ite h₁ (.ite (.ite h₁.modRun.barrierEnd h₁.modRun) h₁.modRun.sendAgree)

theorem barrierTake (h : FormsKept s d) {n : Nat} {p : Packet} {release : Bool} :
    FormsKept s (d.barrierTake n p release) := by
  unfold Dev.barrierTake
  split
  · exact h
  · split
    · exact h
    · exact .ite h (.ite h.barrierEnd (.ite h h.setRunOf.inputFrom.barrierCheck))

theorem barrierEnter (h : FormsKept s d) {n : Nat} : FormsKept s (d.barrierEnter n) := by
  unfold Dev.barrierEnter
  split
  · exact h
  · extract_lets _ _ _ _ _ _
    exact .foldl h.setRunOf.barrierCheck.setCollSlot fun _ _ h => .ite h.keepEarly (.ite h.barrierTake h)

theorem collPop (h : FormsKept s d) {n : Nat} : FormsKept s (d.collPop n) := h.other.setRunOf.setCollSlot.sf

theorem collFault (h : FormsKept s d) {n num : Nat} {i : CollInst} {touched : Bool} {code detail : Nat} :
    FormsKept s (d.collFault n num i touched code detail) := h.setReg.modCore.sf.sf.sf.sf.sf.coreFault

theorem collBegin (h : FormsKept s d) {n : Nat} {run : CollRun} {checks : List CollCheck} {errs : List MemErr} :
    FormsKept s (d.collBegin n run checks errs) := by
  unfold Dev.collBegin
  split
  · exact h.collStop.takeEarly
  · split
    · exact h.castStart
    · exact h.barrierEnter
    · exact h.llEnter.takeEarly

theorem collStart (h : FormsKept s d) {n : Nat} {ecc src : Ecc} {checks : List CollCheck} {errs : List MemErr} :
    FormsKept s (d.collStart n ecc src checks errs) := by
  unfold Dev.collStart
  split
  · exact h
  · extract_lets -underBinder num _ d₁ b y g k
    have h₁ : FormsKept s d₁ := h.storeEcc
    clear_value d₁ b y g k
    split
    · exact h
    · split
      · exact h.other.logColl.collFault.kick
      · split
        · exact h₁.collPop.collFault.kick
        · split
          · exact (FormsKept.ite h₁.storeEcc h₁).collPop.collFault.kick
          · split
            next he => exact snd he h.bufWaits
            next =>
              extract_lets -underBinder d₂
              have h₂ : FormsKept s d₂ := .ite h₁.storeEcc h₁
              clear_value d₂
              split
              next d₃ he =>
                have h₃ : FormsKept s d₃ := sndSnd he h₂.readBuf
                extract_lets _ d₄ d₅
                have h₄ : FormsKept s d₄ := h₃.setRunOf.sf
                have h₅ : FormsKept s d₅ := .ite h₄.sf.sf h₄
                exact .ite h₅.collAbort h₅.collBegin

theorem takeMarker (h : FormsKept s d) {n : Nat} {p : Packet} : FormsKept s (d.takeMarker n p) := by
  unfold Dev.takeMarker
  extract_lets _ _
  split
  · exact .ite h.sendMarker.collStop (.ite h.sendMarker (.ite h.sendMarker.sf h.sendMarker.keepEarly))
  · exact .ite h.sendMarker (.ite h.sendMarker.closeSlot.logColl h.sendMarker.keepEarly)

theorem straggler (h : FormsKept s d) {n num dev : Nat} : FormsKept s (d.straggler n num dev) := h.logColl.accuse.raise

theorem waitingOn (h : FormsKept s d) {n dev : Nat} : FormsKept s (d.waitingOn n dev) := by
  unfold Dev.waitingOn
  exact .ite h h.sf.sf

theorem takeWaiting (h : FormsKept s d) {n : Nat} {p : Packet} : FormsKept s (d.takeWaiting n p) := by
  unfold Dev.takeWaiting
  extract_lets _ _
  split
  · exact .ite h.straggler (.waitingOn (.ite h.straggler h.straggler.setRunOf))
  · exact h.straggler

theorem stragglerTimeout (h : FormsKept s d) {n : Nat} : FormsKept s (d.stragglerTimeout n) := by
  unfold Dev.stragglerTimeout
  split
  · exact .waitingOn (.straggler (.foldl h fun _ _ h => h.sendColl))
  · exact h

theorem collStatus (h : FormsKept s d) {n : Nat} : FormsKept s (d.collStatus n) := by
  unfold Dev.collStatus
  split
  · exact h
  · extract_lets _ _ _ d₂ _ _ _
    have h₂ : FormsKept s d₂ := .ite h.wrStore.logColl h.wrStore
    split
    · exact h
    · exact .ite h h₂.incr.collPop.modEntry.sf.sf.kick
    · extract_lets _ _ d₈
      have h₈ : FormsKept s d₈ := .ite h.wrStore.collPop.sf.closeSlot h.wrStore.collPop.sf.sf
      exact h₈.collFault.kick

theorem abortSlot (h : FormsKept s d) {n : Nat} : FormsKept s (d.abortSlot n) := by
  unfold Dev.abortSlot
  split
  · exact h
  · split
    · exact h.collAbort
    · exact h.sendMarker.closeSlot.logColl

theorem loseMember (h : FormsKept s d) {dev : Nat} {lost : Nat → Bool} : FormsKept s (d.loseMember dev lost) := by
  unfold Dev.loseMember
  refine .foldl h fun _ _ h => ?_
  split
  · split
    · exact .ite h.collAbort h.collStop
    · exact h.closeSlot.logColl
  · exact h

theorem memberLost (h : FormsKept s d) {dev : Nat} : FormsKept s (d.memberLost dev) := h.loseMember

theorem homeCoreLost (h : FormsKept s d) {c : Nat} : FormsKept s (d.homeCoreLost c) := h.loseMember

theorem consume (h : FormsKept s d) {p : Packet} : FormsKept s (d.consume p) := h.other

theorem collAcked (h : FormsKept s d) {r : Req} : FormsKept s (d.collAcked r) := h.dropReq.directPump

theorem collTimeout (h : FormsKept s d) {r : Req} : FormsKept s (d.collTimeout r) := by
  unfold Dev.collTimeout
  extract_lets _ _
  exact .ite h.dropReq.bump.track (.ite h.castPrune h.dropReq.accuse.collAbort)

theorem collDataIn (h : FormsKept s d) {n : Nat} {p : Packet} {checks : List CollCheck} {errs : List MemErr} :
    FormsKept s (d.collDataIn n p checks errs) := by
  unfold Dev.collDataIn
  split
  · exact h.castData
  · extract_lets _
    split
    · exact h.ackColl.keepEarly
    · split
      · split
        · exact h.ackColl
        · exact .ite h.ackColl.takeData h.ackColl.keepEarly
        · exact h.ackColl.takeData
      · exact .ite h.ackColl.keepEarly h.ackColl

theorem collAgreeIn (h : FormsKept s d) {n : Nat} {p : Packet} {checks : List CollCheck} {errs : List MemErr} :
    FormsKept s (d.collAgreeIn n p checks errs) := by
  unfold Dev.collAgreeIn
  split
  · exact h.keepEarly
  · exact .ite h.keepEarly (.ite h.takeAgree.takeEarly h)

/-! ### `Sys2Proof/Machine/Fabric` -/

theorem putFace (h : FormsKept s d) {f : Nat} {p : Packet} : FormsKept s (d.putFace f p) := h.other

theorem dropPacket (h : FormsKept s d) {f : Fld} {code face : Nat} {p : Packet} :
    FormsKept s (d.dropPacket f code face p) := h.bump.logXfb

theorem refuse (h : FormsKept s d) {p : Packet} {code : Nat} : FormsKept s (d.refuse p code) := h.send

theorem marks (h : FormsKept s d) {vc q : Nat} {draw : Option Bool} : FormsKept s (d.marks vc q draw).2 := by
  unfold Dev.marks
  extract_lets _ _
  split
  · exact h
  · split
    · exact h
    · split
      · exact h
      · split
        · exact h
        · exact h.draw

theorem forward (h : FormsKept s d) {f : Nat} {p : Packet} {was : Buffered} {draw : Option Bool} :
    FormsKept s (d.forward f p was draw) := by
  unfold Dev.forward
  split
  next _ _ d₁ he =>
    have h₁ : FormsKept s d₁ := snd he (.iteSnd h h.marks)
    exact .other (.ite h₁.incr h₁)

theorem setCredits (h : FormsKept s d) {vc : Nat} {l : List Nat} : FormsKept s (d.setCredits vc l) := h.other

theorem buffer (h : FormsKept s d) {p : Packet} {from_ : Option Nat} : FormsKept s (d.buffer p from_) := h.other

theorem deliver (h : FormsKept s d) {p : Packet} : FormsKept s (d.deliver p) := by
  unfold Dev.deliver
  exact .ite h.logXfb (.ite h.other (.ite h (.ite h.other (.ite h.logAt.refuse h.dropPacket))))

theorem routePacket (h : FormsKept s d) {p : Packet} {from_ : Option Nat} {draw : Option Bool} :
    FormsKept s (d.routePacket p from_ draw) := by
  unfold Dev.routePacket
  extract_lets _
  split
  · exact h.dropPacket
  · split
    · exact h.other
    · split
      · exact h.dropPacket
      · split
        · exact h.dropPacket
        · split
          · exact h.deliver
          · exact h.dropPacket
          · exact .ite h.forward (.ite h h.buffer)
          · split
            · exact h.setCredits.forward
            · exact h.buffer

theorem packetRoute (h : FormsKept s d) {from_ : Option Nat} {p : Packet} {free : List Nat} {draw : Bool} :
    FormsKept s (d.packetRoute from_ p free draw) := by
  unfold Dev.packetRoute
  split
  · exact h
  · split
    · exact .ite h (.routePacket (.setCredits (.ite h.other.incr.sf h.other.incr)))
    · exact .ite h.other.setCredits.routePacket h

theorem unbuffer (h : FormsKept s d) {b : Buffered} : FormsKept s (d.unbuffer b) := h.other

theorem reroute (h : FormsKept s d) : FormsKept s (d.reroute) := by
  unfold Dev.reroute
  exact .foldl h fun _ _ h => h.unbuffer.routePacket

theorem sendNext (h : FormsKept s d) {f : Nat} : FormsKept s (d.sendNext f) := by
  unfold Dev.sendNext
  split
  · exact h
  · split
    · exact h
    · exact h.other.incr

theorem routerTick (h : FormsKept s d) : FormsKept s (d.routerTick) := by
  unfold Dev.routerTick
  extract_lets d₁
  have h₁ : FormsKept s d₁ := .ite h (.foldl h fun _ _ h => h.sendNext)
  exact .ite h₁ h₁.reroute

theorem faceTake (h : FormsKept s d) {f : Nat} {it : OptItem} : FormsKept s (d.faceTake f it) := by
  unfold Dev.faceTake
  extract_lets _ _
  split
  · exact h.other
  · exact .ite h (.ite h.other h.other)

theorem escape (h : FormsKept s d) {p : Packet} : FormsKept s (d.escape p) := by
  unfold Dev.escape
  split
  · exact .ite h.unbuffer.routePacket h
  · exact h

theorem holdExpiry (h : FormsKept s d) {p : Packet} : FormsKept s (d.holdExpiry p) := by
  unfold Dev.holdExpiry
  split
  · extract_lets _
    split
    · split
      · exact h.unbuffer.dropPacket.castPrune
      · exact h.unbuffer.dropPacket
    · exact h.unbuffer.dropPacket
  · exact h

theorem vc0Stuck (h : FormsKept s d) {p : Packet} : FormsKept s (d.vc0Stuck p) := by
  unfold Dev.vc0Stuck
  split
  · exact .ite h.unbuffer.dropPacket h
  · exact h

theorem setCircuits (h : FormsKept s d) {l : List Circuit} : FormsKept s (d.setCircuits l) := h.other.sf

theorem transitTearOut (h : FormsKept s d) {n : Nat} : FormsKept s (d.transitTearOut n) := by
  unfold Dev.transitTearOut
  extract_lets _ _ _
  split
  · exact .ite h.setCircuits h.setCircuits.putFace
  · exact h

theorem slotRefused (h : FormsKept s d) {n cause code : Nat} : FormsKept s (d.slotRefused n cause code) := h.sf.sf.sf.logXfb

theorem transitRefused (h : FormsKept s d) {n cause code : Nat} :
    FormsKept s (d.transitRefused n cause code) := h.slotRefused.transitTearOut

theorem transitReply (h : FormsKept s d) {p : Packet} : FormsKept s (d.transitReply p) := by
  unfold Dev.transitReply
  split
  · exact h
  · extract_lets _
    exact .ite (.ite h.sf.sf h.transitRefused) (.ite h.sf h)

theorem transitSetup (h : FormsKept s d) {from_ : Option Nat} {p : Packet} {nextOwn : Bool} :
    FormsKept s (d.transitSetup from_ p nextOwn) := by
  unfold Dev.transitSetup
  extract_lets _ _ _ _ _ _
  split
  · split
    · split
      · exact h.bump.slotRefused
      · exact h.bump
    · exact h.bump.logXfb.send
  · split
    · exact .ite h.setCircuits.transitReply h.setCircuits.send
    · split
      · exact h.setCircuits.putFace

theorem transitSetupReq (h : FormsKept s d) {n : Nat} {nextOwn : Bool} : FormsKept s (d.transitSetupReq n nextOwn) := by
  unfold Dev.transitSetupReq
  exact .ite h (.ite h.setReg.setReg.sf.sf.slotRefused (.ite h.setReg.setReg.sf.sf.slotRefused h.setReg.setReg.sf.sf.transitSetup))

theorem transitTeardown (h : FormsKept s d) {n : Nat} : FormsKept s (d.transitTeardown n) := by
  unfold Dev.transitTeardown
  exact .ite h.sf (.ite h.sf h)

theorem transitTearReady (h : FormsKept s d) {n : Nat} : FormsKept s (d.transitTearReady n) := by
  unfold Dev.transitTearReady
  exact .ite h (.ite h.transitTearOut.sf h.transitTearOut)

theorem transitTear (h : FormsKept s d) {from_ : Option Nat} {p : Packet} : FormsKept s (d.transitTear from_ p) := by
  unfold Dev.transitTear
  split
  · extract_lets _
    exact .ite (.ite h.setCircuits.send h.setCircuits) (.ite h.setCircuits.putFace h.setCircuits)
  · exact h

theorem transitBroken (h : FormsKept s d) {id : Nat} : FormsKept s (d.transitBroken id) := by
  unfold Dev.transitBroken
  split
  · exact .ite h.sf.sf.logXfb.raise.transitTearOut h
  · exact h

theorem breakTransits (h : FormsKept s d) {f : Nat} : FormsKept s (d.breakTransits f) := by
  unfold Dev.breakTransits
  extract_lets _ d₁
  have h₁ : FormsKept s d₁ := .foldl h fun _ _ h => .ite h.transitBroken h.send
  exact .foldl h₁ fun _ _ h => .ite h.setCircuits h.setCircuits.putFace

theorem pullBack (h : FormsKept s d) {f : Nat} : FormsKept s (d.pullBack f) := h.other

theorem faceFall (h : FormsKept s d) {f : Nat} : FormsKept s (d.faceFall f) := by
  unfold Dev.faceFall
  exact .ite h.sf.logXfb.raise.pullBack.breakTransits h

theorem portsChanged (h : FormsKept s d) {f n : Nat} : FormsKept s (d.portsChanged f n) := by
  unfold Dev.portsChanged
  extract_lets _ _
  exact .ite h.sf.faceFall (.ite h.sf.logXfb h.sf)

theorem discover (h : FormsKept s d) {f : Nat} : FormsKept s (d.discover f) := h.putFace

theorem discoverAll (h : FormsKept s d) : FormsKept s (d.discoverAll) := by
  unfold Dev.discoverAll
  exact .foldl h fun _ _ h => .ite h.discover h

theorem resetParts (h : FormsKept s d) : FormsKept s (d.resetParts) := by
  unfold Dev.resetParts
  exact .foldl h fun _ _ h => h.setReg

theorem dropFlat (h : FormsKept s d) : FormsKept s (d.dropFlat) := by
  unfold Dev.dropFlat
  exact .foldl h fun _ _ h => .ite h.faceFall h

theorem setCoords (h : FormsKept s d) {index dims source : Nat} : FormsKept s (d.setCoords index dims source) := by
  unfold Dev.setCoords
  extract_lets _ _ _ _ _ _ _ _ d₅
  have h₅ : FormsKept s d₅ := .ite h.sf.sf.sf.sf.setReg.other (.fillTables (.ite h.sf.sf.sf.sf.setReg.other.resetParts h.sf.sf.sf.sf.setReg.other))
  exact .discoverAll (.dropFlat (.ite h₅.logXfb h₅))

theorem faceRise (h : FormsKept s d) {f : Nat} : FormsKept s (d.faceRise f) := by
  unfold Dev.faceRise
  exact .ite h h.sf.logXfb.raise.discover.reroute

theorem wiringError (h : FormsKept s d) {f : Nat} : FormsKept s (d.wiringError f) := h.sf.logXfb.faceFall

theorem conflictAt (h : FormsKept s d) {f index : Nat} : FormsKept s (d.conflictAt f index) :=
  (h.withRegs fun w => regFileWf_foldl_set (FMap.wf_filter _ _ _ w) _).logXfb.discoverAll

theorem discoverIn (h : FormsKept s d) {f : Nat} {p : Packet} : FormsKept s (d.discoverIn f p) := by
  unfold Dev.discoverIn
  extract_lets _ _ _ _ _ _ _ _ _ other
  exact .ite h (.ite h.dropPacket (.ite h (.ite h.sf (.ite h.sf.other.setCoords (.ite h.sf.conflictAt (.ite h.sf h.sf.wiringError))))))

theorem anchorStart (h : FormsKept s d) : FormsKept s (d.anchorStart) := by
  unfold Dev.anchorStart
  exact .ite h.setCoords h

theorem overrideReq (h : FormsKept s d) {v : Word} : FormsKept s (d.overrideReq v) := by
  unfold Dev.overrideReq
  exact .ite h.logXfb h.other.setCoords.logXfb

theorem overrideRelease (h : FormsKept s d) : FormsKept s (d.overrideRelease) := by
  unfold Dev.overrideRelease
  exact .ite h.logXfb (.ite h.sf.sf.sf.other.anchorStart.discoverAll h)

theorem writeOverride (h : FormsKept s d) {v : Word} : FormsKept s (d.writeOverride v) := by
  unfold Dev.writeOverride
  extract_lets _ _ d₁ d₂
  have h₁ : FormsKept s d₁ := .ite h h.sf.sf
  have h₂ : FormsKept s d₂ := .ite h₁.overrideReq h₁
  exact .ite h₂.overrideRelease h₂

theorem setRates (h : FormsKept s d) {l : List Rate} : FormsKept s (d.setRates l) := h.other.sf

theorem congested (h : FormsKept s d) {dst : Nat} : FormsKept s (d.congested dst) := by
  unfold Dev.congested
  split
  · exact h
  · split
    · exact .ite h.setRates h
    · extract_lets d₁
      have h₁ : FormsKept s d₁ := by
        unfold d₁
        split
        · exact h
        · split
          · exact h.other.bump
          · exact h
      exact h₁.setRates

theorem congestionOf (h : FormsKept s d) {p : Packet} : FormsKept s (d.congestionOf p) := by
  unfold Dev.congestionOf
  exact .ite h.congested h

theorem rateDecay (h : FormsKept s d) {dst : Nat} : FormsKept s (d.rateDecay dst) := h.setRates

theorem rateRise (h : FormsKept s d) {dst : Nat} : FormsKept s (d.rateRise dst) := h.setRates

theorem countPaced (h : FormsKept s d) {p : Packet} : FormsKept s (d.countPaced p) := by
  unfold Dev.countPaced
  exact .ite h.other h

theorem releaseHeld (h : FormsKept s d) {p : Packet} : FormsKept s (d.releaseHeld p) := h.other.countPaced.other

theorem pacedRelease (h : FormsKept s d) {p : Packet} : FormsKept s (d.pacedRelease p) := by
  unfold Dev.pacedRelease
  exact .ite h.releaseHeld h

theorem drain (h : FormsKept s d) : FormsKept s (d.drain) := by
  unfold Dev.drain
  exact .ite h h.other.sf.sf.sf

theorem drained (h : FormsKept s d) : FormsKept s (d.drained) := by
  unfold Dev.drained
  exact .ite h.sf.sf h

theorem tableSwap (h : FormsKept s d) : FormsKept s (d.tableSwap) := by
  unfold Dev.tableSwap
  exact .ite h.sf.logXfb.reroute h.logXfb

theorem tableResume (h : FormsKept s d) : FormsKept s (d.tableResume) := by
  unfold Dev.tableResume
  exact .ite h (.foldl h.sf.sf.sf.sf fun _ _ h => .ite h h.releaseHeld)

theorem writeTableCtrl (h : FormsKept s d) {v : Word} : FormsKept s (d.writeTableCtrl v) := by
  unfold Dev.writeTableCtrl
  extract_lets d₁ d₂
  have h₁ : FormsKept s d₁ := .ite h.tableResume h
  have h₂ : FormsKept s d₂ := .ite h₁.tableSwap h₁
  exact .ite h₂.drain h₂

theorem writeWeights (h : FormsKept s d) {v : Word} : FormsKept s (d.writeWeights v) := by
  unfold Dev.writeWeights
  exact .ite h.setReg h.logXfb

theorem writeBank (h : FormsKept s d) {k : RegKey} {v : Word} : FormsKept s (d.writeBank k v) := by
  unfold Dev.writeBank
  exact .ite h.logXfb h.setReg

theorem writeRateCtrl (h : FormsKept s d) {v : Word} : FormsKept s (d.writeRateCtrl v) := by
  unfold Dev.writeRateCtrl
  exact .ite h.setReg.setRates h.setReg

theorem writeTransitPath (h : FormsKept s d) {n : Nat} {v : Word} : FormsKept s (d.writeTransitPath n v) := by
  unfold Dev.writeTransitPath
  exact .ite h.setReg h

theorem writeTransitCtrl (h : FormsKept s d) {n : Nat} {v : Word} : FormsKept s (d.writeTransitCtrl n v) := by
  unfold Dev.writeTransitCtrl
  extract_lets d₁
  have h₁ : FormsKept s d₁ := .ite h.transitTeardown h
  exact .ite h₁.draw.transitSetupReq h₁

theorem setupTimeout (h : FormsKept s d) {n : Nat} : FormsKept s (d.setupTimeout n) := by
  unfold Dev.setupTimeout
  exact .ite h.transitRefused h

/-! ### `Sys2Proof/Machine/Opt` -/

theorem setPort (h : FormsKept s d) {p n : Nat} {x : OptPort} : FormsKept s (d.setPort p n x) := h.other

theorem modPort (h : FormsKept s d) {p n : Nat} {f : OptPort → OptPort} : FormsKept s (d.modPort p n f) := h.setPort

theorem noteHost (h : FormsKept s d) : FormsKept s (d.noteHost) := by
  unfold Dev.noteHost
  extract_lets _ _ _ _
  exact .ite h.sf (.ite h.sf.sf.sendHello h.sf.sf)

theorem portStep (h : FormsKept s d) {p n : Nat} {st : OptStep} : FormsKept s (d.portStep p n st) := by
  unfold Dev.portStep
  exact .ite h.modPort.sf.noteHost h.modPort.sf

theorem logOpt (h : FormsKept s d) {code p n ch stage d1 : Nat} : FormsKept s (d.logOpt code p n ch stage d1) := h.sf.logAt

theorem raiseOpt (h : FormsKept s d) {p e : Nat} : FormsKept s (d.raiseOpt p e) := h.raise

theorem setLaneCh (h : FormsKept s d) {p n : Nat} {tx : Bool} {l c : Nat} : FormsKept s (d.setLaneCh p n tx l c) := h.setReg

theorem setLaser (h : FormsKept s d) {p n c st : Nat} : FormsKept s (d.setLaser p n c st) := h.sf

theorem countSpares (h : FormsKept s d) {p n : Nat} : FormsKept s (d.countSpares p n) := h.sf.sf

theorem lightOn (h : FormsKept s d) {p n : Nat} {cs : List Nat} : FormsKept s (d.lightOn p n cs) := h.modPort

theorem lightOff (h : FormsKept s d) {p n : Nat} {cs : List Nat} : FormsKept s (d.lightOff p n cs) := by
  unfold Dev.lightOff
  exact .foldl h.modPort fun _ _ h => h.sf

theorem optSend (h : FormsKept s d) {p n : Nat} {m : OptMsg} : FormsKept s (d.optSend p n m) := h.modPort

theorem sendCmd (h : FormsKept s d) {p n : Nat} {c : SwapCmd} {w : OptSwap} : FormsKept s (d.sendCmd p n c w) := h.optSend

theorem setPortUp (h : FormsKept s d) {p n : Nat} {b : Bool} : FormsKept s (d.setPortUp p n b) := by
  unfold Dev.setPortUp
  exact .ite h.setReg.portsChanged h.setReg

theorem noteApr (h : FormsKept s d) {p : Nat} : FormsKept s (d.noteApr p) := h.sf

theorem setHeadSwap (h : FormsKept s d) {p n : Nat} {w : OptSwap} : FormsKept s (d.setHeadSwap p n w) := h.modPort.sf

theorem endSwap (h : FormsKept s d) {p n : Nat} : FormsKept s (d.endSwap p n) := h.modPort.sf

theorem queueSwap (h : FormsKept s d) {p n lane : Nat} {recal : Bool} :
    FormsKept s (d.queueSwap p n lane recal) := h.modPort

theorem exhausted (h : FormsKept s d) {p n ch : Nat} : FormsKept s (d.exhausted p n ch) := h.logOpt.raiseOpt

theorem chooseSpare (h : FormsKept s d) {p n : Nat} : FormsKept s (d.chooseSpare p n) := by
  unfold Dev.chooseSpare
  split
  · exact h
  · split
    · exact h.exhausted.endSwap
    · exact h.setHeadSwap.lightOn.setLaser.sf

theorem startSwap (h : FormsKept s d) {p n : Nat} : FormsKept s (d.startSwap p n) := by
  unfold Dev.startSwap
  split
  · exact .ite h.chooseSpare h
  · exact h

theorem spareFailed (h : FormsKept s d) {p n : Nat} {w : OptSwap} : FormsKept s (d.spareFailed p n w) := by
  unfold Dev.spareFailed
  extract_lets _ _
  exact .ite h.setLaser.lightOff.logOpt.countSpares.endSwap h.setLaser.lightOff.logOpt.countSpares.chooseSpare

theorem swapLight (h : FormsKept s d) {p n : Nat} {ok : Bool} : FormsKept s (d.swapLight p n ok) := by
  unfold Dev.swapLight
  split
  · exact .ite h (.ite (.setHeadSwap (.ite h.lightOn h)) (.ite h h.spareFailed))
  · exact h

theorem swapTrain (h : FormsKept s d) {p n : Nat} {ok : Bool} : FormsKept s (d.swapTrain p n ok) := by
  unfold Dev.swapTrain
  split
  · exact .ite h (.ite (.ite h.setHeadSwap h) (.ite h.setHeadSwap.sendCmd h.spareFailed))
  · exact h

theorem swapMirror (h : FormsKept s d) {p n : Nat} : FormsKept s (d.swapMirror p n) := by
  unfold Dev.swapMirror
  split
  · exact .ite h.setHeadSwap.sendCmd h
  · exact h

theorem switchNow (h : FormsKept s d) {p n : Nat} : FormsKept s (d.switchNow p n) := by
  unfold Dev.switchNow
  split
  · exact .ite h (.ite h.endSwap.sf (.ite (.ite h.setHeadSwap.setLaneCh.sf h.setHeadSwap.setLaneCh.sf.setLaser) (.setLaser (.ite h.setHeadSwap.setLaneCh.sf h.setHeadSwap.setLaneCh.sf.setLaser))))
  · exact h

theorem recalibrate (h : FormsKept s d) {p n ch : Nat} {c : ChanCal} : FormsKept s (d.recalibrate p n ch c) := h.modPort

theorem swapRetire (h : FormsKept s d) {p n : Nat} {cal : Option ChanCal} : FormsKept s (d.swapRetire p n cal) := by
  unfold Dev.swapRetire
  split
  · split
    · exact h
    · extract_lets _ _
      split
      · exact h.lightOff.endSwap.logOpt.raiseOpt.countSpares
      · split
        · exact h.lightOff.endSwap.logOpt.raiseOpt.setLaser.countSpares
        · split
          · split
            · exact h.lightOff.endSwap.logOpt.raiseOpt.recalibrate.modPort
            · exact h.lightOff.endSwap.logOpt.raiseOpt.setLaser.logOpt.countSpares
          · exact h.lightOff.endSwap.logOpt.raiseOpt.setLaser.countSpares
  · exact h

theorem abortSwaps (h : FormsKept s d) {p n : Nat} : FormsKept s (d.abortSwaps p n) := by
  unfold Dev.abortSwaps
  extract_lets _ d₁ d₂
  have h₁ : FormsKept s d₁ := by
    unfold d₁
    split
    · exact .ite h (.ite h.lightOff.endSwap (.ite (.endSwap (.sendCmd (.lightOff (.ite h.setLaser h)))) (.swapRetire (.ite h.switchNow h))))
    · exact h
  have h₂ : FormsKept s d₂ := .foldl h₁ fun _ _ h => .ite (.ite h.setLaser h) h
  exact h₂.modPort.sf

theorem swapCmd (h : FormsKept s d) {p n : Nat} {c : SwapCmd} {lane ch : Nat} : FormsKept s (d.swapCmd p n c lane ch) := by
  unfold Dev.swapCmd
  split
  · exact h.modPort
  · exact h.modPort
  · exact .ite h h.setLaneCh.modPort.countSpares.optSend

theorem portLeave (h : FormsKept s d) {p n : Nat} : FormsKept s (d.portLeave p n) := by
  unfold Dev.portLeave
  exact .ite h (.setPortUp (.portStep (.sf (.ite h.logOpt.raiseOpt.abortSwaps.modPort.faceTake h.logOpt.raiseOpt.abortSwaps.modPort))))

theorem portDark (h : FormsKept s d) {p n : Nat} : FormsKept s (d.portDark p n) := h.lightOff

theorem toLight (h : FormsKept s d) {p n : Nat} : FormsKept s (d.toLight p n) := by
  unfold Dev.toLight
  extract_lets _
  exact .ite h.modPort.portStep (.ite h.modPort.portStep h.modPort.portStep)

theorem replaceLane (h : FormsKept s d) {p n lane : Nat} : FormsKept s (d.replaceLane p n lane) := by
  have e : @Dev.replaceLane = @Dev.replaceLane := rfl
  conv at e => rhs; delta Dev.replaceLane
  rw [e]
  beta_reduce
  extract_lets _ d₁
  have h₁ : FormsKept s d₁ := h.countSpares
  clear_value d₁
  split
  · exact h₁.portDark.portStep.exhausted
  · exact h₁.setLaneCh.setLaser.lightOff.sf.toLight

theorem laneFail (h : FormsKept s d) {p n lane : Nat} {tx : Bool} {count : Nat} :
    FormsKept s (d.laneFail p n lane tx count) := by
  unfold Dev.laneFail
  extract_lets _ _ _ _ _
  exact .ite h.logOpt.score.portLeave.setLaser.replaceLane (.ite h.logOpt.score.portLeave.modPort.countSpares.toLight h.logOpt.score.portLeave.modPort.countSpares.portDark.portStep.exhausted)

theorem swapSwitch (h : FormsKept s d) {p n : Nat} : FormsKept s (d.swapSwitch p n) := by
  unfold Dev.swapSwitch
  split
  · exact .ite h.switchNow.laneFail h.switchNow
  · exact h

theorem collimate (h : FormsKept s d) {p : Nat} {full : Bool} : FormsKept s (d.collimate p full) := by
  unfold Dev.collimate
  extract_lets _
  exact .foldl h.sf fun _ _ h => .ite h.portLeave.abortSwaps.portStep h

theorem calibrated (h : FormsKept s d) {p n : Nat} {found : Option PortCal} : FormsKept s (d.calibrated p n found) := by
  unfold Dev.calibrated
  split
  · exact h
  · extract_lets _ d₂ _
    have h₂ : FormsKept s d₂ := by
      unfold d₂
      split
      · exact h.modPort.portStep.logOpt
      · extract_lets _ d₃
        have h₃ : FormsKept s d₃ := .foldl h.modPort fun _ _ h => .ite (.logOpt (.modPort (.ite (.logOpt (.setLaser (.ite (.setLaser (.ite h.sf.modPort h)) (.ite h.sf.modPort h)))) (.ite (.setLaser (.ite h.sf.modPort h)) (.ite h.sf.modPort h))))) (.ite (.logOpt (.setLaser (.ite (.setLaser (.ite h.sf.modPort h)) (.ite h.sf.modPort h)))) (.ite (.setLaser (.ite h.sf.modPort h)) (.ite h.sf.modPort h)))
        exact h₃.countSpares.toLight
    exact .ite h₂ h₂.sf

theorem lightDone (h : FormsKept s d) {p n : Nat} : FormsKept s (d.lightDone p n) := by
  unfold Dev.lightDone
  exact .ite h.lightOn.portStep h

theorem lockDone (h : FormsKept s d) {p n : Nat} : FormsKept s (d.lockDone p n) := by
  unfold Dev.lockDone
  exact .ite h.portStep h

theorem alignDone (h : FormsKept s d) {p n : Nat} : FormsKept s (d.alignDone p n) := by
  unfold Dev.alignDone
  exact .ite h.portStep h

theorem exchange (h : FormsKept s d) {p n farFace farPort : Nat} {farMap farDead : List Nat} :
    FormsKept s (d.exchange p n farFace farPort farMap farDead) := by
  unfold Dev.exchange
  split
  · exact h
  · extract_lets _ d₂ _
    have h₂ : FormsKept s d₂ := .foldl h.sf.sf fun _ _ h => h.setLaneCh
    split
    · exact h.sf.sf.portStep.logOpt
    · split
      · exact h₂.modPort.countSpares.replaceLane
      · exact .ite h₂.modPort.countSpares.toLight h₂.modPort.countSpares.portStep

theorem qualifyDone (h : FormsKept s d) {p n : Nat} : FormsKept s (d.qualifyDone p n) := by
  unfold Dev.qualifyDone
  exact .ite h h.portStep.sf.logOpt.setPortUp

theorem aprEntry (h : FormsKept s d) {p n : Nat} : FormsKept s (d.aprEntry p n) := by
  unfold Dev.aprEntry
  exact .ite h.portLeave.lightOff.lightOn.portStep.modPort.logOpt.noteApr h

theorem aprReturn (h : FormsKept s d) {p n : Nat} : FormsKept s (d.aprReturn p n) := by
  unfold Dev.aprReturn
  exact .ite h.toLight.noteApr h

theorem portDown (h : FormsKept s d) {p n : Nat} {v : Bool} : FormsKept s (d.portDown p n v) := by
  unfold Dev.portDown
  extract_lets _ _
  exact .ite (.ite h.sf h.sf.portLeave.portDark.portStep.noteApr) (.ite h.sf.toLight h.sf)

theorem portAction (h : FormsKept s d) {p n lane : Nat} {recal : Bool} : FormsKept s (d.portAction p n lane recal) := by
  unfold Dev.portAction
  exact .ite h.exhausted h.queueSwap

theorem writePortCtrl (h : FormsKept s d) {p n : Nat} {v : Word} : FormsKept s (d.writePortCtrl p n v) := by
  unfold Dev.writePortCtrl
  extract_lets _ _ _ d₂ d₃
  have h₂ : FormsKept s d₂ := .ite h.sf h.sf.portDown
  have h₃ : FormsKept s d₃ := .ite h₂.portAction h₂
  exact .ite h₃.portAction h₃

theorem passGroup (h : FormsKept s d) {p n : Nat} {g : OptGroup} {lost : Bool} : FormsKept s (d.passGroup p n g lost) := by
  unfold Dev.passGroup
  exact .ite (.foldl h.modPort fun _ _ h => h.faceTake) h.modPort

theorem takeGroup (h : FormsKept s d) {p n : Nat} {g : OptGroup} {bad : Bool} : FormsKept s (d.takeGroup p n g bad) := by
  unfold Dev.takeGroup
  extract_lets _ _ _ _ _ _
  exact .ite (.ite h.modPort h.modPort.optSend.modPort) (.ite h.passGroup (.ite (.ite h.bump.passGroup.score h.passGroup) (.ite h.modPort.optSend.modPort (.ite h.modPort h.passGroup))))

theorem noteUncorr (h : FormsKept s d) {p n lane : Nat} : FormsKept s (d.noteUncorr p n lane).1 := by
  unfold Dev.noteUncorr
  dsimp only
  exact h.modPort

theorem countErrs (h : FormsKept s d) {p n ch k : Nat} : FormsKept s (d.countErrs p n ch k) := h.modPort

theorem mirrorCopy (h : FormsKept s d) {p n : Nat} {words : List (List Nat × Nat)} :
    FormsKept s (d.mirrorCopy p n words) := by
  unfold Dev.mirrorCopy
  split
  · extract_lets d₁
    have h₁ : FormsKept s d₁ := .ite h.countErrs h
    exact .ite h₁.modPort h₁
  · exact h

theorem takeMsgOf (h : FormsKept s d) {p n : Nat} {c : OptCtrl} : FormsKept s (d.takeMsgOf p n c) := by
  unfold Dev.takeMsgOf
  exact .ite h h.queueSwap

theorem groupReceive (h : FormsKept s d) {p n : Nat} {r : OptRx} : FormsKept s (d.groupReceive p n r) := by
  unfold Dev.groupReceive
  exact .ite h (.foldl (.foldlFst (.ite (.takeGroup (.ite (.logOpt (.ite (.bump (.bump (.incr (.mirrorCopy (.foldl h fun _ _ h => h.countErrs))))) (.bump (.incr (.mirrorCopy (.foldl h fun _ _ h => h.countErrs)))))) (.incr (.ite (.bump (.bump (.incr (.mirrorCopy (.foldl h fun _ _ h => h.countErrs))))) (.bump (.incr (.mirrorCopy (.foldl h fun _ _ h => h.countErrs)))))))) (.takeMsgOf (.takeGroup (.ite (.logOpt (.ite (.bump (.bump (.incr (.mirrorCopy (.foldl h fun _ _ h => h.countErrs))))) (.bump (.incr (.mirrorCopy (.foldl h fun _ _ h => h.countErrs)))))) (.incr (.ite (.bump (.bump (.incr (.mirrorCopy (.foldl h fun _ _ h => h.countErrs))))) (.bump (.incr (.mirrorCopy (.foldl h fun _ _ h => h.countErrs)))))))))) fun _ _ h => h.noteUncorr) fun _ _ h => h.laneFail)

theorem replayRequest (h : FormsKept s d) {p n ack : Nat} {good : Bool} : FormsKept s (d.replayRequest p n ack good) := by
  unfold Dev.replayRequest
  extract_lets _ _ _ _ _
  exact .ite h (.ite h.modPort.optSend h.bump.logOpt.score.modPort.optSend)

theorem sendGroup (h : FormsKept s d) {p n : Nat} : FormsKept s (d.sendGroup p n) := by
  unfold Dev.sendGroup
  extract_lets _ _ _ _ _ _
  split
  · exact h
  · split
    · exact h.modPort
    · exact .ite h.modPort (.ite h.modPort.other h.modPort.other)

theorem chronoTick (h : FormsKept s d) : FormsKept s (d.chronoTick) := h.other

theorem tick (h : FormsKept s d) : FormsKept s (d.tick) := by
  unfold Dev.tick
  extract_lets _
  exact .ite (.foldl h.chronoTick.routerTick fun _ _ h' => .foldl h' fun _ _ h => .ite h.sendGroup h) h.chronoTick.routerTick

theorem monitor (h : FormsKept s d) {p : Nat} {m : PortMon} : FormsKept s (d.monitor p m) := by
  unfold Dev.monitor
  split
  · exact h
  · extract_lets _ _ _
    refine .foldl h.sf.sf.sf fun _ _ h => ?_
    split
    · exact h.sf.sf.sf
    · exact h

theorem lossCheck (h : FormsKept s d) {p : Nat} : FormsKept s (d.lossCheck p) := by
  unfold Dev.lossCheck
  refine .foldl h fun _ _ h => ?_
  split
  · exact h
  · split
    · exact h
    · split
      · exact h
      · exact h.logOpt.score.raiseOpt

theorem heliostat (h : FormsKept s d) {p n ch bias power eta : Nat} : FormsKept s (d.heliostat p n ch bias power eta) := by
  have e : @Dev.heliostat = @Dev.heliostat := rfl
  conv at e => rhs; delta Dev.heliostat
  rw [e]
  beta_reduce
  refine .ite h ?_
  extract_lets -underBinder _ _ _ _ _ d₁
  have h₁ : FormsKept s d₁ := (FormsKept.ite h.sf.draw h.sf).sf
  clear_value d₁
  split
  · exact .ite h₁.setLaser.logOpt.laneFail (.ite h₁.queueSwap h₁)
  · refine .ite ?_ h₁
    extract_lets -underBinder d₂
    have h₂ : FormsKept s d₂ := h₁.setLaser.logOpt
    clear_value d₂
    split
    · exact .ite h₂.spareFailed h₂.countSpares
    · exact h₂.countSpares

theorem seeChannel (h : FormsKept s d) {p n lane : Nat} : FormsKept s (d.seeChannel p n lane) := by
  unfold Dev.seeChannel
  extract_lets _ _ _ _ _ d₂
  have h₂ : FormsKept s d₂ := .ite h.modPort.modPort.score h.modPort
  exact .ite h₂.logOpt.score.optSend h₂

theorem mirrorWindow (h : FormsKept s d) {p n : Nat} : FormsKept s (d.mirrorWindow p n) := by
  unfold Dev.mirrorWindow
  split
  · exact h
  · exact .ite h.modPort h.modPort.optSend

theorem seeingWindow (h : FormsKept s d) {p n : Nat} : FormsKept s (d.seeingWindow p n) := by
  unfold Dev.seeingWindow
  exact .ite h (.foldl (.modPort (.mirrorWindow (.foldl (.foldl h fun _ _ h => h.sf) fun _ _ h => h.seeChannel))) fun _ _ h => h.laneFail)

theorem noLight (h : FormsKept s d) {p n ch : Nat} : FormsKept s (d.noLight p n ch) := by
  unfold Dev.noLight
  split
  · exact h
  · split
    · exact h.laneFail
    · exact h

/-! ### `Sys2Proof/Machine/Serve` -/

theorem endReq (h : FormsKept s d) {r : Req} {code : Nat} : FormsKept s (d.endReq r code) := by
  unfold Dev.endReq
  extract_lets p gas d₁ _ _ d₂
  have hgas : ∀ {d : Dev}, FormsKept s d → FormsKept s (gas d) := by
    intro d h
    unfold gas
    split
    · exact h.dropReq.gasFault
    · exact h.dropReq
  have h₂ : FormsKept s d₂ := .ite h.dropReq.outcomeUnknown.bump h.dropReq.logGas
  have h₁ : FormsKept s d₁ := h.dropReq
  split
  · exact hgas h
  · exact hgas h
  · exact hgas (.ite h.outcomeUnknown h)
  · exact h.dmaPacketFailed
  · exact h.dmaPacketFailed
  · exact h₂.endSignal
  · exact h₁
  · split
    · exact .ite h₁.attnRemote h₁
    · exact h₁
  · split
    · exact .ite h₁.attnRemote h₁
    · exact h₁
  · split
    · exact .ite h₁.attnRemote h₁
    · exact h₁
  · exact h

theorem endAccessesTo (h : FormsKept s d) {dev : Nat} : FormsKept s (d.endAccessesTo dev) := by
  unfold Dev.endAccessesTo
  refine .foldl h fun _ _ h => ?_
  split
  · exact h.endReq
  · exact h.endReq
  · exact h
  · exact h
  · exact h.endReq

theorem logTarget (h : FormsKept s d) {code addr region : Nat} : FormsKept s (d.logTarget code addr region) := h.logAt

theorem checkAccess (h : FormsKept s d) {p : Packet} : FormsKept s (d.checkAccess p).2 := by
  unfold Dev.checkAccess
  extract_lets _
  split
  · exact h.bump.logTarget
  · split
    · exact h.bump.logTarget
    · exact .iteSnd h.logTarget h

theorem dropStale (h : FormsKept s d) {p : Packet} : FormsKept s (d.dropStale p) := h.bump.logTarget

theorem answerTo (h : FormsKept s d) {p : Packet} {type : Nat} {payload : List Byte} :
    FormsKept s (d.answerTo p type payload) := h.send

theorem served (h : FormsKept s d) {p : Packet} {bytes : List Byte} : FormsKept s (d.served p bytes) := by
  unfold Dev.served
  extract_lets _
  exact .ite h.incr.answerTo (.ite h.incr.answerTo (.ite h.incr.answerTo h.incr.answerTo))

theorem setReplies (h : FormsKept s d) {l : List Reply} : FormsKept s (d.setReplies l) := h.other.sf

theorem sweepReplies (h : FormsKept s d) : FormsKept s (d.sweepReplies) := h.setReplies

theorem modReply (h : FormsKept s d) {r : Reply} {f : Reply → Reply} : FormsKept s (d.modReply r f) := h.setReplies

theorem enterReply (h : FormsKept s d) {p : Packet} {value refusal : Nat} :
    FormsKept s (d.enterReply p value refusal) := h.setReplies

theorem replyAnswer (h : FormsKept s d) {p : Packet} {r : Reply} : FormsKept s (d.replyAnswer p r) := by
  unfold Dev.replyAnswer
  exact .ite h.answerTo (.ite h.refuse h.answerTo)

theorem busyRefusal (h : FormsKept s d) {p : Packet} : FormsKept s (d.busyRefusal p) := h.bump.answerTo

theorem applyAtomic (h : FormsKept s d) {p : Packet} {errs : List MemErr} : FormsKept s (d.applyAtomic p errs) := by
  unfold Dev.applyAtomic
  split
  · exact h.replyAnswer
  · exact .ite h.busyRefusal (.ite h.readHbm.refuse (.ite h.readHbm.writeHbm.refuse h.readHbm.writeHbm.incr.enterReply.answerTo))

theorem setJobs (h : FormsKept s d) {l : List WinJob} : FormsKept s (d.setJobs l) := h.other

theorem windowLine (h : FormsKept s d) {u : Nat} {whole : Bool} {errs : List MemErr} :
    FormsKept s (d.windowLine u whole errs).2.2 := by
  unfold Dev.windowLine
  split
  · exact .iteSndSnd h h.checkLine
  · exact h

theorem windowUnit (h : FormsKept s d) {j : WinJob} {u : Nat} {errs : List MemErr} :
    FormsKept s (d.windowUnit j u errs).1 := by
  have e : @Dev.windowUnit = @Dev.windowUnit := rfl
  conv at e => rhs; delta Dev.windowUnit
  have hline := @FormsKept.windowLine s
  generalize @Dev.windowLine = windowLine at e hline
  generalize @Dev.windowClass = windowClass at e
  as_aux_lemma =>
    rw [e]
    beta_reduce
    extract_lets _ _ _ _ _ _ _
    split
    next d₁ he =>
      have h₁ : FormsKept s d₁ := sndSnd he (hline h)
      refine .iteFst h₁ (.iteFst ?_ ?_)
      · split
        · exact .iteFst h₁.askCompanion h₁.putLine
        · split
          · exact h₁.askCompanion
          · exact h₁.askCompanion
      · split
        · exact h₁.incr.useLine
        · dsimp only
          split
          · exact h₁.incr.askCompanion
          · exact h₁.incr.askCompanion

theorem finishJob (h : FormsKept s d) {j : WinJob} : FormsKept s (d.finishJob j) := by
  unfold Dev.finishJob
  exact .ite h.refuse h.served

theorem applyWindow (h : FormsKept s d) {p : Packet} {errs : List MemErr} : FormsKept s (d.applyWindow p errs) := by
  unfold Dev.applyWindow
  exact .ite (.finishJob (.foldlFst h fun _ _ h => h.windowUnit)) (.setJobs (.foldlFst h fun _ _ h => h.windowUnit))

theorem serveHbm (h : FormsKept s d) {p : Packet} {errs : List MemErr} : FormsKept s (d.serveHbm p errs) := by
  unfold Dev.serveHbm
  extract_lets _ _
  exact .ite h.applyAtomic (.ite (.ite h.writeHbm.served h.writeHbm.refuse) (.ite h.readHbm.served h.readHbm.refuse))

theorem serveSram (h : FormsKept s d) {p : Packet} : FormsKept s (d.serveSram p) := by
  unfold Dev.serveSram
  exact .ite (.served (.foldl h fun _ _ h => h.setSramByte)) h.served

theorem applyMem (h : FormsKept s d) {p : Packet} {errs : List MemErr} : FormsKept s (d.applyMem p errs) := by
  unfold Dev.applyMem
  extract_lets _ _
  split
  · exact h.dropStale
  · split
    · split
      next _ d₁ he₂ =>
        have h₁ : FormsKept s d₁ := snd he₂ h.hbmHeld
        exact h₁.holdAccess
      next _ d₁ he₂ =>
        have h₁ : FormsKept s d₁ := snd he₂ h.hbmHeld
        exact .ite h₁.holdAccess h₁.serveHbm
    · split
      · split
        · exact h.hold
        · exact h.serveSram
      · exact .ite h.refuse (.ite h.holdAccess h.applyWindow)

theorem reqSram (h : FormsKept s d) {m : HlkMsg} : FormsKept s (d.reqSram m) := by
  unfold Dev.reqSram
  extract_lets _
  split
  · exact h.hold
  · exact .ite (.respond (.foldl h fun _ _ h => h.setSramByte)) h.respond

theorem grant (h : FormsKept s d) {u : Nat} {owned : Bool} : FormsKept s (d.grant u owned) := h.setDir

theorem dropDir (h : FormsKept s d) {u : Nat} : FormsKept s (d.dropDir u) := h.setDir

theorem reqCached (h : FormsKept s d) {m : HlkMsg} {errs : List MemErr} : FormsKept s (d.reqCached m errs) := by
  unfold Dev.reqCached
  extract_lets _ _
  split
  · split
    · exact h.recallLine.holdAccess
    · exact h
  · exact .ite h.readHbm.refuseHlk h.readHbm.grant.respond

theorem reqStore (h : FormsKept s d) {m : HlkMsg} {errs : List MemErr} : FormsKept s (d.reqStore m errs) := by
  unfold Dev.reqStore
  exact .ite h.writeHbm.respond h.writeHbm.refuseHlk

theorem returnIn (h : FormsKept s d) {m : HlkMsg} {errs : List MemErr} : FormsKept s (d.returnIn m errs) := by
  unfold Dev.returnIn
  extract_lets _ _ _ d₁
  have h₁ : FormsKept s d₁ := .ite h.dropDir h.setDir
  exact .ite h.other (.ite h.dropDir.reqStore (.ite h₁.writeHbm h₁))

theorem reqMem (h : FormsKept s d) {m : HlkMsg} {errs : List MemErr} : FormsKept s (d.reqMem m errs) := by
  unfold Dev.reqMem
  extract_lets _
  split
  · exact h.reqSram
  · split
    · exact .ite h.holdAccess h.dropDir
    · split
      · exact .ite h.holdAccess h.returnIn
      · split
        next _ d₁ he₃ =>
          have h₁ : FormsKept s d₁ := snd he₃ h.hbmHeld
          exact h₁.holdAccess
        next _ d₁ he₃ =>
          have h₁ : FormsKept s d₁ := snd he₃ h.hbmHeld
          exact .ite h₁.reqStore (.ite (.ite h₁.readHbm.respond h₁.readHbm.refuseHlk) h₁.reqCached)

theorem modMgmt (h : FormsKept s d) {f : MgmtSt → MgmtSt} : FormsKept s (d.modMgmt f) := h.other

theorem eyeDone (h : FormsKept s d) {code : Nat} {v : Word} : FormsKept s (d.eyeDone code v) := h.modMgmt

theorem eyeLoad (h : FormsKept s d) {o : Nat} {errs : List MemErr} : FormsKept s (d.eyeLoad o errs) := by
  unfold Dev.eyeLoad
  exact .ite h.readHbm.eyeDone h.eyeDone

theorem eyeStore (h : FormsKept s d) {o : Nat} {v : Word} {errs : List MemErr} : FormsKept s (d.eyeStore o v errs) := by
  unfold Dev.eyeStore
  extract_lets _
  split
  · split
    next _ _ d₁ he₁ =>
      have h₁ : FormsKept s d₁ := snd he₁ h.writeHbm
      exact h₁.eyeDone
  · exact .eyeDone (.foldl h fun _ _ h => h.setSramByte)

theorem eyeMem (h : FormsKept s d) {a : EyeAccess} {errs : List MemErr} : FormsKept s (d.eyeMem a errs) := by
  unfold Dev.eyeMem
  extract_lets _ write act
  have hact : ∀ {d : Dev}, FormsKept s d → FormsKept s (act d) := by
    intro d h
    unfold act
    split
    · exact h.eyeStore
    · exact h.eyeLoad
  clear_value write
  split
  · split
    next d₁ e₁ =>
      have h₁ : FormsKept s d₁ := snd e₁ h.hbmHeld
      exact h₁.holdAccess
    next d₁ e₁ => exact hact (snd e₁ h.hbmHeld)
  · split
    · exact h.hold
    · exact hact h

theorem rawLoad (h : FormsKept s d) {o n hint use : Nat} {errs : List MemErr} :
    FormsKept s (d.rawLoad o n hint use errs) := by
  unfold Dev.rawLoad
  split
  next _ d₁ he =>
    have h₁ : FormsKept s d₁ := snd he h.hbmHeld
    exact h₁.holdAccess
  next _ d₁ he =>
    have h₁ : FormsKept s d₁ := snd he h.hbmHeld
    exact h₁.readHbm.other

theorem rawStore (h : FormsKept s d) {o : Nat} {bs : List Byte} {hint use : Nat} {errs : List MemErr} :
    FormsKept s (d.rawStore o bs hint use errs) := by
  unfold Dev.rawStore
  split
  next _ d₁ he =>
    have h₁ : FormsKept s d₁ := snd he h.hbmHeld
    exact h₁.holdAccess
  next _ d₁ he =>
    have h₁ : FormsKept s d₁ := snd he h.hbmHeld
    exact h₁.writeHbm.other

theorem retry (h : FormsKept s d) {errs : List MemErr} {x : Waiting} : FormsKept s (d.retry errs x) := by
  unfold Dev.retry
  split
  · split
    · exact h.replyAnswer
    · exact h.applyMem
  · exact h.reqMem
  · exact h.eyeMem
  · exact h.rawLoad
  · exact h.rawStore
  · exact h.writeGroupCfg.keepSetting

theorem retryHeld (h : FormsKept s d) {errs : List MemErr} : FormsKept s (d.retryHeld errs) := by
  unfold Dev.retryHeld
  extract_lets _ d₁ _
  have h₁ : FormsKept s d₁ := .foldl h.other fun _ _ h => h.returnIn
  exact .foldl h₁.other fun _ _ h => h.retry

theorem poisonWaiting (h : FormsKept s d) {u : Nat} {w : Waiting} : FormsKept s (d.poisonWaiting u w) := by
  unfold Dev.poisonWaiting
  extract_lets _
  split
  · exact h.logHbm.refuse
  · exact h.logHbm.refuseHlk
  · exact h.logHbm.eyeDone
  · exact h.logHbm.other
  · exact h.logHbm.other
  · exact h.logHbm.groupUnread.keepSetting

theorem fillLine (h : FormsKept s d) {r : HlkReq} {st : CompSt} {data : List Byte} {errs : List MemErr} :
    FormsKept s (d.fillLine r st data errs) := by
  unfold Dev.fillLine
  exact .ite h.putLine h.allocate

theorem finishJobs (h : FormsKept s d) : FormsKept s (d.finishJobs) := by
  unfold Dev.finishJobs
  exact .foldl h.setJobs fun _ _ h => h.finishJob

theorem companionAnswer (h : FormsKept s d) {tag code : Nat} {excl : Bool} {data : List Byte} {errs : List MemErr} :
    FormsKept s (d.companionAnswer tag code excl data errs) := by
  unfold Dev.companionAnswer
  split
  · exact h
  · extract_lets _ _ writer d₂
    have h₂ : FormsKept s d₂ := by
      unfold d₂
      split
      · clear_value writer
        split
        · exact h.other.fillLine
        · exact h.other.fillLine
      · exact h.other
    exact h₂.setJobs.finishJobs.retryHeld

/-! ### `Sys2Proof/Machine/Occult` -/

theorem poisonUnit (h : FormsKept s d) {u : Nat} : FormsKept s (d.poisonUnit u) := h.dropLineOf.setPoison

theorem countLost (h : FormsKept s d) {n : Nat} : FormsKept s (d.countLost n) := h.bump

theorem endCounters (h : FormsKept s d) : FormsKept s (d.endCounters) := by
  unfold Dev.endCounters
  exact .foldl h fun _ _ h => .ite h.modCore h

theorem hlkIdle (h : FormsKept s d) : FormsKept s (d.hlkIdle) := h.sf.sf

theorem linkDown (h : FormsKept s d) {errs : List MemErr} : FormsKept s (d.linkDown errs) := by
  unfold Dev.linkDown
  exact .ite h (.ite (.sendHello (.retryHeld (.ite (.other (.foldl (.setLines (.endCounters (.foldl h.hlkIdle.logHlk.raise.setJobs fun _ _ h => h.refuse))) fun _ _ h => h.poisonUnit)) (.logHlk (.countLost (.other (.foldl (.setLines (.endCounters (.foldl h.hlkIdle.logHlk.raise.setJobs fun _ _ h => h.refuse))) fun _ _ h => h.poisonUnit))))))) (.retryHeld (.ite (.other (.foldl (.setLines (.endCounters (.foldl h.hlkIdle.logHlk.raise.setJobs fun _ _ h => h.refuse))) fun _ _ h => h.poisonUnit)) (.logHlk (.countLost (.other (.foldl (.setLines (.endCounters (.foldl h.hlkIdle.logHlk.raise.setJobs fun _ _ h => h.refuse))) fun _ _ h => h.poisonUnit)))))))

theorem hostWatch {e : Dev} (h : FormsKept s e) {d : Dev} {errs : List MemErr} : FormsKept s (d.hostWatch e errs) := by
  unfold Dev.hostWatch
  extract_lets _
  exact .ite h (.ite h.linkDown (.foldl h fun _ _ h => h.resendCrossed))

theorem noticeCopy (h : FormsKept s d) {root kind dev count epoch : Nat} :
    FormsKept s (d.noticeCopy root kind dev count epoch) := by
  unfold Dev.noticeCopy
  exact .foldl h fun _ _ h => h.send

theorem broadcast (h : FormsKept s d) {kind dev : Nat} : FormsKept s (d.broadcast kind dev) := by
  unfold Dev.broadcast
  exact .ite h h.other.noticeCopy

theorem nextCopy (h : FormsKept s d) {count : Nat} : FormsKept s (d.nextCopy count) := by
  unfold Dev.nextCopy
  split
  · exact h.other.noticeCopy
  · exact h

theorem listDevice (h : FormsKept s d) {dev : Nat} : FormsKept s (d.listDevice dev) := h.other

theorem deviceGone (h : FormsKept s d) {dev : Nat} : FormsKept s (d.deviceGone dev) := h.listDevice.endAccessesTo.memberLost

theorem noticeRecord (h : FormsKept s d) {kind sender dev : Nat} : FormsKept s (d.noticeRecord kind sender dev) := h.report

theorem actNotice (h : FormsKept s d) {kind sender dev : Nat} : FormsKept s (d.actNotice kind sender dev) := by
  unfold Dev.actNotice
  exact .ite (.ite h.other.noticeRecord h) h.deviceGone.noticeRecord.raise

theorem noticeIn (h : FormsKept s d) {p : Packet} : FormsKept s (d.noticeIn p) := by
  unfold Dev.noticeIn
  exact .ite h.noticeCopy h.noticeCopy.other.actNotice

theorem coreOut (h : FormsKept s d) {c : Nat} : FormsKept s (d.coreOut c) := by
  unfold Dev.coreOut
  exact .ite h.other.setPhys.homeCoreLost h

theorem coreBack (h : FormsKept s d) {c : Nat} : FormsKept s (d.coreBack c) := by
  unfold Dev.coreBack
  exact .ite h h.setPhys

theorem occRecord (h : FormsKept s d) {code die unit cause : Nat} :
    FormsKept s (d.occRecord code die unit cause) := h.logAt.raise

theorem deviceOut (h : FormsKept s d) : FormsKept s (d.deviceOut) := by
  unfold Dev.deviceOut
  exact .ite h h.other.sf.endAccessesTo.memberLost.broadcast

theorem purgeReplies (h : FormsKept s d) : FormsKept s (d.purgeReplies) := by
  unfold Dev.purgeReplies
  exact .ite h h.setReplies.sf.logTarget

theorem deviceBack (h : FormsKept s d) : FormsKept s (d.deviceBack) := by
  unfold Dev.deviceBack
  exact .ite h h.other.sf.sweepReplies.purgeReplies.broadcast.retryHeld

theorem dieOut (h : FormsKept s d) {k : Nat} : FormsKept s (d.dieOut k) := by
  unfold Dev.dieOut
  extract_lets _ _ _
  exact .ite (.foldl h.sf fun _ _ h => h.coreOut) (.ite (.deviceOut (.foldl h.sf fun _ _ h => h.faceFall)) (.ite h.sf.deviceOut (.ite h.sf.sf.faceFall.linkDown h.sf.sf.faceFall)))

theorem occult (h : FormsKept s d) {u : OccUnit} {cause : Nat} {ctrl : Bool} : FormsKept s (d.occult u cause ctrl) := by
  unfold Dev.occult
  split
  · exact h
  · extract_lets _ _ _
    split
    · exact h.occRecord.other.coreOut
    · exact .foldl h.occRecord.other fun _ _ h => h.coreOut
    · exact h.occRecord.other.dieOut
    · exact h.occRecord.other.deviceOut

theorem lift (h : FormsKept s d) {u : OccUnit} : FormsKept s (d.lift u) := by
  unfold Dev.lift
  split
  · exact h
  · extract_lets _ _ d₂
    have h₂ : FormsKept s d₂ := by
      unfold d₂
      split
      · exact h.other.coreBack
      · exact .foldl h.other fun _ _ h => h.coreBack
      · extract_lets _
        exact .ite (.foldl h.other.sf fun _ _ h => h.coreBack) (.ite h.other.sf.sf h.other.sf)
      · exact h.other
    exact h₂.occRecord.deviceBack

theorem occultReq (h : FormsKept s d) : FormsKept s (d.occultReq) := by
  unfold Dev.occultReq
  extract_lets op _ _
  clear_value op
  split
  · split
    · exact h.occult
    · exact h.logAt
  · split
    · exact .ite h.lift h.logAt
    · exact h.logAt
  · exact .ite h.logAt h.broadcast.actNotice
  · exact h.logAt

/-! ### `Sys2Proof/Machine/PortCmds` -/

theorem onPort (h : FormsKept s d) {p n : Nat} {f : Dev → Dev} (hf : ∀ d, FormsKept s d → FormsKept s (f d)) :
    FormsKept s (d.onPort p n f) := by
  unfold Dev.onPort
  exact .ite h (.ite (hf _ h) (.hostWatch (hf _ h)))

/-! ### `Sys2Proof/Machine/Dlk` -/

theorem setLink (h : FormsKept s d) {n : Nat} {l : Link} : FormsKept s (d.setLink n l) := h.other

theorem setEnd (h : FormsKept s d) {n : Nat} {init : Bool} {e : LinkEnd} : FormsKept s (d.setEnd n init e) := h.setLink

theorem setLinkState (h : FormsKept s d) {n v : Nat} : FormsKept s (d.setLinkState n v) := h.sf

theorem logLink (h : FormsKept s d) {code n d1 : Nat} : FormsKept s (d.logLink code n d1) := h.sf.logAt

theorem logEnds (h : FormsKept s d) {code n d1 : Nat} : FormsKept s (d.logEnds code n d1) := h.logLink.logLink

theorem putFrame (h : FormsKept s d) {n : Nat} {init : Bool} {payload : List Byte} {c : Control} :
    FormsKept s (d.putFrame n init payload c) := h.setLink

theorem resendFrames (h : FormsKept s d) {n : Nat} {init : Bool} : FormsKept s (d.resendFrames n init) := by
  unfold Dev.resendFrames
  exact .foldl h fun _ _ h => h.putFrame

theorem sendFrame (h : FormsKept s d) {n : Nat} {init : Bool} : FormsKept s (d.sendFrame n init) := h.putFrame.setEnd.other

theorem linkTick (h : FormsKept s d) : FormsKept s (d.linkTick) := by
  unfold Dev.linkTick
  exact .foldl h fun _ _ h => h.sendFrame.sendFrame

theorem sendTrain (h : FormsKept s d) {n : Nat} {init : Bool} {train width : Nat} :
    FormsKept s (d.sendTrain n init train width) := h.putFrame

theorem askRetrain (h : FormsKept s d) {n : Nat} : FormsKept s (d.askRetrain n) := h.putFrame

theorem farReset (h : FormsKept s d) {n : Nat} {init : Bool} : FormsKept s (d.farReset n init) := by
  unfold Dev.farReset
  extract_lets _ d₁ d₂ _
  have h₁ : FormsKept s d₁ := .ite h h.logLink
  have h₂ : FormsKept s d₂ := by
    unfold d₂
    split
    · exact .ite h₁.faceTake h₁
    · exact h₁
  exact h₂.setEnd

theorem resetEnd (h : FormsKept s d) {n : Nat} {init : Bool} : FormsKept s (d.resetEnd n init) := h.setEnd

theorem resumeFrames (h : FormsKept s d) {n : Nat} :
    FormsKept s (d.resumeFrames n) := h.setEnd.setEnd.resendFrames.resendFrames

theorem logDie (h : FormsKept s d) {code k : Nat} : FormsKept s (d.logDie code k) := h.logAt

theorem retrain (h : FormsKept s d) {n : Nat} : FormsKept s (d.retrain n) := h.bump.logLink.score.setLink.setLinkState

theorem loseResponses (h : FormsKept s d) {c : Nat} : FormsKept s (d.loseResponses c) := h.other

theorem reissue (h : FormsKept s d) {p : Packet} : FormsKept s (d.reissue p) := by
  unfold Dev.reissue
  exact .ite h.other h.other

theorem failover (h : FormsKept s d) {c : Nat} : FormsKept s (d.failover c) := by
  unfold Dev.failover
  exact .foldl h.other.setLinkState.logLink.loseResponses fun _ _ h => h.reissue

theorem linkLost (h : FormsKept s d) {n : Nat} : FormsKept s (d.linkLost n) := by
  unfold Dev.linkLost
  split
  · split
    · exact h
    · split
      · exact h.failover
      · split
        · exact h.occult
        · exact h
  · split
    · exact h
    · split
      · exact h.occult
      · exact h
  · split
    · exact h.occult
    · exact h
  · exact h.occult
  · exact h.occult
  · exact h.occult

theorem takeAgain (h : FormsKept s d) {n : Nat} : FormsKept s (d.takeAgain n) := by
  unfold Dev.takeAgain
  exact .ite h.sf.retrain h

theorem linkFailed (h : FormsKept s d) {n : Nat} : FormsKept s (d.linkFailed n) := h.setLinkState.logEnds.linkLost.takeAgain

theorem exchangeFailed (h : FormsKept s d) {n : Nat} : FormsKept s (d.exchangeFailed n) := by
  unfold Dev.exchangeFailed
  extract_lets _ _ _ _ _ _
  exact .ite h.bump.logEnds.score.sf.setLink.linkFailed (.ite h.bump.logEnds.score.sf.setLink.takeAgain h.bump.logEnds.score.sf.setLink.retrain)

theorem goodFrame (h : FormsKept s d) {n : Nat} {init : Bool} {payload : List Byte} {c : Control} :
    FormsKept s (d.goodFrame n init payload c) := by
  unfold Dev.goodFrame
  extract_lets _ _ _ _ _ _ d₂ _
  have h₂ : FormsKept s d₂ := .ite h.setEnd.setLink h.setEnd
  exact .ite h₂ (.ite (.retrain (.ite h₂ h₂.askRetrain)) h₂.setEnd.resendFrames.bump)

theorem frameIn (h : FormsKept s d) {n : Nat} {init : Bool} {bytes : List Byte} : FormsKept s (d.frameIn n init bytes) := by
  unfold Dev.frameIn
  split
  · exact h
  · split
    · exact h.bump.logLink.score.setEnd
    · extract_lets _ _ _
      exact .ite h.incr.farReset.setEnd.retrain (.ite h.incr.retrain h.incr.goodFrame)

theorem lockLost (h : FormsKept s d) {n : Nat} : FormsKept s (d.lockLost n) := by
  unfold Dev.lockLost
  exact .ite h.askRetrain.retrain h

theorem testDone (h : FormsKept s d) {n maskI maskR : Nat} : FormsKept s (d.testDone n maskI maskR) := by
  unfold Dev.testDone
  exact .ite h h.setEnd.setEnd.sf.sf.sf.setLinkState.sendTrain

theorem propose (h : FormsKept s d) {n xnum mask level : Nat} : FormsKept s (d.propose n xnum mask level) := by
  unfold Dev.propose
  exact .ite h (.ite h.exchangeFailed (.sendTrain (.setLink (.ite h.farReset h))))

theorem accept (h : FormsKept s d) {n xnum mask width level : Nat} : FormsKept s (d.accept n xnum mask width level) := by
  unfold Dev.accept
  exact .ite h (.ite h.sf.exchangeFailed (.ite (.linkFailed (.ite h.sf.farReset h.sf)) (.sendTrain (.setLink (.ite h.sf.farReset h.sf)))))

theorem takeOver (h : FormsKept s d) {n : Nat} : FormsKept s (d.takeOver n) := by
  unfold Dev.takeOver
  split
  · exact .ite h.failover h
  · exact h

theorem askAgain (h : FormsKept s d) {n : Nat} {lost : Bool} : FormsKept s (d.askAgain n lost) := by
  unfold Dev.askAgain
  exact .ite (.foldl h fun _ _ h => h.reissue) h

theorem confirm (h : FormsKept s d) {n xnum width level : Nat} : FormsKept s (d.confirm n xnum width level) := by
  unfold Dev.confirm
  exact .ite h (.ite h.exchangeFailed (.takeAgain (.takeOver (.ite h.sf.sf.setLinkState.setLink.resumeFrames.askAgain h.sf.sf.setLinkState.setLink.resumeFrames.askAgain.logLink.score))))

theorem exchangeTimeout (h : FormsKept s d) {n : Nat} : FormsKept s (d.exchangeTimeout n) := by
  unfold Dev.exchangeTimeout
  exact .ite h.exchangeFailed h

theorem retrainWrite (h : FormsKept s d) {n : Nat} : FormsKept s (d.retrainWrite n) := by
  unfold Dev.retrainWrite
  exact .ite h.setLink (.ite h h.sf.retrain)

theorem downWrite (h : FormsKept s d) {n : Nat} {v : Bool} : FormsKept s (d.downWrite n v) := by
  unfold Dev.downWrite
  split
  · exact h
  · split
    · split
      · exact .ite (.ite h.sf.setLinkState.setLink.failover h.sf.setLinkState.setLink) h.logLink
      · exact h.logLink
    · exact h.sf.retrain

theorem writeLinkCtrl (h : FormsKept s d) {n : Nat} {v : Word} : FormsKept s (d.writeLinkCtrl n v) := by
  unfold Dev.writeLinkCtrl
  exact .downWrite (.ite h.retrainWrite h)

theorem sideSend (h : FormsKept s d) {k : Nat} : FormsKept s (d.sideSend k) := h.other

theorem sideIn (h : FormsKept s d) {k : Nat} {bytes : List Byte} {identity : Option (Nat × Nat)} :
    FormsKept s (d.sideIn k bytes identity) := by
  unfold Dev.sideIn
  split
  · exact h
  · extract_lets _ _ _
    split
    · exact h.other.sf.sf.sf.sf
    · exact h.other

theorem sideResend (h : FormsKept s d) {k : Nat} : FormsKept s (d.sideResend k) := by
  unfold Dev.sideResend
  exact .ite h h.other

theorem identityTimeout (h : FormsKept s d) {k : Fin 20} : FormsKept s (d.identityTimeout k) := by
  unfold Dev.identityTimeout
  exact .ite h h.other.logDie.occult

/-! ### `Sys2Proof/Machine/Time` -/

theorem logChrono (h : FormsKept s d) {step : Nat} : FormsKept s (d.logChrono step) := h.logAt

theorem passFace (h : FormsKept s d) {f : Nat} : FormsKept s (d.passFace f) := h.other

theorem askTime (h : FormsKept s d) {f t1 : Nat} : FormsKept s (d.askTime f t1) := h.notice

theorem timeExchange (h : FormsKept s d) {t1 : Nat} : FormsKept s (d.timeExchange t1) := by
  unfold Dev.timeExchange
  split
  · exact h
  · split
    · exact .ite h (.foldl h fun _ _ h => h.askTime)
    · split
      · exact .ite h.sf.askTime h
      · exact h

theorem timeRequest (h : FormsKept s d) {p : Packet} {t2 t3 : Nat} : FormsKept s (d.timeRequest p t2 t3) := h.notice

theorem becomeAligned (h : FormsKept s d) : FormsKept s (d.becomeAligned) := by
  unfold Dev.becomeAligned
  exact .ite h.sf.other.other h.sf.other

theorem loseAligned (h : FormsKept s d) : FormsKept s (d.loseAligned) := by
  unfold Dev.loseAligned
  exact .ite h.sf.logChrono.raise h

theorem setChrono (h : FormsKept s d) {theta : Int} : FormsKept s (d.setChrono theta) := h.other

theorem trim (h : FormsKept s d) : FormsKept s (d.trim) := h.draw.other.sf

theorem goodExchange (h : FormsKept s d) {theta : Int} : FormsKept s (d.goodExchange theta) := by
  unfold Dev.goodExchange
  extract_lets _ _ _ _ _
  exact .ite h.other.setChrono.becomeAligned (.ite h.other.setChrono.becomeAligned.logChrono (.ite h.other.loseAligned.other (.ite h.other.trim.loseAligned (.ite h.other.trim.becomeAligned h.other.trim))))

theorem timeReply (h : FormsKept s d) {p : Packet} {t4 : Nat} : FormsKept s (d.timeReply p t4) := by
  unfold Dev.timeReply
  extract_lets _ _ _ _
  exact .ite (.ite h.sf.setChrono h.sf) (.ite h (.ite h.sf.sf.goodExchange (.ite h.sf.passFace h.sf)))

theorem alignTimeout (h : FormsKept s d) : FormsKept s (d.alignTimeout) := by
  unfold Dev.alignTimeout
  exact .ite h (.ite h.loseAligned.passFace h.loseAligned)

theorem meridianRelease (h : FormsKept s d) : FormsKept s (d.meridianRelease) := by
  unfold Dev.meridianRelease
  extract_lets _ d₁ _
  have h₁ : FormsKept s d₁ := .foldl h fun _ _ h => .ite h.update h
  exact .ite h₁.sf.sf h₁.sf.sf.sf

theorem meridianArm (h : FormsKept s d) : FormsKept s (d.meridianArm) := by
  unfold Dev.meridianArm
  exact .ite h (.ite h.sf.logAt.raise.meridianRelease h.sf)

theorem meridianCancel (h : FormsKept s d) : FormsKept s (d.meridianCancel) := h.sf

theorem writeMeridianCtrl (h : FormsKept s d) {v : Word} : FormsKept s (d.writeMeridianCtrl v) := by
  unfold Dev.writeMeridianCtrl
  extract_lets _ d₂
  have h₂ : FormsKept s d₂ := .ite h.sf.meridianCancel h.sf
  exact .ite h₂.meridianArm h₂

theorem writeMeridianTick (h : FormsKept s d) {v : Word} : FormsKept s (d.writeMeridianTick v) := by
  unfold Dev.writeMeridianTick
  exact .ite h h.sf

theorem setRunning (h : FormsKept s d) {t : Nat} {l : List (Nat × Nat)} : FormsKept s (d.setRunning t l) := h.other

theorem clearPending (h : FormsKept s d) {n : Nat} : FormsKept s (d.clearPending n) := h.setReg

theorem claim (h : FormsKept s d) {t : Nat} : FormsKept s (d.claim t).2 := by
  unfold Dev.claim
  split
  · exact h
  · exact h.clearPending.setRunning

theorem endOfInt (h : FormsKept s d) {t src : Nat} : FormsKept s (d.endOfInt t src) := by
  unfold Dev.endOfInt
  split
  · exact .ite h.setRunning h.logHlk
  · exact h.logHlk

theorem pendSet (h : FormsKept s d) {k : Nat} {v : Word} : FormsKept s (d.pendSet k v) := by
  unfold Dev.pendSet
  exact .ite h.setReg (.ite h h.logHlk)

theorem pendClr (h : FormsKept s d) {k : Nat} {v : Word} : FormsKept s (d.pendClr k v) := h.setReg

theorem maskSet (h : FormsKept s d) {k : Nat} {v : Word} : FormsKept s (d.maskSet k v) := h.setReg

theorem maskClr (h : FormsKept s d) {k : Nat} {v : Word} : FormsKept s (d.maskClr k v) := h.setReg

theorem writeSrcCfg (h : FormsKept s d) {n : Nat} {v : Word} : FormsKept s (d.writeSrcCfg n v) := by
  unfold Dev.writeSrcCfg
  extract_lets _ _
  exact .ite h.sf (.ite h.sf.sf h.sf.logHlk)

theorem companionInt (h : FormsKept s d) {vec : Nat} : FormsKept s (d.companionInt vec) := by
  unfold Dev.companionInt
  split
  · exact h
  · split
    next _ _ _ d₁ he₁ =>
      have h₁ : FormsKept s d₁ := snd he₁ h.claim
      exact h₁.hlkSend
    next _ d₁ he₁ =>
      have h₁ : FormsKept s d₁ := snd he₁ h.claim
      exact h₁

/-! ### `Sys2Proof/Machine/Log` -/

theorem writeRecord (h : FormsKept s d) {x : RecHead} {r : Report} : FormsKept s (d.writeRecord x r) := by
  unfold Dev.writeRecord
  extract_lets _ _ d₁ _
  have h₁ : FormsKept s d₁ := .foldl h fun _ _ h => h.setReg
  exact .ite h₁.sf.raise h₁.sf

theorem writeIntake (h : FormsKept s d) {e : Intake} : FormsKept s (d.writeIntake e) := h.writeRecord

theorem writeCoalesce (h : FormsKept s d) {e : Coalesce} : FormsKept s (d.writeCoalesce e) := h.writeRecord

theorem writeSlot (h : FormsKept s d) : FormsKept s (d.writeSlot) := by
  unfold Dev.writeSlot
  extract_lets _
  split
  · exact h.other.writeCoalesce
  · split
    · exact h.other.writeIntake
    · exact h

theorem closeEntry (h : FormsKept s d) {source code : Nat} : FormsKept s (d.closeEntry source code) := by
  unfold Dev.closeEntry
  extract_lets _
  split
  · exact h.other
  · exact h

theorem flushLog (h : FormsKept s d) : FormsKept s (d.flushLog) := by
  unfold Dev.flushLog
  extract_lets _ _ d₂ d₃
  have h₂ : FormsKept s d₂ := .foldl h.other fun _ _ h => h.writeCoalesce
  have h₃ : FormsKept s d₃ := .foldl h₂ fun _ _ h => h.writeIntake
  exact .foldl h₃ fun _ _ h => h.writeCoalesce

theorem ringCopy (h : FormsKept s d) {errs : List MemErr} : FormsKept s (d.ringCopy errs) := by
  unfold Dev.ringCopy
  extract_lets _ next _
  split
  · exact h
  · split
    next _ d₁ he₁ =>
      have h₁ : FormsKept s d₁ := snd he₁ h.hbmHeld
      exact h₁
    next _ d₁ he₁ =>
      have h₁ : FormsKept s d₁ := snd he₁ h.hbmHeld
      exact h₁.writeHbm.sf

theorem writeLogCtrl (h : FormsKept s d) {v : Word} : FormsKept s (d.writeLogCtrl v) := by
  unfold Dev.writeLogCtrl
  exact .ite h.sf.logAt h.sf.sf

/-! ### `Sys2Proof/Machine/Trust` -/

theorem appendFloor (h : FormsKept s d) {x : FloorRec} : FormsKept s (d.appendFloor x) := h.other

/-! ### `Sys2Proof/Machine/Eph` -/

theorem setActive (h : FormsKept s d) {l : List JRec} : FormsKept s (d.setActive l) := h.other

theorem putReg (h : FormsKept s d) {k : RegKey} {v : Word} : FormsKept s (d.putReg k v) :=
  h.withRegs fun w => regFileWf_set w k v

theorem compact (h : FormsKept s d) : FormsKept s (d.compact) := by
  unfold Dev.compact
  exact .ite h h.other.logBoot

theorem writeRec (h : FormsKept s d) : FormsKept s (d.writeRec) := by
  unfold Dev.writeRec
  split
  · exact .ite h.other.setActive.compact h.other.setActive
  · exact h

theorem writeAllRecs (h : FormsKept s d) : FormsKept s (d.writeAllRecs) := by
  unfold Dev.writeAllRecs
  exact .ite (.foldl h fun _ _ h => h.writeRec) h

theorem holdRecs (h : FormsKept s d) : FormsKept s (d.holdRecs) := by
  unfold Dev.holdRecs
  exact .ite h (.ite h.other h.other.bump.logBoot)

theorem journalWrite (h : FormsKept s d) : FormsKept s (d.journalWrite) := by
  unfold Dev.journalWrite
  exact .ite h.writeRec h.holdRecs

theorem replay (h : FormsKept s d) {bad0 bad1 : Option Nat} : FormsKept s (d.replay bad0 bad1) := by
  unfold Dev.replay
  split
  · exact .ite h.other.bump.logBoot h.other

theorem restoreE (h : FormsKept s d) : FormsKept s d.restoreE := by
  unfold Dev.restoreE
  refine .foldl (h.withRegs fun w => regFileWf_rewrite w _) fun d e h => ?_
  split
  · exact h.putReg
  · exact h

theorem discardAll (h : FormsKept s d) : FormsKept s d.discardAll :=
  (h.withRegs fun w => regFileWf_rewrite w _).logBoot

theorem loseFields (h : FormsKept s d) {ev : KeepEvent} {start : Bool} {sel : RegKey → Bool} :
    FormsKept s (d.loseFields ev start sel) := by
  refine h.withRegs fun w => FMap.wf_filterMap RegKey.lt RegKey.reset _ (fun e e' he => ?_) w
  dsimp only at he
  split at he
  · split at he
    · cases he
    · cases he; exact ⟨rfl, fun _ => ‹_›⟩
  · cases he; exact ⟨rfl, id⟩

theorem applyAlmanac (h : FormsKept s d) {sel : RegKey → Bool} : FormsKept s (d.applyAlmanac sel) := by
  unfold Dev.applyAlmanac
  split
  · refine .foldl h fun _ _ h => ?_
    split
    · exact .ite h.putReg h
    · exact h
  · exact h

theorem sramLost (h : FormsKept s d) : FormsKept s (d.sramLost) := h.other.sf

theorem writeEphCtrl (h : FormsKept s d) {v : Word} : FormsKept s (d.writeEphCtrl v) := by
  unfold Dev.writeEphCtrl
  extract_lets d₁
  have h₁ : FormsKept s d₁ := .ite h.compact h
  exact .ite h₁.writeAllRecs h₁

/-! ### `Sys2Proof/Machine/Power` -/

theorem logPwr (h : FormsKept s d) {code unit d0 d1 : Nat} : FormsKept s (d.logPwr code unit d0 d1) := h.sf.logAt

theorem modIsl (h : FormsKept s d) {n : Nat} {f : IslandSt → IslandSt} : FormsKept s (d.modIsl n f) := h.other

theorem modTherm (h : FormsKept s d) {k : Nat} {f : ThermSt → ThermSt} : FormsKept s (d.modTherm k f) := h.other

theorem setDiv (h : FormsKept s d) {n : Nat} {v : Nat × Nat} : FormsKept s (d.setDiv n v) := h.modIsl.sf

theorem startRamp (h : FormsKept s d) {n : Nat} {b : Nat × Nat} : FormsKept s (d.startRamp n b) := h.modIsl.sf

theorem retarget (h : FormsKept s d) {n : Nat} : FormsKept s (d.retarget n) := by
  unfold Dev.retarget
  split
  · exact h
  · split
    · extract_lets _
      split
      · extract_lets _
        exact .ite h.sf.sf.startRamp (.ite h.sf.sf.modIsl h.sf.sf)
    · exact h.sf.startRamp

theorem rampStep (h : FormsKept s d) {n : Nat} : FormsKept s (d.rampStep n) := by
  unfold Dev.rampStep
  split
  · extract_lets _ _ _ _
    exact .ite h.setDiv.modIsl (.ite h.setDiv.modIsl.sf.sf h.setDiv.modIsl.sf)
  · exact h

theorem railSettled (h : FormsKept s d) {n : Nat} : FormsKept s (d.railSettled n) := by
  unfold Dev.railSettled
  exact .ite h.startRamp h

theorem islandUp (h : FormsKept s d) {n : Nat} : FormsKept s (d.islandUp n) := by
  unfold Dev.islandUp
  extract_lets _ _
  split
  · exact h.modIsl.sf.sf.sf.sf.setDiv

theorem clockOff (h : FormsKept s d) {n : Nat} : FormsKept s (d.clockOff n) := h.modIsl.sf.sf.sf

theorem islandOff (h : FormsKept s d) {n : Nat} : FormsKept s (d.islandOff n) := h.clockOff.sf.sf.sf.sf.sf

theorem refreshCap (h : FormsKept s d) : FormsKept s (d.refreshCap) := by
  unfold Dev.refreshCap
  exact .ite h h.sf.raise

theorem lowerAll (h : FormsKept s d) : FormsKept s (d.lowerAll) := by
  unfold Dev.lowerAll
  exact .foldl h fun _ _ h => .ite h.modIsl.retarget h

theorem raiseAll (h : FormsKept s d) : FormsKept s (d.raiseAll) := by
  unfold Dev.raiseAll
  exact .foldl h fun _ _ h => .ite h.modIsl.retarget h

theorem capWindow (h : FormsKept s d) {long : Bool} {watts : Nat} : FormsKept s (d.capWindow long watts) := by
  unfold Dev.capWindow
  extract_lets _
  exact .ite (.ite h.lowerAll h) (.ite h.raiseAll h)

theorem beginLoss (h : FormsKept s d) {cause : Nat} : FormsKept s (d.beginLoss cause) := by
  unfold Dev.beginLoss
  exact .ite h h.sf.logPwr.other

theorem lossPath (h : FormsKept s d) {cause : Nat} {opened : Bool} : FormsKept s (d.lossPath cause opened) := by
  unfold Dev.lossPath
  extract_lets _ d₁
  have h₁ : FormsKept s d₁ := .ite h.other h
  exact .ite h₁.beginLoss h₁

theorem inputRuns (h : FormsKept s d) {vin iin pin : Nat} : FormsKept s (d.inputRuns vin iin pin).2 := h.sf.sf.sf.incr.other

theorem inputLow (h : FormsKept s d) {vin : Nat} : FormsKept s (d.inputLow vin) := by
  unfold Dev.inputLow
  exact .ite h.other.sf.bump.logPwr.raise.refreshCap h

theorem inputHigh (h : FormsKept s d) {vin : Nat} : FormsKept s (d.inputHigh vin) := by
  unfold Dev.inputHigh
  exact .ite h.other.sf.bump.logPwr.raise (.ite h.other.sf h)

theorem fastLimit (h : FormsKept s d) : FormsKept s (d.fastLimit) := h.bump.lowerAll

theorem inputGone (h : FormsKept s d) : FormsKept s (d.inputGone) := by
  unfold Dev.inputGone
  exact .ite h.lossPath h

theorem inputSample (h : FormsKept s d) {vin iin pin : Nat} : FormsKept s (d.inputSample vin iin pin) := by
  unfold Dev.inputSample
  exact .ite h.inputRuns.inputGone (.inputGone (.ite h.inputRuns.inputLow.inputHigh.fastLimit h.inputRuns.inputLow.inputHigh))

theorem lowTimeout (h : FormsKept s d) : FormsKept s (d.lowTimeout) := by
  unfold Dev.lowTimeout
  exact .ite h.lossPath h

theorem lowLift (h : FormsKept s d) : FormsKept s (d.lowLift) := by
  unfold Dev.lowLift
  exact .ite h.other.sf.refreshCap h

theorem converterFail (h : FormsKept s d) : FormsKept s (d.converterFail) := by
  unfold Dev.converterFail
  exact .ite h (.ite h.other.sf.logPwr.raise.lossPath h.other.sf.logPwr.raise.refreshCap)

theorem refreshPgood (h : FormsKept s d) : FormsKept s (d.refreshPgood) := h.other

theorem railChange (h : FormsKept s d) {rail : Nat} {ok : Bool} : FormsKept s (d.railChange rail ok) := h.other.refreshPgood

theorem reportP1 (h : FormsKept s d) : FormsKept s (d.reportP1) := by
  unfold Dev.reportP1
  exact .ite h h.sf

theorem idleGate (h : FormsKept s d) {n : Nat} : FormsKept s (d.idleGate n) := by
  unfold Dev.idleGate
  exact .ite h.sf.reportP1 h

theorem ungate (h : FormsKept s d) {n : Nat} : FormsKept s (d.ungate n) := by
  unfold Dev.ungate
  exact .ite h.sf.reportP1 h

theorem writeIsland (h : FormsKept s d) {n : Nat} {v : Word} : FormsKept s (d.writeIsland n v) := by
  unfold Dev.writeIsland
  extract_lets _ _ _ d₂
  have h₂ : FormsKept s d₂ := .ite h.sf.sf h.sf.sf.sf.reportP1
  exact .ite h.logPwr.raise (.ite h₂.retarget h₂)

theorem droopTrip (h : FormsKept s d) {n : Nat} : FormsKept s (d.droopTrip n) := by
  unfold Dev.droopTrip
  exact .ite h h.modIsl.sf.bump.logPwr.score

theorem droopClear (h : FormsKept s d) {n : Nat} : FormsKept s (d.droopClear n) := by
  unfold Dev.droopClear
  exact .ite h.modIsl h.modIsl.sf

theorem droopHandover (h : FormsKept s d) {n : Nat} : FormsKept s (d.droopHandover n) := by
  unfold Dev.droopHandover
  exact .ite h (.raise (.score (.modIsl (.retarget (.ite h.modIsl h.modIsl)))))

theorem droopRecovery (h : FormsKept s d) {n : Nat} : FormsKept s (d.droopRecovery n) := by
  unfold Dev.droopRecovery
  extract_lets _
  exact .ite h (.ite (.ite h.modIsl.retarget h) (.ite h.modIsl.sf h))

theorem refLost (h : FormsKept s d) : FormsKept s (d.refLost) := by
  unfold Dev.refLost
  exact .ite h h.sf.sf.logPwr.raise

theorem holdoverExpiry (h : FormsKept s d) : FormsKept s (d.holdoverExpiry) := by
  unfold Dev.holdoverExpiry
  exact .ite h (.loseAligned (.foldl h.occult fun _ _ h => h.faceFall))

theorem refBack (h : FormsKept s d) {khz : Nat} : FormsKept s (d.refBack khz) := h.sf.sf.sf

theorem pllUnlock (h : FormsKept s d) {n : Nat} : FormsKept s (d.pllUnlock n) := by
  unfold Dev.pllUnlock
  split
  · exact h
  · extract_lets _ _
    split
    · exact h.clockOff.sf.logPwr.score.raise.occult
    · split
      · exact h.clockOff.sf.logPwr.score.raise.occult
      · exact h.clockOff.sf.logPwr.score.raise

theorem refreshThm (h : FormsKept s d) : FormsKept s (d.refreshThm) := h.sf.sf.sf.sf

theorem thermRetarget (h : FormsKept s d) {k : Nat} : FormsKept s (d.thermRetarget k) := by
  unfold Dev.thermRetarget
  exact .ite (.foldl h fun _ _ h => h.retarget) (.foldl h fun _ _ h => h.retarget)

theorem discardSensor (h : FormsKept s d) {k x r : Nat} : FormsKept s (d.discardSensor k x r) := h.sf.logPwr.raise

theorem checkBlind (h : FormsKept s d) {k : Nat} : FormsKept s (d.checkBlind k) := by
  unfold Dev.checkBlind
  extract_lets _ _ _
  split
  · split
    · exact h.sf.sf.logPwr.raise.occult
    · exact h.sf.sf.logPwr.raise
  · exact h.sf

theorem crossCheck (h : FormsKept s d) {k : Nat} {temps : List (Option Int)} : FormsKept s (d.crossCheck k temps) := by
  unfold Dev.crossCheck
  extract_lets _
  exact .foldl h fun _ _ h => .ite h (.ite h.modTherm.discardSensor h.modTherm)

theorem sampleRate (h : FormsKept s d) {k : Nat} {m : Int} : FormsKept s (d.sampleRate k m) := by
  unfold Dev.sampleRate
  exact .ite h.modTherm.sf (.ite h (.ite h.modTherm.sf h.modTherm))

theorem judgeTemp (h : FormsKept s d) {k : Nat} {m : Int} : FormsKept s (d.judgeTemp k m) := by
  unfold Dev.judgeTemp
  extract_lets _ _ _ _ d₂ _ _
  have h₂ : FormsKept s d₂ := .ite h.sf.bump.logPwr.raise (.ite h.sf.raise h.sf)
  exact .ite h₂.bump.logPwr.raise.modTherm.thermRetarget (.ite h₂.raise h₂)

theorem flashReading (h : FormsKept s d) {t : Option Int} : FormsKept s (d.flashReading t) := by
  unfold Dev.flashReading
  extract_lets _ _ _ _ _ _
  exact .ite h.sf.other.sf (.ite (.writeAllRecs (.raise (.foldl h.sf.other.sf.other fun _ _ h => h.appendFloor))) h.sf.other.sf.logPwr.raise)

theorem thermalSample (h : FormsKept s d) {k : Nat} {temps : List (Option Int)} {flash : Option Int} {inlet outlet : Int} :
    FormsKept s (d.thermalSample k temps flash inlet outlet) := by
  unfold Dev.thermalSample
  extract_lets _ _ d₃ _ _ _
  have h₃ : FormsKept s d₃ := by
    unfold d₃
    split
    · exact h.sf.sf.flashReading.crossCheck.sf.sf.sampleRate.judgeTemp
    · exact h.sf.sf.flashReading.crossCheck
  exact .ite h₃.checkBlind.refreshThm.other h₃.checkBlind.refreshThm

theorem throttleStep (h : FormsKept s d) {k : Nat} : FormsKept s (d.throttleStep k) := by
  unfold Dev.throttleStep
  exact .ite h.modTherm.thermRetarget h

theorem throttleRecovery (h : FormsKept s d) {k : Nat} : FormsKept s (d.throttleRecovery k) := by
  unfold Dev.throttleRecovery
  exact .ite h.modTherm.thermRetarget.refreshThm h

theorem crossing (h : FormsKept s d) {k : Nat} {above : Bool} : FormsKept s (d.crossing k above) := h.other

theorem thmShutdown (h : FormsKept s d) {k : Nat} : FormsKept s (d.thmShutdown k) := by
  unfold Dev.thmShutdown
  exact .ite h h.sf.logPwr.other.lossPath

theorem comparatorTest (h : FormsKept s d) {failed : List (Nat × Nat)} {detectors : List Nat} :
    FormsKept s (d.comparatorTest failed detectors) := by
  unfold Dev.comparatorTest
  extract_lets d₁
  have h₁ : FormsKept s d₁ := .foldl h fun _ _ h => .ite h h.sf.logPwr.raise.discardSensor.checkBlind
  exact .foldl h₁ fun _ _ h => h.logAt.raise

/-! ### `Sys2Proof/Machine/Boot` -/

theorem setBoot (h : FormsKept s d) {st : BootStep} : FormsKept s (d.setBoot st) := h.other.sf

theorem logSec (h : FormsKept s d) {code d0 d1 : Nat} : FormsKept s (d.logSec code d0 d1) := h.sf.logAt

theorem coldRestart (h : FormsKept s d) : FormsKept s (d.coldRestart) := h.writeAllRecs.other.setBoot.sf

theorem stepTo (h : FormsKept s d) {st : BootStep} : FormsKept s (d.stepTo st) := by
  unfold Dev.stepTo
  exact .ite h.coldRestart h.setBoot

theorem startFail (h : FormsKept s d) {code : Nat} : FormsKept s (d.startFail code) := by
  unfold Dev.startFail
  exact .ite h.setBoot.sf.logBoot h.other.logBoot.coldRestart

theorem toRecovery (h : FormsKept s d) : FormsKept s (d.toRecovery) := by
  unfold Dev.toRecovery
  exact .setBoot (.sf (.refreshPgood (.other (.foldl h fun _ _ h => h.islandOff))))

theorem restoreCores (h : FormsKept s d) : FormsKept s (d.restoreCores) := by
  unfold Dev.restoreCores
  exact .foldl h fun _ _ h => .ite h h.setPhys

theorem wipeUnits (h : FormsKept s d) {kind : StartKind} : FormsKept s (d.wipeUnits kind) := by
  have hd : FormsKept s d.restoreCores := h.restoreCores
  refine ⟨fun w => ⟨rfl, rfl, rfl, ?_⟩, fun w => hd.regs w⟩
  obtain ⟨-, -, -, hbm⟩ := hd.memory w
  show NMap.wf 0 (if kind = .warm then d.restoreCores.hbm else []) = true
  split
  · exact hbm
  · rfl

theorem syncBoot (h : FormsKept s d) : FormsKept s (d.syncBoot) := h.sf.sf.sf.sf.sf.sf.sf.sf.sf.sf

theorem endExtest (h : FormsKept s d) : FormsKept s (d.endExtest) := by
  unfold Dev.endExtest
  exact .ite h.other h

theorem enterStart (h : FormsKept s d) {kind : StartKind} {first : BootStep} :
    FormsKept s (d.enterStart kind first) := h.wipeUnits.loseFields.putReg.putReg.endExtest.other.syncBoot

theorem pgoodStart (h : FormsKept s d) : FormsKept s (d.pgoodStart) := h.other.enterStart.sf

theorem tryRise (h : FormsKept s d) : FormsKept s (d.tryRise) := by
  unfold Dev.tryRise
  exact .ite h.pgoodStart h

theorem pgoodRise (h : FormsKept s d) {strap vin : Nat} : FormsKept s (d.pgoodRise strap vin) := by
  unfold Dev.pgoodRise
  exact .ite h.sf h.sf.other.tryRise

theorem pgoodFall (h : FormsKept s d) : FormsKept s (d.pgoodFall) := by
  unfold Dev.pgoodFall
  extract_lets _ _
  exact .ite h.other.lossPath (.ite h.other.setBoot h.other)

theorem powerLost {s d : Dev} : FormsKept s d.powerLost := ⟨fun _ => ⟨rfl, rfl, rfl, rfl⟩, fun _ => rfl⟩

theorem clocksStopped (h : FormsKept s d) : FormsKept s (d.clocksStopped) := by
  unfold Dev.clocksStopped
  exact .ite h (.other (.foldl h fun _ _ h => h.clockOff))

theorem railsOff (h : FormsKept s d) : FormsKept s (d.railsOff) := by
  unfold Dev.railsOff
  exact .ite h (.refreshPgood (.hbmNone (.foldl h fun _ _ h => h.islandOff)))

theorem stageOneOff (h : FormsKept s d) : FormsKept s (d.stageOneOff) := by
  unfold Dev.stageOneOff
  exact .ite h h.writeAllRecs.wipeUnits.loseFields.other.sf.sf.sf.sf.setBoot

theorem pgoodHoldEnd (h : FormsKept s d) : FormsKept s (d.pgoodHoldEnd) := by
  unfold Dev.pgoodHoldEnd
  exact .ite h h.other.tryRise

theorem converterCheck (h : FormsKept s d) : FormsKept s (d.converterCheck) := by
  unfold Dev.converterCheck
  exact .ite h.lossPath h

theorem stageOneHoldEnd (h : FormsKept s d) : FormsKept s (d.stageOneHoldEnd) := by
  unfold Dev.stageOneHoldEnd
  exact .ite h h.other.enterStart.converterCheck

theorem delayEnd (h : FormsKept s d) {khz : Nat} : FormsKept s (d.delayEnd khz) := by
  unfold Dev.delayEnd
  exact .ite h h.other.sf.refBack.stepTo.converterCheck

theorem newChallenge (h : FormsKept s d) : FormsKept s (d.newChallenge) := by
  unfold Dev.newChallenge
  exact .draw (.foldl h fun _ _ h => h.setReg)

theorem railsIn (h : FormsKept s d) : FormsKept s (d.railsIn) := by
  unfold Dev.railsIn
  exact .ite h (.stepTo (.newChallenge (.foldl h.other.refreshPgood fun _ _ h => h.islandUp)))

theorem mirrorFw (h : FormsKept s d) : FormsKept s (d.mirrorFw) := h.sf.sf.sf.sf.sf.sf.sf

theorem romDone (h : FormsKept s d) {delayUs : Nat} : FormsKept s (d.romDone delayUs) := by
  unfold Dev.romDone
  exact .ite h (.stepTo (.mirrorFw (.ite h.sf h)))

theorem readRecords (h : FormsKept s d) {r : Option SecRecords} : FormsKept s (d.readRecords r) := h.other

theorem identityDone (h : FormsKept s d) {records : Option SecRecords} : FormsKept s (d.identityDone records) := by
  unfold Dev.identityDone
  exact .ite h (.ite (.foldl h.readRecords.other.other.sf fun _ _ h => h.sf) h.readRecords.other.other.sf.logSec)

theorem setSlot (h : FormsKept s d) {b : Bool} {st tries : Nat} : FormsKept s (d.setSlot b st tries) := h.other.mirrorFw

theorem trySlot (h : FormsKept s d) {b : Bool} : FormsKept s (d.trySlot b).2 := by
  unfold Dev.trySlot
  split
  · split
    · split
      · exact h.logSec
      · exact .sf (.other (.ite h.setSlot h))
    · exact h

theorem chooseFirmware (h : FormsKept s d) : FormsKept s (d.chooseFirmware).2 := by
  unfold Dev.chooseFirmware
  extract_lets _
  exact .iteSnd h.trySlot (.iteSnd h.trySlot.setSlot.trySlot.logBoot h.trySlot.setSlot.trySlot.logBoot.toRecovery)

theorem readSecurity (h : FormsKept s d) {r : FlashRead} : FormsKept s (d.readSecurity r) := by
  unfold Dev.readSecurity
  extract_lets _ _ d₂ _ _ _ _ _ _ _ _ _
  have h₂ : FormsKept s d₂ := .foldl h.readRecords fun _ _ h => h.logSec
  exact .ite h₂.sf.sf.other.sf.logSec h₂.sf.sf.other.sf

theorem logAlmanac (h : FormsKept s d) {b : Bool} {x : Option Almanac} : FormsKept s (d.logAlmanac b x) := by
  unfold Dev.logAlmanac
  split
  · split
    · exact h.logSec
    · exact h
  · exact h

theorem readAlmanac (h : FormsKept s d) {r : FlashRead} : FormsKept s (d.readAlmanac r) := by
  unfold Dev.readAlmanac
  extract_lets _ _
  split
  · extract_lets _ _ _
    exact .ite h.logAlmanac.logAlmanac.other.sf.sf.sf.logBoot h.logAlmanac.logAlmanac.other.sf.sf.sf
  · exact h.logAlmanac.logAlmanac.other.sf.logBoot

theorem firmwareDone (h : FormsKept s d) {r : FlashRead} : FormsKept s (d.firmwareDone r) := by
  unfold Dev.firmwareDone
  split
  · exact h
  · extract_lets _ d₁
    have h₁ : FormsKept s d₁ := h.other.mirrorFw
    split
    next _ _ d₂ he₁ =>
      have h₂ : FormsKept s d₂ := snd he₁ h₁.readSecurity.chooseFirmware
      exact .ite h₂.readAlmanac.stepTo h₂

theorem ephemerisDone (h : FormsKept s d) {bad0 bad1 : Option Nat} : FormsKept s (d.ephemerisDone bad0 bad1) := by
  unfold Dev.ephemerisDone
  exact .ite h (.stepTo (.foldl (.ite (.incr (.other (.mirrorFw (.ite (.restoreSubst (.restoreE (.ite (.sf (.discardAll (.ite h.replay h))) (.ite h.replay h)))) (.ite (.sf (.discardAll (.ite h.replay h))) (.ite h.replay h)))))) (.incr (.other (.mirrorFw (.ite (.restoreSubst (.restoreE (.ite (.sf (.discardAll (.ite h.replay h))) (.ite h.replay h)))) (.ite (.sf (.discardAll (.ite h.replay h))) (.ite h.replay h))))))) fun _ _ h => h.sideSend))

theorem judgeDies (h : FormsKept s d) : FormsKept s (d.judgeDies) := by
  unfold Dev.judgeDies
  refine .foldl h fun _ _ h => ?_
  split
  · exact h
  · extract_lets _
    split
    · exact h.sf.logDie.occult
    · exact h.sf.logDie

theorem inventoryDone (h : FormsKept s d) {stepping level : Nat} : FormsKept s (d.inventoryDone stepping level) := by
  unfold Dev.inventoryDone
  exact .ite h (.ite h.applyAlmanac.refreshCap.sf.sf.sf.sf.logDie.toRecovery (.ite h.applyAlmanac.refreshCap.sf.sf.sf.sf.judgeDies.startFail (.stepTo (.foldl (.anchorStart (.incr (.foldl h.applyAlmanac.refreshCap.sf.sf.sf.sf.judgeDies.sf fun _ _ h => h.sideSend))) fun _ _ h => .ite h h.setLinkState))))

theorem startCollimator (h : FormsKept s d) {p temp : Nat} {cold : Bool} : FormsKept s (d.startCollimator p temp cold) := by
  unfold Dev.startCollimator
  exact .ite h.collimate (.sf (.collimate (.ite h h.logAt)))

theorem linksDone (h : FormsKept s d) {temps : List Nat} : FormsKept s (d.linksDone temps) := by
  unfold Dev.linksDone
  exact .ite h (.ite h.startFail (.stepTo (.other (.foldl h fun _ _ h => .ite h h.startCollimator))))

theorem hbmReady (h : FormsKept s d) : FormsKept s (d.hbmReady) := by
  unfold Dev.hbmReady
  exact .foldl h fun _ _ h => h.sf.sf

theorem trainingDone (h : FormsKept s d) {x : Nat} {ok : Bool} {temp : Nat} : FormsKept s (d.trainingDone x ok temp) := by
  unfold Dev.trainingDone
  split
  · extract_lets _ _ _ _ d₂ _ _ _ d₅ _ _ _ _
    have h₂ : FormsKept s d₂ := .ite h (.ite h.other.logAt h.other)
    have h₅ : FormsKept s d₅ := .ite h₂.sf.sf h₂.sf.sf.sf
    exact .ite (.ite h₅.other.hbmReady.stepTo h₅.other) (.ite h.logAt.other h.logAt.startFail)
  · exact h

theorem zeroFillDone (h : FormsKept s d) : FormsKept s (d.zeroFillDone) := by
  unfold Dev.zeroFillDone
  exact .ite h h.hbmNone.hbmReady.stepTo

theorem lightFail (h : FormsKept s d) {u layer : Nat} : FormsKept s (d.lightFail u layer).2 := by
  unfold Dev.lightFail
  extract_lets _ _ _ d₂ _ _
  have h₂ : FormsKept s d₂ := .ite h.logAt.sf.score h.logAt
  split
  · split
    · split
      · exact h₂.occult
      · exact h₂
    · exact .iteSnd h₂ h₂.sf
  · exact h₂

theorem lightFails (h : FormsKept s d) {fails : List (Nat × Nat)} : FormsKept s (d.lightFails fails).2 := by
  unfold Dev.lightFails
  exact .foldlSnd h fun _ _ h => h.lightFail

theorem startComplete (h : FormsKept s d) {elapsedMs : Nat} : FormsKept s (d.startComplete elapsedMs) := by
  unfold Dev.startComplete
  extract_lets _ _ _ _ _ _ d₄
  have h₄ : FormsKept s d₄ := .ite h.setBoot.sf.other.sf.sf.occRecord h.setBoot.sf.other.sf.sf
  exact h₄.broadcast

theorem lightResult (h : FormsKept s d) {pass : Bool} {durationMs : Nat} {fails : List (Nat × Nat)} {form : Nat} :
    FormsKept s (d.lightResult pass durationMs fails form) := by
  unfold Dev.lightResult
  extract_lets _ _
  exact .ite h.sf.sf.sf.sf.logAt (.ite h.sf.sf.sf h.sf.sf.sf.sf)

theorem refsetInvalid (h : FormsKept s d) : FormsKept s (d.refsetInvalid) := h.logAt.draw.sf

theorem startLightDone (h : FormsKept s d) {durationMs : Nat} {fails : List (Nat × Nat)} {refset : Bool} {elapsedMs : Nat} :
    FormsKept s (d.startLightDone durationMs fails refset elapsedMs) := by
  unfold Dev.startLightDone
  extract_lets _
  split
  next _ _ d₁ he =>
    have h₁ : FormsKept s d₁ := snd he (.iteSnd h.lightFails h.refsetInvalid)
    extract_lets _
    exact .ite h₁.lightResult.startFail (.ite h₁.lightResult.coldRestart h₁.lightResult.startComplete)

theorem looseStores (h : FormsKept s d) {scope : Nat} : FormsKept s (d.looseStores scope) := by
  unfold Dev.looseStores
  exact .foldl h fun _ _ h => .ite h.looseCore.looseCluster h

theorem demandLightDone (h : FormsKept s d) {corner : Bool} {scope durationMs : Nat} {fails : List (Nat × Nat)} {refset : Bool} :
    FormsKept s (d.demandLightDone corner scope durationMs fails refset) := by
  unfold Dev.demandLightDone
  extract_lets _ _
  split
  next _ _ d₂ he =>
    have h₂ : FormsKept s d₂ := snd he (.iteSnd h.other.looseStores.lightFails h.other.looseStores.refsetInvalid)
    extract_lets _ d₄ d₅
    have h₄ : FormsKept s d₄ := .ite h₂.lightResult h₂.lightResult.sf
    have h₅ : FormsKept s d₅ := .ite h₄.occult h₄
    exact h₅.raise

theorem firstLightDone (h : FormsKept s d) {durationMs : Nat} {fails : List (Nat × Nat)} {refset : Bool} {elapsedMs : Nat} :
    FormsKept s (d.firstLightDone durationMs fails refset elapsedMs) := by
  unfold Dev.firstLightDone
  split
  · exact h.startLightDone
  · split
    · exact h.demandLightDone
    · exact h

theorem coldReq (h : FormsKept s d) : FormsKept s (d.coldReq) := by
  unfold Dev.coldReq
  exact .ite h (.ite h.other h.coldRestart)

theorem warmStart (h : FormsKept s d) : FormsKept s (d.warmStart) := by
  unfold Dev.warmStart
  exact .ite h.logBoot.coldRestart h.other.setBoot.sf.sf

theorem warmReq (h : FormsKept s d) : FormsKept s (d.warmReq) := by
  unfold Dev.warmReq
  exact .ite h.warmStart h.logBoot

theorem quiesceDone (h : FormsKept s d) {errs : List MemErr} : FormsKept s (d.quiesceDone errs) := by
  unfold Dev.quiesceDone
  exact .ite h (.ite (.coldRestart (.flushLog (.writeAllRecs (.cacheEmpty (.foldl h fun _ _ h' => .foldl h' fun _ _ h => .ite h.abortSwaps h))))) (.foldl (.enterStart (.flushLog (.writeAllRecs (.cacheEmpty (.foldl h fun _ _ h' => .foldl h' fun _ _ h => .ite h.abortSwaps h))))) fun _ _ h => h.sf))

theorem watchdog (h : FormsKept s d) : FormsKept s (d.watchdog) := by
  unfold Dev.watchdog
  exact .ite h h.other.logBoot.warmStart

theorem kickDog (h : FormsKept s d) : FormsKept s (d.kickDog) := h.other

theorem writeWatchdog (h : FormsKept s d) {v : Word} : FormsKept s (d.writeWatchdog v) := by
  unfold Dev.writeWatchdog
  extract_lets _ d₁
  have h₁ : FormsKept s d₁ := .ite h h.sf.kickDog
  exact .ite h₁.kickDog h₁

/-! ### `Sys2Proof/Machine/Parked` -/

theorem dropDie (h : FormsKept s d) {k : Nat} : FormsKept s (d.dropDie k) := by
  have hd : FormsKept s ((d.looseCore (k * 2 ^ 27) (2 ^ 27)).looseCluster (k * 2 ^ 26) (2 ^ 26)) := h.looseCore.looseCluster
  exact ⟨fun w => have ⟨core, cluster, imem, hbm⟩ := hd.memory w; ⟨core, cluster, storeWf_loose imem _ _ _, hbm⟩, fun w => hd.regs w⟩

theorem dieIslands (h : FormsKept s d) {k : Nat} {up : Bool} : FormsKept s (d.dieIslands k up) := by
  unfold Dev.dieIslands
  exact .foldl h fun _ _ h => .ite (.ite h.islandUp h.islandOff) h

theorem gateDie (h : FormsKept s d) {k : Nat} : FormsKept s (d.gateDie k) := by
  unfold Dev.gateDie
  exact .dieIslands (.loseFields (.ite h.dropDie h))

theorem parkRefused (h : FormsKept s d) {t : Nat} : FormsKept s (d.parkRefused t) := h.logPwr.raise

theorem beginPark (h : FormsKept s d) {t : Nat} : FormsKept s (d.beginPark t) := by
  unfold Dev.beginPark
  exact .foldl h.sf.sf fun _ _ h => h.recallLine

theorem leavePark (h : FormsKept s d) : FormsKept s (d.leavePark) := by
  unfold Dev.leavePark
  extract_lets _
  split
  · exact h.sf.sf
  · exact h.sf.enterStart.sf
  · exact h.sf

theorem writeTarget (h : FormsKept s d) {t : Nat} : FormsKept s (d.writeTarget t) := by
  unfold Dev.writeTarget
  extract_lets _
  exact .ite h (.ite h.parkRefused (.ite h.leavePark (.ite (.ite h.beginPark h.parkRefused) h)))

theorem writePwrCtrl (h : FormsKept s d) {v : Word} : FormsKept s (d.writePwrCtrl v) := by
  unfold Dev.writePwrCtrl
  exact .ite h.parkRefused h.sf.refreshCap.writeTarget

theorem laneZero (h : FormsKept s d) {p n : Nat} : FormsKept s (d.laneZero p n) := by
  unfold Dev.laneZero
  exact .ite h.abortSwaps h.abortSwaps.lightOff.sf

theorem lanesBack (h : FormsKept s d) {p n : Nat} : FormsKept s (d.lanesBack p n) := by
  unfold Dev.lanesBack
  exact .ite h h.modPort.sf

theorem overPorts (h : FormsKept s d) {f : Dev → Nat → Nat → Dev} (hf : ∀ d p n, FormsKept s d → FormsKept s (f d p n)) :
    FormsKept s (d.overPorts f) := by
  unfold Dev.overPorts
  exact .foldl h fun _ _ h => .foldl h fun _ _ h => .ite (hf _ _ _ h) h

theorem portsStandby (h : FormsKept s d) {p n : Nat} : FormsKept s (d.portsStandby p n) := by
  unfold Dev.portsStandby
  exact .ite (.ite h.laneZero.portStep h) h.portLeave.portDark.portStep

theorem parked (h : FormsKept s d) {errs : List MemErr} : FormsKept s (d.parked errs) := by
  unfold Dev.parked
  extract_lets _ _ d₂ d₃ d₄ d₅ d₆ d₇ d₈ _ _ _ _ d₁₀
  have h₂ : FormsKept s d₂ := .foldl h.cacheEmpty fun _ _ h => h.sf
  have h₃ : FormsKept s d₃ := .foldl h₂ fun _ _ h => h.gateDie
  have h₄ : FormsKept s d₄ := h₃.overPorts fun _ _ _ h => .ite h.laneZero h
  have h₅ : FormsKept s d₅ := .hostWatch (h₄.overPorts fun _ _ _ h => h.portsStandby)
  have h₆ : FormsKept s d₆ := .flushLog (.foldl h₅ fun _ _ h => h.faceFall)
  have h₇ : FormsKept s d₇ := .ite h₆.sf h₆
  have h₈ : FormsKept s d₈ := .foldl h₇ fun _ _ h => h.gateDie
  have h₁₀ : FormsKept s d₁₀ := .ite h₈.dieIslands.hbmNone.refreshPgood.sf h₄
  exact h₁₀.sf.logPwr.raise

theorem unparked (h : FormsKept s d) : FormsKept s (d.unparked) := by
  unfold Dev.unparked
  extract_lets d₁ d₂ d₃
  have h₁ : FormsKept s d₁ := .foldl h fun _ _ h => h.dieIslands
  have h₂ : FormsKept s d₂ := .foldl h₁ fun _ _ h => h.sf
  have h₃ : FormsKept s d₃ := .ite h (h₂.incr.overPorts fun _ _ _ h => h.lanesBack)
  exact h₃.sf.reportP1.logPwr.raise

theorem pwrChanged (h : FormsKept s d) {errs : List MemErr} : FormsKept s (d.pwrChanged errs) := by
  unfold Dev.pwrChanged
  split
  · exact .ite h.parked h
  · exact .ite h.unparked h
  · exact h

theorem dieResetReq (h : FormsKept s d) {k : Nat} : FormsKept s (d.dieResetReq k) := by
  unfold Dev.dieResetReq
  split
  · exact h.logBoot
  · extract_lets _
    split
    · extract_lets _ _ d₃ d₄ _
      have h₃ : FormsKept s d₃ := .foldl h.sf.occult.loseFields fun _ _ h => h.resetEnd
      have h₄ : FormsKept s d₄ := .sideSend (.foldl h₃ fun _ _ h => h.retrain)
      exact h₄.other.sf
    · exact h.sf.sf.logBoot

theorem dropCache (h : FormsKept s d) {q : Nat} {errs : List MemErr} : FormsKept s (d.dropCache q errs) := by
  unfold Dev.dropCache
  extract_lets _ _ _ d₁ _ d₃ _ _
  have h₁ : FormsKept s d₁ := .foldl h fun _ _ h => h.evictLine
  have h₃ : FormsKept s d₃ := .foldl h₁.setLines fun _ _ h => h.poisonUnit
  exact .ite h₃.setDir h₃.setDir.countLost.logHlk

theorem stacksBack (h : FormsKept s d) {q : Nat} {temps : List Nat} : FormsKept s (d.stacksBack q temps) := by
  unfold Dev.stacksBack
  extract_lets d₁
  have h₁ : FormsKept s d₁ := by
    unfold d₁
    refine .foldl h fun _ _ h => ?_
    extract_lets _ _ _ _ _
    split
    · exact .ite h.sf h.sf.other.sf.logAt
    · exact h.other.sf
  exact h₁.sf.sf

theorem dieResetDone (h : FormsKept s d) {durationMs : Nat} {fails : List (Nat × Nat)} {temps : List Nat} {errs : List MemErr} :
    FormsKept s (d.dieResetDone durationMs fails temps errs) := by
  unfold Dev.dieResetDone
  split
  · exact h
  · split
    · exact h
    · extract_lets _ _ d₂ _ d₄ _ d₅ d₆ d₇
      have h₂ : FormsKept s d₂ := .ite h.other.dropDie.incr (.ite h.other.dropCache h.other)
      have h₄ : FormsKept s d₄ := .ite h₂.loseFields.applyAlmanac.stacksBack h₂.loseFields.applyAlmanac
      have h₅ : FormsKept s d₅ := .foldl h₄ fun _ _ h => h.modPort
      have h₆ : FormsKept s d₆ := .ite h₅.startCollimator h₄
      have h₇ : FormsKept s d₇ := by
        unfold d₇
        split
        · exact h₆.lift
        · exact h₆
      exact .sf (.ite h₇.lightFails.lightResult.occult h₇.lightFails.lightResult)

theorem setImage (h : FormsKept s d) {b : Bool} {x : Option FwImage} : FormsKept s (d.setImage b x) := h.other

theorem fwTrial (h : FormsKept s d) {x : Option FwImage} : FormsKept s (d.fwTrial x) := by
  unfold Dev.fwTrial
  extract_lets _ _ _
  split
  · exact h.logPwr
  · split
    · exact h.setImage.setSlot.logSec.logBoot
    · exact h.setImage.other.setSlot

theorem fwCommit (h : FormsKept s d) : FormsKept s (d.fwCommit) := by
  unfold Dev.fwCommit
  extract_lets _
  split
  · split
    · exact h
    · extract_lets _ _ _
      split
      · exact .ite (.logSec (.ite h.setSlot.appendFloor h.setSlot.other)) h.setSlot
      · exact h.setSlot

theorem fwHandover (h : FormsKept s d) {x : Option FwImage} : FormsKept s (d.fwHandover x) := by
  unfold Dev.fwHandover
  exact .ite h h.setImage.other

theorem handoverVerified (h : FormsKept s d) : FormsKept s (d.handoverVerified) := by
  unfold Dev.handoverVerified
  split
  · exact h
  · extract_lets _ _
    split
    · exact .ite h.other.sf h.other.logBoot
    · exact h.other.logSec.logBoot
    · exact h.other

theorem handoverParked (h : FormsKept s d) : FormsKept s (d.handoverParked) := by
  unfold Dev.handoverParked
  exact .ite h.other h

theorem handoverLoaded (h : FormsKept s d) : FormsKept s (d.handoverLoaded) := by
  unfold Dev.handoverLoaded
  split
  · exact h
  · extract_lets _
    split
    · exact .other (.ite h.setSlot h)

theorem handoverEnd (h : FormsKept s d) : FormsKept s (d.handoverEnd) := h.other.sf

theorem fwResumed (h : FormsKept s d) : FormsKept s (d.fwResumed) := by
  unfold Dev.fwResumed
  exact .ite h h.other.sf.handoverEnd.logBoot

theorem handoverReverted (h : FormsKept s d) : FormsKept s (d.handoverReverted) := by
  unfold Dev.handoverReverted
  exact .ite h h.setSlot.handoverEnd.logBoot

theorem writeFwCtrl (h : FormsKept s d) {v : Word} : FormsKept s (d.writeFwCtrl v) := by
  unfold Dev.writeFwCtrl
  extract_lets d₁ d₂ d₃
  have h₁ : FormsKept s d₁ := .ite h.fwResumed h
  have h₂ : FormsKept s d₂ := .ite h₁.fwHandover h₁
  have h₃ : FormsKept s d₃ := .ite h₂.fwCommit h₂
  exact .ite h₃.fwTrial h₃

theorem writeBootCtrl (h : FormsKept s d) {v : Word} : FormsKept s (d.writeBootCtrl v) := by
  unfold Dev.writeBootCtrl
  extract_lets _ d₂
  have h₂ : FormsKept s d₂ := .ite h.sf.warmReq h.sf
  exact .ite h₂.coldReq h₂

theorem writeDieReset (h : FormsKept s d) {v : Word} : FormsKept s (d.writeDieReset v) := by
  unfold Dev.writeDieReset
  exact .ite h.dieResetReq h.sf

/-! ### `Sys2Proof/Machine/Sec` -/

theorem attestReq (h : FormsKept s d) {src : Nat} : FormsKept s (d.attestReq src) := by
  unfold Dev.attestReq
  extract_lets _ _ _ _
  exact .ite h.sf.logSec (.ite h.sf.logSec h.sf.sf.sf.other)

theorem putBytes (h : FormsKept s d) {name : RegName} {b : List Byte} : FormsKept s (d.putBytes name b) := by
  unfold Dev.putBytes
  exact .foldl h fun _ _ h => h.setReg

theorem attestDone (h : FormsKept s d) : FormsKept s (d.attestDone) := by
  unfold Dev.attestDone
  split
  · exact h.draw.other.putBytes.sf.sf.sf
  · exact h

theorem logDbg (h : FormsKept s d) {code d0 d1 : Nat} : FormsKept s (d.logDbg code d0 d1) := h.sf.logAt

theorem dbgSubmit (h : FormsKept s d) : FormsKept s (d.dbgSubmit) := by
  unfold Dev.dbgSubmit
  exact .ite h h.other

theorem logToken (h : FormsKept s d) {j : Nat} {x : SigBlock} : FormsKept s (d.logToken j x) := by
  unfold Dev.logToken
  split
  · exact h.logSec
  · exact h

theorem enterVendor (h : FormsKept s d) : FormsKept s (d.enterVendor) := by
  unfold Dev.enterVendor
  extract_lets _ _ d₂
  have h₂ : FormsKept s d₂ := .foldl h.other.sf fun _ _ h => h.sf
  exact h₂.sf.sf.logDbg

theorem submitDone (h : FormsKept s d) {rsa0 slh0 rsa1 slh1 : Bool} : FormsKept s (d.submitDone rsa0 slh0 rsa1 slh1) := by
  unfold Dev.submitDone
  refine .ite h ?_
  extract_lets -underBinder _ _ opened d₁ d₂ _ d₃ d₄
  clear_value opened
  have h₂ : FormsKept s d₂ := .ite h.logToken.logToken h.logToken
  have h₃ : FormsKept s d₃ := h₂.withRegs fun w => FMap.wf_filter _ _ _ w
  have h₄ : FormsKept s d₄ := by
    unfold d₄
    split
    · exact h₃.enterVendor.sf
    · exact h₃.sf.logDbg.sf
    · exact h₃.sf.logDbg.other.sf.logDbg
  exact h₄.newChallenge

theorem dbgExit (h : FormsKept s d) : FormsKept s (d.dbgExit) := by
  unfold Dev.dbgExit
  exact .ite h h.sf.logDbg.other

theorem writeDbgCtrl (h : FormsKept s d) {v : Word} : FormsKept s (d.writeDbgCtrl v) := by
  unfold Dev.writeDbgCtrl
  extract_lets d₁ d₂
  have h₁ : FormsKept s d₁ := .ite h.newChallenge h
  have h₂ : FormsKept s d₂ := .ite h₁.dbgExit h₁
  exact .ite h₂.dbgSubmit h₂

theorem setMcore (h : FormsKept s d) {m : Nat} {x : MCore} : FormsKept s (d.setMcore m x) := h.other

theorem debugRefused (h : FormsKept s d) {off : Nat} : FormsKept s (d.debugRefused off) := h.logDbg

theorem mcoreStep (h : FormsKept s d) {m : Nat} {branch : Option Nat} : FormsKept s (d.mcoreStep m branch) := by
  unfold Dev.mcoreStep
  extract_lets _
  split
  · exact .ite h.setMcore h
  · exact h

theorem writeMcore (h : FormsKept s d) {m : Nat} {v : Word} : FormsKept s (d.writeMcore m v) := by
  unfold Dev.writeMcore
  exact .ite h.debugRefused (.ite (.setMcore (.ite (.setMcore (.ite h.mcoreStep h)) (.ite h.mcoreStep h))) (.ite (.setMcore (.ite h.mcoreStep h)) (.ite h.mcoreStep h)))

theorem mcoreTrace (h : FormsKept s d) {m : Nat} : FormsKept s (d.mcoreTrace m).2 := by
  unfold Dev.mcoreTrace
  extract_lets _
  split
  · exact h.setMcore
  · exact h.setMcore

/-! ### `Sys2Proof/Machine/Safe` -/

theorem summaryIn (h : FormsKept s d) {p : Packet} : FormsKept s (d.summaryIn p) := by
  unfold Dev.summaryIn
  exact .raise (.ite h.summaryAtSuspect h.mergeAccusers)

theorem windowEnd (h : FormsKept s d) : FormsKept s (d.windowEnd) := by
  unfold Dev.windowEnd
  exact .foldl h.other.sf fun _ _ h => h.forwardSummary

theorem writeAccuse (h : FormsKept s d) {v : Word} : FormsKept s (d.writeAccuse v) := by
  unfold Dev.writeAccuse
  exact .ite h.sf.sf.accuse h.sf.sf

theorem writeOccult (h : FormsKept s d) {v : Word} : FormsKept s (d.writeOccult v) := by
  unfold Dev.writeOccult
  extract_lets _ _
  exact .ite h.sf.sf.sf.occultReq h.sf.sf.sf

theorem halfLife (h : FormsKept s d) : FormsKept s (d.halfLife) := by
  unfold Dev.halfLife
  exact .foldl h fun _ _ h => .ite h (.ite h.sf.sf h.sf)

theorem healthClear (h : FormsKept s d) {u : Nat} : FormsKept s (d.healthClear u) := h.sf.sf

theorem writeHealthCtrl (h : FormsKept s d) {v : Word} : FormsKept s (d.writeHealthCtrl v) := h.sf.sf.sf

theorem markIn (h : FormsKept s d) {p : Packet} : FormsKept s (d.markIn p) := by
  unfold Dev.markIn
  extract_lets _ _ _ _
  split
  · exact h
  · split
    · exact h.modCore.compareMarks
    · exact .ite h h.modCore

theorem markTimeout (h : FormsKept s d) {c n : Nat} : FormsKept s (d.markTimeout c n) := by
  unfold Dev.markTimeout
  split
  · exact h.modCore.markLost
  · exact h

theorem writeLsCtrl (h : FormsKept s d) {v : Word} : FormsKept s (d.writeLsCtrl v) := h.sf.sf.sf.sf

theorem lightReq (h : FormsKept s d) : FormsKept s (d.lightReq) := by
  unfold Dev.lightReq
  exact .ite h.other.sf h.sf.sf.logAt

theorem writeLight (h : FormsKept s d) {v : Word} : FormsKept s (d.writeLight v) := by
  unfold Dev.writeLight
  exact .ite h.sf.sf.lightReq h.sf.sf

theorem plateStart (h : FormsKept s d) : FormsKept s (d.plateStart) := by
  unfold Dev.plateStart
  exact .sf (.foldl h.other fun _ _ h => h.modCore)

theorem plateReq (h : FormsKept s d) : FormsKept s (d.plateReq) := by
  unfold Dev.plateReq
  extract_lets _ _ _ _ _
  exact .ite h.sf.logAt h.sf.sf.sf.other

theorem plateDone (h : FormsKept s d) {errs : List MemErr} : FormsKept s (d.plateDone errs) := by
  unfold Dev.plateDone
  split
  · extract_lets _
    split
    next _ _ d₁ he₁ =>
      have h₁ : FormsKept s d₁ := snd he₁ (.iteSnd h.hbmHeld h)
      split
      · exact h₁
      · split
        next _ _ d₂ he₃ =>
          have h₂ : FormsKept s d₂ := snd he₃ (.iteSnd h₁.readHbm h₁)
          extract_lets _ d₃ _ _ _ _
          have h₃ : FormsKept s d₃ := .ite h₂ h₂.draw
          exact h₃.other.putBytes.putBytes.sf.sf.raise
  · exact h

theorem writePlate (h : FormsKept s d) {v : Word} : FormsKept s (d.writePlate v) := by
  unfold Dev.writePlate
  extract_lets d₁
  have h₁ : FormsKept s d₁ := .ite h.plateReq h
  exact .ite h₁.plateStart h₁

theorem monitorFail (h : FormsKept s d) {mech unit : Nat} : FormsKept s (d.monitorFail mech unit) := h.logAt.raise

theorem residueTest (h : FormsKept s d) {caught : Bool} : FormsKept s (d.residueTest caught) := by
  unfold Dev.residueTest
  exact .ite h h.other.sf.monitorFail

theorem heartbeat (h : FormsKept s d) {b : Bool} : FormsKept s (d.heartbeat b) := h.sf

theorem heartbeatLost (h : FormsKept s d) {b : Bool} : FormsKept s (d.heartbeatLost b) := h.sf.monitorFail

/-! ### `Sys2Proof/Machine/RegRead` -/

theorem regRefusal (h : FormsKept s d) {k : RegKey} : FormsKept s (d.regRefusal k).2 := by
  unfold Dev.regRefusal
  exact .iteSnd h.logBoot (.iteSnd h.debugRefused h)

theorem claimRead (h : FormsKept s d) {t : Nat} : FormsKept s (d.claimRead t).2 := by
  unfold Dev.claimRead
  split
  · exact h
  · split
    next _ _ _ d₁ he₁ =>
      have h₁ : FormsKept s d₁ := snd he₁ h.claim
      exact h₁
    next _ d₁ he₁ =>
      have h₁ : FormsKept s d₁ := snd he₁ h.claim
      exact h₁

theorem readReg (h : FormsKept s d) {k : RegKey} : FormsKept s (d.readReg k).2 := by
  unfold Dev.readReg
  extract_lets _ _
  exact .iteSnd h (.iteSnd h.claimRead (.iteSnd h.mcoreTrace (.ite h.setReg h)))

/-! ### `Sys2Proof/Machine/RegWrite` -/

theorem plainWrite (h : FormsKept s d) {k : RegKey} {v : Word} : FormsKept s (d.plainWrite k v) := h.setReg

theorem coreBusy (h : FormsKept s d) {c : Nat} : FormsKept s (d.coreBusy c) := h.logCore

theorem writeNumCtrl (h : FormsKept s d) {c : Nat} {v : Word} : FormsKept s (d.writeNumCtrl c v) := by
  unfold Dev.writeNumCtrl
  exact .ite h.plainWrite h.plainWrite.coreBusy

theorem writeSeed (h : FormsKept s d) {c : Nat} {v : Word} : FormsKept s (d.writeSeed c v) := by
  unfold Dev.writeSeed
  exact .ite h.plainWrite h.coreBusy

theorem holdBase (h : FormsKept s d) {n : Nat} {v : Word} : FormsKept s (d.holdBase n v) := h.other

theorem holdLimit (h : FormsKept s d) {n : Nat} {v : Word} : FormsKept s (d.holdLimit n v) := h.other

theorem writeRegion (h : FormsKept s d) {n : Nat} {v : Word} : FormsKept s (d.writeRegion n v) := by
  unfold Dev.writeRegion
  extract_lets _ base limit d₁ d₂ _ _
  clear_value base limit
  have h₁ : FormsKept s d₁ := by
    unfold d₁
    split
    · exact h.sf
    · exact h
  have h₂ : FormsKept s d₂ := by
    unfold d₂
    split
    · exact h₁.sf
    · exact h₁
  exact h₂.plainWrite.other.keepSetting.keepSetting

theorem regionFenced (h : FormsKept s d) : FormsKept s (d.regionFenced) := by
  unfold Dev.regionFenced
  split
  · exact .ite h h.other.sf
  · exact h

theorem fenceReq (h : FormsKept s d) : FormsKept s (d.fenceReq) := by
  unfold Dev.fenceReq
  extract_lets d₁ _
  have h₁ : FormsKept s d₁ := .foldl h fun _ _ h => .ite h.recallLine h
  exact h₁.other.sf.regionFenced

theorem writePurge (h : FormsKept s d) {v : Word} : FormsKept s (d.writePurge v) := by
  unfold Dev.writePurge
  extract_lets _
  exact .ite h.sf.sf.sf.purgeReplies h.sf.sf

theorem sendQuery (h : FormsKept s d) {n : Nat} : FormsKept s (d.sendQuery n) := h.send

theorem queryReq (h : FormsKept s d) {n : Nat} : FormsKept s (d.queryReq n) := by
  unfold Dev.queryReq
  exact .ite h h.sf.sendQuery

theorem queryCancel (h : FormsKept s d) {n : Nat} : FormsKept s (d.queryCancel n) := by
  unfold Dev.queryCancel
  exact .ite h.sf h

theorem writeQuery (h : FormsKept s d) {v : Word} : FormsKept s (d.writeQuery v) := by
  unfold Dev.writeQuery
  extract_lets _ _ d₂
  have h₂ : FormsKept s d₂ := .ite h.sf.queryCancel h.sf
  exact .ite h₂.queryReq h₂

theorem writeTag (h : FormsKept s d) {n : Nat} {v : Word} : FormsKept s (d.writeTag n v) := by
  unfold Dev.writeTag
  exact .ite h.sf.sf (.ite h.sf.sf h)

theorem writeUnsettled (h : FormsKept s d) {k : RegKey} {v : Word} : FormsKept s (d.writeUnsettled k v) := by
  unfold Dev.writeUnsettled
  exact .ite h.plainWrite h

theorem writeHlkCtrl (h : FormsKept s d) {v : Word} : FormsKept s (d.writeHlkCtrl v) := by
  unfold Dev.writeHlkCtrl
  extract_lets _ _
  exact .ite h.plainWrite (.ite h.plainWrite.noteHost (.ite h.plainWrite.linkDown h.plainWrite.sf))

theorem writeMsc (h : FormsKept s d) {q : Nat} {v : Word} : FormsKept s (d.writeMsc q v) := by
  unfold Dev.writeMsc
  extract_lets _ _ d₂
  have h₂ : FormsKept s d₂ := .ite h.setReg.mscUnkeep h.setReg
  exact .ite h₂.mscFlush h₂

theorem writeMapout (h : FormsKept s d) {q : Nat} {v : Word} : FormsKept s (d.writeMapout q v) := by
  unfold Dev.writeMapout
  exact .ite h.sf.mapoutReq h.sf

theorem coreWrite (h : FormsKept s d) {k : RegKey} {dev : Nat} {v : Word} : FormsKept s (d.coreWrite k dev v) := by
  unfold Dev.coreWrite
  split
  · exact h.writeCoreCtrl
  · exact h.writePreempt
  · exact h.writePc
  · exact h.writeThread
  · exact h.writeT
  · exact h.writeNumCtrl
  · exact h.writeSeed
  · exact h.writeSpecCtrl
  · exact h.writeSpecAddr
  · exact h.writeSpecAddr
  · exact h.setCounter
  · exact h.update
  · exact h.plainWrite

theorem regWrite (h : FormsKept s d) {k : RegKey} {src dev : Nat} {v : Word} : FormsKept s (d.regWrite k src dev v) := by
  unfold Dev.regWrite
  split
  · exact h.writeSwapCtrl
  · exact h.writeMapout
  · exact h.writeMsc
  · exact .ite h.fenceReq h
  · exact h.writePurge
  · exact h.writeQuery
  · exact h.writeTag
  · exact h.writeUnsettled
  · exact h.writeUnsettled
  · exact h.writeUnsettled
  · exact h.holdBase
  · exact h.holdLimit
  · exact h.writeRegion
  · exact h.writeOverride
  · exact h.writeBank
  · exact h.writeBank
  · exact h.writeBank
  · exact h.writeTableCtrl
  · exact h.writeWeights
  · exact h.writeRateCtrl
  · exact h.writeTransitPath
  · exact h.writeTransitCtrl
  · exact h.writePortCtrl.hostWatch
  · exact h.writeGroupCfg
  · exact h.writeGroup
  · exact h.writeGroup
  · exact h.writeGroup
  · exact h.writeGroup
  · exact .ite h.abortSlot h
  · exact h.writeMeridianTick
  · exact h.writeMeridianCtrl
  · exact h.writeLinkCtrl
  · exact h.writeHlkCtrl
  · exact h.pendSet
  · exact h.pendClr
  · exact h.maskSet
  · exact h.maskClr
  · exact h.endOfInt
  · exact h.writeSrcCfg
  · exact h.writeBootCtrl
  · exact h.writeDieReset
  · exact h.writeFwCtrl
  · exact h.writeWatchdog
  · exact h.writeEphCtrl
  · exact .ite h.attestReq h
  · exact h.writeDbgCtrl
  · exact h.writeMcore
  · exact h.writePwrCtrl
  · exact h.writeIsland
  · exact h.writeLogCtrl
  · exact h.writeAccuse
  · exact h.writeOccult
  · exact h.writeHealthCtrl
  · exact h.writeLsCtrl
  · exact h.writeLight
  · exact h.writePlate
  · exact .ite h.healthClear h
  · exact h.coreWrite

theorem writeRefused (h : FormsKept s d) {k : RegKey} {src : Nat} {v : Word} :
    FormsKept s (d.writeRefused k src v) := h.sf.sf.logBoot

theorem writeReg (h : FormsKept s d) {k : RegKey} {src dev : Nat} {v : Word} : FormsKept s (d.writeReg k src dev v) := by
  unfold Dev.writeReg
  split
  · exact h
  · split
    · exact h.writeRefused
    · split
      · exact .ite h.hold h.regWrite.keepSetting
      · exact h.regWrite.keepSetting

theorem regStore (h : FormsKept s d) {k : RegKey} {src dev : Nat} {v : Word} : FormsKept s (d.regStore k src dev v).2 := by
  unfold Dev.regStore
  exact .iteSnd h.regRefusal h.regRefusal.writeReg

theorem regLoad (h : FormsKept s d) {k : RegKey} : FormsKept s (d.regLoad k).2.2 := by
  unfold Dev.regLoad
  exact .iteSndSnd h.regRefusal h.regRefusal.readReg

theorem command (h : FormsKept s d) {k : RegKey} {v : Word} : FormsKept s (d.command k v) := h.regStore.other

theorem accessReg (h : FormsKept s d) {p : Packet} : FormsKept s (d.accessReg p) := by
  unfold Dev.accessReg
  split
  · exact h.dropStale
  · split
    · exact h.served
    · split
      · exact h.hold
      · exact .ite (.ite h.regStore.served h.regStore.refuse) (.ite h.regLoad.served h.regLoad.refuse)

theorem applyCounter (h : FormsKept s d) {p : Packet} : FormsKept s (d.applyCounter p) := by
  unfold Dev.applyCounter
  extract_lets _ _ _ _
  split
  · exact h.replyAnswer
  · exact .ite h.hold (.ite h.busyRefusal (.ite h.logTarget.refuse (.ite h.update.enterReply.incr.answerTo h.update.enterReply.refuse)))

/-! ### `Sys2Proof/Machine/Commands` -/

theorem press (h : FormsKept s d) {k : RegKey} {f : Fld} : FormsKept s (d.press k f) := h.command

theorem setting (h : FormsKept s d) {k : RegKey} {f : Fld} {x : Nat} : FormsKept s (d.setting k f x) := h.command

theorem commandBy (h : FormsKept s d) {k : RegKey} {v : Word} {act : Dev → Dev} (hf : ∀ d, FormsKept s d → FormsKept s (act d)) :
    FormsKept s (d.commandBy k v act) := by
  unfold Dev.commandBy
  exact .other (.ite h.regRefusal (.ite h.regRefusal.writeRefused (.keepSetting (hf _ h.regRefusal))))

theorem noRegister (h : FormsKept s d) {o : Nat} : FormsKept s (d.noRegister o) := h.logTarget

theorem storeAt (h : FormsKept s d) {o src dev : Nat} {v : Word} : FormsKept s (d.storeAt o src dev v).2 := by
  unfold Dev.storeAt
  split
  · exact h.regStore
  · exact .iteSnd h h.noRegister

theorem loadAt (h : FormsKept s d) {o : Nat} : FormsKept s (d.loadAt o).2.2 := by
  unfold Dev.loadAt
  split
  · exact h.regLoad
  · exact .iteSndSnd h h.noRegister

theorem registerWrite (h : FormsKept s d) {src o : Nat} {v : Word} :
    FormsKept s (d.registerWrite src o v) := h.storeAt.other

theorem registerRead (h : FormsKept s d) {o : Nat} : FormsKept s (d.registerRead o) := by
  unfold Dev.registerRead
  split
  · exact h.hold
  · exact h.loadAt.other

theorem claimCommand (h : FormsKept s d) {t : Nat} : FormsKept s (d.claimCommand t) := h.regLoad.other

theorem bankWrite (h : FormsKept s d) {o : Nat} {v : Word} : FormsKept s (d.bankWrite o v) := by
  unfold Dev.bankWrite
  split
  · exact .ite h.command h
  · exact h

/-! ### `Sys2Proof/Machine/Target` -/

theorem turnAway (h : FormsKept s d) {p : Packet} {code : Nat} : FormsKept s (d.turnAway p code) := h.logTarget.refuse

theorem request (h : FormsKept s d) {p : Packet} {serve : Dev → Dev} (hf : ∀ d, FormsKept s d → FormsKept s (serve d)) :
    FormsKept s (d.request p serve) := by
  unfold Dev.request
  extract_lets _
  exact .ite h.consume (.ite h.consume.turnAway (.ite h.consume.turnAway (.ite h.consume.dropStale (hf _ h.consume))))

theorem serveAccess (h : FormsKept s d) {p : Packet} {errs : List MemErr} : FormsKept s (d.serveAccess p errs) := by
  unfold Dev.serveAccess
  split
  next _ _ d₁ he =>
    have h₁ : FormsKept s d₁ := snd he h.checkAccess
    exact .ite h₁.refuse (.ite h₁.accessReg h₁.applyMem)

theorem serveAtomic (h : FormsKept s d) {p : Packet} {errs : List MemErr} : FormsKept s (d.serveAtomic p errs) := by
  unfold Dev.serveAtomic
  extract_lets _
  split
  · exact h.sweepReplies.replyAnswer
  · split
    · exact h.sweepReplies.holdAccess
    · split
      next _ _ d₂ he₂ =>
        have h₂ : FormsKept s d₂ := snd he₂ h.sweepReplies.checkAccess
        exact .ite h₂.refuse h₂.applyMem

theorem releaseIn (h : FormsKept s d) {p : Packet} : FormsKept s (d.releaseIn p) := by
  unfold Dev.releaseIn
  extract_lets _ d₂
  have h₂ : FormsKept s d₂ := by
    unfold d₂
    split
    · exact h.consume.modReply
    · exact h.consume
  exact .ite h.consume (.ite h.consume.turnAway h₂.sweepReplies.answerTo)

theorem queryIn (h : FormsKept s d) {p : Packet} : FormsKept s (d.queryIn p) := by
  unfold Dev.queryIn
  extract_lets _ _
  split
  · exact h.consume
  · split
    · exact h.consume.send
    · split
      · exact h.consume.send
      · extract_lets _
        exact .ite h.consume.modReply.sweepReplies.send h.consume.modReply.sweepReplies.send

theorem reply (h : FormsKept s d) {p : Packet} {kinds : List ReqKind} {take : Dev → Req → Dev} (hf : ∀ d r, FormsKept s d → FormsKept s (take d r)) :
    FormsKept s (d.reply p kinds take) := by
  unfold Dev.reply
  extract_lets _ _
  split
  · exact h.consume
  · split
    · exact hf _ _ h.consume.congestionOf
    · exact h.consume.congestionOf

theorem unswitch (h : FormsKept s d) {c t : Nat} : FormsKept s (d.unswitch c t) := h.modThread.heldStart

theorem gldDone (h : FormsKept s d) {r : Req} {bytes : List Byte} :
    FormsKept s (d.gldDone r bytes) := h.dropReq.wrStore.gasDone.unswitch.kick

theorem sendRelease (h : FormsKept s d) {r : Req} : FormsKept s (d.sendRelease r) := h.takeMsg.track

theorem gatomDone (h : FormsKept s d) {q : Packet} {r : Req} {value : Nat} : FormsKept s (d.gatomDone q r value) := by
  unfold Dev.gatomDone
  extract_lets _ _ d₂ _ d₄
  have h₂ : FormsKept s d₂ := .ite h.dropReq.setTreg h.dropReq
  have h₄ : FormsKept s d₄ := .ite h₂.gasDone.sendRelease.unswitch h₂.gasDone.sendRelease
  exact .ite h h₄.kick

theorem writeAcked (h : FormsKept s d) {p : Packet} {r : Req} : FormsKept s (d.writeAcked p r) := by
  unfold Dev.writeAcked
  exact .ite h (.ite h.dropReq.endSignal.sendRelease h.dropReq.gasDone.kick)

theorem dmaDataIn (h : FormsKept s d) {p : Packet} {r : Req} : FormsKept s (d.dmaDataIn p r) := by
  unfold Dev.dmaDataIn
  exact .ite h.dropReq.dmaArrive h.dropReq.attnArrive

theorem dmaAckIn (h : FormsKept s d) {p : Packet} {r : Req} : FormsKept s (d.dmaAckIn p r) := by
  unfold Dev.dmaAckIn
  split
  · exact h
  · split
    · exact h.dropReq.dmaAcked
    · exact h.dropReq.attnTokens
    · exact h.collAcked

theorem busyIn (h : FormsKept s d) {p : Packet} {r : Req} : FormsKept s (d.busyIn p r) := h.other

theorem queryAnswerIn (h : FormsKept s d) {p : Packet} : FormsKept s (d.queryAnswerIn p) := by
  unfold Dev.queryAnswerIn
  extract_lets _ _ entry
  clear_value entry
  split
  · exact .ite h.consume.sf.sf h.consume
  · exact h.consume

theorem reqTimeout (h : FormsKept s d) {r : Req} : FormsKept s (d.reqTimeout r) := by
  unfold Dev.reqTimeout
  split
  · exact h.resend
  · split
    · exact h.endReq
    · exact h.endReq
    · exact h.endReq

theorem timeoutOf (h : FormsKept s d) {msg offset : Nat} {kinds : List ReqKind} :
    FormsKept s (d.timeoutOf msg offset kinds) := by
  unfold Dev.timeoutOf
  split
  · exact h.reqTimeout
  · exact h

theorem busyResend (h : FormsKept s d) {msg : Nat} : FormsKept s (d.busyResend msg) := by
  unfold Dev.busyResend
  split
  · exact h.resend
  · exact h

theorem releaseAgain (h : FormsKept s d) {msg : Nat} : FormsKept s (d.releaseAgain msg) := by
  unfold Dev.releaseAgain
  split
  · exact h.dropReq.track
  · exact h

theorem queryAgain (h : FormsKept s d) {n : Nat} : FormsKept s (d.queryAgain n) := by
  unfold Dev.queryAgain
  exact .ite h.sendQuery h

/-! ### `Sys2Proof/Machine/Hlk` -/

theorem modHlk (h : FormsKept s d) {f : HlkSt → HlkSt} : FormsKept s (d.modHlk f) := h.other

theorem ackUpTo (h : FormsKept s d) {lack : Nat} : FormsKept s (d.ackUpTo lack) := h.modHlk

theorem freeCredits (h : FormsKept s d) {m : HlkMsg} : FormsKept s (d.freeCredits m) := by
  unfold Dev.freeCredits
  exact .ite h.modHlk h.modHlk.modHlk.hlkSend

theorem logMessage (h : FormsKept s d) {code : Nat} {m : HlkMsg} : FormsKept s (d.logMessage code m) := h.logHlk.raise

theorem helloIn (h : FormsKept s d) {m : HlkMsg} : FormsKept s (d.helloIn m) := by
  unfold Dev.helloIn
  extract_lets _ _ _ _ _
  exact .ite h.modHlk.modHlk.sf.sf.sf.sf.sf.sf.logHlk.raise.hlkPump h.modHlk.logHlk.raise

theorem checkReq (h : FormsKept s d) {m : HlkMsg} : FormsKept s (d.checkReq m).2 := by
  unfold Dev.checkReq
  extract_lets _ _
  split
  · exact h.logHlk
  · split
    · exact h.bump.logTarget
    · split
      · exact h.bump.logTarget
      · exact .iteSnd h.logTarget h

theorem reqReg (h : FormsKept s d) {m : HlkMsg} : FormsKept s (d.reqReg m) := by
  have e : @Dev.reqReg = @Dev.reqReg := rfl
  conv at e => rhs; delta Dev.reqReg
  rw [e]
  beta_reduce
  extract_lets _
  split
  · exact h.hold
  · split
    · split
      next _ _ d₁ he₂ =>
        have h₁ : FormsKept s d₁ := snd he₂ h.storeAt
        exact .ite h₁.respond h₁.refuseHlk
    · split
      next _ _ _ d₁ he₂ =>
        have h₁ : FormsKept s d₁ := sndSnd he₂ h.loadAt
        exact .ite h₁.respond h₁.refuseHlk

theorem reqIn (h : FormsKept s d) {m : HlkMsg} {errs : List MemErr} : FormsKept s (d.reqIn m errs) := by
  unfold Dev.reqIn
  exact .ite h.checkReq.refuseHlk (.ite h.checkReq.reqReg (.ite h.checkReq.reqMem.retryHeld h.checkReq.reqMem))

theorem snoopIn (h : FormsKept s d) {m : HlkMsg} : FormsKept s (d.snoopIn m) := by
  unfold Dev.snoopIn
  extract_lets _
  split
  · exact h.respond
  · exact .respond (.ite h.setLines h.dropLineOf)

theorem recallDone (h : FormsKept s d) {m : HlkMsg} {errs : List MemErr} : FormsKept s (d.recallDone m errs) := by
  unfold Dev.recallDone
  exact .ite h.returnIn.retryHeld h

theorem responseIn (h : FormsKept s d) {m : HlkMsg} {errs : List MemErr} : FormsKept s (d.responseIn m errs) := by
  unfold Dev.responseIn
  split
  · exact h.companionAnswer
  · exact h.companionAnswer
  · exact h.companionAnswer
  · exact h.recallDone
  · exact h.companionAnswer

theorem counterAcked (h : FormsKept s d) {tag : Nat} : FormsKept s (d.counterAcked tag) := by
  unfold Dev.counterAcked
  refine .foldl h fun _ _ h => ?_
  split
  · exact h.endSignal
  · exact h

theorem ctlIn (h : FormsKept s d) {m : HlkMsg} : FormsKept s (d.ctlIn m) := by
  unfold Dev.ctlIn
  split
  · exact h.modHlk.hlkPump
  · exact h.endOfInt
  · exact h.counterAcked
  · exact h.raise
  · exact h

theorem message (h : FormsKept s d) {m : HlkMsg} {errs : List MemErr} : FormsKept s (d.message m errs) := by
  unfold Dev.message
  exact .ite h (.ite (.ite h.logMessage.refuseHlk h.logMessage) (.ite h.reqIn (.ite h.snoopIn (.ite h.responseIn h.ctlIn))))

theorem inOrder (h : FormsKept s d) {m : HlkMsg} {errs : List MemErr} : FormsKept s (d.inOrder m errs) := by
  unfold Dev.inOrder
  extract_lets _ _
  exact .ite h.modHlk.logMessage h.modHlk.modHlk.message.freeCredits

theorem inTurn (h : FormsKept s d) {errs : List MemErr} {k : Nat} : FormsKept s (d.inTurn errs k) := by
  induction k generalizing d with
  | zero => exact h
  | succ k ih =>
    unfold Dev.inTurn
    split
    · exact ih h.modHlk.inOrder
    · exact h

theorem hlkIn (h : FormsKept s d) {m : HlkMsg} {errs : List MemErr} : FormsKept s (d.hlkIn m errs) := by
  unfold Dev.hlkIn
  extract_lets _ _ _
  exact .ite h (.ite (.ite h.incr.ackUpTo.helloIn h.incr.ackUpTo) (.ite h.incr.ackUpTo.inOrder.inTurn.hlkPump (.ite h.incr.ackUpTo.hlkPump h.incr.ackUpTo.modHlk.hlkPump)))

theorem hlkRow (h : FormsKept s d) {cls op : Nat} {m : HlkMsg} {errs : List MemErr} :
    FormsKept s (d.hlkRow cls op m errs) := by
  unfold Dev.hlkRow
  exact .ite h.hlkIn h

theorem snoopTimeout (h : FormsKept s d) {u : Nat} {errs : List MemErr} : FormsKept s (d.snoopTimeout u errs) := by
  unfold Dev.snoopTimeout
  split
  · exact h
  · exact .ite h (.retryHeld (.foldl h.other.poisonUnit.dropDir.bump.logHlk.raise fun _ _ h => h.poisonWaiting))

theorem hostPortLoss (h : FormsKept s d) {n : Nat} {errs : List MemErr} :
    FormsKept s (d.hostPortLoss n errs) := h.portLeave.hostWatch

theorem hlkLost (h : FormsKept s d) {errs : List MemErr} : FormsKept s (d.hlkLost errs) := by
  unfold Dev.hlkLost
  exact .ite h.linkDown h

theorem helloAgain (h : FormsKept s d) : FormsKept s (d.helloAgain) := by
  unfold Dev.helloAgain
  exact .ite h.sendHello h

/-! ### `Sys2Proof/Machine/Mgmt` -/

theorem i3cRead (h : FormsKept s d) {o : Nat} : FormsKept s (d.i3cRead o).2.2 := by
  unfold Dev.i3cRead
  exact .iteSndSnd h.logBoot (.iteSndSnd h.debugRefused h.loadAt)

theorem i3cWrite (h : FormsKept s d) {o : Nat} {v : Word} : FormsKept s (d.i3cWrite o v).2 := by
  unfold Dev.i3cWrite
  exact .iteSnd h.logBoot (.iteSnd h.debugRefused h.storeAt)

theorem i3cIn (h : FormsKept s d) {bytes : List Byte} : FormsKept s (d.i3cIn bytes) := by
  unfold Dev.i3cIn
  extract_lets _
  split
  · exact h
  · split
    · split
      · exact h.hold.modMgmt
      · exact h.i3cRead.modMgmt
    · exact .ite h.i3cWrite.modMgmt h.logAt.modMgmt

theorem i3cOut (h : FormsKept s d) {n : Nat} : FormsKept s (d.i3cOut n) := by
  unfold Dev.i3cOut
  exact .ite h.modMgmt h

theorem selectIr (h : FormsKept s d) {ir : JtagIr} {tdo : List Bool} : FormsKept s (d.selectIr ir tdo) := by
  unfold Dev.selectIr
  exact .ite h.modMgmt h

theorem samplePreload (h : FormsKept s d) {pins preload : List Bool} : FormsKept s (d.samplePreload pins preload) := by
  unfold Dev.samplePreload
  exact .ite h.selectIr.modMgmt h

theorem extest (h : FormsKept s d) {pins : List Bool} {scan : Option (List Bool)} : FormsKept s (d.extest pins scan) := by
  unfold Dev.extest
  split
  · exact h
  · split
    · split
      · exact h.selectIr
      · exact h.selectIr.modMgmt
    · exact h.debugRefused

theorem eyeCheck (h : FormsKept s d) {addr key : Nat} {need : Dev.Need} : FormsKept s (d.eyeCheck addr key need).2 := by
  unfold Dev.eyeCheck
  extract_lets _ _ _
  split
  · exact h.debugRefused
  · split
    · exact h.logTarget
    · split
      · exact h.logTarget
      · exact .iteSnd h h.logTarget

theorem eyepiece (h : FormsKept s d) {a : EyeAccess} {errs : List MemErr} : FormsKept s (d.eyepiece a errs) := by
  unfold Dev.eyepiece
  split
  · exact h
  · extract_lets _
    split
    · split
      · exact h.selectIr.debugRefused.eyeDone
      · split
        · exact h.selectIr.hold
        · exact h.selectIr.loadAt.eyeDone
    · exact .ite h.selectIr.debugRefused.eyeDone h.selectIr.storeAt.eyeDone
    · exact .ite h.selectIr.eyeCheck.eyeDone h.selectIr.eyeCheck.eyeMem
    · exact .ite h.selectIr.eyeCheck.eyeDone h.selectIr.eyeCheck.eyeMem

theorem intscan (h : FormsKept s d) {n : Nat} : FormsKept s (d.intscan n) := by
  unfold Dev.intscan
  exact .ite h (.ite h.debugRefused h.selectIr.other)

/-! ### `Sys2Proof/Machine/Remap` -/

theorem answerLoad (h : FormsKept s d) {k : RegKey} {path : Nat} : FormsKept s (d.answerLoad k path) := by
  unfold Dev.answerLoad
  exact .ite h.regLoad.modMgmt (.ite h.regLoad.eyeDone h.regLoad.other)

theorem releaseOne (h : FormsKept s d) {c : Nat} {x : Held} : FormsKept s (d.releaseOne c x) := by
  unfold Dev.releaseOne
  split
  · exact h.update
  · exact h.setCounter
  · exact .ite h.applyCounter (.ite h.accessReg h.applyMem)
  · exact .ite h.reqReg h.reqMem
  · exact h.eyeMem
  · exact h.writeReg
  · exact h.answerLoad
  · exact h.dmaPut

theorem release (h : FormsKept s d) {c : Nat} {hs : List Held} : FormsKept s (d.release c hs) := by
  unfold Dev.release
  exact .foldl h fun _ _ h => h.releaseOne

theorem swapRemap (h : FormsKept s d) {k dur : Nat} : FormsKept s (d.swapRemap k dur) := by
  unfold Dev.swapRemap
  split
  · exact .ite h h.setSwap.remap.freshEngines.sf.sf.sf.release.unparkFree.retired
  · exact h

/-! ### The commands and the step -/

/-- A command whose effect on the device keeps the canonical forms answers a next state in which they are kept. -/
theorem updNext {s : State} {f : Dev → Dev} (hf : ∀ d, FormsKept s.dev d → FormsKept s.dev (f d)) :
    ∃ d, s.upd f = .next { s with dev := d } ∧ FormsKept s.dev d :=
  ⟨_, rfl, hf _ (refl _)⟩

/-- Every command answers a next state, with the canonical forms kept and the queue as it was. -/
theorem exec_next (c : Instr) (s : State) : ∃ d, exec c s = .next { s with dev := d } ∧ FormsKept s.dev d := by
  unfold exec
  cases c with
  | prsntNMate => exact updNext fun _ h => h.other
  | inputSwitchClose => exact updNext fun _ h => .ite h.other.tryRise h
  | auxPathInService => exact updNext fun _ h => .ite h (.ite h.other.refreshPgood.setBoot.pgoodRise h.other.refreshPgood.setBoot)
  | prsntNBreak => exact updNext fun _ h => .ite h.other.beginLoss h.other
  | auxPathOff => exact updNext fun _ h => .ite powerLost h
  | pgoodInRise => exact updNext fun _ h => .ite h (.ite h.other.pgoodRise h.other)
  | startDelayExpiry => exact updNext fun _ h => h.delayEnd
  | pgoodInFall => exact updNext fun _ h => h.pgoodFall
  | pgoodHoldExpiry => exact updNext fun _ h => h.pgoodHoldEnd
  | railRegulationChange => exact updNext fun _ h => h.railChange
  | converterFail => exact updNext fun _ h => h.converterFail
  | i3cReadRequest => exact updNext fun _ h => .ite h h.i3cIn
  | i3cWrite => exact updNext fun _ h => .ite h h.i3cIn
  | i3cPrivateRead => exact updNext fun _ h => h.i3cOut
  | jtagBypass => exact updNext fun _ h => h.selectIr
  | jtagSamplePreload => exact updNext fun _ h => h.samplePreload
  | jtagExtest => exact updNext fun _ h => h.extest
  | jtagIdcode => exact updNext fun _ h => h.selectIr
  | eyepiece => exact updNext fun _ h => h.eyepiece
  | intscan => exact updNext fun _ h => h.intscan
  | registerWrite => exact updNext fun _ h => h.registerWrite
  | loads => exact updNext fun _ h => h.dispatch fun _ _ _ h => h.enqueue
  | loadsStallEnd => exact updNext fun _ h => h.stallEnd
  | stream => exact updNext fun _ h => h.dispatch fun _ _ _ h => h.enqueue
  | streamRowIssue => exact updNext fun _ h => h.issueRow.kick
  | streamRowComplete => exact updNext fun _ h => h.completeRow.kick
  | emit => exact updNext fun _ h => h.dispatch fun _ _ _ h => h.enqueue
  | emitSlotRead => exact updNext fun _ h => h.emitSlot.kick
  | cluSwapReq => exact updNext fun _ h => h.command
  | cluSwapCancel => exact updNext fun _ h => h.press
  | sparePowerUpDone => exact updNext fun _ h => h.sparePowered
  | swapCopyDone => exact updNext fun _ h => h.swapCopied
  | swapRemapDone => exact updNext fun _ h => h.swapRemap
  | nop => exact updNext fun _ h => h.dispatch fun _ _ _ h => h.advance
  | halt => exact updNext fun _ h => h.dispatch fun _ _ _ h => h.doHalt
  | pause => exact updNext fun _ h => h.dispatch fun _ _ _ h => h.doPause
  | spawn => exact updNext fun _ h => h.dispatch fun _ _ _ h => h.doSpawn
  | br => exact updNext fun _ h => h.dispatch fun _ _ _ h => h.branch
  | brz => exact updNext fun _ h => h.dispatch fun _ _ _ h => .ite h.branch h.advance
  | brnz => exact updNext fun _ h => h.dispatch fun _ _ _ h => .ite h.branch h.advance
  | brlt => exact updNext fun _ h => h.dispatch fun _ _ _ h => .ite h.branch h.advance
  | tli => exact updNext fun _ h => h.dispatch fun _ _ _ h => h.setTd
  | tadd => exact updNext fun _ h => h.dispatch fun _ _ _ h => h.setTd
  | tmul => exact updNext fun _ h => h.dispatch fun _ _ _ h => h.setTd
  | tand => exact updNext fun _ h => h.dispatch fun _ _ _ h => h.setTd
  | tor => exact updNext fun _ h => h.dispatch fun _ _ _ h => h.setTd
  | tshl => exact updNext fun _ h => h.dispatch fun _ _ _ h => h.setTd
  | tshr => exact updNext fun _ h => h.dispatch fun _ _ _ h => h.setTd
  | tld => exact updNext fun _ h => h.dispatch fun _ _ _ h => h.doTld
  | tst => exact updNext fun _ h => h.dispatch fun _ _ _ h => h.doTst
  | rdtime => exact updNext fun _ h => h.dispatch fun _ _ _ h => h.setTd
  | rdcnt => exact updNext fun _ h => h.dispatch fun _ _ _ h => h.setTd
  | vadd => exact updNext fun _ h => h.dispatch fun _ _ _ h => h.enqueueVec
  | vsub => exact updNext fun _ h => h.dispatch fun _ _ _ h => h.enqueueVec
  | vmul => exact updNext fun _ h => h.dispatch fun _ _ _ h => h.enqueueVec
  | vfma => exact updNext fun _ h => h.dispatch fun _ _ _ h => h.enqueueVec
  | vmax => exact updNext fun _ h => h.dispatch fun _ _ _ h => h.enqueueVec
  | vmin => exact updNext fun _ h => h.dispatch fun _ _ _ h => h.enqueueVec
  | vscale => exact updNext fun _ h => h.dispatch fun _ _ _ h => h.enqueueVec
  | vcvt => exact updNext fun _ h => h.dispatch fun _ _ _ h => h.enqueueVec
  | vexp => exact updNext fun _ h => h.dispatch fun _ _ _ h => h.enqueueVec
  | vrecip => exact updNext fun _ h => h.dispatch fun _ _ _ h => h.enqueueVec
  | vrsqrt => exact updNext fun _ h => h.dispatch fun _ _ _ h => h.enqueueVec
  | vsilu => exact updNext fun _ h => h.dispatch fun _ _ _ h => h.enqueueVec
  | vgate => exact updNext fun _ h => h.dispatch fun _ _ _ h => h.enqueueVec
  | vrsum => exact updNext fun _ h => h.dispatch fun _ _ _ h => h.enqueueVec
  | vrmax => exact updNext fun _ h => h.dispatch fun _ _ _ h => h.enqueueVec
  | vlsum => exact updNext fun _ h => h.dispatch fun _ _ _ h => h.enqueueVec
  | vlmax => exact updNext fun _ h => h.dispatch fun _ _ _ h => h.enqueueVec
  | attn => exact updNext fun _ h => h.dispatch fun _ _ _ h => h.enqueue
  | dma => exact updNext fun _ h => h.dispatch fun _ _ _ h => h.enqueue
  | dmaDescriptorStart => exact updNext fun _ h => h.dmaStart
  | dmaDescriptorDone => exact updNext fun _ h => h.dmaFinish.kick
  | streamFifoAppend => exact updNext fun _ h => h.dmaAppend
  | queueEntryRetire => exact updNext fun _ h => h.retire
  | signal => exact updNext fun _ h => h.dispatch fun _ _ _ h => h.doSignal
  | wait => exact updNext fun _ h => h.dispatch fun _ _ _ h => h.doWait
  | waitConditionMet =>
    refine updNext fun d h => ?_
    split
    · exact h.waitMetThread
    · exact h.waitMetQueue
  | waitTimeout => exact updNext fun _ h => h.waitTimeout
  | fence => exact updNext fun _ h => h.dispatch fun _ _ _ h => h.advance.modThread
  | fenceComplete => exact updNext fun _ h => h.fenceComplete
  | gld => exact updNext fun _ h => h.dispatch fun _ _ _ h => h.enqueueGas
  | gst => exact updNext fun _ h => h.dispatch fun _ _ _ h => h.enqueueGas
  | gatom => exact updNext fun _ h => h.dispatch fun _ _ _ h => h.enqueueGas
  | coll => exact updNext fun _ h => h.dispatch fun _ _ _ h => h.enqueue
  | threadStart => exact updNext fun _ h => h.press
  | threadHalt => exact updNext fun _ h => h.press
  | threadPcWrite => exact updNext fun _ h => h.command
  | threadTWrite => exact updNext fun _ h => h.command
  | coreClearFault => exact updNext fun _ h => h.press
  | clearFaultAct => exact updNext fun _ h => h.clearHeldAct
  | coreResume => exact updNext fun _ h => h.press
  | coreForceStop => exact updNext fun _ h => h.press
  | preemptReq => exact updNext fun _ h => h.press
  | preemptCancel => exact updNext fun _ h => h.press
  | corePaused => exact updNext fun _ h => h.corePaused
  | corePreemptLate => exact updNext fun _ h => h.preemptLate
  | pcmapWritten => exact updNext fun _ h => h.mapWritten
  | coreNumCtrlWrite => exact updNext fun _ h => h.command
  | coreSrSeedWrite => exact updNext fun _ h => h.command
  | specClear => exact updNext fun _ h => h.press
  | specCtrlWrite => exact updNext fun _ h => h.command
  | specWindowWrite => exact updNext fun _ h => h.command
  | attnDescriptorStart => exact updNext fun _ h => h.attnStart
  | attnMapEntryRead => exact updNext fun _ h => h.attnEntryRead
  | attnAppendDone => exact updNext fun _ h => h.attnAppended
  | attnBlock => exact updNext fun _ h => h.attnBlock
  | attnOutputDone => exact updNext fun _ h => h.attnOutput.kick
  | hbmRead => exact updNext fun _ h => .ite h.other h.rawLoad
  | hbmWrite => exact updNext fun _ h => .ite h.other h.rawStore
  | mscFlush => exact updNext fun _ h => h.press
  | mscUnkeep => exact updNext fun _ h => h.press
  | mscOpDone => exact updNext fun _ h => .ite h.unkeepDone h.flushDone
  | patrolScrub =>
    refine updNext fun d h => ?_
    extract_lets d₁
    have h₁ : FormsKept s.dev d₁ := .ite h.scrub h
    exact .ite h₁.scrubPass h₁
  | hbmRefresh => exact updNext fun _ h => h
  | stackTempRead => exact updNext fun _ h => h.stackTemps
  | hbmMapoutReq => exact updNext fun _ h => h.command
  | mapoutFenceDone => exact updNext fun _ h => h.mapoutFenced
  | mapoutFrameDone => exact updNext fun _ h => h.frameCopied.retryHeld
  | hbmTrainingDone => exact updNext fun _ h => h.trainingDone
  | hbmZeroFillDone => exact updNext fun _ h => h.zeroFillDone
  | read => exact updNext fun _ h => .ite (h.request fun _ h => h.serveAccess) h
  | readData => exact updNext fun _ h => .ite (h.reply fun _ _ h => h.gldDone) h
  | write => exact updNext fun _ h => .ite (h.request fun _ h => h.serveAccess) h
  | writeAck => exact updNext fun _ h => .ite (h.reply fun _ _ h => h.writeAcked) h
  | atomic => exact updNext fun _ h => .ite (h.request fun _ h => h.serveAtomic) h
  | atomicReply => exact updNext fun _ h => .ite (h.reply fun _ _ h => h.gatomDone) h
  | release => exact updNext fun _ h => .ite h.releaseIn h
  | releaseAck => exact updNext fun _ h => .ite (h.reply fun _ _ h => h.dropReq) h
  | busy => exact updNext fun _ h => .ite (h.reply fun _ _ h => h.busyIn) h
  | refusal => exact updNext fun _ h => .ite (h.reply fun _ _ h => h.endReq) h
  | dmaRead => exact updNext fun _ h => .ite (h.request fun _ h => h.serveAccess) h
  | dmaData => exact updNext fun _ h => .ite (h.reply fun _ _ h => h.dmaDataIn) h
  | dmaWrite => exact updNext fun _ h => .ite (h.request fun _ h => h.serveAccess) h
  | dmaAck => exact updNext fun _ h => .ite (h.reply fun _ _ h => h.dmaAckIn) h
  | counter => exact updNext fun _ h => .ite (h.request fun _ h => h.sweepReplies.applyCounter) h
  | query => exact updNext fun _ h => .ite h.queryIn h
  | queryAnswer => exact updNext fun _ h => .ite h.queryAnswerIn h
  | gasRequestTimeout => exact updNext fun _ h => h.timeoutOf
  | dmaPacketTimeout => exact updNext fun _ h => h.timeoutOf
  | gatomBusyResend => exact updNext fun _ h => h.busyResend
  | releaseResend => exact updNext fun _ h => h.releaseAgain
  | queryResend => exact updNext fun _ h => h.queryAgain
  | replyEntryExpiry => exact updNext fun _ h => h.sweepReplies
  | pacedInjection => exact updNext fun _ h => h.pacedRelease
  | rateAlphaDecay => exact updNext fun _ h => h.rateDecay
  | rateIncrease => exact updNext fun _ h => h.rateRise
  | regionBaseWrite => exact updNext fun _ h => h.command
  | regionLimitWrite => exact updNext fun _ h => h.command
  | regionAttrWrite => exact updNext fun _ h => h.command
  | regionFenceReq => exact updNext fun _ h => h.press
  | regionFenceDone => exact updNext fun _ h => h.regionFenced
  | replyPurge => exact updNext fun _ h => h.command
  | queryReq => exact updNext fun _ h => h.command
  | queryCancel => exact updNext fun _ h => h.command
  | unsettledTagWrite => exact updNext fun _ h => h.command
  | unsettledEpochWrite => exact updNext fun _ h => h.command
  | unsettledSeqWrite => exact updNext fun _ h => h.command
  | unsettledTimeWrite => exact updNext fun _ h => h.command
  | packetRoute => exact updNext fun _ h => h.packetRoute
  | adaptiveEscape => exact updNext fun _ h => h.escape
  | faceUp => exact updNext fun _ h => h.faceRise
  | faceDown => exact updNext fun _ h => .ite h.faceFall h
  | faceHoldExpiry => exact updNext fun _ h => h.holdExpiry
  | vc0Stuck => exact updNext fun _ h => h.vc0Stuck
  | discover => exact updNext fun _ h => h.consume.discoverIn
  | coordOverride => exact updNext fun _ h => h.command
  | coordOverrideRelease => exact updNext fun _ h => h.press
  | transitSetupReq => exact updNext fun _ h => h.commandBy fun _ h => h.transitSetupReq
  | teardown => exact updNext fun _ h => h.press
  | transitTearReady => exact updNext fun _ h => h.transitTearReady
  | transitSetup => exact updNext fun _ h => .ite h.consume.transitSetup h
  | transitReply => exact updNext fun _ h => .ite h.consume.transitReply h
  | transitTear => exact updNext fun _ h => .ite h.consume.transitTear h
  | transitBroken => exact updNext fun _ h => .ite h.consume.transitBroken h
  | transitSetupTimeout => exact updNext fun _ h => h.setupTimeout
  | transitPathWrite => exact updNext fun _ h => h.command
  | drain => exact updNext fun _ h => h.press
  | drained => exact updNext fun _ h => h.drained
  | tableSwap => exact updNext fun _ h => h.press
  | tableResume => exact updNext fun _ h => h.press
  | vcWeightWrite => exact updNext fun _ h => h.command
  | routeBankWrite => exact updNext fun _ h => h.bankWrite
  | portCalibrateDone => exact updNext fun _ h => h.onPort fun _ h => h.calibrated
  | portLightDone => exact updNext fun _ h => h.onPort fun _ h => h.lightDone
  | portLockDone => exact updNext fun _ h => h.onPort fun _ h => h.lockDone
  | portAlignDone => exact updNext fun _ h => h.onPort fun _ h => h.alignDone
  | portExchange => exact updNext fun _ h => h.onPort fun _ h => h.exchange
  | portQualifyDone => exact updNext fun _ h => h.onPort fun _ h => h.qualifyDone
  | groupReceive => exact updNext fun _ h => h.onPort fun _ h => h.groupReceive
  | replayRequest => exact updNext fun _ h => h.onPort fun _ h => h.replayRequest
  | aprEntry => exact updNext fun _ h => h.onPort fun _ h => h.aprEntry
  | aprLightReturn => exact updNext fun _ h => h.onPort fun _ h => h.aprReturn
  | monitorRefresh => exact updNext fun _ h => .foldl h fun _ _ h => h.monitor
  | edgePowerReport => exact updNext fun _ h => h.onPort fun _ h => .ite h.sf.optSend h
  | lossCheck => exact updNext fun _ h => h.lossCheck
  | heliostatAdjust => exact updNext fun _ h => h.onPort fun _ h => h.heliostat
  | seeingWindow => exact updNext fun _ h => h.onPort fun _ h => h.seeingWindow
  | spareSwapStart => exact updNext fun _ h => h.onPort fun _ h => h.startSwap
  | spareLightDone => exact updNext fun _ h => h.onPort fun _ h => h.swapLight
  | spareTrainDone => exact updNext fun _ h => h.onPort fun _ h => h.swapTrain
  | mirrorQualified => exact updNext fun _ h => h.onPort fun _ h => h.swapMirror
  | swapSwitch => exact updNext fun _ h => h.onPort fun _ h => h.swapSwitch
  | swapCmdReceive => exact updNext fun _ h => h.onPort fun _ h => h.swapCmd
  | swapRetireDone => exact updNext fun _ h => h.onPort fun _ h => h.swapRetire
  | portSwap => exact updNext fun _ h => h.onPort fun _ h => h.command
  | recal => exact updNext fun _ h => h.onPort fun _ h => h.command
  | portDownWrite => exact updNext fun _ h => h.onPort fun _ h => h.command
  | colGroupValidWrite => exact updNext fun _ h => h.commandBy fun _ h => h.writeGroupCfg
  | colConfigWrite => exact updNext fun _ h => h.command
  | collInstanceStart => exact updNext fun _ h => h.collStart
  | collAgreement =>
    refine updNext fun d h => ?_
    split
    · exact .ite h h.consume.collAgreeIn
    · exact h
  | collData =>
    refine updNext fun d h => ?_
    split
    · split
      · split
        next _ d₁ he₂ =>
          have h₁ : FormsKept s.dev d₁ := snd he₂ h.bufWaits
          exact h₁
        · exact h.consume.collDataIn
    · exact h
  | collAbortMarker =>
    refine updNext fun d h => ?_
    split
    · exact h.consume.takeMarker
    · exact h
  | collWaitingMarker =>
    refine updNext fun d h => ?_
    split
    · exact h.consume.takeWaiting
    · exact h
  | collMulticastAck =>
    refine updNext fun d h => ?_
    split
    · extract_lets _
      split
      · exact h.consume.castCounts
      · exact h.consume
    · exact h
  | stragglerTimeout => exact updNext fun _ h => h.stragglerTimeout
  | collAbort => exact updNext fun _ h => h.press
  | collStatusWrite => exact updNext fun _ h => h.collStatus
  | barrierArrival =>
    refine updNext fun d h => ?_
    split
    · split
      · exact h
      · extract_lets _
        split
        · exact h.consume.keepEarly
        · exact .ite h.consume.keepEarly (.ite h.consume.barrierTake h.consume.takeAgree.takeEarly)
    · exact h
  | barrierRelease =>
    refine updNext fun d h => ?_
    split
    · split
      · exact h
      · extract_lets _
        split
        · exact h.consume.keepEarly
        · exact .ite h.consume.barrierTake h.consume
    · exact h
  | synCntWrite => exact updNext fun _ h => h.command
  | synCntAdd => exact updNext fun _ h => h.command
  | timeExchange => exact updNext fun _ h => h.timeExchange
  | timeRequest => exact updNext fun _ h => .ite h.consume.timeRequest h
  | timeReply => exact updNext fun _ h => .ite h.consume.timeReply h
  | alignLossTimeout => exact updNext fun _ h => h.alignTimeout
  | rootExchangeEnd => exact updNext fun _ h => .ite h.other.becomeAligned h
  | meridianArm => exact updNext fun _ h => h.press
  | meridianCancel => exact updNext fun _ h => h.press
  | meridianTickWrite => exact updNext fun _ h => h.command
  | meridianRelease => exact updNext fun _ h => .ite h.meridianRelease h
  | frameReceive => exact updNext fun _ h => h.frameIn
  | linkLockLoss => exact updNext fun _ h => h.lockLost
  | linkTestDone => exact updNext fun _ h => h.testDone
  | propose => exact updNext fun _ h => h.propose
  | accept => exact updNext fun _ h => h.accept
  | confirm => exact updNext fun _ h => h.confirm
  | exchangeTimeout => exact updNext fun _ h => h.exchangeTimeout
  | linkRetrainWrite => exact updNext fun _ h => h.press
  | linkDownWrite => exact updNext fun _ h => h.setting
  | sidebandMessage => exact updNext fun _ h => h.sideIn
  | sidebandResend => exact updNext fun _ h => h.sideResend
  | dieIdentityTimeout => exact updNext fun _ h => h.identityTimeout
  | hello => exact updNext fun _ h => h.hlkRow
  | helloResend => exact updNext fun _ h => h.helloAgain
  | credit => exact updNext fun _ h => h.hlkRow
  | eoi => exact updNext fun _ h => h.hlkRow
  | counterAck => exact updNext fun _ h => h.hlkRow
  | doorbell => exact updNext fun _ h => h.hlkRow
  | rdShared => exact updNext fun _ h => h.hlkRow
  | rdOwn => exact updNext fun _ h => h.hlkRow
  | rdUncached => exact updNext fun _ h => h.hlkRow
  | wrUncached => exact updNext fun _ h => h.hlkRow
  | wrback => exact updNext fun _ h => h.hlkRow
  | evictClean => exact updNext fun _ h => h.hlkRow
  | snpShare => exact updNext fun _ h => h.hlkRow
  | snpInv => exact updNext fun _ h => h.hlkRow
  | dataS => exact updNext fun _ h => h.hlkRow
  | dataE => exact updNext fun _ h => h.hlkRow
  | wrAck => exact updNext fun _ h => h.hlkRow
  | snpAck => exact updNext fun _ h => h.hlkRow
  | refused => exact updNext fun _ h => h.hlkRow
  | snoopTimeout => exact updNext fun _ h => h.snoopTimeout
  | hostPortLoss => exact updNext fun _ h => h.hostPortLoss
  | hlkLinkDown => exact updNext fun _ h => h.hlkLost
  | hlkDownWrite => exact updNext fun _ h => h.setting
  | intPendSet => exact updNext fun _ h => h.command
  | intPendClr => exact updNext fun _ h => h.command
  | intMaskSet => exact updNext fun _ h => h.command
  | intMaskClr => exact updNext fun _ h => h.command
  | intClaim => exact updNext fun _ h => h.claimCommand
  | intEoiWrite => exact updNext fun _ h => h.command
  | intSrcCfgWrite => exact updNext fun _ h => h.command
  | companionInterrupt => exact updNext fun _ h => h.companionInt
  | bootCold => exact updNext fun _ h => h.press
  | bootWarm => exact updNext fun _ h => h.press
  | stageOneHoldExpiry => exact updNext fun _ h => h.stageOneHoldEnd
  | quiesceDone => exact updNext fun _ h => h.quiesceDone
  | railsUp => exact updNext fun _ h => h.railsIn
  | bootRomDone => exact updNext fun _ h => h.romDone
  | identityDone => exact updNext fun _ h => h.identityDone
  | firmwareStepDone => exact updNext fun _ h => h.firmwareDone
  | ephemerisStepDone => exact updNext fun _ h => h.ephemerisDone
  | inventoryDone => exact updNext fun _ h => h.inventoryDone
  | linksTrained => exact updNext fun _ h => h.linksDone
  | firstLightDone => exact updNext fun _ h => h.firstLightDone
  | dieResetReq => exact updNext fun _ h => h.command
  | dieResetDone => exact updNext fun _ h => h.dieResetDone
  | watchdogKick => exact updNext fun _ h => h.press
  | watchdogPeriodWrite => exact updNext fun _ h => h.setting
  | bootWatchdog => exact updNext fun _ h => h.watchdog
  | fwTrial => exact updNext fun _ h => h.commandBy fun _ h => h.fwTrial
  | fwCommit => exact updNext fun _ h => h.press
  | fwHandover => exact updNext fun _ h => h.commandBy fun _ h => h.fwHandover
  | handoverVerifyDone => exact updNext fun _ h => h.handoverVerified
  | handoverParkDone => exact updNext fun _ h => h.handoverParked
  | handoverLoadDone => exact updNext fun _ h => h.handoverLoaded
  | fwResumed => exact updNext fun _ h => h.press
  | bootHandoverReverted => exact updNext fun _ h => h.handoverReverted
  | journalWrite => exact updNext fun _ h => h.journalWrite
  | ephCompact => exact updNext fun _ h => h.press
  | ephFlush => exact updNext fun _ h => h.press
  | ephSramUncorrectable => exact updNext fun _ h => h.sramLost
  | attestReq => exact updNext fun _ h => h.commandBy fun _ h => h.attestReq
  | attestDone => exact updNext fun _ h => h.attestDone
  | secNonceWrite => exact updNext fun _ h => h.command
  | dbgSubmit => exact updNext fun _ h => h.press
  | submitVerifyDone => exact updNext fun _ h => h.submitDone
  | dbgLockoutExpiry => exact updNext fun _ h => h.sf
  | dbgExit => exact updNext fun _ h => h.press
  | dbgRefresh => exact updNext fun _ h => h.press
  | mcoreHalt => exact updNext fun _ h => h.press
  | mcoreResume => exact updNext fun _ h => h.press
  | mcoreStep => exact updNext fun _ h => .ite h.mcoreStep h.debugRefused
  | mcoreTraceRead => exact updNext fun _ h => .ite h.debugRefused.other h.setMcore.mcoreTrace.other
  | inputSample => exact updNext fun _ h => .ite h.inputSample h
  | inputLowTimeout => exact updNext fun _ h => h.lowTimeout
  | inputLowLift => exact updNext fun _ h => h.lowLift
  | clocksStopped => exact updNext fun _ h => h.clocksStopped
  | railsOff => exact updNext fun _ h => h.railsOff
  | stageOneOff => exact updNext fun _ h => h.stageOneOff
  | capWindow => exact updNext fun _ h => h.capWindow
  | capWWrite => exact updNext fun _ h => h.setting
  | pwrTargetP0 => exact updNext fun _ h => h.setting
  | pwrTargetP2 => exact updNext fun _ h => h.setting
  | pwrTargetP3 => exact updNext fun _ h => h.setting
  | pwrStateChanged => exact updNext fun _ h => h.pwrChanged
  | islandIdleGate => exact updNext fun _ h => h.idleGate
  | islandUngate => exact updNext fun _ h => h.ungate
  | rampStep => exact updNext fun _ h => h.rampStep
  | railSettled => exact updNext fun _ h => h.railSettled
  | droopTrip => exact updNext fun _ h => h.droopTrip
  | droopClear => exact updNext fun _ h => h.droopClear
  | droopHandover => exact updNext fun _ h => h.droopHandover
  | droopRecovery => exact updNext fun _ h => h.droopRecovery
  | islandEnWrite => exact updNext fun _ h => h.setting
  | islandOpWrite => exact updNext fun _ h => h.setting
  | clkRefLost => exact updNext fun _ h => h.refLost
  | refHoldoverExpiry => exact updNext fun _ h => h.holdoverExpiry
  | clkPllUnlock => exact updNext fun _ h => h.pllUnlock
  | thermalSample => exact updNext fun _ h => h.thermalSample.tryRise
  | throttleStep => exact updNext fun _ h => h.throttleStep
  | throttleRecoveryStep => exact updNext fun _ h => h.throttleRecovery
  | comparatorCrossing => exact updNext fun _ h => h.crossing
  | thmShutdown => exact updNext fun _ h => h.thmShutdown
  | comparatorTest => exact updNext fun _ h => h.comparatorTest
  | logReport => exact updNext fun _ h => .ite h.report.score h.report
  | logRecordWrite => exact updNext fun _ h => h.writeSlot
  | coalesceClose => exact updNext fun _ h => h.closeEntry
  | hbmRingCopy => exact updNext fun _ h => h.ringCopy
  | logHbmEnWrite => exact updNext fun _ h => h.command
  | occultation => exact updNext fun _ h => .ite h.lift h.occult
  | noticeCopyTimer => exact updNext fun _ h => h.nextCopy
  | occultationNotice => exact updNext fun _ h => .ite h.consume.noticeIn h
  | restorationNotice => exact updNext fun _ h => .ite h.consume.noticeIn h
  | deviceLostNotice => exact updNext fun _ h => .ite h.consume.noticeIn h
  | accusationSummary => exact updNext fun _ h => .ite h.consume.summaryIn h
  | lockstepMarkNotice => exact updNext fun _ h => .ite h.consume.markIn h
  | firmwareMessage => exact updNext fun _ h => .ite h.consume.other h
  | safeOccultUnit => exact updNext fun _ h => h.command
  | safeLiftUnit => exact updNext fun _ h => h.command
  | safeDeclareLost => exact updNext fun _ h => h.command
  | safeAccuse => exact updNext fun _ h => h.command
  | accusationWindowEnd => exact updNext fun _ h => h.windowEnd
  | healthHalfLife => exact updNext fun _ h => h.halfLife
  | healthClear => exact updNext fun _ h => h.press
  | lockstepMarkTimeout => exact updNext fun _ h => h.markTimeout
  | firstLightReq => exact updNext fun _ h => h.command
  | plateStart => exact updNext fun _ h => h.press
  | plateReq => exact updNext fun _ h => h.press
  | plateDone => exact updNext fun _ h => h.plateDone
  | residueInjection => exact updNext fun _ h => h.residueTest
  | monitorHeartbeat => exact updNext fun _ h => h.heartbeat
  | heartbeatTimeout => exact updNext fun _ h => h.heartbeatLost
  | guideStarReturn => exact updNext fun _ h => .ite h.refBack h
  | noLightOnChannel => exact updNext fun _ h => h.onPort fun _ h => h.noLight
  | remoteSignalTimeout => exact updNext fun _ h => h.timeoutOf
  | collPacketTimeout =>
    refine updNext fun d h => ?_
    split
    · exact h.collTimeout
    · exact h
  | rcRegisterRead => exact updNext fun _ h => h.registerRead

theorem idle (s : State) : FormsKept s.dev (idle s).dev := (refl s.dev).tick.linkTick

theorem step_next (s : State) : ∃ d q, step s = .next { s with dev := d, pending := q } ∧ FormsKept s.dev d := by
  unfold step
  split
  next hq => exact ⟨_, [], by rw [← hq]; rfl, idle s⟩
  next c rest hq =>
    obtain ⟨d, hd, h⟩ := exec_next c { s with pending := rest }
    exact ⟨d, rest, hd, h⟩

theorem step {s t : State} (ht : step s = .next t) : FormsKept s.dev t.dev := by
  obtain ⟨d, q, hd, h⟩ := step_next s
  rw [hd] at ht
  cases ht
  exact h

end FormsKept

/-! ### What the layer settles -/

/-- Settles O3: a command is an update of the device, and a step is a command or an idle step. -/
theorem nothingStops : Obligations.NothingStops := by
  refine ⟨fun c s => ?_, fun s => ?_⟩
  · obtain ⟨d, hd, -⟩ := FormsKept.exec_next c s
    exact ⟨_, hd, rfl⟩
  · obtain ⟨d, q, hd, -⟩ := FormsKept.step_next s
    exact ⟨_, hd⟩

/-- Settles O5: no function of a step takes the memories out of their canonical form. -/
theorem memoriesStayCanonical : Obligations.MemoriesStayCanonical := by
  intro s t hs ht
  have hkept : FormsKept s.dev t.dev := FormsKept.step ht
  exact hkept.memory hs

/-- Settles O6: no function of a step takes the register file out of its canonical form. -/
theorem registersStayCanonical : Obligations.RegistersStayCanonical := by
  intro s t hs ht
  have hkept : FormsKept s.dev t.dev := FormsKept.step ht
  exact hkept.regs hs

end Sys2Proof.Machine
end

/-! PROOFS. Fields of a register: the tables keep them apart, so a word put together from field values reads as them. -/

section
namespace Sys2Proof

open Sys2Proof

/-- The fields of a list lie in a word of 64 bits, no two of them on one bit. -/
def fieldsApart : List Field → Bool
  | [] => true
  | f :: fs => decide (f.lo ≤ f.hi ∧ f.hi < 64) && (fs.all fun g => decide (g.hi < f.lo ∨ f.hi < g.lo)) && fieldsApart fs

theorem fieldsApart_cons {f : Field} {fs : List Field} (h : fieldsApart (f :: fs) = true) :
    (f.lo ≤ f.hi ∧ f.hi < 64) ∧ (∀ g ∈ fs, g.hi < f.lo ∨ f.hi < g.lo) ∧ fieldsApart fs = true := by
  simpa only [fieldsApart, Bool.and_eq_true, List.all_eq_true, decide_eq_true_eq, and_assoc] using h

theorem RegName.fields_apart (n : RegName) : fieldsApart n.fields = true := by
  cases n <;> rfl

theorem assemble_lt {fs : List Field} (h : fieldsApart fs = true) (v : Field → Nat) : assemble fs v < 2 ^ 64 := by
  induction fs with
  | nil => exact Nat.two_pow_pos 64
  | cons f fs ih =>
    obtain ⟨⟨hlo, hhi⟩, -, hfs⟩ := fieldsApart_cons h
    exact putBits_lt _ _ _ _ hlo hhi (ih hfs)

theorem testBit_assemble_of_mem {fs : List Field} (h : fieldsApart fs = true) (v : Field → Nat) {f : Field} (hf : f ∈ fs) {b : Nat}
    (hlo : f.lo ≤ b) (hhi : b ≤ f.hi) : (assemble fs v).testBit b = (v f).testBit (b - f.lo) := by
  induction fs with
  | nil => cases hf
  | cons g fs ih =>
    obtain ⟨⟨hg, -⟩, hapart, hfs⟩ := fieldsApart_cons h
    rw [assemble, testBit_putBits _ _ _ _ _ hg]
    rcases List.mem_cons.mp hf with rfl | hf
    · rw [if_neg (Nat.not_lt.mpr hlo), if_pos hhi]
    · have hb : b < g.lo ∨ g.hi < b := by have := hapart f hf; omega
      rw [ih hfs hf]
      rcases hb with hb | hb
      · rw [if_pos hb]
      · rw [if_neg (by omega), if_neg (by omega)]

theorem testBit_assemble_of_outside {fs : List Field} (h : fieldsApart fs = true) (v : Field → Nat) {b : Nat}
    (hb : ∀ f ∈ fs, b < f.lo ∨ f.hi < b) : (assemble fs v).testBit b = false := by
  induction fs with
  | nil => exact Nat.zero_testBit b
  | cons g fs ih =>
    obtain ⟨⟨hg, -⟩, -, hfs⟩ := fieldsApart_cons h
    have hrest := ih hfs fun f hf => hb f (List.mem_cons_of_mem _ hf)
    rw [assemble, testBit_putBits _ _ _ _ _ hg, hrest]
    rcases hb g List.mem_cons_self with hb | hb
    · rw [if_pos hb]
    · rw [if_neg (by omega), if_neg (by omega)]

theorem testBit_getBits (w : Word) (hi lo i : Nat) :
    (getBits w hi lo).testBit i = (decide (i < hi + 1 - lo) && w.toNat.testBit (i + lo)) :=
  testBit_bitsOf _ _ _ _

theorem toNat_ofNat_assemble (n : RegName) (v : Field → Nat) :
    (BitVec.ofNat 64 (assemble n.fields v)).toNat = assemble n.fields v := by
  rw [BitVec.toNat_ofNat, Nat.mod_eq_of_lt (assemble_lt n.fields_apart v)]

/-- A register's word put together from field values reads, field by field, as them. -/
theorem getBits_assemble {n : RegName} (v : Field → Nat) {f : Field} (hf : f ∈ n.fields) :
    getBits (BitVec.ofNat 64 (assemble n.fields v)) f.hi f.lo = v f % 2 ^ (f.hi + 1 - f.lo) := by
  apply Nat.eq_of_testBit_eq
  intro i
  rw [testBit_getBits, toNat_ofNat_assemble, Nat.testBit_mod_two_pow]
  by_cases hi : i < f.hi + 1 - f.lo
  · rw [testBit_assemble_of_mem n.fields_apart v hf (by omega) (by omega), Nat.add_sub_cancel]
  · rw [decide_eq_false hi, Bool.false_and, Bool.false_and]

/-- The bits of a register's word outside every field are zero. -/
theorem getBits_assemble_of_outside {n : RegName} (v : Field → Nat) {b : Nat} (hb : ∀ f ∈ n.fields, b < f.lo ∨ f.hi < b) :
    getBits (BitVec.ofNat 64 (assemble n.fields v)) b b = 0 := by
  apply Nat.eq_of_testBit_eq
  intro i
  rw [testBit_getBits, toNat_ofNat_assemble, Nat.zero_testBit]
  by_cases hi : i < b + 1 - b
  · obtain rfl : i = 0 := by omega
    rw [Nat.zero_add, testBit_assemble_of_outside n.fields_apart v hb, Bool.and_false]
  · rw [decide_eq_false hi, Bool.false_and]

end Sys2Proof
end

/-! PROOFS. A command that updates the device completes where its update does what is claimed. -/

section
namespace Sys2Proof.Machine

open Sys2Proof

theorem Completes.of_upd {c : Instr} {f : Dev → Dev} {pre : Dev → Prop} {post : Dev → Dev → Prop}
    (hc : ∀ s, exec c s = s.upd f) (h : ∀ d, pre d → post d (f d)) : Completes c pre post := by
  intro s hpre
  exact ⟨{ s with dev := f s.dev }, hc s, rfl, h s.dev hpre⟩

end Sys2Proof.Machine
end

/-! PROOFS. O7: what the registers hold when a cold start has begun. The start rewrites every register that the file lists, so a field
that a cold start does not keep reads its Reset value whether its register is listed or not; after that only `Dev.startRegs` change. -/

section
namespace Sys2Proof.Machine

open Sys2Proof

/-- What holds of every listed value and of the default holds of what is read. -/
theorem get_of_forall {κ α : Type} [DecidableEq κ] {P : α → Prop} (dflt : α) (k : κ) {m : FMap κ α} (hd : P dflt)
    (hm : ∀ e ∈ m, e.1 = k → P e.2) : P (FMap.get dflt m k) := by
  induction m with
  | nil => exact hd
  | cons e m ih =>
    unfold FMap.get
    split
    next he => exact hm e List.mem_cons_self he
    · exact ih fun e' he' => hm e' (List.mem_cons_of_mem _ he')

namespace Dev

variable {d : Dev}

/-- A field that a cold start does not keep reads its Reset value after it. -/
theorem getBits_loseFields_cold {k : RegKey} {f : Field} (hf : f ∈ k.name.fields) (hk : f.keep ≠ .e) :
    getBits ((d.loseFields .cold true fun _ => true).reg k) f.hi f.lo = fieldReset k f % 2 ^ (f.hi + 1 - f.lo) := by
  refine get_of_forall (P := fun v => getBits v f.hi f.lo = fieldReset k f % 2 ^ (f.hi + 1 - f.lo)) _ k
    (getBits_assemble _ hf) fun e he hek => ?_
  obtain ⟨e₀, -, he⟩ := List.mem_filterMap.mp he
  simp only [if_true] at he
  split at he
  · cases he
  · cases he
    subst hek
    have hlost : outlives .cold f.keep = false := decide_eq_false hk
    simp only [keepWord, getBits_assemble _ hf, hlost, Bool.false_and, Bool.false_eq_true, if_false]

theorem reg_putReg_ne {k k' : RegKey} (v : Word) (h : k' ≠ k) : (d.putReg k v).reg k' = d.reg k' :=
  FMap.get_set_ne _ _ _ _ _ h

theorem reg_sf_of_name_ne {f : Fld} {v u i j : Nat} {k : RegKey} (h : k.name ≠ f.reg) : (d.sf f v u i j).reg k = d.reg k :=
  reg_sf_ne d f v u i j fun e => h (congrArg RegKey.name e)

theorem reg_endExtest (k : RegKey) : d.endExtest.reg k = d.reg k := by
  unfold endExtest
  split <;> rfl

/-- What the always-on domain holds is shown in `startRegs` alone. -/
theorem reg_syncBoot {k : RegKey} (h : k.name ∉ startRegs) : d.syncBoot.reg k = d.reg k := by
  simp only [startRegs, List.mem_cons, not_or] at h
  obtain ⟨hboot, -, -, hpwr, hthm, hsafe, hreply, -⟩ := h
  unfold syncBoot
  simp only [reg_sf_of_name_ne (f := F.BOOT_STAT.STATE) hboot, reg_sf_of_name_ne (f := F.BOOT_STAT.KIND) hboot,
    reg_sf_of_name_ne (f := F.BOOT_STAT.WARM_RECORD) hboot, reg_sf_of_name_ne (f := F.PWR_STAT.CONVERTERS) hpwr,
    reg_sf_of_name_ne (f := F.PWR_STAT.INPUT_LOW) hpwr, reg_sf_of_name_ne (f := F.PWR_STAT.INPUT_HIGH) hpwr,
    reg_sf_of_name_ne (f := F.THM_STAT.FLASH_OPEN) hthm, reg_sf_of_name_ne (f := F.GAS_REPLY_STAT.IN_USE) hreply,
    reg_sf_of_name_ne (f := F.SAFE_MON_STAT.RESIDUE_DEAD) hsafe, reg_sf_of_name_ne (f := F.PWR_STAT.CAP_IN_FORCE_W) hpwr]

/-- Beside `startRegs`, a start leaves the registers as the loss of their fields has left them. -/
theorem reg_enterStart {kind : StartKind} {first : BootStep} {k : RegKey} (h : k.name ∉ startRegs) :
    (d.enterStart kind first).reg k = ((d.wipeUnits kind).loseFields kind.event true fun _ => true).reg k := by
  have hstrap : k ≠ ⟨.BOOT_STRAP, 0, 0, 0⟩ := fun e => h (e ▸ by decide)
  have hclk : k ≠ ⟨.CLK_STAT, 0, 0, 0⟩ := fun e => h (e ▸ by decide)
  calc (d.enterStart kind first).reg k
    _ = ((((d.wipeUnits kind).loseFields kind.event true fun _ => true).putReg ⟨.BOOT_STRAP, 0, 0, 0⟩ (d.reg ⟨.BOOT_STRAP, 0, 0, 0⟩)).putReg
          ⟨.CLK_STAT, 0, 0, 0⟩ (d.reg ⟨.CLK_STAT, 0, 0, 0⟩)).endExtest.reg k := reg_syncBoot h
    _ = _ := by rw [reg_endExtest, reg_putReg_ne _ hclk, reg_putReg_ne _ hstrap]

theorem getBits_enterStart_cold {first : BootStep} {k : RegKey} {f : Field} (hf : f ∈ k.name.fields) (hk : f.keep ≠ .e)
    (h : k.name ∉ startRegs) :
    getBits ((d.enterStart .cold first).reg k) f.hi f.lo = fieldReset k f % 2 ^ (f.hi + 1 - f.lo) := by
  rw [reg_enterStart h]
  exact getBits_loseFields_cold hf hk

/-- A rise that nothing holds off begins a cold start. -/
theorem tryRise_eq_pgoodStart {p : PowerSt} (hp : d.power = p) (hin : p.pgoodIn = true) (haux : p.aux = true)
    (hclosed : p.closed = true) (hone : p.stageOne = false) (hpath : p.path = none) (hhold : p.hold = false) (hhot : p.hot = false) :
    ∃ d' : Dev, { d with power := { d.power with rise := true } }.tryRise = d'.pgoodStart := by
  refine ⟨{ d with power := { d.power with rise := true } }, if_pos ?_⟩
  simp [hp, hin, haux, hclosed, hone, hpath, hhold, hhot]

/-- A rise of PGOOD_IN with the input in its range, that nothing holds off, begins a cold start. -/
theorem pgoodRise_starts {strap vin : Nat} (hlow : 4800 ≤ vin) (hhigh : vin ≤ 6400) (hin : d.power.pgoodIn = true)
    (haux : d.power.aux = true) (hclosed : d.power.closed = true) (hone : d.power.stageOne = false) (hpath : d.power.path = none)
    (hhold : d.power.hold = false) (hhot : d.power.hot = false) : ∃ d' : Dev, d.pgoodRise strap vin = d'.pgoodStart := by
  have hvin : ¬ (vin < 4800 ∨ 6400 < vin) := by omega
  have hrise : d.pgoodRise strap vin
      = { d.sf F.BOOT_STRAP.OSC_DLY strap with power := { (d.sf F.BOOT_STRAP.OSC_DLY strap).power with rise := true } }.tryRise :=
    if_neg hvin
  rw [hrise]
  exact tryRise_eq_pgoodStart (sf_power d _ _ _ _ _) hin haux hclosed hone hpath hhold hhot

theorem getBits_pgoodStart {k : RegKey} {f : Field} (hf : f ∈ k.name.fields) (hk : f.keep ≠ .e) (h : k.name ∉ startRegs) :
    getBits (d.pgoodStart.reg k) f.hi f.lo = fieldReset k f % 2 ^ (f.hi + 1 - f.lo) := by
  have hstrap : k.name ≠ .BOOT_STRAP := fun e => h (e ▸ by decide)
  unfold pgoodStart
  rw [reg_sf_of_name_ne (f := F.BOOT_STRAP.DELAY_US) hstrap]
  exact getBits_enterStart_cold hf hk h

theorem power_endExtest : d.endExtest.power = d.power := by
  unfold endExtest
  split <;> rfl

theorem power_restoreCores : d.restoreCores.power = d.power := by
  unfold restoreCores
  refine List.foldlRecOn (motive := fun e : Dev => e.power = d.power) _ _ rfl fun e he c _ => ?_
  split
  · exact he
  · exact he

theorem putReg_power (k : RegKey) (v : Word) : (d.putReg k v).power = d.power := rfl

theorem loseFields_power (ev : KeepEvent) (start : Bool) (sel : RegKey → Bool) : (d.loseFields ev start sel).power = d.power := rfl

theorem failed_wipeUnits (kind : StartKind) : (d.wipeUnits kind).power.failed = d.power.failed := by
  simp only [wipeUnits, power_restoreCores]

theorem failed_enterStart {kind : StartKind} {first : BootStep} : (d.enterStart kind first).power.failed = d.power.failed := by
  simp only [enterStart, syncBoot, sf_power, power_endExtest, putReg_power, loseFields_power, failed_wipeUnits]

/-- With two converters or more in service, the end of the hold begins a cold start. -/
theorem stageOneHoldEnd_starts (hstep : d.boot.step = .hold) (hpath : d.power.path = none) (hfailed : d.power.failed ≤ 3) :
    ∃ d' : Dev, d.stageOneHoldEnd = d'.enterStart .cold .rails := by
  unfold stageOneHoldEnd
  rw [if_neg (by simp [hstep, hpath])]
  refine ⟨_, if_neg ?_⟩
  rw [failed_enterStart]
  exact Nat.not_le.mpr (Nat.lt_succ_of_le hfailed)

end Dev

/-- Settles O7, by the two ways in which a cold start begins: both go through `enterStart`. -/
theorem coldStartRegisters : Obligations.ColdStartRegisters := by
  refine ⟨fun st vin k f hf => ?_, fun k f hf => ?_⟩
  · refine .of_upd (f := fun d => if d.power.pgoodIn then d else
        let d := { d with power := { d.power with pgoodIn := true } }
        if d.power.aux then d.pgoodRise st vin else d) (fun _ => rfl) fun d hpre => ?_
    obtain ⟨hin, haux, hone, hpath, hclosed, hhold, hhot, hlow, hhigh, hkeep, hname⟩ := hpre
    obtain ⟨d', hd⟩ := Dev.pgoodRise_starts (d := { d with power := { d.power with pgoodIn := true } })
      (strap := st) hlow hhigh rfl haux hclosed hone hpath hhold hhot
    dsimp only at hd ⊢
    rw [if_neg (by simp [hin]), if_pos haux, hd]
    exact Dev.getBits_pgoodStart hf hkeep hname
  · refine .of_upd (f := fun d => d.stageOneHoldEnd) (fun _ => rfl) fun d hpre => ?_
    obtain ⟨hstep, hpath, hfailed, hkeep, hname⟩ := hpre
    obtain ⟨d', hd⟩ := Dev.stageOneHoldEnd_starts hstep hpath hfailed
    rw [hd]
    exact Dev.getBits_enterStart_cold hf hkeep hname

end Sys2Proof.Machine
end

/-! PROOFS. R5, R6 and R8 field by field: what a write and a read leave in the fields and in the reserved bits of a register. -/

section
namespace Sys2Proof

open Sys2Proof

/-- A field set to a value, or left as it is. -/
def putField (a : Word) (f : Field) : Option Nat → Word
  | some x => setBits a f.hi f.lo x
  | none => a

theorem getBits_putField_of_disjoint (a : Word) {f : Field} (h : f.lo ≤ f.hi ∧ f.hi < 64) (x : Option Nat) {hi lo : Nat}
    (hd : hi < f.lo ∨ f.hi < lo) : getBits (putField a f x) hi lo = getBits a hi lo := by
  cases x with
  | some x => exact getBits_setBits_of_disjoint _ _ _ _ _ _ h.1 h.2 hd
  | none => rfl

theorem getBits_putField_self (a : Word) {f : Field} (h : f.lo ≤ f.hi ∧ f.hi < 64) (x : Option Nat) :
    getBits (putField a f x) f.hi f.lo = x.elim (getBits a f.hi f.lo) (· % 2 ^ (f.hi + 1 - f.lo)) := by
  cases x with
  | some x => exact getBits_setBits_self _ _ _ _ h.1 h.2
  | none => rfl

/-- A word whose fields are gone through, each set to a value or left as it is. -/
def putFields (fs : List Field) (x : Field → Option Nat) (w : Word) : Word := fs.foldl (fun a f => putField a f (x f)) w

variable {fs : List Field} (x : Field → Option Nat) (w : Word)

theorem getBits_putFields_of_disjoint (hfs : fieldsApart fs = true) {hi lo : Nat} (h : ∀ f ∈ fs, hi < f.lo ∨ f.hi < lo) :
    getBits (putFields fs x w) hi lo = getBits w hi lo := by
  induction fs generalizing w with
  | nil => rfl
  | cons f fs ih =>
    obtain ⟨hf, -, hrest⟩ := fieldsApart_cons hfs
    calc getBits (putFields fs x (putField w f (x f))) hi lo
      _ = getBits (putField w f (x f)) hi lo := ih _ hrest fun g hg => h g (List.mem_cons_of_mem _ hg)
      _ = getBits w hi lo := getBits_putField_of_disjoint w hf _ (h f List.mem_cons_self)

theorem getBits_putFields_of_mem (hfs : fieldsApart fs = true) {f : Field} (hf : f ∈ fs) :
    getBits (putFields fs x w) f.hi f.lo = (x f).elim (getBits w f.hi f.lo) (· % 2 ^ (f.hi + 1 - f.lo)) := by
  induction fs generalizing w with
  | nil => cases hf
  | cons g fs ih =>
    obtain ⟨hg, hapart, hrest⟩ := fieldsApart_cons hfs
    rcases List.mem_cons.mp hf with rfl | hf
    · calc getBits (putFields fs x (putField w f (x f))) f.hi f.lo
        _ = getBits (putField w f (x f)) f.hi f.lo := getBits_putFields_of_disjoint x _ hrest fun y hy => (hapart y hy).symm
        _ = _ := getBits_putField_self w hg _
    · calc getBits (putFields fs x (putField w g (x g))) f.hi f.lo
        _ = (x f).elim (getBits (putField w g (x g)) f.hi f.lo) _ := ih _ hrest hf
        _ = _ := by rw [getBits_putField_of_disjoint w hg _ (hapart f hf)]

/-! ### The write (R6) -/

/-- What a write of `new` over `old` sets a field to, where no action hangs on the register. -/
def writtenField (old new : Word) (f : Field) : Option Nat :=
  match f.access with
  | .rw | .wo => some (getBits new f.hi f.lo)
  | .w1s => some (getBits old f.hi f.lo ||| getBits new f.hi f.lo)
  | .w1c => some (getBits old f.hi f.lo - (getBits old f.hi f.lo &&& getBits new f.hi f.lo))
  | .ro | .rc => none

theorem writeFields_noAction (n : RegName) (old new : Word) :
    writeFields n Machine.noAction old new = putFields n.fields (writtenField old new) old := by
  unfold writeFields putFields
  congr 1
  funext a f
  unfold writtenField
  cases f.access <;> rfl

/-- What a field reads as after a write of `new` over `old` (R6). -/
def fieldAfter (old new : Nat) : Access → Nat
  | .rw | .wo => new
  | .w1s => old ||| new
  | .w1c => old - (old &&& new)
  | .ro | .rc => old

theorem getBits_writeFields {n : RegName} (old new : Word) {f : Field} (hf : f ∈ n.fields) :
    getBits (writeFields n Machine.noAction old new) f.hi f.lo
      = fieldAfter (getBits old f.hi f.lo) (getBits new f.hi f.lo) f.access := by
  have hold : getBits old f.hi f.lo < 2 ^ (f.hi + 1 - f.lo) := getBits_lt _ _ _
  have hnew : getBits new f.hi f.lo < 2 ^ (f.hi + 1 - f.lo) := getBits_lt _ _ _
  rw [writeFields_noAction, getBits_putFields_of_mem _ _ n.fields_apart hf]
  cases hacc : f.access with
  | rw => simp [writtenField, fieldAfter, hacc, Nat.mod_eq_of_lt hnew]
  | wo => simp [writtenField, fieldAfter, hacc, Nat.mod_eq_of_lt hnew]
  | w1s => simp [writtenField, fieldAfter, hacc, Nat.mod_eq_of_lt (Nat.or_lt_two_pow hold hnew)]
  | w1c => simp [writtenField, fieldAfter, hacc, Nat.mod_eq_of_lt (Nat.lt_of_le_of_lt (Nat.sub_le _ _) hold)]
  | ro => simp [writtenField, fieldAfter, hacc]
  | rc => simp [writtenField, fieldAfter, hacc]

theorem getBits_writeFields_of_outside {n : RegName} (old new : Word) {b : Nat} (hb : ∀ f ∈ n.fields, b < f.lo ∨ f.hi < b) :
    getBits (writeFields n Machine.noAction old new) b b = getBits old b b := by
  rw [writeFields_noAction, getBits_putFields_of_disjoint _ _ n.fields_apart hb]

/-- Where every field ignores a write, the register does. -/
theorem writeFields_of_readOnly {n : RegName} (h : ∀ f ∈ n.fields, f.access = .ro ∨ f.access = .rc) (old new : Word) :
    writeFields n Machine.noAction old new = old := by
  rw [writeFields_noAction]
  unfold putFields
  refine List.foldlRecOn (motive := fun w => w = old) _ _ rfl fun w hw f hf => ?_
  rw [hw]
  rcases h f hf with hacc | hacc <;> simp [writtenField, hacc, putField]

/-! ### The read (R6, R8) -/

theorem afterRead_eq (k : RegKey) (v : Word) :
    afterRead k v = putFields k.name.fields (fun f => if f.access = .rc then some (fieldReset k f) else none) v := by
  unfold afterRead putFields
  congr 1
  funext a f
  by_cases hacc : f.access = .rc <;> simp [hacc, putField]

theorem getBits_afterRead {k : RegKey} (v : Word) {f : Field} (hf : f ∈ k.name.fields) :
    getBits (afterRead k v) f.hi f.lo
      = if f.access = .rc then fieldReset k f % 2 ^ (f.hi + 1 - f.lo) else getBits v f.hi f.lo := by
  rw [afterRead_eq, getBits_putFields_of_mem _ _ k.name.fields_apart hf]
  split <;> rfl

theorem getBits_readView {n : RegName} (v : Word) {f : Field} (hf : f ∈ n.fields) :
    getBits (readView n v) f.hi f.lo = if f.access = .wo then 0 else getBits v f.hi f.lo := by
  rw [readView, getBits_assemble _ hf]
  split
  · exact Nat.zero_mod _
  · exact Nat.mod_eq_of_lt (getBits_lt _ _ _)

theorem access_ne_rc_of_not_hasRc {n : RegName} (h : n.hasRc = false) {f : Field} (hf : f ∈ n.fields) : f.access ≠ .rc := by
  simpa using List.any_eq_false.mp h f hf

end Sys2Proof
end

/-! PROOFS. The rules of `Only`: what an update changes is what its parts change. -/

section
namespace Sys2Proof.Machine

open Sys2Proof

theorem Dev.setReg_eph_of_not_journalled {d : Dev} {k : RegKey} {v : Word} (h : k.name.journalled = false) :
    (d.setReg k v).eph = d.eph := by
  show d.noted k v = d.eph
  simp [Dev.noted, h]

namespace Only

variable {rs : List RegKey} {ps : List Part} {d e : Dev}

theorem refl (rs : List RegKey) (ps : List Part) (d : Dev) : Only rs ps d d := by
  refine ⟨fun _ _ _ => rfl, fun p _ _ => ?_⟩
  cases p with
  | reg n => exact fun _ _ _ => rfl
  | coreStore | clusterStore | imem | hbm => exact fun _ => rfl
  | _ => rfl

theorem mono {rs' : List RegKey} {ps' : List Part} (h : Only rs ps d e) (hr : ∀ k ∈ rs, k ∈ rs' ∨ Part.reg k.name ∈ ps')
    (hp : ∀ p ∈ ps, p ∈ ps') : Only rs' ps' d e := by
  obtain ⟨hregs, hparts⟩ := h
  refine ⟨fun k hk hkp => hregs k (fun hm => (hr k hm).elim hk hkp) fun hm => hkp (hp _ hm), fun p hpp hn => ?_⟩
  exact hparts p (fun hm => hpp (hp p hm)) hn

/-- A register that the frame lists is stored; where the Ephemeris follows it, the frame lists the Ephemeris. -/
theorem setReg (h : Only rs ps d e) {k : RegKey} {v : Word} (hk : k ∈ rs ∨ Part.reg k.name ∈ ps)
    (he : k.name.journalled = false ∨ Part.eph ∈ ps) : Only rs ps d (e.setReg k v) := by
  obtain ⟨hregs, hparts⟩ := h
  refine ⟨fun k' hk' hp => ?_, fun p hp hn => ?_⟩
  · have hne : k' ≠ k := fun he => hk.elim (he ▸ hk') (he ▸ hp)
    rw [Dev.reg_setReg_ne e v hne, hregs k' hk' hp]
  · cases p with
    | reg n => exact absurd rfl (hn n)
    | eph =>
      have hj : k.name.journalled = false := he.resolve_right hp
      exact (Dev.setReg_eph_of_not_journalled hj).trans (hparts _ hp hn)
    | _ => exact hparts _ hp hn

theorem sf (h : Only rs ps d e) {f : Fld} {v u i j : Nat} (hk : ⟨f.reg, u, i, j⟩ ∈ rs ∨ Part.reg f.reg ∈ ps)
    (he : f.reg.journalled = false ∨ Part.eph ∈ ps) : Only rs ps d (e.sf f v u i j) := h.setReg hk he

theorem bump (h : Only rs ps d e) {f sat : Fld} {n u i j : Nat} (hs : sat.reg = f.reg)
    (hk : ⟨f.reg, u, i, j⟩ ∈ rs ∨ Part.reg f.reg ∈ ps) (he : f.reg.journalled = false ∨ Part.eph ∈ ps) :
    Only rs ps d (e.bump f sat n u i j) := by
  unfold Dev.bump
  extract_lets m x
  split
  · exact (h.sf hk he).sf (hs ▸ hk) (hs ▸ he)
  · exact h.sf hk he

/-- An update of parts that the frame lists. -/
theorem other (h : Only rs ps d e) {e' : Dev} (hr : e'.regs = e.regs)
    (hp : ∀ p, p ∉ ps → (∀ n, p ≠ .reg n) → p.same e e') : Only rs ps d e' := by
  obtain ⟨hregs, hparts⟩ := h
  refine ⟨fun k hk hkp => ?_, fun p hpp hn => ?_⟩
  · rw [← hregs k hk hkp, Dev.reg, Dev.reg, hr]
  · have h₁ := hparts p hpp hn
    have h₂ := hp p hpp hn
    cases p with
    | reg n => exact absurd rfl (hn n)
    | coreStore | clusterStore | imem | hbm => exact fun a => (h₂ a).trans (h₁ a)
    | _ => exact Eq.trans h₂ h₁

theorem log (h : Only rs ps d e) (hp : Part.log ∈ ps) {l} : Only rs ps d { e with log := l } := by
  refine h.other rfl fun p hn hr => ?_
  cases p with
  | log => exact absurd hp hn
  | reg n => exact absurd rfl (hr n)
  | coreStore | clusterStore | imem | hbm => exact fun _ => rfl
  | _ => rfl

theorem answer (h : Only rs ps d e) (hp : Part.answer ∈ ps) {a} : Only rs ps d { e with answer := a } := by
  refine h.other rfl fun p hn hr => ?_
  cases p with
  | answer => exact absurd hp hn
  | reg n => exact absurd rfl (hr n)
  | coreStore | clusterStore | imem | hbm => exact fun _ => rfl
  | _ => rfl

theorem eph (h : Only rs ps d e) (hp : Part.eph ∈ ps) {x} : Only rs ps d { e with eph := x } := by
  refine h.other rfl fun p hn hr => ?_
  cases p with
  | eph => exact absurd hp hn
  | reg n => exact absurd rfl (hr n)
  | coreStore | clusterStore | imem | hbm => exact fun _ => rfl
  | _ => rfl

/-! ### Reports -/

theorem report (h : Only rs ps d e) (hp : ∀ p ∈ logParts, p ∈ ps) {r : Report} : Only rs ps d (e.report r) := by
  have hlog : Part.log ∈ ps := hp _ (by simp [logParts])
  have hdrop : Part.reg .LOG_DROPPED ∈ ps := hp _ (by simp [logParts])
  have hmon : Part.reg .SAFE_MON_STAT ∈ ps := hp _ (by simp [logParts])
  have hintake : ∀ {e : Dev} {r : Report}, Only rs ps d e → Only rs ps d (e.logIntake r) := by
    intro e r h
    unfold Dev.logIntake
    extract_lets l first x
    split
    · exact (h.log hlog).bump rfl (.inr hdrop) (.inl rfl)
    · exact h.log hlog
  unfold Dev.report
  extract_lets e₁ l d' l'
  have h₁ : Only rs ps d e₁ := by
    unfold e₁
    split
    · exact h.sf (.inr hmon) (.inl rfl)
    · exact h
  split
  · split
    · exact hintake h₁
    · exact h₁.log hlog
  · split
    · exact hintake h₁
    · exact (hintake h₁).log hlog

theorem logAt (h : Only rs ps d e) (hp : ∀ p ∈ logParts, p ∈ ps) {code die unit d0 d1 : Nat} :
    Only rs ps d (e.logAt code die unit d0 d1) := h.report hp

theorem logBoot (h : Only rs ps d e) (hp : ∀ p ∈ logParts, p ∈ ps)
    (hf : ⟨.BOOT_FW_STAT, 0, 0, 0⟩ ∈ rs ∨ Part.reg .BOOT_FW_STAT ∈ ps) (he : Part.eph ∈ ps) {code d0 d1 : Nat} :
    Only rs ps d (e.logBoot code d0 d1) := (h.sf hf (.inr he)).logAt hp

theorem storeSetting (h : Only rs ps d e) (hp : ∀ p ∈ cmdParts, p ∈ ps) {k : RegKey} : Only rs ps d (e.storeSetting k) := by
  have herr : Part.reg .EPH_ERR_CNT ∈ ps := hp _ (by simp [cmdParts])
  have hfw : Part.reg .BOOT_FW_STAT ∈ ps := hp _ (by simp [cmdParts])
  have heph : Part.eph ∈ ps := hp _ (by simp [cmdParts])
  have hlog : ∀ p ∈ logParts, p ∈ ps := fun p hm => hp p (by simp [cmdParts, hm])
  unfold Dev.storeSetting
  split
  · have h₁ : Only rs ps d (e.bump F.EPH_ERR_CNT.FULL_CNT F.EPH_ERR_CNT.FULL_SAT 1) := h.bump rfl (.inr herr) (.inr heph)
    exact h₁.logBoot hlog (.inr hfw) heph
  · exact h.eph heph

theorem keepSetting (h : Only rs ps d e) (hp : ∀ p ∈ cmdParts, p ∈ ps) {before : Dev} {k : RegKey} :
    Only rs ps d (before.keepSetting e k) := by
  unfold Dev.keepSetting
  split
  · exact h.storeSetting hp
  · exact h

end Only

end Sys2Proof.Machine
end

/-! PROOFS. O33: a register access by an offset of the register space. -/

section
namespace Sys2Proof.Machine

open Sys2Proof

theorem Only.gf {rs : List RegKey} {ps : List Part} {d e : Dev} (h : Only rs ps d e) {f : Fld} {u i j : Nat}
    (hr : ⟨f.reg, u, i, j⟩ ∉ rs) (hp : Part.reg f.reg ∉ ps) : e.gf f u i j = d.gf f u i j :=
  congrArg (getBits · f.hi f.lo) (h.1 _ hr hp)

/-- A register of a core's window is no register of a management core. -/
theorem isMcore_eq_false_of_coreOf {k : RegKey} {c : Nat} (h : coreOf k = some c) : isMcore k = false := by
  by_contra hm
  rw [Bool.not_eq_false] at hm
  have hname : k.name = .DBG_MCORE_m_CTRL ∨ k.name = .DBG_MCORE_m_TRACE := by
    simpa only [isMcore, Bool.or_eq_true, decide_eq_true_eq] using hm
  rcases hname with hname | hname <;> simp [coreOf, hname, RegName.info] at h

namespace Dev

variable {d : Dev}

/-! ### What refuses an access -/

theorem regRefusal_none {k : RegKey} (hstep : d.boot.step ≠ .failed ∨ isMdie k = true)
    (hm : (isMcore k && d.regServed k && !d.mcoreMay) = false) : d.regRefusal k = (0, d) := by
  have hf : (decide (d.boot.step = .failed) && !isMdie k) = false := by
    rcases hstep with h | h <;> simp [h]
  simp [regRefusal, hf, hm]

theorem regRefusal_failed {k : RegKey} (hstep : d.boot.step = .failed) (hk : isMdie k = false) :
    d.regRefusal k = (Code.BOOT_NOT_READY, d.logBoot Code.BOOT_NOT_READY k.offset 0) := by
  simp [regRefusal, hstep, hk]

theorem registerWrite_eq {o src code : Nat} {v : Word} {e : Dev} (h : d.storeAt o src d.self v = (code, e)) :
    d.registerWrite src o v = { e with answer := { code := code } } := by
  simp only [registerWrite, h]

theorem storeAt_of_served {o src dev : Nat} {v : Word} {k : RegKey} (h : RegKey.ofOffset o = some k)
    (hr : d.regRefusal k = (0, d)) : d.storeAt o src dev v = (0, d.writeReg k src dev v) := by
  simp [storeAt, h, regStore, hr]

theorem storeAt_of_refused {o src dev code : Nat} {v : Word} {k : RegKey} {e : Dev} (h : RegKey.ofOffset o = some k)
    (hr : d.regRefusal k = (code, e)) (hc : code ≠ 0) : d.storeAt o src dev v = (code, e) := by
  simp [storeAt, h, regStore, hr, hc]

/-! ### The write -/

/-- What lets a write through (R519, R564, R591, R4, R85). -/
theorem accepts_iff {k : RegKey} : d.accepts k = true ↔
    (d.boot.step ≠ .failed ∨ isMdie k = true) ∧ (isMcore k && d.regServed k && !d.mcoreMay) = false ∧ d.regServed k.home = true
      ∧ (d.started = false ∨ k.name.info.runtime = true) ∧ ∀ c, coreOf k = some c → d.copying c = false := by
  unfold accepts
  cases hc : coreOf k <;> simp [and_assoc, or_iff_not_imp_left]

theorem writeReg_of_accepts {k : RegKey} {src dev : Nat} {v : Word} (h : d.accepts k = true) :
    d.writeReg k src dev v = d.keepSetting (d.regWrite k src dev v) k.home := by
  obtain ⟨-, -, hserved, hrun, hcopy⟩ := accepts_iff.mp h
  have hr : (d.started && !k.name.info.runtime) = false := by rcases hrun with h | h <;> simp [h]
  unfold writeReg
  rw [if_neg (by simp [hserved]), if_neg (by simp [hr])]
  cases hc : coreOf k with
  | none => rfl
  | some c => simp [hcopy c hc]

theorem regWrite_of_plain {k : RegKey} {src dev : Nat} {v : Word} (h : plainReg k.name = true) :
    d.regWrite k src dev v = d.plainWrite k v := by
  obtain ⟨n, u, i, j⟩ := k
  cases n <;> cases h <;> rfl

/-- The registers that the keeping of a setting writes have no field that a write changes. -/
theorem readOnly_of_mem_cmdParts {n : RegName} (h : Part.reg n ∈ cmdParts) :
    n.home = n ∧ ∀ f ∈ n.fields, f.access = .ro ∨ f.access = .rc := by
  have hn : n = .EPH_ERR_CNT ∨ n = .BOOT_FW_STAT ∨ n = .LOG_DROPPED ∨ n = .SAFE_MON_STAT := by simpa [cmdParts, logParts] using h
  rcases hn with rfl | rfl | rfl | rfl <;> exact ⟨rfl, by decide⟩

/-- A plain register reads, after a write that is kept, as the write has left it. -/
theorem reg_keepSetting_plainWrite (k : RegKey) (v : Word) :
    (d.keepSetting (d.plainWrite k v) k.home).reg k = writeFields k.name noAction (d.reg k) (k.name.stored v) := by
  have hwrite : (d.plainWrite k v).reg k = writeFields k.name noAction (d.reg k) (k.name.stored v) := reg_setReg_self _ _ _
  by_cases hk : Part.reg k.name ∈ cmdParts
  · obtain ⟨hhome, hro⟩ := readOnly_of_mem_cmdParts hk
    have hsame : writeFields k.name noAction (d.reg k) (k.name.stored v) = d.reg k := writeFields_of_readOnly hro _ _
    have hk' : k.home = k := by simp [RegKey.home, hhome]
    have hkeep : d.keepSetting (d.plainWrite k v) k.home = d.plainWrite k v := by
      unfold keepSetting
      rw [if_neg]
      rw [hk', hwrite, hsame]
      simp
    rw [hkeep, hwrite]
  · have honly : Only [] cmdParts (d.plainWrite k v) (d.keepSetting (d.plainWrite k v) k.home) :=
      (Only.refl _ _ _).keepSetting fun _ h => h
    exact (honly.1 k List.not_mem_nil hk).trans hwrite

/-! ### The record of a refused write (R4) -/

theorem bump_log (f sat : Fld) (n u i j : Nat) : (d.bump f sat n u i j).log = d.log := by
  unfold bump
  extract_lets m x
  split <;> rfl

/-- What a report makes of the logbook hangs on the logbook and the time alone. -/
theorem log_report_congr {d e : Dev} (hlog : d.log = e.log) (hchrono : d.chrono = e.chrono) (r : Report) :
    (d.report r).log = (e.report r).log := by
  have hintake : ∀ {d e : Dev}, d.log = e.log → d.chrono = e.chrono → (d.logIntake r).log = (e.logIntake r).log := by
    intro d e hlog hchrono
    unfold logIntake
    rw [hlog, hchrono]
    dsimp only
    split
    · rw [bump_log, bump_log]
    · rfl
  have hfirst : ∀ d : Dev, (if codeClass r.code = 0xB then d.sf F.SAFE_MON_STAT.LAST_CODE r.code else d).log = d.log
      ∧ (if codeClass r.code = 0xB then d.sf F.SAFE_MON_STAT.LAST_CODE r.code else d).chrono = d.chrono := by
    intro d
    split <;> exact ⟨rfl, rfl⟩
  unfold report
  extract_lets d₁ l d₂ l₂ e₁ m e₂ m₂
  have hl : d₁.log = e₁.log := by rw [(hfirst d).1, (hfirst e).1, hlog]
  have hc : d₁.chrono = e₁.chrono := by rw [(hfirst d).2, (hfirst e).2, hchrono]
  have hi : (d₁.logIntake r).log = (e₁.logIntake r).log := hintake hl hc
  have hlm : l = m := hl
  have hlm₂ : l₂ = m₂ := hi
  clear_value l m l₂ m₂
  subst hlm hlm₂
  generalize l.open_.find? _ = found
  cases found with
  | some x =>
    dsimp only
    rw [hc]
    split
    · exact hi
    · rfl
  | none =>
    dsimp only
    split
    · exact hi
    · rfl

theorem gf_logBoot_lastCode {code d0 d1 : Nat} (h : code < 2 ^ 16) : (d.logBoot code d0 d1).gf F.BOOT_FW_STAT.LAST_CODE = code := by
  have hlog : Only [] logParts (d.sf F.BOOT_FW_STAT.LAST_CODE code) (d.logBoot code d0 d1) := (Only.refl _ _ _).logAt fun _ h => h
  rw [hlog.gf List.not_mem_nil (by decide), gf_sf_self _ _ _ _ _ _ (by decide) (by decide)]
  exact Nat.mod_eq_of_lt h

theorem log_logAt_congr {d e : Dev} (hlog : d.log = e.log) (hchrono : d.chrono = e.chrono) (hself : d.self = e.self)
    (code die unit d0 d1 : Nat) : (d.logAt code die unit d0 d1).log = (e.logAt code die unit d0 d1).log := by
  unfold logAt
  rw [hself]
  exact log_report_congr hlog hchrono _

theorem log_logBoot {code d0 d1 : Nat} : (d.logBoot code d0 d1).log = (d.logAt code dieM 0xFFFF d0 d1).log := by
  refine log_logAt_congr (d := d.sf F.BOOT_FW_STAT.LAST_CODE code) (sf_log _ _ _ _ _ _) (sf_chrono _ _ _ _ _ _) ?_ _ _ _ _ _
  exact gf_sf_of_reg_ne _ _ _ _ _ _ _ _ _ _ (by decide)

/-! ### The record of a write that the start's end has closed (R4) -/

/-- A refused write is noted in BOOT_REFUSED, and then reported. -/
theorem writeRefused_eq (k : RegKey) (src : Nat) (v : Word) : d.writeRefused k src v =
    ((d.sf F.BOOT_REFUSED.SOURCE src).sf F.BOOT_REFUSED.OFFSET k.offset).logBoot Code.BOOT_WRITE_REFUSED k.offset v.toNat := rfl

variable {k : RegKey} {src : Nat} {v : Word}

/-- The report of a refused write leaves BOOT_REFUSED as it is. -/
theorem gf_writeRefused {f : Fld} (hf : f.reg = .BOOT_REFUSED) : (d.writeRefused k src v).gf f
    = ((d.sf F.BOOT_REFUSED.SOURCE src).sf F.BOOT_REFUSED.OFFSET k.offset).gf f := by
  rw [writeRefused_eq]
  refine Only.gf (rs := [⟨.BOOT_FW_STAT, 0, 0, 0⟩]) (ps := .eph :: logParts)
    ((Only.refl _ _ _).logBoot (fun _ h => List.mem_cons_of_mem _ h) (.inl (by simp)) (by simp)) ?_ ?_
  · simp [hf]
  · simp [hf, logParts]

theorem gf_writeRefused_source (h : src < 16) : (d.writeRefused k src v).gf F.BOOT_REFUSED.SOURCE = src := by
  rw [gf_writeRefused rfl, gf_sf_of_disjoint _ _ _ _ _ _ _ _ _ _ (by decide) (by decide) (by decide),
    gf_sf_self _ _ _ _ _ _ (by decide) (by decide)]
  exact Nat.mod_eq_of_lt h

theorem gf_writeRefused_offset : (d.writeRefused k src v).gf F.BOOT_REFUSED.OFFSET = k.offset % 2 ^ 40 := by
  rw [gf_writeRefused rfl, gf_sf_self _ _ _ _ _ _ (by decide) (by decide)]
  rfl

theorem log_writeRefused : (d.writeRefused k src v).log
    = (d.logAt Code.BOOT_WRITE_REFUSED dieM 0xFFFF k.offset v.toNat).log := by
  rw [writeRefused_eq, log_logBoot]
  refine log_logAt_congr (by rw [sf_log, sf_log]) (by rw [sf_chrono, sf_chrono]) ?_ _ _ _ _ _
  unfold self
  rw [gf_sf_of_reg_ne _ _ _ _ _ _ _ _ _ _ (by decide), gf_sf_of_reg_ne _ _ _ _ _ _ _ _ _ _ (by decide)]

theorem only_writeRefused : Only [⟨.BOOT_REFUSED, 0, 0, 0⟩, ⟨.BOOT_FW_STAT, 0, 0, 0⟩] (.answer :: .eph :: logParts) d
    (d.writeRefused k src v) := by
  rw [writeRefused_eq]
  have hlog : ∀ p ∈ logParts, p ∈ Part.answer :: .eph :: logParts := fun p h => List.mem_cons_of_mem _ (List.mem_cons_of_mem _ h)
  exact (((Only.refl _ _ _).sf (.inl (by decide)) (.inl rfl)).sf (.inl (by decide)) (.inl rfl)).logBoot hlog (.inl (by simp)) (by simp)

/-! ### The read -/

theorem loadAt_of_served {o : Nat} (h : RegKey.ofOffset o = some k) (hr : d.regRefusal k = (0, d)) :
    d.loadAt o = (0, d.readReg k) := by
  simp [loadAt, h, regLoad, hr]

theorem registerRead_eq {o code : Nat} {e : Dev} (hheld : d.heldReg o = none) (h : d.loadAt o = (code, v, e)) :
    d.registerRead o = { e with answer := { code := code, value := v } } := by
  simp only [registerRead, hheld, h]

/-- A read of a register that answers, on which no other action hangs: its fields are shown, and the RC ones return. -/
theorem readReg_of_served (hhome : k.home = k) (hserved : d.regServed k = true) (hclaim : k.name ≠ .INT_TGT_t_CLAIM)
    (hm : isMcore k = false) : d.readReg k
      = (readView k.name (d.shown k), if k.name.hasRc then d.setReg k (afterRead k (d.reg k)) else d) := by
  have htrace : k.name ≠ .DBG_MCORE_m_TRACE := fun h => by simp [isMcore, h] at hm
  unfold readReg
  rw [hhome, if_neg (by simp [hserved]), if_neg hclaim, if_neg htrace]

theorem heldReg_eq_some {o c : Nat} (h : d.heldReg o = some (k, c)) :
    RegKey.ofOffset o = some k ∧ coreOf k = some c ∧ d.copying c = true := by
  unfold heldReg at h
  obtain ⟨k', hk', h⟩ := Option.bind_eq_some_iff.mp h
  obtain ⟨c', hc', h⟩ := Option.map_eq_some_iff.mp h
  cases h
  obtain ⟨hc, hcopy⟩ := Option.filter_eq_some_iff.mp hc'
  exact ⟨hk', hc, hcopy⟩

end Dev

/-! ### The clauses -/

variable {d : Dev} {k : RegKey} {v : Word}

theorem registerWrite_plain {src o : Nat} (ho : RegKey.ofOffset o = some k) (hplain : plainReg k.name = true)
    (hacc : d.accepts k = true) : d.registerWrite src o v = { d.keepSetting (d.plainWrite k v) k.home with answer := {} } := by
  obtain ⟨hstep, hm, -⟩ := Dev.accepts_iff.mp hacc
  rw [Dev.registerWrite_eq (Dev.storeAt_of_served ho (Dev.regRefusal_none hstep hm)), Dev.writeReg_of_accepts hacc,
    Dev.regWrite_of_plain hplain]

theorem did_plainWrite : Dev.did [k] [] d { d.keepSetting (d.plainWrite k v) k.home with answer := {} } := by
  have hcmd : ∀ p ∈ cmdParts, p ∈ [] ++ cmdParts := fun _ h => h
  refine ⟨rfl, Only.answer ?_ (by decide)⟩
  exact ((Only.refl _ _ _).setReg (.inl (by simp)) (.inr (by decide))).keepSetting hcmd

theorem registerWrite_noRegister {src o : Nat} (ho : RegKey.ofOffset o = none) (hspare : isSpareOffset o = false) :
    d.registerWrite src o v = { d.noRegister o with answer := { code := Code.GAS_ADDR_ERROR } } :=
  Dev.registerWrite_eq (by simp [Dev.storeAt, ho, hspare])

theorem registerWrite_spare {src o : Nat} (ho : RegKey.ofOffset o = none) (hspare : isSpareOffset o = true) :
    d.registerWrite src o v = { d with answer := {} } :=
  Dev.registerWrite_eq (by simp [Dev.storeAt, ho, hspare])

theorem registerWrite_failed {src o : Nat} (ho : RegKey.ofOffset o = some k) (hstep : d.boot.step = .failed)
    (hk : isMdie k = false) : d.registerWrite src o v
      = { d.logBoot Code.BOOT_NOT_READY k.offset 0 with answer := { code := Code.BOOT_NOT_READY } } :=
  Dev.registerWrite_eq (Dev.storeAt_of_refused ho (Dev.regRefusal_failed hstep hk) (by decide))

/-- A write to a core under copy waits for the copy's end. -/
theorem registerWrite_held {src o c : Nat} (hheld : d.heldReg o = some (k, c)) (hserved : d.regServed k.home = true)
    (hrun : d.started = false ∨ k.name.info.runtime = true) (hstep : d.boot.step ≠ .failed) :
    d.registerWrite src o v = { d.hold c (.write k src d.self v) with answer := {} } := by
  obtain ⟨ho, hcore, hcopy⟩ := Dev.heldReg_eq_some hheld
  have hm : isMcore k = false := isMcore_eq_false_of_coreOf hcore
  have hr : (d.started && !k.name.info.runtime) = false := by rcases hrun with h | h <;> simp [h]
  have hwrite : d.writeReg k src d.self v = d.hold c (.write k src d.self v) := by
    unfold Dev.writeReg
    rw [if_neg (by simp [hserved]), if_neg (by simp [hr]), hcore]
    exact if_pos hcopy
  rw [Dev.registerWrite_eq (Dev.storeAt_of_served ho (Dev.regRefusal_none (.inl hstep) (by simp [hm]))), hwrite]

theorem registerRead_served {o : Nat} (ho : RegKey.ofOffset o = some k) (hhome : k.home = k) (hserved : d.regServed k = true)
    (hstep : d.boot.step ≠ .failed) (hm : isMcore k = false) (hclaim : k.name ≠ .INT_TGT_t_CLAIM) (hheld : d.heldReg o = none) :
    d.registerRead o = { (if k.name.hasRc then d.setReg k (afterRead k (d.reg k)) else d) with
      answer := { code := 0, value := readView k.name (d.shown k) } } := by
  have hrefusal : d.regRefusal k = (0, d) := Dev.regRefusal_none (.inl hstep) (by simp [hm])
  rw [Dev.registerRead_eq hheld ((Dev.loadAt_of_served ho hrefusal).trans
    (by rw [Dev.readReg_of_served hhome hserved hclaim hm]))]

theorem registerRead_unserved {o : Nat} (ho : RegKey.ofOffset o = some k) (hserved : d.regServed k.home = false)
    (hstep : d.boot.step ≠ .failed) (hm : isMcore k = false) (hheld : d.heldReg o = none) :
    d.registerRead o = { d with answer := {} } := by
  have hrefusal : d.regRefusal k = (0, d) := Dev.regRefusal_none (.inl hstep) (by simp [hm])
  have hread : d.readReg k = (0, d) := if_pos (by simp [hserved])
  exact Dev.registerRead_eq hheld ((Dev.loadAt_of_served ho hrefusal).trans (by rw [hread]))

/-- What a read leaves in the register: its RC fields at their reset value, the others as they were. -/
theorem getBits_reg_afterRead {f : Field} (hf : f ∈ k.name.fields) :
    getBits ((if k.name.hasRc then d.setReg k (afterRead k (d.reg k)) else d).reg k) f.hi f.lo
      = if f.access = .rc then fieldReset k f % 2 ^ (f.hi + 1 - f.lo) else getBits (d.reg k) f.hi f.lo := by
  cases hrc : k.name.hasRc with
  | true => rw [if_pos rfl, Dev.reg_setReg_self, getBits_afterRead _ hf]
  | false => rw [if_neg Bool.false_ne_true, if_neg (access_ne_rc_of_not_hasRc hrc hf)]

theorem only_afterRead : Only [k] [.answer, .eph] d (if k.name.hasRc then d.setReg k (afterRead k (d.reg k)) else d) := by
  split
  · exact (Only.refl _ _ _).setReg (.inl (by simp)) (.inr (by simp))
  · exact Only.refl _ _ _

/-- Settles O33, clause by clause: the access is computed first, and then read field by field. -/
theorem registerAccess : Obligations.RegisterAccess := by
  refine ⟨fun src o v k => ?plain, fun src o v k => ?refused, fun src o v => ?none, fun src o v => ?spare,
    fun src o v k => ?failed, fun o k => ?read, fun o k => ?unserved, fun o k c => ?readHeld, fun src o v k c => ?writeHeld⟩
  case plain =>
    refine .of_upd (f := fun d => d.registerWrite src o v) (fun _ => rfl) fun d ⟨ho, hplain, hacc⟩ => ?_
    rw [registerWrite_plain ho hplain hacc]
    have hreg := Dev.reg_keepSetting_plainWrite (d := d) k v
    refine ⟨fun f hf => ?_, fun b _ hb => ?_, did_plainWrite⟩
    · show getBits ((d.keepSetting (d.plainWrite k v) k.home).reg k) f.hi f.lo = _
      rw [hreg, getBits_writeFields _ _ hf]
      cases f.access <;> rfl
    · show getBits ((d.keepSetting (d.plainWrite k v) k.home).reg k) b b = _
      rw [hreg, getBits_writeFields_of_outside _ _ hb]
  case refused =>
    refine .of_upd (f := fun d => d.registerWrite src o v) (fun _ => rfl) fun d ⟨ho, hserved, hstarted, hrun, hstep, hm⟩ => ?_
    have hrefusal : d.regRefusal k = (0, d) := Dev.regRefusal_none (.inl hstep) (by simp [hm])
    have hwrite : d.writeReg k src d.self v = d.writeRefused k src v := by
      unfold Dev.writeReg
      rw [if_neg (by simp [hserved]), if_pos (by simp [hstarted, hrun])]
    rw [Dev.registerWrite_eq (Dev.storeAt_of_served ho hrefusal), hwrite]
    exact ⟨Dev.gf_writeRefused_source (by omega), Dev.gf_writeRefused_offset, Dev.gf_logBoot_lastCode (by decide),
      Dev.log_writeRefused, rfl, Dev.only_writeRefused.answer (by decide)⟩
  case none =>
    refine .of_upd (f := fun d => d.registerWrite src o v) (fun _ => rfl) fun d ⟨ho, hspare⟩ => ?_
    rw [registerWrite_noRegister ho hspare]
    exact ⟨rfl, ((Only.refl _ _ _).logAt fun _ h => List.mem_cons_of_mem _ h).answer (by decide)⟩
  case spare =>
    refine .of_upd (f := fun d => d.registerWrite src o v) (fun _ => rfl) fun d ⟨ho, hspare⟩ => ?_
    rw [registerWrite_spare ho hspare]
    exact ⟨rfl, (Only.refl _ _ _).answer (by decide)⟩
  case failed =>
    refine .of_upd (f := fun d => d.registerWrite src o v) (fun _ => rfl) fun d ⟨ho, hstep, hk⟩ => ?_
    rw [registerWrite_failed ho hstep hk]
    exact ⟨rfl, ((Only.refl _ _ _).logBoot (fun _ h => List.mem_cons_of_mem _ (List.mem_cons_of_mem _ h)) (.inl (by decide))
      (by decide)).answer (by decide)⟩
  case read =>
    refine .of_upd (f := fun d => d.registerRead o) (fun _ => rfl) fun d ⟨ho, hhome, hserved, hstep, hm, hclaim, hheld⟩ => ?_
    rw [registerRead_served ho hhome hserved hstep hm hclaim hheld]
    exact ⟨rfl, fun f hf => getBits_readView _ hf, fun b _ hb => getBits_assemble_of_outside _ hb,
      fun f hf => getBits_reg_afterRead hf, only_afterRead.answer (by decide)⟩
  case unserved =>
    refine .of_upd (f := fun d => d.registerRead o) (fun _ => rfl) fun d ⟨ho, hserved, hstep, hm, hheld⟩ => ?_
    rw [registerRead_unserved ho hserved hstep hm hheld]
    exact ⟨rfl, (Only.refl _ _ _).answer (by decide)⟩
  case readHeld =>
    refine .of_upd (f := fun d => d.registerRead o) (fun _ => rfl) fun d hheld => ?_
    simp only [Dev.registerRead, hheld]
  case writeHeld =>
    refine .of_upd (f := fun d => d.registerWrite src o v) (fun _ => rfl) fun d ⟨hheld, hserved, hrun, hstep⟩ => ?_
    exact registerWrite_held hheld hserved hrun hstep

end Sys2Proof.Machine
end

/-! PROOFS. What a start holds and the units do not touch: `Aside s d` says that `d` has the boot state, the First Light on
demand and the registers of `stepReg` as `s` has them. Ports, faces, the router, the collectives and the notices keep it, and
each of their functions that a start goes through has one lemma here, under the name of the function. -/

section
namespace Sys2Proof.Machine

open Sys2Proof

/-- Registers that the steps of a start write and read, and no function of a port, a face or a collective writes. -/
def stepReg : RegName → Bool
  | .BOOT_STAT | .BOOT_LAST_START | .GAS_EPOCH | .DLK_DIE_k_INV | .DLK_LINK_n_STAT | .DLK_PKG_LEVEL | .SAFE_FL_STAT => true
  | _ => false

/-- What a start holds is in `d` as it is in `s`. -/
structure Aside (s d : Dev) : Prop where
  boot : d.boot = s.boot
  firstLight : d.safe.firstLight = s.safe.firstLight
  unplanned : d.safe.unplanned = s.safe.unplanned
  reg : ∀ k : RegKey, stepReg k.name = true → d.reg k = s.reg k

namespace Aside

variable {s d : Dev}

theorem refl (d : Dev) : Aside d d := ⟨rfl, rfl, rfl, fun _ _ => rfl⟩

theorem gf {f : Fld} {u i j : Nat} (hf : stepReg f.reg = true) (h : Aside s d) : d.gf f u i j = s.gf f u i j :=
  congrArg (getBits · f.hi f.lo) (h.reg _ hf)

/-- An update of the parts that a start does not hold. -/
theorem other (h : Aside s d) {chrono freeIx answer log cores engines swaps unspecCore unspecCluster unspecImem coreStore
    clusterStore imem injected inside held rates listed suspects reqs dseqs nextMsg collq colls power eph occulted hbm mem gas
    fab ports time dlk hlk int sec rootKeyId mgmt} :
    Aside s { regs := d.regs, boot := d.boot, safe := d.safe, chrono, freeIx, answer, log, cores, engines, swaps
              unspecCore, unspecCluster, unspecImem, coreStore, clusterStore, imem, injected, inside, held, rates, listed
              suspects, reqs, dseqs, nextMsg, collq, colls, power, eph, occulted, hbm, mem, gas, fab, ports, time, dlk, hlk
              int, sec, rootKeyId, mgmt } :=
  ⟨h.boot, h.firstLight, h.unplanned, h.reg⟩

theorem setReg {k : RegKey} {v : Word} (hk : stepReg k.name = false) (h : Aside s d) :
    Aside s (d.setReg k v) := by
  refine ⟨h.boot, h.firstLight, h.unplanned, fun k' hk' => ?_⟩
  have hne : k' ≠ k := fun he => Bool.false_ne_true (hk.symm.trans (he ▸ hk'))
  rw [Dev.reg_setReg_ne d v hne, h.reg k' hk']

theorem sf {f : Fld} {v u i j : Nat} (hf : stepReg f.reg = false) (h : Aside s d) : Aside s (d.sf f v u i j) :=
  h.setReg hf

theorem incr {f : Fld} {n u i j : Nat} (hf : stepReg f.reg = false) (h : Aside s d) : Aside s (d.incr f n u i j) :=
  h.sf hf

theorem ite {c : Prop} [Decidable c] {a b : Dev} (ha : Aside s a) (hb : Aside s b) : Aside s (if c then a else b) := by
  split
  · exact ha
  · exact hb

theorem foldl {α : Type} {f : Dev → α → Dev} {l : List α} (h : Aside s d)
    (hf : ∀ d x, Aside s d → Aside s (f d x)) : Aside s (l.foldl f d) :=
  List.foldlRecOn l f h fun e he x _ => hf e x he

theorem bump {f sat : Fld} {n u i j : Nat} (hf : stepReg f.reg = false) (hs : stepReg sat.reg = false)
    (h : Aside s d) : Aside s (d.bump f sat n u i j) := by
  unfold Dev.bump
  exact .ite ((h.sf hf).sf hs) (h.sf hf)

theorem raise (h : Aside s d) {n : Nat} : Aside s (d.raise n) := h.setReg rfl

theorem logIntake (h : Aside s d) {r : Report} : Aside s (d.logIntake r) := by
  unfold Dev.logIntake
  exact .ite (h.other.bump rfl rfl) h.other

theorem report (h : Aside s d) {r : Report} : Aside s (d.report r) := by
  unfold Dev.report
  extract_lets d₁ _ _ _
  have h₁ : Aside s d₁ := .ite (h.sf rfl) h
  split
  · exact .ite h₁.logIntake h₁.other
  · exact .ite h₁.logIntake h₁.logIntake.other

theorem logAt (h : Aside s d) {code die unit d0 d1 : Nat} : Aside s (d.logAt code die unit d0 d1) := h.report

theorem logXfb (h : Aside s d) {code face slot dev cnt : Nat} : Aside s (d.logXfb code face slot dev cnt) := h.logAt

theorem send (h : Aside s d) {p : Packet} : Aside s (d.send p) := by
  unfold Dev.send
  exact .ite h.other (.ite h.other h.other)

theorem setTableEntry (h : Aside s d) {b k t v : Nat} : Aside s (d.setTableEntry b k t v) := h.setReg rfl

theorem fillTables (h : Aside s d) : Aside s (d.fillTables) := by
  unfold Dev.fillTables
  extract_lets d₁
  have h₁ : Aside s d₁ := .foldl h fun _ _ h' => .foldl h' fun _ _ h' => .foldl h' fun _ _ h => h.setTableEntry
  exact .foldl h₁ fun _ _ h' => .foldl h' fun _ _ h => h.setReg rfl

theorem takeMsg (h : Aside s d) : Aside s (d.takeMsg).2 := h.other

theorem stripe (h : Aside s d) {m : HlkMsg} : Aside s (d.stripe m) := by
  unfold Dev.stripe
  split
  · exact h
  · exact .foldl h fun _ _ h => h.other

theorem hlkOut (h : Aside s d) {m : HlkMsg} : Aside s (d.hlkOut m) := h.other.stripe.incr rfl

theorem sendHello (h : Aside s d) : Aside s (d.sendHello) := h.hlkOut

theorem setPhys (h : Aside s d) {k l p : Nat} : Aside s (d.setPhys k l p) := h.setReg rfl

theorem setCollSlot (h : Aside s d) {n : Nat} {x : CollSlot} : Aside s (d.setCollSlot n x) := h.other

theorem setRunOf (h : Aside s d) {n : Nat} {r : Option CollRun} : Aside s (d.setRunOf n r) := h.setCollSlot

theorem logColl (h : Aside s d) {code n inst : Nat} {suspect : Option Nat} :
    Aside s (d.logColl code n inst suspect) := h.report

theorem sendColl (h : Aside s d) {p : Packet} : Aside s (d.sendColl p) := h.takeMsg.send

theorem closeSlot (h : Aside s d) {n code : Nat} : Aside s (d.closeSlot n code) := (h.sf rfl).sf rfl

theorem sendMarker (h : Aside s d) {n num : Nat} {y : CollDesc} {kind value origin : Nat} :
    Aside s (d.sendMarker n num y kind value origin) := by
  unfold Dev.sendMarker
  exact .foldl h fun _ _ h => h.sendColl

theorem dropColl (h : Aside s d) {n : Nat} {i : CollInst} : Aside s (d.dropColl n i) := h.other

theorem collStop (h : Aside s d) {n code : Nat} {suspect : Option Nat} : Aside s (d.collStop n code suspect) := by
  unfold Dev.collStop
  split
  · exact h
  · split
    · exact .ite h (.ite (.ite h.setRunOf h) h.setRunOf.logColl)
    · exact (h.setRunOf.dropColl.sf rfl).logColl.raise

theorem collAbort (h : Aside s d) {n code : Nat} {suspect : Option Nat} : Aside s (d.collAbort n code suspect) := by
  unfold Dev.collAbort
  split
  · exact h
  · split
    · exact h.collStop
    · exact h.sendMarker.collStop

theorem loseMember (h : Aside s d) {dev : Nat} {lost : Nat → Bool} : Aside s (d.loseMember dev lost) := by
  unfold Dev.loseMember
  refine .foldl h fun _ _ h => ?_
  split
  · split
    · exact .ite h.collAbort h.collStop
    · exact h.closeSlot.logColl
  · exact h

theorem homeCoreLost (h : Aside s d) {c : Nat} : Aside s (d.homeCoreLost c) := h.loseMember

theorem putFace (h : Aside s d) {f : Nat} {p : Packet} : Aside s (d.putFace f p) := h.other

theorem faceTake (h : Aside s d) {f : Nat} {it : OptItem} : Aside s (d.faceTake f it) := by
  unfold Dev.faceTake
  extract_lets _ _
  split
  · exact h.other
  · exact .ite h (.ite h.other h.other)

theorem setCircuits (h : Aside s d) {l : List Circuit} : Aside s (d.setCircuits l) := h.other.sf rfl

theorem transitTearOut (h : Aside s d) {n : Nat} : Aside s (d.transitTearOut n) := by
  unfold Dev.transitTearOut
  extract_lets _ _ _
  split
  · exact .ite h.setCircuits h.setCircuits.putFace
  · exact h

theorem transitBroken (h : Aside s d) {id : Nat} : Aside s (d.transitBroken id) := by
  unfold Dev.transitBroken
  split
  · exact .ite ((h.sf rfl).sf rfl).logXfb.raise.transitTearOut h
  · exact h

theorem breakTransits (h : Aside s d) {f : Nat} : Aside s (d.breakTransits f) := by
  unfold Dev.breakTransits
  extract_lets _ d₁
  have h₁ : Aside s d₁ := .foldl h fun _ _ h => .ite h.transitBroken h.send
  exact .foldl h₁ fun _ _ h => .ite h.setCircuits h.setCircuits.putFace

theorem pullBack (h : Aside s d) {f : Nat} : Aside s (d.pullBack f) := h.other

theorem faceFall (h : Aside s d) {f : Nat} : Aside s (d.faceFall f) := by
  unfold Dev.faceFall
  exact .ite (h.sf rfl).logXfb.raise.pullBack.breakTransits h

theorem portsChanged (h : Aside s d) {f n : Nat} : Aside s (d.portsChanged f n) := by
  unfold Dev.portsChanged
  extract_lets _ _
  exact .ite (h.sf rfl).faceFall (.ite (h.sf rfl).logXfb (h.sf rfl))

theorem discover (h : Aside s d) {f : Nat} : Aside s (d.discover f) := h.putFace

theorem discoverAll (h : Aside s d) : Aside s (d.discoverAll) := by
  unfold Dev.discoverAll
  exact .foldl h fun _ _ h => .ite h.discover h

theorem resetParts (h : Aside s d) : Aside s (d.resetParts) := by
  unfold Dev.resetParts
  exact .foldl h fun _ _ h => h.setReg rfl

theorem dropFlat (h : Aside s d) : Aside s (d.dropFlat) := by
  unfold Dev.dropFlat
  exact .foldl h fun _ _ h => .ite h.faceFall h

theorem setCoords (h : Aside s d) {index dims source : Nat} : Aside s (d.setCoords index dims source) := by
  unfold Dev.setCoords
  extract_lets d₁ d₂ key d₃ same lost fab d₄ d₅
  have hkey : stepReg key.name = false := rfl
  have h₄ : Aside s d₄ := (((((h.sf rfl).sf rfl).sf rfl).sf rfl).setReg hkey).other
  have h₅ : Aside s d₅ := h₄.ite (.fillTables (.ite h₄.resetParts h₄))
  exact .discoverAll (.dropFlat (.ite h₅.logXfb h₅))

theorem setPort (h : Aside s d) {p n : Nat} {x : OptPort} : Aside s (d.setPort p n x) := h.other

theorem modPort (h : Aside s d) {p n : Nat} {f : OptPort → OptPort} : Aside s (d.modPort p n f) := h.setPort

theorem noteHost (h : Aside s d) : Aside s (d.noteHost) := by
  unfold Dev.noteHost
  extract_lets _ _ _ _
  exact .ite (h.sf rfl) (.ite ((h.sf rfl).sf rfl).sendHello ((h.sf rfl).sf rfl))

theorem portStep (h : Aside s d) {p n : Nat} {st : OptStep} : Aside s (d.portStep p n st) := by
  unfold Dev.portStep
  exact .ite (h.modPort.sf rfl).noteHost (h.modPort.sf rfl)

theorem logOpt (h : Aside s d) {code p n ch stage d1 : Nat} : Aside s (d.logOpt code p n ch stage d1) := (h.sf rfl).logAt

theorem raiseOpt (h : Aside s d) {p e : Nat} : Aside s (d.raiseOpt p e) := h.raise

theorem setLaneCh (h : Aside s d) {p n : Nat} {tx : Bool} {l c : Nat} : Aside s (d.setLaneCh p n tx l c) := h.setReg rfl

theorem setLaser (h : Aside s d) {p n c st : Nat} : Aside s (d.setLaser p n c st) := h.sf rfl

theorem countSpares (h : Aside s d) {p n : Nat} : Aside s (d.countSpares p n) := (h.sf rfl).sf rfl

theorem lightOff (h : Aside s d) {p n : Nat} {cs : List Nat} : Aside s (d.lightOff p n cs) := by
  unfold Dev.lightOff
  exact .foldl h.modPort fun _ _ h => h.sf rfl

theorem optSend (h : Aside s d) {p n : Nat} {m : OptMsg} : Aside s (d.optSend p n m) := h.modPort

theorem sendCmd (h : Aside s d) {p n : Nat} {c : SwapCmd} {w : OptSwap} : Aside s (d.sendCmd p n c w) := h.optSend

theorem setPortUp (h : Aside s d) {p n : Nat} {b : Bool} : Aside s (d.setPortUp p n b) := by
  unfold Dev.setPortUp
  exact .ite (h.setReg rfl).portsChanged (h.setReg rfl)

theorem setHeadSwap (h : Aside s d) {p n : Nat} {w : OptSwap} : Aside s (d.setHeadSwap p n w) := h.modPort.sf rfl

theorem endSwap (h : Aside s d) {p n : Nat} : Aside s (d.endSwap p n) := h.modPort.sf rfl

theorem switchNow (h : Aside s d) {p n : Nat} : Aside s (d.switchNow p n) := by
  unfold Dev.switchNow
  split
  · exact .ite h (.ite (h.endSwap.sf rfl) (.ite
      (.ite (h.setHeadSwap.setLaneCh.sf rfl) (h.setHeadSwap.setLaneCh.sf rfl).setLaser)
      (.setLaser (.ite (h.setHeadSwap.setLaneCh.sf rfl) (h.setHeadSwap.setLaneCh.sf rfl).setLaser))))
  · exact h

theorem recalibrate (h : Aside s d) {p n ch : Nat} {c : ChanCal} : Aside s (d.recalibrate p n ch c) := h.modPort

theorem swapRetire (h : Aside s d) {p n : Nat} {cal : Option ChanCal} : Aside s (d.swapRetire p n cal) := by
  unfold Dev.swapRetire
  split
  · split
    · exact h
    · extract_lets _ _
      split
      · exact h.lightOff.endSwap.logOpt.raiseOpt.countSpares
      · split
        · exact h.lightOff.endSwap.logOpt.raiseOpt.setLaser.countSpares
        · split
          · split
            · exact h.lightOff.endSwap.logOpt.raiseOpt.recalibrate.modPort
            · exact h.lightOff.endSwap.logOpt.raiseOpt.setLaser.logOpt.countSpares
          · exact h.lightOff.endSwap.logOpt.raiseOpt.setLaser.countSpares
  · exact h

theorem abortSwaps (h : Aside s d) {p n : Nat} : Aside s (d.abortSwaps p n) := by
  unfold Dev.abortSwaps
  extract_lets _ d₁ d₂
  have h₁ : Aside s d₁ := by
    unfold d₁
    split
    · exact .ite h (.ite h.lightOff.endSwap (.ite (.endSwap (.sendCmd (.lightOff (.ite h.setLaser h))))
        (.swapRetire (.ite h.switchNow h))))
    · exact h
  have h₂ : Aside s d₂ := .foldl h₁ fun _ _ h => .ite (.ite h.setLaser h) h
  exact h₂.modPort.sf rfl

theorem portLeave (h : Aside s d) {p n : Nat} : Aside s (d.portLeave p n) := by
  unfold Dev.portLeave
  exact .ite h (.setPortUp (.portStep (.sf rfl (.ite h.logOpt.raiseOpt.abortSwaps.modPort.faceTake
    h.logOpt.raiseOpt.abortSwaps.modPort))))

theorem collimate (h : Aside s d) {p : Nat} {full : Bool} : Aside s (d.collimate p full) := by
  unfold Dev.collimate
  extract_lets _
  exact .foldl (h.sf rfl) fun _ _ h => .ite h.portLeave.abortSwaps.portStep h

theorem noticeCopy (h : Aside s d) {root kind dev count epoch : Nat} :
    Aside s (d.noticeCopy root kind dev count epoch) := by
  unfold Dev.noticeCopy
  exact .foldl h fun _ _ h => h.send

theorem broadcast (h : Aside s d) {kind dev : Nat} : Aside s (d.broadcast kind dev) := by
  unfold Dev.broadcast
  extract_lets _ _ _ d₁
  have h₁ : Aside s d₁ := ⟨h.boot, h.firstLight, h.unplanned, h.reg⟩
  exact .ite h h₁.noticeCopy

theorem coreOut (h : Aside s d) {c : Nat} : Aside s (d.coreOut c) := by
  unfold Dev.coreOut
  extract_lets p
  have h₁ : Aside s { d with safe := { d.safe with phys := NMap.set 7 d.safe.phys c p } } :=
    ⟨h.boot, h.firstLight, h.unplanned, h.reg⟩
  exact .ite h₁.setPhys.homeCoreLost h

theorem occRecord (h : Aside s d) {code die unit cause : Nat} :
    Aside s (d.occRecord code die unit cause) := h.logAt.raise

end Aside

end Sys2Proof.Machine
end

/-! PROOFS. What an update leaves as it was, read off its frame, and how folds of updates read. -/

section
namespace Sys2Proof.Machine

open Sys2Proof

/-! ### Folds -/

/-- What the step for `x` brings about under an invariant, and every other step leaves, holds once `x` has been gone through. -/
theorem foldl_of_mem {α β : Type} {f : β → α → β} {Q P : β → Prop} {x : α} {l : List α} (hx : x ∈ l)
    (hinv : ∀ b y, Q b → Q (f b y)) (hset : ∀ b, Q b → P (f b x)) (hkeep : ∀ b y, y ≠ x → P b → P (f b y)) {b : β} (hb : Q b) :
    P (l.foldl f b) := by
  have hrest : ∀ (l : List α) (b : β), Q b → P b → P (l.foldl f b) := by
    intro l
    induction l with
    | nil => exact fun _ _ h => h
    | cons y l ih =>
      refine fun b hQ h => ih _ (hinv b y hQ) ?_
      by_cases hy : y = x
      · exact hy ▸ hset b hQ
      · exact hkeep b y hy h
  induction l generalizing b with
  | nil => cases hx
  | cons y l ih =>
    rcases List.mem_cons.mp hx with rfl | hm
    · exact hrest l _ (hinv b x hb) (hset b hb)
    · exact ih hm (hinv b y hb)

namespace Only

variable {rs : List RegKey} {ps : List Part} {d e : Dev}

theorem foldl {α : Type} {f : Dev → α → Dev} {l : List α} (h : Only rs ps d e)
    (hf : ∀ e, ∀ x ∈ l, Only rs ps d e → Only rs ps d (f e x)) : Only rs ps d (l.foldl f e) :=
  List.foldlRecOn l f h fun e he x hx => hf e x hx he

theorem trans {d' : Dev} (h : Only rs ps d d') (h' : Only rs ps d' e) : Only rs ps d e := by
  obtain ⟨hregs, hparts⟩ := h'
  refine ⟨fun k hk hkp => (hregs k hk hkp).trans (h.1 k hk hkp), fun p hp hn => ?_⟩
  have h₁ := h.2 p hp hn
  have h₂ := hparts p hp hn
  cases p with
  | reg n => exact absurd rfl (hn n)
  | coreStore | clusterStore | imem | hbm => exact fun a => (h₂ a).trans (h₁ a)
  | _ => exact Eq.trans h₂ h₁

theorem boot (h : Only rs ps d e) (hp : Part.boot ∈ ps) {x} : Only rs ps d { e with boot := x } := by
  refine h.other rfl fun p hn hr => ?_
  cases p with
  | boot => exact absurd hp hn
  | reg n => exact absurd rfl (hr n)
  | coreStore | clusterStore | imem | hbm => exact fun _ => rfl
  | _ => rfl

theorem sec (h : Only rs ps d e) (hp : Part.sec ∈ ps) {x} : Only rs ps d { e with sec := x } := by
  refine h.other rfl fun p hn hr => ?_
  cases p with
  | sec => exact absurd hp hn
  | reg n => exact absurd rfl (hr n)
  | coreStore | clusterStore | imem | hbm => exact fun _ => rfl
  | _ => rfl

theorem mem (h : Only rs ps d e) (hp : Part.mem ∈ ps) {x} : Only rs ps d { e with mem := x } := by
  refine h.other rfl fun p hn hr => ?_
  cases p with
  | mem => exact absurd hp hn
  | reg n => exact absurd rfl (hr n)
  | coreStore | clusterStore | imem | hbm => exact fun _ => rfl
  | _ => rfl

theorem dlk (h : Only rs ps d e) (hp : Part.dlk ∈ ps) {x} : Only rs ps d { e with dlk := x } := by
  refine h.other rfl fun p hn hr => ?_
  cases p with
  | dlk => exact absurd hp hn
  | reg n => exact absurd rfl (hr n)
  | coreStore | clusterStore | imem | hbm => exact fun _ => rfl
  | _ => rfl

theorem power (h : Only rs ps d e) (hp : Part.power ∈ ps) {x} : Only rs ps d { e with power := x } := by
  refine h.other rfl fun p hn hr => ?_
  cases p with
  | power => exact absurd hp hn
  | reg n => exact absurd rfl (hr n)
  | coreStore | clusterStore | imem | hbm => exact fun _ => rfl
  | _ => rfl

end Only

namespace Dev

variable (d : Dev)

/-! ### Reports -/

theorem only_logAt (code die unit d0 d1 : Nat) : Only [] logParts d (d.logAt code die unit d0 d1) :=
  (Only.refl [] logParts d).logAt fun _ h => h

@[simp] theorem logAt_boot (code die unit d0 d1 : Nat) : (d.logAt code die unit d0 d1).boot = d.boot :=
  (d.only_logAt code die unit d0 d1).2 .boot (by decide) (by simp)

@[simp] theorem logAt_sec (code die unit d0 d1 : Nat) : (d.logAt code die unit d0 d1).sec = d.sec :=
  (d.only_logAt code die unit d0 d1).2 .sec (by decide) (by simp)

@[simp] theorem logAt_eph (code die unit d0 d1 : Nat) : (d.logAt code die unit d0 d1).eph = d.eph :=
  (d.only_logAt code die unit d0 d1).2 .eph (by decide) (by simp)

@[simp] theorem logAt_power (code die unit d0 d1 : Nat) : (d.logAt code die unit d0 d1).power = d.power :=
  (d.only_logAt code die unit d0 d1).2 .power (by decide) (by simp)

@[simp] theorem logAt_occulted (code die unit d0 d1 : Nat) : (d.logAt code die unit d0 d1).occulted = d.occulted :=
  (d.only_logAt code die unit d0 d1).2 .occulted (by decide) (by simp)

/-- A report leaves the fields of every register but the two of the logbook's own. -/
theorem gf_logAt (code die unit d0 d1 : Nat) {f : Fld} (u i j : Nat) (h : Part.reg f.reg ∉ logParts) :
    (d.logAt code die unit d0 d1).gf f u i j = d.gf f u i j :=
  (d.only_logAt code die unit d0 d1).gf (List.not_mem_nil) h

end Dev

end Sys2Proof.Machine
end

/-! PROOFS. O29, the identity. -/

section
namespace Sys2Proof.Machine

open Sys2Proof

namespace Dev

variable {d : Dev} {r : Option SecRecords} {x : IdSecret}

/-- The registers of the identity's KEY_ID. -/
def keyIdRegs : List RegKey := (List.range 6).map fun k => ⟨.SEC_ID_KEYID_k, 0, k, 0⟩

/-- The device with the words of a KEY_ID shown. -/
def showKeyId (d : Dev) (v : Nat) : Dev :=
  (List.range 6).foldl (fun d k => d.sf F.SEC_ID_KEYID_k.KEYID (v / 2 ^ (64 * k)) 0 k) d

theorem only_showKeyId (v : Nat) : Only keyIdRegs [] d (d.showKeyId v) :=
  (Only.refl _ _ d).foldl fun _ _ hk h => h.sf (.inl (List.mem_map_of_mem hk)) (.inl rfl)

theorem gf_showKeyId (v : Nat) {k : Nat} (hk : k < 6) :
    (d.showKeyId v).gf F.SEC_ID_KEYID_k.KEYID 0 k = v / 2 ^ (64 * k) % 2 ^ 64 :=
  foldl_of_mem (Q := fun _ => True) (List.mem_range.mpr hk) (fun _ _ h => h)
    (fun d _ => gf_sf_self d _ _ _ _ _ (by decide) (by decide))
    (fun d y hy h => (gf_sf_of_inst_ne d _ _ _ _ _ _ _ _ _ (by simp [Ne.symm hy])).trans h) trivial

/-- The device once the silicon's identity pair has been derived. -/
def identityRead (d : Dev) (r : Option SecRecords) (id : Option Nat) (x : Option IdSecret) : Dev :=
  { d.readRecords r with boot := { d.boot with identity := true }, sec := { d.sec with identity := id, secret := x } }

theorem only_identityRead (id : Option Nat) (s : Option IdSecret) : Only [] [.boot, .sec, .eph] d (d.identityRead r id s) :=
  (Only.refl _ _ d).other rfl fun p hn hr => by
    cases p with
    | boot | sec | eph => exact absurd (by decide) hn
    | reg n => exact absurd rfl (hr n)
    | coreStore | clusterStore | imem | hbm => exact fun _ => rfl
    | _ => rfl

theorem identityRead_boot (v : Option Nat) (y : Option IdSecret) :
    (d.identityRead r v y).boot = { d.boot with identity := true } := rfl

theorem identityRead_sec (v : Option Nat) (y : Option IdSecret) :
    (d.identityRead r v y).sec = { d.sec with identity := v, secret := y } := rfl

theorem identityRead_records (v : Option Nat) (y : Option IdSecret) :
    (d.identityRead r v y).eph.records = r.getD d.eph.records := rfl

theorem identityDone_of_agrees (hi : d.boot.identity = false) (hs : d.boot.step = .firmware)
    (hx : x = idSecret (r.getD d.eph.records).helper) (ha : (d.readRecords r).identityAgrees x.pair = true) :
    d.identityDone r = ((d.identityRead r (some x.pair.id) (some x)).sf F.SEC_STAT.IDENTITY 1).showKeyId x.pair.id := by
  subst hx
  exact (if_neg (by simp [hi, hs])).trans (if_pos ha)

theorem identityDone_of_not_agrees (hi : d.boot.identity = false) (hs : d.boot.step = .firmware)
    (hx : x = idSecret (r.getD d.eph.records).helper) (ha : (d.readRecords r).identityAgrees x.pair = false) :
    d.identityDone r = ((d.identityRead r none none).sf F.SEC_STAT.IDENTITY 2).logSec Code.SEC_IDENTITY_FAIL 0 0 := by
  subst hx
  exact (if_neg (by simp [hi, hs])).trans (if_neg fun h => Bool.false_ne_true (ha.symm.trans h))

end Dev

/-- The identity of the silicon is noted with its KEY_ID. -/
theorem completes_identityDone_of_agrees (k : Bool) (s : SecRecords) (r : Option SecRecords) (x : IdSecret) :
    Completes (.identityDone k s) (fun d => d.boot.identity = false ∧ d.boot.step = .firmware
        ∧ r = (if k then some s else none) ∧ x = idSecret (r.getD d.eph.records).helper
        ∧ (d.readRecords r).identityAgrees x.pair = true) fun d e =>
        e.boot = { d.boot with identity := true } ∧ e.sec = { d.sec with identity := some x.pair.id, secret := some x }
          ∧ e.eph.records = r.getD d.eph.records ∧ e.gf F.SEC_STAT.IDENTITY = 1
          ∧ (∀ k, k < 6 → e.gf F.SEC_ID_KEYID_k.KEYID 0 k = x.pair.id / 2 ^ (64 * k) % 2 ^ 64)
          ∧ Only (⟨.SEC_STAT, 0, 0, 0⟩ :: (List.range 6).map fun k => ⟨.SEC_ID_KEYID_k, 0, k, 0⟩) [.boot, .sec, .eph] d e := by
  refine .of_upd (f := fun d => d.identityDone (if k then some s else none)) (fun _ => rfl) fun d ⟨hi, hs, hr, hx, ha⟩ => ?_
  rw [← hr, Dev.identityDone_of_agrees hi hs hx ha]
  have hread := Dev.only_identityRead (d := d) (r := r) (some x.pair.id) (some x)
  have hboot := Dev.identityRead_boot (d := d) (r := r) (some x.pair.id) (some x)
  have hsec := Dev.identityRead_sec (d := d) (r := r) (some x.pair.id) (some x)
  have hrec := Dev.identityRead_records (d := d) (r := r) (some x.pair.id) (some x)
  generalize d.identityRead r (some x.pair.id) (some x) = m at hread hboot hsec hrec ⊢
  have hshow := (m.sf F.SEC_STAT.IDENTITY 1).only_showKeyId x.pair.id
  have heph : (m.sf F.SEC_STAT.IDENTITY 1).eph = m.eph := Dev.setReg_eph_of_not_journalled rfl
  refine ⟨(hshow.2 .boot (by decide) (by simp)).trans hboot, (hshow.2 .sec (by decide) (by simp)).trans hsec, ?_, ?_,
    fun k hk => Dev.gf_showKeyId _ hk, ?_⟩
  · rw [hshow.2 .eph (by decide) (by simp), heph, hrec]
  · rw [hshow.gf (by decide) (by decide)]
    exact Dev.gf_sf_self _ _ _ _ _ _ (by decide) (by decide)
  · exact ((hread.mono (by simp) (by simp)).sf (.inl (List.mem_cons_self ..)) (.inl rfl)).trans
      (hshow.mono (fun k hk => .inl (List.mem_cons_of_mem _ hk)) (by simp))

/-- The identity does not agree with its certificate, and the failure is noted. -/
theorem completes_identityDone_of_not_agrees (k : Bool) (s : SecRecords) (r : Option SecRecords) (x : IdSecret) :
    Completes (.identityDone k s) (fun d => d.boot.identity = false ∧ d.boot.step = .firmware
        ∧ r = (if k then some s else none) ∧ x = idSecret (r.getD d.eph.records).helper
        ∧ (d.readRecords r).identityAgrees x.pair = false) fun d e =>
        e.boot = { d.boot with identity := true } ∧ e.sec = { d.sec with identity := none, secret := none }
          ∧ e.eph.records = r.getD d.eph.records ∧ e.gf F.SEC_STAT.IDENTITY = 2
          ∧ e.gf F.SEC_STAT.LAST_CODE = Code.SEC_IDENTITY_FAIL
          ∧ Only [⟨.SEC_STAT, 0, 0, 0⟩] (.boot :: .sec :: .eph :: logParts) d e := by
  refine .of_upd (f := fun d => d.identityDone (if k then some s else none)) (fun _ => rfl) fun d ⟨hi, hs, hr, hx, ha⟩ => ?_
  rw [← hr, Dev.identityDone_of_not_agrees hi hs hx ha]
  have hread := Dev.only_identityRead (d := d) (r := r) none none
  have hboot := Dev.identityRead_boot (d := d) (r := r) none none
  have hsec := Dev.identityRead_sec (d := d) (r := r) none none
  have hrec := Dev.identityRead_records (d := d) (r := r) none none
  generalize d.identityRead r none none = m at hread hboot hsec hrec ⊢
  unfold Dev.logSec
  refine ⟨?_, ?_, ?_, ?_, ?_, ?_⟩
  · rw [Dev.logAt_boot, Dev.sf_boot, Dev.sf_boot, hboot]
  · rw [Dev.logAt_sec, Dev.sf_sec, Dev.sf_sec, hsec]
  · rw [Dev.logAt_eph, Dev.sf, Dev.setReg_eph_of_not_journalled rfl, Dev.sf, Dev.setReg_eph_of_not_journalled rfl, hrec]
  · simp (disch := decide) only [Dev.gf_logAt, Dev.gf_sf_of_disjoint]
    exact Dev.gf_sf_self _ _ _ _ _ _ (by decide) (by decide)
  · rw [Dev.gf_logAt _ _ _ _ _ _ _ _ _ (by decide)]
    exact Dev.gf_sf_self _ _ _ _ _ _ (by decide) (by decide)
  · refine Only.logAt ?_ fun p hp => by simp [hp]
    exact ((hread.mono (by simp) (by simp)).sf (.inl (by decide)) (.inl rfl)).sf (.inl (by decide)) (.inl rfl)

end Sys2Proof.Machine
end

/-! PROOFS. O29, the training of HBM and its zero fill. -/

section
namespace Sys2Proof.Machine

open Sys2Proof

namespace Dev

variable {d : Dev}

/-! ### Steps -/

@[simp] theorem setBoot_boot (st : BootStep) : (d.setBoot st).boot = { d.boot with step := st } := rfl

theorem setBoot_hbm (st : BootStep) : (d.setBoot st).hbm = d.hbm := by rw [setBoot, sf_hbm]

theorem only_setBoot (st : BootStep) : Only [⟨.BOOT_STAT, 0, 0, 0⟩] [.boot] d (d.setBoot st) :=
  ((Only.refl _ _ d).boot (by decide)).sf (.inl (by decide)) (.inl rfl)

theorem gf_setBoot_state (st : BootStep) : (d.setBoot st).gf F.BOOT_STAT.STATE = st.code := by
  have h : st.code % 2 ^ (F.BOOT_STAT.STATE.hi + 1 - F.BOOT_STAT.STATE.lo) = st.code := by cases st <;> rfl
  exact (gf_sf_self _ _ _ _ _ _ (by decide) (by decide)).trans h

theorem gf_setBoot (st : BootStep) {f : Fld} (u i j : Nat) (h : f.reg ≠ .BOOT_STAT) : (d.setBoot st).gf f u i j = d.gf f u i j :=
  d.only_setBoot st |>.gf (by simp [h]) (by simp)

theorem stepTo_of_not_coldNext (st : BootStep) (h : d.boot.coldNext = false) : d.stepTo st = d.setBoot st :=
  if_neg (by simp [h])

theorem startFail_of_cold (code : Nat) (h : d.boot.kind = .cold) :
    d.startFail code = ((d.setBoot .failed).sf F.BOOT_STAT.FAIL_CODE code).logBoot code 0 0 := if_pos h

theorem startFail_step (code : Nat) (h : d.boot.kind = .cold) : (d.startFail code).boot.step = .failed := by
  rw [startFail_of_cold code h, logBoot, logAt_boot, sf_boot, sf_boot, setBoot_boot]

theorem gf_startFail_failCode (code : Nat) (h : d.boot.kind = .cold) :
    (d.startFail code).gf F.BOOT_STAT.FAIL_CODE = code % 2 ^ 16 := by
  rw [startFail_of_cold code h, logBoot]
  simp (disch := decide) only [gf_logAt, gf_sf_of_reg_ne]
  exact gf_sf_self _ _ _ _ _ _ (by decide) (by decide)

/-! ### Training -/

/-- The device with the list of stacks that are still to be trained. -/
def setTraining (d : Dev) (l : List (Nat × Nat)) : Dev := { d with boot := { d.boot with training := l } }

theorem gf_setTraining (l : List (Nat × Nat)) (f : Fld) (u i j : Nat) : (d.setTraining l).gf f u i j = d.gf f u i j := rfl

theorem setTraining_boot (l : List (Nat × Nat)) : (d.setTraining l).boot = { d.boot with training := l } := rfl

theorem setTraining_mem (l : List (Nat × Nat)) : (d.setTraining l).mem = d.mem := rfl

theorem only_setTraining (l : List (Nat × Nat)) : Only [] [.boot] d (d.setTraining l) :=
  (Only.refl _ _ d).boot (List.mem_cons_self ..)

/-- The device with the temperature at which a stack has been trained. -/
def noteTrainTemp (d : Dev) (s temp : Nat) : Dev :=
  { d with mem := { d.mem with trainTemp := NMap.set none d.mem.trainTemp s (some temp) } }

theorem only_noteTrainTemp (s temp : Nat) : Only [] [.mem] d (d.noteTrainTemp s temp) :=
  (Only.refl _ _ d).mem (List.mem_cons_self ..)

theorem get_trainTemp_noteTrainTemp (s temp : Nat) : NMap.get none (d.noteTrainTemp s temp).mem.trainTemp s = some temp := by
  rw [noteTrainTemp, NMap.get_set_self]

@[simp] theorem noteTrainTemp_boot (s temp : Nat) : (d.noteTrainTemp s temp).boot = d.boot := rfl

/-- The device with a trained stack in service. -/
def serveStack (d : Dev) (s : Nat) : Dev :=
  (d.sf F.HBM_STAT.STACK_IN_SERVICE (d.gf F.HBM_STAT.STACK_IN_SERVICE (s / 6) ||| 2 ^ (s % 6)) (s / 6)).sf
    F.HBM_STACK_s_STAT.TRAINED 1 (s / 6) (s % 6)

@[simp] theorem serveStack_boot (s : Nat) : (d.serveStack s).boot = d.boot := by
  rw [serveStack, sf_boot, sf_boot]

/-- The stacks that are still to be trained once one of them is done. -/
def othersThan (s : Nat) (l : List (Nat × Nat)) : List (Nat × Nat) := l.filter fun e => decide (e.1 ≠ s)

theorem trainingDone_trained {s temp : Nat} {x : Nat × Nat} (hs : d.boot.step = .hbm)
    (hf : d.boot.training.find? (fun e => decide (e.1 = s)) = some x) (hk : d.boot.kind = .cold) :
    d.trainingDone s true temp = ((d.noteTrainTemp s temp).serveStack s).setTraining (othersThan s d.boot.training) := by
  obtain ⟨n, tries⟩ := x
  unfold trainingDone
  rw [hs, hf]
  dsimp -zeta only
  rw [if_pos rfl]
  extract_lets reused m d₁ d₂ x d₃ d₄ d₅ b d₆
  have hreused : reused = false := by
    unfold reused
    split
    · simp [hk]
    · rfl
  have hk₁ : d₁.boot.kind ≠ .warm := by simp [d₁, hk]
  have h₂ : d₂ = d.noteTrainTemp s temp := (if_neg (by simp [hreused])).trans (if_neg hk₁)
  clear_value d₂
  subst h₂
  have h₄ : d₄ = (d.noteTrainTemp s temp).serveStack s := rfl
  clear_value d₄
  have hk₄ : d₄.boot.kind ≠ .warm := by simp [h₄, hk]
  have h₅ : d₅ = (d.noteTrainTemp s temp).serveStack s := (if_pos (by simp [hk₄])).trans h₄
  clear_value d₅
  have hk₆ : d₆.boot.kind ≠ .warm := by simp [d₆, b, h₅, hk]
  rw [← h₅]
  exact if_neg (by simp [hk₆])

theorem trainingDone_failed {s temp : Nat} {x : Nat × Nat} (hs : d.boot.step = .hbm)
    (hf : d.boot.training.find? (fun e => decide (e.1 = s)) = some x) (hk : d.boot.kind = .cold) :
    d.trainingDone s false temp =
      if x.2 = 0 then (d.logAt Code.HBM_TRAIN_FAIL (dieX (s / 6)) (1280 + s) 0 (32 * s)).setTraining
        (othersThan s d.boot.training ++ [(s, 1)])
      else (d.logAt Code.HBM_TRAIN_FAIL (dieX (s / 6)) (1280 + s) 0 (32 * s)).startFail Code.BOOT_HBM_STACK_FAIL := by
  obtain ⟨n, tries⟩ := x
  unfold trainingDone
  rw [hs, hf]
  dsimp -zeta only
  rw [if_neg Bool.false_ne_true]
  extract_lets d₁ b
  have hk₁ : d₁.boot.kind = .cold := by rw [logAt_boot, hk]
  by_cases ht : tries = 0
  · rw [if_pos ⟨hk₁, ht⟩, if_pos ht]
    rfl
  · rw [if_neg fun h => ht h.2, if_neg ht]

theorem serveStack_mem (s : Nat) : (d.serveStack s).mem = d.mem := by
  rw [serveStack, sf_mem, sf_mem]

theorem only_serveStack (s : Nat) :
    Only [⟨.HBM_STAT, s / 6, 0, 0⟩, ⟨.HBM_STACK_s_STAT, s / 6, s % 6, 0⟩] [] d (d.serveStack s) := by
  unfold serveStack
  refine ((Only.refl _ _ d).sf (.inl ?_) (.inl rfl)).sf (.inl ?_) (.inl rfl)
  · exact List.mem_cons_self ..
  · exact List.mem_cons_of_mem _ (List.mem_cons_self ..)

theorem gf_serveStack_trained (s : Nat) : (d.serveStack s).gf F.HBM_STACK_s_STAT.TRAINED (s / 6) (s % 6) = 1 :=
  gf_sf_self _ _ _ _ _ _ (by decide) (by decide)

theorem bitOf_serveStack (s : Nat) :
    bitOf ((d.serveStack s).gf F.HBM_STAT.STACK_IN_SERVICE (s / 6)) (s % 6) = true := by
  rw [serveStack, gf_sf_of_reg_ne _ _ _ _ _ _ _ _ _ _ (by decide), gf_sf_self _ _ _ _ _ _ (by decide) (by decide)]
  have hs : s % 6 < F.HBM_STAT.STACK_IN_SERVICE.hi + 1 - F.HBM_STAT.STACK_IN_SERVICE.lo := Nat.mod_lt _ (by omega)
  simp [bitOf, Nat.testBit_mod_two_pow, hs, Nat.testBit_or, Nat.testBit_two_pow_self]

/-! ### The zero fill -/

theorem only_hbmReady : Only [] [.reg .HBM_STAT] d d.hbmReady :=
  (Only.refl _ _ d).foldl fun _ _ _ h =>
    (h.sf (.inr (List.mem_cons_self ..)) (.inl rfl)).sf (.inr (List.mem_cons_self ..)) (.inl rfl)

theorem hbmReady_hbm : d.hbmReady.hbm = d.hbm := by
  unfold hbmReady
  exact List.foldlRecOn (motive := fun e : Dev => e.hbm = d.hbm) _ _ rfl fun e h _ _ => by rw [sf_hbm, sf_hbm, h]

theorem gf_hbmReady {q : Nat} (h : q < 4) :
    d.hbmReady.gf F.HBM_STAT.READY q = 1 ∧ d.hbmReady.gf F.HBM_STAT.SELF_REFRESH q = 0 := by
  refine foldl_of_mem (Q := fun _ => True) (P := fun e : Dev => e.gf F.HBM_STAT.READY q = 1 ∧ e.gf F.HBM_STAT.SELF_REFRESH q = 0)
    (List.mem_range.mpr h) (fun _ _ h => h) (fun e _ => ⟨?_, ?_⟩) (fun e y hy he => ?_) trivial
  · rw [gf_sf_of_disjoint _ _ _ _ _ _ _ _ _ _ (by decide) (by decide) (by decide)]
    exact gf_sf_self _ _ _ _ _ _ (by decide) (by decide)
  · exact gf_sf_self _ _ _ _ _ _ (by decide) (by decide)
  · have hne : (q, 0, 0) ≠ (y, 0, 0) := by simp [Ne.symm hy]
    simpa only [gf_sf_of_inst_ne _ _ _ _ _ _ _ _ _ _ hne] using he

/-- The device with HBM filled with zeros. -/
def zeroHbm (d : Dev) : Dev := { d with hbm := [], mem := { d.mem with poison := [] }, gas := { d.gas with zeroPending := true } }

theorem zeroFillDone_eq (hs : d.boot.step = .hbm) (hc : d.boot.coldNext = false) (ht : d.boot.training = [])
    (hk : d.boot.kind ≠ .warm) : d.zeroFillDone = d.zeroHbm.hbmReady.setBoot .firstLight := by
  refine (if_neg (by simp [hs, ht, hk])).trans ?_
  exact stepTo_of_not_coldNext _ ((congrArg BootSt.coldNext (only_hbmReady.2 .boot (by decide) (by simp))).trans hc)

end Dev

/-- A stack that is to be trained is found in the list. -/
theorem find?_of_mem {l : List (Nat × Nat)} {s n : Nat} (h : (s, n) ∈ l) :
    ∃ x, l.find? (fun e => decide (e.1 = s)) = some x :=
  Option.isSome_iff_exists.mp (List.find?_isSome.mpr ⟨(s, n), h, by simp⟩)

/-- A stack is trained and leaves the list. -/
theorem completes_hbmTrainingDone_trained (s : Fin 24) (t : Fin 256) (n : Nat) :
    Completes (.hbmTrainingDone s true t) (fun d => d.boot.step = .hbm ∧ d.boot.kind = .cold
        ∧ (s.val, n) ∈ d.boot.training) fun d e =>
        e.boot = { d.boot with training := d.boot.training.filter fun x => decide (x.1 ≠ s.val) }
          ∧ NMap.get none e.mem.trainTemp s = some t.val ∧ e.gf F.HBM_STACK_s_STAT.TRAINED (s.val / 6) (s.val % 6) = 1
          ∧ bitOf (e.gf F.HBM_STAT.STACK_IN_SERVICE (s.val / 6)) (s.val % 6) = true
          ∧ Only [⟨.HBM_STAT, s.val / 6, 0, 0⟩, ⟨.HBM_STACK_s_STAT, s.val / 6, s.val % 6, 0⟩] [.boot, .mem] d e := by
  refine .of_upd (f := fun d => d.trainingDone s true t) (fun _ => rfl) fun d ⟨hs, hk, hn⟩ => ?_
  obtain ⟨x, hx⟩ := find?_of_mem hn
  rw [Dev.trainingDone_trained hs hx hk]
  refine ⟨?_, ?_, ?_, ?_, ?_⟩
  · rw [Dev.setTraining_boot, Dev.serveStack_boot, Dev.noteTrainTemp_boot]
    rfl
  · rw [Dev.setTraining_mem, Dev.serveStack_mem, Dev.get_trainTemp_noteTrainTemp]
  · rw [Dev.gf_setTraining, Dev.gf_serveStack_trained]
  · rw [Dev.gf_setTraining, Dev.bitOf_serveStack]
  · refine Only.trans ?_ (Only.trans ((Dev.only_serveStack s).mono ?_ ?_) ((Dev.only_setTraining _).mono ?_ ?_))
    · exact (d.only_noteTrainTemp s t).mono (by simp) (by simp)
    all_goals simp

/-- A stack whose training fails at a cold start is to be trained once more. -/
theorem completes_hbmTrainingDone_again (s : Fin 24) (t : Fin 256) :
    Completes (.hbmTrainingDone s false t) (fun d => d.boot.step = .hbm ∧ d.boot.kind = .cold
        ∧ d.boot.training.find? (fun x => decide (x.1 = s.val)) = some (s.val, 0)) fun d e =>
        e.boot = { d.boot with training := (d.boot.training.filter fun x => decide (x.1 ≠ s.val)) ++ [(s.val, 1)] }
          ∧ Only [] (.boot :: logParts) d e := by
  refine .of_upd (f := fun d => d.trainingDone s false t) (fun _ => rfl) fun d ⟨hs, hk, hf⟩ => ?_
  rw [Dev.trainingDone_failed hs hf hk, if_pos rfl]
  refine ⟨?_, ?_⟩
  · rw [Dev.setTraining_boot, Dev.logAt_boot]
    rfl
  · exact ((Only.refl _ _ d).logAt fun p hp => List.mem_cons_of_mem _ hp).boot (List.mem_cons_self ..)

/-- A stack whose training fails a second time at a cold start fails the start. -/
theorem completes_hbmTrainingDone_failed (s : Fin 24) (t : Fin 256) :
    Completes (.hbmTrainingDone s false t) (fun d => d.boot.step = .hbm ∧ d.boot.kind = .cold
        ∧ d.boot.training.find? (fun x => decide (x.1 = s.val)) = some (s.val, 1)) fun _ e =>
        e.boot.step = .failed ∧ e.gf F.BOOT_STAT.FAIL_CODE = Code.BOOT_HBM_STACK_FAIL := by
  refine .of_upd (f := fun d => d.trainingDone s false t) (fun _ => rfl) fun d ⟨hs, hk, hf⟩ => ?_
  rw [Dev.trainingDone_failed hs hf hk, if_neg Nat.one_ne_zero]
  have hk' : (d.logAt Code.HBM_TRAIN_FAIL (dieX (s / 6)) (1280 + s) 0 (32 * s)).boot.kind = .cold := by rw [Dev.logAt_boot, hk]
  exact ⟨Dev.startFail_step _ hk', Dev.gf_startFail_failCode _ hk'⟩

/-- The zero fill clears HBM. -/
theorem completes_hbmZeroFillDone :
    Completes .hbmZeroFillDone (fun d => d.boot.step = .hbm ∧ d.boot.coldNext = false ∧ d.boot.training = [] ∧ d.boot.kind ≠ .warm)
      (fun d e => e.boot = { d.boot with step := .firstLight } ∧ e.hbm = [] ∧ e.mem.poison = [] ∧ e.gas.zeroPending = true
        ∧ (∀ q, q < 4 → e.gf F.HBM_STAT.READY q = 1 ∧ e.gf F.HBM_STAT.SELF_REFRESH q = 0)) := by
  refine .of_upd (f := fun d => d.zeroFillDone) (fun _ => rfl) fun d ⟨hs, hc, ht, hk⟩ => ?_
  rw [Dev.zeroFillDone_eq hs hc ht hk]
  have hready := d.zeroHbm.only_hbmReady
  have hstep := d.zeroHbm.hbmReady.only_setBoot .firstLight
  refine ⟨?_, ?_, ?_, ?_, fun q hq => ?_⟩
  · rw [Dev.setBoot_boot, hready.2 .boot (by decide) (by simp)]
    rfl
  · rw [Dev.setBoot_hbm, Dev.hbmReady_hbm]
    rfl
  · rw [hstep.2 .mem (by decide) (by simp), hready.2 .mem (by decide) (by simp)]
    rfl
  · rw [hstep.2 .gas (by decide) (by simp), hready.2 .gas (by decide) (by simp)]
    rfl
  · rw [Dev.gf_setBoot _ _ _ _ (by decide), Dev.gf_setBoot _ _ _ _ (by decide)]
    exact Dev.gf_hbmReady hq

end Sys2Proof.Machine
end

/-! PROOFS. O29, the Ephemeris and the inventory. -/

section
namespace Sys2Proof.Machine

open Sys2Proof

namespace Dev

variable {d : Dev}

/-! ### The Ephemeris -/

/-- The registers that show the boot control record. -/
def fwRegs : List RegKey := [⟨.BOOT_FW_STAT, 0, 0, 0⟩, ⟨.BOOT_FW_VER_s, 0, 0, 0⟩, ⟨.BOOT_FW_VER_s, 0, 1, 0⟩]

theorem only_mirrorFw : Only fwRegs [.eph] d d.mirrorFw := by
  have hstat : (⟨.BOOT_FW_STAT, 0, 0, 0⟩ : RegKey) ∈ fwRegs ∨ Part.reg .BOOT_FW_STAT ∈ [Part.eph] := .inl (by decide)
  have hver : ∀ s ∈ [0, 1], (⟨.BOOT_FW_VER_s, 0, s, 0⟩ : RegKey) ∈ fwRegs ∨ Part.reg .BOOT_FW_VER_s ∈ [Part.eph] := by decide
  have heph : ∀ n : RegName, n.journalled = false ∨ Part.eph ∈ [Part.eph] := fun _ => .inr (by decide)
  unfold mirrorFw
  exact ((((((((Only.refl _ _ d).sf hstat (heph _)).sf hstat (heph _)).sf hstat (heph _)).sf hstat (heph _)).sf hstat (heph _)).sf
    (hver 0 (by decide)) (heph _)).sf (hver 1 (by decide)) (heph _))

theorem only_sideSend (k : Nat) : Only [] [.dlk] d (d.sideSend k) := (Only.refl _ _ d).dlk (by decide)

theorem only_foldl_sideSend (l : List Nat) : Only [] [.dlk] d (l.foldl sideSend d) :=
  (Only.refl _ _ d).foldl fun e k _ h => h.trans (e.only_sideSend k)

theorem side_foldl_sideSend {k : Nat} (hk : k < 19) : NMap.get 0 ((List.range 19).foldl sideSend d).dlk.side k = 1 :=
  foldl_of_mem (Q := fun _ => True) (P := fun e : Dev => NMap.get 0 e.dlk.side k = 1) (List.mem_range.mpr hk) (fun _ _ h => h)
    (fun e _ => NMap.get_set_self 0 e.dlk.side k 1)
    (fun e _ hy he => (NMap.get_set_ne 0 0 e.dlk.side 1 (Ne.symm hy)).trans he) trivial

/-- The device with the highest Almanac that has been seen. -/
def noteAlmanac (d : Dev) : Dev :=
  { d with eph := { d.eph with
    lastAlmanac := max d.eph.lastAlmanac ((d.boot.almanac.map fun (a : Almanac) => a.sequence).getD 0) } }

theorem noteAlmanac_sram : d.noteAlmanac.eph.sram = d.eph.sram := rfl

theorem only_noteAlmanac : Only [] [.eph] d d.noteAlmanac := (Only.refl _ _ d).eph (by decide)

/-- The Ephemeris step ends at a start that is not cold, from the device whose settings have been kept or discarded. -/
def countWarm (d : Dev) : Dev := (List.range 19).foldl sideSend (d.mirrorFw.noteAlmanac.incr F.BOOT_START_CNT.WARM_CNT 1)

theorem ephemerisDone_eq {bad0 bad1 : Option Nat} (hs : d.boot.step = .ephemeris) (hk : d.boot.kind ≠ .cold) :
    d.ephemerisDone bad0 bad1 =
      (if d.discardDue then d.discardAll.sf F.BOOT_CTRL.EPH_DISCARD 0 else d).countWarm.stepTo .inventory := by
  have hcold : decide (d.boot.kind = .cold) = false := decide_eq_false hk
  refine (if_neg (by simp [hs])).trans ?_
  simp only [hcold]
  rfl

/-- The registers that the count of a warm start changes. -/
def warmRegs : List RegKey := ⟨.BOOT_START_CNT, 0, 0, 0⟩ :: fwRegs

theorem only_noteAlmanac_mirrorFw : Only fwRegs [.eph] d d.mirrorFw.noteAlmanac :=
  only_mirrorFw.trans (only_noteAlmanac.mono (by simp) (by simp))

theorem only_countWarm : Only warmRegs [.eph, .dlk] d d.countWarm := by
  have hfw := (only_noteAlmanac_mirrorFw (d := d)).mono (rs' := warmRegs) (ps' := [.eph, .dlk])
    (fun k hk => .inl (List.mem_cons_of_mem _ hk)) (by simp)
  exact (hfw.sf (.inl (by decide)) (.inr (by decide))).trans ((only_foldl_sideSend _).mono (by simp) (by simp))

theorem gf_countWarm : d.countWarm.gf F.BOOT_START_CNT.WARM_CNT = (d.gf F.BOOT_START_CNT.WARM_CNT + 1) % 2 ^ 32 := by
  have hfw := (only_noteAlmanac_mirrorFw (d := d)).gf (f := F.BOOT_START_CNT.WARM_CNT) (u := 0) (i := 0) (j := 0) (by decide)
    (by decide)
  rw [countWarm, (only_foldl_sideSend _).gf (by decide) (by decide), incr, hfw]
  exact gf_sf_self _ _ _ _ _ _ (by decide) (by decide)

/-! ### A discard -/

/-- Registers whose records a start that discards the settings makes again. -/
def recordedAgain : List RegName := [.BOOT_CTRL, .BOOT_START_CNT, .BOOT_FW_STAT, .BOOT_FW_VER_s]

/-- The Ephemeris SRAM holds no setting but those of the registers that the start has recorded again. -/
def settingsGone (m : FMap RegKey (Option EphEntry)) : Prop :=
  ∀ k x, FMap.get none m k = some x → k.name ∉ recordedAgain → x.rw = false

theorem settingsGone_discardSettings (m : FMap RegKey (Option EphEntry)) : settingsGone (discardSettings m) := by
  intro k x hx _
  refine get_of_forall (P := fun v => ∀ x, v = some x → x.rw = false) none k (fun _ h => by cases h) (fun y hy _ x hx => ?_) x hx
  obtain ⟨⟨k₀, v⟩, -, hy⟩ := List.mem_filterMap.mp hy
  cases v with
  | none => cases hy
  | some z =>
    obtain ⟨-, hy⟩ := Option.ite_none_right_eq_some.mp hy
    cases hy
    cases hx
    rfl

theorem settingsGone_setReg {k : RegKey} {v : Word} (hk : k.name ∈ recordedAgain ∨ k.name.journalled = false)
    (h : settingsGone d.eph.sram) : settingsGone (d.setReg k v).eph.sram := by
  rcases hk with hk | hk
  · show settingsGone (d.noted k v).sram
    unfold noted
    extract_lets new setting old
    split
    · exact h
    split
    · exact h
    · intro k' x hx hn
      have hne : k' ≠ k := fun he => hn (he ▸ hk)
      dsimp only at hx
      rw [FMap.get_set_ne RegKey.lt none none _ _ hne] at hx
      exact h k' x hx hn
  · rwa [setReg_eph_of_not_journalled hk]

theorem settingsGone_sf {f : Fld} {v u i j : Nat} (hf : f.reg ∈ recordedAgain ∨ f.reg.journalled = false)
    (h : settingsGone d.eph.sram) : settingsGone (d.sf f v u i j).eph.sram := settingsGone_setReg hf h

theorem settingsGone_logBoot {code d0 d1 : Nat} (h : settingsGone d.eph.sram) : settingsGone (d.logBoot code d0 d1).eph.sram := by
  rw [logBoot, logAt_eph]
  exact settingsGone_sf (.inl (by decide)) h

theorem settingsGone_discardAll : settingsGone d.discardAll.eph.sram := by
  unfold discardAll
  exact settingsGone_logBoot (settingsGone_discardSettings _)

theorem settingsGone_mirrorFw (h : settingsGone d.eph.sram) : settingsGone d.mirrorFw.eph.sram := by
  have hstat : ∀ {d : Dev} {f : Fld} {v : Nat}, f.reg = .BOOT_FW_STAT → settingsGone d.eph.sram → settingsGone (d.sf f v).eph.sram :=
    fun hf => settingsGone_sf (.inl (hf ▸ by decide))
  have hver : ∀ {d : Dev} {v s : Nat}, settingsGone d.eph.sram → settingsGone (d.sf F.BOOT_FW_VER_s.VERSION v 0 s).eph.sram :=
    settingsGone_sf (.inl (by decide))
  unfold mirrorFw
  exact hver (hver (hstat rfl (hstat rfl (hstat rfl (hstat rfl (hstat rfl h))))))

theorem settingsGone_countWarm (h : settingsGone d.eph.sram) : settingsGone d.countWarm.eph.sram := by
  rw [countWarm, (only_foldl_sideSend _).2 .eph (by decide) (by simp)]
  refine settingsGone_sf (.inl (by decide)) ?_
  rw [noteAlmanac_sram]
  exact settingsGone_mirrorFw h

theorem boot_discardAll : d.discardAll.boot = d.boot := by
  unfold discardAll logBoot
  rw [logAt_boot, sf_boot]

end Dev

/-- The Ephemeris step of a warm start or a wake counts the start. -/
theorem completes_ephemerisStepDone (b0 b1 : Option Nat) :
    Completes (.ephemerisStepDone b0 b1) (fun d => d.boot.step = .ephemeris ∧ d.boot.coldNext = false
        ∧ d.boot.kind ≠ .cold ∧ d.discardDue = false) fun d e =>
        e.boot = { d.boot with step := .inventory } ∧ e.gf F.BOOT_STAT.STATE = 3
          ∧ e.gf F.BOOT_START_CNT.WARM_CNT = (d.gf F.BOOT_START_CNT.WARM_CNT + 1) % 2 ^ 32
          ∧ Only [⟨.BOOT_STAT, 0, 0, 0⟩, ⟨.BOOT_START_CNT, 0, 0, 0⟩, ⟨.BOOT_FW_STAT, 0, 0, 0⟩, ⟨.BOOT_FW_VER_s, 0, 0, 0⟩,
              ⟨.BOOT_FW_VER_s, 0, 1, 0⟩] [.boot, .eph, .dlk] d e ∧ ∀ k, k < 19 → NMap.get 0 e.dlk.side k = 1 := by
  refine .of_upd (f := fun d => d.ephemerisDone b0 b1) (fun _ => rfl) fun d ⟨hs, hc, hk, hd⟩ => ?_
  have hcount := Dev.only_countWarm (d := d)
  have hboot : d.countWarm.boot = d.boot := hcount.2 .boot (by decide) (by simp)
  rw [Dev.ephemerisDone_eq hs hk, if_neg (by simp [hd]), Dev.stepTo_of_not_coldNext _ (by rw [hboot, hc])]
  have hstep := d.countWarm.only_setBoot .inventory
  refine ⟨?_, Dev.gf_setBoot_state _, ?_, ?_, fun k hk => ?_⟩
  · rw [Dev.setBoot_boot, hboot]
  · rw [hstep.gf (by decide) (by decide), Dev.gf_countWarm]
  · exact (hcount.mono (fun k hk => .inl (List.mem_cons_of_mem _ hk)) (by simp)).trans (hstep.mono (by simp) (by simp))
  · rw [hstep.2 .dlk (by decide) (by simp)]
    exact Dev.side_foldl_sideSend hk

/-- The Ephemeris step of a warm start or a wake discards the settings where that is due. -/
theorem completes_ephemerisStepDone_discard (b0 b1 : Option Nat) :
    Completes (.ephemerisStepDone b0 b1) (fun d => d.boot.step = .ephemeris ∧ d.boot.coldNext = false
        ∧ d.boot.kind ≠ .cold ∧ d.discardDue = true) fun _ e =>
        e.boot.step = .inventory ∧ e.gf F.BOOT_CTRL.EPH_DISCARD = 0
          ∧ (∀ k x, FMap.get none e.eph.sram k = some x → k.name ∉ [.BOOT_CTRL, .BOOT_START_CNT, .BOOT_FW_STAT, .BOOT_FW_VER_s] →
              x.rw = false) := by
  refine .of_upd (f := fun d => d.ephemerisDone b0 b1) (fun _ => rfl) fun d ⟨hs, hc, hk, hd⟩ => ?_
  have hgone : Dev.settingsGone (d.discardAll.sf F.BOOT_CTRL.EPH_DISCARD 0).eph.sram :=
    Dev.settingsGone_sf (.inl (by decide)) Dev.settingsGone_discardAll
  have hread : (d.discardAll.sf F.BOOT_CTRL.EPH_DISCARD 0).gf F.BOOT_CTRL.EPH_DISCARD = 0 :=
    Dev.gf_sf_self _ _ _ _ _ _ (by decide) (by decide)
  have hboot : (d.discardAll.sf F.BOOT_CTRL.EPH_DISCARD 0).boot = d.boot := by rw [Dev.sf_boot, Dev.boot_discardAll]
  rw [Dev.ephemerisDone_eq hs hk, if_pos hd]
  generalize d.discardAll.sf F.BOOT_CTRL.EPH_DISCARD 0 = m at hgone hread hboot ⊢
  have hcount := Dev.only_countWarm (d := m)
  have hboot' : m.countWarm.boot = d.boot := (hcount.2 .boot (by decide) (by simp)).trans hboot
  rw [Dev.stepTo_of_not_coldNext _ (by rw [hboot', hc])]
  have hstep := m.countWarm.only_setBoot .inventory
  refine ⟨rfl, ?_, ?_⟩
  · rw [hstep.gf (by decide) (by decide), hcount.gf (by decide) (by decide), hread]
  · rw [hstep.2 .eph (by decide) (by simp)]
    exact Dev.settingsGone_countWarm hgone

end Sys2Proof.Machine
end

/-! PROOFS. O29, the inventory and the links. -/

section
namespace Sys2Proof.Machine

open Sys2Proof

theorem foldl_eq_of_fixed {α β : Type} {f : β → α → β} {b : β} {l : List α} (h : ∀ x ∈ l, f b x = b) : l.foldl f b = b := by
  induction l with
  | nil => rfl
  | cons x l ih =>
    rw [List.foldl_cons, h x (List.mem_cons_self ..)]
    exact ih fun y hy => h y (List.mem_cons_of_mem x hy)

theorem linkDies_lt {n : Nat} (h : n < 31) : ∀ k ∈ linkDies n, k < 20 := by
  revert n
  decide

namespace Aside

variable {s d : Dev}

theorem refreshCap (h : Aside s d) : Aside s d.refreshCap := by
  unfold Dev.refreshCap
  extract_lets w
  exact .ite h (h.sf rfl).raise

theorem sideSend (h : Aside s d) {k : Nat} : Aside s (d.sideSend k) := h.other

theorem anchorStart (h : Aside s d) : Aside s d.anchorStart := by
  unfold Dev.anchorStart
  exact .ite h.setCoords h

theorem startCollimator (h : Aside s d) {p temp : Nat} {cold : Bool} : Aside s (d.startCollimator p temp cold) := by
  unfold Dev.startCollimator
  extract_lets e
  have he : Aside s e := .ite h h.logAt
  exact .ite h.collimate (he.collimate.sf rfl)

end Aside

namespace Dev

variable {d : Dev}

/-! ### The inventory -/

/-- The M-die's own entry in the inventory. -/
def ownDie (d : Dev) (stepping level : Nat) : Dev :=
  (((d.sf F.DLK_DIE_k_INV.PRESENT 1 0 19).sf F.DLK_DIE_k_INV.TYPE 4 0 19).sf F.DLK_DIE_k_INV.STEPPING stepping 0 19).sf
    F.DLK_DIE_k_INV.LEVEL level 0 19

theorem only_ownDie (stepping level : Nat) : Only [⟨.DLK_DIE_k_INV, 0, 19, 0⟩] [] d (d.ownDie stepping level) := by
  unfold ownDie
  exact ((((Only.refl _ _ d).sf (.inl (by decide)) (.inl rfl)).sf (.inl (by decide)) (.inl rfl)).sf (.inl (by decide)) (.inl rfl)).sf
    (.inl (by decide)) (.inl rfl)

theorem gf_ownDie_stepping (stepping level : Nat) :
    (d.ownDie stepping level).gf F.DLK_DIE_k_INV.STEPPING 0 19 = stepping % 2 ^ 4 := by
  rw [ownDie, gf_sf_of_disjoint _ _ _ _ _ _ _ _ _ _ (by decide) (by decide) (by decide)]
  exact gf_sf_self _ _ _ _ _ _ (by decide) (by decide)

theorem gf_ownDie_level (stepping level : Nat) :
    (d.ownDie stepping level).gf F.DLK_DIE_k_INV.LEVEL 0 19 = level % 2 ^ 4 :=
  gf_sf_self _ _ _ _ _ _ (by decide) (by decide)

/-- The own entry leaves which dies are out of service. -/
theorem dieOutOfService_ownDie (stepping level k : Nat) :
    (d.ownDie stepping level).dieOutOfService k = d.dieOutOfService k := by
  have h : (d.ownDie stepping level).gf F.DLK_DIE_k_INV.OCCULTED 0 k = d.gf F.DLK_DIE_k_INV.OCCULTED 0 k := by
    simp (disch := decide) only [ownDie, gf_sf_of_disjoint]
  exact congrArg (fun x => decide (x = 1)) h

theorem judgeDies_of_sound (h : ∀ k, k < 19 → d.dieOutOfService k = false ∧ d.minStepping k ≤ d.gf F.DLK_DIE_k_INV.STEPPING 0 k) :
    d.judgeDies = d :=
  foldl_eq_of_fixed fun k hk => by
    obtain ⟨-, hmin⟩ := h k (List.mem_range.mp hk)
    exact if_pos (by simp [hmin])

/-- The links of dies in service begin to train. -/
def trainLinks (d : Dev) : Dev :=
  (List.range 31).foldl (fun d n => if (linkDies n).any fun k => d.dieOutOfService k then d else d.setLinkState n 1) d

theorem only_trainLinks : Only [] [.reg .DLK_LINK_n_STAT] d d.trainLinks :=
  (Only.refl _ _ d).foldl fun e n _ h => by
    split
    · exact h
    · exact h.sf (.inr (List.mem_cons_self ..)) (.inl rfl)

theorem linkState_trainLinks (h : ∀ k, k < 20 → d.dieOutOfService k = false) {n : Nat} (hn : n < 31) :
    d.trainLinks.linkState n = 1 := by
  refine foldl_of_mem (Q := fun e : Dev => ∀ k, k < 20 → e.dieOutOfService k = false) (P := fun e : Dev => e.linkState n = 1)
    (List.mem_range.mpr hn) (fun e m he => ?_) (fun e he => ?_) (fun e m hm he => ?_) h
  · split
    · exact he
    · exact fun k hk => (congrArg (fun x => decide (x = 1)) (gf_sf_of_reg_ne _ _ _ _ _ _ _ _ _ _ (by decide))).trans (he k hk)
  · have hserve : ((linkDies n).any fun k => e.dieOutOfService k) = false :=
      List.any_eq_false.mpr fun k hk => by simp [he k (linkDies_lt hn k hk)]
    rw [if_neg (by simp [hserve])]
    exact gf_sf_self _ _ _ _ _ _ (by decide) (by decide)
  · split
    · exact he
    · exact (gf_sf_of_inst_ne _ _ _ _ _ _ _ _ _ _ (by simp [Ne.symm hm])).trans he

/-- The dies in service are asked again. -/
def askDies (d : Dev) : Dev := ((List.range 19).filter fun k => !d.dieOutOfService k).foldl sideSend d

theorem aside_askDies : Aside d d.askDies := (Aside.refl d).foldl fun _ _ h => h.sideSend

/-- The inventory of dies that are as they must be is taken, and the epoch rises. -/
def takeInventory (d : Dev) : Dev :=
  ((d.sf F.DLK_PKG_LEVEL.COMMON_LEVEL d.commonLevel).askDies.incr F.GAS_EPOCH.EPOCH 1).anchorStart

theorem boot_takeInventory : d.takeInventory.boot = d.boot := by
  rw [takeInventory, (Aside.refl _).anchorStart.boot, incr_boot, aside_askDies.boot, sf_boot]

theorem gf_takeInventory_die {f : Fld} (hf : f.reg = .DLK_DIE_k_INV) (u i j : Nat) :
    d.takeInventory.gf f u i j = d.gf f u i j := by
  rw [takeInventory, (Aside.refl _).anchorStart.gf (hf ▸ rfl), incr,
    gf_sf_of_reg_ne _ _ _ _ _ _ _ _ _ _ (hf ▸ by decide), aside_askDies.gf (hf ▸ rfl),
    gf_sf_of_reg_ne _ _ _ _ _ _ _ _ _ _ (hf ▸ by decide)]

theorem gf_takeInventory_epoch : d.takeInventory.gf F.GAS_EPOCH.EPOCH = (d.gf F.GAS_EPOCH.EPOCH + 1) % 2 ^ 32 := by
  rw [takeInventory, (Aside.refl _).anchorStart.gf rfl, incr, gf_sf_self _ _ _ _ _ _ (by decide) (by decide),
    aside_askDies.gf rfl, gf_sf_of_reg_ne _ _ _ _ _ _ _ _ _ _ (by decide)]
  rfl

theorem applyAlmanac_of_none (sel : RegKey → Bool) (h : d.boot.almanac = none) : d.applyAlmanac sel = d := by
  unfold applyAlmanac
  rw [h]

theorem occulted_refreshCap : d.refreshCap.occulted = d.occulted := by
  unfold refreshCap
  extract_lets w
  split
  · rfl
  · rw [raise_occulted, sf_occulted]

theorem occulted_ownDie (stepping level : Nat) : (d.ownDie stepping level).occulted = d.occulted := by
  rw [ownDie, sf_occulted, sf_occulted, sf_occulted, sf_occulted]

theorem minStepping_congr {e : Dev} (h : ∀ f : Fld, f.reg = .DLK_PKG_LEVEL → e.gf f = d.gf f) (k : Nat) :
    e.minStepping k = d.minStepping k := by
  unfold minStepping
  split <;> exact h _ rfl

theorem minStepping_refreshed (stepping level k : Nat) : (d.refreshCap.ownDie stepping level).minStepping k = d.minStepping k :=
  minStepping_congr (fun f hf => ((only_ownDie _ _).gf (by simp [hf]) (by simp)).trans
    ((Aside.refl d).refreshCap.gf (hf ▸ rfl))) k

theorem dieOutOfService_refreshed (stepping level k : Nat) :
    (d.refreshCap.ownDie stepping level).dieOutOfService k = d.dieOutOfService k :=
  (dieOutOfService_ownDie _ _ _).trans (congrArg (fun x => decide (x = 1)) ((Aside.refl d).refreshCap.gf rfl))

theorem inventoryDone_eq {stepping level : Nat} (hs : d.boot.step = .inventory) (hi : d.boot.identity = true)
    (ha : d.boot.almanac = none) (ho : d.occulted = false) (hm : d.gf F.DLK_PKG_LEVEL.MIN_M ≤ stepping)
    (hk : ∀ k, k < 19 → d.on F.DLK_DIE_k_INV.PRESENT 0 k = true ∧ d.dieOutOfService k = false
      ∧ d.minStepping k ≤ d.gf F.DLK_DIE_k_INV.STEPPING 0 k) :
    d.inventoryDone stepping level = ((d.refreshCap.ownDie stepping level).takeInventory.trainLinks).stepTo .links := by
  have hall : (List.range 19).all (fun k => d.on F.DLK_DIE_k_INV.PRESENT 0 k || d.dieOutOfService k) = true :=
    List.all_eq_true.mpr fun k hk' => by simp [(hk k (List.mem_range.mp hk')).1]
  have hmin : ¬ stepping < (d.refreshCap.ownDie stepping level).minStepping 19 := by
    rw [minStepping_refreshed]
    exact Nat.not_lt.mpr hm
  have hjudge : (d.refreshCap.ownDie stepping level).judgeDies = d.refreshCap.ownDie stepping level := by
    refine judgeDies_of_sound fun k hk' => ?_
    obtain ⟨-, hserve, hstep⟩ := hk k hk'
    rw [dieOutOfService_refreshed, minStepping_refreshed]
    refine ⟨hserve, hstep.trans_eq ?_⟩
    have hne : (⟨.DLK_DIE_k_INV, 0, k, 0⟩ : RegKey) ∉ [(⟨.DLK_DIE_k_INV, 0, 19, 0⟩ : RegKey)] := by
      simp [Nat.ne_of_lt hk']
    exact (((only_ownDie stepping level).gf hne (by simp)).trans ((Aside.refl d).refreshCap.gf rfl)).symm
  have hocc : ¬ (d.refreshCap.ownDie stepping level).occulted = true := by
    simp [occulted_ownDie, occulted_refreshCap, ho]
  refine (if_neg (by simp [hs, hi, hall])).trans ?_
  rw [applyAlmanac_of_none _ ha]
  refine (if_neg hmin).trans ?_
  unfold ownDie at hjudge hocc
  rw [hjudge]
  exact if_neg hocc

theorem boot_inventory (stepping level : Nat) :
    (d.refreshCap.ownDie stepping level).takeInventory.trainLinks.boot = d.boot := by
  rw [only_trainLinks.2 .boot (by decide) (by simp), boot_takeInventory, (only_ownDie _ _).2 .boot (by decide) (by simp),
    (Aside.refl d).refreshCap.boot]

theorem dieOutOfService_takeInventory (k : Nat) : d.takeInventory.dieOutOfService k = d.dieOutOfService k :=
  congrArg (fun x => decide (x = 1)) (gf_takeInventory_die rfl _ _ _)

/-! ### The links -/

/-- The Collimator starts on every P-die in service. -/
def startCollimators (d : Dev) (temps : List Nat) : Dev :=
  (List.range 6).foldl (fun d p =>
    if d.dieOutOfService (dieP p) then d else d.startCollimator p (temps.getD p 0) (decide (d.boot.kind = StartKind.cold))) d

theorem aside_startCollimators (temps : List Nat) : Aside d (d.startCollimators temps) :=
  (Aside.refl d).foldl fun _ _ h => .ite h h.startCollimator

theorem linksDone_eq {temps : List Nat} (hs : d.boot.step = .links) (ho : d.occulted = false)
    (hl : ∀ n, n < 31 → d.linkState n ≠ 1 ∧ d.linkState n ≠ 2) :
    d.linksDone temps = ((d.startCollimators temps).setTraining ((List.range 24).map fun s => (s, 0))).stepTo .hbm :=
  (if_neg (by simpa [hs] using hl)).trans (if_neg (by simp [ho]))

end Dev

/-- The inventory is taken: the epoch rises and the links train. -/
theorem completes_inventoryDone (st lv : Fin 16) :
    Completes (.inventoryDone st lv) (fun d => d.boot.step = .inventory ∧ d.boot.coldNext = false
        ∧ d.boot.identity = true ∧ d.boot.almanac = none ∧ d.occulted = false ∧ d.gf F.DLK_PKG_LEVEL.MIN_M ≤ st.val
        ∧ ∀ k, k < 19 → d.on F.DLK_DIE_k_INV.PRESENT 0 k = true ∧ d.dieOutOfService k = false
          ∧ d.minStepping k ≤ d.gf F.DLK_DIE_k_INV.STEPPING 0 k) fun d e =>
        e.boot.step = .links ∧ e.gf F.GAS_EPOCH.EPOCH = (d.gf F.GAS_EPOCH.EPOCH + 1) % 2 ^ 32
          ∧ e.gf F.DLK_DIE_k_INV.STEPPING 0 19 = st.val ∧ e.gf F.DLK_DIE_k_INV.LEVEL 0 19 = lv.val
          ∧ (d.dieOutOfService 19 = false → ∀ n, n < 31 → e.linkState n = 1) := by
  refine .of_upd (f := fun d => d.inventoryDone st lv) (fun _ => rfl) fun d ⟨hs, hc, hi, ha, ho, hm, hk⟩ => ?_
  rw [Dev.inventoryDone_eq hs hi ha ho hm hk, Dev.stepTo_of_not_coldNext _ (by rw [Dev.boot_inventory, hc])]
  refine ⟨rfl, ?_, ?_, ?_, fun h19 n hn => ?_⟩
  · rw [Dev.gf_setBoot _ _ _ _ (by decide), Dev.only_trainLinks.gf (by simp) (by decide), Dev.gf_takeInventory_epoch,
      (Dev.only_ownDie _ _).gf (by decide) (by simp), (Aside.refl d).refreshCap.gf rfl]
  · rw [Dev.gf_setBoot _ _ _ _ (by decide), Dev.only_trainLinks.gf (by simp) (by decide), Dev.gf_takeInventory_die rfl,
      Dev.gf_ownDie_stepping]
    exact Nat.mod_eq_of_lt st.isLt
  · rw [Dev.gf_setBoot _ _ _ _ (by decide), Dev.only_trainLinks.gf (by simp) (by decide), Dev.gf_takeInventory_die rfl,
      Dev.gf_ownDie_level]
    exact Nat.mod_eq_of_lt lv.isLt
  · rw [Dev.linkState, Dev.gf_setBoot _ _ _ _ (by decide)]
    refine Dev.linkState_trainLinks (fun k hk' => ?_) hn
    rw [Dev.dieOutOfService_takeInventory, Dev.dieOutOfService_refreshed]
    by_cases h : k = 19
    · rw [h, h19]
    · exact (hk k (by omega)).2.1

/-- The Links step ends: the stacks are to be trained. -/
theorem completes_linksTrained (ts : List Nat) :
    Completes (.linksTrained ts) (fun d => d.boot.step = .links ∧ d.boot.coldNext = false ∧ d.occulted = false
        ∧ ∀ n, n < 31 → d.linkState n ≠ 1 ∧ d.linkState n ≠ 2) fun _ e =>
        e.boot.step = .hbm ∧ e.gf F.BOOT_STAT.STATE = 4 ∧ e.boot.training = (List.range 24).map fun s => (s, 0) := by
  refine .of_upd (f := fun d => d.linksDone ts) (fun _ => rfl) fun d ⟨hs, hc, ho, hl⟩ => ?_
  have hboot := (Dev.aside_startCollimators (d := d) ts).boot
  rw [Dev.linksDone_eq hs ho hl, Dev.stepTo_of_not_coldNext _ (by rw [Dev.setTraining_boot, hboot, hc])]
  refine ⟨?_, Dev.gf_setBoot_state _, ?_⟩
  · rw [Dev.setBoot_boot]
  · rw [Dev.setBoot_boot, Dev.setTraining_boot]

end Sys2Proof.Machine
end

/-! PROOFS. O29, First Light. -/

section
namespace Sys2Proof.Machine

open Sys2Proof

namespace Aside

variable {s d : Dev}

theorem score (h : Aside s d) {unit weight code : Nat} : Aside s (d.score unit weight code) := by
  unfold Dev.score
  extract_lets v d₁ d₂ lv
  have h₂ : Aside s d₂ := .ite (h.sf rfl) ((h.sf rfl).sf rfl)
  exact .ite (h₂.sf rfl).logAt.raise (.ite (h₂.sf rfl).logAt.raise h₂)

theorem occult_core (h : Aside s d) {c : Fin 128} {cause : Nat} {ctrl : Bool} : Aside s (d.occult (.core c) cause ctrl) := by
  unfold Dev.occult
  extract_lets d₁ _ d₂
  have h₁ : Aside s d₁ := h.occRecord
  have h₂ : Aside s d₂ := ⟨h₁.boot, h₁.firstLight, h₁.unplanned, h₁.reg⟩
  exact .ite h h₂.coreOut

end Aside

namespace Dev

variable {d : Dev}

/-- R639: an engine or a core that fails First Light does not fail it for the device. -/
theorem lightFail_of_core {u layer : Nat} (hu : u < 480) : (d.lightFail u layer).1 = false ∧ Aside d (d.lightFail u layer).2 := by
  unfold lightFail
  extract_lets d₁ retire old d₂ cl p
  have h₁ : Aside d d₁ := (Aside.refl d).logAt
  have h₂ : Aside d d₂ := .ite (h₁.sf rfl).score h₁
  clear_value d₂
  rw [if_pos hu]
  split
  · split
    · exact ⟨rfl, h₂.occult_core⟩
    · exact ⟨rfl, h₂⟩
  · split
    · exact ⟨rfl, h₂⟩
    · exact ⟨rfl, h₂.sf rfl⟩

/-- A First Light's STATE, DURATION_MS and FAIL_UNIT. -/
def showLight (d : Dev) (pass : Bool) (ms : Nat) (fails : List (Nat × Nat)) : Dev :=
  ((d.sf F.SAFE_FL_STAT.STATE (if pass then 2 else 3)).sf F.SAFE_FL_STAT.DURATION_MS ms).sf F.SAFE_FL_STAT.FAIL_UNIT
    ((fails.head?.map fun f => f.1).getD 0)

theorem only_showLight (pass : Bool) (ms : Nat) (fails : List (Nat × Nat)) :
    Only [⟨.SAFE_FL_STAT, 0, 0, 0⟩] [] d (d.showLight pass ms fails) := by
  unfold showLight
  exact (((Only.refl _ _ d).sf (.inl (by decide)) (.inl rfl)).sf (.inl (by decide)) (.inl rfl)).sf (.inl (by decide)) (.inl rfl)

theorem gf_showLight_state (pass : Bool) (ms : Nat) (fails : List (Nat × Nat)) :
    (d.showLight pass ms fails).gf F.SAFE_FL_STAT.STATE = if pass then 2 else 3 := by
  rw [showLight, gf_sf_of_disjoint _ _ _ _ _ _ _ _ _ _ (by decide) (by decide) (by decide),
    gf_sf_of_disjoint _ _ _ _ _ _ _ _ _ _ (by decide) (by decide) (by decide), gf_sf_self _ _ _ _ _ _ (by decide) (by decide)]
  cases pass <;> rfl

theorem gf_showLight_failUnit (pass : Bool) (ms : Nat) (fails : List (Nat × Nat)) :
    (d.showLight pass ms fails).gf F.SAFE_FL_STAT.FAIL_UNIT = ((fails.head?.map fun f => f.1).getD 0) % 2 ^ 16 :=
  gf_sf_self _ _ _ _ _ _ (by decide) (by decide)

theorem gf_showLight_code (pass : Bool) (ms : Nat) (fails : List (Nat × Nat)) :
    (d.showLight pass ms fails).gf F.SAFE_FL_STAT.CODE = d.gf F.SAFE_FL_STAT.CODE := by
  simp (disch := decide) only [showLight, gf_sf_of_disjoint]

theorem lightResult_pass (ms : Nat) (fails : List (Nat × Nat)) (form : Nat) : d.lightResult true ms fails form =
    ((d.showLight true ms fails).sf F.SAFE_FL_STAT.CODE Code.FIRST_LIGHT_PASS).logAt Code.FIRST_LIGHT_PASS dieM 0xFFFF form ms := by
  simp only [lightResult, showLight, if_true]

theorem lightResult_fail (ms : Nat) (fails : List (Nat × Nat)) (form : Nat) : d.lightResult false ms fails form =
    if fails.isEmpty then d.showLight false ms fails
    else (d.showLight false ms fails).sf F.SAFE_FL_STAT.CODE Code.FIRST_LIGHT_FAIL := by
  simp only [lightResult, showLight, Bool.false_eq_true, if_false]

/-! ### The end of a start -/

/-- The device with the start recorded as complete. -/
def recordStart (d : Dev) : Dev :=
  { d with
    boot := { d.boot with warmRecord := true, kickAt := d.chrono }
    eph := { d.eph with valid := true }
    safe := { d.safe with unplanned := false } }

theorem gf_recordStart (f : Fld) (u i j : Nat) : d.recordStart.gf f u i j = d.gf f u i j := rfl

theorem recordStart_boot : d.recordStart.boot = { d.boot with warmRecord := true, kickAt := d.chrono } := rfl

theorem recordStart_safe : d.recordStart.safe = { d.safe with unplanned := false } := rfl

/-- The start is complete. -/
def completed (d : Dev) (elapsedMs : Nat) : Dev :=
  (((d.setBoot .ready).sf F.BOOT_STAT.READY 1).recordStart.sf F.BOOT_STAT.WARM_RECORD 1).sf F.BOOT_LAST_START.DURATION_MS elapsedMs

theorem completed_boot (el : Nat) : (d.completed el).boot.step = .ready ∧ (d.completed el).boot.warmRecord = true := by
  rw [completed, sf_boot, sf_boot, recordStart_boot, sf_boot, setBoot_boot]
  exact ⟨rfl, rfl⟩

theorem completed_unplanned (el : Nat) : (d.completed el).safe.unplanned = false := by
  rw [completed, sf_safe, sf_safe, recordStart_safe]

theorem gf_completed_ready (el : Nat) : (d.completed el).gf F.BOOT_STAT.READY = 1 := by
  rw [completed, gf_sf_of_reg_ne _ _ _ _ _ _ _ _ _ _ (by decide),
    gf_sf_of_disjoint _ _ _ _ _ _ _ _ _ _ (by decide) (by decide) (by decide), gf_recordStart]
  exact gf_sf_self _ _ _ _ _ _ (by decide) (by decide)

theorem gf_completed_state (el : Nat) : (d.completed el).gf F.BOOT_STAT.STATE = 6 := by
  rw [completed, gf_sf_of_reg_ne _ _ _ _ _ _ _ _ _ _ (by decide),
    gf_sf_of_disjoint _ _ _ _ _ _ _ _ _ _ (by decide) (by decide) (by decide), gf_recordStart,
    gf_sf_of_disjoint _ _ _ _ _ _ _ _ _ _ (by decide) (by decide) (by decide), gf_setBoot_state]
  rfl

theorem gf_completed_warmRecord (el : Nat) : (d.completed el).gf F.BOOT_STAT.WARM_RECORD = 1 := by
  rw [completed, gf_sf_of_reg_ne _ _ _ _ _ _ _ _ _ _ (by decide)]
  exact gf_sf_self _ _ _ _ _ _ (by decide) (by decide)

theorem gf_completed_duration (el : Nat) : (d.completed el).gf F.BOOT_LAST_START.DURATION_MS = el % 2 ^ 32 :=
  gf_sf_self _ _ _ _ _ _ (by decide) (by decide)

theorem gf_completed_light (el : Nat) {f : Fld} (hf : f.reg = .SAFE_FL_STAT) : (d.completed el).gf f = d.gf f := by
  rw [completed, gf_sf_of_reg_ne _ _ _ _ _ _ _ _ _ _ (hf ▸ by decide), gf_sf_of_reg_ne _ _ _ _ _ _ _ _ _ _ (hf ▸ by decide),
    gf_recordStart, gf_sf_of_reg_ne _ _ _ _ _ _ _ _ _ _ (hf ▸ by decide), gf_setBoot _ _ _ _ (hf ▸ by decide)]

theorem aside_startComplete (el : Nat) : Aside (d.completed el) (d.startComplete el) := by
  have h : Aside (d.completed el) (d.completed el) := .refl _
  generalize hm : d.completed el = m at h
  have he : d.startComplete el =
      (if m.boot.wasOcculted then m.occRecord Code.SAFE_RESTORED dieM 1481 0 else m).broadcast 2
        (if m.boot.wasOcculted then m.occRecord Code.SAFE_RESTORED dieM 1481 0 else m).self := by
    subst hm
    rfl
  rw [he]
  exact (Aside.ite h.occRecord h).broadcast

/-- R640: a First Light on demand under the nominal corner and no C-die's scope leaves every store. -/
theorem looseStores_zero : d.looseStores 0 = d :=
  foldl_eq_of_fixed fun n _ => if_neg (by simp [bitOf])

theorem startLightDone_pass {ms el : Nat} (hc : d.boot.coldNext = false) (ho : d.occulted = false) :
    ∃ form, d.startLightDone ms [] true el = (d.lightResult true ms [] form).startComplete el := by
  refine ⟨if d.boot.kind = .cold then (Config.formCode 0).toNat else 0, ?_⟩
  generalize hform : (if d.boot.kind = .cold then (Config.formCode 0).toNat else 0) = form
  have hocc : (d.lightResult true ms [] form).occulted = false := by
    rw [lightResult_pass, logAt_occulted, sf_occulted, (only_showLight _ _ _).2 .occulted (by simp) (by simp), ho]
  have hcold : (d.lightResult true ms [] form).boot.coldNext = false := by
    rw [lightResult_pass, logAt_boot, sf_boot, (only_showLight _ _ _).2 .boot (by simp) (by simp), hc]
  subst hform
  exact (if_neg (by simp [hocc])).trans (if_neg (by simp [hcold]))

theorem boot_refsetInvalid : d.refsetInvalid.boot = d.boot := by
  rw [refsetInvalid, sf_boot]
  exact logAt_boot ..

theorem gf_refsetInvalid_code : d.refsetInvalid.gf F.SAFE_FL_STAT.CODE = Code.FIRST_LIGHT_REFSET_INVALID :=
  gf_sf_self _ _ _ _ _ _ (by decide) (by decide)

theorem boot_lightResult_fail (ms : Nat) (fails : List (Nat × Nat)) (form : Nat) :
    (d.lightResult false ms fails form).boot = d.boot := by
  have hshow : (d.showLight false ms fails).boot = d.boot := (only_showLight _ _ _).2 .boot (by simp) (by simp)
  rw [lightResult_fail]
  split
  · exact hshow
  · rw [sf_boot, hshow]

theorem safe_lightResult_fail (ms : Nat) (fails : List (Nat × Nat)) (form : Nat) :
    (d.lightResult false ms fails form).safe = d.safe := by
  have hshow : (d.showLight false ms fails).safe = d.safe := (only_showLight _ _ _).2 .safe (by simp) (by simp)
  rw [lightResult_fail]
  split
  · exact hshow
  · rw [sf_safe, hshow]

/-- Fields of SAFE_FL_STAT but its CODE read as shown. -/
theorem gf_lightResult_fail (ms : Nat) (fails : List (Nat × Nat)) (form : Nat) {f : Fld}
    (hd : f.hi < F.SAFE_FL_STAT.CODE.lo ∨ F.SAFE_FL_STAT.CODE.hi < f.lo) :
    (d.lightResult false ms fails form).gf f = (d.showLight false ms fails).gf f := by
  rw [lightResult_fail]
  split
  · rfl
  · exact gf_sf_of_disjoint _ _ _ _ _ _ _ _ _ _ (by decide) (by decide) hd

theorem gf_lightResult_fail_code (ms : Nat) (fails : List (Nat × Nat)) (form : Nat) :
    (d.lightResult false ms fails form).gf F.SAFE_FL_STAT.CODE
      = if fails = [] then d.gf F.SAFE_FL_STAT.CODE else Code.FIRST_LIGHT_FAIL := by
  rw [lightResult_fail]
  cases fails with
  | nil => exact gf_showLight_code ..
  | cons x l => exact gf_sf_self _ _ _ _ _ _ (by decide) (by decide)

theorem startLightDone_refset {ms el : Nat} {fails : List (Nat × Nat)} :
    ∃ form, d.startLightDone ms fails false el = (d.refsetInvalid.lightResult false ms fails form).startFail Code.BOOT_FAILED :=
  ⟨if d.boot.kind = .cold then (Config.formCode 0).toNat else 0, by
    simp only [startLightDone, Bool.false_eq_true, if_false, Bool.not_true, Bool.false_and, Bool.true_or, if_true]⟩

/-- The start's failure leaves First Light's result. -/
theorem gf_startFail_light (code : Nat) (h : d.boot.kind = .cold) {f : Fld} (hf : f.reg = .SAFE_FL_STAT) :
    (d.startFail code).gf f = d.gf f := by
  rw [startFail_of_cold code h, logBoot, gf_logAt _ _ _ _ _ _ _ _ _ (hf ▸ by decide),
    gf_sf_of_reg_ne _ _ _ _ _ _ _ _ _ _ (hf ▸ by decide), gf_sf_of_reg_ne _ _ _ _ _ _ _ _ _ _ (hf ▸ by decide),
    gf_setBoot _ _ _ _ (hf ▸ by decide)]

/-- The device with no First Light on demand under way. -/
def endLight (d : Dev) : Dev := { d with safe := { d.safe with firstLight := none } }

/-- The result of a First Light on demand under the nominal corner is shown and reported. -/
def reportDemand (ms : Nat) (fails : List (Nat × Nat)) (r : Bool × Dev) : Dev :=
  let d := r.2.lightResult (!r.1 && fails.isEmpty) ms fails 0
  (if r.1 then d.occult .device Code.FIRST_LIGHT_FAIL false else d).raise 135

theorem reportDemand_of_failed (ms : Nat) {fails : List (Nat × Nat)} (h : fails.isEmpty = false) :
    reportDemand ms fails (false, d) = (d.lightResult false ms fails 0).raise 135 := by
  simp only [reportDemand, h, Bool.not_false, Bool.true_and, Bool.false_eq_true, if_false]

theorem demandLightDone_eq (ms : Nat) (fails : List (Nat × Nat)) :
    d.demandLightDone false 0 ms fails true = reportDemand ms fails (d.endLight.lightFails fails) := by
  refine Eq.trans ?_ (congrArg (fun e : Dev => reportDemand ms fails (e.lightFails fails)) looseStores_zero)
  rfl

theorem lightFails_one {u l : Nat} (hu : u < 480) : d.lightFails [(u, l)] = (false, (d.lightFail u l).2) := by
  obtain ⟨hbad, -⟩ := lightFail_of_core (d := d) (layer := l) hu
  exact Prod.ext ((Bool.false_or _).trans hbad) rfl

theorem demandLightDone_one {ms u l : Nat} (hu : u < 480) :
    d.demandLightDone false 0 ms [(u, l)] true = ((d.endLight.lightFail u l).2.lightResult false ms [(u, l)] 0).raise 135 := by
  rw [demandLightDone_eq, lightFails_one hu, reportDemand_of_failed _ (List.isEmpty_cons ..)]

theorem getBits_raise (n : Nat) : getBits ((d.raise n).reg ⟨.INT_PEND_SET_k, 0, n / 64, 0⟩) (n % 64) (n % 64) = 1 := by
  have hn : n % 64 < 64 := Nat.mod_lt _ (by decide)
  rw [raise, reg_setReg_self, getBits_setBits_self _ _ _ _ le_rfl hn]
  simp

theorem gf_raise (n : Nat) {f : Fld} (u i j : Nat) (h : f.reg ≠ .INT_PEND_SET_k) : (d.raise n).gf f u i j = d.gf f u i j := by
  rw [gf, raise, reg_setReg_ne d _ (by simp [h]), gf]

end Dev

/-- A First Light that passes completes the start. -/
theorem completes_firstLightDone_pass (ms el : Nat) :
    Completes (.firstLightDone ms [] true el) (fun d => d.boot.step = .firstLight ∧ d.boot.coldNext = false
        ∧ d.occulted = false) fun _ e =>
        e.boot.step = .ready ∧ e.gf F.BOOT_STAT.READY = 1 ∧ e.gf F.BOOT_STAT.STATE = 6 ∧ e.boot.warmRecord = true
          ∧ e.gf F.BOOT_STAT.WARM_RECORD = 1 ∧ e.gf F.BOOT_LAST_START.DURATION_MS = el % 2 ^ 32 ∧ e.safe.unplanned = false
          ∧ e.gf F.SAFE_FL_STAT.STATE = 2 ∧ e.gf F.SAFE_FL_STAT.CODE = Code.FIRST_LIGHT_PASS := by
  refine .of_upd (f := fun d => d.firstLightDone ms [] true el) (fun _ => rfl) fun d ⟨hs, hc, ho⟩ => ?_
  obtain ⟨form, hform⟩ := Dev.startLightDone_pass (ms := ms) (el := el) hc ho
  have he : d.firstLightDone ms [] true el = (d.lightResult true ms [] form).startComplete el := (if_pos hs).trans hform
  rw [he]
  have hstate : (d.lightResult true ms [] form).gf F.SAFE_FL_STAT.STATE = 2 := by
    rw [Dev.lightResult_pass, Dev.gf_logAt _ _ _ _ _ _ _ _ _ (by decide),
      Dev.gf_sf_of_disjoint _ _ _ _ _ _ _ _ _ _ (by decide) (by decide) (by decide), Dev.gf_showLight_state]
    rfl
  have hcode : (d.lightResult true ms [] form).gf F.SAFE_FL_STAT.CODE = Code.FIRST_LIGHT_PASS := by
    rw [Dev.lightResult_pass, Dev.gf_logAt _ _ _ _ _ _ _ _ _ (by decide)]
    exact Dev.gf_sf_self _ _ _ _ _ _ (by decide) (by decide)
  generalize d.lightResult true ms [] form = m at hstate hcode ⊢
  have haside := m.aside_startComplete el
  obtain ⟨hstep, hwarm⟩ := m.completed_boot el
  rw [haside.boot, haside.unplanned, haside.gf rfl, haside.gf rfl, haside.gf rfl, haside.gf rfl, haside.gf rfl, haside.gf rfl,
    Dev.gf_completed_ready, Dev.gf_completed_state, Dev.gf_completed_warmRecord, Dev.gf_completed_duration, Dev.gf_completed_light el rfl,
    Dev.gf_completed_light el rfl]
  exact ⟨hstep, rfl, rfl, hwarm, rfl, rfl, m.completed_unplanned el, hstate, hcode⟩

/-- A First Light of a cold start whose reference set is wrong fails the start. -/
theorem completes_firstLightDone_refset (ms : Nat) (fs : List (Nat × Nat)) (el : Nat) :
    Completes (.firstLightDone ms fs false el) (fun d => d.boot.step = .firstLight ∧ d.boot.kind = .cold) fun _ e =>
        e.boot.step = .failed ∧ e.gf F.BOOT_STAT.FAIL_CODE = Code.BOOT_FAILED ∧ e.gf F.SAFE_FL_STAT.STATE = 3
          ∧ e.gf F.SAFE_FL_STAT.CODE = (if fs = [] then Code.FIRST_LIGHT_REFSET_INVALID else Code.FIRST_LIGHT_FAIL) := by
  refine .of_upd (f := fun d => d.firstLightDone ms fs false el) (fun _ => rfl) fun d ⟨hs, hk⟩ => ?_
  obtain ⟨form, hform⟩ := Dev.startLightDone_refset (d := d) (ms := ms) (el := el) (fails := fs)
  have he : d.firstLightDone ms fs false el = (d.refsetInvalid.lightResult false ms fs form).startFail Code.BOOT_FAILED :=
    (if_pos hs).trans hform
  have hk' : (d.refsetInvalid.lightResult false ms fs form).boot.kind = .cold := by
    rw [Dev.boot_lightResult_fail, Dev.boot_refsetInvalid, hk]
  rw [he]
  refine ⟨Dev.startFail_step _ hk', Dev.gf_startFail_failCode _ hk', ?_, ?_⟩
  · rw [Dev.gf_startFail_light _ hk' rfl, Dev.gf_lightResult_fail _ _ _ (by decide), Dev.gf_showLight_state]
    rfl
  · rw [Dev.gf_startFail_light _ hk' rfl, Dev.gf_lightResult_fail_code, Dev.gf_refsetInvalid_code]

/-- A First Light on demand names the engine that fails it. -/
theorem completes_firstLightDone_demand (ms : Nat) (u : Fin 320) (l el : Nat) :
    Completes (.firstLightDone ms [(u.val, l)] true el) (fun d => d.boot.step ≠ .firstLight
        ∧ d.safe.firstLight = some (false, 0)) fun _ e =>
        e.safe.firstLight = none ∧ e.gf F.SAFE_FL_STAT.STATE = 3 ∧ e.gf F.SAFE_FL_STAT.FAIL_UNIT = u.val
          ∧ getBits (e.reg ⟨.INT_PEND_SET_k, 0, 2, 0⟩) 7 7 = 1 := by
  refine .of_upd (f := fun d => d.firstLightDone ms [(u.val, l)] true el) (fun _ => rfl) fun d ⟨hs, hl⟩ => ?_
  have hu : u.val < 480 := by omega
  have he : d.firstLightDone ms [(u.val, l)] true el = d.demandLightDone false 0 ms [(u.val, l)] true := by
    unfold Dev.firstLightDone
    rw [if_neg hs, hl]
  obtain ⟨-, haside⟩ := Dev.lightFail_of_core (d := d.endLight) (layer := l) hu
  rw [he, Dev.demandLightDone_one hu]
  refine ⟨?_, ?_, ?_, Dev.getBits_raise 135⟩
  · rw [Dev.raise_safe, Dev.safe_lightResult_fail, haside.firstLight]
    rfl
  · rw [Dev.gf_raise _ _ _ _ (by decide), Dev.gf_lightResult_fail _ _ _ (by decide), Dev.gf_showLight_state]
    rfl
  · rw [Dev.gf_raise _ _ _ _ (by decide), Dev.gf_lightResult_fail _ _ _ (by decide), Dev.gf_showLight_failUnit]
    exact Nat.mod_eq_of_lt (by simpa using by omega)

end Sys2Proof.Machine
end

/-! PROOFS. O29, the Firmware step. `FlashKept` says what reports and the mirror of the boot control record leave: the start's own
state, the records read from the flash, and the fields in which the step shows its results. -/

section
namespace Sys2Proof.Machine

open Sys2Proof

/-- What the always-on domain holds for the flash, but for the settings in the Ephemeris SRAM and their pending records. -/
def EphSt.flash (e : EphSt) : EphSt := { e with sram := [], pending := [] }

/-- What of an Ephemeris state does not depend on its settings is that of every state with the same flash. -/
theorem EphSt.eq_of_flash {α : Type} {a b : EphSt} (g : EphSt → α) (hg : ∀ x : EphSt, g x.flash = g x) (h : a.flash = b.flash) :
    g a = g b := (hg a).symm.trans ((congrArg g h).trans (hg b))

/-- The flash with an owner that has been in force, and with records read from it. -/
def EphSt.setOwner (x : EphSt) (owner : Option Nat) : EphSt := { x with lastOwner := owner }

def EphSt.setRecords (x : EphSt) (r : Option SecRecords) : EphSt := { x with records := r.getD x.records }

theorem EphSt.flash_setOwner (x : EphSt) (owner : Option Nat) : (x.setOwner owner).flash = x.flash.setOwner owner := rfl

theorem EphSt.flash_setRecords (x : EphSt) (r : Option SecRecords) : (x.setRecords r).flash = x.flash.setRecords r := rfl

theorem EphSt.records_of_flash {a b : EphSt} (h : a.flash = b.flash) : a.records = b.records :=
  EphSt.eq_of_flash EphSt.records (fun _ => rfl) h

theorem Dev.flash_setReg (d : Dev) (k : RegKey) (v : Word) : (d.setReg k v).eph.flash = d.eph.flash := by
  show (d.noted k v).flash = d.eph.flash
  unfold Dev.noted
  extract_lets new setting old
  split
  · rfl
  split
  · rfl
  · rfl

/-- Fields in which the Firmware step shows its results. -/
def shownFields : List Fld :=
  [F.SEC_FLOOR.FW_FLOOR, F.SEC_ALM_FLOOR.FLOOR, F.BOOT_FW_STAT.RUNNING, F.BOOT_FW_STAT.ALMANAC_SLOT, F.BOOT_ALMANAC_SEQ.SEQUENCE]

/-- The Firmware step's state is in `e` as it is in `d`. -/
structure FlashKept (d e : Dev) : Prop where
  boot : e.boot = d.boot
  sec : e.sec = d.sec
  power : e.power = d.power
  rootKeyId : e.rootKeyId = d.rootKeyId
  flash : e.eph.flash = d.eph.flash
  fields : ∀ g ∈ shownFields, e.gf g = d.gf g

namespace FlashKept

variable {d e : Dev}

theorem refl (d : Dev) : FlashKept d d := ⟨rfl, rfl, rfl, rfl, rfl, fun _ _ => rfl⟩

theorem trans {e' : Dev} (h : FlashKept d e) (h' : FlashKept e e') : FlashKept d e' :=
  ⟨h'.boot.trans h.boot, h'.sec.trans h.sec, h'.power.trans h.power, h'.rootKeyId.trans h.rootKeyId, h'.flash.trans h.flash,
    fun g hg => (h'.fields g hg).trans (h.fields g hg)⟩

theorem sf (h : FlashKept d e) {f : Fld} {v u i j : Nat} (hw : f.lo ≤ f.hi ∧ f.hi < 64 := by decide)
    (hf : ∀ g ∈ shownFields, g.reg ≠ f.reg ∨ g.hi < f.lo ∨ f.hi < g.lo := by decide) : FlashKept d (e.sf f v u i j) := by
  obtain ⟨hlo, hhi⟩ := hw
  refine ⟨(e.sf_boot ..).trans h.boot, (e.sf_sec ..).trans h.sec, (e.sf_power ..).trans h.power,
    (e.sf_rootKeyId ..).trans h.rootKeyId, (e.flash_setReg _ _).trans h.flash, fun g hg => ?_⟩
  refine Eq.trans ?_ (h.fields g hg)
  rcases hf g hg with hne | hd
  · exact Dev.gf_sf_of_reg_ne _ _ _ _ _ _ _ _ _ _ hne
  · exact Dev.gf_sf_of_disjoint _ _ _ _ _ _ _ _ _ _ hlo hhi hd

theorem logAt (h : FlashKept d e) {code die unit d0 d1 : Nat} : FlashKept d (e.logAt code die unit d0 d1) := by
  have hg : ∀ g ∈ shownFields, Part.reg g.reg ∉ logParts := by decide
  have hroot : (e.logAt code die unit d0 d1).rootKeyId = e.rootKeyId :=
    (e.only_logAt code die unit d0 d1).2 .rootKeyId (by decide) (by simp)
  exact ⟨(e.logAt_boot ..).trans h.boot, (e.logAt_sec ..).trans h.sec, (e.logAt_power ..).trans h.power, hroot.trans h.rootKeyId,
    (congrArg EphSt.flash (e.logAt_eph ..)).trans h.flash, fun g hm => (e.gf_logAt _ _ _ _ _ _ _ _ (hg g hm)).trans (h.fields g hm)⟩

theorem logSec (h : FlashKept d e) {code d0 d1 : Nat} : FlashKept d (e.logSec code d0 d1) := h.sf.logAt

theorem logBoot (h : FlashKept d e) {code d0 d1 : Nat} : FlashKept d (e.logBoot code d0 d1) := h.sf.logAt

theorem mirrorFw (h : FlashKept d e) : FlashKept d e.mirrorFw := h.sf.sf.sf.sf.sf.sf.sf

theorem ite {c : Prop} [Decidable c] {a b : Dev} (ha : FlashKept d a) (hb : FlashKept d b) : FlashKept d (if c then a else b) := by
  split
  · exact ha
  · exact hb

theorem foldl {α : Type} {f : Dev → α → Dev} {l : List α} (h : FlashKept d e)
    (hf : ∀ e x, FlashKept d e → FlashKept d (f e x)) : FlashKept d (l.foldl f e) :=
  List.foldlRecOn l f h fun e he x _ => hf e x he

theorem records (h : FlashKept d e) : e.eph.records = d.eph.records := EphSt.records_of_flash h.flash

end FlashKept

namespace Dev

variable {d e : Dev}

/-! ### What verifies depends on the records and the root alone -/

theorem itemFault_congr (h : e.eph.records = d.eph.records) (hr : e.rootKeyId = d.rootKeyId) : e.itemFault = d.itemFault := by
  funext kind may s
  simp only [itemFault, h, hr]

theorem ownerCert_congr (h : e.eph.records = d.eph.records) (hr : e.rootKeyId = d.rootKeyId) : e.ownerCert = d.ownerCert := by
  simp only [ownerCert, h, hr]

theorem floorAmong_congr (h : e.eph.records = d.eph.records) (hr : e.rootKeyId = d.rootKeyId) : e.floorAmong = d.floorAmong := by
  funext l kind
  simp only [floorAmong, floorOk, itemFault_congr h hr, ownerCert_congr h hr]

theorem floorOf_congr (h : e.eph.records = d.eph.records) (hr : e.rootKeyId = d.rootKeyId) : e.floorOf = d.floorOf := by
  funext kind
  simp only [floorOf, floorAmong_congr h hr, h]

/-! ### The security records -/

/-- The records of the floor log that do not verify are reported. -/
def checkFloors (d : Dev) : Dev :=
  (d.eph.records.floors.filter fun e => !d.floorOk e.2).foldl
    (fun d e => d.logSec Code.SEC_FLOOR_RECORD_INVALID e.1 e.2.floor) d

theorem flashKept_checkFloors : FlashKept d d.checkFloors := (FlashKept.refl d).foldl fun _ _ h => h.logSec

/-- The floors of some records are shown. -/
def showFloors (d : Dev) (l : List FloorRec) : Dev :=
  (d.sf F.SEC_FLOOR.FW_FLOOR (d.floorAmong l 1)).sf F.SEC_ALM_FLOOR.FLOOR (d.floorAmong l 2)

/-- The owner in force is taken. -/
def takeOwner (d : Dev) : Dev :=
  let owner : Option Nat := d.ownerCert.map fun (c : Cert) => c.pair.id
  { d with
    sec := { d.sec with owner := owner }, eph := { d.eph with lastOwner := owner }
    boot := { d.boot with ownerChanged := decide (owner ≠ d.eph.lastOwner) } }

theorem flashKept_readSecurity (r : FlashRead) :
    FlashKept (((d.readRecords r.records).checkFloors.showFloors
      ((d.readRecords r.records).eph.records.floors.map fun e => e.2)).takeOwner) (d.readSecurity r) :=
  .ite (FlashKept.refl _).sf.logSec (FlashKept.refl _).sf

/-- KEY_ID of the owner that the records name. -/
def ownerId (d : Dev) : Option Nat := d.ownerCert.map fun (c : Cert) => c.pair.id

/-- In `e` the records of `f` have been read and judged: the owner and the floors are those of `f`. -/
structure SecurityRead (d f e : Dev) : Prop where
  boot : e.boot = { d.boot with ownerChanged := decide (f.ownerId ≠ d.eph.lastOwner) }
  owner : e.sec.owner = f.ownerId
  power : e.power = d.power
  rootKeyId : e.rootKeyId = f.rootKeyId
  flash : e.eph.flash = f.eph.flash.setOwner f.ownerId
  fwFloor : e.gf F.SEC_FLOOR.FW_FLOOR = f.floorOf 1 % 2 ^ 32
  almFloor : e.gf F.SEC_ALM_FLOOR.FLOOR = f.floorOf 2 % 2 ^ 64

theorem takeOwner_boot :
    d.takeOwner.boot = { d.boot with ownerChanged := decide (d.ownerId ≠ d.eph.lastOwner) } := rfl

theorem takeOwner_owner : d.takeOwner.sec.owner = d.ownerId := rfl

theorem takeOwner_power : d.takeOwner.power = d.power := rfl

theorem takeOwner_rootKeyId : d.takeOwner.rootKeyId = d.rootKeyId := rfl

theorem takeOwner_flash : d.takeOwner.eph.flash = d.eph.flash.setOwner d.ownerId := rfl

theorem gf_takeOwner (f : Fld) (u i j : Nat) : d.takeOwner.gf f u i j = d.gf f u i j := rfl

theorem ownerId_congr (h : e.eph.records = d.eph.records) (hr : e.rootKeyId = d.rootKeyId) : e.ownerId = d.ownerId := by
  rw [ownerId, ownerCert_congr h hr, ownerId]

theorem flash_showFloors (l : List FloorRec) : (d.showFloors l).eph.flash = d.eph.flash :=
  (flash_setReg _ _ _).trans (flash_setReg _ _ _)

theorem gf_showFloors_fw (l : List FloorRec) : (d.showFloors l).gf F.SEC_FLOOR.FW_FLOOR = d.floorAmong l 1 % 2 ^ 32 := by
  rw [showFloors, gf_sf_of_reg_ne _ _ _ _ _ _ _ _ _ _ (by decide)]
  exact gf_sf_self _ _ _ _ _ _ (by decide) (by decide)

theorem gf_showFloors_alm (l : List FloorRec) : (d.showFloors l).gf F.SEC_ALM_FLOOR.FLOOR = d.floorAmong l 2 % 2 ^ 64 :=
  gf_sf_self _ _ _ _ _ _ (by decide) (by decide)

theorem securityRead (r : FlashRead) : SecurityRead d (d.readRecords r.records) (d.readSecurity r) := by
  have hlast : (d.readRecords r.records).eph.lastOwner = d.eph.lastOwner := rfl
  have hboot : (d.readRecords r.records).boot = d.boot := rfl
  have hpower : (d.readRecords r.records).power = d.power := rfl
  have hread := d.flashKept_readSecurity r
  generalize d.readRecords r.records = f at hlast hboot hpower hread ⊢
  have hcheck := flashKept_checkFloors (d := f)
  generalize f.checkFloors = c at hcheck hread
  generalize hl : (f.eph.records.floors.map fun e => e.2) = l at hread
  have hflash : (c.showFloors l).eph.flash = f.eph.flash := (flash_showFloors l).trans hcheck.flash
  have hroot : (c.showFloors l).rootKeyId = f.rootKeyId := by rw [showFloors, sf_rootKeyId, sf_rootKeyId, hcheck.rootKeyId]
  have hshowBoot : (c.showFloors l).boot = d.boot := by rw [showFloors, sf_boot, sf_boot, hcheck.boot, hboot]
  have hshowPower : (c.showFloors l).power = d.power := by rw [showFloors, sf_power, sf_power, hcheck.power, hpower]
  have hid : (c.showFloors l).ownerId = f.ownerId := ownerId_congr (EphSt.records_of_flash hflash) hroot
  have hfloor : ∀ kind, c.floorAmong l kind = f.floorOf kind := fun kind => by
    rw [floorAmong_congr hcheck.records hcheck.rootKeyId, floorOf, hl]
  have hfw := c.gf_showFloors_fw l
  have halm := c.gf_showFloors_alm l
  generalize c.showFloors l = m at hread hflash hroot hshowBoot hshowPower hid hfw halm
  refine ⟨?_, ?_, ?_, ?_, ?_, ?_, ?_⟩
  · rw [hread.boot, takeOwner_boot, hid, hshowBoot, EphSt.eq_of_flash EphSt.lastOwner (fun _ => rfl) hflash, hlast]
  · rw [hread.sec, takeOwner_owner, hid]
  · rw [hread.power, takeOwner_power, hshowPower]
  · rw [hread.rootKeyId, takeOwner_rootKeyId, hroot]
  · rw [hread.flash, takeOwner_flash, hid, hflash]
  · rw [hread.fields _ (by decide), gf_takeOwner, hfw, hfloor]
  · rw [hread.fields _ (by decide), gf_takeOwner, halm, hfloor]

end Dev

end Sys2Proof.Machine
end

/-! PROOFS. O29, the firmware slot and the Almanac that a start takes. -/

section
namespace Sys2Proof.Machine

open Sys2Proof

namespace Dev

variable {d e f : Dev}

/-! ### Slots -/

/-- The device with the state and the tries of a slot, not yet shown. -/
def putSlot (d : Dev) (b : Bool) (st tries : Nat) : Dev :=
  { d with eph := if b then { d.eph with stateB := st, triesB := tries } else { d.eph with stateA := st, triesA := tries } }

theorem flashKept_setSlot (b : Bool) (st tries : Nat) : FlashKept (d.putSlot b st tries) (d.setSlot b st tries) :=
  (FlashKept.refl _).mirrorFw

/-- The image of a slot is started. -/
def runSlot (d : Dev) (b : Bool) : Dev :=
  { d with boot := { d.boot with image := d.slotImage b } }.sf F.BOOT_FW_STAT.RUNNING (if b then 1 else 0)

/-- A TRIAL slot that starts uses one of its tries. -/
def useTry (d : Dev) (b : Bool) (st tries : Nat) : Dev := if st = 1 then d.setSlot b 1 (tries - 1) else d

theorem slotState_congr (h : e.eph.flash = d.eph.flash) (b : Bool) : e.slotState b = d.slotState b := by
  cases b
  · exact EphSt.eq_of_flash (fun x => (x.stateA, x.triesA)) (fun _ => rfl) h
  · exact EphSt.eq_of_flash (fun x => (x.stateB, x.triesB)) (fun _ => rfl) h

theorem slotImage_congr (h : e.eph.flash = d.eph.flash) (b : Bool) : e.slotImage b = d.slotImage b := by
  cases b
  · exact EphSt.eq_of_flash EphSt.slotA (fun _ => rfl) h
  · exact EphSt.eq_of_flash EphSt.slotB (fun _ => rfl) h

theorem imageFault_of_startable {x : FwImage} (h : f.startable x = true) (hrec : e.eph.records = f.eph.records)
    (hroot : e.rootKeyId = f.rootKeyId) (hfloor : e.gf F.SEC_FLOOR.FW_FLOOR ≤ f.floorOf 1) : e.imageFault (some x) = none := by
  simp only [startable, Bool.and_eq_true, decide_eq_true_eq] at h
  obtain ⟨⟨hsig, hfits⟩, hsvn⟩ := h
  have hlow : ¬ x.svn < e.fwFloor := Nat.not_lt.mpr (hfloor.trans hsvn)
  simp only [imageFault, itemFault_congr hrec hroot, hsig, hfits, hlow, Bool.not_true, Bool.false_eq_true, if_false]

theorem trySlot_starts {b : Bool} {st tries : Nat} (hst : d.slotState b = (st, tries)) (hmay : st = 2 ∨ (st = 1 ∧ 0 < tries))
    (hfault : d.imageFault (d.slotImage b) = none) : d.trySlot b = (true, (d.useTry b st tries).runSlot b) := by
  unfold trySlot
  rw [hst]
  dsimp -zeta only
  rw [if_pos hmay, hfault]
  rfl

theorem trySlot_empty {b : Bool} (himg : d.slotImage b = none) : (d.trySlot b).1 = false ∧ FlashKept d (d.trySlot b).2 := by
  have hfault : d.imageFault (d.slotImage b) = some Code.SEC_SIG_FAIL := by rw [himg]; rfl
  unfold trySlot
  obtain ⟨st, tries⟩ := d.slotState b
  dsimp -zeta only
  split
  · rw [hfault]
    exact ⟨rfl, (FlashKept.refl d).logSec⟩
  · exact ⟨rfl, FlashKept.refl d⟩

theorem chooseFirmware_active {b : Bool} (hb : d.eph.activeB = b) (h : d.trySlot b = (true, e)) : d.chooseFirmware = (true, e) := by
  simp only [chooseFirmware, hb, h, if_true]

theorem chooseFirmware_other {b : Bool} {m : Dev} (hb : d.eph.activeB = b) (h : d.trySlot b = (false, m))
    (ho : (m.setSlot b 3 0).trySlot (!b) = (true, e)) :
    d.chooseFirmware = (true, e.logBoot Code.BOOT_FW_FALLBACK (if b then 0x800000 else 0x2000000) 0) := by
  simp only [chooseFirmware, hb, h, ho, Bool.false_eq_true, if_false, if_true]

theorem chooseFirmware_none {b : Bool} {m : Dev} (hb : d.eph.activeB = b) (h : d.trySlot b = (false, m))
    (ho : (m.setSlot b 3 0).trySlot (!b) = (false, e)) :
    d.chooseFirmware = (false, (e.logBoot Code.BOOT_NO_FIRMWARE 0 0).toRecovery) := by
  simp only [chooseFirmware, hb, h, ho, Bool.false_eq_true, if_false]

/-! ### The Almanac -/

theorem flashKept_logAlmanac (b : Bool) (x : Option Almanac) : FlashKept d (d.logAlmanac b x) := by
  unfold logAlmanac
  split
  · split
    · exact (FlashKept.refl d).logSec
    · exact .refl d
  · exact .refl d

/-- The refusals of both Almanac slots are reported. -/
def logAlmanacs (d : Dev) (r : FlashRead) : Dev := (d.logAlmanac false r.almanacA).logAlmanac true r.almanacB

theorem flashKept_logAlmanacs (r : FlashRead) : FlashKept d (d.logAlmanacs r) :=
  (flashKept_logAlmanac _ _).trans (flashKept_logAlmanac _ _)

/-- An Almanac of a slot is chosen. -/
def takeAlmanac (d : Dev) (a : Almanac) (b : Bool) : Dev :=
  (({ d with boot := { d.boot with almanac := some a } }.sf F.BOOT_FW_STAT.ALMANAC_SLOT (if b then 1 else 0)).sf
    F.BOOT_ALMANAC_SEQ.SEQUENCE a.sequence).sf F.BOOT_LAST_START.ALMANAC_ENTRIES a.entries.length

/-- The start goes on without an Almanac. -/
def noAlmanac (d : Dev) : Dev := { d with boot := { d.boot with almanac := none } }.sf F.BOOT_STAT.NO_ALMANAC 1

/-- An Almanac of this device is accepted. -/
def acceptsAlmanac (d : Dev) (a : Almanac) : Bool := (d.almanacFault a).isNone && almanacOk (d.gf F.SEC_ALM_FLOOR.FLOOR) a

theorem acceptsAlmanac_congr {y : Almanac} (hrec : e.eph.records = f.eph.records) (hroot : e.rootKeyId = f.rootKeyId)
    (hown : e.sec.owner = f.ownerId) (hfloor : e.gf F.SEC_ALM_FLOOR.FLOOR = f.floorOf 2) :
    e.acceptsAlmanac y = ((f.itemFault 2 (almanacSigner f.ownerCert.isSome) y.sig).isNone && almanacOk (f.floorOf 2) y) := by
  have hsome : e.sec.owner.isSome = f.ownerCert.isSome := by rw [hown, ownerId, Option.isSome_map]
  rw [acceptsAlmanac, almanacFault, itemFault_congr hrec hroot, hsome, hfloor]

theorem readAlmanac_chosen {r : FlashRead} {a : Almanac} {b : Bool}
    (h : chooseAlmanac (d.logAlmanacs r).acceptsAlmanac r.almanacA r.almanacB = (some (a, b), false)) :
    d.readAlmanac r = (d.logAlmanacs r).takeAlmanac a b := by
  unfold acceptsAlmanac logAlmanacs at h
  simp only [readAlmanac, h, Bool.false_eq_true, if_false]
  rfl

end Dev

/-- What the choice of an Almanac leaves of the Firmware step's result. -/
structure SlotKept (d e : Dev) : Prop where
  coldNext : e.boot.coldNext = d.boot.coldNext
  flash : e.eph.flash = d.eph.flash
  running : e.gf F.BOOT_FW_STAT.RUNNING = d.gf F.BOOT_FW_STAT.RUNNING

theorem FlashKept.slotKept {d e : Dev} (h : FlashKept d e) : SlotKept d e :=
  ⟨congrArg BootSt.coldNext h.boot, h.flash, h.fields _ (by decide)⟩

theorem SlotKept.ite {d : Dev} {c : Prop} [Decidable c] {a b : Dev} (ha : SlotKept d a) (hb : SlotKept d b) :
    SlotKept d (if c then a else b) := by
  split
  · exact ha
  · exact hb

theorem SlotKept.trans {d e e' : Dev} (h : SlotKept d e) (h' : SlotKept e e') : SlotKept d e' :=
  ⟨h'.coldNext.trans h.coldNext, h'.flash.trans h.flash, h'.running.trans h.running⟩

namespace Dev

variable {d e f : Dev}

theorem slotKept_takeAlmanac (a : Almanac) (b : Bool) : SlotKept d (d.takeAlmanac a b) := by
  refine ⟨?_, ?_, ?_⟩
  · rw [takeAlmanac, sf_boot, sf_boot, sf_boot]
  · exact (flash_setReg _ _ _).trans ((flash_setReg _ _ _).trans (flash_setReg _ _ _))
  · simp (disch := decide) only [takeAlmanac, gf_sf_of_reg_ne, gf_sf_of_disjoint]
    rfl

theorem slotKept_noAlmanac : SlotKept d d.noAlmanac := by
  refine ⟨?_, flash_setReg _ _ _, ?_⟩
  · rw [noAlmanac, sf_boot]
  · exact gf_sf_of_reg_ne _ _ _ _ _ _ _ _ _ _ (by decide)

theorem slotKept_readAlmanac (r : FlashRead) : SlotKept d (d.readAlmanac r) := by
  have hlog := (flashKept_logAlmanacs (d := d) r).slotKept
  unfold readAlmanac
  extract_lets m
  change SlotKept d m at hlog
  clear_value m
  split
  · next a b fell _ =>
    have htake : SlotKept d (m.takeAlmanac a b) := hlog.trans (slotKept_takeAlmanac a b)
    exact .ite (htake.trans (FlashKept.refl _).logBoot.slotKept) htake
  · exact (hlog.trans slotKept_noAlmanac).trans (FlashKept.refl _).logBoot.slotKept

theorem takeAlmanac_boot (a : Almanac) (b : Bool) : (d.takeAlmanac a b).boot = { d.boot with almanac := some a } := by
  rw [takeAlmanac, sf_boot, sf_boot, sf_boot]

theorem takeAlmanac_sec (a : Almanac) (b : Bool) : (d.takeAlmanac a b).sec = d.sec := by
  rw [takeAlmanac, sf_sec, sf_sec, sf_sec]

theorem gf_takeAlmanac_slot (a : Almanac) (b : Bool) :
    (d.takeAlmanac a b).gf F.BOOT_FW_STAT.ALMANAC_SLOT = if b then 1 else 0 := by
  rw [takeAlmanac, gf_sf_of_reg_ne _ _ _ _ _ _ _ _ _ _ (by decide), gf_sf_of_reg_ne _ _ _ _ _ _ _ _ _ _ (by decide),
    gf_sf_self _ _ _ _ _ _ (by decide) (by decide)]
  cases b <;> rfl

theorem gf_takeAlmanac_sequence (a : Almanac) (b : Bool) :
    (d.takeAlmanac a b).gf F.BOOT_ALMANAC_SEQ.SEQUENCE = a.sequence % 2 ^ 64 := by
  rw [takeAlmanac, gf_sf_of_reg_ne _ _ _ _ _ _ _ _ _ _ (by decide)]
  exact gf_sf_self _ _ _ _ _ _ (by decide) (by decide)

theorem gf_takeAlmanac_floors (a : Almanac) (b : Bool) :
    (d.takeAlmanac a b).gf F.SEC_FLOOR.FW_FLOOR = d.gf F.SEC_FLOOR.FW_FLOOR
      ∧ (d.takeAlmanac a b).gf F.SEC_ALM_FLOOR.FLOOR = d.gf F.SEC_ALM_FLOOR.FLOOR := by
  simp (disch := decide) only [takeAlmanac, gf_sf_of_reg_ne]
  exact ⟨rfl, rfl⟩

/-! ### The slot that starts -/

theorem runSlot_boot (b : Bool) : (d.runSlot b).boot = { d.boot with image := d.slotImage b } := by
  rw [runSlot, sf_boot]

theorem runSlot_sec (b : Bool) : (d.runSlot b).sec = d.sec := by
  rw [runSlot, sf_sec]

theorem runSlot_rootKeyId (b : Bool) : (d.runSlot b).rootKeyId = d.rootKeyId := by
  rw [runSlot, sf_rootKeyId]

theorem runSlot_flash (b : Bool) : (d.runSlot b).eph.flash = d.eph.flash := flash_setReg _ _ _

theorem gf_runSlot_running (b : Bool) : (d.runSlot b).gf F.BOOT_FW_STAT.RUNNING = if b then 1 else 0 := by
  rw [runSlot, gf_sf_self _ _ _ _ _ _ (by decide) (by decide)]
  cases b <;> rfl

theorem gf_runSlot_floors (b : Bool) :
    (d.runSlot b).gf F.SEC_FLOOR.FW_FLOOR = d.gf F.SEC_FLOOR.FW_FLOOR
      ∧ (d.runSlot b).gf F.SEC_ALM_FLOOR.FLOOR = d.gf F.SEC_ALM_FLOOR.FLOOR := by
  simp (disch := decide) only [runSlot, gf_sf_of_reg_ne]
  exact ⟨rfl, rfl⟩

theorem putSlot_boot (b : Bool) (st tries : Nat) : (d.putSlot b st tries).boot = d.boot := rfl

theorem slotState_putSlot (b : Bool) (st tries : Nat) : (d.putSlot b st tries).slotState b = (st, tries) := by
  cases b <;> rfl

theorem slotState_putSlot_not (b : Bool) (st tries : Nat) : (d.putSlot b st tries).slotState (!b) = d.slotState (!b) := by
  cases b <;> rfl

theorem slotImage_putSlot (b b' : Bool) (st tries : Nat) : (d.putSlot b st tries).slotImage b' = d.slotImage b' := by
  cases b <;> cases b' <;> rfl

theorem records_putSlot (b : Bool) (st tries : Nat) : (d.putSlot b st tries).eph.records = d.eph.records := by
  cases b <;> rfl

theorem activeB_putSlot (b : Bool) (st tries : Nat) : (d.putSlot b st tries).eph.activeB = d.eph.activeB := by
  cases b <;> rfl

theorem putSlot_self {b : Bool} {st tries : Nat} (h : d.slotState b = (st, tries)) : d.putSlot b st tries = d := by
  cases b
  · obtain ⟨rfl, rfl⟩ := Prod.mk.inj h
    rfl
  · obtain ⟨rfl, rfl⟩ := Prod.mk.inj h
    rfl

/-- The tries that a slot has left once it has started. -/
def triesLeft (st tries : Nat) : Nat := if st = 1 then tries - 1 else tries

theorem flashKept_useTry {b : Bool} {st tries : Nat} (h : d.slotState b = (st, tries)) :
    FlashKept (d.putSlot b st (triesLeft st tries)) (d.useTry b st tries) := by
  unfold useTry triesLeft
  by_cases hst : st = 1
  · rw [if_pos hst, if_pos hst, hst]
    exact flashKept_setSlot ..
  · rw [if_neg hst, if_neg hst, putSlot_self h]
    exact .refl d

/-- In `e` the image of a slot of `d` has been started, with a number of tries left. -/
structure SlotRuns (d : Dev) (b : Bool) (st tries : Nat) (e : Dev) : Prop where
  boot : e.boot = { d.boot with image := d.slotImage b }
  sec : e.sec = d.sec
  rootKeyId : e.rootKeyId = d.rootKeyId
  flash : e.eph.flash = (d.putSlot b st tries).eph.flash
  running : e.gf F.BOOT_FW_STAT.RUNNING = if b then 1 else 0
  fwFloor : e.gf F.SEC_FLOOR.FW_FLOOR = d.gf F.SEC_FLOOR.FW_FLOOR
  almFloor : e.gf F.SEC_ALM_FLOOR.FLOOR = d.gf F.SEC_ALM_FLOOR.FLOOR

theorem slotRuns_runSlot {b : Bool} {st tries : Nat} (h : FlashKept (d.putSlot b st tries) e) :
    SlotRuns d b st tries (e.runSlot b) := by
  obtain ⟨hfw, halm⟩ := e.gf_runSlot_floors b
  refine ⟨?_, ?_, ?_, ?_, gf_runSlot_running b, ?_, ?_⟩
  · rw [runSlot_boot, slotImage_congr h.flash, slotImage_putSlot, h.boot, putSlot_boot]
  · rw [runSlot_sec, h.sec]
    rfl
  · rw [runSlot_rootKeyId, h.rootKeyId]
    rfl
  · rw [runSlot_flash, h.flash]
  · rw [hfw, h.fields _ (by decide)]
    rfl
  · rw [halm, h.fields _ (by decide)]
    rfl

end Dev

end Sys2Proof.Machine
end

/-! PROOFS. O29, the end of the Firmware step, and O29 itself. -/

section
namespace Sys2Proof.Machine

open Sys2Proof

/-- The flash with the images that it holds. -/
def EphSt.setImages (x : EphSt) (r : FlashRead) : EphSt := { x with slotA := r.imageA, slotB := r.imageB }

theorem EphSt.setImages_setRecords (x : EphSt) (r : FlashRead) (q : Option SecRecords) :
    (x.setRecords q).setImages r = (x.setImages r).setRecords q := rfl

namespace Dev

variable {d e f : Dev}

/-- The device with the images that the flash holds. -/
def holdImages (d : Dev) (r : FlashRead) : Dev := { d with eph := d.eph.setImages r }

theorem holdImages_eph (r : FlashRead) : (d.holdImages r).eph = d.eph.setImages r := rfl

theorem readRecords_eph (r : Option SecRecords) : (d.readRecords r).eph = d.eph.setRecords r := rfl

theorem holdImages_rootKeyId (r : FlashRead) : (d.holdImages r).rootKeyId = d.rootKeyId := rfl

theorem readRecords_rootKeyId (r : Option SecRecords) : (d.readRecords r).rootKeyId = d.rootKeyId := rfl

theorem securityRead_mirrorFw (r : FlashRead) :
    SecurityRead d ((d.readRecords r.records).holdImages r) ((d.holdImages r).mirrorFw.readSecurity r) := by
  have hm : FlashKept (d.holdImages r) (d.holdImages r).mirrorFw := (FlashKept.refl _).mirrorFw
  have h := securityRead (d := (d.holdImages r).mirrorFw) r
  generalize (d.holdImages r).mirrorFw = m at hm h ⊢
  have hrec : (m.readRecords r.records).eph.records = ((d.readRecords r.records).holdImages r).eph.records :=
    congrArg (fun x => r.records.getD x) hm.records
  have hroot : (m.readRecords r.records).rootKeyId = ((d.readRecords r.records).holdImages r).rootKeyId := by
    rw [readRecords_rootKeyId, hm.rootKeyId, holdImages_rootKeyId, holdImages_rootKeyId, readRecords_rootKeyId]
  have hid := ownerId_congr hrec hroot
  have hfloor := floorOf_congr hrec hroot
  refine ⟨?_, ?_, ?_, ?_, ?_, ?_, ?_⟩
  · rw [h.boot, hid, hm.boot, EphSt.eq_of_flash EphSt.lastOwner (fun _ => rfl) hm.flash]
    rfl
  · rw [h.owner, hid]
  · rw [h.power, hm.power]
    rfl
  · rw [h.rootKeyId, hroot]
  · rw [h.flash, hid]
    rw [readRecords_eph, holdImages_eph, readRecords_eph, EphSt.setImages_setRecords, EphSt.flash_setRecords,
      EphSt.flash_setRecords, hm.flash, holdImages_eph]
  · rw [h.fwFloor, hfloor]
  · rw [h.almFloor, hfloor]

theorem firmwareDone_of_slot {r : FlashRead} (hs : d.boot.step = .firmware)
    (h : ((d.holdImages r).mirrorFw.readSecurity r).chooseFirmware = (true, e)) :
    d.firmwareDone r = (e.readAlmanac r).stepTo .ephemeris := by
  unfold firmwareDone
  rw [if_neg (by simp [hs])]
  extract_lets x m
  have hm : (m.readSecurity r).chooseFirmware = (true, e) := h
  rw [hm]
  exact if_pos rfl

theorem firmwareDone_of_none {r : FlashRead} (hs : d.boot.step = .firmware)
    (h : ((d.holdImages r).mirrorFw.readSecurity r).chooseFirmware = (false, e)) : d.firmwareDone r = e := by
  unfold firmwareDone
  rw [if_neg (by simp [hs])]
  extract_lets x m
  have hm : (m.readSecurity r).chooseFirmware = (false, e) := h
  rw [hm]
  exact if_neg Bool.false_ne_true

/-! ### The slots once the records have been read -/

theorem SecurityRead.get {d f e : Dev} {α : Type} (h : SecurityRead d f e) (g : EphSt → α) (hg : ∀ x : EphSt, g x.flash = g x)
    (ho : ∀ (x : EphSt) (o : Option Nat), g (x.setOwner o) = g x) : g e.eph = g f.eph :=
  (EphSt.eq_of_flash g hg (h.flash.trans (EphSt.flash_setOwner ..).symm)).trans (ho ..)

theorem ownerId_holdImages (r : FlashRead) : (d.holdImages r).ownerId = d.ownerId := ownerId_congr rfl (holdImages_rootKeyId r)

theorem floorOf_holdImages (r : FlashRead) : (d.holdImages r).floorOf = d.floorOf := floorOf_congr rfl (holdImages_rootKeyId r)

section
variable {r : FlashRead} (h : SecurityRead d ((d.readRecords r.records).holdImages r) e)
include h

theorem activeB_read : e.eph.activeB = d.eph.activeB := h.get EphSt.activeB (fun _ => rfl) fun _ _ => rfl

theorem records_read : e.eph.records = (d.readRecords r.records).eph.records := h.get EphSt.records (fun _ => rfl) fun _ _ => rfl

theorem slotState_read (b : Bool) : e.slotState b = d.slotState b := by
  cases b
  · exact h.get (fun x => (x.stateA, x.triesA)) (fun _ => rfl) fun _ _ => rfl
  · exact h.get (fun x => (x.stateB, x.triesB)) (fun _ => rfl) fun _ _ => rfl

theorem slotImage_read (b : Bool) : e.slotImage b = if b then r.imageB else r.imageA := by
  cases b
  · exact h.get EphSt.slotA (fun _ => rfl) fun _ _ => rfl
  · exact h.get EphSt.slotB (fun _ => rfl) fun _ _ => rfl

theorem rootKeyId_read : e.rootKeyId = (d.readRecords r.records).rootKeyId := h.rootKeyId.trans (holdImages_rootKeyId r)

theorem ownerId_read : e.sec.owner = (d.readRecords r.records).ownerId := by
  rw [h.owner, ownerId_holdImages]

theorem fwFloor_read : e.gf F.SEC_FLOOR.FW_FLOOR = (d.readRecords r.records).floorOf 1 % 2 ^ 32 := by
  rw [h.fwFloor, floorOf_holdImages]

theorem almFloor_read : e.gf F.SEC_ALM_FLOOR.FLOOR = (d.readRecords r.records).floorOf 2 % 2 ^ 64 := by
  rw [h.almFloor, floorOf_holdImages]

theorem imageFault_read {b : Bool} {x : FwImage} (himg : (if b then r.imageB else r.imageA) = some x)
    (hx : (d.readRecords r.records).startable x = true) : e.imageFault (e.slotImage b) = none := by
  rw [slotImage_read h, himg]
  refine imageFault_of_startable hx (records_read h) (rootKeyId_read h) ?_
  rw [fwFloor_read h]
  exact Nat.mod_le _ _

end

/-- The ACTIVE slot starts: what the Firmware step has noted by then. -/
theorem firmwareDone_active {r : FlashRead} {b : Bool} {x : FwImage} {st tries : Nat} (hs : d.boot.step = .firmware)
    (hb : d.eph.activeB = b) (hst : d.slotState b = (st, tries)) (hmay : st = 2 ∨ (st = 1 ∧ 0 < tries))
    (himg : (if b then r.imageB else r.imageA) = some x) (hx : (d.readRecords r.records).startable x = true) :
    ∃ m e, SecurityRead d ((d.readRecords r.records).holdImages r) m ∧ SlotRuns m b st (triesLeft st tries) e
      ∧ d.firmwareDone r = (e.readAlmanac r).stepTo .ephemeris := by
  have hread := d.securityRead_mirrorFw r
  have hdone := fun e => firmwareDone_of_slot (e := e) (r := r) hs
  generalize (d.holdImages r).mirrorFw.readSecurity r = m at hread hdone
  have hstate : m.slotState b = (st, tries) := (slotState_read hread b).trans hst
  have htry := trySlot_starts hstate hmay (imageFault_read hread himg hx)
  exact ⟨m, _, hread, slotRuns_runSlot (flashKept_useTry hstate),
    hdone _ (chooseFirmware_active ((activeB_read hread).trans hb) htry)⟩

/-- The Almanacs of the flash are judged by the records that have been read from it. -/
theorem readAlmanac_of_slotRuns {r : FlashRead} {m : Dev} {b ab : Bool} {st tries : Nat} {a : Almanac}
    (hread : SecurityRead d ((d.readRecords r.records).holdImages r) m) (hrun : SlotRuns m b st tries e)
    (hf : f = d.readRecords r.records) (hfloor : f.floorOf 2 < 2 ^ 64)
    (h : chooseAlmanac (fun y => (f.itemFault 2 (almanacSigner f.ownerCert.isSome) y.sig).isNone && almanacOk (f.floorOf 2) y)
      r.almanacA r.almanacB = (some (a, ab), false)) :
    e.readAlmanac r = (e.logAlmanacs r).takeAlmanac a ab := by
  have hlog := flashKept_logAlmanacs (d := e) r
  have hrec : (e.logAlmanacs r).eph.records = f.eph.records := by
    rw [hlog.records, EphSt.records_of_flash hrun.flash, records_putSlot, records_read hread, hf]
  have hroot : (e.logAlmanacs r).rootKeyId = f.rootKeyId := by rw [hlog.rootKeyId, hrun.rootKeyId, rootKeyId_read hread, hf]
  have hown : (e.logAlmanacs r).sec.owner = f.ownerId := by rw [hlog.sec, hrun.sec, ownerId_read hread, hf]
  have halm : (e.logAlmanacs r).gf F.SEC_ALM_FLOOR.FLOOR = f.floorOf 2 := by
    rw [hlog.fields _ (by decide), hrun.almFloor, almFloor_read hread, ← hf, Nat.mod_eq_of_lt hfloor]
  refine readAlmanac_chosen ?_
  rw [← h]
  exact congrArg (fun ok => chooseAlmanac ok r.almanacA r.almanacB)
    (funext fun y => acceptsAlmanac_congr hrec hroot hown halm)

theorem putSlot_rootKeyId (b : Bool) (st tries : Nat) : (d.putSlot b st tries).rootKeyId = d.rootKeyId := rfl

theorem putSlot_power (b : Bool) (st tries : Nat) : (d.putSlot b st tries).power = d.power := rfl

theorem gf_putSlot (b : Bool) (st tries : Nat) (g : Fld) (u i j : Nat) : (d.putSlot b st tries).gf g u i j = d.gf g u i j := rfl

theorem slotState_putSlot_other (b : Bool) (st tries : Nat) : (d.putSlot (!b) st tries).slotState b = d.slotState b := by
  cases b <;> rfl

/-- The ACTIVE slot has been marked BAD after its image has not verified. -/
structure ActiveBad (m : Dev) (b : Bool) (k : Dev) : Prop where
  fails : ∃ e, m.trySlot b = (false, e) ∧ k = e.setSlot b 3 0
  kept : FlashKept (m.putSlot b 3 0) k

theorem putSlot_flash_congr (h : e.eph.flash = d.eph.flash) (b : Bool) (st tries : Nat) :
    (e.putSlot b st tries).eph.flash = (d.putSlot b st tries).eph.flash := by
  cases b
  · exact EphSt.eq_of_flash (fun x => { x with stateA := st, triesA := tries : EphSt }.flash) (fun _ => rfl) h
  · exact EphSt.eq_of_flash (fun x => { x with stateB := st, triesB := tries : EphSt }.flash) (fun _ => rfl) h

theorem flashKept_putSlot (h : FlashKept d e) (b : Bool) (st tries : Nat) :
    FlashKept (d.putSlot b st tries) (e.putSlot b st tries) :=
  ⟨h.boot, h.sec, h.power, h.rootKeyId, putSlot_flash_congr h.flash b st tries, h.fields⟩

theorem activeBad_of_empty {m : Dev} {b : Bool} (h : m.slotImage b = none) : ∃ k, ActiveBad m b k := by
  obtain ⟨hfail, hkept⟩ := trySlot_empty h
  exact ⟨(m.trySlot b).2.setSlot b 3 0, ⟨_, Prod.ext hfail rfl, rfl⟩,
    (flashKept_putSlot hkept b 3 0).trans (flashKept_setSlot b 3 0)⟩

theorem slotState_activeBad {m k : Dev} {b : Bool} (h : ActiveBad m b k) :
    k.slotState b = (3, 0) ∧ k.slotState (!b) = m.slotState (!b) := by
  rw [slotState_congr h.kept.flash, slotState_putSlot, slotState_congr h.kept.flash, slotState_putSlot_not]
  exact ⟨rfl, rfl⟩

theorem slotImage_activeBad {m k : Dev} {b b' : Bool} (h : ActiveBad m b k) : k.slotImage b' = m.slotImage b' := by
  rw [slotImage_congr h.kept.flash, slotImage_putSlot]

/-- The other slot starts where the ACTIVE one holds no image. -/
theorem firmwareDone_other {r : FlashRead} {b : Bool} {x : FwImage} {tries : Nat} (hs : d.boot.step = .firmware)
    (hb : d.eph.activeB = b) (hempty : (if b then r.imageB else r.imageA) = none) (hst : d.slotState (!b) = (2, tries))
    (himg : (if b then r.imageA else r.imageB) = some x) (hx : (d.readRecords r.records).startable x = true) :
    ∃ m k e d0, SecurityRead d ((d.readRecords r.records).holdImages r) m ∧ ActiveBad m b k ∧ SlotRuns k (!b) 2 tries e
      ∧ d.firmwareDone r = ((e.logBoot Code.BOOT_FW_FALLBACK d0 0).readAlmanac r).stepTo .ephemeris := by
  have hread := d.securityRead_mirrorFw r
  have hdone := fun e => firmwareDone_of_slot (e := e) (r := r) hs
  generalize (d.holdImages r).mirrorFw.readSecurity r = m at hread hdone
  obtain ⟨k, hk⟩ := activeBad_of_empty (m := m) (b := b) ((slotImage_read hread b).trans hempty)
  obtain ⟨⟨e₀, hfail, hset⟩, hkept⟩ := id hk
  have hstate : k.slotState (!b) = (2, tries) := by rw [(slotState_activeBad hk).2, slotState_read hread, hst]
  have hfault : k.imageFault (k.slotImage (!b)) = none := by
    have hother : m.slotImage (!b) = some x := by
      rw [slotImage_read hread, ← himg]
      cases b <;> rfl
    rw [slotImage_activeBad hk, hother]
    refine imageFault_of_startable hx ?_ ?_ ?_
    · rw [hkept.records, records_putSlot, records_read hread]
    · rw [hkept.rootKeyId, putSlot_rootKeyId, rootKeyId_read hread]
    · have hfw := hkept.fields F.SEC_FLOOR.FW_FLOOR (by decide)
      rw [hfw, gf_putSlot, fwFloor_read hread]
      exact Nat.mod_le _ _
  have htry := trySlot_starts hstate (.inl rfl) hfault
  have hruns := slotRuns_runSlot (flashKept_useTry hstate)
  subst hset
  exact ⟨m, _, _, _, hread, hk, hruns, hdone _ (chooseFirmware_other ((activeB_read hread).trans hb) hfail htry)⟩

/-! ### RECOVERY -/

/-- Every island off. -/
def darken (d : Dev) : Dev := (List.range 44).foldl (fun d n => d.islandOff n) d

theorem only_modIsl (n : Nat) (g : IslandSt → IslandSt) : Only [] [.reg .CLK_ISLAND_n_STAT, .power] d (d.modIsl n g) :=
  (Only.refl _ _ d).power (by decide)

theorem only_clockOff (n : Nat) : Only [] [.reg .CLK_ISLAND_n_STAT, .power] d (d.clockOff n) := by
  have hisl := d.only_modIsl n fun _ => {}
  unfold clockOff
  generalize d.modIsl n (fun _ => {}) = m at hisl ⊢
  exact ((hisl.sf (.inr (List.mem_cons_self ..)) (.inl rfl)).sf (.inr (List.mem_cons_self ..)) (.inl rfl)).sf
    (.inr (List.mem_cons_self ..)) (.inl rfl)

theorem only_islandOff (n : Nat) : Only [] [.reg .CLK_ISLAND_n_STAT, .power] d (d.islandOff n) :=
  (((((d.only_clockOff n).sf (.inr (List.mem_cons_self ..)) (.inl rfl)).sf (.inr (List.mem_cons_self ..)) (.inl rfl)).sf
    (.inr (List.mem_cons_self ..)) (.inl rfl)).sf (.inr (List.mem_cons_self ..)) (.inl rfl)).sf
    (.inr (List.mem_cons_self ..)) (.inl rfl)

theorem only_darken : Only [] [.reg .CLK_ISLAND_n_STAT, .power] d d.darken :=
  (Only.refl _ _ d).foldl fun e n _ h => h.trans (e.only_islandOff n)

theorem modIsl_aux (n : Nat) (g : IslandSt → IslandSt) : (d.modIsl n g).power.aux = d.power.aux := rfl

theorem aux_clockOff (n : Nat) : (d.clockOff n).power.aux = d.power.aux := by
  have h : d.clockOff n = (((d.modIsl n fun _ => {}).sf F.CLK_ISLAND_n_STAT.FREQ_MHZ 0 0 n).sf F.CLK_ISLAND_n_STAT.RAMPING 0 0 n).sf
      F.CLK_ISLAND_n_STAT.STRETCHED 0 0 n := rfl
  rw [h, sf_power, sf_power, sf_power, modIsl_aux]

theorem aux_islandOff (n : Nat) : (d.islandOff n).power.aux = d.power.aux := by
  have h : d.islandOff n = (((((d.clockOff n).sf F.CLK_ISLAND_n_STAT.POWERED 0 0 n).sf F.CLK_ISLAND_n_STAT.PLL_LOCK 0 0 n).sf
      F.CLK_ISLAND_n_STAT.GATED 0 0 n).sf F.CLK_ISLAND_n_STAT.OP_IN_FORCE 0 0 n).sf F.CLK_ISLAND_n_STAT.LIMITER 0 0 n := rfl
  rw [h, sf_power, sf_power, sf_power, sf_power, sf_power, aux_clockOff]

theorem aux_darken : d.darken.power.aux = d.power.aux :=
  List.foldlRecOn (motive := fun e : Dev => e.power.aux = d.power.aux) _ _ rfl fun e h n _ => (e.aux_islandOff n).trans h

/-- Stage one off and the rails with it. -/
def stageOff (d : Dev) : Dev := { d with power := { d.power with stageOne := false, railsUp := false } }.refreshPgood

theorem gf_stageOff (f : Fld) (u i j : Nat) : d.stageOff.gf f u i j = d.gf f u i j := rfl

theorem stageOff_power : d.stageOff.power.stageOne = false ∧ d.stageOff.power.pgoodOut = if d.power.aux then .low else .highZ := by
  refine ⟨rfl, ?_⟩
  show (if !d.power.aux then PgoodPin.highZ else _) = _
  cases d.power.aux <;> rfl

theorem toRecovery_eq : d.toRecovery = (d.darken.stageOff.sf F.PWR_STAT.CONVERTERS 0).setBoot .recovery := rfl

theorem toRecovery_boot : d.toRecovery.boot.step = .recovery := rfl

theorem toRecovery_power :
    d.toRecovery.power.stageOne = false ∧ d.toRecovery.power.pgoodOut = if d.power.aux then .low else .highZ := by
  obtain ⟨hone, hpin⟩ := d.darken.stageOff_power
  rw [toRecovery_eq, (only_setBoot _).2 .power (by decide) (by simp), sf_power, hone, hpin, aux_darken]
  exact ⟨rfl, rfl⟩

theorem gf_toRecovery_state : d.toRecovery.gf F.BOOT_STAT.STATE = 8 := gf_setBoot_state _

theorem gf_toRecovery {f : Fld} (h : f.reg = .BOOT_FW_STAT) : d.toRecovery.gf f = d.gf f := by
  rw [toRecovery_eq, gf_setBoot _ _ _ _ (h ▸ by decide), gf_sf_of_reg_ne _ _ _ _ _ _ _ _ _ _ (h ▸ by decide), gf_stageOff,
    only_darken.gf (by simp) (h ▸ by decide)]

/-- Neither slot holds an image: the device is in RECOVERY. -/
theorem firmwareDone_none {r : FlashRead} (hs : d.boot.step = .firmware) (ha : r.imageA = none) (hb : r.imageB = none) :
    ∃ e : Dev, e.power = d.power ∧ d.firmwareDone r = (e.logBoot Code.BOOT_NO_FIRMWARE 0 0).toRecovery := by
  have hread := d.securityRead_mirrorFw r
  have hdone := fun e => firmwareDone_of_none (e := e) (r := r) hs
  generalize (d.holdImages r).mirrorFw.readSecurity r = m at hread hdone
  have himg : ∀ b, m.slotImage b = none := fun b => by
    rw [slotImage_read hread]
    cases b
    · exact ha
    · exact hb
  obtain ⟨k, ⟨e₀, hfail, rfl⟩, hkept⟩ := activeBad_of_empty (himg d.eph.activeB)
  obtain ⟨hother, hkept'⟩ := trySlot_empty (d := e₀.setSlot d.eph.activeB 3 0) (b := !d.eph.activeB)
    (by rw [slotImage_congr hkept.flash, slotImage_putSlot, himg])
  refine ⟨_, ?_, hdone _ (chooseFirmware_none (activeB_read hread) hfail (Prod.ext hother rfl))⟩
  rw [hkept'.power, hkept.power, putSlot_power, hread.power]

end Dev

/-- The Firmware step starts the ACTIVE slot with the chosen Almanac. -/
theorem completes_firmwareStepDone (r : FlashRead) (b : Bool) (x : FwImage) (a : Almanac) (ab : Bool) (f : Dev) :
    Completes (.firmwareStepDone r) (fun d => d.boot.step = .firmware ∧ d.boot.coldNext = false
        ∧ b = d.eph.activeB ∧ ((if b then d.eph.stateB else d.eph.stateA) = 2
          ∨ ((if b then d.eph.stateB else d.eph.stateA) = 1 ∧ 0 < (if b then d.eph.triesB else d.eph.triesA)))
        ∧ f = d.readRecords r.records ∧ (if b then r.imageB else r.imageA) = some x ∧ f.startable x = true
        ∧ f.floorOf 1 < 2 ^ 32 ∧ f.floorOf 2 < 2 ^ 64
        ∧ chooseAlmanac (fun y => (f.itemFault 2 (Dev.almanacSigner f.ownerCert.isSome) y.sig).isNone && almanacOk (f.floorOf 2) y)
            r.almanacA r.almanacB = (some (a, ab), false)) fun d e =>
        e.boot.step = .ephemeris ∧ e.boot.image = some x ∧ e.boot.almanac = some a
          ∧ e.sec.owner = f.ownerCert.map (fun c => c.pair.id) ∧ e.boot.ownerChanged = decide (e.sec.owner ≠ d.eph.lastOwner)
          ∧ e.gf F.SEC_FLOOR.FW_FLOOR = f.floorOf 1 ∧ e.gf F.SEC_ALM_FLOOR.FLOOR = f.floorOf 2
          ∧ e.gf F.BOOT_FW_STAT.RUNNING = (if b then 1 else 0) ∧ e.gf F.BOOT_FW_STAT.ALMANAC_SLOT = (if ab then 1 else 0)
          ∧ e.gf F.BOOT_ALMANAC_SEQ.SEQUENCE = a.sequence % 2 ^ 64
          ∧ (if b then e.eph.stateB = d.eph.stateB ∧ e.eph.triesB = (if d.eph.stateB = 1 then d.eph.triesB - 1 else d.eph.triesB)
            else e.eph.stateA = d.eph.stateA ∧ e.eph.triesA = (if d.eph.stateA = 1 then d.eph.triesA - 1 else d.eph.triesA)) := by
  refine .of_upd (f := fun d => d.firmwareDone r) (fun _ => rfl) fun d ⟨hs, hc, hb, hmay, hf, himg, hx, hfw, halm, hchoose⟩ => ?_
  obtain ⟨st, tries, hst⟩ : ∃ st tries, d.slotState b = (st, tries) := ⟨_, _, rfl⟩
  have hmay' : st = 2 ∨ (st = 1 ∧ 0 < tries) := by
    cases b <;> (obtain ⟨rfl, rfl⟩ := Prod.mk.inj hst; exact hmay)
  obtain ⟨m, e, hread, hrun, hdone⟩ := Dev.firmwareDone_active hs hb.symm hst hmay' himg (hf ▸ hx)
  rw [hdone, Dev.readAlmanac_of_slotRuns hread hrun hf halm hchoose]
  have hlog := Dev.flashKept_logAlmanacs (d := e) r
  generalize e.logAlmanacs r = k at hlog ⊢
  have hboot : (k.takeAlmanac a ab).boot = { d.boot with
      ownerChanged := decide (f.ownerId ≠ d.eph.lastOwner), image := some x, almanac := some a } := by
    rw [Dev.takeAlmanac_boot, hlog.boot, hrun.boot, Dev.slotImage_read hread, himg, hread.boot, Dev.ownerId_holdImages, hf]
  have hown : k.sec.owner = f.ownerId := by rw [hlog.sec, hrun.sec, Dev.ownerId_read hread, hf]
  obtain ⟨hkfw, hkalm⟩ := k.gf_takeAlmanac_floors a ab
  rw [Dev.stepTo_of_not_coldNext _ (by rw [hboot, hc])]
  have hstep := (k.takeAlmanac a ab).only_setBoot .ephemeris
  have hslots : ((k.takeAlmanac a ab).setBoot .ephemeris).slotState b = (st, Dev.triesLeft st tries) := by
    rw [Dev.slotState_congr (d := m.putSlot b st (Dev.triesLeft st tries)), Dev.slotState_putSlot]
    rw [hstep.2 .eph (by decide) (by simp), (Dev.slotKept_takeAlmanac a ab).flash, hlog.flash, hrun.flash]
  have hsec : ((k.takeAlmanac a ab).setBoot .ephemeris).sec.owner = f.ownerId := by
    rw [hstep.2 .sec (by decide) (by simp), Dev.takeAlmanac_sec, hown]
  rw [hsec, Dev.setBoot_boot, hboot, Dev.gf_setBoot _ _ _ _ (by decide), Dev.gf_setBoot _ _ _ _ (by decide),
    Dev.gf_setBoot _ _ _ _ (by decide), Dev.gf_setBoot _ _ _ _ (by decide), Dev.gf_setBoot _ _ _ _ (by decide)]
  refine ⟨rfl, rfl, rfl, rfl, rfl, ?_, ?_, ?_, Dev.gf_takeAlmanac_slot a ab, Dev.gf_takeAlmanac_sequence a ab, ?_⟩
  · rw [hkfw, hlog.fields _ (by decide), hrun.fwFloor, Dev.fwFloor_read hread, ← hf, Nat.mod_eq_of_lt hfw]
  · rw [hkalm, hlog.fields _ (by decide), hrun.almFloor, Dev.almFloor_read hread, ← hf, Nat.mod_eq_of_lt halm]
  · rw [(Dev.slotKept_takeAlmanac a ab).running, hlog.fields _ (by decide), hrun.running]
  · generalize (k.takeAlmanac a ab).setBoot .ephemeris = z at hslots ⊢
    cases b <;> (obtain ⟨rfl, rfl⟩ := Prod.mk.inj hst; exact Prod.mk.inj hslots)

/-- The Firmware step falls back to the other slot and marks the ACTIVE one BAD. -/
theorem completes_firmwareStepDone_fallback (r : FlashRead) (b : Bool) (x : FwImage) :
    Completes (.firmwareStepDone r) (fun d => d.boot.step = .firmware ∧ d.boot.coldNext = false
        ∧ b = d.eph.activeB ∧ (if b then r.imageB else r.imageA) = none ∧ (if b then d.eph.stateA else d.eph.stateB) = 2
        ∧ (if b then r.imageA else r.imageB) = some x ∧ (d.readRecords r.records).startable x = true) fun _ e =>
        e.boot.step = .ephemeris ∧ e.gf F.BOOT_FW_STAT.RUNNING = (if b then 0 else 1)
          ∧ (if b then e.eph.stateB = 3 ∧ e.eph.triesB = 0 else e.eph.stateA = 3 ∧ e.eph.triesA = 0) ∧ e.eph.activeB = b := by
  refine .of_upd (f := fun d => d.firmwareDone r) (fun _ => rfl) fun d ⟨hs, hc, hb, hempty, hst, himg, hx⟩ => ?_
  obtain ⟨tries, hst'⟩ : ∃ tries, d.slotState (!b) = (2, tries) := by
    cases b
    · exact ⟨d.eph.triesB, Prod.ext hst rfl⟩
    · exact ⟨d.eph.triesA, Prod.ext hst rfl⟩
  obtain ⟨m, k, e, d0, hread, hbad, hrun, hdone⟩ := Dev.firmwareDone_other hs hb.symm hempty hst' himg hx
  have hlog : SlotKept e (e.logBoot Code.BOOT_FW_FALLBACK d0 0) := (FlashKept.refl e).logBoot.slotKept
  have hkept := hlog.trans (Dev.slotKept_readAlmanac r)
  rw [hdone]
  generalize (e.logBoot Code.BOOT_FW_FALLBACK d0 0).readAlmanac r = z at hkept ⊢
  have hcold : z.boot.coldNext = false := by
    rw [hkept.coldNext, hrun.boot, hbad.kept.boot, Dev.putSlot_boot, hread.boot, hc]
  rw [Dev.stepTo_of_not_coldNext _ hcold]
  have heph : (z.setBoot .ephemeris).eph = z.eph := (z.only_setBoot .ephemeris).2 .eph (by decide) (by simp)
  have hflash : z.eph.flash = (k.putSlot (!b) 2 tries).eph.flash := hkept.flash.trans hrun.flash
  have hslots : z.slotState b = (3, 0) := by
    rw [Dev.slotState_congr hflash, Dev.slotState_putSlot_other, (Dev.slotState_activeBad hbad).1]
  have hactive : z.eph.activeB = b := by
    rw [EphSt.eq_of_flash EphSt.activeB (fun _ => rfl) hflash, Dev.activeB_putSlot,
      EphSt.eq_of_flash EphSt.activeB (fun _ => rfl) hbad.kept.flash, Dev.activeB_putSlot, Dev.activeB_read hread, hb]
  rw [heph, Dev.gf_setBoot _ _ _ _ (by decide), hkept.running, hrun.running]
  refine ⟨rfl, ?_, ?_, hactive⟩
  · cases b <;> rfl
  · cases b
    · exact Prod.mk.inj hslots
    · exact Prod.mk.inj hslots

/-- The Firmware step ends in RECOVERY where neither slot holds an image. -/
theorem completes_firmwareStepDone_none (r : FlashRead) :
    Completes (.firmwareStepDone r) (fun d => d.boot.step = .firmware ∧ r.imageA = none ∧ r.imageB = none) fun d e =>
        e.boot.step = .recovery ∧ e.gf F.BOOT_STAT.STATE = 8 ∧ e.power.stageOne = false
          ∧ e.power.pgoodOut = (if d.power.aux then .low else .highZ)
          ∧ e.gf F.BOOT_FW_STAT.LAST_CODE = Code.BOOT_NO_FIRMWARE := by
  refine .of_upd (f := fun d => d.firmwareDone r) (fun _ => rfl) fun d ⟨hs, ha, hb⟩ => ?_
  obtain ⟨m, hpower, hdone⟩ := Dev.firmwareDone_none hs ha hb
  obtain ⟨hone, hpin⟩ := (m.logBoot Code.BOOT_NO_FIRMWARE 0 0).toRecovery_power
  rw [hdone, Dev.gf_toRecovery_state, hone, hpin, Dev.gf_toRecovery rfl, Dev.gf_logBoot_lastCode (by decide), Dev.logBoot,
    Dev.logAt_power, Dev.sf_power, hpower]
  exact ⟨Dev.toRecovery_boot, rfl, rfl, rfl, rfl⟩

/-- Settles O29, a step of a start at a time. -/
theorem startSteps : Obligations.StartSteps :=
  ⟨completes_identityDone_of_agrees, completes_identityDone_of_not_agrees, completes_firmwareStepDone,
    completes_firmwareStepDone_fallback, completes_firmwareStepDone_none, completes_ephemerisStepDone,
    completes_ephemerisStepDone_discard, completes_inventoryDone, completes_linksTrained, completes_hbmTrainingDone_trained,
    completes_hbmTrainingDone_again, completes_hbmTrainingDone_failed, completes_hbmZeroFillDone, completes_firstLightDone_pass,
    completes_firstLightDone_refset, completes_firstLightDone_demand⟩

end Sys2Proof.Machine
end

/-! PROOFS. Rules that the power path, a start and the firmware share: what follows from a clause that completes, more rules of
`Only`, and the fields that the journal does not follow. -/

section
namespace Sys2Proof.Machine

open Sys2Proof

/-- A command that completes does so under more, and with less claimed. -/
theorem Completes.mono {c : Instr} {pre pre' : Dev → Prop} {post post' : Dev → Dev → Prop} (h : Completes c pre post)
    (hpre : ∀ d, pre' d → pre d) (hpost : ∀ d e, post d e → post' d e) : Completes c pre' post' := by
  intro s hs
  obtain ⟨t, ht, hp, hpo⟩ := h s (hpre _ hs)
  exact ⟨t, ht, hp, hpost _ _ hpo⟩

/-! ### Rules of `Only` -/

namespace Only

variable {rs : List RegKey} {ps : List Part} {d e : Dev}

theorem mgmt (h : Only rs ps d e) (hp : Part.mgmt ∈ ps) {x} : Only rs ps d { e with mgmt := x } := by
  refine h.other rfl fun p hn hr => ?_
  cases p with
  | mgmt => exact absurd hp hn
  | reg n => exact absurd rfl (hr n)
  | coreStore | clusterStore | imem | hbm => exact fun _ => rfl
  | _ => rfl

theorem safe (h : Only rs ps d e) (hp : Part.safe ∈ ps) {x} : Only rs ps d { e with safe := x } := by
  refine h.other rfl fun p hn hr => ?_
  cases p with
  | safe => exact absurd hp hn
  | reg n => exact absurd rfl (hr n)
  | coreStore | clusterStore | imem | hbm => exact fun _ => rfl
  | _ => rfl

theorem freeIx (h : Only rs ps d e) (hp : Part.freeIx ∈ ps) {x} : Only rs ps d { e with freeIx := x } := by
  refine h.other rfl fun p hn hr => ?_
  cases p with
  | freeIx => exact absurd hp hn
  | reg n => exact absurd rfl (hr n)
  | coreStore | clusterStore | imem | hbm => exact fun _ => rfl
  | _ => rfl

theorem hbm (h : Only rs ps d e) (hp : Part.hbm ∈ ps) {x} : Only rs ps d { e with hbm := x } := by
  refine h.other rfl fun p hn hr => ?_
  cases p with
  | hbm => exact absurd hp hn
  | reg n => exact absurd rfl (hr n)
  | coreStore | clusterStore | imem => exact fun _ => rfl
  | _ => rfl

theorem ports (h : Only rs ps d e) (hp : Part.ports ∈ ps) {x} : Only rs ps d { e with ports := x } := by
  refine h.other rfl fun p hn hr => ?_
  cases p with
  | ports => exact absurd hp hn
  | reg n => exact absurd rfl (hr n)
  | coreStore | clusterStore | imem | hbm => exact fun _ => rfl
  | _ => rfl

theorem putReg (h : Only rs ps d e) {k : RegKey} {v : Word} (hk : k ∈ rs ∨ Part.reg k.name ∈ ps) :
    Only rs ps d (e.putReg k v) := by
  obtain ⟨hregs, hparts⟩ := h
  refine ⟨fun k' hk' hp => ?_, fun p hp hn => ?_⟩
  · have hne : k' ≠ k := fun he => hk.elim (he ▸ hk') (he ▸ hp)
    rw [Dev.reg_putReg_ne v hne, hregs k' hk' hp]
  · cases p with
    | reg n => exact absurd rfl (hn n)
    | _ => exact hparts _ hp hn

theorem ite {c : Prop} [Decidable c] {a b : Dev} (ha : Only rs ps d a) (hb : Only rs ps d b) : Only rs ps d (if c then a else b) := by
  split
  · exact ha
  · exact hb

theorem raise (h : Only rs ps d e) {n : Nat} (hk : ⟨.INT_PEND_SET_k, 0, n / 64, 0⟩ ∈ rs ∨ Part.reg .INT_PEND_SET_k ∈ ps) :
    Only rs ps d (e.raise n) := h.setReg hk (.inl rfl)

/-- A part that has come out as it was need not be listed. -/
theorem without {p : Part} (h : Only rs (p :: ps) d e) (hn : ∀ n, p ≠ .reg n) (hs : p.same d e) : Only rs ps d e := by
  obtain ⟨hregs, hparts⟩ := h
  refine ⟨fun k hk hkp => hregs k hk ?_, fun q hq hqn => ?_⟩
  · intro hm
    rcases List.mem_cons.mp hm with h | h
    · exact hn _ h.symm
    · exact hkp h
  · by_cases hqp : q = p
    · exact hqp ▸ hs
    · exact hparts q (fun hm => (List.mem_cons.mp hm).elim hqp hq) hqn

end Only

/-! ### Fields that the journal does not follow -/

theorem assemble_congr {fs : List Field} {v w : Field → Nat} (h : ∀ f ∈ fs, v f = w f) : assemble fs v = assemble fs w := by
  induction fs with
  | nil => rfl
  | cons f fs ih =>
    rw [assemble, assemble, h f List.mem_cons_self, ih fun g hg => h g (List.mem_cons_of_mem _ hg)]

/-- The journal follows no change of a field: the journal does not follow its register, or the field lies apart from the
register's fields of class E. -/
def unrecorded (f : Fld) : Bool :=
  !f.reg.journalled || (decide (f.reg ≠ .CLU_CORE_MAP) && decide (f.lo ≤ f.hi ∧ f.hi < 64)
    && f.reg.fields.all fun g => decide (g.keep ≠ .e ∨ g.hi < f.lo ∨ f.hi < g.lo))

theorem classE_setBits {f : Fld} (hw : f.lo ≤ f.hi ∧ f.hi < 64) (h : ∀ g ∈ f.reg.fields, g.keep ≠ .e ∨ g.hi < f.lo ∨ f.hi < g.lo)
    (w : Word) (v : Nat) : f.reg.classE (setBits w f.hi f.lo v) = f.reg.classE w := by
  refine assemble_congr fun g hg => ?_
  obtain ⟨hm, hk⟩ := List.mem_filter.mp hg
  exact getBits_setBits_of_disjoint _ _ _ _ _ _ hw.1 hw.2 ((h g hm).resolve_left (not_not.mpr (of_decide_eq_true hk)))

namespace Dev

variable {d : Dev}

/-- A word whose fields of class E are those that the register holds makes no record. -/
theorem setReg_eph_of_classE {k : RegKey} {v : Word} (hn : k.name ≠ .CLU_CORE_MAP) (h : k.name.classE v = k.name.classE (d.reg k)) :
    (d.setReg k v).eph = d.eph := by
  have hrec : ∀ w, d.recordOf k w = w := fun w => if_neg hn
  show d.noted k v = d.eph
  unfold noted
  extract_lets new setting old
  have hsame : k.name.classE (d.recordOf k (FMap.get k.reset d.regs k)) = k.name.classE new := by
    rw [hrec, show new = v from hrec v]
    exact h.symm
  split
  · rfl
  · rw [if_pos (by simp [hsame])]

theorem sf_eph {f : Fld} (hf : unrecorded f = true) (v u i j : Nat) : (d.sf f v u i j).eph = d.eph := by
  simp only [unrecorded, Bool.or_eq_true, Bool.not_eq_true', Bool.and_eq_true, List.all_eq_true, decide_eq_true_eq] at hf
  rcases hf with hf | ⟨⟨hn, hw⟩, hg⟩
  · exact setReg_eph_of_not_journalled hf
  · exact setReg_eph_of_classE hn (classE_setBits hw hg _ _)

end Dev

/-- A field that the journal does not follow is set. -/
theorem Only.sfFree {rs : List RegKey} {ps : List Part} {d e : Dev} (h : Only rs ps d e) {f : Fld} {v u i j : Nat}
    (hf : unrecorded f = true) (hk : ⟨f.reg, u, i, j⟩ ∈ rs ∨ Part.reg f.reg ∈ ps) : Only rs ps d (e.sf f v u i j) := by
  obtain ⟨hregs, hparts⟩ := h
  refine ⟨fun k' hk' hp => ?_, fun p hp hn => ?_⟩
  · have hne : k' ≠ ⟨f.reg, u, i, j⟩ := fun he => hk.elim (he ▸ hk') fun hm => hp (he ▸ hm)
    rw [Dev.reg_sf_ne e f v u i j hne, hregs k' hk' hp]
  · cases p with
    | reg n => exact absurd rfl (hn n)
    | eph => exact (Dev.sf_eph hf v u i j).trans (hparts _ hp hn)
    | _ => exact hparts _ hp hn

theorem Only.bumpFree {rs : List RegKey} {ps : List Part} {d e : Dev} (h : Only rs ps d e) {f sat : Fld} {n u i j : Nat}
    (hf : unrecorded f = true) (hsat : unrecorded sat = true) (hs : sat.reg = f.reg)
    (hk : ⟨f.reg, u, i, j⟩ ∈ rs ∨ Part.reg f.reg ∈ ps) : Only rs ps d (e.bump f sat n u i j) := by
  unfold Dev.bump
  extract_lets m x
  split
  · exact (h.sfFree hf hk).sfFree hsat (hs ▸ hk)
  · exact h.sfFree hf hk

end Sys2Proof.Machine
end

/-! PROOFS. O9: the refusal of EXTEST. A report changes the logbook and the count of dropped reports as a function of the two and of
the time, so a report made from two devices that agree in these changes both alike. -/

section
namespace Sys2Proof.Machine

open Sys2Proof

namespace Dev

variable {d e : Dev}

/-- A count that is raised reads as the old value and `n` added, up to its largest value. -/
theorem gf_bump {f sat : Fld} (hf : f.lo ≤ f.hi ∧ f.hi < 64) (hs : sat.lo ≤ sat.hi ∧ sat.hi < 64)
    (hd : f.hi < sat.lo ∨ sat.hi < f.lo) (n u i j : Nat) :
    (d.bump f sat n u i j).gf f u i j = min (2 ^ (f.hi + 1 - f.lo) - 1) (d.gf f u i j + n) := by
  obtain ⟨hlo, hhi⟩ := hf
  obtain ⟨hslo, hshi⟩ := hs
  have hpos : 0 < 2 ^ (f.hi + 1 - f.lo) := by positivity
  unfold bump
  extract_lets m x
  by_cases hm : m ≤ x
  · rw [if_pos hm, gf_sf_of_disjoint _ _ _ _ _ _ _ _ _ _ hslo hshi hd, gf_sf_self _ _ _ _ _ _ hlo hhi,
      Nat.mod_eq_of_lt (Nat.sub_lt hpos Nat.one_pos)]
    exact (Nat.min_eq_left hm).symm
  · rw [if_neg hm, gf_sf_self _ _ _ _ _ _ hlo hhi, Nat.mod_eq_of_lt (by omega)]
    exact (Nat.min_eq_right (Nat.le_of_not_le hm)).symm

/-- What a report makes of the count of dropped reports hangs on the logbook and that count alone. -/
theorem gf_report_dropped_congr (hlog : d.log = e.log) (hdrop : d.gf F.LOG_DROPPED.DROPPED = e.gf F.LOG_DROPPED.DROPPED) (r : Report) :
    (d.report r).gf F.LOG_DROPPED.DROPPED = (e.report r).gf F.LOG_DROPPED.DROPPED := by
  have hintake : ∀ {d e : Dev}, d.log = e.log → d.gf F.LOG_DROPPED.DROPPED = e.gf F.LOG_DROPPED.DROPPED →
      (d.logIntake r).gf F.LOG_DROPPED.DROPPED = (e.logIntake r).gf F.LOG_DROPPED.DROPPED := by
    intro d e hlog hdrop
    unfold logIntake
    rw [hlog]
    dsimp only
    split
    · rw [gf_bump (by decide) (by decide) (by decide), gf_bump (by decide) (by decide) (by decide)]
      exact congrArg (fun x => min _ (x + 1)) hdrop
    · exact hdrop
  have hfirst : ∀ d : Dev, (if codeClass r.code = 0xB then d.sf F.SAFE_MON_STAT.LAST_CODE r.code else d).log = d.log
      ∧ (if codeClass r.code = 0xB then d.sf F.SAFE_MON_STAT.LAST_CODE r.code else d).gf F.LOG_DROPPED.DROPPED
        = d.gf F.LOG_DROPPED.DROPPED := by
    intro d
    split
    · exact ⟨rfl, gf_sf_of_reg_ne _ _ _ _ _ _ _ _ _ _ (by decide)⟩
    · exact ⟨rfl, rfl⟩
  have hopen : ∀ (c : Prop) [Decidable c] (x : Dev) (y : LogSt),
      (if c then x else { x with log := y }).gf F.LOG_DROPPED.DROPPED = x.gf F.LOG_DROPPED.DROPPED := by
    intro c _ x y
    split <;> rfl
  unfold report
  extract_lets d₁ l d₂ l₂ e₁ m e₂ m₂
  have hl : l = m := (hfirst d).1.trans (hlog.trans (hfirst e).1.symm)
  have hd : d₁.gf F.LOG_DROPPED.DROPPED = e₁.gf F.LOG_DROPPED.DROPPED := (hfirst d).2.trans (hdrop.trans (hfirst e).2.symm)
  have hi : d₂.gf F.LOG_DROPPED.DROPPED = e₂.gf F.LOG_DROPPED.DROPPED := hintake hl hd
  clear_value l m
  subst hl
  generalize l.open_.find? _ = found
  cases found with
  | some x =>
    dsimp only
    split
    · exact hi
    · exact hd
  | none => exact (hopen _ _ _).trans (hi.trans (hopen _ _ _).symm)

/-- A report that is made once a field of another register has been set is the report itself. -/
theorem reported_logAt_sf {f : Fld} (hl : f.reg ≠ .LOG_DROPPED) (hx : f.reg ≠ .XFB_COORD) (v code die unit d0 d1 : Nat) :
    reported { code := code, source := srcOf die unit, d0 := d0, d1 := d1, device := d.self } d
      ((d.sf f v).logAt code die unit d0 d1) := by
  have hself : (d.sf f v).self = d.self := gf_sf_of_reg_ne _ _ _ _ _ _ _ _ _ _ (Ne.symm hx)
  refine ⟨log_logAt_congr (sf_log ..) (sf_chrono ..) hself _ _ _ _ _, ?_⟩
  unfold logAt
  rw [hself]
  exact gf_report_dropped_congr (sf_log ..) (gf_sf_of_reg_ne _ _ _ _ _ _ _ _ _ _ (Ne.symm hl)) _

/-! ### The refusal of an access to the debug port -/

theorem only_logDbg (code d0 d1 : Nat) : Only [⟨.DBG_STAT, 0, 0, 0⟩] logParts d (d.logDbg code d0 d1) :=
  ((Only.refl _ _ d).sf (.inl (by decide)) (.inl rfl)).logAt fun _ h => h

theorem gf_logDbg_lastCode {code d0 d1 : Nat} (h : code < 2 ^ 16) : (d.logDbg code d0 d1).gf F.DBG_STAT.LAST_CODE = code := by
  rw [logDbg, gf_logAt _ _ _ _ _ _ _ _ _ (by decide), gf_sf_self _ _ _ _ _ _ (by decide) (by decide)]
  exact Nat.mod_eq_of_lt h

theorem only_debugRefused (off : Nat) : Only [⟨.DBG_STAT, 0, 0, 0⟩] logParts d (d.debugRefused off) := only_logDbg _ _ _

theorem gf_debugRefused_lastCode (off : Nat) : (d.debugRefused off).gf F.DBG_STAT.LAST_CODE = Code.DBG_ACCESS_REFUSED :=
  gf_logDbg_lastCode (by decide)

@[simp] theorem debugRefused_mgmt (off : Nat) : (d.debugRefused off).mgmt = d.mgmt :=
  (only_debugRefused off).2 .mgmt (by decide) (by simp)

/-- EXTEST is refused outside P3, Off and RECOVERY. -/
theorem extest_refused {pins : List Bool} {scan : Option (List Bool)} (haux : d.power.aux = true) (hmay : d.mayExtest = false) :
    d.extest pins scan = d.debugRefused 0 := by
  unfold extest
  rw [if_neg (by simp [haux]), if_neg (by simp [hmay])]

theorem mayExtest_eq_false (hst : d.gf F.PWR_STAT.STATE ≠ 3) (hoff : d.boot.step ≠ .off) (hrec : d.boot.step ≠ .recovery) :
    d.mayExtest = false := by
  simp [mayExtest, hst, hoff, hrec]

end Dev

/-- Settles O9: EXTEST ends in the refusal, which changes DBG_STAT and makes the report. -/
theorem extestOutsideStandby : Obligations.ExtestOutsideStandby := by
  intro pins scan
  refine .of_upd (f := fun d => d.extest pins scan) (fun _ => rfl) fun d ⟨haux, hst, hoff, hrec⟩ => ?_
  rw [Dev.extest_refused haux (Dev.mayExtest_eq_false hst hoff hrec)]
  exact ⟨Dev.debugRefused_mgmt 0, Dev.reported_logAt_sf (by decide) (by decide) _ _ _ _ _ _, Dev.only_debugRefused 0⟩

end Sys2Proof.Machine
end

/-! PROOFS. O34: the management connector and the debug port, row by row. Each row is first computed from the definition of its
path, and its clause is then read off. -/

section
namespace Sys2Proof.Machine

open Sys2Proof

namespace Dev

variable {d : Dev} {k : RegKey} {o : Nat}

/-! ### The management side -/

theorem only_modMgmt (f : MgmtSt → MgmtSt) : Only [] [.mgmt] d (d.modMgmt f) := (Only.refl _ _ d).mgmt (by decide)

theorem gf_modMgmt (g : MgmtSt → MgmtSt) (f : Fld) (u i j : Nat) : (d.modMgmt g).gf f u i j = d.gf f u i j := rfl

@[simp] theorem modMgmt_mgmt (f : MgmtSt → MgmtSt) : (d.modMgmt f).mgmt = f d.mgmt := rfl

@[simp] theorem hold_mgmt (c : Nat) (h : Held) : (d.hold c h).mgmt = d.mgmt := by
  unfold hold
  split <;> rfl

theorem regRefusal_of_code_zero (h : (d.regRefusal k).1 = 0) : d.regRefusal k = (0, d) := by
  unfold regRefusal at h ⊢
  split
  · next hc => rw [if_pos hc] at h; cases h
  · next hc =>
    rw [if_neg hc] at h
    split
    · next hc' => rw [if_pos hc'] at h; cases h
    · rfl

/-! ### I3C -/

/-- An I3C access that nothing keeps from its register. -/
theorem i3cMay_of (hbusy : d.on F.BOOT_FW_STAT.HANDOVER_BUSY = false) (hopen : d.opens i3cSealed o = true) : d.i3cMay o = true := by
  simp [i3cMay, hbusy, hopen]

theorem i3cRead_of_may {code : Nat} {v : Word} {e : Dev} (hmay : d.i3cMay o = true) (h : d.loadAt o = (code, v, e)) :
    d.i3cRead o = (code, v, e) := by
  simp only [i3cMay, Bool.and_eq_true, Bool.not_eq_true'] at hmay
  obtain ⟨hbusy, hopen⟩ := hmay
  simp [i3cRead, hbusy, hopen, h]

theorem i3cRead_of_sealed (hbusy : d.on F.BOOT_FW_STAT.HANDOVER_BUSY = false) (hopen : d.opens i3cSealed o = false) :
    d.i3cRead o = (Code.DBG_ACCESS_REFUSED, 0, d.debugRefused o) := by
  simp [i3cRead, hbusy, hopen]

theorem i3cWrite_of_may {code : Nat} {v : Word} {e : Dev} (hmay : d.i3cMay o = true) (h : d.storeAt o 2 d.self v = (code, e)) :
    d.i3cWrite o v = (code, e) := by
  simp only [i3cMay, Bool.and_eq_true, Bool.not_eq_true'] at hmay
  obtain ⟨hbusy, hopen⟩ := hmay
  simp [i3cWrite, hbusy, hopen, h]

theorem i3cWrite_of_busy {v : Word} (hbusy : d.on F.BOOT_FW_STAT.HANDOVER_BUSY = true) :
    d.i3cWrite o v = (Code.BOOT_HANDOVER_BUSY, d.logBoot Code.BOOT_HANDOVER_BUSY o 0) := if_pos hbusy

section

variable {bs : List Byte}

/-- A read request whose register no copy holds is the read over I3C, whose answer waits. -/
theorem i3cIn_read {code : Nat} {v : Word} {e : Dev} (haux : d.power.aux = true) (hlen : bs.length = 6) (hcmd : bs.headD 0 = 1)
    (hheld : (if d.i3cMay (leNat ((bs.drop 1).take 5)) then d.heldReg (leNat ((bs.drop 1).take 5)) else none) = none)
    (hread : d.i3cRead (leNat ((bs.drop 1).take 5)) = (code, v, e)) :
    d.i3cIn bs = e.modMgmt fun x => { x with i3c := .read code v } := by
  unfold i3cIn
  rw [if_neg (by simp [haux]), if_pos ⟨hlen, hcmd⟩]
  simp only [hheld, hread]

/-- A read request for a register of a core under copy waits with no answer. -/
theorem i3cIn_held {c : Nat} (haux : d.power.aux = true) (hlen : bs.length = 6) (hcmd : bs.headD 0 = 1)
    (hmay : d.i3cMay (leNat ((bs.drop 1).take 5)) = true) (hheld : d.heldReg (leNat ((bs.drop 1).take 5)) = some (k, c)) :
    d.i3cIn bs = (d.hold c (.load k 2)).modMgmt fun x => { x with i3c := .none } := by
  unfold i3cIn
  rw [if_neg (by simp [haux]), if_pos ⟨hlen, hcmd⟩]
  simp only [hmay, hheld, if_true]

theorem i3cIn_write {code : Nat} {e : Dev} (haux : d.power.aux = true) (hlen : bs.length = 14) (hcmd : bs.headD 0 = 2)
    (hwrite : d.i3cWrite (leNat ((bs.drop 1).take 5)) (BitVec.ofNat 64 (leNat (bs.drop 6))) = (code, e)) :
    d.i3cIn bs = e.modMgmt fun x => { x with i3c := .status code } := by
  unfold i3cIn
  rw [if_neg (by simp [haux]), if_neg (by simp [hlen]), if_pos ⟨hlen, hcmd⟩]
  simp only [hwrite]

theorem i3cIn_format (haux : d.power.aux = true) (hread : bs.length ≠ 6) (hwrite : bs.length ≠ 14) :
    d.i3cIn bs = (d.logAt Code.I3C_FORMAT_ERROR dieM 0xFFFF 0 0).modMgmt fun x => { x with i3c := .format } := by
  unfold i3cIn
  rw [if_neg (by simp [haux]), if_neg (by simp [hread]), if_neg (by simp [hwrite])]

end

theorem i3cOut_of_aux {n : Nat} (haux : d.power.aux = true) :
    d.i3cOut n = d.modMgmt fun x => { x with sda := i3cAnswer x.i3c n, i3c := .none } := if_pos haux

/-! ### The test access port -/

theorem selectIr_of_aux {ir : JtagIr} {tdo : List Bool} (haux : d.power.aux = true) :
    d.selectIr ir tdo = d.modMgmt fun x => { x with ir := ir, driving := decide (ir = .extest), tdo := tdo } := if_pos haux

theorem extest_of_may {pins : List Bool} (haux : d.power.aux = true) (hmay : d.mayExtest = true) :
    d.extest pins none = d.selectIr .extest [] ∧ ∀ bits, d.extest pins (some bits)
      = (d.selectIr .extest pins).modMgmt fun x => { x with boundary := bits } := by
  simp [extest, haux, hmay]

/-! ### The Eyepiece -/

/-- The scan of an Eyepiece access: the access before is shifted out. -/
def eyeScan (d : Dev) : Dev :=
  d.modMgmt fun x => { x with
    ir := .eyepiece, driving := false, tdo := bitList 120 (d.mgmt.eyeCode * 2 ^ 104 + d.mgmt.eyeData.toNat) }

theorem selectIr_eyepiece (haux : d.power.aux = true) :
    d.selectIr .eyepiece (bitList 120 (d.mgmt.eyeCode * 2 ^ 104 + d.mgmt.eyeData.toNat)) = d.eyeScan := selectIr_of_aux haux

theorem eyeScan_copyingAt (n : Nat) : d.eyeScan.copyingAt o n = d.copyingAt o n := by
  have hcopying : d.eyeScan.copying = d.copying := rfl
  rw [copyingAt, hcopying, copyingAt]

theorem only_eyeScan : Only [] [.mgmt] d d.eyeScan := only_modMgmt _

theorem only_eyeDone (code : Nat) (v : Word) : Only [] [.mgmt] d (d.eyeDone code v) := only_modMgmt _

theorem eyepiece_readReg_sealed {errs : List MemErr} (haux : d.power.aux = true) (hopen : d.opens eyeSealed o = false) :
    d.eyepiece (.readReg o) errs = (d.eyeScan.debugRefused o).eyeDone Code.DBG_ACCESS_REFUSED 0 := by
  have hopen' : d.eyeScan.opens eyeSealed o = false := hopen
  unfold eyepiece
  rw [if_neg (by simp [haux]), selectIr_eyepiece haux]
  exact if_pos (by simp [hopen'])

theorem eyepiece_writeReg {errs : List MemErr} {v : Word} (haux : d.power.aux = true) (hopen : d.opens eyeSealed o = true)
    (ho : RegKey.ofOffset o = some k) (hplain : plainReg k.name = true) (hacc : d.accepts k = true) :
    d.eyepiece (.writeReg o v) errs = (d.eyeScan.keepSetting (d.eyeScan.plainWrite k v) k.home).eyeDone 0 0 := by
  have hopen' : d.eyeScan.opens eyeSealed o = true := hopen
  have hacc' : d.eyeScan.accepts k = true := hacc
  obtain ⟨hstep, hm, -⟩ := accepts_iff.mp hacc'
  have hstore : d.eyeScan.storeAt o 3 d.eyeScan.self v = (0, d.eyeScan.keepSetting (d.eyeScan.plainWrite k v) k.home) := by
    rw [storeAt_of_served ho (regRefusal_none hstep hm), writeReg_of_accepts hacc', regWrite_of_plain hplain]
  unfold eyepiece
  rw [if_neg (by simp [haux]), selectIr_eyepiece haux]
  dsimp only
  rw [if_neg (by simp [hopen']), hstore]

/-- A memory access of the Eyepiece in VENDOR to activation SRAM passes its checks. -/
theorem eyeCheck_of_sram {a key : Nat} {need : Need} (hdbg : d.debugState = 2) (hstart : d.started = true)
    (hself : a / 2 ^ 46 = d.self) (halign : localOf a % 8 = 0) (harea : d.areaOf (localOf a) 8 = some .sram) :
    d.eyeCheck a key need = (0, d) := by
  unfold eyeCheck
  extract_lets o refused there
  have hthere : there = true := by simp only [there, o, hself, halign, harea, decide_true, Bool.and_self]
  rw [if_neg (by simp [hdbg]), if_neg (by simp [hthere]), if_neg (by simp [hdbg])]
  exact if_pos hstart

theorem eyeCheck_sealed {a key : Nat} {need : Need} (hdbg : d.debugState = 0) :
    d.eyeCheck a key need = (Code.DBG_ACCESS_REFUSED, d.debugRefused (localOf a)) := if_pos hdbg

theorem sram_above_hbm {n : Nat} (h : d.areaOf o n = some .sram) : ¬ o < 0x100000000000 := by
  intro ho
  unfold areaOf at h
  rw [if_pos ho] at h
  split at h <;> cases h

theorem eyeLoad_of_sram (errs : List MemErr) (h : ¬ o < 0x100000000000) :
    d.eyeLoad o errs = d.eyeDone 0 (BitVec.ofNat 64 (leNat ((List.range 8).map fun k => d.sramByte (o + k)))) := if_neg h

theorem eyeMem_readMem_sram {a key : Nat} {errs : List MemErr} (hlow : ¬ localOf a < 0x100000000000)
    (hcopy : d.copyingAt (localOf a) 8 = none) : d.eyeMem (.readMem a key) errs = d.eyeLoad (localOf a) errs := by
  unfold eyeMem
  dsimp only [eyeAddr]
  rw [if_neg hlow, hcopy]

theorem eyepiece_readMem_sram {a key : Nat} {errs : List MemErr} (haux : d.power.aux = true) (hdbg : d.debugState = 2)
    (hstart : d.started = true) (hself : a / 2 ^ 46 = d.self) (halign : localOf a % 8 = 0)
    (harea : d.areaOf (localOf a) 8 = some .sram) (hcopy : d.copyingAt (localOf a) 8 = none) :
    d.eyepiece (.readMem a key) errs
      = d.eyeScan.eyeDone 0 (BitVec.ofNat 64 (leNat ((List.range 8).map fun k => d.sramByte (localOf a + k)))) := by
  have hcheck : d.eyeScan.eyeCheck a key .read = (0, d.eyeScan) := eyeCheck_of_sram hdbg hstart hself halign harea
  have hcopy' : d.eyeScan.copyingAt (localOf a) 8 = none := by rw [eyeScan_copyingAt, hcopy]
  have hlow := sram_above_hbm harea
  unfold eyepiece
  rw [if_neg (by simp [haux]), selectIr_eyepiece haux]
  dsimp only
  rw [hcheck]
  dsimp only
  rw [if_neg (by simp), eyeMem_readMem_sram hlow hcopy']
  exact eyeLoad_of_sram errs hlow

theorem eyepiece_writeMem_sealed {a key : Nat} {v : Word} {errs : List MemErr} (haux : d.power.aux = true) (hdbg : d.debugState = 0) :
    d.eyepiece (.writeMem a key v) errs = (d.eyeScan.debugRefused (localOf a)).eyeDone Code.DBG_ACCESS_REFUSED 0 := by
  have hcheck : d.eyeScan.eyeCheck a key .write = (Code.DBG_ACCESS_REFUSED, d.eyeScan.debugRefused (localOf a)) :=
    eyeCheck_sealed hdbg
  unfold eyepiece
  rw [if_neg (by simp [haux]), selectIr_eyepiece haux]
  dsimp only
  rw [hcheck]
  have hcode : Code.DBG_ACCESS_REFUSED ≠ 0 := by decide
  exact if_pos hcode

/-- An access that the Eyepiece refuses leaves the refusal as its result. -/
theorem only_eyeRefused (off : Nat) : Only [⟨.DBG_STAT, 0, 0, 0⟩] (.mgmt :: logParts) d
    ((d.eyeScan.debugRefused off).eyeDone Code.DBG_ACCESS_REFUSED 0) :=
  (((only_eyeScan (d := d)).mono (by simp) (by simp)).trans ((only_debugRefused off).mono (fun _ h => .inl h)
    fun _ h => List.mem_cons_of_mem _ h)).trans ((only_eyeDone _ _).mono (by simp) (by simp))

theorem intscan_of_vendor {n : Nat} (haux : d.power.aux = true) (hdbg : d.debugState = 2) : d.intscan n =
    { d.selectIr .intscan ((List.range n).map fun i => Config.freeBit (d.freeIx + i)) with freeIx := d.freeIx + n } := by
  simp [intscan, haux, hdbg]

theorem intscan_refused {n : Nat} (haux : d.power.aux = true) (hdbg : d.debugState ≠ 2) : d.intscan n = d.debugRefused 0 := by
  simp [intscan, haux, hdbg]

end Dev

end Sys2Proof.Machine
end

/-! PROOFS. O34, clause by clause. -/

section
namespace Sys2Proof.Machine

open Sys2Proof

/-! ### I3C -/

/-- An I3C read that is let through is the register's read by path 2, and its answer waits. -/
theorem completes_i3cReadRequest (bs : List Byte) (o : Nat) (k : RegKey) : Completes (.i3cReadRequest bs) (fun d =>
    d.power.aux = true ∧ bs.length = 6 ∧ bs.headD 0 = 1 ∧ o = leNat ((bs.drop 1).take 5) ∧ RegKey.ofOffset o = some k
      ∧ d.on F.BOOT_FW_STAT.HANDOVER_BUSY = false ∧ d.opens i3cSealed o = true ∧ (d.regRefusal k).1 = 0 ∧ d.heldReg o = none)
    fun d e => e = { (d.readReg k).2 with mgmt := { (d.readReg k).2.mgmt with i3c := .read 0 (d.readReg k).1 } } := by
  refine .of_upd (f := fun d => if bs.length = 14 ∧ bs.headD 0 = 2 then d else d.i3cIn bs) (fun _ => rfl)
    fun d ⟨haux, hlen, hcmd, ho, hk, hbusy, hopen, hcode, hheld⟩ => ?_
  subst ho
  have hload := Dev.loadAt_of_served hk (Dev.regRefusal_of_code_zero hcode)
  dsimp only
  rw [if_neg (by simp [hlen]), Dev.i3cIn_read haux hlen hcmd (by rw [hheld, ite_self])
    (Dev.i3cRead_of_may (Dev.i3cMay_of hbusy hopen) hload)]
  rfl

theorem completes_i3cReadRequest_held (bs : List Byte) (o : Nat) (k : RegKey) (c : Nat) : Completes (.i3cReadRequest bs) (fun d =>
    d.power.aux = true ∧ bs.length = 6 ∧ bs.headD 0 = 1 ∧ o = leNat ((bs.drop 1).take 5) ∧ d.i3cMay o = true
      ∧ d.heldReg o = some (k, c))
    fun d e => e = { d.hold c (.load k 2) with mgmt := { d.mgmt with i3c := .none } } := by
  refine .of_upd (f := fun d => if bs.length = 14 ∧ bs.headD 0 = 2 then d else d.i3cIn bs) (fun _ => rfl)
    fun d ⟨haux, hlen, hcmd, ho, hmay, hheld⟩ => ?_
  subst ho
  dsimp only
  rw [if_neg (by simp [hlen]), Dev.i3cIn_held haux hlen hcmd hmay hheld, Dev.modMgmt, Dev.hold_mgmt]

theorem completes_i3cReadRequest_sealed (bs : List Byte) (o : Nat) : Completes (.i3cReadRequest bs) (fun d =>
    d.power.aux = true ∧ bs.length = 6 ∧ bs.headD 0 = 1 ∧ o = leNat ((bs.drop 1).take 5)
      ∧ d.on F.BOOT_FW_STAT.HANDOVER_BUSY = false ∧ d.opens i3cSealed o = false)
    fun d e => e.mgmt = { d.mgmt with i3c := .read Code.DBG_ACCESS_REFUSED 0 }
      ∧ e.gf F.DBG_STAT.LAST_CODE = Code.DBG_ACCESS_REFUSED ∧ Only [⟨.DBG_STAT, 0, 0, 0⟩] (.mgmt :: logParts) d e := by
  refine .of_upd (f := fun d => if bs.length = 14 ∧ bs.headD 0 = 2 then d else d.i3cIn bs) (fun _ => rfl)
    fun d ⟨haux, hlen, hcmd, ho, hbusy, hopen⟩ => ?_
  subst ho
  dsimp only
  rw [if_neg (by simp [hlen]), Dev.i3cIn_read haux hlen hcmd
    (if_neg (by simp only [Dev.i3cMay, hopen, Bool.and_false, Bool.false_eq_true, not_false_eq_true])) (Dev.i3cRead_of_sealed hbusy hopen)]
  refine ⟨?_, ?_, ?_⟩
  · rw [Dev.modMgmt_mgmt, Dev.debugRefused_mgmt]
  · rw [Dev.gf_modMgmt, Dev.gf_debugRefused_lastCode]
  · exact ((Dev.only_debugRefused _).mono (fun _ h => .inl h) fun _ h => List.mem_cons_of_mem _ h).mgmt (List.mem_cons_self ..)

theorem completes_i3cReadRequest_format (bs : List Byte) : Completes (.i3cReadRequest bs)
    (fun d => d.power.aux = true ∧ bs.length ≠ 6 ∧ bs.length ≠ 14)
    fun d e => e.mgmt = { d.mgmt with i3c := .format } ∧ Only [] (.mgmt :: logParts) d e := by
  refine .of_upd (f := fun d => if bs.length = 14 ∧ bs.headD 0 = 2 then d else d.i3cIn bs) (fun _ => rfl)
    fun d ⟨haux, hread, hwrite⟩ => ?_
  have hlog := d.only_logAt Code.I3C_FORMAT_ERROR dieM 0xFFFF 0 0
  dsimp only
  rw [if_neg (by simp [hwrite]), Dev.i3cIn_format haux hread hwrite]
  refine ⟨?_, (hlog.mono (by simp) fun _ h => List.mem_cons_of_mem _ h).mgmt (List.mem_cons_self ..)⟩
  rw [Dev.modMgmt_mgmt, hlog.2 .mgmt (by decide) (by simp)]

theorem completes_i3cWrite (bs : List Byte) (o : Nat) (k : RegKey) (v : Word) : Completes (.i3cWrite bs) (fun d =>
    d.power.aux = true ∧ bs.length = 14 ∧ bs.headD 0 = 2 ∧ o = leNat ((bs.drop 1).take 5)
      ∧ v = BitVec.ofNat 64 (leNat (bs.drop 6)) ∧ RegKey.ofOffset o = some k ∧ d.on F.BOOT_FW_STAT.HANDOVER_BUSY = false
      ∧ d.opens i3cSealed o = true ∧ (d.regRefusal k).1 = 0)
    fun d e => e = { d.writeReg k 2 d.self v with mgmt := { (d.writeReg k 2 d.self v).mgmt with i3c := .status 0 } } := by
  refine .of_upd (f := fun d => if bs.length = 6 ∧ bs.headD 0 = 1 then d else d.i3cIn bs) (fun _ => rfl)
    fun d ⟨haux, hlen, hcmd, ho, hv, hk, hbusy, hopen, hcode⟩ => ?_
  subst ho hv
  have hstore := Dev.storeAt_of_served (src := 2) (dev := d.self) (v := BitVec.ofNat 64 (leNat (bs.drop 6))) hk
    (Dev.regRefusal_of_code_zero hcode)
  dsimp only
  rw [if_neg (by simp [hlen]), Dev.i3cIn_write haux hlen hcmd (Dev.i3cWrite_of_may (Dev.i3cMay_of hbusy hopen) hstore)]
  rfl

theorem completes_i3cWrite_busy (bs : List Byte) : Completes (.i3cWrite bs) (fun d =>
    d.power.aux = true ∧ bs.length = 14 ∧ bs.headD 0 = 2 ∧ d.on F.BOOT_FW_STAT.HANDOVER_BUSY = true)
    fun d e => e.mgmt = { d.mgmt with i3c := .status Code.BOOT_HANDOVER_BUSY }
      ∧ Only [⟨.BOOT_FW_STAT, 0, 0, 0⟩] (.mgmt :: .eph :: logParts) d e := by
  refine .of_upd (f := fun d => if bs.length = 6 ∧ bs.headD 0 = 1 then d else d.i3cIn bs) (fun _ => rfl)
    fun d ⟨haux, hlen, hcmd, hbusy⟩ => ?_
  have hlog : Only [⟨.BOOT_FW_STAT, 0, 0, 0⟩] (.eph :: logParts) d (d.logBoot Code.BOOT_HANDOVER_BUSY (leNat ((bs.drop 1).take 5)) 0) :=
    (Only.refl _ _ d).logBoot (fun _ h => List.mem_cons_of_mem _ h) (.inl (by simp)) (by simp)
  dsimp only
  rw [if_neg (by simp [hlen]), Dev.i3cIn_write haux hlen hcmd (Dev.i3cWrite_of_busy hbusy)]
  refine ⟨?_, (hlog.mono (fun _ h => .inl h) fun _ h => List.mem_cons_of_mem _ h).mgmt (List.mem_cons_self ..)⟩
  rw [Dev.modMgmt_mgmt, hlog.2 .mgmt (by decide) (by simp)]

/-- A read on the I3C bus returns the answer that waits, and consumes it. -/
theorem completes_i3cPrivateRead (n : Nat) (r : I3cResp) : Completes (.i3cPrivateRead n)
    (fun d => d.power.aux = true ∧ d.mgmt.i3c = r)
    fun d e => e.mgmt = { d.mgmt with sda := Dev.i3cAnswer r n, i3c := .none } ∧ Only [] [.mgmt] d e := by
  refine .of_upd (f := fun d => d.i3cOut n) (fun _ => rfl) fun d ⟨haux, hr⟩ => ?_
  rw [Dev.i3cOut_of_aux haux]
  exact ⟨by rw [Dev.modMgmt_mgmt, hr], Dev.only_modMgmt _⟩

theorem i3cAnswer_read_ok (n : Nat) (v : Word) : Dev.i3cAnswer (.read 0 v) n = (leBytes 8 v.toNat ++ [0, 0]).take n := rfl

theorem i3cAnswer_read_refused (n : Nat) {c : Nat} (v : Word) (hc : c ≠ 0) :
    Dev.i3cAnswer (.read c v) n = (List.replicate 8 0 ++ leBytes 2 c).take n := by
  simp only [Dev.i3cAnswer, if_neg hc]
  rfl

theorem completes_i3cPrivateRead_ok (n : Nat) (v : Word) : Completes (.i3cPrivateRead n)
    (fun d => d.power.aux = true ∧ d.mgmt.i3c = .read 0 v)
    fun d e => e.mgmt = { d.mgmt with sda := (leBytes 8 v.toNat ++ [0, 0]).take n, i3c := .none } ∧ Only [] [.mgmt] d e :=
  i3cAnswer_read_ok n v ▸ completes_i3cPrivateRead n (.read 0 v)

theorem completes_i3cPrivateRead_refused (n c : Nat) (v : Word) : Completes (.i3cPrivateRead n)
    (fun d => d.power.aux = true ∧ d.mgmt.i3c = .read c v ∧ c ≠ 0)
    fun d e => e.mgmt = { d.mgmt with sda := (List.replicate 8 0 ++ leBytes 2 c).take n, i3c := .none } ∧ Only [] [.mgmt] d e := by
  by_cases hc : c = 0
  · exact fun _ ⟨_, _, h⟩ => absurd hc h
  · exact (i3cAnswer_read_refused n v hc ▸ completes_i3cPrivateRead n (.read c v)).mono (fun _ ⟨haux, hr, _⟩ => ⟨haux, hr⟩)
      fun _ _ h => h

/-! ### The test access port -/

theorem completes_jtagBypass : Completes .jtagBypass (fun d => d.power.aux = true)
    fun d e => e.mgmt = { d.mgmt with ir := .bypass, driving := false, tdo := [false] } ∧ Only [] [.mgmt] d e := by
  refine .of_upd (f := fun d => d.selectIr .bypass [false]) (fun _ => rfl) fun d haux => ?_
  rw [Dev.selectIr_of_aux haux]
  exact ⟨rfl, Dev.only_modMgmt _⟩

theorem completes_jtagSamplePreload (pins pre : List Bool) : Completes (.jtagSamplePreload pins pre) (fun d => d.power.aux = true)
    fun d e => e.mgmt = { d.mgmt with ir := .sample, driving := false, tdo := pins, boundary := pre } ∧ Only [] [.mgmt] d e := by
  refine .of_upd (f := fun d => d.samplePreload pins pre) (fun _ => rfl) fun d haux => ?_
  rw [Dev.samplePreload, if_pos haux, Dev.selectIr_of_aux haux]
  exact ⟨rfl, (Dev.only_modMgmt _).mgmt (by decide)⟩

theorem completes_jtagExtest (pins : List Bool) : Completes (.jtagExtest pins none)
    (fun d => d.power.aux = true ∧ d.mayExtest = true)
    fun d e => e.mgmt = { d.mgmt with ir := .extest, driving := true, tdo := [] } ∧ Only [] [.mgmt] d e := by
  refine .of_upd (f := fun d => d.extest pins none) (fun _ => rfl) fun d ⟨haux, hmay⟩ => ?_
  rw [(Dev.extest_of_may haux hmay).1, Dev.selectIr_of_aux haux]
  exact ⟨rfl, Dev.only_modMgmt _⟩

theorem completes_jtagExtest_scan (pins bits : List Bool) : Completes (.jtagExtest pins (some bits))
    (fun d => d.power.aux = true ∧ d.mayExtest = true)
    fun d e => e.mgmt = { d.mgmt with ir := .extest, driving := true, tdo := pins, boundary := bits } ∧ Only [] [.mgmt] d e := by
  refine .of_upd (f := fun d => d.extest pins (some bits)) (fun _ => rfl) fun d ⟨haux, hmay⟩ => ?_
  rw [(Dev.extest_of_may haux hmay).2, Dev.selectIr_of_aux haux]
  exact ⟨rfl, (Dev.only_modMgmt _).mgmt (by decide)⟩

theorem completes_jtagExtest_refused (pins : List Bool) (scan : Option (List Bool)) : Completes (.jtagExtest pins scan)
    (fun d => d.power.aux = true ∧ d.mayExtest = false)
    fun d e => e.gf F.DBG_STAT.LAST_CODE = Code.DBG_ACCESS_REFUSED ∧ Only [⟨.DBG_STAT, 0, 0, 0⟩] logParts d e := by
  refine .of_upd (f := fun d => d.extest pins scan) (fun _ => rfl) fun d ⟨haux, hmay⟩ => ?_
  rw [Dev.extest_refused haux hmay]
  exact ⟨Dev.gf_debugRefused_lastCode 0, Dev.only_debugRefused 0⟩

theorem completes_jtagIdcode : Completes .jtagIdcode (fun d => d.power.aux = true)
    fun d e => e.mgmt = { d.mgmt with
        ir := .idcode, driving := false, tdo := (List.range 32).map fun i => bitOf Config.idcode.toNat i }
      ∧ Only [] [.mgmt] d e := by
  refine .of_upd (f := fun d => d.selectIr .idcode (bitList 32 Config.idcode.toNat)) (fun _ => rfl) fun d haux => ?_
  rw [Dev.selectIr_of_aux haux]
  exact ⟨rfl, Dev.only_modMgmt _⟩

/-! ### The Eyepiece and INTSCAN -/

theorem completes_eyepiece_readReg_sealed (o : Nat) (errs : List MemErr) : Completes (.eyepiece (.readReg o) errs)
    (fun d => d.power.aux = true ∧ d.opens eyeSealed o = false)
    fun d e => e.mgmt = { d.mgmt with
          ir := .eyepiece, driving := false
          tdo := (List.range 120).map fun i => bitOf (d.mgmt.eyeCode * 2 ^ 104 + d.mgmt.eyeData.toNat) i
          eyeCode := Code.DBG_ACCESS_REFUSED, eyeData := 0 }
      ∧ Only [⟨.DBG_STAT, 0, 0, 0⟩] (.mgmt :: logParts) d e := by
  refine .of_upd (f := fun d => d.eyepiece (.readReg o) errs) (fun _ => rfl) fun d ⟨haux, hopen⟩ => ?_
  rw [Dev.eyepiece_readReg_sealed haux hopen]
  refine ⟨?_, Dev.only_eyeRefused o⟩
  rw [Dev.eyeDone, Dev.modMgmt_mgmt, Dev.debugRefused_mgmt]
  rfl

theorem completes_eyepiece_writeReg (o : Nat) (v : Word) (k : RegKey) (errs : List MemErr) :
    Completes (.eyepiece (.writeReg o v) errs) (fun d => d.power.aux = true ∧ d.opens eyeSealed o = true
        ∧ RegKey.ofOffset o = some k ∧ plainReg k.name = true ∧ d.accepts k = true) fun d e =>
      e.mgmt.ir = .eyepiece ∧ e.mgmt.eyeCode = 0 ∧ e.mgmt.eyeData = 0
        ∧ (∀ f ∈ k.name.fields, f.access = .rw → getBits (e.reg k) f.hi f.lo = getBits (k.name.stored v) f.hi f.lo)
        ∧ Only [k] (.mgmt :: cmdParts) d e := by
  refine .of_upd (f := fun d => d.eyepiece (.writeReg o v) errs) (fun _ => rfl) fun d ⟨haux, hopen, ho, hplain, hacc⟩ => ?_
  rw [Dev.eyepiece_writeReg haux hopen ho hplain hacc]
  have hwrite : Only [k] (.mgmt :: cmdParts) d.eyeScan (d.eyeScan.keepSetting (d.eyeScan.plainWrite k v) k.home) :=
    ((Only.refl _ _ _).setReg (.inl (by simp)) (.inr (by decide))).keepSetting fun _ h => List.mem_cons_of_mem _ h
  have hmgmt : (d.eyeScan.keepSetting (d.eyeScan.plainWrite k v) k.home).mgmt = d.eyeScan.mgmt :=
    ((Only.refl [] cmdParts (d.eyeScan.plainWrite k v)).keepSetting fun _ h => h).2 .mgmt (by decide) (by simp)
  refine ⟨?_, rfl, rfl, fun f hf hrw => ?_, ?_⟩
  · rw [Dev.eyeDone, Dev.modMgmt_mgmt, hmgmt]
    rfl
  · have hreg := Dev.reg_keepSetting_plainWrite (d := d.eyeScan) k v
    rw [show ((d.eyeScan.keepSetting (d.eyeScan.plainWrite k v) k.home).eyeDone 0 0).reg k = _ from hreg, getBits_writeFields _ _ hf,
      hrw]
    rfl
  · exact ((Dev.only_eyeScan (d := d)).mono (by simp) (by simp)).trans hwrite |>.mgmt (List.mem_cons_self ..)

theorem completes_eyepiece_readMem (a key : Nat) (errs : List MemErr) (o : Nat) : Completes (.eyepiece (.readMem a key) errs)
    (fun d => d.power.aux = true ∧ d.debugState = 2 ∧ d.started = true ∧ o = localOf a ∧ a / 2 ^ 46 = d.self ∧ o % 8 = 0
      ∧ d.areaOf o 8 = some .sram ∧ d.copyingAt o 8 = none)
    fun d e => e.mgmt.eyeCode = 0 ∧ e.mgmt.eyeData = BitVec.ofNat 64 (leNat ((List.range 8).map fun k => d.sramByte (o + k)))
      ∧ Only [] [.mgmt] d e := by
  refine .of_upd (f := fun d => d.eyepiece (.readMem a key) errs) (fun _ => rfl)
    fun d ⟨haux, hdbg, hstart, ho, hself, halign, harea, hcopy⟩ => ?_
  subst ho
  rw [Dev.eyepiece_readMem_sram haux hdbg hstart hself halign harea hcopy]
  exact ⟨rfl, rfl, Dev.only_eyeScan.mgmt (by decide)⟩

theorem completes_eyepiece_writeMem_sealed (a key : Nat) (errs : List MemErr) (v : Word) :
    Completes (.eyepiece (.writeMem a key v) errs) (fun d => d.power.aux = true ∧ d.debugState = 0) fun d e =>
      e.mgmt.eyeCode = Code.DBG_ACCESS_REFUSED ∧ e.mgmt.eyeData = 0 ∧ Only [⟨.DBG_STAT, 0, 0, 0⟩] (.mgmt :: logParts) d e := by
  refine .of_upd (f := fun d => d.eyepiece (.writeMem a key v) errs) (fun _ => rfl) fun d ⟨haux, hdbg⟩ => ?_
  rw [Dev.eyepiece_writeMem_sealed haux hdbg]
  exact ⟨rfl, rfl, Dev.only_eyeRefused _⟩

theorem completes_intscan (n : Nat) : Completes (.intscan n) (fun d => d.power.aux = true ∧ d.debugState = 2)
    fun d e => e.mgmt = { d.mgmt with
        ir := .intscan, driving := false, tdo := (List.range n).map fun i => Config.freeBit (d.freeIx + i) }
      ∧ e.freeIx = d.freeIx + n ∧ Only [] [.mgmt, .freeIx] d e := by
  refine .of_upd (f := fun d => d.intscan n) (fun _ => rfl) fun d ⟨haux, hdbg⟩ => ?_
  rw [Dev.intscan_of_vendor haux hdbg, Dev.selectIr_of_aux haux]
  exact ⟨rfl, rfl, ((Dev.only_modMgmt _).mono (by simp) (by simp)).freeIx (by decide)⟩

theorem completes_intscan_refused (n : Nat) : Completes (.intscan n) (fun d => d.power.aux = true ∧ d.debugState ≠ 2)
    fun d e => e.gf F.DBG_STAT.LAST_CODE = Code.DBG_ACCESS_REFUSED ∧ Only [⟨.DBG_STAT, 0, 0, 0⟩] logParts d e := by
  refine .of_upd (f := fun d => d.intscan n) (fun _ => rfl) fun d ⟨haux, hdbg⟩ => ?_
  rw [Dev.intscan_refused haux hdbg]
  exact ⟨Dev.gf_debugRefused_lastCode 0, Dev.only_debugRefused 0⟩

/-- Settles O34, a row at a time. -/
theorem managementPaths : Obligations.ManagementPaths :=
  ⟨completes_i3cReadRequest, completes_i3cReadRequest_held, completes_i3cReadRequest_sealed, completes_i3cReadRequest_format,
    completes_i3cWrite, completes_i3cWrite_busy, completes_i3cPrivateRead_ok, completes_i3cPrivateRead_refused,
    fun n c => completes_i3cPrivateRead n (.status c), completes_jtagBypass, completes_jtagSamplePreload, completes_jtagExtest,
    completes_jtagExtest_scan, completes_jtagExtest_refused, completes_jtagIdcode, completes_eyepiece_readReg_sealed,
    completes_eyepiece_writeReg, completes_eyepiece_readMem, completes_eyepiece_writeMem_sealed, completes_intscan,
    completes_intscan_refused⟩

end Sys2Proof.Machine
end

/-! PROOFS. The power path: reports, the input-loss path, the cap in force and the samples of the input. -/

section
namespace Sys2Proof.Machine

open Sys2Proof

theorem Only.logPwr {rs : List RegKey} {ps : List Part} {d e : Dev} (h : Only rs ps d e) {code unit d0 d1 : Nat}
    (hk : ⟨.PWR_STAT, 0, 0, 0⟩ ∈ rs ∨ Part.reg .PWR_STAT ∈ ps) (hl : ∀ p ∈ logParts, p ∈ ps) : Only rs ps d (e.logPwr code unit d0 d1) :=
  (h.sfFree (by decide) hk).logAt hl

namespace Dev

variable {d : Dev}

/-! ### Reports -/

theorem only_logPwr (code unit d0 d1 : Nat) : Only [⟨.PWR_STAT, 0, 0, 0⟩] logParts d (d.logPwr code unit d0 d1) :=
  (Only.refl _ _ d).logPwr (.inl (by decide)) fun _ h => h

@[simp] theorem logPwr_power (code unit d0 d1 : Nat) : (d.logPwr code unit d0 d1).power = d.power :=
  (only_logPwr code unit d0 d1).2 .power (by decide) (by simp)

@[simp] theorem logPwr_boot (code unit d0 d1 : Nat) : (d.logPwr code unit d0 d1).boot = d.boot :=
  (only_logPwr code unit d0 d1).2 .boot (by decide) (by simp)

@[simp] theorem logPwr_safe (code unit d0 d1 : Nat) : (d.logPwr code unit d0 d1).safe = d.safe :=
  (only_logPwr code unit d0 d1).2 .safe (by decide) (by simp)

/-- A power report leaves the fields beside PWR_STAT LAST_CODE and the logbook's own registers. -/
theorem gf_logPwr (code unit d0 d1 : Nat) {f : Fld} (u i j : Nat) (hl : Part.reg f.reg ∉ logParts)
    (h : F.PWR_STAT.LAST_CODE.hi < f.lo ∨ f.reg ≠ .PWR_STAT) : (d.logPwr code unit d0 d1).gf f u i j = d.gf f u i j := by
  rw [logPwr, gf_logAt _ _ _ _ _ _ _ _ _ hl]
  rcases h with h | h
  · exact gf_sf_of_disjoint _ _ _ _ _ _ _ _ _ _ (by decide) (by decide) (.inr h)
  · exact gf_sf_of_reg_ne _ _ _ _ _ _ _ _ _ _ h

/-- A field of another range of the pending words keeps its value when a source is set pending. -/
theorem getBits_raise_of_ne {m : Nat} (k b : Nat) (h : k ≠ m / 64 ∨ b ≠ m % 64) :
    getBits ((d.raise m).reg ⟨.INT_PEND_SET_k, 0, k, 0⟩) b b = getBits (d.reg ⟨.INT_PEND_SET_k, 0, k, 0⟩) b b := by
  by_cases hk : k = m / 64
  · subst hk
    have hb : m % 64 < 64 := Nat.mod_lt _ (by decide)
    have hne : b ≠ m % 64 := h.resolve_left (not_not.mpr rfl)
    rw [raise, reg_setReg_self]
    exact getBits_setBits_of_disjoint _ _ _ _ _ _ (le_refl _) hb (by omega)
  · rw [raise, reg_setReg_ne d _ (by simp [hk])]

/-! ### The input-loss path -/

/-- The cause of a loss of the input noted and reported. -/
def causeNoted (d : Dev) (cause : Nat) : Dev :=
  (d.sf F.PWR_STAT.LAST_OFF_CAUSE cause).logPwr Code.PWR_INPUT_LOSS 0xFFFF 0 cause

theorem only_causeNoted (cause : Nat) : Only [⟨.PWR_STAT, 0, 0, 0⟩] (.eph :: logParts) d (d.causeNoted cause) := by
  have hcause : Only [⟨.PWR_STAT, 0, 0, 0⟩] (.eph :: logParts) d (d.sf F.PWR_STAT.LAST_OFF_CAUSE cause) :=
    (Only.refl _ _ d).sf (.inl (by decide)) (.inr (by decide))
  exact hcause.trans ((only_logPwr _ _ _ _).mono (fun _ h => .inl h) fun _ h => List.mem_cons_of_mem _ h)

theorem causeNoted_power (cause : Nat) : (d.causeNoted cause).power = d.power :=
  (only_causeNoted cause).2 .power (by decide) (by simp)

theorem causeNoted_safe (cause : Nat) : (d.causeNoted cause).safe = d.safe := (only_causeNoted cause).2 .safe (by decide) (by simp)

theorem gf_causeNoted {cause : Nat} (hc : cause < 8) : (d.causeNoted cause).gf F.PWR_STAT.LAST_OFF_CAUSE = cause := by
  rw [causeNoted, gf_logPwr _ _ _ _ _ _ _ (by decide) (.inl (by decide)), gf_sf_self _ _ _ _ _ _ (by decide) (by decide)]
  exact Nat.mod_eq_of_lt hc

/-- The device with the input-loss path begun; `lost` says that the start it ends had not been planned to end. -/
def onLossPath (d : Dev) (lost : Bool) : Dev :=
  { d with
    power := { d.power with path := some (d.power.path.getD .clocks), toOff := true }
    safe := { d.safe with unplanned := d.safe.unplanned || lost } }

theorem beginLoss_eq (cause : Nat) : d.beginLoss cause =
    if d.power.path.isSome && d.power.toOff then d else (d.causeNoted cause).onLossPath (d.runs && decide (cause ≠ 3)) := rfl

theorem only_onLossPath (lost : Bool) : Only [] [.power, .safe] d (d.onLossPath lost) := by
  refine (Only.refl _ _ d).other rfl fun p hn hr => ?_
  cases p with
  | power | safe => exact absurd (by decide) hn
  | reg n => exact absurd rfl (hr n)
  | coreStore | clusterStore | imem | hbm => exact fun _ => rfl
  | _ => rfl

theorem only_beginLoss (cause : Nat) : Only [⟨.PWR_STAT, 0, 0, 0⟩] (.power :: .safe :: .eph :: logParts) d (d.beginLoss cause) := by
  rw [beginLoss_eq]
  refine .ite (.refl _ _ d) (Only.trans ((only_causeNoted cause).mono (fun _ h => .inl h) ?_)
    ((only_onLossPath _).mono (by simp) (by simp)))
  exact fun _ h => List.mem_cons_of_mem _ (List.mem_cons_of_mem _ h)

/-- The input-loss path begins, unless it runs already. -/
theorem beginLoss_of_new (cause : Nat) (h : d.power.path = none ∨ d.power.toOff = false) :
    d.beginLoss cause = (d.causeNoted cause).onLossPath (d.runs && decide (cause ≠ 3)) := by
  rw [beginLoss_eq, if_neg]
  rcases h with h | h <;> simp [h]

section

variable {cause : Nat} (h : d.power.path = none ∨ d.power.toOff = false)

include h

theorem beginLoss_power : (d.beginLoss cause).power = { d.power with path := some (d.power.path.getD .clocks), toOff := true } := by
  rw [beginLoss_of_new cause h, onLossPath, causeNoted_power]

theorem beginLoss_safe :
    (d.beginLoss cause).safe = { d.safe with unplanned := d.safe.unplanned || d.runs && decide (cause ≠ 3) } := by
  rw [beginLoss_of_new cause h, onLossPath, causeNoted_safe]

theorem gf_beginLoss_cause (hc : cause < 8) : (d.beginLoss cause).gf F.PWR_STAT.LAST_OFF_CAUSE = cause := by
  rw [beginLoss_of_new cause h, (only_onLossPath _).gf (by simp) (by simp), gf_causeNoted hc]

end

/-- A fall of PGOOD_IN is no loss of the input that has to be explained. -/
theorem only_beginLoss_three (h : d.power.path = none ∨ d.power.toOff = false) :
    Only [⟨.PWR_STAT, 0, 0, 0⟩] (.power :: .eph :: logParts) d (d.beginLoss 3) := by
  refine Only.without (p := .safe) ((only_beginLoss 3).mono (fun _ hk => .inl hk) ?_) (by simp) ?_
  · intro p hp
    simp only [List.mem_cons] at hp ⊢
    tauto
  · show (d.beginLoss 3).safe = d.safe
    rw [beginLoss_safe h]
    simp

theorem lossPath_of_runs {cause : Nat} (h : d.runs = true) : d.lossPath cause false = d.beginLoss cause := by
  unfold lossPath
  simp only [Bool.false_eq_true, if_false, h, if_true]

theorem lossPath_opened_of_runs {cause : Nat} (h : d.runs = true) :
    d.lossPath cause true = { d with power := { d.power with closed := false } }.beginLoss cause := by
  have hruns : { d with power := { d.power with closed := false } }.runs = true := h
  unfold lossPath
  simp only [if_true, hruns]

/-- With stage one off and no start that holds it off, a trigger of the path opens the input switch at most. -/
theorem only_lossPath_of_not_runs {cause : Nat} {opened : Bool} (h : d.runs = false) :
    Only [] [.power] d (d.lossPath cause opened) := by
  cases opened with
  | false =>
    unfold lossPath
    simp only [Bool.false_eq_true, if_false, h]
    exact .refl _ _ d
  | true =>
    have hruns : { d with power := { d.power with closed := false } }.runs = false := h
    unfold lossPath
    simp only [if_true, hruns, Bool.false_eq_true, if_false]
    exact (Only.refl _ _ d).power (by decide)

/-! ### The cap -/

/-- The cap in force as the limits stand. -/
def capNow (d : Dev) : Nat := min (d.gf F.PWR_CTRL.CAP_W) (min d.converterCap (if d.power.low then 2000 else 4000))

theorem capNow_lt : d.capNow < 2 ^ 16 := Nat.lt_of_le_of_lt (Nat.min_le_left _ _) (d.gf_lt F.PWR_CTRL.CAP_W 0 0 0)

theorem refreshCap_eq : d.refreshCap =
    if d.capNow = d.gf F.PWR_STAT.CAP_IN_FORCE_W then d else (d.sf F.PWR_STAT.CAP_IN_FORCE_W d.capNow).raise 196 := rfl

theorem gf_refreshCap_cap : d.refreshCap.gf F.PWR_STAT.CAP_IN_FORCE_W = d.capNow := by
  rw [refreshCap_eq]
  split
  · next h => exact h.symm
  · rw [gf_raise _ _ _ _ (by decide), gf_sf_self _ _ _ _ _ _ (by decide) (by decide)]
    exact Nat.mod_eq_of_lt capNow_lt

theorem only_refreshCap : Only [⟨.PWR_STAT, 0, 0, 0⟩, ⟨.INT_PEND_SET_k, 0, 3, 0⟩] [] d d.refreshCap := by
  rw [refreshCap_eq]
  exact .ite (.refl _ _ d) (((Only.refl _ _ d).sfFree (by decide) (.inl (by decide))).raise (.inl (by decide)))

@[simp] theorem refreshCap_power : d.refreshCap.power = d.power := only_refreshCap.2 .power (by decide) (by simp)

/-- The cap's refresh leaves every field of PWR_STAT but CAP_IN_FORCE_W. -/
theorem gf_refreshCap {f : Fld} (u i j : Nat) (hn : f.reg ≠ .INT_PEND_SET_k)
    (h : f.hi < F.PWR_STAT.CAP_IN_FORCE_W.lo ∨ F.PWR_STAT.CAP_IN_FORCE_W.hi < f.lo) : d.refreshCap.gf f u i j = d.gf f u i j := by
  rw [refreshCap_eq]
  split
  · rfl
  · rw [gf_raise _ _ _ _ hn, gf_sf_of_disjoint _ _ _ _ _ _ _ _ _ _ (by decide) (by decide) h]

/-- A pending source other than 196 stays pending. -/
theorem getBits_refreshCap (k b : Nat) (h : k ≠ 3 ∨ b ≠ 4) :
    getBits (d.refreshCap.reg ⟨.INT_PEND_SET_k, 0, k, 0⟩) b b = getBits (d.reg ⟨.INT_PEND_SET_k, 0, k, 0⟩) b b := by
  rw [refreshCap_eq]
  split
  · rfl
  · rw [getBits_raise_of_ne k b h, reg_sf_of_name_ne (show RegName.INT_PEND_SET_k ≠ .PWR_STAT by decide)]

/-- Source 196 is pending after a refresh of the cap where it was before. -/
theorem getBits_refreshCap_196 (h : getBits (d.reg ⟨.INT_PEND_SET_k, 0, 3, 0⟩) 4 4 = 1) :
    getBits (d.refreshCap.reg ⟨.INT_PEND_SET_k, 0, 3, 0⟩) 4 4 = 1 := by
  rw [refreshCap_eq]
  split
  · exact h
  · exact getBits_raise 196

/-! ### The islands' limits -/

theorem only_startRamp (n : Nat) (b : Nat × Nat) : Only [⟨.CLK_ISLAND_n_STAT, 0, n, 0⟩] [.power] d (d.startRamp n b) :=
  ((Only.refl _ _ d).power List.mem_cons_self).sf (.inl List.mem_cons_self) (.inl rfl)

theorem only_retarget (n : Nat) : Only [⟨.CLK_ISLAND_n_STAT, 0, n, 0⟩] [.power] d (d.retarget n) := by
  have hstat : (⟨.CLK_ISLAND_n_STAT, 0, n, 0⟩ : RegKey) ∈ [(⟨.CLK_ISLAND_n_STAT, 0, n, 0⟩ : RegKey)]
      ∨ Part.reg .CLK_ISLAND_n_STAT ∈ [Part.power] := .inl List.mem_cons_self
  unfold retarget
  split
  · exact .refl _ _ d
  · split
    · extract_lets _
      have he : Only [⟨.CLK_ISLAND_n_STAT, 0, n, 0⟩] [.power] d
          ((d.sf F.CLK_ISLAND_n_STAT.OP_IN_FORCE (d.opInForce n).1 0 n).sf F.CLK_ISLAND_n_STAT.LIMITER (d.opInForce n).2 0 n) :=
        ((Only.refl _ _ d).sf hstat (.inl rfl)).sf hstat (.inl rfl)
      exact .ite (he.trans (only_startRamp n _)) (.ite (he.power (by decide)) he)
    · exact ((Only.refl _ _ d).sf hstat (.inl rfl)).trans (only_startRamp n _)

end Dev

end Sys2Proof.Machine
end

/-! PROOFS. The beginning of a start: what it loses, what it puts back, and the rises of PGOOD_IN that begin one. -/

section
namespace Sys2Proof.Machine

open Sys2Proof

namespace Dev

variable {d : Dev}

/-! ### What a start leaves -/

/-- What a start of a kind takes, before it goes to its first step. -/
def startLoss (d : Dev) (kind : StartKind) : Dev := (d.wipeUnits kind).loseFields kind.event true fun _ => true

/-- A start goes to its first step. -/
def startAt (d : Dev) (kind : StartKind) (first : BootStep) (was : Bool) : Dev :=
  { d with boot := { d.boot with
    step := first, kind := kind, identity := decide (kind ≠ StartKind.cold), coldNext := false, wasOcculted := was
    delayRan := decide (first = BootStep.delay) } }

theorem enterStart_eq (kind : StartKind) (first : BootStep) : d.enterStart kind first =
    ((((d.startLoss kind).putReg ⟨.BOOT_STRAP, 0, 0, 0⟩ (d.reg ⟨.BOOT_STRAP, 0, 0, 0⟩)).putReg ⟨.CLK_STAT, 0, 0, 0⟩
      (d.reg ⟨.CLK_STAT, 0, 0, 0⟩)).endExtest.startAt kind first (decide (kind ≠ .cold) && d.occulted)).syncBoot := rfl

theorem only_endExtest : Only [] [.mgmt] d d.endExtest := by
  unfold endExtest
  exact .ite ((Only.refl _ _ d).mgmt (by decide)) (.refl _ _ d)

theorem only_restoreCores : Only [] [.reg .CLU_CORE_MAP, .eph] d d.restoreCores := by
  unfold restoreCores
  exact (Only.refl _ _ d).foldl fun e c _ h => .ite h (h.setReg (.inr List.mem_cons_self) (.inr (by decide)))

theorem endExtest_hbm : d.endExtest.hbm = d.hbm := by
  unfold endExtest
  split <;> rfl

theorem syncBoot_hbm : d.syncBoot.hbm = d.hbm := by
  unfold syncBoot
  rw [sf_hbm, sf_hbm, sf_hbm, sf_hbm, sf_hbm, sf_hbm, sf_hbm, sf_hbm, sf_hbm, sf_hbm]

theorem only_syncBoot : Only [] [.reg .BOOT_STAT, .reg .PWR_STAT, .reg .THM_STAT, .reg .GAS_REPLY_STAT, .reg .SAFE_MON_STAT] d
    d.syncBoot := by
  unfold syncBoot
  exact ((((((((((Only.refl _ _ d).sfFree (by decide) (.inr (by decide))).sfFree (by decide) (.inr (by decide))).sfFree (by decide)
    (.inr (by decide))).sfFree (by decide) (.inr (by decide))).sfFree (by decide) (.inr (by decide))).sfFree (by decide)
    (.inr (by decide))).sfFree (by decide) (.inr (by decide))).sfFree (by decide) (.inr (by decide))).sfFree (by decide)
    (.inr (by decide))).sfFree (by decide) (.inr (by decide))

theorem restoreCores_gas : d.restoreCores.gas = d.gas := only_restoreCores.2 .gas (by decide) (by simp)

theorem wipeUnits_gas (kind : StartKind) : (d.wipeUnits kind).gas =
    { replies := if kind = .cold then [] else d.gas.replies, zeroed := d.gas.zeroed, zeroPending := d.gas.zeroPending } := by
  unfold wipeUnits
  simp only [restoreCores_gas]
  cases kind <;> rfl

/-- The start's frame past the loss: what the always-on domain shows, the boot sequence and the test access port. -/
theorem only_enterStart (kind : StartKind) (first : BootStep) :
    Only [] (.boot :: .mgmt :: startRegs.map .reg) (d.startLoss kind) (d.enterStart kind first) := by
  rw [enterStart_eq]
  have hput := ((Only.refl [] (.boot :: .mgmt :: startRegs.map .reg) (d.startLoss kind)).putReg
    (k := ⟨.BOOT_STRAP, 0, 0, 0⟩) (v := d.reg ⟨.BOOT_STRAP, 0, 0, 0⟩) (.inr (by decide))).putReg
    (k := ⟨.CLK_STAT, 0, 0, 0⟩) (v := d.reg ⟨.CLK_STAT, 0, 0, 0⟩) (.inr (by decide))
  have hexit := hput.trans (only_endExtest.mono (by simp) (by decide))
  exact Only.trans (hexit.boot (by decide)) (only_syncBoot.mono (by simp) (by decide))

section

variable (kind : StartKind) (first : BootStep)

theorem enterStart_power :
    (d.enterStart kind first).power = { d.power with islands := [], therms := [], crossing := [] } := by
  rw [(only_enterStart kind first).2 .power (by decide) (by simp)]
  show (d.wipeUnits kind).power = _
  simp only [wipeUnits, power_restoreCores]

theorem enterStart_hbm : (d.enterStart kind first).hbm = if kind = .warm then d.restoreCores.hbm else [] := by
  rw [enterStart_eq, syncBoot_hbm]
  exact endExtest_hbm

theorem enterStart_gas : (d.enterStart kind first).gas =
    { replies := if kind = .cold then [] else d.gas.replies, zeroed := d.gas.zeroed, zeroPending := d.gas.zeroPending } := by
  rw [(only_enterStart kind first).2 .gas (by decide) (by simp)]
  exact wipeUnits_gas kind

theorem enterStart_boot : (d.enterStart kind first).boot.step = first ∧ (d.enterStart kind first).boot.kind = kind := by
  rw [enterStart_eq, only_syncBoot.2 .boot (by decide) (by simp)]
  exact ⟨rfl, rfl⟩

theorem enterStart_cleared : (d.enterStart kind first).chrono = 0 ∧ (d.enterStart kind first).cores = []
    ∧ (d.enterStart kind first).engines = [] ∧ (d.enterStart kind first).injected = [] ∧ (d.enterStart kind first).reqs = []
    ∧ (d.enterStart kind first).log = {} := by
  have h := (only_enterStart (d := d) kind first).2
  exact ⟨h .chrono (by decide) (by simp), h .cores (by decide) (by simp), h .engines (by decide) (by simp),
    h .injected (by decide) (by simp), h .reqs (by decide) (by simp), h .log (by decide) (by simp)⟩

end

/-- A start puts the strap back. -/
theorem reg_enterStart_strap (kind : StartKind) (first : BootStep) :
    (d.enterStart kind first).reg ⟨.BOOT_STRAP, 0, 0, 0⟩ = d.reg ⟨.BOOT_STRAP, 0, 0, 0⟩ := by
  rw [enterStart_eq, only_syncBoot.1 _ (by simp) (by decide)]
  exact (reg_endExtest _).trans ((reg_putReg_ne _ (by decide)).trans (FMap.get_set_self _ _ _ _ _))

/-! ### Rises of PGOOD_IN -/

theorem tryRise_of_no_rise (h : d.power.rise = false) : d.tryRise = d := by
  unfold tryRise
  simp [h]

theorem tryRise_of_open (h : d.power.closed = false) : d.tryRise = d := by
  unfold tryRise
  simp [h]

/-- What holds no start off. -/
structure Free (p : PowerSt) : Prop where
  pgoodIn : p.pgoodIn = true
  aux : p.aux = true
  closed : p.closed = true
  stageOne : p.stageOne = false
  path : p.path = none
  hold : p.hold = false
  hot : p.hot = false

theorem tryRise_of_free (hr : d.power.rise = true) (h : Free d.power) : d.tryRise = d.pgoodStart := by
  unfold tryRise
  simp [hr, h.pgoodIn, h.aux, h.closed, h.stageOne, h.path, h.hold, h.hot]

/-- A rise of PGOOD_IN that waits. -/
def waitRise (d : Dev) : Dev := { d with power := { d.power with rise := true } }

theorem waitRise_power : d.waitRise.power = { d.power with rise := true } := rfl

theorem gf_waitRise (f : Fld) (u i j : Nat) : d.waitRise.gf f u i j = d.gf f u i j := rfl

theorem pgoodRise_in_range {strap vin : Nat} (hlow : 4800 ≤ vin) (hhigh : vin ≤ 6400) :
    d.pgoodRise strap vin = (d.sf F.BOOT_STRAP.OSC_DLY strap).waitRise.tryRise := by
  have hvin : ¬ (vin < 4800 ∨ 6400 < vin) := by omega
  unfold pgoodRise
  simp only [if_neg hvin, waitRise]

theorem pgoodRise_out_of_range {strap vin : Nat} (h : vin < 4800 ∨ 6400 < vin) :
    d.pgoodRise strap vin = d.sf F.BOOT_STRAP.OSC_DLY strap := by
  unfold pgoodRise
  simp only [if_pos h]

/-- What a rise of PGOOD_IN that is acted on leaves. -/
structure Started (d e : Dev) : Prop where
  step : e.boot.step = .delay
  kind : e.boot.kind = .cold
  power : e.power = { d.power with rise := false, hold := false, islands := [], therms := [], crossing := [] }
  strap : e.gf F.BOOT_STRAP.OSC_DLY = d.gf F.BOOT_STRAP.OSC_DLY
  chrono : e.chrono = 0
  cores : e.cores = []
  hbm : e.hbm = []
  replies : e.gas.replies = []
  log : e.log = {}

/-- A rise that is acted on waits no longer. -/
def riseTaken (d : Dev) : Dev := { d with power := { d.power with rise := false, hold := false } }

theorem riseTaken_power : d.riseTaken.power = { d.power with rise := false, hold := false } := rfl

theorem pgoodStart_eq : d.pgoodStart = (d.riseTaken.enterStart .cold .delay).sf F.BOOT_STRAP.DELAY_US 0 := rfl

theorem started_pgoodStart : Started d d.pgoodStart := by
  obtain ⟨hstep, hkind⟩ := d.riseTaken.enterStart_boot .cold .delay
  obtain ⟨hchrono, hcores, -, -, -, hlog⟩ := d.riseTaken.enterStart_cleared .cold .delay
  rw [pgoodStart_eq]
  refine ⟨?_, ?_, ?_, ?_, ?_, ?_, ?_, ?_, ?_⟩
  · rw [sf_boot, hstep]
  · rw [sf_boot, hkind]
  · rw [sf_power, enterStart_power, riseTaken_power]
  · rw [gf_sf_of_disjoint _ _ _ _ _ _ _ _ _ _ (by decide) (by decide) (.inr (by decide))]
    exact congrArg (getBits · 34 32) (d.riseTaken.reg_enterStart_strap .cold .delay)
  · rw [sf_chrono, hchrono]
  · rw [sf_cores, hcores]
  · rw [sf_hbm, enterStart_hbm, if_neg (by decide)]
  · rw [sf_gas, enterStart_gas, if_pos rfl]
  · rw [sf_log, hlog]

/-- A rise in range that nothing holds off begins a cold start, with the strap as it was read. -/
theorem pgoodRise_of_free {strap vin : Nat} (hlow : 4800 ≤ vin) (hhigh : vin ≤ 6400) (h : Free d.power) :
    d.pgoodRise strap vin = (d.sf F.BOOT_STRAP.OSC_DLY strap).waitRise.pgoodStart := by
  rw [pgoodRise_in_range hlow hhigh]
  refine tryRise_of_free (congrArg PowerSt.rise waitRise_power) ?_
  rw [waitRise_power, sf_power]
  exact ⟨h.pgoodIn, h.aux, h.closed, h.stageOne, h.path, h.hold, h.hot⟩

theorem gf_strap_waitRise {strap : Nat} (h : strap < 8) :
    (d.sf F.BOOT_STRAP.OSC_DLY strap).waitRise.gf F.BOOT_STRAP.OSC_DLY = strap := by
  rw [gf_waitRise, gf_sf_self _ _ _ _ _ _ (by decide) (by decide)]
  exact Nat.mod_eq_of_lt h

end Dev

end Sys2Proof.Machine
end

/-! PROOFS. A sample of the input: its readings and runs, and what the limits that act on it leave alone. -/

section
namespace Sys2Proof.Machine

open Sys2Proof

/-- The power path apart from the islands, which the limits step. -/
def PowerSt.line (p : PowerSt) : PowerSt := { p with islands := [] }

/-- The power path apart from what a sample's limits note. -/
def PowerSt.unlimited (p : PowerSt) : PowerSt := { p.line with low := false, high := false }

/-- What the limits leave. -/
theorem PowerSt.of_unlimited {p q : PowerSt} (h : p.unlimited = q.unlimited) :
    p.stageOne = q.stageOne ∧ p.path = q.path ∧ p.underRun = q.underRun ∧ p.overRun = q.overRun :=
  ⟨(congrArg stageOne h :), (congrArg path h :), (congrArg underRun h :), (congrArg overRun h :)⟩

theorem PowerSt.of_line {p q : PowerSt} (h : p.line = q.line) : p.low = q.low ∧ p.path = q.path :=
  ⟨(congrArg low h :), (congrArg path h :)⟩

/-- A run of samples that a sample prolongs or ends. -/
def prolong (b : Bool) (n : Nat) : Nat := if b then n + 1 else 0

/-- The runs of a sample; `high` says that its power is above 1.25 × the cap in force. -/
def PowerSt.sampled (p : PowerSt) (vin : Nat) (high : Bool) : PowerSt :=
  { p with
    lowRun := prolong (decide (vin < 4800)) p.lowRun, underRun := prolong (decide (vin < 4400)) p.underRun
    highRun := prolong (decide (6400 < vin)) p.highRun, overRun := prolong (decide (6600 < vin)) p.overRun
    fastRun := if prolong high p.fastRun = 5 then 0 else prolong high p.fastRun }

namespace Dev

variable {d : Dev}

/-! ### Readings and runs -/

/-- The readings of a sample. -/
def readings (d : Dev) (vin iin pin : Nat) : Dev :=
  (((d.sf F.PWR_INPUT.VIN vin).sf F.PWR_INPUT.IIN iin).sf F.PWR_INPUT.PIN_W pin).incr F.PWR_ENERGY_CNT.UJ (10 * pin)

/-- The power of a sample is above 1.25 × the cap in force. -/
def overCap (d : Dev) (pin : Nat) : Bool := decide (5 * d.gf F.PWR_STAT.CAP_IN_FORCE_W < 4 * pin)

def withPower (d : Dev) (p : PowerSt) : Dev := { d with power := p }

theorem inputRuns_eq (vin iin pin : Nat) : (d.inputRuns vin iin pin).2 =
    (d.readings vin iin pin).withPower ((d.readings vin iin pin).power.sampled vin ((d.readings vin iin pin).overCap pin)) := rfl

theorem gf_withPower (p : PowerSt) (f : Fld) (u i j : Nat) : (d.withPower p).gf f u i j = d.gf f u i j := rfl

theorem only_withPower (p : PowerSt) : Only [] [.power] d (d.withPower p) := (Only.refl _ _ d).power (by decide)

theorem only_readings (vin iin pin : Nat) :
    Only [⟨.PWR_INPUT, 0, 0, 0⟩, ⟨.PWR_ENERGY_CNT, 0, 0, 0⟩] [] d (d.readings vin iin pin) :=
  ((((Only.refl _ _ d).sfFree (by decide) (.inl (by decide))).sfFree (by decide) (.inl (by decide))).sfFree (by decide)
    (.inl (by decide))).sfFree (by decide) (.inl (by decide))

theorem readings_power (vin iin pin : Nat) : (d.readings vin iin pin).power = d.power :=
  (only_readings vin iin pin).2 .power (by decide) (by simp)

section

variable (vin iin pin : Nat)

theorem only_inputRuns :
    Only [⟨.PWR_INPUT, 0, 0, 0⟩, ⟨.PWR_ENERGY_CNT, 0, 0, 0⟩] [.power] d (d.inputRuns vin iin pin).2 := by
  rw [inputRuns_eq]
  exact ((only_readings vin iin pin).mono (fun _ h => .inl h) (by simp)).trans ((only_withPower _).mono (by simp) (by simp))

theorem inputRuns_power : (d.inputRuns vin iin pin).2.power = d.power.sampled vin (d.overCap pin) := by
  have hcap : (d.readings vin iin pin).overCap pin = d.overCap pin := by
    rw [overCap, (only_readings vin iin pin).gf (by decide) (by simp), overCap]
  rw [inputRuns_eq, hcap, readings_power]
  rfl

end

theorem gf_readings_vin {vin : Nat} (h : vin < 2 ^ 16) (iin pin : Nat) : (d.readings vin iin pin).gf F.PWR_INPUT.VIN = vin := by
  rw [readings, incr, gf_sf_of_reg_ne _ _ _ _ _ _ _ _ _ _ (by decide),
    gf_sf_of_disjoint _ _ _ _ _ _ _ _ _ _ (by decide) (by decide) (by decide),
    gf_sf_of_disjoint _ _ _ _ _ _ _ _ _ _ (by decide) (by decide) (by decide), gf_sf_self _ _ _ _ _ _ (by decide) (by decide)]
  exact Nat.mod_eq_of_lt h

theorem gf_readings_iin {iin : Nat} (h : iin < 2 ^ 16) (vin pin : Nat) : (d.readings vin iin pin).gf F.PWR_INPUT.IIN = iin := by
  rw [readings, incr, gf_sf_of_reg_ne _ _ _ _ _ _ _ _ _ _ (by decide),
    gf_sf_of_disjoint _ _ _ _ _ _ _ _ _ _ (by decide) (by decide) (by decide), gf_sf_self _ _ _ _ _ _ (by decide) (by decide)]
  exact Nat.mod_eq_of_lt h

theorem gf_readings_pin {pin : Nat} (h : pin < 2 ^ 16) (vin iin : Nat) : (d.readings vin iin pin).gf F.PWR_INPUT.PIN_W = pin := by
  rw [readings, incr, gf_sf_of_reg_ne _ _ _ _ _ _ _ _ _ _ (by decide), gf_sf_self _ _ _ _ _ _ (by decide) (by decide)]
  exact Nat.mod_eq_of_lt h

theorem gf_readings_energy (vin iin pin : Nat) :
    (d.readings vin iin pin).gf F.PWR_ENERGY_CNT.UJ = (d.gf F.PWR_ENERGY_CNT.UJ + 10 * pin) % 2 ^ 64 := by
  rw [readings, incr, gf_sf_self _ _ _ _ _ _ (by decide) (by decide), gf_sf_of_reg_ne _ _ _ _ _ _ _ _ _ _ (by decide),
    gf_sf_of_reg_ne _ _ _ _ _ _ _ _ _ _ (by decide), gf_sf_of_reg_ne _ _ _ _ _ _ _ _ _ _ (by decide)]
  rfl

/-! ### The fast limit -/

theorem line_modIsl (n : Nat) (g : IslandSt → IslandSt) : (d.modIsl n g).power.line = d.power.line := rfl

theorem line_startRamp (n : Nat) (b : Nat × Nat) : (d.startRamp n b).power.line = d.power.line := by
  unfold startRamp
  rw [sf_power, line_modIsl]

theorem line_retarget (n : Nat) : (d.retarget n).power.line = d.power.line := by
  unfold retarget
  split
  · rfl
  · split
    · dsimp only
      split
      · rw [line_startRamp, sf_power, sf_power]
      · split
        · rw [line_modIsl, sf_power, sf_power]
        · rw [sf_power, sf_power]
    · rw [line_startRamp, sf_power]

theorem line_lowerAll : d.lowerAll.power.line = d.power.line := by
  unfold lowerAll
  refine List.foldlRecOn (motive := fun e : Dev => e.power.line = d.power.line) _ _ rfl fun e he n _ => ?_
  split
  · exact (line_retarget n).trans he
  · exact he

theorem only_lowerAll : Only [] [.reg .CLK_ISLAND_n_STAT, .power] d d.lowerAll := by
  unfold lowerAll
  refine (Only.refl _ _ d).foldl fun e n _ h => .ite ?_ h
  exact (h.trans (only_modIsl n _)).trans ((only_retarget n).mono (by simp) (by simp))

theorem bump_power (f sat : Fld) (n u i j : Nat) : (d.bump f sat n u i j).power = d.power := by
  unfold bump
  extract_lets m x
  split
  · rw [sf_power, sf_power]
  · rw [sf_power]

theorem line_fastLimit : d.fastLimit.power.line = d.power.line := by
  rw [fastLimit, line_lowerAll, bump_power]

theorem only_fastLimit : Only [] [.reg .PWR_EVENT_CNT, .reg .CLK_ISLAND_n_STAT, .power] d d.fastLimit := by
  have hbump := (Only.refl [] [.reg .PWR_EVENT_CNT, .reg .CLK_ISLAND_n_STAT, .power] d).bumpFree
    (f := F.PWR_EVENT_CNT.FASTLIM_CNT) (sat := F.PWR_EVENT_CNT.FASTLIM_SAT) (n := 1) (u := 0) (i := 0) (j := 0)
    (by decide) (by decide) rfl (.inr (by decide))
  exact hbump.trans (only_lowerAll.mono (by simp) (by simp))

/-! ### The input low or high -/

/-- What the input's own limits change. -/
def inputParts : List Part := .power :: .reg .PWR_STAT :: .reg .PWR_EVENT_CNT :: .reg .INT_PEND_SET_k :: logParts

theorem gf_bump_of_reg_ne {f sat g : Fld} (hf : g.reg ≠ f.reg) (hs : g.reg ≠ sat.reg) (n u i j u' i' j' : Nat) :
    (d.bump f sat n u i j).gf g u' i' j' = d.gf g u' i' j' := by
  unfold bump
  extract_lets m x
  split
  · rw [gf_sf_of_reg_ne _ _ _ _ _ _ _ _ _ _ hs, gf_sf_of_reg_ne _ _ _ _ _ _ _ _ _ _ hf]
  · rw [gf_sf_of_reg_ne _ _ _ _ _ _ _ _ _ _ hf]

/-- The input is low. -/
def lowNoted (d : Dev) (vin : Nat) : Dev :=
  ((((d.withPower { d.power with low := true }).sf F.PWR_STAT.INPUT_LOW 1).bump F.PWR_EVENT_CNT.LOW_CNT F.PWR_EVENT_CNT.LOW_SAT
    1).logPwr Code.PWR_INPUT_LOW 0xFFFF 0 vin).raise 195

theorem inputLow_eq (vin : Nat) : d.inputLow vin =
    if 10 ≤ d.power.lowRun ∧ !d.power.low then (d.lowNoted vin).refreshCap else d := rfl

theorem lowNoted_power (vin : Nat) : (d.lowNoted vin).power = { d.power with low := true } := by
  rw [lowNoted, raise_power, logPwr_power, bump_power, sf_power, withPower]

theorem gf_lowNoted (vin : Nat) : (d.lowNoted vin).gf F.PWR_STAT.INPUT_LOW = 1 := by
  rw [lowNoted, gf_raise _ _ _ _ (by decide), gf_logPwr _ _ _ _ _ _ _ (by decide) (.inl (by decide)),
    gf_bump_of_reg_ne (by decide) (by decide), gf_sf_self _ _ _ _ _ _ (by decide) (by decide)]
  rfl

theorem only_lowNoted (vin : Nat) : Only [] inputParts d (d.lowNoted vin) := by
  have hpower : Only [] inputParts d (d.withPower { d.power with low := true }) := (only_withPower _).mono (by simp) (by simp [inputParts])
  have hbump := (hpower.sfFree (f := F.PWR_STAT.INPUT_LOW) (v := 1) (u := 0) (i := 0) (j := 0) (by decide)
    (.inr (by decide))).bumpFree (f := F.PWR_EVENT_CNT.LOW_CNT) (sat := F.PWR_EVENT_CNT.LOW_SAT) (n := 1) (u := 0) (i := 0) (j := 0)
    (by decide) (by decide) rfl (.inr (by decide))
  have hlog := hbump.logPwr (code := Code.PWR_INPUT_LOW) (unit := 0xFFFF) (d0 := 0) (d1 := vin) (.inr (by decide)) (by decide)
  exact hlog.raise (.inr (by decide))

/-- The input is high. -/
def highNoted (d : Dev) (vin : Nat) : Dev :=
  ((((d.withPower { d.power with high := true }).sf F.PWR_STAT.INPUT_HIGH 1).bump F.PWR_EVENT_CNT.HIGH_CNT F.PWR_EVENT_CNT.HIGH_SAT
    1).logPwr Code.PWR_INPUT_HIGH 0xFFFF 0 vin).raise 195

theorem inputHigh_eq (vin : Nat) : d.inputHigh vin =
    if 10 ≤ d.power.highRun ∧ !d.power.high then d.highNoted vin
    else if vin ≤ 6400 ∧ d.power.high then (d.withPower { d.power with high := false }).sf F.PWR_STAT.INPUT_HIGH 0
    else d := rfl

theorem highNoted_power (vin : Nat) : (d.highNoted vin).power = { d.power with high := true } := by
  rw [highNoted, raise_power, logPwr_power, bump_power, sf_power, withPower]

theorem only_highNoted (vin : Nat) : Only [] inputParts d (d.highNoted vin) := by
  have hpower : Only [] inputParts d (d.withPower { d.power with high := true }) := (only_withPower _).mono (by simp) (by simp [inputParts])
  have hbump := (hpower.sfFree (f := F.PWR_STAT.INPUT_HIGH) (v := 1) (u := 0) (i := 0) (j := 0) (by decide)
    (.inr (by decide))).bumpFree (f := F.PWR_EVENT_CNT.HIGH_CNT) (sat := F.PWR_EVENT_CNT.HIGH_SAT) (n := 1) (u := 0) (i := 0) (j := 0)
    (by decide) (by decide) rfl (.inr (by decide))
  have hlog := hbump.logPwr (code := Code.PWR_INPUT_HIGH) (unit := 0xFFFF) (d0 := 0) (d1 := vin) (.inr (by decide)) (by decide)
  exact hlog.raise (.inr (by decide))

theorem only_inputLow (vin : Nat) : Only [] inputParts d (d.inputLow vin) := by
  rw [inputLow_eq]
  exact .ite ((only_lowNoted vin).trans (only_refreshCap.mono (by simp [inputParts]) (by simp))) (.refl _ _ d)

theorem only_inputHigh (vin : Nat) : Only [] inputParts d (d.inputHigh vin) := by
  rw [inputHigh_eq]
  refine .ite (only_highNoted vin) (.ite ?_ (.refl _ _ d))
  have hpower : Only [] inputParts d (d.withPower { d.power with high := false }) := (only_withPower _).mono (by simp) (by simp [inputParts])
  exact hpower.sfFree (by decide) (.inr (by decide))

theorem inputLow_unlimited (vin : Nat) : (d.inputLow vin).power.unlimited = d.power.unlimited := by
  rw [inputLow_eq]
  split
  · rw [refreshCap_power, lowNoted_power]
    rfl
  · rfl

theorem inputHigh_unlimited (vin : Nat) : (d.inputHigh vin).power.unlimited = d.power.unlimited := by
  rw [inputHigh_eq]
  split
  · rw [highNoted_power]
    rfl
  · split
    · rw [sf_power]
      rfl
    · rfl

/-- An input in its range, that has not been high, is not noted high. -/
theorem inputHigh_of_in_range {vin : Nat} (hrun : d.power.highRun < 10) (h : d.power.high = false) : d.inputHigh vin = d := by
  rw [inputHigh_eq, if_neg (by omega), if_neg (by simp [h])]

/-! ### The whole sample -/

/-- What acts on a sample while stage one is on, before the input may count as gone. -/
def limited (d : Dev) (fast : Bool) (vin : Nat) : Dev :=
  if fast then ((d.inputLow vin).inputHigh vin).fastLimit else (d.inputLow vin).inputHigh vin

theorem inputSample_eq (vin iin pin : Nat) : d.inputSample vin iin pin =
    if !(d.inputRuns vin iin pin).2.power.stageOne then (d.inputRuns vin iin pin).2.inputGone
    else ((d.inputRuns vin iin pin).2.limited (d.inputRuns vin iin pin).1 vin).inputGone := rfl

theorem limited_unlimited (fast : Bool) (vin : Nat) : (d.limited fast vin).power.unlimited = d.power.unlimited := by
  have hhigh : ((d.inputLow vin).inputHigh vin).power.unlimited = d.power.unlimited := by
    rw [inputHigh_unlimited, inputLow_unlimited]
  unfold limited
  split
  · exact (congrArg (fun p : PowerSt => { p with low := false, high := false }) line_fastLimit).trans hhigh
  · exact hhigh

theorem limited_boot (fast : Bool) (vin : Nat) : (d.limited fast vin).boot = d.boot := by
  have hhigh : ((d.inputLow vin).inputHigh vin).boot = d.boot :=
    ((only_inputHigh vin).2 .boot (by decide) (by simp)).trans ((only_inputLow vin).2 .boot (by decide) (by simp))
  unfold limited
  split
  · exact (only_fastLimit.2 .boot (by decide) (by simp)).trans hhigh
  · exact hhigh

end Dev

end Sys2Proof.Machine
end

/-! PROOFS. O27: the events of the module's input. -/

section
namespace Sys2Proof.Machine

open Sys2Proof

namespace Dev

variable {d e : Dev}

theorem runs_congr (hone : e.power.stageOne = d.power.stageOne) (hboot : e.boot = d.boot) : e.runs = d.runs := by
  rw [runs, runs, hone, hboot]

theorem withPower_power (p : PowerSt) : (d.withPower p).power = p := rfl

theorem stageOne_of_not_runs (h : d.runs = false) : d.power.stageOne = false := by
  rw [runs, Bool.or_eq_false_iff, Bool.or_eq_false_iff] at h
  exact h.1.1

theorem runs_of_stageOne (h : d.power.stageOne = true) : d.runs = true := by
  rw [runs, h, Bool.true_or, Bool.true_or]

/-! ### PGOOD_IN and the strap delay -/

theorem pgoodFall_eq : d.pgoodFall =
    if (d.withPower { d.power with pgoodIn := false, rise := false }).runs
    then (d.withPower { d.power with pgoodIn := false, rise := false }).lossPath 3 false
    else if d.boot.step = .recovery ∧ d.power.path.isNone
    then (d.withPower { d.power with pgoodIn := false, rise := false }).setBoot .off
    else d.withPower { d.power with pgoodIn := false, rise := false } := rfl

/-- The Rails step as the strap delay ends with it. -/
def railsBegun (d : Dev) (khz : Nat) : Dev :=
  (((d.withPower { d.power with stageOne := true }).sf F.PWR_STAT.CONVERTERS (5 - d.power.failed)).refBack khz).setBoot .rails

section

variable {khz : Nat}

theorem only_refBack : Only [⟨.CLK_STAT, 0, 0, 0⟩] [] d (d.refBack khz) :=
  (((Only.refl _ _ d).sfFree (by decide) (.inl (by decide))).sfFree (by decide) (.inl (by decide))).sfFree (by decide)
    (.inl (by decide))

theorem gf_refBack (h : khz < 2 ^ 17) : (d.refBack khz).gf F.CLK_STAT.REF_OK = 1 ∧ (d.refBack khz).gf F.CLK_STAT.HOLDOVER = 0
    ∧ (d.refBack khz).gf F.CLK_STAT.REF_KHZ = khz := by
  unfold refBack
  refine ⟨?_, ?_, ?_⟩
  · rw [gf_sf_of_disjoint _ _ _ _ _ _ _ _ _ _ (by decide) (by decide) (by decide),
      gf_sf_of_disjoint _ _ _ _ _ _ _ _ _ _ (by decide) (by decide) (by decide), gf_sf_self _ _ _ _ _ _ (by decide) (by decide)]
    rfl
  · rw [gf_sf_of_disjoint _ _ _ _ _ _ _ _ _ _ (by decide) (by decide) (by decide),
      gf_sf_self _ _ _ _ _ _ (by decide) (by decide)]
    rfl
  · rw [gf_sf_self _ _ _ _ _ _ (by decide) (by decide)]
    exact Nat.mod_eq_of_lt h

theorem railsBegun_power : (d.railsBegun khz).power = { d.power with stageOne := true } := by
  rw [railsBegun, (only_setBoot _).2 .power (by decide) (by simp), only_refBack.2 .power (by decide) (by simp), sf_power,
    withPower_power]

theorem railsBegun_boot : (d.railsBegun khz).boot = { d.boot with step := .rails } := by
  rw [railsBegun, setBoot_boot, only_refBack.2 .boot (by decide) (by simp), sf_boot]
  rfl

theorem gf_railsBegun_converters : (d.railsBegun khz).gf F.PWR_STAT.CONVERTERS = 5 - d.power.failed := by
  rw [railsBegun, gf_setBoot _ _ _ _ (by decide), only_refBack.gf (by decide) (by simp),
    gf_sf_self _ _ _ _ _ _ (by decide) (by decide)]
  exact Nat.mod_eq_of_lt (Nat.lt_of_le_of_lt (Nat.sub_le _ _) (by decide))

theorem gf_railsBegun_ref (h : khz < 2 ^ 17) : (d.railsBegun khz).gf F.CLK_STAT.REF_OK = 1
    ∧ (d.railsBegun khz).gf F.CLK_STAT.HOLDOVER = 0 ∧ (d.railsBegun khz).gf F.CLK_STAT.REF_KHZ = khz := by
  rw [railsBegun, gf_setBoot _ _ _ _ (by decide), gf_setBoot _ _ _ _ (by decide), gf_setBoot _ _ _ _ (by decide)]
  exact gf_refBack h

theorem only_railsBegun : Only [⟨.PWR_STAT, 0, 0, 0⟩, ⟨.CLK_STAT, 0, 0, 0⟩, ⟨.BOOT_STAT, 0, 0, 0⟩] [.power, .boot] d
    (d.railsBegun khz) := by
  have hpower := (only_withPower (d := d) { d.power with stageOne := true }).mono (rs' := [⟨.PWR_STAT, 0, 0, 0⟩, ⟨.CLK_STAT, 0, 0, 0⟩,
    ⟨.BOOT_STAT, 0, 0, 0⟩]) (ps' := [.power, .boot]) (by simp) (by simp)
  have hconv := hpower.sfFree (f := F.PWR_STAT.CONVERTERS) (v := 5 - d.power.failed) (u := 0) (i := 0) (j := 0) (by decide)
    (.inl (by decide))
  exact (hconv.trans (only_refBack.mono (by simp) (by simp))).trans ((only_setBoot _).mono (by simp) (by simp))

/-- The strap delay ends with the Rails step, the converters then checked. -/
theorem delayEnd_eq (hs : d.boot.step = .delay) (hc : d.boot.coldNext = false) (hp : d.power.path = none) :
    d.delayEnd khz = (d.railsBegun khz).converterCheck := by
  have hcold : (((d.withPower { d.power with stageOne := true }).sf F.PWR_STAT.CONVERTERS (5 - d.power.failed)).refBack
      khz).boot.coldNext = false := by
    rw [only_refBack.2 .boot (by decide) (by simp), sf_boot]
    exact hc
  unfold delayEnd
  rw [if_neg (by simp [hs, hp])]
  exact congrArg converterCheck (stepTo_of_not_coldNext .rails hcold)

end

theorem converterCheck_of_two {d : Dev} (h : d.power.failed < 4) : d.converterCheck = d := by
  unfold converterCheck
  rw [if_neg (by omega)]

theorem converterCheck_of_one {d : Dev} (h : 4 ≤ d.power.failed) (hone : d.power.stageOne = true) :
    d.converterCheck = d.beginLoss 4 := by
  unfold converterCheck
  rw [if_pos h, lossPath_of_runs (runs_of_stageOne hone)]

/-! ### Samples -/

/-- The input has been out of its range for two samples, and the path that follows begins. -/
theorem inputGone_of_runs (hg : 2 ≤ d.power.underRun ∨ 2 ≤ d.power.overRun) (hr : d.runs = true) :
    d.inputGone = (d.withPower { d.power with closed := false }).beginLoss 1 := by
  unfold inputGone
  rw [if_pos hg, lossPath_opened_of_runs hr, withPower]

theorem inputGone_of_in_range (hu : d.power.underRun = 0) (ho : d.power.overRun = 0) : d.inputGone = d := by
  unfold inputGone
  rw [if_neg (by omega)]

theorem only_inputGone_of_not_runs (h : d.runs = false) : Only [] [.power] d d.inputGone := by
  unfold inputGone
  exact .ite (only_lossPath_of_not_runs h) (.refl _ _ d)

section

variable (vin iin pin : Nat)

theorem inputRuns_runs : (d.inputRuns vin iin pin).2.runs = d.runs :=
  runs_congr (by rw [inputRuns_power]; rfl) ((only_inputRuns vin iin pin).2 .boot (by decide) (by simp))

theorem limited_runs (fast : Bool) : (d.limited fast vin).runs = d.runs :=
  runs_congr (PowerSt.of_unlimited (limited_unlimited fast vin)).1 (limited_boot fast vin)

end

/-- A sample ends with the check whether the input is gone, which sees its runs whatever limits have acted. -/
theorem inputSample_gone (vin iin pin : Nat) : ∃ x : Dev, d.inputSample vin iin pin = x.inputGone ∧ x.runs = d.runs
    ∧ x.power.unlimited = (d.power.sampled vin (d.overCap pin)).unlimited := by
  rw [inputSample_eq]
  split
  · exact ⟨_, rfl, inputRuns_runs vin iin pin, by rw [inputRuns_power]⟩
  · exact ⟨_, rfl, (limited_runs vin _).trans (inputRuns_runs vin iin pin), (limited_unlimited _ vin).trans (by rw [inputRuns_power])⟩

/-- With stage one off and no start that holds it off, a sample is read and its runs counted; at most the input switch opens. -/
theorem inputSample_of_not_runs (vin iin pin : Nat) (h : d.runs = false) :
    Only [] [.power] (d.readings vin iin pin) (d.inputSample vin iin pin) := by
  have hone : (d.inputRuns vin iin pin).2.power.stageOne = false := by
    rw [inputRuns_power]
    exact stageOne_of_not_runs h
  have hruns : (d.inputRuns vin iin pin).2.runs = false := (inputRuns_runs vin iin pin).trans h
  rw [inputSample_eq, if_pos (by rw [hone]; rfl)]
  refine Only.trans ?_ (only_inputGone_of_not_runs hruns)
  rw [inputRuns_eq]
  exact only_withPower _

/-- What a sample shows once the input has been found low. -/
structure LowShown (d e : Dev) : Prop where
  low : e.power.low = true
  path : e.power.path = d.power.path
  shown : e.gf F.PWR_STAT.INPUT_LOW = 1
  pending : getBits (e.reg ⟨.INT_PEND_SET_k, 0, 3, 0⟩) 3 3 = 1

/-- The input is found low. -/
theorem inputLow_of_run {vin : Nat} (hrun : 10 ≤ d.power.lowRun) (h : d.power.low = false) :
    d.inputLow vin = (d.lowNoted vin).refreshCap := by
  rw [inputLow_eq, if_pos ⟨hrun, by simp [h]⟩]

theorem lowShown_refreshCap (vin : Nat) : LowShown d (d.lowNoted vin).refreshCap := by
  refine ⟨?_, ?_, ?_, ?_⟩
  · rw [refreshCap_power, lowNoted_power]
  · rw [refreshCap_power, lowNoted_power]
  · rw [gf_refreshCap _ _ _ (by decide) (by decide), gf_lowNoted]
  · rw [getBits_refreshCap _ _ (.inr (by decide))]
    exact getBits_raise 195

theorem LowShown.fastLimit {d e : Dev} (h : LowShown d e) : LowShown d e.fastLimit := by
  obtain ⟨hlow, hpath⟩ := PowerSt.of_line (line_fastLimit (d := e))
  refine ⟨hlow.trans h.low, hpath.trans h.path, ?_, ?_⟩
  · rw [only_fastLimit.gf (by simp) (by decide), h.shown]
  · rw [only_fastLimit.1 _ (by simp) (by decide), h.pending]

/-- An input that is low for the tenth time, and has not been high, is shown low by the limits of the sample. -/
theorem lowShown_limited {vin : Nat} (fast : Bool) (hrun : 10 ≤ d.power.lowRun) (hlow : d.power.low = false)
    (hhigh : d.power.high = false) (hnone : d.power.highRun = 0) : LowShown d (d.limited fast vin) := by
  have hp : (d.inputLow vin).power = { d.power with low := true } := by
    rw [inputLow_of_run hrun hlow, refreshCap_power, lowNoted_power]
  have hin : (d.inputLow vin).inputHigh vin = d.inputLow vin := by
    refine inputHigh_of_in_range ?_ ?_
    · rw [hp, hnone]
      decide
    · rw [hp, hhigh]
  have hshown : LowShown d (d.inputLow vin) := inputLow_of_run hrun hlow ▸ lowShown_refreshCap vin
  rw [limited, hin]
  split
  · exact hshown.fastLimit
  · exact hshown

theorem sampled_in_range {p : PowerSt} {vin : Nat} (high : Bool) (hvin : 4400 ≤ vin ∧ vin < 4800) :
    (p.sampled vin high).lowRun = p.lowRun + 1 ∧ (p.sampled vin high).underRun = 0 ∧ (p.sampled vin high).highRun = 0
      ∧ (p.sampled vin high).overRun = 0 := by
  refine ⟨if_pos (decide_eq_true hvin.2), if_neg ?_, if_neg ?_, if_neg ?_⟩ <;>
  · rw [decide_eq_true_eq]
    omega

/-- The tenth sample below 48 V, with the input otherwise in range, shows the input low. -/
theorem lowShown_inputSample {vin : Nat} (iin pin : Nat) (hone : d.power.stageOne = true) (hrun : 9 ≤ d.power.lowRun)
    (hlow : d.power.low = false) (hhigh : d.power.high = false) (hvin : 4400 ≤ vin ∧ vin < 4800) :
    LowShown d (d.inputSample vin iin pin) := by
  have hp := d.inputRuns_power vin iin pin
  obtain ⟨hl, hu, hh, ho⟩ := sampled_in_range (p := d.power) (d.overCap pin) hvin
  have hone' : (d.inputRuns vin iin pin).2.power.stageOne = true := by rw [hp]; exact hone
  have hshown := lowShown_limited (d := (d.inputRuns vin iin pin).2) (vin := vin) (d.inputRuns vin iin pin).1
    (by rw [hp, hl]; omega) (by rw [hp]; exact hlow) (by rw [hp]; exact hhigh) (by rw [hp, hh])
  obtain ⟨-, -, hu', ho'⟩ :=
    PowerSt.of_unlimited (limited_unlimited (d := (d.inputRuns vin iin pin).2) (d.inputRuns vin iin pin).1 vin)
  rw [inputSample_eq, if_neg (by simp [hone']), inputGone_of_in_range]
  · exact ⟨hshown.low, hshown.path.trans (by rw [hp, PowerSt.sampled]), hshown.shown, hshown.pending⟩
  · rw [hu', hp, hu]
  · rw [ho', hp, ho]

/-- The second sample outside 44 to 66 V. -/
theorem sampled_gone {p : PowerSt} {vin : Nat} (high : Bool) (h : vin < 4400 ∧ 1 ≤ p.underRun ∨ 6600 < vin ∧ 1 ≤ p.overRun) :
    2 ≤ (p.sampled vin high).underRun ∨ 2 ≤ (p.sampled vin high).overRun := by
  rcases h with ⟨hv, hr⟩ | ⟨hv, hr⟩
  · exact .inl (by rw [show (p.sampled vin high).underRun = p.underRun + 1 from if_pos (decide_eq_true hv)]; omega)
  · exact .inr (by rw [show (p.sampled vin high).overRun = p.overRun + 1 from if_pos (decide_eq_true hv)]; omega)

end Dev

end Sys2Proof.Machine
end

/-! PROOFS. O27: its clauses. -/

section
namespace Sys2Proof.Machine

open Sys2Proof

namespace Dev

variable {d : Dev}

/-! ### The events as functions of the device -/

/-- The input switch has closed. -/
def switchClosed (d : Dev) : Dev := d.withPower { d.power with closed := true }

/-- The device Off as the auxiliary path comes into service. -/
def auxOn (d : Dev) : Dev := (d.withPower { d.power with aux := true }).refreshPgood.setBoot .off

/-- The auxiliary path comes into service. -/
def auxReturn (d : Dev) (st vin : Nat) : Dev :=
  if !d.power.closed || d.power.aux then d else if d.auxOn.power.pgoodIn then d.auxOn.pgoodRise st vin else d.auxOn

/-- The module is pulled out of its connector: the input switch opens. -/
def unmated (d : Dev) : Dev := d.withPower { d.power with mated := false, closed := false }

def mateBreak (d : Dev) : Dev := if d.unmated.power.aux then d.unmated.beginLoss 1 else d.unmated

/-- PGOOD_IN is high. -/
def pgoodHigh (d : Dev) : Dev := d.withPower { d.power with pgoodIn := true }

def pgoodEdge (d : Dev) (st vin : Nat) : Dev :=
  if d.power.pgoodIn then d else if d.pgoodHigh.power.aux then d.pgoodHigh.pgoodRise st vin else d.pgoodHigh

/-- PGOOD_IN is low, and no rise waits. -/
def pgoodLow (d : Dev) : Dev := d.withPower { d.power with pgoodIn := false, rise := false }

/-- A rise is no longer held for 100 ms. -/
def holdOver (d : Dev) : Dev := d.withPower { d.power with hold := false }

theorem switchClosed_power : d.switchClosed.power = { d.power with closed := true } := rfl

theorem unmated_power : d.unmated.power = { d.power with mated := false, closed := false } := rfl

theorem pgoodHigh_power : d.pgoodHigh.power = { d.power with pgoodIn := true } := rfl

theorem pgoodLow_power : d.pgoodLow.power = { d.power with pgoodIn := false, rise := false } := rfl

theorem holdOver_power : d.holdOver.power = { d.power with hold := false } := rfl

theorem auxOn_power : d.auxOn.power = { d.power with
    aux := true, pgoodOut := if d.power.railsUp && d.power.badRails.isEmpty then .released else .low } := by
  rw [auxOn, (only_setBoot _).2 .power (by decide) (by simp)]
  rfl

theorem only_auxOn : Only [⟨.BOOT_STAT, 0, 0, 0⟩] [.power, .boot] d d.auxOn := by
  have hpower : Only [] [.power] d (d.withPower { d.power with aux := true }).refreshPgood := (only_withPower _).power (by decide)
  exact (hpower.mono (by simp) (by simp)).trans ((only_setBoot _).mono (by simp) (by simp))

theorem auxReturn_of_closed {st vin : Nat} (hc : d.power.closed = true) (ha : d.power.aux = false) :
    d.auxReturn st vin = if d.power.pgoodIn then d.auxOn.pgoodRise st vin else d.auxOn := by
  rw [auxReturn, if_neg (by simp [hc, ha]), auxOn_power]

theorem pgoodEdge_of_aux {st vin : Nat} (hin : d.power.pgoodIn = false) (ha : d.power.aux = true) :
    d.pgoodEdge st vin = d.pgoodHigh.pgoodRise st vin := by
  rw [pgoodEdge, if_neg (by simp [hin]), if_pos (by rw [pgoodHigh_power, ha])]

theorem pgoodFall_of_runs (h : d.runs = true) : d.pgoodFall = d.pgoodLow.beginLoss 3 := by
  have hruns : d.pgoodLow.runs = true := h
  exact (pgoodFall_eq.trans (if_pos hruns)).trans (lossPath_of_runs hruns)

theorem pgoodFall_of_recovery (hone : d.power.stageOne = false) (hs : d.boot.step = .recovery) (hp : d.power.path = none) :
    d.pgoodFall = d.pgoodLow.setBoot .off := by
  have hruns : d.pgoodLow.runs = false := by
    rw [runs, pgoodLow_power, hone, show d.pgoodLow.boot = d.boot from rfl, hs]
    rfl
  exact (pgoodFall_eq.trans (if_neg (by rw [pgoodLow] at hruns; simp [hruns]))).trans (if_pos ⟨hs, by simp [hp]⟩)

theorem pgoodHoldEnd_of_hold (hh : d.power.hold = true) (hs : d.boot.step ≠ .hold) : d.pgoodHoldEnd = d.holdOver.tryRise := by
  unfold pgoodHoldEnd
  rw [if_neg (by simp [hh, hs])]
  rfl

end Dev

end Sys2Proof.Machine
end

/-! PROOFS. O27: its clauses. -/

section
namespace Sys2Proof.Machine

open Sys2Proof Dev

/-! ### The connector and the auxiliary path -/

theorem completes_prsntNMate :
    Completes .prsntNMate (fun _ => True) fun d e => e.power = { d.power with mated := true } ∧ Only [] [.power] d e :=
  .of_upd (f := fun d => d.withPower { d.power with mated := true }) (fun _ => rfl) fun _ _ => ⟨rfl, only_withPower _⟩

section

variable {p : Dev → Prop} {q : Dev → Dev → Prop}

theorem Completes.of_switchClose (h : ∀ d, p d → d.power.mated = true ∧ q d d.switchClosed.tryRise) :
    Completes .inputSwitchClose p q := by
  refine .of_upd (f := fun d => if d.power.mated then d.switchClosed.tryRise else d) (fun _ => rfl) fun d hd => ?_
  obtain ⟨hm, hq⟩ := h d hd
  rw [if_pos hm]
  exact hq

end

theorem completes_inputSwitchClose : Completes .inputSwitchClose (fun d => d.power.mated = true ∧ d.power.rise = false)
    fun d e => e.power = { d.power with closed := true } ∧ Only [] [.power] d e := by
  refine .of_switchClose fun d ⟨hm, hr⟩ => ⟨hm, ?_⟩
  rw [tryRise_of_no_rise (by rw [switchClosed_power, hr])]
  exact ⟨switchClosed_power, only_withPower _⟩

theorem completes_inputSwitchClose_rise : Completes .inputSwitchClose
    (fun d => d.power.mated = true ∧ d.power.rise = true ∧ d.power.pgoodIn = true ∧ d.power.aux = true
      ∧ d.power.stageOne = false ∧ d.power.path = none ∧ d.power.hold = false ∧ d.power.hot = false)
    fun _ e => e.power.closed = true ∧ e.power.rise = false ∧ e.boot.step = .delay ∧ e.boot.kind = .cold := by
  refine .of_switchClose fun d ⟨hm, hr, hin, haux, hone, hpath, hhold, hhot⟩ => ⟨hm, ?_⟩
  have h := started_pgoodStart (d := d.switchClosed)
  rw [tryRise_of_free (by rw [switchClosed_power, hr]) (by rw [switchClosed_power]; exact ⟨hin, haux, rfl, hone, hpath, hhold, hhot⟩)]
  exact ⟨by rw [h.power, switchClosed_power], by rw [h.power], h.step, h.kind⟩

theorem completes_auxPathInService (st : Fin 8) (vin : Fin 65536) : Completes (.auxPathInService st vin)
    (fun d => d.power.closed = true ∧ d.power.aux = false ∧ d.power.pgoodIn = false) fun d e =>
      e.power = { d.power with
          aux := true, pgoodOut := if d.power.railsUp && d.power.badRails.isEmpty then .released else .low }
        ∧ e.boot = { d.boot with step := .off } ∧ e.gf F.BOOT_STAT.STATE = 10
        ∧ Only [⟨.BOOT_STAT, 0, 0, 0⟩] [.power, .boot] d e := by
  refine .of_upd (f := fun d => d.auxReturn st vin) (fun _ => rfl) fun d ⟨hc, ha, hin⟩ => ?_
  rw [auxReturn_of_closed hc ha, if_neg (by simp [hin])]
  exact ⟨auxOn_power, setBoot_boot _, gf_setBoot_state _, only_auxOn⟩

theorem completes_auxPathInService_pgood (st : Fin 8) (vin : Fin 65536) : Completes (.auxPathInService st vin)
    (fun d => d.power.closed = true ∧ d.power.aux = false ∧ d.power.pgoodIn = true ∧ d.power.stageOne = false
      ∧ d.power.path = none ∧ d.power.hold = false ∧ d.power.hot = false ∧ 4800 ≤ vin.val ∧ vin.val ≤ 6400) fun _ e =>
      e.power.aux = true ∧ e.boot.step = .delay ∧ e.boot.kind = .cold ∧ e.gf F.BOOT_STRAP.OSC_DLY = st.val := by
  refine .of_upd (f := fun d => d.auxReturn st vin) (fun _ => rfl) fun d ⟨hc, ha, hin, hone, hpath, hhold, hhot, hmin, hmax⟩ => ?_
  have hfree : Free d.auxOn.power := by
    rw [auxOn_power]
    exact ⟨hin, rfl, hc, hone, hpath, hhold, hhot⟩
  have h := started_pgoodStart (d := (d.auxOn.sf F.BOOT_STRAP.OSC_DLY st).waitRise)
  rw [auxReturn_of_closed hc ha, if_pos hin, pgoodRise_of_free hmin hmax hfree]
  refine ⟨?_, h.step, h.kind, h.strap.trans (gf_strap_waitRise st.isLt)⟩
  rw [h.power, waitRise_power, sf_power]
  exact hfree.aux

theorem completes_prsntNBreak : Completes .prsntNBreak (fun d => d.power.aux = true ∧ (d.power.path = none ∨ d.power.toOff = false))
    fun d e => e.power = { d.power with mated := false, closed := false, path := some (d.power.path.getD .clocks), toOff := true }
      ∧ e.safe = { d.safe with unplanned := d.safe.unplanned || d.runs }
      ∧ e.gf F.PWR_STAT.LAST_OFF_CAUSE = 1 ∧ Only [⟨.PWR_STAT, 0, 0, 0⟩] (.power :: .safe :: .eph :: logParts) d e := by
  refine .of_upd (f := fun d => d.mateBreak) (fun _ => rfl) fun d ⟨ha, hp⟩ => ?_
  have hp' : d.unmated.power.path = none ∨ d.unmated.power.toOff = false := hp
  rw [mateBreak, if_pos (by rw [unmated_power, ha])]
  refine ⟨?_, ?_, gf_beginLoss_cause hp' (by decide), ?_⟩
  · rw [beginLoss_power hp', unmated_power]
  · rw [beginLoss_safe hp', show d.unmated.runs = d.runs from rfl, show d.unmated.safe = d.safe from rfl]
    simp
  · have hopen : Only [] [.power] d d.unmated := only_withPower _
    exact (hopen.mono (by simp) (by simp)).trans (only_beginLoss 1)

theorem completes_prsntNBreak_off : Completes .prsntNBreak (fun d => d.power.aux = false)
    fun d e => e.power = { d.power with mated := false, closed := false } ∧ Only [] [.power] d e := by
  refine .of_upd (f := fun d => d.mateBreak) (fun _ => rfl) fun d ha => ?_
  rw [mateBreak, if_neg (by rw [unmated_power]; simp [ha])]
  exact ⟨unmated_power, only_withPower _⟩

theorem completes_auxPathOff : Completes .auxPathOff (fun d => d.power.aux = true) fun d e =>
      (∀ k, e.reg k = k.reset) ∧ e.power.aux = false ∧ e.power.stageOne = false ∧ e.hbm = [] ∧ e.cores = [] ∧ e.gas.replies = []
        ∧ e.boot.warmRecord = false ∧ e.eph.area0 = d.eph.area0 ∧ e.eph.area1 = d.eph.area1 ∧ e.eph.slotA = d.eph.slotA
        ∧ e.eph.slotB = d.eph.slotB ∧ e.eph.records = d.eph.records ∧ e.eph.sram = [] ∧ e.power.pgoodIn = d.power.pgoodIn
        ∧ e.power.pgoodOut = .highZ := by
  refine .of_upd (f := fun d => if d.power.aux then d.powerLost else d) (fun _ => rfl) fun d ha => ?_
  rw [if_pos ha]
  exact ⟨fun _ => rfl, rfl, rfl, rfl, rfl, rfl, rfl, rfl, rfl, rfl, rfl, rfl, rfl, rfl, rfl⟩

/-! ### PGOOD_IN -/

theorem completes_pgoodInRise (st : Fin 8) (vin : Fin 65536) : Completes (.pgoodInRise st vin)
    (fun d => d.power.pgoodIn = false ∧ d.power.aux = true ∧ d.power.closed = true ∧ d.power.stageOne = false
      ∧ d.power.path = none ∧ d.power.hold = false ∧ d.power.hot = false ∧ 4800 ≤ vin.val ∧ vin.val ≤ 6400) fun _ e =>
      e.boot.step = .delay ∧ e.boot.kind = .cold ∧ e.gf F.BOOT_STRAP.OSC_DLY = st.val ∧ e.power.pgoodIn = true
        ∧ e.power.rise = false ∧ e.chrono = 0 ∧ e.cores = [] ∧ e.hbm = [] ∧ e.gas.replies = [] ∧ e.log = {} := by
  refine .of_upd (f := fun d => d.pgoodEdge st vin) (fun _ => rfl) fun d ⟨hin, ha, hc, hone, hpath, hhold, hhot, hmin, hmax⟩ => ?_
  have hfree : Free d.pgoodHigh.power := by
    rw [pgoodHigh_power]
    exact ⟨rfl, ha, hc, hone, hpath, hhold, hhot⟩
  have h := started_pgoodStart (d := (d.pgoodHigh.sf F.BOOT_STRAP.OSC_DLY st).waitRise)
  rw [pgoodEdge_of_aux hin ha, pgoodRise_of_free hmin hmax hfree]
  refine ⟨h.step, h.kind, h.strap.trans (gf_strap_waitRise st.isLt), ?_, by rw [h.power], h.chrono, h.cores, h.hbm, h.replies, h.log⟩
  rw [h.power, waitRise_power, sf_power]
  exact hfree.pgoodIn

theorem gf_strap {d : Dev} (st : Fin 8) : (d.sf F.BOOT_STRAP.OSC_DLY st).gf F.BOOT_STRAP.OSC_DLY = st.val := by
  rw [gf_sf_self _ _ _ _ _ _ (by decide) (by decide)]
  exact Nat.mod_eq_of_lt st.isLt

theorem only_strap (d : Dev) (st : Fin 8) : Only [⟨.BOOT_STRAP, 0, 0, 0⟩] [.power] d (d.pgoodHigh.sf F.BOOT_STRAP.OSC_DLY st) := by
  have hhigh : Only [] [.power] d d.pgoodHigh := only_withPower _
  exact (hhigh.mono (by simp) (by simp)).sfFree (by decide) (.inl (by decide))

theorem completes_pgoodInRise_out (st : Fin 8) (vin : Fin 65536) : Completes (.pgoodInRise st vin)
    (fun d => d.power.pgoodIn = false ∧ d.power.aux = true ∧ (vin.val < 4800 ∨ 6400 < vin.val)) fun d e =>
      e.power = { d.power with pgoodIn := true } ∧ e.gf F.BOOT_STRAP.OSC_DLY = st.val
        ∧ Only [⟨.BOOT_STRAP, 0, 0, 0⟩] [.power] d e := by
  refine .of_upd (f := fun d => d.pgoodEdge st vin) (fun _ => rfl) fun d ⟨hin, ha, hvin⟩ => ?_
  rw [pgoodEdge_of_aux hin ha, pgoodRise_out_of_range hvin]
  exact ⟨by rw [sf_power, pgoodHigh_power], gf_strap st, only_strap d st⟩

theorem completes_pgoodInRise_open (st : Fin 8) (vin : Fin 65536) : Completes (.pgoodInRise st vin)
    (fun d => d.power.pgoodIn = false ∧ d.power.aux = true ∧ d.power.closed = false ∧ 4800 ≤ vin.val ∧ vin.val ≤ 6400) fun d e =>
      e.power = { d.power with pgoodIn := true, rise := true } ∧ e.gf F.BOOT_STRAP.OSC_DLY = st.val
        ∧ Only [⟨.BOOT_STRAP, 0, 0, 0⟩] [.power] d e := by
  refine .of_upd (f := fun d => d.pgoodEdge st vin) (fun _ => rfl) fun d ⟨hin, ha, hopen, hmin, hmax⟩ => ?_
  have hp : (d.pgoodHigh.sf F.BOOT_STRAP.OSC_DLY st).waitRise.power = { d.power with pgoodIn := true, rise := true } := by
    rw [waitRise_power, sf_power, pgoodHigh_power]
  rw [pgoodEdge_of_aux hin ha, pgoodRise_in_range hmin hmax, tryRise_of_open (by rw [hp, hopen])]
  exact ⟨hp, by rw [gf_waitRise, gf_strap], (only_strap d st).power (by decide)⟩

theorem completes_startDelayExpiry (khz : Fin 131072) : Completes (.startDelayExpiry khz) (fun d => d.boot.step = .delay
      ∧ d.boot.coldNext = false ∧ d.power.path = none ∧ d.power.failed < 4) fun d e =>
      e.power = { d.power with stageOne := true } ∧ e.boot = { d.boot with step := .rails }
        ∧ e.gf F.PWR_STAT.CONVERTERS = 5 - d.power.failed ∧ e.gf F.CLK_STAT.REF_OK = 1 ∧ e.gf F.CLK_STAT.HOLDOVER = 0
        ∧ e.gf F.CLK_STAT.REF_KHZ = khz.val
        ∧ Only [⟨.PWR_STAT, 0, 0, 0⟩, ⟨.CLK_STAT, 0, 0, 0⟩, ⟨.BOOT_STAT, 0, 0, 0⟩] [.power, .boot] d e := by
  refine .of_upd (f := fun d => d.delayEnd khz) (fun _ => rfl) fun d ⟨hs, hc, hp, hf⟩ => ?_
  rw [delayEnd_eq hs hc hp, converterCheck_of_two (by rw [railsBegun_power]; exact hf)]
  obtain ⟨hok, hhold, hkhz⟩ := gf_railsBegun_ref (d := d) khz.isLt
  exact ⟨railsBegun_power, railsBegun_boot, gf_railsBegun_converters, hok, hhold, hkhz, only_railsBegun⟩

theorem completes_startDelayExpiry_one (khz : Fin 131072) : Completes (.startDelayExpiry khz) (fun d => d.boot.step = .delay
      ∧ d.boot.coldNext = false ∧ d.power.path = none ∧ 4 ≤ d.power.failed) fun _ e =>
      e.power.path = some .clocks ∧ e.power.toOff = true ∧ e.gf F.PWR_STAT.LAST_OFF_CAUSE = 4 := by
  refine .of_upd (f := fun d => d.delayEnd khz) (fun _ => rfl) fun d ⟨hs, hc, hp, hf⟩ => ?_
  have hpath : (d.railsBegun khz).power.path = none := by rw [railsBegun_power, hp]
  rw [delayEnd_eq hs hc hp, converterCheck_of_one (by rw [railsBegun_power]; exact hf) (by rw [railsBegun_power])]
  refine ⟨?_, ?_, gf_beginLoss_cause (.inl hpath) (by decide)⟩
  · rw [beginLoss_power (.inl hpath), hpath]
    rfl
  · rw [beginLoss_power (.inl hpath)]

theorem completes_pgoodInFall : Completes .pgoodInFall (fun d => d.runs = true ∧ d.power.path = none) fun d e =>
      e.power = { d.power with pgoodIn := false, rise := false, path := some .clocks, toOff := true }
        ∧ e.gf F.PWR_STAT.LAST_OFF_CAUSE = 3 ∧ Only [⟨.PWR_STAT, 0, 0, 0⟩] (.power :: .eph :: logParts) d e := by
  refine .of_upd (f := fun d => d.pgoodFall) (fun _ => rfl) fun d ⟨hr, hp⟩ => ?_
  have hp' : d.pgoodLow.power.path = none := hp
  have hlow : Only [] [.power] d d.pgoodLow := only_withPower _
  rw [pgoodFall_of_runs hr]
  refine ⟨?_, gf_beginLoss_cause (.inl hp') (by decide),
    (hlow.mono (by simp) (by simp)).trans (only_beginLoss_three (.inl hp'))⟩
  rw [beginLoss_power (.inl hp'), hp', pgoodLow_power]
  rfl

theorem completes_pgoodInFall_recovery :
    Completes .pgoodInFall (fun d => d.power.stageOne = false ∧ d.boot.step = .recovery ∧ d.power.path = none) fun d e =>
      e.power = { d.power with pgoodIn := false, rise := false } ∧ e.boot = { d.boot with step := .off }
        ∧ e.gf F.BOOT_STAT.STATE = 10 ∧ Only [⟨.BOOT_STAT, 0, 0, 0⟩] [.power, .boot] d e := by
  refine .of_upd (f := fun d => d.pgoodFall) (fun _ => rfl) fun d ⟨hone, hs, hp⟩ => ?_
  have hlow : Only [] [.power] d d.pgoodLow := only_withPower _
  rw [pgoodFall_of_recovery hone hs hp]
  refine ⟨?_, setBoot_boot _, gf_setBoot_state _, (hlow.mono (by simp) (by simp)).trans ((only_setBoot _).mono (by simp) (by simp))⟩
  rw [(only_setBoot _).2 .power (by decide) (by simp), pgoodLow_power]

theorem completes_pgoodHoldExpiry :
    Completes .pgoodHoldExpiry (fun d => d.power.hold = true ∧ d.boot.step ≠ .hold ∧ d.power.rise = false)
      fun d e => e.power = { d.power with hold := false } ∧ Only [] [.power] d e := by
  refine .of_upd (f := fun d => d.pgoodHoldEnd) (fun _ => rfl) fun d ⟨hh, hs, hr⟩ => ?_
  rw [pgoodHoldEnd_of_hold hh hs, tryRise_of_no_rise (by rw [holdOver_power, hr])]
  exact ⟨holdOver_power, only_withPower _⟩

theorem completes_pgoodHoldExpiry_rise :
    Completes .pgoodHoldExpiry (fun d => d.power.hold = true ∧ d.boot.step ≠ .hold ∧ d.power.rise = true ∧ d.power.pgoodIn = true
        ∧ d.power.aux = true ∧ d.power.closed = true ∧ d.power.stageOne = false ∧ d.power.path = none ∧ d.power.hot = false)
      fun _ e => e.boot.step = .delay ∧ e.boot.kind = .cold ∧ e.power.hold = false ∧ e.power.rise = false := by
  refine .of_upd (f := fun d => d.pgoodHoldEnd) (fun _ => rfl) fun d ⟨hh, hs, hr, hin, haux, hc, hone, hpath, hhot⟩ => ?_
  have h := started_pgoodStart (d := d.holdOver)
  rw [pgoodHoldEnd_of_hold hh hs,
    tryRise_of_free (by rw [holdOver_power, hr]) (by rw [holdOver_power]; exact ⟨hin, haux, hc, hone, hpath, rfl, hhot⟩)]
  exact ⟨h.step, h.kind, by rw [h.power], by rw [h.power]⟩

end Sys2Proof.Machine
end

/-! PROOFS. O27: the samples of the input, and the obligation. -/

section
namespace Sys2Proof.Machine

open Sys2Proof Dev

theorem completes_inputSample_off (v i p : Fin 65536) : Completes (.inputSample v i p) (fun d => d.power.aux = true ∧ d.runs = false)
    fun d e => e.gf F.PWR_INPUT.VIN = v.val ∧ e.gf F.PWR_INPUT.IIN = i.val ∧ e.gf F.PWR_INPUT.PIN_W = p.val
      ∧ e.gf F.PWR_ENERGY_CNT.UJ = (d.gf F.PWR_ENERGY_CNT.UJ + 10 * p.val) % 2 ^ 64
      ∧ Only [⟨.PWR_INPUT, 0, 0, 0⟩, ⟨.PWR_ENERGY_CNT, 0, 0, 0⟩] [.power] d e := by
  refine .of_upd (f := fun d => if d.power.aux then d.inputSample v i p else d) (fun _ => rfl) fun d ⟨ha, hr⟩ => ?_
  have h := inputSample_of_not_runs v.val i.val p.val hr
  rw [if_pos ha]
  refine ⟨?_, ?_, ?_, ?_, ((only_readings v i p).mono (fun _ hk => .inl hk) (by simp)).trans (h.mono (by simp) (by simp))⟩
  · rw [h.gf (by simp) (by decide), gf_readings_vin v.isLt]
  · rw [h.gf (by simp) (by decide), gf_readings_iin i.isLt]
  · rw [h.gf (by simp) (by decide), gf_readings_pin p.isLt]
  · rw [h.gf (by simp) (by decide), gf_readings_energy]

theorem completes_inputSample_low (v i p : Fin 65536) : Completes (.inputSample v i p) (fun d => d.power.aux = true
      ∧ d.power.stageOne = true ∧ 9 ≤ d.power.lowRun ∧ d.power.low = false ∧ 4400 ≤ v.val ∧ v.val < 4800 ∧ d.power.high = false)
    fun d e => e.power.low = true ∧ e.gf F.PWR_STAT.INPUT_LOW = 1 ∧ e.power.path = d.power.path
      ∧ getBits (e.reg ⟨.INT_PEND_SET_k, 0, 3, 0⟩) 3 3 = 1 := by
  refine .of_upd (f := fun d => if d.power.aux then d.inputSample v i p else d) (fun _ => rfl)
    fun d ⟨ha, hone, hrun, hlow, hmin, hmax, hhigh⟩ => ?_
  have h := lowShown_inputSample i.val p.val hone hrun hlow hhigh ⟨hmin, hmax⟩
  rw [if_pos ha]
  exact ⟨h.low, h.shown, h.path, h.pending⟩

theorem completes_inputSample_gone (v i p : Fin 65536) : Completes (.inputSample v i p) (fun d => d.power.aux = true
      ∧ d.runs = true ∧ d.power.path = none ∧ ((v.val < 4400 ∧ 1 ≤ d.power.underRun) ∨ (6600 < v.val ∧ 1 ≤ d.power.overRun)))
    fun _ e => e.power.path = some .clocks ∧ e.power.toOff = true ∧ e.power.closed = false ∧ e.gf F.PWR_STAT.LAST_OFF_CAUSE = 1 := by
  refine .of_upd (f := fun d => if d.power.aux then d.inputSample v i p else d) (fun _ => rfl) fun d ⟨ha, hr, hp, hv⟩ => ?_
  obtain ⟨x, hx, hruns, hpower⟩ := inputSample_gone (d := d) v.val i.val p.val
  obtain ⟨-, hpath, hunder, hover⟩ := PowerSt.of_unlimited hpower
  have hgone := sampled_gone (d.overCap p) hv
  rw [← hunder, ← hover] at hgone
  have hpath' : (x.withPower { x.power with closed := false }).power.path = none := by
    rw [withPower_power, hpath]
    exact hp
  rw [if_pos ha, hx, inputGone_of_runs hgone (hruns.trans hr)]
  refine ⟨?_, ?_, ?_, gf_beginLoss_cause (.inl hpath') (by decide)⟩
  · rw [beginLoss_power (.inl hpath'), hpath']
    rfl
  · rw [beginLoss_power (.inl hpath')]
  · rw [beginLoss_power (.inl hpath'), withPower_power]

theorem completes_inputLowTimeout : Completes .inputLowTimeout (fun d => d.power.low = true ∧ d.gf F.PWR_INPUT.VIN < 4800
      ∧ d.runs = true ∧ d.power.path = none) fun d e =>
      e.power = { d.power with path := some .clocks, toOff := true } ∧ e.gf F.PWR_STAT.LAST_OFF_CAUSE = 1
        ∧ Only [⟨.PWR_STAT, 0, 0, 0⟩] (.power :: .safe :: .eph :: logParts) d e := by
  refine .of_upd (f := fun d => d.lowTimeout) (fun _ => rfl) fun d ⟨hl, hv, hr, hp⟩ => ?_
  have heq : d.lowTimeout = d.beginLoss 1 := by
    unfold lowTimeout
    rw [if_pos (by simp [hl, hv]), lossPath_of_runs hr]
  rw [heq]
  refine ⟨?_, gf_beginLoss_cause (.inl hp) (by decide), only_beginLoss 1⟩
  rw [beginLoss_power (.inl hp), hp]
  rfl

namespace Dev

/-- The input is no longer low. -/
def lifted (d : Dev) : Dev := (d.withPower { d.power with low := false }).sf F.PWR_STAT.INPUT_LOW 0

theorem lifted_power {d : Dev} : d.lifted.power = { d.power with low := false } := by
  rw [lifted, sf_power, withPower_power]

theorem only_lifted {d : Dev} : Only [⟨.PWR_STAT, 0, 0, 0⟩] [.power] d d.lifted := by
  have hlow : Only [] [.power] d (d.withPower { d.power with low := false }) := only_withPower _
  exact (hlow.mono (by simp) (by simp)).sfFree (by decide) (.inl (by decide))

theorem capNow_lifted {d : Dev} : d.lifted.capNow = min (d.gf F.PWR_CTRL.CAP_W) (min d.converterCap 4000) := by
  have hconv : d.lifted.converterCap = d.converterCap := by rw [converterCap, lifted_power, converterCap]
  rw [capNow, hconv, lifted_power, only_lifted.gf (by decide) (by decide)]
  rfl

theorem lowLift_eq {d : Dev} (hl : d.power.low = true) (hv : 4850 ≤ d.gf F.PWR_INPUT.VIN) : d.lowLift = d.lifted.refreshCap := by
  unfold lowLift
  rw [if_pos (by simp [hl, hv])]
  rfl

end Dev

theorem completes_inputLowLift : Completes .inputLowLift (fun d => d.power.low = true ∧ 4850 ≤ d.gf F.PWR_INPUT.VIN) fun d e =>
      e.power = { d.power with low := false } ∧ e.gf F.PWR_STAT.INPUT_LOW = 0
        ∧ e.gf F.PWR_STAT.CAP_IN_FORCE_W = min (d.gf F.PWR_CTRL.CAP_W) (min d.converterCap 4000)
        ∧ Only [⟨.PWR_STAT, 0, 0, 0⟩, ⟨.INT_PEND_SET_k, 0, 3, 0⟩] [.power, .eph] d e := by
  refine .of_upd (f := fun d => d.lowLift) (fun _ => rfl) fun d ⟨hl, hv⟩ => ?_
  rw [lowLift_eq hl hv]
  refine ⟨by rw [refreshCap_power, lifted_power], ?_, by rw [gf_refreshCap_cap, capNow_lifted],
    (only_lifted.mono (by simp) (by simp)).trans (only_refreshCap.mono (fun _ hk => .inl hk) (by simp))⟩
  rw [gf_refreshCap _ _ _ (by decide) (by decide), lifted, gf_sf_self _ _ _ _ _ _ (by decide) (by decide)]
  rfl

/-- Settles O27: the clauses of the events, one by one. -/
theorem moduleInput : Obligations.ModuleInput :=
  ⟨completes_prsntNMate, completes_inputSwitchClose, completes_inputSwitchClose_rise, completes_auxPathInService,
    completes_auxPathInService_pgood, completes_prsntNBreak, completes_prsntNBreak_off, completes_auxPathOff,
    completes_pgoodInRise, completes_pgoodInRise_out, completes_pgoodInRise_open, completes_startDelayExpiry,
    completes_startDelayExpiry_one, completes_pgoodInFall, completes_pgoodInFall_recovery, completes_pgoodHoldExpiry,
    completes_pgoodHoldExpiry_rise, completes_inputSample_off, completes_inputSample_low, completes_inputSample_gone,
    completes_inputLowTimeout, completes_inputLowLift⟩

end Sys2Proof.Machine
end

/-! PROOFS. Register commands and the writing of the journal: the word that a press writes, what a command leaves beside the write
itself, and what the journal's records leave. -/

section
namespace Sys2Proof

open Sys2Proof

theorem fieldsApart_filter {fs : List Field} (h : fieldsApart fs = true) (p : Field → Bool) : fieldsApart (fs.filter p) = true := by
  induction fs with
  | nil => rfl
  | cons f fs ih =>
    obtain ⟨hw, hapart, hfs⟩ := fieldsApart_cons h
    rw [List.filter_cons]
    split
    · have hrest : ∀ g ∈ fs.filter p, g.hi < f.lo ∨ f.hi < g.lo := fun g hg => hapart g (List.mem_of_mem_filter hg)
      simp only [fieldsApart, Bool.and_eq_true, List.all_eq_true, decide_eq_true_eq]
      exact ⟨⟨hw, hrest⟩, ih hfs⟩
    · exact ih hfs

/-- Two fields of a register are the same or share no bit. -/
theorem fieldsApart_cases {fs : List Field} (h : fieldsApart fs = true) {f g : Field} (hf : f ∈ fs) (hg : g ∈ fs) :
    f = g ∨ f.hi < g.lo ∨ g.hi < f.lo := by
  induction fs with
  | nil => cases hf
  | cons x fs ih =>
    obtain ⟨-, hapart, hfs⟩ := fieldsApart_cons h
    rcases List.mem_cons.mp hf with rfl | hf'
    · rcases List.mem_cons.mp hg with rfl | hg'
      · exact .inl rfl
      · exact .inr (hapart g hg').symm
    · rcases List.mem_cons.mp hg with rfl | hg'
      · exact .inr (hapart f hf')
      · exact ih hfs hf' hg'

/-- The selected fields of a register, put together into a word, read as given; the others read as zero. -/
theorem getBits_assemble_filter {n : RegName} (p : Field → Bool) (v : Field → Nat) {f : Field} (hf : f ∈ n.fields) :
    getBits (BitVec.ofNat 64 (assemble (n.fields.filter p) v)) f.hi f.lo = if p f then v f % 2 ^ (f.hi + 1 - f.lo) else 0 := by
  have hapart := fieldsApart_filter n.fields_apart p
  apply Nat.eq_of_testBit_eq
  intro i
  rw [testBit_getBits, BitVec.toNat_ofNat, Nat.mod_eq_of_lt (assemble_lt hapart v)]
  by_cases hi : i < f.hi + 1 - f.lo
  · rw [decide_eq_true hi, Bool.true_and]
    split
    · next hp =>
      rw [testBit_assemble_of_mem hapart v (List.mem_filter.mpr ⟨hf, hp⟩) (by omega) (by omega), Nat.add_sub_cancel,
        Nat.testBit_mod_two_pow, decide_eq_true hi, Bool.true_and]
    · next hp =>
      rw [Nat.zero_testBit]
      refine testBit_assemble_of_outside hapart v fun g hg => ?_
      obtain ⟨hg, hpg⟩ := List.mem_filter.mp hg
      rcases fieldsApart_cases n.fields_apart hf hg with rfl | h | h
      · exact absurd hpg hp
      · exact .inl (by omega)
      · exact .inr (by omega)
  · rw [decide_eq_false hi, Bool.false_and]
    split
    · rw [Nat.testBit_mod_two_pow, decide_eq_false hi, Bool.false_and]
    · rw [Nat.zero_testBit]

end Sys2Proof

namespace Sys2Proof.Machine

open Sys2Proof

namespace Dev

variable {d : Dev} {k : RegKey} {v : Word}

/-! ### Commands -/

/-- The word of the settings has the RW fields as they stand, and zero in the others. -/
theorem getBits_settings {f : Field} (hf : f ∈ k.name.fields) :
    getBits (d.settings k) f.hi f.lo = if f.access = .rw then getBits (d.reg k) f.hi f.lo else 0 := by
  rw [settings, getBits_assemble_filter _ _ hf, Nat.mod_eq_of_lt (getBits_lt _ _ _)]
  simp only [decide_eq_true_eq]

/-- An accepted command is the register's write, kept in the Ephemeris, and answered without a code. -/
theorem command_of_accepts (h : d.accepts k = true) :
    d.command k v = { d.keepSetting (d.regWrite k 4 d.self v) k.home with answer := { code := 0 } } := by
  obtain ⟨hstep, hm, -⟩ := accepts_iff.mp h
  rw [command, regStore, regRefusal_none hstep hm]
  simp only [ne_eq, not_true_eq_false, if_false, writeReg_of_accepts h]

theorem command_code (h : d.accepts k = true) : (d.command k v).answer.code = 0 := by rw [command_of_accepts h]

/-- Beside its write, an accepted command changes the answer and what keeps a setting. -/
theorem only_command (h : d.accepts k = true) : Only [] cmdParts (d.regWrite k 4 d.self v) (d.command k v) := by
  rw [command_of_accepts h]
  exact ((Only.refl _ _ _).keepSetting fun _ hp => hp).answer (by decide)

/-- An accepted command whose write changes no more than `rs` and `ps` is done so. -/
theorem did_command {rs : List RegKey} {ps : List Part} (h : d.accepts k = true)
    (hw : Only rs (ps ++ cmdParts) d (d.regWrite k 4 d.self v)) : Dev.did rs ps d (d.command k v) :=
  ⟨command_code h, hw.trans ((only_command h).mono (by simp) fun _ hp => List.mem_append_right _ hp)⟩

/-! ### The journal -/

theorem only_compact : Only [⟨.BOOT_FW_STAT, 0, 0, 0⟩] (.eph :: logParts) d d.compact := by
  unfold compact
  refine .ite (.refl _ _ d) ?_
  exact ((Only.refl _ _ d).eph (by decide)).logBoot (fun _ h => List.mem_cons_of_mem _ h) (.inl (by decide)) (by decide)

theorem only_writeRec : Only [⟨.BOOT_FW_STAT, 0, 0, 0⟩] (.eph :: logParts) d d.writeRec := by
  unfold writeRec
  split
  · exact .ite (((Only.refl _ _ d).eph (by decide)).trans only_compact) ((Only.refl _ _ d).eph (by decide))
  · exact .refl _ _ d

theorem only_writeAllRecs : Only [⟨.BOOT_FW_STAT, 0, 0, 0⟩] (.eph :: logParts) d d.writeAllRecs := by
  unfold writeAllRecs
  exact .ite ((Only.refl _ _ d).foldl fun e _ _ h => h.trans only_writeRec) (.refl _ _ d)

theorem writeAllRecs_power : d.writeAllRecs.power = d.power := only_writeAllRecs.2 .power (by decide) (by simp)

end Dev

end Sys2Proof.Machine
end

/-! PROOFS. COLD and WARM of BOOT_CTRL. -/

section
namespace Sys2Proof.Machine

open Sys2Proof

namespace Dev

variable {d : Dev}

/-- The shutdown begins that a cold start without a rise of PGOOD_IN goes through. -/
def downed (d : Dev) : Dev :=
  { d with
    power := { d.power with path := some (d.power.path.getD .clocks) }
    boot := { d.boot with coldNext := false, resetting := none, handover := none } }

theorem downed_power : d.downed.power = { d.power with path := some (d.power.path.getD .clocks) } := rfl

theorem coldRestart_eq : d.coldRestart = (d.writeAllRecs.downed.setBoot .down).sf F.BOOT_STAT.READY 0 := rfl

/-- What the beginning of such a shutdown shows. -/
structure GoesDown (d e : Dev) : Prop where
  path : e.power.path = some (d.power.path.getD .clocks)
  step : e.boot.step = .down
  state : e.gf F.BOOT_STAT.STATE = 0
  ready : e.gf F.BOOT_STAT.READY = 0

theorem goesDown_coldRestart : GoesDown d d.coldRestart := by
  rw [coldRestart_eq]
  refine ⟨?_, ?_, ?_, ?_⟩
  · rw [sf_power, (only_setBoot _).2 .power (by decide) (by simp), downed_power, writeAllRecs_power]
  · rw [sf_boot, setBoot_boot]
  · rw [gf_sf_of_disjoint _ _ _ _ _ _ _ _ _ _ (by decide) (by decide) (by decide), gf_setBoot_state]
    rfl
  · rw [gf_sf_self _ _ _ _ _ _ (by decide) (by decide)]
    rfl

theorem GoesDown.trans_only {d e m : Dev} (h : GoesDown d m) (ho : Only [] cmdParts m e) : GoesDown d e := by
  refine ⟨?_, ?_, ?_, ?_⟩
  · rw [ho.2 .power (by decide) (by simp), h.path]
  · rw [ho.2 .boot (by decide) (by simp), h.step]
  · rw [ho.gf (by simp) (by decide), h.state]
  · rw [ho.gf (by simp) (by decide), h.ready]

/-! ### The register -/

/-- The write of EPH_DISCARD that goes with every write of BOOT_CTRL. -/
def discardSet (d : Dev) (v : Word) : Dev := d.sf F.BOOT_CTRL.EPH_DISCARD (getBits v 2 2)

theorem discardSet_power (v : Word) : (d.discardSet v).power = d.power := sf_power _ _ _ _ _ _

theorem discardSet_boot (v : Word) : (d.discardSet v).boot = d.boot := sf_boot _ _ _ _ _ _

theorem only_discardSet (v : Word) : Only [⟨.BOOT_CTRL, 0, 0, 0⟩] [.eph] d (d.discardSet v) :=
  (Only.refl _ _ d).sf (.inl (by decide)) (.inr (by decide))

/-- WARM of a word takes effect. -/
def warmAsked (d : Dev) (v : Word) : Dev := if getBits v 1 1 = 1 then d.warmReq else d

theorem writeBootCtrl_eq (v : Word) : d.writeBootCtrl v =
    if getBits v 0 0 = 1 then ((d.discardSet v).warmAsked v).coldReq else (d.discardSet v).warmAsked v := rfl

/-- COLD alone is written. -/
theorem writeBootCtrl_cold {v : Word} (hwarm : getBits v 1 1 = 0) (hcold : getBits v 0 0 = 1) :
    d.writeBootCtrl v = (d.discardSet v).coldReq := by
  rw [writeBootCtrl_eq, if_pos hcold, warmAsked, if_neg (by omega)]

/-- WARM alone is written. -/
theorem writeBootCtrl_warm {v : Word} (hwarm : getBits v 1 1 = 1) (hcold : getBits v 0 0 = 0) :
    d.writeBootCtrl v = (d.discardSet v).warmReq := by
  rw [writeBootCtrl_eq, if_neg (by omega), warmAsked, if_pos hwarm]

/-- An action bit of BOOT_CTRL is written alone: the other reads zero. -/
theorem getBits_pressed_bootCtrl : getBits (setBits (d.settings ⟨.BOOT_CTRL, 0, 0, 0⟩) 0 0 1) 1 1 = 0
    ∧ getBits (setBits (d.settings ⟨.BOOT_CTRL, 0, 0, 0⟩) 1 1 1) 0 0 = 0 := by
  have hwarm : getBits (d.settings ⟨.BOOT_CTRL, 0, 0, 0⟩) 1 1 = 0 := getBits_settings (f := ⟨1, 1, .w1s, 0, .none⟩) (by decide)
  have hcold : getBits (d.settings ⟨.BOOT_CTRL, 0, 0, 0⟩) 0 0 = 0 := getBits_settings (f := ⟨0, 0, .w1s, 0, .none⟩) (by decide)
  rw [getBits_setBits_of_disjoint _ _ _ _ _ _ (by decide) (by decide) (by decide),
    getBits_setBits_of_disjoint _ _ _ _ _ _ (by decide) (by decide) (by decide)]
  exact ⟨hwarm, hcold⟩

/-- The write that BOOT_CTRL COLD makes. -/
theorem regWrite_cold : ∃ v, d.press ⟨.BOOT_CTRL, 0, 0, 0⟩ F.BOOT_CTRL.COLD = d.command ⟨.BOOT_CTRL, 0, 0, 0⟩ v
    ∧ d.regWrite ⟨.BOOT_CTRL, 0, 0, 0⟩ 4 d.self v = (d.discardSet v).coldReq :=
  ⟨_, rfl, writeBootCtrl_cold getBits_pressed_bootCtrl.1 (getBits_setBits_self _ _ _ _ (by decide) (by decide))⟩

/-- The write that BOOT_CTRL WARM makes. -/
theorem regWrite_warm : ∃ v, d.press ⟨.BOOT_CTRL, 0, 0, 0⟩ F.BOOT_CTRL.WARM = d.command ⟨.BOOT_CTRL, 0, 0, 0⟩ v
    ∧ d.regWrite ⟨.BOOT_CTRL, 0, 0, 0⟩ 4 d.self v = (d.discardSet v).warmReq :=
  ⟨_, rfl, writeBootCtrl_warm (getBits_setBits_self _ _ _ _ (by decide) (by decide)) getBits_pressed_bootCtrl.2⟩

/-- A COLD that takes effect at once. -/
theorem coldReq_at_once (hone : d.power.stageOne = true) (hp : d.power.path = none)
    (hs : d.boot.step = .ready ∨ d.boot.step = .failed) : d.coldReq = d.coldRestart := by
  unfold coldReq
  rw [if_neg (by simp [hone, hp])]
  rcases hs with hs | hs
  · rw [if_neg (by simp [hs])]
  · rw [if_neg (by simp [hs])]

/-- A COLD waits for the end of the step. -/
def coldWaits (d : Dev) : Dev := { d with boot := { d.boot with coldNext := true } }

theorem coldReq_waits (hone : d.power.stageOne = true) (hp : d.power.path = none) (hk : d.boot.kind ≠ .cold)
    (hready : d.boot.step ≠ .ready) (hfailed : d.boot.step ≠ .failed) : d.coldReq = d.coldWaits := by
  unfold coldReq
  rw [if_neg (by simp [hone, hp]), if_pos (by simp [hk, hready, hfailed])]
  rfl

/-- A warm start begins with its Quiesce step. -/
def warmBegun (d : Dev) : Dev := { d with boot := { d.boot with kind := .warm, handover := none } }

theorem warmReq_ready (hs : d.boot.step = .ready) (hw : d.boot.warmRecord = true) :
    d.warmReq = ((d.warmBegun.setBoot .quiesce).sf F.BOOT_STAT.READY 0).sf F.BOOT_STAT.KIND 1 := by
  unfold warmReq warmStart
  rw [if_pos hs, if_neg (by simp [hw])]
  rfl

end Dev

open Dev

theorem completes_bootCold : Completes .bootCold (fun d => d.accepts ⟨.BOOT_CTRL, 0, 0, 0⟩ = true ∧ d.power.stageOne = true
      ∧ d.power.path = none ∧ (d.boot.step = .ready ∨ d.boot.step = .failed)) fun _ e =>
      e.power.path = some .clocks ∧ e.boot.step = .down ∧ e.gf F.BOOT_STAT.STATE = 0 ∧ e.gf F.BOOT_STAT.READY = 0
        ∧ e.answer.code = 0 := by
  refine .of_upd (f := fun d => d.press ⟨.BOOT_CTRL, 0, 0, 0⟩ F.BOOT_CTRL.COLD) (fun _ => rfl) fun d ⟨hacc, hone, hp, hs⟩ => ?_
  obtain ⟨v, hpress, hwrite⟩ := regWrite_cold (d := d)
  rw [coldReq_at_once (by rw [discardSet_power, hone]) (by rw [discardSet_power, hp]) (by rw [discardSet_boot]; exact hs)] at hwrite
  have h : GoesDown (d.discardSet v) (d.command ⟨.BOOT_CTRL, 0, 0, 0⟩ v) :=
    (hwrite ▸ goesDown_coldRestart : GoesDown (d.discardSet v) (d.regWrite _ 4 d.self v)).trans_only (only_command hacc)
  rw [hpress]
  refine ⟨?_, h.step, h.state, h.ready, command_code hacc⟩
  rw [h.path, discardSet_power, hp]
  rfl

theorem completes_bootCold_waits : Completes .bootCold (fun d => d.accepts ⟨.BOOT_CTRL, 0, 0, 0⟩ = true ∧ d.power.stageOne = true
      ∧ d.power.path = none ∧ d.boot.kind ≠ .cold ∧ d.boot.step ≠ .ready ∧ d.boot.step ≠ .failed) fun d e =>
      e.boot = { d.boot with coldNext := true } ∧ Dev.did [⟨.BOOT_CTRL, 0, 0, 0⟩] [.boot] d e := by
  refine .of_upd (f := fun d => d.press ⟨.BOOT_CTRL, 0, 0, 0⟩ F.BOOT_CTRL.COLD) (fun _ => rfl)
    fun d ⟨hacc, hone, hp, hk, hready, hfailed⟩ => ?_
  obtain ⟨v, hpress, hwrite⟩ := regWrite_cold (d := d)
  rw [coldReq_waits (by rw [discardSet_power, hone]) (by rw [discardSet_power, hp]) (by rw [discardSet_boot]; exact hk)
    (by rw [discardSet_boot]; exact hready) (by rw [discardSet_boot]; exact hfailed)] at hwrite
  have hset : Only [⟨.BOOT_CTRL, 0, 0, 0⟩] ([.boot] ++ cmdParts) d (d.discardSet v) :=
    (only_discardSet v).mono (fun _ hk => .inl hk) (by decide)
  rw [hpress]
  refine ⟨?_, did_command hacc (hwrite ▸ hset.boot (by decide))⟩
  rw [(only_command hacc).2 .boot (by decide) (by simp), hwrite, coldWaits, discardSet_boot]

theorem completes_bootWarm : Completes .bootWarm (fun d => d.accepts ⟨.BOOT_CTRL, 0, 0, 0⟩ = true ∧ d.boot.step = .ready
      ∧ d.boot.warmRecord = true) fun d e =>
      e.boot = { d.boot with kind := .warm, handover := none, step := .quiesce } ∧ e.gf F.BOOT_STAT.STATE = 9
        ∧ e.gf F.BOOT_STAT.READY = 0 ∧ e.gf F.BOOT_STAT.KIND = 1
        ∧ Dev.did [⟨.BOOT_CTRL, 0, 0, 0⟩, ⟨.BOOT_STAT, 0, 0, 0⟩] [.boot] d e := by
  refine .of_upd (f := fun d => d.press ⟨.BOOT_CTRL, 0, 0, 0⟩ F.BOOT_CTRL.WARM) (fun _ => rfl) fun d ⟨hacc, hs, hw⟩ => ?_
  obtain ⟨v, hpress, hwrite⟩ := regWrite_warm (d := d)
  rw [warmReq_ready (by rw [discardSet_boot, hs]) (by rw [discardSet_boot, hw])] at hwrite
  have ho := only_command (v := v) hacc
  have hset : Only [⟨.BOOT_CTRL, 0, 0, 0⟩, ⟨.BOOT_STAT, 0, 0, 0⟩] ([.boot] ++ cmdParts) d (d.discardSet v).warmBegun :=
    ((only_discardSet v).mono (by simp) (by decide)).boot (by decide)
  have hall := ((hset.trans ((only_setBoot .quiesce).mono (by simp) (by simp))).sfFree (f := F.BOOT_STAT.READY) (v := 0) (u := 0) (i := 0)
    (j := 0) (by decide) (.inl (by decide))).sfFree (f := F.BOOT_STAT.KIND) (v := 1) (u := 0) (i := 0) (j := 0) (by decide)
    (.inl (by decide))
  rw [hpress]
  refine ⟨?_, ?_, ?_, ?_, did_command hacc (hwrite ▸ hall)⟩
  · rw [ho.2 .boot (by decide) (by simp), hwrite, sf_boot, sf_boot, setBoot_boot, warmBegun, discardSet_boot]
  · rw [ho.gf (by simp) (by decide), hwrite, gf_sf_of_disjoint _ _ _ _ _ _ _ _ _ _ (by decide) (by decide) (by decide),
      gf_sf_of_disjoint _ _ _ _ _ _ _ _ _ _ (by decide) (by decide) (by decide), gf_setBoot_state]
    rfl
  · rw [ho.gf (by simp) (by decide), hwrite, gf_sf_of_disjoint _ _ _ _ _ _ _ _ _ _ (by decide) (by decide) (by decide),
      gf_sf_self _ _ _ _ _ _ (by decide) (by decide)]
    rfl
  · rw [ho.gf (by simp) (by decide), hwrite, gf_sf_self _ _ _ _ _ _ (by decide) (by decide)]
    rfl

end Sys2Proof.Machine
end

/-! PROOFS. The Quiesce step: what the aborted swaps, the journal and the last reports of the logbook leave alone. -/

section
namespace Sys2Proof.Machine

open Sys2Proof

/-- What the Quiesce step changes beside the caches. -/
def quietParts : List Part :=
  [.ports, .eph, .reg .OPT_PORT_n_STAT, .reg .OPT_PORT_n_CH_c_LASER, .reg .OPT_PORT_n_MAP_k, .reg .INT_PEND_SET_k, .reg .LOG_RING_n,
    .reg .LOG_HEAD, .reg .BOOT_FW_STAT] ++ logParts

namespace Dev

/-- The logbook takes a report without a byte of HBM. -/
theorem bump_hbm (d : Dev) (f sat : Fld) (n u i j : Nat) : (d.bump f sat n u i j).hbm = d.hbm := by
  unfold bump
  extract_lets m x
  split
  · rw [sf_hbm, sf_hbm]
  · rw [sf_hbm]

theorem logIntake_hbm (d : Dev) (r : Report) : (d.logIntake r).hbm = d.hbm := by
  unfold logIntake
  extract_lets l first x
  split
  · rw [bump_hbm]
  · rfl

theorem report_hbm (d : Dev) (r : Report) : (d.report r).hbm = d.hbm := by
  unfold report
  extract_lets e l d' l'
  have he : e.hbm = d.hbm := by
    unfold e
    split
    · rw [sf_hbm]
    · rfl
  have hd' : d'.hbm = d.hbm := (logIntake_hbm e r).trans he
  split
  · split
    · exact hd'
    · exact he
  · split
    · exact hd'
    · exact hd'

end Dev

/-- HBM is as it was, and nothing but `quietParts` has changed. -/
structure Quiet (d e : Dev) : Prop where
  frame : Only [] quietParts d e
  hbm : e.hbm = d.hbm

namespace Quiet

variable {d e : Dev}

theorem refl (d : Dev) : Quiet d d := ⟨.refl _ _ d, rfl⟩

theorem trans {m : Dev} (h : Quiet d m) (h' : Quiet m e) : Quiet d e := ⟨h.frame.trans h'.frame, h'.hbm.trans h.hbm⟩

theorem ite {c : Prop} [Decidable c] {a b : Dev} (ha : Quiet d a) (hb : Quiet d b) : Quiet d (if c then a else b) := by
  split
  · exact ha
  · exact hb

theorem foldl {α : Type} {f : Dev → α → Dev} {l : List α} (h : Quiet d e) (hf : ∀ e x, Quiet d e → Quiet d (f e x)) :
    Quiet d (l.foldl f e) := List.foldlRecOn l f h fun e he x _ => hf e x he

theorem sf (h : Quiet d e) {f : Fld} {v u i j : Nat} (hf : Part.reg f.reg ∈ quietParts := by decide) : Quiet d (e.sf f v u i j) :=
  ⟨h.frame.sf (.inr hf) (.inr (by decide)), (Dev.sf_hbm _ _ _ _ _ _).trans h.hbm⟩

theorem setReg (h : Quiet d e) {k : RegKey} {v : Word} (hk : Part.reg k.name ∈ quietParts) : Quiet d (e.setReg k v) :=
  ⟨h.frame.setReg (.inr hk) (.inr (by decide)), h.hbm⟩

theorem raise (h : Quiet d e) {n : Nat} : Quiet d (e.raise n) :=
  h.setReg (show Part.reg .INT_PEND_SET_k ∈ quietParts by decide)

theorem logAt (h : Quiet d e) {code die unit d0 d1 : Nat} : Quiet d (e.logAt code die unit d0 d1) :=
  ⟨h.frame.logAt fun _ hp => List.mem_append_right _ hp, (Dev.report_hbm _ _).trans h.hbm⟩

theorem log (h : Quiet d e) {x} : Quiet d { e with log := x } := ⟨h.frame.log (by decide), h.hbm⟩

theorem eph (h : Quiet d e) {x} : Quiet d { e with eph := x } := ⟨h.frame.eph (by decide), h.hbm⟩

/-! ### The swaps of a port -/

theorem modPort (h : Quiet d e) {p n : Nat} {f : OptPort → OptPort} : Quiet d (e.modPort p n f) :=
  ⟨h.frame.ports (by decide), h.hbm⟩

theorem setLaser (h : Quiet d e) {p n c st : Nat} : Quiet d (e.setLaser p n c st) := h.sf

theorem lightOff (h : Quiet d e) {p n : Nat} {cs : List Nat} : Quiet d (e.lightOff p n cs) := h.modPort.foldl fun _ _ h => h.sf

theorem sendCmd (h : Quiet d e) {p n : Nat} {c : SwapCmd} {w : OptSwap} : Quiet d (e.sendCmd p n c w) := by
  unfold Dev.sendCmd Dev.optSend
  exact h.modPort

theorem endSwap (h : Quiet d e) {p n : Nat} : Quiet d (e.endSwap p n) := h.modPort.sf

theorem setHeadSwap (h : Quiet d e) {p n : Nat} {w : OptSwap} : Quiet d (e.setHeadSwap p n w) := h.modPort.sf

theorem countSpares (h : Quiet d e) {p n : Nat} : Quiet d (e.countSpares p n) := h.sf.sf

theorem logOpt (h : Quiet d e) {code p n ch stage d1 : Nat} : Quiet d (e.logOpt code p n ch stage d1) := h.sf.logAt

theorem switchNow (h : Quiet d e) {p n : Nat} : Quiet d (e.switchNow p n) := by
  unfold Dev.switchNow
  split
  · next w _ =>
    have hmap : Quiet d ((e.setHeadSwap p n { w with phase := 5 }).setLaneCh p n true w.lane w.spare) :=
      h.setHeadSwap.setReg (show Part.reg .OPT_PORT_n_MAP_k ∈ quietParts by decide)
    exact .ite h (.ite h.endSwap.sf (.ite (.ite hmap.sf hmap.sf.setLaser) (Quiet.ite hmap.sf hmap.sf.setLaser).setLaser))
  · exact h

theorem swapRetire (h : Quiet d e) {p n : Nat} : Quiet d (e.swapRetire p n none) := by
  unfold Dev.swapRetire
  split
  · have hend : ∀ {w : OptSwap}, Quiet d
        ((((e.lightOff p n [w.old]).endSwap p n).logOpt Code.OPT_SPARE_SWAP p n w.spare 0 w.lane).raiseOpt p 1) :=
      h.lightOff.endSwap.logOpt.raise
    exact .ite h (.ite hend.countSpares (.ite hend.setLaser.countSpares
      (.ite hend.setLaser.logOpt.countSpares hend.setLaser.countSpares)))
  · exact h

theorem abortSwaps (h : Quiet d e) {p n : Nat} : Quiet d (e.abortSwaps p n) := by
  unfold Dev.abortSwaps
  extract_lets idle m
  have hidle : ∀ {x : Dev} {c : Nat}, Quiet d x → Quiet d (idle x c) := fun hx => .ite hx.setLaser hx
  have hm : Quiet d m := by
    unfold m
    split
    · exact .ite h (.ite h.lightOff.endSwap (.ite (hidle h).lightOff.sendCmd.endSwap (Quiet.ite h.switchNow h).swapRetire))
    · exact h
  exact (hm.foldl fun _ _ hx => .ite (hidle hx) hx).modPort.sf

/-! ### The journal and the logbook -/

theorem compact (h : Quiet d e) : Quiet d e.compact := by
  unfold Dev.compact
  exact .ite h (h.eph.sf (f := F.BOOT_FW_STAT.LAST_CODE)).logAt

theorem writeRec (h : Quiet d e) : Quiet d e.writeRec := by
  unfold Dev.writeRec
  split
  · exact .ite (Quiet.eph h).compact h.eph
  · exact h

theorem writeAllRecs (h : Quiet d e) : Quiet d e.writeAllRecs := by
  unfold Dev.writeAllRecs
  exact .ite (h.foldl fun _ _ h => h.writeRec) h

theorem writeRecord (h : Quiet d e) {x : RecHead} {r : Report} : Quiet d (e.writeRecord x r) := by
  unfold Dev.writeRecord
  extract_lets seq b m n
  have hm : Quiet d m := h.foldl fun _ _ h => h.setReg (show Part.reg .LOG_RING_n ∈ quietParts by decide)
  exact .ite hm.sf.raise hm.sf

theorem flushLog (h : Quiet d e) : Quiet d e.flushLog :=
  ((h.log.foldl fun _ _ h => h.writeRecord).foldl fun _ _ h => h.writeRecord).foldl fun _ _ h => h.writeRecord

end Quiet

end Sys2Proof.Machine
end

/-! PROOFS. The steps of the shutdown and of a start up to the boot ROM. -/

section
namespace Sys2Proof.Machine

open Sys2Proof

namespace Dev

variable {d : Dev}

/-! ### All islands -/

/-- The state registers of the islands. -/
def islandRegs : List RegKey := (List.range 44).map fun n => ⟨.CLK_ISLAND_n_STAT, 0, n, 0⟩

/-- A step over an island changes its state register and the power path alone, and there the islands alone. -/
structure IslandStep (f : Dev → Nat → Dev) : Prop where
  frame : ∀ e n, Only [⟨.CLK_ISLAND_n_STAT, 0, n, 0⟩] [.power] e (f e n)
  line : ∀ e n, (f e n).power.line = e.power.line

theorem IslandStep.only_foldl {f : Dev → Nat → Dev} (h : IslandStep f) : Only islandRegs [.power] d ((List.range 44).foldl f d) := by
  refine (Only.refl _ _ d).foldl fun e n hn he => he.trans ((h.frame e n).mono (fun k hk => .inl ?_) fun _ hp => hp)
  rw [List.mem_singleton] at hk
  exact hk ▸ List.mem_map_of_mem hn

theorem IslandStep.line_foldl {f : Dev → Nat → Dev} (h : IslandStep f) : ((List.range 44).foldl f d).power.line = d.power.line :=
  List.foldlRecOn (motive := fun e : Dev => e.power.line = d.power.line) _ _ rfl fun e he n _ => (h.line e n).trans he

/-- What each step sets in its island's register, the register holds after all of them. -/
theorem IslandStep.gf_foldl {f : Dev → Nat → Dev} (h : IslandStep f) {g : Fld} {x : Nat} (hg : g.reg = .CLK_ISLAND_n_STAT)
    (hset : ∀ e n, (f e n).gf g 0 n = x) {n : Nat} (hn : n < 44) : ((List.range 44).foldl f d).gf g 0 n = x := by
  refine foldl_of_mem (P := fun e : Dev => e.gf g 0 n = x) (Q := fun _ => True) (List.mem_range.mpr hn) (fun _ _ _ => trivial)
    (fun e _ => hset e n) (fun e m hm he => ?_) trivial
  rw [(h.frame e m).gf (by simpa [hg] using hm.symm) (by simp), he]

theorem only_clockOff_at (n : Nat) : Only [⟨.CLK_ISLAND_n_STAT, 0, n, 0⟩] [.power] d (d.clockOff n) := by
  have hisl : Only [⟨.CLK_ISLAND_n_STAT, 0, n, 0⟩] [.power] d (d.modIsl n fun _ => {}) := (Only.refl _ _ d).power List.mem_cons_self
  exact ((hisl.sfFree (by decide) (.inl List.mem_cons_self)).sfFree (by decide) (.inl List.mem_cons_self)).sfFree (by decide)
    (.inl List.mem_cons_self)

theorem only_islandOff_at (n : Nat) : Only [⟨.CLK_ISLAND_n_STAT, 0, n, 0⟩] [.power] d (d.islandOff n) :=
  (((((only_clockOff_at n).sfFree (by decide) (.inl List.mem_cons_self)).sfFree (by decide) (.inl List.mem_cons_self)).sfFree
    (by decide) (.inl List.mem_cons_self)).sfFree (by decide) (.inl List.mem_cons_self)).sfFree (by decide) (.inl List.mem_cons_self)

theorem line_clockOff (n : Nat) : (d.clockOff n).power.line = d.power.line := by
  unfold clockOff
  rw [sf_power, sf_power, sf_power, line_modIsl]

theorem line_islandOff (n : Nat) : (d.islandOff n).power.line = d.power.line := by
  unfold islandOff
  rw [sf_power, sf_power, sf_power, sf_power, sf_power, line_clockOff]

theorem islandStep_clockOff : IslandStep fun d n => d.clockOff n := ⟨fun _ => only_clockOff_at, fun _ => line_clockOff⟩

theorem islandStep_islandOff : IslandStep fun d n => d.islandOff n := ⟨fun _ => only_islandOff_at, fun _ => line_islandOff⟩

theorem gf_clockOff (n : Nat) : (d.clockOff n).gf F.CLK_ISLAND_n_STAT.FREQ_MHZ 0 n = 0
    ∧ (d.clockOff n).gf F.CLK_ISLAND_n_STAT.RAMPING 0 n = 0 := by
  unfold clockOff
  constructor
  · rw [gf_sf_of_disjoint _ _ _ _ _ _ _ _ _ _ (by decide) (by decide) (by decide),
      gf_sf_of_disjoint _ _ _ _ _ _ _ _ _ _ (by decide) (by decide) (by decide), gf_sf_self _ _ _ _ _ _ (by decide) (by decide)]
    rfl
  · rw [gf_sf_of_disjoint _ _ _ _ _ _ _ _ _ _ (by decide) (by decide) (by decide), gf_sf_self _ _ _ _ _ _ (by decide) (by decide)]
    rfl

theorem gf_islandOff_powered (n : Nat) : (d.islandOff n).gf F.CLK_ISLAND_n_STAT.POWERED 0 n = 0 := by
  unfold islandOff
  rw [gf_sf_of_disjoint _ _ _ _ _ _ _ _ _ _ (by decide) (by decide) (by decide),
    gf_sf_of_disjoint _ _ _ _ _ _ _ _ _ _ (by decide) (by decide) (by decide),
    gf_sf_of_disjoint _ _ _ _ _ _ _ _ _ _ (by decide) (by decide) (by decide),
    gf_sf_of_disjoint _ _ _ _ _ _ _ _ _ _ (by decide) (by decide) (by decide), gf_sf_self _ _ _ _ _ _ (by decide) (by decide)]
  rfl

/-- An island with power and lock, at an operating point and a divider. -/
def islandAt (d : Dev) (n op who : Nat) (v : Nat × Nat) : Dev :=
  (((((d.modIsl n fun _ => {}).sf F.CLK_ISLAND_n_STAT.POWERED 1 0 n).sf F.CLK_ISLAND_n_STAT.PLL_LOCK 1 0 n).sf
    F.CLK_ISLAND_n_STAT.OP_IN_FORCE op 0 n).sf F.CLK_ISLAND_n_STAT.LIMITER who 0 n).setDiv n v

theorem islandUp_eq (n : Nat) : ∃ op who v, d.islandUp n = d.islandAt n op who v := by
  unfold islandUp
  split <;> exact ⟨_, _, _, rfl⟩

section

variable (n op who : Nat) (v : Nat × Nat)

theorem only_islandAt : Only [⟨.CLK_ISLAND_n_STAT, 0, n, 0⟩] [.power] d (d.islandAt n op who v) := by
  have hisl : Only [⟨.CLK_ISLAND_n_STAT, 0, n, 0⟩] [.power] d (d.modIsl n fun _ => {}) := (Only.refl _ _ d).power List.mem_cons_self
  have hset := (((hisl.sfFree (f := F.CLK_ISLAND_n_STAT.POWERED) (v := 1) (u := 0) (i := n) (j := 0) (by decide)
    (.inl List.mem_cons_self)).sfFree (f := F.CLK_ISLAND_n_STAT.PLL_LOCK) (v := 1) (u := 0) (i := n) (j := 0) (by decide)
    (.inl List.mem_cons_self)).sfFree (f := F.CLK_ISLAND_n_STAT.OP_IN_FORCE) (v := op) (u := 0) (i := n) (j := 0) (by decide)
    (.inl List.mem_cons_self)).sfFree (f := F.CLK_ISLAND_n_STAT.LIMITER) (v := who) (u := 0) (i := n) (j := 0) (by decide)
    (.inl List.mem_cons_self)
  exact (hset.power List.mem_cons_self).sfFree (by decide) (.inl List.mem_cons_self)

theorem line_islandAt : (d.islandAt n op who v).power.line = d.power.line := by
  unfold islandAt setDiv
  rw [sf_power, line_modIsl, sf_power, sf_power, sf_power, sf_power, line_modIsl]

theorem gf_modIsl (g : IslandSt → IslandSt) (f : Fld) (u i j : Nat) : (d.modIsl n g).gf f u i j = d.gf f u i j := rfl

theorem gf_islandAt : (d.islandAt n op who v).gf F.CLK_ISLAND_n_STAT.POWERED 0 n = 1
    ∧ (d.islandAt n op who v).gf F.CLK_ISLAND_n_STAT.PLL_LOCK 0 n = 1 := by
  unfold islandAt setDiv
  constructor
  · rw [gf_sf_of_disjoint _ _ _ _ _ _ _ _ _ _ (by decide) (by decide) (by decide), gf_modIsl,
      gf_sf_of_disjoint _ _ _ _ _ _ _ _ _ _ (by decide) (by decide) (by decide),
      gf_sf_of_disjoint _ _ _ _ _ _ _ _ _ _ (by decide) (by decide) (by decide),
      gf_sf_of_disjoint _ _ _ _ _ _ _ _ _ _ (by decide) (by decide) (by decide), gf_sf_self _ _ _ _ _ _ (by decide) (by decide)]
    rfl
  · rw [gf_sf_of_disjoint _ _ _ _ _ _ _ _ _ _ (by decide) (by decide) (by decide), gf_modIsl,
      gf_sf_of_disjoint _ _ _ _ _ _ _ _ _ _ (by decide) (by decide) (by decide),
      gf_sf_of_disjoint _ _ _ _ _ _ _ _ _ _ (by decide) (by decide) (by decide), gf_sf_self _ _ _ _ _ _ (by decide) (by decide)]
    rfl

end

theorem islandStep_islandUp : IslandStep fun d n => d.islandUp n := by
  refine ⟨fun e n => ?_, fun e n => ?_⟩ <;> obtain ⟨op, who, v, h⟩ := islandUp_eq (d := e) n
  · exact h ▸ only_islandAt n op who v
  · exact h ▸ line_islandAt n op who v

theorem gf_islandUp (n : Nat) : (d.islandUp n).gf F.CLK_ISLAND_n_STAT.POWERED 0 n = 1
    ∧ (d.islandUp n).gf F.CLK_ISLAND_n_STAT.PLL_LOCK 0 n = 1 := by
  obtain ⟨op, who, v, h⟩ := islandUp_eq (d := d) n
  rw [h]
  exact gf_islandAt n op who v

end Dev

end Sys2Proof.Machine
end

/-! PROOFS. The shutdown, and what the end of the hold and of Quiesce go on with. -/

section
namespace Sys2Proof.Machine

open Sys2Proof

namespace Dev

variable {d : Dev}

/-! ### The shutdown -/

/-- The clocks have stopped, and the rails are next. -/
def clocksDown (d : Dev) : Dev :=
  ((List.range 44).foldl (fun d n => d.clockOff n) d).withPower
    { ((List.range 44).foldl (fun d n => d.clockOff n) d).power with path := some .rails }

theorem clocksStopped_eq (h : d.power.path = some .clocks) : d.clocksStopped = d.clocksDown := by
  unfold clocksStopped
  rw [if_neg (by simp [h])]
  rfl

/-- The rails are off, with what HBM held. -/
def railsDown (d : Dev) : Dev :=
  { d with
    hbm := [], mem := { d.mem with poison := [] }
    power := { d.power with path := some .journal, railsUp := false } }.refreshPgood

theorem railsOff_eq (h : d.power.path = some .rails) : d.railsOff = d.darken.railsDown := by
  unfold railsOff
  rw [if_neg (by simp [h])]
  rfl

theorem gf_railsDown (f : Fld) (u i j : Nat) : d.railsDown.gf f u i j = d.gf f u i j := rfl

theorem railsDown_power : d.railsDown.power.path = some .journal ∧ d.railsDown.power.railsUp = false
    ∧ d.railsDown.power.pgoodOut = if d.power.aux then .low else .highZ := by
  refine ⟨rfl, rfl, ?_⟩
  show (if !d.power.aux then PgoodPin.highZ else _) = _
  cases d.power.aux <;> rfl

theorem only_railsDown : Only [] [.power, .hbm, .mem] d d.railsDown := by
  refine (Only.refl _ _ d).other rfl fun p hn hr => ?_
  cases p with
  | power | hbm | mem => exact absurd (by decide) hn
  | reg n => exact absurd rfl (hr n)
  | coreStore | clusterStore | imem => exact fun _ => rfl
  | _ => rfl

/-- The units' state as stage one turns off. -/
def unitsLost (d : Dev) : Dev := (d.wipeUnits .cold).loseFields .cold true fun k => (islandOf k).isSome

/-- Stage one is off. -/
def stageOneCut (d : Dev) (toOff : Bool) : Dev :=
  { d with
    power := { d.power with stageOne := false, path := none, toOff := false, hold := !toOff || d.power.rise }
    boot := { d.boot with warmRecord := false, image := none } }

/-- What is shown as stage one turns off. -/
def stageOneShown (d : Dev) : Dev :=
  (((d.sf F.PWR_STAT.CONVERTERS 0).sf F.BOOT_STAT.WARM_RECORD 0).sf F.BOOT_STAT.READY 0).sf F.PWR_STAT.STATE 0

theorem stageOneOff_eq (h : d.power.path = some .journal) : d.stageOneOff =
    (d.writeAllRecs.unitsLost.stageOneCut d.writeAllRecs.power.toOff).stageOneShown.setBoot
      (if d.writeAllRecs.power.toOff then .off else .hold) := by
  unfold stageOneOff
  rw [if_neg (by simp [h])]
  rfl

theorem only_stageOneShown : Only [⟨.PWR_STAT, 0, 0, 0⟩, ⟨.BOOT_STAT, 0, 0, 0⟩] [] d d.stageOneShown :=
  ((((Only.refl _ _ d).sfFree (by decide) (.inl (by decide))).sfFree (by decide) (.inl (by decide))).sfFree (by decide)
    (.inl (by decide))).sfFree (by decide) (.inl (by decide))

theorem gf_stageOneShown : d.stageOneShown.gf F.BOOT_STAT.WARM_RECORD = 0 ∧ d.stageOneShown.gf F.BOOT_STAT.READY = 0 := by
  unfold stageOneShown
  constructor
  · rw [gf_sf_of_reg_ne _ _ _ _ _ _ _ _ _ _ (by decide), gf_sf_of_disjoint _ _ _ _ _ _ _ _ _ _ (by decide) (by decide) (by decide),
      gf_sf_self _ _ _ _ _ _ (by decide) (by decide)]
    rfl
  · rw [gf_sf_of_reg_ne _ _ _ _ _ _ _ _ _ _ (by decide), gf_sf_self _ _ _ _ _ _ (by decide) (by decide)]
    rfl

theorem unitsLost_power : d.unitsLost.power = { d.power with islands := [], therms := [], crossing := [] } := by
  show (d.wipeUnits .cold).power = _
  simp only [wipeUnits, power_restoreCores]

theorem stageOneCut_power (toOff : Bool) : (d.stageOneCut toOff).power =
    { d.power with stageOne := false, path := none, toOff := false, hold := !toOff || d.power.rise } := rfl

theorem stageOneShown_hbm : d.stageOneShown.hbm = d.hbm := by
  unfold stageOneShown
  rw [sf_hbm, sf_hbm, sf_hbm, sf_hbm]

/-- A field of BOOT_STAT apart from STATE keeps its value as the boot sequence goes on. -/
theorem gf_setBoot_of_disjoint (st : BootStep) {f : Fld} (u i j : Nat)
    (h : f.hi < F.BOOT_STAT.STATE.lo ∨ F.BOOT_STAT.STATE.hi < f.lo) : (d.setBoot st).gf f u i j = d.gf f u i j :=
  (gf_sf_of_disjoint _ _ _ _ _ _ _ _ _ _ (by decide) (by decide) h).trans rfl

end Dev

open Dev

theorem completes_clocksStopped : Completes .clocksStopped (fun d => d.power.path = some .clocks) fun d e =>
      e.power.path = some .rails ∧ (∀ n, n < 44 → e.gf F.CLK_ISLAND_n_STAT.FREQ_MHZ 0 n = 0 ∧ e.gf F.CLK_ISLAND_n_STAT.RAMPING 0 n = 0)
        ∧ Only ((List.range 44).map fun n => ⟨.CLK_ISLAND_n_STAT, 0, n, 0⟩) [.power] d e := by
  refine .of_upd (f := fun d => d.clocksStopped) (fun _ => rfl) fun d hp => ?_
  rw [clocksStopped_eq hp, clocksDown]
  refine ⟨rfl, fun n hn => ⟨?_, ?_⟩, islandStep_clockOff.only_foldl.power (by decide)⟩
  · rw [gf_withPower, islandStep_clockOff.gf_foldl rfl (fun e n => (gf_clockOff (d := e) n).1) hn]
  · rw [gf_withPower, islandStep_clockOff.gf_foldl rfl (fun e n => (gf_clockOff (d := e) n).2) hn]

theorem completes_railsOff : Completes .railsOff (fun d => d.power.path = some .rails) fun d e =>
      e.power.path = some .journal ∧ e.power.railsUp = false ∧ e.power.pgoodOut = (if d.power.aux then .low else .highZ) ∧ e.hbm = []
        ∧ (∀ n, n < 44 → e.gf F.CLK_ISLAND_n_STAT.POWERED 0 n = 0)
        ∧ Only ((List.range 44).map fun n => ⟨.CLK_ISLAND_n_STAT, 0, n, 0⟩) [.power, .hbm, .mem] d e := by
  refine .of_upd (f := fun d => d.railsOff) (fun _ => rfl) fun d hp => ?_
  have hdark : Only islandRegs [.power] d d.darken := islandStep_islandOff.only_foldl
  obtain ⟨hpath, hrails, hpin⟩ := railsDown_power (d := d.darken)
  rw [railsOff_eq hp]
  refine ⟨hpath, hrails, by rw [hpin, aux_darken], rfl, fun n hn => ?_, ?_⟩
  · rw [gf_railsDown]
    exact islandStep_islandOff.gf_foldl rfl (fun _ => gf_islandOff_powered) hn
  · exact (hdark.mono (fun _ hk => .inl hk) (by simp)).trans (only_railsDown.mono (by simp) fun _ h => h)

theorem completes_stageOneOff : Completes .stageOneOff (fun d => d.power.path = some .journal) fun d e =>
      e.power.path = none ∧ e.power.stageOne = false ∧ e.boot.warmRecord = false ∧ e.gf F.BOOT_STAT.WARM_RECORD = 0
        ∧ e.gf F.BOOT_STAT.READY = 0 ∧ e.cores = [] ∧ e.hbm = [] ∧ e.boot.step = (if d.power.toOff then .off else .hold)
        ∧ e.power.hold = (!d.power.toOff || d.power.rise) := by
  refine .of_upd (f := fun d => d.stageOneOff) (fun _ => rfl) fun d hp => ?_
  obtain ⟨hwarm, hready⟩ := gf_stageOneShown (d := d.writeAllRecs.unitsLost.stageOneCut d.power.toOff)
  have hpower := ((only_setBoot (d := (d.writeAllRecs.unitsLost.stageOneCut d.power.toOff).stageOneShown)
    (if d.power.toOff then .off else .hold)).2 .power (by decide) (by simp)).trans (only_stageOneShown.2 .power (by decide) (by simp))
  rw [stageOneOff_eq hp, writeAllRecs_power]
  refine ⟨?_, ?_, ?_, ?_, ?_, ?_, ?_, ?_, ?_⟩
  · rw [hpower, stageOneCut_power]
  · rw [hpower, stageOneCut_power]
  · rw [setBoot_boot, only_stageOneShown.2 .boot (by decide) (by simp), stageOneCut]
  · rw [gf_setBoot_of_disjoint _ _ _ _ (by decide), hwarm]
  · rw [gf_setBoot_of_disjoint _ _ _ _ (by decide), hready]
  · exact ((only_setBoot _).2 .cores (by decide) (by simp)).trans (only_stageOneShown.2 .cores (by decide) (by simp))
  · rw [setBoot_hbm, stageOneShown_hbm]
    rfl
  · rw [setBoot_boot]
  · rw [hpower, stageOneCut_power, unitsLost_power, writeAllRecs_power]

end Sys2Proof.Machine
end

/-! PROOFS. O28: the end of the hold and of Quiesce, RAILS_UP, the boot ROM, the rails and the converters. -/

section
namespace Sys2Proof.Machine

open Sys2Proof

theorem EphSt.areas_of_flash {a b : EphSt} (h : a.flash = b.flash) : a.area0 = b.area0 ∧ a.area1 = b.area1 :=
  ⟨EphSt.eq_of_flash EphSt.area0 (fun _ => rfl) h, EphSt.eq_of_flash EphSt.area1 (fun _ => rfl) h⟩

namespace Dev

variable {d e : Dev}

/-! ### The end of the hold -/

theorem flash_restoreCores : d.restoreCores.eph.flash = d.eph.flash := by
  unfold restoreCores
  refine List.foldlRecOn (motive := fun e : Dev => e.eph.flash = d.eph.flash) _ _ rfl fun e he c _ => ?_
  split
  · exact he
  · exact (flash_setReg _ _ _).trans he

theorem startLoss_eph (kind : StartKind) : (d.startLoss kind).eph = d.restoreCores.eph := by
  simp only [startLoss, loseFields, wipeUnits]

theorem flash_enterStart (kind : StartKind) (first : BootStep) : (d.enterStart kind first).eph.flash = d.eph.flash := by
  rw [(only_enterStart kind first).2 .eph (by decide) (by simp), startLoss_eph, flash_restoreCores]

/-- The hold is over and stage one on. -/
def stageOneBack (d : Dev) : Dev := d.withPower { d.power with hold := false, stageOne := true }

theorem stageOneBack_power : d.stageOneBack.power = { d.power with hold := false, stageOne := true } := rfl

theorem stageOneHoldEnd_eq (hs : d.boot.step = .hold) (hp : d.power.path = none) :
    d.stageOneHoldEnd = (d.stageOneBack.enterStart .cold .rails).converterCheck := by
  unfold stageOneHoldEnd
  rw [if_neg (by simp [hs, hp])]
  rfl

/-! ### The end of Quiesce -/

theorem restoreCores_mem : d.restoreCores.mem = d.mem := only_restoreCores.2 .mem (by decide) (by simp)

theorem restoreCores_hbm : d.restoreCores.hbm = d.hbm := by
  unfold restoreCores
  refine List.foldlRecOn (motive := fun e : Dev => e.hbm = d.hbm) _ _ rfl fun e he c _ => ?_
  split
  · exact he
  · exact he

theorem mappedOut_congr (h : ∀ k : RegKey, k.name = .HBM_CAPACITY ∨ k.name = .HBM_MAPOUT_LIST_n → e.reg k = d.reg k) :
    e.mappedOut = d.mappedOut := by
  have hn : e.mapouts = d.mapouts := congrArg (getBits · _ _) (h _ (.inl rfl))
  unfold mappedOut
  rw [hn]
  exact List.map_congr_left fun k _ => congrArg (getBits · _ _) (h _ (.inr rfl))

/-- What a frame does not list of the map-out list. -/
theorem Only.mappedOut {rs : List RegKey} {ps : List Part} (h : Only rs ps d e)
    (hr : ∀ k ∈ rs, k.name ≠ .HBM_CAPACITY ∧ k.name ≠ .HBM_MAPOUT_LIST_n)
    (hp : Part.reg .HBM_CAPACITY ∉ ps ∧ Part.reg .HBM_MAPOUT_LIST_n ∉ ps) : e.mappedOut = d.mappedOut := by
  refine mappedOut_congr fun k hk => h.1 k (fun hm => ?_) fun hm => ?_
  · exact hk.elim (hr k hm).1 (hr k hm).2
  · rcases hk with hk | hk
    · exact hp.1 (hk ▸ hm)
    · exact hp.2 (hk ▸ hm)

theorem enterStart_warm_mem (first : BootStep) : (d.enterStart .warm first).mem.poison = d.mem.poison
    ∧ (d.enterStart .warm first).mem.subst = substFrom [] [] d.mappedOut := by
  have hmap : d.restoreCores.mappedOut = d.mappedOut := Only.mappedOut only_restoreCores (by simp) (by decide)
  rw [(only_enterStart .warm first).2 .mem (by decide) (by simp)]
  constructor
  · show d.restoreCores.mem.poison = _
    rw [restoreCores_mem]
  · show substFrom [] [] d.restoreCores.mappedOut = _
    rw [hmap]

/-- The swaps of every port aborted. -/
def swapsAborted (d : Dev) : Dev :=
  (List.range 6).foldl (fun d p => (List.range 10).foldl (fun d n => if portExists p n then d.abortSwaps p n else d) d) d

theorem quiet_swapsAborted : Quiet d d.swapsAborted :=
  (Quiet.refl d).foldl fun _ _ h => h.foldl fun _ _ h => .ite h.abortSwaps h

theorem cacheEmpty_of_no_lines (errs : List MemErr) (h : d.mem.lines = []) : d.cacheEmpty errs = d.setLines [] := by
  unfold cacheEmpty
  rw [h]
  rfl

/-- The device saved at the end of Quiesce. -/
def saved (d : Dev) : Dev := (d.swapsAborted.setLines []).writeAllRecs.flushLog

/-- HBM in self-refresh. -/
def selfRefreshed (d : Dev) : Dev := (List.range 4).foldl (fun d q => d.sf F.HBM_STAT.SELF_REFRESH 1 q) d

/-- The same with the caches written back. -/
def savedWith (d : Dev) (errs : List MemErr) : Dev := ((d.swapsAborted.cacheEmpty errs).writeAllRecs).flushLog

theorem quiesceDone_def (errs : List MemErr) : d.quiesceDone errs =
    if d.boot.step ≠ .quiesce || d.mem.mapout.isSome || d.writeWaits then d
    else if (d.savedWith errs).boot.coldNext then (d.savedWith errs).coldRestart
    else ((d.savedWith errs).enterStart .warm .rails).selfRefreshed := by
  unfold quiesceDone savedWith swapsAborted selfRefreshed
  rfl

theorem quiet_saved : Quiet (d.swapsAborted.setLines []) d.saved := ((Quiet.refl _).writeAllRecs).flushLog

theorem quiet_cacheDropped : Only [] (.mem :: quietParts) d (d.swapsAborted.setLines []) :=
  (quiet_swapsAborted.frame.mono (by simp) fun _ h => List.mem_cons_of_mem _ h).mem (by decide)

theorem only_saved : Only [] (.mem :: quietParts) d d.saved :=
  quiet_cacheDropped.trans (quiet_saved.frame.mono (by simp) fun _ h => List.mem_cons_of_mem _ h)

theorem saved_boot : d.saved.boot = d.boot := only_saved.2 .boot (by decide) (by simp)

theorem saved_gas : d.saved.gas = d.gas := only_saved.2 .gas (by decide) (by simp)

theorem setLines_hbm (l : List Line) : (d.setLines l).hbm = d.hbm := rfl

theorem setLines_poison (l : List Line) : (d.setLines l).mem.poison = d.mem.poison := rfl

theorem saved_hbm : d.saved.hbm = d.hbm := by rw [quiet_saved.hbm, setLines_hbm, quiet_swapsAborted.hbm]

theorem saved_poison : d.saved.mem.poison = d.mem.poison := by
  rw [quiet_saved.frame.2 .mem (by decide) (by simp), setLines_poison, quiet_swapsAborted.frame.2 .mem (by decide) (by simp)]

theorem saved_mappedOut : d.saved.mappedOut = d.mappedOut := Only.mappedOut only_saved (by simp) (by decide)

theorem quiesceDone_eq (errs : List MemErr) (hs : d.boot.step = .quiesce) (hm : d.mem.mapout = none) (hw : d.writeWaits = false)
    (hc : d.boot.coldNext = false) (hl : d.mem.lines = []) :
    d.quiesceDone errs = (d.saved.enterStart .warm .rails).selfRefreshed := by
  have hlines : d.swapsAborted.mem.lines = [] := by rw [quiet_swapsAborted.frame.2 .mem (by decide) (by simp), hl]
  have hcold : d.saved.boot.coldNext = false := by rw [saved_boot, hc]
  have hsaved : d.savedWith errs = d.saved := by rw [savedWith, cacheEmpty_of_no_lines errs hlines, saved]
  rw [quiesceDone_def, if_neg (by simp [hs, hm, hw]), hsaved, if_neg (by simp [hcold])]

theorem only_selfRefreshed : Only [] [.reg .HBM_STAT] d d.selfRefreshed :=
  (Only.refl _ _ d).foldl fun _ _ _ h => h.sfFree (by decide) (.inr List.mem_cons_self)

theorem selfRefreshed_hbm : d.selfRefreshed.hbm = d.hbm :=
  List.foldlRecOn (motive := fun e : Dev => e.hbm = d.hbm) _ _ rfl fun e he _ _ => (sf_hbm e _ _ _ _ _).trans he

theorem gf_selfRefreshed {q : Nat} (hq : q < 4) : d.selfRefreshed.gf F.HBM_STAT.SELF_REFRESH q = 1 := by
  refine foldl_of_mem (P := fun e : Dev => e.gf F.HBM_STAT.SELF_REFRESH q = 1) (Q := fun _ => True) (List.mem_range.mpr hq)
    (fun _ _ _ => trivial) (fun e _ => ?_) (fun e p hp he => ?_) trivial
  · rw [gf_sf_self _ _ _ _ _ _ (by decide) (by decide)]
    rfl
  · rw [gf_sf_of_inst_ne _ _ _ _ _ _ _ _ _ _ (by simpa using hp.symm), he]

end Dev

open Dev

theorem completes_stageOneHoldExpiry :
    Completes .stageOneHoldExpiry (fun d => d.boot.step = .hold ∧ d.power.path = none ∧ d.power.failed < 4) fun d e =>
      e.power.stageOne = true ∧ e.power.hold = false ∧ e.boot.step = .rails ∧ e.boot.kind = .cold ∧ e.cores = [] ∧ e.hbm = []
        ∧ e.gas.replies = [] ∧ e.chrono = 0 ∧ e.gas.zeroed = d.gas.zeroed ∧ e.eph.area0 = d.eph.area0 ∧ e.eph.area1 = d.eph.area1 := by
  refine .of_upd (f := fun d => d.stageOneHoldEnd) (fun _ => rfl) fun d ⟨hs, hp, hf⟩ => ?_
  obtain ⟨hstep, hkind⟩ := d.stageOneBack.enterStart_boot .cold .rails
  obtain ⟨hchrono, hcores, -⟩ := d.stageOneBack.enterStart_cleared .cold .rails
  obtain ⟨harea0, harea1⟩ := EphSt.areas_of_flash (d.stageOneBack.flash_enterStart .cold .rails)
  rw [stageOneHoldEnd_eq hs hp, converterCheck_of_two (by rw [failed_enterStart]; exact hf)]
  refine ⟨by rw [enterStart_power, stageOneBack_power], by rw [enterStart_power, stageOneBack_power], hstep, hkind, hcores, ?_, ?_,
    hchrono, ?_, harea0, harea1⟩
  · rw [enterStart_hbm, if_neg (by decide)]
  · rw [enterStart_gas, if_pos rfl]
  · rw [enterStart_gas]
    rfl

theorem completes_quiesceDone (errs : List MemErr) : Completes (.quiesceDone errs) (fun d => d.boot.step = .quiesce
      ∧ d.mem.mapout = none ∧ d.writeWaits = false ∧ d.boot.coldNext = false ∧ d.mem.lines = [] ∧ d.on F.LOG_CTRL.HBM_EN = false)
    fun d e => e.boot.step = .rails ∧ e.boot.kind = .warm ∧ e.cores = [] ∧ e.engines = [] ∧ e.injected = [] ∧ e.reqs = []
      ∧ e.hbm = d.hbm ∧ e.gas.replies = d.gas.replies ∧ e.mem.poison = d.mem.poison ∧ e.mem.subst = substFrom [] [] d.mappedOut
      ∧ (∀ q, q < 4 → e.gf F.HBM_STAT.SELF_REFRESH q = 1) := by
  refine .of_upd (f := fun d => d.quiesceDone errs) (fun _ => rfl) fun d ⟨hs, hm, hw, hc, hl, _⟩ => ?_
  obtain ⟨hstep, hkind⟩ := d.saved.enterStart_boot .warm .rails
  obtain ⟨-, hcores, hengines, hinjected, hreqs, -⟩ := d.saved.enterStart_cleared .warm .rails
  obtain ⟨hpoison, hsubst⟩ := d.saved.enterStart_warm_mem .rails
  have ho := only_selfRefreshed (d := d.saved.enterStart .warm .rails)
  have hmem := ho.2 .mem (by decide) (by simp)
  rw [quiesceDone_eq errs hs hm hw hc hl]
  refine ⟨?_, ?_, ?_, ?_, ?_, ?_, ?_, ?_, ?_, ?_, fun q hq => gf_selfRefreshed hq⟩
  · rw [ho.2 .boot (by decide) (by simp), hstep]
  · rw [ho.2 .boot (by decide) (by simp), hkind]
  · rw [ho.2 .cores (by decide) (by simp), hcores]
  · rw [ho.2 .engines (by decide) (by simp), hengines]
  · rw [ho.2 .injected (by decide) (by simp), hinjected]
  · rw [ho.2 .reqs (by decide) (by simp), hreqs]
  · rw [selfRefreshed_hbm, enterStart_hbm, if_pos rfl, restoreCores_hbm, saved_hbm]
  · rw [ho.2 .gas (by decide) (by simp), enterStart_gas, if_neg (by decide), saved_gas]
  · rw [hmem, hpoison, saved_poison]
  · rw [hmem, hsubst, saved_mappedOut]

end Sys2Proof.Machine
end

/-! PROOFS. O28: RAILS_UP, the boot ROM, the rails and the converters, and the obligation. -/

section
namespace Sys2Proof.Machine

open Sys2Proof

namespace Dev

variable {d : Dev}

/-! ### RAILS_UP -/

/-- The rails are in regulation. -/
def railsRaised (d : Dev) : Dev := (d.withPower { d.power with railsUp := true, badRails := [] }).refreshPgood

/-- Every island powered. -/
def islandsUp (d : Dev) : Dev := (List.range 44).foldl (fun d n => d.islandUp n) d

theorem railsIn_def : d.railsIn =
    if d.boot.step ≠ .rails || !d.power.stageOne || d.power.path.isSome then d
    else d.railsRaised.islandsUp.newChallenge.stepTo .rom := by
  unfold railsIn islandsUp
  rfl

theorem railsRaised_power (ha : d.power.aux = true) :
    d.railsRaised.power.railsUp = true ∧ d.railsRaised.power.pgoodOut = .released := by
  refine ⟨rfl, ?_⟩
  show (if !d.power.aux then PgoodPin.highZ else _) = _
  rw [ha]
  rfl

theorem only_islandsUp : Only islandRegs [.power] d d.islandsUp := islandStep_islandUp.only_foldl

theorem PowerSt.pins_of_line {p q : PowerSt} (h : p.line = q.line) : p.railsUp = q.railsUp ∧ p.pgoodOut = q.pgoodOut :=
  ⟨(congrArg PowerSt.railsUp h :), (congrArg PowerSt.pgoodOut h :)⟩

theorem only_newChallenge : Only [] [.reg .DBG_CHALLENGE_k, .freeIx] d d.newChallenge := by
  have hfold : Only [] [.reg .DBG_CHALLENGE_k, .freeIx] d ((List.range 4).foldl (fun d k =>
      d.setReg ⟨.DBG_CHALLENGE_k, 0, k, 0⟩ (Config.freeWord d.freeIx k)) d) :=
    (Only.refl _ _ d).foldl fun _ _ _ h => h.setReg (.inr List.mem_cons_self) (.inl rfl)
  exact hfold.freeIx (by decide)

/-! ### The boot ROM -/

/-- The delay reported as it ran. -/
def delayShown (d : Dev) (us : Nat) : Dev := if d.boot.delayRan then d.sf F.BOOT_STRAP.DELAY_US us else d

theorem romDone_eq {us : Nat} (hs : d.boot.step = .rom) (hc : d.boot.coldNext = false) :
    d.romDone us = (d.delayShown us).mirrorFw.setBoot .firmware := by
  have hboot : (d.delayShown us).mirrorFw.boot = d.boot := by
    rw [only_mirrorFw.2 .boot (by decide) (by simp), delayShown]
    split
    · rw [sf_boot]
    · rfl
  have hdef : d.romDone us = if d.boot.step ≠ .rom then d else (d.delayShown us).mirrorFw.stepTo .firmware := rfl
  rw [hdef, if_neg (by simp [hs]), stepTo_of_not_coldNext .firmware (by rw [hboot, hc])]

theorem only_delayShown (us : Nat) : Only [⟨.BOOT_STRAP, 0, 0, 0⟩] [] d (d.delayShown us) := by
  unfold delayShown
  exact .ite ((Only.refl _ _ d).sfFree (by decide) (.inl (by decide))) (.refl _ _ d)

theorem gf_delayShown {us : Nat} (h : us < 2 ^ 32) :
    (d.delayShown us).gf F.BOOT_STRAP.DELAY_US = if d.boot.delayRan then us else d.gf F.BOOT_STRAP.DELAY_US := by
  unfold delayShown
  split
  · rw [gf_sf_self _ _ _ _ _ _ (by decide) (by decide)]
    exact Nat.mod_eq_of_lt h
  · rfl

theorem gf_mirrorFw_active : d.mirrorFw.gf F.BOOT_FW_STAT.ACTIVE = if d.eph.activeB then 1 else 0 := by
  unfold mirrorFw
  rw [gf_sf_of_reg_ne _ _ _ _ _ _ _ _ _ _ (by decide), gf_sf_of_reg_ne _ _ _ _ _ _ _ _ _ _ (by decide),
    gf_sf_of_disjoint _ _ _ _ _ _ _ _ _ _ (by decide) (by decide) (by decide),
    gf_sf_of_disjoint _ _ _ _ _ _ _ _ _ _ (by decide) (by decide) (by decide),
    gf_sf_of_disjoint _ _ _ _ _ _ _ _ _ _ (by decide) (by decide) (by decide),
    gf_sf_of_disjoint _ _ _ _ _ _ _ _ _ _ (by decide) (by decide) (by decide), gf_sf_self _ _ _ _ _ _ (by decide) (by decide)]
  cases d.eph.activeB <;> rfl

/-! ### Converters -/

/-- One more converter has failed. -/
def lessOne (d : Dev) : Dev := d.withPower { d.power with failed := d.power.failed + 1 }

/-- A converter's failure noted and reported. -/
def failNoted (d : Dev) : Dev :=
  ((d.lessOne.sf F.PWR_STAT.CONVERTERS (5 - d.lessOne.power.failed)).logPwr Code.PWR_CONVERTER_FAIL 0xFFFF 0
    (5 - d.lessOne.power.failed)).raise 196

theorem converterFail_def : d.converterFail =
    if !d.power.stageOne || decide (5 ≤ d.power.failed) then d
    else if 5 - d.lessOne.power.failed < 2 then d.failNoted.lossPath 4 false else d.failNoted.refreshCap := by
  unfold converterFail
  rfl

theorem lessOne_power : d.lessOne.power = { d.power with failed := d.power.failed + 1 } := rfl

theorem failNoted_power : d.failNoted.power = { d.power with failed := d.power.failed + 1 } := by
  rw [failNoted, raise_power, logPwr_power, sf_power, lessOne_power]

theorem only_failNoted : Only [⟨.PWR_STAT, 0, 0, 0⟩, ⟨.INT_PEND_SET_k, 0, 3, 0⟩] (.power :: .eph :: logParts) d d.failNoted := by
  have hless : Only [⟨.PWR_STAT, 0, 0, 0⟩, ⟨.INT_PEND_SET_k, 0, 3, 0⟩] (.power :: .eph :: logParts) d d.lessOne :=
    (only_withPower _).mono (by simp) (by simp)
  have hconv := hless.sfFree (f := F.PWR_STAT.CONVERTERS) (v := 5 - d.lessOne.power.failed) (u := 0) (i := 0) (j := 0) (by decide)
    (.inl (by decide))
  have hlog := hconv.logPwr (code := Code.PWR_CONVERTER_FAIL) (unit := 0xFFFF) (d0 := 0) (d1 := 5 - d.lessOne.power.failed)
    (.inl (by decide)) fun _ h => List.mem_cons_of_mem _ (List.mem_cons_of_mem _ h)
  exact hlog.raise (.inl (by decide))

theorem gf_failNoted : d.failNoted.gf F.PWR_STAT.CONVERTERS = 4 - d.power.failed := by
  rw [failNoted, gf_raise _ _ _ _ (by decide), gf_logPwr _ _ _ _ _ _ _ (by decide) (.inl (by decide)),
    gf_sf_self _ _ _ _ _ _ (by decide) (by decide), lessOne_power]
  exact (Nat.mod_eq_of_lt (Nat.lt_of_le_of_lt (Nat.sub_le _ _) (by decide))).trans (by dsimp only; omega)

theorem capNow_failNoted : d.failNoted.capNow =
    min (d.gf F.PWR_CTRL.CAP_W) (min (if d.power.failed = 0 then 4000 else 1000 * (4 - d.power.failed))
      (if d.power.low then 2000 else 4000)) := by
  have hconv : d.failNoted.converterCap = if d.power.failed = 0 then 4000 else 1000 * (4 - d.power.failed) := by
    rw [converterCap, failNoted_power]
    dsimp only
    split <;> split <;> omega
  rw [capNow, hconv, failNoted_power, only_failNoted.gf (by decide) (by decide)]

end Dev

open Dev

theorem completes_railsUp : Completes .railsUp (fun d => d.boot.step = .rails ∧ d.power.stageOne = true ∧ d.power.path = none
      ∧ d.boot.coldNext = false ∧ d.power.aux = true)
    fun _ e => e.power.railsUp = true ∧ e.power.pgoodOut = .released ∧ e.boot.step = .rom ∧ e.gf F.BOOT_STAT.STATE = 1
      ∧ (∀ n, n < 44 → e.gf F.CLK_ISLAND_n_STAT.POWERED 0 n = 1 ∧ e.gf F.CLK_ISLAND_n_STAT.PLL_LOCK 0 n = 1) := by
  refine .of_upd (f := fun d => d.railsIn) (fun _ => rfl) fun d ⟨hs, hone, hp, hc, ha⟩ => ?_
  obtain ⟨hrails, hpin⟩ := railsRaised_power ha
  obtain ⟨hrails', hpin'⟩ := PowerSt.pins_of_line (islandStep_islandUp.line_foldl (d := d.railsRaised))
  have hchal := only_newChallenge (d := d.railsRaised.islandsUp)
  have hcold : d.railsRaised.islandsUp.newChallenge.boot.coldNext = false := by
    rw [hchal.2 .boot (by decide) (by simp), only_islandsUp.2 .boot (by decide) (by simp)]
    exact hc
  have hpower : (d.railsRaised.islandsUp.newChallenge.setBoot .rom).power = d.railsRaised.islandsUp.power :=
    ((only_setBoot _).2 .power (by decide) (by simp)).trans (hchal.2 .power (by decide) (by simp))
  rw [railsIn_def, if_neg (by simp [hs, hone, hp]), stepTo_of_not_coldNext .rom hcold]
  refine ⟨?_, ?_, by rw [setBoot_boot], gf_setBoot_state _, fun n hn => ⟨?_, ?_⟩⟩
  · rw [hpower]
    exact hrails'.trans hrails
  · rw [hpower]
    exact hpin'.trans hpin
  · rw [gf_setBoot _ _ _ _ (by decide), hchal.gf (by simp) (by decide)]
    exact islandStep_islandUp.gf_foldl rfl (fun e n => (gf_islandUp (d := e) n).1) hn
  · rw [gf_setBoot _ _ _ _ (by decide), hchal.gf (by simp) (by decide)]
    exact islandStep_islandUp.gf_foldl rfl (fun e n => (gf_islandUp (d := e) n).2) hn

theorem completes_bootRomDone (us : Fin 4294967296) :
    Completes (.bootRomDone us) (fun d => d.boot.step = .rom ∧ d.boot.coldNext = false) fun d e =>
      e.boot = { d.boot with step := .firmware } ∧ e.gf F.BOOT_STAT.STATE = 2
        ∧ e.gf F.BOOT_STRAP.DELAY_US = (if d.boot.delayRan then us.val else d.gf F.BOOT_STRAP.DELAY_US)
        ∧ e.gf F.BOOT_FW_STAT.ACTIVE = (if d.eph.activeB then 1 else 0)
        ∧ Only [⟨.BOOT_STRAP, 0, 0, 0⟩, ⟨.BOOT_STAT, 0, 0, 0⟩, ⟨.BOOT_FW_STAT, 0, 0, 0⟩, ⟨.BOOT_FW_VER_s, 0, 0, 0⟩,
            ⟨.BOOT_FW_VER_s, 0, 1, 0⟩] [.boot, .eph] d e := by
  refine .of_upd (f := fun d => d.romDone us) (fun _ => rfl) fun d ⟨hs, hc⟩ => ?_
  have hdelay := only_delayShown (d := d) us
  rw [romDone_eq hs hc]
  refine ⟨?_, gf_setBoot_state _, ?_, ?_, ?_⟩
  · rw [setBoot_boot, only_mirrorFw.2 .boot (by decide) (by simp), hdelay.2 .boot (by decide) (by simp)]
  · rw [gf_setBoot _ _ _ _ (by decide), only_mirrorFw.gf (by decide) (by decide), gf_delayShown us.isLt]
  · rw [gf_setBoot _ _ _ _ (by decide), gf_mirrorFw_active, hdelay.2 .eph (by decide) (by simp)]
  · exact ((hdelay.mono (by simp) (by simp)).trans (only_mirrorFw.mono (by simp [fwRegs]) (by simp))).trans
      ((only_setBoot _).mono (by simp) (by simp))

theorem completes_railRegulationChange (rail : Nat) (ok : Bool) : Completes (.railRegulationChange rail ok) (fun _ => True) fun d e =>
      e.power.badRails = (d.power.badRails.filter fun r => decide (r ≠ rail)) ++ (if ok then [] else [rail])
        ∧ e.power.pgoodOut = (if !d.power.aux then .highZ
          else if d.power.railsUp && e.power.badRails.isEmpty then .released else .low) ∧ Only [] [.power] d e := by
  refine .of_upd (f := fun d => d.railChange rail ok) (fun _ => rfl) fun d _ => ⟨?_, rfl, (only_withPower _).power (by decide)⟩
  show (if ok then _ else _) = _
  cases ok with
  | true => exact (List.append_nil _).symm
  | false => rfl

theorem completes_converterFail : Completes .converterFail (fun d => d.power.stageOne = true ∧ d.power.failed < 3) fun d e =>
      e.power = { d.power with failed := d.power.failed + 1 } ∧ e.gf F.PWR_STAT.CONVERTERS = 4 - d.power.failed
        ∧ e.gf F.PWR_STAT.CAP_IN_FORCE_W =
            min (d.gf F.PWR_CTRL.CAP_W) (min (if d.power.failed = 0 then 4000 else 1000 * (4 - d.power.failed))
              (if d.power.low then 2000 else 4000))
        ∧ getBits (e.reg ⟨.INT_PEND_SET_k, 0, 3, 0⟩) 4 4 = 1
        ∧ Only [⟨.PWR_STAT, 0, 0, 0⟩, ⟨.INT_PEND_SET_k, 0, 3, 0⟩] (.power :: .eph :: logParts) d e := by
  refine .of_upd (f := fun d => d.converterFail) (fun _ => rfl) fun d ⟨hone, hf⟩ => ?_
  rw [converterFail_def, if_neg (by simp [hone]; omega), if_neg (by rw [lessOne_power]; dsimp only; omega)]
  refine ⟨by rw [refreshCap_power, failNoted_power], ?_, by rw [gf_refreshCap_cap, capNow_failNoted], ?_,
    only_failNoted.trans (only_refreshCap.mono (fun _ h => .inl h) (by simp))⟩
  · rw [gf_refreshCap _ _ _ (by decide) (by decide), gf_failNoted]
  · exact getBits_refreshCap_196 (getBits_raise 196)

theorem completes_converterFail_last : Completes .converterFail (fun d => d.power.stageOne = true
      ∧ (d.power.failed = 3 ∨ d.power.failed = 4) ∧ d.power.path = none) fun d e =>
      e.power.failed = d.power.failed + 1 ∧ e.power.path = some .clocks ∧ e.power.toOff = true ∧ e.gf F.PWR_STAT.LAST_OFF_CAUSE = 4 := by
  refine .of_upd (f := fun d => d.converterFail) (fun _ => rfl) fun d ⟨hone, hf, hp⟩ => ?_
  have hpath : d.failNoted.power.path = none := by rw [failNoted_power]; exact hp
  have hruns : d.failNoted.runs = true := runs_of_stageOne (by rw [failNoted_power]; exact hone)
  rw [converterFail_def, if_neg (by simp [hone]; omega), if_pos (by rw [lessOne_power]; dsimp only; omega), lossPath_of_runs hruns]
  refine ⟨?_, ?_, ?_, gf_beginLoss_cause (.inl hpath) (by decide)⟩
  · rw [beginLoss_power (.inl hpath), failNoted_power]
  · rw [beginLoss_power (.inl hpath), hpath]
    rfl
  · rw [beginLoss_power (.inl hpath)]

/-- Settles O28: the clauses of the steps, one by one. -/
theorem shutdownAndRestart : Obligations.ShutdownAndRestart :=
  ⟨completes_bootCold, completes_bootCold_waits, completes_bootWarm, completes_clocksStopped, completes_railsOff,
    completes_stageOneOff, completes_stageOneHoldExpiry, completes_quiesceDone, completes_railsUp, completes_bootRomDone,
    completes_railRegulationChange, completes_converterFail, completes_converterFail_last⟩

end Sys2Proof.Machine
end

/-! PROOFS. What the logical cores hold and the state of the boot sequence, through the return of a die to service: `CoresKept s d` says
that both are in `d` as in `s`. The reports, the packages' messages, HBM with its cache, the accesses that waited and the slots of the
collectives keep them; each function that a lifted occultation goes through has one lemma here, under the name of the function. -/

section
namespace Sys2Proof.Machine

open Sys2Proof

/-- The cores and the boot state are in `d` as they are in `s`. -/
structure CoresKept (s d : Dev) : Prop where
  cores : d.cores = s.cores
  boot : d.boot = s.boot

namespace CoresKept

variable {s d : Dev}

theorem refl (d : Dev) : CoresKept d d := ⟨rfl, rfl⟩

/-- An update of anything but the cores and the boot state. -/
theorem other (h : CoresKept s d) {regs chrono freeIx answer log engines swaps unspecCore unspecCluster unspecImem coreStore clusterStore
    imem injected inside held rates listed suspects reqs dseqs nextMsg collq colls power eph occulted hbm mem gas fab ports time dlk hlk
    int sec rootKeyId mgmt safe} :
    CoresKept s { cores := d.cores, boot := d.boot, regs, chrono, freeIx, answer, log, engines, swaps, unspecCore, unspecCluster
                  unspecImem, coreStore, clusterStore, imem, injected, inside, held, rates, listed, suspects, reqs, dseqs, nextMsg, collq
                  colls, power, eph, occulted, hbm, mem, gas, fab, ports, time, dlk, hlk, int, sec, rootKeyId, mgmt, safe } :=
  ⟨h.cores, h.boot⟩

/-! ### Branches, folds and pairs -/

theorem ite {c : Prop} [Decidable c] {a b : Dev} (ha : CoresKept s a) (hb : CoresKept s b) :
    CoresKept s (if c then a else b) := by
  split
  · exact ha
  · exact hb

theorem iteFst {α : Type} {c : Prop} [Decidable c] {a b : Dev × α} (ha : CoresKept s a.1) (hb : CoresKept s b.1) :
    CoresKept s (if c then a else b).1 := by
  split
  · exact ha
  · exact hb

theorem iteSnd {α : Type} {c : Prop} [Decidable c] {a b : α × Dev} (ha : CoresKept s a.2) (hb : CoresKept s b.2) :
    CoresKept s (if c then a else b).2 := by
  split
  · exact ha
  · exact hb

theorem iteSndSnd {α β : Type} {c : Prop} [Decidable c] {a b : α × β × Dev} (ha : CoresKept s a.2.2) (hb : CoresKept s b.2.2) :
    CoresKept s (if c then a else b).2.2 := by
  split
  · exact ha
  · exact hb

theorem foldl {α : Type} {f : Dev → α → Dev} {l : List α} (h : CoresKept s d)
    (hf : ∀ d x, CoresKept s d → CoresKept s (f d x)) : CoresKept s (l.foldl f d) := by
  induction l generalizing d with
  | nil => exact h
  | cons x l ih => exact ih (hf _ _ h)

theorem foldlFst {α β : Type} {f : Dev × β → α → Dev × β} {l : List α} {p : Dev × β} (h : CoresKept s p.1)
    (hf : ∀ p x, CoresKept s p.1 → CoresKept s (f p x).1) : CoresKept s (l.foldl f p).1 := by
  induction l generalizing p with
  | nil => exact h
  | cons x l ih => exact ih (hf _ _ h)

theorem foldlSnd {α β : Type} {f : β × Dev → α → β × Dev} {l : List α} {p : β × Dev} (h : CoresKept s p.2)
    (hf : ∀ p x, CoresKept s p.2 → CoresKept s (f p x).2) : CoresKept s (l.foldl f p).2 := by
  induction l generalizing p with
  | nil => exact h
  | cons x l ih => exact ih (hf _ _ h)

theorem snd {α : Type} {p : α × Dev} {e : Dev} {x : α} (hp : p = (x, e)) (h : CoresKept s p.2) : CoresKept s e := by
  subst hp; exact h

theorem sndSnd {α β : Type} {p : α × β × Dev} {e : Dev} {x : α} {y : β} (hp : p = (x, y, e)) (h : CoresKept s p.2.2) :
    CoresKept s e := by
  subst hp; exact h

/-! ### Registers -/

theorem setReg (h : CoresKept s d) {k : RegKey} {v : Word} : CoresKept s (d.setReg k v) := h.other

theorem sf (h : CoresKept s d) {f : Fld} {v u i j : Nat} : CoresKept s (d.sf f v u i j) := h.setReg

theorem incr (h : CoresKept s d) {f : Fld} {n u i j : Nat} : CoresKept s (d.incr f n u i j) := h.sf

theorem bump (h : CoresKept s d) {f sat : Fld} {n u i j : Nat} : CoresKept s (d.bump f sat n u i j) := by
  unfold Dev.bump
  exact .ite h.sf.sf h.sf

/-! ### Reports, scores and settings -/

theorem raise (h : CoresKept s d) {n : Nat} : CoresKept s (d.raise n) := h.setReg

theorem logIntake (h : CoresKept s d) {r : Report} : CoresKept s (d.logIntake r) := by
  unfold Dev.logIntake
  exact .ite h.other.bump h.other

theorem report (h : CoresKept s d) {r : Report} : CoresKept s (d.report r) := by
  unfold Dev.report
  extract_lets d₁ _ _ _
  have h₁ : CoresKept s d₁ := .ite h.sf h
  split
  · exact .ite h₁.logIntake h₁.other
  · exact .ite h₁.logIntake h₁.logIntake.other

theorem logAt (h : CoresKept s d) {code die unit d0 d1 : Nat} : CoresKept s (d.logAt code die unit d0 d1) := h.report

theorem logBoot (h : CoresKept s d) {code d0 d1 : Nat} : CoresKept s (d.logBoot code d0 d1) := h.sf.logAt

theorem score (h : CoresKept s d) {unit weight code : Nat} : CoresKept s (d.score unit weight code) := by
  unfold Dev.score
  extract_lets _ _ d₂ _
  have h₂ : CoresKept s d₂ := .ite h.sf h.sf.sf
  exact .ite h₂.sf.logAt.raise (.ite h₂.sf.logAt.raise h₂)

theorem storeSetting (h : CoresKept s d) {k : RegKey} : CoresKept s (d.storeSetting k) := by
  unfold Dev.storeSetting
  exact .ite h.bump.logBoot h.other

theorem keepSetting (h : CoresKept s d) {before : Dev} {k : RegKey} : CoresKept s (before.keepSetting d k) := by
  unfold Dev.keepSetting
  exact .ite h.storeSetting h

/-! ### Packets and messages -/

theorem send (h : CoresKept s d) {p : Packet} : CoresKept s (d.send p) := by
  unfold Dev.send
  exact .ite h.other (.ite h.other h.other)

theorem hold (h : CoresKept s d) {c : Nat} {x : Held} : CoresKept s (d.hold c x) := by
  unfold Dev.hold
  split
  · exact h.other
  · exact h

theorem takeTag (h : CoresKept s d) : CoresKept s (d.takeTag).2 := h.other

theorem stripe (h : CoresKept s d) {m : HlkMsg} : CoresKept s (d.stripe m) := by
  unfold Dev.stripe
  split
  · exact h
  · exact .foldl h fun _ _ h => h.other

theorem hlkOut (h : CoresKept s d) {m : HlkMsg} : CoresKept s (d.hlkOut m) := h.other.stripe.incr

theorem hlkPumpList (h : CoresKept s d) {blocked : List Nat} {l : List HlkMsg} : CoresKept s (d.hlkPumpList blocked l).1 := by
  induction l generalizing d blocked with
  | nil => exact h
  | cons m l ih =>
    unfold Dev.hlkPumpList
    exact .iteFst (ih h.hlkOut) (ih h)

theorem hlkPump (h : CoresKept s d) : CoresKept s (d.hlkPump) := h.hlkPumpList.other

theorem hlkSend (h : CoresKept s d) {m : HlkMsg} : CoresKept s (d.hlkSend m) := h.other.hlkPump

theorem respond (h : CoresKept s d) {m : HlkMsg} {op code : Nat} {payload : List Byte} :
    CoresKept s (d.respond m op code payload) := h.hlkSend

theorem refuseHlk (h : CoresKept s d) {m : HlkMsg} {code : Nat} : CoresKept s (d.refuseHlk m code) := h.bump.respond

theorem setPhys (h : CoresKept s d) {k l p : Nat} : CoresKept s (d.setPhys k l p) := h.setReg

theorem setCoreByte (h : CoresKept s d) {a : Nat} {b : Byte} : CoresKept s (d.setCoreByte a b) := h.other

theorem setClusterByte (h : CoresKept s d) {a : Nat} {b : Byte} : CoresKept s (d.setClusterByte a b) := h.other

theorem setSramByte (h : CoresKept s d) {o : Nat} {b : Byte} : CoresKept s (d.setSramByte o b) := by
  unfold Dev.setSramByte
  exact .ite h.setCoreByte h.setClusterByte

/-! ### HBM and its cache -/

theorem setPoison (h : CoresKept s d) {u : Nat} {b : Bool} : CoresKept s (d.setPoison u b) := h.other

theorem setHbmByte (h : CoresKept s d) {a : Nat} {b : Byte} : CoresKept s (d.setHbmByte a b) := h.other

theorem putHbm (h : CoresKept s d) {a : Nat} {bs : List Byte} : CoresKept s (d.putHbm a bs) := by
  induction bs generalizing d a with
  | nil => exact h
  | cons b bs ih => exact ih h.setHbmByte

theorem logHbm (h : CoresKept s d) {code u : Nat} : CoresKept s (d.logHbm code u) := h.logAt

theorem hbmCorrected (h : CoresKept s d) {u : Nat} : CoresKept s (d.hbmCorrected u) := h.bump.score

theorem hbmLost (h : CoresKept s d) {u code : Nat} : CoresKept s (d.hbmLost u code) := h.setPoison.bump.score.logHbm.raise

theorem mscCorrected (h : CoresKept s d) {u : Nat} : CoresKept s (d.mscCorrected u) := h.bump.score

theorem mscLost (h : CoresKept s d) {u : Nat} : CoresKept s (d.mscLost u) := by
  unfold Dev.mscLost
  extract_lets _ _ d₁ _ d₃
  have h₁ : CoresKept s d₁ := .bump (.ite h h.setPoison)
  have h₃ : CoresKept s d₃ := .ite h₁.score.logAt h₁.score.logHbm
  exact h₃.raise

theorem setLines (h : CoresKept s d) {l : List Line} : CoresKept s (d.setLines l) := h.other

theorem dropLineOf (h : CoresKept s d) {u : Nat} : CoresKept s (d.dropLineOf u) := h.setLines

theorem putLine (h : CoresKept s d) {l : Line} : CoresKept s (d.putLine l) := h.setLines

theorem askCompanion (h : CoresKept s d) {op : Nat} {r : HlkReq} {payload : List Byte} :
    CoresKept s (d.askCompanion op r payload) := h.takeTag.other.hlkSend

theorem writeBack (h : CoresKept s d) {l : Line} : CoresKept s (d.writeBack l) := by
  unfold Dev.writeBack
  exact .ite h.askCompanion h.setPoison

theorem evictLine (h : CoresKept s d) {l : Line} {errs : List MemErr} : CoresKept s (d.evictLine l errs) := by
  unfold Dev.evictLine
  extract_lets _
  split
  · split
    · exact h.dropLineOf.mscLost
    · exact h.dropLineOf.mscCorrected.writeBack
    · exact h.dropLineOf.writeBack
  · exact .ite h.dropLineOf.takeTag.hlkSend h.dropLineOf

theorem allocate (h : CoresKept s d) {l : Line} {ways : Option Nat} {errs : List MemErr} :
    CoresKept s (d.allocate l ways errs) := by
  unfold Dev.allocate
  extract_lets d₁
  have h₁ : CoresKept s d₁ := by
    unfold d₁
    split
    · exact h.evictLine
    · exact h
  exact h₁.putLine

theorem useLine (h : CoresKept s d) {l : Line} {hint : Nat} : CoresKept s (d.useLine l hint) := by
  unfold Dev.useLine
  exact .ite h.putLine (.ite h.putLine (.ite h.evictLine.incr h.putLine))

theorem fetchUnit (h : CoresKept s d) {u : Nat} {errs : List MemErr} : CoresKept s (d.fetchUnit u errs).2 := by
  unfold Dev.fetchUnit
  split
  · exact h.logHbm
  · split
    · exact h.hbmLost
    · exact h.hbmCorrected
    · exact h

theorem checkLine (h : CoresKept s d) {l : Line} {errs : List MemErr} : CoresKept s (d.checkLine l errs).2.2 := by
  unfold Dev.checkLine
  split
  · exact h
  · exact h.mscCorrected
  · exact .iteSndSnd h.dropLineOf.mscLost h.dropLineOf.bump

theorem readMiss (h : CoresKept s d) {u hint use : Nat} {errs : List MemErr} :
    CoresKept s (d.readMiss u hint use errs).2 := by
  unfold Dev.readMiss
  split
  next _ _ d₁ he =>
    have h₁ : CoresKept s d₁ := snd he h.fetchUnit
    split
    · exact h₁
    · extract_lets _
      split
      · exact h₁.incr.allocate
      · exact h₁.incr

theorem readUnit (h : CoresKept s d) {u hint use : Nat} {errs : List MemErr} :
    CoresKept s (d.readUnit u hint use errs).2 := by
  unfold Dev.readUnit
  split
  · exact h.readMiss
  · split
    next _ _ d₁ he₁ =>
      have h₁ : CoresKept s d₁ := sndSnd he₁ h.checkLine
      exact h₁.incr.useLine
    next _ d₁ he₁ =>
      have h₁ : CoresKept s d₁ := sndSnd he₁ h.checkLine
      exact h₁.readMiss
    next _ _ _ d₁ _ _ he₃ =>
      have h₁ : CoresKept s d₁ := sndSnd he₃ h.checkLine
      exact h₁

theorem writeUnit (h : CoresKept s d) {u : Nat} {whole : Bool} {hint use : Nat} {errs : List MemErr} :
    CoresKept s (d.writeUnit u whole hint use errs).2 := by
  unfold Dev.writeUnit
  extract_lets miss
  have hmiss : ∀ {d : Dev}, CoresKept s d → CoresKept s (miss d).2 := by
    intro d h
    unfold miss
    split
    next d₁ he =>
      have h₁ : CoresKept s d₁ := snd he (.iteSnd h h.fetchUnit)
      refine .iteSnd h₁ ?_
      split
      · exact h₁.allocate
      · exact h₁.setPoison
  clear_value miss
  split
  · exact hmiss h
  · refine .iteSnd h.putLine ?_
    split
    next he => exact (sndSnd he h.checkLine).putLine
    next he => exact hmiss (sndSnd he h.checkLine)
    next he => exact sndSnd he h.checkLine

theorem readHbm (h : CoresKept s d) {a n hint use : Nat} {errs : List MemErr} :
    CoresKept s (d.readHbm a n hint use errs).2 := by
  unfold Dev.readHbm
  exact .foldlSnd h fun _ _ h => h.readUnit

theorem writeHbm (h : CoresKept s d) {a : Nat} {bytes : List Byte} {hint use : Nat} {errs : List MemErr} :
    CoresKept s (d.writeHbm a bytes hint use errs).2 := by
  unfold Dev.writeHbm
  refine .foldlSnd h fun ⟨_, d⟩ u h => ?_
  exact .ite h.writeUnit.putHbm h.writeUnit

theorem setDir (h : CoresKept s d) {l : List DirLine} : CoresKept s (d.setDir l) := h.other

theorem recallLine (h : CoresKept s d) {u : Nat} {inv : Bool} : CoresKept s (d.recallLine u inv) := by
  unfold Dev.recallLine
  split
  · exact .ite h h.takeTag.setDir.hlkSend
  · exact h

theorem hbmWaits (h : CoresKept s d) {a n : Nat} {write : Bool} : CoresKept s (d.hbmWaits a n write).2 := by
  unfold Dev.hbmWaits
  exact .foldlSnd h fun _ _ h => .iteSnd h.recallLine h

theorem holdAccess (h : CoresKept s d) {w : Waiting} : CoresKept s (d.holdAccess w) := h.other

theorem hbmHeld (h : CoresKept s d) {o n : Nat} {write : Bool} : CoresKept s (d.hbmHeld o n write).2 := by
  unfold Dev.hbmHeld
  exact .iteSnd h h.hbmWaits

/-! ### The slots of the collectives -/

theorem setCollSlot (h : CoresKept s d) {n : Nat} {x : CollSlot} : CoresKept s (d.setCollSlot n x) := h.other

theorem logColl (h : CoresKept s d) {code n inst : Nat} {suspect : Option Nat} :
    CoresKept s (d.logColl code n inst suspect) := h.report

theorem groupTaken (h : CoresKept s d) {n : Nat} : CoresKept s (d.groupTaken n) := by
  unfold Dev.groupTaken
  exact .ite h.setReg.sf.sf h.sf.logColl

theorem cfgFields (h : CoresKept s d) {n : Nat} {v : Word} : CoresKept s (d.cfgFields n v) := h.setReg

theorem configured (h : CoresKept s d) {n : Nat} {v : Word} {members : List Nat} :
    CoresKept s (d.configured n v members) := h.cfgFields.setCollSlot

theorem groupUnread (h : CoresKept s d) {n : Nat} {v : Word} : CoresKept s (d.groupUnread n v) := h.configured.groupTaken

theorem readTable (h : CoresKept s d) {n : Nat} {v : Word} {errs : List MemErr} : CoresKept s (d.readTable n v errs) := by
  unfold Dev.readTable
  split
  · exact h.groupUnread
  · split
    next _ d₁ he₁ =>
      have h₁ : CoresKept s d₁ := snd he₁ h.hbmHeld
      exact h₁.holdAccess
    next _ d₁ he₁ =>
      have h₁ : CoresKept s d₁ := snd he₁ h.hbmHeld
      exact .ite h₁.readHbm.configured.groupTaken h₁.readHbm.groupUnread

theorem writeGroupCfg (h : CoresKept s d) {n : Nat} {v : Word} {errs : List MemErr} :
    CoresKept s (d.writeGroupCfg n v errs) := by
  unfold Dev.writeGroupCfg
  exact .ite h.logColl (.ite h.cfgFields (.ite h.readTable h.configured.groupTaken))

/-! ### Requests -/

theorem refuse (h : CoresKept s d) {p : Packet} {code : Nat} : CoresKept s (d.refuse p code) := h.send

theorem logTarget (h : CoresKept s d) {code addr region : Nat} : CoresKept s (d.logTarget code addr region) := h.logAt

theorem dropStale (h : CoresKept s d) {p : Packet} : CoresKept s (d.dropStale p) := h.bump.logTarget

theorem answerTo (h : CoresKept s d) {p : Packet} {type : Nat} {payload : List Byte} :
    CoresKept s (d.answerTo p type payload) := h.send

theorem served (h : CoresKept s d) {p : Packet} {bytes : List Byte} : CoresKept s (d.served p bytes) := by
  unfold Dev.served
  extract_lets _
  exact .ite h.incr.answerTo (.ite h.incr.answerTo (.ite h.incr.answerTo h.incr.answerTo))

theorem setReplies (h : CoresKept s d) {l : List Reply} : CoresKept s (d.setReplies l) := h.other.sf

theorem sweepReplies (h : CoresKept s d) : CoresKept s (d.sweepReplies) := h.setReplies

theorem enterReply (h : CoresKept s d) {p : Packet} {value refusal : Nat} :
    CoresKept s (d.enterReply p value refusal) := h.setReplies

theorem replyAnswer (h : CoresKept s d) {p : Packet} {r : Reply} : CoresKept s (d.replyAnswer p r) := by
  unfold Dev.replyAnswer
  exact .ite h.answerTo (.ite h.refuse h.answerTo)

theorem busyRefusal (h : CoresKept s d) {p : Packet} : CoresKept s (d.busyRefusal p) := h.bump.answerTo

theorem applyAtomic (h : CoresKept s d) {p : Packet} {errs : List MemErr} : CoresKept s (d.applyAtomic p errs) := by
  unfold Dev.applyAtomic
  split
  · exact h.replyAnswer
  · exact .ite h.busyRefusal (.ite h.readHbm.refuse (.ite h.readHbm.writeHbm.refuse h.readHbm.writeHbm.incr.enterReply.answerTo))

theorem setJobs (h : CoresKept s d) {l : List WinJob} : CoresKept s (d.setJobs l) := h.other

theorem windowLine (h : CoresKept s d) {u : Nat} {whole : Bool} {errs : List MemErr} :
    CoresKept s (d.windowLine u whole errs).2.2 := by
  unfold Dev.windowLine
  split
  · exact .iteSndSnd h h.checkLine
  · exact h

theorem windowUnit (h : CoresKept s d) {j : WinJob} {u : Nat} {errs : List MemErr} :
    CoresKept s (d.windowUnit j u errs).1 := by
  have e : @Dev.windowUnit = @Dev.windowUnit := rfl
  conv at e => rhs; delta Dev.windowUnit
  have hline := @CoresKept.windowLine s
  generalize @Dev.windowLine = windowLine at e hline
  generalize @Dev.windowClass = windowClass at e
  as_aux_lemma =>
    rw [e]
    beta_reduce
    extract_lets _ _ _ _ _ _ _
    split
    next d₁ he =>
      have h₁ : CoresKept s d₁ := sndSnd he (hline h)
      refine .iteFst h₁ (.iteFst ?_ ?_)
      · split
        · exact .iteFst h₁.askCompanion h₁.putLine
        · split
          · exact h₁.askCompanion
          · exact h₁.askCompanion
      · split
        · exact h₁.incr.useLine
        · dsimp only
          split
          · exact h₁.incr.askCompanion
          · exact h₁.incr.askCompanion

theorem finishJob (h : CoresKept s d) {j : WinJob} : CoresKept s (d.finishJob j) := by
  unfold Dev.finishJob
  exact .ite h.refuse h.served

theorem applyWindow (h : CoresKept s d) {p : Packet} {errs : List MemErr} : CoresKept s (d.applyWindow p errs) := by
  unfold Dev.applyWindow
  exact .ite (.finishJob (.foldlFst h fun _ _ h => h.windowUnit)) (.setJobs (.foldlFst h fun _ _ h => h.windowUnit))

theorem serveHbm (h : CoresKept s d) {p : Packet} {errs : List MemErr} : CoresKept s (d.serveHbm p errs) := by
  unfold Dev.serveHbm
  extract_lets _ _
  exact .ite h.applyAtomic (.ite (.ite h.writeHbm.served h.writeHbm.refuse) (.ite h.readHbm.served h.readHbm.refuse))

theorem serveSram (h : CoresKept s d) {p : Packet} : CoresKept s (d.serveSram p) := by
  unfold Dev.serveSram
  exact .ite (.served (.foldl h fun _ _ h => h.setSramByte)) h.served

theorem applyMem (h : CoresKept s d) {p : Packet} {errs : List MemErr} : CoresKept s (d.applyMem p errs) := by
  unfold Dev.applyMem
  extract_lets _ _
  split
  · exact h.dropStale
  · split
    · split
      next _ d₁ he₂ =>
        have h₁ : CoresKept s d₁ := snd he₂ h.hbmHeld
        exact h₁.holdAccess
      next _ d₁ he₂ =>
        have h₁ : CoresKept s d₁ := snd he₂ h.hbmHeld
        exact .ite h₁.holdAccess h₁.serveHbm
    · split
      · split
        · exact h.hold
        · exact h.serveSram
      · exact .ite h.refuse (.ite h.holdAccess h.applyWindow)

/-! ### The companion and the Eyepiece -/

theorem reqSram (h : CoresKept s d) {m : HlkMsg} : CoresKept s (d.reqSram m) := by
  unfold Dev.reqSram
  extract_lets _
  split
  · exact h.hold
  · exact .ite (.respond (.foldl h fun _ _ h => h.setSramByte)) h.respond

theorem grant (h : CoresKept s d) {u : Nat} {owned : Bool} : CoresKept s (d.grant u owned) := h.setDir

theorem dropDir (h : CoresKept s d) {u : Nat} : CoresKept s (d.dropDir u) := h.setDir

theorem reqCached (h : CoresKept s d) {m : HlkMsg} {errs : List MemErr} : CoresKept s (d.reqCached m errs) := by
  unfold Dev.reqCached
  extract_lets _ _
  split
  · split
    · exact h.recallLine.holdAccess
    · exact h
  · exact .ite h.readHbm.refuseHlk h.readHbm.grant.respond

theorem reqStore (h : CoresKept s d) {m : HlkMsg} {errs : List MemErr} : CoresKept s (d.reqStore m errs) := by
  unfold Dev.reqStore
  exact .ite h.writeHbm.respond h.writeHbm.refuseHlk

theorem returnIn (h : CoresKept s d) {m : HlkMsg} {errs : List MemErr} : CoresKept s (d.returnIn m errs) := by
  unfold Dev.returnIn
  extract_lets _ _ _ d₁
  have h₁ : CoresKept s d₁ := .ite h.dropDir h.setDir
  exact .ite h.other (.ite h.dropDir.reqStore (.ite h₁.writeHbm h₁))

theorem reqMem (h : CoresKept s d) {m : HlkMsg} {errs : List MemErr} : CoresKept s (d.reqMem m errs) := by
  unfold Dev.reqMem
  extract_lets _
  split
  · exact h.reqSram
  · split
    · exact .ite h.holdAccess h.dropDir
    · split
      · exact .ite h.holdAccess h.returnIn
      · split
        next _ d₁ he₃ =>
          have h₁ : CoresKept s d₁ := snd he₃ h.hbmHeld
          exact h₁.holdAccess
        next _ d₁ he₃ =>
          have h₁ : CoresKept s d₁ := snd he₃ h.hbmHeld
          exact .ite h₁.reqStore (.ite (.ite h₁.readHbm.respond h₁.readHbm.refuseHlk) h₁.reqCached)

theorem modMgmt (h : CoresKept s d) {f : MgmtSt → MgmtSt} : CoresKept s (d.modMgmt f) := h.other

theorem eyeDone (h : CoresKept s d) {code : Nat} {v : Word} : CoresKept s (d.eyeDone code v) := h.modMgmt

theorem eyeLoad (h : CoresKept s d) {o : Nat} {errs : List MemErr} : CoresKept s (d.eyeLoad o errs) := by
  unfold Dev.eyeLoad
  exact .ite h.readHbm.eyeDone h.eyeDone

theorem eyeStore (h : CoresKept s d) {o : Nat} {v : Word} {errs : List MemErr} : CoresKept s (d.eyeStore o v errs) := by
  unfold Dev.eyeStore
  extract_lets _
  split
  · split
    next _ _ d₁ he₁ =>
      have h₁ : CoresKept s d₁ := snd he₁ h.writeHbm
      exact h₁.eyeDone
  · exact .eyeDone (.foldl h fun _ _ h => h.setSramByte)

theorem eyeMem (h : CoresKept s d) {a : EyeAccess} {errs : List MemErr} : CoresKept s (d.eyeMem a errs) := by
  unfold Dev.eyeMem
  extract_lets _ write act
  have hact : ∀ {d : Dev}, CoresKept s d → CoresKept s (act d) := by
    intro d h
    unfold act
    split
    · exact h.eyeStore
    · exact h.eyeLoad
  clear_value write
  split
  · split
    next d₁ e₁ =>
      have h₁ : CoresKept s d₁ := snd e₁ h.hbmHeld
      exact h₁.holdAccess
    next d₁ e₁ => exact hact (snd e₁ h.hbmHeld)
  · split
    · exact h.hold
    · exact hact h

theorem rawLoad (h : CoresKept s d) {o n hint use : Nat} {errs : List MemErr} :
    CoresKept s (d.rawLoad o n hint use errs) := by
  unfold Dev.rawLoad
  split
  next _ d₁ he =>
    have h₁ : CoresKept s d₁ := snd he h.hbmHeld
    exact h₁.holdAccess
  next _ d₁ he =>
    have h₁ : CoresKept s d₁ := snd he h.hbmHeld
    exact h₁.readHbm.other

theorem rawStore (h : CoresKept s d) {o : Nat} {bs : List Byte} {hint use : Nat} {errs : List MemErr} :
    CoresKept s (d.rawStore o bs hint use errs) := by
  unfold Dev.rawStore
  split
  next _ d₁ he =>
    have h₁ : CoresKept s d₁ := snd he h.hbmHeld
    exact h₁.holdAccess
  next _ d₁ he =>
    have h₁ : CoresKept s d₁ := snd he h.hbmHeld
    exact h₁.writeHbm.other

theorem retry (h : CoresKept s d) {errs : List MemErr} {x : Waiting} : CoresKept s (d.retry errs x) := by
  unfold Dev.retry
  split
  · split
    · exact h.replyAnswer
    · exact h.applyMem
  · exact h.reqMem
  · exact h.eyeMem
  · exact h.rawLoad
  · exact h.rawStore
  · exact h.writeGroupCfg.keepSetting

theorem retryHeld (h : CoresKept s d) {errs : List MemErr} : CoresKept s (d.retryHeld errs) := by
  unfold Dev.retryHeld
  extract_lets _ d₁ _
  have h₁ : CoresKept s d₁ := .foldl h.other fun _ _ h => h.returnIn
  exact .foldl h₁.other fun _ _ h => h.retry

/-! ### A lifted occultation -/

theorem noticeCopy (h : CoresKept s d) {root kind dev count epoch : Nat} :
    CoresKept s (d.noticeCopy root kind dev count epoch) := by
  unfold Dev.noticeCopy
  exact .foldl h fun _ _ h => h.send

theorem broadcast (h : CoresKept s d) {kind dev : Nat} : CoresKept s (d.broadcast kind dev) := by
  unfold Dev.broadcast
  exact .ite h h.other.noticeCopy

theorem coreBack (h : CoresKept s d) {c : Nat} : CoresKept s (d.coreBack c) := by
  unfold Dev.coreBack
  exact .ite h h.setPhys

theorem occRecord (h : CoresKept s d) {code die unit cause : Nat} :
    CoresKept s (d.occRecord code die unit cause) := h.logAt.raise

theorem purgeReplies (h : CoresKept s d) : CoresKept s (d.purgeReplies) := by
  unfold Dev.purgeReplies
  exact .ite h h.setReplies.sf.logTarget

theorem deviceBack (h : CoresKept s d) : CoresKept s (d.deviceBack) := by
  unfold Dev.deviceBack
  exact .ite h h.other.sf.sweepReplies.purgeReplies.broadcast.retryHeld

theorem lift (h : CoresKept s d) {u : OccUnit} : CoresKept s (d.lift u) := by
  unfold Dev.lift
  split
  · exact h
  · extract_lets _ _ d₂
    have h₂ : CoresKept s d₂ := by
      unfold d₂
      split
      · exact h.other.coreBack
      · exact .foldl h.other fun _ _ h => h.coreBack
      · extract_lets _
        exact .ite (.foldl h.other.sf fun _ _ h => h.coreBack) (.ite h.other.sf.sf h.other.sf)
      · exact h.other
    exact h₂.occRecord.deviceBack

end CoresKept

end Sys2Proof.Machine
end

/-! PROOFS. O60: the input and the power path, under the weaker conditions of this obligation. -/

section
namespace Sys2Proof.Machine

open Sys2Proof

namespace Dev

variable {d : Dev}

/-- A rise is acted on, or the device stays as it is. -/
theorem tryRise_cases : d.tryRise = d ∨ d.tryRise = d.pgoodStart :=
  (ite_eq_or_eq _ d.pgoodStart d).symm

theorem pgoodStart_pins : d.pgoodStart.power.closed = d.power.closed ∧ d.pgoodStart.power.aux = d.power.aux := by
  rw [started_pgoodStart.power]
  exact ⟨rfl, rfl⟩

theorem tryRise_pins : d.tryRise.power.closed = d.power.closed ∧ d.tryRise.power.aux = d.power.aux := by
  rcases tryRise_cases (d := d) with h | h <;> rw [h]
  · exact ⟨rfl, rfl⟩
  · exact pgoodStart_pins

theorem pgoodRise_aux (strap vin : Nat) : (d.pgoodRise strap vin).power.aux = d.power.aux := by
  by_cases hvin : vin < 4800 ∨ 6400 < vin
  · rw [pgoodRise_out_of_range hvin, sf_power]
  · rw [pgoodRise_in_range (by omega) (by omega), tryRise_pins.2, waitRise_power, sf_power]

theorem auxReturn_aux {st vin : Nat} (hc : d.power.closed = true) (ha : d.power.aux = false) :
    (d.auxReturn st vin).power.aux = true := by
  rw [auxReturn_of_closed hc ha]
  split
  · rw [pgoodRise_aux, auxOn_power]
  · rw [auxOn_power]

theorem beginLoss_cases (cause : Nat) :
    (d.beginLoss cause).power = d.power
      ∨ (d.beginLoss cause).power = { d.power with path := some (d.power.path.getD .clocks), toOff := true } := by
  by_cases h : d.power.path = none ∨ d.power.toOff = false
  · exact .inr (beginLoss_power h)
  · refine .inl ?_
    rw [not_or, Bool.not_eq_false] at h
    rw [beginLoss_eq, if_pos]
    simp [h.2, Option.isSome_iff_ne_none, h.1]

theorem mateBreak_power : d.mateBreak.power.mated = false ∧ d.mateBreak.power.closed = false := by
  unfold mateBreak
  split
  · rcases beginLoss_cases (d := d.unmated) 1 with h | h <;> rw [h, unmated_power] <;> exact ⟨rfl, rfl⟩
  · rw [unmated_power]
    exact ⟨rfl, rfl⟩

theorem lossPath_failed (cause : Nat) : (d.lossPath cause false).power.failed = d.power.failed := by
  cases hr : d.runs with
  | true => rw [lossPath_of_runs hr]; rcases beginLoss_cases (d := d) cause with h | h <;> rw [h]
  | false =>
    unfold lossPath
    simp only [Bool.false_eq_true, if_false, hr]

end Dev

open Dev

theorem closes_inputSwitch : Completes .inputSwitchClose (fun d => d.power.mated = true) fun _ e => e.power.closed = true :=
  .of_switchClose fun d hm => ⟨hm, by rw [tryRise_pins.1, switchClosed_power]⟩

theorem serves_auxPath (st : Fin 8) (vin : Fin 65536) : Completes (.auxPathInService st vin)
    (fun d => d.power.closed = true ∧ d.power.aux = false) fun _ e => e.power.aux = true :=
  .of_upd (f := fun d => d.auxReturn st vin) (fun _ => rfl) fun _ ⟨hc, ha⟩ => auxReturn_aux hc ha

theorem opens_prsntNBreak : Completes .prsntNBreak (fun _ => True) fun _ e => e.power.mated = false ∧ e.power.closed = false :=
  .of_upd (f := fun d => d.mateBreak) (fun _ => rfl) fun _ _ => mateBreak_power

theorem notes_rail (rail : Nat) (ok : Bool) :
    Completes (.railRegulationChange rail ok) (fun _ => True) fun _ e => e.power.badRails.contains rail = !ok := by
  refine (completes_railRegulationChange rail ok).mono (fun _ h => h) fun d e ⟨hbad, _⟩ => ?_
  rw [hbad]
  cases ok <;> simp

theorem counts_converter : Completes .converterFail (fun d => d.power.stageOne = true ∧ d.power.failed < 5) fun d e =>
    e.power.failed = d.power.failed + 1 := by
  refine .of_upd (f := fun d => d.converterFail) (fun _ => rfl) fun d ⟨hone, hf⟩ => ?_
  rw [converterFail_def, if_neg (by simp [hone]; omega)]
  split
  · rw [lossPath_failed, failNoted_power]
  · rw [refreshCap_power, failNoted_power]

end Sys2Proof.Machine
end

/-! PROOFS. O60: a die's reset, and the watchdog. -/

section
namespace Sys2Proof.Machine

open Sys2Proof

/-- A command's word with an action bit set has that bit, and the other fields as `settings` has them. -/
theorem getBits_pressed {d : Dev} {k : RegKey} {hi lo x : Nat} (hw : lo ≤ hi ∧ hi < 64) {f : Field} (hf : f ∈ k.name.fields)
    (hd : f.hi < lo ∨ hi < f.lo) : getBits (setBits (d.settings k) hi lo x) f.hi f.lo =
      if f.access = .rw then getBits (d.reg k) f.hi f.lo else 0 := by
  rw [getBits_setBits_of_disjoint _ _ _ _ _ _ hw.1 hw.2 hd, Dev.getBits_settings hf]

namespace Dev

variable {d : Dev}

/-! ### The reset of a die -/

/-- REQ of BOOT_DIE_RESET: the die resets. -/
theorem dieResetReq_resetting {k : Nat} (hs : d.boot.step = .ready) (hk : k < 19) (hne : k ≠ 12) (hr : d.boot.resetting = none) :
    (d.dieResetReq k).boot.resetting = some k := by
  have hr' : (d.sf F.BOOT_DIE_RESET.DIE k).boot.resetting = none := by rw [sf_boot, hr]
  unfold dieResetReq
  rw [if_neg (by simp [hs]), dif_pos ⟨hk, hne, hr'⟩, sf_boot]

theorem writeDieReset_req {k : Nat} (hk : k < 32) : d.writeDieReset (setBits (setBits 0 8 8 1) 4 0 k) = d.dieResetReq k := by
  have hreq : getBits (setBits (setBits 0 8 8 1) 4 0 k) 8 8 = 1 := by
    rw [getBits_setBits_of_disjoint _ _ _ _ _ _ (by decide) (by decide) (by decide),
      getBits_setBits_self _ _ _ _ (by decide) (by decide)]
    rfl
  have hdie : getBits (setBits (setBits 0 8 8 1) 4 0 k) 4 0 = k := by
    rw [getBits_setBits_self _ _ _ _ (by decide) (by decide)]
    exact Nat.mod_eq_of_lt hk
  rw [writeDieReset, if_pos hreq, hdie]

/-- A C-die that loses what its cores hold. -/
def dieDropped (d : Dev) (k : Nat) : Dev :=
  (({ d with boot := { d.boot with resetting := none } }.dropDie k).incr F.GAS_EPOCH.EPOCH 1).loseFields .warm true (ofDie k)

/-- A C-die whose reset has ended returns to service, and its First Light has passed. -/
def dieReturned (d : Dev) (k : Fin 20) (ms : Nat) : Dev :=
  ((d.lift (.die k)).lightResult true ms [] (Config.formCode 1).toNat).sf F.BOOT_DIE_RESET.STATE 2

theorem dieDropped_core (k : Nat) {c : Nat} (hc : c / 16 = k) : (d.dieDropped k).core c = {} := by
  refine get_of_forall (P := fun x : Core => x = {}) ({} : Core) c rfl fun e he hec => absurd ?_ (of_decide_eq_true (List.mem_filter.mp he).2)
  rw [hec, hc]

theorem dieDropped_boot (k : Nat) : (d.dieDropped k).boot = { d.boot with resetting := none } := rfl

theorem coresKept_lightResult (ms : Nat) (form : Nat) : CoresKept d (d.lightResult true ms [] form) :=
  (CoresKept.refl d).sf.sf.sf.sf.logAt

theorem coresKept_dieReturned (k : Fin 20) (ms : Nat) : CoresKept d (d.dieReturned k ms) := by
  have hlift : CoresKept d (d.lift (.die k)) := (CoresKept.refl d).lift
  exact CoresKept.sf ⟨(coresKept_lightResult ms _).cores.trans hlift.cores, (coresKept_lightResult ms _).boot.trans hlift.boot⟩

theorem lightFails_nil : d.lightFails [] = (false, d) := rfl

/-- The reset of a C-die ends with its First Light passed. -/
theorem dieResetDone_eq {ms k : Nat} {ts : List Nat} {errs : List MemErr} (hr : d.boot.resetting = some k) (hk : k < 8)
    (ha : d.boot.almanac = none) (hl : ∀ n, n < 31 → k ∈ linkDies n → d.linkState n ≠ 1 ∧ d.linkState n ≠ 2) :
    d.dieResetDone ms [] ts errs = (d.dieDropped k).dieReturned ⟨k, by omega⟩ ms := by
  have hlinks : ((List.range 31).any fun n => (linkDies n).contains k && [1, 2].contains (d.linkState n)) = false := by
    refine List.any_eq_false.mpr fun n hn => ?_
    by_cases hm : k ∈ linkDies n
    · obtain ⟨h1, h2⟩ := hl n (List.mem_range.mp hn) hm
      simp [h1, h2]
    · simp [hm]
  have halm : ∀ sel, (d.dieDropped k).applyAlmanac sel = d.dieDropped k := fun sel => by
    unfold applyAlmanac
    rw [dieDropped_boot]
    simp only [ha]
  have h8 : ¬ (8 ≤ k ∧ k < 12) := by omega
  have h13 : ¬ 13 ≤ k := by omega
  have h20 : k < 20 := by omega
  unfold dieResetDone
  rw [hr]
  dsimp only
  rw [hlinks, if_neg Bool.false_ne_true, if_pos hk, if_neg h8, if_neg h13, dif_pos h20]
  rw [lightFails_nil, if_neg Bool.false_ne_true]
  exact congrArg (fun x : Dev => x.dieReturned ⟨k, h20⟩ ms) (halm (ofDie k))

/-! ### The watchdog -/

/-- The period of the watchdog that a write of `p` stores. -/
def periodOf (p : Nat) : Nat := max 100 (min 60000 p)

/-- The watchdog's period stored; a change of it restarts the period. -/
def periodSet (d : Dev) (p : Nat) : Dev :=
  if periodOf p = d.gf F.BOOT_WATCHDOG.PERIOD_MS then d else (d.sf F.BOOT_WATCHDOG.PERIOD_MS (periodOf p)).kickDog

theorem writeWatchdog_eq (v : Word) : d.writeWatchdog v =
    if getBits v 0 0 = 1 then (d.periodSet (getBits v 31 16)).kickDog else d.periodSet (getBits v 31 16) := rfl

theorem kickDog_chrono : d.kickDog.chrono = d.chrono := rfl

theorem kickDog_kickAt : d.kickDog.boot.kickAt = d.chrono := rfl

theorem periodSet_chrono (p : Nat) : (d.periodSet p).chrono = d.chrono := by
  unfold periodSet
  split
  · rfl
  · rw [kickDog_chrono, sf_chrono]

theorem gf_kickDog (f : Fld) (u i j : Nat) : d.kickDog.gf f u i j = d.gf f u i j := rfl

theorem gf_periodSet (p : Nat) : (d.periodSet p).gf F.BOOT_WATCHDOG.PERIOD_MS = periodOf p := by
  have hlt : periodOf p < 2 ^ 16 := by unfold periodOf; omega
  unfold periodSet
  split
  · next h => exact h.symm
  · rw [gf_kickDog, gf_sf_self _ _ _ _ _ _ (by decide) (by decide)]
    exact Nat.mod_eq_of_lt hlt

/-- A period that has passed without a KICK is a loss that had not been planned. -/
def dogBarked (d : Dev) : Dev := { d with safe := { d.safe with unplanned := true } }.logBoot Code.BOOT_WATCHDOG 0x100000058 0

theorem dogBarked_boot : d.dogBarked.boot = d.boot := by
  unfold dogBarked logBoot
  rw [logAt_boot, sf_boot]

theorem warmStart_boot (h : d.boot.warmRecord = true) :
    d.warmStart.boot = { d.boot with kind := .warm, handover := none, step := .quiesce } := by
  have heq : d.warmStart = ((d.warmBegun.setBoot .quiesce).sf F.BOOT_STAT.READY 0).sf F.BOOT_STAT.KIND 1 := by
    unfold warmStart
    rw [if_neg (by simp [h])]
    rfl
  rw [heq, sf_boot, sf_boot, setBoot_boot, warmBegun]

theorem watchdog_eq (hstart : d.started = true) (hs : d.boot.step = .ready) (hh : d.boot.handover = none)
    (hm : (d.sec.mcores.any fun m => m.2.halted) = false)
    (ht : d.boot.kickAt + 1000000 * d.gf F.BOOT_WATCHDOG.PERIOD_MS ≤ d.chrono) : d.watchdog = d.dogBarked.warmStart := by
  unfold watchdog
  rw [if_neg (by simp [hstart, hs, hh, hm, Nat.not_lt.mpr ht])]
  rfl

end Dev

open Dev

theorem resets_die (k : Fin 32) : Completes (.dieResetReq k) (fun d => d.accepts ⟨.BOOT_DIE_RESET, 0, 0, 0⟩ = true
      ∧ d.boot.step = .ready ∧ k.val < 19 ∧ k.val ≠ 12 ∧ d.boot.resetting = none
      ∧ ∀ x ∈ d.safe.occs, ∀ y, x.unit = .die y → y.val ≠ k.val) fun _ e => e.boot.resetting = some k.val := by
  refine .of_upd (f := fun d => d.command ⟨.BOOT_DIE_RESET, 0, 0, 0⟩ (setBits (setBits 0 8 8 1) 4 0 k)) (fun _ => rfl)
    fun d ⟨hacc, hs, hk, hne, hr, _⟩ => ?_
  have hwrite : d.regWrite ⟨.BOOT_DIE_RESET, 0, 0, 0⟩ 4 d.self (setBits (setBits 0 8 8 1) 4 0 k) = d.dieResetReq k :=
    writeDieReset_req k.isLt
  rw [(only_command hacc).2 .boot (by decide) (by simp), hwrite]
  exact dieResetReq_resetting hs hk hne hr

theorem ends_dieReset (ms : Nat) (ts : List Nat) (errs : List MemErr) (k : Nat) : Completes (.dieResetDone ms [] ts errs)
    (fun d => d.boot.resetting = some k ∧ k < 8 ∧ d.boot.almanac = none
      ∧ ∀ n, n < 31 → k ∈ linkDies n → d.linkState n ≠ 1 ∧ d.linkState n ≠ 2) fun _ e =>
      e.boot.resetting = none ∧ ∀ c, c / 16 = k → e.core c = {} := by
  refine .of_upd (f := fun d => d.dieResetDone ms [] ts errs) (fun _ => rfl) fun d ⟨hr, hk, ha, hl⟩ => ?_
  have hkept := coresKept_dieReturned (d := d.dieDropped k) ⟨k, by omega⟩ ms
  rw [dieResetDone_eq hr hk ha hl]
  refine ⟨by rw [hkept.boot, dieDropped_boot], fun c hc => ?_⟩
  exact (congrArg (fun x => NMap.get ({} : Core) x c) hkept.cores).trans (dieDropped_core k hc)

theorem kicks_watchdog : Completes .watchdogKick (fun d => d.accepts ⟨.BOOT_WATCHDOG, 0, 0, 0⟩ = true) fun d e =>
    e.boot.kickAt = d.chrono := by
  refine .of_upd (f := fun d => d.press ⟨.BOOT_WATCHDOG, 0, 0, 0⟩ F.BOOT_WATCHDOG.KICK) (fun _ => rfl) fun d hacc => ?_
  have hkick : getBits (setBits (d.settings ⟨.BOOT_WATCHDOG, 0, 0, 0⟩) 0 0 1) 0 0 = 1 :=
    getBits_setBits_self _ _ _ _ (by decide) (by decide)
  have hwrite := (writeWatchdog_eq (d := d) (setBits (d.settings ⟨.BOOT_WATCHDOG, 0, 0, 0⟩) 0 0 1)).trans (if_pos hkick)
  rw [press, (only_command hacc).2 .boot (by decide) (by simp)]
  refine (congrArg (fun x : Dev => x.boot.kickAt) hwrite).trans ?_
  rw [kickDog_kickAt, periodSet_chrono]

theorem sets_watchdogPeriod (p : Fin 65536) : Completes (.watchdogPeriodWrite p)
    (fun d => d.accepts ⟨.BOOT_WATCHDOG, 0, 0, 0⟩ = true) fun _ e =>
      e.gf F.BOOT_WATCHDOG.PERIOD_MS = max 100 (min 60000 p.val) := by
  refine .of_upd (f := fun d => d.setting ⟨.BOOT_WATCHDOG, 0, 0, 0⟩ F.BOOT_WATCHDOG.PERIOD_MS p) (fun _ => rfl) fun d hacc => ?_
  have hkick : getBits (setBits (d.settings ⟨.BOOT_WATCHDOG, 0, 0, 0⟩) 31 16 p) 0 0 = 0 :=
    getBits_pressed (by decide) (f := ⟨0, 0, .w1s, 0, .none⟩) (by decide) (by decide)
  have hperiod : getBits (setBits (d.settings ⟨.BOOT_WATCHDOG, 0, 0, 0⟩) 31 16 p) 31 16 = p :=
    (getBits_setBits_self _ _ _ _ (by decide) (by decide)).trans (Nat.mod_eq_of_lt p.isLt)
  have hwrite := (writeWatchdog_eq (d := d) (setBits (d.settings ⟨.BOOT_WATCHDOG, 0, 0, 0⟩) 31 16 p)).trans (if_neg (by omega))
  rw [hperiod] at hwrite
  rw [setting, (only_command hacc).gf (by simp) (by decide)]
  exact (congrArg (fun x : Dev => x.gf F.BOOT_WATCHDOG.PERIOD_MS) hwrite).trans (gf_periodSet _)

theorem barks_watchdog : Completes .bootWatchdog (fun d => d.started = true ∧ d.boot.step = .ready ∧ d.boot.handover = none
      ∧ (d.sec.mcores.any fun m => m.2.halted) = false ∧ d.boot.kickAt + 1000000 * d.gf F.BOOT_WATCHDOG.PERIOD_MS ≤ d.chrono
      ∧ d.boot.warmRecord = true) fun _ e => e.boot.step = .quiesce ∧ e.boot.kind = .warm := by
  refine .of_upd (f := fun d => d.watchdog) (fun _ => rfl) fun d ⟨hstart, hs, hh, hm, ht, hw⟩ => ?_
  rw [watchdog_eq hstart hs hh hm ht, warmStart_boot (by rw [dogBarked_boot, hw])]
  exact ⟨rfl, rfl⟩

end Sys2Proof.Machine
end

/-! PROOFS. O60, the firmware slots, the live handover and the journal: `FlashKept` of a register command, and what each step leaves
in the slots, in the handover's state and among the pending records. -/

section
namespace Sys2Proof.Machine

open Sys2Proof

namespace FlashKept

variable {d e : Dev}

theorem bump (h : FlashKept d e) {f sat : Fld} {n u i j : Nat} (hw : f.lo ≤ f.hi ∧ f.hi < 64) (hws : sat.lo ≤ sat.hi ∧ sat.hi < 64)
    (hf : ∀ g ∈ shownFields, g.reg ≠ f.reg ∨ g.hi < f.lo ∨ f.hi < g.lo)
    (hs : ∀ g ∈ shownFields, g.reg ≠ sat.reg ∨ g.hi < sat.lo ∨ sat.hi < g.lo) : FlashKept d (e.bump f sat n u i j) := by
  unfold Dev.bump
  extract_lets m x
  split
  · exact (h.sf hw hf).sf hws hs
  · exact h.sf hw hf

/-- A setting kept in the Ephemeris. -/
theorem keepSetting (h : FlashKept d e) {before : Dev} {k : RegKey} : FlashKept d (before.keepSetting e k) := by
  unfold Dev.keepSetting Dev.storeSetting
  refine .ite (.ite ?_ ⟨h.boot, h.sec, h.power, h.rootKeyId, h.flash, h.fields⟩) h
  exact (h.bump (by decide) (by decide) (by decide) (by decide)).logBoot

theorem activeB (h : FlashKept d e) : e.eph.activeB = d.eph.activeB := EphSt.eq_of_flash EphSt.activeB (fun _ => rfl) h.flash

theorem active1 (h : FlashKept d e) : e.eph.active1 = d.eph.active1 := EphSt.eq_of_flash EphSt.active1 (fun _ => rfl) h.flash

theorem slotState (h : FlashKept d e) (b : Bool) : e.slotState b = d.slotState b := Dev.slotState_congr h.flash b

end FlashKept

namespace Dev

variable {d e : Dev}

/-! ### Commands of the firmware -/

theorem flashKept_command {k : RegKey} {v : Word} (h : d.accepts k = true) :
    FlashKept (d.regWrite k 4 d.self v) (d.command k v) := by
  rw [command_of_accepts h]
  have hkeep : FlashKept _ (d.keepSetting (d.regWrite k 4 d.self v) k.home) := (FlashKept.refl (d.regWrite k 4 d.self v)).keepSetting
  exact ⟨hkeep.boot, hkeep.sec, hkeep.power, hkeep.rootKeyId, hkeep.flash, hkeep.fields⟩

/-- A command of BOOT_FW_CTRL that is accepted does what it names. -/
theorem flashKept_commandBy {v : Word} {act : Dev → Dev} (h : d.accepts ⟨.BOOT_FW_CTRL, 0, 0, 0⟩ = true) :
    FlashKept (act d) (d.commandBy ⟨.BOOT_FW_CTRL, 0, 0, 0⟩ v act) := by
  obtain ⟨hstep, hm, hserved, hrun, -⟩ := accepts_iff.mp h
  have hserved' : d.regServed ⟨.BOOT_FW_CTRL, 0, 0, 0⟩ = true := hserved
  have hr : (d.started && !RegName.BOOT_FW_CTRL.info.runtime) = false := by rcases hrun with h | h <;> simp [h]
  have hkeep : FlashKept (act d) (d.keepSetting (act d) ⟨.BOOT_FW_CTRL, 0, 0, 0⟩) := (FlashKept.refl (act d)).keepSetting
  have heq : d.commandBy ⟨.BOOT_FW_CTRL, 0, 0, 0⟩ v act
      = { d.keepSetting (act d) ⟨.BOOT_FW_CTRL, 0, 0, 0⟩ with answer := { code := 0 } } := by
    unfold commandBy
    rw [regRefusal_none hstep hm]
    dsimp -zeta only
    rw [if_neg (by simp [hserved']), if_neg (by simp [hr])]
  rw [heq]
  exact ⟨hkeep.boot, hkeep.sec, hkeep.power, hkeep.rootKeyId, hkeep.flash, hkeep.fields⟩

/-! ### The slots -/

/-- A slot becomes ACTIVE. -/
def activate (d : Dev) (b : Bool) : Dev := { d with eph := { d.eph with activeB := b } }

theorem setImage_imageFault (b : Bool) (x y : Option FwImage) : (d.setImage b x).imageFault y = d.imageFault y := by
  cases b <;> rfl

theorem fwTrial_verified {x : FwImage} (hopen : d.power.flashOpen = true) (h : d.imageFault (some x) = none) :
    d.fwTrial (some x) = ((d.setImage (!d.runningB) (some x)).activate (!d.runningB)).setSlot (!d.runningB) 1 3 := by
  unfold fwTrial
  extract_lets b d'
  rw [if_neg (by simp [hopen]), show d'.imageFault (some x) = none from (setImage_imageFault _ _ _).trans h]
  rfl

theorem activeB_setSlot (b : Bool) (st tries : Nat) : (d.setSlot b st tries).eph.activeB = d.eph.activeB :=
  (flashKept_setSlot b st tries).activeB.trans (activeB_putSlot b st tries)

theorem slotState_setSlot (b : Bool) (st tries : Nat) : (d.setSlot b st tries).slotState b = (st, tries) :=
  ((flashKept_setSlot b st tries).slotState b).trans (slotState_putSlot b st tries)

/-- A floor record appended to the flash, or held while its window is closed. -/
def floorKept (d : Dev) (f : FloorRec) : Dev :=
  if d.power.flashOpen then d.appendFloor f else { d with eph := { d.eph with heldFloors := d.eph.heldFloors ++ [f] } }

theorem slotState_floorKept (f : FloorRec) (b : Bool) : (d.floorKept f).slotState b = d.slotState b := by
  unfold floorKept
  split <;> cases b <;> rfl

/-- The floor that the image that runs embeds, where it raises one. -/
def floorRaised (d : Dev) : Dev :=
  match (d.boot.image.bind fun x => x.embedded) with
  | some f =>
    if d.floorOk f && serialHere f.serial
        && decide (d.floorAmong (d.eph.records.log0 ++ d.eph.records.log1 ++ d.eph.heldFloors) f.kind < f.floor)
    then (d.floorKept f).logSec Code.SEC_FLOOR_RAISED 0x40000 f.floor else d
  | none => d

theorem slotState_floorRaised (b : Bool) : d.floorRaised.slotState b = d.slotState b := by
  unfold floorRaised
  split
  · next f _ =>
    split
    · exact ((FlashKept.refl (d.floorKept f)).logSec.slotState b).trans (slotState_floorKept f b)
    · rfl
  · rfl

theorem fwCommit_eq {tries : Nat} (h : d.slotState d.runningB = (1, tries)) :
    d.fwCommit = (d.setSlot d.runningB 2 tries).floorRaised := by
  unfold fwCommit
  extract_lets b
  rw [show d.slotState b = (1, tries) from h]
  rfl

/-- COMMIT leaves the slot that runs GOOD. -/
theorem fwCommit_state (h : (d.slotState d.runningB).1 = 1) : (d.fwCommit.slotState d.runningB).1 = 2 := by
  rw [fwCommit_eq (tries := (d.slotState d.runningB).2) (Prod.ext h rfl), slotState_floorRaised, slotState_setSlot]

/-! ### The live handover -/

theorem fwHandover_boot {x : Option FwImage} (hstart : d.started = true) (hs : d.boot.step = .ready)
    (ha : d.eph.activeB ≠ d.runningB) (ht : (d.slotState d.eph.activeB).1 = 1) (hh : d.boot.handover = none) :
    (d.fwHandover x).boot = { d.boot with handover := some .verify, staged := x } := by
  unfold fwHandover
  extract_lets b
  rw [if_neg (by simp [hstart, hs, hh, b, ha, ht])]

theorem handoverVerified_boot {x r : FwImage} (hh : d.boot.handover = some .verify) (hstaged : d.boot.staged = some x)
    (himage : d.boot.image = some r) (hf : d.imageFault (some x) = none) (hfmt : x.hoMin ≤ r.hoFormat ∧ r.hoFormat ≤ x.hoMax) :
    d.handoverVerified.boot = { d.boot with handover := some .park } := by
  unfold handoverVerified
  extract_lets stop
  rw [if_neg (by simp [hh]), hstaged, hf, himage]
  dsimp only
  rw [if_pos hfmt, sf_boot]

theorem handoverLoaded_boot (hh : d.boot.handover = some .load) : d.handoverLoaded.boot.handover = some .resume := by
  unfold handoverLoaded
  rw [if_neg (by simp [hh])]

theorem handoverEnd_boot : d.handoverEnd.boot = { d.boot with handover := none, staged := none, kickAt := d.chrono } := sf_boot ..

theorem flashKept_handoverEnd : d.handoverEnd.eph.flash = d.eph.flash := flash_setReg ..

theorem fwResumed_boot (hh : d.boot.handover = some .resume) :
    d.fwResumed.boot.handover = none ∧ d.fwResumed.boot.image = d.boot.staged := by
  unfold fwResumed
  rw [if_neg (by simp [hh])]
  extract_lets _ d₁ d₂
  have hlog : FlashKept d₂.handoverEnd (d₂.handoverEnd.logBoot Code.BOOT_HANDOVER_DONE 0x100000038 0) := (FlashKept.refl _).logBoot
  rw [hlog.boot, handoverEnd_boot]
  exact ⟨rfl, congrArg BootSt.image (sf_boot d₁ F.BOOT_FW_STAT.RUNNING (if d₁.eph.activeB then 1 else 0) 0 0 0)⟩

theorem handoverReverted_eq (hh : d.boot.handover = some .resume) : d.handoverReverted
    = ((d.setSlot d.eph.activeB 3 0).handoverEnd).logBoot Code.BOOT_HANDOVER_REVERTED 0x100000038 0 := by
  unfold handoverReverted
  rw [if_neg (by simp [hh])]

theorem handoverReverted_slot (hh : d.boot.handover = some .resume) :
    d.handoverReverted.boot.handover = none ∧ (d.handoverReverted.slotState d.eph.activeB).1 = 3 := by
  have hlog : FlashKept (d.setSlot d.eph.activeB 3 0).handoverEnd d.handoverReverted := by
    rw [handoverReverted_eq hh]
    exact (FlashKept.refl _).logBoot
  rw [hlog.boot, handoverEnd_boot, hlog.slotState, slotState_congr flashKept_handoverEnd, slotState_setSlot]
  exact ⟨rfl, rfl⟩

/-! ### BOOT_FW_CTRL -/

/-- An action bit of BOOT_FW_CTRL pressed: its other fields are action bits too, and stay zero. -/
theorem writeFwCtrl_commit : d.writeFwCtrl (setBits (d.settings ⟨.BOOT_FW_CTRL, 0, 0, 0⟩) 1 1 1) = d.fwCommit := by
  have h3 : getBits (setBits (d.settings ⟨.BOOT_FW_CTRL, 0, 0, 0⟩) 1 1 1) 3 3 = 0 :=
    getBits_pressed (by decide) (f := ⟨3, 3, .w1s, 0, .none⟩) (by decide) (by decide)
  have h2 : getBits (setBits (d.settings ⟨.BOOT_FW_CTRL, 0, 0, 0⟩) 1 1 1) 2 2 = 0 :=
    getBits_pressed (by decide) (f := ⟨2, 2, .w1s, 0, .none⟩) (by decide) (by decide)
  have h0 : getBits (setBits (d.settings ⟨.BOOT_FW_CTRL, 0, 0, 0⟩) 1 1 1) 0 0 = 0 :=
    getBits_pressed (by decide) (f := ⟨0, 0, .w1s, 0, .none⟩) (by decide) (by decide)
  have h1 : getBits (setBits (d.settings ⟨.BOOT_FW_CTRL, 0, 0, 0⟩) 1 1 1) 1 1 = 1 :=
    getBits_setBits_self _ _ _ _ (by decide) (by decide)
  simp only [writeFwCtrl, h3, h2, h1, h0, zero_ne_one, if_false, if_true]

theorem writeFwCtrl_resumed : d.writeFwCtrl (setBits (d.settings ⟨.BOOT_FW_CTRL, 0, 0, 0⟩) 3 3 1) = d.fwResumed := by
  have h2 : getBits (setBits (d.settings ⟨.BOOT_FW_CTRL, 0, 0, 0⟩) 3 3 1) 2 2 = 0 :=
    getBits_pressed (by decide) (f := ⟨2, 2, .w1s, 0, .none⟩) (by decide) (by decide)
  have h1 : getBits (setBits (d.settings ⟨.BOOT_FW_CTRL, 0, 0, 0⟩) 3 3 1) 1 1 = 0 :=
    getBits_pressed (by decide) (f := ⟨1, 1, .w1s, 0, .none⟩) (by decide) (by decide)
  have h0 : getBits (setBits (d.settings ⟨.BOOT_FW_CTRL, 0, 0, 0⟩) 3 3 1) 0 0 = 0 :=
    getBits_pressed (by decide) (f := ⟨0, 0, .w1s, 0, .none⟩) (by decide) (by decide)
  have h3 : getBits (setBits (d.settings ⟨.BOOT_FW_CTRL, 0, 0, 0⟩) 3 3 1) 3 3 = 1 :=
    getBits_setBits_self _ _ _ _ (by decide) (by decide)
  simp only [writeFwCtrl, h3, h2, h1, h0, zero_ne_one, if_false, if_true]

/-! ### The journal -/

theorem logBoot_eph (code d0 d1 : Nat) : (d.logBoot code d0 d1).eph = d.eph :=
  (d.sf F.BOOT_FW_STAT.LAST_CODE code).logAt_eph .. |>.trans (sf_eph (by decide) ..)

theorem compact_pending : d.compact.eph.pending = d.eph.pending := by
  unfold compact
  split
  · rfl
  · rw [logBoot_eph]
    split <;> rfl

theorem compact_active1 (h : d.power.flashOpen = true) : d.compact.eph.active1 = !d.eph.active1 := by
  unfold compact
  rw [if_neg (by simp [h])]
  extract_lets regs recs last l e₀ e
  rw [logBoot_eph]
  cases hone : d.eph.active1 <;> simp [e, e₀, hone]

/-- The journal with one more record in the area in use, and that record no more pending. -/
def recWritten (d : Dev) (r : PendRec) (rest : List PendRec) : Dev :=
  { d with eph := { d.eph with pending := rest, seq := d.eph.seq + 1, behind := d.eph.behind && !rest.isEmpty } }.setActive
    (d.activeArea ++ [({ offset := r.key.offset, kind := r.kind, value := r.value, seq := d.eph.seq + 1 } : JRec)])

theorem writeRec_eq {r : PendRec} {rest : List PendRec} (h : d.eph.pending = r :: rest) : d.writeRec =
    if 229376 ≤ (d.activeArea ++ [({ offset := r.key.offset, kind := r.kind, value := r.value, seq := d.eph.seq + 1 } : JRec)]).length
    then (d.recWritten r rest).compact else d.recWritten r rest := by
  unfold writeRec
  rw [h]
  rfl

theorem recWritten_pending (r : PendRec) (rest : List PendRec) : (d.recWritten r rest).eph.pending = rest := by
  unfold recWritten setActive
  cases d.eph.active1 <;> rfl

theorem recWritten_area (r : PendRec) (rest : List PendRec) :
    (d.recWritten r rest).activeArea.length = d.activeArea.length + 1 := by
  unfold recWritten setActive activeArea
  cases h : d.eph.active1 <;> simp [h]

theorem writeRec_pending : d.writeRec.eph.pending = d.eph.pending.tail := by
  cases h : d.eph.pending with
  | nil => rw [writeRec, h, h]; rfl
  | cons r rest =>
    rw [writeRec_eq h]
    split
    · rw [compact_pending, recWritten_pending, List.tail_cons]
    · rw [recWritten_pending, List.tail_cons]

theorem writeRecs_pending (l : List PendRec) :
    (l.foldl (fun d _ => d.writeRec) d).eph.pending = d.eph.pending.drop l.length := by
  induction l generalizing d with
  | nil => rfl
  | cons _ l ih => rw [List.foldl_cons, ih, writeRec_pending, ← List.drop_one, List.drop_drop, List.length_cons, Nat.add_comm]

theorem writeAllRecs_pending (h : d.power.flashOpen = true) : d.writeAllRecs.eph.pending = [] := by
  rw [writeAllRecs, if_pos h, writeRecs_pending, List.drop_length]

theorem writeEphCtrl_compact : d.writeEphCtrl (setBits (d.settings ⟨.EPH_CTRL, 0, 0, 0⟩) 1 1 1) = d.compact := by
  have h0 : getBits (setBits (d.settings ⟨.EPH_CTRL, 0, 0, 0⟩) 1 1 1) 0 0 = 0 :=
    getBits_pressed (by decide) (f := ⟨0, 0, .w1s, 0, .none⟩) (by decide) (by decide)
  have h1 : getBits (setBits (d.settings ⟨.EPH_CTRL, 0, 0, 0⟩) 1 1 1) 1 1 = 1 := getBits_setBits_self _ _ _ _ (by decide) (by decide)
  simp only [writeEphCtrl, h0, h1, zero_ne_one, if_false, if_true]

theorem writeEphCtrl_flush : d.writeEphCtrl (setBits (d.settings ⟨.EPH_CTRL, 0, 0, 0⟩) 0 0 1) = d.writeAllRecs := by
  have h1 : getBits (setBits (d.settings ⟨.EPH_CTRL, 0, 0, 0⟩) 0 0 1) 1 1 = 0 :=
    getBits_pressed (by decide) (f := ⟨1, 1, .w1s, 0, .none⟩) (by decide) (by decide)
  have h0 : getBits (setBits (d.settings ⟨.EPH_CTRL, 0, 0, 0⟩) 0 0 1) 0 0 = 1 := getBits_setBits_self _ _ _ _ (by decide) (by decide)
  simp only [writeEphCtrl, h0, h1, zero_ne_one, if_false, if_true]

/-- EPH_CTRL has no setting to keep. -/
theorem keepSetting_ephCtrl : d.keepSetting e ⟨.EPH_CTRL, 0, 0, 0⟩ = e := by
  have hnone : ∀ v, settingsOf .EPH_CTRL v = 0 := fun _ => rfl
  rw [keepSetting, hnone, hnone, if_neg (by simp)]

end Dev

open Dev

theorem tries_firmware (x : FwImage) : Completes (.fwTrial (some x)) (fun d => d.accepts ⟨.BOOT_FW_CTRL, 0, 0, 0⟩ = true
      ∧ d.power.flashOpen = true ∧ d.imageFault (some x) = none) fun d e =>
      e.eph.activeB = !d.runningB ∧ e.slotState (!d.runningB) = (1, 3) := by
  refine .of_upd (f := fun d => d.commandBy ⟨.BOOT_FW_CTRL, 0, 0, 0⟩ 1 fun d => d.fwTrial (some x)) (fun _ => rfl)
    fun d ⟨hacc, hopen, hfault⟩ => ?_
  have hkept := flashKept_commandBy (v := 1) (act := fun d => d.fwTrial (some x)) hacc
  rw [fwTrial_verified hopen hfault] at hkept
  exact ⟨hkept.activeB.trans (activeB_setSlot ..), (hkept.slotState _).trans (slotState_setSlot ..)⟩

theorem commits_firmware : Completes .fwCommit (fun d => d.accepts ⟨.BOOT_FW_CTRL, 0, 0, 0⟩ = true
      ∧ (d.slotState d.runningB).1 = 1 ∧ d.boot.image ≠ none) fun d e => (e.slotState d.runningB).1 = 2 := by
  refine .of_upd (f := fun d => d.press ⟨.BOOT_FW_CTRL, 0, 0, 0⟩ F.BOOT_FW_CTRL.COMMIT) (fun _ => rfl) fun d ⟨hacc, hst, _⟩ => ?_
  have hkept := flashKept_command (v := setBits (d.settings ⟨.BOOT_FW_CTRL, 0, 0, 0⟩) 1 1 1) hacc
  have hwrite : d.regWrite ⟨.BOOT_FW_CTRL, 0, 0, 0⟩ 4 d.self (setBits (d.settings ⟨.BOOT_FW_CTRL, 0, 0, 0⟩) 1 1 1) = d.fwCommit :=
    writeFwCtrl_commit
  rw [hwrite] at hkept
  exact (congrArg Prod.fst (hkept.slotState _)).trans (fwCommit_state hst)

theorem begins_handover (x : Option FwImage) : Completes (.fwHandover x) (fun d => d.accepts ⟨.BOOT_FW_CTRL, 0, 0, 0⟩ = true
      ∧ d.started = true ∧ d.boot.step = .ready ∧ d.eph.activeB ≠ d.runningB ∧ (d.slotState d.eph.activeB).1 = 1
      ∧ d.boot.handover = none) fun _ e => e.boot.handover = some .verify ∧ e.boot.staged = x := by
  refine .of_upd (f := fun d => d.commandBy ⟨.BOOT_FW_CTRL, 0, 0, 0⟩ 4 fun d => d.fwHandover x) (fun _ => rfl)
    fun d ⟨hacc, hstart, hs, ha, ht, hh⟩ => ?_
  have hkept := flashKept_commandBy (v := 4) (act := fun d => d.fwHandover x) hacc
  rw [hkept.boot, fwHandover_boot hstart hs ha ht hh]
  exact ⟨rfl, rfl⟩

theorem verifies_handover (x r : FwImage) : Completes .handoverVerifyDone (fun d => d.boot.handover = some .verify
      ∧ d.boot.staged = some x ∧ d.boot.image = some r ∧ d.imageFault (some x) = none ∧ x.hoMin ≤ r.hoFormat
      ∧ r.hoFormat ≤ x.hoMax) fun _ e => e.boot.handover = some .park := by
  refine .of_upd (f := fun d => d.handoverVerified) (fun _ => rfl) fun d ⟨hh, hstaged, himage, hf, hlo, hhi⟩ => ?_
  rw [handoverVerified_boot hh hstaged himage hf ⟨hlo, hhi⟩]

theorem parks_handover : Completes .handoverParkDone (fun d => d.boot.handover = some .park) fun _ e =>
    e.boot.handover = some .load := by
  refine .of_upd (f := fun d => d.handoverParked) (fun _ => rfl) fun d hh => ?_
  rw [handoverParked, if_pos hh]

theorem loads_handover : Completes .handoverLoadDone (fun d => d.boot.handover = some .load
      ∧ (d.slotState d.eph.activeB).1 = 1) fun _ e => e.boot.handover = some .resume :=
  .of_upd (f := fun d => d.handoverLoaded) (fun _ => rfl) fun _ ⟨hh, _⟩ => handoverLoaded_boot hh

theorem resumes_firmware : Completes .fwResumed (fun d => d.accepts ⟨.BOOT_FW_CTRL, 0, 0, 0⟩ = true
      ∧ d.boot.handover = some .resume) fun d e => e.boot.handover = none ∧ e.boot.image = d.boot.staged := by
  refine .of_upd (f := fun d => d.press ⟨.BOOT_FW_CTRL, 0, 0, 0⟩ F.BOOT_FW_CTRL.RESUMED) (fun _ => rfl) fun d ⟨hacc, hh⟩ => ?_
  have hkept := flashKept_command (v := setBits (d.settings ⟨.BOOT_FW_CTRL, 0, 0, 0⟩) 3 3 1) hacc
  have hwrite : d.regWrite ⟨.BOOT_FW_CTRL, 0, 0, 0⟩ 4 d.self (setBits (d.settings ⟨.BOOT_FW_CTRL, 0, 0, 0⟩) 3 3 1) = d.fwResumed :=
    writeFwCtrl_resumed
  rw [hwrite] at hkept
  obtain ⟨hnone, himage⟩ := fwResumed_boot hh
  exact ⟨(congrArg BootSt.handover hkept.boot).trans hnone, (congrArg BootSt.image hkept.boot).trans himage⟩

theorem reverts_handover : Completes .bootHandoverReverted (fun d => d.boot.handover = some .resume) fun d e =>
    e.boot.handover = none ∧ (e.slotState d.eph.activeB).1 = 3 :=
  .of_upd (f := fun d => d.handoverReverted) (fun _ => rfl) fun _ hh => handoverReverted_slot hh

theorem writes_journal (r : PendRec) (rest : List PendRec) : Completes .journalWrite (fun d => d.power.flashOpen = true
      ∧ d.eph.pending = r :: rest ∧ d.activeArea.length < 229375) fun d e =>
      e.eph.pending = rest ∧ e.activeArea.length = d.activeArea.length + 1 := by
  refine .of_upd (f := fun d => d.journalWrite) (fun _ => rfl) fun d ⟨hopen, hp, hlen⟩ => ?_
  rw [journalWrite, if_pos hopen, writeRec_eq hp, if_neg (by rw [List.length_append, List.length_singleton]; omega)]
  exact ⟨recWritten_pending .., recWritten_area ..⟩

theorem compacts_journal : Completes .ephCompact (fun d => d.accepts ⟨.EPH_CTRL, 0, 0, 0⟩ = true ∧ d.power.flashOpen = true)
    fun d e => e.eph.active1 = !d.eph.active1 := by
  refine .of_upd (f := fun d => d.press ⟨.EPH_CTRL, 0, 0, 0⟩ F.EPH_CTRL.COMPACT) (fun _ => rfl) fun d ⟨hacc, hopen⟩ => ?_
  have hkept := flashKept_command (v := setBits (d.settings ⟨.EPH_CTRL, 0, 0, 0⟩) 1 1 1) hacc
  have hwrite : d.regWrite ⟨.EPH_CTRL, 0, 0, 0⟩ 4 d.self (setBits (d.settings ⟨.EPH_CTRL, 0, 0, 0⟩) 1 1 1) = d.compact :=
    writeEphCtrl_compact
  rw [hwrite] at hkept
  exact hkept.active1.trans (compact_active1 hopen)

theorem flushes_journal : Completes .ephFlush (fun d => d.accepts ⟨.EPH_CTRL, 0, 0, 0⟩ = true ∧ d.power.flashOpen = true)
    fun _ e => e.eph.pending = [] := by
  refine .of_upd (f := fun d => d.press ⟨.EPH_CTRL, 0, 0, 0⟩ F.EPH_CTRL.FLUSH) (fun _ => rfl) fun d ⟨hacc, hopen⟩ => ?_
  have hwrite : d.regWrite ⟨.EPH_CTRL, 0, 0, 0⟩ 4 d.self (setBits (d.settings ⟨.EPH_CTRL, 0, 0, 0⟩) 0 0 1) = d.writeAllRecs :=
    writeEphCtrl_flush
  have hkeep : d.keepSetting d.writeAllRecs (RegKey.home ⟨.EPH_CTRL, 0, 0, 0⟩) = d.writeAllRecs := keepSetting_ephCtrl
  show (d.command _ (setBits (d.settings ⟨.EPH_CTRL, 0, 0, 0⟩) 0 0 1)).eph.pending = []
  rw [command_of_accepts hacc, hwrite, hkeep]
  exact writeAllRecs_pending hopen

theorem loses_ephSram : Completes .ephSramUncorrectable (fun _ => True) fun _ e =>
    e.eph.valid = false ∧ e.boot.warmRecord = false := by
  refine .of_upd (f := fun d => d.sramLost) (fun _ => rfl) fun d _ => ?_
  rw [sramLost, sf_boot, sf_eph (by decide)]
  exact ⟨rfl, rfl⟩

end Sys2Proof.Machine
end

/-! PROOFS. O60, the islands: what a ramp, a droop and the cap controller leave of an island's limits, and of the other islands. -/

section
namespace Sys2Proof.Machine

open Sys2Proof

/-- The step for `n` of a fold over a range brings about `P` where the steps before it keep `Q`, and the steps after it leave `P`. -/
theorem foldl_range_at {β : Type} {f : β → Nat → β} {Q P : β → Prop} {n N : Nat} (hn : n < N) (hbefore : ∀ b m, m < n → Q b → Q (f b m))
    (hset : ∀ b, Q b → P (f b n)) (hafter : ∀ b m, n < m → P b → P (f b m)) {b : β} (hb : Q b) : P ((List.range N).foldl f b) := by
  have hstage : ∀ N, (N ≤ n → Q ((List.range N).foldl f b)) ∧ (n < N → P ((List.range N).foldl f b)) := by
    intro N
    induction N with
    | zero => exact ⟨fun _ => hb, fun h => absurd h (Nat.not_lt_zero n)⟩
    | succ N ih =>
      obtain ⟨hQ, hP⟩ := ih
      rw [List.range_succ, List.foldl_append, List.foldl_cons, List.foldl_nil]
      refine ⟨fun h => hbefore _ N h (hQ (Nat.le_of_succ_le h)), fun h => ?_⟩
      rcases Nat.lt_succ_iff_lt_or_eq.mp h with h | rfl
      · exact hafter _ N h (hP h)
      · exact hset _ (hQ (Nat.le_refl n))
  exact (hstage N).2 hn

/-- What an island holds beside its ramp. -/
def IslandSt.held (x : IslandSt) : IslandSt := { x with ramp := none, rising := false }

theorem IslandSt.of_held {x y : IslandSt} (h : held x = held y) :
    x.capLimit = y.capLimit ∧ x.droopLimit = y.droopLimit ∧ x.slow = y.slow ∧ x.tripped = y.tripped := by
  have h₁ := congrArg IslandSt.capLimit h
  have h₂ := congrArg IslandSt.droopLimit h
  have h₃ := congrArg IslandSt.slow h
  have h₄ := congrArg IslandSt.tripped h
  exact ⟨h₁, h₂, h₃, h₄⟩

namespace Dev

variable {d e : Dev}

/-! ### The state of an island -/

theorem isl_congr (h : e.power = d.power) (n : Nat) : e.isl n = d.isl n := congrArg (fun p : PowerSt => NMap.get ({} : IslandSt) p.islands n) h

theorem isl_sf (f : Fld) (v u i j n : Nat) : (d.sf f v u i j).isl n = d.isl n := isl_congr (sf_power ..) n

theorem isl_modIsl (n : Nat) (g : IslandSt → IslandSt) : (d.modIsl n g).isl n = g (d.isl n) := NMap.get_set_self ..

theorem isl_modIsl_ne {n m : Nat} (h : m ≠ n) (g : IslandSt → IslandSt) : (d.modIsl n g).isl m = d.isl m := NMap.get_set_ne _ _ _ _ h

theorem isl_startRamp (n : Nat) (b : Nat × Nat) :
    (d.startRamp n b).isl n = { d.isl n with ramp := some { a := (d.isl n).div, b := b, k := 0 }, rising := false } := by
  rw [startRamp, isl_sf, isl_modIsl]

theorem isl_startRamp_ne {n m : Nat} (h : m ≠ n) (b : Nat × Nat) : (d.startRamp n b).isl m = d.isl m := by
  rw [startRamp, isl_sf, isl_modIsl_ne h]

theorem held_startRamp (n : Nat) (b : Nat × Nat) : ((d.startRamp n b).isl n).held = (d.isl n).held := by
  rw [isl_startRamp]
  rfl

/-- The registers in which a change of request shows. -/
def shownOp (d : Dev) (n : Nat) : Dev :=
  (d.sf F.CLK_ISLAND_n_STAT.OP_IN_FORCE (d.opInForce n).1 0 n).sf F.CLK_ISLAND_n_STAT.LIMITER (d.opInForce n).2 0 n

theorem isl_shownOp (n m : Nat) : (d.shownOp n).isl m = d.isl m := by rw [shownOp, isl_sf, isl_sf]

theorem retarget_cluster {n : Nat} (hp : d.on F.CLK_ISLAND_n_STAT.POWERED 0 n = true) (hn : n < 32) : d.retarget n =
    if (d.opInForce n).1 < d.gf F.CLK_ISLAND_n_STAT.OP_IN_FORCE 0 n then (d.shownOp n).startRamp n ((d.shownOp n).wantedDiv n)
    else if d.gf F.CLK_ISLAND_n_STAT.OP_IN_FORCE 0 n < (d.opInForce n).1 then
      (d.shownOp n).modIsl n fun x => { x with rising := true }
    else d.shownOp n := by
  unfold retarget
  rw [if_neg (by simp [hp]), if_pos hn]
  rfl

theorem retarget_other {n : Nat} (hp : d.on F.CLK_ISLAND_n_STAT.POWERED 0 n = true) (hn : ¬ n < 32) : d.retarget n =
    (d.sf F.CLK_ISLAND_n_STAT.LIMITER (if (d.isl n).slow then 4 else 0) 0 n).startRamp n
      ((d.sf F.CLK_ISLAND_n_STAT.LIMITER (if (d.isl n).slow then 4 else 0) 0 n).wantedDiv n) := by
  unfold retarget
  rw [if_neg (by simp [hp]), if_neg hn]

theorem retarget_unpowered {n : Nat} (hp : d.on F.CLK_ISLAND_n_STAT.POWERED 0 n = false) : d.retarget n = d := by
  unfold retarget
  rw [if_pos (by simp [hp])]

/-- A change of request leaves an island's limits and its trip. -/
theorem held_retarget (n : Nat) : ((d.retarget n).isl n).held = (d.isl n).held := by
  cases hp : d.on F.CLK_ISLAND_n_STAT.POWERED 0 n with
  | false => rw [retarget_unpowered hp]
  | true =>
    by_cases hn : n < 32
    · rw [retarget_cluster hp hn]
      split
      · rw [held_startRamp, isl_shownOp]
      · split
        · rw [isl_modIsl, isl_shownOp]
          rfl
        · rw [isl_shownOp]
    · rw [retarget_other hp hn, held_startRamp, isl_sf]

theorem isl_retarget_ne {n m : Nat} (h : m ≠ n) : (d.retarget n).isl m = d.isl m := by
  cases hp : d.on F.CLK_ISLAND_n_STAT.POWERED 0 n with
  | false => rw [retarget_unpowered hp]
  | true =>
    by_cases hn : n < 32
    · rw [retarget_cluster hp hn]
      split
      · rw [isl_startRamp_ne h, isl_shownOp]
      · split
        · rw [isl_modIsl_ne h, isl_shownOp]
        · rw [isl_shownOp]
    · rw [retarget_other hp hn, isl_startRamp_ne h, isl_sf]

theorem gf_retarget {n : Nat} {f : Fld} (u i j : Nat) (hf : (⟨f.reg, u, i, j⟩ : RegKey) ≠ ⟨.CLK_ISLAND_n_STAT, 0, n, 0⟩) :
    (d.retarget n).gf f u i j = d.gf f u i j := (only_retarget n).gf (by simpa using hf) (by simp)

/-! ### The cap controller -/

/-- The cap controller lowers an island below its point in force by one. -/
def lowerOne (d : Dev) (n : Nat) : Dev :=
  if d.on F.CLK_ISLAND_n_STAT.POWERED 0 n then
    (d.modIsl n fun x => { x with capLimit := d.gf F.CLK_ISLAND_n_STAT.OP_IN_FORCE 0 n - 1 }).retarget n
  else d

theorem lowerAll_eq : d.lowerAll = (List.range 32).foldl lowerOne d := rfl

theorem isl_lowerOne_ne {n m : Nat} (h : m ≠ n) : (d.lowerOne n).isl m = d.isl m := by
  unfold lowerOne
  split
  · rw [isl_retarget_ne h, isl_modIsl_ne h]
  · rfl

theorem gf_lowerOne_ne {n m : Nat} (h : m ≠ n) {f : Fld} (hf : f.reg = .CLK_ISLAND_n_STAT) : (d.lowerOne n).gf f 0 m = d.gf f 0 m := by
  unfold lowerOne
  split
  · rw [gf_retarget _ _ _ (by simp [hf, h]), gf_modIsl]
  · rfl

theorem capLimit_lowerOne {n : Nat} (h : d.on F.CLK_ISLAND_n_STAT.POWERED 0 n = true) :
    ((d.lowerOne n).isl n).capLimit = d.gf F.CLK_ISLAND_n_STAT.OP_IN_FORCE 0 n - 1 := by
  rw [lowerOne, if_pos h, (IslandSt.of_held (held_retarget n)).1, isl_modIsl]

theorem capLimit_lowerAll {n : Nat} (hn : n < 32) (h : d.on F.CLK_ISLAND_n_STAT.POWERED 0 n = true) :
    (d.lowerAll.isl n).capLimit = d.gf F.CLK_ISLAND_n_STAT.OP_IN_FORCE 0 n - 1 := by
  rw [lowerAll_eq]
  refine foldl_range_at (Q := fun e : Dev => e.gf F.CLK_ISLAND_n_STAT.POWERED 0 n = 1
      ∧ e.gf F.CLK_ISLAND_n_STAT.OP_IN_FORCE 0 n = d.gf F.CLK_ISLAND_n_STAT.OP_IN_FORCE 0 n)
    (P := fun e : Dev => (e.isl n).capLimit = d.gf F.CLK_ISLAND_n_STAT.OP_IN_FORCE 0 n - 1) hn ?_ ?_ ?_ ⟨?_, rfl⟩
  · intro e m hm ⟨hp, ho⟩
    have hne : n ≠ m := by omega
    exact ⟨(gf_lowerOne_ne hne rfl).trans hp, (gf_lowerOne_ne hne rfl).trans ho⟩
  · intro e ⟨hp, ho⟩
    rw [capLimit_lowerOne (by simp [on, hp]), ho]
  · intro e m hm he
    rw [isl_lowerOne_ne (by omega), he]
  · simpa [on] using h

/-! ### A droop -/

theorem only_score (unit weight code : Nat) : Only [] scoreParts d (d.score unit weight code) := by
  have hsf : ∀ {e : Dev} {f : Fld} {v : Nat}, f.reg = .SAFE_HEALTH_u → Only [] scoreParts d e →
      Only [] scoreParts d (e.sf f v 0 unit) := fun hf he => he.sf (.inr (by rw [hf]; decide)) (.inr (by decide))
  have hlog : ∀ p ∈ logParts, p ∈ scoreParts := fun _ h => List.mem_append_right _ h
  unfold score
  extract_lets s d₁ d₂ lv
  have h₁ : Only [] scoreParts d d₁ := hsf rfl (.refl _ _ d)
  have h₂ : Only [] scoreParts d d₂ := .ite h₁ (hsf rfl h₁)
  exact .ite (((hsf rfl h₂).logAt hlog).raise (.inr (by decide)))
    (.ite (((hsf rfl h₂).logAt hlog).raise (.inr (by decide))) h₂)

theorem isl_score (unit weight code n : Nat) : (d.score unit weight code).isl n = d.isl n :=
  isl_congr ((only_score unit weight code).2 .power (by decide) (by simp)) n

/-- A detector of an island has tripped: the clock is stretched, and the trip counted. -/
def stretched (d : Dev) (n : Nat) : Dev :=
  ((d.modIsl n fun x => { x with tripped := true }).sf F.CLK_ISLAND_n_STAT.STRETCHED 1 0 n).bump F.CLK_ISLAND_n_STAT.DROOP_CNT
    F.CLK_ISLAND_n_STAT.DROOP_SAT 1 0 n

theorem droopTrip_eq {n : Nat} (h : d.on F.CLK_ISLAND_n_STAT.POWERED 0 n = true) : d.droopTrip n =
    ((d.stretched n).logPwr Code.CLK_DROOP (1408 + n) (islandDie n + 256 * n) 1).score (1408 + n) 1 Code.CLK_DROOP := by
  unfold droopTrip
  rw [if_neg (by simp [h])]
  rfl

theorem gf_bump_of_disjoint {f sat g : Fld} (hw : f.lo ≤ f.hi ∧ f.hi < 64) (hws : sat.lo ≤ sat.hi ∧ sat.hi < 64)
    (hf : g.hi < f.lo ∨ f.hi < g.lo) (hs : g.hi < sat.lo ∨ sat.hi < g.lo) (n u i j u' i' j' : Nat) :
    (d.bump f sat n u i j).gf g u' i' j' = d.gf g u' i' j' := by
  unfold bump
  extract_lets m x
  split
  · rw [gf_sf_of_disjoint _ _ _ _ _ _ _ _ _ _ hws.1 hws.2 hs, gf_sf_of_disjoint _ _ _ _ _ _ _ _ _ _ hw.1 hw.2 hf]
  · rw [gf_sf_of_disjoint _ _ _ _ _ _ _ _ _ _ hw.1 hw.2 hf]

theorem isl_stretched (n : Nat) : (d.stretched n).isl n = { d.isl n with tripped := true } := by
  rw [stretched, isl_congr (bump_power ..), isl_sf, isl_modIsl]

theorem gf_stretched (n : Nat) : (d.stretched n).gf F.CLK_ISLAND_n_STAT.STRETCHED 0 n = 1 := by
  rw [stretched, gf_bump_of_disjoint (by decide) (by decide) (by decide) (by decide), gf_sf_self _ _ _ _ _ _ (by decide) (by decide)]
  rfl

theorem droopTrip_state {n : Nat} (h : d.on F.CLK_ISLAND_n_STAT.POWERED 0 n = true) :
    ((d.droopTrip n).isl n).tripped = true ∧ (d.droopTrip n).gf F.CLK_ISLAND_n_STAT.STRETCHED 0 n = 1 := by
  rw [droopTrip_eq h, isl_score, isl_congr (logPwr_power ..), isl_stretched, (only_score ..).gf (by simp) (by decide),
    gf_logPwr _ _ _ _ _ _ _ (by decide) (.inr (by decide)), gf_stretched]
  exact ⟨rfl, rfl⟩

theorem droopClear_isl (n : Nat) : ((d.droopClear n).isl n).tripped = false := by
  unfold droopClear
  extract_lets e
  have he : (e.isl n).tripped = false := by rw [isl_modIsl]
  split
  · exact he
  · rw [isl_sf]
    exact he

/-- The limit that the hand-over of a droop sets. -/
def handed (d : Dev) (n : Nat) : Dev :=
  if n < 32 then d.modIsl n fun x => { x with droopLimit := d.gf F.CLK_ISLAND_n_STAT.OP_IN_FORCE 0 n - 1 }
  else d.modIsl n fun x => { x with slow := true }

theorem droopHandover_eq {n : Nat} (h : (d.isl n).tripped = true) : d.droopHandover n =
    ((((d.handed n).retarget n).modIsl n fun x => { x with taken := x.ramp.isSome }).score (1408 + n) 8 Code.CLK_DROOP).raise 197 := by
  unfold droopHandover
  rw [if_neg (by simp [h])]
  rfl

theorem droopHandover_limits {n : Nat} (h : (d.isl n).tripped = true) :
    ((d.droopHandover n).isl n).droopLimit = ((d.handed n).isl n).droopLimit
      ∧ ((d.droopHandover n).isl n).slow = ((d.handed n).isl n).slow := by
  obtain ⟨-, hdroop, hslow, -⟩ := IslandSt.of_held (held_retarget (d := d.handed n) n)
  rw [droopHandover_eq h, isl_congr (raise_power ..), isl_score, isl_modIsl]
  exact ⟨hdroop, hslow⟩

theorem droopHandover_state {n : Nat} (h : (d.isl n).tripped = true) :
    if n < 32 then ((d.droopHandover n).isl n).droopLimit = d.gf F.CLK_ISLAND_n_STAT.OP_IN_FORCE 0 n - 1
    else ((d.droopHandover n).isl n).slow = true := by
  obtain ⟨hdroop, hslow⟩ := droopHandover_limits h
  by_cases hn : n < 32
  · rw [if_pos hn, hdroop, handed, if_pos hn, isl_modIsl]
  · rw [if_neg hn, hslow, handed, if_neg hn, isl_modIsl]

theorem droopRecovery_cluster {n : Nat} (h : (d.isl n).tripped = false) (hl : (d.isl n).droopLimit < 7) (hn : n < 32) :
    d.droopRecovery n = (d.modIsl n fun x => { x with droopLimit := x.droopLimit + 1 }).retarget n := by
  unfold droopRecovery
  extract_lets x
  rw [if_neg (by simp [x, h]), if_pos hn, if_pos hl]

theorem droopRecovery_slow {n : Nat} (h : (d.isl n).tripped = false) (hn : ¬ n < 32) : ((d.droopRecovery n).isl n).slow = false := by
  unfold droopRecovery
  extract_lets x
  rw [if_neg (by simp [x, h]), if_neg hn]
  split
  · rw [isl_sf, isl_modIsl]
  · next hs => exact Bool.eq_false_of_not_eq_true hs

theorem droopRecovery_state {n : Nat} (h : (d.isl n).tripped = false) (hl : (d.isl n).droopLimit < 7) :
    if n < 32 then ((d.droopRecovery n).isl n).droopLimit = (d.isl n).droopLimit + 1
    else ((d.droopRecovery n).isl n).slow = false := by
  split
  · next hn => rw [droopRecovery_cluster h hl hn, (IslandSt.of_held (held_retarget n)).2.1, isl_modIsl]
  · next hn => exact droopRecovery_slow h hn

/-! ### Ramps -/

theorem isl_setDiv (n : Nat) (v : Nat × Nat) : (d.setDiv n v).isl n = { d.isl n with div := v } := by
  rw [setDiv, isl_sf, isl_modIsl]

theorem rampStep_div {n : Nat} {r : Ramp} (h : (d.isl n).ramp = some r) (hk : r.k < 15) :
    ((d.rampStep n).isl n).div = rampDiv r.a r.b (r.k + 1) := by
  unfold rampStep
  rw [h]
  dsimp -zeta only
  extract_lets k e
  rw [if_pos (by omega), isl_modIsl, isl_setDiv, if_neg (by omega)]

theorem railSettled_state {n : Nat} (h : (d.isl n).rising = true) :
    ((d.railSettled n).isl n).rising = false ∧ (d.railSettled n).gf F.CLK_ISLAND_n_STAT.RAMPING 0 n = 1 := by
  rw [railSettled, if_pos h, isl_startRamp, startRamp, gf_sf_self _ _ _ _ _ _ (by decide) (by decide)]
  exact ⟨rfl, rfl⟩

/-! ### Gating, and CLK_ISLAND_n_CTRL -/

theorem only_reportP1 : Only [⟨.PWR_STAT, 0, 0, 0⟩] [] d d.reportP1 := by
  unfold reportP1
  exact .ite (.refl _ _ d) ((Only.refl _ _ d).sfFree (by decide) (.inl List.mem_cons_self))

theorem gf_reportP1 {f : Fld} (u i j : Nat) (hf : f.reg ≠ .PWR_STAT) : d.reportP1.gf f u i j = d.gf f u i j :=
  only_reportP1.gf (by simp [hf]) (by simp)

/-- EN and OP of an island's control register. -/
def islandSet (d : Dev) (n en op : Nat) : Dev := (d.sf F.CLK_ISLAND_n_CTRL.EN en 0 n).sf F.CLK_ISLAND_n_CTRL.OP op 0 n

/-- A write of EN shows in GATED. -/
def gatedAs (d : Dev) (was : Bool) (n en : Nat) : Dev :=
  if was = decide (en = 1) then d else (d.sf F.CLK_ISLAND_n_STAT.GATED (1 - en) 0 n).reportP1

theorem writeIsland_enabled {n : Nat} {v : Word} (h : getBits v 7 7 = 1) : d.writeIsland n v =
    if n < 32 then
      ((d.islandSet n (getBits v 7 7) (getBits v 2 0)).gatedAs (d.on F.CLK_ISLAND_n_CTRL.EN 0 n) n (getBits v 7 7)).retarget n
    else (d.islandSet n (getBits v 7 7) (getBits v 2 0)).gatedAs (d.on F.CLK_ISLAND_n_CTRL.EN 0 n) n (getBits v 7 7) := by
  unfold writeIsland
  extract_lets en
  rw [if_neg (by simp [en, h])]
  rfl

theorem gf_gatedAs (was : Bool) (n en : Nat) {f : Fld} (hf : f.reg = .CLK_ISLAND_n_CTRL) (u i j : Nat) :
    (d.gatedAs was n en).gf f u i j = d.gf f u i j := by
  unfold gatedAs
  split
  · rfl
  · rw [gf_reportP1 _ _ _ (by rw [hf]; decide), gf_sf_of_reg_ne _ _ _ _ _ _ _ _ _ _ (by rw [hf]; decide)]

/-- A write of CLK_ISLAND_n_CTRL with EN sets EN and OP. -/
theorem gf_writeIsland {n : Nat} {v : Word} (h : getBits v 7 7 = 1) {f : Fld} (hf : f.reg = .CLK_ISLAND_n_CTRL) :
    (d.writeIsland n v).gf f 0 n = (d.islandSet n 1 (getBits v 2 0)).gf f 0 n := by
  rw [writeIsland_enabled h, h]
  split
  · rw [gf_retarget _ _ _ (by simp [hf]), gf_gatedAs _ _ _ hf]
  · rw [gf_gatedAs _ _ _ hf]

theorem gf_islandSet_en (n op : Nat) : (d.islandSet n 1 op).gf F.CLK_ISLAND_n_CTRL.EN 0 n = 1 := by
  rw [islandSet, gf_sf_of_disjoint _ _ _ _ _ _ _ _ _ _ (by decide) (by decide) (by decide),
    gf_sf_self _ _ _ _ _ _ (by decide) (by decide)]
  rfl

theorem gf_islandSet_op {op : Nat} (h : op < 8) (n : Nat) : (d.islandSet n 1 op).gf F.CLK_ISLAND_n_CTRL.OP 0 n = op := by
  rw [islandSet, gf_sf_self _ _ _ _ _ _ (by decide) (by decide)]
  exact Nat.mod_eq_of_lt h

end Dev

open Dev

theorem lowers_cap (w : Nat) : Completes (.capWindow w true) (fun d => d.gf F.PWR_STAT.CAP_IN_FORCE_W < w) fun d e =>
    ∀ n, n < 32 → d.on F.CLK_ISLAND_n_STAT.POWERED 0 n = true →
      (e.isl n).capLimit = d.gf F.CLK_ISLAND_n_STAT.OP_IN_FORCE 0 n - 1 := by
  refine .of_upd (f := fun d => d.capWindow true w) (fun _ => rfl) fun d hw n hn hp => ?_
  have heq : d.capWindow true w = d.lowerAll := by
    unfold capWindow
    rw [if_pos rfl, if_pos hw]
  rw [heq, capLimit_lowerAll hn hp]

theorem gates_island (n : Fin 32) : Completes (.islandIdleGate n) (fun d => d.islandOn n = true ∧ d.clusterIdle n = true)
    fun _ e => e.gf F.CLK_ISLAND_n_STAT.GATED 0 n = 1 := by
  refine .of_upd (f := fun d => d.idleGate n) (fun _ => rfl) fun d ⟨hon, hidle⟩ => ?_
  rw [idleGate, if_pos (by simp [hon, hidle]), gf_reportP1 _ _ _ (by decide), gf_sf_self _ _ _ _ _ _ (by decide) (by decide)]
  rfl

theorem ungates_island (n : Fin 32) : Completes (.islandUngate n)
    (fun d => d.islandOn n = true ∧ d.on F.CLK_ISLAND_n_STAT.GATED 0 n = true) fun _ e =>
      e.gf F.CLK_ISLAND_n_STAT.GATED 0 n = 0 := by
  refine .of_upd (f := fun d => d.ungate n) (fun _ => rfl) fun d ⟨hon, hgated⟩ => ?_
  rw [ungate, if_pos (by simp [hon, hgated]), gf_reportP1 _ _ _ (by decide), gf_sf_self _ _ _ _ _ _ (by decide) (by decide)]
  rfl

theorem steps_ramp (n : Fin 44) (r : Ramp) : Completes (.rampStep n) (fun d => (d.isl n).ramp = some r ∧ r.k < 15) fun _ e =>
    (e.isl n).div = rampDiv r.a r.b (r.k + 1) :=
  .of_upd (f := fun d => d.rampStep n) (fun _ => rfl) fun _ ⟨hr, hk⟩ => rampStep_div hr hk

theorem settles_rail (n : Fin 44) : Completes (.railSettled n) (fun d => (d.isl n).rising = true) fun _ e =>
    (e.isl n).rising = false ∧ e.gf F.CLK_ISLAND_n_STAT.RAMPING 0 n = 1 :=
  .of_upd (f := fun d => d.railSettled n) (fun _ => rfl) fun _ h => railSettled_state h

theorem trips_droop (n : Fin 44) : Completes (.droopTrip n) (fun d => d.on F.CLK_ISLAND_n_STAT.POWERED 0 n = true) fun _ e =>
    (e.isl n).tripped = true ∧ e.gf F.CLK_ISLAND_n_STAT.STRETCHED 0 n = 1 :=
  .of_upd (f := fun d => d.droopTrip n) (fun _ => rfl) fun _ h => droopTrip_state h

theorem clears_droop (n : Fin 44) : Completes (.droopClear n) (fun _ => True) fun _ e => (e.isl n).tripped = false :=
  .of_upd (f := fun d => d.droopClear n) (fun _ => rfl) fun _ _ => droopClear_isl _

theorem hands_droop (n : Fin 44) : Completes (.droopHandover n) (fun d => (d.isl n).tripped = true) fun d e =>
    if n.val < 32 then (e.isl n).droopLimit = d.gf F.CLK_ISLAND_n_STAT.OP_IN_FORCE 0 n - 1 else (e.isl n).slow = true :=
  .of_upd (f := fun d => d.droopHandover n) (fun _ => rfl) fun _ h => droopHandover_state h

theorem recovers_droop (n : Fin 44) : Completes (.droopRecovery n)
    (fun d => (d.isl n).tripped = false ∧ (d.isl n).droopLimit < 7) fun d e =>
      if n.val < 32 then (e.isl n).droopLimit = (d.isl n).droopLimit + 1 else (e.isl n).slow = false :=
  .of_upd (f := fun d => d.droopRecovery n) (fun _ => rfl) fun _ ⟨h, hl⟩ => droopRecovery_state h hl

theorem enables_island (n : Fin 44) : Completes (.islandEnWrite n true)
    (fun d => d.accepts ⟨.CLK_ISLAND_n_CTRL, 0, n, 0⟩ = true) fun _ e => e.gf F.CLK_ISLAND_n_CTRL.EN 0 n = 1 := by
  refine .of_upd (f := fun d => d.setting ⟨.CLK_ISLAND_n_CTRL, 0, n, 0⟩ F.CLK_ISLAND_n_CTRL.EN 1) (fun _ => rfl) fun d hacc => ?_
  have hen : getBits (setBits (d.settings ⟨.CLK_ISLAND_n_CTRL, 0, n, 0⟩) 7 7 1) 7 7 = 1 :=
    getBits_setBits_self _ _ _ _ (by decide) (by decide)
  rw [setting, (only_command hacc).gf (by simp) (by decide)]
  exact (gf_writeIsland hen rfl).trans (gf_islandSet_en ..)

theorem sets_islandOp (n : Fin 44) (op : Fin 8) : Completes (.islandOpWrite n op)
    (fun d => d.accepts ⟨.CLK_ISLAND_n_CTRL, 0, n, 0⟩ = true ∧ d.on F.CLK_ISLAND_n_CTRL.EN 0 n = true) fun _ e =>
      e.gf F.CLK_ISLAND_n_CTRL.OP 0 n = op.val := by
  refine .of_upd (f := fun d => d.setting ⟨.CLK_ISLAND_n_CTRL, 0, n, 0⟩ F.CLK_ISLAND_n_CTRL.OP op) (fun _ => rfl)
    fun d ⟨hacc, hon⟩ => ?_
  have hen : getBits (setBits (d.settings ⟨.CLK_ISLAND_n_CTRL, 0, n, 0⟩) 2 0 op) 7 7 = 1 :=
    (getBits_pressed (by decide) (f := ⟨7, 7, .rw, 1, .w⟩) (by simp [RegName.fields, RegName.info]) (by decide)).trans
      (of_decide_eq_true hon)
  have hop : getBits (setBits (d.settings ⟨.CLK_ISLAND_n_CTRL, 0, n, 0⟩) 2 0 op) 2 0 = op :=
    (getBits_setBits_self _ _ _ _ (by decide) (by decide)).trans (Nat.mod_eq_of_lt op.isLt)
  rw [setting, (only_command hacc).gf (by simp) (by decide)]
  refine (gf_writeIsland hen rfl).trans ?_
  rw [hop]
  exact gf_islandSet_op op.isLt _

end Sys2Proof.Machine
end

/-! PROOFS. O60, PWR_CTRL: the cap and the target of the power state, and what the recall of the directory leaves. -/

section
namespace Sys2Proof.Machine

open Sys2Proof

/-! ### Messages to the companion -/

namespace Only

variable {rs : List RegKey} {ps : List Part} {d e : Dev}

theorem hlk (h : Only rs ps d e) (hp : Part.hlk ∈ ps) {x} : Only rs ps d { e with hlk := x } := by
  refine h.other rfl fun p hn hr => ?_
  cases p with
  | hlk => exact absurd hp hn
  | reg n => exact absurd rfl (hr n)
  | coreStore | clusterStore | imem | hbm => exact fun _ => rfl
  | _ => rfl

end Only

namespace Dev

variable {d e : Dev}

theorem only_stripe (m : HlkMsg) : Only [] [.hlk] d (d.stripe m) := by
  unfold stripe
  split
  · exact .refl _ _ d
  · exact (Only.refl _ _ d).foldl fun _ _ _ h => h.hlk List.mem_cons_self

theorem only_hlkOut (m : HlkMsg) : Only [] [.hlk, .reg .HLK_TX_CNT] d (d.hlkOut m) := by
  unfold hlkOut
  extract_lets h m' credits h'
  have hq : Only [] [.hlk] d { d with hlk := h' } := (Only.refl _ _ d).hlk List.mem_cons_self
  have hs : Only [] [.hlk, .reg .HLK_TX_CNT] d ({ d with hlk := h' }.stripe m') := (hq.trans (only_stripe m')).mono (by simp) (by simp)
  exact hs.sfFree (by decide) (.inr (by decide))

theorem only_hlkPumpList (l : List HlkMsg) (blocked : List Nat) :
    Only [] [.hlk, .reg .HLK_TX_CNT] d (d.hlkPumpList blocked l).1 := by
  induction l generalizing d blocked with
  | nil => exact .refl _ _ d
  | cons m l ih =>
    unfold hlkPumpList
    split
    · exact (only_hlkOut m).trans (ih _)
    · exact ih _

theorem only_hlkPump : Only [] [.hlk, .reg .HLK_TX_CNT] d d.hlkPump := (only_hlkPumpList _ _).hlk List.mem_cons_self

theorem only_hlkSend (m : HlkMsg) : Only [] [.hlk, .reg .HLK_TX_CNT] d (d.hlkSend m) :=
  ((Only.refl _ _ d).hlk List.mem_cons_self).trans only_hlkPump

theorem only_recallLine (u : Nat) (inv : Bool) : Only [] [.hlk, .reg .HLK_TX_CNT] d (d.recallLine u inv) := by
  unfold recallLine
  split
  · refine .ite (.refl _ _ d) ?_
    exact (((Only.refl _ _ d).hlk List.mem_cons_self).hlk List.mem_cons_self).trans (only_hlkSend _)
  · exact .refl _ _ d

/-! ### The power state -/

/-- TARGET and STATE at the beginning of an entry. -/
def entryShown (d : Dev) (t : Nat) : Dev := (d.sf F.PWR_CTRL.TARGET t).sf F.PWR_STAT.STATE 4

theorem only_beginPark (t : Nat) : Only [] [.hlk, .reg .HLK_TX_CNT] (d.entryShown t) (d.beginPark t) :=
  (Only.refl _ _ (d.entryShown t)).foldl fun _ _ _ h => h.trans (only_recallLine _ _)

theorem beginPark_state {t : Nat} (h : t < 8) :
    (d.beginPark t).gf F.PWR_CTRL.TARGET = t ∧ (d.beginPark t).gf F.PWR_STAT.STATE = 4 := by
  have ho := only_beginPark (d := d) t
  rw [ho.gf (by simp) (by decide), ho.gf (by simp) (by decide), entryShown, gf_sf_of_reg_ne _ _ _ _ _ _ _ _ _ _ (by decide),
    gf_sf_self _ _ _ _ _ _ (by decide) (by decide), gf_sf_self _ _ _ _ _ _ (by decide) (by decide)]
  exact ⟨Nat.mod_eq_of_lt h, rfl⟩

/-- What an entry to P2 or P3 asks of the device beside its registers. -/
def quietUnits (d : Dev) : Bool :=
  (List.range 128).all (fun c => d.coreIdle c) && d.mem.mapout.isNone && d.boot.resetting.isNone && d.swaps.isEmpty
    && d.boot.handover.isNone

theorem mayPark_eq : d.mayPark =
    (d.quietUnits && d.started && decide (d.boot.step = .ready) && decide (d.gf F.PWR_STAT.STATE < 3)) := rfl

/-- CAP_W stored, and the cap in force with it. -/
def capStored (d : Dev) (w : Nat) : Dev := (d.sf F.PWR_CTRL.CAP_W (max 2000 (min 4000 w))).refreshCap

theorem coreIdle_congr (hc : e.cores = d.cores) (hm : ∀ u, e.reg ⟨.CLU_CORE_MAP, u, 0, 0⟩ = d.reg ⟨.CLU_CORE_MAP, u, 0, 0⟩)
    (c : Nat) : e.coreIdle c = d.coreIdle c := by
  have hcore : e.core c = d.core c := congrArg (fun m => NMap.get ({} : Core) m c) hc
  have hphys : e.physOf c = d.physOf c := by rw [physOf, hm, physOf]
  have hserv : e.inService c = d.inService c := by rw [inService, hphys, inService]
  simp only [coreIdle, hcore, hserv]

theorem only_capStored (w : Nat) :
    Only [⟨.PWR_CTRL, 0, 0, 0⟩, ⟨.PWR_STAT, 0, 0, 0⟩, ⟨.INT_PEND_SET_k, 0, 3, 0⟩] [.eph] d (d.capStored w) := by
  have hcap : Only [⟨.PWR_CTRL, 0, 0, 0⟩, ⟨.PWR_STAT, 0, 0, 0⟩, ⟨.INT_PEND_SET_k, 0, 3, 0⟩] [.eph] d
      (d.sf F.PWR_CTRL.CAP_W (max 2000 (min 4000 w))) := (Only.refl _ _ d).sf (.inl List.mem_cons_self) (.inr List.mem_cons_self)
  exact hcap.trans (only_refreshCap.mono (fun _ hk => .inl (List.mem_cons_of_mem _ hk)) (by simp))

theorem quietUnits_capStored (w : Nat) : (d.capStored w).quietUnits = d.quietUnits := by
  have ho := only_capStored (d := d) w
  have hidle := coreIdle_congr (ho.2 .cores (by decide) (by simp)) fun u => ho.1 ⟨.CLU_CORE_MAP, u, 0, 0⟩ (by simp) (by simp)
  have hmem : (d.capStored w).mem = d.mem := ho.2 .mem (by decide) (by simp)
  have hboot : (d.capStored w).boot = d.boot := ho.2 .boot (by decide) (by simp)
  have hswaps : (d.capStored w).swaps = d.swaps := ho.2 .swaps (by decide) (by simp)
  simp only [quietUnits, hidle, hmem, hboot, hswaps]

theorem gf_capStored_target (w : Nat) : (d.capStored w).gf F.PWR_CTRL.TARGET = d.gf F.PWR_CTRL.TARGET := by
  rw [capStored, only_refreshCap.gf (by decide) (by decide), gf_sf_of_disjoint _ _ _ _ _ _ _ _ _ _ (by decide) (by decide) (by decide)]

theorem gf_capStored_state (w : Nat) : (d.capStored w).gf F.PWR_STAT.STATE = d.gf F.PWR_STAT.STATE := by
  rw [capStored, gf_refreshCap _ _ _ (by decide) (by decide), gf_sf_of_reg_ne _ _ _ _ _ _ _ _ _ _ (by decide)]

theorem gf_capStored_cap (w : Nat) : (d.capStored w).gf F.PWR_CTRL.CAP_W = max 2000 (min 4000 w) := by
  rw [capStored, only_refreshCap.gf (by decide) (by decide), gf_sf_self _ _ _ _ _ _ (by decide) (by decide)]
  exact Nat.mod_eq_of_lt (by show max 2000 (min 4000 w) < 2 ^ 16; omega)

theorem mayPark_capStored (w : Nat) : (d.capStored w).mayPark = d.mayPark := by
  have ho := only_capStored (d := d) w
  have hboot : (d.capStored w).boot = d.boot := ho.2 .boot (by decide) (by simp)
  have hstart : (d.capStored w).started = d.started := congrArg (fun n => decide (n = 1)) (ho.gf (f := F.BOOT_STAT.READY) (by decide) (by decide))
  rw [mayPark_eq, mayPark_eq, quietUnits_capStored, hboot, hstart, gf_capStored_state]

/-! ### PWR_CTRL -/

/-- A write of PWR_CTRL whose TARGET may be taken stores the cap, and then takes the TARGET. -/
theorem writePwrCtrl_of_may {v : Word} (h : getBits v 2 0 = d.gf F.PWR_CTRL.TARGET ∨ ((d.gf F.PWR_STAT.STATE ≠ 4
      ∧ d.gf F.PWR_STAT.STATE ≠ 5) ∧ ((getBits v 2 0 ≠ 2 ∧ getBits v 2 0 ≠ 3) ∨ d.mayPark = true))) :
    d.writePwrCtrl v = (d.capStored (getBits v 47 32)).writeTarget (getBits v 2 0) := by
  unfold writePwrCtrl
  extract_lets t st refused
  have hno : refused = false := by
    rcases h with h | ⟨⟨h4, h5⟩, ht | hp⟩
    · simp [refused, t, h]
    · simp [refused, t, st, h4, h5, ht]
    · simp [refused, st, h4, h5, hp]
  rw [if_neg (by simp [hno])]
  rfl

theorem writeTarget_same {t : Nat} (h : t = d.gf F.PWR_CTRL.TARGET) : d.writeTarget t = d := by
  unfold writeTarget
  exact if_pos h

theorem writeTarget_leave (ht : d.gf F.PWR_CTRL.TARGET ≠ 0) (hs : d.gf F.PWR_STAT.STATE = 2) : d.writeTarget 0 =
    (d.sf F.PWR_CTRL.TARGET 0).sf F.PWR_STAT.STATE 5 := by
  have hs' : (d.sf F.PWR_CTRL.TARGET 0).gf F.PWR_STAT.STATE = 2 := by
    rw [gf_sf_of_reg_ne _ _ _ _ _ _ _ _ _ _ (by decide), hs]
  unfold writeTarget
  extract_lets st
  rw [if_neg ht.symm, if_neg (by simp [st, hs]), if_pos rfl, leavePark, hs']
  rfl

theorem writeTarget_park {t : Nat} (hne : t ≠ d.gf F.PWR_CTRL.TARGET) (ht : t = 2 ∨ t = 3) (hp : d.mayPark = true) :
    d.writeTarget t = d.beginPark t := by
  have hs : d.gf F.PWR_STAT.STATE < 3 := by
    rw [mayPark_eq, Bool.and_eq_true] at hp
    exact of_decide_eq_true hp.2
  unfold writeTarget
  extract_lets st
  rw [if_neg hne, if_neg (by omega), if_neg (by omega), if_pos ht, if_pos hp]

theorem getBits_target {t : Nat} (h : t < 8) : getBits (setBits (d.settings ⟨.PWR_CTRL, 0, 0, 0⟩) 2 0 t) 2 0 = t :=
  (getBits_setBits_self _ _ _ _ (by decide) (by decide)).trans (Nat.mod_eq_of_lt h)

/-- A command that sets TARGET to 2 or 3 begins an entry. -/
theorem setting_park {t : Nat} (ht : t = 2 ∨ t = 3) (hacc : d.accepts ⟨.PWR_CTRL, 0, 0, 0⟩ = true)
    (h0 : d.gf F.PWR_CTRL.TARGET = 0) (hp : d.mayPark = true) :
    (d.setting ⟨.PWR_CTRL, 0, 0, 0⟩ F.PWR_CTRL.TARGET t).gf F.PWR_CTRL.TARGET = t
      ∧ (d.setting ⟨.PWR_CTRL, 0, 0, 0⟩ F.PWR_CTRL.TARGET t).gf F.PWR_STAT.STATE = 4 := by
  have hlt : t < 8 := by omega
  have hs : d.gf F.PWR_STAT.STATE < 3 := by
    rw [mayPark_eq, Bool.and_eq_true] at hp
    exact of_decide_eq_true hp.2
  have hwrite := writePwrCtrl_of_may (d := d) (v := setBits (d.settings ⟨.PWR_CTRL, 0, 0, 0⟩) 2 0 t)
    (.inr ⟨⟨by omega, by omega⟩, .inr hp⟩)
  rw [getBits_target hlt, writeTarget_park (by rw [gf_capStored_target]; omega) ht (by rw [mayPark_capStored, hp])] at hwrite
  rw [setting, (only_command hacc).gf (by simp) (by decide), (only_command hacc).gf (by simp) (by decide)]
  obtain ⟨htarget, hstate⟩ := beginPark_state (d := d.capStored (getBits (setBits (d.settings ⟨.PWR_CTRL, 0, 0, 0⟩) 2 0 t) 47 32)) hlt
  exact ⟨(congrArg (fun x : Dev => x.gf F.PWR_CTRL.TARGET) hwrite).trans htarget,
    (congrArg (fun x : Dev => x.gf F.PWR_STAT.STATE) hwrite).trans hstate⟩

end Dev

open Dev

theorem sets_cap (w : Fin 65536) : Completes (.capWWrite w) (fun d => d.accepts ⟨.PWR_CTRL, 0, 0, 0⟩ = true) fun _ e =>
    e.gf F.PWR_CTRL.CAP_W = max 2000 (min 4000 w.val) := by
  refine .of_upd (f := fun d => d.setting ⟨.PWR_CTRL, 0, 0, 0⟩ F.PWR_CTRL.CAP_W w) (fun _ => rfl) fun d hacc => ?_
  have ht : getBits (setBits (d.settings ⟨.PWR_CTRL, 0, 0, 0⟩) 47 32 w) 2 0 = d.gf F.PWR_CTRL.TARGET :=
    getBits_pressed (by decide) (f := ⟨2, 0, .rw, 0, .none⟩) (by decide) (by decide)
  have hw : getBits (setBits (d.settings ⟨.PWR_CTRL, 0, 0, 0⟩) 47 32 w) 47 32 = w :=
    (getBits_setBits_self _ _ _ _ (by decide) (by decide)).trans (Nat.mod_eq_of_lt w.isLt)
  have hwrite := writePwrCtrl_of_may (d := d) (v := setBits (d.settings ⟨.PWR_CTRL, 0, 0, 0⟩) 47 32 w) (.inl ht)
  rw [hw, writeTarget_same (by rw [gf_capStored_target, ht])] at hwrite
  rw [setting, (only_command hacc).gf (by simp) (by decide)]
  exact (congrArg (fun x : Dev => x.gf F.PWR_CTRL.CAP_W) hwrite).trans (gf_capStored_cap _)

theorem leaves_p2 : Completes .pwrTargetP0 (fun d => d.accepts ⟨.PWR_CTRL, 0, 0, 0⟩ = true ∧ d.gf F.PWR_CTRL.TARGET ≠ 0
      ∧ d.gf F.PWR_STAT.STATE = 2) fun _ e => e.gf F.PWR_CTRL.TARGET = 0 ∧ e.gf F.PWR_STAT.STATE = 5 := by
  refine .of_upd (f := fun d => d.setting ⟨.PWR_CTRL, 0, 0, 0⟩ F.PWR_CTRL.TARGET 0) (fun _ => rfl) fun d ⟨hacc, ht, hs⟩ => ?_
  have hzero := getBits_target (d := d) (t := 0) (by decide)
  have hwrite := writePwrCtrl_of_may (d := d) (v := setBits (d.settings ⟨.PWR_CTRL, 0, 0, 0⟩) 2 0 0)
    (.inr ⟨⟨by omega, by omega⟩, .inl ⟨by omega, by omega⟩⟩)
  rw [hzero, writeTarget_leave (by rw [gf_capStored_target]; exact ht) (by rw [gf_capStored_state, hs])] at hwrite
  rw [setting, (only_command hacc).gf (by simp) (by decide), (only_command hacc).gf (by simp) (by decide)]
  refine ⟨(congrArg (fun x : Dev => x.gf F.PWR_CTRL.TARGET) hwrite).trans ?_,
    (congrArg (fun x : Dev => x.gf F.PWR_STAT.STATE) hwrite).trans ?_⟩
  · rw [gf_sf_of_reg_ne _ _ _ _ _ _ _ _ _ _ (by decide), gf_sf_self _ _ _ _ _ _ (by decide) (by decide)]
    rfl
  · rw [gf_sf_self _ _ _ _ _ _ (by decide) (by decide)]
    rfl

theorem enters_p2 : Completes .pwrTargetP2 (fun d => d.accepts ⟨.PWR_CTRL, 0, 0, 0⟩ = true ∧ d.gf F.PWR_CTRL.TARGET = 0
      ∧ d.mayPark = true) fun _ e => e.gf F.PWR_CTRL.TARGET = 2 ∧ e.gf F.PWR_STAT.STATE = 4 :=
  .of_upd (f := fun d => d.setting ⟨.PWR_CTRL, 0, 0, 0⟩ F.PWR_CTRL.TARGET 2) (fun _ => rfl) fun _ ⟨hacc, h0, hp⟩ =>
    setting_park (.inl rfl) hacc h0 hp

theorem enters_p3 : Completes .pwrTargetP3 (fun d => d.accepts ⟨.PWR_CTRL, 0, 0, 0⟩ = true ∧ d.gf F.PWR_CTRL.TARGET = 0
      ∧ d.mayPark = true) fun _ e => e.gf F.PWR_CTRL.TARGET = 3 ∧ e.gf F.PWR_STAT.STATE = 4 :=
  .of_upd (f := fun d => d.setting ⟨.PWR_CTRL, 0, 0, 0⟩ F.PWR_CTRL.TARGET 3) (fun _ => rfl) fun _ ⟨hacc, h0, hp⟩ =>
    setting_park (.inr rfl) hacc h0 hp

end Sys2Proof.Machine
end

/-! PROOFS. O60: the effect of each command of the input, the power path, clocks, resets and firmware. What the clauses of O27 and O28
already say of a command is used here; the rest stands in the sections before. -/

section
namespace Sys2Proof.Machine

open Sys2Proof

/-- A clause with less claimed. -/
theorem Completes.claims {c : Instr} {pre : Dev → Prop} {post post' : Dev → Dev → Prop} (h : Completes c pre post)
    (hpost : ∀ d e, post d e → post' d e) : Completes c pre post' := h.mono (fun _ hp => hp) hpost

/-- Settles O60: each command by the clause of its own lemma; those of O27 and O28 claim more of it than O60 asks. -/
theorem inputPowerAndFirmwareComplete : Obligations.InputPowerAndFirmwareComplete :=
  ⟨completes_prsntNMate.claims fun _ _ ⟨hp, _⟩ => congrArg PowerSt.mated hp,
    closes_inputSwitch, serves_auxPath, opens_prsntNBreak,
    completes_auxPathOff.claims fun _ _ ⟨_, haux, _⟩ => haux,
    fun khz => (completes_startDelayExpiry khz).claims fun _ _ ⟨hp, hb, _⟩ => ⟨congrArg PowerSt.stageOne hp, congrArg BootSt.step hb⟩,
    completes_pgoodInFall.claims fun _ _ ⟨hp, _⟩ => congrArg PowerSt.path hp,
    completes_pgoodHoldExpiry.claims fun _ _ ⟨hp, _⟩ => congrArg PowerSt.hold hp,
    fun v i p => (completes_inputSample_off v i p).claims fun _ _ ⟨hv, _⟩ => hv,
    completes_inputLowTimeout.claims fun _ _ ⟨hp, _⟩ => congrArg PowerSt.path hp,
    completes_inputLowLift.claims fun _ _ ⟨hp, _⟩ => congrArg PowerSt.low hp,
    completes_bootCold.claims fun _ _ ⟨hp, _⟩ => hp,
    completes_bootWarm.claims fun _ _ ⟨hb, _⟩ => ⟨congrArg BootSt.step hb, congrArg BootSt.kind hb⟩,
    completes_clocksStopped.claims fun _ _ ⟨hp, _⟩ => hp,
    completes_railsOff.claims fun _ _ ⟨hp, _, _, hhbm, _⟩ => ⟨hp, hhbm⟩,
    completes_stageOneOff.claims fun _ _ ⟨hp, hone, _⟩ => ⟨hp, hone⟩,
    fun errs => (completes_quiesceDone errs).claims fun _ _ ⟨hs, _⟩ => hs,
    completes_railsUp.claims fun _ _ ⟨hrails, _, hs, _⟩ => ⟨hrails, hs⟩,
    fun us => (completes_bootRomDone us).claims fun _ _ ⟨hb, _⟩ => congrArg BootSt.step hb,
    notes_rail, counts_converter, resets_die, ends_dieReset, kicks_watchdog, sets_watchdogPeriod, barks_watchdog,
    tries_firmware, commits_firmware, begins_handover, verifies_handover, parks_handover, loads_handover, resumes_firmware,
    reverts_handover, writes_journal, compacts_journal, flushes_journal, loses_ephSram,
    lowers_cap, sets_cap, leaves_p2, enters_p2, enters_p3, gates_island, ungates_island, steps_ramp, settles_rail, trips_droop,
    clears_droop, hands_droop, recovers_droop, enables_island, sets_islandOp⟩

end Sys2Proof.Machine
end
